-- ==== Sys2Proof/Word.lean ====
section
/-! DEFINITION. The word and byte types of the engine and their plainest operations. -/

namespace Sys2Proof

/-- A trowel word, a field value, a mailbox word (R108, R112). -/
abbrev Word := BitVec 32

/-- One byte of an image, a record, a frame or a payload. -/
abbrev Byte := BitVec 8

/-- A number of one of the four trowels (Table TW.2): Light 0, Sense 1, Verdict 2, Link 3. -/
abbrev TrowelId := Fin 4

/-- A work register number w0 to w15 (R108). -/
abbrev RegId := BitVec 4

/-- A CSI-2 port A to D. -/
abbrev PortId := Fin 4

/-- A context k0 to k7. -/
abbrev CtxId := Fin 8

/-- A mortar port M0 to M3. -/
abbrev MorId := Fin 4

/-- A lamp function group 0 to 7. -/
abbrev GroupId := Fin 8

end Sys2Proof
end

