-- ==== Sys2Proof/Syntax.lean ====
section
/-! DEFINITION. The commands of the engine: one constructor per row of the operation table, with the operands
that the table leaves to the reader (its rows give no bit fields), and the small operand types. -/

namespace Sys2Proof

/-- The three variants (R7, Table SC.3). -/
inductive Variant where
  | evr8480 | evr8460 | evr8440
  deriving DecidableEq, Repr

/-- The two steppings (R10, R23). -/
inductive Stepping where
  | b0 | b1
  deriving DecidableEq, Repr

/-- The two converters ADC-A and ADC-B. -/
inductive Conv where
  | a | b
  deriving DecidableEq, Repr

/-- The units of Table TW.3, one per block row; `outside` stands for an address outside every block (R124). -/
inductive UnitId where
  | sys | trw | light | adcA | adcB | amb | csi | ctx | loc | dec | wl | vs | recf
  | usb | serQ | serC | mor | pair | time | bb | outside
  deriving DecidableEq, Repr

/-- The condition codes 0 to 14 of Table TW.10; code 15 is illegal and has no constructor. -/
inductive Cond where
  | al | eq | ne | ult | uge | ule | ugt | slt | sge | sle | sgt | neg | pos | ovf | nov
  deriving DecidableEq, Repr

/-- What the fuses give at the OTP load (R82, "OTP"): the die serial and the 32-byte digest of the fused key. -/
structure OtpContent where
  serial : BitVec 64
  keyDigest : List Byte
  deriving DecidableEq, Repr

/-- One measured calibration factor pair of a converter gain (R195): an offset and a gain. -/
structure CalFactor where
  ofs : Int
  gain : Nat
  deriving DecidableEq, Repr

/-- A fast read that the Basic Flash Parameter Table declares: its instruction and its dummy cycles (Table SR.6). -/
structure FastRead where
  instr : Byte
  dummy : Nat
  deriving DecidableEq, Repr

/-- What the SFDP header, the Basic Flash Parameter Table and the status register tell (R86, R87): `dual` is the 1-1-2
read, `none` where the table declares none, `quad` the 1-1-4 read. -/
structure SfdpReading where
  signature : Bool
  jesd216B : Bool
  qeBitReadsZero : Bool
  dual : Option FastRead
  quad : FastRead
  deriving DecidableEq, Repr

/-- What opens a state of a camera lane, as the lines stand at the balls: the stop state; LP-01, which opens high speed; LP-10,
which opens ULPS on the clock lane and an escape command on a data lane, where `ulps` says that the command is ULPS entry. -/
inductive LaneLines where
  | stop
  | lp01
  | lp10 (ulps : Bool)
  deriving DecidableEq, Repr

/-- A point, an x and a y coordinate. -/
abbrev Pt := Int × Int

/-- A long packet at a port: virtual channel, data type, payload, and what the checks of Table CI.6 found in it. -/
structure LongPacket where
  vc : Fin 16
  dt : BitVec 6
  payload : List Byte
  corrected : Bool
  crcBad : Bool
  short : Bool
  deriving DecidableEq, Repr

/-- A candidate as the locator forms it (R278): symbology code of Table LD.1, four corners and module size in 1/16 px,
polarity. -/
structure CandInfo where
  sym : BitVec 3
  corners : List Pt
  module : Nat
  light : Bool
  deriving DecidableEq, Repr

/-- One datum that a symbol's encodation modes give (R286): a data byte, FNC1, or an ECI designator. -/
inductive DataToken where
  | byte (b : Byte)
  | fnc1
  | eci (n : Nat)
  deriving DecidableEq, Repr

/-- One Reed–Solomon block of a symbol as the standard of its symbology lays it out: the modules of each codeword, most
significant first, by number in the grid, the codewords after correction, and how many of them are check codewords. -/
structure RsBlock where
  words : List (List Nat)
  value : List Nat
  check : Nat
  deriving DecidableEq, Repr

/-- A module grid that a core has established (R285, R302): dimensions, corners in 1/16 px with the origin corner first, and the
estimates of Table LD.5. A Code 128 symbol is a grid of one row. `blocks`, `bits` (the bits of a codeword), `tokens` and `rune`
are what the symbology's standard makes of the modules. -/
structure GridRead where
  cols : Nat
  rows : Nat
  corners : List Pt
  orient : Nat
  tilt : Nat
  module : Nat
  bits : Nat
  blocks : List RsBlock
  tokens : List DataToken
  rune : Bool
  deriving DecidableEq, Repr

/-- A Graga target as a core has fitted it (R296): the corners of the square about the key ring's outer edge, whose sides are
7 u, in 1/16 px, the first at (−3.5 u, −3.5 u) and the next at (3.5 u, −3.5 u), turned so that a sector begins on the +x axis;
and the estimates of Table LD.5. -/
structure GragaRead where
  corners : List Pt
  orient : Nat
  tilt : Nat
  module : Nat
  deriving DecidableEq, Repr

/-- How a core ends with a candidate: with nothing, a module grid, or a Graga target. -/
inductive DecodeOutcome where
  | failed
  | grid (g : GridRead)
  | graga (r : GragaRead)
  deriving DecidableEq, Repr

/-- What holds a word among the records of the tile store (R280): nothing, the evidence of the open frame of a context, or a
candidate. -/
inductive RecordHolder where
  | nobody
  | evidence (k : CtxId) (fidx : Word)
  | candidate (n : Nat)
  deriving DecidableEq, Repr

/-- What a read of a 64-bit word of the tile store finds (R282, R283): nothing, a single-bit error, or an uncorrectable error; for
a word of the records, with what holds it. -/
inductive StoreFinding where
  | clean
  | corrected
  | uncorrectable (holder : RecordHolder)
  deriving DecidableEq, Repr

/-- The setup of a USB vendor request (R359). -/
structure VendorSetup where
  dirIn : Bool
  request : Byte
  tag : BitVec 16
  session : Byte
  param : Byte
  len : BitVec 16
  deriving DecidableEq, Repr

/-- The standard requests that have no row of their own (R352). -/
inductive StdRequest where
  | getDescriptor (kind idx : Byte) (len : Nat)
  | setAddress (a : BitVec 7)
  | getConfiguration
  | getInterface
  | getStatusDevice
  | getStatusInterface
  | getStatusEndpoint (ep : Byte)
  | haltEndpoint (ep : Byte)
  /-- CLEAR_FEATURE of U1_ENABLE, U2_ENABLE or function suspend. -/
  | clearLinkPower
  /-- SET_FEATURE(TEST_MODE) with its selector. -/
  | testMode (sel : Byte)
  | setSel (latencies : BitVec 48)
  | setIsochDelay (delay : BitVec 16)
  /-- Every request that the function does not support: SET_DESCRIPTOR, SYNCH_FRAME, remote wakeup, latency messages. -/
  | unsupported
  deriving DecidableEq, Repr

/-- The payload of a serial REQUEST frame, bRequest apart (Table SL.5). -/
structure SerReq where
  session : Byte
  tag : BitVec 16
  param : Byte
  requester : BitVec 7
  maxLen : Byte
  deriving DecidableEq, Repr

/-- What comes in on URX (R373, R377): a character, as the levels of its ticks, sixteen a bit, from the falling edge of its start
bit on; or the characters of a whole frame. -/
inductive SerHeard where
  | character (ticks : List Bool)
  | frame (chars : List Byte)
  deriving DecidableEq, Repr

/-- The content of HELLO (Table BP.2), with the strap levels that R427 compares. -/
structure HelloMsg where
  serial : BitVec 64
  straps : List (BitVec 4)
  part : Byte
  stepping : Byte
  present : BitVec 16
  enabled : BitVec 16
  recipeId : Word
  recipeRev : BitVec 16
  crc : Word
  active : Bool
  deriving DecidableEq, Repr

/-- The links of R341. -/
inductive LinkId where
  | usb | ser | gw
  deriving DecidableEq, Repr

/-- The content of LIGHT_MARK: the light state of R186, with the time of the course boundary. -/
structure LightMark where
  at_ : Nat
  entry : Nat
  line : Nat
  len : Nat
  blank : Nat
  disch : Nat
  dark : Bool
  slot : Bool
  /-- The scan waits for its next instant, with no course in progress (R154). -/
  wait : Bool
  armed : List (BitVec 8)
  levels : List Nat
  derate : Nat
  tf : Rat
  flag : Bool
  failed : List Word
  killed : Word
  pinFail : Word
  pinFailLn : Word
  darkCount : Nat
  deriving DecidableEq, Repr

/-- One accumulator with its tracker and flags in a SENSE_MARK. -/
structure AccumMark where
  sum : Int
  count : Nat
  min : Int
  max : Int
  sat : Bool
  out : Bool
  deriving DecidableEq, Repr

/-- The content of SENSE_MARK (Table BP.2): accumulators of ADC-A, then of ADC-B, and the estimator. -/
structure SenseMark where
  accA : List AccumMark
  accB : List AccumMark
  est : List (Option Int)
  age : Nat
  stale : Bool
  freshCount : Nat
  deriving DecidableEq, Repr

/-- A record of a mirrored queue and whether it has been sent. -/
structure QRec where
  bytes : List Byte
  sent : Bool
  deriving DecidableEq, Repr

/-- What a resync transfers (R431): entries of the verdict store with their frame index, the record queues and the send
state, the reservation and the last record numbered, the marks. -/
structure Resync where
  store : List (Nat × BitVec 16 × Word)
  usb : List QRec
  ser : List QRec
  gw : List QRec
  resEnd : Word
  last : Word
  light : LightMark
  sense : SenseMark
  deriving DecidableEq, Repr

/-- The messages of the pair link (Table BP.2). -/
inductive PairMsg where
  | hello (h : HelloMsg)
  | reserve (last : Word)
  | reserveAck (last : Word)
  | decision (addr : BitVec 14) (word : BitVec 16) (rec2 : List Byte)
  | record (rec2 : List Byte)
  | ackMark (l : LinkId) (n : Word) (drop : Option Word)
  | light (m : LightMark)
  | sense (m : SenseMark)
  | time (ns : Nat)
  | fault (trowel : TrowelId) (cause : Nat)
  | stepDown (cause : Nat)
  | takeover (cause : Byte) (gap : Word)
  | trowelMsg (w : Word)
  | resyncStart
  | resyncEnd (c : Resync)
  deriving DecidableEq, Repr

/-- A message of the fabric (Table MF.2); flags [7:2] and bytes 10 and 11 are 0. -/
structure MorMsg where
  kind : Byte
  restart : Bool
  more : Bool
  src : BitVec 6
  dst : BitVec 6
  cls : Byte
  hop : Byte
  seq : BitVec 16
  payload : List Byte
  crc : Word
  deriving DecidableEq, Repr

/-- The content of ANNOUNCE (Table MF.1), with the bindings of R450. -/
structure Announce where
  serial : BitVec 64
  id : Option (BitVec 6)
  fixed : Bool
  gm : Bool
  num : Nat
  hops : Nat
  peers : List (Option (BitVec 64))
  bindings : List (BitVec 64 × BitVec 6)
  deriving DecidableEq, Repr

/-- What a sequenced link frame carries (R444). -/
inductive LinkItem where
  | msg (m : MorMsg)
  | announce (a : Announce)
  deriving DecidableEq, Repr


/-- The reference candidates of Table TR.2, the crystal last. -/
inductive Ref where
  | fabric | syncIn | partner | crystal
  deriving DecidableEq, Repr


/-- The commands the block takes: one constructor per row of `spec/opcode_table.json`. -/
inductive Instr where
  /-- PWR_OK_RISE (R59). PWR_OK rising, with RESET_N high, starts a power-on boot. -/
  | pwrOkRise
  /-- PWR_OK_LOW (R60). A PWR_OK low that lasts the filter threshold puts every ball in its Reset state and stops black-box writes. -/
  | pwrOkLow
  /-- RESET_N_LOW (R84). A RESET_N low that lasts the filter threshold starts a warm reset and puts every ball in its Reset state. -/
  | resetNLow
  /-- RESET_N_RISE (R59). RESET_N rising, with PWR_OK high, lets the pending boot begin at step 1 or step 2. -/
  | resetNRise
  /-- STRAP_SAMPLE (R73). The strap sampler finishes its readings, then decodes and stores the level of each strap and flags unstable or reserved straps. -/
  | strapSample (readings : List (List Nat))
  /-- OTP_LOAD (R82). The OTP load ends; an uncorrectable error halts the engine. -/
  | otpLoad (content : Option OtpContent)
  /-- SELF_CALIBRATION_DONE (R195). A converter self-calibration ends, stores its factors and die temperature, and raises CAL_DONE or the failure flag. -/
  | selfCalibrationDone (c : Conv) (dieTemp : Rat) (factors : List CalFactor) (failed : Option Nat)
  /-- SFDP_READ (R86). The SFDP header read completes, and the image fails with code 1 if the header carries no signature. -/
  | sfdpRead (sfdp : SfdpReading)
  /-- RECIPE_LOAD_DONE (R96). The image read completes, and the engine checks the header, directory, CRC and content. -/
  | recipeLoadDone (flash : List (List Byte))
  /-- SIGNATURE_CHECK_DONE (R94). The seal check ends after the key, seal-block, digest and signature steps. -/
  | signatureCheckDone
  /-- TROWEL_START (R98). Initial field values are written, the enabled word is computed, the scene pins are read and the four trowels start. -/
  | trowelStart (scn : BitVec 3)
  /-- BOOT_NEIGHBOUR_TEST_DONE (R179). The boot neighbour-pin test of every LC, LS and enabled LN pin ends. -/
  | bootNeighbourTestDone
  /-- FABRIC_DISCOVERY_DONE (R447). Boot step 9 ends when the database is stable or 50 ms have passed, and the node ID is assigned. -/
  | fabricDiscoveryDone
  /-- PAIR_HANDSHAKE_END (R427). Boot step 10 ends after the HELLO comparison or its 5 ms limit. -/
  | pairHandshakeEnd
  /-- READY_RISE (R80). READY rises at boot step 11, and sleep requests held before READY are taken. -/
  | readyRise
  /-- XREF_LOSS (R70). No XREF edge arrives for two slow periods while the slow clock is qualified, which is a fatal fault. -/
  | xrefLoss
  /-- VDD_AON_LOSS (R64). VDD_AON falls below 1.55 V, so the black-box contents are marked invalid and the slow clock becomes unqualified. -/
  | vddAonLoss
  /-- SLOW_CLOCK_WINDOW_END (R68). A 1024-period slow-clock measurement window ends and qualifies or disqualifies the slow clock. -/
  | slowClockWindowEnd (xrefCycles : Nat)
  /-- SLOW_CLOCK_EDGE_TIMEOUT (R68). No slow-clock edge arrives for 100 µs, so the slow clock is unqualified. -/
  | slowClockEdgeTimeout
  /-- SCN_LATCH_RISE (R101). A captured scene number that differs from the active scene is requested, SCENE_DONE is cleared and SCENE is raised. -/
  | scnLatchRise (scn : BitVec 3)
  /-- SCENE_CHANGE_TIMEOUT (R102). A scene change still incomplete 10 ms after its event writes an event. -/
  | sceneChangeTimeout
  /-- SCENE_DONE_WRITE (R112). A trowel write to SYS.SCENE_DONE sets that trowel's own bit. -/
  | sceneDoneWrite (t : TrowelId) (v : Word)
  /-- SLEEP_REQ_RISE (R103). A rising edge on SLEEP_REQ requests sleep, which waits for READY and for a qualified slow clock. -/
  | sleepReqRise
  /-- SLEEP_GO_WRITE (R103). A trowel write of 1 to SYS.SLEEP_GO requests sleep. -/
  | sleepGoWrite (t : TrowelId) (v : Word)
  /-- SLEEP_ACK_WRITE (R112). A trowel write to SYS.SLEEP_ACK sets its own bit, and the last bit lets sleep entry continue. -/
  | sleepAckWrite (t : TrowelId) (v : Word)
  /-- SLEEP_GRACE_EXPIRY (R103). The 1 ms grace time ends without all acknowledgements, so an event is written and sleep entry continues. -/
  | sleepGraceExpiry
  /-- SLEEP_DECODE_DRAINED (R103). Decode of frames closed before sleep ends, then ports and links idle, XIN stops and the clocks are gated. -/
  | sleepDecodeDrained
  /-- WAKE_RISE (R105). A WAKE rising edge during sleep starts a wake, and one that arrives during sleep entry is held. -/
  | wakeRise
  /-- SLEEP_ADDRESS_MATCH (R395). The sleep receiver matches SYS.SLEEP_ADDR and starts a wake. -/
  | sleepAddressMatch (addr : Byte)
  /-- WAKE_XREF_STABLE (R106). At wake, XREF is stable, clocks lock, the die temperature decides recalibration, and units and the USB attach power up. -/
  | wakeXrefStable (dieTemp : Rat)
  /-- WAKE_RESUME (R104). The trowels resume with the WAKE event and READY rises. -/
  | wakeResume
  /-- THERMAL_SAMPLE (R544). The die monitor takes its 1 ms sample and filters and quantises T_d. -/
  | thermalSample (reading : Rat)
  /-- FREEZE_N_FALL (R499). A falling edge on FREEZE_N freezes the black box. -/
  | freezeNFall
  /-- BB_EVENT_WRITE (R496). The ring takes the next event from its 32-entry write queue. -/
  | bbEventWrite
  /-- LT_EN_FALL (R173). LT_EN low blanks every lamp through the asynchronous path and raises LT_BLANKED. -/
  | ltEnFall
  /-- LT_EN_RISE (R174). After LT_EN rises, lamps relight from the first course boundary that follows. -/
  | ltEnRise
  /-- ADD (R134). rd = ra + rb, with flags ZNCV. -/
  | add (t : TrowelId) (rd : RegId) (ra : RegId) (rb : RegId)
  /-- SUB (R134). rd = ra - rb, with flags ZNCV. -/
  | sub (t : TrowelId) (rd : RegId) (ra : RegId) (rb : RegId)
  /-- AND (R134). rd = ra & rb. -/
  | and (t : TrowelId) (rd : RegId) (ra : RegId) (rb : RegId)
  /-- OR (R134). rd = ra | rb. -/
  | or (t : TrowelId) (rd : RegId) (ra : RegId) (rb : RegId)
  /-- XOR (R134). rd = ra ^ rb. -/
  | xor (t : TrowelId) (rd : RegId) (ra : RegId) (rb : RegId)
  /-- SHL (R134). Shifts left by rb[4:0]. -/
  | shl (t : TrowelId) (rd : RegId) (ra : RegId) (rb : RegId)
  /-- SHR (R134). Logical right shift by rb[4:0]. -/
  | shr (t : TrowelId) (rd : RegId) (ra : RegId) (rb : RegId)
  /-- SAR (R134). Arithmetic right shift by rb[4:0]. -/
  | sar (t : TrowelId) (rd : RegId) (ra : RegId) (rb : RegId)
  /-- MUL (R134). Low 32 bits of the product. -/
  | mul (t : TrowelId) (rd : RegId) (ra : RegId) (rb : RegId)
  /-- MULHU (R134). High 32 bits of the unsigned product. -/
  | mulhu (t : TrowelId) (rd : RegId) (ra : RegId) (rb : RegId)
  /-- MULHS (R134). High 32 bits of the signed product. -/
  | mulhs (t : TrowelId) (rd : RegId) (ra : RegId) (rb : RegId)
  /-- MINU (R134). Unsigned minimum. -/
  | minu (t : TrowelId) (rd : RegId) (ra : RegId) (rb : RegId)
  /-- MAXU (R134). Unsigned maximum. -/
  | maxu (t : TrowelId) (rd : RegId) (ra : RegId) (rb : RegId)
  /-- CMP (R134). Sets the flags of ra - rb. -/
  | cmp (t : TrowelId) (ra : RegId) (rb : RegId)
  /-- TST (R134). Sets the flags of ra & rb. -/
  | tst (t : TrowelId) (ra : RegId) (rb : RegId)
  /-- MOV (R134). rd = ra. -/
  | mov (t : TrowelId) (rd : RegId) (ra : RegId)
  /-- CLZ (R134). Counts leading zeros. -/
  | clz (t : TrowelId) (rd : RegId) (ra : RegId)
  /-- ADDI (R134). Adds a signed 18-bit immediate. -/
  | addi (t : TrowelId) (rd : RegId) (ra : RegId) (imm : BitVec 18)
  /-- ANDI (R134). ANDs an unsigned immediate. -/
  | andi (t : TrowelId) (rd : RegId) (ra : RegId) (imm : BitVec 18)
  /-- ORI (R134). ORs an unsigned immediate. -/
  | ori (t : TrowelId) (rd : RegId) (ra : RegId) (imm : BitVec 18)
  /-- XORI (R134). XORs an unsigned immediate. -/
  | xori (t : TrowelId) (rd : RegId) (ra : RegId) (imm : BitVec 18)
  /-- SHLI (R134). Shifts left by an immediate amount. -/
  | shli (t : TrowelId) (rd : RegId) (ra : RegId) (n : BitVec 5)
  /-- SHRI (R134). Logical right shift by an immediate amount. -/
  | shri (t : TrowelId) (rd : RegId) (ra : RegId) (n : BitVec 5)
  /-- SARI (R134). Arithmetic right shift by an immediate amount. -/
  | sari (t : TrowelId) (rd : RegId) (ra : RegId) (n : BitVec 5)
  /-- CMPI (R134). Sets the flags of ra - simm18. -/
  | cmpi (t : TrowelId) (ra : RegId) (imm : BitVec 18)
  /-- TSTI (R134). Sets the flags of ra & uimm18. -/
  | tsti (t : TrowelId) (ra : RegId) (imm : BitVec 18)
  /-- EXT (R134). Extracts a bit field, zero-extended. -/
  | ext (t : TrowelId) (rd : RegId) (ra : RegId) (p : BitVec 5) (wm1 : BitVec 5)
  /-- INS (R134). Inserts a bit field. -/
  | ins (t : TrowelId) (rd : RegId) (ra : RegId) (p : BitVec 5) (wm1 : BitVec 5)
  /-- SATU (R134). Saturates unsigned to 2^n - 1 and sets V if clamped. -/
  | satu (t : TrowelId) (rd : RegId) (ra : RegId) (n : BitVec 5)
  /-- MOVI (R134). Loads a signed 22-bit immediate. -/
  | movi (t : TrowelId) (rd : RegId) (imm : BitVec 22)
  /-- MOVH (R134). Loads the upper 16 bits of rd. -/
  | movh (t : TrowelId) (rd : RegId) (imm : BitVec 16)
  /-- LD (R136). Loads a data-memory word at address bits [10:0] of ra + simm18. -/
  | ld (t : TrowelId) (rd : RegId) (ra : RegId) (imm : BitVec 18)
  /-- ST (R136). Stores a word to data memory. -/
  | st (t : TrowelId) (rs : RegId) (ra : RegId) (imm : BitVec 18)
  /-- B_COND (R134). Branches if the condition holds. -/
  | bCond (t : TrowelId) (cond : Cond) (target : BitVec 12)
  /-- CALL_COND (R136). Pushes the return address and branches if the condition holds, and faults on a full stack. -/
  | callCond (t : TrowelId) (cond : Cond) (target : BitVec 12)
  /-- RET (R136). Pops the return address, and faults on an empty stack. -/
  | ret (t : TrowelId)
  /-- JR (R134). Continues at ra[11:0]. -/
  | jr (t : TrowelId) (ra : RegId)
  /-- FLD (R116). Reads a field through the unit's request and reply queues after earlier writes to that unit are accepted. -/
  | fld (t : TrowelId) (rd : RegId) (field : BitVec 16)
  /-- FLDX (R116). Reads a field at an indexed address. -/
  | fldx (t : TrowelId) (rd : RegId) (ra : RegId) (field : BitVec 16)
  /-- FIELD_READ_REPLY (R117). A field read reply returns the value in effect and the read completes. -/
  | fieldReadReply (t : TrowelId)
  /-- FST (R118). Posts a field write to the write queue or group buffer, and stalls while the queue is full. -/
  | fst (t : TrowelId) (rs : RegId) (field : BitVec 16)
  /-- FSTX (R118). Posts a field write to an indexed address. -/
  | fstx (t : TrowelId) (rs : RegId) (ra : RegId) (field : BitVec 16)
  /-- FSYNC (R119). Waits until every earlier posted write has been accepted. -/
  | fsync (t : TrowelId)
  /-- GRPB (R123). Opens a write group, and faults if a group is already open. -/
  | grpb (t : TrowelId)
  /-- GRPE (R123). Closes the group and sends it as one write-queue entry. -/
  | grpe (t : TrowelId)
  /-- FIELD_WRITE (R115). A posted write to a field with no row of its own reaches its unit and takes effect at once or at its apply boundary. -/
  | fieldWrite (t : TrowelId) (field : BitVec 16) (v : Word)
  /-- FIELD_WRITE_ACCEPTED (R118). The acceptance or refusal reply of a posted write reaches the trowel and frees its queue entry. -/
  | fieldWriteAccepted (t : TrowelId) (unit : UnitId)
  /-- WAIT (R135). Takes the lowest present enabled event, or waits for one. -/
  | wait (t : TrowelId) (rd : RegId) (ra : RegId) (rb : RegId)
  /-- WAIT_EVENT_PRESENT (R135). An enabled event becomes present during WAIT, which returns its number. -/
  | waitEventPresent (t : TrowelId)
  /-- EVT (R134). Tests one event into Z. -/
  | evt (t : TrowelId) (n : BitVec 6)
  /-- ECLR (R127). Clears the pending bit of a pulse event. -/
  | eclr (t : TrowelId) (n : BitVec 6)
  /-- TSET (R139). Starts or stops the one-shot interval timer. -/
  | tset (t : TrowelId) (ra : RegId)
  /-- KICK (R140). Restarts the watchdog count. -/
  | kick (t : TrowelId)
  /-- MFS (R138). Reads a special register; a low-word read latches the high word for this reader. -/
  | mfs (t : TrowelId) (rd : RegId) (sreg : BitVec 4)
  /-- MTS (R138). Writes a special register: flags, clearing the refusal flag, clearing overrun bits or clearing REF_COUNT. -/
  | mts (t : TrowelId) (ra : RegId) (sreg : BitVec 4)
  /-- SEND (R137). Posts a word to a trowel mailbox, and drops it if the mailbox is full. -/
  | send (t : TrowelId) (dest : TrowelId) (ra : RegId)
  /-- RECV (R134). Pops the oldest mailbox word. -/
  | recv (t : TrowelId) (rd : RegId)
  /-- LOG (R137). Writes a black-box event with the code and the register value, unless the box is frozen. -/
  | log (t : TrowelId) (ra : RegId) (code : BitVec 16)
  /-- FAULT (R141). Declares a trowel fault with a code. -/
  | fault (t : TrowelId) (code : BitVec 16)
  /-- NOP (R134). Does nothing. -/
  | nop (t : TrowelId)
  /-- ILLEGAL_INSTRUCTION (R131). An illegal opcode, a non-zero reserved bit or condition code 15 is a trowel fault. -/
  | illegalInstruction (t : TrowelId) (code : Word)
  /-- TIMER (R139). The interval timer reaches 0, raises TIMER and stops. -/
  | timer (t : TrowelId)
  /-- WD_HALF (R140). The watchdog count reaches half its limit since the last KICK. -/
  | wdHalf (t : TrowelId)
  /-- WATCHDOG_EXPIRY (R140). The watchdog reaches its limit without a KICK, which is a trowel fault. -/
  | watchdogExpiry (t : TrowelId)
  /-- LIGHT_ENABLE_WRITE (R150). A write to LIGHT.ENABLE starts the scan at entry 0 or ends the course in progress at once. -/
  | lightEnableWrite (t : TrowelId) (v : Word)
  /-- GRP_FIRE_WRITE (R557). A write to LIGHT.GRP_FIRE arms the groups named for their next course, when it applies. -/
  | grpFireWrite (t : TrowelId) (v : Word)
  /-- CRV_GO_WRITE (R171). A write to LIGHT.CRV_GO starts brightness transitions when it applies. -/
  | crvGoWrite (t : TrowelId) (v : Word)
  /-- BOARD_TEMP_WRITE (R167). A write to LIGHT.BOARD_TEMP restarts the loss timeout and, if it is the first write, seeds T_f. -/
  | boardTempWrite (t : TrowelId) (v : Word)
  /-- COURSE (R152). A course boundary applies pending C-class sets, turns on the entry's line gate, steps curves and computes column codes. -/
  | course
  /-- SCAN_INSTANT (R154). A period-lock instant starts entry 0, or records an overrun. -/
  | scanInstant
  /-- PULSE_START (R157). A group's pulse starts on its columns at GRP_OFS. -/
  | pulseStart (g : GroupId)
  /-- PULSE_END (R157). A group's pulse ends after GRP_W or at blanking. -/
  | pulseEnd (g : GroupId)
  /-- BLANKING_START (R152). The gate goes off and the columns go to DISCH_CODE. -/
  | blankingStart
  /-- DISCHARGE_END (R152). The columns go to code 0 after DISCH_NS. -/
  | dischargeEnd
  /-- STROBE_LOCKED_ISSUE (R159). A strobe-locked conversion start is issued to ADC-A at its offset after a pulse start. -/
  | strobeLockedIssue (m : Fin 4)
  /-- DARK_START_ISSUE (R164). A dark start is issued at DARK_OFS_NS after a qualifying dark interval begins. -/
  | darkStartIssue
  /-- FAULT_SAMPLE (R175). The comparators are sampled SENSE_DLY_NS into an evaluated pulse, and the open and short counts are updated.
`readings` gives the level of LS0 to LS15 in microvolts. -/
  | faultSample (g : GroupId) (readings : List Nat)
  /-- ZERO_CURRENT_CHECK (R176). A column at code 0 is read against the zero threshold in the active window.
`level` is that of LS in microvolts, `pos` the time from the boundary in ns. -/
  | zeroCurrentCheck (col : Fin 16) (level : Nat) (pos : Nat)
  /-- NEIGH_SWEEP_START (R180). At a test-period mark a neighbour sweep starts, and an unfinished sweep sets the starved bit. -/
  | neighSweepStart
  /-- NEIGH_TEST_STEP (R178). A test source drives one matrix pin in a slot, and neighbours above 0.30 V are recorded as bridged.
`levels` gives pins with their levels in microvolts. -/
  | neighTestStep (pin : Fin 40) (levels : List (Fin 40 × Nat))
  /-- DERATE_UPDATE (R168). Each millisecond T_f is filtered, D is recomputed and the derate flag is updated. -/
  | derateUpdate
  /-- TEMP_LOST (R170). LIGHT.BOARD_TEMP is unwritten for TEMP_TMO_MS, so D goes to TEMP_LOST_DER and the flag becomes active. -/
  | tempLost
  /-- ADC_ENABLE_WRITE (R219). A write to ADCx.ENABLE starts the converter, or abandons its conversion and requests. -/
  | adcEnableWrite (t : TrowelId) (c : Conv) (v : Word)
  /-- REF_EN_WRITE (R192). A write to ADCx.REF_EN turns the reference on and starts the settle timer, or turns it off. -/
  | refEnWrite (t : TrowelId) (c : Conv) (v : Word)
  /-- REF_READY (R192). The reference settle time passes and REF_READY_x rises. -/
  | refReady (c : Conv)
  /-- SEQ_GO (R202). A write of 1 to ADCx.SEQ_GO requests a sequence. -/
  | seqGo (t : TrowelId) (c : Conv) (v : Word)
  /-- CAL_GO (R196). A write of 1 to ADCx.CAL_GO starts a calibration after the running conversion, abandoning pending work. -/
  | calGo (t : TrowelId) (c : Conv) (v : Word)
  /-- ACC_SNAP (R211). A write to ADCx.ACC_SNAP copies an accumulator to the SNAP fields, optionally clearing it. -/
  | accSnap (t : TrowelId) (c : Conv) (v : Word)
  /-- ACC_CLEAR (R211). A write to ADCx.ACC_CLEAR clears accumulators and trackers without a snapshot. -/
  | accClear (t : TrowelId) (c : Conv) (v : Word)
  /-- START_EDGE (R202). A synchronised START_x rising edge requests a sequence, or is dropped and counted. -/
  | startEdge (c : Conv)
  /-- URG_EDGE (R204). A synchronised URG_x rising edge requests the urgent entry and may preempt a preempt-resume entry. -/
  | urgEdge (c : Conv)
  /-- STROBE_START (R201). A strobe-locked request becomes visible in ADCA, and the estimator's age counts it. -/
  | strobeStart (m : Fin 4)
  /-- DARK_REQUEST (R201). A dark request becomes visible in ADCA. -/
  | darkRequest
  /-- CONVERSION_END (R203). A conversion ends, its corrected value is accumulated, and the next request or entry is chosen. -/
  | conversionEnd (c : Conv) (raw : Nat)
  /-- CSI_ENABLE_WRITE (R230). A write to CSI.ENABLE powers up the receivers, or powers them down and truncates open frames. -/
  | csiEnableWrite (t : TrowelId) (p : PortId) (v : Word)
  /-- VC_EN_WRITE (R231). A change of CSI.VC_EN applies at the next header and truncates frames on disabled channels. -/
  | vcEnWrite (t : TrowelId) (p : PortId) (v : Word)
  /-- CSI_RECEIVER_READY (R229). 20 µs after power-up the receivers become usable. -/
  | csiReceiverReady (p : PortId)
  /-- FRAME_START_PACKET (R234). A Frame Start opens a frame in each enabled context bound to the port and channel. -/
  | frameStartPacket (p : PortId) (vc : Fin 16) (num : BitVec 16) (corrected : Bool)
  /-- FRAME_END_PACKET (R234). A Frame End closes every frame open on the port and channel. -/
  | frameEndPacket (p : PortId) (vc : Fin 16) (corrected : Bool)
  /-- PIXEL_PACKET (R233). A pixel long packet is checked and stored in the elastic buffer, or discarded. -/
  | pixelPacket (p : PortId) (x : LongPacket)
  /-- EMBEDDED_PACKET (R237). An embedded-data packet is captured up to 256 bytes per frame. -/
  | embeddedPacket (p : PortId) (x : LongPacket)
  /-- HEADER_UNCORRECTABLE (R243). An uncorrectable header or a sync error discards the burst and damages every open frame of the port. -/
  | headerUncorrectable (p : PortId) (sync : Bool)
  /-- DESKEW_BURST (R226). A deskew burst recalibrates the lane's sampling point. -/
  | deskewBurst (p : PortId)
  /-- FRAME_DESCRIPTOR_IN_CORE (R236). A Frame Start descriptor reaches CORE, and the frame index, the timestamp and the PENDING verdict entry are set.
`mbps` is the lane rate of the camera in Mb/s. -/
  | frameDescriptorInCore (p : PortId) (mbps : Nat := 2500)
  /-- FRAME_END_TIMEOUT (R244). A frame passes its CTX.FE_TMO_US, so a truncation close is placed in the port stream. -/
  | frameEndTimeout (k : CtxId)
  /-- PIPELINE_SLICE (R264). The pipeline takes one slice from a port buffer and processes its pixels into tiles. -/
  | pipelineSlice (p : PortId)
  /-- CTX_ENABLE_WRITE (R268). A write to CTX.ENABLE starts the context at the next Frame Start, or truncates its open frame. -/
  | ctxEnableWrite (t : TrowelId) (k : CtxId) (v : Word)
  /-- LOC_ENABLE_WRITE (R309). Clearing LOC.ENABLE stops further candidates. -/
  | locEnableWrite (t : TrowelId) (v : Word)
  /-- DEC_ENABLE_WRITE (R309). Clearing DEC.ENABLE fails every queued and running candidate and decides the frames. -/
  | decEnableWrite (t : TrowelId) (v : Word)
  /-- CANDIDATE_ARRIVAL (R284). A ready candidate reaches DECODE and a free core takes the earliest one. -/
  | candidateArrival (k : CtxId) (fidx : Word) (x : CandInfo)
  /-- DECODE_RESOLVED (R285). A core resolves its candidate, giving a result or a failure. `reads` lists the store words, by number,
in whose sampling an error was found. -/
  | decodeResolved (core : Fin 16) (out : DecodeOutcome) (reads : List (Nat × StoreFinding) := [])
  /-- CORE_TIME_EXPIRY (R284). A candidate's maximum core time runs out and it fails. -/
  | coreTimeExpiry (core : Fin 16)
  /-- RESULT_ARRIVAL (R299). A result reaches CORE, is looked up on the watch list and enters the result queue. -/
  | resultArrival (core : Fin 16)
  /-- CLOSING_PASS_END (R307). The locator's closing pass over the last tile row of a frame ends. -/
  | closingPassEnd (k : CtxId) (fidx : Word)
  /-- FRAME_DECIDE_NOTICE (R308). A frame meets the decided conditions, its notice is issued in frame order and its slots are freed. -/
  | frameDecideNotice (k : CtxId)
  /-- NOTICE_ARRIVAL (R317). A decide notice reaches the CORE decide queue and receives its tag. -/
  | noticeArrival
  /-- TILE_SCRUB (R282). The scrubber reads store words and corrects single-bit errors. -/
  | tileScrub (f : StoreFinding)
  /-- JOINT_ARRIVAL (R303). A joint-exchange unit reaches the collector and is matched to a frame, or waits. -/
  | jointArrival
  /-- JOINT_WAIT_EXPIRY (R303). An unmatched message is discarded after DEC.JX_WAIT_US. -/
  | jointWaitExpiry
  /-- CANDIDATE_JX_WAIT_EXPIRY (R305). A collector's waiting candidate is decoded alone after DEC.JX_WAIT_US. -/
  | candidateJxWaitExpiry (cand : Nat)
  /-- VS_DECIDE (R318). A write to VS.DECIDE with the head's tag decides it, writes the verdict word and forms the record. -/
  | vsDecide (t : TrowelId) (v : Word)
  /-- AUTO_DECISION (R320). A notice at the head for VS.AUTO_US is decided with VS.AUTO_CLASS. -/
  | autoDecision
  /-- VS_PEEK_ADDR_WRITE (R338). A write to VS.PEEK_ADDR selects the store word shown in VS.PEEK_DATA. -/
  | vsPeekAddrWrite (t : TrowelId) (v : Word)
  /-- MIRROR_WRITE (R33). A queued or dirty verdict update is written into the VQ mirror. -/
  | mirrorWrite
  /-- VQ_QUERY (R327). A query with VQ_SEL_N low drives the addressed verdict word on VQ_D. -/
  | vqQuery (addr : Option (BitVec 14))
  /-- HK_SEND (R339). A write to REC.HK_SEND forms a housekeeping record. -/
  | hkSend (t : TrowelId) (v : Word)
  /-- RES_TAKE_INCLUDE (R342). REC.RES_TAKE action 0 takes the head result into its frame's record. -/
  | resTakeInclude (t : TrowelId) (v : Word)
  /-- RES_TAKE_NO_PAYLOAD (R342). REC.RES_TAKE action 1 takes the head result without its payload. -/
  | resTakeNoPayload (t : TrowelId) (v : Word)
  /-- RES_TAKE_OMIT (R342). REC.RES_TAKE action 2 omits the head result. -/
  | resTakeOmit (t : TrowelId) (v : Word)
  /-- VBUS_PRESENT (R349). VBUS present for a 1 ms debounce attaches the USB function. -/
  | vbusPresent
  /-- VBUS_ABSENT (R350). VBUS absent for 1 ms detaches the USB function. -/
  | vbusAbsent
  /-- USB_ENABLE_WRITE (R350). A write to USB.ENABLE attaches or detaches the function. -/
  | usbEnableWrite (t : TrowelId) (v : Word)
  /-- USB_BUS_RESET (R365). A bus reset abandons transfers and returns to Default while keeping sequences and the cache. -/
  | usbBusReset (highSpeed : Bool)
  /-- SET_CONFIGURATION (R355). SET_CONFIGURATION 1 configures the device and restarts the send pointer. -/
  | setConfiguration (v : Byte)
  /-- CLEAR_FEATURE_HALT (R355). CLEAR_FEATURE(ENDPOINT_HALT) on the result endpoint restarts the send pointer. -/
  | clearFeatureHalt (ep : Byte)
  /-- SET_INTERFACE (R355). SET_INTERFACE addressing the result endpoint restarts the send pointer. -/
  | setInterface (alt : Byte)
  /-- STANDARD_REQUEST (R352). Any other standard request is answered as the USB specifications require. -/
  | standardRequest (r : StdRequest)
  /-- SET_FEATURE_LINK_POWER (R351). SET_FEATURE for U1, U2 or function suspend completes without effect. -/
  | setFeatureLinkPower
  /-- U1_U2_ENTRY_REQUEST (R351). A link request to enter U1 or U2 is rejected. -/
  | u1U2EntryRequest
  /-- USB_SUSPEND (R351). USB suspend or resume stops nothing, and delivery resumes from the send pointer. -/
  | usbSuspend (suspend : Bool)
  /-- USB_RECORD_TRANSFER_DONE (R354). A record's bulk transfer completes, the record counts as sent and the next is started. -/
  | usbRecordTransferDone
  /-- USB_TAP_TRANSFER_DONE (R358). A tap transfer on endpoint 0x82 completes. -/
  | usbTapTransferDone
  /-- GET_INVENTORY (R359). A vendor request returns the inventory response. -/
  | getInventory (r : VendorSetup) (done : Bool)
  /-- GET_LINK_STATUS (R359). A vendor request returns the link status response. -/
  | getLinkStatus (r : VendorSetup) (done : Bool)
  /-- ACK_RECORDS (R357). Removes sent records at or before n when its Status stage completes. -/
  | ackRecords (r : VendorSetup) (n : Word) (done : Bool)
  /-- RETRIEVE (R359). Returns the k-th queued record. -/
  | retrieve (r : VendorSetup) (done : Bool)
  /-- GET_BLACKBOX (R504). Returns black-box events from page p, oldest first. -/
  | getBlackbox (r : VendorSetup) (done : Bool)
  /-- REQ_NOTE_ACK (R363). A write of 1 to USB.REQ_NOTE_ACK clears USB_REQUEST. -/
  | reqNoteAck (t : TrowelId) (v : Word)
  /-- SER_ENABLE_WRITE (R370). A write to SER.ENABLE starts or stops the serial line. -/
  | serEnableWrite (t : TrowelId) (v : Word)
  /-- SER_FRAME_BROKEN (R377). A gap of one character time inside a frame ends it as broken. `chars` are the
characters received, each with the idle bit times before it, and `gap` the idle bit times after the last. -/
  | serFrameBroken (chars : List (Nat × Byte) := []) (gap : Nat := 12)
  /-- SER_ACK_FRAME (R381). An ACK frame removes sent records at or before n and ends NO_LISTENER. -/
  | serAckFrame (addr : Byte) (n : Word)
  /-- SER_RESTART_FRAME (R382). A RESTART frame moves the send pointer to the oldest queued record. -/
  | serRestartFrame (addr : Byte)
  /-- SER_GET_INVENTORY (R392). A serial REQUEST returns the inventory response. -/
  | serGetInventory (addr : Byte) (r : SerReq)
  /-- SER_GET_LINK_STATUS (R392). A serial REQUEST returns the link status response. -/
  | serGetLinkStatus (addr : Byte) (r : SerReq)
  /-- SER_ACK_REQUEST (R392). A serial REQUEST with bRequest 0x03 answers status 1. -/
  | serAckRequest (addr : Byte) (r : SerReq)
  /-- SER_RETRIEVE (R392). A serial REQUEST returns the k-th queued Form 1 record. -/
  | serRetrieve (addr : Byte) (r : SerReq)
  /-- SER_GET_BLACKBOX (R392). A serial REQUEST returns black-box events from 15p onwards. -/
  | serGetBlackbox (addr : Byte) (r : SerReq)
  /-- SER_FRAME_START (R383). After the inter-frame space, or on another sender's start edge, the engine starts its pending frame. -/
  | serFrameStart
  /-- SER_COLLISION (R384). A mismatch after the address character, or a line fault, releases the line and the frame stays pending.
`bit` is the bit of the frame, from its start bit on, that read back as `read`. -/
  | serCollision (bit : Nat) (read : Bool := false)
  /-- SER_FRAME_SENT (R382). A RECORD frame ends and the acknowledgement window opens, or on point-to-point without ACK the record is removed. -/
  | serFrameSent
  /-- SER_ACK_WINDOW_EXPIRY (R387). No ACK within two character times, so the record is retried or NO_LISTENER begins. -/
  | serAckWindowExpiry
  /-- SER_BACKOFF_EXPIRY (R388). A backoff wait ends and the head record is sent again. -/
  | serBackoffExpiry
  /-- SER_LINE_HELD_LOW (R389). The line held low for two character times is counted as a line fault once. -/
  | serLineHeldLow
  /-- SER_CANCEL (R390). A write to SER.CANCEL removes or withdraws the head record, or is registered as a late cancel. -/
  | serCancel (t : TrowelId) (v : Word) (late : Bool)
  /-- SER_REQ_NOTE_ACK (R393). A write of 1 to SER.REQ_NOTE_ACK clears SER_RX. -/
  | serReqNoteAck (t : TrowelId) (v : Word)
  /-- TICK (R401). The time base passes a whole millisecond. -/
  | tick
  /-- SYNC_IN_EDGE (R402). A synchronised SYNC_IN edge raises SYNC_IN_EDGE and, if SYNC_IN is ranked, gives a sample. -/
  | syncInEdge
  /-- SAMPLE_DEADLINE_EXPIRY (R405). No sample within 2P + 50 ns ends a count or loses a qualified candidate. -/
  | sampleDeadlineExpiry (r : Ref)
  /-- HOLDOVER_LIMIT (R411). Holdover reaches TIME.HOLD_MAX_S and the crystal is selected. -/
  | holdoverLimit
  /-- CRYSTAL_RATE_STEP (R411). Each XREF millisecond moves r 1 ppb towards 0 under crystal selection. -/
  | crystalRateStep
  /-- SYNC_OUT_INSTANT (R414). SYNC_OUT rises at an output instant. -/
  | syncOutInstant
  /-- SYNC_OUT_PULSE_END (R414). SYNC_OUT falls after TIME.SOUT_W_NS. -/
  | syncOutPulseEnd
  /-- PAIR_ENABLE_WRITE (R419). A write to PAIR.ENABLE starts or stops the pair. -/
  | pairEnableWrite (t : TrowelId) (v : Word)
  /-- HEARTBEAT_PULSE (R423). The active engine drives a 40 ns heartbeat pulse every 500 ns. -/
  | heartbeatPulse
  /-- PL_HB_EDGE (R424). A rising edge on PL_HB is seen, and while active it starts or continues a conflict. -/
  | plHbEdge
  /-- HB_LOST (R423). No PL_HB edge for 2 µs, which may decide a takeover. -/
  | hbLost
  /-- CONFLICT_SETTLE (R424). After an engine's 10 µs, a lasting conflict makes the second-role engine leave the active role. -/
  | conflictSettle
  /-- PAIR_WAIT_TIMEOUT (R425). A second-role engine in WAIT becomes active after 200 µs of silence after READY. -/
  | pairWaitTimeout
  /-- PAIR_LINK_RETRANSMIT (R422). An unacknowledged pair message is retransmitted after 2 µs. -/
  | pairLinkRetransmit
  /-- PAIR_LINK_DOWN (R422). Eight failed transmissions or 10 µs without a block take the link down. -/
  | pairLinkDown
  /-- PAIR_LINK_UP (R431). The pair link trains up, and a resync starts if the partner is unsynced. -/
  | pairLinkUp
  /-- PAIR_HELLO (R427). A HELLO message is compared with the engine's own identity and straps. -/
  | pairHello (h : HelloMsg)
  /-- PAIR_RESERVE (R429). A RESERVE message requests the next block of sequence numbers. -/
  | pairReserve (last : Word)
  /-- PAIR_RESERVE_ACK (R429). A RESERVE_ACK marks the block reserved. -/
  | pairReserveAck (last : Word)
  /-- PAIR_DECISION (R335). A DECISION message writes the mirrored word and queues its record. -/
  | pairDecision (addr : BitVec 14) (word : BitVec 16) (rec2 : List Byte)
  /-- PAIR_RECORD (R428). A RECORD message queues a housekeeping or gap record. -/
  | pairRecord (rec2 : List Byte)
  /-- PAIR_ACK_MARK (R428). An ACK_MARK applies an acknowledgement or a drop to the standby's queues. -/
  | pairAckMark (l : LinkId) (n : Word) (drop : Option Word)
  /-- PAIR_LIGHT_MARK (R186). A LIGHT_MARK updates the standby's light state. -/
  | pairLightMark (x : LightMark)
  /-- PAIR_SENSE_MARK (R222). A SENSE_MARK replaces the standby's accumulators and estimator state. -/
  | pairSenseMark (x : SenseMark)
  /-- SENSE_MARK_PERIOD (R428). Every PAIR.ACC_MIRROR_US the active engine sends a SENSE_MARK. -/
  | senseMarkPeriod
  /-- TIME_MARK_PERIOD (R428). Every 100 µs the active engine sends a TIME_MARK. -/
  | timeMarkPeriod
  /-- PAIR_TIME_MARK (R430). A TIME_MARK gives the standby a partner time sample. -/
  | pairTimeMark (ns : Nat)
  /-- PAIR_FAULT (R432). A FAULT message makes the standby take over with cause 2. -/
  | pairFault (trowel : TrowelId) (cause : Nat)
  /-- PAIR_STEP_DOWN (R432). A STEP_DOWN message arms a takeover with cause 3 on heartbeat silence. -/
  | pairStepDown
  /-- PAIR_TAKEOVER_MSG (R425). A TAKEOVER message makes the active engine go to STANDBY. -/
  | pairTakeoverMsg (cause : Byte) (gap : Word)
  /-- PAIR_TROWEL_MSG (R439). A TROWEL_MSG word is held for PAIR.RX_MSG. -/
  | pairTrowelMsg (w : Word)
  /-- PAIR_RESYNC_START (R431). RESYNC_START begins a full-state transfer. -/
  | pairResyncStart
  /-- PAIR_RESYNC_END (R428). RESYNC_END makes the standby synced. -/
  | pairResyncEnd (c : Resync)
  /-- PAIR_TX_MSG_WRITE (R439). A write to PAIR.TX_MSG sends a TROWEL_MSG. -/
  | pairTxMsgWrite (t : TrowelId) (v : Word)
  /-- PAIR_RX_ACK_WRITE (R439). A write of 1 to PAIR.RX_ACK drops the oldest received word. -/
  | pairRxAckWrite (t : TrowelId) (v : Word)
  /-- MOR_ENABLE_WRITE (R440). A write to MOR.ENABLE starts or stops a mortar port. -/
  | morEnableWrite (t : TrowelId) (m : MorId) (v : Word)
  /-- LINK_HELLO (R443). A LINK_HELLO is exchanged, and the port comes up once both sides have sent one. -/
  | linkHello (m : MorId) (serial : BitVec 64) (lane0 : Bool) (lane1 : Bool) (exch : Bool) (pol : Bool)
  /-- LINK_HELLO_PERIOD (R445). Every 100 µs a port that is not up sends LINK_HELLO. -/
  | linkHelloPeriod (m : MorId)
  /-- PORT_DEGRADED (R443). One lane not locked after 1 ms brings the port up on one lane. -/
  | portDegraded (m : MorId) (lane : Bool)
  /-- LINK_FRAME (R444). A link frame is accepted in sequence order and acknowledged, or discarded. -/
  | linkFrame (m : MorId) (seq : BitVec 16) (x : LinkItem) (crcOk : Bool)
  /-- LINK_ACK (R444). A cumulative LINK_ACK frees acknowledged frames. -/
  | linkAck (m : MorId) (seq : BitVec 16)
  /-- LINK_RETRANSMIT (R444). An unacknowledged link frame is retransmitted after 2 µs. -/
  | linkRetransmit (m : MorId)
  /-- PORT_DOWN (R444). Eight failed transmissions or 10 µs without a block take the port down and requeue frames. -/
  | portDown (m : MorId)
  /-- ANNOUNCE (R446). A newer ANNOUNCE updates the topology database and is flooded on. -/
  | announce
  /-- ANNOUNCE_PERIOD (R446). Every 10 ms, or on a port or ID change, the node originates an ANNOUNCE. -/
  | announcePeriod
  /-- ANNOUNCE_AGE_OUT (R446). An originator unheard for 50 ms is dropped from the database. -/
  | announceAgeOut (serial : BitVec 64)
  /-- DELAY_EXCHANGE_PERIOD (R474). Every 1 ms each up port sends DELAY_REQ and TIME. -/
  | delayExchangePeriod (m : MorId)
  /-- DELAY_REQ (R474). A DELAY_REQ is answered with DELAY_RESP. -/
  | delayReq (m : MorId)
  /-- DELAY_RESP (R474). A DELAY_RESP gives a link delay measurement. -/
  | delayResp (m : MorId) (t1 : Nat) (t2 : Nat) (t3 : Nat) (t4 : Nat)
  /-- FABRIC_TIME_FRAME (R475). A valid TIME frame on the time port gives a fabric time sample. -/
  | fabricTimeFrame (m : MorId) (gm : Option (BitVec 6)) (valid : Bool) (ns : Nat) (ofs : Int)
  /-- MOR_RECORD (R466). A RECORD message is delivered into the gateway's forward queue. -/
  | morRecord
  /-- MOR_DELIVERED (R465). A DELIVERED message removes the records it covers from the gateway queue. -/
  | morDelivered
  /-- MOR_JOINT (R469). A JOINT fragment is delivered and completes a joint-exchange unit. -/
  | morJoint
  /-- MOR_TAP (R471). A TAP unit is sent on endpoint 0x82 or discarded. -/
  | morTap
  /-- MOR_TROWEL (R472). A TROWEL word is held for MOR.RX_MSG. -/
  | morTrowel
  /-- MOR_BROKEN (R462). A BROKEN notice sets the restart flag on the flow's next message. -/
  | morBroken
  /-- FLOW_BROKEN (R460). A gap open for 2 ms breaks the flow and sends BROKEN. -/
  | flowBroken (src : BitVec 6) (cls : Byte)
  /-- UNREACHABLE_EXPIRY (R451). A message that waits 2 ms with no route up is discarded. -/
  | unreachableExpiry (dst : BitVec 6)
  /-- GATEWAY_PROGRESS_TIMEOUT (R467). 20 ms without DELIVERED progress resends from the oldest undelivered record. -/
  | gatewayProgressTimeout
  /-- ROUTE_WRITE (R451). A write to MOR.ROUTE sets a destination's primary and alternate ports. -/
  | routeWrite (t : TrowelId) (n : BitVec 6) (v : Word)
  /-- MOR_TX_MSG_WRITE (R472). A write to MOR.TX_MSG sends a TROWEL word to MOR.TX_DEST. -/
  | morTxMsgWrite (t : TrowelId) (v : Word)
  /-- MOR_RX_ACK_WRITE (R472). A write of 1 to MOR.RX_ACK drops the oldest received word. -/
  | morRxAckWrite (t : TrowelId) (v : Word)
  /-- TRST_N_LOW (R506). TRST_N low puts the TAP in Test-Logic-Reset with IDCODE. -/
  | trstNLow
  /-- EXTEST (R508). Drives balls from the boundary register and enters the test state. -/
  | extest (cells : List Bool) (dr : List Bool)
  /-- SAMPLE_PRELOAD (R507). Samples and preloads the boundary register. -/
  | samplePreload (cells : List Bool) (dr : List Bool)
  /-- IDCODE (R509). Selects the device identification register. -/
  | idcode
  /-- HIGHZ (R508). Makes outputs high-impedance and enters the test state. -/
  | highz
  /-- CLAMP (R508). Holds the boundary outputs and enters the test state. -/
  | clamp
  /-- EXTEST_PULSE (R511). Drives IEEE 1149.6 pulses on AC pins and enters the test state. -/
  | extestPulse (cells : List Bool) (dr : List Bool)
  /-- EXTEST_TRAIN (R511). Drives IEEE 1149.6 pulse trains on AC pins and enters the test state. -/
  | extestTrain (cells : List Bool) (dr : List Bool)
  /-- BB_READ (R505). Shifts out the black-box header and events. -/
  | bbRead
  /-- MBIST (R514). Starts a march test of the selected memories and enters the test state. -/
  | mbist (control : BitVec 64)
  /-- MBIST_DONE (R514). A memory self-test run ends and its result word is set. -/
  | mbistDone (fail : BitVec 7) (slots : BitVec 15) (addr : Word)
  /-- FIELD_SCAN (R510). Reads a field by address at Update-DR and enters the test state. -/
  | fieldScan (field : BitVec 16)
  /-- BYPASS (R507). Selects the bypass register. -/
  | bypass
  /-- VQ_CLK_RISE (R328). A rising edge of VQ_CLK on which VQ_ACT rises or falls as the port-holding, queue and dirty conditions now stand, with or without a mirror update. -/
  | vqClkRise
  /-- FRAME_START_NOTICE_IN_DECODE (R309). The Frame Start notice of a frame bound to kn reaches DECODE, and the apply set decode kn applies. -/
  | frameStartNoticeInDecode (k : CtxId)
  /-- SER_RESPONSE_SENT (R393). A RESPONSE frame has been sent in full, so the request completes, its cache entry becomes complete, SER.REQ_NOTE is written and SER_RX rises. -/
  | serResponseSent
  /-- SER_FRAME_REJECTED (R377). A received frame that fails its CRC, or is of an unknown kind, is discarded and counted in SER.CRC_ERR_COUNT. -/
  | serFrameRejected (heard : SerHeard)
  /-- SER_UNKNOWN_REQUEST (R392). A REQUEST frame with an unknown bRequest is answered with status 1 and is not cached. -/
  | serUnknownRequest (addr : Byte) (request : Byte) (r : SerReq)
  /-- USB_VENDOR_REQUEST_STALL (R359). A vendor request with an unknown bRequest, a wrong direction, a wLength out of range, or one not allowed while halted ends in a protocol STALL with no effect and is not cached. -/
  | usbVendorRequestStall (r : VendorSetup)
  /-- PAIR_LINK_ACK (R422). An acknowledgement arrives on the pair link and frees the acknowledged message from retransmission. -/
  | pairLinkAck (n : Nat)
  /-- XREF_STABLE (R84). After a warm reset that took effect during sleep, the restarted XIN oscillator becomes stable and boot step 2 begins. -/
  | xrefStable
  /-- SUPERSPEED_TRAINING_TIMEOUT (R349). No SuperSpeed link trains within the USB 3.2 timers, so the function connects for high speed. -/
  | superspeedTrainingTimeout
  /-- INSTRUCTION_SCRUB (R550). The background scrubber of the trowel instruction memories rewrites each corrected word once every second. -/
  | instructionScrub
  /-- CLOCK_LANE_STATE_CHANGE (R116). A port's clock lane starts or stops delivering a high-speed clock, or a lane enters or leaves ULPS, so the CSIx domain moves between the byte clock and the substitute clock and CSI.STATUS changes.
`lane` is 0 to 3 for D0 to D3 and 4 for the clock lane. -/
  | clockLaneStateChange (p : PortId) (lane : Fin 5) (lines : LaneLines)
  deriving DecidableEq, Repr

end Sys2Proof
end

