-- ==== Sys2Proof/Decode.lean ====
section
/-! DEFINITION. The reading of a command from a table word. The rows of `spec/opcode_table.json` give no bits, so no word
spells a command. (The instruction words of the trowels are decoded in Machine/TrowelCode.lean.) -/

namespace Sys2Proof

/-- No row of the table gives bits: no word spells a command.
Log 87 (DESIGN CHOICE). -/
def decodeTableWord (_nbits _w : Nat) : Option Instr := none

end Sys2Proof
end

