-- ==== Sys2Proof/Config.lean ====
section
/-! DEFINITION. The values that the manual leaves open: constants without a body, so that nothing can be
proved of them. Each is named in a row of the assumption log. -/

namespace Sys2Proof.Config

/-- The instruction words of ROM recipe `n`, trowel `t`, address `a`: the manual gives the behaviour of the
ROM recipes (Table SR.12), not their programs.
Log 8 (DESIGN CHOICE). -/
opaque romWord : Nat → Nat → Nat → Word

/-- The data words of ROM recipe `n`, trowel `t`, address `a`. -/
opaque romData : Nat → Nat → Nat → Word

/-- The entry address of trowel `t` in scene `sc` of ROM recipe `n`. -/
opaque romEntry : Nat → Nat → Nat → BitVec 16

/-- The factory calibration values that the calibration fields hold before the first self-calibration
(R485 "nominal"): offset and gain of gain code `g` of converter A (`false`) or B (`true`).
Log 9 (DESIGN CHOICE). -/
opaque calOfsNominal : Bool → Nat → Word
opaque calGainNominal : Bool → Nat → Word

/-- The result of a conversion once the converter has applied the calibration factors of its gain code: R208 names the step and
gives no formula. Arguments: resolution in bits, CAL_OFS, CAL_GAIN, raw value.
Log 99 (DESIGN CHOICE). -/
opaque calibrated : Nat → Word → Word → Nat → Nat

/-- A fresh 32-bit value that the manual leaves open, drawn by a counter of the state.
Log 7 (DESIGN CHOICE). -/
opaque freeWord : Nat → Word

/-- What the verdict store holds at an address after a self-test has destroyed it, for each such run (R514).
Log 10 (DESIGN CHOICE). -/
opaque freeStore : Nat → Nat → Word

/-- Whether a mapped coordinate that falls between two 1/16 px rounds up: the manual gives no rounding (R300, R302).
Log 58 (DEDUCED). -/
opaque roundUp : Rat → Bool

/-- The local threshold at a point, in 1/16 px, of a luma plane, by which a core takes a module's value and confidence (R285 names
it and gives no formula).
Log 54 (DESIGN CHOICE). -/
opaque localThreshold : List (List Nat) → Int → Int → Nat

/-- The modulation estimate of a symbol of contrast 0, by its least confidence (Table LD.5 divides by the contrast).
Log 113 (DESIGN CHOICE). -/
opaque flatModulation : Nat → Nat

/-- The 16-bin histogram of gradient orientation and the edge density of a tile's luma plane (R277 names them and gives no
formula).
Log 115 (DESIGN CHOICE). -/
opaque orientations : List (List Nat) → List Nat
opaque edgeDensity : List (List Nat) → Nat

/-- The finder signatures found in a tile: luma plane, binarised plane, least contrast and polarity (R277). -/
opaque signatures : List (List Nat) → List (List Bool) → Nat → Nat → BitVec 7

/-- Whether a symbol outside a limit of Table LD.2 forms a candidate (R287: it may still decode).
Log 114 (DEDUCED). -/
opaque beyondLimits : Nat → Bool

/-- The CRC-32C that ROM recipe `n` reports at the pair handshake (R427): the ROM images are not given. -/
opaque romCrc : Nat → Word

end Sys2Proof.Config
end

