-- ==== Sys2Proof/Machine/State.lean ====
section
/-! DEFINITION. The state of the engine as plain data: one structure per unit, `State` over them, the queue of
waiting commands, and the state after reset. -/

namespace Sys2Proof.Machine

/-! ## Sparse stores -/

/-- A store of values by address: entries at strictly rising addresses, none equal to what an unlisted
address reads as. -/
abbrev Sparse (α : Type) := List (Nat × α)

/-! ## Identity and the always-on domain -/

/-- What is fixed in silicon and fuses (R7, R10, "OTP").
Log 4 (DESIGN CHOICE). -/
structure Identity where
  variant : Variant
  stepping : Stepping
  /-- The fused die serial, as the latest OTP load read it. -/
  serial : BitVec 64
  /-- The fused SHA-256 digest of the public key; all zeros means no key is fused. -/
  keyDigest : List Byte
  deriving DecidableEq, Repr

/-- What the VDD_AON domain holds beside the black-box SRAM (Table BR.10).
Log 5 (DESIGN CHOICE). -/
structure Aon where
  slowQualified : Bool
  /-- The sleep receiver is armed, with its match address and rate code. -/
  sleepRx : Option (Byte × BitVec 2)
  /-- Die temperature at the last converter self-calibration, in °C. -/
  calTemp : Option Rat
  sleepFlag : Bool
  vddLost : Bool
  /-- A WAKE edge held during sleep entry (R105). -/
  wakeHeld : Bool
  deriving DecidableEq, Repr

/-- The levels of the input balls that the engine's rules read as levels.
Log 5 (DESIGN CHOICE). -/
structure Pins where
  pwrOk : Bool
  resetN : Bool
  ltEn : Bool
  vqSelN : Bool
  vbus : Bool
  deriving DecidableEq, Repr

/-! ## Boot, straps, recipe -/

/-- Where the engine is in its life (R6, R70, R78, R83, R103 to R106, R546). -/
inductive Phase where
  /-- Every ball in its Reset state: PWR_OK low or RESET_N low has taken effect. -/
  | held
  /-- A warm reset out of sleep waits for XREF (R84). -/
  | xrefWait
  /-- Between step 1 and step 11 of Table SR.4. -/
  | booting
  | running
  | sleepEntry
  | asleep
  | waking
  | halted
  | xrefFatal
  | test
  /-- Thermal shutdown holds the engine in reset (R546). -/
  | thermal
  deriving DecidableEq, Repr

/-- The flash read modes of Table SR.6. -/
inductive ReadMode where
  | single | dual | quad
  deriving DecidableEq, Repr

/-- An entry of the scene table (Table SR.10). -/
structure SceneEntry where
  defined : Bool
  contexts : BitVec 8
  groups : BitVec 8
  /-- Entry addresses of the Light, Sense, Verdict and Link trowels. -/
  entries : List (BitVec 16)
  deriving DecidableEq, Repr

/-- A homography entry of section 0x0070: context, neighbour node, neighbour context and nine single-precision
words. -/
structure Homography where
  context : Nat
  node : Nat
  nbContext : Nat
  h : List Word
  deriving DecidableEq, Repr

/-- The content of an accepted image (R89, R90). -/
structure Recipe where
  id : Word
  rev : BitVec 16
  /-- The CRC-32C of the image, compared at the pair handshake (R427). -/
  crc : Word
  sealedFlag : Bool
  mandatory : BitVec 16
  optional : BitVec 16
  disable : BitVec 16
  /-- Instruction images of the four trowels; `none` where a ROM recipe holds the program. -/
  code : List (List Word)
  data : List (List Word)
  /-- Initial field values in image order. -/
  init : List (Nat × Word)
  scenes : List SceneEntry
  watch : List (BitVec 64)
  /-- The lamp binning table, when the image carries one. -/
  binning : Option (List (BitVec 16))
  homographies : List Homography
  /-- `some n` for ROM recipe n. -/
  rom : Option Nat
  deriving DecidableEq, Repr

/-- The boot's progress: which steps of Table SR.4 have ended, and the image under way. -/
structure Boot where
  /-- Steps 2 to 10 that have ended. -/
  strapDone : Bool
  otpDone : Bool
  calDone : Bool
  sfdpDone : Bool
  loadDone : Bool
  sigDone : Bool
  started : Bool
  neighDone : Bool
  fabricDone : Bool
  pairDone : Bool
  /-- Time base at the end of the step that ended last, and at the ends of steps 3 and 5 (R81). -/
  lastNs : Nat
  otpNs : Nat
  loadNs : Nat
  /-- What the SFDP read found, and the read mode it leaves (R86, R87). -/
  sfdp : Option SfdpReading
  mode : ReadMode
  /-- The image bytes with the seal block, kept for step 6. -/
  raw : List Byte
  recipe : Option Recipe
  /-- The failure found so far but not yet reported: invalid content, code 10 (R96). -/
  contentBad : Bool
  /-- Matrix pins that the boot neighbour-pin test has still to test, in order (R179). -/
  neighLeft : List Nat
  /-- SLEEP request before READY, held until READY (R103). -/
  sleepHeld : Bool
  deriving DecidableEq, Repr

/-- The SYS unit's registers (Table SR.15) and the scene table and sleep machinery behind them. -/
structure Sys where
  /-- Levels of ST0 to ST19 as read (R73). -/
  straps : List (BitVec 4)
  unstable : BitVec 20
  enabled : BitVec 16
  bootCause : BitVec 2
  recipeSrc : BitVec 2
  recipeId : Word
  recipeRev : BitVec 16
  sealedOk : Bool
  failCode : BitVec 4
  sceneActive : BitVec 3
  sceneReq : BitVec 3
  /-- A scene change is requested and not yet complete. -/
  scenePending : Bool
  sceneDone : BitVec 4
  sleepAck : BitVec 4
  wakeCause : BitVec 2
  scenes : List SceneEntry
  /-- A sleep request waits for the slow clock (R69). -/
  sleepWait : Bool
  /-- The step of Table SR.13 that sleep entry has ended last. -/
  sleepStep : Nat
  /-- The step of Table SR.14 that the wake has ended last. -/
  wakeStep : Nat
  deriving DecidableEq, Repr

/-- The output balls that carry a level of their own. -/
structure Balls where
  ready : Bool
  /-- FAULT_N and LT_FAULT_N are open-drain: `true` means pulled low. -/
  faultLow : Bool
  ltFaultLow : Bool
  syncOut : Bool
  /-- CORE cycles for which PL_HB is still driven: high, and low for the last four. -/
  hbLeft : Nat
  deriving DecidableEq, Repr

/-! ## Trowels -/

/-- One posted write (R118). -/
structure Posted where
  addr : BitVec 16
  val : Word
  deriving DecidableEq, Repr

/-- One entry of a write queue: a single write or a whole group (R118, R123); `answer` holds the refusals
(address and reason) once the unit has received it. -/
structure QEntry where
  unit : UnitId
  writes : List Posted
  answer : Option (List (BitVec 16 × BitVec 3))
  deriving DecidableEq, Repr

/-- What a stalled instruction still has to do. -/
inductive Stall where
  | post (w : Posted)
  | group
  | fsync
  | read (rd : RegId) (addr : BitVec 16)
  deriving DecidableEq, Repr

/-- What a trowel is doing. -/
inductive TrowelRun where
  | stopped
  | run
  | waiting (rd : RegId) (mask : BitVec 64)
  | reading (rd : RegId) (addr : BitVec 16)
  | stalled (op : Stall)
  deriving DecidableEq, Repr

/-- The latches of the four low-high pairs that one reader holds (R138). -/
structure Latches where
  cycleHi : Word
  timeHi : Word
  ntcHi : Word
  frzHi : Word
  deriving DecidableEq, Repr

/-- One trowel (Table TW.1, Table TW.12). -/
structure Trowel where
  /-- Instruction words, default 0. -/
  imem : Sparse Word
  dmem : Sparse Word
  /-- Data words with an uncorrectable error, instruction words with one, and instruction words with a
  corrected single error that the scrubber has not rewritten (Table PK.6). -/
  dataErr : List (BitVec 11)
  codeErr : List (BitVec 12)
  codeSoft : List (BitVec 12)
  w : Vector Word 16
  z : Bool
  n : Bool
  c : Bool
  v : Bool
  pc : BitVec 12
  /-- Return stack, top first, at most 8. -/
  rstack : List (BitVec 12)
  pending : BitVec 64
  overrun : BitVec 64
  wq : List QEntry
  group : Option (List Posted)
  /-- Mailbox words, oldest first, at most 8. -/
  mail : List Word
  timer : Nat
  cycles : Nat
  /-- TROWEL cycles counted by the watchdog since the last KICK. -/
  wdCount : Nat
  refused : Bool
  refAddr : BitVec 16
  refReason : BitVec 3
  refCount : Nat
  latch : Latches
  status : TrowelRun
  deriving DecidableEq, Repr

/-! ## Black box and TAP -/

/-- An event of the black box (Table BB.1); the time is that of the CORE cycle in which it is written. -/
structure BbEvent where
  ns : Nat
  unit : BitVec 7
  lost : Bool
  inst : Byte
  code : BitVec 16
  arg : Word
  deriving DecidableEq, Repr

/-- The black box: the ring, oldest first, its write queue, and the BB fields (R494 to R502). -/
structure BlackBox where
  ring : List BbEvent
  queue : List BbEvent
  /-- An event was lost and no event has entered the queue since. -/
  lostPending : Bool
  written : Word
  frozen : Bool
  /-- BB.STATUS bit 1, and whether MBIST (rather than a VDD_AON loss) emptied the ring for the next boot. -/
  emptied : Bool
  mbistEmptied : Bool
  freezeCause : Byte
  freezeNs : Nat
  /-- A damaged or truncated frame has been seen since trowel start (cause 0x16 acts once). -/
  firstMarked : Bool
  deriving DecidableEq, Repr

/-- The TROWEL cycle in which the latest trowel fault happened (R141): the phase, the trowels and the black box as the fault
found them, and the trowels that have faulted in it with the arguments of their events, in order of trowel number. -/
structure FaultCycle where
  cycle : Nat
  phase : Phase
  before : Vector Trowel 4
  bb : BlackBox
  events : List (TrowelId × Word)
  deriving DecidableEq, Repr

/-- The instructions of Table BB.4. -/
inductive TapIr where
  | extest | samplePreload | idcode | highz | clamp | extestPulse | extestTrain
  | bbRead | mbist | fieldScan | bypass
  deriving DecidableEq, Repr

/-- The test access port (R506 to R514). -/
structure Tap where
  ir : TapIr
  /-- The update stage of the boundary register, in the BSDL file's cell order. -/
  boundary : List Bool
  /-- What the latest scan shifted out: the data register captured at Capture-DR. -/
  captured : List Bool
  /-- FIELD_SCAN: the value read at the latest Update-DR. -/
  fieldVal : Word
  latch : Latches
  mbistSel : Option (BitVec 8)
  mbistResult : BitVec 64
  /-- Memories whose content a self-test has destroyed, by bit of the control word, until the next boot. -/
  destroyed : BitVec 8
  /-- Which draw of the free store contents the destroyed verdict store holds (the model's own). -/
  destroyedAt : Nat
  deriving DecidableEq, Repr

/-! ## Shadowed writes -/

/-- The apply sets of Table FM.3 whose boundary exists. -/
inductive SetId where
  | scan
  | group (g : GroupId)
  | own (addr : Nat)
  | seq (c : Conv)
  | est
  | ctx (k : CtxId)
  | dec (k : CtxId)
  deriving DecidableEq, Repr

/-- A write accepted and not yet applied (R122). -/
structure Pend where
  set : SetId
  addr : Nat
  val : Word
  /-- The cycle of the accepting unit's clock in which the write was accepted (R122). -/
  cycle : Nat
  deriving DecidableEq, Repr

/-! ## Time base (chapter "Time base and reference selection") -/

/-- TIME.STATE [2:0]. -/
inductive TimeMode where
  | free | slewing | tracking | holdover | crystal
  deriving DecidableEq, Repr

/-- One candidate's qualification (R404, R405): times in quarter nanoseconds, of the XREF count at nominal rate and
of the reference. -/
structure Cand where
  seed : Option (Int × Int)
  /-- Arrival of the latest sample on the XREF count. -/
  lastX : Int
  /-- The seed and the counted samples, newest first, at most 17 kept. -/
  counted : List (Int × Int)
  count : Nat
  qualified : Bool
  outliers : Nat
  /-- Offset of the latest sample, in units of 2⁻³² ns. -/
  lastO : Int
  deriving DecidableEq, Repr

/-- The time base and the reference selection. -/
structure TimeUnit where
  ns : Nat
  /-- The internal 32-bit fraction of a nanosecond (R399). -/
  frac : Nat
  /-- CORE cycles counted from XREF at nominal rate. -/
  core : Nat
  /-- CORE cycles for which the first set still holds the count (R413). -/
  hold : Nat
  /-- The rate correction r in parts per 10⁹, and r without its slew term. -/
  rate : Int
  baseRate : Int
  sel : Ref
  mode : TimeMode
  set : Bool
  target : Option Ref
  /-- CORE cycles until the slew in progress brings the offset to 10 ns. -/
  slewLeft : Nat
  /-- CORE count at the entry into holdover. -/
  holdFrom : Nat
  fabric : Cand
  syncIn : Cand
  partner : Cand
  /-- In the test state: XREF does not run, lost there or stopped when the state was entered. -/
  xrefOff : Bool
  /-- Frequency of the slow clock last measured (R68), as XREF cycles in 1024 slow periods. -/
  slowCycles : Nat
  deriving DecidableEq, Repr

/-! ## Die temperature monitor (R544 to R548) -/

/-- The monitor: T_d exact in °C (`none` before the first sample), the two states and the time base of their last
change. -/
structure Thermal where
  td : Option Rat
  warn : Bool
  shutdown : Bool
  warnFrom : Nat
  shutFrom : Nat
  deriving DecidableEq, Repr

/-! ## Light matrix (chapter "Light matrix: lamps, courses and strobes") -/

/-- What the LIGHT unit is doing within a scan (R152, R154). -/
inductive LightStage where
  /-- LIGHT.ENABLE is 0, or sleep or a halt has darkened the matrix. -/
  | rest
  /-- The scan waits dark for the next period-lock instant. -/
  | wait
  /-- The active window: the gate of the entry's line is on. -/
  | active
  /-- The first part of blanking: columns at the discharge code. -/
  | discharge
  /-- The rest of blanking: columns at code 0. -/
  | blank
  deriving DecidableEq, Repr

/-- A group's pulse in the course in progress (R157). -/
inductive PulseState where
  | none | scheduled | running | ended
  deriving DecidableEq, Repr

/-- The course in progress: scan entry, line, length and blanking in ns, whether it is dark (a dark entry or a line
that is not enabled), and whether a forced dark slot lengthens it. -/
structure CourseRun where
  entry : Nat
  line : Nat
  len : Nat
  blank : Nat
  disch : Nat
  dark : Bool
  slot : Bool
  deriving DecidableEq, Repr

/-- A brightness transition (R171): start, target, steps, and steps taken. -/
structure Curve where
  from_ : Nat
  target : Nat
  steps : Nat
  done : Nat
  deriving DecidableEq, Repr

/-- What the open and over comparators of a column tell (R146): below 0.80 × k, between, or above 1.25 × k. -/
inductive LampReading where
  | below | good | above
  deriving DecidableEq, Repr

/-- A conversion start on its way to ADC-A (R159, R201): LIGHT.SLS slot, `none` for a dark start, the time base at which it
fell due and the time base at which it is issued. -/
structure IssuedStart where
  slot : Option (Fin 4)
  due : Nat
  at_ : Nat
  deriving DecidableEq, Repr

/-- The LIGHT unit. -/
structure Light where
  stage : LightStage
  course : Option CourseRun
  /-- Time base at the boundary that opened the course in progress. -/
  courseFrom : Nat
  nextEntry : Nat
  /-- Output codes of LC0 to LC15, discharge codes included. -/
  codes : List Nat
  pulses : Vector PulseState 8
  /-- Armed lines of each fired group (R557), bit l for line l. -/
  armed : Vector (BitVec 8) 8
  curves : Vector (Option Curve) 8
  /-- Boundary at which D was last taken over: codes use this derate code (R158). -/
  derateUsed : Nat
  /-- A dark interval is in progress, and it qualifies. -/
  darkOpen : Bool
  darkQual : Bool
  /-- The dark start of the interval in progress has been issued (R164). -/
  darkIssued : Bool
  darkCount : Nat
  courseLit : Bool
  courseQual : Bool
  /-- The next course carries a forced dark slot (R165). -/
  slotNext : Bool
  /-- Consecutive evaluated pulses below and above the thresholds, and courses above zero, by lamp. -/
  opens : Sparse Nat
  overs : Sparse Nat
  zeros : Sparse Nat
  /-- For each column, the time in ns from the boundary at which it reached code 0, or at which the discharge before the
  boundary ended (R176). -/
  zeroFrom : List Int
  /-- Columns read above the zero threshold in the course in progress. -/
  zeroSeen : BitVec 16
  /-- LT_EN has risen and no course boundary has followed (R174). -/
  relight : Bool
  /-- Time base from which one blanking must pass before a boundary lights lamps again after a takeover (Table LM.6). -/
  joinFrom : Option Nat
  /-- The sweep in progress: the next pin to test is LC c (`false`) or LS c (`true`). -/
  sweep : Option (Nat × Bool)
  /-- A test-period mark passed while the sweep in progress ran; the next one starts at once when it ends. -/
  sweepDue : Bool
  /-- The slot of the course in progress has had its column (R180). -/
  slotUsed : Bool
  starved : Bool
  overrunSeen : Bool
  /-- T_f, exact, in 1/16 °C. -/
  tf : Rat
  /-- BOARD_TEMP has been written since trowel start and the latest loss. -/
  tempValid : Bool
  tempLost : Bool
  /-- Time base of the moment from which the loss timeout counts (R170). -/
  tempFrom : Nat
  derateFlag : Bool
  flagFrom : Nat
  /-- Scene mask in effect since the last boundary (R156). -/
  groupMask : BitVec 8
  /-- Scan entries whose dark-course event has been written since the scan table last applied (R153). -/
  darkNoted : BitVec 16
  /-- Time base at which the latest conversion start was issued, in ns (R159). -/
  lastIssue : Nat
  /-- Starts issued that ADC-A has not yet seen, oldest first. -/
  issued : List IssuedStart
  deriving DecidableEq, Repr

/-! ## Converters and ambient estimator (chapter "Analogue sensing") -/

/-- The request sources of Table AS.4. -/
inductive Source where
  | urgent
  | strobe (m : Fin 4)
  | dark
  | seq
  deriving DecidableEq, Repr

/-- A burst, a sequence or an urgent entry in progress: its source and the entries still to run. -/
structure Work where
  src : Source
  left : List Nat
  deriving DecidableEq, Repr

/-- The running conversion: its entry and source, and whether it is unreferenced (R193). -/
structure Conversion where
  entry : Nat
  src : Source
  unref : Bool
  deriving DecidableEq, Repr

/-- An accumulator with its tracker (R209, R210). -/
structure Accum where
  sum : Int
  count : Nat
  min : Int
  max : Int
  sat : Bool
  out : Bool
  deriving DecidableEq, Repr

/-- One converter. -/
structure Adc where
  conv : Option Conversion
  /-- Work in progress, the one in hand first. -/
  work : List Work
  urgPend : Bool
  strobePend : BitVec 4
  darkPend : Bool
  seqPend : Bool
  /-- A calibration runs; one ordered by CAL_GO waits for the running conversion (R196). -/
  calibrating : Bool
  calWaits : Bool
  calFailed : Bool
  /-- The reference buffer is on and settling; REF_READY_x. -/
  settling : Bool
  refReady : Bool
  acc : Vector Accum 16
  deriving DecidableEq, Repr

/-- The ambient estimator (R213 to R216). -/
structure Estimator where
  running : Bool
  est : Vector (Option Int) 4
  age : Nat
  freshCount : Nat
  stale : Bool
  /-- Slots and values of the dark burst in progress, and whether one of its conversions was unreferenced. -/
  burst : List (Nat × Int)
  burstUnref : Bool
  deriving DecidableEq, Repr
/-! ## Camera ingress, pixel pipeline, decode (chapters "Camera ingress", "Pixel pipeline", "Locating and decoding") -/

/-- One pixel: its samples, one (monochrome, Bayer), three (R, G, B) or two (Y, then U or V). -/
abbrev Pixel := List Nat

/-- What stands in a port's elastic buffer (R238): markers, and packets with the frame they belong to. -/
inductive BufItem where
  | fs (fids : List Nat)
  /-- A line of pixels, of which `taken` have been taken by slices. -/
  | line (fid : Nat) (bytes : List Byte) (taken : Nat)
  | emb (len : Nat)
  | fe (fids : List Nat)
  | close (fid : Nat)
  deriving DecidableEq, Repr

/-- A port. -/
structure Port where
  /-- The receivers are powered, and 20 µs have passed since (R229). -/
  powered : Bool
  usable : Bool
  /-- Channels with a frame open, with the frames open on each. -/
  openVc : List (Fin 16 × List Nat)
  /-- Channels whose frames have all timed out and whose Frame End is still to come. -/
  late : List (Fin 16)
  buf : List BufItem
  /-- Frames whose Frame Start descriptor has yet to reach CORE, a list for each Frame Start. -/
  descs : List (List Nat)
  /-- The clock lane is in high speed; the lanes in ULPS, bit 4 the clock lane. -/
  clkHs : Bool
  ulps : BitVec 5
  deskewSeen : Bool
  ovfSeen : Bool
  deriving DecidableEq, Repr

/-- The evidence that the locator keeps of a tile (R277): the histogram of gradient orientation, the edge density, the run lengths
along lines and columns of the binarised plane, each from the first pixel, and the finder signatures found. -/
structure TileEvidence where
  histogram : List Nat
  density : Nat
  lineRuns : List (List Nat)
  columnRuns : List (List Nat)
  signatures : BitVec 7
  deriving DecidableEq, Repr

/-- A frame of one context, from its Frame Start to its decide notice. -/
structure Frame where
  id : Nat
  port : PortId
  vc : Fin 16
  ctx : CtxId
  dt : BitVec 6
  num : BitVec 16
  /-- Timestamp, taken as the descriptor reaches CORE (R35). -/
  ts : Nat
  /-- Assigned when the descriptor reaches CORE (R236). -/
  fidx : Option Word
  damaged : Bool
  truncated : Bool
  overloaded : Bool
  /-- The overload has been met: later long packets of the frame are discarded (R239). -/
  dropping : Bool
  /-- The context captures embedded data, the bytes captured and whether more came (R237). -/
  embOn : Bool
  emb : List Byte
  embOvf : Bool
  /-- Pixel count of the first line, and lines received. -/
  width : Option Nat
  lines : Nat
  /-- The Frame Start marker, and the close, have reached the pipeline input. -/
  started : Bool
  closed : Bool
  /-- Lines that have passed the pipeline input. -/
  y : Nat
  /-- Black-levelled lines of the region, luma lines and binarised lines produced. -/
  blk : List (List Pixel)
  luma : List (List Nat)
  bits : List (List Bool)
  /-- Region in effect for the frame, clipped to the width once it is known: x0, x1, y0, y1. -/
  rx0 : Nat
  rx1 : Nat
  ry0 : Nat
  ry1 : Nat
  /-- The tap of the frame: sending, and whether its frame start packet is out; lines sent. -/
  tapOn : Bool
  tapStarted : Bool
  tapLines : Nat
  /-- Tile rows with slots, the slots, and the store ran full for the frame (R281). -/
  rows : Nat
  slots : List Nat
  full : Bool
  /-- The apply set "decode kn" of the frame: DEC.SYM_OPT and DEC.ERASE_CONF. -/
  symOpt : BitVec 3
  eraseConf : Nat
  /-- The LOC fields of the frame's set "context kn" (R309): CAND_MAX, SYM_EN, POL, MIN_CONTRAST, MOD_MIN, MOD_MAX. -/
  candMax : Nat
  symEn : BitVec 7
  pol : BitVec 2
  minContrast : Byte
  modMin : BitVec 16
  modMax : BitVec 16
  /-- Evidence by tile row and column, and the candidates found so far: symbology and outline (R277, R278). -/
  evidence : List (List TileEvidence)
  found : List (BitVec 3 × List Pt)
  noticed : Bool
  /-- The closing pass over the last tile row has ended. -/
  passed : Bool
  cands : Nat
  dropCand : Nat
  syms : Nat
  gragas : Nat
  matches_ : Nat
  stitched : Nat
  failed : Nat
  dropRes : Nat
  jxSent : Nat
  deriving DecidableEq, Repr

/-- The ingress and pipeline state of a context (R236, R268). -/
structure Ctx where
  /-- Frame index of the latest indexed frame, whether one has been indexed, and p and w of mode 1. -/
  fidx : Word
  indexed : Bool
  lastNum : BitVec 16
  wraps : Nat
  tapBlocked : Bool
  deriving DecidableEq, Repr

/-- The pipeline input: the port whose turn comes first (R264). -/
structure PipeInput where
  turn : PortId
  deriving DecidableEq, Repr

/-- A tap packet with its destination, a fabric node or `none` for USB (R270, R358). -/
structure TapPkt where
  dest : Option (BitVec 6)
  ctx : CtxId
  /-- A packet that another node forwarded (R471). -/
  forwarded : Bool
  bytes : List Byte
  deriving DecidableEq, Repr

/-- A joint-exchange message (Table MF.4) with its source node. -/
structure JointMsg where
  src : BitVec 6
  sym : Byte
  ctx : Byte
  senderCtx : Byte
  ts : Nat
  corners : List Pt
  bytes : List Byte
  deriving DecidableEq, Repr

/-- A candidate in DECODE. -/
structure Candidate where
  n : Nat
  fid : Nat
  ts : Nat
  info : CandInfo
  /-- This engine samples it for the entry's neighbour, and the entry (R301, R302). -/
  sender : Option Nat
  /-- It waits for a joint-exchange message (R305). -/
  waits : Bool
  /-- Joint exchange ran as it became ready (R311). -/
  joint : Bool
  msgs : List JointMsg
  deriving DecidableEq, Repr

/-- A result (Table LD.5), with its tag once it is in the result queue. -/
structure Result where
  tag : BitVec 12
  ctx : CtxId
  fidx : Word
  ts : Nat
  sym : BitVec 3
  payload : List Byte
  corners : List Pt
  orient : Nat
  tilt : Nat
  module : Nat
  contrast : Nat
  modulation : Nat
  corrected : Nat
  erasures : Nat
  mirrored : Bool
  stitched : Bool
  gs1 : Bool
  light : Bool
  rune : Bool
  match_ : Bool
  cx : Int
  cy : Int
  radius : Nat
  deriving DecidableEq, Repr

/-- A decode core: free, at work on a candidate, or holding a result that the result queue has yet to take. -/
inductive Core where
  | free
  | busy (c : Candidate)
  | holding (fid : Nat) (r : Result)
  deriving DecidableEq, Repr

/-- A decide notice (R308), with the embedded data that travels with the frame (R237). -/
structure Notice where
  tag : BitVec 12
  ctx : CtxId
  fidx : Word
  ts : Nat
  damaged : Bool
  truncated : Bool
  overloaded : Bool
  syms : Nat
  gragas : Nat
  matches_ : Nat
  stitched : Nat
  failed : Nat
  dropCand : Nat
  dropRes : Nat
  jxSent : Nat
  emb : Option (List Byte)
  embOvf : Bool
  deriving DecidableEq, Repr

/-- The decode cluster and the tile store. -/
structure Dec where
  /-- Ready candidates, in the order in which they became ready. -/
  ready : List Candidate
  cores : Vector Core 16
  nextCand : Nat
  /-- Slots retired, and the store words with an uncorrectable error in slots to be retired when freed (R283). -/
  retired : List Nat
  bad : List Nat
  /-- The scrubber: the next word that it reads, and when its period began (R282). -/
  scrub : Nat
  scrubFrom : Nat
  /-- Notices on their way to CORE. -/
  notices : List Notice
  /-- Joint-exchange units delivered by the fabric, messages that wait, and messages matched to a frame. -/
  jxIn : List (BitVec 6 × List Byte)
  jxWait : List JointMsg
  jxFrame : List (Nat × JointMsg)
  /-- Context, timestamp of frames decided of late (R303). -/
  decided : List (CtxId × Nat)
  /-- Outlines of results given, by frame, for R304. -/
  outlines : List (Nat × BitVec 3 × List Pt)
  deriving DecidableEq, Repr

/-! ## Verdict store, records, USB, serial line -/

/-- The verdict store and the verdict port. -/
structure Verdict where
  /-- Verdict words of the store and of the VQ mirror, by query address, default 0. -/
  store : Sparse (BitVec 16)
  mirror : Sparse (BitVec 16)
  /-- The frame index that a written entry of the store holds, default 0. -/
  owner : Sparse Word
  /-- The CORE → VQ queue, and the dirty entries with their frame index (R34). -/
  queue : List (BitVec 14 × BitVec 16)
  dirty : List (BitVec 14 × Word)
  decide_ : List Notice
  nextTag : BitVec 12
  /-- When the head notice came to the head (R320). -/
  headFrom : Nat
  /-- The entry that a decision last wrote, its frame index and the CORE cycle (Table VP.5). -/
  lastDecision : Option (BitVec 14 × Word × Nat)
  /-- VQ_ACT, and the rising edges of VQ_CLK since the engine holds the port, up to 3 (R328). -/
  act : Bool
  enSync : Nat
  /-- The CORE cycle of the last change of VQ_ACT, and the level that CORE saw before it (Table PV.3). -/
  actCycle : Nat
  actBefore : Bool
  /-- Query address as last presented. -/
  addr : BitVec 14
  /-- Level of VQ_BACKLOG when last looked at. -/
  backlog : Bool
  deriving DecidableEq, Repr

/-- A result taken into its frame's record, and whether without its payload (R342). -/
structure Taken where
  res : Result
  bare : Bool
  deriving DecidableEq, Repr

/-- The record former. -/
structure Former where
  results : List Result
  nextTag : BitVec 12
  taken : List Taken
  seqNext : Word
  /-- Frame records a standby holds without a sequence number, in order of decision (R428). -/
  held : List (List Byte)
  watch : List (BitVec 64)
  deriving DecidableEq, Repr

/-- An entry of a replay cache (R361). -/
structure CacheEntry where
  session : Byte
  tag : BitVec 16
  setup : List Byte
  response : List Byte
  complete : Bool
  deriving DecidableEq, Repr

/-- What the control endpoint answered last. -/
inductive Answer where
  | none
  | data (bytes : List Byte)
  | done
  | stall
  deriving DecidableEq, Repr

/-- The USB function. -/
structure Usb where
  attached : Bool
  /-- 1 full, 2 high, 3 SuperSpeed; 0 while detached. -/
  speed : Nat
  configured : Bool
  suspended : Bool
  /-- VBUS present after its debounce. -/
  vbus : Bool
  address : BitVec 7
  halted1 : Bool
  halted2 : Bool
  /-- The test mode entered, 0 for none; it ends with the attachment (R352). -/
  testMode : Byte
  /-- The queue, oldest first, and how many of its records lie before the send pointer. -/
  queue : List QRec
  next : Nat
  /-- A bulk transfer of the engine's own record is in progress, and an acknowledgement waits for its end. -/
  busy : Bool
  busyAcked : Bool
  /-- The newest record sent, and whether any has been sent since boot (Table UR.11). -/
  sentSeq : Word
  sentAny : Bool
  session : Byte
  cache : List CacheEntry
  note : Word
  noteHigh : Bool
  answer : Answer
  /-- The tap queue, shared by all taps (R271). -/
  taps : List TapPkt
  deriving DecidableEq, Repr

/-- A record in the serial queue: its Form 2 bytes, bit 0 of the status byte, and the bytes once it has been sent. -/
structure SerRec where
  rec2 : List Byte
  noListener : Bool
  urgent : Bool
  wire : Option (List Byte)
  sent : Bool
  deriving DecidableEq, Repr

/-- A response still to send (Table SL.5): its requester, the request's payload, and its own payload. -/
structure SerResponse where
  to_ : BitVec 7
  key : List Byte
  bytes : List Byte
  deriving DecidableEq, Repr

/-- What the serial line is doing. -/
inductive SerPhase where
  | idle
  /-- A RECORD frame, or a RESPONSE frame, is on the line. -/
  | record
  | response
  /-- The acknowledgement window is open. -/
  | window
  /-- A retry waits for its start; the engine waits out a backoff. -/
  | retry
  | backoff
  deriving DecidableEq, Repr

/-- The serial line. -/
structure Ser where
  queue : List SerRec
  next : Nat
  phase : SerPhase
  retries : Nat
  backoffMs : Nat
  noListener : Bool
  /-- The arbitration sample of the frame on the line has passed. -/
  arbDone : Bool
  /-- When the frame on the line started. -/
  frameFrom : Nat
  /-- The record on the line has left the queue, by a timely cancel or an acknowledgement. -/
  withdrawn : Bool
  /-- The head record has been cancelled late. -/
  lateCancel : Bool
  /-- A RESTART frame arrived while a record was on the line. -/
  restartDue : Bool
  superseded : Bool
  dropped : Bool
  sentSeq : Word
  /-- A record has been sent since boot. -/
  sentAny : Bool
  session : Byte
  cache : List CacheEntry
  /-- Responses still to send, the one on the line first. -/
  responses : List SerResponse
  note : Word
  noteHigh : Bool
  deriving DecidableEq, Repr

/-! ## Bonded pair (chapter "Bonded pair: mirroring and takeover") -/

/-- The pair states of Table BP.3, with `solo` for an engine without a pair role. -/
inductive PairMode where
  | solo | wait | standby | active | halted
  deriving DecidableEq, Repr

/-- The pair unit. -/
structure Pair where
  mode : PairMode
  linkUp : Bool
  hbSeen : Bool
  synced : Bool
  disarmed : Bool
  roleConflict : Bool
  resync : Bool
  lastUnsynced : Bool
  /-- The role that R427 assigns, or that a wake takes over from before sleep: second (`true`). -/
  second : Bool
  hello : Option HelloMsg
  resEnd : Word
  lastMirrored : Word
  /-- The block of sequence numbers reserved ends here; a RESERVE is outstanding. -/
  blockEnd : Word
  asked : Bool
  stepDown : Bool
  /-- Time base at which the engine became active by takeover, and a conflict is in progress. -/
  activeFrom : Option Nat
  conflict : Bool
  /-- Messages sent and not acknowledged, oldest first, each with its link sequence. -/
  out : List (Nat × PairMsg)
  txSeq : Nat
  words : List Word
  /-- The state before sleep: active, standby. -/
  wasActive : Bool
  wasStandby : Bool
  deriving DecidableEq, Repr

/-! ## Mortar fabric -/

/-- A mortar port. -/
structure MorPort where
  lock0 : Bool
  lock1 : Bool
  up : Bool
  degraded : Bool
  exch : Bool
  pol : Bool
  peer : Option (BitVec 64)
  helloSent : Bool
  helloSeen : Bool
  /-- Frames sent and not acknowledged, with their link sequence; next to send and next to accept. -/
  out : List (BitVec 16 × LinkItem)
  txSeq : BitVec 16
  rxSeq : BitVec 16
  delays : List Int
  /-- What the port sent last: the time of a DELAY_REQ, of a DELAY_RESP, and a TIME frame (valid, time, offset). -/
  sentReq : Option Nat
  sentResp : Option Nat
  /-- Messages that wait for a lane, in the order in which they reached the egress (R454). -/
  queue : List MorMsg
  /-- Slots since class 2, and class 3, was last served while it waits (R38). -/
  skipped2 : Nat
  skipped3 : Nat
  /-- The lane that carries the next message is lane 1, and the CORE cycle from which each lane is free (R441, R444). -/
  laneTurn : Bool
  laneFree : Nat × Nat
  sentTime : Option (Bool × Nat × Int)
  deriving DecidableEq, Repr

/-- A flow that this node sends (R456). -/
structure OutFlow where
  dst : BitVec 6
  cls : Byte
  seq : BitVec 16
  restart : Bool
  deriving DecidableEq, Repr

/-- A flow that this node receives (R458 to R461): expected sequence (`none` before a restart), waiting messages,
whether the flow is broken, whether BROKEN has been sent, and the fragments of the unit in progress. -/
structure InFlow where
  src : BitVec 6
  cls : Byte
  expect : Option (BitVec 16)
  waiting : List MorMsg
  brokenSent : Bool
  frags : List MorMsg
  deriving DecidableEq, Repr

/-- The mortar fabric. -/
structure Fabric where
  ports : Vector MorPort 4
  id : Option (BitVec 6)
  discovered : Bool
  conflict : Bool
  nodes : List Announce
  bindings : List (BitVec 64 × BitVec 6)
  annNum : Nat
  annIn : List (MorId × Announce)
  outFlows : List OutFlow
  inFlows : List InFlow
  /-- Messages that wait for a route (R451). -/
  wait : List MorMsg
  /-- Units delivered and not yet handled: source, kind, payload. -/
  inbox : List (BitVec 6 × Byte × List Byte)
  words : List (BitVec 6 × Word)
  /-- The fabric gateway queue, its send pointer, and the highest sequence delivered. -/
  gw : List QRec
  gwNext : Nat
  delivered : Word
  /-- A DELIVERED has come since boot. -/
  deliveredAny : Bool
  /-- The forward queue of a gateway: origin and record. -/
  fwd : List (BitVec 6 × List Byte)
  /-- A forwarded record is in transfer on endpoint 0x81; the next turn is the forward queue's. -/
  fwdBusy : Bool
  fwdTurn : Bool
  deriving DecidableEq, Repr


/-! ## The state -/

/-- Why the engine model stops. No command of the table stops: a happening that the present state rules out
leaves the state as it is. -/
inductive Fault where
  /-- No command raises it: kept so that the type is inhabited. Safe. -/
  | none
  deriving DecidableEq, Repr

/-- Why a command has no meaning. -/
inductive Refusal where
  /-- Raised by `exec` for a command whose meaning is not written; safe. -/
  | notModelled (mnemonic : String)
  deriving DecidableEq, Repr

structure State where
  /-- The commands that wait, first in first out. -/
  pending : List Instr
  identity : Identity
  aon : Aon
  pins : Pins
  phase : Phase
  boot : Boot
  sys : Sys
  balls : Balls
  /-- The stored configuration fields; an unlisted field holds its Reset entry (Tables FM.4 to FM.19). -/
  fields : Sparse Word
  /-- Shadowed writes, oldest first. -/
  shadow : List Pend
  trowels : Vector Trowel 4
  faulted : Option FaultCycle
  bb : BlackBox
  tap : Tap
  time : TimeUnit
  thermal : Thermal
  light : Light
  adcA : Adc
  adcB : Adc
  amb : Estimator
  ports : Vector Port 4
  frames : List Frame
  nextFrame : Nat
  pipe : PipeInput
  ctxs : Vector Ctx 8
  dec : Dec
  vs : Verdict
  former : Former
  usb : Usb
  ser : Ser
  pair : Pair
  fab : Fabric
  /-- The model's own counter for free values. -/
  fresh : Nat
  deriving DecidableEq, Repr

/-! ## Reset -/

/-- A trowel before trowel start.
Log 6 (DESIGN CHOICE). -/
def Trowel.idle : Trowel :=
  { imem := [], dmem := [], dataErr := [], codeErr := [], codeSoft := [], w := Vector.replicate 16 0
    z := false, n := false, c := false, v := false, pc := 0, rstack := [], pending := 0, overrun := 0, wq := []
    group := none, mail := [], timer := 0, cycles := 0, wdCount := 0, refused := false, refAddr := 0, refReason := 0
    refCount := 0, latch := ⟨0, 0, 0, 0⟩, status := .stopped }

/-- A candidate that no sample has seeded. -/
def Cand.unseeded : Cand := ⟨none, 0, [], 0, false, 0, 0⟩

/-- The LIGHT unit, dark.
Log 6 (DESIGN CHOICE). -/
def Light.idle : Light :=
  { stage := .rest, course := none, courseFrom := 0, nextEntry := 0, codes := List.replicate 16 0, pulses := Vector.replicate 8 .none
    armed := Vector.replicate 8 0, curves := Vector.replicate 8 none, derateUsed := 256, darkOpen := false
    darkQual := false, darkIssued := false, darkCount := 0, courseLit := false, courseQual := false, slotNext := false
    opens := [], overs := [], zeros := [], zeroFrom := List.replicate 16 0, zeroSeen := 0, relight := false, joinFrom := none
    sweep := none, sweepDue := false, slotUsed := false, starved := false, overrunSeen := false
    tf := -32768, tempValid := false, tempLost := false, tempFrom := 0, derateFlag := false, flagFrom := 0
    groupMask := 0, darkNoted := 0, lastIssue := 0, issued := [] }

/-- A converter with nothing in hand.
Log 6 (DESIGN CHOICE). -/
def Adc.idle : Adc :=
  { conv := none, work := [], urgPend := false, strobePend := 0, darkPend := false, seqPend := false
    calibrating := false, calWaits := false, calFailed := false, settling := false, refReady := false
    acc := Vector.replicate 16 ⟨0, 0, 0, 0, false, false⟩ }

/-- A port without power.
Log 6 (DESIGN CHOICE). -/
def Port.idle : Port := ⟨false, false, [], [], [], [], false, 0, false, false⟩

/-- A mortar port that is down.
Log 6 (DESIGN CHOICE). -/
def MorPort.down : MorPort :=
  ⟨false, false, false, false, false, false, none, false, false, [], 0, 0, [], none, none, [], 0, 0, false, (0, 0), none⟩

/-- The engine right after reset: an EVR-8480 of stepping B1 with its rails up and PWR_OK still low, every ball in its
Reset state, an empty queue. Fields hold their Reset entries, counts are 0, memories are empty.
Log 4 (DESIGN CHOICE), 5 (DESIGN CHOICE), 6 (DESIGN CHOICE). -/
def State.reset : State :=
  { pending := []
    identity := { variant := .evr8480, stepping := .b1, serial := 0, keyDigest := List.replicate 32 0 }
    aon := { slowQualified := false, sleepRx := none, calTemp := none, sleepFlag := false, vddLost := true
             wakeHeld := false }
    pins := { pwrOk := false, resetN := true, ltEn := true, vqSelN := true, vbus := false }
    phase := .held
    boot := { strapDone := false, otpDone := false, calDone := false, sfdpDone := false, loadDone := false
              sigDone := false, started := false, neighDone := false, fabricDone := false, pairDone := false
              lastNs := 0, otpNs := 0, loadNs := 0, sfdp := none, mode := .single, raw := [], recipe := none, contentBad := false
              neighLeft := [], sleepHeld := false }
    sys := { straps := List.replicate 20 15, unstable := 0, enabled := 0, bootCause := 1, recipeSrc := 0, recipeId := 0
             recipeRev := 0, sealedOk := false, failCode := 0, sceneActive := 0, sceneReq := 0, scenePending := false
             sceneDone := 0, sleepAck := 0, wakeCause := 0, scenes := [], sleepWait := false, sleepStep := 0
             wakeStep := 0 }
    balls := { ready := false, faultLow := false, ltFaultLow := false, syncOut := false, hbLeft := 0 }
    fields := []
    shadow := []
    trowels := Vector.replicate 4 Trowel.idle
    faulted := none
    bb := { ring := [], queue := [], lostPending := false, written := 0, frozen := false, emptied := false
            mbistEmptied := false, freezeCause := 0, freezeNs := 0, firstMarked := false }
    tap := { ir := .idcode, boundary := [], captured := [], fieldVal := 0, latch := ⟨0, 0, 0, 0⟩, mbistSel := none
             mbistResult := 0, destroyed := 0, destroyedAt := 0 }
    time := { ns := 0, frac := 0, core := 0, hold := 0, rate := 0, baseRate := 0, sel := .crystal, mode := .free
              set := false, target := none, slewLeft := 0, holdFrom := 0, fabric := Cand.unseeded
              syncIn := Cand.unseeded, partner := Cand.unseeded, xrefOff := false
              slowCycles := 781250 }
    thermal := { td := none, warn := false, shutdown := false, warnFrom := 0, shutFrom := 0 }
    light := Light.idle
    adcA := Adc.idle
    adcB := Adc.idle
    amb := { running := false, est := Vector.replicate 4 none, age := 0, freshCount := 0, stale := true, burst := []
             burstUnref := false }
    ports := Vector.replicate 4 Port.idle
    frames := []
    nextFrame := 0
    pipe := ⟨0⟩
    ctxs := Vector.replicate 8 ⟨0, false, 0, 0, false⟩
    dec := { ready := [], cores := Vector.replicate 16 .free, nextCand := 0, retired := [], bad := [], scrub := 0, scrubFrom := 0, notices := []
             jxIn := [], jxWait := [], jxFrame := [], decided := [], outlines := [] }
    vs := { store := [], mirror := [], owner := [], queue := [], dirty := [], decide_ := [], nextTag := 0, headFrom := 0
            lastDecision := none, act := false, enSync := 0, actCycle := 0, actBefore := false, addr := 0
            backlog := false }
    former := { results := [], nextTag := 0, taken := [], seqNext := 0, held := [], watch := [] }
    usb := { attached := false, speed := 0, configured := false, suspended := false, vbus := false, address := 0
             halted1 := false, halted2 := false, testMode := 0, queue := [], next := 0, busy := false, busyAcked := false
             sentSeq := 0xFFFFFFFF, sentAny := false, session := 0, cache := [], note := 0, noteHigh := false, answer := .none
             taps := [] }
    ser := { queue := [], next := 0, phase := .idle, retries := 0, backoffMs := 0, noListener := false, arbDone := false
             frameFrom := 0, withdrawn := false, lateCancel := false, restartDue := false, superseded := false, dropped := false
             sentSeq := 0xFFFFFFFF, sentAny := false, session := 0, cache := [], responses := [], note := 0, noteHigh := false }
    pair := { mode := .solo, linkUp := false, hbSeen := false, synced := false, disarmed := false, roleConflict := false
              resync := false, lastUnsynced := false, second := false, hello := none, resEnd := 0, lastMirrored := 0
              blockEnd := 0, asked := false, stepDown := false, activeFrom := none, conflict := false, out := []
              txSeq := 0, words := [], wasActive := false, wasStandby := false }
    fab := { ports := Vector.replicate 4 MorPort.down, id := none, discovered := false, conflict := false, nodes := []
             bindings := [], annNum := 0, annIn := [], outFlows := [], inFlows := [], wait := [], inbox := [], words := []
             gw := [], gwNext := 0, delivered := 0xFFFFFFFF, deliveredAny := false, fwd := [], fwdBusy := false, fwdTurn := false }
    fresh := 0 }

end Sys2Proof.Machine
end

