-- ==== Sys2Proof/Machine/Fields.lean ====
section
/-! DEFINITION. The field map (chapter "Field map"): the address of every field, the tables of their widths,
reset values and classes, the blocks with their owners, and the ranges that read zero. -/

namespace Sys2Proof.Machine

/-- The block of converter `c` (Table FM.1). -/
def adcBase : Conv → Nat
  | .a => 0x2000
  | .b => 0x2800

/-- The block of CSI port `p`. -/
def csiBase (p : Fin 4) : Nat := 0x4000 + 0x100 * p.val

/-- The block of context `k`. -/
def ctxBase (k : Fin 8) : Nat := 0x4800 + 0x100 * k.val

/-- The block of mortar port `m`. -/
def morBase (m : Fin 4) : Nat := 0x8400 + 0x100 * m.val

/-! ### Addresses of the fields (Tables FM.4 to FM.19) -/

namespace Fld

def sysStrapA : Nat := 0x0
def sysStrapB : Nat := 0x1
def sysStrapC : Nat := 0x2
def sysStrapUnstable : Nat := 0x3
def sysPresent : Nat := 0x4
def sysEnabled : Nat := 0x5
def sysPart : Nat := 0x6
def sysStepping : Nat := 0x7
def sysBootCause : Nat := 0x8
def sysRecipeSrc : Nat := 0x9
def sysRecipeId : Nat := 0xA
def sysRecipeRev : Nat := 0xB
def sysSealed : Nat := 0xC
def sysFailCode : Nat := 0xD
def sysBbTrig : Nat := 0xE
def sysSceneActive : Nat := 0x10
def sysSceneReq : Nat := 0x11
def sysSceneEntry : Nat := 0x12
def sysSceneDone : Nat := 0x13
def sysSleepGo : Nat := 0x18
def sysSleepAck : Nat := 0x19
def sysSleepAddr : Nat := 0x1A
def sysSleepRate : Nat := 0x1B
def sysWakeCause : Nat := 0x1C
def trwWdLimit (i : Nat) : Nat := 0x100 + i
def lightEnable : Nat := 0x1000
def lightLines : Nat := 0x1001
def lightBlankNs : Nat := 0x1002
def lightDischNs : Nat := 0x1003
def lightDischCode : Nat := 0x1004
def lightScanLen : Nat := 0x1005
def lightScanPeriodNs : Nat := 0x1006
def lightScanPhaseNs : Nat := 0x1007
def lightGrpFire : Nat := 0x1008
def lightGrpAon : Nat := 0x1009
def lightFbHold : Nat := 0x100A
def lightCrvGo : Nat := 0x100B
def lightSenseDlyNs : Nat := 0x100C
def lightFdEn : Nat := 0x100D
def lightDarkOfsNs : Nat := 0x100E
def lightNtFast : Nat := 0x100F
def lightScan (i : Nat) : Nat := 0x1010 + i
def lightSls (i : Nat) : Nat := 0x1020 + i
def lightBoardTemp : Nat := 0x1030
def lightKneeC : Nat := 0x1031
def lightTmaxC : Nat := 0x1032
def lightTempTmoMs : Nat := 0x1033
def lightTempLostDer : Nat := 0x1034
def lightTempFilt : Nat := 0x1035
def lightDerate : Nat := 0x1036
def lightGrpMode (i : Nat) : Nat := 0x1040 + i
def lightGrpSet (i : Nat) : Nat := 0x1048 + i
def lightGrpOfs (i : Nat) : Nat := 0x1050 + i
def lightGrpW (i : Nat) : Nat := 0x1058 + i
def lightGrpFb (i : Nat) : Nat := 0x1060 + i
def lightCrvShape (i : Nat) : Nat := 0x1068 + i
def lightCrvTgt (i : Nat) : Nat := 0x1070 + i
def lightCrvSteps (i : Nat) : Nat := 0x1078 + i
def lightCrvLvl (i : Nat) : Nat := 0x1080 + i
def lightTrim (i : Nat) : Nat := 0x10A0 + i
def lightLamp (i : Nat) : Nat := 0x1100 + i
def lightBin (i : Nat) : Nat := 0x1180 + i
def lightFailed (i : Nat) : Nat := 0x1200 + i
def lightKilled : Nat := 0x1204
def lightPinFail : Nat := 0x1205
def lightLastFault : Nat := 0x1206
def lightStatus : Nat := 0x1207
def lightPending : Nat := 0x1208
def lightClipCount : Nat := 0x1209
def lightOverrunCount : Nat := 0x120A
def lightFdCount : Nat := 0x120B
def lightPinFailLn : Nat := 0x120C
def adcEnable (c : Conv) : Nat := adcBase c + 0x0
def adcRefEn (c : Conv) : Nat := adcBase c + 0x1
def adcUrgEntry (c : Conv) : Nat := adcBase c + 0x2
def adcBoardEntry (c : Conv) : Nat := adcBase c + 0x3
def adcSeqGo (c : Conv) : Nat := adcBase c + 0x4
def adcCalGo (c : Conv) : Nat := adcBase c + 0x5
def adcTrkEn (c : Conv) : Nat := adcBase c + 0x6
def adcAccSnap (c : Conv) : Nat := adcBase c + 0x7
def adcAccClear (c : Conv) : Nat := adcBase c + 0x8
def adcEntry (c : Conv) (i : Nat) : Nat := adcBase c + 0x10 + i
def adcCorrOfs (c : Conv) (i : Nat) : Nat := adcBase c + 0x20 + i
def adcCorrGain (c : Conv) (i : Nat) : Nat := adcBase c + 0x40 + i
def adcTrkLo (c : Conv) (i : Nat) : Nat := adcBase c + 0x60 + i
def adcTrkHi (c : Conv) (i : Nat) : Nat := adcBase c + 0x70 + i
def adcSnapSumLo (c : Conv) : Nat := adcBase c + 0x80
def adcSnapSumHi (c : Conv) : Nat := adcBase c + 0x81
def adcSnapCount (c : Conv) : Nat := adcBase c + 0x82
def adcSnapMin (c : Conv) : Nat := adcBase c + 0x83
def adcSnapMax (c : Conv) : Nat := adcBase c + 0x84
def adcSnapFlags (c : Conv) : Nat := adcBase c + 0x85
def adcCalOfs (c : Conv) (i : Nat) : Nat := adcBase c + 0x88 + i
def adcCalGain (c : Conv) (i : Nat) : Nat := adcBase c + 0x90 + i
def adcStatus (c : Conv) : Nat := adcBase c + 0xA0
def adcPending (c : Conv) : Nat := adcBase c + 0xA1
def adcStartIgnCount (c : Conv) : Nat := adcBase c + 0xA2
def adcUrgIgnCount (c : Conv) : Nat := adcBase c + 0xA3
def adcReqLostCount (c : Conv) : Nat := adcBase c + 0xA4
def adcUnrefCount (c : Conv) : Nat := adcBase c + 0xA5
def adcPreemptCount (c : Conv) : Nat := adcBase c + 0xA6
def adcSeqAbortCount (c : Conv) : Nat := adcBase c + 0xA7
def ambEnable : Nat := 0x3000
def ambFilt : Nat := 0x3001
def ambSlsSel : Nat := 0x3002
def ambStaleStarts : Nat := 0x3003
def ambState : Nat := 0x3004
def ambAge : Nat := 0x3005
def ambEstCount : Nat := 0x3006
def ambStaleCount : Nat := 0x3007
def csiEnable (p : Fin 4) : Nat := csiBase p + 0x0
def csiLanes (p : Fin 4) : Nat := csiBase p + 0x1
def csiRateMbps (p : Fin 4) : Nat := csiBase p + 0x2
def csiLanePol (p : Fin 4) : Nat := csiBase p + 0x3
def csiVcEn (p : Fin 4) : Nat := csiBase p + 0x4
def csiStatus (p : Fin 4) : Nat := csiBase p + 0x8
def csiOpenVc (p : Fin 4) : Nat := csiBase p + 0x9
def csiBufLevel (p : Fin 4) : Nat := csiBase p + 0xA
def csiBufHwm (p : Fin 4) : Nat := csiBase p + 0xB
def csiFrameCount (p : Fin 4) : Nat := csiBase p + 0xC
def csiHdrCorrCount (p : Fin 4) : Nat := csiBase p + 0x10
def csiHdrUncorrCount (p : Fin 4) : Nat := csiBase p + 0x11
def csiSotErrCount (p : Fin 4) : Nat := csiBase p + 0x12
def csiShortPktCount (p : Fin 4) : Nat := csiBase p + 0x13
def csiFormatErrCount (p : Fin 4) : Nat := csiBase p + 0x14
def csiOrphanCount (p : Fin 4) : Nat := csiBase p + 0x15
def csiVcIgnCount (p : Fin 4) : Nat := csiBase p + 0x16
def csiDtIgnCount (p : Fin 4) : Nat := csiBase p + 0x17
def csiMissingFeCount (p : Fin 4) : Nat := csiBase p + 0x18
def csiLateFeCount (p : Fin 4) : Nat := csiBase p + 0x19
def csiOvfCount (p : Fin 4) : Nat := csiBase p + 0x1A
def csiDeskewCount (p : Fin 4) : Nat := csiBase p + 0x1B
def csiCrcErrCount (p : Fin 4) (i : Nat) : Nat := csiBase p + 0x20 + i
def ctxEnable (k : Fin 8) : Nat := ctxBase k + 0x0
def ctxSrc (k : Fin 8) : Nat := ctxBase k + 0x1
def ctxFidxMode (k : Fin 8) : Nat := ctxBase k + 0x2
def ctxFeTmoUs (k : Fin 8) : Nat := ctxBase k + 0x3
def ctxCfa (k : Fin 8) : Nat := ctxBase k + 0x4
def ctxBinMode (k : Fin 8) : Nat := ctxBase k + 0x5
def ctxBinFix (k : Fin 8) : Nat := ctxBase k + 0x6
def ctxBinOfs (k : Fin 8) : Nat := ctxBase k + 0x7
def ctxBinLo (k : Fin 8) : Nat := ctxBase k + 0x8
def ctxBinHi (k : Fin 8) : Nat := ctxBase k + 0x9
def ctxRoiX (k : Fin 8) : Nat := ctxBase k + 0xA
def ctxRoiY (k : Fin 8) : Nat := ctxBase k + 0xB
def ctxHomogEn (k : Fin 8) : Nat := ctxBase k + 0xC
def ctxTap (k : Fin 8) : Nat := ctxBase k + 0xD
def ctxBl (k : Fin 8) (i : Nat) : Nat := ctxBase k + 0x10 + i
def ctxWbGain (k : Fin 8) (i : Nat) : Nat := ctxBase k + 0x14 + i
def ctxCcm (k : Fin 8) (i : Nat) : Nat := ctxBase k + 0x18 + i
def ctxTone (k : Fin 8) (i : Nat) : Nat := ctxBase k + 0x40 + i
def ctxPending (k : Fin 8) : Nat := ctxBase k + 0x80
def ctxStatus (k : Fin 8) : Nat := ctxBase k + 0x81
def ctxFidx (k : Fin 8) : Nat := ctxBase k + 0x82
def ctxDamagedCount (k : Fin 8) : Nat := ctxBase k + 0x83
def ctxTruncCount (k : Fin 8) : Nat := ctxBase k + 0x84
def ctxFrameW (k : Fin 8) : Nat := ctxBase k + 0x85
def ctxFrameH (k : Fin 8) : Nat := ctxBase k + 0x86
def ctxPixCount (k : Fin 8) : Nat := ctxBase k + 0x87
def ctxTapDropCount (k : Fin 8) : Nat := ctxBase k + 0x88
def locEnable : Nat := 0x5000
def locStatus : Nat := 0x5001
def locSymEn (i : Nat) : Nat := 0x5010 + i
def locPol (i : Nat) : Nat := 0x5018 + i
def locMinContrast (i : Nat) : Nat := 0x5020 + i
def locModMin (i : Nat) : Nat := 0x5028 + i
def locModMax (i : Nat) : Nat := 0x5030 + i
def locCandMax (i : Nat) : Nat := 0x5038 + i
def locCandCount (i : Nat) : Nat := 0x5040 + i
def locCandDropCount (i : Nat) : Nat := 0x5048 + i
def decEnable : Nat := 0x5800
def decScrubMs : Nat := 0x5801
def decJxWaitUs : Nat := 0x5802
def decJxWindowNs : Nat := 0x5803
def decPending : Nat := 0x5804
def decSlotsFree : Nat := 0x5805
def decSlotsRetired : Nat := 0x5806
def decSymOpt (i : Nat) : Nat := 0x5810 + i
def decEraseConf (i : Nat) : Nat := 0x5818 + i
def decTileCap (i : Nat) : Nat := 0x5820 + i
def decJxOvlX (i : Nat) : Nat := 0x5840 + i
def decJxOvlY (i : Nat) : Nat := 0x5860 + i
def decEccCorrCount : Nat := 0x5880
def decEccUncorrCount : Nat := 0x5881
def decStoreFullCount : Nat := 0x5882
def decDecodedCount : Nat := 0x5883
def decFailCount : Nat := 0x5884
def decSymDropCount : Nat := 0x5885
def decJxSentCount : Nat := 0x5886
def decJxStitchedCount : Nat := 0x5887
def decJxNosendCount : Nat := 0x5888
def decJxLateCount : Nat := 0x5889
def decJxUnusedCount : Nat := 0x588A
def decJxDropCount : Nat := 0x588B
def wlEnable : Nat := 0x6000
def wlSymMask : Nat := 0x6001
def wlCount : Nat := 0x6002
def wlLookupCount : Nat := 0x6003
def wlMatchCount : Nat := 0x6004
def vsVqEn : Nat := 0x6100
def vsAutoUs : Nat := 0x6101
def vsAutoClass : Nat := 0x6102
def vsDecide : Nat := 0x6103
def vsPeekAddr : Nat := 0x6104
def vsPeekData : Nat := 0x6105
def vsNtcTag : Nat := 0x6110
def vsNtcCtx : Nat := 0x6111
def vsNtcFidx : Nat := 0x6112
def vsNtcTsLo : Nat := 0x6113
def vsNtcTsHi : Nat := 0x6114
def vsNtcMarks : Nat := 0x6115
def vsNtcSym : Nat := 0x6116
def vsNtcMatch : Nat := 0x6117
def vsNtcLoss : Nat := 0x6118
def vsNtcJx : Nat := 0x6119
def vsStatus : Nat := 0x6120
def vsDecidedCount : Nat := 0x6121
def vsAutoCount : Nat := 0x6122
def vsDecideStaleCount : Nat := 0x6123
def vsLappedCount : Nat := 0x6124
def vsBacklogCount : Nat := 0x6125
def recEnable : Nat := 0x6200
def recLinks : Nat := 0x6201
def recHkSend : Nat := 0x6202
def recResTake : Nat := 0x6203
def recResTag : Nat := 0x6210
def recResCtx : Nat := 0x6211
def recResFidx : Nat := 0x6212
def recResSym : Nat := 0x6213
def recResFlags : Nat := 0x6214
def recResPlen : Nat := 0x6215
def recResPay (i : Nat) : Nat := 0x6218 + i
def recSeqNext : Nat := 0x6220
def recFormedCount : Nat := 0x6221
def recTakeStaleCount : Nat := 0x6222
def recHkWord (i : Nat) : Nat := 0x6240 + i
def usbEnable : Nat := 0x8000
def usbReqNoteAck : Nat := 0x8001
def usbTapEn : Nat := 0x8002
def usbState : Nat := 0x8010
def usbSession : Nat := 0x8011
def usbQueueLevel : Nat := 0x8012
def usbOldestSeq : Nat := 0x8013
def usbSentSeq : Nat := 0x8014
def usbReqNote : Nat := 0x8015
def usbDropCount : Nat := 0x8020
def usbBusResetCount : Nat := 0x8021
def usbReplayHitCount : Nat := 0x8022
def usbTagConflictCount : Nat := 0x8023
def usbNoteLostCount : Nat := 0x8024
def serEnable : Nat := 0x8100
def serAddr : Nat := 0x8101
def serP2pAck : Nat := 0x8102
def serUrgentClass : Nat := 0x8103
def serReqNoteAck : Nat := 0x8104
def serState : Nat := 0x8110
def serBackoffMs : Nat := 0x8111
def serQueueLevel : Nat := 0x8112
def serOldestSeq : Nat := 0x8113
def serSentSeq : Nat := 0x8114
def serSession : Nat := 0x8115
def serReqNote : Nat := 0x8116
def serDropCount : Nat := 0x8120
def serReplayHitCount : Nat := 0x8121
def serTagConflictCount : Nat := 0x8122
def serCancel : Nat := 0x8180
def serRateDiv : Nat := 0x8181
def serLostArbCount : Nat := 0x8190
def serCollisionCount : Nat := 0x8191
def serLineFaultCount : Nat := 0x8192
def serParityErrCount : Nat := 0x8193
def serFramingErrCount : Nat := 0x8194
def serCrcErrCount : Nat := 0x8195
def serRetryCount : Nat := 0x8196
def serCancelCount : Nat := 0x8197
def serLateCancelCount : Nat := 0x8198
def morEnable (m : Fin 4) : Nat := morBase m + 0x0
def morState (m : Fin 4) : Nat := morBase m + 0x1
def morPeer (m : Fin 4) : Nat := morBase m + 0x2
def morDelayNs (m : Fin 4) : Nat := morBase m + 0x3
def morRetxCount (m : Fin 4) : Nat := morBase m + 0x4
def morCrcErrCount (m : Fin 4) : Nat := morBase m + 0x5
def morDownCount (m : Fin 4) : Nat := morBase m + 0x6
def morNodeId : Nat := 0x8410
def morFabState : Nat := 0x8411
def morGwNode : Nat := 0x8412
def morGmEn : Nat := 0x8413
def morGmId : Nat := 0x8414
def morTxDest : Nat := 0x8415
def morTxMsg : Nat := 0x8416
def morRxMsg : Nat := 0x8417
def morRxSrc : Nat := 0x8418
def morRxAck : Nat := 0x8419
def morGwLevel : Nat := 0x841A
def morGwDelivered : Nat := 0x841B
def morFwdCount : Nat := 0x841C
def morGwDropCount : Nat := 0x841D
def morDupCount : Nat := 0x8420
def morReorderDropCount : Nat := 0x8421
def morBrokenCount : Nat := 0x8422
def morHopDropCount : Nat := 0x8423
def morUnreachDropCount : Nat := 0x8424
def morKindDropCount : Nat := 0x8425
def morTapDiscardCount : Nat := 0x8426
def morMsgDropCount : Nat := 0x8427
def morRoute (i : Nat) : Nat := 0x8440 + i
def morAdj (i : Nat) : Nat := 0x8480 + i
def pairEnable : Nat := 0x8800
def pairArm : Nat := 0x8801
def pairAccMirrorUs : Nat := 0x8802
def pairTxMsg : Nat := 0x8803
def pairRxAck : Nat := 0x8804
def pairRxMsg : Nat := 0x8810
def pairState : Nat := 0x8811
def pairPartnerSerialLo : Nat := 0x8812
def pairPartnerSerialHi : Nat := 0x8813
def pairResEnd : Nat := 0x8814
def pairLastMirrored : Nat := 0x8815
def pairTakeoverCount : Nat := 0x8820
def pairConflictCount : Nat := 0x8821
def pairResyncCount : Nat := 0x8822
def pairLinkDownCount : Nat := 0x8823
def pairUnreservedCount : Nat := 0x8824
def timeCandEn : Nat := 0x8900
def timeSyncPeriodNs : Nat := 0x8901
def timeSyncPhaseNs : Nat := 0x8902
def timeHoldMaxS : Nat := 0x8903
def timeSoutMode : Nat := 0x8904
def timeSoutPeriodNs : Nat := 0x8905
def timeSoutPhaseNs : Nat := 0x8906
def timeSoutWNs : Nat := 0x8907
def timeState : Nat := 0x8910
def timeCandState : Nat := 0x8911
def timeOffsetNs : Nat := 0x8912
def timeRatePpb : Nat := 0x8913
def timeSetStepNs : Nat := 0x8914
def timeSwitchCount : Nat := 0x8918
def timeLossCount : Nat := 0x8919
def timeAbandonCount : Nat := 0x891A
def timeOutlierCount : Nat := 0x891B
def bbStatus : Nat := 0x8A00
def bbHeld : Nat := 0x8A01
def bbWritten : Nat := 0x8A02
def bbFreezeCause : Nat := 0x8A03
def bbFreezeTsLo : Nat := 0x8A04
def bbFreezeTsHi : Nat := 0x8A05

end Fld

/-- The shadow classes of Table PV.6, and `ro` for the fields that the field map marks read-only. -/
inductive FieldClass where
  | i | c | f | q | l | ro
  deriving DecidableEq, Repr

/-- One row of a field table: offset, number of elements, width, whether signed, reset value, class, and whether
it is an action field (R482 to R485). -/
structure FieldRow where
  off : Nat
  n : Nat
  width : Nat
  signed : Bool
  reset : Nat
  cls : FieldClass
  action : Bool
  deriving DecidableEq, Repr

/-- Table FM.4, SYS (offsets from 0x0000). -/
def sysRows : List FieldRow :=
  [⟨0x0, 1, 32, false, 0x0, .l, false⟩, ⟨0x1, 1, 32, false, 0x0, .l, false⟩, ⟨0x2, 1, 16, false, 0x0, .l, false⟩,
   ⟨0x3, 1, 20, false, 0x0, .l, false⟩, ⟨0x4, 1, 16, false, 0x0, .l, false⟩, ⟨0x5, 1, 16, false, 0x0, .l, false⟩,
   ⟨0x6, 1, 8, false, 0x0, .l, false⟩, ⟨0x7, 1, 8, false, 0x0, .l, false⟩, ⟨0x8, 1, 2, false, 0x0, .l, false⟩,
   ⟨0x9, 1, 2, false, 0x0, .l, false⟩, ⟨0xA, 1, 32, false, 0x0, .l, false⟩, ⟨0xB, 1, 16, false, 0x0, .l, false⟩,
   ⟨0xC, 1, 1, false, 0x0, .l, false⟩, ⟨0xD, 1, 4, false, 0x0, .l, false⟩, ⟨0xE, 1, 6, false, 0x0, .l, false⟩,
   ⟨0x10, 1, 3, false, 0x0, .l, false⟩, ⟨0x11, 1, 3, false, 0x0, .l, false⟩, ⟨0x12, 1, 16, false, 0x0, .l, false⟩,
   ⟨0x13, 1, 4, false, 0x0, .i, false⟩, ⟨0x18, 1, 1, false, 0x0, .i, true⟩, ⟨0x19, 1, 4, false, 0x0, .i, false⟩,
   ⟨0x1A, 1, 8, false, 0x0, .i, false⟩, ⟨0x1B, 1, 2, false, 0x0, .i, false⟩, ⟨0x1C, 1, 2, false, 0x0, .l, false⟩]

/-- Table FM.4, TRW (offsets from 0x0100). -/
def trwRows : List FieldRow :=
  [⟨0x0, 4, 16, false, 0x2710, .l, false⟩]

/-- Table FM.5 (offsets from 0x1000). (part 1) -/
def lightRows0 : List FieldRow :=
  [⟨0x0, 1, 1, false, 0x0, .i, false⟩, ⟨0x1, 1, 8, false, 0xFF, .l, false⟩, ⟨0x2, 1, 11, false, 0xC8, .c, false⟩,
   ⟨0x3, 1, 11, false, 0x28, .c, false⟩, ⟨0x4, 1, 12, false, 0x400, .c, false⟩, ⟨0x5, 1, 5, false, 0x1, .c, false⟩,
   ⟨0x6, 1, 32, false, 0x0, .c, false⟩, ⟨0x7, 1, 32, false, 0x0, .c, false⟩, ⟨0x8, 1, 8, false, 0x0, .c, true⟩,
   ⟨0x9, 1, 8, false, 0x0, .l, false⟩, ⟨0xA, 1, 1, false, 0x0, .c, false⟩, ⟨0xB, 1, 8, false, 0x0, .c, true⟩,
   ⟨0xC, 1, 10, false, 0x64, .l, false⟩, ⟨0xD, 1, 1, false, 0x1, .l, false⟩, ⟨0xE, 1, 10, false, 0x190, .c, false⟩,
   ⟨0xF, 1, 1, false, 0x0, .l, false⟩, ⟨0x10, 16, 26, false, 0x0, .c, false⟩, ⟨0x20, 4, 26, false, 0x0, .c, false⟩,
   ⟨0x30, 1, 16, true, 0x8000, .i, false⟩, ⟨0x31, 1, 16, true, 0x460, .l, false⟩, ⟨0x32, 1, 16, true, 0x690, .l, false⟩,
   ⟨0x33, 1, 10, false, 0x64, .l, false⟩, ⟨0x34, 1, 9, false, 0x80, .l, false⟩, ⟨0x35, 1, 16, true, 0x8000, .ro, false⟩,
   ⟨0x36, 1, 9, false, 0x100, .ro, false⟩, ⟨0x40, 8, 2, false, 0x0, .c, false⟩, ⟨0x48, 8, 12, false, 0x0, .c, false⟩,
   ⟨0x50, 8, 22, false, 0x0, .c, false⟩, ⟨0x58, 8, 21, false, 0xA, .c, false⟩, ⟨0x60, 8, 1, false, 0x0, .c, false⟩,
   ⟨0x68, 8, 3, false, 0x0, .c, false⟩, ⟨0x70, 8, 12, false, 0x0, .c, false⟩, ⟨0x78, 8, 13, false, 0x1, .c, false⟩,
   ⟨0x80, 8, 12, false, 0x0, .ro, false⟩, ⟨0xA0, 32, 16, false, 0x8000, .c, false⟩, ⟨0x100, 128, 6, false, 0x0, .l, false⟩]

/-- Table FM.5 (offsets from 0x1000). (part 2) -/
def lightRows1 : List FieldRow :=
  [⟨0x180, 128, 16, false, 0x8000, .l, false⟩, ⟨0x200, 4, 32, false, 0x0, .ro, false⟩, ⟨0x204, 1, 8, false, 0x0, .ro, false⟩,
   ⟨0x205, 1, 32, false, 0x0, .ro, false⟩, ⟨0x206, 1, 16, false, 0x0, .ro, false⟩, ⟨0x207, 1, 8, false, 0x0, .ro, false⟩,
   ⟨0x208, 1, 10, false, 0x0, .ro, false⟩, ⟨0x209, 1, 16, false, 0x0, .ro, false⟩, ⟨0x20A, 1, 16, false, 0x0, .ro, false⟩,
   ⟨0x20B, 1, 16, false, 0x0, .ro, false⟩, ⟨0x20C, 1, 8, false, 0x0, .ro, false⟩]

/-- Table FM.5 (offsets from 0x1000). -/
def lightRows : List FieldRow := lightRows0 ++ lightRows1

/-- Table FM.6, ADCA (offsets from 0x2000): corrections 0–7, gains 0–4, no BOARD_ENTRY. -/
def adcARows : List FieldRow :=
  [⟨0x0, 1, 1, false, 0x0, .i, false⟩, ⟨0x1, 1, 1, false, 0x0, .i, false⟩, ⟨0x2, 1, 5, false, 0x0, .q, false⟩,
   ⟨0x4, 1, 1, false, 0x0, .i, true⟩, ⟨0x5, 1, 1, false, 0x0, .i, true⟩, ⟨0x6, 1, 16, false, 0x0, .i, false⟩,
   ⟨0x7, 1, 5, false, 0x0, .i, true⟩, ⟨0x8, 1, 16, false, 0x0, .i, true⟩, ⟨0x10, 16, 23, false, 0x0, .q, false⟩,
   ⟨0x20, 8, 16, true, 0x0, .q, false⟩, ⟨0x40, 8, 16, false, 0x8000, .q, false⟩, ⟨0x60, 16, 18, true, 0x20000, .i, false⟩,
   ⟨0x70, 16, 18, true, 0x1FFFF, .i, false⟩, ⟨0x80, 1, 32, false, 0x0, .ro, false⟩, ⟨0x81, 1, 8, false, 0x0, .ro, false⟩,
   ⟨0x82, 1, 24, false, 0x0, .ro, false⟩, ⟨0x83, 1, 18, true, 0x0, .ro, false⟩, ⟨0x84, 1, 18, true, 0x0, .ro, false⟩,
   ⟨0x85, 1, 3, false, 0x0, .ro, false⟩, ⟨0x88, 5, 16, true, 0x0, .ro, false⟩, ⟨0x90, 5, 16, false, 0x0, .ro, false⟩,
   ⟨0xA0, 1, 8, false, 0x0, .ro, false⟩, ⟨0xA1, 1, 1, false, 0x0, .ro, false⟩, ⟨0xA2, 1, 16, false, 0x0, .ro, false⟩,
   ⟨0xA3, 1, 16, false, 0x0, .ro, false⟩, ⟨0xA4, 1, 16, false, 0x0, .ro, false⟩, ⟨0xA5, 1, 16, false, 0x0, .ro, false⟩,
   ⟨0xA6, 1, 16, false, 0x0, .ro, false⟩, ⟨0xA7, 1, 16, false, 0x0, .ro, false⟩]

/-- Table FM.6, ADCB (offsets from 0x2800): corrections 0–16, gains 0–2. -/
def adcBRows : List FieldRow :=
  [⟨0x0, 1, 1, false, 0x0, .i, false⟩, ⟨0x1, 1, 1, false, 0x0, .i, false⟩, ⟨0x2, 1, 5, false, 0x0, .q, false⟩,
   ⟨0x3, 1, 5, false, 0x0, .q, false⟩, ⟨0x4, 1, 1, false, 0x0, .i, true⟩, ⟨0x5, 1, 1, false, 0x0, .i, true⟩,
   ⟨0x6, 1, 16, false, 0x0, .i, false⟩, ⟨0x7, 1, 5, false, 0x0, .i, true⟩, ⟨0x8, 1, 16, false, 0x0, .i, true⟩,
   ⟨0x10, 16, 23, false, 0x0, .q, false⟩, ⟨0x20, 17, 16, true, 0x0, .q, false⟩, ⟨0x40, 17, 16, false, 0x8000, .q, false⟩,
   ⟨0x60, 16, 18, true, 0x20000, .i, false⟩, ⟨0x70, 16, 18, true, 0x1FFFF, .i, false⟩, ⟨0x80, 1, 32, false, 0x0, .ro, false⟩,
   ⟨0x81, 1, 8, false, 0x0, .ro, false⟩, ⟨0x82, 1, 24, false, 0x0, .ro, false⟩, ⟨0x83, 1, 18, true, 0x0, .ro, false⟩,
   ⟨0x84, 1, 18, true, 0x0, .ro, false⟩, ⟨0x85, 1, 3, false, 0x0, .ro, false⟩, ⟨0x88, 3, 16, true, 0x0, .ro, false⟩,
   ⟨0x90, 3, 16, false, 0x0, .ro, false⟩, ⟨0xA0, 1, 8, false, 0x0, .ro, false⟩, ⟨0xA1, 1, 1, false, 0x0, .ro, false⟩,
   ⟨0xA2, 1, 16, false, 0x0, .ro, false⟩, ⟨0xA3, 1, 16, false, 0x0, .ro, false⟩, ⟨0xA4, 1, 16, false, 0x0, .ro, false⟩,
   ⟨0xA5, 1, 16, false, 0x0, .ro, false⟩, ⟨0xA6, 1, 16, false, 0x0, .ro, false⟩, ⟨0xA7, 1, 16, false, 0x0, .ro, false⟩]

/-- Table FM.7 (offsets from the block). -/
def ambRows : List FieldRow :=
  [⟨0x0, 1, 1, false, 0x0, .i, false⟩, ⟨0x1, 1, 3, false, 0x2, .q, false⟩, ⟨0x2, 1, 2, false, 0x0, .l, false⟩,
   ⟨0x3, 1, 10, false, 0x50, .l, false⟩, ⟨0x4, 1, 11, false, 0x0, .ro, false⟩, ⟨0x5, 1, 10, false, 0x0, .ro, false⟩,
   ⟨0x6, 1, 16, false, 0x0, .ro, false⟩, ⟨0x7, 1, 16, false, 0x0, .ro, false⟩]

/-- Table FM.8 (offsets from the block). -/
def csiRows : List FieldRow :=
  [⟨0x0, 1, 1, false, 0x0, .i, false⟩, ⟨0x1, 1, 3, false, 0x4, .l, false⟩, ⟨0x2, 1, 13, false, 0x1194, .l, false⟩,
   ⟨0x3, 1, 5, false, 0x0, .l, false⟩, ⟨0x4, 1, 16, false, 0xFFFF, .i, false⟩, ⟨0x8, 1, 8, false, 0x0, .ro, false⟩,
   ⟨0x9, 1, 16, false, 0x0, .ro, false⟩, ⟨0xA, 1, 19, false, 0x0, .ro, false⟩, ⟨0xB, 1, 19, false, 0x0, .ro, false⟩,
   ⟨0xC, 1, 32, false, 0x0, .ro, false⟩, ⟨0x10, 1, 16, false, 0x0, .ro, false⟩, ⟨0x11, 1, 16, false, 0x0, .ro, false⟩,
   ⟨0x12, 1, 16, false, 0x0, .ro, false⟩, ⟨0x13, 1, 16, false, 0x0, .ro, false⟩, ⟨0x14, 1, 16, false, 0x0, .ro, false⟩,
   ⟨0x15, 1, 16, false, 0x0, .ro, false⟩, ⟨0x16, 1, 16, false, 0x0, .ro, false⟩, ⟨0x17, 1, 16, false, 0x0, .ro, false⟩,
   ⟨0x18, 1, 16, false, 0x0, .ro, false⟩, ⟨0x19, 1, 16, false, 0x0, .ro, false⟩, ⟨0x1A, 1, 16, false, 0x0, .ro, false⟩,
   ⟨0x1B, 1, 16, false, 0x0, .ro, false⟩, ⟨0x20, 16, 16, false, 0x0, .ro, false⟩]

/-- Table FM.9 (offsets from the block). -/
def ctxRows : List FieldRow :=
  [⟨0x0, 1, 1, false, 0x0, .i, false⟩, ⟨0x1, 1, 13, false, 0x0, .l, false⟩, ⟨0x2, 1, 1, false, 0x0, .l, false⟩,
   ⟨0x3, 1, 24, false, 0x186A0, .f, false⟩, ⟨0x4, 1, 3, false, 0x0, .f, false⟩, ⟨0x5, 1, 2, false, 0x0, .f, false⟩,
   ⟨0x6, 1, 8, false, 0x80, .f, false⟩, ⟨0x7, 1, 8, true, 0x8, .f, false⟩, ⟨0x8, 1, 8, false, 0x0, .f, false⟩,
   ⟨0x9, 1, 8, false, 0xFF, .f, false⟩, ⟨0xA, 1, 29, false, 0x1FFF0000, .f, false⟩, ⟨0xB, 1, 29, false, 0x1FFF0000, .f, false⟩,
   ⟨0xC, 1, 32, false, 0x0, .f, false⟩, ⟨0xD, 1, 19, false, 0x0, .f, false⟩, ⟨0x10, 4, 16, false, 0x0, .f, false⟩,
   ⟨0x14, 3, 16, false, 0x1000, .f, false⟩, ⟨0x18, 9, 16, true, 0x0, .f, false⟩, ⟨0x40, 33, 16, false, 0x0, .f, false⟩,
   ⟨0x80, 1, 1, false, 0x0, .ro, false⟩, ⟨0x81, 1, 5, false, 0x0, .ro, false⟩, ⟨0x82, 1, 32, false, 0x0, .ro, false⟩,
   ⟨0x83, 1, 16, false, 0x0, .ro, false⟩, ⟨0x84, 1, 16, false, 0x0, .ro, false⟩, ⟨0x85, 1, 14, false, 0x0, .ro, false⟩,
   ⟨0x86, 1, 14, false, 0x0, .ro, false⟩, ⟨0x87, 1, 32, false, 0x0, .ro, false⟩, ⟨0x88, 1, 16, false, 0x0, .ro, false⟩]

/-- Table FM.10 (offsets from the block). -/
def locRows : List FieldRow :=
  [⟨0x0, 1, 1, false, 0x0, .i, false⟩, ⟨0x1, 1, 8, false, 0x0, .ro, false⟩, ⟨0x10, 8, 7, false, 0x7F, .f, false⟩,
   ⟨0x18, 8, 2, false, 0x0, .f, false⟩, ⟨0x20, 8, 8, false, 0x18, .f, false⟩, ⟨0x28, 8, 16, false, 0x608, .f, false⟩,
   ⟨0x30, 8, 16, false, 0x6080, .f, false⟩, ⟨0x38, 8, 11, false, 0x200, .f, false⟩, ⟨0x40, 8, 32, false, 0x0, .ro, false⟩,
   ⟨0x48, 8, 16, false, 0x0, .ro, false⟩]

/-- Table FM.11 (offsets from the block). -/
def decRows : List FieldRow :=
  [⟨0x0, 1, 1, false, 0x0, .i, false⟩, ⟨0x1, 1, 10, false, 0x64, .l, false⟩, ⟨0x2, 1, 16, false, 0x12C, .l, false⟩,
   ⟨0x3, 1, 16, false, 0x3E8, .l, false⟩, ⟨0x4, 1, 8, false, 0x0, .ro, false⟩, ⟨0x5, 1, 15, false, 0x5500, .ro, false⟩,
   ⟨0x6, 1, 15, false, 0x0, .ro, false⟩, ⟨0x10, 8, 3, false, 0x0, .f, false⟩, ⟨0x18, 8, 8, false, 0x10, .f, false⟩,
   ⟨0x20, 8, 15, false, 0x5500, .l, false⟩, ⟨0x40, 32, 29, false, 0x0, .l, false⟩, ⟨0x60, 32, 29, false, 0x0, .l, false⟩,
   ⟨0x80, 1, 32, false, 0x0, .ro, false⟩, ⟨0x81, 1, 16, false, 0x0, .ro, false⟩, ⟨0x82, 1, 16, false, 0x0, .ro, false⟩,
   ⟨0x83, 1, 32, false, 0x0, .ro, false⟩, ⟨0x84, 1, 32, false, 0x0, .ro, false⟩, ⟨0x85, 1, 16, false, 0x0, .ro, false⟩,
   ⟨0x86, 1, 32, false, 0x0, .ro, false⟩, ⟨0x87, 1, 32, false, 0x0, .ro, false⟩, ⟨0x88, 1, 16, false, 0x0, .ro, false⟩,
   ⟨0x89, 1, 16, false, 0x0, .ro, false⟩, ⟨0x8A, 1, 16, false, 0x0, .ro, false⟩, ⟨0x8B, 1, 16, false, 0x0, .ro, false⟩]

/-- Table FM.12 (offsets from the block). -/
def wlRows : List FieldRow :=
  [⟨0x0, 1, 1, false, 0x0, .i, false⟩, ⟨0x1, 1, 7, false, 0x7F, .i, false⟩, ⟨0x2, 1, 13, false, 0x0, .ro, false⟩,
   ⟨0x3, 1, 32, false, 0x0, .ro, false⟩, ⟨0x4, 1, 32, false, 0x0, .ro, false⟩]

/-- Table FM.12 (offsets from the block). -/
def vsRows : List FieldRow :=
  [⟨0x0, 1, 1, false, 0x1, .l, false⟩, ⟨0x1, 1, 16, false, 0x64, .l, false⟩, ⟨0x2, 1, 2, false, 0x0, .l, false⟩,
   ⟨0x3, 1, 16, false, 0x0, .i, true⟩, ⟨0x4, 1, 14, false, 0x0, .i, false⟩, ⟨0x5, 1, 16, false, 0x0, .ro, false⟩,
   ⟨0x10, 1, 12, false, 0x0, .ro, false⟩, ⟨0x11, 1, 3, false, 0x0, .ro, false⟩, ⟨0x12, 1, 32, false, 0x0, .ro, false⟩,
   ⟨0x13, 1, 32, false, 0x0, .ro, false⟩, ⟨0x14, 1, 32, false, 0x0, .ro, false⟩, ⟨0x15, 1, 3, false, 0x0, .ro, false⟩,
   ⟨0x16, 1, 25, false, 0x0, .ro, false⟩, ⟨0x17, 1, 25, false, 0x0, .ro, false⟩, ⟨0x18, 1, 32, false, 0x0, .ro, false⟩,
   ⟨0x19, 1, 11, false, 0x0, .ro, false⟩, ⟨0x20, 1, 7, false, 0x0, .ro, false⟩, ⟨0x21, 1, 32, false, 0x0, .ro, false⟩,
   ⟨0x22, 1, 16, false, 0x0, .ro, false⟩, ⟨0x23, 1, 16, false, 0x0, .ro, false⟩, ⟨0x24, 1, 16, false, 0x0, .ro, false⟩,
   ⟨0x25, 1, 16, false, 0x0, .ro, false⟩]

/-- Table FM.13 (offsets from the block). -/
def recRows : List FieldRow :=
  [⟨0x0, 1, 1, false, 0x0, .i, false⟩, ⟨0x1, 1, 3, false, 0x7, .i, false⟩, ⟨0x2, 1, 6, false, 0x0, .i, true⟩,
   ⟨0x3, 1, 16, false, 0x0, .i, true⟩, ⟨0x10, 1, 12, false, 0x0, .ro, false⟩, ⟨0x11, 1, 3, false, 0x0, .ro, false⟩,
   ⟨0x12, 1, 32, false, 0x0, .ro, false⟩, ⟨0x13, 1, 3, false, 0x0, .ro, false⟩, ⟨0x14, 1, 6, false, 0x0, .ro, false⟩,
   ⟨0x15, 1, 12, false, 0x0, .ro, false⟩, ⟨0x18, 8, 32, false, 0x0, .ro, false⟩, ⟨0x20, 1, 32, false, 0x0, .ro, false⟩,
   ⟨0x21, 1, 32, false, 0x0, .ro, false⟩, ⟨0x22, 1, 16, false, 0x0, .ro, false⟩, ⟨0x40, 32, 32, false, 0x0, .i, false⟩]

/-- Table FM.14 (offsets from the block). -/
def usbRows : List FieldRow :=
  [⟨0x0, 1, 1, false, 0x1, .i, false⟩, ⟨0x1, 1, 1, false, 0x0, .i, true⟩, ⟨0x2, 1, 1, false, 0x1, .l, false⟩,
   ⟨0x10, 1, 6, false, 0x0, .ro, false⟩, ⟨0x11, 1, 8, false, 0x0, .ro, false⟩, ⟨0x12, 1, 11, false, 0x0, .ro, false⟩,
   ⟨0x13, 1, 32, false, 0x0, .ro, false⟩, ⟨0x14, 1, 32, false, 0xFFFFFFFF, .ro, false⟩, ⟨0x15, 1, 32, false, 0x0, .ro, false⟩,
   ⟨0x20, 1, 32, false, 0x0, .ro, false⟩, ⟨0x21, 1, 16, false, 0x0, .ro, false⟩, ⟨0x22, 1, 16, false, 0x0, .ro, false⟩,
   ⟨0x23, 1, 16, false, 0x0, .ro, false⟩, ⟨0x24, 1, 16, false, 0x0, .ro, false⟩]

/-- Table FM.15, record queue (offsets from 0x8100). -/
def serQRows : List FieldRow :=
  [⟨0x0, 1, 1, false, 0x0, .i, false⟩, ⟨0x1, 1, 7, false, 0x0, .l, false⟩, ⟨0x2, 1, 1, false, 0x0, .l, false⟩,
   ⟨0x3, 1, 4, false, 0x0, .l, false⟩, ⟨0x4, 1, 1, false, 0x0, .i, true⟩, ⟨0x10, 1, 6, false, 0x0, .ro, false⟩,
   ⟨0x11, 1, 10, false, 0x0, .ro, false⟩, ⟨0x12, 1, 9, false, 0x0, .ro, false⟩, ⟨0x13, 1, 32, false, 0x0, .ro, false⟩,
   ⟨0x14, 1, 32, false, 0xFFFFFFFF, .ro, false⟩, ⟨0x15, 1, 8, false, 0x0, .ro, false⟩, ⟨0x16, 1, 32, false, 0x0, .ro, false⟩,
   ⟨0x20, 1, 32, false, 0x0, .ro, false⟩, ⟨0x21, 1, 16, false, 0x0, .ro, false⟩, ⟨0x22, 1, 16, false, 0x0, .ro, false⟩]

/-- Table FM.15, character unit (offsets from 0x8180). -/
def serCRows : List FieldRow :=
  [⟨0x0, 1, 17, false, 0x0, .i, true⟩, ⟨0x1, 1, 12, false, 0x0, .ro, false⟩, ⟨0x10, 1, 16, false, 0x0, .ro, false⟩,
   ⟨0x11, 1, 16, false, 0x0, .ro, false⟩, ⟨0x12, 1, 16, false, 0x0, .ro, false⟩, ⟨0x13, 1, 16, false, 0x0, .ro, false⟩,
   ⟨0x14, 1, 16, false, 0x0, .ro, false⟩, ⟨0x15, 1, 16, false, 0x0, .ro, false⟩, ⟨0x16, 1, 16, false, 0x0, .ro, false⟩,
   ⟨0x17, 1, 16, false, 0x0, .ro, false⟩, ⟨0x18, 1, 16, false, 0x0, .ro, false⟩]

/-- Table FM.16, port fields (offsets from 0x8400 + 0x100 × n). -/
def morPortRows : List FieldRow :=
  [⟨0x0, 1, 1, false, 0x1, .i, false⟩, ⟨0x1, 1, 7, false, 0x0, .ro, false⟩, ⟨0x2, 1, 7, false, 0x0, .ro, false⟩,
   ⟨0x3, 1, 16, false, 0x0, .ro, false⟩, ⟨0x4, 1, 16, false, 0x0, .ro, false⟩, ⟨0x5, 1, 16, false, 0x0, .ro, false⟩,
   ⟨0x6, 1, 16, false, 0x0, .ro, false⟩]

/-- Table FM.16, fabric-wide fields (offsets from 0x8400). -/
def morFabRows : List FieldRow :=
  [⟨0x10, 1, 7, false, 0x0, .ro, false⟩, ⟨0x11, 1, 4, false, 0x0, .ro, false⟩, ⟨0x12, 1, 7, false, 0x0, .l, false⟩,
   ⟨0x13, 1, 1, false, 0x0, .l, false⟩, ⟨0x14, 1, 7, false, 0x0, .ro, false⟩, ⟨0x15, 1, 6, false, 0x0, .i, false⟩,
   ⟨0x16, 1, 32, false, 0x0, .i, true⟩, ⟨0x17, 1, 32, false, 0x0, .ro, false⟩, ⟨0x18, 1, 6, false, 0x0, .ro, false⟩,
   ⟨0x19, 1, 1, false, 0x0, .i, true⟩, ⟨0x1A, 1, 11, false, 0x0, .ro, false⟩, ⟨0x1B, 1, 32, false, 0xFFFFFFFF, .ro, false⟩,
   ⟨0x1C, 1, 32, false, 0x0, .ro, false⟩, ⟨0x1D, 1, 32, false, 0x0, .ro, false⟩, ⟨0x20, 1, 16, false, 0x0, .ro, false⟩,
   ⟨0x21, 1, 16, false, 0x0, .ro, false⟩, ⟨0x22, 1, 16, false, 0x0, .ro, false⟩, ⟨0x23, 1, 16, false, 0x0, .ro, false⟩,
   ⟨0x24, 1, 16, false, 0x0, .ro, false⟩, ⟨0x25, 1, 16, false, 0x0, .ro, false⟩, ⟨0x26, 1, 16, false, 0x0, .ro, false⟩,
   ⟨0x27, 1, 16, false, 0x0, .ro, false⟩, ⟨0x40, 64, 6, false, 0x0, .i, false⟩, ⟨0x80, 64, 29, false, 0x0, .ro, false⟩]

/-- Table FM.17 (offsets from the block). -/
def pairRows : List FieldRow :=
  [⟨0x0, 1, 1, false, 0x1, .i, false⟩, ⟨0x1, 1, 1, false, 0x1, .l, false⟩, ⟨0x2, 1, 14, false, 0x64, .l, false⟩,
   ⟨0x3, 1, 32, false, 0x0, .i, true⟩, ⟨0x4, 1, 1, false, 0x0, .i, true⟩, ⟨0x10, 1, 32, false, 0x0, .ro, false⟩,
   ⟨0x11, 1, 12, false, 0x0, .ro, false⟩, ⟨0x12, 1, 32, false, 0x0, .ro, false⟩, ⟨0x13, 1, 32, false, 0x0, .ro, false⟩,
   ⟨0x14, 1, 32, false, 0x0, .ro, false⟩, ⟨0x15, 1, 32, false, 0x0, .ro, false⟩, ⟨0x20, 1, 16, false, 0x0, .ro, false⟩,
   ⟨0x21, 1, 16, false, 0x0, .ro, false⟩, ⟨0x22, 1, 16, false, 0x0, .ro, false⟩, ⟨0x23, 1, 16, false, 0x0, .ro, false⟩,
   ⟨0x24, 1, 32, false, 0x0, .ro, false⟩]

/-- Table FM.18 (offsets from the block). -/
def timeRows : List FieldRow :=
  [⟨0x0, 1, 3, false, 0x7, .l, false⟩, ⟨0x1, 1, 30, false, 0xF4240, .l, false⟩, ⟨0x2, 1, 30, false, 0x0, .l, false⟩,
   ⟨0x3, 1, 16, false, 0x3C, .l, false⟩, ⟨0x4, 1, 2, false, 0x0, .i, false⟩, ⟨0x5, 1, 30, false, 0xF4240, .i, false⟩,
   ⟨0x6, 1, 30, false, 0x0, .i, false⟩, ⟨0x7, 1, 30, false, 0x3E8, .i, false⟩, ⟨0x10, 1, 8, false, 0x18, .ro, false⟩,
   ⟨0x11, 1, 6, false, 0x0, .ro, false⟩, ⟨0x12, 1, 32, true, 0x0, .ro, false⟩, ⟨0x13, 1, 32, true, 0x0, .ro, false⟩,
   ⟨0x14, 1, 32, true, 0x0, .ro, false⟩, ⟨0x18, 1, 16, false, 0x0, .ro, false⟩, ⟨0x19, 1, 16, false, 0x0, .ro, false⟩,
   ⟨0x1A, 1, 16, false, 0x0, .ro, false⟩, ⟨0x1B, 1, 16, false, 0x0, .ro, false⟩]

/-- Table FM.19 (offsets from the block). -/
def bbRows : List FieldRow :=
  [⟨0x0, 1, 2, false, 0x0, .ro, false⟩, ⟨0x1, 1, 16, false, 0x0, .ro, false⟩, ⟨0x2, 1, 32, false, 0x0, .ro, false⟩,
   ⟨0x3, 1, 8, false, 0x0, .ro, false⟩, ⟨0x4, 1, 32, false, 0x0, .ro, false⟩, ⟨0x5, 1, 32, false, 0x0, .ro, false⟩]

/-! ### Blocks -/

/-- The unit of Table TW.3 whose block holds an address. -/
def unitOf (a : Nat) : UnitId :=
  if a < 0x100 then .sys
  else if a < 0x110 then .trw
  else if a < 0x1000 then .outside
  else if a < 0x2000 then .light
  else if a < 0x2800 then .adcA
  else if a < 0x3000 then .adcB
  else if a < 0x3100 then .amb
  else if a < 0x4000 then .outside
  else if a < 0x4400 then .csi
  else if a < 0x4800 then .outside
  else if a < 0x5000 then .ctx
  else if a < 0x5100 then .loc
  else if a < 0x5800 then .outside
  else if a < 0x6000 then .dec
  else if a < 0x6100 then .wl
  else if a < 0x6200 then .vs
  else if a < 0x6300 then .recf
  else if a < 0x8000 then .outside
  else if a < 0x8100 then .usb
  else if a < 0x8180 then .serQ
  else if a < 0x8200 then .serC
  else if a < 0x8400 then .outside
  else if a < 0x8800 then .mor
  else if a < 0x8900 then .pair
  else if a < 0x8A00 then .time
  else if a < 0x8B00 then .bb
  else .outside

/-- The trowel that serves a unit (Table TW.2): none for SYS, TRW, BB and the space outside the blocks. -/
def ownerOf : UnitId → Option TrowelId
  | .light => some 0
  | .adcA | .adcB | .amb => some 1
  | .csi | .ctx | .loc | .dec | .wl | .vs | .recf => some 2
  | .usb | .serQ | .serC | .mor | .pair | .time => some 3
  | .sys | .trw | .bb | .outside => none

/-- The rows of a unit and the offset of an address within them. -/
def rowsAt (a : Nat) : List FieldRow × Nat :=
  match unitOf a with
  | .sys => (sysRows, a)
  | .trw => (trwRows, a - 0x100)
  | .light => (lightRows, a - 0x1000)
  | .adcA => (adcARows, a - 0x2000)
  | .adcB => (adcBRows, a - 0x2800)
  | .amb => (ambRows, a - 0x3000)
  | .csi => (csiRows, (a - 0x4000) % 0x100)
  | .ctx => (ctxRows, (a - 0x4800) % 0x100)
  | .loc => (locRows, a - 0x5000)
  | .dec => (decRows, a - 0x5800)
  | .wl => (wlRows, a - 0x6000)
  | .vs => (vsRows, a - 0x6100)
  | .recf => (recRows, a - 0x6200)
  | .usb => (usbRows, a - 0x8000)
  | .serQ => (serQRows, a - 0x8100)
  | .serC => (serCRows, a - 0x8180)
  | .mor => if (a - 0x8400) % 0x100 < 0x10 then (morPortRows, (a - 0x8400) % 0x100) else (morFabRows, a - 0x8400)
  | .pair => (pairRows, a - 0x8800)
  | .time => (timeRows, a - 0x8900)
  | .bb => (bbRows, a - 0x8A00)
  | .outside => ([], 0)

/-- The row of an assigned address, `none` for an unassigned one (R112, R482). -/
def fieldRow (a : Nat) : Option FieldRow :=
  (rowsAt a).1.find? fun r => decide (r.off ≤ (rowsAt a).2) && decide ((rowsAt a).2 < r.off + r.n)

/-- The Reset entry of an assigned address; 0 for any other. The two arrays whose elements differ, CTX.TONE and
CTX.CCM, and the calibration factors ("nominal") are given element by element.
Log 9 (DESIGN CHOICE). -/
def resetValue (a : Nat) : Word :=
  match unitOf a with
  | .ctx =>
    let o := (a - 0x4800) % 0x100
    if 0x40 ≤ o ∧ o ≤ 0x60 then BitVec.ofNat 32 (min 65535 (2048 * (o - 0x40)))
    else if o = 0x18 ∨ o = 0x1C ∨ o = 0x20 then 0x1000#32
    else match fieldRow a with
      | some r => BitVec.ofNat 32 r.reset
      | none => 0
  | .adcA =>
    let o := a - 0x2000
    if 0x88 ≤ o ∧ o ≤ 0x8C then Config.calOfsNominal false (o - 0x88)
    else if 0x90 ≤ o ∧ o ≤ 0x94 then Config.calGainNominal false (o - 0x90)
    else match fieldRow a with
      | some r => BitVec.ofNat 32 r.reset
      | none => 0
  | .adcB =>
    let o := a - 0x2800
    if 0x88 ≤ o ∧ o ≤ 0x8A then Config.calOfsNominal true (o - 0x88)
    else if 0x90 ≤ o ∧ o ≤ 0x92 then Config.calGainNominal true (o - 0x90)
    else match fieldRow a with
      | some r => BitVec.ofNat 32 r.reset
      | none => 0
  | _ =>
    match fieldRow a with
    | some r => BitVec.ofNat 32 r.reset
    | none => 0

/-- The ranges of Table FM.2, which belong to absent units and read zero. -/
def absentField (v : Variant) (a : Nat) : Bool :=
  match v with
  | .evr8480 => false
  | .evr8460 => (decide (0x4200 ≤ a) && decide (a ≤ 0x43FF)) || (decide (0x8600 ≤ a) && decide (a ≤ 0x87FF))
  | .evr8440 =>
    (decide (0x2000 ≤ a) && decide (a ≤ 0x27FF)) || (decide (0x3000 ≤ a) && decide (a ≤ 0x30FF))
    || (decide (0x4100 ≤ a) && decide (a ≤ 0x43FF)) || (decide (0x8400 ≤ a) && decide (a ≤ 0x88FF))
    || (decide (unitOf a = .ctx) && (let o := (a - 0x4800) % 0x100
        (decide (0x14 ≤ o) && decide (o ≤ 0x16)) || (decide (0x18 ≤ o) && decide (o ≤ 0x20))))
    || decide (a = 0x100A) || (decide (0x1060 ≤ a) && decide (a ≤ 0x1067))
    || (decide (0x10A0 ≤ a) && decide (a ≤ 0x10BF)) || (decide (0x1140 ≤ a) && decide (a ≤ 0x117F))
    || (decide (0x11C0 ≤ a) && decide (a ≤ 0x11FF)) || (decide (0x1202 ≤ a) && decide (a ≤ 0x1203))

/-- A value cut to the width of its field (R482). -/
def cutToWidth (r : FieldRow) (x : Word) : Word :=
  x &&& BitVec.ofNat 32 (2 ^ r.width - 1)

/-- A stored value as a read returns it: sign-extended where the Bits entry ends in "s" (R482). -/
def extendRead (r : FieldRow) (x : Word) : Word :=
  if r.signed && x.getLsbD (r.width - 1) then x ||| ~~~ BitVec.ofNat 32 (2 ^ r.width - 1) else x

end Sys2Proof.Machine
end

