-- ==== Sys2Proof/Machine/Ops.lean ====
section
/-! DEFINITION. The named operations over the state that every unit shares: sparse stores, stored fields, counts,
straps and the enabled word, pulse events, black-box events and the freeze. -/

namespace Sys2Proof.Machine

/-! ### Sparse stores -/

/-- What a store holds at `a`, where `d` gives what an unlisted address reads as. -/
def sparseGet {α : Type} (d : Nat → α) : Sparse α → Nat → α
  | [], a => d a
  | (b, x) :: r, a => if a = b then x else sparseGet d r a

/-- The store without an entry at `a`. -/
def sparseDrop {α : Type} (a : Nat) : Sparse α → Sparse α
  | [] => []
  | (b, x) :: r => if a = b then sparseDrop a r else (b, x) :: sparseDrop a r

/-- The store with entry `x` at `a`, kept in rising order of address. -/
def sparsePut {α : Type} (a : Nat) (x : α) : Sparse α → Sparse α
  | [] => [(a, x)]
  | (b, y) :: r =>
    if a < b then (a, x) :: (b, y) :: r
    else if a = b then (a, x) :: r
    else (b, y) :: sparsePut a x r

/-- A write: the entry is listed only where it differs from what an unlisted address reads as. -/
def sparseSet {α : Type} [DecidableEq α] (d : Nat → α) (l : Sparse α) (a : Nat) (x : α) : Sparse α :=
  if x = d a then sparseDrop a l else sparsePut a x l

/-- Every entry lies above `lo` in rising order, and none equals what its address reads as unlisted. -/
def sparseWfFrom {α : Type} [DecidableEq α] (d : Nat → α) : Nat → Sparse α → Bool
  | _, [] => true
  | lo, (b, x) :: r => decide (lo ≤ b) && decide (x ≠ d b) && sparseWfFrom d (b + 1) r

/-- The canonical form of a store. -/
def sparseWf {α : Type} [DecidableEq α] (d : Nat → α) (l : Sparse α) : Bool :=
  sparseWfFrom d 0 l

/-! ### Packed values -/

/-- Bits set where the flags of a list are true, lowest first. -/
def packBits : List Bool → Nat
  | [] => 0
  | b :: r => (if b then 1 else 0) + 2 * packBits r

/-- Four-bit levels packed with the first in [3:0]. -/
def packLevels : List (BitVec 4) → Nat
  | [] => 0
  | b :: r => b.toNat + 16 * packLevels r

/-! ### Stored fields -/

/-- The stored value of the field at `a`. -/
def State.getF (s : State) (a : Nat) : Word := sparseGet resetValue s.fields a

/-- A stored value as a number. -/
def State.getN (s : State) (a : Nat) : Nat := (s.getF a).toNat

/-- Bit `i` of a stored value. -/
def State.getB (s : State) (a i : Nat) : Bool := (s.getF a).getLsbD i

/-- A stored signed field of width `w` as an integer. -/
def State.getI (s : State) (a w : Nat) : Int :=
  if (s.getF a).getLsbD (w - 1) then ((s.getF a).toNat : Int) - 2 ^ w else (s.getF a).toNat

/-- The engine stores a field value. -/
def State.setF (s : State) (a : Nat) (v : Word) : State :=
  { s with fields := sparseSet resetValue s.fields a v }

/-- The engine stores a field value given as a number. -/
def State.setN (s : State) (a : Nat) (n : Nat) : State := s.setF a (BitVec.ofNat 32 n)

/-- An integer as the bits of a signed field of width `w` (upper bits 0). -/
def signedBits (w : Nat) (x : Int) : Word := BitVec.ofNat 32 (x % (2 ^ w : Int)).toNat

/-- Adds `n` to a saturating count of `w` bits.
Log 85 (DEDUCED). -/
def State.countSat (s : State) (w a n : Nat) : State :=
  s.setN a (min (2 ^ w - 1) (s.getN a + n))

/-- Adds 1 to a saturating 16-bit count.
Log 85 (DEDUCED). -/
def State.count16 (s : State) (a : Nat) : State := s.countSat 16 a 1

/-- Adds `n` to a wrapping 32-bit count.
Log 85 (DEDUCED). -/
def State.countWrap (s : State) (a n : Nat) : State := s.setF a (s.getF a + BitVec.ofNat 32 n)

/-- The period of the clock of the unit that accepts the writes of an apply set, in twelfths of a nanosecond (Table PV.2):
LIGHT 200 MHz, ADCA 160 MHz, ADCB 20 MHz, PIPE 800 MHz, DECODE 1.2 GHz. -/
def SetId.period12 : SetId → Nat
  | .scan | .group _ | .own _ => 60
  | .seq .a | .est => 75
  | .seq .b => 600
  | .ctx _ => 15
  | .dec _ => 10

/-- The cycle of the accepting unit's clock at the present time base.
Log 100 (DEDUCED). -/
def State.unitCycle (s : State) (x : SetId) : Nat := s.time.ns * 12 / x.period12

/-- A pending write was accepted in an earlier unit cycle than the present one: it belongs to a boundary that happens now
(R122). -/
def State.due (s : State) (p : Pend) : Bool := decide (p.cycle < s.unitCycle p.set)

/-- The pending writes that `sel` picks take effect at once, in order of acceptance (R122). -/
def State.applyPending (s : State) (sel : Pend → Bool) : State :=
  { s with
    fields := (s.shadow.filter sel).foldl (fun f p => sparseSet resetValue f p.addr p.val) s.fields
    shadow := s.shadow.filter fun p => !sel p }

/-- A boundary of the sets that `sel` picks: every write of theirs accepted in an earlier unit cycle takes effect; one
accepted in the cycle of the boundary waits for the next (R122). -/
def State.applyBoundary (s : State) (sel : Pend → Bool) : State := s.applyPending fun p => sel p && s.due p

/-! ### Straps and the enabled word -/

/-- The level that a strap reads as (R73): level 15 before the first sample. -/
def State.strapLevel (s : State) (n : Nat) : Nat := ((s.sys.straps[n]?).getD 15#4).toNat

/-- The lowest reserved level of each strap in Table SR.2 (15 where none is reserved below the open level), with
ST1's indices 8 to 14 reserved while ST0 selects the ROM (R88). -/
def reservedFrom (n : Nat) : Nat :=
  match n with
  | 0 => 8 | 2 => 5 | 3 => 6 | 5 => 9 | 6 => 9 | 7 => 9 | 8 => 9 | 9 => 4 | 10 => 7 | 12 => 4 | 13 => 9 | 14 => 8
  | 15 => 9 | 16 => 4 | 17 => 4 | 18 => 8 | 19 => 4
  | _ => 15

/-- The level whose meaning holds: a reserved level has the meaning of level 15 (R75). -/
def State.strap (s : State) (n : Nat) : Nat :=
  if reservedFrom n ≤ s.strapLevel n then 15 else s.strapLevel n

/-- ST0 selects the ROM (R88). -/
def State.romSelected (s : State) : Bool := s.strap 0 == 0 || s.strap 0 == 15

/-- The recipe index that ST1 selects (R88). -/
def State.recipeIndex (s : State) : Nat :=
  if s.strapLevel 1 = 15 then 0
  else if s.romSelected && decide (8 ≤ s.strapLevel 1) then 0
  else s.strapLevel 1

/-- Whether strap `n` stands at a reserved level (R75, R88). -/
def State.strapReserved (s : State) (n : Nat) : Bool :=
  (decide (reservedFrom n ≤ s.strapLevel n) && decide (s.strapLevel n < 15))
  || (decide (n = 1) && s.romSelected && decide (8 ≤ s.strapLevel 1) && decide (s.strapLevel 1 < 15))

/-- Bit `i` of the enabled word (Table SC.2). -/
def State.unitOn (s : State) (i : Nat) : Bool := s.sys.enabled.getLsbD i

/-- The present word of a variant (Table SC.3). -/
def presentWord : Variant → BitVec 16
  | .evr8480 => 0x7FFF#16
  | .evr8460 => 0x7CD3#16
  | .evr8440 => 0x4011#16

/-- The part code of a variant (Table SC.3). -/
def partCode : Variant → BitVec 8
  | .evr8480 => 0x80#8
  | .evr8460 => 0x60#8
  | .evr8440 => 0x40#8

/-- The stepping code (Table SC.3). -/
def steppingCode : Stepping → BitVec 8
  | .b0 => 0xB0#8
  | .b1 => 0xB1#8

/-- ST13: gate-high-is-on polarity and the number of lines it enables, `none` where the matrix is off; the EVR-8440
keeps lines 0 to 3 of an eight-line level (Table SR.2). -/
def State.matrixLines (s : State) : Option (Bool × Nat) :=
  let cap := if s.identity.variant = .evr8440 then 4 else 8
  match s.strap 13 with
  | 1 => some (true, 1) | 2 => some (true, 2) | 3 => some (true, 4) | 4 => some (true, min cap 8)
  | 5 => some (false, 1) | 6 => some (false, 2) | 7 => some (false, 4) | 8 => some (false, min cap 8)
  | _ => none

/-- ST14 as a 3-bit value; level 15 reads as level 5 (Table SR.2). -/
def State.lightSafety (s : State) : Nat := if s.strap 14 = 15 then 5 else s.strap 14

/-- ST2's pair role: `some (second, sharedIngress)`, `none` when solo. -/
def State.pairRole (s : State) : Option (Bool × Bool) :=
  match s.strap 2 with
  | 1 => some (false, false) | 2 => some (true, false) | 3 => some (false, true) | 4 => some (true, true)
  | _ => none

/-- The enable field of the unit that an address belongs to, `none` where the unit runs from trowel start
(Table FM.1); AMB also needs ADCA.ENABLE, the fabric-wide MOR fields any port. -/
def enableAddr (a : Nat) : Option Nat :=
  match unitOf a with
  | .light => some Fld.lightEnable
  | .adcA => some (Fld.adcEnable .a)
  | .adcB => some (Fld.adcEnable .b)
  | .amb => some Fld.ambEnable
  | .csi => some (a - (a - 0x4000) % 0x100)
  | .ctx => some (a - (a - 0x4800) % 0x100)
  | .loc => some Fld.locEnable
  | .dec => some Fld.decEnable
  | .wl => some Fld.wlEnable
  | .recf => some Fld.recEnable
  | .usb => some Fld.usbEnable
  | .serQ | .serC => some Fld.serEnable
  | .mor => some (a - (a - 0x8400) % 0x100)
  | .pair => some Fld.pairEnable
  | _ => none

/-- The unit whose enable field stands at `a` is turned off (R487): its bit is 0 in the enabled word, or, for LIGHT,
ST13 is off.
Log 21 (DEDUCED). -/
def State.turnedOff (s : State) (a : Nat) : Bool :=
  if a = Fld.lightEnable then s.matrixLines.isNone
  else if a = Fld.adcEnable .a then !s.unitOn 13
  else if a = Fld.adcEnable .b then !s.unitOn 14
  else if a = 0x4000 then !s.unitOn 0
  else if a = 0x4100 then !s.unitOn 1
  else if a = 0x4200 then !s.unitOn 2
  else if a = 0x4300 then !s.unitOn 3
  else if a = Fld.usbEnable then !s.unitOn 4
  else if a = 0x8400 then !s.unitOn 6
  else if a = 0x8500 then !s.unitOn 7
  else if a = 0x8600 then !s.unitOn 8
  else if a = 0x8700 then !s.unitOn 9
  else if a = Fld.pairEnable then !s.unitOn 10
  else false

/-- The enable field at `a` as it reads: 0 for a unit turned off (R487) or absent (R13). -/
def State.enabledAt (s : State) (a : Nat) : Bool :=
  s.getB a 0 && !s.turnedOff a && !absentField s.identity.variant a

/-- Any mortar port runs (R440). -/
def State.anyMor (s : State) : Bool :=
  s.enabledAt 0x8400 || s.enabledAt 0x8500 || s.enabledAt 0x8600 || s.enabledAt 0x8700

/-- The unit of an address runs (R115, Table FM.1). -/
def State.runsAt (s : State) (a : Nat) : Bool :=
  match unitOf a with
  | .amb => s.enabledAt (Fld.adcEnable .a) && s.enabledAt Fld.ambEnable
  | .mor =>
    if 0x8410 ≤ a ∧ a ≤ 0x84BF then s.anyMor else s.enabledAt (a - (a - 0x8400) % 0x100)
  | _ =>
    match enableAddr a with
    | some e => s.enabledAt e
    | none => true

/-- The engine has the active role: solo, or the active engine of a bonded pair.
Log 77 (DEDUCED). -/
def State.activeRole (s : State) : Bool := decide (s.pair.mode = .solo) || decide (s.pair.mode = .active)

/-- The level event ACTIVE: high in the pair state ACTIVE, and for a solo engine from READY on, as long as it neither halts nor
boots anew (R419, R425, Table TW.7).
Log 78 (DEDUCED). -/
def State.activeLevel (s : State) : Bool :=
  decide (s.pair.mode = .active) || (decide (s.pair.mode = .solo) && (match s.phase with
    | .running | .sleepEntry | .asleep | .waking => true
    | .held | .xrefWait | .booting | .halted | .xrefFatal | .thermal | .test => false))

/-- The engine is the standby of a bonded pair; WAIT is not (Table BP.3). -/
def State.asStandby (s : State) : Bool := decide (s.pair.mode = .standby)

/-- The clock domains derived from XREF run: out of reset, awake, with XREF (Tables SR.5, SR.13 and SR.14). -/
def State.clocked (s : State) : Bool :=
  match s.phase with
  | .booting | .running | .sleepEntry | .halted => true
  | .test => !s.time.xrefOff
  | .waking => decide (4 ≤ s.sys.wakeStep)
  | .held | .xrefWait | .asleep | .xrefFatal | .thermal => false

/-! ### Events of the trowels -/

/-- The trowel record with pulse event `n` raised (R127, R128). -/
def Trowel.raise (x : Trowel) (n : Nat) : Trowel :=
  if x.pending.getLsbD n then { x with overrun := x.overrun ||| BitVec.ofNat 64 (2 ^ n) }
  else { x with pending := x.pending ||| BitVec.ofNat 64 (2 ^ n) }

/-- A change of one trowel. -/
def State.updT (s : State) (t : TrowelId) (f : Trowel → Trowel) : State :=
  { s with trowels := s.trowels.set t.val (f s.trowels[t]) t.isLt }

/-- The trowels have been started and not stopped by a fault, a halt or the test state. -/
def State.trowelsLive (s : State) : Bool := s.boot.started

/-- Raises pulse event `n` in trowel `t`; events before trowel start are not pending (R109). -/
def State.raise (s : State) (t : TrowelId) (n : Nat) : State :=
  if s.trowelsLive then s.updT t (·.raise n) else s

/-- Raises pulse event `n` in all four trowels. -/
def State.raiseAll (s : State) (n : Nat) : State :=
  (((s.raise 0 n).raise 1 n).raise 2 n).raise 3 n

/-! ### Time -/

/-- The time base in whole nanoseconds. -/
def State.nowNs (s : State) : Nat := s.time.ns

/-! ### Black box -/

/-- The engine writes events: awake and out of reset, PWR_OK high, not frozen (R497). -/
def State.bbWrites (s : State) : Bool :=
  !s.bb.frozen && s.pins.pwrOk && s.clocked

/-- An event enters the write queue; one that finds it full is lost (R496). -/
def BlackBox.push (b : BlackBox) (unit : BitVec 7) (inst : Byte) (code : BitVec 16) (arg : Word) : BlackBox :=
  if 32 ≤ b.queue.length then { b with lostPending := true }
  else { b with
    queue := b.queue ++ [⟨0, unit, b.lostPending, inst, code, arg⟩]
    lostPending := false }

/-- Writes a black-box event (R498), given unit code, instance, event code and argument. -/
def State.bbEvent (s : State) (unit : BitVec 7) (inst : Byte) (code : BitVec 16) (arg : Word) : State :=
  { s with bb := if s.bbWrites then s.bb.push unit inst code arg else s.bb }

/-- The ring with one more event: 1024 slots, the oldest overwritten (R494). -/
def ringPush (r : List BbEvent) (e : BbEvent) : List BbEvent :=
  let r' := r ++ [e]
  r'.drop (r'.length - 1024)

/-- What one CORE cycle adds to the count, in units of 2⁻³² ns: 2.5 ns × (1 + r) (R399). -/
def coreStep (rate : Int) : Nat := ((10737418240 * (1000000000 + rate)) / 1000000000).toNat

/-- The time `k` CORE cycles after now, as a timestamp. -/
def State.nsAfter (s : State) (k : Nat) : Nat :=
  (s.time.ns * 2 ^ 32 + s.time.frac + k * coreStep s.time.rate) / 2 ^ 32

/-- Writes queued events to the ring, one per CORE cycle from cycle `k` on. -/
def flushQueue (at_ : Nat → Nat) : List BbEvent → Nat → List BbEvent → List BbEvent
  | [], _, r => r
  | e :: q, k, r => flushQueue at_ q (k + 1) (ringPush r { e with ns := at_ k })

/-- The freeze of R500: queued events, then the freeze event, then nothing more. A trigger that finds the box
frozen, asleep or without PWR_OK has no effect (R497, R500). -/
def State.freeze (s : State) (cause : Byte) : State :=
  { s with bb :=
      if s.bbWrites then
        let n := s.bb.queue.length
        let e : BbEvent := ⟨s.nsAfter n, 0x01#7, s.bb.lostPending, 0xFF#8, 0x0001#16, cause.setWidth 32⟩
        { s.bb with
          ring := ringPush (flushQueue s.nsAfter s.bb.queue 0 s.bb.ring) e
          queue := []
          lostPending := false
          written := s.bb.written + BitVec.ofNat 32 (n + 1)
          frozen := true
          freezeCause := cause
          freezeNs := s.nsAfter n }
      else s.bb }

/-- Bit `i` of SYS.BB_TRIG, or ST18 at one of the levels given, selects a freeze trigger (Table BB.3). -/
def State.trigOn (s : State) (levels : List Nat) (i : Nat) : Bool :=
  levels.contains (s.strap 18) || s.getB Fld.sysBbTrig i

/-- A freeze by a selectable trigger. -/
def State.freezeIf (s : State) (cause : Byte) (levels : List Nat) (i : Nat) : State :=
  { s with bb := if s.trigOn levels i then (s.freeze cause).bb else s.bb }

end Sys2Proof.Machine
end

