-- ==== Sys2Proof/Machine/Light.lean ====
section
/-! DEFINITION. Meanings of the commands of the light matrix (chapter "Light matrix: lamps, courses and strobes"). -/

namespace Sys2Proof.Machine

/-- The address lies in the apply set "scan" (R187). -/
def isScanField (a : Nat) : Bool :=
  (decide (0x1010 ≤ a) && decide (a ≤ 0x101F)) || (decide (0x1002 ≤ a) && decide (a ≤ 0x1007))

/-! ### Lines, timing and codes -/

/-- Line `l` is enabled: ST13 provides it, LIGHT.LINES keeps it, the enabled word and the variant have it (R144). -/
def State.lineOn (s : State) (l : Nat) : Bool :=
  match s.matrixLines with
  | none => false
  | some (_, n) => decide (l < n) && s.getB Fld.lightLines l && (decide (l < 4) || s.unitOn 12)

/-- Blanking B: rounded down to 5 ns and clamped to 40 to 2000 ns (R152). -/
def State.blankNs (s : State) : Nat := max 40 (min 2000 (s.getN Fld.lightBlankNs / 5 * 5))

/-- The discharge part for a blanking `b`: rounded down to 5 ns and clamped to 0 to `b` - 20 (R152). -/
def State.dischNs (s : State) (b : Nat) : Nat := min (b - 20) (s.getN Fld.lightDischNs / 5 * 5)

/-- Entries in use: 0 acts as 1, 17 to 31 as 16 (R151). -/
def State.scanLen (s : State) : Nat := max 1 (min 16 (s.getN Fld.lightScanLen))

/-- Line, dark bit and programmed length in ns of scan entry `e` (Table LM.7). -/
def State.scanLine (s : State) (e : Nat) : Nat := s.getN (Fld.lightScan e) / 2 ^ 22 % 8
def State.scanDark (s : State) (e : Nat) : Bool := s.getB (Fld.lightScan e) 25
def State.scanNs (s : State) (e : Nat) : Nat := s.getN (Fld.lightScan e) % 2 ^ 22 * 5

/-- The shortest course (R153). -/
def State.shortestCourse (s : State) : Nat := max 1000 (s.blankNs + 200)

/-- Group, member bit and colour channel of lamp `n` (LIGHT.LAMP). -/
def State.lampGroup (s : State) (n : Nat) : Nat := s.getN (Fld.lightLamp n) % 8
def State.lampMember (s : State) (n : Nat) : Bool := s.getB (Fld.lightLamp n) 3
def State.lampChannel (s : State) (n : Nat) : Nat := s.getN (Fld.lightLamp n) / 16 % 4

/-- Lamp `n` is failed; group `g` is killed. -/
def State.lampFailed (s : State) (n : Nat) : Bool := s.getB (Fld.lightFailed (n / 32)) (n % 32)
def State.groupKilled (s : State) (g : Nat) : Bool := s.getB Fld.lightKilled g

/-- Group `g` has a member lamp on line `l`. -/
def State.groupOnLine (s : State) (g l : Nat) : Bool :=
  (List.range 16).any fun c => s.lampMember (16 * l + c) && s.lampGroup (16 * l + c) == g

/-- Group `g` is all-or-nothing (R182). -/
def State.groupAon (s : State) (g : Nat) : Bool :=
  decide (4 ≤ s.lightSafety) || s.getB Fld.lightGrpAon g

/-- The largest `m` below 2^(`i` + 1) above `acc` that `p` accepts, for a downward closed `p`. -/
def largestFrom (p : Nat → Bool) : Nat → Nat → Nat
  | 0, acc => acc
  | i + 1, acc => if p (acc + 2 ^ i) then largestFrom p i (acc + 2 ^ i) else largestFrom p i acc

/-- F16 of level `b` for a power curve of exponent `num`/5: the nearest integer to 65535 (b/4095)^γ (R172). -/
def gammaF16 (num b : Nat) : Nat :=
  largestFrom (fun m => decide ((2 * m - 1) ^ 5 * 4095 ^ num ≤ b ^ num * 131070 ^ 5)) 17 0

/-- F16 of level `b` for the logarithmic curve (R172). -/
def logF16 (b : Nat) : Nat :=
  if b = 0 then 0
  else largestFrom (fun m => decide ((2 * m - 1) ^ 1365 * 2 ^ (4 * (4095 - b)) ≤ 131070 ^ 1365)) 17 0

/-- F16 by shape (R172): 0 linear, 1 to 3 gamma 1.8, 2.2 and 2.6, 4 logarithmic, 5 to 7 as 0. -/
def curveF16 (shape b : Nat) : Nat :=
  match shape with
  | 1 => gammaF16 9 b
  | 2 => gammaF16 11 b
  | 3 => gammaF16 13 b
  | 4 => logF16 b
  | _ => (2 * 65535 * b + 4095) / 8190

/-- The sensor-feedback trim applies to group `g` (R160, R161). -/
def State.feedbackOn (s : State) (g : Nat) : Bool :=
  s.getB (Fld.lightGrpFb g) 0 && !s.getB Fld.lightFbHold 0 && decide (s.identity.variant ≠ .evr8440)

/-- The lamps may light: LT_EN is high and a boundary has followed its rise, and after a takeover a boundary has joined the
mirrored schedule (R173, R174, Table LM.6). -/
def State.lampsOpen (s : State) : Bool := s.pins.ltEn && !s.light.relight && s.light.joinFrom.isNone

/-- The code of lamp `n` while its group is in its lit interval, as R158 gives it with the lamps open. -/
def State.lampCode (s : State) (n : Nat) : Nat :=
  let g := s.lampGroup n
  if s.lampFailed n || s.groupKilled g || !s.light.groupMask.getLsbD g
      || s.getN (Fld.lightGrpMode g) == 0 || !s.lampMember n then 0
  else
    let trim := if s.feedbackOn g then s.getN (Fld.lightTrim (4 * g + s.lampChannel n)) else 32768
    let f := if s.getN (Fld.lightGrpMode g) = 3
      then curveF16 (s.getN (Fld.lightCrvShape g)) (s.getN (Fld.lightCrvLvl g)) else 65535
    min 4095 (s.getN (Fld.lightGrpSet g) * s.getN (Fld.lightBin n) * trim * f * s.light.derateUsed
      / (32768 * 32768 * 65535 * 256))

/-- The group's lamps are in their lit interval in the course in progress: the pulse runs, or steady mode in the
active window. -/
def State.groupLit (s : State) (g : Nat) : Bool :=
  decide (s.light.stage = .active) &&
    (if h : g < 8 then
      decide (s.light.pulses[g] = .running) || s.getN (Fld.lightGrpMode g) == 3
     else false)

/-- The codes of the sixteen columns that R158 gives at this moment of the course with the lamps open. -/
def State.scheduledCodes (s : State) : List Nat :=
  match s.light.course with
  | none => List.replicate 16 0
  | some k =>
    if k.dark then List.replicate 16 0
    else (List.range 16).map fun c =>
      if s.groupLit (s.lampGroup (16 * k.line + c)) then s.lampCode (16 * k.line + c) else 0

/-- The codes of the sixteen columns as R158 gives them at this moment of the course: 0 while the lamps are not open. -/
def State.columnCodes (s : State) : List Nat :=
  if s.lampsOpen then s.scheduledCodes else List.replicate 16 0

/-- The times from which the columns may be read against the zero threshold, when the codes `old` change to `new` at `pos` ns
after the boundary (R176). -/
def zeroTimes (old new : List Nat) (pos : Int) (from_ : List Int) : List Int :=
  (List.range 16).map fun c =>
    if (old[c]?).getD 0 ≠ 0 ∧ (new[c]?).getD 0 = 0 then pos else (from_[c]?).getD 0

/-- The columns take their codes `pos` ns after the boundary. A lamp that lights marks the course as lit and a dark interval
ends. While the lamps are not open the lamps that would light keep the timing: they mark the course, and the interval in
progress qualifies no more (R163, R165, R173).
Log 41 (DEDUCED). -/
def State.driveColumns (s : State) (pos : Nat) : State :=
  let codes := s.columnCodes
  let lit := codes.any (· != 0)
  let would := s.scheduledCodes.any (· != 0)
  { s with light := { s.light with
      codes := codes
      zeroFrom := zeroTimes s.light.codes codes pos s.light.zeroFrom
      courseLit := s.light.courseLit || would
      darkOpen := s.light.darkOpen && !lit
      darkQual := s.light.darkQual && !would } }

/-! ### Dark intervals -/

/-- Pulse width of group `g` in ns (R157). -/
def State.pulseNs (s : State) (g : Nat) : Nat := max 50 (min 10000000 (s.getN (Fld.lightGrpW g) * 5))

/-- Pulse start of group `g` after the boundary, in ns.
Log 42 (DEDUCED). -/
def State.pulseOfs (s : State) (g : Nat) : Nat := s.getN (Fld.lightGrpOfs g) * 5

/-- Time to the next period-lock instant (R154), 0 when the scan runs free. -/
def State.lockWait (s : State) : Nat :=
  let p := s.getN Fld.lightScanPeriodNs
  if p = 0 then 0
  else
    let r := (((s.nowNs : Int) - s.getN Fld.lightScanPhaseNs) % (p : Int)).toNat
    p - r

/-- The wait under period lock after a scan that ends `d` ns from now: to the first instant at or after its end (R154). -/
def State.lockGap (s : State) (d : Nat) : Nat :=
  let p := s.getN Fld.lightScanPeriodNs
  if p = 0 then 0
  else if d ≤ s.lockWait then s.lockWait - d
  else (p - (d - s.lockWait) % p) % p

/-- A pulse of group `g` is still scheduled in course `k` at or after `pos`; a killed group's pulses are dark (Table
LM.5). -/
def State.pulseAhead (s : State) (k : CourseRun) (g : GroupId) (pos : Nat) : Bool :=
  decide (s.light.pulses[g] = .scheduled) && decide (pos ≤ s.pulseOfs g) && decide (s.pulseOfs g < k.len - k.blank)
    && !s.groupKilled g.val

/-- The dark interval that begins at `pos` runs on into the forced slot of the course (R165). -/
def State.holdsSlot (s : State) (pos : Nat) : Bool :=
  match s.light.course with
  | some k => k.slot && !((List.finRange 8).any fun (g : GroupId) => s.pulseAhead k g pos)
  | none => false

/-- The known length of a dark interval that begins `pos` ns after the boundary (R163): to the next pulse start still
scheduled, else to the end of the course with the wait that follows the last entry under period lock. -/
def State.darkKnown (s : State) (pos : Nat) : Nat :=
  match s.light.course with
  | none => s.lockWait
  | some k =>
    let starts := (List.finRange 8).filterMap fun (g : GroupId) =>
      if s.pulseAhead k g pos then some (s.pulseOfs g - pos) else none
    match starts.min? with
    | some d => d
    | none => (k.len - pos) + (if s.light.nextEntry = 0 then s.lockGap (k.len - pos) else 0)

/-- A dark interval begins `pos` ns after the boundary when every column is at code 0, discharge codes aside, and none
is open (R163); it qualifies at 2.000 µs or more with LT_EN high, or when it holds a forced slot (R165).
Log 41 (DEDUCED). -/
def State.darkBegin (s : State) (pos : Nat) : State :=
  let q := (s.pins.ltEn && decide (2000 ≤ s.darkKnown pos)) || s.holdsSlot pos
  let lit := decide (s.light.stage = .active) && s.light.codes.any (· != 0)
  if s.light.darkOpen || lit || decide (s.light.stage = .rest) then s
  else { s with light := { s.light with
      darkOpen := true, darkQual := q, darkIssued := false
      courseQual := s.light.courseQual || q
      darkCount := if q then 0 else s.light.darkCount } }

/-- The open dark interval comes to hold the forced slot, and qualifies (R165, Table LM.5).
Log 41 (DEDUCED). -/
def State.darkSlot (s : State) : State :=
  if s.light.darkOpen then
    { s with light := { s.light with darkQual := true, courseQual := true, darkCount := 0 } }
  else s

/-! ### Failures -/

/-- Sets the failed bit of lamp `n` (LIGHT.FAILED). -/
def State.markFailed (s : State) (n : Nat) : State :=
  s.setF (Fld.lightFailed (n / 32)) (s.getF (Fld.lightFailed (n / 32)) ||| BitVec.ofNat 32 (2 ^ (n % 32)))

/-- Kills the group of failed lamp `n` if it is all-or-nothing and not yet killed (R182). -/
def State.killFor (s : State) (n : Nat) : State :=
  let g := s.lampGroup n
  if s.lampMember n && s.groupAon g && !s.groupKilled g then
    ((((s.setF Fld.lightKilled (s.getF Fld.lightKilled ||| BitVec.ofNat 32 (2 ^ g))).raise 0 22).bbEvent
      0x03#7 (BitVec.ofNat 8 g) 0x0009#16 (BitVec.ofNat 32 n)).freezeIf 0x11#8 [1, 5] 0)
  else s

/-- LT_FAULT_N goes low and stays low until reset (R183). -/
def State.ltFault (s : State) : State := { s with balls := { s.balls with ltFaultLow := true } }

/-- Lamp `n` is found open (kind 1), over (2) or conducting at code 0 (3) (R177, R182, R183). -/
def State.failLamp (s : State) (n kind : Nat) : State :=
  let last := n + 256 * kind
  (((((((s.markFailed n).setN Fld.lightLastFault last).raise 0 (if kind = 1 then 19 else 20)).bbEvent
    0x03#7 0xFF#8 0x0007#16 (BitVec.ofNat 32 last)).ltFault).freezeIf 0x11#8 [1, 5] 0).killFor n)

/-- The columns follow a failure at once, `pos` ns after the boundary (R177, Table LM.5). -/
def State.afterFailure (s : State) (pos : Nat) : State := (s.driveColumns pos).darkBegin pos

/-- The unit evaluates lamp faults: enabled, LT_EN high, not a standby (R150, R173, R186). -/
def State.faultsEvaluated (s : State) : Bool :=
  s.enabledAt Fld.lightEnable && s.pins.ltEn && s.activeRole

/-- The voltage of column code `k` in microvolts times 4096 (R145: full scale 1.200 V, 12 bits). -/
def codeVolts (k : Nat) : Nat := k * 1200000

/-- What the open and over comparators of a column at code `k` tell of `level` µV on its LS: below 0.80 × k, above 1.25 × k,
or between (R146). -/
def compareLamp (k level : Nat) : LampReading :=
  if 10 * (4096 * level) < 8 * codeVolts k then .below
  else if 5 * codeVolts k < 4 * (4096 * level) then .above
  else .good

/-- The zero comparator: `level` µV on LS lies above the voltage of code 128 (R146). -/
def aboveZero (level : Nat) : Bool := decide (codeVolts 128 < 4096 * level)

/-- One column's reading in an evaluated pulse of group `g` on line `l` (R175). -/
def State.sampleLamp (s : State) (n : Nat) (r : LampReading) : State :=
  let z : Nat → Nat := fun _ => 0
  let o := match r with | .below => sparseGet z s.light.opens n + 1 | _ => 0
  let v := match r with | .above => sparseGet z s.light.overs n + 1 | _ => 0
  let s1 := { s with light := { s.light with
    opens := sparseSet z s.light.opens n o, overs := sparseSet z s.light.overs n v } }
  if 3 ≤ o then s1.failLamp n 1 else if 3 ≤ v then s1.failLamp n 2 else s1

/-- The comparators of column `c`, sampled for group `g` in course `k`; `s0` is the state the pulse began to be judged in. -/
def State.sampleColumn (s0 : State) (g : GroupId) (k : CourseRun) (readings : List Nat) (s : State) (c : Nat) :
    State :=
  let n := 16 * k.line + c
  let code := (s0.light.codes[c]?).getD 0
  if s0.lampGroup n == g.val && s0.lampMember n && decide (64 ≤ code) then
    match readings[c]? with
    | some level => s.sampleLamp n (compareLamp code level)
    | none => s
  else s

/-- The fault evaluation of a pulse of group `g` in course `k` (R175). -/
def State.evaluatePulse (s : State) (g : GroupId) (k : CourseRun) (readings : List Nat) : State :=
  let steady := s.getN (Fld.lightGrpMode g.val) == 3
  let width := if steady then k.len - k.blank else min (s.pulseNs g.val) (k.len - k.blank - s.pulseOfs g.val)
  let dly := max 40 (min 1000 (s.getN Fld.lightSenseDlyNs))
  if s.faultsEvaluated && s.groupLit g.val && decide (dly + 20 ≤ width) && !k.dark then
    ((List.range 16).foldl (s.sampleColumn g k readings) s).afterFailure ((if steady then 0 else s.pulseOfs g.val) + dly)
  else s

/-- FAULT_SAMPLE (R175): the comparators are sampled into the pulse of group `g` (for a steady group, into the active
window); reading `c` of the list is the level of LS c in microvolts. -/
def execFaultSample (g : GroupId) (readings : List Nat) (s : State) : Host.Outcome State Fault Refusal :=
  .next (match s.light.course with
    | none => s
    | some k => s.evaluatePulse g k readings)

/-- The reading of column `col` at code 0 stands `pos` ns after the boundary: 50 ns after the discharge ended or after the
column reached code 0 (R176). -/
def State.zeroSettled (s : State) (col pos : Nat) : Bool :=
  decide ((s.light.zeroFrom[col]?).getD 0 + 50 ≤ (pos : Int))

/-- The count of courses in which lamp `n` of column `col` has read above the zero threshold, after one more reading: the
course counts once, and a reading that is not above ends the run (R176). -/
def State.zeroCount (s : State) (n col : Nat) (above : Bool) : Nat :=
  let v := sparseGet (fun _ => 0) s.light.zeros n
  if !above then 0 else if s.light.zeroSeen.getLsbD col then v else v + 1

/-- ZERO_CURRENT_CHECK (R146, R176): column `col`, at code 0 in the active window, is read against the zero threshold.
Log 101 (DEDUCED). -/
def execZeroCurrentCheck (col : Fin 16) (level : Nat) (pos : Nat) (s : State) :
    Host.Outcome State Fault Refusal :=
  .next (match s.light.course with
    | none => s
    | some k =>
      let n := 16 * k.line + col.val
      if s.faultsEvaluated && decide (s.light.stage = .active) && !k.dark && !s.lampFailed n
          && ((s.light.codes[col.val]?).getD 0 == 0) && s.zeroSettled col.val pos then
        let v := s.zeroCount n col.val (aboveZero level)
        let mark := BitVec.ofNat 16 (2 ^ col.val)
        let s1 := { s with light := { s.light with
          zeros := sparseSet (fun _ => 0) s.light.zeros n v
          zeroSeen := if aboveZero level then s.light.zeroSeen ||| mark else s.light.zeroSeen } }
        if 3 ≤ v then (s1.failLamp n 3).afterFailure pos else s1
      else s)

/-! ### Course boundaries -/

/-- The set of a pending write applies at a course boundary (Table FM.3). -/
def Pend.isCourse (p : Pend) : Bool :=
  match p.set with
  | .scan | .group _ | .own _ => true
  | _ => false

/-- The value of the last pending write of an own-set action field that `sel` picks, 0 where none is pending. -/
def State.lastPending (s : State) (sel : Pend → Bool) (a : Nat) : Word :=
  match (s.shadow.filter fun p => p.addr == a && sel p).getLast? with
  | some p => p.val
  | none => 0

/-- Arms the groups of a fire mask for each line on which they have members; groups not in mode 2 ignore it
(R157, Table LM.5).
Log 42 (DEDUCED). -/
def State.applyFire (s : State) (v : Word) : State :=
  { s with light := { s.light with
      armed :=
       Vector.ofFn (fun g : GroupId =>
        if v.getLsbD g.val && s.getN (Fld.lightGrpMode g.val) == 2 then
          (List.range 8).foldl (fun (b : BitVec 8) l =>
            if s.groupOnLine g.val l then b ||| BitVec.ofNat 8 (2 ^ l) else b) s.light.armed[g]
        else s.light.armed[g]) } }

/-- Starts the transitions of a go mask from the present levels (R171).
Log 40 (DEDUCED). -/
def State.applyGo (s : State) (v : Word) : State :=
  { s with light := { s.light with
      curves :=
       Vector.ofFn (fun g : GroupId =>
        if v.getLsbD g.val then
          some ⟨s.getN (Fld.lightCrvLvl g.val), s.getN (Fld.lightCrvTgt g.val),
            max 1 (min 4096 (s.getN (Fld.lightCrvSteps g.val))), 0⟩
        else s.light.curves[g]) } }

/-- The level of a transition after `k` steps: rounded to the nearest integer (halves upward), the last step exact. -/
def Curve.level (c : Curve) (k : Nat) : Nat :=
  if c.steps ≤ k then c.target
  else ((2 * ((c.from_ : Int) * c.steps + ((c.target : Int) - c.from_) * k) + c.steps) / (2 * c.steps)).toNat

/-- One step of one group's transition; CURVE_DONE at the step that lands on the target (R171).
Log 40 (DEDUCED). -/
def State.stepCurve (s : State) (g : GroupId) : State :=
  match s.light.curves[g] with
  | none => s
  | some c =>
    let c' : Curve := { c with done := c.done + 1 }
    let s1 := s.setN (Fld.lightCrvLvl g.val) (c.level c'.done)
    if c.steps ≤ c'.done then
      ({ s1 with light := { s1.light with curves := s1.light.curves.set g.val none } }).raise 0 26
    else { s1 with light := { s1.light with curves := s1.light.curves.set g.val (some c') } }

/-- The lines that the scan table in force names in its used entries. -/
def State.scanLines (s : State) : BitVec 8 :=
  (List.range s.scanLen).foldl (fun b e => b ||| BitVec.ofNat 8 (2 ^ s.scanLine e)) 0#8

/-- The apply set "scan" has applied: the arming of lines that appear in no entry of the new table ends (R557), and each
dark entry writes its event anew (R153). -/
def State.scanApplied (s : State) : State :=
  { s with light := { s.light with armed := s.light.armed.map (· &&& s.scanLines), darkNoted := 0 } }

/-- Every C-class set takes those of its pending writes that `sel` picks (R122, R187). -/
def State.applyLight (s : State) (sel : Pend → Bool) : State :=
  let pick := fun p => p.isCourse && sel p
  let fire := s.lastPending pick Fld.lightGrpFire
  let go := s.lastPending pick Fld.lightCrvGo
  let scanChange := s.shadow.any fun p => p.set == .scan && sel p
  let s1 := s.applyPending pick
  let s2 := if scanChange then s1.scanApplied else s1
  (s2.applyFire fire).applyGo go

/-- The sets of a course boundary: a write accepted in the LIGHT cycle of the boundary waits for the next (R122, Table
LM.5). -/
def State.applyCourseSets (s : State) : State := s.applyLight s.due

/-- The columns of a course that ended without a reading above the zero threshold start their runs anew (R176).
Log 101 (DEDUCED). -/
def State.endZeros (s : State) (k : CourseRun) : State :=
  if k.dark || !s.faultsEvaluated then s
  else { s with light := { s.light with
    zeros := (List.range 16).foldl (fun (z : Sparse Nat) c =>
      if s.light.zeroSeen.getLsbD c then z else sparseSet (fun _ => 0) z (16 * k.line + c) 0) s.light.zeros } }

/-- The end of the course in progress: the dark count (R165). `nextEntry` is the index that follows, not yet wrapped. -/
def State.endCourse (s : State) : State :=
  match s.light.course with
  | none => s
  | some k =>
    let t := s.endZeros k
    let cnt := if s.light.courseLit && !s.light.courseQual then min 64 (s.light.darkCount + 1) else s.light.darkCount
    let may := s.lightSafety % 2 == 1 && s.getB Fld.lightFdEn 0
    { t with light := { t.light with
        course := none
        stage := .wait
        codes := List.replicate 16 0
        zeroFrom := List.replicate 16 ((k.disch : Int) - k.blank)
        darkCount := cnt
        slotNext := decide (cnt = 64) && may
        nextEntry := k.entry + 1 } }

/-- The index at which the scan goes on, once the sets of the boundary have applied: the entry that follows the one just
ended, or entry 0 where that index is LIGHT.SCAN_LEN or more (R151, R155). -/
def State.wrapEntry (s : State) : State :=
  { s with light := { s.light with nextEntry := if s.light.nextEntry < s.scanLen then s.light.nextEntry else 0 } }

/-- A takeover has been joined at a boundary that falls `now`: one blanking `b` has passed since LN and LC came to drive
dark (Table LM.6 step 3). -/
def joinAt (now b : Nat) : Option Nat → Option Nat
  | some t => if t + b ≤ now then none else some t
  | none => none

/-- The start of the course of entry `e` at a boundary: sets, scene mask, relight, derate code, curves, fired groups
and codes; COURSE, and MATRIX_WRAP at entry 0 (R151 to R158, R171, R174). A dark course leaves the arming of its line in place.
Log 41 (DEDUCED), 102 (DESIGN CHOICE). -/
def State.startCourse (s : State) (e0 : Nat) : State :=
  let s1 := s.applyCourseSets
  let e := if e0 < s1.scanLen then e0 else 0
  let s2 := (List.finRange 8).foldl State.stepCurve s1
  let line := s2.scanLine e
  let dark := s2.scanDark e || !s2.lineOn line
  let short := decide (s2.scanNs e < s2.shortestCourse)
  let slot := s2.light.slotNext
  let blank := s2.blankNs + (if slot then 2000 else 0)
  let len := max (s2.scanNs e) s2.shortestCourse + (if slot then 2000 else 0)
  let mask := match s2.sys.scenes[s2.sys.sceneActive.toNat]? with | some c => c.groups | none => 0#8
  let fires : GroupId → Bool := fun g =>
    s2.getN (Fld.lightGrpMode g.val) == 2 && s2.light.armed[g].getLsbD line && !dark
  let sched : GroupId → Bool := fun g =>
    !dark && mask.getLsbD g.val && !s2.groupKilled g.val && s2.groupOnLine g.val line
      && (s2.getN (Fld.lightGrpMode g.val) == 1 || fires g)
  let s3 := if short then s2.count16 Fld.lightClipCount else s2
  let s4 : State := { s3 with light := { s3.light with
    stage := .active
    course := some ⟨e, line, len, blank, s3.dischNs s3.blankNs, dark, slot⟩
    courseFrom := s3.nowNs
    nextEntry := if e + 1 < s3.scanLen then e + 1 else 0
    pulses := Vector.ofFn (fun g : GroupId => if sched g then .scheduled else .none)
    armed := Vector.ofFn (fun g : GroupId =>
      if fires g then s3.light.armed[g] &&& ~~~ BitVec.ofNat 8 (2 ^ line) else s3.light.armed[g])
    derateUsed := s3.getN Fld.lightDerate
    courseLit := false
    courseQual := false
    zeroSeen := 0
    slotUsed := false
    slotNext := false
    relight := s3.light.relight && !s3.pins.ltEn
    joinFrom := joinAt s3.nowNs s3.blankNs s3.light.joinFrom
    groupMask := mask
    darkNoted := if dark then s3.light.darkNoted ||| BitVec.ofNat 16 (2 ^ e) else s3.light.darkNoted } }
  let s5 := if dark && !s3.light.darkNoted.getLsbD e
    then s4.bbEvent 0x03#7 (BitVec.ofNat 8 e) 0x0001#16 (BitVec.ofNat 32 line) else s4
  let s6 := s5.raise 0 16
  let s7 := if e = 0 then s6.raise 0 17 else s6
  let s8 := s7.driveColumns 0
  ({ s8 with light := { s8.light with courseQual := s8.light.darkOpen && s8.light.darkQual } } : State).darkBegin 0

/-- The matrix goes dark and holds no course (R150, R185, R141). -/
def State.lightRest (s : State) : State :=
  { s with light := { s.light with
      stage := .rest, course := none, codes := List.replicate 16 0, nextEntry := 0
      pulses := Vector.replicate 8 .none, darkOpen := false, darkQual := false
      sweep := none, sweepDue := false } }

/-- The matrix has gone dark for sleep: a sleep entry past its acknowledgements (Table SR.13, R185). -/
def State.lightSleeps (s : State) : Bool := decide (s.phase = .sleepEntry) && decide (2 ≤ s.sys.sleepStep)

/-- A course boundary (R152). It ends the course in progress, applies the pending sets and starts the next entry's
course; under period lock the scan waits dark after its last entry (R154); at sleep entry the lamps go dark here
(Table SR.13). -/
def State.courseBoundary (s : State) : State :=
  if !s.enabledAt Fld.lightEnable || decide (s.light.stage = .rest) then s
  else if s.lightSleeps then s.endCourse.lightRest
  else
    let s1 := s.endCourse.applyCourseSets.wrapEntry
    if s1.getN Fld.lightScanPeriodNs ≠ 0 ∧ s1.light.nextEntry = 0 ∧ s.light.course.isSome then s1.darkBegin 0
    else if s.light.course.isSome then s1.startCourse s1.light.nextEntry
    else s

/-- SCAN_INSTANT (R154): a waiting scan starts entry 0, but not during sleep entry once the lamps are to go dark (R185); a
running one records an overrun, at each instant it runs past.
Log 103 (DESIGN CHOICE). -/
def execScanInstant (s : State) : Host.Outcome State Fault Refusal :=
  .next (
    if !s.enabledAt Fld.lightEnable || s.getN Fld.lightScanPeriodNs == 0 || s.lightSleeps then s
    else match s.light.stage with
      | .rest => s
      | .wait => s.startCourse 0
      | _ =>
        let s1 := s.count16 Fld.lightOverrunCount
        ({ s1 with light := { s1.light with overrunSeen := true } }).bbEvent 0x03#7 0xFF#8 0x0002#16
          (s1.getF Fld.lightOverrunCount))

/-- PULSE_START (R157): the group's pulse starts on its columns. One that starts at the boundary itself leaves nothing of the
dark interval before it to its course (R165).
Log 41 (DEDUCED). -/
def execPulseStart (g : GroupId) (s : State) : Host.Outcome State Fault Refusal :=
  .next (
    if decide (s.light.stage = .active) && decide (s.light.pulses[g] = .scheduled) then
      let s1 := ({ s with light := { s.light with pulses := s.light.pulses.set g.val .running } } : State).driveColumns
        (s.pulseOfs g.val)
      if s.pulseOfs g.val = 0 then
        { s1 with light := { s1.light with courseQual := s1.light.courseQual && s1.light.darkQual } } else s1
    else s)

/-- PULSE_END (R157): the pulse ends after GRP_W, and a dark interval may begin; STROBE_END.
Log 42 (DEDUCED). -/
def execPulseEnd (g : GroupId) (s : State) : Host.Outcome State Fault Refusal :=
  .next (
    if decide (s.light.stage = .active) && decide (s.light.pulses[g] = .running) then
      let pos := s.pulseOfs g.val + s.pulseNs g.val
      ((({ s with light := { s.light with pulses := s.light.pulses.set g.val .ended } } : State).driveColumns pos).raise 0
        18).darkBegin pos
    else s)

/-- BLANKING_START (R152, R157, R165): the gate goes off, pulses still to end are clipped and counted, those that never
started among them, the columns go to the discharge code, a dark interval begins where none is open, and a forced slot begins.
Log 41 (DEDUCED), 104 (DEDUCED). -/
def execBlankingStart (s : State) : Host.Outcome State Fault Refusal :=
  .next (match s.light.course with
    | none => s
    | some k =>
      if s.light.stage ≠ .active then s
      else
        let clipped := (List.finRange 8).filter fun g =>
          decide (s.light.pulses[g] = .running) || decide (s.light.pulses[g] = .scheduled)
        let ended := (List.finRange 8).any fun g => decide (s.light.pulses[g] = .running)
        let s1 := s.countSat 16 Fld.lightClipCount clipped.length
        let dc := if k.disch = 0 then 0 else if k.dark then 0 else s.getN Fld.lightDischCode
        let s2 : State := { s1 with light := { s1.light with
          stage := if k.disch = 0 then .blank else .discharge
          codes := List.replicate 16 dc
          pulses := s1.light.pulses.map (fun p =>
            match p with | .running | .scheduled => .ended | q => q) } }
        let s3 := if ended then s2.raise 0 18 else s2
        let s4 := if k.slot then (s3.count16 Fld.lightFdCount).raise 0 29 else s3
        let s5 := s4.darkBegin (k.len - k.blank)
        if k.slot then s5.darkSlot else s5)

/-- DISCHARGE_END (R152): the columns go to code 0. -/
def execDischargeEnd (s : State) : Host.Outcome State Fault Refusal :=
  .next (
    if s.light.stage = .discharge then
      { s with light := { s.light with stage := .blank, codes := List.replicate 16 0 } }
    else s)

/-! ### Conversion starts for ADC-A -/

/-- The length in ns of the pulse of group `g` in course `k`: the active window in the steady mode, else the width as far as
the blanking lets it run (R157).
Log 42 (DEDUCED). -/
def State.pulseSpan (s : State) (k : CourseRun) (g : Nat) : Nat :=
  if s.getN (Fld.lightGrpMode g) = 3 then k.len - k.blank
  else min (s.pulseNs g) (k.len - k.blank - s.pulseOfs g)

/-- A pulse of group `g` is in progress in course `k`: its lit interval, in a course that is not dark, with a lamp of the group
on the line, the group in the scene mask and not killed (R156 to R159). -/
def State.groupPulses (s : State) (k : CourseRun) (g : Nat) : Bool :=
  s.groupLit g && !k.dark && s.groupOnLine g k.line && s.light.groupMask.getLsbD g && !s.groupKilled g

/-- Start `slot` falls due now: it is issued 30 ns after the start before it at the soonest (R159). Of a strobe-locked and a
dark start that fall due together the strobe-locked one goes first (Table LM.5). -/
def State.issueStart (s : State) (slot : Option (Fin 4)) : State :=
  let t := max s.nowNs (s.light.lastIssue + 30)
  let tie := fun (x : IssuedStart) => x.slot.isNone && decide (x.due = s.nowNs) && decide (x.at_ = s.light.lastIssue)
  match slot.isSome, s.light.issued.find? tie with
  | true, some d =>
    { s with light := { s.light with
        lastIssue := t
        issued := (s.light.issued.eraseP tie) ++ [⟨slot, s.nowNs, d.at_⟩, ⟨none, s.nowNs, t⟩] } }
  | _, _ => { s with light := { s.light with lastIssue := t, issued := s.light.issued ++ [⟨slot, s.nowNs, t⟩] } }

/-- A start of `slot` on its way to ADC-A that has been issued by now (R201). -/
def State.startDue (s : State) (slot : Option (Fin 4)) (x : IssuedStart) : Bool :=
  decide (x.slot = slot) && decide (x.at_ ≤ s.nowNs)

/-- That start has arrived. -/
def State.takeStart (s : State) (slot : Option (Fin 4)) : State :=
  { s with light := { s.light with issued := s.light.issued.eraseP (s.startDue slot) } }

/-- STROBE_LOCKED_ISSUE (R159): start `m` of LIGHT.SLS, enabled, is issued within a pulse of its group and no sooner
than 30 ns after the previous start; ADC-A sees it with STROBE_START. -/
def execStrobeLockedIssue (m : Fin 4) (s : State) : Host.Outcome State Fault Refusal :=
  .next (match s.light.course with
    | none => s
    | some k =>
      let f := s.getN (Fld.lightSls m.val)
      if f / 8 % 2 == 1 && s.groupPulses k (f % 8) && decide (f / 16 * 5 < s.pulseSpan k (f % 8)) then
        s.issueStart (some m)
      else s)

/-- DARK_START_ISSUE (R164): the dark start of a qualifying interval is issued, once. -/
def execDarkStartIssue (s : State) : Host.Outcome State Fault Refusal :=
  .next (
    if s.light.darkOpen && s.light.darkQual && !s.light.darkIssued then
      ({ s with light := { s.light with darkIssued := true } } : State).issueStart none
    else s)

/-! ### Neighbour-pin test -/

/-- The neighbours of a matrix pin (Table LM.4, numbering of R181). -/
def pinNeighbours (p : Nat) : List Nat :=
  if p < 8 then
    (if p = 0 then [] else [p - 1]) ++ (if p = 7 then [] else [p + 1]) ++ [16 + p, 32 + p]
  else if p < 16 then
    (if p = 8 then [] else [p - 1]) ++ (if p = 15 then [] else [p + 1]) ++ [16 + p, 16 + p - 8]
  else if p < 24 then
    (if p = 16 then [] else [p - 1]) ++ (if p = 23 then [] else [p + 1]) ++ [p - 16, p - 16 + 8]
  else if p < 32 then
    (if p = 24 then [] else [p - 1]) ++ (if p = 31 then [] else [p + 1]) ++ [p - 16]
  else if p < 40 then
    (if p = 32 then [] else [p - 1]) ++ (if p = 39 then [] else [p + 1]) ++ [p - 32]
  else []

/-- The lamps on the column or line that a matrix pin belongs to (R181). -/
def pinLamps (p : Nat) : List Nat :=
  if p < 32 then (List.range 8).map fun l => 16 * l + p % 16
  else (List.range 16).map fun c => 16 * (p - 32) + c

/-- Sets the failure bit of a matrix pin (R181). -/
def State.markPin (s : State) (p : Nat) : State :=
  if p < 32 then s.setF Fld.lightPinFail (s.getF Fld.lightPinFail ||| BitVec.ofNat 32 (2 ^ p))
  else s.setF Fld.lightPinFailLn (s.getF Fld.lightPinFailLn ||| BitVec.ofNat 32 (2 ^ (p - 32)))

/-- A bridge between driven pin `p` and neighbour `q` (R181, R182, R183). -/
def State.bridge (s : State) (p q : Nat) : State :=
  let s1 := (((((s.markPin p).markPin q).raise 0 21).bbEvent 0x03#7 0xFF#8 0x0008#16
    (BitVec.ofNat 32 (p + 65536 * q))).ltFault).freezeIf 0x11#8 [1, 5] 0
  let hit := (pinLamps p ++ pinLamps q).filter fun n => decide (n < 128)
  let s2 := hit.foldl State.markFailed s1
  hit.foldl State.killFor s2

/-- The pin that a running sweep tests next (R180). -/
def Light.sweepPin (l : Light) : Option Nat :=
  match l.sweep with
  | some (c, ls) => some (if ls then 16 + c else c)
  | none => none

/-- The part of a blanking after the discharge, or the dark course, in progress is long enough for a step and has not yet had its
column (R180). -/
def State.sweepSlot (s : State) : Bool :=
  let need := if s.identity.stepping = .b0 then 400 else 250
  match s.light.course with
  | none => false
  | some k =>
    !s.light.slotUsed && (if k.dark then decide (need ≤ k.len)
      else decide (s.light.stage = .blank) && decide (need ≤ k.blank - k.disch))

/-- The running sweep has tested its pin: the next one is due, a column in each slot, or NEIGH_TEST_DONE happens after the
last, and a sweep whose mark has passed starts at once (R180). -/
def State.sweepOn (s : State) : State :=
  match s.light.sweep with
  | some (c, false) => { s with light := { s.light with sweep := some (c, true) } }
  | some (c, true) =>
    if c = 15 then ({ s with light := { s.light with
        sweep := if s.light.sweepDue then some (0, false) else none, sweepDue := false, slotUsed := true } } : State).raise 0 23
    else { s with light := { s.light with sweep := some (c + 1, false), slotUsed := true } }
  | none => s

/-- A step on `pin` finds bridges to the pins `found`. -/
def State.bridges (s : State) (pin : Nat) (found : List Nat) : State :=
  found.foldl (fun (st : State) (q : Nat) => st.bridge pin q) s

/-- The pins that boot step 8 tests, in the order of their numbers: every LC and LS pin, then the LN pins of enabled lines
(R179). With the matrix strapped off the step has no work (Table SR.4).
Log 43 (DEDUCED). -/
def State.bootPins (s : State) : List Nat :=
  if s.matrixLines.isNone then [] else List.range 32 ++ ((List.range 8).filter s.lineOn).map (32 + ·)

/-- Boot step 8 is in progress. -/
def State.neighTesting (s : State) : Bool := decide (s.phase = .booting) && s.boot.started && !s.boot.neighDone

/-- The pin that boot step 8 tests next: an LN pin only while LT_EN is high (R179). -/
def State.bootPin (s : State) : Option Nat :=
  if s.neighTesting then
    match s.boot.neighLeft with
    | p :: _ => if decide (p < 32) || s.pins.ltEn then some p else none
    | [] => none
  else none

/-- The neighbours of `pin` whose level, in microvolts, lies above 0.30 V (R178). -/
def bridgedPins (pin : Nat) (levels : List (Fin 40 × Nat)) : List Nat :=
  (levels.filter fun x => (pinNeighbours pin).contains x.1.val && decide (300000 < x.2)).map fun x => x.1.val

/-- NEIGH_TEST_STEP (R178 to R181): the step on `pin` finds the neighbours above 0.30 V. It is the next step of boot step 8 or
of the running sweep.
Log 43 (DEDUCED). -/
def execNeighTestStep (pin : Fin 40) (levels : List (Fin 40 × Nat)) (s : State) : Host.Outcome State Fault Refusal :=
  let found := bridgedPins pin.val levels
  let sweeping := decide (s.light.sweepPin = some pin.val) && s.sweepSlot && s.activeRole
  .next (if sweeping then (s.bridges pin.val found).sweepOn
    else if s.bootPin = some pin.val then
      { (s.bridges pin.val found) with boot := { s.boot with neighLeft := s.boot.neighLeft.tail } }
    else s)

/-- NEIGH_SWEEP_START (R180): a test-period mark. A sweep starts; where the previous one still runs, the unit is starved,
with its event, and the new sweep starts at once when that one ends.
Log 43 (DEDUCED). -/
def execNeighSweepStart (s : State) : Host.Outcome State Fault Refusal :=
  .next (
    if !s.enabledAt Fld.lightEnable || decide (s.light.stage = .rest) then s
    else
      match s.light.sweep with
        | some (c, _) =>
          ({ s with light := { s.light with starved := true, sweepDue := true } } : State).bbEvent 0x03#7 0xFF#8 0x000A#16
            (BitVec.ofNat 32 c)
        | none => { s with light := { s.light with sweep := some (0, false) } })

/-! ### Temperature -/

/-- The knee in force: a KNEE_C of TMAX_C or more reads as TMAX_C - 16 (R168). -/
def State.kneeC (s : State) : Int :=
  if s.getI Fld.lightTmaxC 16 ≤ s.getI Fld.lightKneeC 16 then s.getI Fld.lightTmaxC 16 - 16
  else s.getI Fld.lightKneeC 16

/-- The derate code D of a filtered temperature (R168). -/
def State.derateOf (s : State) (tf : Rat) : Nat :=
  if tf ≤ (s.kneeC : Rat) then 256
  else if (s.getI Fld.lightTmaxC 16 : Rat) ≤ tf then 0
  else (256 * ((s.getI Fld.lightTmaxC 16 : Rat) - tf) / ((s.getI Fld.lightTmaxC 16 : Rat) - s.kneeC)).floor.toNat

/-- T_f as the 16-bit register shows it.
Log 39 (DEDUCED). -/
def tfBits (tf : Rat) : Word := signedBits 16 tf.floor

/-- A change of the derate-active flag, with its event (R169). -/
def State.setDerateFlag (s : State) (on : Bool) : State :=
  (({ s with light := { s.light with derateFlag := on, flagFrom := s.nowNs } }).raise 0 (if on then 24 else 25)).bbEvent
    0x03#7 0xFF#8 (if on then 0x0003#16 else 0x0004#16) (s.getF Fld.lightTempFilt)

/-- DERATE_UPDATE (R167 to R169): the millisecond update of T_f, D and the flag; none while the LIGHT clock stands (R185). The
dwell counts the time base on through a sleep.
Log 105 (DEDUCED). -/
def execDerateUpdate (s : State) : Host.Outcome State Fault Refusal :=
  .next (
    if !s.trowelsLive || !s.clocked then s
    else
      let tf := if s.light.tempValid
        then s.light.tf + ((s.getI Fld.lightBoardTemp 16 : Rat) - s.light.tf) / 1000 else s.light.tf
      let d := if s.light.tempLost then s.getN Fld.lightDerate else s.derateOf tf
      let s1 := (({ s with light := { s.light with tf := tf } }).setF Fld.lightTempFilt (tfBits tf)).setN Fld.lightDerate d
      let dwell := decide (250000000 ≤ s.nowNs - s.light.flagFrom)
      if !s.light.derateFlag && decide ((s.kneeC : Rat) < tf) && dwell then s1.setDerateFlag true
      else if s.light.derateFlag && !s.light.tempLost && decide (tf ≤ (s.kneeC : Rat) - 32) && dwell
        then s1.setDerateFlag false
      else s1)

/-- TEMP_LOST (R170): BOARD_TEMP has not been written for TEMP_TMO_MS while the unit runs. -/
def execTempLost (s : State) : Host.Outcome State Fault Refusal :=
  .next (
    if !s.enabledAt Fld.lightEnable || s.light.tempLost || !s.clocked then s
    else
      let s1 := s.setF Fld.lightDerate (s.getF Fld.lightTempLostDer)
      let s2 := if s.light.derateFlag then s1 else s1.setDerateFlag true
      ({ s2 with light := { s2.light with tempLost := true } }).bbEvent 0x03#7 0xFF#8 0x0005#16
        (s.getF Fld.lightTempLostDer))

/-! ### LT_EN -/

/-- LT_EN_FALL (R30, R173): every lamp is dark at once; LT_BLANKED and a black-box event, wherever the synchroniser is
clocked. -/
def execLtEnFall (s : State) : Host.Outcome State Fault Refusal :=
  .next (
    if !s.pins.ltEn then s
    else
      let s1 : State := { s with pins := { s.pins with ltEn := false }, light := { s.light with relight := true } }
      if s.clocked then
        let pos := s.nowNs - s.light.courseFrom
        (((s1.driveColumns pos).darkBegin pos).raise 0 28).bbEvent 0x03#7 0xFF#8 0x0006#16 0
      else { s1 with light := { s1.light with codes := List.replicate 16 0 } })

/-- LT_EN_RISE (R174): lamps light again only from the first course boundary that follows. -/
def execLtEnRise (s : State) : Host.Outcome State Fault Refusal :=
  .next (
    if s.pins.ltEn then s
    else { s with pins := { s.pins with ltEn := true }, light := { s.light with relight := true } })

/-! ### Writes that act at once -/

/-- LIGHT.ENABLE becomes 1: entry 0 starts at once, or at the next instant under period lock; the loss timeout starts
(R150, R170). -/
def State.lightStart (s : State) : State :=
  let s1 : State := { s with light := { s.light with stage := .wait, nextEntry := 0, tempFrom := s.nowNs } }
  if s1.getN Fld.lightScanPeriodNs = 0 then s1.startCourse 0 else s1.darkBegin 0

/-- LIGHT.ENABLE becomes 0: the course ends at once, and every pending write takes effect (R115, R150). -/
def State.lightStop (s : State) : State := (s.applyLight fun _ => true).lightRest

/-- A write of LIGHT.BOARD_TEMP: the timeout restarts; the first value, or the first after a loss, sets T_f (R167,
R170). -/
def State.boardTemp (s : State) (v : Word) : State :=
  let s1 := s.setF Fld.lightBoardTemp (v &&& 0xFFFF#32)
  let t : Rat := (s1.getI Fld.lightBoardTemp 16 : Rat)
  let seed := !s.light.tempValid || s.light.tempLost
  let s2 : State := { s1 with light := { s1.light with
    tempFrom := s.nowNs, tempValid := true, tempLost := false, tf := if seed then t else s1.light.tf } }
  if seed then s2.setF Fld.lightTempFilt (tfBits t) else s2

/-- A write of a LIGHT field that takes effect now (R115, R150, R167, R171, R557). -/
def State.lightNow (s : State) (a : Nat) (v : Word) : State :=
  if a = Fld.lightEnable then
    let was := s.enabledAt Fld.lightEnable
    let s1 := s.setF a (v &&& 1)
    if v.getLsbD 0 && !was then (if s.phase = .running ∨ s.boot.neighDone then s1.lightStart else s1)
    else if !v.getLsbD 0 && was then s1.lightStop
    else s1
  else if a = Fld.lightGrpFire then s.applyFire v
  else if a = Fld.lightCrvGo then s.applyGo v
  else if a = Fld.lightBoardTemp then s.boardTemp v
  else if isScanField a then (s.setF a v).scanApplied
  else s.setF a v

end Sys2Proof.Machine
end

