-- ==== Sys2Proof/Machine/Sense.lean ====
section
/-! DEFINITION. The converters and the ambient estimator (chapter "Analogue sensing: converters, sequences and
accumulators"): entries, requests, conversions, accumulators, estimates, references and calibration. -/

namespace Sys2Proof.Machine

/-- The state of a converter. -/
def State.adc (s : State) : Conv → Adc
  | .a => s.adcA
  | .b => s.adcB

/-- A change of one converter's state. -/
def State.updAdc (s : State) (c : Conv) (f : Adc → Adc) : State :=
  match c with
  | .a => { s with adcA := f s.adcA }
  | .b => { s with adcB := f s.adcB }

/-- The converter is enabled (R191). -/
def State.adcOn (s : State) (c : Conv) : Bool := s.enabledAt (Fld.adcEnable c)

/-- The converters take no more requests at sleep entry from step 3 on (Table SR.13, R221). -/
def State.adcStops (s : State) : Bool := decide (s.phase = .sleepEntry) && decide (2 ≤ s.sys.sleepStep)

/-- Converter `c` takes requests: enabled, clocked and not stopped by a halt, by sleep or by a reset (R83, R191, R221).
Log 31 (DEDUCED). -/
def State.adcTakes (s : State) (c : Conv) : Bool :=
  s.adcOn c && (match s.phase with
    | .booting | .running | .test => true
    | .sleepEntry => !s.adcStops
    | .waking => decide (4 ≤ s.sys.wakeStep)
    | .held | .xrefWait | .asleep | .halted | .xrefFatal | .thermal => false)

/-- A calibration runs on converter `c` with its clock running (R195, R196). -/
def State.calibratesNow (s : State) (c : Conv) : Bool := (s.adc c).calibrating && s.clocked && !s.adcStops

/-- Resolution in bits (Table AS.1). -/
def adcBits : Conv → Nat
  | .a => 14
  | .b => 12

/-! ### Entries (Table AS.3) -/

def State.entryInput (s : State) (c : Conv) (e : Nat) : Nat := s.getN (Fld.adcEntry c e) % 32
/-- The gain code in force: a reserved code acts as gain 1, code 0 (R198, Table AS.1). -/
def State.entryGain (s : State) (c : Conv) (e : Nat) : Nat :=
  let g := s.getN (Fld.adcEntry c e) / 2 ^ 5 % 8
  let codes := match c with | .a => 5 | .b => 3
  if g < codes then g else 0
def State.entryStart (s : State) (c : Conv) (e : Nat) : Nat := s.getN (Fld.adcEntry c e) / 2 ^ 13 % 4
def State.entryPreempt (s : State) (c : Conv) (e : Nat) : Bool := s.getB (Fld.adcEntry c e) 15
def State.entryAcc (s : State) (c : Conv) (e : Nat) : Nat := s.getN (Fld.adcEntry c e) / 2 ^ 16 % 16
def State.entrySub (s : State) (c : Conv) (e : Nat) : Bool := decide (c = .a) && s.getB (Fld.adcEntry c e) 20
def State.entrySlot (s : State) (c : Conv) (e : Nat) : Nat := s.getN (Fld.adcEntry c e) / 2 ^ 21 % 4

/-- The mode in force: a reserved input runs as mode 0, and modes 2 and 3 act as 0 on ADC-B (R198). -/
def State.entryMode (s : State) (c : Conv) (e : Nat) : Nat :=
  let m := s.getN (Fld.adcEntry c e) / 2 ^ 11 % 4
  let inputs := match c with | .a => 8 | .b => 17
  if inputs ≤ s.entryInput c e then 0
  else if c = .b ∧ 2 ≤ m then 0 else m

/-- The entries that a source runs, ascending (Table AS.4). -/
def State.sourceEntries (s : State) (c : Conv) : Source → List Nat
  | .urgent => [s.getN (Fld.adcUrgEntry c) % 16]
  | .strobe m => (List.range 16).filter fun e => s.entryMode c e == 2 && s.entryStart c e == m.val
  | .dark => (List.range 16).filter fun e => s.entryMode c e == 3
  | .seq => (List.range 16).filter fun e => s.entryMode c e == 1

/-- Priority of a source, 1 the highest (Table AS.4). -/
def Source.prio : Source → Nat
  | .urgent => 1
  | .strobe _ => 2
  | .dark => 3
  | .seq => 4

/-! ### Estimator -/

/-- Raises EST_STALE or EST_FRESH in the Light and the Sense trowels (R216). -/
def State.raiseEst (s : State) (n : Nat) : State := (s.raise 0 n).raise 1 n

/-- The estimate becomes stale (R214).
Log 46 (DEDUCED). -/
def State.goStale (s : State) : State :=
  let s1 : State := { s with amb := { s.amb with stale := true, freshCount := 0 } }
  ((s1.raiseEst 30).count16 Fld.ambStaleCount).bbEvent 0x06#7 0xFF#8 0x0001#16 (BitVec.ofNat 32 s.amb.age)

/-- The age limit: values below 65 act as 65 (R214). -/
def State.ageLimit (s : State) : Nat := max 65 (s.getN Fld.ambStaleStarts)

/-- A strobe-locked start of LIGHT.SLS[m] becomes visible: the age counts it (R214, R215). -/
def State.countAge (s : State) (m : Fin 4) : State :=
  if s.amb.running && decide (s.getN Fld.ambSlsSel = m.val) && !s.asStandby then
    let age := min 1023 (s.amb.age + 1)
    let s1 : State := { s with amb := { s.amb with age := age } }
    if age = s.ageLimit then
      (if s.amb.stale then { s1 with amb := { s1.amb with freshCount := 0 } } else s1.goStale)
    else s1
  else s

/-- A dark burst whose every conversion was referenced gives a new estimate (R213, R215). EST_NEW is an event of the Sense
trowel; Table TW.8 gives the Light trowel no number for it.
Log 106 (DEDUCED). -/
def State.newEstimate (s : State) : State :=
  let est := s.amb.burst.foldl (fun (v : Vector (Option Int) 4) p =>
    if h : p.1 < 4 then
      v.set p.1 (some (match v[p.1] with
        | none => p.2
        | some e => e + (p.2 - e) / 2 ^ s.getN Fld.ambFilt))
    else v) s.amb.est
  let fc := if s.amb.stale then s.amb.freshCount + 1 else s.amb.freshCount
  let s1 : State := { s with amb := { s.amb with est := est, age := 0, freshCount := fc } }
  let s2 := (s1.raise 1 29).count16 Fld.ambEstCount
  if s.amb.stale && decide (8 ≤ fc) then
    (({ s2 with amb := { s2.amb with stale := false } }).raiseEst 31).bbEvent 0x06#7 0xFF#8 0x0002#16 0
  else s2

/-- The estimator follows its two enables: it starts stale, with no estimate in any slot, and raises EST_STALE once
(R191, R216). A dark burst in progress goes on, and what it has met so far stays with it (R213). -/
def State.estimatorSync (s : State) : State :=
  let on := s.enabledAt (Fld.adcEnable .a) && s.enabledAt Fld.ambEnable
  if on && !s.amb.running then
    ({ s with amb := ⟨true, Vector.replicate 4 none, 0, 0, true, s.amb.burst, s.amb.burstUnref⟩ } : State).raiseEst 30
  else { s with amb := { s.amb with running := on } }

/-! ### Conversions -/

/-- The class Q sets of a sequence start apply (R200, Table FM.3). -/
def State.sequenceStart (s : State) (c : Conv) : State :=
  s.applyBoundary fun p => p.set == .seq c || (decide (c = .a) && p.set == .est)

/-- A sequence is in progress. -/
def Adc.seqRuns (x : Adc) : Bool := x.work.any fun w => w.src == .seq

/-- Starts the conversion of entry `e` for a source; with REF_READY_x low it is not performed but counted (R193). -/
def State.beginConversion (s : State) (c : Conv) (src : Source) (e : Nat) : State :=
  let s1 := if (s.adc c).seqRuns then s else s.sequenceStart c
  let un := !(s1.adc c).refReady
  let s2 := s1.updAdc c fun x => { x with conv := some ⟨e, src, un⟩ }
  if un then (s2.count16 (Fld.adcUnrefCount c)).raise 1 (match c with | .a => 23 | .b => 24) else s2

/-- SEQ_DONE_x. -/
def State.seqDone (s : State) (c : Conv) : State := s.raise 1 (match c with | .a => 16 | .b => 17)

/-- The work of a source begins: its first entry converts at once; a sequence without entries completes at once
(R199, R200, R202). -/
def State.beginWork (s : State) (c : Conv) (src : Source) : State :=
  let s0 := if src = .seq ∨ (s.adc c).seqRuns = false then s.sequenceStart c else s
  match s0.sourceEntries c src with
  | [] => if src = .seq then s0.seqDone c else s0
  | e :: r =>
    let s1 := s0.updAdc c fun x => { x with work := ⟨src, r⟩ :: x.work }
    let s2 := if src = .dark then { s1 with amb := { s1.amb with burst := [], burstUnref := false } } else s1
    s2.beginConversion c src e

/-- The highest-priority pending request whose priority lies above `p` (R203). -/
def Adc.pendingAbove (x : Adc) (p : Nat) : Option Source :=
  if x.urgPend && decide (1 < p) then some .urgent
  else match (List.finRange 4).find? (fun (m : Fin 4) => x.strobePend.getLsbD m.val && decide (2 < p)) with
    | some m => some (.strobe m)
    | none =>
      if x.darkPend && decide (3 < p) then some .dark
      else if x.seqPend && decide (4 < p) then some .seq
      else none

/-- The pending mark of a source is cleared. -/
def Adc.clearPend (x : Adc) : Source → Adc
  | .urgent => { x with urgPend := false }
  | .strobe m => { x with strobePend := x.strobePend &&& ~~~ BitVec.ofNat 4 (2 ^ m.val) }
  | .dark => { x with darkPend := false }
  | .seq => { x with seqPend := false }

/-- The pending mark of a source is set. -/
def Adc.setPend (x : Adc) : Source → Adc
  | .urgent => { x with urgPend := true }
  | .strobe m => { x with strobePend := x.strobePend ||| BitVec.ofNat 4 (2 ^ m.val) }
  | .dark => { x with darkPend := true }
  | .seq => { x with seqPend := true }

/-- A source already has a request pending. -/
def Adc.isPend (x : Adc) : Source → Bool
  | .urgent => x.urgPend
  | .strobe m => x.strobePend.getLsbD m.val
  | .dark => x.darkPend
  | .seq => x.seqPend

/-- The event at the end of a work: SEQ_DONE_x, STROBE_END, a new estimate (R199, R206, R213). -/
def State.workDone (s : State) (c : Conv) : Source → State
  | .urgent => s
  | .strobe _ => s.raise 1 33
  | .seq => s.seqDone c
  | .dark => if s.amb.running && !s.amb.burstUnref && !s.asStandby then s.newEstimate else s

/-- What the converter does next when no conversion runs: a pending request above the work in progress, else that
work's next entry, else its completion and the work below (R203). `fuel` bounds the works completed on the way. -/
def State.nextConversion (c : Conv) : Nat → State → State
  | 0, s => s
  | fuel + 1, s =>
    match (s.adc c).work with
    | [] =>
      match (s.adc c).pendingAbove 5 with
      | some src =>
        let s1 := (s.updAdc c (·.clearPend src)).beginWork c src
        if (s1.adc c).conv.isNone then State.nextConversion c fuel s1 else s1
      | none => s
    | w :: r =>
      match w.left with
      | [] => State.nextConversion c fuel ((s.updAdc c fun x => { x with work := r }).workDone c w.src)
      | e :: left =>
        match (s.adc c).pendingAbove w.src.prio with
        | some src =>
          let s1 := (s.updAdc c (·.clearPend src)).beginWork c src
          if (s1.adc c).conv.isNone then State.nextConversion c fuel s1 else s1
        | none => (s.updAdc c fun x => { x with work := ⟨w.src, left⟩ :: r }).beginConversion c w.src e

/-- The running conversion, performed, is of a preempt-resume entry of a sequence (R193, R204). -/
def State.preemptible (s : State) (c : Conv) : Option Nat :=
  match (s.adc c).conv with
  | some k => if k.src = .seq ∧ k.unref = false ∧ s.entryPreempt c k.entry = true then some k.entry else none
  | none => none

/-- A visible request (R202, R204): it starts at once on an idle converter, preempts a preempt-resume entry, or waits;
`lost` counts a second request of a source that has one pending. -/
def State.request (s : State) (c : Conv) (src : Source) (lost : State → State) : State :=
  if (s.adc c).isPend src then lost s
  else if (s.adc c).conv.isNone ∧ (s.adc c).work = [] then s.beginWork c src
  else match s.preemptible c with
    | some e =>
      if src = .seq then s.updAdc c (·.setPend src)
      else
        let s1 := s.count16 (Fld.adcPreemptCount c)
        let s2 := s1.updAdc c fun x => { x with conv := none, work := match x.work with
          | w :: r => ⟨w.src, e :: w.left⟩ :: r
          | [] => [] }
        s2.beginWork c src
    | none => s.updAdc c (·.setPend src)

/-- The result of a conversion of entry `e` after the calibration factors of its gain code, within the resolution of the
converter (R195, R208, Table AS.1).
Log 99 (DESIGN CHOICE). -/
def State.calibratedResult (s : State) (c : Conv) (e raw : Nat) : Nat :=
  let g := s.entryGain c e
  min (2 ^ adcBits c - 1)
    (Config.calibrated (adcBits c) (s.getF (Fld.adcCalOfs c g)) (s.getF (Fld.adcCalGain c g)) (raw % 2 ^ adcBits c))

/-- The corrected value in quarter-LSB before and after the ambient subtraction, clamped (R208).
Log 99 (DESIGN CHOICE). -/
def State.correct (s : State) (c : Conv) (e raw : Nat) (sub : Bool) : Int :=
  let i := s.entryInput c e
  let x := ((4 * (s.calibratedResult c e raw : Int) - s.getI (Fld.adcCorrOfs c i) 16)
    * s.getN (Fld.adcCorrGain c i)) / 32768
  let est := match s.amb.est[s.entrySlot c e]? with | some (some v) => v | _ => 0
  max (-131072) (min 131071 (if sub then x - est else x))

/-- Adds a value to accumulator and tracker `j` (R209, R210).
Log 44 (DEDUCED). -/
def State.accumulate (s : State) (c : Conv) (j : Fin 16) (v : Int) : State :=
  let a := (s.adc c).acc[j]
  if a.sat then s
  else if 2 ^ 24 - 1 ≤ a.count ∨ a.sum + v < -(2 ^ 39) ∨ 2 ^ 39 - 1 < a.sum + v then
    (s.updAdc c fun x => { x with acc := x.acc.set j.val { a with sat := true } }).raise 1 26
  else
    let tracked := s.getB (Fld.adcTrkEn c) j.val
    let outside := decide (v < s.getI (Fld.adcTrkLo c j.val) 18) || decide (s.getI (Fld.adcTrkHi c j.val) 18 < v)
    let a' : Accum := { a with
      sum := a.sum + v, count := a.count + 1
      min := if a.count = 0 then v else Min.min a.min v
      max := if a.count = 0 then v else Max.max a.max v
      out := if tracked then outside else a.out }
    let s1 := s.updAdc c fun x => { x with acc := x.acc.set j.val a' }
    if tracked && outside && !a.out then s1.raise 1 (match c with | .a => 27 | .b => 28) else s1

/-- The result of a completed, referenced conversion: accumulator, estimate burst, temperature events (R207 to R213).
On a standby engine the accumulators and the estimator hold the mirrored state (R222). -/
def State.takeResult (s : State) (c : Conv) (k : Conversion) (raw : Nat) : State :=
  let s1 := if !s.asStandby then
      s.accumulate c (Fin.ofNat 16 (s.entryAcc c k.entry)) (s.correct c k.entry raw (s.entrySub c k.entry)) else s
  let s2 := if k.src = .dark then
      { s1 with amb := { s1.amb with burst := s1.amb.burst ++ [(s.entrySlot c k.entry, s.correct c k.entry raw false)] } }
    else s1
  let s3 := if c = .b ∧ s.entryInput c k.entry = 16 then s2.raise 1 34 else s2
  if c = .b ∧ s.getB (Fld.adcBoardEntry .b) 4 = true ∧ s.getN (Fld.adcBoardEntry .b) % 16 = k.entry
    then s3.raise 1 35 else s3

/-- Discards requests, work and the running conversion, without completion events (R196, R219, R221). -/
def Adc.abandon (x : Adc) : Adc :=
  { x with conv := none, work := [], urgPend := false, strobePend := 0, darkPend := false, seqPend := false }

/-- A calibration starts: work is abandoned, a sequence in progress counted (R196). -/
def State.beginCalibration (s : State) (c : Conv) : State :=
  let s1 := if (s.adc c).seqRuns then s.count16 (Fld.adcSeqAbortCount c) else s
  s1.updAdc c fun x => { x.abandon with calibrating := true, calWaits := false }

/-- The work whose last conversion has ended completes (R199, R206, R213). -/
def State.workEnd (s : State) (c : Conv) : State :=
  match (s.adc c).work with
  | ⟨src, []⟩ :: r => (s.updAdc c fun x => { x with work := r }).workDone c src
  | _ => s

/-- The end of the running conversion (R203 to R213). At sleep entry the converter stops after it, without a completion
event (R221); a calibration that waits starts, after the completion of a work whose last conversion this was (R196).
Log 44 (DEDUCED), 45 (DEDUCED). -/
def State.conversionEnd (s : State) (c : Conv) (raw : Nat) : State :=
  match (s.adc c).conv with
  | none => s
  | some k =>
    let s1 := if k.unref then
        (if k.src = .dark then { s with amb := { s.amb with burstUnref := true } } else s)
      else s.takeResult c k raw
    let s2 := s1.updAdc c fun x => { x with conv := none }
    if s2.adcStops then s2.updAdc c Adc.abandon
    else
      let s3 := (if k.src = .urgent then s2.raise 1 (match c with | .a => 18 | .b => 19) else s2).workEnd c
      if (s3.adc c).calWaits then s3.beginCalibration c else State.nextConversion c 24 s3

/-! ### Commands of the converters -/

/-- SEQ_GO or a START edge (R196, R202). -/
def State.sequenceRequest (s : State) (c : Conv) : State :=
  let ignored := (s.count16 (Fld.adcStartIgnCount c)).raise 1 25
  if s.calibratesNow c then ignored
  else if !s.adcTakes c then s
  else if (s.adc c).seqRuns || (s.adc c).seqPend then ignored
  else s.request c .seq id

/-- Pins act while the engine runs, boots past trowel start, recalibrates at wake (R106) or is a standby; in reset, sleep and
the test state they are ignored (Table BR.4). -/
def State.pinsAct (s : State) : Bool :=
  s.boot.started && (match s.phase with
    | .booting | .running | .sleepEntry => true
    | .waking => decide (4 ≤ s.sys.wakeStep)
    | _ => false)

/-- START_EDGE (R202). -/
def execStartEdge (c : Conv) (s : State) : Host.Outcome State Fault Refusal :=
  .next (if s.pinsAct then s.sequenceRequest c else s)

/-- URG_EDGE (R196, R202, R204). -/
def execUrgEdge (c : Conv) (s : State) : Host.Outcome State Fault Refusal :=
  .next (
    if !s.pinsAct then s
    else if s.calibratesNow c then s.count16 (Fld.adcUrgIgnCount c)
    else if !s.adcTakes c then s
    else if !s.getB (Fld.adcUrgEntry c) 4 then s.count16 (Fld.adcUrgIgnCount c)
    else s.request c .urgent fun s => s.count16 (Fld.adcReqLostCount c))

/-- A request of the LIGHT unit becomes visible in ADCA: lost while a calibration runs, ignored where no entry is bound to it
(R196, R201, R202). -/
def State.lightRequest (s : State) (src : Source) : State :=
  let lost := fun (s : State) => s.count16 (Fld.adcReqLostCount .a)
  if s.calibratesNow .a then lost s
  else if !s.adcTakes .a || (s.sourceEntries .a src).isEmpty then s
  else s.request .a src lost

/-- STROBE_START (R201, R202, R206, R214): the strobe-locked start m that the LIGHT unit issued becomes visible in ADCA.
Log 44 (DEDUCED), 107 (DEDUCED). -/
def execStrobeStart (m : Fin 4) (s : State) : Host.Outcome State Fault Refusal :=
  .next (if !s.light.issued.any (s.startDue (some m)) then s
    else if s.adcTakes .a || s.calibratesNow .a then
      (((s.takeStart (some m)).raise 1 32).countAge m).lightRequest (.strobe m)
    else s.takeStart (some m))

/-- DARK_REQUEST (R201, R202): the dark start that the LIGHT unit issued becomes visible in ADCA.
Log 107 (DEDUCED). -/
def execDarkRequest (s : State) : Host.Outcome State Fault Refusal :=
  .next (if s.light.issued.any (s.startDue none) then (s.takeStart none).lightRequest .dark else s)

/-- REF_READY (R192): the settle time has passed with the reference on. -/
def execRefReady (c : Conv) (s : State) : Host.Outcome State Fault Refusal :=
  .next (
    if (s.adc c).settling && s.getB (Fld.adcRefEn c) 0 then
      s.updAdc c fun x => { x with settling := false, refReady := true }
    else s)

/-- The running conversion is discarded as unreferenced (R220). -/
def State.unreference (s : State) (c : Conv) : State :=
  match (s.adc c).conv with
  | some k =>
    if k.unref then s
    else (((s.updAdc c fun x => { x with conv := some { k with unref := true } }).count16 (Fld.adcUnrefCount c))).raise 1
      (match c with | .a => 23 | .b => 24)
  | none => s

/-- A write of ADCx.REF_EN (R192, R220): a 1 turns the reference on and starts the settle timer; a reference that is already
ready stays so. -/
def State.refEnNow (s : State) (c : Conv) (v : Word) : State :=
  let was := s.getB (Fld.adcRefEn c) 0
  let s1 := s.setF (Fld.adcRefEn c) (v &&& 1)
  if v.getLsbD 0 then s1.updAdc c fun x => { x with settling := !x.refReady }
  else if !v.getLsbD 0 && was then
    (s1.updAdc c fun x => { x with settling := false, refReady := false }).unreference c
  else s1

/-- Clears accumulator and tracker `j` (R211). -/
def emptyAccum : Accum := ⟨0, 0, 0, 0, false, false⟩

/-- A write of ADCx.ACC_SNAP (R211). -/
def State.accSnapNow (s : State) (c : Conv) (v : Word) : State :=
  let j : Fin 16 := Fin.ofNat 16 v.toNat
  let a := (s.adc c).acc[j]
  let s1 := (((((s.setF (Fld.adcSnapSumLo c) (BitVec.ofInt 32 a.sum)).setN (Fld.adcSnapSumHi c)
    (a.sum / 2 ^ 32 % 256).toNat).setN (Fld.adcSnapCount c) a.count).setF (Fld.adcSnapMin c)
    (signedBits 18 a.min)).setF (Fld.adcSnapMax c) (signedBits 18 a.max)).setN (Fld.adcSnapFlags c)
    ((if a.sat then 1 else 0) + (if a.out then 2 else 0) + (if a.count = 0 then 4 else 0))
  if v.getLsbD 4 then s1.updAdc c fun x => { x with acc := x.acc.set j.val emptyAccum } else s1

/-- A write of ADCx.ACC_CLEAR (R211). -/
def State.accClearNow (s : State) (c : Conv) (v : Word) : State :=
  s.updAdc c fun x => { x with acc := Vector.ofFn (fun (j : Fin 16) =>
    if v.getLsbD j.val then emptyAccum else x.acc[j]) }

/-- A write of 1 to ADCx.CAL_GO (R195, R196); one that meets a running calibration has no effect.
Log 45 (DEDUCED). -/
def State.calGoNow (s : State) (c : Conv) (v : Word) : State :=
  if !v.getLsbD 0 || (s.adc c).calibrating || s.turnedOff (Fld.adcEnable c) then s
  else if (s.adc c).conv.isSome then s.updAdc c fun x => { x with calWaits := true }
  else s.beginCalibration c

/-- A write of ADCx.ENABLE (R115, R191, R219).
Log 45 (DEDUCED). -/
def State.adcEnableNow (s : State) (c : Conv) (v : Word) : State :=
  let was := s.adcOn c
  let s1 := s.setF (Fld.adcEnable c) (v &&& 1)
  let s2 :=
    if v.getLsbD 0 && !was then
      s1.updAdc c fun x => { x with settling := x.settling || (s.getB (Fld.adcRefEn c) 0 && !x.refReady) }
    else if !v.getLsbD 0 && was then
      (s1.updAdc c fun x => { x.abandon with
        refReady := false, settling := false, calibrating := x.calibrating || x.calWaits, calWaits := false }).applyPending fun p =>
          p.set == .seq c || (decide (c = .a) && p.set == .est)
    else s1
  if c = .a then s2.estimatorSync else s2

/-- A write of an ADC field that takes effect now; `o` is its offset in the block. -/
def State.adcNow (s : State) (c : Conv) (o : Nat) (v : Word) : State :=
  if o = 0x000 then s.adcEnableNow c v
  else if o = 0x001 then s.refEnNow c v
  else if o = 0x004 then (if v.getLsbD 0 then s.sequenceRequest c else s)
  else if o = 0x005 then s.calGoNow c v
  else if o = 0x007 then s.accSnapNow c v
  else if o = 0x008 then s.accClearNow c v
  else s.setF (adcBase c + o) v

/-- A write of an AMB field that takes effect now.
Log 46 (DEDUCED). -/
def State.ambNow (s : State) (a : Nat) (v : Word) : State :=
  if a = Fld.ambEnable then (s.setF a (v &&& 1)).estimatorSync else s.setF a v

/-- Both converters stop at once (R141, R83). -/
def State.stopConverters (s : State) : State :=
  (s.updAdc .a Adc.abandon).updAdc .b Adc.abandon

/-- The status registers of the converters and the estimator (Tables AS.7, AS.8). -/
def State.readAdc (s : State) (c : Conv) (a : Nat) : Word :=
  let x := s.adc c
  let off := match c with | .a => s.strap 16 == 3 | .b => s.strap 17 == 3
  if a = Fld.adcStatus c then
    BitVec.ofNat 32 ((if x.seqRuns then 1 else 0) + (if x.calibrating then 2 else 0) + (if x.refReady then 4 else 0)
      + (if x.conv.any (!·.unref) then 8 else 0) + (if x.urgPend then 16 else 0)
      + (if x.acc.toList.any (·.sat) then 32 else 0) + (if x.calFailed then 64 else 0)
      + (if off then 128 else 0))
  else if a = Fld.adcPending c then (if s.shadow.any fun p => p.set == .seq c then 1 else 0)
  else s.getF a

def State.readAmb (s : State) (a : Nat) : Word :=
  let m := s.amb
  if a = Fld.ambState then
    BitVec.ofNat 32 ((if m.running && !m.stale then 1 else 0)
      + (List.range 4).foldl (fun n i => n + (match m.est[i]? with | some (some _) => 2 ^ (i + 1) | _ => 0)) 0
      + 32 * (m.freshCount % 16) + (if m.running then 512 else 0)
      + (if s.shadow.any fun p => p.set == .est then 1024 else 0))
  else if a = Fld.ambAge then BitVec.ofNat 32 m.age
  else s.getF a

end Sys2Proof.Machine
end

