-- ==== Sys2Proof/Machine/Hash.lean ====
section
/-! DEFINITION. The checks that the manual names by standard: CRC-32C (R92), the CRC-16 of Form 1 (R348), SHA-256 (R298)
and SHA-512 (R93). -/

namespace Sys2Proof.Machine

/-! ### CRCs -/

/-- One step of the reflected CRC-32C (polynomial 0x1EDC6F41). -/
def crc32cBit (c : BitVec 32) : BitVec 32 :=
  if c.getLsbD 0 then (c >>> 1) ^^^ 0x82F63B78#32 else c >>> 1

/-- The register after one byte. -/
def crc32cByte (c : BitVec 32) (b : Byte) : BitVec 32 :=
  (List.range 8).foldl (fun c _ => crc32cBit c) (c ^^^ b.setWidth 32)

/-- CRC-32C of a byte string. -/
def crc32c (l : List Byte) : BitVec 32 := ~~~ (l.foldl crc32cByte 0xFFFFFFFF#32)

/-- One step of the CRC-16 with polynomial 0x1021, most significant bit first. -/
def crc16Bit (c : BitVec 16) : BitVec 16 :=
  if c.getLsbD 15 then (c <<< 1) ^^^ 0x1021#16 else c <<< 1

/-- The register after one byte. -/
def crc16Byte (c : BitVec 16) (b : Byte) : BitVec 16 :=
  (List.range 8).foldl (fun c _ => crc16Bit c) (c ^^^ ((b.setWidth 16) <<< 8))

/-- The CRC-16 of R348: initial value 0xFFFF, no reflection, no final XOR. -/
def crc16 (l : List Byte) : BitVec 16 := l.foldl crc16Byte 0xFFFF#16

/-! ### SHA-2 -/

/-- The initial hash values and round constants of SHA-256. -/
def sha256H : List (BitVec 32) :=
  [0x6A09E667#32, 0xBB67AE85#32, 0x3C6EF372#32, 0xA54FF53A#32, 0x510E527F#32, 0x9B05688C#32, 0x1F83D9AB#32, 0x5BE0CD19#32]
def sha256K : List (BitVec 32) :=
  [0x428A2F98#32, 0x71374491#32, 0xB5C0FBCF#32, 0xE9B5DBA5#32, 0x3956C25B#32, 0x59F111F1#32, 0x923F82A4#32, 0xAB1C5ED5#32,
   0xD807AA98#32, 0x12835B01#32, 0x243185BE#32, 0x550C7DC3#32, 0x72BE5D74#32, 0x80DEB1FE#32, 0x9BDC06A7#32, 0xC19BF174#32,
   0xE49B69C1#32, 0xEFBE4786#32, 0x0FC19DC6#32, 0x240CA1CC#32, 0x2DE92C6F#32, 0x4A7484AA#32, 0x5CB0A9DC#32, 0x76F988DA#32,
   0x983E5152#32, 0xA831C66D#32, 0xB00327C8#32, 0xBF597FC7#32, 0xC6E00BF3#32, 0xD5A79147#32, 0x06CA6351#32, 0x14292967#32] ++
  [0x27B70A85#32, 0x2E1B2138#32, 0x4D2C6DFC#32, 0x53380D13#32, 0x650A7354#32, 0x766A0ABB#32, 0x81C2C92E#32, 0x92722C85#32,
   0xA2BFE8A1#32, 0xA81A664B#32, 0xC24B8B70#32, 0xC76C51A3#32, 0xD192E819#32, 0xD6990624#32, 0xF40E3585#32, 0x106AA070#32,
   0x19A4C116#32, 0x1E376C08#32, 0x2748774C#32, 0x34B0BCB5#32, 0x391C0CB3#32, 0x4ED8AA4A#32, 0x5B9CCA4F#32, 0x682E6FF3#32,
   0x748F82EE#32, 0x78A5636F#32, 0x84C87814#32, 0x8CC70208#32, 0x90BEFFFA#32, 0xA4506CEB#32, 0xBEF9A3F7#32, 0xC67178F2#32]

/-- The initial hash values and round constants of SHA-512. -/
def sha512H : List (BitVec 64) :=
  [0x6A09E667F3BCC908#64, 0xBB67AE8584CAA73B#64, 0x3C6EF372FE94F82B#64, 0xA54FF53A5F1D36F1#64,
   0x510E527FADE682D1#64, 0x9B05688C2B3E6C1F#64, 0x1F83D9ABFB41BD6B#64, 0x5BE0CD19137E2179#64]
def sha512K : List (BitVec 64) :=
  [0x428A2F98D728AE22#64, 0x7137449123EF65CD#64, 0xB5C0FBCFEC4D3B2F#64, 0xE9B5DBA58189DBBC#64,
   0x3956C25BF348B538#64, 0x59F111F1B605D019#64, 0x923F82A4AF194F9B#64, 0xAB1C5ED5DA6D8118#64,
   0xD807AA98A3030242#64, 0x12835B0145706FBE#64, 0x243185BE4EE4B28C#64, 0x550C7DC3D5FFB4E2#64,
   0x72BE5D74F27B896F#64, 0x80DEB1FE3B1696B1#64, 0x9BDC06A725C71235#64, 0xC19BF174CF692694#64,
   0xE49B69C19EF14AD2#64, 0xEFBE4786384F25E3#64, 0x0FC19DC68B8CD5B5#64, 0x240CA1CC77AC9C65#64] ++
  [0x2DE92C6F592B0275#64, 0x4A7484AA6EA6E483#64, 0x5CB0A9DCBD41FBD4#64, 0x76F988DA831153B5#64,
   0x983E5152EE66DFAB#64, 0xA831C66D2DB43210#64, 0xB00327C898FB213F#64, 0xBF597FC7BEEF0EE4#64,
   0xC6E00BF33DA88FC2#64, 0xD5A79147930AA725#64, 0x06CA6351E003826F#64, 0x142929670A0E6E70#64,
   0x27B70A8546D22FFC#64, 0x2E1B21385C26C926#64, 0x4D2C6DFC5AC42AED#64, 0x53380D139D95B3DF#64,
   0x650A73548BAF63DE#64, 0x766A0ABB3C77B2A8#64, 0x81C2C92E47EDAEE6#64, 0x92722C851482353B#64] ++
  [0xA2BFE8A14CF10364#64, 0xA81A664BBC423001#64, 0xC24B8B70D0F89791#64, 0xC76C51A30654BE30#64,
   0xD192E819D6EF5218#64, 0xD69906245565A910#64, 0xF40E35855771202A#64, 0x106AA07032BBD1B8#64,
   0x19A4C116B8D2D0C8#64, 0x1E376C085141AB53#64, 0x2748774CDF8EEB99#64, 0x34B0BCB5E19B48A8#64,
   0x391C0CB3C5C95A63#64, 0x4ED8AA4AE3418ACB#64, 0x5B9CCA4F7763E373#64, 0x682E6FF3D6B2B8A3#64,
   0x748F82EE5DEFB2FC#64, 0x78A5636F43172F60#64, 0x84C87814A1F0AB72#64, 0x8CC702081A6439EC#64] ++
  [0x90BEFFFA23631E28#64, 0xA4506CEBDE82BDE9#64, 0xBEF9A3F7B2C67915#64, 0xC67178F2E372532B#64,
   0xCA273ECEEA26619C#64, 0xD186B8C721C0C207#64, 0xEADA7DD6CDE0EB1E#64, 0xF57D4F7FEE6ED178#64,
   0x06F067AA72176FBA#64, 0x0A637DC5A2C898A6#64, 0x113F9804BEF90DAE#64, 0x1B710B35131C471B#64,
   0x28DB77F523047D84#64, 0x32CAAB7B40C72493#64, 0x3C9EBE0A15C9BEBC#64, 0x431D67C49C100D4C#64,
   0x4CC5D4BECB3E42B6#64, 0x597F299CFC657E2A#64, 0x5FCB6FAB3AD6FAEC#64, 0x6C44198C4A475817#64]

/-- A big-endian word of bytes. -/
def beWord (w : Nat) (b : List Byte) : BitVec w :=
  BitVec.ofNat w (b.foldl (fun n x => n * 256 + x.toNat) 0)

/-- The bytes of a word, most significant first. -/
def beBytes : Nat → Nat → List Byte
  | 0, _ => []
  | n + 1, x => BitVec.ofNat 8 (x / 256 ^ n) :: beBytes n x

/-- A message with its padding to blocks of `blk` bytes and a length field of `lenb` bytes. -/
def shaPad (blk lenb : Nat) (m : List Byte) : List Byte :=
  let z := (blk - (m.length + 1 + lenb) % blk) % blk
  m ++ 0x80#8 :: List.replicate z 0 ++ beBytes lenb (8 * m.length)

/-- The first `n` blocks of `k` bytes each. -/
def blocks (k : Nat) : Nat → List Byte → List (List Byte)
  | 0, _ => []
  | n + 1, l => l.take k :: blocks k n (l.drop k)

/-- What differs between the two hashes: the word size and the rotations. -/
structure ShaSpec (w : Nat) where
  k : List (BitVec w)
  s0 : BitVec w → BitVec w
  s1 : BitVec w → BitVec w
  e0 : BitVec w → BitVec w
  e1 : BitVec w → BitVec w

/-- Extends the schedule, newest word first, by `n` words. -/
def shaSchedule {w : Nat} (p : ShaSpec w) : Nat → List (BitVec w) → List (BitVec w)
  | 0, l => l
  | n + 1, l => shaSchedule p n ((p.s1 (l.getD 1 0) + l.getD 6 0 + p.s0 (l.getD 14 0) + l.getD 15 0) :: l)

/-- One round on the eight working variables a to h. -/
def shaRound {w : Nat} (p : ShaSpec w) (v : List (BitVec w)) (kw : BitVec w × BitVec w) : List (BitVec w) :=
  match v with
  | [a, b, c, d, e, f, g, h] =>
    let t1 := h + p.e1 e + ((e &&& f) ^^^ (~~~ e &&& g)) + kw.1 + kw.2
    let t2 := p.e0 a + ((a &&& b) ^^^ (a &&& c) ^^^ (b &&& c))
    [t1 + t2, a, b, c, d + t1, e, f, g]
  | _ => v

/-- The hash after one block of 16 words. -/
def shaBlock {w : Nat} (p : ShaSpec w) (h : List (BitVec w)) (b : List Byte) : List (BitVec w) :=
  let ws := (blocks (w / 8) 16 b).map (beWord w)
  let sched := (shaSchedule p (p.k.length - 16) ws.reverse).reverse
  let v := (p.k.zip sched).foldl (shaRound p) h
  (h.zip v).map fun e => e.1 + e.2

/-- SHA-256's functions. -/
def sha256Spec : ShaSpec 32 where
  k := sha256K
  s0 := fun x => x.rotateRight 7 ^^^ x.rotateRight 18 ^^^ (x >>> 3)
  s1 := fun x => x.rotateRight 17 ^^^ x.rotateRight 19 ^^^ (x >>> 10)
  e0 := fun x => x.rotateRight 2 ^^^ x.rotateRight 13 ^^^ x.rotateRight 22
  e1 := fun x => x.rotateRight 6 ^^^ x.rotateRight 11 ^^^ x.rotateRight 25

/-- SHA-512's functions. -/
def sha512Spec : ShaSpec 64 where
  k := sha512K
  s0 := fun x => x.rotateRight 1 ^^^ x.rotateRight 8 ^^^ (x >>> 7)
  s1 := fun x => x.rotateRight 19 ^^^ x.rotateRight 61 ^^^ (x >>> 6)
  e0 := fun x => x.rotateRight 28 ^^^ x.rotateRight 34 ^^^ x.rotateRight 39
  e1 := fun x => x.rotateRight 14 ^^^ x.rotateRight 18 ^^^ x.rotateRight 41

/-- SHA-256 of a byte string, 32 bytes. -/
def sha256 (m : List Byte) : List Byte :=
  let p := shaPad 64 8 m
  ((blocks 64 (p.length / 64) p).foldl (shaBlock sha256Spec) sha256H).flatMap fun x => beBytes 4 x.toNat

/-- SHA-512 of a byte string, 64 bytes. -/
def sha512 (m : List Byte) : List Byte :=
  let p := shaPad 128 16 m
  ((blocks 128 (p.length / 128) p).foldl (shaBlock sha512Spec) sha512H).flatMap fun x => beBytes 8 x.toNat

/-! ### Ed25519 verification -/

/-- The field prime 2²⁵⁵ - 19, the group order, the curve constant d and the square root of -1. -/
def edP : Nat := 2 ^ 255 - 19
def edL : Nat := 2 ^ 252 + 27742317777372353535851937790883648493
def edD : Nat := 37095705934669439343138083508754565189542113879843219016388785533085940283555
def edI : Nat := 19681161376707505956807079304988542015446066515923890162744021073123829784752

/-- `b ^ e mod edP` by `n` bits of `e`. -/
def edPow : Nat → Nat → Nat → Nat
  | 0, _, _ => 1
  | n + 1, b, e =>
    let h := edPow n (b * b % edP) (e / 2)
    if e % 2 = 1 then h * b % edP else h

/-- Inverse modulo the prime. -/
def edInv (x : Nat) : Nat := edPow 255 x (edP - 2)

/-- A difference modulo the prime. -/
def edSub (x y : Nat) : Nat := (x + edP - y % edP) % edP

/-- A point in extended coordinates. -/
structure EdPoint where
  x : Nat
  y : Nat
  z : Nat
  t : Nat

/-- Point addition (complete formula). -/
def EdPoint.add (p q : EdPoint) : EdPoint :=
  let a := edSub p.y p.x * edSub q.y q.x % edP
  let b := (p.y + p.x) * (q.y + q.x) % edP
  let c := 2 * p.t * q.t * edD % edP
  let d := 2 * p.z * q.z % edP
  let e := edSub b a
  let f := edSub d c
  let g := (d + c) % edP
  let h := (b + a) % edP
  ⟨e * f % edP, g * h % edP, f * g % edP, e * h % edP⟩

/-- The neutral point and the base point. -/
def edZero : EdPoint := ⟨0, 1, 1, 0⟩
def edBase : EdPoint :=
  let x := 15112221349535400772501151409588531511454012693041857206046113283949847762202
  let y := 46316835694926478169428394003475163141307993866256225615783033603165251855960
  ⟨x, y, 1, x * y % edP⟩

/-- `k` times a point, by `n` bits of `k`. -/
def EdPoint.mul : Nat → Nat → EdPoint → EdPoint
  | 0, _, _ => edZero
  | n + 1, k, p =>
    let h := EdPoint.mul n (k / 2) (p.add p)
    if k % 2 = 1 then h.add p else h

/-- Two points are the same. -/
def EdPoint.same (p q : EdPoint) : Bool :=
  decide (edSub (p.x * q.z % edP) (q.x * p.z % edP) = 0) && decide (edSub (p.y * q.z % edP) (q.y * p.z % edP) = 0)

/-- `n` bytes of a number, least significant first. -/
def leBytes : Nat → Nat → List Byte
  | 0, _ => []
  | n + 1, x => BitVec.ofNat 8 x :: leBytes n (x / 256)

/-- A little-endian number. -/
def leNat (b : List Byte) : Nat := b.foldr (fun x n => x.toNat + 256 * n) 0

/-- A point from its 32-byte encoding. -/
def edDecode (b : List Byte) : Option EdPoint :=
  let n := leNat b
  let sign := n / 2 ^ 255 % 2
  let y := n % 2 ^ 255
  if edP ≤ y then none
  else
    let u := edSub (y * y % edP) 1
    let v := (edD * (y * y % edP) + 1) % edP
    let r := u * edPow 255 v 3 % edP * edPow 255 (u * edPow 255 v 7 % edP) ((edP - 5) / 8) % edP
    let c := v * (r * r % edP) % edP
    let x := if c = u then some r else if c = edSub 0 u then some (r * edI % edP) else none
    x.bind fun x =>
      if x = 0 ∧ sign = 1 then none
      else
        let x' := if x % 2 = sign then x else edP - x
        some ⟨x', y, 1, x' * y % edP⟩

/-- Ed25519 (RFC 8032, R93): the signature `sig` of `m` under the public key `pk`. RFC 8032 lets a verifier multiply the group
equation by the cofactor 8 or not, and the manual says neither; the model checks it as it stands.
Log 96 (DESIGN CHOICE). -/
def ed25519Verify (pk m sig : List Byte) : Bool :=
  let rb := sig.take 32
  let sc := leNat (sig.drop 32)
  match edDecode pk, edDecode rb with
  | some a, some r =>
    let k := leNat (sha512 (rb ++ pk ++ m)) % edL
    decide (sig.length = 64) && decide (sc < edL)
      && (EdPoint.mul 253 sc edBase).same (r.add (EdPoint.mul 253 k a))
  | _, _ => false

end Sys2Proof.Machine
end

