-- ==== Sys2Proof/Machine/SerLine.lean ====
section
/-! DEFINITION. What stands on the serial line: characters in both conventions, the receiver's sampling, frames with their CRC, and
bitwise arbitration (R372 to R378, R384, R385). -/

namespace Sys2Proof.Machine

/-! ### Characters -/

/-- The level of a logic value: logic 1 is high in the normal convention and low in the inverse one (Table SL.2). -/
def bitLevel (inverse b : Bool) : Bool := b != inverse

/-- The data bits of a byte in line order: least significant first, in the inverse convention most significant first (Table
SL.2). -/
def dataBits (inverse : Bool) (c : Byte) : List Bool :=
  let l := (List.range 8).map fun i => c.getLsbD i
  if inverse then l.reverse else l

/-- The parity bit: the number of ones among the data and parity bits is even (R372). -/
def parityBit (l : List Bool) : Bool := (l.filter fun b => b).length % 2 == 1

/-- A character on the line, twelve bit times: the start bit low, eight data bits, the parity bit, two stop bits high; `true` is
high (R372). -/
def charLevels (inverse : Bool) (c : Byte) : List Bool :=
  let d := dataBits inverse c
  false :: (d ++ [parityBit d]).map (bitLevel inverse) ++ [true, true]

/-- The byte of eight data bits in line order. -/
def byteOfBits (inverse : Bool) (l : List Bool) : Byte :=
  let l := if inverse then l.reverse else l
  BitVec.ofNat 8 (l.zipIdx.map fun e => if e.1 then 2 ^ e.2 else 0).sum

/-! ### The receiver -/

/-- The receiver within a character: the level at the last tick, ticks since the bit boundary, the high samples among 7, 8 and 9,
and the bits read (R373). -/
structure SerSampler where
  last : Bool
  tick : Nat
  highs : Nat
  bits : List Bool
  deriving DecidableEq, Repr

/-- One tick of URX: a falling edge sets the bit boundary; a bit is the majority of samples 7, 8 and 9 after its boundary
(R373). -/
def SerSampler.step (x : SerSampler) (level : Bool) : SerSampler :=
  let n := if x.last && !level then 0 else x.tick
  let h := if n = 0 then 0 else x.highs + if (decide (n = 7) || decide (n = 8) || decide (n = 9)) && level then 1 else 0
  { last := level, tick := (n + 1) % 16, highs := h, bits := if n = 9 then x.bits ++ [decide (2 ≤ h)] else x.bits }

/-- What the receiver makes of a character (R373). -/
inductive SerChar where
  | incomplete
  | falseStart
  | framing
  | parity
  | byte (c : Byte)
  deriving DecidableEq, Repr

/-- A character from the levels of URX, sixteen ticks a bit, from the falling edge of its start bit on (R373). A character whose
stop bit reads low is a framing error whatever its parity.
Log 118 (DEDUCED). -/
def readChar (inverse : Bool) (ticks : List Bool) : SerChar :=
  let x := ticks.foldl SerSampler.step ⟨true, 0, 0, []⟩
  match x.bits with
  | true :: _ => .falseStart
  | l =>
    if l.length < 11 then .incomplete
    else
      let d := (l.drop 1).take 9 |>.map fun v => bitLevel inverse v
      if l.getD 10 false = false then .framing
      else if parityBit d then .parity
      else .byte (byteOfBits inverse (d.take 8))

/-! ### Frames -/

/-- A frame: address, kind, length, payload, and the CRC-16 of these, low byte first (R377). -/
def serFrame (addr kind : Byte) (payload : List Byte) : List Byte :=
  let b := [addr, kind, BitVec.ofNat 8 payload.length] ++ payload
  b ++ leBytes 2 (crc16 b).toNat

/-- What the characters of a frame give: address, kind and payload, where the length and the CRC are right (R377). -/
def parseFrame (l : List Byte) : Option (Byte × Byte × List Byte) :=
  match l with
  | a :: k :: n :: r =>
    let payload := r.take n.toNat
    if r.length = n.toNat + 2 ∧ l = serFrame a k payload then some (a, k, payload) else none
  | _ => none

/-- The characters that a frame still lacks: those up to its length character, then the ones that this announces (R377). -/
def frameLack (l : List Byte) : Nat :=
  match l with
  | _ :: _ :: n :: r => n.toNat + 2 - r.length
  | l => 3 - l.length

/-- Received characters, each with the idle bit times before it, cut into frames: after at least one character time of idle a
character is an address character (R377). -/
def framesOf : List (Nat × Byte) → List (List Byte)
  | [] => []
  | (_, c) :: r =>
    match r, framesOf r with
    | (gap, _) :: _, f :: l => if 12 ≤ gap then [c] :: f :: l else (c :: f) :: l
    | _, l => [c] :: l

/-- The levels of a frame on the line (R372, R377). -/
def frameLevels (inverse : Bool) (l : List Byte) : List Bool := l.flatMap (charLevels inverse)

/-! ### Arbitration -/

/-- Which of two address characters wins: at the first bit that differs on the line the one that is low there (R384, R385). -/
def lowFirst : List Bool → List Bool → Bool
  | a :: r, b :: q => if a = b then lowFirst r q else b
  | _, _ => false
def serWins (inverse : Bool) (a b : Byte) : Bool := lowFirst (charLevels inverse a) (charLevels inverse b)

/-- What a sender reads back in place of the bit it sent (R384). -/
inductive SerMismatch where
  | lost | collision | fault
  deriving DecidableEq, Repr

/-- What a sender's mismatch at bit `i` of its frame is: high sent and low read in the address character loses arbitration, later it
is a collision; low sent and high read is a line fault (R384). -/
def mismatchOf (levels : List Bool) (i : Nat) (read : Bool) : Option SerMismatch :=
  match levels[i]? with
  | none => none
  | some sent =>
    if sent = read then none
    else if !sent then some .fault
    else if i < 12 then some .lost
    else some .collision

end Sys2Proof.Machine
end

