-- ==== Sys2Proof/Machine/Fabric.lean ====
section
/-! DEFINITION. The operations of the mortar fabric: routes, links, flows, announcements and node IDs (chapter "Mortar
fabric: many engines as one"). -/

namespace Sys2Proof.Machine

/-! ### Ports and routes -/

/-- Port `m` runs (R440). -/
def State.morRuns (s : State) (m : MorId) : Bool := s.enabledAt (Fld.morEnable m)

/-- A change of the fabric state, and of one port. -/
def State.updFab (s : State) (f : Fabric → Fabric) : State := { s with fab := f s.fab }
def State.updMor (s : State) (m : MorId) (f : MorPort → MorPort) : State :=
  s.updFab fun x => { x with ports := x.ports.set m.val (f x.ports[m]) m.isLt }

/-- MOR.ROUTE of a destination (Table MF.7). -/
def State.route (s : State) (d : BitVec 6) : Word := s.getF (Fld.morRoute d.toNat)

/-- The egress port for a destination: the primary while it is up, else the alternate (R451). -/
def State.egress (s : State) (d : BitVec 6) : Option MorId :=
  let r := s.route d
  let p : MorId := Fin.ofNat 4 (r.toNat % 4)
  let q : MorId := Fin.ofNat 4 (r.toNat / 8 % 4)
  if r.getLsbD 2 && s.fab.ports[p].up then some p
  else if r.getLsbD 5 && s.fab.ports[q].up then some q
  else none

/-- Sends a sequenced frame on an up port (R444): an announcement goes ahead of every message that waits in the egress (R445). -/
def State.linkSend (s : State) (m : MorId) (x : LinkItem) : State :=
  s.updMor m fun p => if p.up then { p with out := p.out ++ [(p.txSeq, x)], txSeq := p.txSeq + 1 } else p

/-! ### Messages -/

/-- The header bytes that the CRC covers, byte 5 taken as 0 (R455). -/
def morHead (m : MorMsg) : List Byte :=
  [m.kind, BitVec.ofNat 8 ((if m.restart then 1 else 0) + (if m.more then 2 else 0)), m.src.setWidth 8,
   m.dst.setWidth 8, m.cls, 0] ++ leBytes 2 m.payload.length ++ leBytes 2 m.seq.toNat ++ [0, 0]

/-- The message with its CRC. -/
def morSeal (m : MorMsg) : MorMsg := { m with crc := crc32c (morHead m ++ m.payload) }

/-- The class of a message kind (Table MF.3). -/
def kindClass (k : Byte) : Option Byte :=
  match k.toNat with
  | 1 => some 2
  | 2 => some 1
  | 3 => some 1
  | 4 => some 3
  | 5 => some 1
  | 6 => some 1
  | _ => none

/-- The checks of the destination (R455). -/
def morValid (m : MorMsg) : Bool := (morSeal m).crc == m.crc && kindClass m.kind == some m.cls

/-- The class that an egress serves next, of those that wait: class 2 where seven slots in a row have passed it by, class 3 where
fourteen have, and otherwise the highest (R38); a message of no class of Table MF.3 goes with class 3.
Log 82 (DESIGN CHOICE). -/
def MorPort.nextClass (p : MorPort) : Byte :=
  let waits := fun (c : Byte) => p.queue.any fun m => m.cls == c
  if waits 2 && decide (7 ≤ p.skipped2) then 2
  else if waits 3 && decide (14 ≤ p.skipped3) then 3
  else if waits 1 then 1
  else if waits 2 then 2
  else ((p.queue.head?).map (·.cls)).getD 3

/-- How long a message keeps its lane, in CORE cycles of 2.5 ns: header and payload at 9.7 Gb/s (R443, R455).
Log 82 (DESIGN CHOICE). -/
def laneCycles (m : MorMsg) : Nat := (32 * (16 + m.payload.length) + 96) / 97

/-- The lane for the next message is free in CORE cycle `now`; a degraded port has one lane (R443, R444). -/
def MorPort.laneReady (p : MorPort) (now : Nat) : Bool :=
  decide ((if p.laneTurn then p.laneFree.2 else p.laneFree.1) ≤ now)

/-- One slot of an egress: the oldest message of the class served goes out on the lane whose turn it is (R38, R444, R454). -/
def MorPort.slot (p : MorPort) (now : Nat) : MorPort :=
  let c := p.nextClass
  match p.queue.findIdx? fun m => m.cls == c with
  | none => p
  | some i =>
    match p.queue[i]? with
    | none => p
    | some m =>
      let rest := p.queue.eraseIdx i
      let past := fun (k : Byte) (n : Nat) => if c = k ∨ (rest.any fun x => x.cls == k) = false then 0 else n + 1
      let free := now + laneCycles m
      { p with
        queue := rest, out := p.out ++ [(p.txSeq, .msg m)], txSeq := p.txSeq + 1
        skipped2 := past 2 p.skipped2, skipped3 := past 3 p.skipped3
        laneFree := if p.laneTurn then (p.laneFree.1, free) else (free, p.laneFree.2)
        laneTurn := if p.degraded then p.laneTurn else !p.laneTurn }

/-- An egress fills its free lanes; `k` bounds the slots. -/
def MorPort.pump : Nat → Nat → MorPort → MorPort
  | 0, _, p => p
  | k + 1, now, p => if p.up && !p.queue.isEmpty && p.laneReady now then MorPort.pump k now (p.slot now) else p

/-- A message reaches the egress of a port, and leaves at once where a lane is free (R454). -/
def State.egressPush (s : State) (p : MorId) (m : MorMsg) : State :=
  s.updMor p fun x => if x.up then MorPort.pump 2 s.time.core { x with queue := x.queue ++ [m] } else x

/-- Every egress fills the lanes that have become free (R38, R454). -/
def State.egressTick (s : State) : State :=
  s.updFab fun x => { x with ports := x.ports.map fun p => MorPort.pump 2 s.time.core p }

/-- Sends a message on by its route, or lets it wait for one (R451). -/
def State.forward (s : State) (m : MorMsg) : State :=
  match s.egress m.dst with
  | some p => s.egressPush p m
  | none => s.updFab fun x => { x with wait := x.wait ++ [m] }

/-- The flow that this node sends to a destination in a class; a new one starts at 0 with the restart flag (R456). -/
def Fabric.outFlow (x : Fabric) (d : BitVec 6) (c : Byte) : OutFlow :=
  (x.outFlows.find? fun f => f.dst == d && f.cls == c).getD ⟨d, c, 0, true⟩

/-- Stores a flow. -/
def Fabric.setOut (x : Fabric) (f : OutFlow) : Fabric :=
  { x with outFlows := (x.outFlows.filter fun g => !(g.dst == f.dst && g.cls == f.cls)) ++ [f] }

/-- The flow from a source in a class, and its storage. -/
def Fabric.inFlow (x : Fabric) (src : BitVec 6) (c : Byte) : Option InFlow :=
  x.inFlows.find? fun f => f.src == src && f.cls == c
def Fabric.setIn (x : Fabric) (f : InFlow) : Fabric :=
  { x with inFlows := (x.inFlows.filter fun g => !(g.src == f.src && g.cls == f.cls)) ++ [f] }

/-- A message in order joins its unit; the last one hands the unit on (R457). -/
def InFlow.take (f : InFlow) (m : MorMsg) : InFlow × Option (BitVec 6 × Byte × List Byte) :=
  let fr := f.frags ++ [m]
  if m.more then ({ f with frags := if fr.length < 16 then fr else [] }, none)
  else ({ f with frags := [] }, some (m.src, m.kind, fr.flatMap (·.payload)))

/-- Delivers the expected message and every waiting one that then follows (R458, R459); `n` bounds the waiting ones. -/
def InFlow.accept : Nat → InFlow → MorMsg → InFlow × List (BitVec 6 × Byte × List Byte)
  | 0, f, _ => (f, [])
  | n + 1, f, m =>
    let (g, u) := f.take m
    let h := { g with expect := some (m.seq + 1) }
    match h.waiting.find? fun w => w.seq == m.seq + 1 with
    | none => (h, u.toList)
    | some w =>
      let (k, us) := InFlow.accept n { h with waiting := h.waiting.filter fun v => v.seq != w.seq } w
      (k, u.toList ++ us)

/-- Messages in the reorder buffer. -/
def Fabric.reorderLevel (x : Fabric) : Nat := (x.inFlows.map fun f => f.waiting.length).sum

/-- What a message does to its flow at the destination: the new flow, the units handed on, the counts of duplicates and
of reorder drops, and whether BROKEN goes to the source (R458 to R461). -/
def State.flowStep (s : State) (m : MorMsg) : InFlow × List (BitVec 6 × Byte × List Byte) × Nat × Nat × Bool :=
  let f := (s.fab.inFlow m.src m.cls).getD ⟨m.src, m.cls, none, [], false, []⟩
  if m.restart then
    let (g, us) := InFlow.accept 65 { f with waiting := [], frags := [], brokenSent := false } m
    (g, us, 0, f.waiting.length, false)
  else match f.expect with
    | none => ({ f with brokenSent := true }, [], 0, 0, !f.brokenSent)
    | some e =>
      let d := (m.seq - e).toNat
      if d = 0 then
        let (g, us) := InFlow.accept 65 f m
        (g, us, 0, 0, false)
      else if 2 ^ 15 ≤ d then (f, [], 1, 0, false)
      else if f.waiting.any fun w => w.seq == m.seq then (f, [], 1, 0, false)
      else if d ≤ 64 ∧ s.fab.reorderLevel < 64 then ({ f with waiting := f.waiting ++ [m] }, [], 0, 0, false)
      else (f, [], 0, 1, false)

/-- Numbers one message of a flow that this node sends (R456). -/
def State.compose (s : State) (d : BitVec 6) (c kind : Byte) (more : Bool) (payload : List Byte) : MorMsg × State :=
  let f := s.fab.outFlow d c
  let m : MorMsg := ⟨kind, f.restart, more, (s.fab.id).getD 0, d, c, 1, f.seq, payload, 0⟩
  (morSeal m, s.updFab (·.setOut { f with seq := f.seq + 1, restart := false }))

/-- Takes a message that has reached its destination; a BROKEN to send is handed back (R455, R458 to R461). -/
def State.receive (s : State) (m : MorMsg) : State × Bool :=
  if !morValid m then (s.count16 Fld.morKindDropCount, false)
  else
    let (f, us, dup, drop, broken) := s.flowStep m
    let s1 := s.updFab fun x => { x.setIn f with inbox := x.inbox ++ us }
    ((s1.countSat 16 Fld.morDupCount dup).countSat 16 Fld.morReorderDropCount drop, broken)

/-- Sends one message: on its route, or to this node itself (R451). A node without an ID originates none (R449). -/
def State.originate (s : State) (d : BitVec 6) (c kind : Byte) (more : Bool) (payload : List Byte) : State :=
  if s.fab.id.isNone || !s.anyMor then s
  else
    let (m, s1) := s.compose d c kind more payload
    if s.fab.id = some d then (s1.receive m).1 else s1.forward m

/-- The fragments of a unit, up to `n` of 4096 bytes each. -/
def fragments : Nat → List Byte → List (List Byte)
  | 0, _ => []
  | n + 1, l => if l.length ≤ 4096 then [l] else l.take 4096 :: fragments n (l.drop 4096)

/-- Sends a unit of up to 16 messages (R457). -/
def State.sendUnit (s : State) (d : BitVec 6) (c kind : Byte) (b : List Byte) : State :=
  let fr := fragments 16 b
  (fr.zipIdx).foldl (fun s e => s.originate d c kind (decide (e.2 + 1 < fr.length)) e.1) s

/-- Sends BROKEN for a flow to its source (R460, R461). -/
def State.sendBroken (s : State) (src : BitVec 6) (c : Byte) (next : BitVec 16) : State :=
  s.originate src 1 6 false ([c, 0] ++ leBytes 2 next.toNat)

/-- A message delivered at this node.
Log 81 (DESIGN CHOICE). -/
def State.deliver (s : State) (m : MorMsg) : State :=
  let (s1, broken) := s.receive m
  if broken then s1.sendBroken m.src m.cls 0 else s1

/-- Tap packets for the fabric leave the tap queue while their node has a route (R270, R471). -/
def State.tapPump (s : State) : State :=
  let go := fun (p : TapPkt) => match p.dest with
    | some d => (s.egress d).isSome || s.fab.id == some d
    | none => false
  let out := s.usb.taps.filter go
  let s1 := { s with usb := { s.usb with taps := s.usb.taps.filter fun p => !go p } }
  out.foldl (fun s p => s.sendUnit (p.dest.getD 0) 3 4 p.bytes) s1

/-- Messages that wait for a route and now have one leave (R451). -/
def State.rerouted (s : State) : State :=
  let w := s.fab.wait
  (w.foldl State.forward (s.updFab fun x => { x with wait := [] })).tapPump

/-! ### Announcements and node IDs -/

/-- The ID that ST3 and ST4 fix (R448). -/
def State.fixedId (s : State) : Option (BitVec 6) :=
  if 2 ≤ s.strap 3 ∧ s.strap 3 ≤ 5 then some (BitVec.ofNat 6 ((s.strap 3 - 2) * 16 + s.strap 4)) else none

/-- This node's own announcement (R446, Table MF.1); an ID that the straps fix is announced before discovery ends too
(R448).
Log 80 (DEDUCED). -/
def State.ownAnnounce (s : State) : Announce :=
  { serial := s.identity.serial, id := if s.fab.discovered then s.fab.id else s.fab.id.orElse fun _ => s.fixedId
    fixed := decide (2 ≤ s.strap 3) && decide (s.strap 3 ≤ 5)
    gm := s.getB Fld.morGmEn 0, num := s.fab.annNum, hops := 1
    peers := (List.finRange 4).map fun m => if s.fab.ports[m].up then s.fab.ports[m].peer else none
    bindings := s.fab.bindings }

/-- Originates an ANNOUNCE on every up port (R446). -/
def State.announceNow (s : State) : State :=
  let s1 := s.updFab fun x => { x with annNum := x.annNum + 1 }
  (List.finRange 4).foldl (fun s m => s.linkSend m (.announce s1.ownAnnounce)) s1

/-- IDs that no node of the database holds or has fixed. -/
def State.freeIds (s : State) : List (BitVec 6) :=
  ((List.range 64).map fun i => BitVec.ofNat 6 i).filter fun i =>
    !(s.fab.nodes.any fun n => n.id == some i) && !(s.fab.bindings.any fun b => b.2 == i && b.1 != s.identity.serial)

/-- The ID that a node takes at the end of step 9 (R448, R450). -/
def State.chosenId (s : State) : Option (BitVec 6) :=
  match s.fab.bindings.find? fun b => b.1 == s.identity.serial with
  | some b => some b.2
  | none =>
    match s.fixedId with
    | some i => some i
    | none =>
      let below := s.fab.nodes.filter fun n => n.id.isNone && !n.fixed && decide (n.serial.toNat < s.identity.serial.toNat)
      s.freeIds[below.length]?

/-- Binds a serial to an ID (R450). -/
def Fabric.bind (x : Fabric) (sn : BitVec 64) (i : BitVec 6) : Fabric :=
  { x with bindings := (x.bindings.filter fun b => b.1 != sn) ++ [(sn, i)] }

/-- Takes an ID, or none with its event where none is free (R449). -/
def State.takeId (s : State) (i : Option (BitVec 6)) : State :=
  match i with
  | some d => s.updFab fun x => { x.bind s.identity.serial d with id := some d }
  | none => (s.updFab fun x => { x with id := none }).bbEvent 0x0D#7 0xFF#8 0x0004#16 0

/-- The node with the lowest ID among those eligible as grandmaster (R473). -/
def State.grandmaster (s : State) : Option (BitVec 6) :=
  let own := if s.getB Fld.morGmEn 0 then s.fab.id.toList else []
  let all := own ++ (s.fab.nodes.filter (·.gm)).filterMap (·.id)
  all.foldl (fun a i => match a with
    | none => some i
    | some j => if i.toNat < j.toNat then some i else some j) none

/-- The time port (R475). -/
def State.timePort (s : State) : Option MorId := s.grandmaster.bind s.egress

/-- The node ID of a die serial. -/
def State.idOf (s : State) (sn : BitVec 64) : Option (BitVec 6) :=
  if sn = s.identity.serial then s.fab.id
  else match s.fab.nodes.find? fun n => n.serial == sn with
    | some n => n.id
    | none => none

/-- ROUTE_CHANGE (Table TW.8). -/
def State.routeChange (s : State) : State := s.raise 3 22

/-- Two announcements tell the same of their node. -/
def sameNode (a b : Announce) : Bool :=
  a.id == b.id && a.fixed == b.fixed && a.gm == b.gm && a.peers == b.peers

/-- Settles two nodes with one ID (R449): this node gives way to a fixed ID, and between two of one kind to the lower
die serial. -/
def State.settleId (s : State) (a : Announce) : State :=
  let own := s.ownAnnounce
  let yields := if a.fixed != own.fixed then a.fixed else decide (a.serial.toNat < own.serial.toNat)
  if s.fab.id.isNone || a.id != s.fab.id || !yields then s
  else
    let n := s.freeIds[0]?
    let s1 := (s.takeId n).updFab fun x => { x with conflict := true }
    let s2 := match n with
      | some i => s1.bbEvent 0x0D#7 0xFF#8 0x0003#16 (i.setWidth 32)
      | none => s1
    s2.announceNow

/-- An ANNOUNCE from port `m`: a newer one enters the database and is flooded on (R446). -/
def State.takeAnnounce (s : State) (m : MorId) (a : Announce) : State :=
  let old := s.fab.nodes.find? fun n => n.serial == a.serial
  if decide (a.serial = s.identity.serial) || (match old with | some o => decide (a.num ≤ o.num) | none => false) then s
  else
    let s1 := s.updFab fun x =>
      let y := { x with nodes := (x.nodes.filter fun n => n.serial != a.serial) ++ [a] }
      let z := a.bindings.foldl (fun z b => if b.1 = s.identity.serial ∧ x.discovered then z else z.bind b.1 b.2) y
      match a.id with
      | some i => z.bind a.serial i
      | none => z
    let s2 := if (match old with | some o => sameNode a o | none => false) then s1 else s1.routeChange
    let s3 := s2.settleId a
    if a.hops < 8 then
      (List.finRange 4).foldl (fun s p =>
        if p = m then s else s.linkSend p (.announce { a with hops := a.hops + 1 })) s3
    else s3

/-! ### Bring-up and loss -/

/-- Port `m` comes up: sequences restart, the node announces, waiting messages leave (R443, R446, R451). -/
def State.morUp (s : State) (m : MorId) (degraded : Bool) : State :=
  ((s.updMor m fun p => { p with
      up := true, degraded := degraded, out := [], txSeq := 0, rxSeq := 0, delays := [], queue := [], skipped2 := 0
      skipped3 := 0, laneTurn := degraded && p.lock1, laneFree := (0, 0) }).announceNow).routeChange.rerouted

/-- The rest state of a port. -/
def MorPort.idle : MorPort :=
  { lock0 := false, lock1 := false, up := false, degraded := false, exch := false, pol := false, peer := none,
    helloSent := false, helloSeen := false, out := [], txSeq := 0, rxSeq := 0, delays := [], sentReq := none,
    sentResp := none, queue := [], skipped2 := 0, skipped3 := 0, laneTurn := false, laneFree := (0, 0), sentTime := none }

/-- Port `m` goes down: its unacknowledged messages return to forwarding, and then those that waited for a lane, ahead of those
that wait for a route (R451, R463). -/
def State.morDown (s : State) (m : MorId) : State :=
  let back := s.fab.ports[m].out.filterMap fun e => match e.2 with
    | .msg x => some x
    | .announce _ => none
  let s1 := (s.updMor m fun _ => MorPort.idle).updFab fun x => { x with wait := back ++ s.fab.ports[m].queue ++ x.wait }
  (s1.announceNow).routeChange.rerouted

end Sys2Proof.Machine
end

