-- ==== Sys2Proof/Machine/Store.lean ====
section
/-! DEFINITION. The verdict store in CORE and its mirror in VQ (R313 to R316, R33, R34). -/

namespace Sys2Proof.Machine

/-- The query address of frame index `f` of context `k` (R313). -/
def queryAddr (k : CtxId) (f : Word) : BitVec 14 := BitVec.ofNat 14 (k.val * 2048 + f.toNat % 2048)

/-- The epoch of a frame index: bits [12:11] (Table VP.1). -/
def epochOf (f : Word) : Nat := f.toNat / 2048 % 4

/-- The PENDING word of a frame index (R315). -/
def pendingWord (f : Word) : BitVec 16 := BitVec.ofNat 16 (0x4000 + epochOf f)

/-- A word of the store, and of the mirror.
Log 86 (DESIGN CHOICE). -/
def State.storeAt (s : State) (a : BitVec 14) : BitVec 16 := sparseGet (fun _ => 0) s.vs.store a.toNat
def State.mirrorAt (s : State) (a : BitVec 14) : BitVec 16 := sparseGet (fun _ => 0) s.vs.mirror a.toNat

/-- VQ_BACKLOG: the CORE → VQ queue is full or an entry is dirty (R329). -/
def Verdict.backlogged (v : Verdict) : Bool := decide (64 ≤ v.queue.length) || !v.dirty.isEmpty

/-- Counts a rise of VQ_BACKLOG (R329). -/
def State.backlogEdge (s : State) : State :=
  let b := s.vs.backlogged
  let s1 := { s with vs := { s.vs with backlog := b } }
  if b && !s.vs.backlog then s1.count16 Fld.vsBacklogCount else s1

/-- Adds a dirty entry, kept in ascending order of frame index (R34). -/
def insertDirty (a : BitVec 14) (f : Word) : List (BitVec 14 × Word) → List (BitVec 14 × Word)
  | [] => [(a, f)]
  | b :: r => if f.toNat < b.2.toNat then (a, f) :: b :: r else b :: insertDirty a f r

/-- A write of the store for frame index `f`: the word enters the CORE → VQ queue, or its address becomes dirty while the
queue is full; and, once an entry is dirty, as long as one is, so that no later word overtakes it (R34).
Log 98 (DESIGN CHOICE). -/
def State.storeWrite (s : State) (a : BitVec 14) (f : Word) (w : BitVec 16) : State :=
  let v := s.vs
  let v1 := { v with store := sparseSet (fun _ => 0) v.store a.toNat w, owner := sparseSet (fun _ => 0) v.owner a.toNat f }
  let v2 := if v.backlogged then { v1 with dirty := insertDirty a f (v1.dirty.filter fun d => d.1 != a) }
    else { v1 with queue := v1.queue ++ [(a, w)] }
  { s with vs := v2 }.backlogEdge

/-- The frame index that an entry holds. -/
def State.storeOwner (s : State) (a : BitVec 14) : Word := sparseGet (fun _ => 0) s.vs.owner a.toNat

end Sys2Proof.Machine
end

