-- ==== Sys2Proof/Machine/Csi.lean ====
section
/-! DEFINITION. The CSI-2 ports: packets, frames, frame index, elastic buffer and timeouts (chapter "Camera ingress"). -/

namespace Sys2Proof.Machine

/-! ### Shared operations -/

/-- A change of one port. -/
def State.updPort (s : State) (p : PortId) (f : Port → Port) : State :=
  { s with ports := s.ports.set p.val (f s.ports[p]) p.isLt }

/-- A frame by its number. -/
def State.frame? (s : State) (id : Nat) : Option Frame := s.frames.find? fun x => x.id == id

/-- A change of the frame with number `id`. -/
def State.updFrame (s : State) (id : Nat) (f : Frame → Frame) : State :=
  { s with frames := s.frames.map fun x => if x.id = id then f x else x }

/-- Frames marked damaged, and truncated. -/
def State.markDamaged (s : State) (ids : List Nat) : State :=
  { s with frames := s.frames.map fun x => if ids.contains x.id then { x with damaged := true } else x }
def State.markTruncated (s : State) (ids : List Nat) : State :=
  { s with frames := s.frames.map fun x => if ids.contains x.id then { x with truncated := true } else x }

/-- Bytes per pixel group, pixels per group and greatest word count of a pixel type (Table CI.3). -/
def pixelType (dt : BitVec 6) : Option (Nat × Nat × Nat) :=
  match dt.toNat with
  | 0x2A => some (1, 1, 8192)
  | 0x2B => some (5, 4, 10240)
  | 0x2C => some (3, 2, 12288)
  | 0x2D => some (7, 4, 14336)
  | 0x24 => some (3, 1, 24576)
  | 0x1E => some (4, 2, 16384)
  | _ => none

/-- Whole pixels in `n` bytes of a type, at most 8192.
Log 48 (PRESUMED). -/
def pixelCount (b g n : Nat) : Nat := min 8192 (n / b * g)

/-- The parts of CTX.SRC (Table CI.9). -/
def State.srcPort (s : State) (k : CtxId) : Nat := s.getN (Fld.ctxSrc k) % 4
def State.srcVc (s : State) (k : CtxId) : Nat := s.getN (Fld.ctxSrc k) / 4 % 16
def State.srcType (s : State) (k : CtxId) : BitVec 6 := BitVec.ofNat 6 (s.getN (Fld.ctxSrc k) / 64)
def State.srcEmb (s : State) (k : CtxId) : Bool := s.getB (Fld.ctxSrc k) 12

/-- The enabled contexts that bind as `k` does (R235). -/
def State.bindAlike (s : State) (k : CtxId) : List CtxId :=
  (List.finRange 8).filter fun j => s.enabledAt (Fld.ctxEnable j)
    && s.getN (Fld.ctxSrc j) % 4096 == s.getN (Fld.ctxSrc k) % 4096

/-- The lower-numbered enabled context that binds as `k` does (R235). -/
def State.bindingWinner (s : State) (k : CtxId) : Option CtxId := (s.bindAlike k).find? fun j => decide (j.val < k.val)

/-- The binding names a port that is absent or whose bit of the enabled word is 0, or a type outside Table CI.3 (R235).
Log 50 (DEDUCED). -/
def State.badBinding (s : State) (k : CtxId) : Bool :=
  !s.unitOn (s.srcPort k)
    || ((pixelType (s.srcType k)).isNone && decide (s.srcType k ≠ 0x12#6))

/-- The contexts that take a Frame Start on (port, channel) (R234, R235). -/
def State.takers (s : State) (p : PortId) (vc : Fin 16) : List CtxId :=
  (List.finRange 8).filter fun k => s.enabledAt (Fld.ctxEnable k) && decide (s.srcPort k = p.val)
    && decide (s.srcVc k = vc.val) && (s.bindingWinner k).isNone && !s.badBinding k

/-- The frames open on a channel, `none` where it has no frame open. -/
def Port.openOn (x : Port) (vc : Fin 16) : Option (List Nat) :=
  (x.openVc.find? fun e => e.1 == vc).map (·.2)

/-- Every frame open on the port. -/
def Port.allOpen (x : Port) : List Nat := x.openVc.flatMap (·.2)

/-- Bytes that an item holds in the unreserved part of the buffer; markers lie in the reserved part (R238). -/
def BufItem.bytes : BufItem → Nat
  | .line _ b _ => b.length
  | .emb n => n
  | _ => 0

/-- Bytes held in the elastic buffer.
Log 51 (DEDUCED). -/
def Port.level (x : Port) : Nat := (x.buf.map BufItem.bytes).sum

/-- A packet of `n` bytes fits (R238): 256 KiB less the reserved 1 KiB.
Log 51 (DEDUCED). -/
def Port.fits (x : Port) (n : Nat) : Bool := decide (x.level + n ≤ 255 * 1024)

/-- Items enter the buffer, and the high-water mark follows. -/
def State.bufPush (s : State) (p : PortId) (l : List BufItem) : State :=
  let s1 := s.updPort p fun x => { x with buf := x.buf ++ l }
  s1.setN (Fld.csiBufHwm p) (max (s1.getN (Fld.csiBufHwm p)) s1.ports[p].level)

/-- Closes every frame open on a port as truncated (R230, R247): a close of each behind its stored packets. -/
def State.closePort (s : State) (p : PortId) : State :=
  let ids := s.ports[p].allOpen
  ((s.markTruncated ids).updPort p fun x => { x with openVc := [], late := [] }).bufPush p
    (ids.map BufItem.close)

/-- The port's strap selects it and nothing turns it off: its receivers are powered while CSI.ENABLE is 1 (R229). -/
def State.portSelected (s : State) (p : PortId) : Bool := !s.turnedOff (Fld.csiEnable p)

/-- Receivers on, at the setting of CSI.ENABLE or at a wake (R229, R247). -/
def State.portPower (s : State) (p : PortId) : State :=
  s.updPort p fun x => { x with powered := true, usable := false }

/-- The setting of CSI.ENABLE: what CSI.STATUS and CSI.BUF_HWM tell "since enable" starts anew (Table CI.8). -/
def State.portEnable (s : State) (p : PortId) : State :=
  ((s.portPower p).updPort p fun x => { x with deskewSeen := false, ovfSeen := false }).setN
    (Fld.csiBufHwm p) s.ports[p].level

/-- Receivers off. -/
def State.portDown (s : State) (p : PortId) : State :=
  (s.closePort p).updPort p fun x => { x with powered := false, usable := false, clkHs := false, ulps := 0 }

/-- The D-PHY v2.1 levels of a port strap (Table SR.2). -/
def State.portV21 (s : State) (p : PortId) : Bool :=
  decide (5 ≤ s.strap (5 + p.val)) && decide (s.strap (5 + p.val) ≤ 8)

/-- The port listens: second role with shared ingress (R250). -/
def State.listening (s : State) : Bool := s.pairRole == some (true, true) && (presentWord s.identity.variant).getLsbD 10

/-- The lane count that a port strap gives (Table SR.2). -/
def State.strapLanes (s : State) (p : PortId) : Nat :=
  let l := s.strap (5 + p.val)
  if 5 ≤ l ∧ l ≤ 8 then l - 4 else if l ≤ 4 then l else 0

/-- A port that R249 turns off: D-PHY v2.1 under shared ingress. -/
def State.sharedOff (s : State) (p : PortId) : Bool :=
  (presentWord s.identity.variant).getLsbD 10 && (s.strap 2 == 3 || s.strap 2 == 4) && s.portV21 p
    && (presentWord s.identity.variant).getLsbD p.val

/-- The straps select a port that the variant has. -/
def State.strapSelects (s : State) (p : PortId) : Bool :=
  (presentWord s.identity.variant).getLsbD p.val && decide (s.strapLanes p ≠ 0) && !s.sharedOff p

/-- Data lanes in use, from D0 (R225). -/
def State.lanesUsed (s : State) (p : PortId) : Nat := min (s.strapLanes p) (s.getN (Fld.csiLanes p))

/-- The highest lane rate in Mb/s that the receivers are tuned for (R225): that of the generation, narrowed by CSI.RATE_MBPS;
on a B0 part that listens, values above 2000 act as 2000 (R250). -/
def State.rateLimit (s : State) (p : PortId) : Nat :=
  let field := s.getN (Fld.csiRateMbps p)
  min (if s.portV21 p then 4500 else 2500)
    (if decide (s.identity.stepping = .b0) && s.listening then min 2000 field else field)

/-- A lane is in use: the clock lane 4, and the data lanes of R225. -/
def State.laneUsed (s : State) (p : PortId) (lane : Fin 5) : Bool := decide (lane = 4) || decide (lane.val < s.lanesUsed p)

/-- A port receives on a lane; those of unused lanes stay off (R225, R229). -/
def State.laneReceives (s : State) (p : PortId) (lane : Fin 5) : Bool := s.ports[p].powered && s.laneUsed p lane

/-- The port is terminated (R229, R250). -/
def State.terminated (s : State) (p : PortId) : Bool :=
  if s.listening then false
  else if s.pairRole == some (false, true) && (presentWord s.identity.variant).getLsbD 10 then
    s.boot.started && s.strapSelects p
      && !(s.phase == .asleep || (s.phase == .waking && decide (s.sys.wakeStep < 4))
        || (s.phase == .sleepEntry && decide (3 ≤ s.sys.sleepStep)))
  else s.ports[p].powered

/-- A lane is terminated: lanes not in use are not (R225). -/
def State.laneTerminated (s : State) (p : PortId) (lane : Fin 5) : Bool := s.terminated p && s.laneUsed p lane

/-- CSI.STATUS (Table CI.8), as bits from 0. -/
def State.csiStatusBits (s : State) (p : PortId) : List Bool :=
  let x := s.ports[p]
  [x.powered, s.terminated p, x.powered && s.listening, x.powered && x.clkHs, x.powered && decide (x.ulps ≠ 0), x.deskewSeen,
   x.ovfSeen, s.portV21 p]

/-- A field write of the CSI unit that takes effect: CSI.ENABLE powers the receivers or closes every open frame and
powers them down (R229, R230), CSI.VC_EN closes the frames of channels it disables (R231). -/
def State.csiNow (s : State) (a : Nat) (v : Word) : State :=
  let p : PortId := Fin.ofNat 4 ((a - 0x4000) / 0x100)
  let was := s.enabledAt (Fld.csiEnable p)
  let s1 := s.setF a v
  if a = Fld.csiEnable p then
    if v.getLsbD 0 then (if was || !s.portSelected p then s1 else s1.portEnable p)
    else if was then s1.portDown p else s1
  else if a = Fld.csiVcEn p then
    let gone := s.ports[p].openVc.filter fun e => !v.getLsbD e.1.val
    let ids := gone.flatMap (·.2)
    ((s1.markTruncated ids).updPort p fun x =>
      { x with openVc := x.openVc.filter fun e => v.getLsbD e.1.val }).bufPush p (ids.map BufItem.close)
  else s1

/-- The checks that come before a packet's own: the port is powered and usable, the header bit is counted, the channel
is accepted (R229 to R231, Table CI.6). The packet goes on with `f`.
Log 1 (DESIGN CHOICE). -/
def State.packet (s : State) (p : PortId) (vc : Fin 16) (corrected : Bool) (f : State → State) : State :=
  if !s.ports[p].powered then s
  else
    let s1 := if corrected then s.count16 (Fld.csiHdrCorrCount p) else s
    if !(s1.getF (Fld.csiVcEn p)).getLsbD vc.val then s1.count16 (Fld.csiVcIgnCount p) else f s1

/-! ### Frame Start and Frame End -/

/-- A new frame of context `k`; its timestamp and index come with its descriptor. -/
def State.newFrame (s : State) (p : PortId) (vc : Fin 16) (k : CtxId) (num : BitVec 16) (id : Nat) : Frame :=
  { id := id, port := p, vc := vc, ctx := k, dt := s.srcType k, num := num, ts := 0, fidx := none,
    damaged := false, truncated := false, overloaded := false, dropping := false, embOn := s.srcEmb k, emb := [],
    embOvf := false,
    width := none, lines := 0, started := false, closed := false, y := 0, blk := [], luma := [], bits := [],
    rx0 := 0, rx1 := 0, ry0 := 0, ry1 := 0, tapOn := false, tapStarted := false, tapLines := 0,
    rows := 0, slots := [], full := false, symOpt := 0, eraseConf := 0, candMax := 0, symEn := 0,
    pol := 0, minContrast := 0, modMin := 0, modMax := 0, evidence := [], found := [], noticed := false, passed := false,
    cands := 0, dropCand := 0, syms := 0, gragas := 0, matches_ := 0, stitched := 0, failed := 0, dropRes := 0,
    jxSent := 0 }

/-- Frames of the contexts `ks`, numbered from `id`. -/
def State.newFrames (s : State) (p : PortId) (vc : Fin 16) (num : BitVec 16) : List CtxId → Nat → List Frame
  | [], _ => []
  | k :: r, id => s.newFrame p vc k num id :: s.newFrames p vc num r (id + 1)

/-- Closes the frames of a channel that a further Frame Start finds open (Table CI.6). -/
def State.missingEnd (s : State) (p : PortId) (vc : Fin 16) : State :=
  match s.ports[p].openOn vc with
  | none => s
  | some ids =>
    (((s.markTruncated ids).count16 (Fld.csiMissingFeCount p)).updPort p fun x =>
      { x with openVc := x.openVc.filter fun e => e.1 != vc }).bufPush p [.fe ids]

/-- Opens one frame in each context bound to the channel (R234). -/
def State.openFrames (s : State) (p : PortId) (vc : Fin 16) (num : BitVec 16) : State :=
  let fs := s.newFrames p vc num (s.takers p vc) s.nextFrame
  let ids := fs.map (·.id)
  let s1 := { s with frames := s.frames ++ fs, nextFrame := s.nextFrame + fs.length }
  let s2 := s1.updPort p fun x =>
    { x with openVc := x.openVc ++ [(vc, ids)], late := x.late.filter (· != vc),
             descs := if ids.isEmpty then x.descs else x.descs ++ [ids] }
  if ids.isEmpty then s2 else s2.bufPush p [.fs ids]

/-- FRAME_START_PACKET: a Frame Start on a channel; the port joins the stream at the first one after its receivers are
usable (R229, R234).
Log 50 (DEDUCED). -/
def execFrameStartPacket (p : PortId) (vc : Fin 16) (num : BitVec 16) (corrected : Bool) (s : State) :
    Host.Outcome State Fault Refusal :=
  .next (s.packet p vc corrected fun s =>
    if !s.ports[p].usable then s.count16 (Fld.csiOrphanCount p)
    else ((s.missingEnd p vc).countWrap (Fld.csiFrameCount p) 1).openFrames p vc num)

/-- A Frame End on an enabled channel closes its open frames, closes a channel whose frame overran, or is an orphan. -/
def State.frameEnd (s : State) (p : PortId) (vc : Fin 16) : State :=
  match s.ports[p].openOn vc with
  | some ids =>
    (s.updPort p fun x => { x with openVc := x.openVc.filter fun e => e.1 != vc }).bufPush p
      (if ids.isEmpty then [] else [.fe ids])
  | none =>
    if s.ports[p].late.contains vc then
      (s.count16 (Fld.csiLateFeCount p)).updPort p fun x => { x with late := x.late.filter (· != vc) }
    else s.count16 (Fld.csiOrphanCount p)

/-- FRAME_END_PACKET: closes every frame open on the channel; late after a timeout, else an orphan (Table CI.6). -/
def execFrameEndPacket (p : PortId) (vc : Fin 16) (corrected : Bool) (s : State) : Host.Outcome State Fault Refusal :=
  .next (s.packet p vc corrected fun s => s.frameEnd p vc)

/-! ### Long packets -/

/-- A packet of a frame does not fit: the frame is overloaded, once (R239). -/
def State.overload (s : State) (p : PortId) (id : Nat) : State :=
  ((s.updFrame id fun f => { f with overloaded := true, truncated := true, dropping := true }).count16
    (Fld.csiOvfCount p)).updPort p fun x => { x with ovfSeen := true }

/-- A line for the frame: the checks of R233, then the elastic buffer. -/
def State.takeLine (s : State) (p : PortId) (f : Frame) (b g m : Nat) (x : LongPacket) : State :=
  let n := x.payload.length
  let px := pixelCount b g n
  let bad := decide (n % b ≠ 0) || decide (m < n) || (match f.width with | some w => decide (px ≠ w) | none => false)
  let s1 := if x.crcBad then (s.count16 (Fld.csiCrcErrCount p x.vc.val)).markDamaged [f.id] else s
  if f.dropping then s1
  else if !s1.ports[p].fits n then s1.overload p f.id
  else if 8192 ≤ f.lines then (s1.count16 (Fld.csiFormatErrCount p)).markDamaged [f.id]
  else
    let s2 := if bad then (s1.count16 (Fld.csiFormatErrCount p)).markDamaged [f.id] else s1
    (s2.updFrame f.id fun f =>
      { f with lines := f.lines + 1, width := some (f.width.getD px) }).bufPush p [.line f.id x.payload 0]

/-- An enabled context binds the type on the channel (R232). -/
def State.typeBound (s : State) (p : PortId) (vc : Fin 16) (dt : BitVec 6) : Bool :=
  (s.takers p vc).any fun k => s.srcType k == dt

/-- A long packet of pixel data on an enabled channel. -/
def State.pixels (s : State) (p : PortId) (x : LongPacket) : State :=
  if !s.ports[p].usable then s.count16 (Fld.csiOrphanCount p)
  else match pixelType x.dt with
    | none => s.count16 (Fld.csiDtIgnCount p)
    | some (b, g, m) =>
      if !s.typeBound p x.vc x.dt then s.count16 (Fld.csiDtIgnCount p)
      else match ((s.ports[p].openOn x.vc).getD []).filterMap s.frame? |>.find? (·.dt == x.dt) with
        | none => s.count16 (Fld.csiOrphanCount p)
        | some f =>
          if x.short then (s.count16 (Fld.csiShortPktCount p)).markDamaged [f.id]
          else s.takeLine p f b g m x

/-- PIXEL_PACKET: a long packet that carries no embedded data (R232 to R234, Table CI.6).
Log 50 (DEDUCED). -/
def execPixelPacket (p : PortId) (x : LongPacket) (s : State) : Host.Outcome State Fault Refusal :=
  .next (s.packet p x.vc x.corrected fun s => s.pixels p x)

/-- The captured bytes of a frame take those of a packet: the first 256 are kept (R237). -/
def Frame.capture (f : Frame) (b : List Byte) : Frame :=
  let all := f.emb ++ b
  { f with emb := all.take 256, embOvf := f.embOvf || decide (256 < all.length) }

/-- Embedded data for the frames `ids`: a frame that meets an overload drops it. -/
def State.takeEmbedded (s : State) (p : PortId) (ids : List Nat) (x : LongPacket) : State :=
  let s1 := if x.crcBad then (s.count16 (Fld.csiCrcErrCount p x.vc.val)).markDamaged ids else s
  let live := ids.filter fun i => ((s1.frame? i).map fun f => !f.dropping).getD false
  if live.isEmpty then s1
  else if !s1.ports[p].fits x.payload.length then live.foldl (fun s i => s.overload p i) s1
  else
    { s1 with frames := s1.frames.map fun (f : Frame) => if live.contains f.id then f.capture x.payload else f }.bufPush p
      [.emb x.payload.length]

/-- A long packet of embedded data on an enabled channel; one that no context captures counts as a type that no context
takes (R232, R240).
Log 50 (DEDUCED). -/
def State.embedded (s : State) (p : PortId) (x : LongPacket) : State :=
  if !s.ports[p].usable then s.count16 (Fld.csiOrphanCount p)
  else match s.ports[p].openOn x.vc with
    | none => s.count16 (Fld.csiOrphanCount p)
    | some all =>
      let ids := all.filter fun i => ((s.frame? i).map Frame.embOn).getD false
      if ids.isEmpty then s.count16 (Fld.csiDtIgnCount p)
      else if x.short then (s.count16 (Fld.csiShortPktCount p)).markDamaged ids
      else s.takeEmbedded p ids x

/-- EMBEDDED_PACKET: a long packet of type 0x12 goes to every frame of the channel whose context captures it (R234,
R237).
Log 50 (DEDUCED). -/
def execEmbeddedPacket (p : PortId) (x : LongPacket) (s : State) : Host.Outcome State Fault Refusal :=
  .next (s.packet p x.vc x.corrected fun s => s.embedded p x)

/-! ### Bursts, lanes and receivers -/

/-- HEADER_UNCORRECTABLE: an uncorrectable header, or a start-of-transmission sync error, damages every frame open on
the port (Table CI.6). -/
def execHeaderUncorrectable (p : PortId) (sync : Bool) (s : State) : Host.Outcome State Fault Refusal :=
  .next (if !s.ports[p].powered then s
    else (s.count16 (if sync then Fld.csiSotErrCount p else Fld.csiHdrUncorrCount p)).markDamaged s.ports[p].allOpen)

/-- DESKEW_BURST: recalibrates and is counted (R226). -/
def execDeskewBurst (p : PortId) (s : State) : Host.Outcome State Fault Refusal :=
  .next (if !s.ports[p].powered then s
    else (s.count16 (Fld.csiDeskewCount p)).updPort p fun x => { x with deskewSeen := true })

/-- CSI_RECEIVER_READY: 20 µs after power the receivers are usable (R229). -/
def execCsiReceiverReady (p : PortId) (s : State) : Host.Outcome State Fault Refusal :=
  .next (s.updPort p fun x => { x with usable := x.powered })

/-- The lines of a lane as the port takes them: a 1 in its bit of CSI.LANE_POL exchanges the two lines (R228). -/
def State.laneLines (s : State) (p : PortId) (lane : Fin 5) (x : LaneLines) : LaneLines :=
  if s.getB (Fld.csiLanePol p) lane.val then
    match x with
    | .stop => .stop
    | .lp01 => .lp10 false
    | .lp10 _ => .lp01
  else x

/-- A lane enters ULPS: LP-10 on the clock lane, the ULPS command on a data lane (Table CI.1).
Log 108 (PRESUMED). -/
def entersUlps (lane : Fin 5) : LaneLines → Bool
  | .lp10 u => decide (lane = 4) || u
  | _ => false

/-- CLOCK_LANE_STATE_CHANGE: a lane in use changes its state, and CSI.STATUS shows the clock lane's high-speed state and ULPS
(R228, Tables CI.1 and CI.8).
Log 108 (PRESUMED). -/
def execClockLaneStateChange (p : PortId) (lane : Fin 5) (lines : LaneLines) (s : State) :
    Host.Outcome State Fault Refusal :=
  .next (if !s.laneReceives p lane then s
    else
      let x := s.laneLines p lane lines
      let bit := BitVec.ofNat 5 (2 ^ lane.val)
      s.updPort p fun q => { q with
        clkHs := if lane = 4 then decide (x = .lp01) else q.clkHs
        ulps := if entersUlps lane x then q.ulps ||| bit else q.ulps &&& ~~~ bit })

/-! ### Frame index and timeout -/

/-- The index of a frame and the context state after it (R236): mode 1 uses the CSI-2 frame number. -/
def Ctx.index (c : Ctx) (mode1 : Bool) (num : BitVec 16) : Word × Ctx :=
  let following : Word := if c.indexed then c.fidx + 1 else 0
  let byNumber := mode1 && decide (num ≠ 0)
  let w := if decide (num.toNat ≤ c.lastNum.toNat) then c.wraps + 1 else c.wraps
  let i := if byNumber then BitVec.ofNat 32 (0x10000 * w + num.toNat) else following
  (i, { c with fidx := i, indexed := true, lastNum := if byNumber then num else c.lastNum,
               wraps := if byNumber then w else c.wraps })

/-- A frame is indexed at an entry that a decision has written in this very CORE cycle: the indexing comes first, so that the
decision is lapped: its word does not go out, and it is counted (R322, R333, Table VP.5). -/
def State.lapAtIndex (s : State) (k : CtxId) (a : BitVec 14) : State :=
  match s.vs.lastDecision with
  | some (b, f, n) =>
    if b = a ∧ n = s.time.core then
      ((({ s with vs := { s.vs with queue := s.vs.queue.filter (· != (a, s.storeAt a)), lastDecision := none } } :
        State).count16 Fld.vsLappedCount).bbEvent 0x0A#7 (BitVec.ofNat 8 k.val) 0x0003#16 f)
    else s
  | none => s

/-- The frame receives its index in CORE: CTX.FIDX shows it, and the verdict entry becomes PENDING (R236, R315). -/
def State.indexFrame (s : State) (id : Nat) : State :=
  match s.frame? id with
  | none => s
  | some f =>
    let (i, c) := s.ctxs[f.ctx].index (s.getB (Fld.ctxFidxMode f.ctx) 0) f.num
    let t := s.lapAtIndex f.ctx (queryAddr f.ctx i)
    ((({ t with ctxs := t.ctxs.set f.ctx.val c f.ctx.isLt }).updFrame id fun f => { f with fidx := some i }).setF
      (Fld.ctxFidx f.ctx) i).storeWrite (queryAddr f.ctx i) i (pendingWord i)

/-- The timestamp of a frame whose descriptor reaches CORE now: the time base less the header check, six byte clocks, and the
midpoint of the CSIx → CORE latency, half a byte clock and 6.25 ns, at a lane rate of `mbps` (R27, R35, Tables CI.4 and TR.1).
The byte clock has a period of 8000 / `mbps` ns.
Log 109 (DEDUCED). -/
def State.frameStamp (s : State) (mbps : Nat) : Nat :=
  let d := 4 * mbps * 2 ^ 32
  (4 * mbps * (s.time.ns * 2 ^ 32 + s.time.frac) - (208000 + 25 * mbps) * 2 ^ 32) / d

/-- The frame takes its timestamp. -/
def State.stampFrame (s : State) (ts id : Nat) : State := s.updFrame id fun f => { f with ts := ts }

/-- FRAME_DESCRIPTOR_IN_CORE: the oldest Frame Start descriptor of the port reaches CORE: timestamp and index are assigned
(R35, R236, R241). -/
def execFrameDescriptorInCore (p : PortId) (s : State) (mbps : Nat := 2500) : Host.Outcome State Fault Refusal :=
  .next (match s.ports[p].descs with
    | [] => s
    | ids :: r =>
      let s1 := s.updPort p fun x => { x with descs := r }
      ids.foldl State.indexFrame (ids.foldl (fun s id => s.stampFrame (s.frameStamp mbps) id) s1))

/-- The open frame of a context with its port. -/
def State.openFrameOf (s : State) (k : CtxId) : Option Frame :=
  s.frames.find? fun f => f.ctx == k && (s.ports[f.port].allOpen).contains f.id

/-- The Frame End timeout of a frame in ns: values below 10 µs act as 10 µs (R244). -/
def State.endTimeoutNs (s : State) (k : CtxId) : Nat := max 10 (s.getN (Fld.ctxFeTmoUs k)) * 1000

/-- The frame has its timestamp and has passed its timeout, counted from it (R244). -/
def State.timedOut (s : State) (f : Frame) : Bool := f.fidx.isSome && decide (f.ts + s.endTimeoutNs f.ctx ≤ s.nowNs)

/-- FRAME_END_TIMEOUT: the open frame of context `k` has passed its timeout; a close goes behind its packets (R244). A frame
that a further Frame Start has closed is open no more, and its timeout closes nothing (Table CI.7).
Log 71 (DEDUCED). -/
def execFrameEndTimeout (k : CtxId) (s : State) : Host.Outcome State Fault Refusal :=
  .next (match (s.openFrameOf k).filter s.timedOut with
    | none => s
    | some f =>
      let x := s.ports[f.port]
      let left := ((x.openOn f.vc).getD []).filter (· != f.id)
      (((s.markTruncated [f.id]).updPort f.port fun x =>
        if left.isEmpty then
          { x with openVc := x.openVc.filter fun e => e.1 != f.vc, late := x.late ++ [f.vc] }
        else { x with openVc := x.openVc.map fun e => if e.1 = f.vc then (e.1, left) else e })).bufPush f.port
          [.close f.id])

end Sys2Proof.Machine
end

