-- ==== Sys2Proof/Machine/Pixel.lean ====
section
/-! DEFINITION. The pixel arithmetic of the pipeline (R255 to R261): unpacking, black level, demosaic, white balance,
colour matrix, luma, tone curve and binarisation, line by line. -/

namespace Sys2Proof.Machine

/-- Clamps to a 16-bit code (R255). -/
def clamp16 (x : Int) : Nat := (max 0 (min 65535 x)).toNat

/-- The byte at position `i`. -/
def byteAt (b : List Byte) (i : Nat) : Nat := (b[i]?.getD 0).toNat

/-- The pixels of group `j` of a packet, as 16-bit codes (R255); the byte layout is that of CSI-2.
Log 48 (PRESUMED). -/
def unpackGroup (dt : BitVec 6) (b : List Byte) (j : Nat) : List Pixel :=
  match dt.toNat with
  | 0x2A => [[byteAt b j * 256]]
  | 0x2B =>
    let o := 5 * j
    (List.range 4).map fun i => [(byteAt b (o + i) * 4 + byteAt b (o + 4) / 4 ^ i % 4) * 64]
  | 0x2C =>
    let o := 3 * j
    (List.range 2).map fun i => [(byteAt b (o + i) * 16 + byteAt b (o + 2) / 16 ^ i % 16) * 16]
  | 0x2D =>
    let o := 7 * j
    let low := byteAt b (o + 4) + byteAt b (o + 5) * 256 + byteAt b (o + 6) * 65536
    (List.range 4).map fun i => [(byteAt b (o + i) * 64 + low / 64 ^ i % 64) * 4]
  | 0x24 =>
    let o := 3 * j
    [[byteAt b (o + 2) * 256, byteAt b (o + 1) * 256, byteAt b o * 256]]
  | 0x1E =>
    let o := 4 * j
    [[byteAt b (o + 1) * 256, byteAt b o * 256], [byteAt b (o + 3) * 256, byteAt b (o + 2) * 256]]
  | _ => []

/-- A pixel of code 0 of the type. -/
def zeroPixel (dt : BitVec 6) : Pixel :=
  match dt.toNat with
  | 0x24 => [0, 0, 0]
  | 0x1E => [0, 0]
  | _ => [0]

/-- A packet as a line of `w` pixels: a longer line is cut, a shorter one padded with code 0 (R233).
Log 48 (PRESUMED). -/
def unpackLine (dt : BitVec 6) (w : Nat) (b : List Byte) : List Pixel :=
  match pixelType dt with
  | none => []
  | some (n, _, _) =>
    let px := (List.range (b.length / n)).flatMap (unpackGroup dt b)
    let cut := px.take w
    cut ++ List.replicate (w - cut.length) (zeroPixel dt)

/-- The parameters of a context that the stages use. -/
structure PixelSet where
  dt : BitVec 6
  /-- 0 monochrome, 1 to 4 Bayer; 0 on the EVR-8440 (R261). -/
  cfa : Nat
  /-- The colour pipeline is present. -/
  colour : Bool
  bl : List Nat
  gain : List Nat
  ccm : List Int
  tone : List Nat
  local_ : Bool
  invert : Bool
  fix : Nat
  ofs : Int
  lo : Nat
  hi : Nat
  deriving DecidableEq, Repr

/-- A raw type: RAW8 to RAW14. -/
def rawType (dt : BitVec 6) : Bool := decide (0x2A ≤ dt.toNat) && decide (dt.toNat ≤ 0x2D)

/-- Reads the applied set of context `k` (Table PP.5). The colour path follows the variant; the disable mask of a recipe does
not change it.
Log 97 (DESIGN CHOICE). -/
def State.pixelSet (s : State) (k : CtxId) : PixelSet :=
  let colour := decide (s.identity.variant ≠ .evr8440)
  let cfa := s.getN (Fld.ctxCfa k)
  let dt := s.srcType k
  { dt := dt
    cfa := if colour && rawType dt && decide (1 ≤ cfa) && decide (cfa ≤ 4) then cfa else 0
    colour := colour
    bl := (List.range 4).map fun i => s.getN (Fld.ctxBl k i)
    gain := (List.range 3).map fun i => s.getN (Fld.ctxWbGain k i)
    ccm := (List.range 9).map fun i => s.getI (Fld.ctxCcm k i) 16
    tone := (List.range 33).map fun i => s.getN (Fld.ctxTone k i)
    local_ := s.getB (Fld.ctxBinMode k) 0
    invert := s.getB (Fld.ctxBinMode k) 1
    fix := s.getN (Fld.ctxBinFix k)
    ofs := s.getI (Fld.ctxBinOfs k) 8
    lo := s.getN (Fld.ctxBinLo k)
    hi := s.getN (Fld.ctxBinHi k) }

/-- The colour path: Bayer, or RGB888 where the colour pipeline is present (R257, R261). -/
def PixelSet.colourPath (c : PixelSet) : Bool := decide (c.cfa ≠ 0) || (c.colour && c.dt == 0x24#6)

/-- The site of a frame position (R256). -/
def site (x y : Nat) : Nat := 2 * (y % 2) + x % 2

/-- Black level (R256). -/
def PixelSet.black (c : PixelSet) (x y : Nat) (p : Pixel) : Pixel :=
  let b := fun i => c.bl.getD i 0
  match c.dt.toNat, p with
  | 0x24, [r, g, bb] => [r - b 0, g - b 1, bb - b 2]
  | 0x1E, [l, u] => [l - b 0, u]
  | _, [v] => [v - b (site x y)]
  | _, q => q

/-- The index that a position mirrors to about the first and the last of `n` (R257, R260).
Log 49 (DEDUCED). -/
def mirrorIdx (n : Nat) (i : Int) : Nat :=
  if n ≤ 1 then 0
  else
    let m := (i % (2 * (n - 1) : Int)).toNat
    if m < n then m else 2 * (n - 1) - m

/-- The colour of a site: 0 R, 1 G, 2 B, for CTX.CFA 1 to 4 (R257).
Log 92 (DEDUCED). -/
def siteColour (cfa st : Nat) : Nat :=
  match cfa with
  | 1 => [0, 1, 1, 2].getD st 0
  | 2 => [1, 0, 2, 1].getD st 0
  | 3 => [1, 2, 0, 1].getD st 0
  | _ => [2, 1, 1, 0].getD st 0

/-- The first sample of a pixel. -/
def Pixel.first (p : Pixel) : Nat := p.getD 0 0

/-- Demosaic at column `x`, line `y` of `w` × `h` black-levelled samples: the own sample for the own colour, the mean of
the samples of each other colour in the 3 × 3 neighbourhood (R257). The origin is even, so local positions have the
frame's sites.
Log 49 (DEDUCED), 92 (DEDUCED). -/
def demosaic (cfa : Nat) (lines : List (List Pixel)) (w h x y : Nat) : List Nat :=
  let at_ := fun (dx dy : Int) =>
    let xx := mirrorIdx w (x + dx)
    let yy := mirrorIdx h (y + dy)
    (siteColour cfa (site xx yy), (((lines.getD yy []).getD xx []) : Pixel).first)
  let nb := [-1, 0, 1].flatMap fun dy => [-1, 0, 1].map fun dx => at_ dx dy
  let own := at_ 0 0
  (List.range 3).map fun q =>
    if own.1 = q then own.2
    else
      let v := nb.filter fun e => e.1 == q
      (v.map (·.2)).sum / v.length

/-- White balance, then the colour matrix (R258). -/
def PixelSet.balance (c : PixelSet) (rgb : List Nat) : List Nat :=
  let wb := (List.range 3).map fun i => clamp16 (rgb.getD i 0 * c.gain.getD i 0 / 4096 : Nat)
  (List.range 3).map fun i =>
    clamp16 (((List.range 3).map fun j => c.ccm.getD (3 * i + j) 0 * (wb.getD j 0 : Int)).sum / 4096)

/-- The luma rule (R258). -/
def lumaOf (rgb : List Nat) : Nat := (77 * rgb.getD 0 0 + 150 * rgb.getD 1 0 + 29 * rgb.getD 2 0) / 256

/-- What passes T2 at a position: R, G, B on the colour path, Y otherwise (R258, R261). -/
def PixelSet.afterMatrix (c : PixelSet) (lines : List (List Pixel)) (w h x y : Nat) : Pixel :=
  let p : Pixel := (lines.getD y []).getD x []
  if c.cfa ≠ 0 then c.balance (demosaic c.cfa lines w h x y)
  else if c.dt = 0x24#6 then (if c.colour then c.balance p else [lumaOf p])
  else [p.first]

/-- Y of what passes T2. -/
def PixelSet.yOf (c : PixelSet) (p : Pixel) : Nat := if c.colourPath then lumaOf p else p.first

/-- The tone curve (R259): the 16-bit result. -/
def PixelSet.toneOf (c : PixelSet) (y : Nat) : Nat :=
  let i := y / 2048
  let k := fun j => ((c.tone.getD j 0 : Nat) : Int)
  clamp16 (k i + (k (i + 1) - k i) * ((y : Int) - 2048 * i) / 2048)

/-- The 8-bit luma of a position. -/
def PixelSet.luma8 (c : PixelSet) (p : Pixel) : Nat := c.toneOf (c.yOf p) / 256

/-- The mean of the 17 × 17 box about a position, mirrored at the edges, rounded down (R260).
Log 49 (DEDUCED). -/
def boxMean (lum : List (List Nat)) (w h x y : Nat) : Nat :=
  let d : List Int := (List.range 17).map fun (i : Nat) => (i : Int) - 8
  (d.flatMap fun dy => d.map fun dx =>
    (lum.getD (mirrorIdx h (y + dy)) []).getD (mirrorIdx w (x + dx)) 0).sum / 289

/-- Binarisation (R260): `true` is dark. -/
def PixelSet.binarise (c : PixelSet) (lum : List (List Nat)) (w h x y : Nat) : Bool :=
  let l := (lum.getD y []).getD x 0
  let b :=
    if l ≤ c.lo then true
    else if c.hi ≤ l then false
    else if c.local_ then decide ((l : Int) < (boxMean lum w h x y : Int) - c.ofs)
    else decide (l < c.fix)
  if c.invert then !b else b

/-- The line delays of Table PP.2 ahead of luma and of binarisation. -/
def PixelSet.lumaDelay (c : PixelSet) : Nat := if c.cfa ≠ 0 then 1 else 0
def PixelSet.binDelay (c : PixelSet) : Nat := if c.local_ then 8 else 0

end Sys2Proof.Machine
end

