-- ==== Sys2Proof/Machine/Pipe.lean ====
section
/-! DEFINITION. The pixel pipeline: slices, tile rows, parameter sets, frame close and raw taps (chapter "Pixel pipeline,
contexts and raw taps"; R281). -/

namespace Sys2Proof.Machine

/-! ### Raw taps -/

/-- Zero padding to a multiple of 4 bytes. -/
def pad4 (b : List Byte) : List Byte := b ++ List.replicate ((4 - b.length % 4) % 4) 0

/-- The parts of CTX.TAP (Table PP.5). -/
def State.tapPoint (s : State) (k : CtxId) : Nat := s.getN (Fld.ctxTap k) % 8
def State.tapDec (s : State) (k : CtxId) : Nat := 2 ^ (s.getN (Fld.ctxTap k) / 32 % 4)
def State.tapDeep (s : State) (k : CtxId) : Bool := s.getB (Fld.ctxTap k) 7
def State.tapSkip (s : State) (k : CtxId) : Nat := s.getN (Fld.ctxTap k) / 2 ^ 14 % 32
def State.tapDest (s : State) (k : CtxId) : Option (BitVec 6) :=
  if s.getB (Fld.ctxTap k) 4 then some (BitVec.ofNat 6 (s.getN (Fld.ctxTap k) / 256)) else none

/-- The tap is enabled at one of T0 to T4. -/
def State.tapEnabled (s : State) (k : CtxId) : Bool := s.getB (Fld.ctxTap k) 3 && decide (s.tapPoint k ≤ 4)

/-- The tap endpoint exists on the strapped and configured function (R270, Table UR.7). -/
def State.tapEndpoint (s : State) : Bool := s.unitOn 5 && decide (s.strap 9 = 3) && s.getB Fld.usbTapEn 0

/-- The destination of a tap can run (R270). -/
def State.tapDestOk (s : State) (d : Option (BitVec 6)) : Bool :=
  match d with
  | none => s.tapEndpoint
  | some _ => s.anyMor

/-- The destination is there now, with ACTIVE high: for USB, the endpoint at SuperSpeed (R270, R358). -/
def State.tapDestLive (s : State) (d : Option (BitVec 6)) : Bool :=
  s.tapDestOk d && s.activeLevel && (d.isSome || (s.usb.attached && decide (s.usb.speed = 3)))

/-- Bytes in the tap queue. -/
def State.tapLevel (s : State) : Nat := (s.usb.taps.map fun p => p.bytes.length).sum

/-- A tap packet (Table UR.8). -/
def tapPacket (kind : Nat) (k : CtxId) (point : Nat) (deep : Bool) (dec : Nat) (trunc : Bool) (fidx : Word)
    (line pixels : Nat) (payload : List Byte) : List Byte :=
  [BitVec.ofNat 8 kind, BitVec.ofNat 8 k.val,
   BitVec.ofNat 8 (point + (if deep then 8 else 0) + 16 * dec), if trunc then 1 else 0]
    ++ leBytes 4 fidx.toNat ++ leBytes 2 line ++ leBytes 2 pixels ++ leBytes 4 payload.length ++ pad4 payload

/-- A packet of the tap of frame `f`. -/
def State.tapBytes (s : State) (f : Frame) (kind : Nat) (trunc : Bool) (line pixels : Nat) (payload : List Byte) :
    List Byte :=
  let k := f.ctx
  tapPacket kind k (s.tapPoint k) (s.tapDeep k) (s.getN (Fld.ctxTap k) / 32 % 4) trunc (f.fidx.getD 0) line pixels
    payload

/-- A packet enters the tap queue. -/
def State.tapPush (s : State) (f : Frame) (b : List Byte) : State :=
  ({ s with usb := { s.usb with taps := s.usb.taps ++ [TapPkt.mk (s.tapDest f.ctx) f.ctx false b] } } : State).tapPump

/-- The rest of a frame's tap data is dropped: a frame end with the truncated mark, and the count (R271). -/
def State.tapCut (s : State) (id : Nat) : State :=
  match s.frame? id with
  | none => s
  | some f =>
    if !f.tapOn then s
    else
      let s1 := (s.updFrame id fun f => { f with tapOn := false }).count16 (Fld.ctxTapDropCount f.ctx)
      if f.tapStarted then s1.tapPush f (s1.tapBytes f 3 true 0 0 []) else s1

/-- Every tap frame in progress to a destination that `sel` picks is cut (R271). -/
def State.tapsGone (s : State) (sel : Option (BitVec 6) → Bool) : State :=
  (s.frames.filter fun f => f.tapOn && sel (s.tapDest f.ctx)).foldl (fun s f => s.tapCut f.id) s

/-- A tap packet is a frame end, and one with the truncated mark (Table UR.8). -/
def TapPkt.ends (x : TapPkt) : Bool := decide (x.bytes.headD 0 = 3#8)
def TapPkt.cut (x : TapPkt) : Bool := (x.bytes.getD 3 0).getLsbD 0

/-- A frame whose data is dropped keeps its frame end alone, with the truncated mark. -/
def TapPkt.truncate (x : TapPkt) : TapPkt := { x with bytes := x.bytes.set 3 (x.bytes.getD 3 0 ||| 1#8) }

/-- The destinations that `sel` picks go away: every tap frame in progress to them is cut, and of the packets not yet sent only
the frame ends stay, with the truncated mark; a frame that had ended whole is counted now (R271, R365). -/
def State.tapsLost (s : State) (sel : Option (BitVec 6) → Bool) : State :=
  let s1 := s.tapsGone sel
  let whole := s1.usb.taps.filter fun x => sel x.dest && x.ends && !x.cut
  let kept := (s1.usb.taps.filter fun x => !sel x.dest || x.ends).map fun x => if sel x.dest then x.truncate else x
  whole.foldl (fun (s : State) (x : TapPkt) => if x.forwarded then s else s.count16 (Fld.ctxTapDropCount x.ctx))
    { s1 with usb := { s1.usb with taps := kept } }

/-- Every `d`-th element, the first included. -/
def everyNth {α : Type} (d : Nat) (l : List α) : List α :=
  (l.zipIdx.filter fun e => e.2 % d == 0).map (·.1)

/-- One line of samples at a tap point as bytes (Table PP.3). -/
def tapSamples (point : Nat) (deep : Bool) (px : List Pixel) : List Byte :=
  if point = 4 then
    (List.range ((px.length + 7) / 8)).map fun j =>
      BitVec.ofNat 8 (((List.range 8).map fun i => ((px.getD (8 * j + i) []) : Pixel).first % 2 * 2 ^ i).sum)
  else if point = 3 then px.flatMap fun p => [BitVec.ofNat 8 p.first]
  else px.flatMap fun p => p.flatMap fun v => if deep then leBytes 2 v else [BitVec.ofNat 8 (v / 256)]

/-- The frame start packet's payload; the height of a frame still arriving is not stated, so a free value.
Log 38 (DESIGN CHOICE). -/
def State.tapStartPayload (s : State) (f : Frame) (w : Nat) : List Byte :=
  let t0 := decide (s.tapPoint f.ctx = 0)
  leBytes 8 f.ts ++ leBytes 2 w ++ leBytes 2 (Config.freeWord s.fresh).toNat
    ++ leBytes 2 (if t0 then 0 else f.rx0) ++ leBytes 2 (if t0 then 0 else f.ry0)

/-- Line `l` of the tap's extent, of frame `id`, passes point `point`. -/
def State.tapLine (s : State) (id point l : Nat) (px : List Pixel) : State :=
  match s.frame? id with
  | none => s
  | some f =>
    let d := s.tapDec f.ctx
    if !f.tapOn || decide (s.tapPoint f.ctx ≠ point) || decide (l % d ≠ 0) then s
    else if f.tapStarted = false ∧ (f.fidx.getD 0).toNat % (s.tapSkip f.ctx + 1) ≠ 0 then
      s.updFrame id fun f => { f with tapOn := false }
    else if !s.tapDestLive (s.tapDest f.ctx) then s.tapCut id
    else
      let cut := everyNth d px
      let head := if f.tapStarted then [] else
        s.tapBytes f 1 false 0 0 (s.tapStartPayload f cut.length)
      let line := s.tapBytes f 2 false f.tapLines cut.length (tapSamples point (s.tapDeep f.ctx) cut)
      if 512 * 1024 < s.tapLevel + head.length + line.length then s.tapCut id
      else
        let s1 := if f.tapStarted then s else { s.tapPush f head with fresh := s.fresh + 1 }
        (s1.tapPush f line).updFrame id fun f => { f with tapStarted := true, tapLines := f.tapLines + 1 }

/-- The tap of a closing frame ends; one whose destination has gone away since its last line is cut (R271). -/
def State.tapEnd (s : State) (id : Nat) : State :=
  match s.frame? id with
  | none => s
  | some f =>
    if f.tapOn && f.tapStarted && !s.tapDestLive (s.tapDest f.ctx) then s.tapCut id
    else
    let s1 := s.updFrame id fun f => { f with tapOn := false }
    if f.tapOn && f.tapStarted then s1.tapPush f (s1.tapBytes f 3 false 0 0 []) else s1

/-! ### Tile rows -/

/-- Slots held by a context, and slots in use. -/
def State.slotsOf (s : State) (k : CtxId) : Nat := ((s.frames.filter fun f => f.ctx == k).map fun f => f.slots.length).sum
def State.slotsUsed (s : State) : List Nat := s.frames.flatMap (·.slots)

/-- The first `n` free slots, by number.
Log 53 (DEDUCED). -/
def State.freeSlots (s : State) (n : Nat) : List Nat :=
  ((List.range 21760).filter fun i => !(s.slotsUsed.contains i || s.dec.retired.contains i)).take n

/-- Free slots (DEC.SLOTS_FREE). -/
def State.slotsFree (s : State) : Nat := 21760 - s.slotsUsed.length - s.dec.retired.length

/-- TRUNCATED happens for a frame of a context (R242, R281). -/
def State.truncatedEvent (s : State) : State := s.raise 2 35

/-- The first damaged or truncated frame since boot may freeze the black box (R499, Table BB.3). -/
def State.firstMark (s : State) : State :=
  if s.bb.firstMarked then s else ({ s with bb := { s.bb with firstMarked := true } }).freezeIf 0x16#8 [6] 4

/-- Luma and bit of a pixel of tile (`u`, `v`), column `x` and line `y` of the tile: the tile grid starts at the region origin,
and what lies beyond the planes at the right or bottom edge is padding, luma 0xFF and bit 0 (R263). -/
def Frame.tilePixel (f : Frame) (u v x y : Nat) : Nat × Bool :=
  ((((f.luma[32 * v + y]?).getD [])[32 * u + x]?).getD 0xFF, (((f.bits[32 * v + y]?).getD [])[32 * u + x]?).getD false)

/-- The luma plane and the binarised plane of a tile, line by line (R263, R280). -/
def Frame.tileLuma (f : Frame) (u v : Nat) : List (List Nat) :=
  (List.range 32).map fun y => (List.range 32).map fun x => (f.tilePixel u v x y).1
def Frame.tileBits (f : Frame) (u v : Nat) : List (List Bool) :=
  (List.range 32).map fun y => (List.range 32).map fun x => (f.tilePixel u v x y).2

/-- The lengths of the runs of equal bits, from the first on. -/
def runLengths : List Bool → List Nat
  | [] => []
  | b :: r => match runLengths r with
    | [] => [1]
    | n :: l => if r.head? = some b then (n + 1) :: l else 1 :: n :: l

/-- The polarity searched, 3 acting as 2, and the least contrast, at least 20 (Table LD.10). -/
def Frame.polarity (f : Frame) : Nat := min 2 f.pol.toNat
def Frame.leastContrast (f : Frame) : Nat := max 20 f.minContrast.toNat

/-- The evidence of a tile (R277): signatures of the symbologies searched, contrast and polarity judged by the frame's set.
Log 115 (DESIGN CHOICE). -/
def Frame.tileEvidence (f : Frame) (u v : Nat) : TileEvidence :=
  let l := f.tileLuma u v
  let b := f.tileBits u v
  ⟨Config.orientations l, Config.edgeDensity l, b.map runLengths,
   ((List.range 32).map fun x => runLengths (b.map fun line => line.getD x false)),
   Config.signatures l b f.leastContrast f.polarity &&& f.symEn⟩

/-- The tile rows of frame `id` that have become complete are analysed, while the locator runs; at the close the last row
counts as complete (R263, R277). -/
def State.gatherEvidence (s : State) (id : Nat) (closing : Bool) : State :=
  let on := s.enabledAt Fld.locEnable
  s.updFrame id fun f =>
    let whole := (f.bits.length + (if closing then 31 else 0)) / 32
    let row := fun (v : Nat) => if on then (List.range ((f.rx1 + 1 - f.rx0 + 31) / 32)).map fun u => f.tileEvidence u v else []
    { f with evidence := f.evidence ++ ((List.range whole).drop f.evidence.length).map row }

/-- A tile row of frame `id` begins: one slot for each of its tiles, or, where the store or the cap cannot cover the
row, neither that row nor a later one; TRUNCATED happens then where the frame has closed already (R281).
Log 53 (DEDUCED). -/
def State.tileRow (s : State) (id : Nat) : State :=
  match s.frame? id with
  | none => s
  | some f =>
    let n := (f.rx1 + 1 - f.rx0 + 31) / 32
    if f.full || !s.enabledAt Fld.decEnable then s
    else if s.slotsFree < n ∨ s.getN (Fld.decTileCap f.ctx.val) < s.slotsOf f.ctx + n then
      let s1 := ((s.updFrame id fun f => { f with full := true, truncated := true }).count16 Fld.decStoreFullCount).bbEvent
        0x09#7 (BitVec.ofNat 8 f.ctx.val) 0x0001#16 (f.fidx.getD 0)
      if f.closed && !f.truncated then s1.truncatedEvent.firstMark else s1
    else s.updFrame id fun g => { g with rows := g.rows + 1, slots := g.slots ++ s.freeSlots n }

/-! ### Lines -/

/-- Luma line `r` of the region from its black-levelled lines. -/
def lumaLine (c : PixelSet) (blk : List (List Pixel)) (w r : Nat) : List Nat :=
  (List.range w).map fun x => c.luma8 (c.afterMatrix blk w blk.length x r)

/-- Binarised line `r` from the luma lines. -/
def binLine (c : PixelSet) (lum : List (List Nat)) (w r : Nat) : List Bool :=
  (List.range w).map fun x => c.binarise lum w lum.length x r

/-- One more luma line of frame `id`, with T2 and T3. -/
def State.produceLuma (s : State) (id : Nat) (r : Nat) : State :=
  match s.frame? id with
  | none => s
  | some f =>
    let c := s.pixelSet f.ctx
    let w := f.rx1 + 1 - f.rx0
    let t2 := (List.range w).map fun x => c.afterMatrix f.blk w f.blk.length x r
    let l := lumaLine c f.blk w r
    ((s.updFrame id fun f => { f with luma := f.luma ++ [l] }).tapLine id 2 r t2).tapLine id 3 r (l.map fun v => [v])

/-- One more binarised line, with T4; the first line of a tile row takes the row's slots (R281). -/
def State.produceBin (s : State) (id : Nat) (r : Nat) : State :=
  match s.frame? id with
  | none => s
  | some f =>
    let b := binLine (s.pixelSet f.ctx) f.luma (f.rx1 + 1 - f.rx0) r
    let s1 := if r % 32 = 0 then s.tileRow id else s
    (s1.updFrame id fun f => { f with bits := f.bits ++ [b] }).tapLine id 4 r (b.map fun v => [if v then 1 else 0])

/-- The lines that the delays of Table PP.2 let out; all of them once the frame closes (R266). -/
def State.produce (s : State) (id : Nat) (closing : Bool) : State :=
  match s.frame? id with
  | none => s
  | some f =>
    let c := s.pixelSet f.ctx
    let nl := if closing then f.blk.length else f.blk.length - c.lumaDelay
    let s1 := ((List.range nl).drop f.luma.length).foldl (fun s r => s.produceLuma id r) s
    let nb := if closing then nl else nl - c.binDelay
    (((List.range nb).drop f.bits.length).foldl (fun s r => s.produceBin id r) s1).gatherEvidence id closing

/-- A whole line has passed the pipeline input: region cut, black level, taps T0 and T1, and what the delays let out
(R254 to R266). -/
def State.lineIn (s : State) (id : Nat) (px : List Pixel) : State :=
  match s.frame? id with
  | none => s
  | some f =>
    let y := f.y
    let w := px.length
    let x1 := if y = 0 then min f.rx1 (w - 1) else f.rx1
    let s1 := (s.updFrame id fun f => { f with y := y + 1, rx1 := if w = 0 then 0 else x1 }).tapLine id 0 y px
    if f.rx0 ≤ x1 ∧ f.rx0 < w ∧ f.ry0 ≤ y ∧ y ≤ f.ry1 then
      let c := s.pixelSet f.ctx
      let cut := ((px.drop f.rx0).take (x1 + 1 - f.rx0)).zipIdx.map fun e => c.black (f.rx0 + e.2) y e.1
      ((s1.updFrame id fun f => { f with blk := f.blk ++ [cut] }).tapLine id 1 (y - f.ry0) cut).produce id false
    else s1

/-! ### Markers -/

/-- The region of CTX.ROI_X and CTX.ROI_Y, with even origins on Bayer (R262). -/
def State.region (s : State) (k : CtxId) : Nat × Nat × Nat × Nat :=
  let x := s.getN (Fld.ctxRoiX k)
  let y := s.getN (Fld.ctxRoiY k)
  let even := fun v => if (s.pixelSet k).cfa ≠ 0 then v - v % 2 else v
  (even (x % 8192), x / 65536 % 8192, even (y % 8192), y / 65536 % 8192)

/-- FS_Kn and FE_Kn (Table TW.8): the Verdict trowel's, and for a Frame Start the Light trowel's. -/
def State.fsEvent (s : State) (k : CtxId) : State := (s.raise 2 (16 + k.val)).raise 0 (32 + k.val)
def State.feEvent (s : State) (k : CtxId) : State := s.raise 2 (24 + k.val)

/-- A Frame Start marker at the pipeline input: the set "context kn" applies, FS_Kn happens, the tap of the frame is
decided (R262, R267, R270).
Log 47 (DESIGN CHOICE), 52 (DEDUCED). -/
def State.startFrame (s : State) (id : Nat) : State :=
  match s.frame? id with
  | none => s
  | some f =>
    if f.closed || f.started then s
    else
      let k := f.ctx
      let s1 := (s.applyBoundary (·.set == .ctx k)).fsEvent k
      let (x0, x1, y0, y1) := s1.region k
      let want := s1.tapEnabled k && s1.activeLevel
      let ok := s1.tapDestOk (s1.tapDest k)
      let s2 := s1.updFrame id fun f =>
        { f with started := true, rx0 := x0, rx1 := x1, ry0 := y0, ry1 := y1, tapOn := want && ok,
                 candMax := max 1 (min 1024 (s1.getN (Fld.locCandMax k.val))),
                 symEn := (s1.getF (Fld.locSymEn k.val)).setWidth 7, pol := (s1.getF (Fld.locPol k.val)).setWidth 2
                 minContrast := (s1.getF (Fld.locMinContrast k.val)).setWidth 8
                 modMin := (s1.getF (Fld.locModMin k.val)).setWidth 16
                 modMax := (s1.getF (Fld.locModMax k.val)).setWidth 16 }
      let s3 := { s2 with ctxs := s2.ctxs.set k.val { s2.ctxs[k] with tapBlocked := want && !ok } k.isLt }
      if want && !ok then s3.bbEvent 0x08#7 (BitVec.ofNat 8 k.val) 0x0004#16 (s3.getF (Fld.ctxTap k)) else s3

/-- The lines that the delays still hold are produced, and the tap of the frame ends (R266). -/
def State.flushFrame (s : State) (id : Nat) : State := (s.produce id true).tapEnd id

/-- A frame's close at the pipeline input: FE_Kn with the events of its marks, counts and sizes, then the delayed lines
(R242, R245, R266). -/
def State.closeFrame (s : State) (id : Nat) : State :=
  match s.frame? id with
  | none => s
  | some f =>
    if f.closed then s
    else
      let k := f.ctx
      let s1 := s.updFrame id fun f => { f with closed := true }
      let s2 := ((s1.setN (Fld.ctxFrameW k) (f.width.getD 0)).setN (Fld.ctxFrameH k) f.y).feEvent k
      let s3 := if f.damaged then (s2.count16 (Fld.ctxDamagedCount k)).raise 2 34 else s2
      let s4 := if f.truncated then (s3.count16 (Fld.ctxTruncCount k)).truncatedEvent else s3
      let s5 := if f.overloaded then s4.raise 2 36 else s4
      (if f.damaged || f.truncated then s5.firstMark else s5).flushFrame id

/-- A frame marker at the pipeline input: the frame starts; one whose context was turned off before its marker arrived
closes at once (R268).
Log 50 (DEDUCED). -/
def State.frameIn (s : State) (id : Nat) : State :=
  let s1 := s.startFrame id
  match s.frame? id with
  | none => s1
  | some f => if f.dropping && !f.overloaded then s1.closeFrame id else s1

/-- A frame of a context that is turned off: an open one closes at the pipeline input as truncated; one whose marker has
not arrived there does so with its marker (R268).
Log 50 (DEDUCED). -/
def State.endFrame (s : State) (f : Frame) : State :=
  let s1 := (s.markTruncated [f.id]).updPort f.port fun x =>
    { x with openVc := x.openVc.map fun e => (e.1, e.2.filter (· != f.id)) }
  if f.started then s1.closeFrame f.id
  else (s1.updFrame f.id fun f => { f with dropping := true }).bufPush f.port [.close f.id]

/-- The port has a slice to serve: a marker, or pixels of a line of a frame that has its index (R264).
Log 52 (DEDUCED). -/
def State.servable (s : State) (p : PortId) : Bool :=
  match s.ports[p].buf with
  | [] => false
  | .line id _ _ :: _ => ((s.frame? id).map fun f => f.closed || f.fidx.isSome).getD true
  | _ :: _ => true

/-- The port that the pipeline input serves next: the first servable one, round-robin from the one after the last served
(R264). -/
def State.nextPort (s : State) : Option PortId :=
  ((List.finRange 4).map fun (i : PortId) => s.pipe.turn + i).find? s.servable

/-- A port gives its next slice: a marker, or up to 64 pixels of a line (R264).
Log 52 (DEDUCED). -/
def State.serve (s : State) (p : PortId) : State :=
  match s.ports[p].buf with
  | [] => s
  | item :: r =>
    let s1 := s.updPort p fun x => { x with buf := r }
    match item with
    | .fs ids => ids.foldl State.frameIn s1
    | .fe ids => ids.foldl State.closeFrame s1
    | .close id => s1.closeFrame id
    | .emb _ => s1
    | .line id b taken =>
      match s.frame? id with
      | none => s1
      | some f =>
        if f.closed then s1
        else if f.fidx.isNone then s
        else
          let px := unpackLine f.dt (f.width.getD 0) b
          let n := min 64 (px.length - taken)
          let s2 := s1.countWrap (Fld.ctxPixCount f.ctx) n
          if taken + n < px.length then
            s2.updPort p fun x => { x with buf := .line id b (taken + n) :: r }
          else s2.lineIn id px

/-- PIPELINE_SLICE: the pipeline takes the next slice of the port whose turn it is (R264). -/
def execPipelineSlice (p : PortId) (s : State) : Host.Outcome State Fault Refusal :=
  .next (if s.nextPort ≠ some p then s else ({ s with pipe := ⟨p + 1⟩ } : State).serve p)

/-- A field write of the CTX unit that takes effect: CTX.ENABLE starts the context, with the events of R235 and R261,
or closes its open frame as truncated (R268) and lets the pending writes of its set take effect, those of LOC among them
(R115). -/
def State.ctxNow (s : State) (a : Nat) (v : Word) : State :=
  let k : CtxId := Fin.ofNat 8 ((a - 0x4800) / 0x100)
  let was := s.enabledAt (Fld.ctxEnable k)
  let s1 := s.setF a v
  if a ≠ Fld.ctxEnable k then s1
  else if v.getLsbD 0 then
    if was then s1
    else
      let alike := s1.bindAlike k
      let s2 := match alike.head? with
        | some j => if 2 ≤ alike.length ∧ s1.badBinding k = false then
            s1.bbEvent 0x08#7 (BitVec.ofNat 8 k.val) 0x0001#16 (BitVec.ofNat 32 j.val) else s1
        | none => s1
      let s3 := if s1.badBinding k then
          s2.bbEvent 0x08#7 (BitVec.ofNat 8 k.val) 0x0002#16 (s2.getF (Fld.ctxSrc k)) else s2
      let cfa := s1.getN (Fld.ctxCfa k)
      if decide (s.identity.variant = .evr8440)
          && ((decide (1 ≤ cfa) && decide (cfa ≤ 4)) || s1.srcType k == 0x24#6) then
        s3.bbEvent 0x08#7 (BitVec.ofNat 8 k.val) 0x0003#16 (s3.getF (Fld.ctxCfa k))
      else s3
  else
    let mine := s1.frames.filter fun f => f.ctx == k && !f.closed
    mine.foldl State.endFrame (s1.applyPending (·.set == .ctx k))

/-- CTX.STATUS (Table PP.5), as bits from 0. -/
def State.ctxStatusBits (s : State) (k : CtxId) : List Bool :=
  let on := s.enabledAt (Fld.ctxEnable k)
  [s.frames.any fun f => f.ctx == k && f.started && !f.closed, on, on && (s.pixelSet k).colourPath,
   s.frames.any fun f => f.ctx == k && f.tapOn && f.tapStarted, s.ctxs[k].tapBlocked]

end Sys2Proof.Machine
end

