-- ==== Sys2Proof/Machine/Geometry.lean ====
section
/-! DEFINITION. Plane geometry in frame coordinates: outlines and their overlap, perspective mappings, angles (chapter "Locating
and decoding codes and Graga targets", R276, R278, R285, R295, R296). Coordinates are in 1/16 px. -/

namespace Sys2Proof.Machine

/-! ### Outlines -/

/-- Least and greatest of a list of coordinates. -/
def leastOf (l : List Int) : Int := l.foldl min (l.getD 0 0)
def mostOf (l : List Int) : Int := l.foldl max (l.getD 0 0)

/-- The bounding box of an outline: least x and y, greatest x and y. -/
def boxOf (q : List Pt) : Int × Int × Int × Int :=
  (leastOf (q.map (·.1)), leastOf (q.map (·.2)), mostOf (q.map (·.1)), mostOf (q.map (·.2)))

/-- The sides of an outline, each as its two ends. -/
def sidesOf {α : Type} (o : List α) : List (α × α) := o.zip (o.drop 1 ++ o.take 1)

/-- Two convex outlines meet: no edge normal of either separates them.
Log 56 (DEDUCED). -/
def outlinesMeet (p q : List Pt) : Bool :=
  let normals := fun (o : List Pt) => (sidesOf o).map fun e => (e.2.2 - e.1.2, e.1.1 - e.2.1)
  let proj := fun (o : List Pt) (n : Int × Int) => o.map fun v => v.1 * n.1 + v.2 * n.2
  (normals p ++ normals q).all fun n =>
    decide (leastOf (proj q n) ≤ mostOf (proj p n)) && decide (leastOf (proj p n) ≤ mostOf (proj q n))

/-- Twice the signed area of an outline: positive where the corners run clockwise as displayed (R276). -/
def twiceArea (o : List Pt) : Int := ((sidesOf o).map fun e => e.1.1 * e.2.2 - e.2.1 * e.1.2).sum

/-- A point with exact coordinates. -/
abbrev RatPt := Rat × Rat

/-- Twice the signed area of an outline with exact coordinates. -/
def twiceAreaRat (o : List RatPt) : Rat := ((sidesOf o).map fun e => e.1.1 * e.2.2 - e.2.1 * e.1.2).sum

/-- An outline with exact coordinates. -/
def exactly (o : List Pt) : List RatPt := o.map fun v => ((v.1 : Rat), (v.2 : Rat))

/-- On which side of the line from `a` to `b` a point lies: positive to its right as displayed. -/
def sideOf (a b v : RatPt) : Rat := (b.1 - a.1) * (v.2 - a.2) - (b.2 - a.2) * (v.1 - a.1)

/-- The part of an outline on the right of the line from `a` to `b`. -/
def clipBy (a b : RatPt) (o : List RatPt) : List RatPt :=
  (sidesOf o).flatMap fun e =>
    let d := sideOf a b e.1
    let g := sideOf a b e.2
    let cut : RatPt := (e.1.1 + (e.2.1 - e.1.1) * (d / (d - g)), e.1.2 + (e.2.2 - e.1.2) * (d / (d - g)))
    if 0 ≤ d then (if 0 ≤ g then [e.2] else [cut]) else (if 0 ≤ g then [cut, e.2] else [])

/-- The corners of a convex outline, clockwise as displayed. -/
def clockwise (o : List RatPt) : List RatPt := if twiceAreaRat o < 0 then o.reverse else o

/-- Twice the area that two convex outlines share.
Log 56 (DEDUCED). -/
def sharedArea (p q : List Pt) : Rat :=
  twiceAreaRat ((sidesOf (clockwise (exactly q))).foldl (fun o e => clipBy e.1 e.2 o) (clockwise (exactly p)))

/-- The outlines overlap by more than half of the smaller (R278).
Log 56 (DEDUCED). -/
def sameSymbol (p q : List Pt) : Bool :=
  decide (((min (twiceArea p).natAbs (twiceArea q).natAbs : Nat) : Rat) < 2 * sharedArea p q)

/-- A point lies within a convex outline, its sides included. -/
def within (o : List RatPt) (v : RatPt) : Bool := (sidesOf (clockwise o)).all fun e => decide (0 ≤ sideOf e.1 e.2 v)

/-! ### Perspective -/

/-- A perspective mapping: the nine coefficients, row by row, of (x, y, 1) ↦ (X, Y, W), the image being (X/W, Y/W). -/
structure Perspective where
  a : Rat
  b : Rat
  c : Rat
  d : Rat
  e : Rat
  f : Rat
  g : Rat
  h : Rat
  i : Rat
  deriving DecidableEq, Repr

/-- The image of a point, `none` where it lies at infinity. -/
def Perspective.image (m : Perspective) (v : RatPt) : Option RatPt :=
  let w := m.g * v.1 + m.h * v.2 + m.i
  if w = 0 then none else some ((m.a * v.1 + m.b * v.2 + m.c) / w, (m.d * v.1 + m.e * v.2 + m.f) / w)

/-- The mapping that takes the unit square, from its origin corner clockwise, to four corners (R285): the one perspective mapping
that does. -/
def Perspective.ofCorners (q : List Pt) : Perspective :=
  let p := fun (j : Nat) => q.getD j (0, 0)
  let x := fun (j : Nat) => (((p j).1 : Int) : Rat)
  let y := fun (j : Nat) => (((p j).2 : Int) : Rat)
  let dx1 := x 1 - x 2
  let dx2 := x 3 - x 2
  let dx3 := x 0 - x 1 + x 2 - x 3
  let dy1 := y 1 - y 2
  let dy2 := y 3 - y 2
  let dy3 := y 0 - y 1 + y 2 - y 3
  let den := dx1 * dy2 - dx2 * dy1
  let g := dx3 * dy2 - dx2 * dy3
  let h := dx1 * dy3 - dx3 * dy1
  ⟨den * (x 1 - x 0) + g * x 1, den * (x 3 - x 0) + h * x 3, den * x 0,
   den * (y 1 - y 0) + g * y 1, den * (y 3 - y 0) + h * y 3, den * y 0, g, h, den⟩

/-- The inverse mapping, up to a factor. -/
def Perspective.inverse (m : Perspective) : Perspective :=
  ⟨m.e * m.i - m.f * m.h, m.c * m.h - m.b * m.i, m.b * m.f - m.c * m.e,
   m.f * m.g - m.d * m.i, m.a * m.i - m.c * m.g, m.c * m.d - m.a * m.f,
   m.d * m.h - m.e * m.g, m.b * m.g - m.a * m.h, m.a * m.e - m.b * m.d⟩

/-- A value rounded to one of its two neighbours, by a free choice where it lies between them.
Log 58 (DEDUCED). -/
def nearWhole (v : Rat) : Int := if Config.roundUp v && decide ((v.floor : Rat) ≠ v) then v.floor + 1 else v.floor

/-! ### Angles and roots -/

/-- The unit vector at `n` times 0.6°, scaled by 10¹⁵, by repeated turning. -/
def turn : Nat → Int × Int
  | 0 => (1000000000000000, 0)
  | n + 1 =>
    let (x, y) := turn n
    ((x * 999945169365512 - y * 10471784116245) / 1000000000000000,
     (x * 10471784116245 + y * 999945169365512) / 1000000000000000)

/-- A vector lies between the directions `a` and `b`, in units of 0.6° and less than 180° apart, measured from +x towards +y. -/
def between (a b : Nat) (v : RatPt) : Bool :=
  let d := turn a
  let g := turn b
  decide (0 ≤ (d.1 : Rat) * v.2 - (d.2 : Rat) * v.1) && decide (0 ≤ v.1 * (g.2 : Rat) - v.2 * (g.1 : Rat))

/-- The whole square root of `n`, from `k` binary digits on down, `r` found so far. -/
def rootBits (n : Nat) : Nat → Nat → Nat
  | 0, r => r
  | k + 1, r => rootBits n k (if (r + 2 ^ k) * (r + 2 ^ k) ≤ n then r + 2 ^ k else r)

/-- The square root of a number of at least 0, rounded down to a multiple of 2⁻²⁰. -/
def rootOf (v : Rat) : Rat := mkRat (rootBits (v * 2 ^ 40).floor.toNat 64 0) (2 ^ 20)

/-- Twice the mean of the semi-axes of the ellipse that a mapping makes of the unit circle (R296), `none` where the image is no
ellipse. -/
def Perspective.axesSum (m : Perspective) : Option Rat :=
  let n := m.inverse
  let q := fun (x y z u v w : Rat) => x * u + y * v - z * w
  let aa := q n.a n.d n.g n.a n.d n.g
  let ab := q n.a n.d n.g n.b n.e n.h
  let ac := q n.a n.d n.g n.c n.f n.i
  let bb := q n.b n.e n.h n.b n.e n.h
  let bc := q n.b n.e n.h n.c n.f n.i
  let cc := q n.c n.f n.i n.c n.f n.i
  let d2 := aa * bb - ab * ab
  let d3 := aa * (bb * cc - bc * bc) - ab * (ab * cc - bc * ac) + ac * (ab * bc - bb * ac)
  if d2 ≤ 0 then none
  else
    let squares := -d3 * (aa + bb) / (d2 * d2)
    let product := rootOf (d3 * d3 / (d2 * d2 * d2))
    some (rootOf (squares + 2 * product))

end Sys2Proof.Machine
end

