-- ==== Sys2Proof/WellFormed.lean ====
section
/-! DEFINITION. Well-formed commands: the lengths and ranges of the operands that the operand types leave open. The
meanings are total and do not rest on these checks; a command that fails one is no happening of the spec. -/

namespace Sys2Proof

/-- Twenty straps with the voltages of the eight sampling instants (R71, R73); a B0 part takes four of them. -/
def strapReadingsWf (l : List (List Nat)) : Bool :=
  decide (l.length = 20) && l.all (fun (r : List Nat) => decide (r.length = 8))

/-- A 32-byte key digest (R82). -/
def otpWf (x : Option OtpContent) : Bool :=
  match x with
  | some c => decide (c.keyDigest.length = 32)
  | none => true

/-- Gain codes of a converter: five on ADC-A, three on ADC-B (R195). -/
def gainCodes (c : Conv) : Nat := match c with | .a => 5 | .b => 3

/-- Four corners (R278), at a symbology of Table LD.1. -/
def CandInfo.wf (x : CandInfo) : Bool := decide (x.corners.length = 4)

/-- A block whose codewords lie within the grid and match the corrected ones in number. -/
def RsBlock.wf (b : RsBlock) (n : Nat) : Bool :=
  decide (b.words.length = b.value.length) && b.words.all fun w => w.all fun i => decide (i < n)

/-- Four corners, at least one module, blocks within the grid, and ECI numbers of six digits (R285, R286). -/
def GridRead.wf (g : GridRead) : Bool :=
  decide (g.corners.length = 4) && decide (0 < g.cols) && decide (0 < g.rows)
    && g.blocks.all (fun b => b.wf (g.cols * g.rows))
    && g.tokens.all fun t => match t with
      | .eci n => decide (n < 1000000)
      | _ => true

/-- Four corners of what a core has established. -/
def DecodeOutcome.wf (o : DecodeOutcome) : Bool :=
  match o with
  | .failed => true
  | .grid g => g.wf
  | .graga r => decide (r.corners.length = 4)

/-- Words of the tile store: 21 760 slots of 144 words, and 96 KiB of records (R280). -/
def storeWords : Nat := 21760 * 144 + 12288

/-- The levels of ST0 to ST19 (R427). -/
def HelloMsg.wf (h : HelloMsg) : Bool := decide (h.straps.length = 20)

/-- Eight groups (R186). -/
def LightMark.wf (m : LightMark) : Bool :=
  decide (m.armed.length = 8) && decide (m.levels.length = 8) && decide (m.failed.length = 4)

/-- Sixteen accumulators of each converter and sixteen estimates (Table BP.2). -/
def SenseMark.wf (m : SenseMark) : Bool :=
  decide (m.accA.length = 16) && decide (m.accB.length = 16)

/-- A payload of at most 4096 bytes (R455). -/
def LinkItem.wf (x : LinkItem) : Bool :=
  match x with
  | .msg m => decide (m.payload.length ≤ 4096)
  | .announce a => decide (a.peers.length = 4)

/-- A command as the spec lets it occur: every list operand has the length its rule gives, and every number its range. The
operands whose types hold every legal value and no other need no check. -/
def Instr.wf (i : Instr) : Bool :=
  match i with
  | .strapSample readings =>
    strapReadingsWf readings
  | .otpLoad content =>
    otpWf content
  | .selfCalibrationDone c _ factors failed =>
    match failed with
    | none => decide (factors.length = gainCodes c)
    | some g => decide (g < gainCodes c)
  | .faultSample _ readings =>
    decide (readings.length = 16) && readings.all (fun r => decide (r ≤ 1500000))
  | .zeroCurrentCheck _ level _ =>
    decide (level ≤ 1500000)
  | .conversionEnd c raw =>
    (match c with | .a => decide (raw < 16384) | .b => decide (raw < 4096))
  | .frameDescriptorInCore _ mbps =>
    decide (80 ≤ mbps) && decide (mbps ≤ 4500)
  | .pixelPacket _ x =>
    decide (x.payload.length < 65536)
  | .embeddedPacket _ x =>
    decide (x.payload.length < 65536)
  | .candidateArrival _ _ x =>
    x.wf
  | .decodeResolved _ out reads =>
    out.wf && reads.all fun r => decide (r.1 < storeWords)
  | .pairHello h =>
    h.wf
  | .pairDecision _ _ rec2 =>
    decide (12 ≤ rec2.length)
  | .pairRecord rec2 =>
    decide (12 ≤ rec2.length)
  | .pairLightMark x =>
    x.wf
  | .pairSenseMark x =>
    x.wf
  | .pairFault _ cause =>
    decide (1 ≤ cause) && decide (cause ≤ 5)
  | .pairResyncEnd c =>
    c.light.wf && c.sense.wf
  | .linkFrame _ _ x _ =>
    x.wf
  | .recipeLoadDone flash =>
    flash.all (fun (x : List Byte) => decide (x.length ≤ 262144))
  | .pwrOkRise | .pwrOkLow | .resetNLow | .resetNRise | .sfdpRead _ | .signatureCheckDone
  | .trowelStart _ | .bootNeighbourTestDone | .fabricDiscoveryDone | .pairHandshakeEnd | .readyRise | .xrefLoss
  | .vddAonLoss | .slowClockWindowEnd _ | .slowClockEdgeTimeout | .scnLatchRise _ | .sceneChangeTimeout
  | .sceneDoneWrite _ _ | .sleepReqRise | .sleepGoWrite _ _ | .sleepAckWrite _ _ | .sleepGraceExpiry
  | .sleepDecodeDrained | .wakeRise | .sleepAddressMatch _ | .wakeXrefStable _ | .wakeResume | .thermalSample _
  | .freezeNFall | .bbEventWrite | .ltEnFall | .ltEnRise | .add _ _ _ _ | .sub _ _ _ _ | .and _ _ _ _ | .or _ _ _ _
  | .xor _ _ _ _ | .shl _ _ _ _ | .shr _ _ _ _ | .sar _ _ _ _ | .mul _ _ _ _ | .mulhu _ _ _ _ | .mulhs _ _ _ _
  | .minu _ _ _ _ | .maxu _ _ _ _ | .cmp _ _ _ | .tst _ _ _ | .mov _ _ _ | .clz _ _ _ | .addi _ _ _ _
  | .andi _ _ _ _ | .ori _ _ _ _ | .xori _ _ _ _ | .shli _ _ _ _ | .shri _ _ _ _ | .sari _ _ _ _ | .cmpi _ _ _
  | .tsti _ _ _ | .ext _ _ _ _ _ | .ins _ _ _ _ _ | .satu _ _ _ _ | .movi _ _ _ | .movh _ _ _ | .ld _ _ _ _
  | .st _ _ _ _ | .bCond _ _ _ | .callCond _ _ _ | .ret _ | .jr _ _ | .fld _ _ _ | .fldx _ _ _ _
  | .fieldReadReply _ | .fst _ _ _ | .fstx _ _ _ _ | .fsync _ | .grpb _ | .grpe _ | .fieldWrite _ _ _
  | .fieldWriteAccepted _ _ | .wait _ _ _ _ | .waitEventPresent _ | .evt _ _ | .eclr _ _ | .tset _ _ | .kick _
  | .mfs _ _ _ | .mts _ _ _ | .send _ _ _ | .recv _ _ | .log _ _ _ | .fault _ _ | .nop _ | .illegalInstruction _ _
  | .timer _ | .wdHalf _ | .watchdogExpiry _ | .lightEnableWrite _ _ | .grpFireWrite _ _ | .crvGoWrite _ _
  | .boardTempWrite _ _ | .course | .scanInstant | .pulseStart _ | .pulseEnd _ | .blankingStart | .dischargeEnd
  | .strobeLockedIssue _ | .darkStartIssue | .neighSweepStart | .neighTestStep _ _
  | .derateUpdate | .tempLost | .adcEnableWrite _ _ _ | .refEnWrite _ _ _ | .refReady _ | .seqGo _ _ _
  | .calGo _ _ _ | .accSnap _ _ _ | .accClear _ _ _ | .startEdge _ | .urgEdge _ | .strobeStart _ | .darkRequest
  | .csiEnableWrite _ _ _ | .vcEnWrite _ _ _ | .csiReceiverReady _ | .frameStartPacket _ _ _ _
  | .frameEndPacket _ _ _ | .headerUncorrectable _ _ | .deskewBurst _
  | .frameEndTimeout _ | .pipelineSlice _ | .ctxEnableWrite _ _ _ | .locEnableWrite _ _ | .decEnableWrite _ _
  | .coreTimeExpiry _ | .resultArrival _ | .closingPassEnd _ _ | .frameDecideNotice _ | .noticeArrival
  | .jointArrival | .jointWaitExpiry | .candidateJxWaitExpiry _ | .vsDecide _ _ | .autoDecision
  | .vsPeekAddrWrite _ _ | .mirrorWrite | .vqQuery _ | .hkSend _ _ | .resTakeInclude _ _ | .resTakeNoPayload _ _
  | .resTakeOmit _ _ | .vbusPresent | .vbusAbsent | .usbEnableWrite _ _ | .usbBusReset _ | .setConfiguration _
  | .clearFeatureHalt _ | .setInterface _ | .standardRequest _ | .setFeatureLinkPower | .u1U2EntryRequest
  | .usbSuspend _ | .usbRecordTransferDone | .usbTapTransferDone | .getInventory _ _ | .getLinkStatus _ _
  | .ackRecords _ _ _ | .retrieve _ _ | .getBlackbox _ _ | .reqNoteAck _ _ | .serEnableWrite _ _ | .serFrameBroken _ _
  | .serAckFrame _ _ | .serRestartFrame _ | .serGetInventory _ _ | .serGetLinkStatus _ _ | .serAckRequest _ _
  | .serRetrieve _ _ | .serGetBlackbox _ _ | .serFrameStart | .serCollision _ _ | .serFrameSent | .serAckWindowExpiry
  | .serBackoffExpiry | .serLineHeldLow | .serCancel _ _ _ | .serReqNoteAck _ _ | .tick | .syncInEdge
  | .sampleDeadlineExpiry _ | .holdoverLimit | .crystalRateStep | .syncOutInstant | .syncOutPulseEnd
  | .pairEnableWrite _ _ | .heartbeatPulse | .plHbEdge | .hbLost | .conflictSettle | .pairWaitTimeout
  | .pairLinkRetransmit | .pairLinkDown | .pairLinkUp | .pairReserve _ | .pairReserveAck _ | .pairAckMark _ _ _
  | .senseMarkPeriod | .timeMarkPeriod | .pairTimeMark _ | .pairStepDown | .pairTakeoverMsg _ _ | .pairTrowelMsg _
  | .pairResyncStart | .pairTxMsgWrite _ _ | .pairRxAckWrite _ _ | .morEnableWrite _ _ _ | .linkHello _ _ _ _ _ _
  | .linkHelloPeriod _ | .portDegraded _ _ | .linkAck _ _ | .linkRetransmit _ | .portDown _ | .announce
  | .announcePeriod | .announceAgeOut _ | .delayExchangePeriod _ | .delayReq _ | .delayResp _ _ _ _ _
  | .fabricTimeFrame _ _ _ _ _ | .morRecord | .morDelivered | .morJoint | .morTap | .morTrowel | .morBroken
  | .flowBroken _ _ | .unreachableExpiry _ | .gatewayProgressTimeout | .routeWrite _ _ _ | .morTxMsgWrite _ _
  | .morRxAckWrite _ _ | .trstNLow | .extest _ _ | .samplePreload _ _ | .idcode | .highz | .clamp
  | .extestPulse _ _ | .extestTrain _ _ | .bbRead | .mbist _ | .mbistDone _ _ _ | .fieldScan _ | .bypass
  | .vqClkRise | .frameStartNoticeInDecode _ | .serResponseSent | .serFrameRejected _ | .serUnknownRequest _ _ _
  | .usbVendorRequestStall _ | .pairLinkAck _ | .xrefStable | .superspeedTrainingTimeout | .instructionScrub
  | .clockLaneStateChange _ _ _ | .tileScrub _ => true

end Sys2Proof
end

