-- ==== Sys2Proof/Machine/Sampling.lean ====
section
/-! DEFINITION. What a decode core reads: pixels of the tile store, module samples and confidences, Reed–Solomon and modulo-103
checks, payloads, Graga sectors (R280 to R287, R291 to R296, R302, R304). -/

namespace Sys2Proof.Machine

/-! ### Pixels of the tile store -/

/-- Tiles across the region of a frame (R263). -/
def Frame.tilesAcross (f : Frame) : Nat := (f.rx1 + 1 - f.rx0 + 31) / 32

/-- The store word of byte `b` of the luma plane of slot `n`: a slot is 144 words, the luma plane first (R280).
Log 110 (DEDUCED). -/
def slotWord (n b : Nat) : Nat := n * 144 + b / 8

/-- Luma and store word of frame pixel (`c`, `r`), where it lies in the region and in a tile row that the store holds (R276,
R281). -/
def Frame.pixelAt (f : Frame) (c r : Int) : Option (Nat × Nat) :=
  if c < f.rx0 ∨ (f.rx1 : Int) < c ∨ r < f.ry0 then none
  else
    let x := (c - f.rx0).toNat
    let y := (r - f.ry0).toNat
    if f.rows ≤ y / 32 then none
    else
      match (f.luma.getD y [])[x]?, f.slots[y / 32 * f.tilesAcross + x / 32]? with
      | some l, some n => some (l, slotWord n (y % 32 * 32 + x % 32))
      | _, _ => none

/-- The pixel that holds a point. -/
def Frame.pixelOf (f : Frame) (v : RatPt) : Option (Nat × Nat) := f.pixelAt (v.1 / 16).floor (v.2 / 16).floor

/-- The pixels of the frame whose centres lie in the bounding box of `o` and meet `keep` (R276). -/
def Frame.pixelsOf (f : Frame) (o : List RatPt) (keep : RatPt → Bool) : List (Nat × Nat) :=
  let (x0, y0, x1, y1) := boxOf (o.map fun v => ((v.1 / 16).floor, (v.2 / 16).floor))
  let cols := (List.range (min f.rx1 x1.toNat + 1)).drop (max f.rx0 x0.toNat)
  let rows := (List.range (min (f.ry0 + f.luma.length) (y1.toNat + 1))).drop (max f.ry0 y0.toNat)
  rows.flatMap fun (r : Nat) => cols.filterMap fun (c : Nat) =>
    if keep (16 * (c : Rat) + 8, 16 * (r : Rat) + 8) then f.pixelAt (c : Int) (r : Int) else none

/-- The mean of a list of numbers. -/
def meanOf (l : List Nat) : Rat := mkRat l.sum l.length

/-- The mean luma over an area, with the store words read: over the pixels whose centres lie in it, or, where none does, of the
pixel that holds its middle.
Log 111 (DEDUCED). -/
def Frame.areaMean (f : Frame) (o : List RatPt) (keep : RatPt → Bool) (mid : RatPt) : Option (Rat × List Nat) :=
  match f.pixelsOf o keep with
  | [] => (f.pixelOf mid).map fun e => (meanOf [e.1], [e.2])
  | l => some (meanOf (l.map (·.1)), l.map (·.2))

/-! ### Modules -/

/-- One sampled module: mean luma, whether it is dark, and the confidence, the distance of the mean from the local threshold
(R285). -/
structure ModuleSample where
  mean : Rat
  dark : Bool
  conf : Nat
  deriving DecidableEq, Repr

/-- The sample of module (`u`, `v`) of a grid; `none` where its centre lies outside what the frame holds, or where a store word
it is read from is bad (R283, R285).
Log 54 (DESIGN CHOICE), 111 (DEDUCED). -/
def Frame.sampleModule (f : Frame) (bad : List Nat) (m : Perspective) (cols rows u v : Nat) : Option ModuleSample :=
  let at_ := fun (x y : Rat) => m.image (x / cols, y / rows)
  match [at_ u v, at_ (u + 1) v, at_ (u + 1) (v + 1), at_ u (v + 1)].mapM (fun x => x), at_ (u + 1 / 2) (v + 1 / 2) with
  | some q, some mid =>
    if (f.pixelOf mid).isNone then none
    else
      match f.areaMean q (within q) mid with
      | some (mean, ws) =>
        let thr : Rat := (Config.localThreshold f.luma mid.1.floor mid.2.floor : Nat)
        if ws.any bad.contains then none
        else some ⟨mean, decide (mean < thr), (if mean < thr then thr - mean else mean - thr).floor.toNat⟩
      | none => none
  | _, _ => none

/-- The samples of a grid, row by row from the origin corner (R285). -/
def Frame.sampleGrid (f : Frame) (bad : List Nat) (corners : List Pt) (cols rows : Nat) : List (Option ModuleSample) :=
  let m := Perspective.ofCorners corners
  (List.range rows).flatMap fun v => (List.range cols).map fun u => f.sampleModule bad m cols rows u v

/-- A module as the bytes of a joint-exchange unit give it (Table MF.4). -/
def moduleByte (x : Option ModuleSample) : Byte :=
  match x with
  | none => 0x7F
  | some e => BitVec.ofNat 8 ((if e.dark then 128 else 0) + min 126 e.conf)
def byteModule (b : Byte) : Option (Bool × Nat) :=
  if b = 0x7F then none else some (b.getLsbD 7, (b.setWidth 7).toNat)

/-- Two views of a module: the one with the higher confidence, the earlier where they are equal (R304). -/
def betterView (a b : Option (Bool × Nat)) : Option (Bool × Nat) :=
  match a, b with
  | none, b => b
  | a, none => a
  | some x, some y => if x.2 < y.2 then some y else some x

/-- A little-endian number in a byte string. -/
def leAt (b : List Byte) (o n : Nat) : Nat := leNat ((b.drop o).take n)

/-- Grid dimensions and module bytes of a message (Table MF.4). -/
def JointMsg.cols (m : JointMsg) : Nat := leAt m.bytes 4 2
def JointMsg.rows (m : JointMsg) : Nat := leAt m.bytes 6 2
def JointMsg.modules (m : JointMsg) : List Byte := m.bytes.drop 56

/-- The modules of a grid as dark or light, from the engine's own samples and the messages in order of arrival, those below
DEC.ERASE_CONF erased (R285, R304). -/
def mergeViews (erase : Nat) (own : List (Option ModuleSample)) (msgs : List JointMsg) : List (Option Bool) :=
  own.zipIdx.map fun e =>
    let start : Option (Bool × Nat) := e.1.map fun x => (x.dark, x.conf)
    match msgs.foldl (fun a m => betterView a (byteModule (m.modules.getD e.2 0x7F))) start with
    | some (d, conf) => if conf < erase then none else some d
    | none => none

/-! ### Grid sizes -/

/-- The sizes of Table LD.1, in modules.
Log 112 (PRESUMED): the standards' sizes between the least and the greatest of the table. -/
def gridSize (sym : BitVec 3) (rune : Bool) (cols rows : Nat) : Bool :=
  match sym.toNat with
  | 1 => (cols == rows && [10, 12, 14, 16, 18, 20, 22, 24, 26, 32, 36, 40, 44, 48, 52, 64, 72, 80, 88, 96, 104, 120, 132,
      144].contains cols) || [(18, 8), (32, 8), (26, 12), (36, 12), (36, 16), (48, 16)].contains (cols, rows)
  | 2 => cols == rows && decide (21 ≤ cols) && decide (cols ≤ 177) && cols % 4 == 1
  | 3 => cols == rows && [11, 13, 15, 17].contains cols
  | 4 => cols == rows && (if rune then cols == 11 else [15, 19, 23, 27, 31, 37, 41, 45, 49, 53, 57, 61, 67, 71, 75, 79, 83,
      87, 91, 95, 101, 105, 109, 113, 117, 121, 125, 131, 135, 139, 143, 147, 151].contains cols)
  | 5 => rows == 1 && decide (46 ≤ cols) && cols % 11 == 2
  | _ => false

/-! ### Reed–Solomon -/

/-- The field of a symbology's code: its polynomial, its degree, and the exponent of the generator's first root.
Log 112 (PRESUMED). -/
def rsField (sym : BitVec 3) (bits : Nat) : Nat × Nat × Nat :=
  match sym.toNat, bits with
  | 1, _ => (0x12D, 8, 1)
  | 4, 4 => (0x13, 4, 1)
  | 4, 6 => (0x43, 6, 1)
  | 4, 10 => (0x409, 10, 1)
  | 4, 12 => (0x1069, 12, 1)
  | 4, _ => (0x12D, 8, 1)
  | _, _ => (0x11D, 8, 0)

/-- The product of `a` and the `k` low bits of `b` in a field of polynomial `p` and degree `m`. -/
def gfMul (p m a b : Nat) : Nat → Nat
  | 0 => 0
  | k + 1 =>
    let d := 2 * gfMul p m a b k
    let r := if d.testBit m then d ^^^ p else d
    if b.testBit (m - 1 - k) then r ^^^ a else r

/-- The `k`-th power of the field's element 2. -/
def gfPow (p m : Nat) : Nat → Nat
  | 0 => 1
  | k + 1 => gfMul p m 2 (gfPow p m k) m

/-- A word of codewords, the highest power first, as a polynomial at `x`. -/
def gfEval (p m x : Nat) (word : List Nat) : Nat := word.foldl (fun a c => gfMul p m a x m ^^^ c) 0

/-- All syndromes of a word are zero. -/
def rsClean (fld : Nat × Nat × Nat) (check : Nat) (word : List Nat) : Bool :=
  word.all (fun c => decide (c < 2 ^ fld.2.1))
    && (List.range check).all fun i => gfEval fld.1 fld.2.1 (gfPow fld.1 fld.2.1 (fld.2.2 + i)) word == 0

/-- A codeword as sampled, `none` where it holds an erased module (R285); `light` turns the tones of a light-on-dark symbol. -/
def codewordOf (mods : List (Option Bool)) (light : Bool) (idx : List Nat) : Option Nat :=
  idx.foldl (fun a i => match a, mods.getD i none with
    | some w, some d => some (2 * w + if d != light then 1 else 0)
    | _, _ => none) (some 0)

/-- Erasures and wrong codewords of a block as sampled, against its corrected codewords. -/
def rsLosses (b : RsBlock) (mods : List (Option Bool)) (light : Bool) : Nat × Nat :=
  let l := (b.words.zip b.value).map fun e => (codewordOf mods light e.1, e.2)
  ((l.filter fun e => e.1.isNone).length, (l.filter fun e => match e.1 with
    | some w => w != e.2
    | none => false).length)

/-- A block passes its check: the corrected codewords are a codeword of the code, and e errors and f erasures were corrected with
2e + f at most the number of check codewords; a version M1 Micro QR symbol has error detection alone (R285, Table LD.1).
Log 112 (PRESUMED). -/
def rsPasses (b : RsBlock) (sym : BitVec 3) (bits cols : Nat) (mods : List (Option Bool)) (light : Bool) : Bool :=
  let (f, e) := rsLosses b mods light
  decide (b.words.length = b.value.length) && decide (0 < b.check) && rsClean (rsField sym bits) b.check b.value
    && (if sym = 3 ∧ cols = 11 then f == 0 && e == 0 else decide (2 * e + f ≤ b.check))

/-! ### Code 128 -/

/-- The eleven modules of the symbol characters 0 to 105, dark as 1.
Log 112 (PRESUMED). -/
def code128Table : List Nat :=
  [1740, 1644, 1638, 1176, 1164, 1100, 1224, 1220, 1124, 1608, 1604, 1572, 1436, 1244]
    ++ [1230, 1484, 1260, 1254, 1650, 1628, 1614, 1764, 1652, 1902, 1868, 1836, 1830, 1892]
    ++ [1844, 1842, 1752, 1734, 1590, 1304, 1112, 1094, 1416, 1128, 1122, 1672, 1576, 1570]
    ++ [1464, 1422, 1134, 1496, 1478, 1142, 1910, 1678, 1582, 1768, 1762, 1774, 1880, 1862]
    ++ [1814, 1896, 1890, 1818, 1914, 1602, 1930, 1328, 1292, 1200, 1158, 1068, 1062, 1424]
    ++ [1412, 1232, 1218, 1076, 1074, 1554, 1616, 1978, 1556, 1146, 1340, 1212, 1182, 1508]
    ++ [1268, 1266, 1956, 1940, 1938, 1758, 1782, 1974, 1400, 1310, 1118, 1512, 1506, 1960]
    ++ [1954, 1502, 1518, 1886, 1966, 1668, 1680, 1692]

/-- The modules of one character as a number, `none` where one is erased. -/
def barsOf (mods : List (Option Bool)) (light : Bool) (o n : Nat) : Option Nat :=
  codewordOf mods light ((List.range n).map (o + ·))

/-- The characters of a Code 128 symbol of `cols` modules, from the start character to the check character, where every one is a
character and the stop character follows. -/
def code128Read (mods : List (Option Bool)) (light : Bool) (cols : Nat) : Option (List Nat) :=
  let n := (cols - 13) / 11
  if barsOf mods light (11 * n) 13 = some 0b1100011101011 then
    ((List.range n).map fun i => (barsOf mods light (11 * i) 11).bind fun w =>
      if code128Table.contains w then some (code128Table.idxOf w) else none).mapM (fun x => x)
  else none

/-- The modulo-103 check (Table LD.1): the data characters of a symbol whose check character is right, with its start character.
Log 112 (PRESUMED). -/
def code128Check (chars : List Nat) : Option (Nat × List Nat) :=
  match chars with
  | [] => none
  | start :: r =>
    let data := r.dropLast
    let sum := start + ((data.zipIdx.map fun e => (e.2 + 1) * e.1).sum)
    if 103 ≤ start ∧ r ≠ [] ∧ r.getLast? = some (sum % 103) then some (start, data) else none

/-- What the data characters give, read in code set A, B or C (0, 1, 2): `one` and `latch` are FNC4's, `shift` the shift
character's. FNC2 and FNC3 give no datum.
Log 112 (PRESUMED). -/
def code128Data (set : Nat) (shift one latch : Bool) : List Nat → List DataToken
  | [] => []
  | v :: r =>
    let use := if shift then 1 - set else set
    if v = 102 then .fnc1 :: code128Data set false one latch r
    else if set = 2 then
      if v < 100 then .byte (BitVec.ofNat 8 (48 + v / 10)) :: .byte (BitVec.ofNat 8 (48 + v % 10)) ::
        code128Data set false one latch r
      else code128Data (if v = 100 then 1 else 0) false one latch r
    else if v < 96 then
      let c := if use = 0 ∧ 64 ≤ v then v - 64 else v + 32
      .byte (BitVec.ofNat 8 (if one != latch then c + 128 else c)) :: code128Data set false false latch r
    else if v < 98 then code128Data set false one latch r
    else if v = 98 then code128Data set true one latch r
    else if v = 99 then code128Data 2 false one latch r
    else if (v = 100 ∧ use = 1) ∨ (v = 101 ∧ use = 0) then
      (if one then code128Data set false false (!latch) r else code128Data set false true latch r)
    else code128Data (if v = 100 then 1 else 0) false one latch r

/-! ### Payloads -/

/-- A decimal number as `n` digits. -/
def digitsOf (v : Nat) : Nat → List Byte
  | 0 => []
  | n + 1 => digitsOf (v / 10) n ++ [BitVec.ofNat 8 (48 + v % 10)]

/-- The bytes of a datum within a payload (R286). -/
def tokenBytes (t : DataToken) : List Byte :=
  match t with
  | .byte b => if b = 0x5C then [0x5C, 0x5C] else [b]
  | .fnc1 => [0x1D]
  | .eci n => 0x5C :: digitsOf n 6

/-- Payload and GS1 flag of a symbol's data: FNC1 in the first position is the flag, and the payload holds up to 2953 bytes
(R286). -/
def payloadOf (l : List DataToken) : List Byte × Bool :=
  match l with
  | .fnc1 :: r => ((r.flatMap tokenBytes).take 2953, true)
  | l => ((l.flatMap tokenBytes).take 2953, false)

/-! ### Symbols -/

/-- Reed–Solomon symbologies (Table LD.1). -/
def isRs (sym : BitVec 3) : Bool := decide (1 ≤ sym.toNat) && decide (sym.toNat ≤ 4)

/-- Contrast: mean luma of the light samples less mean luma of the dark ones, 0 to 255; and modulation: the smallest confidence as
a percentage of half the contrast, 0 to 100 (Table LD.5). A symbol without dark or light samples has the contrast 0; at contrast
0 the percentage is a free value.
Log 113 (DESIGN CHOICE). -/
def contrastOf (own : List ModuleSample) : Nat :=
  let d := (own.filter (·.dark)).map (·.mean)
  let l := (own.filter fun x => !x.dark).map (·.mean)
  if d.isEmpty || l.isEmpty then 0
  else min 255 (l.sum / (l.length : Rat) - d.sum / (d.length : Rat)).floor.toNat
def modulationOf (contrast : Nat) (confs : List Nat) : Nat :=
  let least := confs.foldl min (confs.headD 0)
  min 100 (if contrast = 0 then Config.flatModulation least else 200 * least / contrast)

/-- What passes a symbol's check: the data, the codewords corrected and the erasures used (R285). -/
def gridDecoded (g : GridRead) (sym : BitVec 3) (light : Bool) (cols : Nat) (mods : List (Option Bool)) :
    Option (List DataToken × Nat × Nat) :=
  if sym = 5 then
    (((code128Read mods light cols).bind code128Check).map fun e =>
      (code128Data (e.1 - 103) false false false e.2, 0, 0))
  else if isRs sym && !g.blocks.isEmpty && g.blocks.all fun b => rsPasses b sym g.bits cols mods light then
    let l := g.blocks.map fun b => rsLosses b mods light
    some (g.tokens, (l.map (·.2)).sum, (l.map (·.1)).sum)
  else none

/-- A rune gives one byte (R286). -/
def runeOk (g : GridRead) : Bool := match g.tokens with
  | [.byte _] => true
  | _ => false

/-- The options of DEC.SYM_OPT hold for a symbol (Table LD.1): mirrored, runes, data characters of Code 128.
Log 112 (PRESUMED). -/
def Frame.optionsHold (f : Frame) (sym : BitVec 3) (mirrored rune runeOk : Bool) (chars : Nat) : Bool :=
  (!mirrored || (isRs sym && f.symOpt.getLsbD 0)) && (!rune || (decide (sym = 4) && f.symOpt.getLsbD 1 && runeOk))
    && (decide (sym ≠ 5) || (decide (1 ≤ chars) && decide (chars ≤ 80) && (!f.symOpt.getLsbD 2 || decide (4 ≤ chars))))

/-- The result of a symbol, `none` where it is not decoded (R285, R286, R291, R304, Table LD.1, Table LD.5). With messages the grid
is the first one's; the symbol is mirrored where its corners run counter-clockwise as displayed.
Log 54 (DESIGN CHOICE). -/
def Frame.symbolResult (f : Frame) (bad : List Nat) (c : Candidate) (g : GridRead) : Option Result :=
  let sym := c.info.sym
  let (cols, rows, corners) := match c.msgs with
    | m :: _ => (m.cols, m.rows, m.corners)
    | [] => (g.cols, g.rows, g.corners)
  let own := f.sampleGrid bad corners cols rows
  let mods := mergeViews f.eraseConf own c.msgs
  let mirrored := decide (twiceArea corners < 0)
  if !gridSize sym g.rune cols rows then none
  else
    match gridDecoded g sym c.info.light cols mods with
    | none => none
    | some (tokens, corrected, erasures) =>
      if !f.optionsHold sym mirrored g.rune (runeOk g) tokens.length then none
      else
        let seen := own.filterMap (fun x => x)
        let contrast := contrastOf seen
        let (payload, gs1) := payloadOf tokens
        some { tag := 0, ctx := f.ctx, fidx := f.fidx.getD 0, ts := f.ts, sym := sym, payload := payload,
               corners := corners, orient := g.orient % 3600, tilt := min 40 g.tilt, module := g.module,
               contrast := contrast, modulation := modulationOf contrast (seen.map (·.conf)), corrected := corrected,
               erasures := erasures, mirrored := mirrored, stitched := !c.msgs.isEmpty, gs1 := gs1,
               light := c.info.light, rune := g.rune, match_ := false, cx := 0, cy := 0, radius := 0 }

/-! ### Graga targets -/

/-- The remainder of `w`, of degree below `n + m`, by a polynomial `g` of degree `m` over GF(2). -/
def gfRem (g m : Nat) : Nat → Nat → Nat
  | 0, w => w
  | n + 1, w => gfRem g m n (if w.testBit (n + m) then w ^^^ (g * 2 ^ n) else w)

/-- Sectors, ID bits and generator of a Graga size (R293, R294). -/
def gragaShape (sym : BitVec 3) : Nat × Nat × Nat :=
  if sym = 6 then (15, 11, 0b10011) else (24, 18, 0b1000011)

/-- The ID of a codeword read from sector `p` on, clockwise or counter-clockwise, where its check holds (R293 to
R295). -/
def gragaId (sym : BitVec 3) (dark : List Bool) (p : Nat) (ccw : Bool) : Option Nat :=
  let (n, i, g) := gragaShape sym
  let w := (List.range n).foldl (fun a k =>
    2 * a + (if dark.getD ((if ccw then p + n - k else p + k) % n) false then 1 else 0)) 0
  if gfRem g (n - i) i w = 0 then some (w / 2 ^ (n - i)) else none

/-- What the rings of a Graga target give: the ID and the mirrored flag (R295). -/
def gragaDecode (sym : BitVec 3) (mirrorOk : Bool) (keyLight codeDark : List Bool) : Option (Nat × Bool) :=
  let (n, _, _) := gragaShape sym
  let light := (List.range n).filter fun k => keyLight.getD k false
  match light with
  | [p] =>
    match gragaId sym codeDark p false with
    | some i => some (i, false)
    | none => if mirrorOk then (gragaId sym codeDark p true).map fun i => (i, true) else none
  | _ => none

/-- The mapping from the target's plane, in units of u about its centre, to the frame (R292). -/
def gragaPlane (r : GragaRead) : Perspective :=
  let m := Perspective.ofCorners r.corners
  ⟨m.a / 7, m.b / 7, m.a / 2 + m.b / 2 + m.c, m.d / 7, m.e / 7, m.d / 2 + m.e / 2 + m.f, m.g / 7, m.h / 7,
   m.g / 2 + m.h / 2 + m.i⟩

/-- The mean luma over a part of a ring: radii from `r0` to `r1`, in tenths of u, and, where a sector is given, its middle 60 %
(R295). The middle of a part is that of its radii and its sector, and of the disc its centre.
Log 111 (DEDUCED). -/
def Frame.ringMean (f : Frame) (r : GragaRead) (r0 r1 : Nat) (sector : Option (Nat × Nat)) : Option (Rat × List Nat) :=
  let m := (gragaPlane r)
  let n := m.inverse
  let (a, b) := match sector with
    | some (k, w) => (5 * k * w + w, 5 * k * w + 4 * w)
    | none => (0, 0)
  let keep := fun (v : RatPt) => match n.image v with
    | some p =>
      let d := 100 * (p.1 * p.1 + p.2 * p.2)
      decide (((r0 * r0 : Nat) : Rat) ≤ d) && decide (d ≤ ((r1 * r1 : Nat) : Rat)) && (sector.isNone || between a b p)
    | none => false
  let way := turn ((a + b) / 2)
  let rad : Rat := if r0 = 0 then 0 else mkRat (r0 + r1) 20
  match m.image (rad * (way.1 : Rat) / 10 ^ 15, rad * (way.2 : Rat) / 10 ^ 15) with
  | some mid => f.areaMean (exactly r.corners) keep mid
  | none => none

/-- The unit of a sector's angle, a fifth of it in steps of 0.6°: 24° and 15° (R293). -/
def sectorUnit (sym : BitVec 3) : Nat := if sym = 6 then 8 else 5

/-- The result of a Graga target, `none` where it is not accepted: sectors against the midpoint of the disc and the inner gap,
centre in 1/256 px and radius in 1/16 px (R295, R296, Table LD.5). A bad store word among those read fails it, since it corrects no
bit (R283).
Log 111 (DEDUCED). -/
def Frame.gragaResult (f : Frame) (bad : List Nat) (c : Candidate) (r : GragaRead) : Option Result :=
  let sym := c.info.sym
  let (n, _, _) := gragaShape sym
  let ring := fun (r0 r1 : Nat) =>
    ((List.range n).map fun k => f.ringMean r r0 r1 (some (k, sectorUnit sym))).mapM (fun x => x)
  match f.ringMean r 0 10 none, f.ringMean r 10 15 none, ring 17 23, ring 31 34, (gragaPlane r).image (0, 0), (gragaPlane r).axesSum with
  | some disc, some gap, some code, some key, some mid, some axes =>
    let thr := (disc.1 + gap.1) / 2
    let dark := fun (e : Rat × List Nat) => decide (e.1 < thr) != c.info.light
    if sym.toNat < 6 || (disc :: gap :: code ++ key).any fun e => e.2.any bad.contains then none
    else
      (gragaDecode sym (f.symOpt.getLsbD 0) (key.map fun e => !dark e) (code.map dark)).map fun e =>
        let seen := (code ++ key).map fun x =>
          ModuleSample.mk x.1 (decide (x.1 < thr)) (if x.1 < thr then thr - x.1 else x.1 - thr).floor.toNat
        let contrast := contrastOf seen
        { tag := 0, ctx := f.ctx, fidx := f.fidx.getD 0, ts := f.ts, sym := sym, payload := leBytes 4 e.1,
          corners := r.corners, orient := r.orient % 3600, tilt := min 40 r.tilt, module := r.module,
          contrast := contrast, modulation := modulationOf contrast (seen.map (·.conf)), corrected := 0, erasures := 0,
          mirrored := e.2, stitched := false, gs1 := false, light := c.info.light, rune := false, match_ := false,
          cx := nearWhole (16 * mid.1), cy := nearWhole (16 * mid.2)
          radius := (nearWhole (7 / 2 * axes / 2)).toNat }
  | _, _, _, _, _, _ => none

/-- The result of a candidate's outcome, `none` where it fails (R285, R286, R295, Table LD.1). -/
def Frame.resultOf (f : Frame) (bad : List Nat) (c : Candidate) (out : DecodeOutcome) : Option Result :=
  match out with
  | .failed => none
  | .grid g => if c.info.sym.toNat ≤ 5 then f.symbolResult bad c g else none
  | .graga r => if 6 ≤ c.info.sym.toNat then f.gragaResult bad c r else none

/-! ### Limits -/

/-- A number held between two bounds. -/
def heldTo (lo hi v : Nat) : Nat := max lo (min hi v)

/-- The contrast of what an outline holds: mean luma of its light pixels less that of its dark ones, split at their
mean (R277, R287, Table LD.2).
Log 114 (DEDUCED). -/
def Frame.outlineContrast (f : Frame) (o : List Pt) : Int :=
  let px := f.pixelsOf (exactly o) (within (exactly o))
  let cut := meanOf (px.map (·.1))
  let d := (px.filter fun e => decide ((e.1 : Rat) < cut)).map (·.1)
  let l := (px.filter fun e => decide (cut ≤ (e.1 : Rat))).map (·.1)
  if d.isEmpty then 0 else (meanOf l - meanOf d).floor

/-- Module sizes of Table LD.2 within LOC.MOD_MIN and LOC.MOD_MAX, in 1/16 px: for Code 128 the narrow bar's, 1.5 to 24 px, else
the module's, 2 to 32 px (R287, Table LD.10). -/
def Frame.moduleLimits (f : Frame) (sym : BitVec 3) : Nat × Nat :=
  if sym = 5 then (heldTo 24 384 (4 * (f.modMin.toNat / 256)), heldTo 24 384 (4 * (f.modMax.toNat / 256)))
  else (heldTo 32 512 (4 * (f.modMin.toNat % 256)), heldTo 32 512 (4 * (f.modMax.toNat % 256)))

/-- A candidate lies within the limits of Table LD.2: size of a module, or outer diameter of a Graga target of 7 modules; extent;
contrast (R287). -/
def Frame.inLimits (f : Frame) (x : CandInfo) : Bool :=
  let (lo, hi) := f.moduleLimits x.sym
  let (x0, y0, x1, y1) := boxOf x.corners
  let size := if 6 ≤ x.sym.toNat then
      decide ((if x.sym = 6 then 13 else 20) * 16 ≤ 7 * x.module) && decide (7 * x.module ≤ 512 * 16)
    else decide (lo ≤ x.module) && decide (x.module ≤ hi)
  size && decide (x1 - x0 ≤ 2048 * 16) && decide (y1 - y0 ≤ 2048 * 16)
    && decide (((max 20 f.minContrast.toNat : Nat) : Int) ≤ f.outlineContrast x.corners)

/-- The polarity of a candidate is searched: 0 dark on light, 1 light on dark, 2 and 3 both (Table LD.10). -/
def Frame.polarityOn (f : Frame) (x : CandInfo) : Bool :=
  decide (2 ≤ f.pol.toNat) || (x.light == decide (f.pol = 1))

/-! ### Evidence -/

/-- Tiles that an outline touches: tile row and column (R263). -/
def Frame.touches (f : Frame) (o : List Pt) (u v : Nat) : Bool :=
  let x0 : Int := 16 * (f.rx0 + 32 * u : Nat)
  let y0 : Int := 16 * (f.ry0 + 32 * v : Nat)
  outlinesMeet o [(x0, y0), (x0 + 512, y0), (x0 + 512, y0 + 512), (x0, y0 + 512)]

/-- Some tile that the outline touches has evidence of the symbology's finder signature (R278). -/
def Frame.signed (f : Frame) (x : CandInfo) : Bool :=
  f.evidence.zipIdx.any fun row => row.1.zipIdx.any fun e =>
    e.1.signatures.getLsbD (x.sym.toNat - 1) && f.touches x.corners e.2 row.2

/-- The candidate is ready: every tile row that its outline touches is complete, or the frame has closed (R278). -/
def Frame.ready (f : Frame) (x : CandInfo) : Bool :=
  let (_, _, _, y1) := boxOf x.corners
  f.closed || decide (y1 ≤ 16 * (f.ry0 + 32 * f.evidence.length : Nat))

end Sys2Proof.Machine
end

