-- ==== Sys2Proof/Machine/Cluster.lean ====
section
/-! DEFINITION. The decode cluster and the tile store: candidates, cores, results, Graga targets, joint exchange, decide
notices (chapter "Locating and decoding codes and Graga targets"). -/

namespace Sys2Proof.Machine

/-! ### Outlines -/

/-- The overlap rectangle of homography entry `i` in 1/16 px (R300). -/
def State.overlapRect (s : State) (i : Nat) : List Pt :=
  let x := s.getN (Fld.decJxOvlX i)
  let y := s.getN (Fld.decJxOvlY i)
  let x0 : Int := 16 * (x % 8192 : Nat)
  let x1 : Int := 16 * (x / 65536 % 8192 + 1 : Nat)
  let y0 : Int := 16 * (y % 8192 : Nat)
  let y1 : Int := 16 * (y / 65536 % 8192 + 1 : Nat)
  [(x0, y0), (x1, y0), (x1, y1), (x0, y1)]

/-- The outline extends beyond the region or the frame by at least one module (R279). -/
def Frame.incomplete (f : Frame) (x : CandInfo) : Bool :=
  let (a0, b0, a1, b1) := boxOf x.corners
  let bottom := if f.closed then min f.ry1 (f.y - 1) else f.ry1
  decide (a0 ≤ 16 * (f.rx0 : Int) - x.module) || decide (b0 ≤ 16 * (f.ry0 : Int) - x.module)
    || decide (16 * ((f.rx1 : Int) + 1) + x.module ≤ a1) || decide (16 * ((bottom : Int) + 1) + x.module ≤ b1)

/-! ### Homographies -/

/-- The exact value of a single-precision word; an infinity or a NaN as 0.
Log 58 (DEDUCED). -/
def singleValue (w : Word) : Rat :=
  let e : Nat := w.toNat / 2 ^ 23 % 256
  let m : Nat := w.toNat % 2 ^ 23
  let v : Rat := if e = 0 then mkRat m (2 ^ 149)
    else if e = 255 then 0
    else mkRat (((2 ^ 23 + m) * 2 ^ e : Nat) : Int) (2 ^ 150)
  if w.getLsbD 31 then -v else v

/-- Entry `i` of the homography section.
Log 58 (DEDUCED). -/
def State.homog (s : State) (i : Nat) : Option Homography :=
  match s.boot.recipe with
  | some r => r.homographies[i]?
  | none => none

/-- The entries in use for context `k` (R300). -/
def State.entriesOf (s : State) (k : CtxId) : List (Nat × Homography) :=
  (List.range 32).filterMap fun i =>
    match s.homog i with
    | some h => if s.getB (Fld.ctxHomogEn k) i && decide (h.context = k.val) then some (i, h) else none
    | none => none

/-- A point in 1/16 px mapped through an entry, to 1/16 px; the manual gives no rounding, so a free choice between the two
neighbours (R300).
Log 58 (DEDUCED). -/
def mapPoint (h : Homography) (p : Pt) : Option Pt :=
  let c := fun i => singleValue (h.h.getD i 0)
  let x : Rat := mkRat p.1 16
  let y : Rat := mkRat p.2 16
  let w := c 6 * x + c 7 * y + c 8
  if w ≤ 0 then none
  else some (nearWhole (16 * ((c 0 * x + c 1 * y + c 2) / w)), nearWhole (16 * ((c 3 * x + c 4 * y + c 5) / w)))

/-! ### Scheduling -/

/-- A candidate may be taken.
Log 54 (DESIGN CHOICE). -/
def Candidate.eligible (c : Candidate) : Bool := !c.waits

/-- The ready candidate that a free core takes: earliest frame, then first ready (R284). -/
def nextCandidate (l : List Candidate) : Option Candidate :=
  l.foldl (fun a c => if !c.eligible then a else match a with
    | none => some c
    | some b => if c.ts < b.ts then some c else some b) none

/-- One free core takes a candidate. -/
def Dec.assign (d : Dec) (i : Fin 16) : Dec :=
  match d.cores[i] with
  | .free =>
    match nextCandidate d.ready with
    | some c => { d with ready := d.ready.filter fun e => e.n != c.n, cores := d.cores.set i.val (.busy c) i.isLt }
    | none => d
  | _ => d

/-- Every free core takes a candidate while one is ready (R284). -/
def State.schedule (s : State) : State :=
  { s with dec := (List.finRange 16).foldl Dec.assign s.dec }

/-- A core is free again. -/
def State.freeCore (s : State) (i : Fin 16) : State :=
  { s with dec := { s.dec with cores := s.dec.cores.set i.val .free i.isLt } }

/-! ### Joint exchange -/

/-- Joint exchange runs: ACTIVE is high, a mortar port is enabled, the node ID is known, the cluster runs; from step 4 of sleep
entry until the wake it does not (R301, R310, R311, R115). -/
def State.jointOn (s : State) : Bool :=
  s.activeLevel && s.anyMor && s.fab.id.isSome && s.enabledAt Fld.decEnable
    && !(decide (s.phase = .sleepEntry) && decide (4 ≤ s.sys.sleepStep)) && decide (s.phase ≠ .asleep)

/-- A signed little-endian 32-bit number. -/
def leInt (b : List Byte) (o : Nat) : Int := (BitVec.ofNat 32 (leAt b o 4)).toInt

/-- A joint-exchange unit as a message (Table MF.4). -/
def parseJoint (src : BitVec 6) (b : List Byte) : JointMsg :=
  { src := src, sym := b.getD 0 0, ctx := b.getD 1 0, senderCtx := b.getD 2 0, ts := leAt b 8 8
    corners := (List.range 4).map fun i => (leInt b (16 + 8 * i), leInt b (20 + 8 * i)), bytes := b }

/-- The unit that a sender sends (Table MF.4). -/
def jointBytes (sym : BitVec 3) (ctx senderCtx cols rows ts : Nat) (corners : List Pt) (cand : Nat) (modules : List Byte) :
    List Byte :=
  [sym.setWidth 8, BitVec.ofNat 8 ctx, BitVec.ofNat 8 senderCtx, 0] ++ leBytes 2 cols ++ leBytes 2 rows
    ++ leBytes 8 ts
    ++ (corners.flatMap fun c => leBytes 4 (BitVec.ofInt 32 c.1).toNat ++ leBytes 4 (BitVec.ofInt 32 c.2).toNat)
    ++ leBytes 4 cand ++ leBytes 4 (cols * rows) ++ modules

/-- A sender's candidate has been sampled: its message goes to the neighbour, every module as the frame's planes give it, or, where
the core has established no grid or a corner maps to nowhere, the candidate is counted as not sent (R302). -/
def State.sendJoint (s : State) (c : Candidate) (f : Frame) (i : Nat) (g : Option GridRead) : State :=
  let msg := match g, s.homog i with
    | some g, some h =>
      match (g.corners.map (mapPoint h)).mapM id with
      | some cs => if s.jointOn then
          some (BitVec.ofNat 6 h.node, jointBytes c.info.sym h.nbContext f.ctx.val g.cols g.rows c.ts cs c.n
            ((f.sampleGrid s.dec.bad g.corners g.cols g.rows).map moduleByte)) else none
      | none => none
    | _, _ => none
  match msg with
  | some (d, b) =>
    ((s.updFrame c.fid fun f => { f with jxSent := f.jxSent + 1 }).countWrap Fld.decJxSentCount 1).sendUnit d 1 3 b
  | none => s.count16 Fld.decJxNosendCount

/-- A message that a collector accepts (R303); from sleep step 4 on none is (R310). -/
def State.acceptsJoint (s : State) (m : JointMsg) : Bool :=
  s.jointOn && decide (m.ctx.toNat < 8)
    && (s.entriesOf (Fin.ofNat 8 m.ctx.toNat)).any fun e =>
      decide (e.2.node = m.src.toNat) && decide (e.2.nbContext = m.senderCtx.toNat)
        && decide ((s.fab.id.getD 0).toNat < m.src.toNat)

/-- Two timestamps match (R303). -/
def State.inWindow (s : State) (a b : Nat) : Bool := decide (max a b - min a b ≤ s.getN Fld.decJxWindowNs)

/-- A candidate made of messages alone (R304). -/
def Dec.msgCandidate (d : Dec) (f : Frame) (m : JointMsg) : Dec :=
  { d with
    ready := d.ready ++ [⟨d.nextCand, f.id, f.ts, ⟨m.sym.setWidth 3, m.corners, 0, false⟩, none, false, true, [m]⟩]
    nextCand := d.nextCand + 1 }

/-- A matched message meets its frame: it joins a ready candidate of the same symbol, is not needed where the symbol has
been decoded alone, or waits with the frame, for its candidate while the frame is open; a candidate that was ready before joint
exchange ran takes none (R304, R305, R311).
Log 57 (DEDUCED). -/
def State.joinFrame (s : State) (f : Frame) (m : JointMsg) : State :=
  let same := fun (c : Candidate) => c.fid == f.id && c.sender.isNone && c.joint && c.info.sym.setWidth 8 == m.sym
    && sameSymbol c.info.corners m.corners
  if s.dec.outlines.any (fun o => o.1 == f.id && o.2.1.setWidth 8 == m.sym && sameSymbol o.2.2 m.corners) then
    s.count16 Fld.decJxUnusedCount
  else if s.dec.ready.any same then
    let join := fun (c : Candidate) => if same c then { c with waits := false, msgs := c.msgs ++ [m] } else c
    { s with dec := { s.dec with ready := s.dec.ready.map join } }.schedule
  else if f.passed then { s with dec := s.dec.msgCandidate f m }.schedule
  else { s with dec := { s.dec with jxFrame := s.dec.jxFrame ++ [(f.id, m)] } }

/-- Matches a message to an undecided frame, or to a decided one, or lets it wait (R303). -/
def State.matchJoint (s : State) (m : JointMsg) : State :=
  match s.frames.find? fun f => f.noticed && decide (f.ctx.val = m.ctx.toNat) && s.inWindow f.ts m.ts with
  | some f => s.joinFrame f m
  | none =>
    if s.dec.decided.any (fun e => decide (e.1.val = m.ctx.toNat) && s.inWindow e.2 m.ts) then
      s.count16 Fld.decJxLateCount
    else { s with dec := { s.dec with jxWait := s.dec.jxWait ++ [m] } }

/-- The waiting messages are matched again. -/
def State.rematch (s : State) : State :=
  s.dec.jxWait.foldl State.matchJoint { s with dec := { s.dec with jxWait := [] } }

/-- JOINT_ARRIVAL: a joint-exchange unit reaches the collector (R303). -/
def execJointArrival (s : State) : Host.Outcome State Fault Refusal :=
  .next (match s.dec.jxIn with
    | [] => s
    | (src, b) :: r =>
      let s1 := { s with dec := { s.dec with jxIn := r } }
      let m := parseJoint src b
      if s1.acceptsJoint m then s1.matchJoint m else s1)

/-- JOINT_WAIT_EXPIRY: the oldest unmatched message is discarded (R303). -/
def execJointWaitExpiry (s : State) : Host.Outcome State Fault Refusal :=
  .next (match s.dec.jxWait with
    | [] => s
    | _ :: r => { s with dec := { s.dec with jxWait := r } }.count16 Fld.decJxDropCount)

/-- CANDIDATE_JX_WAIT_EXPIRY: a waiting candidate is decoded from the collector's own view (R305). -/
def execCandidateJxWaitExpiry (cand : Nat) (s : State) : Host.Outcome State Fault Refusal :=
  let free := fun (c : Candidate) => if c.n = cand then { c with waits := false } else c
  .next ({ s with dec := { s.dec with ready := s.dec.ready.map free } }.schedule)

/-! ### Candidates and results -/

/-- FRAME_START_NOTICE_IN_DECODE: the set "decode kn" applies for the oldest frame of the context that has started
(R309). -/
def execFrameStartNoticeInDecode (k : CtxId) (s : State) : Host.Outcome State Fault Refusal :=
  .next (match s.frames.find? fun f => f.ctx == k && f.started && !f.noticed with
    | none => s
    | some f =>
      let s1 := s.applyBoundary (·.set == .dec k)
      (s1.updFrame f.id fun f => { f with
        noticed := true, symOpt := (s1.getF (Fld.decSymOpt k.val)).setWidth 3
        eraseConf := s1.getN (Fld.decEraseConf k.val) }).rematch)

/-- The first entry in use whose overlap rectangle an outline meets. -/
def State.meetsOverlap (s : State) (k : CtxId) (q : List Pt) : Option (Nat × Homography) :=
  (s.entriesOf k).find? fun e => outlinesMeet q (s.overlapRect e.1)

/-- The candidate `x` of frame `f` enters the queue of DECODE, with the joint exchange that falls on it (R284, R301, R305). -/
def State.queueCandidate (s : State) (k : CtxId) (f : Frame) (x : CandInfo) : State :=
  let on := s.jointOn
  let entry := if isRs x.sym && on && f.incomplete x then s.meetsOverlap k x.corners else none
  let sender := match entry with
    | some e => if e.2.node < (s.fab.id.getD 0).toNat then some e.1 else none
    | none => none
  let mine := fun (e : Nat × JointMsg) => on && sender.isNone && e.1 == f.id && e.2.sym == x.sym.setWidth 8
    && sameSymbol e.2.corners x.corners
  let msgs := (s.dec.jxFrame.filter mine).map (·.2)
  let c : Candidate := ⟨s.dec.nextCand, f.id, f.ts, x, sender,
    entry.isSome && sender.isNone && msgs.isEmpty, on, msgs⟩
  ({ s with dec := { s.dec with
      ready := s.dec.ready ++ [c], nextCand := s.dec.nextCand + 1
      jxFrame := s.dec.jxFrame.filter fun e => !mine e } }.updFrame f.id fun f => { f with cands := f.cands + 1 }).schedule

/-- The locator forms the candidate `x` of frame `f`: both units run, its symbology and polarity are searched, a tile that it
touches has the finder signature, and its tile rows are complete (R277, R278). Within the limits of Table LD.2 it is formed; outside
one it may be (R287).
Log 114 (DEDUCED). -/
def State.forms (s : State) (f : Frame) (x : CandInfo) : Bool :=
  s.enabledAt Fld.locEnable && s.enabledAt Fld.decEnable && decide (x.sym ≠ 0) && f.symEn.getLsbD (x.sym.toNat - 1)
    && f.polarityOn x && f.signed x && f.ready x && (f.inLimits x || Config.beyondLimits s.fresh)

/-- CANDIDATE_ARRIVAL: a ready candidate reaches DECODE; one that overlaps an earlier one of its symbology by more than half is
merged into that one, and beyond LOC.CAND_MAX it is dropped (R278, R279, R284).
Log 54 (DESIGN CHOICE), 55 (DEDUCED), 116 (DEDUCED). -/
def execCandidateArrival (k : CtxId) (fidx : Word) (x : CandInfo) (s : State) : Host.Outcome State Fault Refusal :=
  .next (match s.frames.find? fun f => f.ctx == k && f.fidx == some fidx && f.noticed && !f.passed with
    | none => s
    | some f =>
      let s0 : State := if f.inLimits x then s else { s with fresh := s.fresh + 1 }
      if !s.forms f x || f.found.any (fun e => e.1 == x.sym && sameSymbol e.2 x.corners) then s0
      else
        let s1 := (s0.updFrame f.id fun f => { f with found := f.found ++ [(x.sym, x.corners)] }).countWrap
          (Fld.locCandCount k.val) 1
        if f.candMax ≤ f.cands then
          (s1.count16 (Fld.locCandDropCount k.val)).updFrame f.id fun f => { f with dropCand := f.dropCand + 1 }
        else s1.queueCandidate k f x)

/-- A candidate fails (R285): no result. A sender's is counted as not sent instead (R302). -/
def State.failCandidate (s : State) (c : Candidate) : State :=
  match c.sender with
  | some _ => s.count16 Fld.decJxNosendCount
  | none => (s.countWrap Fld.decFailCount 1).updFrame c.fid fun f => { f with failed := f.failed + 1 }

/-- A Graga result (Table LD.1). -/
def Result.isGraga (r : Result) : Bool := decide (6 ≤ r.sym.toNat)

/-- A core has a result: it counts in its frame, unless the frame has 256 already (R289, R291). -/
def State.giveResult (s : State) (i : Fin 16) (f : Frame) (c : Candidate) (r : Result) : State :=
  if 256 ≤ f.syms + f.gragas then
    (((s.freeCore i).count16 Fld.decSymDropCount).updFrame f.id fun f => { f with dropRes := f.dropRes + 1 }).schedule
  else
    let s1 := s.countWrap Fld.decDecodedCount 1
    let s2 := if r.stitched then s1.countWrap Fld.decJxStitchedCount 1 else s1
    let s3 := s2.updFrame f.id fun f =>
      { f with syms := if r.isGraga then f.syms else f.syms + 1, gragas := if r.isGraga then f.gragas + 1 else f.gragas
               stitched := if r.stitched then f.stitched + 1 else f.stitched }
    { s3 with dec := { s3.dec with
        cores := s3.dec.cores.set i.val (.holding f.id r) i.isLt
        outlines := if r.stitched then s3.dec.outlines else s3.dec.outlines ++ [(f.id, r.sym, c.info.corners)] } }

/-- A core ends with its candidate. -/
def State.resolve (s : State) (i : Fin 16) (out : DecodeOutcome) : State :=
  match s.dec.cores[i] with
  | .busy c =>
    match s.frame? c.fid with
    | none => (s.freeCore i).schedule
    | some f =>
      match c.sender with
      | some e =>
        let g := match out with
          | .grid g => some g
          | _ => none
        ((s.freeCore i).sendJoint c f e g).schedule
      | none =>
        match f.resultOf s.dec.bad c out with
        | some r => s.giveResult i f c r
        | none => ((s.freeCore i).failCandidate c).schedule
  | _ => s

/-! ### Tile store -/

/-- Byte `b` of slot `n` as the store holds it: the luma plane of the slot's tile, line by line, then its binarised plane, eight
pixels a byte; a slot that no frame holds has no content that the manual states (R263, R280).
Log 110 (DEDUCED). -/
def State.slotByte (s : State) (n b : Nat) : Option Byte :=
  (s.frames.find? fun f => f.slots.contains n).bind fun f =>
    let k := f.slots.idxOf n
    let px := f.tilePixel (k % f.tilesAcross) (k / f.tilesAcross)
    if b < 1024 then some (BitVec.ofNat 8 (px (b % 32) (b / 32)).1)
    else if b < 1152 then
      let o := 8 * (b - 1024)
      some (BitVec.ofNat 8 ((List.range 8).map fun i => if (px ((o + i) % 32) ((o + i) / 32)).2 then 2 ^ i else 0).sum)
    else none

/-- TILE_ECC with its count, event and freeze (R283). -/
def State.tileEcc (s : State) (arg : Nat) : State :=
  (((s.count16 Fld.decEccUncorrCount).raise 2 40).bbEvent 0x09#7 0xFF#8 0x0002#16 (BitVec.ofNat 32 arg)).freezeIf 0x14#8
    [4, 5] 3

/-- Core `i` fails the candidate `n` that it works on, and its frame is damaged. -/
def State.failBusy (n : Nat) (s : State) (i : Fin 16) : State :=
  match s.dec.cores[i] with
  | .busy c => if c.n = n then ((s.markDamaged [c.fid]).resolve i .failed) else s
  | _ => s

/-- A candidate of the queue fails, and its frame is damaged. -/
def State.failWaiting (s : State) (c : Candidate) : State := (s.failCandidate c).markDamaged [c.fid]

/-- The record of candidate `n` is broken: the candidate fails, waiting or at work (R283). -/
def State.recordBroken (s : State) (n : Nat) : State :=
  let hit := s.dec.ready.filter fun c => c.n == n
  let s1 : State := { s with dec := { s.dec with ready := s.dec.ready.filter fun c => c.n != n } }
  (List.finRange 16).foldl (State.failBusy n) (hit.foldl State.failWaiting s1)

/-- The slot of a store word, `none` among the records (R280).
Log 110 (DEDUCED). -/
def slotOf (w : Nat) : Option Nat := if w < 21760 * 144 then some (w / 144) else none

/-- Word `w` of slot `n` stays bad until the slot is retired (R283). -/
def State.markBad (s : State) (w n : Nat) : State :=
  if s.dec.bad.contains w || s.dec.retired.contains n then s
  else { s with dec := { s.dec with bad := s.dec.bad ++ [w] } }

/-- A read of store word `w` finds what `f` says: a single-bit error is corrected in the data used and written back, and counted;
an uncorrectable one is reported, damages the frame that holds the slot or record, fails the candidate whose record it is, and
leaves the word bad until its slot is retired (R282, R283). -/
def State.storeRead (s : State) (w : Nat) (f : StoreFinding) : State :=
  match f with
  | .clean => s
  | .corrected => s.countSat 32 Fld.decEccCorrCount 1
  | .uncorrectable holder =>
    match slotOf w with
    | some n =>
      let ids := (s.frames.filter fun g => g.slots.contains n).map (·.id)
      ((s.tileEcc n).markDamaged ids).markBad w n
    | none =>
      let s1 := s.tileEcc 0xFFFF
      match holder with
      | .nobody => s1
      | .evidence k fidx => s1.markDamaged ((s1.frames.filter fun g => g.ctx == k && g.fidx == some fidx).map (·.id))
      | .candidate n => s1.recordBroken n

/-- The scrub period in ns (Table LD.11). -/
def State.scrubNs (s : State) : Nat := heldTo 10 1000 (s.getN Fld.decScrubMs) * 1000000

/-- TILE_SCRUB: the scrubber reads the next word of the store. Once it has read every word, the next period begins no earlier than
DEC.SCRUB_MS after the last began (R282).
Log 110 (DEDUCED). -/
def execTileScrub (f : StoreFinding) (s : State) : Host.Outcome State Fault Refusal :=
  .next (if !s.enabledAt Fld.decEnable then s
    else if s.dec.scrub < storeWords then
      ({ s with dec := { s.dec with scrub := s.dec.scrub + 1 } } : State).storeRead s.dec.scrub f
    else if s.nowNs < s.dec.scrubFrom + s.scrubNs then s
    else ({ s with dec := { s.dec with scrub := 1, scrubFrom := s.nowNs } } : State).storeRead 0 f)

/-- The scrubber starts a new period (R310). -/
def State.scrubStart (s : State) : State := { s with dec := { s.dec with scrub := 0, scrubFrom := s.nowNs } }

/-- The slots among `l` that hold a bad word are retired as they are freed (R283). -/
def Dec.freeSlots (d : Dec) (l : List Nat) : Dec :=
  { d with
    retired := d.retired ++ l.filter fun n => d.bad.any fun w => w / 144 == n
    bad := d.bad.filter fun w => !l.contains (w / 144) }

/-- DECODE_RESOLVED: the core's reads of the store find what they find, and it ends with its candidate (R282 to R285).
Log 54 (DESIGN CHOICE). -/
def execDecodeResolved (core : Fin 16) (out : DecodeOutcome) (s : State) (reads : List (Nat × StoreFinding) := []) :
    Host.Outcome State Fault Refusal :=
  .next (match s.dec.cores[core] with
    | .busy _ => (reads.foldl (fun (s : State) (r : Nat × StoreFinding) => s.storeRead r.1 r.2) s).resolve core out
    | _ => s)

/-- CORE_TIME_EXPIRY: the maximum core time runs out and the candidate fails (R284). -/
def execCoreTimeExpiry (core : Fin 16) (s : State) : Host.Outcome State Fault Refusal :=
  .next (s.resolve core .failed)

/-! ### Results in CORE -/

/-- The payload digest of a result (R298). -/
def payloadDigest (sym : BitVec 3) (payload : List Byte) : BitVec 64 :=
  BitVec.ofNat 64 (leNat ((sha256 (sym.setWidth 8 :: payload)).take 8))

/-- The watch-list lookup (R299). -/
def State.lookedUp (s : State) (r : Result) : Bool :=
  s.enabledAt Fld.wlEnable && s.getB Fld.wlSymMask (r.sym.toNat - 1)
def State.listed (s : State) (r : Result) : Bool :=
  s.lookedUp r && s.former.watch.contains (payloadDigest r.sym r.payload)

/-- RESULT_ARRIVAL: a result reaches CORE, is looked up and enters the result queue with its tag; a full queue holds it
in its core (R291, R299, R342). -/
def execResultArrival (core : Fin 16) (s : State) : Host.Outcome State Fault Refusal :=
  .next (match s.dec.cores[core] with
    | .holding fid r =>
      if 1024 ≤ s.former.results.length then s
      else
        let hit := s.listed r
        let s1 := if s.lookedUp r then s.countWrap Fld.wlLookupCount 1 else s
        let s2 := if hit then
            (s1.countWrap Fld.wlMatchCount 1).updFrame fid fun f => { f with matches_ := f.matches_ + 1 } else s1
        ({ s2 with former := { s2.former with
            results := s2.former.results ++ [{ r with tag := s2.former.nextTag, match_ := hit }]
            nextTag := s2.former.nextTag + 1 } }.freeCore core).schedule
    | _ => s)

/-! ### Deciding a frame -/

/-- The frame forms no more candidates; messages that have found none are merged on their own (R304). -/
def State.passFrame (s : State) (f : Frame) : State :=
  let s1 := s.updFrame f.id fun f => { f with passed := true }
  let mine := s1.dec.jxFrame.filter fun e => e.1 == f.id
  let s2 := { s1 with dec := { s1.dec with jxFrame := s1.dec.jxFrame.filter fun e => e.1 != f.id } }
  mine.foldl (fun s e => s.joinFrame { f with passed := true } e.2) s2

/-- CLOSING_PASS_END: the locator's closing pass over the frame's last tile row ends (R304, R307).
Log 57 (DEDUCED). -/
def execClosingPassEnd (k : CtxId) (fidx : Word) (s : State) : Host.Outcome State Fault Refusal :=
  .next (match s.frames.find? fun f => f.ctx == k && f.fidx == some fidx && f.closed && f.noticed && !f.passed with
    | none => s
    | some f => s.passFrame f)

/-- A candidate of frame `id` is not yet resolved, or its result has not left its core.
Log 57 (DEDUCED). -/
def Dec.unresolved (d : Dec) (id : Nat) : Bool :=
  (d.ready.any fun c => c.fid == id) || d.cores.toList.any fun c => match c with
    | .free => false
    | .busy c => c.fid == id
    | .holding f _ => f == id

/-- The frame is decided (R307).
Log 55 (DEDUCED). -/
def State.decidable (s : State) (f : Frame) : Bool :=
  f.closed && f.fidx.isSome && f.passed && !s.dec.unresolved f.id

/-- Without the locator there is no closing pass: a closed frame passes at once (R307, R309).
Log 55 (DEDUCED). -/
def State.passIdle (s : State) (k : CtxId) : State :=
  match s.frames.find? fun f => f.ctx == k with
  | some f => if f.closed && f.fidx.isSome && !f.passed && !s.enabledAt Fld.locEnable then s.passFrame f else s
  | none => s

/-- The notice of a frame (R308). -/
def State.noticeOf (s : State) (f : Frame) : Notice :=
  { tag := 0, ctx := f.ctx, fidx := f.fidx.getD 0, ts := f.ts, damaged := f.damaged, truncated := f.truncated
    overloaded := f.overloaded, syms := f.syms, gragas := f.gragas, matches_ := f.matches_, stitched := f.stitched
    failed := f.failed, dropCand := f.dropCand, dropRes := f.dropRes, jxSent := f.jxSent
    emb := if f.embOn then some f.emb else none, embOvf := f.embOvf }

/-- The earliest undecided frame of the context, once decided, gives its notice and frees its slots; slots with an uncorrectable
error are retired (R281, R283, R308).
Log 55 (DEDUCED). -/
def State.giveNotice (s : State) (k : CtxId) : State :=
  match s.frames.find? fun f => f.ctx == k with
  | none => s
  | some f =>
    if !s.decidable f then s
    else
      { s with
        frames := s.frames.filter fun g => g.id != f.id
        dec := { s.dec.freeSlots f.slots with
          notices := s.dec.notices ++ [s.noticeOf f]
          jxFrame := s.dec.jxFrame.filter fun e => e.1 != f.id
          outlines := s.dec.outlines.filter fun o => o.1 != f.id
          decided := ((f.ctx, f.ts) :: s.dec.decided).take 1024 } }

/-- FRAME_DECIDE_NOTICE: the next notice of the context is due (R308). -/
def execFrameDecideNotice (k : CtxId) (s : State) : Host.Outcome State Fault Refusal := .next ((s.passIdle k).giveNotice k)

/-- NOTICE_ARRIVAL: the oldest notice in transit enters the 64-entry decide queue with its tag (R308, R317). -/
def execNoticeArrival (s : State) : Host.Outcome State Fault Refusal :=
  .next (match s.dec.notices with
    | [] => s
    | n :: r =>
      if 64 ≤ s.vs.decide_.length then s
      else { s with dec := { s.dec with notices := r }
                    vs := { s.vs with headFrom := if s.vs.decide_.isEmpty then s.nowNs else s.vs.headFrom
                                      decide_ := s.vs.decide_ ++ [{ n with tag := s.vs.nextTag }]
                                      nextTag := s.vs.nextTag + 1 } })

/-- DEC.ENABLE cleared: every queued and running candidate fails, waits end, slots are freed (R309). -/
def State.decStop (s : State) : State :=
  let run := s.dec.cores.toList.filterMap fun c => match c with
    | .busy c => some c
    | _ => none
  let s1 := (s.dec.ready ++ run).foldl State.failCandidate s
  { s1 with dec := { s1.dec with
      ready := [], jxFrame := [], jxWait := [], jxIn := []
      cores := s1.dec.cores.map fun c => match c with
        | .busy _ => .free
        | c => c } }

/-- A field write of the DEC unit that takes effect. -/
def State.decNow (s : State) (a : Nat) (v : Word) : State :=
  let s1 := s.setF a v
  if decide (a = Fld.decEnable) && s.enabledAt Fld.decEnable && !v.getLsbD 0 then s1.decStop else s1

/-- Joint-exchange waits end at once (R310). -/
def State.jointEnd (s : State) : State :=
  { s with dec := { s.dec with
      jxIn := [], jxWait := []
      ready := s.dec.ready.map fun (c : Candidate) => { c with waits := false } } }.schedule

end Sys2Proof.Machine
end

