-- ==== Sys2Proof/Machine/Links.lean ====
section
/-! DEFINITION. The record queues of the three links and the pair link's outgoing messages, as operations that the record
former and the links share (R341, R353 to R357, R379, R428, R465). -/

namespace Sys2Proof.Machine

/-! ### Serial arithmetic and record bytes -/

/-- "a precedes b" (R340). -/
def precedes (a b : Word) : Bool := decide (1 ≤ (b - a).toNat) && decide ((b - a).toNat < 2 ^ 31)

/-- "a is at or before b" (R340). -/
def atOrBefore (a b : Word) : Bool := decide (a = b) || precedes a b

/-- The sequence number, type, flags, context, frame index and verdict word of a Form 2 record (Table UR.1). -/
def recSeq (r : List Byte) : Word := BitVec.ofNat 32 (leAt r 4 4)
def recType (r : List Byte) : Nat := byteAt r 1
def recFlags (r : List Byte) : Byte := r.getD 0x11 0
def recCtx (r : List Byte) : Byte := r.getD 0x10 0
def recFidx (r : List Byte) : Word := BitVec.ofNat 32 (leAt r 0x14 4)
def recWord (r : List Byte) : BitVec 16 := BitVec.ofNat 16 (leAt r 0x12 2)

/-- The record with the replay flag (R433). -/
def withReplay (r : List Byte) : List Byte := r.set 0x11 (recFlags r ||| 0x10#8)

/-- The record with a sequence number. -/
def withSeq (r : List Byte) (n : Word) : List Byte := r.take 4 ++ leBytes 4 n.toNat ++ r.drop 8

/-! ### Pair link -/

/-- Bytes that a message holds of the mirror queue. -/
def msgSize : PairMsg → Nat
  | .decision _ _ r => 16 + r.length
  | .record r => 16 + r.length
  | _ => 16

/-- The engine is the active engine of a running pair. -/
def State.pairActive (s : State) : Bool := decide (s.pair.mode = .active)

/-- Sends a message on the pair link, where the link is up; a mirror queue past 2 MiB leaves the partner unsynced
(R422, R428). -/
def State.pairSend (s : State) (m : PairMsg) : State :=
  if !s.pair.linkUp then s
  else
    let out := s.pair.out ++ [(s.pair.txSeq, m)]
    let tooLong := decide (2 * 1024 * 1024 < (out.map fun e => msgSize e.2).sum)
    { s with pair := { s.pair with out := out, txSeq := s.pair.txSeq + 1, synced := s.pair.synced && !tooLong } }

/-- Sends a mirror message, as the active engine does (R428). -/
def State.mirror (s : State) (m : PairMsg) : State := if s.pairActive then s.pairSend m else s

/-! ### USB queue -/

/-- Bytes in a queue. -/
def queueBytes (q : List QRec) : Nat := (q.map fun r => r.bytes.length).sum

/-- A queue has no room for a record of `n` bytes (R353). -/
def queueFull (q : List QRec) (n : Nat) : Bool :=
  decide (1024 ≤ q.length) || decide (1024 * 1024 < queueBytes q + n)

/-- The USB function may move records on endpoint 0x81: ACTIVE is high and the engine not halted (R354, R356). -/
def State.usbStreams (s : State) : Bool :=
  let u := s.usb
  u.attached && u.configured && !u.suspended && !u.halted1 && decide (u.testMode = 0) && s.activeLevel
    && decide (s.phase ≠ .halted)

/-- The packet size of the bulk endpoints (Table UR.7). -/
def Usb.packetSize (u : Usb) : Nat := if u.speed = 3 then 1024 else if u.speed = 2 then 512 else 64

/-- A transfer of `b` in packets of at most `n` bytes; one whose length is a multiple of the packet size ends with a zero-length
packet (R354). `k` bounds the packets. -/
def packetsOf (n : Nat) : Nat → List Byte → List (List Byte)
  | 0, _ => []
  | k + 1, b => if b.length < n then [b] else b.take n :: packetsOf n k (b.drop n)

/-- The packets of the transfer in progress on endpoint 0x81: the record at the send pointer, or the oldest forwarded record
(R354, R466). -/
def State.usbPackets (s : State) : List (List Byte) :=
  let b := if s.usb.busy then (s.usb.queue[s.usb.next]?).map (·.bytes)
    else if s.fab.fwdBusy then (s.fab.fwd.head?).map (·.2) else none
  match b with
  | some b => packetsOf s.usb.packetSize (b.length / s.usb.packetSize + 1) b
  | none => []

/-- Endpoint 0x81 starts its next transfer: the engine's own records, and a gateway's forwarded records, alternately
while both wait (R354, R466).
Log 65 (DEDUCED). -/
def State.usbStart (s : State) : State :=
  if s.usb.busy || s.fab.fwdBusy || !s.usbStreams then s
  else
    let own := decide (s.usb.next < s.usb.queue.length)
    let fwd := !s.fab.fwd.isEmpty
    if fwd && (s.fab.fwdTurn || !own) then { s with fab := { s.fab with fwdBusy := true, fwdTurn := false } }
    else if own then { s with usb := { s.usb with busy := true }, fab := { s.fab with fwdTurn := true } }
    else s

/-- Drops the oldest record of the USB queue that is not in transfer (R353). -/
def State.usbDrop (s : State) : State :=
  let u := s.usb
  let i := if u.busy ∧ u.next = 0 then 1 else 0
  match u.queue[i]? with
  | none => s
  | some r =>
    ({ s with usb := { u with queue := u.queue.eraseIdx i, next := if i < u.next then u.next - 1 else u.next } }.countSat
      32 Fld.usbDropCount 1).mirror (.ackMark .usb 0 (some (recSeq r.bytes)))

/-- Drops until a record of `n` bytes fits, at most `k` times.
Log 65 (DEDUCED). -/
def State.usbRoom : Nat → State → Nat → State
  | 0, s, _ => s
  | k + 1, s, n => if queueFull s.usb.queue n then State.usbRoom k s.usbDrop n else s

/-- A record arrives at the USB queue (R353). -/
def State.usbPush (s : State) (r : List Byte) : State :=
  let s1 := State.usbRoom 1025 s r.length
  { s1 with usb := { s1.usb with queue := s1.usb.queue ++ [QRec.mk r false] } }.usbStart

/-- Acknowledges up to `n` (R357): sent records at or before `n` leave the queue, the one in transfer when its transfer
ends. -/
def Usb.ack (u : Usb) (n : Word) : Usb :=
  match u.queue.head? with
  | none => u
  | some h =>
    if precedes n (recSeq h.bytes) then u
    else
      let covered := fun (e : QRec) => e.sent && atOrBefore (recSeq e.bytes) n
      let cur := (u.queue[u.next]?).map fun e => recSeq e.bytes
      let held := fun (e : QRec) => u.busy && decide (some (recSeq e.bytes) = cur)
      let go := fun (e : QRec) => covered e && !held e
      { u with queue := u.queue.filter fun e => !go e
               next := u.next - ((u.queue.take u.next).filter go).length
               busyAcked := u.busyAcked || u.queue.any fun e => covered e && held e }

/-! ### Serial queue -/

/-- The item of a serial record that must not be dropped: on the line or awaiting acknowledgement (R379). -/
def Ser.protected_ (x : Ser) (i : Nat) : Bool :=
  (decide (i = x.next) && !x.withdrawn && (x.phase == .record || x.phase == .window || x.phase == .retry || x.phase == .backoff))
    || ((x.queue[i]?).map (·.sent)).getD false

/-- The record to drop from a full serial queue (R379). -/
def Ser.victim (x : Ser) : Option Nat :=
  let all := List.range x.queue.length
  match all.find? fun i => !x.protected_ i && !((x.queue[i]?).map (·.urgent)).getD false with
  | some i => some i
  | none => (all.find? fun i => !x.protected_ i).orElse fun _ => all.find? fun i =>
      !(decide (i = x.next) && decide (x.phase ≠ .idle))

/-- An urgent record: its verdict class is in SER.URGENT_CLASS, or it is a gap record (R379). -/
def State.urgent (s : State) (r : List Byte) : Bool :=
  decide (recType r = 3)
    || (decide (recType r = 1) && s.getB Fld.serUrgentClass ((recWord r).toNat / 4 % 4))

/-- A record arrives at the serial queue (R379, R380). -/
def State.serPush (s : State) (r : List Byte) : State :=
  let s1 := if s.ser.queue.length < 256 then s
    else match s.ser.victim with
      | none => s
      | some i =>
        let d := (s.ser.queue[i]?).map fun e => recSeq e.rec2
        ({ s with ser := { s.ser with queue := s.ser.queue.eraseIdx i, dropped := true
                                      next := if i < s.ser.next then s.ser.next - 1 else s.ser.next } }.countSat 32
          Fld.serDropCount 1).mirror (.ackMark .ser 0 d)
  { s1 with ser := { s1.ser with
      queue := s1.ser.queue ++ [⟨r, s1.ser.noListener, s1.urgent r, none, false⟩] } }

/-- Acknowledges up to `n` on the serial line (R381). -/
def Ser.ack (x : Ser) (n : Word) : Ser :=
  match x.queue.head? with
  | none => x
  | some h =>
    if precedes n (recSeq h.rec2) then x
    else
      let go := fun (e : SerRec) => e.sent && atOrBefore (recSeq e.rec2) n
      { x with queue := x.queue.filter fun e => !go e
               next := x.next - ((x.queue.take x.next).filter go).length }

/-! ### Fabric gateway queue -/

/-- The gateway node named in MOR.GW_NODE, where the gateway link runs (R465, R480). -/
def State.gateway (s : State) : Option (BitVec 6) :=
  let g := s.getF Fld.morGwNode
  let d : BitVec 6 := g.setWidth 6
  if s.getB Fld.recLinks 2 && g.getLsbD 6 && s.fab.id.isSome && decide (s.fab.id ≠ some d) && s.anyMor && s.activeRole then
    some d
  else none

/-- Sends queued records, at most 8 of them undelivered (R465). -/
def State.gwPump : Nat → State → State
  | 0, s => s
  | k + 1, s =>
    match s.gateway, s.fab.gw[s.fab.gwNext]? with
    | some d, some r =>
      if 8 ≤ s.fab.gwNext then s
      else
        let s1 := s.updFab fun x => { x with
          gwNext := x.gwNext + 1, gw := x.gw.set x.gwNext { r with sent := true } }
        State.gwPump k (s1.originate d 2 1 false r.bytes)
    | _, _ => s

/-- Drops until a record of `n` bytes fits, at most `k` times. -/
def State.gwRoom : Nat → State → Nat → State
  | 0, s, _ => s
  | k + 1, s, n =>
    match s.fab.gw with
    | [] => s
    | r :: q =>
      if queueFull s.fab.gw n then
        State.gwRoom k (((s.updFab fun x => { x with gw := q, gwNext := x.gwNext - 1 }).countSat 32 Fld.morGwDropCount
          1).mirror (.ackMark .gw 0 (some (recSeq r.bytes)))) n
      else s

/-- A record arrives at the fabric gateway queue (R465). -/
def State.gwPush (s : State) (r : List Byte) : State :=
  let s1 := State.gwRoom 1025 s r.length
  State.gwPump 8 (s1.updFab fun x => { x with gw := x.gw ++ [⟨r, false⟩] })

/-- DELIVERED up to `n` (R465, R357). -/
def Fabric.gwAck (x : Fabric) (n : Word) : Fabric :=
  let go := fun (e : QRec) => e.sent && atOrBefore (recSeq e.bytes) n
  { x with gw := x.gw.filter fun e => !go e, gwNext := x.gwNext - ((x.gw.take x.gwNext).filter go).length }

/-- The gateway link sends again from its oldest undelivered record, with the restart flag (R467). -/
def State.gwRestart (s : State) : State :=
  match s.gateway with
  | none => s.updFab fun x => { x with gwNext := 0 }
  | some d => State.gwPump 8 (s.updFab fun x =>
      { x.setOut { x.outFlow d 2 with restart := true } with gwNext := 0 })

/-! ### All links -/

/-- The serial line runs (R370). -/
def State.serOn (s : State) : Bool := s.enabledAt Fld.serEnable && decide (s.strap 10 ≠ 0)

/-- A link takes records: named in REC.LINKS, its unit enabled and running (R341). -/
def State.linkTakes (s : State) (l : LinkId) : Bool :=
  match l with
  | .usb => s.getB Fld.recLinks 0 && s.enabledAt Fld.usbEnable
  | .ser => s.getB Fld.recLinks 1 && s.serOn
  | .gw => s.gateway.isSome

/-- The fabric gateway queue of a standby takes mirrored records whatever its pair state (R428). -/
def State.linkMirrors (s : State) (l : LinkId) : Bool :=
  match l with
  | .gw => s.getB Fld.recLinks 2 && s.getB Fld.morGwNode 6 && s.anyMor
  | l => s.linkTakes l

/-- A record goes to every link that takes records (R341). -/
def State.toLinks (s : State) (takes : State → LinkId → Bool) (r : List Byte) : State :=
  let s1 := if takes s .usb then s.usbPush r else s
  let s2 := if takes s .ser then s1.serPush r else s1
  if takes s .gw then s2.gwPush r else s2

/-- RECORD_SPACE: every link named can queue one more record of any length without dropping one (R344). -/
def State.recordSpace (s : State) : Bool :=
  (!s.linkTakes .usb || !queueFull s.usb.queue 4096) && (!s.linkTakes .ser || decide (s.ser.queue.length < 256))
    && (!s.linkTakes .gw || !queueFull s.fab.gw 4096)

end Sys2Proof.Machine
end

