-- ==== Sys2Proof/Machine/Record.lean ====
section
/-! DEFINITION. Result records: Form 2 and Form 1, their formation and numbering, and the result queue (R339 to R348,
R429). -/

namespace Sys2Proof.Machine

/-! ### Form 2 -/

/-- An item: type, reserved byte, value length, value, padding (R346). -/
def recItem (kind : Nat) (v : List Byte) : List Byte :=
  [BitVec.ofNat 8 kind, 0] ++ leBytes 2 v.length ++ pad4 v

/-- A flag byte, bit 0 first. -/
def flagByte (l : List Bool) : Byte := BitVec.ofNat 8 (packBits l)

/-- The flags of a result (Table UR.3). -/
def Taken.flags (t : Taken) : Byte :=
  flagByte [t.res.mirrored, t.res.stitched, t.res.gs1, t.res.light, t.res.rune, t.res.match_, t.bare]

/-- The symbol item of a result (Table UR.3). -/
def symbolItem (t : Taken) : List Byte :=
  let r := t.res
  let p := if t.bare then [] else r.payload
  recItem 1 ([r.sym.setWidth 8, t.flags] ++ leBytes 2 r.orient
    ++ [BitVec.ofNat 8 r.tilt, BitVec.ofNat 8 r.contrast, BitVec.ofNat 8 r.modulation, 0]
    ++ leBytes 2 r.module ++ [BitVec.ofNat 8 (min 255 r.corrected), BitVec.ofNat 8 (min 255 r.erasures)]
    ++ (((List.range 4).map fun i => r.corners.getD i (0, 0)).flatMap fun c =>
        leBytes 4 (BitVec.ofInt 32 c.1).toNat ++ leBytes 4 (BitVec.ofInt 32 c.2).toNat)
    ++ leBytes 2 p.length ++ p)

/-- The Graga item of a result (Table UR.4); without its payload, the ID reads 0.
Log 63 (DEDUCED). -/
def gragaItem (t : Taken) : List Byte :=
  let r := t.res
  recItem 2 ([r.sym.setWidth 8, t.flags] ++ leBytes 2 r.orient ++ leBytes 4 (if t.bare then 0 else leNat r.payload)
    ++ leBytes 4 (BitVec.ofInt 32 r.cx).toNat ++ leBytes 4 (BitVec.ofInt 32 r.cy).toNat ++ leBytes 2 r.radius
    ++ [BitVec.ofNat 8 r.contrast, 0])

/-- The counts item of a notice (Table UR.2). -/
def countsItem (n : Notice) : List Byte :=
  recItem 3 ([n.syms, n.gragas, n.matches_, n.stitched, n.failed, n.dropCand, n.dropRes, n.jxSent].flatMap fun c =>
    leBytes 2 (min 0xFFFF c))

/-- Leaves out whole items from the end until at most `room` bytes remain (R347). -/
def fitItems (room : Nat) : List (List Byte) → List (List Byte)
  | [] => []
  | i :: r => if i.length ≤ room then i :: fitItems (room - i.length) r else []

/-- The header of a Form 2 record (Table UR.1). -/
def State.recHeader (s : State) (kind len : Nat) (seq : Word) (ts ctx : Nat) (flags : Byte) (word : BitVec 16)
    (fidx : Word) (items : Nat) : List Byte :=
  [2, BitVec.ofNat 8 kind] ++ leBytes 2 len ++ leBytes 4 seq.toNat ++ leBytes 8 ts
    ++ [BitVec.ofNat 8 ctx, flags] ++ leBytes 2 word.toNat ++ leBytes 4 fidx.toNat
    ++ leBytes 2 (presentWord s.identity.variant).toNat ++ leBytes 2 s.sys.enabled.toNat
    ++ [partCode s.identity.variant, steppingCode s.identity.stepping,
        match s.fab.id with | some i => i.setWidth 8 | none => 0xFF, BitVec.ofNat 8 items]

/-- A frame record (R345 to R347), its sequence number given. -/
def State.frameRecord (s : State) (n : Notice) (word : BitVec 16) (ts : List Taken) (seq : Word) : List Byte :=
  let syms := (ts.filter fun t => !t.res.isGraga).map symbolItem
  let grags := (ts.filter fun t => t.res.isGraga).map gragaItem
  let emb := match n.emb with
    | some b => [recItem 4 b]
    | none => []
  let all := countsItem n :: (syms ++ grags ++ emb)
  let kept := fitItems (4096 - 32) all
  let flags := flagByte [n.damaged, n.truncated, n.overloaded, ts.any (·.res.stitched), false, n.embOvf,
    decide (kept.length < all.length), word.getLsbD 12]
  s.recHeader 1 (32 + (kept.map List.length).sum) seq n.ts n.ctx.val flags word n.fidx kept.length ++ kept.flatten

/-- A housekeeping record of the first `n` words (R339).
Log 63 (DEDUCED). -/
def State.hkRecord (s : State) (n : Nat) (seq : Word) : List Byte :=
  let i := recItem 5 ((List.range n).flatMap fun j => leBytes 4 (s.getN (Fld.recHkWord j)))
  s.recHeader 2 (32 + i.length) seq s.nowNs 0xFF 0 0 0 1 ++ i

/-- A gap record (R433, Table UR.2). -/
def State.gapRecord (s : State) (last : Word) (cause : Byte) (seq : Word) : List Byte :=
  let i := recItem 6 (leBytes 4 last.toNat ++ [cause, 0, 0, 0])
  s.recHeader 3 (32 + i.length) seq s.nowNs 0xFF 0 0 0 1 ++ i

/-! ### Form 1 -/

/-- The items of a Form 2 record: type and value. -/
def recItems : Nat → List Byte → List (Nat × List Byte)
  | 0, _ => []
  | n + 1, b =>
    if b.length < 4 then []
    else
      let len := leAt b 2 2
      (byteAt b 0, (b.drop 4).take len) :: recItems n (b.drop (4 + (len + 3) / 4 * 4))

/-- Symbology and payload of the first included result of a record (R348). -/
def firstResult (items : List (Nat × List Byte)) : Byte × List Byte :=
  match items.find? fun i => i.1 == 1 with
  | some (_, v) => (v.getD 0 0, v.drop 46)
  | none =>
    match items.find? fun i => i.1 == 2 with
    | some (_, v) => (v.getD 0 0, if (v.getD 1 0).getLsbD 6 then [] else (v.drop 4).take 4)
    | none => (0, [])

/-- The Form 1 record of a Form 2 record, without bits 0 to 2 of its status byte and without its CRC (Tables UR.5 and
UR.6).
Log 63 (DEDUCED). -/
def form1Body (r : List Byte) : List Byte :=
  let items := recItems 255 (r.drop 32)
  let kind := recType r
  let fl := recFlags r
  let results := (items.filter fun i => i.1 == 1 || i.1 == 2).length
  let status := flagByte [false, false, false, fl.getLsbD 0 || fl.getLsbD 1 || fl.getLsbD 2, fl.getLsbD 3,
    fl.getLsbD 4, fl.getLsbD 7, fl.getLsbD 6 || decide (1 < results)]
  let head := [BitVec.ofNat 8 (16 + kind), status] ++ (r.drop 4).take 4 ++ (r.drop 8).take 6
  let value := fun k => ((items.find? fun i => i.1 == k).map (·.2)).getD []
  let tail :=
    if kind = 1 then
      let c := value 3
      let (sym, p) := firstResult items
      (r.drop 0x14).take 4 ++ [r.getD 0x10 0, BitVec.ofNat 8 (min 255 (leAt c 0 2 + leAt c 2 2))]
        ++ (r.drop 0x12).take 2 ++ [sym, BitVec.ofNat 8 (min 255 p.length)] ++ p.take 8
    else if kind = 2 then (value 5).take 16
    else (value 6).take 5
  (head ++ tail ++ List.replicate 30 0).take 30

/-- A Form 1 record as it is first sent: status bits 0 to 2, and the CRC over bytes 0 to 29 (R348, R380). -/
def form1 (r : List Byte) (noListener superseded dropped : Bool) : List Byte :=
  let b := form1Body r
  let st := b.getD 1 0 ||| flagByte [noListener, superseded, dropped]
  let c := b.set 1 st
  c ++ leBytes 2 (crc16 c).toNat

/-! ### Numbering and formation -/

/-- Numbers left in the reserved block (R429). -/
def State.blockLeft (s : State) : Int := (s.pair.blockEnd - s.former.seqNext + 1).toInt

/-- The active engine asks for its next block when fewer than 128 numbers remain (R429). -/
def State.askBlock (s : State) : State :=
  if s.pairActive && !s.pair.asked && decide (s.blockLeft < 128) && s.pair.linkUp then
    { s with pair := { s.pair with asked := true } }.pairSend (.reserve (s.pair.blockEnd + 256))
  else s

/-- Takes the next sequence number (R340, R429).
Log 62 (DEDUCED). -/
def State.nextSeq (s : State) : State :=
  let s1 := if s.pairActive && decide (s.blockLeft ≤ 0) then s.countSat 32 Fld.pairUnreservedCount 1 else s
  ({ s1 with former := { s1.former with seqNext := s1.former.seqNext + 1 } }.countWrap Fld.recFormedCount 1).askBlock

/-- The engine forms records without sequence numbers: a standby (R428), and one that waits after a sleep.
Log 120 (DEDUCED). -/
def State.holdsRecords (s : State) : Bool :=
  decide (s.pair.mode = .standby) || (decide (s.pair.mode = .wait) && s.pair.wasStandby)

/-- Forms a record (R339 to R341): a standby holds it, an active or solo engine numbers it and gives it to the links, and
an active engine mirrors it as `msg` says.
Log 61 (DEDUCED). -/
def State.formRecord (s : State) (make : Word → List Byte) (msg : List Byte → PairMsg) : State :=
  if !s.enabledAt Fld.recEnable then s
  else if s.holdsRecords then { s with former := { s.former with held := s.former.held ++ [make 0] } }
  else
    let r := make s.former.seqNext
    (s.nextSeq.toLinks State.linkTakes r).mirror (msg r)

/-- The results of a frame that its record takes (R342, R343): those taken before its decision, then every one of the
frame's results still in the queue, with action 0. -/
def Former.forFrame (x : Former) (k : CtxId) (f : Word) : List Taken :=
  (x.taken.filter fun t => t.res.ctx == k && t.res.fidx == f)
    ++ (x.results.filter fun r => r.ctx == k && r.fidx == f).map fun r => ⟨r, false⟩

/-- The former without a frame's results. -/
def Former.dropFrame (x : Former) (k : CtxId) (f : Word) : Former :=
  { x with taken := x.taken.filter fun t => !(t.res.ctx == k && t.res.fidx == f)
           results := x.results.filter fun r => !(r.ctx == k && r.fidx == f) }

/-- REC.RES_TAKE (R342): the tag of the head result takes it with an action.
Log 60 (DEDUCED), 61 (DEDUCED). -/
def State.resTake (s : State) (v : Word) : State :=
  match s.former.results with
  | r :: q =>
    if v.toNat / 16 % 4096 = r.tag.toNat then
      let act := v.toNat % 4
      { s with former := { s.former with
          results := q
          taken := if act = 2 then s.former.taken else s.former.taken ++ [⟨r, decide (act = 1)⟩] } }
    else (s.count16 Fld.recTakeStaleCount).bbEvent 0x0A#7 0xFF#8 0x0004#16 v
  | [] => (s.count16 Fld.recTakeStaleCount).bbEvent 0x0A#7 0xFF#8 0x0004#16 v

/-- A field write of the REC unit that takes effect (Table UR.13).
Log 60 (DEDUCED). -/
def State.recNow (s : State) (a : Nat) (v : Word) : State :=
  if a = Fld.recHkSend then
    let n := v.toNat % 64
    if 1 ≤ n ∧ n ≤ 32 then s.formRecord (s.hkRecord n) .record else s
  else if a = Fld.recResTake then s.resTake v
  else s.setF a v

/-- The REC fields that the unit computes (Table UR.13). -/
def State.readRec (s : State) (a : Nat) : Word :=
  let h := s.former.results.head?
  let of := fun (g : Result → Nat) => BitVec.ofNat 32 ((h.map g).getD 0)
  if a = Fld.recResTag then of fun r => r.tag.toNat
  else if a = Fld.recResCtx then of fun r => r.ctx.val
  else if a = Fld.recResFidx then of fun r => r.fidx.toNat
  else if a = Fld.recResSym then of fun r => r.sym.toNat
  else if a = Fld.recResFlags then of fun r => (Taken.flags ⟨r, false⟩).toNat
  else if a = Fld.recResPlen then of fun r => r.payload.length
  else if Fld.recResPay 0 ≤ a ∧ a ≤ Fld.recResPay 7 then of fun r => leAt r.payload (4 * (a - Fld.recResPay 0)) 4
  else if a = Fld.recSeqNext then s.former.seqNext
  else s.getF a

end Sys2Proof.Machine
end

