-- ==== Sys2Proof/Machine/Verdict.lean ====
section
/-! DEFINITION. Deciding verdicts, and the verdict port (chapter "The verdict port: answers in the same bus cycle"). -/

namespace Sys2Proof.Machine

/-! ### Decisions -/

/-- The verdict word of a notice and a class (R319, Table VP.1). -/
def verdictWord (n : Notice) (cls : Nat) : BitVec 16 :=
  BitVec.ofNat 16 (0x8000
    + (if n.damaged || n.truncated || n.overloaded then 0x2000 else 0)
    + (if 0 < n.matches_ then 0x1000 else 0)
    + min 15 n.syms * 0x100 + min 15 n.gragas * 0x10 + cls % 4 * 4 + epochOf n.fidx)

/-- The frame's entry holds a later frame, PENDING or VALID: one that follows it within half the range of frame indices (R322).
Log 59 (DEDUCED). -/
def State.lapped (s : State) (n : Notice) : Bool :=
  let a := queryAddr n.ctx n.fidx
  decide (s.storeAt a ≠ 0) && decide (s.storeOwner a ≠ n.fidx) && decide ((s.storeOwner a - n.fidx).toNat < 2 ^ 31)

/-- The frame's entry holds its VALID word already (R335, R336). -/
def State.validHeld (s : State) (n : Notice) : Bool :=
  let a := queryAddr n.ctx n.fidx
  (s.storeAt a).getLsbD 15 && decide (s.storeOwner a = n.fidx)

/-- Decides the head notice with a class (R319, R320, R322): the store, the counts, the record. A frame whose mirrored word
is VALID already has its record: a standby forms none more, and after a takeover the second copy carries the replay flag
(R434, Table BP.7).
Log 59 (DEDUCED). -/
def State.decideHead (s : State) (cls : Nat) (auto : Bool) : State :=
  match s.vs.decide_ with
  | [] => s
  | n :: r =>
    let w := verdictWord n cls
    let a := queryAddr n.ctx n.fidx
    let s1 := { s with vs := { s.vs with decide_ := r, headFrom := s.nowNs } }.countWrap Fld.vsDecidedCount 1
    let s2 := if auto then (s1.count16 Fld.vsAutoCount).bbEvent 0x0A#7 (BitVec.ofNat 8 n.ctx.val) 0x0002#16 n.fidx
      else s1
    let s3 := if s.lapped n then
        (s2.count16 Fld.vsLappedCount).bbEvent 0x0A#7 (BitVec.ofNat 8 n.ctx.val) 0x0003#16 n.fidx
      else if s.validHeld n then s2
      else
        let s3 := s2.storeWrite a n.fidx w
        { s3 with vs := { s3.vs with lastDecision := some (a, n.fidx, s.time.core) } }
    let ts := s3.former.forFrame n.ctx n.fidx
    let s4 := { s3 with former := s3.former.dropFrame n.ctx n.fidx }
    if s.validHeld n && s.holdsRecords then s4
    else s4.formRecord (fun k => if s.validHeld n then withReplay (s4.frameRecord n w ts k) else s4.frameRecord n w ts k)
      (.decision a w)

/-- A field write of the VS unit that takes effect: VS.DECIDE decides the head by its tag, or is stale (R318). -/
def State.vsNow (s : State) (a : Nat) (v : Word) : State :=
  if a = Fld.vsDecide then
    match s.vs.decide_ with
    | n :: _ =>
      if v.toNat / 16 % 4096 = n.tag.toNat then s.decideHead (v.toNat % 4) false
      else (s.count16 Fld.vsDecideStaleCount).bbEvent 0x0A#7 0xFF#8 0x0001#16 v
    | [] => (s.count16 Fld.vsDecideStaleCount).bbEvent 0x0A#7 0xFF#8 0x0001#16 v
  else s.setF a v

/-- AUTO_DECISION: a notice has been at the head for VS.AUTO_US (R320); a notice that a VS.DECIDE has just brought to the head has
not (R333, Table VP.5). -/
def execAutoDecision (s : State) : Host.Outcome State Fault Refusal :=
  .next (if s.getN Fld.vsAutoUs = 0 ∨ s.nowNs < s.vs.headFrom + 1000 * s.getN Fld.vsAutoUs then s
    else s.decideHead (s.getN Fld.vsAutoClass) true)

/-! ### The port -/

/-- The port mode: ST12, narrowed to off by VS.VQ_EN (R326, Table VP.3). -/
def State.vqMode (s : State) : Nat :=
  if s.strap 12 ≤ 3 ∧ s.getB Fld.vsVqEn 0 then s.strap 12 else 0

/-- The engine holds the port (R327, R334). -/
def State.holdsPort (s : State) : Bool :=
  decide (s.vqMode ≠ 0) && s.activeRole
    && (s.balls.ready || (decide (s.phase = .sleepEntry) && decide (s.sys.sleepStep < 6)))

/-- VQ_ACT at a rising edge of VQ_CLK: it rises once the enable has crossed its synchroniser, at the third edge after the engine
came to hold the port, with the queue empty and no entry dirty (R27, R328, Table PV.3).
Log 117 (DEDUCED). -/
def State.vqActNext (s : State) : Bool :=
  s.holdsPort && s.vs.dirty.isEmpty && (s.vs.act || (decide (2 ≤ s.vs.enSync) && s.vs.queue.isEmpty))

/-- The level of VQ_ACT as CORE sees it: a change crosses at the third CORE edge after it (R27, Table PV.3).
Log 117 (DEDUCED). -/
def State.actSeen (s : State) : Bool := if s.time.core < s.vs.actCycle + 3 then s.vs.actBefore else s.vs.act

/-- VQ_ACT takes its level, and the enable moves on in its synchroniser. -/
def State.vqEdge (s : State) : State :=
  let moves := s.vqActNext != s.vs.act
  { s with vs := { s.vs with
      act := s.vqActNext, enSync := if s.holdsPort then min 3 (s.vs.enSync + 1) else 0
      actCycle := if moves then s.time.core else s.vs.actCycle
      actBefore := if moves then s.actSeen else s.vs.actBefore } }

/-- VQ_CLK_RISE (R328). -/
def execVqClkRise (s : State) : Host.Outcome State Fault Refusal := .next s.vqEdge

/-- MIRROR_WRITE: one queued update, or after them the dirty entry of lowest frame index, is written to the mirror at an
edge of VQ_CLK (R33, R34). -/
def execMirrorWrite (s : State) : Host.Outcome State Fault Refusal :=
  let v := s.vs
  .next (match v.queue, v.dirty with
    | (a, w) :: r, _ =>
      { s with vs := { v with queue := r, mirror := sparseSet (fun _ => 0) v.mirror a.toNat w } }.backlogEdge.vqEdge
    | [], (a, _) :: r =>
      { s with vs := { v with dirty := r, mirror := sparseSet (fun _ => 0) v.mirror a.toNat (s.storeAt a) }
        }.backlogEdge.vqEdge
    | [], [] => s.vqEdge)

/-- VQ_QUERY: the host presents a query address with VQ_SEL_N low, or takes VQ_SEL_N high (R327, R330). -/
def execVqQuery (addr : Option (BitVec 14)) (s : State) : Host.Outcome State Fault Refusal :=
  .next (match addr with
    | some a => { s with pins := { s.pins with vqSelN := false }, vs := { s.vs with addr := a } }
    | none => { s with pins := { s.pins with vqSelN := true } })

/-- The compact byte of a verdict word (Table VP.3). -/
def compactByte (w : BitVec 16) : Byte :=
  flagByte [w.getLsbD 0, w.getLsbD 1, w.getLsbD 2, w.getLsbD 3, w.getLsbD 12, w.getLsbD 13, w.getLsbD 14, w.getLsbD 15]

/-- The number of ones in a word is even. -/
def evenOnes (w : BitVec 16) : Bool := ((List.range 16).filter fun i => w.getLsbD i).length % 2 == 0

/-- What stands on VQ_D[15:8], VQ_D[7:0] and VQ_PAR; `none` is high-impedance (R326, R327, Table VP.3). -/
def State.vqBalls (s : State) : Option Byte × Option Byte × Option Bool :=
  if !s.holdsPort || s.pins.vqSelN then (none, none, none)
  else
    let w := s.mirrorAt s.vs.addr
    let hi : Byte := (w >>> 8).setWidth 8
    match s.vqMode with
    | 1 => (some hi, some (w.setWidth 8), some false)
    | 2 => (none, some (compactByte w), some false)
    | _ => (some hi, some (w.setWidth 8), some (evenOnes w))

/-- The level of VQ_ACT; `none` is high-impedance (R327). -/
def State.vqAct (s : State) : Option Bool := if s.holdsPort then some s.vs.act else none

/-- The VS fields that the unit computes (Table VP.7); counts beyond a packed field's width saturate. -/
def State.readVs (s : State) (a : Nat) : Word :=
  let of := fun (g : Notice → Nat) => BitVec.ofNat 32 ((s.vs.decide_.head?.map g).getD 0)
  if a = Fld.vsNtcTag then of fun n => n.tag.toNat
  else if a = Fld.vsNtcCtx then of fun n => n.ctx.val
  else if a = Fld.vsNtcFidx then of fun n => n.fidx.toNat
  else if a = Fld.vsNtcTsLo then of fun n => n.ts
  else if a = Fld.vsNtcMarks then of fun n => packBits [n.damaged, n.truncated, n.overloaded]
  else if a = Fld.vsNtcSym then of fun n => min 511 n.syms + min 511 n.gragas * 2 ^ 16
  else if a = Fld.vsNtcMatch then of fun n => min 511 n.matches_ + min 511 n.stitched * 2 ^ 16
  else if a = Fld.vsNtcLoss then of fun n =>
    min 2047 n.failed + min 2047 n.dropCand * 2 ^ 11 + min 1023 n.dropRes * 2 ^ 22
  else if a = Fld.vsNtcJx then of fun n => min 2047 n.jxSent
  else if a = Fld.vsPeekData then (s.storeAt ((s.getF Fld.vsPeekAddr).setWidth 14)).setWidth 32
  else if a = Fld.vsStatus then
    BitVec.ofNat 32 (packBits [s.actSeen, s.holdsPort, s.vs.backlogged, decide (s.vqMode = 0), decide (s.vqMode = 2),
      decide (s.vqMode = 3), decide (s.pair.mode = .standby)])
  else s.getF a

end Sys2Proof.Machine
end

