-- ==== Sys2Proof/Machine/Usb.lean ====
section
/-! DEFINITION. The USB function: attachment, transfers, standard and vendor requests, replay cache (R349 to R367). -/

namespace Sys2Proof.Machine

/-! ### Attachment -/

/-- The USB function runs (R349). A halted engine attaches where ST9 enables USB (R83). -/
def State.usbRuns (s : State) : Bool :=
  if s.phase = .halted then decide (s.strap 9 ≠ 0) else s.enabledAt Fld.usbEnable

/-- SuperSpeed is offered (R349). -/
def State.ssOffered (s : State) : Bool :=
  if s.phase = .halted ∧ !s.boot.started then decide (2 ≤ s.strap 9) && decide (s.identity.variant = .evr8480)
  else s.unitOn 5

/-- The engine is in a phase in which it may be attached: from boot step 7 on, and in a halt (R83, R349, R350). -/
def State.usbPhase (s : State) : Bool :=
  match s.phase with
  | .booting => s.boot.started
  | .running => true
  | .sleepEntry => decide (s.sys.sleepStep < 6)
  | .waking => decide (4 ≤ s.sys.wakeStep)
  | .halted => true
  | _ => false

/-- Attaches where VBUS is present; SuperSpeed first where it is offered (R349). The stream restarts from its oldest
record once configured (R355).
Log 66 (DEDUCED). -/
def State.usbAttach (s : State) : State :=
  if s.usb.attached || !s.usb.vbus || !s.usbRuns || !s.usbPhase then s
  else { s with usb := { s.usb with attached := true, speed := if s.ssOffered then 3 else 2 } }

/-- The record transfer in progress is abandoned: the record stays queued, an acknowledged one leaves (R357, R365). -/
def State.usbDropTransfer (s : State) : State :=
  let u := s.usb
  let u1 := if u.busy && u.busyAcked then { u with queue := u.queue.eraseIdx u.next } else u
  { s with usb := { u1 with busy := false, busyAcked := false }, fab := { s.fab with fwdBusy := false } }

/-- Transfers in progress are abandoned, and tap frames are truncated (R365). -/
def State.usbAbandon (s : State) : State :=
  s.usbDropTransfer.tapsLost (·.isNone)

/-- Address and configuration return to Default (R365). -/
def State.usbDefault (s : State) : State :=
  { s with usb := { s.usb with
      configured := false, suspended := false, address := 0, halted1 := false, halted2 := false } }

/-- Detaches (R350). -/
def State.usbDetach (s : State) : State :=
  if !s.usb.attached then s
  else
    let s1 := s.usbAbandon.usbDefault
    { s1 with usb := { s1.usb with attached := false, speed := 0, testMode := 0 } }

/-- VBUS_PRESENT: present for the debounce (R349). -/
def execVbusPresent (s : State) : Host.Outcome State Fault Refusal :=
  .next ({ s with pins := { s.pins with vbus := true }, usb := { s.usb with vbus := true } }.usbAttach)

/-- VBUS_ABSENT: absent for 1 ms (R350). -/
def execVbusAbsent (s : State) : Host.Outcome State Fault Refusal :=
  .next ({ s with pins := { s.pins with vbus := false }, usb := { s.usb with vbus := false } }.usbDetach)

/-- SUPERSPEED_TRAINING_TIMEOUT: no SuperSpeed link trains, so the function connects for high speed (R349). -/
def execSuperspeedTrainingTimeout (s : State) : Host.Outcome State Fault Refusal :=
  .next (if s.usb.attached && decide (s.usb.speed = 3) && !s.usb.configured then
    { s with usb := { s.usb with speed := 2 } } else s)

/-- A field write of the USB unit that takes effect (Table UR.14). -/
def State.usbNow (s : State) (a : Nat) (v : Word) : State :=
  if a = Fld.usbEnable then
    let s1 := s.setF a v
    if v.getLsbD 0 then s1.usbAttach else s1.usbDetach
  else if a = Fld.usbReqNoteAck then
    if v.getLsbD 0 then { s with usb := { s.usb with noteHigh := false } } else s
  else s.setF a v

/-- USB_BUS_RESET (R365); below SuperSpeed the handshake then gives high or full speed (R349). -/
def execUsbBusReset (highSpeed : Bool) (s : State) : Host.Outcome State Fault Refusal :=
  .next (if !s.usb.attached then s
    else
      let s1 := s.usbAbandon.usbDefault
      let s2 := { s1 with usb := { s1.usb with
        speed := if s1.usb.speed = 3 then 3 else if highSpeed then 2 else 1 } }
      (s2.count16 Fld.usbBusResetCount).raise 3 32)

/-- USB_SUSPEND: suspend, or resume from it, stops nothing (R351). -/
def execUsbSuspend (suspend : Bool) (s : State) : Host.Outcome State Fault Refusal :=
  .next (if !s.usb.attached then s else { s with usb := { s.usb with suspended := suspend } }.usbStart)

/-- U1_U2_ENTRY_REQUEST: rejected; the link stays in U0 (R351). -/
def execU1U2EntryRequest (s : State) : Host.Outcome State Fault Refusal := .next s

/-! ### The result stream -/

/-- The send pointer moves to the oldest record (R355). -/
def State.usbRestart (s : State) : State :=
  let u := s.usb
  let u1 := if u.busy && u.busyAcked then { u with queue := u.queue.eraseIdx u.next } else u
  { s with usb := { u1 with next := 0, busy := false, busyAcked := false } }.usbStart

/-- USB_RECORD_TRANSFER_DONE: the transfer in progress completes; an own record counts as sent, a forwarded one leaves
and DELIVERED goes to its origin; the next transfer starts (R354, R357, R466). While ACTIVE is low the endpoint answers NAK, and
no transfer completes (R356). -/
def execUsbRecordTransferDone (s : State) : Host.Outcome State Fault Refusal :=
  let u := s.usb
  .next (if !s.usbStreams then s
    else if u.busy then
      match u.queue[u.next]? with
      | none => { s with usb := { u with busy := false } }
      | some r =>
        let seq := recSeq r.bytes
        let q := if u.busyAcked then u.queue.eraseIdx u.next else u.queue.set u.next { r with sent := true }
        { s with usb := { u with
            queue := q, next := if u.busyAcked then u.next else u.next + 1, busy := false, busyAcked := false
            sentSeq := if u.sentAny && precedes seq u.sentSeq then u.sentSeq else seq, sentAny := true } }.usbStart
    else if s.fab.fwdBusy then
      match s.fab.fwd with
      | [] => s.updFab fun x => { x with fwdBusy := false }
      | (src, r) :: q =>
        ((s.updFab fun x => { x with fwdBusy := false, fwd := q }).originate src 1 2 false
          (leBytes 4 (recSeq r).toNat)).usbStart
    else s)

/-- USB_TAP_TRANSFER_DONE: a bulk transfer of endpoint 0x82, up to and with a frame end packet, has gone (R358). -/
def execUsbTapTransferDone (s : State) : Host.Outcome State Fault Refusal :=
  let mine := s.usb.taps.filter (·.dest.isNone)
  let n := match mine.findIdx? fun p => byteAt p.bytes 0 == 3 with
    | some i => i + 1
    | none => mine.length
  .next (if s.tapDestLive none then
      { s with usb := { s.usb with
          taps := (s.usb.taps.filter (·.dest.isSome)) ++ mine.drop n } }
    else s)

/-! ### Standard requests -/

/-- The function hears the host: attached, and in no test mode. -/
def State.usbHears (s : State) : Bool := s.usb.attached && decide (s.usb.testMode = 0)

/-- The engine answers on the control endpoint. -/
def State.reply (s : State) (a : Answer) : State :=
  if s.usbHears then { s with usb := { s.usb with answer := a } } else s

/-- The tap endpoint is in the descriptors (Table UR.7). -/
def State.tapDescribed (s : State) : Bool := decide (s.usb.speed = 3) && s.tapEndpoint

/-- The endpoint exists now: the control endpoint, and once configured those of the configuration (R352, Table UR.7). -/
def State.endpointThere (s : State) (ep : Byte) : Bool :=
  decide (ep = 0) || decide (ep = 0x80) || (s.usb.configured && (decide (ep = 0x81) || (decide (ep = 0x82) && s.tapDescribed)))

/-- SET_CONFIGURATION: 1 configures and restarts the send pointer, 0 returns to Address (R355). -/
def execSetConfiguration (v : Byte) (s : State) : Host.Outcome State Fault Refusal :=
  .next (if !s.usbHears then s
    else if v = 1 then
      { s with usb := { s.usb with configured := true, halted1 := false, halted2 := false, answer := .done } }.usbRestart
    else if v = 0 then
      let s1 := s.usbAbandon
      { s1 with usb := { s1.usb with configured := false, answer := .done } }
    else s.reply .stall)

/-- CLEAR_FEATURE(ENDPOINT_HALT): on the result endpoint it restarts the send pointer; on an endpoint that is not there it is a
request error (R352, R355). -/
def execClearFeatureHalt (ep : Byte) (s : State) : Host.Outcome State Fault Refusal :=
  .next (if !s.usbHears || !s.endpointThere ep then s.reply .stall
    else if ep = 0x81 then { s with usb := { s.usb with halted1 := false, answer := .done } }.usbRestart
    else if ep = 0x82 then { s with usb := { s.usb with halted2 := false, answer := .done } }
    else s.reply .done)

/-- SET_INTERFACE: the one interface has the one alternate setting 0 (R352, R355). -/
def execSetInterface (alt : Byte) (s : State) : Host.Outcome State Fault Refusal :=
  .next (if !s.usbHears || !s.usb.configured || decide (alt ≠ 0) then s.reply .stall
    else { s with usb := { s.usb with halted1 := false, halted2 := false, answer := .done } }.usbRestart)

/-- SET_FEATURE_LINK_POWER: U1_ENABLE, U2_ENABLE and function suspend complete without effect (R351). -/
def execSetFeatureLinkPower (s : State) : Host.Outcome State Fault Refusal := .next (s.reply .done)

/-- The bytes of a text. -/
def textBytes (t : String) : List Byte := t.toList.map fun c => BitVec.ofNat 8 c.toNat

/-- A string descriptor: UTF-16 of an ASCII text.
Log 64 (PRESUMED). -/
def stringDescriptor (t : List Byte) : List Byte :=
  [BitVec.ofNat 8 (2 + 2 * t.length), 3] ++ t.flatMap fun b => [b, 0]

/-- Upper-case hex digits of a number, most significant first. -/
def hexDigits : Nat → Nat → List Byte
  | 0, _ => []
  | n + 1, x =>
    let d := x / 16 ^ n % 16
    BitVec.ofNat 8 (if d < 10 then 48 + d else 55 + d) :: hexDigits n x

/-- The product number in a text and as idProduct (Table UR.7). -/
def productText : Variant → String
  | .evr8480 => "8480"
  | .evr8460 => "8460"
  | .evr8440 => "8440"
def productId : Variant → Nat
  | .evr8480 => 0x8480
  | .evr8460 => 0x8460
  | .evr8440 => 0x8440

/-- bcdUSB (Table UR.7). -/
def State.bcdUsb (s : State) : Nat :=
  if s.usb.speed = 3 then 0x0320 else if s.ssOffered then 0x0210 else 0x0200

/-- The device descriptor.
Log 64 (PRESUMED). -/
def State.deviceDescriptor (s : State) : List Byte :=
  [18, 1] ++ leBytes 2 s.bcdUsb ++ [0, 0, 0, if s.usb.speed = 3 then 9 else 64] ++ leBytes 2 0x2F9D
    ++ leBytes 2 (productId s.identity.variant)
    ++ leBytes 2 (0x0100 + (steppingCode s.identity.stepping).toNat - 0xB0) ++ [1, 2, 3, 1]

/-- An endpoint descriptor, with its companion at SuperSpeed. -/
def State.endpointDescriptor (s : State) (ep : Byte) (burst : Byte) : List Byte :=
  let size := if s.usb.speed = 3 then 1024 else if s.usb.speed = 2 then 512 else 64
  [7, 5, ep, 2] ++ leBytes 2 size ++ [0] ++ (if s.usb.speed = 3 then [6, 0x30, burst, 0, 0, 0] else [])

/-- The configuration descriptor with its interface and endpoints; `kind` is its type, 2, or 7 for the other speed.
Log 64 (PRESUMED). -/
def State.configDescriptor (s : State) (kind : Byte) : List Byte :=
  let eps := s.endpointDescriptor 0x81 3 ++ (if s.tapDescribed then s.endpointDescriptor 0x82 15 else [])
  [9, kind] ++ leBytes 2 (18 + eps.length) ++ [1, 1, 0, 0xC0, 0]
    ++ [9, 4, 0, 0, if s.tapDescribed then 2 else 1, 0xFF, 0x45, 0x01, 0] ++ eps

/-- The BOS descriptor, absent with bcdUSB 0x0200.
Log 64 (PRESUMED). -/
def State.bosDescriptor (s : State) : Option (List Byte) :=
  if s.bcdUsb = 0x0200 then none
  else
    let ext : List Byte := [7, 0x10, 2, 0, 0, 0, 0]
    let ss : List Byte := if s.usb.speed = 3 then [10, 0x10, 3, 0, 0x0E, 0, 1, 0, 0, 0] else []
    some ([5, 0x0F] ++ leBytes 2 (5 + ext.length + ss.length) ++ [if s.usb.speed = 3 then 2 else 1] ++ ext ++ ss)

/-- The function as it would be at the other of high and full speed; at SuperSpeed there is no other speed to describe.
Log 64 (PRESUMED). -/
def State.otherSpeed (s : State) : Option State :=
  if s.usb.speed = 3 then none else some { s with usb := { s.usb with speed := if s.usb.speed = 2 then 1 else 2 } }

/-- A descriptor by type and index. -/
def State.descriptor (s : State) (kind idx : Byte) : Option (List Byte) :=
  match kind.toNat, idx.toNat with
  | 1, _ => some s.deviceDescriptor
  | 2, 0 => some (s.configDescriptor 2)
  | 3, 0 => some [4, 3, 0x09, 0x04]
  | 3, 1 => some (stringDescriptor (textBytes "Apjor"))
  | 3, 2 => some (stringDescriptor (textBytes "Evvor EVR-" ++ textBytes (productText s.identity.variant)))
  | 3, 3 => some (stringDescriptor (hexDigits 16 s.identity.serial.toNat))
  | 6, 0 => s.otherSpeed.map fun o => [10, 6] ++ leBytes 2 o.bcdUsb ++ [0, 0, 0, 64, 1, 0]
  | 7, 0 => s.otherSpeed.map fun o => o.configDescriptor 7
  | 0x0F, _ => s.bosDescriptor
  | _, _ => none

/-- STANDARD_REQUEST: every other standard request (R352), as the USB specifications require.
Log 64 (PRESUMED). -/
def execStandardRequest (r : StdRequest) (s : State) : Host.Outcome State Fault Refusal :=
  .next (if !s.usbHears then s
    else match r with
      | .getDescriptor k i len =>
        match s.descriptor k i with
        | some d => s.reply (.data (d.take len))
        | none => s.reply .stall
      | .setAddress a => { s with usb := { s.usb with address := a, answer := .done } }
      | .getConfiguration => s.reply (.data [if s.usb.configured then 1 else 0])
      | .getInterface => if s.usb.configured then s.reply (.data [0]) else s.reply .stall
      | .getStatusDevice => s.reply (.data [1, 0])
      | .getStatusInterface => if s.usb.configured then s.reply (.data [0, 0]) else s.reply .stall
      | .getStatusEndpoint ep =>
        if !s.endpointThere ep then s.reply .stall
        else
        let h := (decide (ep = 0x81) && s.usb.halted1) || (decide (ep = 0x82) && s.usb.halted2)
        s.reply (.data [if h then 1 else 0, 0])
      | .haltEndpoint ep =>
        if !s.usb.configured then s.reply .stall
        else if ep = 0x81 then
          let s1 := s.usbDropTransfer
          { s1 with usb := { s1.usb with halted1 := true, answer := .done } }
        else if ep = 0x82 ∧ s.tapDescribed then { s with usb := { s.usb with halted2 := true, answer := .done } }
        else s.reply .stall
      | .clearLinkPower => s.reply .done
      | .testMode sel =>
        if s.usb.speed = 2 ∧ 1 ≤ sel.toNat ∧ sel.toNat ≤ 5 then
          let s1 := s.usbAbandon
          { s1 with usb := { s1.usb with testMode := sel, answer := .done } }
        else s.reply .stall
      | .setSel _ | .setIsochDelay _ => s.reply (if s.usb.speed = 3 then .done else .stall)
      | .unsupported => s.reply .stall)

/-! ### Vendor requests -/

/-- The 16 bytes of a black-box event (Table BB.1). -/
def BbEvent.bytes (e : BbEvent) : List Byte :=
  leBytes 8 e.ns ++ [BitVec.ofNat 8 (e.unit.toNat + if e.lost then 128 else 0), e.inst]
    ++ leBytes 2 e.code.toNat ++ leBytes 4 e.arg.toNat

/-- Black-box events from number `n` on, oldest first (R504). -/
def State.bbFrom (s : State) (n : Nat) : List Byte := (s.bb.ring.drop n).flatMap BbEvent.bytes

/-- The inventory response (Table UR.10). -/
def State.inventory (s : State) : List Byte :=
  leBytes 2 (presentWord s.identity.variant).toNat ++ leBytes 2 s.sys.enabled.toNat
    ++ [partCode s.identity.variant, steppingCode s.identity.stepping, 0, 0] ++ leBytes 8 s.identity.serial.toNat
    ++ leBytes 4 s.sys.recipeId.toNat ++ leBytes 2 s.sys.recipeRev.toNat
    ++ [s.sys.recipeSrc.setWidth 8, s.sys.failCode.setWidth 8, if s.sys.sealedOk then 1 else 0,
        s.sys.sceneActive.setWidth 8, s.sys.bootCause.setWidth 8,
        match s.fab.id with | some i => i.setWidth 8 | none => 0xFF, BitVec.ofNat 8 (s.strapLevel 2),
        flagByte [s.activeLevel, decide (s.phase = .halted), s.bb.frozen], 0, 0]

/-- The oldest record queued on USB and on the serial line; SEQ_NEXT while the queue is empty (Table UR.11). -/
def State.usbOldest (s : State) : Word := ((s.usb.queue.head?).map fun r => recSeq r.bytes).getD s.former.seqNext
def State.serOldest (s : State) : Word := ((s.ser.queue.head?).map fun r => recSeq r.rec2).getD s.former.seqNext

/-- The newest record sent on USB; SEQ_NEXT − 1 before the first record is sent (Table UR.11). -/
def State.usbNewest (s : State) : Word := if s.usb.sentAny then s.usb.sentSeq else s.former.seqNext - 1

/-- The link status response (Table UR.11). -/
def State.linkStatus (s : State) : List Byte :=
  leBytes 4 s.former.seqNext.toNat ++ leBytes 4 s.usbOldest.toNat ++ leBytes 4 s.usbNewest.toNat
    ++ leBytes 2 s.usb.queue.length ++ [0, 0] ++ leBytes 4 (s.getN Fld.usbDropCount)
    ++ leBytes 2 (s.getN Fld.usbBusResetCount) ++ leBytes 2 (s.getN Fld.usbReplayHitCount)
    ++ [BitVec.ofNat 8 s.usb.speed, flagByte [s.serOn, s.ser.noListener]] ++ leBytes 2 s.ser.queue.length
    ++ leBytes 4 (s.getN Fld.serDropCount)

/-- The setup packet of a vendor request (R359). -/
def setupBytes (r : VendorSetup) : List Byte :=
  [if r.dirIn then 0xC0 else 0x40, r.request] ++ leBytes 2 r.tag.toNat ++ [r.param, r.session] ++ leBytes 2 r.len.toNat

/-- A cache after a request of session `sn` arrives: a new session other than 0 clears it (R360). -/
def sessionCache (cur sn : Byte) (c : List CacheEntry) : Byte × List CacheEntry :=
  if sn = 0 ∨ sn = cur then (cur, c) else (sn, [])

/-- An entry becomes the most recently used of at most 32; the entry of the same tag is replaced (R361). -/
def cachePut (c : List CacheEntry) (e : CacheEntry) : List CacheEntry :=
  (e :: c.filter fun x => !(x.session == e.session && x.tag == e.tag)).take 32

/-- A note for a completed request (R363). -/
def State.usbNote (s : State) (r : VendorSetup) : State :=
  let s1 := if s.usb.noteHigh then s.count16 Fld.usbNoteLostCount else s
  { s1 with usb := { s1.usb with
      note := BitVec.ofNat 32 (r.request.toNat + r.session.toNat * 2 ^ 8 + r.tag.toNat * 2 ^ 16), noteHigh := true } }

/-- A vendor request that the engine answers (R360 to R363): `data` is its OUT data, `resp` its data stage, `eff` its
effect at a completed Status stage, `done` whether that stage completes. -/
def State.vendor (s : State) (r : VendorSetup) (data resp : List Byte) (eff : State → State) (done : Bool) : State :=
  let (sn, c) := sessionCache s.usb.session r.session s.usb.cache
  let s1 := { s with usb := { s.usb with session := sn, cache := c } }
  let key := setupBytes r ++ data
  let hit := c.find? fun e => e.session == r.session && e.tag == r.tag
  let ans := if r.dirIn then Answer.data else fun _ => Answer.done
  match (if r.session = 0 then none else hit) with
  | some e =>
    if e.complete && decide (e.setup = key) then
      let s2 := ({ s1 with usb := { s1.usb with cache := cachePut c e, answer := ans e.response } }.count16
        Fld.usbReplayHitCount)
      if done then s2.usbNote r else s2
    else
      let s2 := if decide (e.setup ≠ key) then s1.count16 Fld.usbTagConflictCount else s1
      let s3 := { s2 with usb := { s2.usb with
        cache := cachePut c ⟨r.session, r.tag, key, resp, done⟩, answer := ans resp } }
      if done then (eff s3).usbNote r else s3
  | none =>
    let c2 := if r.session = 0 then c else cachePut c ⟨r.session, r.tag, key, resp, done⟩
    let s3 := { s1 with usb := { s1.usb with cache := c2, answer := ans resp } }
    if done then (eff s3).usbNote r else s3

/-- A vendor request with its checks: attached, allowed while halted, direction and length right; otherwise a protocol
STALL with no effect (R359).
Log 66 (DEDUCED). -/
def State.usbRequest (s : State) (r : VendorSetup) (dirIn lenOk halted : Bool) (data resp : List Byte)
    (eff : State → State) (done : Bool) : State :=
  if !s.usbHears then s
  else if r.dirIn != dirIn || !lenOk || (decide (s.phase = .halted) && !halted) then s.reply .stall
  else s.vendor r data resp eff done

/-- GET_INVENTORY (Table UR.9). -/
def execGetInventory (r : VendorSetup) (done : Bool) (s : State) : Host.Outcome State Fault Refusal :=
  .next (s.usbRequest { r with request := 1 } true (decide (r.len = 32)) true [] s.inventory id done)

/-- GET_LINK_STATUS. -/
def execGetLinkStatus (r : VendorSetup) (done : Bool) (s : State) : Host.Outcome State Fault Refusal :=
  .next (s.usbRequest { r with request := 2 } true (decide (r.len = 32)) false [] s.linkStatus id done)

/-- An acknowledgement on USB up to the newest sent record, mirrored to the partner (R357, R428). -/
def State.ackUsb (s : State) (n : Word) : State :=
  let m := if precedes s.usb.sentSeq n then s.usb.sentSeq else n
  { s with usb := s.usb.ack m }.mirror (.ackMark .usb m none)

/-- ACK_RECORDS: takes effect at its Status stage; a standby completes it with no effect (R357, R367). -/
def execAckRecords (r : VendorSetup) (n : Word) (done : Bool) (s : State) : Host.Outcome State Fault Refusal :=
  .next (s.usbRequest { r with request := 3 } false (decide (r.len = 4)) false (leBytes 4 n.toNat) []
    (fun s => if s.activeRole then s.ackUsb n else s) done)

/-- RETRIEVE: the k-th queued record; zero-length on a standby (R359, R367). -/
def execRetrieve (r : VendorSetup) (done : Bool) (s : State) : Host.Outcome State Fault Refusal :=
  let b := if s.activeRole then ((s.usb.queue[r.param.toNat]?).map fun e => e.bytes).getD [] else []
  .next (s.usbRequest { r with request := 4 } true (decide (16 ≤ r.len.toNat) && decide (r.len.toNat ≤ 4096)) false []
    (b.take r.len.toNat) id done)

/-- GET_BLACKBOX: events from 256 p on (R359, R504). -/
def execGetBlackbox (r : VendorSetup) (done : Bool) (s : State) : Host.Outcome State Fault Refusal :=
  .next (s.usbRequest { r with request := 5 } true
    (decide (16 ≤ r.len.toNat) && decide (r.len.toNat ≤ 4096) && decide (r.len.toNat % 16 = 0)) true []
    ((s.bbFrom (256 * r.param.toNat)).take r.len.toNat) id done)

/-- A vendor request that Table UR.9 and R83 let the engine answer: such a one does not end in this STALL. -/
def requestSound (s : State) (r : VendorSetup) : Bool :=
  let n := r.len.toNat
  let ok := match r.request.toNat with
    | 1 | 2 => r.dirIn && decide (n = 32)
    | 3 => !r.dirIn && decide (n = 4)
    | 4 => r.dirIn && decide (16 ≤ n) && decide (n ≤ 4096)
    | 5 => r.dirIn && decide (16 ≤ n) && decide (n ≤ 4096) && decide (n % 16 = 0)
    | _ => false
  ok && (decide (s.phase ≠ .halted) || decide (r.request = 1) || decide (r.request = 5))

/-- USB_VENDOR_REQUEST_STALL: an unknown request, a wrong direction or a wrong length; a protocol STALL with no effect
(R359). -/
def execUsbVendorRequestStall (r : VendorSetup) (s : State) : Host.Outcome State Fault Refusal :=
  .next (if requestSound s r then s else s.reply .stall)

/-- The USB fields that the unit computes (Table UR.14). -/
def State.readUsb (s : State) (a : Nat) : Word :=
  let u := s.usb
  if a = Fld.usbState then
    BitVec.ofNat 32 (packBits [u.attached] + u.speed * 2 + packBits [false, false, false, u.configured, u.suspended, u.vbus])
  else if a = Fld.usbSession then u.session.setWidth 32
  else if a = Fld.usbQueueLevel then BitVec.ofNat 32 u.queue.length
  else if a = Fld.usbOldestSeq then s.usbOldest
  else if a = Fld.usbSentSeq then u.sentSeq
  else if a = Fld.usbReqNote then u.note
  else s.getF a

end Sys2Proof.Machine
end

