-- ==== Sys2Proof/Machine/Ser.lean ====
section
/-! DEFINITION. The serial line: records, arbitration, acknowledgement, backoff, cancellation and requests (R370 to
R397). -/

namespace Sys2Proof.Machine

/-! ### Modes -/

/-- The convention is inverse, and the line is a party line (Table SL.1). -/
def State.serInverse (s : State) : Bool := s.strap 10 == 2 || s.strap 10 == 4 || s.strap 10 == 6
def State.serParty (s : State) : Bool := decide (3 ≤ s.strap 10) && decide (s.strap 10 ≤ 6)

/-- The row of Table SL.3 that ST11 selects: rows 11 to 13 are reserved on a party line (R376). -/
def State.serRow (s : State) : Nat :=
  if s.serParty && decide (11 ≤ s.strapLevel 11) && decide (s.strapLevel 11 ≤ 13) then 15 else s.strapLevel 11

/-- The divider N of a row (Table SL.3). -/
def serDivider (row : Nat) : Nat :=
  [2500, 1250, 625, 312, 156, 78, 52, 26, 13, 12, 6, 3, 2, 1, 24, 26].getD row 26

/-- The line is awake: not asleep, not halted, not before trowel start (R395, R397, Table SR.4). -/
def State.serAwake (s : State) : Bool :=
  s.serOn && (match s.phase with
    | .booting => s.boot.started
    | .running => true
    | .sleepEntry => decide (s.sys.sleepStep < 6)
    | .waking => decide (4 ≤ s.sys.wakeStep)
    | _ => false)

/-- The engine drives the line and acts on frames addressed to it: not on a standby (R397). -/
def State.serLive (s : State) : Bool := s.serAwake && s.activeRole

/-- A change of the serial line. -/
def State.updSer (s : State) (f : Ser → Ser) : State := { s with ser := f s.ser }

/-- The line is released: the frame on it is abandoned and its record stays queued (R395, R397).
Log 67 (DEDUCED). -/
def State.serRelease (s : State) : State :=
  s.updSer fun x => { x with phase := .idle, withdrawn := false, arbDone := false, restartDue := false, responses := [] }

/-- The send pointer moves to the oldest record, and NO_LISTENER, the backoff and the retry count are cleared, as at
wake and at takeover (R382, R395). -/
def State.serRestart (s : State) : State :=
  s.updSer fun x => { x with next := 0, noListener := false, backoffMs := 0, retries := 0, lateCancel := false
                             phase := .idle }

/-! ### Sending -/

/-- The phase in which a pending frame waits for its next start. -/
def Ser.pendPhase (x : Ser) : SerPhase := if 0 < x.retries || x.noListener then .retry else .idle

/-- The oldest pending response starts, else the record at the send pointer; a record's bytes are fixed at its first
start (R380, R382, R383, R391). -/
def Ser.start (x : Ser) : Ser :=
  if !x.responses.isEmpty then { x with phase := .response, arbDone := false }
  else match x.queue[x.next]? with
    | none => x
    | some e =>
      match e.wire with
      | some _ => { x with phase := .record, arbDone := false, withdrawn := false }
      | none =>
        { x with
          phase := .record, arbDone := false, withdrawn := false, superseded := false, dropped := false
          queue := x.queue.set x.next { e with wire := some (form1 e.rec2 e.noListener x.superseded x.dropped) } }

/-- SER_FRAME_START (R382, R383): a response or a record that may start does.
Log 67 (DEDUCED). -/
def execSerFrameStart (s : State) : Host.Outcome State Fault Refusal :=
  .next (if s.serLive && (s.ser.phase == .idle || s.ser.phase == .retry)
      && (!s.ser.responses.isEmpty || (s.ser.queue[s.ser.next]?).isSome) then
      (s.updSer Ser.start).updSer fun x => { x with frameFrom := s.nowNs }
    else s)

/-- The frame on the line: a RECORD frame from SER.ADDR, or a RESPONSE frame to its requester (R378, Table SL.4); none while the
line is not driven, or for a frame that has been withdrawn (R390). -/
def State.serFrameOut (s : State) : List Byte :=
  let x := s.ser
  match x.phase with
  | .record =>
    if x.withdrawn then []
    else match (x.queue[x.next]?).bind fun e => e.wire with
      | some b => serFrame (BitVec.ofNat 8 (s.getN Fld.serAddr % 128)) 1 b
      | none => []
  | .response =>
    match x.responses with
    | p :: _ => serFrame (0x80#8 ||| p.to_.setWidth 8) 4 p.bytes
    | [] => []
  | _ => []

/-- The bit of the frame on the line that is sent now: sixteen ticks of 48 MHz / N each, from the start of the frame (R374,
R375).
Log 119 (DEDUCED). -/
def State.serBit (s : State) : Nat := (s.nowNs - s.ser.frameFrom) * 48 / (16000 * serDivider s.serRow)

/-- The level that the engine sends now: high but for the low bits of a frame (R372, R390). -/
def State.serSends (s : State) : Bool := ((frameLevels s.serInverse s.serFrameOut)[s.serBit]?).getD true

/-- The frame on the line stays pending; one that was withdrawn is settled (R384, R387, R390, Table SL.6). -/
def Ser.release (x : Ser) : Ser :=
  if x.phase = .record ∧ x.withdrawn = true then
    { x with phase := .idle, withdrawn := false, arbDone := false, retries := 0, lateCancel := false }
  else { x with phase := if x.phase = .record then x.pendPhase else .idle, withdrawn := false, arbDone := false }

/-- What the mismatch at bit `i` is: of the frame on the line, or of a withdrawn frame, which sends only high and can still lose
its arbitration (R384, Table SL.6). -/
def State.serMismatch (s : State) (i : Nat) (read : Bool) : Option SerMismatch :=
  if s.ser.withdrawn then (if i < 12 ∧ read = false then some .lost else none)
  else mismatchOf (frameLevels s.serInverse s.serFrameOut) i read

/-- SER_COLLISION (R384): a lost arbitration, a collision or a line fault, as the frame on the line and what was read back in its
bit make it. -/
def execSerCollision (bit : Nat) (s : State) (read : Bool := false) : Host.Outcome State Fault Refusal :=
  .next (if s.serLive && s.serParty && (s.ser.phase == .record || s.ser.phase == .response) then
      let s1 := s.updSer Ser.release
      match s.serMismatch bit read with
      | none => s
      | some .lost => s1.count16 Fld.serLostArbCount
      | some .collision => s1.count16 Fld.serCollisionCount
      | some .fault => (s1.count16 Fld.serLineFaultCount).bbEvent 0x0C#7 0xFF#8 0x0002#16 0
    else s)

/-- Removes the record at index `i`, which is at or before the send pointer. -/
def Ser.remove (x : Ser) (i : Nat) : Ser :=
  { x with queue := x.queue.eraseIdx i, next := if i < x.next then x.next - 1 else x.next }

/-- The record at the send pointer has left the queue: nothing of it is pending. -/
def Ser.settled (x : Ser) : Ser := { x with phase := .idle, retries := 0, lateCancel := false }

/-- A record frame has been sent in full: the record is sent, and then waits for its acknowledgement on a party line,
leaves at once on point-to-point without acknowledgement, or stays queued behind the send pointer (R380, R382, R386).
Log 69 (DEDUCED). -/
def State.serRecordSent (s : State) : State :=
  let x := s.ser
  match x.queue[x.next]? with
  | none => s.updSer fun y => { y with phase := .idle, arbDone := false }
  | some e =>
    let seq := recSeq e.rec2
    let x1 := { x with
      arbDone := false, sentSeq := if x.sentAny && precedes seq x.sentSeq then x.sentSeq else seq, sentAny := true
      queue := x.queue.set x.next { e with sent := true } }
    let s1 := if s.serParty && decide (0 < x.retries) && !x.noListener then s.count16 Fld.serRetryCount else s
    let s2 := if x.lateCancel && decide (x.next = 0) then s1.raise 3 36 else s1
    if s.serParty then { s2 with ser := { x1 with phase := .window } }
    else if !s.getB Fld.serP2pAck 0 || (x.lateCancel && decide (x.next = 0)) then
      let y := (x1.remove x.next).settled
      { s2 with ser := { y with next := if x.restartDue then 0 else y.next, restartDue := false } }.mirror
        (.ackMark .ser seq none)
    else { s2 with ser := { x1 with phase := .idle, next := if x.restartDue then 0 else x.next + 1, restartDue := false } }

/-- SER_FRAME_SENT (R382): the RECORD frame on the line ends.
Log 67 (DEDUCED). -/
def execSerFrameSent (s : State) : Host.Outcome State Fault Refusal :=
  .next (if !s.serLive || s.ser.phase != .record then s
    else if s.ser.withdrawn then
      s.updSer fun x => { x.settled with withdrawn := false, arbDone := false
                                         next := if x.restartDue then 0 else x.next, restartDue := false }
    else s.serRecordSent)

/-- SER_ACK_WINDOW_EXPIRY (R387, R388, R390): a late-cancelled record leaves; else a retry, or NO_LISTENER and a doubled
wait. -/
def execSerAckWindowExpiry (s : State) : Host.Outcome State Fault Refusal :=
  let x := s.ser
  .next (if !s.serLive || x.phase != .window then s
    else if x.lateCancel then
      let seq := ((x.queue[x.next]?).map fun e => recSeq e.rec2).getD 0
      { s with ser := (x.remove x.next).settled }.mirror (.ackMark .ser 0 (some seq))
    else if x.noListener then
      { s with ser := { x with phase := .backoff, backoffMs := min 1000 (2 * x.backoffMs) } }
    else if x.retries < 3 then { s with ser := { x with phase := .retry, retries := x.retries + 1 } }
    else { s with ser := { x with phase := .backoff, noListener := true, backoffMs := 4 } }.bbEvent 0x0C#7 0xFF#8
      0x0001#16 (((x.queue.head?).map fun (e : SerRec) => recSeq e.rec2).getD 0))

/-- SER_BACKOFF_EXPIRY (R388): the wait ends and the head record is sent at the next inter-frame space. -/
def execSerBackoffExpiry (s : State) : Host.Outcome State Fault Refusal :=
  .next (if s.serLive && s.ser.phase == .backoff then s.updSer fun x => { x with phase := .retry } else s)

/-- SER_LINE_HELD_LOW (R389): a line fault, counted once and written once. -/
def execSerLineHeldLow (s : State) : Host.Outcome State Fault Refusal :=
  .next (if s.serAwake then (s.count16 Fld.serLineFaultCount).bbEvent 0x0C#7 0xFF#8 0x0002#16 0 else s)

/-! ### Cancellation -/

/-- SER.CANCEL (R390): not on the line, the head record leaves; on the line and in time, the frame is withdrawn; too late,
the frame completes.
Log 69 (DEDUCED). -/
def State.serCancel (s : State) (v : Word) : State :=
  let x := s.ser
  match x.queue.head? with
  | none => s
  | some e =>
    let seq := recSeq e.rec2
    let onLine := decide (x.phase = .record) && decide (x.next = 0) && !x.withdrawn
    if !v.getLsbD 16 || decide (v.setWidth 16 ≠ seq.setWidth 16) then s
    else if onLine && x.arbDone then
      { s with ser := { x with lateCancel := true, superseded := true } }.count16 Fld.serLateCancelCount
    else
      let x1 := x.remove 0
      let x2 := if onLine then { x1 with withdrawn := true }
        else if x.next = 0 ∧ (x.phase = .window ∨ x.phase = .retry) then { x1 with phase := .idle, retries := 0, lateCancel := false }
        else if x.next = 0 ∧ x.phase = .response then { x1 with retries := 0, lateCancel := false }
        else x1
      ({ s with ser := x2 }.count16 Fld.serCancelCount).mirror (.ackMark .ser 0 (some seq))

/-! ### Receiving -/

/-- A frame carries this engine's address, and the engine acts on it (R378, R397). -/
def State.serMine (s : State) (addr : Byte) : Bool :=
  s.serLive && decide (addr.toNat = 0x80 + s.getN Fld.serAddr)

/-- A frame addressed to the engine ends NO_LISTENER and its backoff (R389). -/
def Ser.addressed (x : Ser) : Ser :=
  if !x.noListener then x
  else { x with noListener := false, backoffMs := 0, retries := 0
                phase := if x.phase = .backoff ∨ x.phase = .retry then .idle else x.phase }

/-- An acknowledgement on the serial line, of at most the newest sent record (R381).
Log 67 (DEDUCED). -/
def State.ackSer (s : State) (n : Word) : State :=
  let x := s.ser
  let m := if precedes x.sentSeq n then x.sentSeq else n
  let cur := fun (y : Ser) => (y.queue[y.next]?).map fun e => recSeq e.rec2
  let y := x.ack m
  let hand := x.phase == .record || x.phase == .window || x.phase == .retry || x.phase == .backoff
  let z := if hand && !x.withdrawn && decide (cur x ≠ cur y) then
      if x.phase = .record then { y with withdrawn := true } else y.settled
    else y
  { s with ser := z }.mirror (.ackMark .ser m none)

/-- SER_ACK_FRAME (R381, R387). -/
def execSerAckFrame (addr : Byte) (n : Word) (s : State) : Host.Outcome State Fault Refusal :=
  .next (if s.serMine addr then (s.updSer Ser.addressed).ackSer n else s)

/-- SER_RESTART_FRAME (R382): the next frame starts from the oldest record, after the frame on the line. -/
def execSerRestartFrame (addr : Byte) (s : State) : Host.Outcome State Fault Refusal :=
  .next (if s.serMine addr then
      let s1 := s.updSer Ser.addressed
      if s1.serParty then s1
      else s1.updSer fun x => if x.phase = .record then { x with restartDue := true } else { x with next := 0 }
    else s)

/-- SER_FRAME_BROKEN: every frame among the characters received that a gap of at least a character time ends before its last
character is discarded and counted (R377). -/
def execSerFrameBroken (s : State) (chars : List (Nat × Byte) := []) (gap : Nat := 12) : Host.Outcome State Fault Refusal :=
  let l := framesOf chars
  let ended := if 12 ≤ gap then l else l.dropLast
  .next (if s.serAwake then
      (ended.filter fun f => decide (0 < frameLack f)).foldl (fun (s : State) _ => s.count16 Fld.serCrcErrCount) s
    else s)

/-- A frame heard whole: one that fails its CRC, and one of a kind that Table SL.4 does not name, is discarded and counted (R377,
R378).
Log 118 (DEDUCED). -/
def frameRejected (l : List Byte) : Bool :=
  decide (frameLack l = 0) && (match parseFrame l with
    | none => true
    | some (_, k, _) => !(decide (1 ≤ k.toNat) && decide (k.toNat ≤ 5)))

/-- SER_FRAME_REJECTED: a discarded character or frame (R373, R377, R378). -/
def execSerFrameRejected (heard : SerHeard) (s : State) : Host.Outcome State Fault Refusal :=
  .next (if !s.serAwake then s
    else match heard with
      | .character ticks => match readChar s.serInverse ticks with
        | .framing => s.count16 Fld.serFramingErrCount
        | .parity => s.count16 Fld.serParityErrCount
        | .incomplete | .falseStart | .byte _ => s
      | .frame l => if frameRejected l then s.count16 Fld.serCrcErrCount else s)

/-! ### Requests -/

/-- The payload of a REQUEST (Table SL.5). -/
def serReqBytes (code : Byte) (r : SerReq) : List Byte :=
  [code, r.session] ++ leBytes 2 r.tag.toNat ++ [r.param, r.requester.setWidth 8, r.maxLen]

/-- The payload of a RESPONSE: the data cut to the length that the request allows (R392, Table SL.5). -/
def serRespBytes (code : Byte) (r : SerReq) (status : Byte) (d : List Byte) : List Byte :=
  [code, r.session] ++ leBytes 2 r.tag.toNat ++ [status] ++ (if status = 0 then d.take r.maxLen.toNat else [])

/-- A bad parameter: a length above 240, or no multiple of 16 for GET_BLACKBOX (Table SL.5).
Log 68 (DEDUCED). -/
def serBadParam (code : Byte) (r : SerReq) : Bool :=
  decide (240 < r.maxLen.toNat) || (decide (code = 5) && decide (r.maxLen.toNat % 16 ≠ 0))

/-- Handles a request of the given code: `status` and data as the table of requests gives them (R360 to R362, R392,
R393). -/
def State.serRequest (s : State) (addr code : Byte) (r : SerReq) (status : Byte) (d : List Byte) : State :=
  if !s.serMine addr then s
  else
    let s1 := s.updSer Ser.addressed
    let (sn, c) := sessionCache s1.ser.session r.session s1.ser.cache
    let s2 := s1.updSer fun x => { x with session := sn, cache := c }
    let key := serReqBytes code r
    let st := if status = 0 ∧ serBadParam code r then 2 else status
    let resp := serRespBytes code r st d
    let send := fun (b : List Byte) (y : State) => y.updSer fun x =>
      { x with responses := x.responses ++ [⟨r.requester, key, b⟩] }
    let keep := fun (y : State) => if r.session = 0 ∨ st ≠ 0 then y else y.updSer fun x =>
      { x with cache := cachePut x.cache ⟨r.session, r.tag, key, resp, false⟩ }
    if s2.ser.responses.any fun p => p.key == key then s2
    else match (if r.session = 0 then none else c.find? fun e => e.session == r.session && e.tag == r.tag) with
      | none => send resp (keep s2)
      | some e =>
        if e.setup ≠ key then send resp (keep (s2.count16 Fld.serTagConflictCount))
        else if e.complete then
          send e.response ((s2.updSer fun x => { x with cache := cachePut x.cache e }).count16 Fld.serReplayHitCount)
        else send resp (keep s2)

/-- SER_GET_INVENTORY. -/
def execSerGetInventory (addr : Byte) (r : SerReq) (s : State) : Host.Outcome State Fault Refusal :=
  .next (s.serRequest addr 1 r 0 s.inventory)

/-- SER_GET_LINK_STATUS. -/
def execSerGetLinkStatus (addr : Byte) (r : SerReq) (s : State) : Host.Outcome State Fault Refusal :=
  .next (s.serRequest addr 2 r 0 s.linkStatus)

/-- SER_ACK_REQUEST: acknowledgement uses the ACK frame; the request answers status 1 (R392). -/
def execSerAckRequest (addr : Byte) (r : SerReq) (s : State) : Host.Outcome State Fault Refusal :=
  .next (s.serRequest addr 3 r 1 [])

/-- The Form 1 bytes of a queued record: as sent, or as they stand before the first transmission. -/
def SerRec.form (e : SerRec) : List Byte := e.wire.getD (form1 e.rec2 e.noListener false false)

/-- SER_RETRIEVE: the k-th record of the queue, or no data. -/
def execSerRetrieve (addr : Byte) (r : SerReq) (s : State) : Host.Outcome State Fault Refusal :=
  .next (s.serRequest addr 4 r 0 (((s.ser.queue[r.param.toNat]?).map SerRec.form).getD []))

/-- SER_GET_BLACKBOX: events from 15 p on. -/
def execSerGetBlackbox (addr : Byte) (r : SerReq) (s : State) : Host.Outcome State Fault Refusal :=
  .next (s.serRequest addr 5 r 0 (s.bbFrom (15 * r.param.toNat)))

/-- SER_UNKNOWN_REQUEST: any other code is answered with status 1; a code that Table UR.9 names is not unknown. -/
def execSerUnknownRequest (addr : Byte) (request : Byte) (r : SerReq) (s : State) : Host.Outcome State Fault Refusal :=
  .next (if 1 ≤ request.toNat ∧ request.toNat ≤ 5 then s else s.serRequest addr request r 1 [])

/-- A sent response completes its request: the cache entry and the note (R393). -/
def Ser.complete (x : Ser) (p : SerResponse) (rest : List SerResponse) : Ser :=
  { x with
    responses := rest, phase := x.pendPhase, arbDone := false, noteHigh := true
    note := BitVec.ofNat 32 (leAt p.key 0 4)
    cache := x.cache.map fun e => if e.setup = p.key ∧ e.response = p.bytes then { e with complete := true } else e }

/-- SER_RESPONSE_SENT (R393). -/
def execSerResponseSent (s : State) : Host.Outcome State Fault Refusal :=
  .next (if !s.serLive || s.ser.phase != .response then s
    else match s.ser.responses with
      | [] => s
      | p :: q => s.updSer fun x => x.complete p q)

/-! ### Fields -/

/-- A field write of either part of SER that takes effect (Tables SL.7 and SL.8). -/
def State.serNow (s : State) (a : Nat) (v : Word) : State :=
  if a = Fld.serEnable then
    let s1 := s.setF a v
    if v.getLsbD 0 then s1 else s1.serRelease
  else if a = Fld.serReqNoteAck then if v.getLsbD 0 then s.updSer fun x => { x with noteHigh := false } else s
  else if a = Fld.serCancel then s.serCancel v
  else s.setF a v

/-- The SER fields that the unit computes. -/
def State.readSer (s : State) (a : Nat) : Word :=
  let x := s.ser
  if a = Fld.serState then
    BitVec.ofNat 32 (packBits [s.serOn, x.noListener, x.phase == .backoff, s.serParty, s.serInverse,
      x.phase == .record || x.phase == .response])
  else if a = Fld.serBackoffMs then BitVec.ofNat 32 x.backoffMs
  else if a = Fld.serQueueLevel then BitVec.ofNat 32 x.queue.length
  else if a = Fld.serOldestSeq then s.serOldest
  else if a = Fld.serSentSeq then x.sentSeq
  else if a = Fld.serSession then x.session.setWidth 32
  else if a = Fld.serReqNote then x.note
  else if a = Fld.serRateDiv then BitVec.ofNat 32 (serDivider s.serRow)
  else s.getF a

end Sys2Proof.Machine
end

