-- ==== Sys2Proof/Machine/Time.lean ====
section
/-! DEFINITION. The time base and the reference selection: qualification, commit, slew, holdover, SYNC_OUT (R399 to
R418). -/

namespace Sys2Proof.Machine

/-! ### Counts and candidates -/

/-- One nanosecond in the unit of the internal count, 2⁻³² ns (R399). -/
def nsUnit : Int := 4294967296

/-- The engine time in units of 2⁻³² ns, and the XREF count at nominal rate in quarter nanoseconds. -/
def TimeUnit.fine (x : TimeUnit) : Int := x.ns * nsUnit + x.frac
def TimeUnit.xref (x : TimeUnit) : Int := 10 * x.core

/-- A candidate without samples. -/
def Cand.idle : Cand :=
  { seed := none, lastX := 0, counted := [], count := 0, qualified := false, outliers := 0, lastO := 0 }

/-- A candidate seeded by a sample at `p` = (arrival, reference time) (R404). -/
def Cand.seeded (p : Int × Int) (o : Int) : Cand :=
  { seed := some p, lastX := p.1, counted := [p], count := 0, qualified := false, outliers := 0, lastO := o }

/-- The state of a candidate, and a change of it; the crystal has none. -/
def TimeUnit.cand (x : TimeUnit) : Ref → Cand
  | .fabric => x.fabric
  | .syncIn => x.syncIn
  | .partner => x.partner
  | .crystal => .idle
def TimeUnit.setCand (x : TimeUnit) (r : Ref) (c : Cand) : TimeUnit :=
  match r with
  | .fabric => { x with fabric := c }
  | .syncIn => { x with syncIn := c }
  | .partner => { x with partner := c }
  | .crystal => x

/-- The candidate code of TIME.STATE and of the TIME events. -/
def refCode : Ref → Nat
  | .fabric => 0
  | .syncIn => 1
  | .partner => 2
  | .crystal => 3

/-- The order that ST15 selects (Table SR.2). -/
def strapRanking : Nat → List Ref
  | 1 => [.fabric, .partner, .syncIn, .crystal]
  | 2 => [.syncIn, .fabric, .partner, .crystal]
  | 3 => [.syncIn, .partner, .fabric, .crystal]
  | 4 => [.partner, .fabric, .syncIn, .crystal]
  | 5 => [.partner, .syncIn, .fabric, .crystal]
  | 6 => [.crystal]
  | 7 => [.syncIn, .crystal]
  | 8 => [.fabric, .crystal]
  | _ => [.fabric, .syncIn, .partner, .crystal]

/-- The ranking in effect: TIME.CAND_EN removes candidates and keeps the order (R403). -/
def State.ranking (s : State) : List Ref :=
  (strapRanking (s.strap 15)).filter fun r => decide (r = .crystal) || s.getB Fld.timeCandEn (refCode r)

/-- The rank of a candidate; one that is not ranked stands behind all. -/
def State.rankOf (s : State) (r : Ref) : Nat := s.ranking.findIdx (· == r)

/-- A stored period within its limits (Table TR.5, R414). -/
def clampPeriod (n : Nat) : Nat := min 1000000000 (max 1000 n)

/-- The period P of a candidate in ns (Table TR.2). -/
def State.refPeriod (s : State) : Ref → Nat
  | .fabric => 1000000
  | .syncIn => clampPeriod (s.getN Fld.timeSyncPeriodNs)
  | .partner => 100000
  | .crystal => 0

/-- The unit takes samples: from trowel start, and not from sleep entry to wake (R416, R418). -/
def State.timeTakes (s : State) : Bool :=
  s.boot.started && !(decide (s.phase = .sleepEntry) || decide (s.phase = .asleep) || decide (s.phase = .held)
    || decide (s.phase = .xrefFatal))

/-! ### Qualification -/

/-- The sample lies within ±50 ns of the prediction from the seed and the rate over the counted samples; the crystal rate
predicts the first one (R404, R405).
Log 70 (DEDUCED). -/
def Cand.inBand (c : Cand) (p : Int × Int) : Bool :=
  match c.seed, c.counted.head? with
  | some z, some l =>
    if c.count = 0 then decide (((p.2 - z.2) - (p.1 - z.1)).natAbs ≤ 200)
    else decide (((p.2 - z.2) * (l.1 - z.1) - (p.1 - z.1) * (l.2 - z.2)).natAbs ≤ (200 * (l.1 - z.1)).toNat)
  | _, _ => false

/-- The rate from the seed to the sample differs from the crystal rate by 150 ppm or less (R404). -/
def Cand.inRate (c : Cand) (p : Int × Int) : Bool :=
  match c.seed with
  | some z => decide (z.1 < p.1) && decide (((p.2 - z.2) - (p.1 - z.1)).natAbs * 1000000 ≤ (150 * (p.1 - z.1)).toNat)
  | none => false

/-- A counted sample. -/
def Cand.add (c : Cand) (p : Int × Int) : Cand :=
  { c with counted := (p :: c.counted).take 17, count := c.count + 1, qualified := decide (15 ≤ c.count), outliers := 0 }

/-- The mean rate over the last 16 counted samples against the crystal, in parts per 10⁹ (R407, R410).
Log 70 (DEDUCED). -/
def Cand.meanRate (c : Cand) : Int :=
  match c.counted.head?, c.counted.getLast? with
  | some l, some z => if z.1 < l.1 then (l.2 - z.2) * 1000000000 / (l.1 - z.1) - 1000000000 else 0
  | _, _ => 0

/-- r stays within ±250 ppm (R400). -/
def clampRate (r : Int) : Int := max (-250000) (min 250000 r)

/-- A slew term of at most 100 ppm that keeps tracking within Table TR.3: the manual leaves its value open.
Log 7 (DESIGN CHOICE), 70 (DEDUCED). -/
def State.trackSlew (s : State) : Int := ((Config.freeWord s.fresh).toNat % 200001 : Nat) - 100000

/-! ### Selection -/

/-- A change of the time unit. -/
def State.updTime (s : State) (f : TimeUnit → TimeUnit) : State := { s with time := f s.time }

/-- An offset in whole ns, as a signed field. -/
def offsetWord (o : Int) : Word := BitVec.ofInt 32 (o / nsUnit)

/-- Tracks S: the slew term is a free value (R410). -/
def State.track (s : State) (base : Int) : State :=
  let r := clampRate (base + s.trackSlew)
  { s.updTime fun x => { x with mode := .tracking, baseRate := base, rate := r, slewLeft := 0 } with fresh := s.fresh + 1 }

/-- Steers to S at a sample of offset `o` (R410): at full slew until |o| ≤ 10 ns, where SLEW_DONE happens. -/
def State.steer (s : State) (base o : Int) : State :=
  if s.time.mode = .slewing ∧ 10 * nsUnit < o.natAbs then
    s.updTime fun x => { x with
      baseRate := base, rate := clampRate (base + if 0 < o then 100000 else -100000)
      slewLeft := ((o.natAbs - 10 * nsUnit) * 4000 / nsUnit).toNat }
  else
    let s1 := s.track base
    if s.time.mode = .slewing then s1.raise 3 29 else s1

/-- The first set (R413): the count steps forward, or stands still. -/
def State.firstSet (s : State) (o : Int) : State :=
  let old := s.time.ns
  let s1 := if 0 < o then
      let f := s.time.fine + o
      s.updTime fun x => { x with ns := (f / nsUnit).toNat, frac := (f % nsUnit).toNat }
    else s.updTime fun x => { x with hold := (((o.natAbs : Int) * 2 + 5 * nsUnit - 1) / (5 * nsUnit)).toNat }
  let k := s1.time.ns / 1000000 - old / 1000000
  let s2 := if 1 ≤ k then s1.raiseAll 9 else s1
  if 2 ≤ k then s2.raiseAll 9 else s2

/-- Counts end for the candidates that `p` picks. -/
def State.endCounts (s : State) (p : Ref → Bool) : State :=
  [Ref.fabric, .syncIn, .partner].foldl (fun s r => if p r then s.updTime (·.setCand r .idle) else s) s

/-- Commits candidate `c` (R406 to R410, R413). -/
def State.commit (s : State) (c : Ref) : State :=
  let x := s.time.cand c
  let o := x.lastO
  let worse := decide (s.rankOf s.time.sel < s.rankOf c)
  let s1 := (s.updTime fun t => { t with sel := c, target := none }).setF Fld.timeOffsetNs (offsetWord o)
  let s2 :=
    if !s.time.set then
      ((((s1.updTime fun t => { t with set := true }).firstSet o).setF Fld.timeSetStepNs (offsetWord o)).track x.meanRate
        |>.bbEvent 0x0F#7 (BitVec.ofNat 8 (refCode c)) 0x0002#16 (offsetWord o)).raise 3 29
    else
      ((((s1.updTime fun t => { t with mode := .slewing }).count16 Fld.timeSwitchCount).bbEvent 0x0F#7
        (BitVec.ofNat 8 (refCode c)) 0x0001#16 (offsetWord o)).steer x.meanRate o)
  if worse then s2.endCounts fun r => decide (s.rankOf r < s.rankOf c) else s2

/-- In holdover the target is the highest-ranked candidate that qualifies or is qualified; a better one abandons the
switch; one that is qualified is committed (R407, R408). -/
def State.retarget (s : State) : State :=
  if s.time.mode ≠ .holdover then s
  else
    let new := s.ranking.find? fun r => (s.time.cand r).seed.isSome
    let better := match s.time.target, new with
      | some a, some b => decide (s.rankOf b < s.rankOf a)
      | _, _ => false
    let s1 := if better then s.count16 Fld.timeAbandonCount else s
    let s2 := s1.updTime fun x => { x with target := new }
    match new with
    | some r => if (s.time.cand r).qualified then s2.commit r else s2
    | none => s2

/-- A candidate is lost; the loss of S enters holdover (R405, R407, R412). -/
def State.loseRef (s : State) (c : Ref) : State :=
  let x := s.time.cand c
  let s1 := s.updTime (·.setCand c .idle)
  if c = s.time.sel ∧ (s.time.mode = .slewing ∨ s.time.mode = .tracking) then
    let r := clampRate x.meanRate
    let s2 := ((((s1.raise 3 28).count16 Fld.timeLossCount).bbEvent 0x0F#7 (BitVec.ofNat 8 (refCode c)) 0x0003#16
      (s.getF Fld.timeOffsetNs)).freezeIf 0x17#8 [7] 5).updTime fun t =>
        { t with mode := .holdover, rate := r, baseRate := r, target := none, holdFrom := t.core, slewLeft := 0 }
    s2.endCounts fun q => decide (s.rankOf c < s.rankOf q)
  else s1

/-- What a sample does to its candidate: the candidate after it, whether it is lost, and whether it lies out of band. -/
def Cand.sample (c : Cand) (limit : Int) (p : Int × Int) (o : Int) : Cand × Bool × Bool :=
  let late := decide (limit < p.1 - c.lastX)
  let d : Cand := { c with lastX := p.1, lastO := o }
  if c.seed.isNone then (.seeded p o, false, false)
  else if c.qualified then
    if late then (.idle, true, false)
    else if c.inBand p then (d.add p, false, false)
    else if 2 ≤ c.outliers then (.idle, true, true)
    else ({ d with outliers := c.outliers + 1 }, false, true)
  else if !late && c.inBand p && c.inRate p then (d.add p, false, false)
  else (.seeded p o, false, false)

/-- A sample of a ranked candidate: arrival `x` and reference time `r` in quarter ns, offset `o` in 2⁻³² ns (R404 to
R410). -/
def State.timeSample (s : State) (c : Ref) (x r o : Int) : State :=
  if !s.timeTakes || c = .crystal || !(s.ranking.contains c) then s
  else
    let old := s.time.cand c
    let (d, lost, out) := old.sample (4 * (2 * s.refPeriod c + 50)) (x, r) o
    let s1 := if c = s.time.sel then s.setF Fld.timeOffsetNs (offsetWord o) else s
    let s2 := if out then s1.count16 Fld.timeOutlierCount else s1
    if lost then
      let s3 := s2.loseRef c
      (if out then s3 else s3.updTime (·.setCand c (.seeded (x, r) o))).retarget
    else
      let s3 := s2.updTime (·.setCand c d)
      let newly := d.qualified && !old.qualified
      let s4 := if newly then s3.raise 3 27 else s3
      if newly && decide (s.rankOf c < s.rankOf s.time.sel) then s4.commit c
      else if c = s.time.sel ∧ d.qualified ∧ d.outliers = 0 ∧ (s.time.mode = .slewing ∨ s.time.mode = .tracking) then
        s4.steer d.meanRate o
      else s4.retarget

/-- A sample whose message carries its reference time in ns, valid at its arrival now (Table TR.2). -/
def State.carriedSample (s : State) (c : Ref) (ns : Int) : State :=
  s.timeSample c s.time.xref (4 * ns) (ns * nsUnit - s.time.fine)

/-! ### Commands -/

/-- TICK (R401): the time base passes a whole millisecond; not in sleep. -/
def execTick (s : State) : Host.Outcome State Fault Refusal :=
  .next (if s.phase = .asleep then s else s.raiseAll 9)

/-- SYNC_IN_EDGE (R402, R403): the event, and a sample where SYNC_IN is ranked; the arrival path takes 6.25 ns. -/
def execSyncInEdge (s : State) : Host.Outcome State Fault Refusal :=
  .next (if !s.timeTakes then s
    else
      let a := s.time.fine - 25 * nsUnit / 4
      let p : Int := s.refPeriod .syncIn
      let ph : Int := s.getN Fld.timeSyncPhaseNs
      let t := ph + ((a - ph * nsUnit + p * nsUnit / 2) / (p * nsUnit)) * p
      (s.raise 3 30).timeSample .syncIn (s.time.xref - 25) (4 * t) (t * nsUnit - a))

/-- SAMPLE_DEADLINE_EXPIRY (R404, R405): a count ends, or a qualified candidate is lost.
Log 71 (DEDUCED). -/
def execSampleDeadlineExpiry (r : Ref) (s : State) : Host.Outcome State Fault Refusal :=
  let c := s.time.cand r
  .next (if !s.timeTakes || c.seed.isNone then s
    else if c.qualified then (s.loseRef r).retarget
    else (s.updTime (·.setCand r .idle)).retarget)

/-- HOLDOVER_LIMIT (R411): the crystal is selected.
Log 71 (DEDUCED). -/
def execHoldoverLimit (s : State) : Host.Outcome State Fault Refusal :=
  .next (if s.timeTakes && decide (s.time.mode = .holdover) && decide (s.getN Fld.timeHoldMaxS ≠ 0) then
    s.updTime fun x => { x with mode := .crystal, sel := .crystal, target := none } else s)

/-- One step of r towards 0. -/
def rateStep (r : Int) : Int := if 0 < r then r - 1 else if r < 0 then r + 1 else 0

/-- CRYSTAL_RATE_STEP (R411). -/
def execCrystalRateStep (s : State) : Host.Outcome State Fault Refusal :=
  .next (if s.timeTakes && decide (s.time.mode = .crystal) then
    s.updTime fun x => { x with rate := rateStep x.rate, baseRate := rateStep x.rate } else s)

/-- SYNC_OUT pulses appear (R414). -/
def State.soutOn (s : State) : Bool :=
  s.timeTakes && decide (s.phase ≠ .halted ∨ s.boot.started) &&
    (match s.getN Fld.timeSoutMode with
     | 1 => true
     | 2 => decide (s.time.sel ≠ .crystal) && decide (s.time.mode ≠ .holdover)
     | _ => false)

/-- SYNC_OUT_INSTANT and SYNC_OUT_PULSE_END (R414). -/
def execSyncOutInstant (s : State) : Host.Outcome State Fault Refusal :=
  .next { s with balls := { s.balls with syncOut := s.soutOn || s.balls.syncOut } }
def execSyncOutPulseEnd (s : State) : Host.Outcome State Fault Refusal :=
  .next { s with balls := { s.balls with syncOut := false } }

/-! ### Clocks -/

/-- The count moves on by `k` units of 2⁻³² ns.
Log 70 (DEDUCED). -/
def TimeUnit.advance (x : TimeUnit) (k : Nat) : TimeUnit :=
  { x with ns := (x.ns * 4294967296 + x.frac + k) / 4294967296, frac := (x.frac + k) % 4294967296 }

/-- One CORE cycle: the count, the hold of the first set, and the slew in progress (R399, R410, R413). -/
def State.coreCycle (s : State) : State :=
  let x := s.time
  let y := if 0 < x.hold then { x with hold := x.hold - 1, core := x.core + 1 }
    else { x.advance (coreStep x.rate) with core := x.core + 1 }
  let s1 := { s with time := y }
  if x.mode = .slewing ∧ 0 < x.slewLeft then
    if x.slewLeft = 1 then (s1.track x.baseRate).raise 3 29
    else s1.updTime fun z => { z with slewLeft := x.slewLeft - 1 }
  else s1

/-- One slow-clock period in sleep, at the frequency last measured (R416): XREF runs at 25 MHz, 40 ns a cycle.
Log 2 (DESIGN CHOICE), 90 (DEDUCED). -/
def State.slowCycle (s : State) : State :=
  s.updTime fun x => x.advance ((x.slowCycles * 40 * 4294967296 / 1024 * (1000000000 + x.rate) / 1000000000).toNat)

/-- Sleep entry (R416): counts and slew end, r loses its slew term.
Log 90 (DEDUCED). -/
def State.timeSleep (s : State) : State :=
  (s.endCounts fun _ => true).updTime fun x =>
    if x.mode = .slewing ∨ x.mode = .tracking then { x with mode := .tracking, rate := x.baseRate, slewLeft := 0, target := none }
    else { x with target := none }

/-- Wake (R416): holdover where S was a reference.
Log 90 (DEDUCED). -/
def State.timeWake (s : State) : State :=
  s.updTime fun x => if x.sel = .crystal then x else { x with mode := .holdover, target := none, holdFrom := x.core }

/-- The time unit at boot step 1 (R399); what the slow clock measured stays.
Log 90 (DEDUCED). -/
def TimeUnit.boot (slow : Nat) : TimeUnit :=
  { ns := 0, frac := 0, core := 0, hold := 0, rate := 0, baseRate := 0, sel := .crystal, mode := .free, set := false
    target := none, slewLeft := 0, holdFrom := 0, fabric := .idle, syncIn := .idle, partner := .idle, xrefOff := false
    slowCycles := slow }

/-! ### Fields -/

/-- The code of TIME.STATE [2:0]. -/
def modeCode : TimeMode → Nat
  | .free => 0
  | .slewing => 1
  | .tracking => 2
  | .holdover => 3
  | .crystal => 4

/-- Two bits of TIME.CAND_STATE. -/
def TimeUnit.candCode (x : TimeUnit) (r : Ref) : Nat :=
  if x.sel = r ∧ (x.mode = .slewing ∨ x.mode = .tracking) then 3
  else if (x.cand r).qualified then 2
  else if (x.cand r).seed.isSome then 1
  else 0

/-- The TIME fields that the unit computes (Table TR.5).
Log 72 (DEDUCED). -/
def State.readTime (s : State) (a : Nat) : Word :=
  let x := s.time
  if a = Fld.timeState then
    BitVec.ofNat 32 (modeCode x.mode + 8 * refCode x.sel + 32 * packBits [x.set, x.target.isSome, s.soutOn])
  else if a = Fld.timeCandState then
    BitVec.ofNat 32 (x.candCode .fabric + 4 * x.candCode .syncIn + 16 * x.candCode .partner)
  else if a = Fld.timeRatePpb then BitVec.ofInt 32 x.rate
  else s.getF a

end Sys2Proof.Machine
end

