-- ==== Sys2Proof/Machine/Pair.lean ====
section
/-! DEFINITION. The bonded pair: roles, heartbeat, handshake, mirroring, resync and takeover (R419 to R439). -/

namespace Sys2Proof.Machine

/-! ### Roles and messages -/

/-- The pair runs (R419). -/
def State.pairRuns (s : State) : Bool := s.enabledAt Fld.pairEnable && s.pairRole.isSome

/-- The pair unit is awake: from trowel start on, and not asleep, in a halt or under reset. -/
def State.pairAwake (s : State) : Bool :=
  s.pairRuns && s.boot.started && (match s.phase with
    | .booting | .running | .sleepEntry | .waking => true
    | _ => false)

/-- A change of the pair unit. -/
def State.updPair (s : State) (f : Pair → Pair) : State := { s with pair := f s.pair }

/-- The engine is a standby that takes messages of the link. -/
def State.standby (s : State) : Bool := s.pairAwake && s.pair.linkUp && decide (s.pair.mode = .standby)

/-- PAIR_UP (R428). -/
def State.pairUp (s : State) : Bool :=
  s.pair.synced && (decide (s.pair.mode = .standby) || decide (s.pair.mode = .active))

/-- The light state of R186, its course with the time base at which it started. -/
def State.lightMark (s : State) : LightMark :=
  let k := s.light.course.getD ⟨0, 0, 0, 0, 0, true, false⟩
  { at_ := s.light.courseFrom, entry := k.entry, line := k.line, len := k.len, blank := k.blank, disch := k.disch
    dark := k.dark, slot := k.slot, wait := s.light.course.isNone
    armed := s.light.armed.toList, levels := (List.range 8).map fun g => s.getN (Fld.lightCrvLvl g)
    derate := s.getN Fld.lightDerate, tf := s.light.tf, flag := s.light.derateFlag
    failed := (List.range 4).map fun i => s.getF (Fld.lightFailed i), killed := s.getF Fld.lightKilled
    pinFail := s.getF Fld.lightPinFail, pinFailLn := s.getF Fld.lightPinFailLn, darkCount := s.light.darkCount }

/-- The accumulators of a converter as a mark carries them. -/
def Adc.marks (x : Adc) : List AccumMark := x.acc.toList.map fun a => ⟨a.sum, a.count, a.min, a.max, a.sat, a.out⟩

/-- The content of SENSE_MARK (Table BP.2). -/
def State.senseMark (s : State) : SenseMark :=
  { accA := s.adcA.marks, accB := s.adcB.marks, est := s.amb.est.toList, age := s.amb.age, stale := s.amb.stale
    freshCount := s.amb.freshCount }

/-- The HELLO of this engine (Table BP.2, R427).
Log 74 (DEDUCED). -/
def State.ownHello (s : State) : HelloMsg :=
  { serial := s.identity.serial, straps := s.sys.straps, part := partCode s.identity.variant
    stepping := steppingCode s.identity.stepping, present := presentWord s.identity.variant, enabled := s.sys.enabled
    recipeId := s.sys.recipeId, recipeRev := s.sys.recipeRev, crc := (s.boot.recipe.map (·.crc)).getD 0
    active := decide (s.pair.mode = .active) }

/-! ### Resync -/

/-- What the active engine transfers (R431).
Log 75 (DEDUCED). -/
def State.resyncContent (s : State) : Resync :=
  { store := s.vs.store.map (fun e => (e.1, e.2, sparseGet (fun _ => 0) s.vs.owner e.1))
      ++ (s.vs.owner.filter fun e => !(s.vs.store.any fun x => x.1 == e.1)).map fun e => (e.1, 0, e.2)
    usb := s.usb.queue, ser := s.ser.queue.map fun e => ⟨e.rec2, e.sent⟩, gw := s.fab.gw
    resEnd := s.pair.blockEnd, last := s.former.seqNext - 1, light := s.lightMark, sense := s.senseMark }

/-- A resync starts where the link is up with a passed comparison and the partner is unsynced (R431). -/
def State.resyncIfDue (s : State) : State :=
  if s.pairActive && s.pair.linkUp && s.pair.hello.isSome && !s.pair.disarmed && !s.pair.synced && !s.pair.resync then
    let s1 := { s with pair := { s.pair with resync := true } }.count16 Fld.pairResyncCount
    let s2 := s1.pairSend .resyncStart
    (s2.pairSend (.resyncEnd s2.resyncContent)).askBlock
  else s

/-! ### Entering and leaving the active role -/

/-- The message that mirrors a record of this engine. -/
def recordMsg (r : List Byte) : PairMsg :=
  if recType r = 1 then .decision (queryAddr (Fin.ofNat 8 (recCtx r).toNat) (recFidx r)) (recWord r) r else .record r

/-- Held records take their numbers in order of decision, each with the replay flag (R433). -/
def State.numberHeld (s : State) (held : List (List Byte)) : State :=
  held.foldl (fun s r => s.formRecord (fun n => withReplay (withSeq r n)) recordMsg) s

/-- Enters ACTIVE (Table BP.3).
Log 74 (DEDUCED). -/
def State.becomeActive (s : State) : State :=
  s.updPair fun x => { x with mode := .active, activeFrom := some s.nowNs, conflict := false, stepDown := false
                              asked := false, wasStandby := false }

/-- Becomes active from WAIT (Table BP.3); records held since before a sleep are numbered, without a gap, and endpoint 0x81
starts (R356).
Log 120 (DEDUCED). -/
def State.waitActive (s : State) : State :=
  let s1 := s.becomeActive
  (({ s1 with former := { s1.former with held := [] } } : State).numberHeld s.former.held).usbStart

/-- Record queues and reorder state are discarded (R426). -/
def State.dropQueues (s : State) : State :=
  { s with
    usb := { s.usb with queue := [], next := 0, busy := false, busyAcked := false }
    ser := { s.ser with queue := [], next := 0, phase := .idle, retries := 0, noListener := false, backoffMs := 0
                        withdrawn := false, lateCancel := false, restartDue := false, arbDone := false, responses := [] }
    fab := { s.fab with gw := [], gwNext := 0, fwdBusy := false
                        inFlows := s.fab.inFlows.map fun f => { f with waiting := [], frags := [] } }
    dec := { s.dec with jxIn := [], jxWait := [], jxFrame := [] } }

/-- Enters STANDBY, unsynced. -/
def State.becomeStandby (s : State) : State :=
  s.updPair fun x => { x with mode := .standby, synced := false, resync := false, stepDown := false, conflict := false
                              activeFrom := none, asked := false }

/-- Leaves the active role for STANDBY (R425, R426): the heartbeat stops, shared balls are released, queues go. -/
def State.leaveActive (s : State) (cause : Word) : State :=
  let s1 := ((s.tapsLost fun _ => true).becomeStandby).dropQueues
  { s1 with balls := { s1.balls with hbLeft := 0 }
            usb := { s1.usb with taps := [] } }.bbEvent 0x0E#7 0xFF#8 0x0005#16 cause

/-- The sequence number of the gap record (R433).
Log 62 (DEDUCED). -/
def State.gapSeq (s : State) : Word := s.pair.resEnd + 1 + (if s.pair.synced then 0 else 1073741824)

/-- Queued records that the former active engine formed carry the replay flag, and every link sends from its oldest
record (R433).
Log 76 (DEDUCED). -/
def State.replayQueues (s : State) : State :=
  { s with
    usb := { s.usb with queue := s.usb.queue.map fun r => ⟨withReplay r.bytes, false⟩, next := 0, busy := false
                        busyAcked := false }
    ser := { s.ser with queue := s.ser.queue.map fun r => { r with rec2 := withReplay r.rec2, wire := none, sent := false }
                        next := 0, phase := .idle, retries := 0, noListener := false, backoffMs := 0, lateCancel := false }
    fab := { s.fab with gw := s.fab.gw.map fun r => ⟨withReplay r.bytes, false⟩, gwNext := 0 } }

/-- A standby may take over (R432).
Log 76 (DEDUCED). -/
def State.mayTakeOver (s : State) : Bool :=
  s.pairAwake && decide (s.pair.mode = .standby) && !s.pair.disarmed && s.getB Fld.pairArm 0
    && decide (s.phase ≠ .sleepEntry)

/-- Takeover (R433), cause 1 silence, 2 FAULT, 3 STEP_DOWN; bit 7 where the engine was unsynced (R432).
Log 76 (DEDUCED). -/
def State.takeover (s : State) (cause : Nat) : State :=
  if !s.mayTakeOver then s
  else
    let c : Byte := BitVec.ofNat 8 (cause + if s.pair.synced then 0 else 128)
    let gap := s.gapSeq
    let last := s.pair.lastMirrored
    let held := s.former.held
    let s1 := (s.becomeActive.raiseAll 11).pairSend (.takeover c gap)
    let s2 := ({ s1 with
        pair := { s1.pair with lastUnsynced := !s.pair.synced, synced := false, resync := false, blockEnd := gap - 1 }
        former := { s1.former with seqNext := gap, held := [] }
        light := { s1.light with joinFrom := some s.nowNs } }.replayQueues).driveColumns (s.nowNs - s.light.courseFrom)
    let s3 := s2.formRecord (s2.gapRecord last c) .record
    let s4 := s3.numberHeld held
    let s5 := ((s4.gwRestart.usbStart).count16 Fld.pairTakeoverCount).bbEvent 0x0E#7 0xFF#8 0x0006#16 (c.setWidth 32)
    (s5.freeze 0x04#8).resyncIfDue

/-! ### Heartbeat -/

/-- HEARTBEAT_PULSE (R423, R538): 40 ns high and then 10 ns low, twenty CORE cycles in all. -/
def execHeartbeatPulse (s : State) : Host.Outcome State Fault Refusal :=
  .next (if s.pairAwake && s.pairActive then { s with balls := { s.balls with hbLeft := 20 } } else s)

/-- An engine has been active for more than 10 µs (R424). -/
def State.activeLong (s : State) : Bool :=
  match s.pair.activeFrom with
  | some t => decide (10000 < s.nowNs - t)
  | none => true

/-- PL_HB_EDGE (R424, Table BP.3): WAIT sees the partner and becomes STANDBY; on an active engine that does not drive the
ball the first edge begins a conflict. -/
def execPlHbEdge (s : State) : Host.Outcome State Fault Refusal :=
  .next (if !s.pairAwake then s
    else match s.pair.mode with
      | .wait =>
        let s1 := s.updPair fun x => { x with hbSeen := true }
        if s.boot.fabricDone ∧ s.phase ≠ .waking then s1.becomeStandby else s1
      | .active =>
        if decide (s.balls.hbLeft ≠ 0) || s.pair.conflict then s
        else
          let s1 := (s.updPair fun x => { x with conflict := true, hbSeen := true }).count16 Fld.pairConflictCount
          if s.activeLong then s1.leaveActive 2 else s1
      | _ => s.updPair fun x => { x with hbSeen := true })

/-- HB_LOST (R423, R432). -/
def execHbLost (s : State) : Host.Outcome State Fault Refusal :=
  .next (if !s.pairAwake then s
    else
      let s1 := (s.updPair fun x => { x with hbSeen := false, conflict := false }).raise 3 26
      s1.takeover (if s.pair.stepDown then 3 else 1))

/-- CONFLICT_SETTLE (R424): the engine's 10 µs have passed and the conflict lasts; the second role leaves. -/
def execConflictSettle (s : State) : Host.Outcome State Fault Refusal :=
  .next (if s.pairAwake && s.pairActive && s.pair.conflict && s.pair.second then s.leaveActive 2
    else s.updPair fun x => { x with activeFrom := if x.conflict then none else x.activeFrom })

/-- PAIR_WAIT_TIMEOUT (Table BP.3): 200 µs of silence after READY.
Log 71 (DEDUCED). -/
def execPairWaitTimeout (s : State) : Host.Outcome State Fault Refusal :=
  .next (if s.pairAwake && decide (s.pair.mode = .wait) && !s.pair.hbSeen && decide (s.phase = .running) then
    s.waitActive.resyncIfDue else s)

/-- An engine in WAIT decides when boot step 10 begins and when it ends, and at wake step 5: STANDBY where the heartbeat has
been seen, else ACTIVE where `first` says so (Table BP.3). -/
def State.waitDecide (s : State) (first : Bool) : State :=
  if !s.pairRuns || decide (s.pair.mode ≠ .wait) then s
  else if s.pair.hbSeen then s.becomeStandby
  else if first then s.waitActive.resyncIfDue
  else s

/-! ### The link -/

/-- PAIR_LINK_UP (R422, R431): delivery starts afresh, and HELLO goes out. -/
def execPairLinkUp (s : State) : Host.Outcome State Fault Refusal :=
  .next (if !s.pairAwake || s.pair.linkUp then s
    else
      let s1 := s.updPair fun x => { x with linkUp := true, out := [], txSeq := 0 }
      (s1.pairSend (.hello s1.ownHello)).resyncIfDue)

/-- PAIR_LINK_DOWN (R422, R428). -/
def execPairLinkDown (s : State) : Host.Outcome State Fault Refusal :=
  .next (if !s.pairAwake || !s.pair.linkUp then s
    else ((s.updPair fun x => { x with linkUp := false, synced := false, resync := false, asked := false, out := []
                                       txSeq := 0 }).count16
      Fld.pairLinkDownCount).bbEvent 0x0E#7 0xFF#8 0x0001#16 0)

/-- PAIR_LINK_RETRANSMIT (R422): the message goes out again; the receiver removes the duplicate. -/
def execPairLinkRetransmit (s : State) : Host.Outcome State Fault Refusal := .next s

/-- A message that ends a resync. -/
def endsResync : PairMsg → Bool
  | .resyncEnd _ => true
  | _ => false

/-- PAIR_LINK_ACK (R422): the message of link sequence `n` is free; an acknowledged RESYNC_END leaves the partner
synced (R428).
Log 75 (DEDUCED). -/
def execPairLinkAck (n : Nat) (s : State) : Host.Outcome State Fault Refusal :=
  .next (if !s.pairAwake || !s.pair.linkUp then s
    else
      let done := s.pairActive && s.pair.resync && s.pair.out.any fun e => e.1 == n && endsResync e.2
      s.updPair fun x => { x with
        out := x.out.filter fun e => e.1 != n, synced := x.synced || done, resync := x.resync && !done })

/-- Strap levels that the handshake compares: all but ST2, ST3 and ST4 (R427). -/
def comparedStraps (l : List (BitVec 4)) : List (BitVec 4) := l.take 2 ++ l.drop 5

/-- The first item that differs: 1 recipe, 2 part or stepping, 3 inventory, 4 straps (R427, Table BB.2).
Log 74 (DEDUCED). -/
def helloMismatch (a b : HelloMsg) : Option Nat :=
  if a.recipeId ≠ b.recipeId ∨ a.recipeRev ≠ b.recipeRev ∨ a.crc ≠ b.crc then some 1
  else if a.part ≠ b.part ∨ a.stepping ≠ b.stepping then some 2
  else if a.present ≠ b.present ∨ a.enabled ≠ b.enabled then some 3
  else if comparedStraps a.straps ≠ comparedStraps b.straps then some 4
  else none

/-- A strapped role: second, shared ingress. -/
def roleOf : Nat → Option (Bool × Bool)
  | 1 => some (false, false)
  | 2 => some (true, false)
  | 3 => some (false, true)
  | 4 => some (true, true)
  | _ => none

/-- The roles of the two engines compared; of two equal roles the engine with the lower die serial
acts as the first (R427). -/
def State.settleRole (s : State) (h : HelloMsg) (lvl : Nat) : State :=
  match s.pairRole, roleOf lvl with
  | some (a, x), some (b, y) =>
    let s1 := if a = b then
        (s.updPair fun p => { p with
          roleConflict := true, second := decide (h.serial.toNat < s.identity.serial.toNat) }).bbEvent
          0x0E#7 0xFF#8 0x0003#16 (BitVec.ofNat 32 lvl)
      else s.updPair fun p => { p with roleConflict := false, second := a }
    if x ≠ y then s1.bbEvent 0x0E#7 0xFF#8 0x0004#16 (BitVec.ofNat 32 lvl) else s1
  | _, _ => s

/-- PAIR_HELLO (R427): the comparison, the role, the shared-ingress check.
Log 74 (DEDUCED). -/
def execPairHello (h : HelloMsg) (s : State) : Host.Outcome State Fault Refusal :=
  .next (if !s.pairAwake || !s.pair.linkUp then s
    else
      let lvl := (h.straps.getD 2 15).toNat
      let item := helloMismatch s.ownHello h
      let s1 := s.updPair fun x => { x with hello := some h, disarmed := item.isSome }
      let s2 := match item with
        | some i => s1.bbEvent 0x0E#7 0xFF#8 0x0002#16 (BitVec.ofNat 32 i)
        | none => s1
      (s2.settleRole h lvl).resyncIfDue)

/-! ### Mirror messages -/

/-- PAIR_RESERVE (R429). -/
def execPairReserve (last : Word) (s : State) : Host.Outcome State Fault Refusal :=
  .next (if s.standby then (s.updPair fun x => { x with resEnd := last }).pairSend (.reserveAck last) else s)

/-- PAIR_RESERVE_ACK (R429). -/
def execPairReserveAck (last : Word) (s : State) : Host.Outcome State Fault Refusal :=
  .next (if s.pairAwake && s.pairActive && s.pair.linkUp && s.pair.asked then
    (s.updPair fun x => { x with blockEnd := last, asked := false }).askBlock else s)

/-- PAIR_DECISION (R335, R428): the word, the record, and the held record of the same frame goes. -/
def execPairDecision (addr : BitVec 14) (word : BitVec 16) (rec2 : List Byte) (s : State) :
    Host.Outcome State Fault Refusal :=
  .next (if !s.standby then s
    else
      let s1 := s.storeWrite addr (recFidx rec2) word
      let s2 := { s1 with
        former := { s1.former with
          held := s1.former.held.filter fun r =>
            !(recType r == 1 && recCtx r == recCtx rec2 && recFidx r == recFidx rec2) }
        pair := { s1.pair with lastMirrored := recSeq rec2 } }
      s2.toLinks State.linkMirrors rec2)

/-- PAIR_RECORD (R428). -/
def execPairRecord (rec2 : List Byte) (s : State) : Host.Outcome State Fault Refusal :=
  .next (if !s.standby then s
    else (s.updPair fun x => { x with lastMirrored := recSeq rec2 }).toLinks State.linkMirrors rec2)

/-- What a mirrored acknowledgement or drop takes from a queue. -/
def ackTakes (n : Word) (drop : Option Word) (seq : Word) : Bool :=
  match drop with
  | some d => decide (seq = d)
  | none => atOrBefore seq n

/-- PAIR_ACK_MARK (R428). -/
def execPairAckMark (l : LinkId) (n : Word) (drop : Option Word) (s : State) : Host.Outcome State Fault Refusal :=
  .next (if !s.standby then s
    else match l with
      | .usb => { s with usb := { s.usb with queue := s.usb.queue.filter fun r => !ackTakes n drop (recSeq r.bytes) } }
      | .ser => { s with ser := { s.ser with queue := s.ser.queue.filter fun r => !ackTakes n drop (recSeq r.rec2) } }
      | .gw => s.updFab fun x => { x with gw := x.gw.filter fun r => !ackTakes n drop (recSeq r.bytes) })

/-- LT_FAULT_N goes low where a mark brings a failed lamp or a bridged pin (R183, R186). -/
def State.markFault (s : State) (m : LightMark) : State :=
  if m.failed.any (· ≠ 0) || decide (m.pinFail ≠ 0) || decide (m.pinFailLn ≠ 0) then s.ltFault else s

/-- The standby's light state becomes that of a mark; a scan that waits for its instant waits here too (R154, R186). -/
def State.takeLight (s : State) (m : LightMark) : State :=
  let s1 := (List.range 8).foldl (fun s g => s.setN (Fld.lightCrvLvl g) (m.levels.getD g 0)) s
  let s2 := (List.range 4).foldl (fun s i => s.setF (Fld.lightFailed i) (m.failed.getD i 0)) s1
  let s3 := (((((s2.setN Fld.lightDerate m.derate).setF Fld.lightTempFilt (tfBits m.tf)).setF Fld.lightKilled m.killed).setF
    Fld.lightPinFail m.pinFail).setF Fld.lightPinFailLn m.pinFailLn)
  let on := s.enabledAt Fld.lightEnable
  let s4 := s3.markFault m
  { s4 with light := { s4.light with
      stage := if !on then s3.light.stage else if m.wait then .wait else .active
      course := if !on then s3.light.course else if m.wait then none
        else some ⟨m.entry, m.line, m.len, m.blank, m.disch, m.dark, m.slot⟩
      courseFrom := m.at_
      nextEntry := if !m.wait && decide (m.entry + 1 < s3.scanLen) then m.entry + 1 else 0
      pulses := Vector.replicate 8 .none
      armed := Vector.ofFn fun g : GroupId => m.armed.getD g.val 0
      tf := m.tf, derateFlag := m.flag, derateUsed := m.derate, darkCount := m.darkCount } }

/-- The accumulators of a mark. -/
def Adc.takeMarks (x : Adc) (l : List AccumMark) : Adc :=
  { x with acc := Vector.ofFn fun i : Fin 16 =>
      match l[i.val]? with
      | some a => ⟨a.sum, a.count, a.min, a.max, a.sat, a.out⟩
      | none => emptyAccum }

/-- The standby's accumulators and estimator become those of a mark (R222). -/
def State.takeSense (s : State) (m : SenseMark) : State :=
  { s with
    adcA := s.adcA.takeMarks m.accA
    adcB := s.adcB.takeMarks m.accB
    amb := { s.amb with est := Vector.ofFn fun i : Fin 4 => m.est.getD i.val none
                        age := m.age, stale := m.stale, freshCount := m.freshCount } }

/-- PAIR_LIGHT_MARK. -/
def execPairLightMark (x : LightMark) (s : State) : Host.Outcome State Fault Refusal :=
  .next (if s.standby then s.takeLight x else s)

/-- PAIR_SENSE_MARK. -/
def execPairSenseMark (x : SenseMark) (s : State) : Host.Outcome State Fault Refusal :=
  .next (if s.standby then s.takeSense x else s)

/-- SENSE_MARK_PERIOD and TIME_MARK_PERIOD (R428, R430): the active engine sends a mark. -/
def execSenseMarkPeriod (s : State) : Host.Outcome State Fault Refusal :=
  .next (if s.pairAwake then s.mirror (.sense s.senseMark) else s)
def execTimeMarkPeriod (s : State) : Host.Outcome State Fault Refusal :=
  .next (if s.pairAwake then s.mirror (.time s.nowNs) else s)

/-- PAIR_TIME_MARK (R430): a partner sample; `ns` is the partner's time at the arrival.
Log 72 (DEDUCED). -/
def execPairTimeMark (ns : Nat) (s : State) : Host.Outcome State Fault Refusal :=
  .next (if s.standby then s.carriedSample .partner ns else s)

/-- PAIR_FAULT (R432): takeover with cause 2. -/
def execPairFault (_trowel : TrowelId) (_cause : Nat) (s : State) : Host.Outcome State Fault Refusal :=
  .next (if s.standby then s.takeover 2 else s)

/-- PAIR_STEP_DOWN (R432): the silence that follows is cause 3. -/
def execPairStepDown (s : State) : Host.Outcome State Fault Refusal :=
  .next (if s.standby then s.updPair fun x => { x with stepDown := true } else s)

/-- PAIR_TAKEOVER_MSG (R425). -/
def execPairTakeoverMsg (_cause : Byte) (_gap : Word) (s : State) : Host.Outcome State Fault Refusal :=
  .next (if s.pairAwake && s.pair.linkUp && s.pairActive then s.leaveActive 1 else s)

/-- PAIR_TROWEL_MSG (R439): at most 8 words are held. -/
def execPairTrowelMsg (w : Word) (s : State) : Host.Outcome State Fault Refusal :=
  .next (if s.pairAwake && s.pair.linkUp && decide (s.pair.words.length < 8) then
    s.updPair fun x => { x with words := x.words ++ [w] } else s)

/-- PAIR_RESYNC_START (R431). -/
def execPairResyncStart (s : State) : Host.Outcome State Fault Refusal :=
  .next (if s.standby then
    (s.updPair fun x => { x with resync := true, synced := false }).count16 Fld.pairResyncCount else s)

/-- The whole verdict store is replaced (R431): entries that the content does not list become 0.
Log 75 (DEDUCED). -/
def State.takeStore (s : State) (l : List (Nat × BitVec 16 × Word)) : State :=
  let stale := (s.resyncContent.store.map (·.1)).filter fun a => !(l.any fun e => e.1 == a)
  l.foldl (fun s e => s.storeWrite (BitVec.ofNat 14 e.1) e.2.2 e.2.1)
    (stale.foldl (fun s a => s.storeWrite (BitVec.ofNat 14 a) 0 0) s)

/-- PAIR_RESYNC_END (R428, R431): the content is in force, and the standby is synced.
Log 75 (DEDUCED). -/
def execPairResyncEnd (c : Resync) (s : State) : Host.Outcome State Fault Refusal :=
  .next (if !(s.standby && s.pair.resync) then s
    else
      let s1 := ((s.takeStore c.store).takeLight c.light).takeSense c.sense
      { s1 with
        usb := { s1.usb with queue := if s.linkMirrors .usb then c.usb else [], next := 0 }
        ser := { s1.ser with
          queue := if s.linkMirrors .ser then c.ser.map fun r => ⟨r.bytes, false, s.urgent r.bytes, none, r.sent⟩ else []
          next := 0 }
        fab := { s1.fab with gw := if s.linkMirrors .gw then c.gw else [], gwNext := 0 }
        pair := { s1.pair with resEnd := c.resEnd, lastMirrored := c.last, resync := false, synced := true } })

/-! ### Fields and sleep -/

/-- The pair state at trowel start: WAIT where the pair runs, else solo (R419, Table BP.3). -/
def State.pairStart (s : State) : State :=
  s.updPair fun x => { x with
    mode := if s.pairRuns then .wait else .solo, second := match s.pairRole with | some (b, _) => b | none => false }

/-- A field write of the PAIR unit that takes effect (Table BP.8).
Log 77 (DEDUCED). -/
def State.pairNow (s : State) (a : Nat) (v : Word) : State :=
  if a = Fld.pairEnable then
    let was := s.pairRuns
    let s1 := s.setF a v
    if s1.pairRuns && !was then
      let s2 := (s1.tapsLost fun _ => true).updPair fun x => { x with mode := .wait }
      s2.waitDecide !s2.pair.second
    else if was && !s1.pairRuns then
      ({ s1 with
        pair := { s1.pair with mode := .solo, linkUp := false, synced := false, resync := false, out := [], asked := false }
        balls := { s1.balls with hbLeft := 0 } } : State).usbStart
    else s1
  else if a = Fld.pairTxMsg then
    if s.pairAwake then s.pairSend (.trowelMsg v) else s
  else if a = Fld.pairRxAck then
    if v.getLsbD 0 then s.updPair fun x => { x with words := x.words.tail } else s
  else s.setF a v

/-- The pair state code of PAIR.STATE. -/
def pairCode : PairMode → Nat
  | .solo => 0
  | .wait => 1
  | .standby => 2
  | .active => 3
  | .halted => 4

/-- The PAIR fields that the unit computes (Table BP.8). -/
def State.readPair (s : State) (a : Nat) : Word :=
  let x := s.pair
  if a = Fld.pairRxMsg then x.words.headD 0
  else if a = Fld.pairState then
    BitVec.ofNat 32 ((if s.pairRole.isSome then (if x.second then 2 else 1) else 0) + 4 * pairCode x.mode
      + 32 * packBits [x.synced, x.disarmed, x.linkUp, x.hbSeen, x.roleConflict, x.resync, x.lastUnsynced])
  else if a = Fld.pairPartnerSerialLo then ((x.hello.map HelloMsg.serial).getD 0).setWidth 32
  else if a = Fld.pairPartnerSerialHi then (((x.hello.map HelloMsg.serial).getD 0) >>> 32).setWidth 32
  else if a = Fld.pairResEnd then (if s.pairActive then x.blockEnd else x.resEnd)
  else if a = Fld.pairLastMirrored then x.lastMirrored
  else s.getF a

/-- Sleep step 6 (R425, R437): an active engine leaves the role; its role is kept for the wake.
Log 73 (DEDUCED). -/
def State.pairSleep (s : State) : State :=
  if !s.pairRuns then s
  else
    let act := s.pairActive
    let s1 := s.updPair fun x => { x with
      mode := .wait, wasActive := act, wasStandby := s.holdsRecords, linkUp := false, synced := false, resync := false, out := [], txSeq := 0
      asked := false, hbSeen := false, conflict := false, stepDown := false }
    let s2 := { s1 with balls := { s1.balls with hbLeft := 0 } }
    if act then s2.bbEvent 0x0E#7 0xFF#8 0x0005#16 3 else s2

/-- Wake step 5 (Table BP.3, R437): the role held before sleep acts as the first role; an engine that finds its partner
active has left the role and discards its queues (R426).
Log 73 (DEDUCED). -/
def State.pairWake (s : State) : State :=
  let s1 := s.waitDecide s.pair.wasActive
  if s.pair.wasActive && decide (s.pair.mode = .wait) && decide (s1.pair.mode = .standby) then s1.dropQueues else s1

end Sys2Proof.Machine
end

