-- ==== Sys2Proof/Machine/Mor.lean ====
section
/-! DEFINITION. The mortar fabric's commands: links, announcements, delay and time, delivered messages, routes (R440 to
R481). -/

namespace Sys2Proof.Machine

/-! ### Links -/

/-- The port runs and is awake: from trowel start on, not asleep or under reset (R440, R478).
Log 84 (DEDUCED). -/
def State.morAwake (s : State) (m : MorId) : Bool :=
  s.morRuns m && s.boot.started && (match s.phase with
    | .booting | .running | .halted => true
    | .sleepEntry => decide (s.sys.sleepStep < 6)
    | .waking => decide (4 ≤ s.sys.wakeStep)
    | _ => false)

/-- The port runs, is awake and up.
Log 84 (DEDUCED). -/
def State.morLive (s : State) (m : MorId) : Bool := s.morAwake m && s.fab.ports[m].up

/-- The port comes up once both sides have sent LINK_HELLO and both lanes are locked (R443). -/
def State.morTryUp (s : State) (m : MorId) : State :=
  let p := s.fab.ports[m]
  if !p.up && p.helloSent && p.helloSeen && p.lock0 && p.lock1 then s.morUp m false else s

/-- LINK_HELLO (R441, R443). -/
def execLinkHello (m : MorId) (serial : BitVec 64) (lane0 lane1 exch pol : Bool) (s : State) :
    Host.Outcome State Fault Refusal :=
  .next (if !s.morAwake m || s.fab.ports[m].up then s
    else (s.updMor m fun p => { p with
      peer := some serial, lock0 := lane0, lock1 := lane1, exch := exch, pol := pol, helloSeen := true }).morTryUp m)

/-- LINK_HELLO_PERIOD (R445). -/
def execLinkHelloPeriod (m : MorId) (s : State) : Host.Outcome State Fault Refusal :=
  .next (if !s.morAwake m || s.fab.ports[m].up then s
    else (s.updMor m fun p => { p with helloSent := true }).morTryUp m)

/-- PORT_DEGRADED (R443): the port comes up on the lane given. -/
def execPortDegraded (m : MorId) (lane : Bool) (s : State) : Host.Outcome State Fault Refusal :=
  .next (if !s.morAwake m || s.fab.ports[m].up then s
    else
      let s1 := s.updMor m fun p => { p with lock0 := !lane, lock1 := lane }
      (s1.bbEvent 0x0D#7 (BitVec.ofNat 8 m.val) 0x0001#16 (if lane then 1 else 0)).morUp m true)

/-- A message that a port has accepted: delivered here, or forwarded with its hop count raised (R449, R451, R453). -/
def State.transit (s : State) (x : MorMsg) : State :=
  if s.fab.id = some x.dst then s.deliver x
  else if 8 ≤ x.hop.toNat then s.count16 Fld.morHopDropCount
  else (s.countWrap Fld.morFwdCount 1).forward { x with hop := x.hop + 1 }

/-- LINK_FRAME (R444): accepted in link-sequence order; a frame that fails its CRC is counted and discarded. -/
def execLinkFrame (m : MorId) (seq : BitVec 16) (x : LinkItem) (crcOk : Bool) (s : State) :
    Host.Outcome State Fault Refusal :=
  .next (if !s.morLive m then s
    else if !crcOk then s.count16 (Fld.morCrcErrCount m)
    else if seq ≠ s.fab.ports[m].rxSeq then s
    else
      let s1 := s.updMor m fun p => { p with rxSeq := p.rxSeq + 1 }
      match x with
      | .msg y => s1.transit y
      | .announce a => s1.updFab fun f => { f with annIn := f.annIn ++ [(m, a)] })

/-- LINK_ACK (R444): frees every frame up to the sequence given. -/
def execLinkAck (m : MorId) (seq : BitVec 16) (s : State) : Host.Outcome State Fault Refusal :=
  .next (if !s.morLive m then s
    else s.updMor m fun p =>
      match p.out.findIdx? fun e => e.1 == seq with
      | some i => { p with out := p.out.drop (i + 1) }
      | none => p)

/-- LINK_RETRANSMIT (R444). -/
def execLinkRetransmit (m : MorId) (s : State) : Host.Outcome State Fault Refusal :=
  .next (if s.morLive m && !s.fab.ports[m].out.isEmpty then s.count16 (Fld.morRetxCount m) else s)

/-- PORT_DOWN (R444, R463). -/
def execPortDown (m : MorId) (s : State) : Host.Outcome State Fault Refusal :=
  .next (if !s.morLive m then s
    else
      let s1 := s.count16 (Fld.morDownCount m)
      (s1.bbEvent 0x0D#7 (BitVec.ofNat 8 m.val) 0x0002#16 (s1.getF (Fld.morDownCount m))).morDown m)

/-! ### Announcements -/

/-- ANNOUNCE (R446): the oldest announcement accepted by a port. -/
def execAnnounce (s : State) : Host.Outcome State Fault Refusal :=
  .next (match s.fab.annIn with
    | [] => s
    | (m, a) :: r => (s.updFab fun x => { x with annIn := r }).takeAnnounce m a)

/-- ANNOUNCE_PERIOD (R446). -/
def execAnnouncePeriod (s : State) : Host.Outcome State Fault Refusal :=
  .next (if s.anyMor && s.boot.started then s.announceNow else s)

/-- ANNOUNCE_AGE_OUT (R446): the originator leaves the database; its binding stays (R450). -/
def execAnnounceAgeOut (serial : BitVec 64) (s : State) : Host.Outcome State Fault Refusal :=
  .next (if s.fab.nodes.any fun n => n.serial == serial then
    (s.updFab fun x => { x with nodes := x.nodes.filter fun n => n.serial != serial }).routeChange else s)

/-! ### Delay and time -/

/-- This node is the grandmaster (R473). -/
def State.isGm (s : State) : Bool := s.grandmaster.isSome && decide (s.grandmaster = s.fab.id)

/-- The content of a TIME frame that this node sends: valid, time base, offset in ns (R475).
Log 83 (DEDUCED). -/
def State.timeFrame (s : State) : Bool × Nat × Int :=
  if s.isGm then (true, s.nowNs, 0) else (s.time.fabric.qualified, s.nowNs, s.time.fabric.lastO / nsUnit)

/-- DELAY_EXCHANGE_PERIOD (R474, R475): an up port sends DELAY_REQ and TIME.
Log 83 (DEDUCED). -/
def execDelayExchangePeriod (m : MorId) (s : State) : Host.Outcome State Fault Refusal :=
  .next (if !s.morLive m then s
    else s.updMor m fun p => { p with sentReq := some s.nowNs, sentTime := some s.timeFrame })

/-- DELAY_REQ (R474): answered with DELAY_RESP. -/
def execDelayReq (m : MorId) (s : State) : Host.Outcome State Fault Refusal :=
  .next (if !s.morLive m then s else s.updMor m fun p => { p with sentResp := some s.nowNs })

/-- DELAY_RESP (R474): one measurement; MOR.DELAY_NS is the mean of the last 16. -/
def execDelayResp (m : MorId) (t1 t2 t3 t4 : Nat) (s : State) : Host.Outcome State Fault Refusal :=
  .next (if !s.morLive m then s
    else
      let d := (((t4 : Int) - t1) - ((t3 : Int) - t2)) / 2
      let l := (d :: s.fab.ports[m].delays).take 16
      (s.updMor m fun p => { p with delays := l }).setN (Fld.morDelayNs m) (min 0xFFFF (l.sum / l.length).toNat))

/-- FABRIC_TIME_FRAME (R474, R475): a valid frame on the time port is a fabric sample, once the port has 16 delay
measurements; the grandmaster takes none. -/
def execFabricTimeFrame (m : MorId) (_gm : Option (BitVec 6)) (valid : Bool) (ns : Nat) (ofs : Int) (s : State) :
    Host.Outcome State Fault Refusal :=
  .next (if s.morLive m && valid && decide (s.timePort = some m) && decide (16 ≤ s.fab.ports[m].delays.length) && !s.isGm
    then s.carriedSample .fabric ((ns : Int) + ofs + s.getN (Fld.morDelayNs m)) else s)

/-! ### Delivered messages -/

/-- The oldest unit of a kind that the fabric has delivered, with its place in the inbox.
Log 81 (DESIGN CHOICE). -/
def State.nextUnit (s : State) (kind : Byte) : Option (Nat × BitVec 6 × List Byte) :=
  match s.fab.inbox.findIdx? fun u => u.2.1 == kind with
  | none => none
  | some i => (s.fab.inbox[i]?).map fun u => (i, u.1, u.2.2)

/-- The unit at a place in the inbox has been taken. -/
def State.dropUnit (s : State) (i : Nat) : State := s.updFab fun x => { x with inbox := x.inbox.eraseIdx i }

/-- Bytes that an origin has in the forward queue.
Log 79 (DEDUCED). -/
def Fabric.fwdBytes (x : Fabric) (src : BitVec 6) : Nat :=
  ((x.fwd.filter fun e => e.1 == src).map fun e => e.2.length).sum

/-- MOR_RECORD (R466): into the forward queue, within the 32 KiB of its origin.
Log 79 (DEDUCED). -/
def execMorRecord (s : State) : Host.Outcome State Fault Refusal :=
  .next (match s.nextUnit 1 with
    | none => s
    | some (i, src, b) =>
      let s1 := s.dropUnit i
      if s1.fab.fwdBytes src + b.length ≤ 32768 then
        (s1.updFab fun x => { x with fwd := x.fwd ++ [(src, b)] }).usbStart
      else s1)

/-- MOR_DELIVERED (R465): the records it covers leave, the next ones go, and the partner hears of it (R428).
Log 81 (DESIGN CHOICE). -/
def execMorDelivered (s : State) : Host.Outcome State Fault Refusal :=
  .next (match s.nextUnit 2 with
    | none => s
    | some (i, _, b) =>
      let s1 := s.dropUnit i
      let n := BitVec.ofNat 32 (leAt b 0 4)
      State.gwPump 8 ((s1.updFab fun x =>
        { x.gwAck n with
          delivered := if x.deliveredAny && precedes n x.delivered then x.delivered else n
          deliveredAny := true }).mirror (.ackMark .gw n none)))

/-- MOR_JOINT (R469, R480): a complete unit goes to the decode cluster; a standby accepts none. -/
def execMorJoint (s : State) : Host.Outcome State Fault Refusal :=
  .next (match s.nextUnit 3 with
    | none => s
    | some (i, u) =>
      let s1 := s.dropUnit i
      if s1.jointOn then { s1 with dec := { s1.dec with jxIn := s1.dec.jxIn ++ [u] } } else s1)

/-- MOR_TAP (R471): on endpoint 0x82 with the origin in byte 3, or discarded. -/
def execMorTap (s : State) : Host.Outcome State Fault Refusal :=
  .next (match s.nextUnit 4 with
    | none => s
    | some (i, src, b) =>
      let s1 := s.dropUnit i
      if s1.tapDestLive none then
        let c := b.set 3 ((b.getD 3 0 &&& 1) ||| 0x80#8 ||| (src.setWidth 8 <<< 1))
        { s1 with usb := { s1.usb with
          taps := s1.usb.taps ++ [TapPkt.mk none (Fin.ofNat 8 (byteAt b 1)) true c] } }
      else s1.count16 Fld.morTapDiscardCount)

/-- MOR_TROWEL (R472): at most 8 words are held. -/
def execMorTrowel (s : State) : Host.Outcome State Fault Refusal :=
  .next (match s.nextUnit 5 with
    | none => s
    | some (i, src, b) =>
      let s1 := s.dropUnit i
      if s1.fab.words.length < 8 then
        s1.updFab fun x => { x with words := x.words ++ [(src, BitVec.ofNat 32 (leAt b 0 4))] }
      else s1.count16 Fld.morMsgDropCount)

/-- MOR_BROKEN (R462, R467): the flow's next message restarts it; the gateway link sends from its oldest record. -/
def execMorBroken (s : State) : Host.Outcome State Fault Refusal :=
  .next (match s.nextUnit 6 with
    | none => s
    | some (i, src, b) =>
      let s1 := s.dropUnit i
      let c := b.getD 0 0
      let s2 := s1.updFab fun x => x.setOut { x.outFlow src c with restart := true }
      if c = 2 ∧ s2.gateway = some src then s2.gwRestart else s2)

/-- FLOW_BROKEN (R460): the waiting messages go, BROKEN goes to the source. -/
def execFlowBroken (src : BitVec 6) (cls : Byte) (s : State) : Host.Outcome State Fault Refusal :=
  .next (match s.fab.inFlow src cls with
    | none => s
    | some f =>
      if f.waiting.isEmpty then s
      else
        let s1 := (s.updFab fun x => x.setIn { f with expect := none, waiting := [], frags := [], brokenSent := true })
        (((s1.raise 3 23).count16 Fld.morBrokenCount).bbEvent 0x0D#7 0xFF#8 0x0005#16
          (BitVec.ofNat 32 (src.toNat + cls.toNat % 4 * 256)) |>.freezeIf 0x13#8 [3, 5] 2).sendBroken src cls
            (f.expect.getD 0))

/-- UNREACHABLE_EXPIRY (R451, R467): the oldest message that waits for the destination is discarded. -/
def execUnreachableExpiry (dst : BitVec 6) (s : State) : Host.Outcome State Fault Refusal :=
  .next (match s.fab.wait.findIdx? fun m => m.dst == dst with
    | none => s
    | some i =>
      match s.fab.wait[i]? with
      | none => s
      | some m =>
        let s1 := (s.updFab fun x => { x with wait := x.wait.eraseIdx i }).count16 Fld.morUnreachDropCount
        if s.fab.id = some m.src then
          let s2 := s1.updFab fun x => x.setOut { x.outFlow m.dst m.cls with restart := true }
          if m.cls = 2 ∧ s2.gateway = some m.dst then s2.gwRestart else s2
        else s1)

/-- GATEWAY_PROGRESS_TIMEOUT (R467). -/
def execGatewayProgressTimeout (s : State) : Host.Outcome State Fault Refusal :=
  .next (if s.fab.gwNext = 0 then s else s.gwRestart)

/-! ### Fields -/

/-- A field write of the MOR unit that takes effect (Tables MF.6 and MF.7). -/
def State.morNow (s : State) (a : Nat) (v : Word) : State :=
  if a = Fld.morTxMsg then s.originate ((s.getF Fld.morTxDest).setWidth 6) 1 5 false (leBytes 4 v.toNat)
  else if a = Fld.morRxAck then if v.getLsbD 0 then s.updFab fun x => { x with words := x.words.tail } else s
  else if Fld.morRoute 0 ≤ a ∧ a ≤ Fld.morRoute 63 then (s.setF a v).rerouted
  else
    match [(0 : MorId), 1, 2, 3].find? fun m => decide (a = Fld.morEnable m) with
    | some m =>
      let s1 := s.setF a v
      if v.getLsbD 0 then s1 else if s1.fab.ports[m].up then s1.morDown m else s1.updMor m fun _ => MorPort.idle
    | none => s.setF a v

/-- The peer bits of one port in MOR.ADJ.
Log 80 (DEDUCED). -/
def State.adjBits (s : State) (p : Option (BitVec 64)) : Nat :=
  match p.bind s.idOf with
  | some i => i.toNat + 64
  | none => 0

/-- MOR.ADJ of a node of the database, this node included (R452, Table MF.7). -/
def State.adjWord (s : State) (d : BitVec 6) : Word :=
  let own := if s.fab.id = some d then some s.ownAnnounce else none
  match own.orElse fun _ => s.fab.nodes.find? fun n => n.id == some d with
  | none => 0
  | some n => BitVec.ofNat 32 ((((List.range 4).map fun p => s.adjBits (n.peers.getD p none) * 2 ^ (7 * p)).sum) + 2 ^ 28)

/-- The fields of one port that the unit computes (Table MF.6). -/
def State.readMorPort (s : State) (m : MorId) (a : Nat) : Word :=
  let p := s.fab.ports[m]
  if a = Fld.morState m then
    BitVec.ofNat 32 (packBits [p.lock0, p.lock1, p.up, p.degraded, p.exch, p.pol, p.up && decide (s.timePort = some m)])
  else if a = Fld.morPeer m then BitVec.ofNat 32 (s.adjBits p.peer)
  else s.getF a

/-- A node ID with its known bit. -/
def idBits (i : Option (BitVec 6)) : Word :=
  match i with
  | some d => BitVec.ofNat 32 (d.toNat + 64)
  | none => 0

/-- The MOR fields that the unit computes; the fabric-wide ones lie with M0 (R440, Table MF.7). -/
def State.readMor (s : State) (a : Nat) : Word :=
  let x := s.fab
  if a = Fld.morNodeId then idBits x.id
  else if a = Fld.morFabState then
    BitVec.ofNat 32 (packBits [x.discovered, decide (2 ≤ s.strap 3) && decide (s.strap 3 ≤ 5), x.conflict, s.isGm])
  else if a = Fld.morGmId then idBits s.grandmaster
  else if a = Fld.morRxMsg then ((x.words.head?).map Prod.snd).getD 0
  else if a = Fld.morRxSrc then (((x.words.head?).map Prod.fst).getD (0 : BitVec 6)).setWidth 32
  else if a = Fld.morGwLevel then BitVec.ofNat 32 x.gw.length
  else if a = Fld.morGwDelivered then x.delivered
  else if Fld.morAdj 0 ≤ a ∧ a ≤ Fld.morAdj 63 then s.adjWord (BitVec.ofNat 6 (a - Fld.morAdj 0))
  else s.readMorPort (Fin.ofNat 4 ((a - 0x8400) / 0x100)) a

/-- Sleep step 6 (R478): ports go idle; transit messages and waiting units are discarded. -/
def State.fabricSleep (s : State) : State :=
  (s.tapsLost (·.isSome)).updFab fun x => { x with
    ports := Vector.replicate 4 MorPort.idle, wait := [], annIn := [], fwdBusy := false
    inbox := x.inbox.filter fun u => u.2.1 == 5 || u.2.1 == 2
    inFlows := x.inFlows.map fun f => { f with waiting := [], frags := [] }
    outFlows := x.outFlows.map fun f => { f with restart := true } }

end Sys2Proof.Machine
end

