-- ==== Sys2Proof/Machine/Flags.lean ====
section
/-! DEFINITION. The flag computations of the trowels (R132, Table TW.11) and the condition codes (Table TW.10). -/

namespace Sys2Proof.Machine

/-- ZN: Z = 1 when the result is 0, N = bit 31; C and V unchanged. -/
def Trowel.setZN (x : Trowel) (r : Word) : Trowel := { x with z := r == 0, n := r.getLsbD 31 }

/-- ZN with the C and V given. -/
def Trowel.setZNCV (x : Trowel) (r : Word) (c v : Bool) : Trowel :=
  { x with z := r == 0, n := r.getLsbD 31, c := c, v := v }

/-- Carry out of bit 31 of an addition. -/
def addCarry (a b : Word) : Bool := decide (2 ^ 32 ≤ a.toNat + b.toNat)

/-- Signed overflow of an addition. -/
def addOverflow (a b : Word) : Bool :=
  decide (a.toInt + b.toInt < -(2 ^ 31)) || decide (2 ^ 31 ≤ a.toInt + b.toInt)

/-- Borrow of a subtraction: the first operand is unsigned less than the second. -/
def subBorrow (a b : Word) : Bool := decide (a.toNat < b.toNat)

/-- Signed overflow of a subtraction. -/
def subOverflow (a b : Word) : Bool :=
  decide (a.toInt - b.toInt < -(2 ^ 31)) || decide (2 ^ 31 ≤ a.toInt - b.toInt)

/-- C of a left shift by `k`: the last bit shifted out, unchanged for a shift by 0. -/
def shlCarry (a : Word) (k : Nat) (c : Bool) : Bool := if k = 0 then c else a.getLsbD (32 - k)

/-- C of a right shift by `k`, logical or arithmetic. -/
def shrCarry (a : Word) (k : Nat) (c : Bool) : Bool := if k = 0 then c else a.getLsbD (k - 1)

/-- The condition codes of Table TW.10. -/
def Trowel.cond (x : Trowel) : Cond → Bool
  | .al => true
  | .eq => x.z
  | .ne => !x.z
  | .ult => x.c
  | .uge => !x.c
  | .ule => x.c || x.z
  | .ugt => !x.c && !x.z
  | .slt => x.n != x.v
  | .sge => x.n == x.v
  | .sle => x.z || (x.n != x.v)
  | .sgt => !x.z && (x.n == x.v)
  | .neg => x.n
  | .pos => !x.n
  | .ovf => x.v
  | .nov => !x.v

end Sys2Proof.Machine
end

