-- ==== Sys2Proof/Machine/Operands.lean ====
section
/-! DEFINITION. The operand forms of the trowel instructions (Table TW.9, Table TW.11): work registers, immediates,
data-memory addresses, bit fields and indexed field addresses. -/

namespace Sys2Proof.Machine

/-- Reads work register `r`. -/
def Trowel.rd (x : Trowel) (r : RegId) : Word := x.w[r.toNat]'(r.isLt)

/-- Writes work register `r`. -/
def Trowel.wr (x : Trowel) (r : RegId) (v : Word) : Trowel := { x with w := x.w.set r.toNat v r.isLt }

/-- A signed 18-bit immediate. -/
def simm18 (i : BitVec 18) : Word := i.signExtend 32

/-- An unsigned 18-bit immediate. -/
def uimm18 (i : BitVec 18) : Word := i.setWidth 32

/-- A signed 22-bit immediate. -/
def simm22 (i : BitVec 22) : Word := i.signExtend 32

/-- The data-memory address of `[ra + simm18]`: bits [10:0] of the sum (R136). -/
def Trowel.dataAddr (x : Trowel) (ra : RegId) (i : BitVec 18) : BitVec 11 := (x.rd ra + simm18 i).setWidth 11

/-- The field address of FLDX and FSTX: bits [15:0] of field + ra. -/
def Trowel.fieldAddr (x : Trowel) (ra : RegId) (f : BitVec 16) : BitVec 16 := f + (x.rd ra).setWidth 16

/-- EXT: `w` = `wm1` + 1 bits of `a` from position `p`, bits above 31 reading 0. -/
def extField (a : Word) (p wm1 : BitVec 5) : Word :=
  (a >>> p.toNat) &&& BitVec.ofNat 32 (2 ^ (wm1.toNat + 1) - 1)

/-- INS: the low `wm1` + 1 bits of `a` inserted in `d` at position `p`, bits above 31 discarded. -/
def insField (d a : Word) (p wm1 : BitVec 5) : Word :=
  let m := BitVec.ofNat 32 (2 ^ (wm1.toNat + 1) - 1)
  (d &&& ~~~ (m <<< p.toNat)) ||| ((a &&& m) <<< p.toNat)

/-- Leading zeros of a word, 32 for 0 (CLZ). -/
def leadingZeros (a : Word) : Nat := if a = 0 then 32 else 31 - Nat.log2 a.toNat

/-- A word of data memory.
Log 12 (DESIGN CHOICE), 86 (DESIGN CHOICE). -/
def Trowel.loadWord (x : Trowel) (a : BitVec 11) : Word := sparseGet (fun _ => 0) x.dmem a.toNat

/-- A store to data memory: the whole word, with fresh check bits (Table PK.6). -/
def Trowel.storeWord (x : Trowel) (a : BitVec 11) (v : Word) : Trowel :=
  { x with dmem := sparseSet (fun _ => 0) x.dmem a.toNat v, dataErr := x.dataErr.filter (· != a) }

/-- The trowel goes on at the next instruction; after 4095 comes 0 (R110). -/
def Trowel.advance (x : Trowel) : Trowel := { x with pc := x.pc + 1 }

end Sys2Proof.Machine
end

