-- ==== Sys2Proof/Machine/Levels.lean ====
section
/-! DEFINITION. The level events of the trowels (Tables TW.7 and TW.8), and which events are present (R127, R135). -/

namespace Sys2Proof.Machine

/-- The level events of trowel `t`'s own numbers 16 to 47, `none` for a pulse event (Table TW.8). -/
def State.ownLevel (s : State) (t : TrowelId) (n : Nat) : Option Bool :=
  match t.val, n with
  | 0, 27 => some s.pins.ltEn
  | 1, 21 => some s.adcA.refReady
  | 1, 22 => some s.adcB.refReady
  | 2, 32 => some (!s.former.results.isEmpty)
  | 2, 33 => some (!s.vs.decide_.isEmpty)
  | 2, 37 => some (!s.dec.jxWait.isEmpty)
  | 2, 38 => some s.recordSpace
  | 2, 39 => some s.vs.backlogged
  | 3, 16 => some s.fab.ports[(0 : MorId)].up
  | 3, 17 => some s.fab.ports[(1 : MorId)].up
  | 3, 18 => some s.fab.ports[(2 : MorId)].up
  | 3, 19 => some s.fab.ports[(3 : MorId)].up
  | 3, 20 => some (!s.fab.words.isEmpty)
  | 3, 24 => some (!s.pair.words.isEmpty)
  | 3, 25 => some s.pairUp
  | 3, 31 => some s.usb.configured
  | 3, 33 => some s.usb.noteHigh
  | 3, 34 => some s.ser.noteHigh
  | 3, 35 => some s.ser.noListener
  | _, _ => none

/-- The level of a level event of trowel `t`, `none` for a pulse event (Tables TW.7 and TW.8, R130). -/
def State.level (s : State) (t : TrowelId) (n : Nat) : Option Bool :=
  if n = 3 then some (!s.trowels[t].mail.isEmpty)
  else if n = 7 then some s.bb.frozen
  else if n = 8 then some s.thermal.warn
  else if n = 10 then some s.activeLevel
  else if 48 ≤ n then some ((presentWord s.identity.variant).getLsbD (n - 48))
  else s.ownLevel t n

/-- Event `n` is present in trowel `t`: its pending bit is set or, for a level event, its level is high (R135). -/
def State.eventPresent (s : State) (t : TrowelId) (n : Nat) : Bool :=
  match s.level t n with
  | some b => b
  | none => s.trowels[t].pending.getLsbD n

/-- The lowest-numbered present event of a mask (R135). -/
def State.lowestEvent (s : State) (t : TrowelId) (mask : BitVec 64) : Option Nat :=
  (List.range 64).find? fun n => mask.getLsbD n && s.eventPresent t n

/-- Taking event `n`: the pending bit of a pulse event is cleared; a level event keeps its level (R127). -/
def Trowel.clearEvent (x : Trowel) (n : Nat) : Trowel :=
  { x with pending := x.pending &&& ~~~ BitVec.ofNat 64 (2 ^ n) }

end Sys2Proof.Machine
end

