-- ==== Sys2Proof/Machine/Halt.lean ====
section
/-! DEFINITION. Halting (R83), the trowel fault (R141) and the refusal of a field write (R114), as operations that
several commands share. -/

namespace Sys2Proof.Machine

/-- The trowels stop: no program runs, no event wakes one. -/
def State.stopTrowels (s : State) : State :=
  { s with trowels := s.trowels.map fun x => { x with status := .stopped } }

/-- The halted engine (R83, R141): READY low, FAULT_N low, every lamp off, converters stopped, no heartbeat, the verdict
port and the serial line released, USB attached where ST9 enables it, the pair state HALTED where the engine has a role
(Table BP.3).
Log 66 (DEDUCED). -/
def State.enterHalt (s : State) : State :=
  let s1 := ((s.tapsLost (·.isSome)).lightRest.stopConverters).serRelease.usbAbandon
  ({ s1 with
    phase := .halted
    balls := { s1.balls with ready := false, faultLow := true, hbLeft := 0 }
    pair := { s1.pair with mode := if s1.pair.mode = .solo then .solo else .halted } } : State).usbAttach

/-- Every field write that its unit has not yet received is discarded (R141): queued entries without an answer and
group buffers. -/
def State.discardWrites (s : State) : State :=
  { s with trowels := s.trowels.map fun x =>
      { x with wq := x.wq.filter (·.answer.isSome), group := none } }

/-- The TROWEL cycle in progress, counted from the start of boot: one in two CORE cycles (Table PV.2). -/
def State.trowelCycleNo (s : State) : Nat := s.time.core / 2

/-- The events of trowel faults in one cycle, the lower-numbered trowel first, and then the freeze (R141). -/
def State.faultEvents (s : State) (l : List (TrowelId × Word)) : State :=
  (l.foldl (fun (s : State) (e : TrowelId × Word) =>
    s.bbEvent 0x02#7 (BitVec.ofNat 8 e.1.val) 0x0001#16 e.2) s).freeze 0x02#8

/-- A trowel fault (R141): cause 1 watchdog, 2 illegal instruction, 3 return stack, 4 group, 5 FAULT. The active engine
of a pair tells its partner as it halts (Table BP.2).
Log 13 (DEDUCED). -/
def State.trowelFault (s : State) (t : TrowelId) (cause : Nat) (code : BitVec 16) : State :=
  let arg : Word := BitVec.ofNat 32 (s.trowels[t].pc.toNat + cause * 2 ^ 12 + code.toNat * 2 ^ 16)
  let s1 : State := { s with faulted := some ⟨s.trowelCycleNo, s.phase, s.trowels, s.bb, [(t, arg)]⟩ }
  ((((s1.stopTrowels).discardWrites).mirror (.fault t cause)).faultEvents [(t, arg)]).enterHalt

/-- An entry in order of trowel number. -/
def insertFault (e : TrowelId × Word) : List (TrowelId × Word) → List (TrowelId × Word)
  | [] => [e]
  | x :: r => if e.1.val < x.1.val then e :: x :: r else x :: insertFault e r

/-- Trowel `t` does in the TROWEL cycle that has just halted the engine what would fault there too: its event joins the
others of that cycle, ahead of the freeze and in order of trowel number (R141). Whatever else it does is lost with the
stop of the trowels. `can` tells whether the trowel could act as that cycle found it. -/
def State.secondFault (s : State) (t : TrowelId) (can : State → Bool) (f : State → State) : State :=
  match s.faulted with
  | none => s
  | some c =>
    let found : State := { s with phase := c.phase, trowels := c.before, bb := c.bb, faulted := none }
    if decide (s.phase = .halted) && decide (c.cycle = s.trowelCycleNo) && !(c.events.any fun e => e.1 = t) && can found then
      match (f found).faulted with
      | none => s
      | some d =>
        let l := d.events.foldr insertFault c.events
        { s with
          faulted := some { c with events := l }
          bb := (found.faultEvents l).bb }
    else s

/-- A halt at boot with a failure code (R82, R83).
Log 27 (DEDUCED). -/
def State.haltBoot (s : State) (code : Nat) : State :=
  ((s.bbEvent 0x00#7 0xFF#8 0x000F#16 (BitVec.ofNat 32 code)).freeze 0x03#8).enterHalt

/-- Declares a refused write to its trowel (R114, R120): the refusal flag, REF_ADDR, REF_COUNT, REFUSED and one
black-box event. -/
def State.refuse (s : State) (t : TrowelId) (a : BitVec 16) (reason : BitVec 3) : State :=
  ((s.updT t fun x => { x with
      refused := true, refAddr := a, refReason := reason, refCount := min 0xFFFF (x.refCount + 1) }).raise t 5).bbEvent
    0x02#7 (BitVec.ofNat 8 t.val) 0x0002#16 (BitVec.ofNat 32 (a.toNat + reason.toNat * 2 ^ 16))

end Sys2Proof.Machine
end

