-- ==== Sys2Proof/Machine/FieldRead.lean ====
section
/-! DEFINITION. What a field read returns (R113, R117): the value in effect, status fields computed from the units. -/

namespace Sys2Proof.Machine

/-- A pending write of a set that `p` picks exists. -/
def State.pendingIn (s : State) (p : SetId → Bool) : Bool := s.shadow.any fun q => p q.set

/-- The SYS fields (Table SR.15), as trowel `t` reads them. -/
def State.readSys (s : State) (t : TrowelId) (a : Nat) : Word :=
  let y := s.sys
  if a = Fld.sysStrapA then BitVec.ofNat 32 (packLevels (y.straps.take 8))
  else if a = Fld.sysStrapB then BitVec.ofNat 32 (packLevels ((y.straps.drop 8).take 8))
  else if a = Fld.sysStrapC then BitVec.ofNat 32 (packLevels ((y.straps.drop 16).take 4))
  else if a = Fld.sysStrapUnstable then y.unstable.setWidth 32
  else if a = Fld.sysPresent then (presentWord s.identity.variant).setWidth 32
  else if a = Fld.sysEnabled then y.enabled.setWidth 32
  else if a = Fld.sysPart then (partCode s.identity.variant).setWidth 32
  else if a = Fld.sysStepping then (steppingCode s.identity.stepping).setWidth 32
  else if a = Fld.sysBootCause then y.bootCause.setWidth 32
  else if a = Fld.sysRecipeSrc then y.recipeSrc.setWidth 32
  else if a = Fld.sysRecipeId then y.recipeId
  else if a = Fld.sysRecipeRev then y.recipeRev.setWidth 32
  else if a = Fld.sysSealed then (if y.sealedOk then 1 else 0)
  else if a = Fld.sysFailCode then y.failCode.setWidth 32
  else if a = Fld.sysSceneActive then y.sceneActive.setWidth 32
  else if a = Fld.sysSceneReq then y.sceneReq.setWidth 32
  else if a = Fld.sysSceneEntry then
    (match y.scenes[y.sceneReq.toNat]? with
     | some e => ((e.entries[t.val]?).getD 0).setWidth 32
     | none => 0)
  else if a = Fld.sysSceneDone then y.sceneDone.setWidth 32
  else if a = Fld.sysSleepAck then y.sleepAck.setWidth 32
  else if a = Fld.sysWakeCause then y.wakeCause.setWidth 32
  else s.getF a

/-- The LIGHT fields that the unit computes: STATUS and PENDING (Table LM.7). -/
def State.readLight (s : State) (a : Nat) : Word :=
  let l := s.light
  if a = Fld.lightStatus then
    BitVec.ofNat 32 (packBits [l.derateFlag, l.tempLost, !s.pins.ltEn || l.relight,
      s.getB Fld.lightFbHold 0 && decide (s.identity.variant ≠ .evr8440), s.balls.ltFaultLow, l.starved, l.overrunSeen])
  else if a = Fld.lightPending then
    BitVec.ofNat 32 (packBits ((List.finRange 8).map (fun (g : GroupId) => s.pendingIn (· == .group g))
      ++ [s.pendingIn (· == .scan), s.pendingIn fun q => match q with | .own _ => true | _ => false]))
  else if a = Fld.lightPinFailLn ∧ s.identity.variant = .evr8440 then s.getF a &&& 0x0F#32
  else s.getF a

/-- The BB fields (Table FM.19). -/
def State.readBb (s : State) (a : Nat) : Word :=
  if a = Fld.bbStatus then BitVec.ofNat 32 (packBits [s.bb.frozen, s.bb.emptied])
  else if a = Fld.bbHeld then BitVec.ofNat 32 s.bb.ring.length
  else if a = Fld.bbWritten then s.bb.written
  else if a = Fld.bbFreezeCause then s.bb.freezeCause.setWidth 32
  else if a = Fld.bbFreezeTsLo then BitVec.ofNat 32 s.bb.freezeNs
  else s.getF a

/-- The CSI fields (Table CI.8). -/
def State.readCsi (s : State) (a : Nat) : Word :=
  let p : PortId := Fin.ofNat 4 ((a - 0x4000) / 0x100)
  if a = Fld.csiStatus p then BitVec.ofNat 32 (packBits (s.csiStatusBits p))
  else if a = Fld.csiOpenVc p then
    BitVec.ofNat 32 (s.ports[p].openVc.foldl (fun n e => n ||| 2 ^ e.1.val) 0)
  else if a = Fld.csiBufLevel p then BitVec.ofNat 32 s.ports[p].level
  else s.getF a

/-- The CTX fields (Table PP.5). -/
def State.readCtx (s : State) (a : Nat) : Word :=
  let k : CtxId := Fin.ofNat 8 ((a - 0x4800) / 0x100)
  if a = Fld.ctxPending k then (if s.pendingIn (· == .ctx k) then 1 else 0)
  else if a = Fld.ctxStatus k then BitVec.ofNat 32 (packBits (s.ctxStatusBits k))
  else if a = Fld.ctxFidx k then s.ctxs[k].fidx
  else s.getF a

/-- A frame of context `k` has tiles analysed and its closing pass still to come. -/
def State.openEvidence (s : State) (k : CtxId) : Bool :=
  s.enabledAt Fld.locEnable && s.frames.any fun f => f.ctx == k && f.started && decide (0 < f.rows) && !f.passed

/-- The LOC fields (Table LD.10).
Log 53 (DEDUCED). -/
def State.readLoc (s : State) (a : Nat) : Word :=
  if a = Fld.locStatus then BitVec.ofNat 32 (packBits ((List.finRange 8).map fun (k : CtxId) => s.openEvidence k))
  else s.getF a

/-- The DEC fields (Table LD.11). -/
def State.readDec (s : State) (a : Nat) : Word :=
  if a = Fld.decPending then
    BitVec.ofNat 32 (packBits ((List.finRange 8).map fun (k : CtxId) => s.pendingIn (· == .dec k)))
  else if a = Fld.decSlotsFree then BitVec.ofNat 32 s.slotsFree
  else if a = Fld.decSlotsRetired then BitVec.ofNat 32 s.dec.retired.length
  else s.getF a

/-- VS.PEEK_DATA after a self-test has destroyed the verdict store is a free value (R514); every other VS field is as
the unit gives it. -/
def State.readVsField (s : State) (a : Nat) : Word :=
  if a = Fld.vsPeekData ∧ s.tap.destroyed.getLsbD 4 = true then
    (Config.freeStore s.tap.destroyedAt (s.getN Fld.vsPeekAddr)) &&& 0xFFFF#32
  else s.readVs a

/-- The value that a unit gives for one of its assigned fields. -/
def State.readUnit (s : State) (t : TrowelId) (a : Nat) : Word :=
  match unitOf a with
  | .sys => s.readSys t a
  | .light => s.readLight a
  | .adcA => s.readAdc .a a
  | .adcB => s.readAdc .b a
  | .amb => s.readAmb a
  | .csi => s.readCsi a
  | .ctx => s.readCtx a
  | .loc => s.readLoc a
  | .dec => s.readDec a
  | .wl => if a = Fld.wlCount then BitVec.ofNat 32 s.former.watch.length else s.getF a
  | .vs => s.readVsField a
  | .recf => s.readRec a
  | .usb => s.readUsb a
  | .serQ | .serC => s.readSer a
  | .mor => s.readMor a
  | .pair => s.readPair a
  | .time => s.readTime a
  | .bb => s.readBb a
  | .trw | .outside => s.getF a

/-- The value that a read of address `a` by trowel `t` returns, latches apart: 0 for an unassigned address (R113), an
absent unit's field (R13), an action field (R484) and the enable field of a unit turned off (R487). -/
def State.readField (s : State) (t : TrowelId) (a : Nat) : Word :=
  match fieldRow a with
  | none => 0
  | some r =>
    if absentField s.identity.variant a || r.action then 0
    else if s.turnedOff a then 0
    else extendRead r (s.readUnit t a)

/-- A read by a reader with latches `l`: the high words of the two field pairs come from the reader's latch (R138). -/
def State.readLatched (s : State) (t : TrowelId) (l : Latches) (a : Nat) : Word :=
  if a = Fld.vsNtcTsHi then l.ntcHi
  else if a = Fld.bbFreezeTsHi then l.frzHi
  else s.readField t a

/-- The reader's latches after a read of `a` (R138). -/
def State.latchAfter (s : State) (l : Latches) (ntcTs : Nat) (a : Nat) : Latches :=
  if a = Fld.vsNtcTsLo then { l with ntcHi := BitVec.ofNat 32 (ntcTs / 2 ^ 32) }
  else if a = Fld.bbFreezeTsLo then { l with frzHi := BitVec.ofNat 32 (s.bb.freezeNs / 2 ^ 32) }
  else l

end Sys2Proof.Machine
end

