-- ==== Sys2Proof/Machine/SleepEntry.lean ====
section
/-! DEFINITION. Sleep entry up to the end of step 4 of Table SR.13: the request, the acknowledgements, the lamps, the
converters and the camera receivers (R69, R103, R185, R221, R247, R310). -/

namespace Sys2Proof.Machine

/-- All four trowels have set their bit of SYS.SLEEP_ACK. -/
def State.sleepAcked (s : State) : Bool := decide (s.sys.sleepAck = 15#4)

/-- No conversion runs on either converter. -/
def State.convertersIdle (s : State) : Bool := s.adcA.conv.isNone && s.adcB.conv.isNone

/-- The matrix shows no course: it rests, or it waits dark for the next scan instant. -/
def State.lightDark (s : State) : Bool := decide (s.light.stage = .rest) || decide (s.light.stage = .wait)

/-- Steps 3 and 4 end together with the last course and the last conversion: references and receivers go off, a
calibration still running ends without a result, open frames close truncated, joint-exchange waits end (R221, R247, R310).
Log 45 (DEDUCED). -/
def State.sleepDark (s : State) : State :=
  let off := fun (x : Adc) => { x.abandon with settling := false, refReady := false, calibrating := false, calWaits := false }
  let s0 := s.lightRest
  let s1 := (({ s0 with light := { s0.light with issued := [] } } : State).updAdc .a off).updAdc .b off
  let s2 := (List.finRange 4).foldl (fun (s : State) (p : PortId) =>
    if s.ports[p].powered then s.portDown p else s) s1
  let s3 := s2.jointEnd
  { s3 with sys := { s3.sys with sleepStep := 4 } }

/-- Sleep entry goes on as far as the present state allows: step 2 once every trowel has acknowledged, steps 3 and 4
once the lamps are dark and the converters are idle.
Log 34 (DEDUCED). -/
def State.sleepProceed (s : State) : State :=
  if decide (s.phase = .sleepEntry) then
    let s1 : State := if s.sys.sleepStep = 1 ∧ s.sleepAcked = true then
      { s with sys := { s.sys with sleepStep := 2 } } else s
    if s1.sys.sleepStep = 2 ∧ s1.lightDark = true ∧ s1.convertersIdle = true then s1.sleepDark else s1
  else s

/-- Sleep entry begins: READY falls, SLEEP happens in all trowels, an active engine of a pair sends STEP_DOWN, the time
base ends its counts and its slew (R103, R416, R437). -/
def State.sleepBegin (s : State) : State :=
  let s1 := (((s.mirror (.stepDown 1)).raiseAll 1).timeSleep)
  ({ s1 with
    phase := .sleepEntry
    balls := { s1.balls with ready := false }
    sys := { s1.sys with sleepStep := 1, sleepWait := false } } : State).sleepProceed

/-- A sleep request (R69, R103): it waits for READY, and for the slow clock with one event. -/
def State.requestSleep (s : State) : State :=
  match s.phase with
  | .booting | .waking => { s with boot := { s.boot with sleepHeld := true } }
  | .running =>
    if s.aon.slowQualified then s.sleepBegin
    else if s.sys.sleepWait then s
    else { s with sys := { s.sys with sleepWait := true } }.bbEvent 0x00#7 0xFF#8 0x000B#16 0
  | _ => s

/-- COURSE: a course boundary of the scan (R152 to R158); the active engine of a pair mirrors its light state (R428). -/
def execCourse (s : State) : Host.Outcome State Fault Refusal :=
  let runs := s.enabledAt Fld.lightEnable && decide (s.light.stage ≠ .rest)
  let s1 := s.courseBoundary
  .next (if runs then s1.mirror (.light s1.lightMark) else s1).sleepProceed

/-- CONVERSION_END (R203 to R213); at sleep entry the converter stops here (R221). -/
def execConversionEnd (c : Conv) (raw : Nat) (s : State) : Host.Outcome State Fault Refusal :=
  .next (s.conversionEnd c raw).sleepProceed

/-- SLEEP_REQ_RISE (R103). -/
def execSleepReqRise (s : State) : Host.Outcome State Fault Refusal := .next s.requestSleep

/-- SLEEP_GRACE_EXPIRY: 1 ms without all acknowledgements writes an event, and entry goes on (Table SR.13). -/
def execSleepGraceExpiry (s : State) : Host.Outcome State Fault Refusal :=
  .next (if decide (s.phase = .sleepEntry) && decide (s.sys.sleepStep = 1) then
    let s1 := s.bbEvent 0x00#7 0xFF#8 0x000C#16 (s.sys.sleepAck.setWidth 32)
    ({ s1 with sys := { s1.sys with sleepStep := 2 } } : State).sleepProceed
  else s)

/-- The programs' accesses stall: from step 3 of sleep entry until wake (R126).
Log 34 (DEDUCED). -/
def State.accessStalls (s : State) : Bool := decide (s.phase = .sleepEntry) && decide (3 ≤ s.sys.sleepStep)

end Sys2Proof.Machine
end

