-- ==== Sys2Proof/Machine/Trowel.lean ====
section
/-! DEFINITION. Meanings of the trowel instructions that act inside a trowel: arithmetic, data memory, control flow,
events, timer, special registers, mailboxes and LOG (chapter "Trowels"). A command is the execution of the instruction
by trowel `t`; a trowel that is stopped, waits or stalls executes none. -/

namespace Sys2Proof.Machine

/-- The TROWEL domain is clocked and its trowels are not paused: not asleep, waking or under reset (R104, R105). -/
def State.trowelsAwake (s : State) : Bool :=
  match s.phase with
  | .booting | .running | .sleepEntry => true
  | _ => false

/-- Trowel `t` executes an instruction: it runs, and neither waits nor stalls.
Log 3 (DESIGN CHOICE). -/
def State.executes (s : State) (t : TrowelId) : Bool := s.trowelsAwake && decide (s.trowels[t].status = .run)

/-- Trowel `t` executes an instruction whose whole effect is on the trowel itself. -/
def State.runT (s : State) (t : TrowelId) (f : Trowel → Trowel) : State :=
  if s.executes t then s.updT t f else s

/-- Trowel `t` executes an instruction that reaches beyond it. -/
def State.whenRun (s : State) (t : TrowelId) (f : State → State) : State :=
  if s.executes t then f s else s

/-- Trowel `t` executes an instruction that can be a trowel fault. -/
def State.mayFault (s : State) (t : TrowelId) (f : State → State) : State :=
  if s.executes t then f s else s.secondFault t (·.executes t) f

/-- rd takes a result with ZN, and the program goes on. -/
def Trowel.result (x : Trowel) (rd : RegId) (r : Word) : Trowel := ((x.wr rd r).setZN r).advance

/-- ADD: rd = ra + rb, ZNCV (R132, R134). -/
def execAdd (t : TrowelId) (rd ra rb : RegId) (s : State) : Host.Outcome State Fault Refusal :=
  .next (s.runT t fun x => (((x.wr rd (x.rd ra + x.rd rb)).setZNCV (x.rd ra + x.rd rb)
    (addCarry (x.rd ra) (x.rd rb)) (addOverflow (x.rd ra) (x.rd rb))).advance))

/-- SUB: rd = ra - rb, ZNCV, C the borrow. -/
def execSub (t : TrowelId) (rd ra rb : RegId) (s : State) : Host.Outcome State Fault Refusal :=
  .next (s.runT t fun x => (((x.wr rd (x.rd ra - x.rd rb)).setZNCV (x.rd ra - x.rd rb)
    (subBorrow (x.rd ra) (x.rd rb)) (subOverflow (x.rd ra) (x.rd rb))).advance))

/-- AND: rd = ra & rb, ZN. -/
def execAnd (t : TrowelId) (rd ra rb : RegId) (s : State) : Host.Outcome State Fault Refusal :=
  .next (s.runT t fun x => x.result rd (x.rd ra &&& x.rd rb))

/-- OR: rd = ra | rb, ZN. -/
def execOr (t : TrowelId) (rd ra rb : RegId) (s : State) : Host.Outcome State Fault Refusal :=
  .next (s.runT t fun x => x.result rd (x.rd ra ||| x.rd rb))

/-- XOR: rd = ra ^ rb, ZN. -/
def execXor (t : TrowelId) (rd ra rb : RegId) (s : State) : Host.Outcome State Fault Refusal :=
  .next (s.runT t fun x => x.result rd (x.rd ra ^^^ x.rd rb))

/-- MUL: low 32 bits of the product, ZN. -/
def execMul (t : TrowelId) (rd ra rb : RegId) (s : State) : Host.Outcome State Fault Refusal :=
  .next (s.runT t fun x => x.result rd (x.rd ra * x.rd rb))

/-- MULHU: high 32 bits of the unsigned product, ZN. -/
def execMulhu (t : TrowelId) (rd ra rb : RegId) (s : State) : Host.Outcome State Fault Refusal :=
  .next (s.runT t fun x => x.result rd (BitVec.ofNat 32 ((x.rd ra).toNat * (x.rd rb).toNat / 2 ^ 32)))

/-- MULHS: high 32 bits of the signed product, ZN. -/
def execMulhs (t : TrowelId) (rd ra rb : RegId) (s : State) : Host.Outcome State Fault Refusal :=
  .next (s.runT t fun x => x.result rd (BitVec.ofInt 32 ((x.rd ra).toInt * (x.rd rb).toInt / 2 ^ 32)))

/-- MINU: unsigned minimum, ZN. -/
def execMinu (t : TrowelId) (rd ra rb : RegId) (s : State) : Host.Outcome State Fault Refusal :=
  .next (s.runT t fun x => x.result rd ((if (x.rd ra).toNat ≤ (x.rd rb).toNat then x.rd ra else x.rd rb)))

/-- MAXU: unsigned maximum, ZN. -/
def execMaxu (t : TrowelId) (rd ra rb : RegId) (s : State) : Host.Outcome State Fault Refusal :=
  .next (s.runT t fun x => x.result rd ((if (x.rd ra).toNat ≤ (x.rd rb).toNat then x.rd rb else x.rd ra)))

/-- SHL: left shift by rb[4:0]; ZN, and C the last bit shifted out, unchanged by a shift of 0. -/
def execShl (t : TrowelId) (rd ra rb : RegId) (s : State) : Host.Outcome State Fault Refusal :=
  .next (s.runT t fun x => ((x.wr rd (x.rd ra <<< ((x.rd rb).toNat % 32))).setZNCV (x.rd ra <<< ((x.rd rb).toNat % 32))
    (shlCarry (x.rd ra) (((x.rd rb).toNat % 32)) x.c) x.v).advance)

/-- SHR: logical right shift by rb[4:0]; ZN, C. -/
def execShr (t : TrowelId) (rd ra rb : RegId) (s : State) : Host.Outcome State Fault Refusal :=
  .next (s.runT t fun x => ((x.wr rd (x.rd ra >>> ((x.rd rb).toNat % 32))).setZNCV (x.rd ra >>> ((x.rd rb).toNat % 32))
    (shrCarry (x.rd ra) (((x.rd rb).toNat % 32)) x.c) x.v).advance)

/-- SAR: arithmetic right shift by rb[4:0]; ZN, C. -/
def execSar (t : TrowelId) (rd ra rb : RegId) (s : State) : Host.Outcome State Fault Refusal :=
  .next (s.runT t fun x => ((x.wr rd ((x.rd ra).sshiftRight ((x.rd rb).toNat % 32))).setZNCV ((x.rd ra).sshiftRight ((x.rd rb).toNat % 32))
    (shrCarry (x.rd ra) (((x.rd rb).toNat % 32)) x.c) x.v).advance)

/-- CMP: the flags of ra - rb. -/
def execCmp (t : TrowelId) (ra rb : RegId) (s : State) : Host.Outcome State Fault Refusal :=
  .next (s.runT t fun x => (x.setZNCV (x.rd ra - x.rd rb)
    (subBorrow (x.rd ra) (x.rd rb)) (subOverflow (x.rd ra) (x.rd rb))).advance)

/-- TST: the flags of ra & rb. -/
def execTst (t : TrowelId) (ra rb : RegId) (s : State) : Host.Outcome State Fault Refusal :=
  .next (s.runT t fun x => (x.setZN (x.rd ra &&& x.rd rb)).advance)

/-- MOV: rd = ra, ZN. -/
def execMov (t : TrowelId) (rd ra : RegId) (s : State) : Host.Outcome State Fault Refusal :=
  .next (s.runT t fun x => x.result rd (x.rd ra))

/-- CLZ: leading zeros, 32 for 0, ZN. -/
def execClz (t : TrowelId) (rd ra : RegId) (s : State) : Host.Outcome State Fault Refusal :=
  .next (s.runT t fun x => x.result rd (BitVec.ofNat 32 (leadingZeros (x.rd ra))))

/-- ADDI: rd = ra + simm18, ZNCV. -/
def execAddi (t : TrowelId) (rd ra : RegId) (imm : BitVec 18) (s : State) : Host.Outcome State Fault Refusal :=
  .next (s.runT t fun x => ((x.wr rd (x.rd ra + simm18 imm)).setZNCV (x.rd ra + simm18 imm)
    (addCarry (x.rd ra) (simm18 imm)) (addOverflow (x.rd ra) (simm18 imm))).advance)

/-- ANDI: with an unsigned immediate, ZN. -/
def execAndi (t : TrowelId) (rd ra : RegId) (imm : BitVec 18) (s : State) : Host.Outcome State Fault Refusal :=
  .next (s.runT t fun x => x.result rd (x.rd ra &&& uimm18 imm))

/-- ORI: with an unsigned immediate, ZN. -/
def execOri (t : TrowelId) (rd ra : RegId) (imm : BitVec 18) (s : State) : Host.Outcome State Fault Refusal :=
  .next (s.runT t fun x => x.result rd (x.rd ra ||| uimm18 imm))

/-- XORI: with an unsigned immediate, ZN. -/
def execXori (t : TrowelId) (rd ra : RegId) (imm : BitVec 18) (s : State) : Host.Outcome State Fault Refusal :=
  .next (s.runT t fun x => x.result rd (x.rd ra ^^^ uimm18 imm))

/-- SHLI: left shift by n; ZN, C. -/
def execShli (t : TrowelId) (rd ra : RegId) (n : BitVec 5) (s : State) : Host.Outcome State Fault Refusal :=
  .next (s.runT t fun x => ((x.wr rd (x.rd ra <<< n.toNat)).setZNCV (x.rd ra <<< n.toNat)
    (shlCarry (x.rd ra) (n.toNat) x.c) x.v).advance)

/-- SHRI: logical right shift by n; ZN, C. -/
def execShri (t : TrowelId) (rd ra : RegId) (n : BitVec 5) (s : State) : Host.Outcome State Fault Refusal :=
  .next (s.runT t fun x => ((x.wr rd (x.rd ra >>> n.toNat)).setZNCV (x.rd ra >>> n.toNat)
    (shrCarry (x.rd ra) (n.toNat) x.c) x.v).advance)

/-- SARI: arithmetic right shift by n; ZN, C. -/
def execSari (t : TrowelId) (rd ra : RegId) (n : BitVec 5) (s : State) : Host.Outcome State Fault Refusal :=
  .next (s.runT t fun x => ((x.wr rd ((x.rd ra).sshiftRight n.toNat)).setZNCV ((x.rd ra).sshiftRight n.toNat)
    (shrCarry (x.rd ra) (n.toNat) x.c) x.v).advance)

/-- CMPI: the flags of ra - simm18. -/
def execCmpi (t : TrowelId) (ra : RegId) (imm : BitVec 18) (s : State) : Host.Outcome State Fault Refusal :=
  .next (s.runT t fun x => (x.setZNCV (x.rd ra - simm18 imm)
    (subBorrow (x.rd ra) (simm18 imm)) (subOverflow (x.rd ra) (simm18 imm))).advance)

/-- TSTI: the flags of ra & uimm18. -/
def execTsti (t : TrowelId) (ra : RegId) (imm : BitVec 18) (s : State) : Host.Outcome State Fault Refusal :=
  .next (s.runT t fun x => (x.setZN (x.rd ra &&& uimm18 imm)).advance)

/-- EXT: bit field of ra, zero-extended, ZN. -/
def execExt (t : TrowelId) (rd ra : RegId) (p wm1 : BitVec 5) (s : State) : Host.Outcome State Fault Refusal :=
  .next (s.runT t fun x => x.result rd (extField (x.rd ra) p wm1))

/-- INS: inserts a bit field into rd, ZN. -/
def execIns (t : TrowelId) (rd ra : RegId) (p wm1 : BitVec 5) (s : State) : Host.Outcome State Fault Refusal :=
  .next (s.runT t fun x => x.result rd (insField (x.rd rd) (x.rd ra) p wm1))

/-- SATU: min(ra, 2ⁿ - 1); ZN, and V = 1 if clamped. `n` = 0 is a reserved value and so illegal (R131). -/
def execSatu (t : TrowelId) (rd ra : RegId) (n : BitVec 5) (s : State) : Host.Outcome State Fault Refusal :=
  .next (s.mayFault t fun s =>
    if n = 0 then s.trowelFault t 2 0
    else s.updT t fun x =>
      let lim := BitVec.ofNat 32 (2 ^ n.toNat - 1)
      let clamp := decide (lim.toNat < (x.rd ra).toNat)
      { x.result rd (if clamp then lim else x.rd ra) with v := clamp })

/-- MOVI: rd = simm22; no flags. -/
def execMovi (t : TrowelId) (rd : RegId) (imm : BitVec 22) (s : State) : Host.Outcome State Fault Refusal :=
  .next (s.runT t fun x => (x.wr rd (simm22 imm)).advance)

/-- MOVH: rd[31:16] = imm, rd[15:0] kept; no flags. -/
def execMovh (t : TrowelId) (rd : RegId) (imm : BitVec 16) (s : State) : Host.Outcome State Fault Refusal :=
  .next (s.runT t fun x => (x.wr rd (imm ++ (x.rd rd).setWidth 16 : BitVec 32)).advance)

/-- LD: rd = data[(ra + simm18)[10:0]], ZN (R136). A word with an uncorrectable error acts as FAULT 0xFFFE
(Table PK.6).
Log 14 (DEDUCED). -/
def execLd (t : TrowelId) (rd ra : RegId) (imm : BitVec 18) (s : State) : Host.Outcome State Fault Refusal :=
  .next (s.mayFault t fun s =>
    let a := s.trowels[t].dataAddr ra imm
    if s.trowels[t].dataErr.contains a then s.trowelFault t 5 0xFFFE#16
    else s.updT t fun x => x.result rd (x.loadWord a))

/-- ST: data[(ra + simm18)[10:0]] = rs; no flags (R136).
Log 14 (DEDUCED). -/
def execSt (t : TrowelId) (rs ra : RegId) (imm : BitVec 18) (s : State) : Host.Outcome State Fault Refusal :=
  .next (s.runT t fun x => (x.storeWord (x.dataAddr ra imm) (x.rd rs)).advance)

/-- B.cond: continues at the target if the condition holds. -/
def execBCond (t : TrowelId) (cond : Cond) (target : BitVec 12) (s : State) : Host.Outcome State Fault Refusal :=
  .next (s.runT t fun x => if x.cond cond then { x with pc := target } else x.advance)

/-- CALL.cond: pushes the next address and continues at the target; a call with 8 entries on the stack is a trowel
fault (R136). -/
def execCallCond (t : TrowelId) (cond : Cond) (target : BitVec 12) (s : State) : Host.Outcome State Fault Refusal :=
  .next (s.mayFault t fun s =>
    if s.trowels[t].cond cond && decide (8 ≤ s.trowels[t].rstack.length) then s.trowelFault t 3 0
    else s.updT t fun x =>
      if x.cond cond then { x with rstack := (x.pc + 1) :: x.rstack, pc := target } else x.advance)

/-- RET: pops the return address; an empty stack is a trowel fault (R136). -/
def execRet (t : TrowelId) (s : State) : Host.Outcome State Fault Refusal :=
  .next (s.mayFault t fun s =>
    match s.trowels[t].rstack with
    | [] => s.trowelFault t 3 0
    | a :: r => s.updT t fun x => { x with rstack := r, pc := a })

/-- JR: continues at ra[11:0]. -/
def execJr (t : TrowelId) (ra : RegId) (s : State) : Host.Outcome State Fault Refusal :=
  .next (s.runT t fun x => { x with pc := (x.rd ra).setWidth 12 })

/-- NOP. -/
def execNop (t : TrowelId) (s : State) : Host.Outcome State Fault Refusal :=
  .next (s.runT t fun x => x.advance)

/-! ### Events -/

/-- The trowel takes event `n` in a WAIT: rd = n, the pending bit of a pulse event cleared (R127, R135). -/
def State.takeEvent (s : State) (t : TrowelId) (rd : RegId) (n : Nat) : State :=
  let pulse := (s.level t n).isNone
  s.updT t fun x =>
    let x1 := if pulse then x.clearEvent n else x
    { (x1.wr rd (BitVec.ofNat 32 n)).advance with status := .run }

/-- WAIT: takes the lowest present event of the mask rb:ra, or waits (R135). -/
def execWait (t : TrowelId) (rd ra rb : RegId) (s : State) : Host.Outcome State Fault Refusal :=
  .next (s.whenRun t fun s =>
    let mask : BitVec 64 := (s.trowels[t].rd rb ++ s.trowels[t].rd ra : BitVec 64)
    match s.lowestEvent t mask with
    | some n => s.takeEvent t rd n
    | none => s.updT t fun x => { x with status := .waiting rd mask })

/-- WAIT_EVENT_PRESENT: an enabled event has become present during WAIT, which returns its number (R135). -/
def execWaitEventPresent (t : TrowelId) (s : State) : Host.Outcome State Fault Refusal :=
  .next (match (if s.trowelsAwake then s.trowels[t].status else .stopped) with
    | .waiting rd mask =>
      match s.lowestEvent t mask with
      | some n => s.takeEvent t rd n
      | none => s
    | _ => s)

/-- EVT: Z = 0 if event n is present, 1 if not. -/
def execEvt (t : TrowelId) (n : BitVec 6) (s : State) : Host.Outcome State Fault Refusal :=
  .next (s.whenRun t fun s =>
    let p := s.eventPresent t n.toNat
    s.updT t fun x => { x.advance with z := !p })

/-- ECLR: clears the pending bit of pulse event n (R127). -/
def execEclr (t : TrowelId) (n : BitVec 6) (s : State) : Host.Outcome State Fault Refusal :=
  .next (s.whenRun t fun s =>
    let pulse := (s.level t n.toNat).isNone
    s.updT t fun x => (if pulse then x.clearEvent n.toNat else x).advance)

/-! ### Timer and watchdog -/

/-- TSET: starts the one-shot timer for ra cycles; 0 stops it (R139). -/
def execTset (t : TrowelId) (ra : RegId) (s : State) : Host.Outcome State Fault Refusal :=
  .next (s.runT t fun x => { x with timer := (x.rd ra).toNat }.advance)

/-- TIMER: the count of a running timer reaches 0, TIMER happens and the timer stops (R139).
Log 16 (DESIGN CHOICE). -/
def execTimer (t : TrowelId) (s : State) : Host.Outcome State Fault Refusal :=
  .next (if s.trowelsAwake && decide (s.trowels[t].status ≠ .stopped) && decide (s.trowels[t].timer ≠ 0) then
    (s.updT t fun x => { x with timer := 0 }).raise t 4 else s)

/-- KICK: restarts the watchdog count (R140). -/
def execKick (t : TrowelId) (s : State) : Host.Outcome State Fault Refusal :=
  .next (s.runT t fun x => { x with wdCount := 0 }.advance)

/-- The watchdog limit of trowel `t` in TROWEL cycles: values below 100 µs act as 100 (R140). -/
def State.wdLimit (s : State) (t : TrowelId) : Nat := max 100 (s.getN (Fld.trwWdLimit t.val)) * 200

/-- WD_HALF: the count reaches half the limit (Table TW.7). -/
def execWdHalf (t : TrowelId) (s : State) : Host.Outcome State Fault Refusal :=
  .next (if s.trowelsAwake && decide (s.trowels[t].status ≠ .stopped) then s.raise t 6 else s)

/-- The watchdog of trowel `t` counts: the trowel runs, waits or stalls (R140). -/
def State.watched (s : State) (t : TrowelId) : Bool := s.trowelsAwake && decide (s.trowels[t].status ≠ .stopped)

/-- WATCHDOG_EXPIRY: the count reaches the limit, a trowel fault (R140, R141). -/
def execWatchdogExpiry (t : TrowelId) (s : State) : Host.Outcome State Fault Refusal :=
  .next (if s.watched t then s.trowelFault t 1 0
    else s.secondFault t (·.watched t) fun s => s.trowelFault t 1 0)

/-! ### Special registers -/

/-- STATUS (Table TW.12). -/
def State.trowelStatus (s : State) (t : TrowelId) : Word :=
  let x := s.trowels[t]
  let b := fun (v : Bool) (i : Nat) => if v then 2 ^ i else 0
  BitVec.ofNat 32 (b x.z 0 + b x.n 1 + b x.c 2 + b x.v 3 + b x.refused 4 + b x.group.isSome 5 + b x.wq.isEmpty 6
    + t.val * 256)

/-- EVP: pending bits, or levels for level events. -/
def State.eventBits (s : State) (t : TrowelId) : BitVec 64 :=
  (List.range 64).foldl (fun b n => if s.eventPresent t n then b ||| BitVec.ofNat 64 (2 ^ n) else b) 0#64

/-- The time base as a 64-bit word. -/
def State.timeWord (s : State) : BitVec 64 := BitVec.ofNat 64 s.nowNs

/-- The special register `r` of trowel `t` (Table TW.12). -/
def State.special (s : State) (t : TrowelId) (r : BitVec 4) : Word :=
  let x := s.trowels[t]
  match r.toNat with
  | 0 => s.trowelStatus t
  | 1 => (s.eventBits t).setWidth 32
  | 2 => ((s.eventBits t) >>> 32).setWidth 32
  | 3 => x.overrun.setWidth 32
  | 4 => (x.overrun >>> 32).setWidth 32
  | 5 => BitVec.ofNat 32 (x.refAddr.toNat + x.refReason.toNat * 2 ^ 16)
  | 6 => BitVec.ofNat 32 x.refCount
  | 7 => BitVec.ofNat 32 x.cycles
  | 8 => x.latch.cycleHi
  | 9 => s.timeWord.setWidth 32
  | 10 => x.latch.timeHi
  | 11 => BitVec.ofNat 32 x.timer
  | 12 => BitVec.ofNat 32 (s.wdLimit t - x.wdCount)
  | 13 => BitVec.ofNat 32 (t.val + (partCode s.identity.variant).toNat * 2 ^ 8
      + (steppingCode s.identity.stepping).toNat * 2 ^ 16)
  | _ => 0

/-- MFS: rd = special register; CYCLE_LO and TIME_LO latch their high words for this reader (R138). -/
def execMfs (t : TrowelId) (rd : RegId) (sreg : BitVec 4) (s : State) : Host.Outcome State Fault Refusal :=
  .next (s.whenRun t fun s =>
    let v := s.special t sreg
    s.updT t fun x =>
      let l := x.latch
      let l1 := if sreg = 7 then { l with cycleHi := BitVec.ofNat 32 (x.cycles / 2 ^ 32) } else l
      let l2 := if sreg = 9 then { l1 with timeHi := (s.timeWord >>> 32).setWidth 32 } else l1
      { (x.wr rd v).advance with latch := l2 })

/-- MTS: writes the flags and clears the refusal flag (STATUS), clears overrun bits or REF_COUNT; every other
register is read-only (Table TW.12). -/
def execMts (t : TrowelId) (ra : RegId) (sreg : BitVec 4) (s : State) : Host.Outcome State Fault Refusal :=
  .next (s.runT t fun x =>
    let v := x.rd ra
    let y := match sreg.toNat with
      | 0 => { x with z := v.getLsbD 0, n := v.getLsbD 1, c := v.getLsbD 2, v := v.getLsbD 3,
                      refused := x.refused && !v.getLsbD 4 }
      | 3 => { x with overrun := x.overrun &&& ~~~ (v.setWidth 64) }
      | 4 => { x with overrun := x.overrun &&& ~~~ ((v.setWidth 64) <<< 32) }
      | 6 => { x with refCount := 0 }
      | _ => x
    y.advance)

/-! ### Mailboxes, LOG, FAULT -/

/-- SEND: posts ra to a mailbox, C = 1; a full mailbox drops the word, C = 0 (R137). -/
def execSend (t dest : TrowelId) (ra : RegId) (s : State) : Host.Outcome State Fault Refusal :=
  .next (s.whenRun t fun s =>
    let v := s.trowels[t].rd ra
    let ok := decide (s.trowels[dest].mail.length < 8)
    (s.updT dest fun y => if ok then { y with mail := y.mail ++ [v] } else y).updT t
      fun x => { x.advance with c := ok })

/-- RECV: pops the oldest mailbox word; 0 with Z = 1 if empty. -/
def execRecv (t : TrowelId) (rd : RegId) (s : State) : Host.Outcome State Fault Refusal :=
  .next (s.runT t fun x =>
    match x.mail with
    | [] => { (x.wr rd 0).advance with z := true }
    | v :: r => { (x.wr rd v).advance with z := false, mail := r })

/-- LOG: a black-box event with the code and ra, unless the box is frozen (R137, R498). -/
def execLog (t : TrowelId) (ra : RegId) (code : BitVec 16) (s : State) : Host.Outcome State Fault Refusal :=
  .next (s.whenRun t fun s =>
    (s.bbEvent (BitVec.ofNat 7 (0x20 + t.val)) 0xFF#8 code (s.trowels[t].rd ra)).updT t (·.advance))

/-- FAULT: declares a trowel fault with a code (R141). -/
def execFault (t : TrowelId) (code : BitVec 16) (s : State) : Host.Outcome State Fault Refusal :=
  .next (s.mayFault t fun s => s.trowelFault t 5 code)

end Sys2Proof.Machine
end

