-- ==== Sys2Proof/Machine/Access.lean ====
section
/-! DEFINITION. Field access: how a unit judges and takes a write (R114 to R117, R122, R482 to R491), and the
instructions FLD, FLDX, FST, FSTX, FSYNC, GRPB and GRPE with their queues (R118 to R126). -/

namespace Sys2Proof.Machine

/-! ### Judging a write -/

/-- The SYS fields open to trowel `t` (Table TW.4). -/
def sysOpen (t : TrowelId) (a : Nat) : Bool :=
  decide (a = Fld.sysSceneDone) || decide (a = Fld.sysSleepGo) || decide (a = Fld.sysSleepAck)
    || (decide (t = 3) && (decide (a = Fld.sysSleepAddr) || decide (a = Fld.sysSleepRate)))

/-- Trowel `t` serves the field at `a` (R114, Table TW.3). -/
def servesField (t : TrowelId) (a : Nat) : Bool :=
  match unitOf a with
  | .sys => sysOpen t a
  | u => ownerOf u == some t

/-- Why a write of trowel `t` to `a` is refused (Table TW.5), in the order 3, 2, 4, 1; `none` where it is accepted or
meets an absent unit (R13, R114).
Log 19 (DEDUCED). -/
def State.refusal (s : State) (t : TrowelId) (a : Nat) : Option (BitVec 3) :=
  if absentField s.identity.variant a then none
  else match fieldRow a with
    | none => some 3
    | some r =>
      if !servesField t a then some 2
      else if r.cls = .ro then some 4
      else if r.cls = .l ∧ s.runsAt a = true then some 1
      else none

/-- The bits of the enabled word that the straps clear (R15, R91, R249, Table SR.17). -/
def State.strapOff (s : State) : BitVec 16 :=
  let bit := fun (b : Bool) (m : BitVec 16) => if b then m else 0
  let ports := (List.finRange 4).foldl (fun (m : BitVec 16) (p : PortId) =>
    m ||| bit (s.strap (5 + p.val) == 0 || s.strap (5 + p.val) == 15 || s.sharedOff p) (BitVec.ofNat 16 (2 ^ p.val))) 0
  ports ||| bit (s.strap 2 == 0 || s.strap 2 == 15) 0x0400 ||| bit (s.strap 3 == 0) 0x03C0
    ||| bit (s.strap 9 == 0) 0x0030 ||| bit (s.strap 9 == 1) 0x0020
    ||| bit (!(s.strap 13 == 4 || s.strap 13 == 8)) 0x1000
    ||| bit (s.strap 16 == 3) 0x2000 ||| bit (s.strap 17 == 3) 0x4000

/-- The inventory bits of the unit whose enable field stands at `a`; those of LIGHT are its lines 4 to 7 (Table SC.2). -/
def enableBits (a : Nat) : BitVec 16 :=
  if a = Fld.lightEnable then 0x1000
  else if a = Fld.adcEnable .a then 0x2000
  else if a = Fld.adcEnable .b then 0x4000
  else if a = 0x4000 then 0x0001
  else if a = 0x4100 then 0x0002
  else if a = 0x4200 then 0x0004
  else if a = 0x4300 then 0x0008
  else if a = Fld.usbEnable then 0x0030
  else if a = 0x8400 then 0x0040
  else if a = 0x8500 then 0x0080
  else if a = 0x8600 then 0x0100
  else if a = 0x8700 then 0x0200
  else if a = Fld.pairEnable then 0x0400
  else 0

/-- A write of 1 to the enable field at `a` of a unit that is turned off is ignored (R487). Where a strap turned the unit off
it would have widened the strap choice, and an inventory-mismatch event tells so (R16, R77); where only the recipe's own
disable mask did, none is written.
Log 20 (DEDUCED), 21 (DEDUCED). -/
def State.ignoreEnable (s : State) (a : Nat) : State :=
  let bits := enableBits a &&& s.strapOff &&& presentWord s.identity.variant
  if bits ≠ 0 ∨ (a = Fld.lightEnable ∧ s.matrixLines.isNone = true) then
    s.bbEvent 0x00#7 0xFF#8 0x0003#16 (bits.setWidth 32)
  else s

/-- A value that would widen a strap choice (R16, R77, R225, R249, R370), with the inventory bits concerned; the serial line
has none, and its event carries 0.
Log 20 (DEDUCED). -/
def State.widens (s : State) (a : Nat) (v : Word) : Option Word :=
  match (List.finRange 4).find? fun (p : PortId) => decide (a = Fld.csiLanes p) || decide (a = Fld.csiRateMbps p) with
  | some p =>
    let on := decide (s.strapLanes p ≠ 0)
    let wide := if a = Fld.csiLanes p then decide (s.strapLanes p < v.toNat % 8)
      else decide ((if s.portV21 p then 4500 else 2500) < v.toNat % 8192)
    if on && wide then some (BitVec.ofNat 32 (2 ^ p.val)) else none
  | none => if decide (a = Fld.serEnable) && v.getLsbD 0 && decide (s.strap 10 = 0) then some 0 else none

/-- The apply set of a field (Table FM.3), `none` where it has no boundary. -/
def setOf (a : Nat) : Option SetId :=
  match fieldRow a with
  | none => none
  | some r =>
    match r.cls, unitOf a with
    | .c, .light =>
      let o := a - 0x1000
      if isScanField a = true then some .scan
      else if 0x40 ≤ o ∧ o ≤ 0x7F then some (.group (Fin.ofNat 8 (o % 8)))
      else if 0xA0 ≤ o ∧ o ≤ 0xBF then some (.group (Fin.ofNat 8 ((o - 0xA0) / 4)))
      else some (.own a)
    | .q, .adcA => some (.seq .a)
    | .q, .adcB => some (.seq .b)
    | .q, .amb => some .est
    | .f, .ctx => some (.ctx (Fin.ofNat 8 ((a - 0x4800) / 0x100)))
    | .f, .loc => some (.ctx (Fin.ofNat 8 ((a - 0x5010) % 8)))
    | .f, .dec => some (.dec (Fin.ofNat 8 ((a - 0x5810) % 8)))
    | _, _ => none

/-! ### Taking a write -/

/-- A write of trowel `t` to a SYS field (Table TW.4): SCENE_DONE and SLEEP_ACK take the trowel's own bit; the last bit
completes a scene change (R102) or lets sleep entry go on. -/
def State.sysNow (s : State) (t : TrowelId) (a : Nat) (v : Word) : State :=
  let own : BitVec 4 := if v.getLsbD t.val then BitVec.ofNat 4 (2 ^ t.val) else 0
  if a = Fld.sysSceneDone then
    let d := s.sys.sceneDone ||| own
    if d = 15#4 then
      { s with sys := { s.sys with sceneDone := 0, sceneActive := s.sys.sceneReq, scenePending := false } }
    else { s with sys := { s.sys with sceneDone := d } }
  else if a = Fld.sysSleepAck then
    ({ s with sys := { s.sys with sleepAck := s.sys.sleepAck ||| own } } : State).sleepProceed
  else if a = Fld.sysSleepGo then (if v.getLsbD 0 then s.requestSleep else s)
  else s.setF a v

/-- A write that takes effect now, in the unit that holds the field. -/
def State.applyNow (s : State) (t : TrowelId) (a : Nat) (v : Word) : State :=
  match unitOf a with
  | .sys => s.sysNow t a v
  | .light => s.lightNow a v
  | .adcA => s.adcNow .a (a - 0x2000) v
  | .adcB => s.adcNow .b (a - 0x2800) v
  | .amb => s.ambNow a v
  | .csi => s.csiNow a v
  | .ctx => s.ctxNow a v
  | .loc | .wl | .time => s.setF a v
  | .dec => s.decNow a v
  | .vs => s.vsNow a v
  | .recf => s.recNow a v
  | .usb => s.usbNow a v
  | .serQ | .serC => s.serNow a v
  | .mor => s.morNow a v
  | .pair => s.pairNow a v
  | .trw | .bb | .outside => s

/-- The pending writes of units that no longer run take effect (R115). -/
def State.applyStopped (s : State) : State := s.applyPending fun p => !s.runsAt p.addr

/-- An accepted write (R115, R122, R482): cut to the field's width, it waits for its boundary where the field is
shadowed and its unit runs, and takes effect at once otherwise. A write of 1 to the enable field of a unit turned off is
ignored (R487), and so is a widening; both with the event of R16 where a strap is widened.
Log 20 (DEDUCED), 21 (DEDUCED). -/
def State.accept (s : State) (t : TrowelId) (a : Nat) (v : Word) : State :=
  match fieldRow a with
  | none => s
  | some r =>
    let x := cutToWidth r v
    match s.widens a x with
    | some bits => s.bbEvent 0x00#7 0xFF#8 0x0003#16 bits
    | none =>
      if s.turnedOff a && x.getLsbD 0 then s.ignoreEnable a
      else match (if s.runsAt a then setOf a else none) with
        | some set => { s with shadow := s.shadow ++ [⟨set, a, x, s.unitCycle set⟩] }
        | none => (s.applyNow t a x).applyStopped

/-- A unit receives one write of trowel `t`: a refusal, with no change, or the write's effect (R13, R114).
Log 17 (DESIGN CHOICE). -/
def State.receiveWrite (s : State) (t : TrowelId) (w : Posted) : State × Option (BitVec 16 × BitVec 3) :=
  if absentField s.identity.variant w.addr.toNat then (s, none)
  else match s.refusal t w.addr.toNat with
    | some r => (s, some (w.addr, r))
    | none => (s.accept t w.addr.toNat w.val, none)

/-- A unit receives the writes of one entry, in order, within one cycle (R123). -/
def State.receiveAll (s : State) (t : TrowelId) : List Posted → State × List (BitVec 16 × BitVec 3)
  | [] => (s, [])
  | w :: r =>
    let (s1, x) := s.receiveWrite t w
    let (s2, l) := s1.receiveAll t r
    (s2, x.toList ++ l)

/-- The list with the first element that `p` picks changed. -/
def changeFirst {α : Type} (p : α → Bool) (f : α → α) : List α → List α
  | [] => []
  | x :: r => if p x then f x :: r else x :: changeFirst p f r

/-- The refusals of a list of writes reach their trowel (R114, R120). -/
def State.refuseAll (s : State) (t : TrowelId) (l : List (BitVec 16 × BitVec 3)) : State :=
  l.foldl (fun s x => s.refuse t x.1 x.2) s

/-- A write of trowel `t` reaches its unit. Where the trowel's oldest entry for that unit that the unit has not received
holds this write, the unit takes that whole entry, and its reply goes back with FIELD_WRITE_ACCEPTED (R118, R119). While that
oldest entry holds other writes, program order keeps this one back. A write for which the queue holds no entry of the unit
stands alone: it is taken, and its reply counted, at once.
Log 17 (DESIGN CHOICE), 18 (DEDUCED). -/
def State.arrive (s : State) (t : TrowelId) (a : BitVec 16) (v : Word) : State :=
  if !(s.trowelsAwake && s.boot.started) then s
  else
    let mine := fun (e : QEntry) => decide (e.unit = unitOf a.toNat) && e.answer.isNone
    match s.trowels[t].wq.find? mine with
    | some e =>
      if e.writes.contains ⟨a, v⟩ then
        let (s1, l) := s.receiveAll t e.writes
        s1.updT t fun x => { x with wq := changeFirst mine (fun e => { e with answer := some l }) x.wq }
      else s
    | none =>
      let (s1, x) := s.receiveWrite t ⟨a, v⟩
      s1.refuseAll t x.toList

/-! ### The instructions -/

/-- The unit that a group addresses: that of its first write inside a block (R124). -/
def groupUnit (g : List Posted) : Option UnitId :=
  (g.map fun w => unitOf w.addr.toNat).find? (· != .outside)

/-- FST at work (R118, R123, R124): the write goes to the group buffer while a group is open, else to the write queue,
or stalls while the queue is full. -/
def State.post (s : State) (t : TrowelId) (w : Posted) : State :=
  let u := unitOf w.addr.toNat
  match s.trowels[t].group with
  | some g =>
    if 16 ≤ g.length ∨ (u ≠ .outside ∧ (groupUnit g).isSome = true ∧ groupUnit g ≠ some u) then s.trowelFault t 4 0
    else s.updT t fun x => { x.advance with group := some (g ++ [w]), status := .run }
  | none =>
    if 8 ≤ s.trowels[t].wq.length then s.updT t fun x => { x with status := .stalled (.post w) }
    else s.updT t fun x => { x.advance with wq := x.wq ++ [⟨u, [w], none⟩], status := .run }

/-- GRPE at work: the group becomes one write-queue entry; an empty group sends nothing. -/
def State.closeGroup (s : State) (t : TrowelId) : State :=
  match s.trowels[t].group with
  | none => s.updT t fun x => { x.advance with status := .run }
  | some [] => s.updT t fun x => { x.advance with group := none, status := .run }
  | some g =>
    if 8 ≤ s.trowels[t].wq.length then s.updT t fun x => { x with status := .stalled .group }
    else s.updT t fun x =>
      { x.advance with group := none, wq := x.wq ++ [⟨(groupUnit g).getD .outside, g, none⟩], status := .run }

/-- FSYNC at work: it waits until the write queue is empty (R119). -/
def State.syncWrites (s : State) (t : TrowelId) : State :=
  if s.trowels[t].wq.isEmpty then s.updT t fun x => { x.advance with status := .run }
  else s.updT t fun x => { x with status := .stalled .fsync }

/-- A stalled instruction goes on where it can (R118, R119, R126). -/
def State.resume (s : State) (t : TrowelId) : State :=
  if s.accessStalls then s
  else match s.trowels[t].status with
    | .stalled (.post w) => s.post t w
    | .stalled .group => s.closeGroup t
    | .stalled .fsync => s.syncWrites t
    | .stalled (.read rd a) => s.updT t fun x => { x with status := .reading rd a }
    | _ => s

/-- An access stalls during the later part of sleep entry (R126).
Log 1 (DESIGN CHOICE). -/
def State.orStall (s : State) (t : TrowelId) (op : Stall) (f : State → State) : State :=
  if s.accessStalls then s.updT t fun x => { x with status := .stalled op } else f s

/-- An access instruction that cannot be a trowel fault. -/
def State.access (s : State) (t : TrowelId) (op : Stall) (f : State → State) : State :=
  s.whenRun t fun s => s.orStall t op f

/-- FLD: reads a field; the value comes with FIELD_READ_REPLY (R116). -/
def execFld (t : TrowelId) (rd : RegId) (field : BitVec 16) (s : State) : Host.Outcome State Fault Refusal :=
  .next (s.access t (.read rd field) fun s => s.updT t fun x => { x with status := .reading rd field })

/-- FLDX: reads the field at the address plus ra. -/
def execFldx (t : TrowelId) (rd ra : RegId) (field : BitVec 16) (s : State) : Host.Outcome State Fault Refusal :=
  let a := s.trowels[t].fieldAddr ra field
  .next (s.access t (.read rd a) fun s => s.updT t fun x => { x with status := .reading rd a })

/-- FIELD_READ_REPLY: the read returns the value in effect, once every earlier write of the trowel to the unit has been
accepted (R117, R119); ZN. -/
def execFieldReadReply (t : TrowelId) (s : State) : Host.Outcome State Fault Refusal :=
  .next (if !s.trowelsAwake || s.accessStalls then s
    else match s.trowels[t].status with
      | .reading rd a =>
        if s.trowels[t].wq.any fun e => decide (e.unit = unitOf a.toNat) then s
        else
          let v := s.readLatched t s.trowels[t].latch a.toNat
          let l := s.latchAfter s.trowels[t].latch ((s.vs.decide_.head?.map Notice.ts).getD 0) a.toNat
          s.updT t fun x => { x.result rd v with status := .run, latch := l }
      | _ => s)

/-- FST: posts a write of rs (R118). -/
def execFst (t : TrowelId) (rs : RegId) (field : BitVec 16) (s : State) : Host.Outcome State Fault Refusal :=
  let w : Posted := ⟨field, s.trowels[t].rd rs⟩
  .next (s.mayFault t fun s => s.orStall t (.post w) fun s => s.post t w)

/-- FSTX: posts a write of rs to the address plus ra. -/
def execFstx (t : TrowelId) (rs ra : RegId) (field : BitVec 16) (s : State) : Host.Outcome State Fault Refusal :=
  let w : Posted := ⟨s.trowels[t].fieldAddr ra field, s.trowels[t].rd rs⟩
  .next (s.mayFault t fun s => s.orStall t (.post w) fun s => s.post t w)

/-- FSYNC (R119). -/
def execFsync (t : TrowelId) (s : State) : Host.Outcome State Fault Refusal :=
  .next (s.access t .fsync fun s => s.syncWrites t)

/-- GRPB: opens a write group; a group already open is a trowel fault (R123, R124). -/
def execGrpb (t : TrowelId) (s : State) : Host.Outcome State Fault Refusal :=
  .next (s.mayFault t fun s =>
    if s.trowels[t].group.isSome then s.trowelFault t 4 0
    else s.updT t fun x => { x.advance with group := some [] })

/-- GRPE: closes the group and sends it (R123). -/
def execGrpe (t : TrowelId) (s : State) : Host.Outcome State Fault Refusal :=
  .next (s.access t .group fun s => s.closeGroup t)

/-- FIELD_WRITE: a posted write with no row of its own reaches its unit (R115). -/
def execFieldWrite (t : TrowelId) (field : BitVec 16) (v : Word) (s : State) : Host.Outcome State Fault Refusal :=
  .next (s.arrive t field v)

/-- FIELD_WRITE_ACCEPTED: the reply of a unit to the trowel's oldest entry for it frees the entry and brings its
refusals (R118, R120). Writes outside every block are answered without a unit (R124).
Log 17 (DESIGN CHOICE). -/
def execFieldWriteAccepted (t : TrowelId) (unit : UnitId) (s : State) : Host.Outcome State Fault Refusal :=
  .next (if !s.trowelsAwake then s
    else
      let mine := fun (e : QEntry) => decide (e.unit = unit)
      match s.trowels[t].wq.find? mine with
      | none => s
      | some e =>
        let done := if unit = .outside then some (e.writes.map fun w => (w.addr, (3 : BitVec 3))) else e.answer
        match done with
        | none => s
        | some l =>
          ((s.updT t fun x => { x with wq := x.wq.eraseP mine }).refuseAll t l).resume t)

end Sys2Proof.Machine
end

