-- ==== Sys2Proof/Machine/Recipe.lean ====
section
/-! DEFINITION. Recipe images: the layout, the checks of Table SR.11 up to the seal, the seal itself, and the ROM
recipes (R89 to R97, R489, R556). -/

namespace Sys2Proof.Machine

/-! ### Bytes of an image -/

/-- The first `n` bytes that the flash gives; what lies beyond the bytes given reads 0xFF, as erased flash does.
Log 29 (DESIGN CHOICE). -/
def flashBytes (n : Nat) (b : List Byte) : List Byte := b.take n ++ List.replicate (n - b.length) 0xFF#8

/-- The bytes of a part of an image. -/
def slice (b : List Byte) (o n : Nat) : List Byte := (b.drop o).take n

/-- The 32-bit words of a section. -/
def wordsOf (b : List Byte) : List Word := (List.range (b.length / 4)).map fun i => BitVec.ofNat 32 (leAt b (4 * i) 4)

/-- Every byte of a part is 0. -/
def zeros (b : List Byte) (o n : Nat) : Bool := (slice b o n).all (· == 0)

/-! ### Header and directory -/

/-- A section as its directory entry gives it. -/
structure Section where
  kind : Nat
  flags : Nat
  off : Nat
  len : Nat
  deriving DecidableEq, Repr

/-- The types of Table SR.8, the required ones first. -/
def requiredKinds : List Nat := [0x0001, 0x0010, 0x0011, 0x0012, 0x0013, 0x0040]
def sectionKinds : List Nat := requiredKinds ++ [0x0020, 0x0021, 0x0022, 0x0023, 0x0030, 0x0050, 0x0060, 0x0070]

/-- The directory entries of an image (R89).
Log 28 (DEDUCED). -/
def directory (b : List Byte) (count : Nat) : List Section :=
  (List.range count).map fun i =>
    let o := 0x20 + 12 * i
    ⟨leAt b o 2, leAt b (o + 2) 2, leAt b (o + 4) 4, leAt b (o + 8) 4⟩

/-- Two sections share no byte. -/
def Section.apart (x y : Section) : Bool :=
  decide (x.len = 0) || decide (y.len = 0) || decide (x.off + x.len ≤ y.off) || decide (y.off + y.len ≤ x.off)

/-- The pairs of a list satisfy `p`. -/
def pairwise {α : Type} (p : α → α → Bool) : List α → Bool
  | [] => true
  | x :: r => r.all (p x) && pairwise p r

/-- The directory obeys R90, for an image of length `len`.
Log 28 (DEDUCED). -/
def directoryOk (count len : Nat) (d : List Section) : Bool :=
  let first := 0x20 + 12 * count
  decide (6 ≤ count) && decide (count ≤ 14) && decide (first ≤ len - 4)
    && d.all (fun (x : Section) => sectionKinds.contains x.kind && decide (x.off % 4 = 0) && decide (x.len % 4 = 0)
        && decide (first ≤ x.off) && decide (x.off + x.len ≤ len - 4))
    && pairwise (fun (x y : Section) => decide (x.kind ≠ y.kind) && x.apart y) d
    && requiredKinds.all fun k => d.any fun (x : Section) => x.kind == k

/-! ### Content -/

/-- The section of a type, empty where the image carries none. -/
def sectionOf (img : List Byte) (d : List Section) (kind : Nat) : Option (List Byte) :=
  (d.find? fun x => x.kind == kind).map fun x => slice img x.off x.len

/-- An initial field value may address this field (R489).
Log 22 (DEDUCED), 28 (DEDUCED). -/
def initialOk (a : Nat) : Bool :=
  match fieldRow a with
  | none => false
  | some r =>
    match unitOf a with
    | .bb => false
    | .sys => decide (a = Fld.sysSleepAddr) || decide (a = Fld.sysSleepRate) || decide (a = Fld.sysBbTrig)
    | _ => decide (r.cls ≠ .ro)

/-- The records of the initial field values in order, `none` where a record does not fit or names an unknown address. -/
def initialValues : Nat → List Byte → Option (List (Nat × Word))
  | 0, b => if b.isEmpty then some [] else none
  | n + 1, b =>
    if b.isEmpty then some []
    else
      let a := leAt b 0 2
      let c := leAt b 2 2
      if b.length < 4 + 4 * c then none
      else
        let vals := (List.range c).map fun i => (a + i, BitVec.ofNat 32 (leAt b (4 + 4 * i) 4))
        if vals.all (fun v => decide (v.1 < 65536) && initialOk v.1) then
          (initialValues n (b.drop (4 + 4 * c))).map (vals ++ ·)
        else none

/-- Entry `i` of the scene table (Table SR.10). -/
def sceneEntry (b : List Byte) (i : Nat) : SceneEntry :=
  let o := 16 * i
  { defined := (byteAt b o) % 2 == 1
    contexts := BitVec.ofNat 8 (byteAt b (o + 1))
    groups := BitVec.ofNat 8 (byteAt b (o + 2))
    entries := (List.range 4).map fun t => BitVec.ofNat 16 (leAt b (o + 4 + 2 * t) 2) }

/-- The reserved bytes and bits of a scene entry are 0. -/
def sceneClean (b : List Byte) (i : Nat) : Bool :=
  decide (byteAt b (16 * i) < 2) && zeros b (16 * i + 3) 1 && zeros b (16 * i + 12) 4

/-- The digests of a watch list, `none` where it is over size, of another length or not in strictly ascending order. -/
def watchList (b : List Byte) : Option (List (BitVec 64)) :=
  let n := leAt b 0 4
  let l := (List.range n).map fun i => BitVec.ofNat 64 (leAt b (4 + 8 * i) 8)
  if b.length < 4 ∨ 4096 < n ∨ b.length ≠ 4 + 8 * n then none
  else if (l.zip (l.drop 1)).all (fun p => decide (p.1.toNat < p.2.toNat)) then some l else none

/-- The binning factors, `none` where the table has another length or a reserved byte is not 0. -/
def binningTable (b : List Byte) : Option (List (BitVec 16)) :=
  if b.length = 512 ∧ (List.range 128).all (fun i => zeros b (4 * i + 2) 2) = true then
    some ((List.range 128).map fun i => BitVec.ofNat 16 (leAt b (4 * i) 2))
  else none

/-- The homographies, `none` where the section is not whole entries, over 32, or a reserved byte is not 0. -/
def homographyTable (b : List Byte) : Option (List Homography) :=
  let n := b.length / 40
  if b.length % 40 = 0 ∧ n ≤ 32 ∧ (List.range n).all (fun i => zeros b (40 * i + 3) 1) = true then
    some ((List.range n).map fun i =>
      ⟨byteAt b (40 * i), byteAt b (40 * i + 1), byteAt b (40 * i + 2),
        (List.range 9).map fun j => BitVec.ofNat 32 (leAt b (40 * i + 4 + 4 * j) 4)⟩)
  else none

/-- A section that may be missing: its content where it is present and valid, and whether what is there is valid. -/
def optSection {α : Type} (s : Option (List Byte)) (f : List Byte → Option α) : Option α × Bool :=
  match s with
  | none => (none, true)
  | some b => ((f b), (f b).isSome)

/-- The recipe of an image and whether its content is valid (codes 1 to 6 apart; Table SR.11 code 10). -/
def recipeOf (img : List Byte) (d : List Section) : Recipe × Bool :=
  let sec := fun k => (sectionOf img d k).getD []
  let unit := sec 0x0001
  let scn := sec 0x0040
  let scenes := (List.range 8).map (sceneEntry scn)
  let code := (List.range 4).map fun t => sec (0x0010 + t)
  let data := (List.range 4).map fun t => sec (0x0020 + t)
  let init := optSection (sectionOf img d 0x0030) fun b => initialValues (b.length + 1) b
  let watch := optSection (sectionOf img d 0x0050) watchList
  let bin := optSection (sectionOf img d 0x0060) binningTable
  let hom := optSection (sectionOf img d 0x0070) homographyTable
  let mand := BitVec.ofNat 16 (leAt unit 0 2)
  let dis := BitVec.ofNat 16 (leAt unit 4 2)
  let ok := zeros img 7 1 && decide (leAt img 0x12 2 < 2) && zeros img 0x14 12
    && d.all (fun (x : Section) => x.flags == 0)
    && decide (unit.length = 8) && zeros unit 6 2 && (mand &&& dis == 0)
    && code.all (fun b => decide (b.length ≤ 16384)) && data.all (fun b => decide (b.length ≤ 8192))
    && decide (scn.length = 128) && (List.range 8).all (sceneClean scn) && (sceneEntry scn 0).defined
    && init.2 && watch.2 && bin.2 && hom.2
  ({ id := BitVec.ofNat 32 (leAt img 0x0C 4), rev := BitVec.ofNat 16 (leAt img 0x10 2)
     crc := BitVec.ofNat 32 (leAt img (img.length - 4) 4), sealedFlag := byteAt img 0x12 % 2 == 1
     mandatory := mand, optional := BitVec.ofNat 16 (leAt unit 2 2), disable := dis
     code := code.map wordsOf, data := data.map wordsOf, init := init.1.getD [], scenes := scenes
     watch := watch.1.getD [], binning := bin.1, homographies := hom.1.getD [], rom := none }, ok)

/-- The image at the start of a flash slot, read and checked up to its CRC: the first failure of codes 2, 3, 6, 4 and 5
in that order, or the image with its recipe and whether its content is valid (R96).
Log 28 (DEDUCED). -/
def readImage (sealNeeded : Bool) (slot : List Byte) : Except Nat (List Byte × Recipe × Bool) :=
  let h := flashBytes 32 slot
  let len := leAt h 8 4
  let marked := byteAt h 0x12 % 2 == 1
  let count := byteAt h 6
  if h.take 4 ≠ [0x45#8, 0x56#8, 0x52#8, 0x43#8] ∨ leAt h 4 2 ≠ 1 then .error 2
  else if len < 108 ∨ (if marked then 0x3FF98 else 0x40000) < len ∨ len % 4 ≠ 0 then .error 3
  else if sealNeeded && !marked then .error 6
  else
    let img := flashBytes len slot
    let d := directory img count
    if !directoryOk count len d then .error 4
    else if (crc32c (img.take (len - 4))).toNat ≠ leAt img (len - 4) 4 then .error 5
    else .ok (img, recipeOf img d)

/-! ### Seal -/

/-- How the seal check of a sealed image ends (R94): a failure code, or verified. `fused` is the fused key digest. -/
def checkSeal (fused img block : List Byte) : Except Nat Unit :=
  let pk := slice block 8 32
  if block.take 4 ≠ [0x45#8, 0x56#8, 0x53#8, 0x47#8] ∨ leAt block 4 2 ≠ 1 ∨ leAt block 6 2 ≠ 104 then .error 8
  else if sha256 pk ≠ fused then .error 7
  else if ed25519Verify pk img (slice block 40 64) then .ok ()
  else .error 8

/-- No key is fused (R95). -/
def noKey (fused : List Byte) : Bool := fused.all (· == 0)

/-! ### ROM recipes -/

/-- The symbologies of ROM recipe `n` as LOC.SYM_EN bits, `none` where it decodes nothing (Table SR.12). -/
def romSymbols (n : Nat) : Option Nat :=
  match n with
  | 0 => some 0x7F
  | 1 => some (romBits [1, 2, 3])
  | 2 => some (romBits [6, 7])
  | 3 => some (romBits [4, 2, 1])
  | 4 => some (romBits [6])
  | _ => none
where
  /-- Bit c - 1 for each symbology code c. -/
  romBits (l : List Nat) : Nat := l.foldl (fun x c => x ||| 2 ^ (c - 1)) 0

/-- The initial values that every ROM recipe writes (R556).
Log 8 (DESIGN CHOICE). -/
def romLinks : List (Nat × Word) :=
  [(Fld.recEnable, 1), (Fld.recLinks, 7), (Fld.usbEnable, 1), (Fld.serEnable, 1)]

/-- Contexts k0 to k3 on ports A to D, VC0, RAW8, and k4 to k7 the same with RAW10, each enabled with its port.
Log 8 (DESIGN CHOICE). -/
def romContexts : List (Nat × Word) :=
  (List.finRange 4).flatMap (fun (p : PortId) => [(Fld.csiEnable p, 1)])
  ++ (List.finRange 8).flatMap fun (k : CtxId) =>
      [(Fld.ctxSrc k, BitVec.ofNat 32 (k.val % 4 + 64 * (if k.val < 4 then 0x2A else 0x2B))), (Fld.ctxEnable k, 1)]

/-- Locating and decoding with the symbologies `m` in every context.
Log 8 (DESIGN CHOICE). -/
def romDecode (m : Nat) : List (Nat × Word) :=
  (List.range 8).map (fun k => (Fld.locSymEn k, BitVec.ofNat 32 m)) ++ [(Fld.locEnable, 1), (Fld.decEnable, 1)]

/-- The lamps of ROM recipes 1 and 2 (Table SR.12): membership in group 0, the group and the scan.
Log 8 (DESIGN CHOICE). -/
def romLamps (n : Nat) : List (Nat × Word) :=
  if n = 1 then
    (List.range 16).map (fun l => (Fld.lightLamp l, 8#32)) ++
      [(Fld.lightGrpMode 0, 3), (Fld.lightGrpSet 0, 410), (Fld.lightCrvShape 0, 0), (Fld.lightCrvTgt 0, 4095),
       (Fld.lightScanLen, 1), (Fld.lightScan 0, 2000), (Fld.lightEnable, 1)]
  else if n = 2 then
    (List.range 32).map (fun l => (Fld.lightLamp l, 8#32)) ++
      [(Fld.lightGrpMode 0, 2), (Fld.lightGrpSet 0, 4095), (Fld.lightGrpOfs 0, 0), (Fld.lightGrpW 0, 400),
       (Fld.lightScanLen, 2), (Fld.lightScan 0, 460), (Fld.lightScan 1, BitVec.ofNat 32 (460 + 2 ^ 22)), (Fld.lightEnable, 1)]
  else []

/-- Tap T0 of every context to USB, undecimated, for ROM recipe 6; the tap endpoint decides whether it runs (R270, Table SR.12).
Log 8 (DESIGN CHOICE). -/
def romTaps : List (Nat × Word) := (List.finRange 8).map fun (k : CtxId) => (Fld.ctxTap k, 8#32)

/-- The entries of ROM recipe 7: entry i of a converter takes input i in a sequence, at gain 1, into accumulator i (Tables AS.3 and
SR.12). Input 16 of ADC-B has no entry of its own and is its program's to sequence.
Log 8 (DESIGN CHOICE). -/
def romSensors : List (Nat × Word) :=
  let entry := fun (c : Conv) (i : Nat) => (Fld.adcEntry c i, BitVec.ofNat 32 (i + 2 ^ 11 + i * 2 ^ 16))
  (List.range 8).map (entry .a) ++ (List.range 16).map (entry .b)
    ++ [Conv.a, .b].flatMap fun c => [(Fld.adcRefEn c, 1), (Fld.adcEnable c, 1)]

/-- The initial field values of ROM recipe `n`, as far as Table SR.12 and R556 give them.
Log 8 (DESIGN CHOICE). -/
def romInit (n : Nat) : List (Nat × Word) :=
  romLinks ++ (match romSymbols n with
    | some m => romContexts ++ romDecode m
    | none => if n = 6 then romContexts ++ romTaps else if n = 7 then romSensors else [])
  ++ romLamps n

/-- The scenes of ROM recipe `n`: scene 0 alone, or one port each in scenes 0 to 3 of recipe 3.
Log 8 (DESIGN CHOICE). -/
def romScenes (n : Nat) : List SceneEntry :=
  (List.range 8).map fun i =>
    { defined := if n = 3 then decide (i < 4) else decide (i = 0)
      contexts := if n = 3 then BitVec.ofNat 8 (2 ^ i + 2 ^ (i + 4)) else if n = 5 ∨ n = 7 then 0 else 0xFF
      groups := if n = 1 ∨ n = 2 then 1 else 0
      entries := (List.range 4).map (Config.romEntry n · i) }

/-- ROM recipe `n` (R97). Its programs are values that the manual leaves open.
Log 8 (DESIGN CHOICE). -/
def romRecipe (st : Stepping) (n : Nat) : Recipe :=
  { id := BitVec.ofNat 32 (0xFFFFFFF0 + n), rev := (steppingCode st).setWidth 16, crc := Config.romCrc n
    sealedFlag := false, mandatory := 0, optional := 0, disable := 0
    code := (List.range 4).map fun t => (List.range 4096).map (Config.romWord n t)
    data := (List.range 4).map fun t => (List.range 2048).map (Config.romData n t)
    init := romInit n, scenes := romScenes n, watch := [], binning := none, homographies := [], rom := some n }

end Sys2Proof.Machine
end

