-- ==== Sys2Proof/Machine/TrowelCode.lean ====
section
/-! DEFINITION. The instruction words of the trowels (R131, Tables TW.9 to TW.11): the decoder, the encoder, the
execution of an illegal word, and the instruction scrubber (R550). -/

namespace Sys2Proof.Machine

/-- The five fields that every format divides: [31:26], [25:22], [21:18], [17:14] and [13:0] (Table TW.9). -/
structure TrowelFields where
  op : BitVec 6
  rd : BitVec 4
  ra : BitVec 4
  rb : BitVec 4
  low : BitVec 14
  deriving DecidableEq, Repr

/-- The fields of a word. -/
def trowelFields (w : Word) : TrowelFields :=
  ⟨w.extractLsb' 26 6, w.extractLsb' 22 4, w.extractLsb' 18 4, w.extractLsb' 14 4, w.extractLsb' 0 14⟩

/-- The word of five fields. -/
def trowelWord (op : BitVec 6) (rd ra rb : BitVec 4) (low : BitVec 14) : Word := op ++ rd ++ ra ++ rb ++ low

/-- The 18-bit immediate in [17:0]. -/
def TrowelFields.imm (f : TrowelFields) : BitVec 18 := f.rb ++ f.low

/-- The two parts of an 18-bit immediate. -/
def immHigh (i : BitVec 18) : BitVec 4 := i.extractLsb' 14 4
def immLow (i : BitVec 18) : BitVec 14 := i.extractLsb' 0 14

/-- The condition of a code; code 15 is illegal (Table TW.10). -/
def condOf (c : BitVec 4) : Option Cond :=
  [Cond.al, .eq, .ne, .ult, .uge, .ule, .ugt, .slt, .sge, .sle, .sgt, .neg, .pos, .ovf, .nov][c.toNat]?

/-- The code of a condition (Table TW.10). -/
def condCode : Cond → BitVec 4
  | .al => 0 | .eq => 1 | .ne => 2 | .ult => 3 | .uge => 4 | .ule => 5 | .ugt => 6 | .slt => 7 | .sge => 8 | .sle => 9
  | .sgt => 10 | .neg => 11 | .pos => 12 | .ovf => 13 | .nov => 14

/-- The instruction, where its reserved bits are as `ok` says. -/
def when_ (ok : Bool) (i : Instr) : Option Instr := if ok then some i else none

/-- The instruction of trowel `t` that five fields spell, `none` for an illegal one (R131, Table TW.11). -/
def decodeFields (t : TrowelId) (f : TrowelFields) : Option Instr :=
  match f.op.toNat with
  | 1 => when_ (f.low == 0) (.add t f.rd f.ra f.rb)
  | 2 => when_ (f.low == 0) (.sub t f.rd f.ra f.rb)
  | 3 => when_ (f.low == 0) (.and t f.rd f.ra f.rb)
  | 4 => when_ (f.low == 0) (.or t f.rd f.ra f.rb)
  | 5 => when_ (f.low == 0) (.xor t f.rd f.ra f.rb)
  | 6 => when_ (f.low == 0) (.shl t f.rd f.ra f.rb)
  | 7 => when_ (f.low == 0) (.shr t f.rd f.ra f.rb)
  | 8 => when_ (f.low == 0) (.sar t f.rd f.ra f.rb)
  | 9 => when_ (f.low == 0) (.mul t f.rd f.ra f.rb)
  | 10 => when_ (f.low == 0) (.mulhu t f.rd f.ra f.rb)
  | 11 => when_ (f.low == 0) (.mulhs t f.rd f.ra f.rb)
  | 12 => when_ (f.low == 0) (.minu t f.rd f.ra f.rb)
  | 13 => when_ (f.low == 0) (.maxu t f.rd f.ra f.rb)
  | 14 => when_ (f.rd == 0 && f.low == 0) (.cmp t f.ra f.rb)
  | 15 => when_ (f.rd == 0 && f.low == 0) (.tst t f.ra f.rb)
  | 16 => when_ (f.rb == 0 && f.low == 0) (.mov t f.rd f.ra)
  | 17 => when_ (f.rb == 0 && f.low == 0) (.clz t f.rd f.ra)
  | 18 => some (.addi t f.rd f.ra f.imm)
  | 19 => some (.andi t f.rd f.ra f.imm)
  | 20 => some (.ori t f.rd f.ra f.imm)
  | 21 => some (.xori t f.rd f.ra f.imm)
  | 22 => when_ (f.rb == 0 && f.low.toNat / 32 == 0) (.shli t f.rd f.ra (f.low.setWidth 5))
  | 23 => when_ (f.rb == 0 && f.low.toNat / 32 == 0) (.shri t f.rd f.ra (f.low.setWidth 5))
  | 24 => when_ (f.rb == 0 && f.low.toNat / 32 == 0) (.sari t f.rd f.ra (f.low.setWidth 5))
  | 25 => when_ (f.rd == 0) (.cmpi t f.ra f.imm)
  | 26 => when_ (f.rd == 0) (.tsti t f.ra f.imm)
  | 27 => when_ (f.rb == 0 && f.low.toNat / 1024 == 0) (.ext t f.rd f.ra (f.low.setWidth 5) ((f.low >>> 5).setWidth 5))
  | 28 => when_ (f.rb == 0 && f.low.toNat / 1024 == 0) (.ins t f.rd f.ra (f.low.setWidth 5) ((f.low >>> 5).setWidth 5))
  | 29 => when_ (f.rb == 0 && f.low.toNat / 32 == 0 && f.low != 0) (.satu t f.rd f.ra (f.low.setWidth 5))
  | 30 => some (.movi t f.rd (f.ra ++ f.rb ++ f.low))
  | 31 => when_ (f.ra == 0 && f.rb.toNat / 4 == 0) (.movh t f.rd (f.imm.setWidth 16))
  | 32 => some (.ld t f.rd f.ra f.imm)
  | 33 => some (.st t f.rd f.ra f.imm)
  | 34 => if f.ra == 0 && f.rb == 0 && f.low.toNat / 4096 == 0 then (condOf f.rd).map fun c => .bCond t c (f.low.setWidth 12) else none
  | 35 => if f.ra == 0 && f.rb == 0 && f.low.toNat / 4096 == 0 then (condOf f.rd).map fun c => .callCond t c (f.low.setWidth 12) else none
  | 36 => when_ (f.rd == 0 && f.ra == 0 && f.rb == 0 && f.low == 0) (.ret t)
  | 37 => when_ (f.rd == 0 && f.rb == 0 && f.low == 0) (.jr t f.ra)
  | 38 => when_ (f.ra == 0 && f.rb.toNat / 4 == 0) (.fld t f.rd (f.imm.setWidth 16))
  | 39 => when_ (f.rb.toNat / 4 == 0) (.fldx t f.rd f.ra (f.imm.setWidth 16))
  | 40 => when_ (f.ra == 0 && f.rb.toNat / 4 == 0) (.fst t f.rd (f.imm.setWidth 16))
  | 41 => when_ (f.rb.toNat / 4 == 0) (.fstx t f.rd f.ra (f.imm.setWidth 16))
  | 42 => when_ (f.rd == 0 && f.ra == 0 && f.rb == 0 && f.low == 0) (.fsync t)
  | 43 => when_ (f.rd == 0 && f.ra == 0 && f.rb == 0 && f.low == 0) (.grpb t)
  | 44 => when_ (f.rd == 0 && f.ra == 0 && f.rb == 0 && f.low == 0) (.grpe t)
  | 45 => when_ (f.low == 0) (.wait t f.rd f.ra f.rb)
  | 46 => when_ (f.rd == 0 && f.ra == 0 && f.rb == 0 && f.low.toNat / 64 == 0) (.evt t (f.low.setWidth 6))
  | 47 => when_ (f.rd == 0 && f.ra == 0 && f.rb == 0 && f.low.toNat / 64 == 0) (.eclr t (f.low.setWidth 6))
  | 48 => when_ (f.rd == 0 && f.rb == 0 && f.low == 0) (.tset t f.ra)
  | 49 => when_ (f.rd == 0 && f.ra == 0 && f.rb == 0 && f.low == 0) (.kick t)
  | 50 => when_ (f.ra == 0 && f.rb == 0 && f.low.toNat / 16 == 0) (.mfs t f.rd (f.low.setWidth 4))
  | 51 => when_ (f.rd == 0 && f.rb == 0 && f.low.toNat / 16 == 0) (.mts t f.ra (f.low.setWidth 4))
  | 52 => when_ (f.rd == 0 && f.rb == 0 && f.low.toNat / 4 == 0) (.send t (Fin.ofNat 4 f.low.toNat) f.ra)
  | 53 => when_ (f.ra == 0 && f.rb == 0 && f.low == 0) (.recv t f.rd)
  | 54 => when_ (f.rd == 0 && f.rb.toNat / 4 == 0) (.log t f.ra (f.imm.setWidth 16))
  | 55 => when_ (f.rd == 0 && f.ra == 0 && f.rb.toNat / 4 == 0) (.fault t (f.imm.setWidth 16))
  | 56 => when_ (f.rd == 0 && f.ra == 0 && f.rb == 0 && f.low == 0) (.nop t)
  | _ => none

/-- The instruction of trowel `t` that a word spells, `none` for an illegal word.
Log 15 (DEDUCED). -/
def decodeTrowel (t : TrowelId) (w : Word) : Option Instr := decodeFields t (trowelFields w)

/-- The word of a trowel instruction (Tables TW.9 to TW.11), `none` for a command that is no instruction and for SATU
with its reserved value 0. -/
def encodeTrowel (i : Instr) : Option Word :=
  match i with
  | .add _ rd ra rb => some (trowelWord 1 rd ra rb 0)
  | .sub _ rd ra rb => some (trowelWord 2 rd ra rb 0)
  | .and _ rd ra rb => some (trowelWord 3 rd ra rb 0)
  | .or _ rd ra rb => some (trowelWord 4 rd ra rb 0)
  | .xor _ rd ra rb => some (trowelWord 5 rd ra rb 0)
  | .shl _ rd ra rb => some (trowelWord 6 rd ra rb 0)
  | .shr _ rd ra rb => some (trowelWord 7 rd ra rb 0)
  | .sar _ rd ra rb => some (trowelWord 8 rd ra rb 0)
  | .mul _ rd ra rb => some (trowelWord 9 rd ra rb 0)
  | .mulhu _ rd ra rb => some (trowelWord 10 rd ra rb 0)
  | .mulhs _ rd ra rb => some (trowelWord 11 rd ra rb 0)
  | .minu _ rd ra rb => some (trowelWord 12 rd ra rb 0)
  | .maxu _ rd ra rb => some (trowelWord 13 rd ra rb 0)
  | .cmp _ ra rb => some (trowelWord 14 0 ra rb 0)
  | .tst _ ra rb => some (trowelWord 15 0 ra rb 0)
  | .mov _ rd ra => some (trowelWord 16 rd ra 0 0)
  | .clz _ rd ra => some (trowelWord 17 rd ra 0 0)
  | .addi _ rd ra imm => some (trowelWord 18 rd ra (immHigh imm) (immLow imm))
  | .andi _ rd ra imm => some (trowelWord 19 rd ra (immHigh imm) (immLow imm))
  | .ori _ rd ra imm => some (trowelWord 20 rd ra (immHigh imm) (immLow imm))
  | .xori _ rd ra imm => some (trowelWord 21 rd ra (immHigh imm) (immLow imm))
  | .shli _ rd ra n => some (trowelWord 22 rd ra 0 (n.setWidth 14))
  | .shri _ rd ra n => some (trowelWord 23 rd ra 0 (n.setWidth 14))
  | .sari _ rd ra n => some (trowelWord 24 rd ra 0 (n.setWidth 14))
  | .cmpi _ ra imm => some (trowelWord 25 0 ra (immHigh imm) (immLow imm))
  | .tsti _ ra imm => some (trowelWord 26 0 ra (immHigh imm) (immLow imm))
  | .ext _ rd ra p wm1 => some (trowelWord 27 rd ra 0 (wm1.setWidth 14 <<< 5 ||| p.setWidth 14))
  | .ins _ rd ra p wm1 => some (trowelWord 28 rd ra 0 (wm1.setWidth 14 <<< 5 ||| p.setWidth 14))
  | .satu _ rd ra n => if n = 0 then none else some (trowelWord 29 rd ra 0 (n.setWidth 14))
  | .movi _ rd imm => some (trowelWord 30 rd (imm.extractLsb' 18 4) (imm.extractLsb' 14 4) (imm.extractLsb' 0 14))
  | .movh _ rd imm => some (trowelWord 31 rd 0 (immHigh (imm.setWidth 18)) (immLow (imm.setWidth 18)))
  | .ld _ rd ra imm => some (trowelWord 32 rd ra (immHigh imm) (immLow imm))
  | .st _ rs ra imm => some (trowelWord 33 rs ra (immHigh imm) (immLow imm))
  | .bCond _ cond target => some (trowelWord 34 (condCode cond) 0 0 (target.setWidth 14))
  | .callCond _ cond target => some (trowelWord 35 (condCode cond) 0 0 (target.setWidth 14))
  | .ret _ => some (trowelWord 36 0 0 0 0)
  | .jr _ ra => some (trowelWord 37 0 ra 0 0)
  | .fld _ rd a => some (trowelWord 38 rd 0 (immHigh (a.setWidth 18)) (immLow (a.setWidth 18)))
  | .fldx _ rd ra a => some (trowelWord 39 rd ra (immHigh (a.setWidth 18)) (immLow (a.setWidth 18)))
  | .fst _ rs a => some (trowelWord 40 rs 0 (immHigh (a.setWidth 18)) (immLow (a.setWidth 18)))
  | .fstx _ rs ra a => some (trowelWord 41 rs ra (immHigh (a.setWidth 18)) (immLow (a.setWidth 18)))
  | .fsync _ => some (trowelWord 42 0 0 0 0)
  | .grpb _ => some (trowelWord 43 0 0 0 0)
  | .grpe _ => some (trowelWord 44 0 0 0 0)
  | .kick _ => some (trowelWord 49 0 0 0 0)
  | .nop _ => some (trowelWord 56 0 0 0 0)
  | .wait _ rd ra rb => some (trowelWord 45 rd ra rb 0)
  | .evt _ n => some (trowelWord 46 0 0 0 (n.setWidth 14))
  | .eclr _ n => some (trowelWord 47 0 0 0 (n.setWidth 14))
  | .tset _ ra => some (trowelWord 48 0 ra 0 0)
  | .mfs _ rd sreg => some (trowelWord 50 rd 0 0 (sreg.setWidth 14))
  | .mts _ ra sreg => some (trowelWord 51 0 ra 0 (sreg.setWidth 14))
  | .send _ dest ra => some (trowelWord 52 0 ra 0 (BitVec.ofNat 14 dest.val))
  | .recv _ rd => some (trowelWord 53 rd 0 0 0)
  | .log _ ra code => some (trowelWord 54 0 ra (immHigh (code.setWidth 18)) (immLow (code.setWidth 18)))
  | .fault _ code => some (trowelWord 55 0 0 (immHigh (code.setWidth 18)) (immLow (code.setWidth 18)))
  | _ => none

/-- The word that trowel `t` fetches: a word with an uncorrectable error is fetched as opcode 0x00 (R550).
Log 12 (DESIGN CHOICE), 15 (DEDUCED). -/
def State.fetched (s : State) (t : TrowelId) (code : Word) : Word :=
  if s.trowels[t].codeErr.contains s.trowels[t].pc then 0 else code

/-- ILLEGAL_INSTRUCTION: executing an illegal word is a trowel fault (R131, R141).
Log 15 (DEDUCED). -/
def execIllegalInstruction (t : TrowelId) (code : Word) (s : State) : Host.Outcome State Fault Refusal :=
  .next (s.mayFault t fun s => if (decodeTrowel t (s.fetched t code)).isNone then s.trowelFault t 2 0 else s)

/-- INSTRUCTION_SCRUB: the scrubber rewrites the corrected words of the instruction memories (R550).
Log 12 (DESIGN CHOICE). -/
def execInstructionScrub (s : State) : Host.Outcome State Fault Refusal :=
  .next (match s.phase with
    | .booting | .running | .sleepEntry | .halted | .test =>
      { s with trowels := s.trowels.map fun x => { x with codeSoft := [] } }
    | _ => s)

end Sys2Proof.Machine
end

