-- ==== Sys2Proof/Machine/Boot.lean ====
section
/-! DEFINITION. Reset and boot: the power and reset pins, the always-on domain, the boot steps of Table SR.4 up to READY,
and the end of a self-calibration (chapters "Balls, rails and power sequencing" and "Straps, reset, boot and recipe
images"). -/

namespace Sys2Proof.Machine

/-! ### Reset -/

/-- The test-state instructions of Table BB.4. -/
def TapIr.testState : TapIr → Bool
  | .extest | .highz | .clamp | .extestPulse | .extestTrain | .mbist | .fieldScan => true
  | .samplePreload | .idcode | .bbRead | .bypass => false

/-- A reset takes effect: everything goes to its reset value but the queue of commands, the identity, the always-on
domain with its black box, the pins, the TAP and the boot cause (R65, R84, R85, Table BR.10). Black-box events that wait
in CORE are lost with it. The slow clock keeps its qualification and the window last measured.
Log 30 (DEDUCED), 95 (DEDUCED). -/
def State.toReset (s : State) (ph : Phase) (cause : BitVec 2) : State :=
  { State.reset with
    pending := s.pending
    identity := s.identity
    aon := { s.aon with sleepRx := none, sleepFlag := false, wakeHeld := false }
    pins := s.pins
    phase := ph
    sys := { State.reset.sys with bootCause := cause }
    bb := { s.bb with queue := [], lostPending := false, emptied := false }
    tap := { s.tap with mbistSel := none }
    time := { State.reset.time with slowCycles := s.time.slowCycles }
    usb := { State.reset.usb with vbus := s.usb.vbus }
    fresh := s.fresh }

/-- Boot step 1 (R59, R138, R501, R502, R508, R544): the TAP's latches read 0 again, the freeze is released, the ring emptied after a VDD_AON loss or a
self-test of its memory, and the boot-begins event written. -/
def State.beginBoot (s : State) : State :=
  let lost := s.aon.vddLost || s.bb.mbistEmptied
  let b := { s.bb with
    frozen := false, written := 0, emptied := lost, mbistEmptied := false, firstMarked := false, queue := [], lostPending := false
    ring := if lost then [] else s.bb.ring
    freezeCause := if lost then 0 else s.bb.freezeCause
    freezeNs := if lost then 0 else s.bb.freezeNs }
  let s1 : State := { s with
    phase := .booting
    time := TimeUnit.boot s.time.slowCycles
    thermal := State.reset.thermal
    bb := b
    aon := { s.aon with vddLost := false }
    tap := { s.tap with
      ir := if s.tap.ir.testState then .idcode else s.tap.ir, destroyed := 0, latch := ⟨0, 0, 0, 0⟩ } }
  let s2 := if lost then s1.bbEvent 0x01#7 0xFF#8 0x0002#16 (if s.aon.vddLost then 0 else 1) else s1
  s2.bbEvent 0x00#7 0xFF#8 0x0001#16 (s2.sys.bootCause.setWidth 32)

/-- The boot begins once both pins are high (R59). -/
def State.bootIfReady (s : State) : State :=
  if s.pins.pwrOk && s.pins.resetN && decide (s.phase = .held) then s.beginBoot else s

/-- PWR_OK_RISE: the boot that follows is a power-on boot (R59, Table SR.5). -/
def execPwrOkRise (s : State) : Host.Outcome State Fault Refusal :=
  .next (if s.pins.pwrOk then s
    else
      let s1 := s.toReset .held 1
      ({ s1 with pins := { s1.pins with pwrOk := true } } : State).bootIfReady)

/-- PWR_OK_LOW: a low that has lasted the filter's threshold (R60, R61). -/
def execPwrOkLow (s : State) : Host.Outcome State Fault Refusal :=
  .next (let s1 := s.toReset .held 1
    { s1 with pins := { s1.pins with pwrOk := false } })

/-- XREF does not run: in sleep, at wake until it is stable, while a reset waits for it, and in a test state without it
(R70, R84). -/
def State.xrefStopped (s : State) : Bool :=
  decide (s.phase = .asleep) || (decide (s.phase = .waking) && decide (s.sys.wakeStep < 4)) || decide (s.phase = .xrefWait)
    || (decide (s.phase = .test) && s.time.xrefOff)

/-- RESET_N_LOW: a low that has lasted the filter's threshold (R84). With PWR_OK low it only holds the pending boot
back; during a thermal shutdown it changes nothing further (R546).
Log 30 (DEDUCED). -/
def execResetNLow (s : State) : Host.Outcome State Fault Refusal :=
  let down := fun (s : State) => { s with pins := { s.pins with resetN := false } }
  .next (if !s.pins.pwrOk || decide (s.phase = .thermal) then down s
    else down (s.toReset (if s.xrefStopped then .xrefWait else .held)
      (if s.phase = .held then s.sys.bootCause else 2)))

/-- RESET_N_RISE (R59). -/
def execResetNRise (s : State) : Host.Outcome State Fault Refusal :=
  .next ({ s with pins := { s.pins with resetN := true } } : State).bootIfReady

/-- XREF_STABLE: the oscillator, stopped by a sleep that a reset ended, is stable again (R84).
Log 30 (DEDUCED). -/
def execXrefStable (s : State) : Host.Outcome State Fault Refusal :=
  .next (if s.phase = .xrefWait then ({ s with phase := .held } : State).bootIfReady else s)

/-- The engine measures the slow clock: in every awake state (R68, R70). -/
def State.measuresSlow (s : State) : Bool :=
  match s.phase with
  | .booting | .running | .sleepEntry | .halted | .test => true
  | .waking => decide (4 ≤ s.sys.wakeStep)
  | _ => false

/-- XREF_LOSS: no XREF edge for two slow periods while the slow clock is qualified and the engine is awake, a fatal fault
(R70). In the test state the fault freezes the black box and pulls FAULT_N low, and the test state holds: R6 lists the only
ways out of it, and the loss of XREF is none of them.
Log 93 (DEDUCED). -/
def execXrefLoss (s : State) : Host.Outcome State Fault Refusal :=
  .next (if s.measuresSlow && s.aon.slowQualified && !s.xrefStopped then
      let s1 := (s.bbEvent 0x00#7 0xFF#8 0x0010#16 0).freeze 0x01#8
      if s.phase = .test then
        { s1 with
          balls := { s1.balls with faultLow := true }
          time := { s1.time with xrefOff := true } }
      else
      let s2 := ((s1.stopTrowels.lightRest.stopConverters).serRelease).usbDetach
      { s2 with
        phase := .xrefFatal
        balls := { ready := false, faultLow := true, ltFaultLow := false, syncOut := false, hbLeft := 0 }
        ports := s2.ports.map fun x => { x with powered := false, usable := false } }
    else s)

/-! ### The always-on domain -/

/-- VDD_AON_LOSS (R64, R68): the black-box contents are marked invalid, what the domain holds is lost, and the slow clock
is unqualified. The sleep receiver is disarmed; the sleep flag and a held WAKE edge stay.
Log 94 (DESIGN CHOICE). -/
def execVddAonLoss (s : State) : Host.Outcome State Fault Refusal :=
  .next { s with aon := { s.aon with vddLost := true, slowQualified := false, calTemp := none, sleepRx := none } }

/-- SLOW_CLOCK_WINDOW_END: 1024 slow periods lasted `xrefCycles` cycles of the 25 MHz reference; the clock qualifies
within ±500 ppm of 32.768 kHz (R68), and a sleep request that waits is taken (R69). -/
def execSlowClockWindowEnd (xrefCycles : Nat) (s : State) : Host.Outcome State Fault Refusal :=
  let f : Rat := (1024 * 25000000 : Rat) / (max 1 xrefCycles : Nat)
  let ok := decide (0 < xrefCycles) && decide ((32768 : Rat) * 999500 / 1000000 ≤ f)
    && decide (f ≤ (32768 : Rat) * 1000500 / 1000000)
  .next (if !s.measuresSlow then s
    else
      let s1 : State := { s with
        aon := { s.aon with slowQualified := ok }, time := { s.time with slowCycles := xrefCycles } }
      if ok && s1.sys.sleepWait && decide (s1.phase = .running) then s1.sleepBegin else s1)

/-- SLOW_CLOCK_EDGE_TIMEOUT: no slow-clock edge for 100 µs (R68). -/
def execSlowClockEdgeTimeout (s : State) : Host.Outcome State Fault Refusal :=
  .next (if s.measuresSlow then { s with aon := { s.aon with slowQualified := false } } else s)

/-! ### Steps of the boot -/

/-- The end of boot step `n` that began at `from_` (R81).
Log 24 (DEDUCED). -/
def State.stepEnd (s : State) (n from_ : Nat) : State :=
  let s1 := s.bbEvent 0x00#7 (BitVec.ofNat 8 n) 0x0002#16 (BitVec.ofNat 32 ((s.nowNs - from_) / 1000))
  { s1 with boot := { s1.boot with lastNs := s.nowNs, loadNs := if n = 5 then s.nowNs else s1.boot.loadNs } }

/-- The voltage in µV that the 25 µA source develops across a strap resistor of `ohms` (R72, Table SR.1). -/
def strapMicrovolts (ohms : Nat) : Nat := 25 * ohms

/-- The level of one reading: how many of the fifteen thresholds, spaced 93.75 mV apart, the voltage reaches (R72). -/
def strapLevelOf (microvolts : Nat) : BitVec 4 := BitVec.ofNat 4 (min 15 (microvolts / 93750))

/-- How many readings the sampler takes of each strap (R73 and its B0 note). -/
def strapReads : Stepping → Nat
  | .b0 => 4
  | .b1 => 8

/-- The level that strap `n` reads as from the levels of its readings, and whether it is unstable (R73). -/
def strapReading (n : Nat) (r : List (BitVec 4)) : BitVec 4 × Bool :=
  match r with
  | [] => (if n = 19 then 3 else 15, true)
  | x :: q => if q.all (· == x) then (x, false) else (if n = 19 then 3 else 15, true)

/-- What the sampler makes of the voltages at the strap balls: for each strap its level and whether it is unstable. -/
def sampleStraps (st : Stepping) (readings : List (List Nat)) : List (BitVec 4 × Bool) :=
  (List.range 20).map fun n => strapReading n (((readings.getD n []).take (strapReads st)).map strapLevelOf)

/-- A reserved row of ST11 under a party-line mode (R376). -/
def State.rateReserved (s : State) : Bool :=
  s.serParty && decide (11 ≤ s.strapLevel 11) && decide (s.strapLevel 11 ≤ 13)

/-- The inventory bits that strap `n` selects and the variant lacks (R15, R76); 0 where there are none. -/
def State.strapMismatch (s : State) (n : Nat) : BitVec 16 :=
  let lacks := fun (b : BitVec 16) => b &&& ~~~ presentWord s.identity.variant
  let l := s.strap n
  if n = 2 then (if 1 ≤ l ∧ l ≤ 4 then lacks 0x0400 else 0)
  else if n = 3 then (if 1 ≤ l ∧ l ≤ 5 ∧ s.identity.variant = .evr8440 then 0x03C0 else 0)
  else if 5 ≤ n ∧ n ≤ 8 then (if 1 ≤ l ∧ l ≤ 8 then lacks (BitVec.ofNat 16 (2 ^ (n - 5))) else 0)
  else if n = 9 then (if l = 2 ∨ l = 3 then lacks 0x0020 else 0)
  else if n = 13 then (if l = 4 ∨ l = 8 then lacks 0x1000 else 0)
  else if n = 16 then (if l ≤ 2 then lacks 0x2000 else 0)
  else if n = 17 then (if l ≤ 2 then lacks 0x4000 else 0)
  else 0

/-- The events of one strap (R15, R73, R75, R249).
Log 23 (DEDUCED). -/
def State.strapEvents (s : State) (n : Nat) : State :=
  let i := BitVec.ofNat 8 n
  let level : Word := BitVec.ofNat 32 (s.strapLevel n)
  let s1 := if s.sys.unstable.getLsbD n then s.bbEvent 0x00#7 i 0x0004#16 level else s
  let s2 := if s.strapReserved n || (decide (n = 11) && s.rateReserved) then s1.bbEvent 0x00#7 i 0x0005#16 level else s1
  if s.strapMismatch n ≠ 0 then s2.bbEvent 0x00#7 i 0x0003#16 ((s.strapMismatch n).setWidth 32) else s2

/-- STRAP_SAMPLE: boot step 2 (R71 to R76, R249). `readings` holds the voltages in µV at each strap ball, at the eight
sampling instants.
Log 23 (DEDUCED). -/
def execStrapSample (readings : List (List Nat)) (s : State) : Host.Outcome State Fault Refusal :=
  .next (if decide (s.phase ≠ .booting) || s.boot.strapDone then s
    else
      let r := sampleStraps s.identity.stepping readings
      let s1 : State := { s with
        sys := { s.sys with straps := r.map Prod.fst, unstable := BitVec.ofNat 20 (packBits (r.map Prod.snd)) }
        boot := { s.boot with strapDone := true } }
      let s2 := (List.range 20).foldl State.strapEvents s1
      let s3 := (List.finRange 4).foldl (fun (s : State) (p : PortId) =>
        if s1.sharedOff p then
          s.bbEvent 0x07#7 (BitVec.ofNat 8 p.val) 0x0001#16 (BitVec.ofNat 32 (s1.strapLevel (5 + p.val)))
        else s) s2
      s3.stepEnd 2 0)

/-- A converter that the boot calibrates: present, and not strapped off (R191, R195).
Log 26 (DEDUCED). -/
def State.calibrates (s : State) (c : Conv) : Bool :=
  match c with
  | .a => (presentWord s.identity.variant).getLsbD 13 && decide (s.strap 16 ≠ 3)
  | .b => (presentWord s.identity.variant).getLsbD 14 && decide (s.strap 17 ≠ 3)

/-- OTP_LOAD: boot step 3; an uncorrectable error halts the engine (R82). The calibration of boot step 4 starts.
Log 26 (DEDUCED), 27 (DEDUCED). -/
def execOtpLoad (content : Option OtpContent) (s : State) : Host.Outcome State Fault Refusal :=
  .next (if decide (s.phase ≠ .booting) || !s.boot.strapDone || s.boot.otpDone then s
    else
      let s1 := s.stepEnd 3 s.boot.lastNs
      match content with
      | none => s1.haltBoot 0
      | some c =>
        let s2 : State := { s1 with
          identity := { s1.identity with serial := c.serial, keyDigest := c.keyDigest }
          boot := { s1.boot with otpDone := true, otpNs := s.nowNs }
          adcA := { s1.adcA with calibrating := s.calibrates .a }
          adcB := { s1.adcB with calibrating := s.calibrates .b } }
        if s.calibrates .a || s.calibrates .b then s2
        else ({ s2 with boot := { s2.boot with calDone := true } } : State).stepEnd 4 s.nowNs)

/-- The measured factors go into CAL_OFS and CAL_GAIN, gain code by gain code (R195). -/
def State.storeFactors (s : State) (c : Conv) (l : List CalFactor) : State :=
  let n := match c with | .a => 5 | .b => 3
  (l.take n).zipIdx.foldl (fun (s : State) (e : CalFactor × Nat) =>
    (s.setF (Fld.adcCalOfs c e.2) (signedBits 16 e.1.ofs)).setN (Fld.adcCalGain c e.2) (e.1.gain % 65536)) s

/-- SELF_CALIBRATION_DONE: the calibration of converter `c` ends with its factors, or with a gain code whose factor is out
of range, which keeps the previous factors (R106, R195 to R197). Boot step 4 ends with the later one.
Log 45 (DEDUCED). -/
def execSelfCalibrationDone (c : Conv) (dieTemp : Rat) (factors : List CalFactor) (failed : Option Nat) (s : State) :
    Host.Outcome State Fault Refusal :=
  let clocked := match s.phase with
    | .booting | .running | .sleepEntry | .test => true
    | .waking => decide (4 ≤ s.sys.wakeStep)
    | _ => false
  .next (if !clocked || !(s.adc c).calibrating then s
    else
      let s1 := match failed with
        | some g => (s.updAdc c fun x => { x with calFailed := true }).bbEvent
            (match c with | .a => 0x04#7 | .b => 0x05#7) 0xFF#8 0x0001#16 (BitVec.ofNat 32 g)
        | none => s.storeFactors c factors
      let refOn := s.getB (Fld.adcRefEn c) 0
      let s2 := (({ s1 with aon := { s1.aon with calTemp := some dieTemp } } : State).updAdc c fun x =>
        { x with calibrating := false, settling := false, refReady := refOn })
      let s3 := if s2.adcA.calibrating || s2.adcB.calibrating then s2 else s2.raise 1 20
      if decide (s.phase = .booting) && !s.boot.calDone && !(s2.adcA.calibrating || s2.adcB.calibrating) then
        ({ s3 with boot := { s3.boot with calDone := true } } : State).stepEnd 4 s.boot.otpNs
      else s3)

/-! ### The image -/

/-- ST19 requires a seal (Table SR.2). -/
def State.sealNeeded (s : State) : Bool := s.strap 19 == 2 || s.strap 19 == 3

/-- ST19 lets a failed image fall back to ROM recipe 0. -/
def State.fallsBack (s : State) : Bool := s.strap 19 == 0 || s.strap 19 == 2 || s.strap 19 == 15

/-- An accepted recipe: its header and its source (0 flash, 1 ROM by strap, 2 ROM fallback) show in SYS. -/
def State.takeRecipe (s : State) (r : Recipe) (src : BitVec 2) (isSealed : Bool) : State :=
  { s with
    boot := { s.boot with recipe := some r, loadDone := true, sigDone := true }
    sys := { s.sys with recipeSrc := src, recipeId := r.id, recipeRev := r.rev, sealedOk := isSealed } }

/-- The image has failed (R96): the code goes to SYS.FAIL_CODE and the black box; ST19 selects ROM recipe 0 or a halt.
Log 25 (DEDUCED). -/
def State.failImage (s : State) (code : Nat) : State :=
  let s1 := ({ s with sys := { s.sys with failCode := BitVec.ofNat 4 code } } : State).bbEvent 0x00#7 0xFF#8 0x0007#16
    (BitVec.ofNat 32 code)
  if s.fallsBack then s1.takeRecipe (romRecipe s.identity.stepping 0) 2 false else s1.haltBoot code

/-- The read mode of ST0 (Table SR.2). -/
def State.strapMode (s : State) : ReadMode :=
  if s.strap 0 ≤ 3 then .single else if s.strap 0 ≤ 5 then .dual else .quad

/-- The clock of the flash in MHz that ST0 selects (Table SR.2). -/
def State.strapFlashMhz (s : State) : Nat :=
  match s.strap 0 with
  | 1 => 25
  | 2 | 4 | 6 => 50
  | _ => 100

/-- A read of the recipe flash as the engine issues it (R86, R87, Table SR.6): instruction, 24-bit address, dummy cycles,
data lines and clock. The instruction and the address go out on one line in every mode. -/
structure FlashRead where
  instr : Byte
  addr : Nat
  dummy : Nat
  mode : ReadMode
  mhz : Nat
  deriving DecidableEq, Repr

/-- The flash address of the image that index `n` selects (R88). -/
def flashAddress (n : Nat) : Nat := n * 0x40000

/-- The read that fetches the image, in the mode the SFDP read has left. -/
def State.imageRead (s : State) (x : SfdpReading) : FlashRead :=
  let op : FastRead := match s.boot.mode with
    | .single => ⟨0x0B#8, 8⟩
    | .dual => x.dual.getD ⟨0x0B#8, 8⟩
    | .quad => x.quad
  ⟨op.instr, flashAddress s.recipeIndex, op.dummy, s.boot.mode, s.strapFlashMhz⟩

/-- The access to the recipe flash in progress: the SFDP header first, then the image; none before the OTP load, after the
load, or with the ROM selected (R86 to R88). -/
def State.flashAccess (s : State) : Option FlashRead :=
  if decide (s.phase ≠ .booting) || !s.boot.otpDone || s.boot.loadDone || s.romSelected then none
  else match s.boot.sfdp with
    | none => some ⟨0x5A#8, 0, 8, .single, 25⟩
    | some x => some (s.imageRead x)

/-- The bytes that the flash returns from the address of slot `n` on; `flash` gives the 256 KiB slots in ascending order of
address (R88).
Log 29 (DESIGN CHOICE). -/
def flashSlot (flash : List (List Byte)) (n : Nat) : List Byte := flash.getD n []

/-- SFDP_READ: the header and the tables of the flash (R86, R87).
Log 25 (DEDUCED). -/
def execSfdpRead (sfdp : SfdpReading) (s : State) : Host.Outcome State Fault Refusal :=
  .next (if decide (s.phase ≠ .booting) || !s.boot.otpDone || s.boot.sfdpDone || s.boot.loadDone || s.romSelected then s
    else if !sfdp.signature then (s.stepEnd 5 s.boot.otpNs).failImage 1
    else
      let m0 := s.strapMode
      let drop := m0 == .quad && (!sfdp.jesd216B || sfdp.qeBitReadsZero)
      let s1 := if drop then s.bbEvent 0x00#7 0xFF#8 0x0006#16 2 else s
      let m1 := if drop then .dual else m0
      let single := m1 == .dual && sfdp.dual.isNone
      let s2 := if single then s1.bbEvent 0x00#7 0xFF#8 0x0006#16 1 else s1
      { s2 with boot := { s2.boot with sfdpDone := true, sfdp := some sfdp, mode := if single then .single else m1 } })

/-- RECIPE_LOAD_DONE: boot step 5. `flash` is the content of the recipe flash, of which the engine reads the slot that ST1
selects; with ST0 on the ROM the recipe comes from there, and step 6 has no work (R78, R88, R96).
Log 25 (DEDUCED). -/
def execRecipeLoadDone (flash : List (List Byte)) (s : State) : Host.Outcome State Fault Refusal :=
  .next (if decide (s.phase ≠ .booting) || !s.boot.otpDone || s.boot.loadDone then s
    else if s.romSelected then
      let s1 := (s.stepEnd 5 s.boot.otpNs).stepEnd 6 s.nowNs
      s1.takeRecipe (romRecipe s.identity.stepping s.recipeIndex) 1 false
    else if !s.boot.sfdpDone then s
    else
      let s1 := s.stepEnd 5 s.boot.otpNs
      let slot := flashSlot flash s.recipeIndex
      match readImage s.sealNeeded slot with
      | .error code => s1.failImage code
      | .ok (img, r, ok) =>
        { s1 with boot := { s1.boot with
            loadDone := true, raw := img ++ flashBytes 104 (slot.drop img.length), recipe := some r, contentBad := !ok } })

/-- The content of a checked image is judged last (R96). -/
def State.judgeContent (s : State) (r : Recipe) (isSealed : Bool) : State :=
  if s.boot.contentBad then s.failImage 10 else s.takeRecipe r 0 isSealed

/-- SIGNATURE_CHECK_DONE: boot step 6 (R94, R95). -/
def execSignatureCheckDone (s : State) : Host.Outcome State Fault Refusal :=
  .next (if decide (s.phase ≠ .booting) || !s.boot.loadDone || s.boot.sigDone then s
    else match s.boot.recipe with
      | none => s
      | some r =>
        let s1 := s.stepEnd 6 s.boot.loadNs
        if !r.sealedFlag then s1.judgeContent r false
        else if noKey s.identity.keyDigest then
          if s.sealNeeded then s1.failImage 7 else (s1.bbEvent 0x00#7 0xFF#8 0x0008#16 7).judgeContent r false
        else
          let n := s.boot.raw.length - 104
          match checkSeal s.identity.keyDigest (s.boot.raw.take n) (s.boot.raw.drop n) with
          | .error code => s1.failImage code
          | .ok _ => s1.judgeContent r true)

/-! ### Trowel start -/

/-- The enabled word under a recipe (R9, R91). -/
def State.enabledWord (s : State) (r : Recipe) : BitVec 16 :=
  presentWord s.identity.variant &&& ~~~ s.strapOff &&& ~~~ r.disable

/-- An initial field value (R16, R98, R487, R489): no effect on an absent unit or an action field, none where it turns on
a unit turned off or widens a strap choice, with the event of R16 for a strap.
Log 20 (DEDUCED), 22 (DEDUCED). -/
def State.initialValue (s : State) (e : Nat × Word) : State :=
  match fieldRow e.1 with
  | none => s
  | some r =>
    let x := cutToWidth r e.2
    if absentField s.identity.variant e.1 || r.action then s
    else if s.turnedOff e.1 && x.getLsbD 0 then s.ignoreEnable e.1
    else match s.widens e.1 x with
      | some bits => s.bbEvent 0x00#7 0xFF#8 0x0003#16 bits
      | none => s.setF e.1 x

/-- The data memory that an image gives. -/
def loadImage (l : List Word) : Sparse Word :=
  l.zipIdx.foldl (fun (m : Sparse Word) (e : Word × Nat) => sparseSet (fun _ => (0 : Word)) m e.2 e.1) []

/-- A trowel as it starts: its images, its registers at 0, its program counter at the entry address (R98, R109).
Log 86 (DESIGN CHOICE). -/
def Trowel.start (code data : List Word) (entry : BitVec 16) : Trowel :=
  { Trowel.idle with imem := loadImage code, dmem := loadImage data, pc := entry.setWidth 12, status := .run }

/-- The units that have something to do as they start: references and converters, ports, contexts, the matrix, USB. -/
def startAddrs : List Nat :=
  [Fld.adcRefEn .a, Fld.adcRefEn .b, Fld.adcEnable .a, Fld.adcEnable .b, Fld.ambEnable]
  ++ (List.finRange 4).map Fld.csiEnable ++ (List.finRange 8).map Fld.ctxEnable
  ++ [Fld.lightEnable, Fld.usbEnable, Fld.serEnable]

/-- The enable fields that the initial values set to 1 start their units, one after another. -/
def State.startUnits (s : State) : State :=
  let on := startAddrs.filter fun a => s.getB a 0
  on.foldl (fun (s : State) (a : Nat) => s.applyNow 3 a 1) (on.foldl (fun (s : State) (a : Nat) => s.setF a 0) s)

/-- The recipe's tables and initial values in place, before any unit runs (R98, R149, R299).
Log 22 (DEDUCED). -/
def State.loadFields (s : State) (r : Recipe) : State :=
  let s1 : State := { s with former := { s.former with watch := r.watch } }
  let s2 := (r.binning.getD []).zipIdx.foldl (fun (s : State) (e : BitVec 16 × Nat) =>
    if absentField s.identity.variant (Fld.lightBin e.2) then s else s.setF (Fld.lightBin e.2) (e.1.setWidth 32)) s1
  r.init.foldl State.initialValue s2

/-- One event for each optional unit that is missing (R17). -/
def State.optionalMissing (s : State) (r : Recipe) : State :=
  (List.range 15).foldl (fun (s : State) (b : Nat) =>
    if r.optional.getLsbD b && !s.sys.enabled.getLsbD b && !r.disable.getLsbD b then
      s.bbEvent 0x00#7 0xFF#8 0x0003#16 (BitVec.ofNat 32 (2 ^ b))
    else s) s

/-- The four trowels at their entries of scene `n`. -/
def State.startTrowels (s : State) (r : Recipe) (n : BitVec 3) : State :=
  let e := ((r.scenes[n.toNat]?).map SceneEntry.entries).getD []
  { s with trowels := Vector.ofFn fun (t : Fin 4) =>
      Trowel.start (r.code.getD t.val []) (r.data.getD t.val []) (e.getD t.val 0) }

/-- The LIGHT unit at trowel start: the dwell of the derate flag counts from here (R169), and boot step 8 has every pin before
it (R179). -/
def State.startLight (s : State) : State :=
  { s with light := { s.light with flagFrom := s.nowNs }, boot := { s.boot with neighLeft := s.bootPins } }

/-- TROWEL_START: boot step 7 (R17, R91, R98). `scn` is the level of SCN2 to SCN0. The initial values come first, with their
events, and then the requirements are judged: a missing mandatory unit fails the image with code 9, and none of its field
values stays (R556 leaves every field that a ROM recipe does not name at its reset value).
Log 3 (DESIGN CHOICE), 22 (DEDUCED). -/
def execTrowelStart (scn : BitVec 3) (s : State) : Host.Outcome State Fault Refusal :=
  .next (if decide (s.phase ≠ .booting) || !s.boot.calDone || !s.boot.sigDone || s.boot.started then s
    else match s.boot.recipe with
      | none => s
      | some r =>
        let word := s.enabledWord r
        let s0 := ({ s with sys := { s.sys with enabled := word, scenes := r.scenes } } : State).loadFields r
        if r.mandatory &&& ~~~ word ≠ 0 then
          ({ s0 with fields := s.fields, former := s.former } : State).failImage 9
        else
          let s1 := s0.optionalMissing r
          let known := ((r.scenes[scn.toNat]?).map SceneEntry.defined).getD false
          let s2 := if known then s1 else s1.bbEvent 0x00#7 0xFF#8 0x0009#16 (scn.setWidth 32)
          let n := if known then scn else 0
          let s3 := ({ s2 with
            sys := { s2.sys with sceneActive := n, sceneReq := n }
            boot := { s2.boot with started := true }
            bb := { s2.bb with firstMarked := false } } : State).startTrowels r n
          ((s3.startUnits.pairStart).startLight).stepEnd 7 s.boot.lastNs)

/-- BOOT_NEIGHBOUR_TEST_DONE: boot step 8, once no pin is left to test; LN pins left with LT_EN low have been skipped, with
one event (R148, R179). NEIGH_TEST_DONE happens at the end of a test (R180); with the matrix strapped off there is none. Courses may start from here. -/
def execBootNeighbourTestDone (s : State) : Host.Outcome State Fault Refusal :=
  .next (if !s.neighTesting || s.bootPin.isSome then s
    else
      let s1 := if s.boot.neighLeft ≠ [] then s.bbEvent 0x03#7 0xFF#8 0x000B#16 0 else s
      let s2 : State := { s1 with boot := { s1.boot with neighDone := true, neighLeft := [] } }
      let s2 := (if s.matrixLines.isSome then s2.raise 0 23 else s2).stepEnd 8 s.boot.lastNs
      if s2.enabledAt Fld.lightEnable then s2.lightStart else s2)

/-- FABRIC_DISCOVERY_DONE: boot step 9; the node takes its ID (R447, R448). -/
def execFabricDiscoveryDone (s : State) : Host.Outcome State Fault Refusal :=
  .next (if decide (s.phase ≠ .booting) || !s.boot.neighDone || s.boot.fabricDone then s
    else
      let s1 := if s.anyMor then
          let t := (s.takeId s.chosenId).updFab fun x => { x with discovered := true }
          (t.raise 3 21).announceNow
        else s
      (({ s1 with boot := { s1.boot with fabricDone := true } } : State).stepEnd 9 s.boot.lastNs).waitDecide false)

/-- PAIR_HANDSHAKE_END: boot step 10; the role is settled as far as it can be (R427, Table BP.3). -/
def execPairHandshakeEnd (s : State) : Host.Outcome State Fault Refusal :=
  .next (if decide (s.phase ≠ .booting) || !s.boot.fabricDone || s.boot.pairDone then s
    else
      let s1 := s.waitDecide !s.pair.second
      ({ s1 with boot := { s1.boot with pairDone := true } } : State).stepEnd 10 s.boot.lastNs)

/-- READY_RISE: boot step 11; ACTIVE of a solo engine rises, and endpoint 0x81 starts (R80, R103, R356, R419). -/
def execReadyRise (s : State) : Host.Outcome State Fault Refusal :=
  .next (if decide (s.phase ≠ .booting) || !s.boot.pairDone then s
    else
      let s1 := (({ s with
        phase := .running
        balls := { s.balls with ready := true }
        boot := { s.boot with sleepHeld := false } } : State).stepEnd 11 s.boot.lastNs).usbStart
      if s.boot.sleepHeld then s1.requestSleep else s1)

end Sys2Proof.Machine
end

