-- ==== Sys2Proof/Machine/Tap.lean ====
section
/-! DEFINITION. The test access port: its instructions, the test state, the black-box readout, the memory self-test and
the field scan (R6, R505 to R514). A command loads its instruction and makes one scan of the data register it selects. -/

namespace Sys2Proof.Machine

/-- What Capture-IR gives (R506). -/
def State.irCapture (s : State) : BitVec 6 := if s.phase = .test then 0b000101#6 else 0b000001#6

/-- The opcode of an instruction (Table BB.4). -/
def TapIr.opcode : TapIr → BitVec 6
  | .extest => 0x00 | .samplePreload => 0x01 | .idcode => 0x02 | .highz => 0x03 | .clamp => 0x04 | .extestPulse => 0x05
  | .extestTrain => 0x06 | .bbRead => 0x10 | .mbist => 0x12 | .fieldScan => 0x14 | .bypass => 0x3F

/-- The instruction of an opcode; any opcode not listed selects the bypass register (R507). -/
def tapInstruction (o : BitVec 6) : TapIr :=
  match [TapIr.extest, .samplePreload, .idcode, .highz, .clamp, .extestPulse, .extestTrain, .bbRead, .mbist,
      .fieldScan].find? fun i => i.opcode == o with
  | some i => i
  | none => .bypass

/-- The bits of a value, lowest first. -/
def bitList (n : Nat) (v : Nat) : List Bool := (List.range n).map fun i => v.testBit i

/-- The test state (R6, R508): trowels stopped, lamps blanked, READY low, the verdict port silent. The rules name no state of
the engine in which a test-state instruction does not enter it. Where XREF does not run, the state is entered without it.
Log 31 (DEDUCED). -/
def State.enterTest (s : State) : State :=
  if s.phase = .test then s
  else
    let s1 := (((s.stopTrowels.discardWrites).lightRest).serRelease).usbDetach
    { s1 with
      phase := .test
      time := { s1.time with xrefOff := s.xrefStopped || decide (s.phase = .xrefFatal) }
      balls := { s1.balls with ready := false, hbLeft := 0, syncOut := false } }

/-- Update-IR with instruction `i`, which enters the test state where Table BB.4 says so. -/
def State.loadIr (s : State) (i : TapIr) : State :=
  let s1 : State := { s with tap := { s.tap with ir := i } }
  if i.testState then s1.enterTest else s1

/-- The latest scan shifted these bits out. -/
def State.shiftOut (s : State) (l : List Bool) : State := { s with tap := { s.tap with captured := l } }

/-- A scan of the boundary register: the cells' levels go out, the bits shifted in reach the update stage (R511).
Log 32 (DEDUCED). -/
def State.boundaryScan (s : State) (cells dr : List Bool) : State :=
  { s with tap := { s.tap with captured := cells, boundary := dr } }

/-- TRST_N_LOW: Test-Logic-Reset, IDCODE selected; the test state holds (R506, Table BB.7). -/
def execTrstNLow (s : State) : Host.Outcome State Fault Refusal :=
  .next { s with tap := { s.tap with ir := .idcode } }

/-- EXTEST (R508, R511). -/
def execExtest (cells dr : List Bool) (s : State) : Host.Outcome State Fault Refusal :=
  .next ((s.loadIr .extest).boundaryScan cells dr)

/-- SAMPLE/PRELOAD: no test state. -/
def execSamplePreload (cells dr : List Bool) (s : State) : Host.Outcome State Fault Refusal :=
  .next ((s.loadIr .samplePreload).boundaryScan cells dr)

/-- EXTEST_PULSE: as EXTEST, with IEEE 1149.6 pulses on the AC pins. -/
def execExtestPulse (cells dr : List Bool) (s : State) : Host.Outcome State Fault Refusal :=
  .next ((s.loadIr .extestPulse).boundaryScan cells dr)

/-- EXTEST_TRAIN: as EXTEST, with pulse trains on the AC pins. -/
def execExtestTrain (cells dr : List Bool) (s : State) : Host.Outcome State Fault Refusal :=
  .next ((s.loadIr .extestTrain).boundaryScan cells dr)

/-- The device identification (R509, R553). -/
def State.idcode (s : State) : BitVec 32 :=
  (match s.identity.stepping with | .b0 => 0x0#4 | .b1 => 0x1#4)
    ++ (match s.identity.variant with | .evr8480 => 0x8480#16 | .evr8460 => 0x8460#16 | .evr8440 => 0x8440#16)
    ++ 0xB5B#12

/-- IDCODE (R509). -/
def execIdcode (s : State) : Host.Outcome State Fault Refusal :=
  .next ((s.loadIr .idcode).shiftOut (bitList 32 s.idcode.toNat))

/-- HIGHZ: every ball of a cell is high-impedance; the bypass register captures 0. -/
def execHighz (s : State) : Host.Outcome State Fault Refusal := .next ((s.loadIr .highz).shiftOut [false])

/-- CLAMP: the update stage holds the balls; the bypass register captures 0. -/
def execClamp (s : State) : Host.Outcome State Fault Refusal := .next ((s.loadIr .clamp).shiftOut [false])

/-- BYPASS, and any opcode not listed. -/
def execBypass (s : State) : Host.Outcome State Fault Refusal := .next ((s.loadIr .bypass).shiftOut [false])

/-- The black box can be read (R505). -/
def State.bbAvailable (s : State) : Bool :=
  s.pins.pwrOk && !(decide (s.phase = .asleep) || (decide (s.phase = .waking) && decide (s.sys.wakeStep < 4)))

/-- The header of BB_READ; an MBIST run that selected the ring shows as emptied from its end (R502, R505). -/
def State.bbHeader (s : State) : Nat :=
  s.bb.ring.length + (if s.bb.frozen then 2 ^ 16 else 0) + (if s.bb.emptied || s.bb.mbistEmptied then 2 ^ 17 else 0) + 2 ^ 18
    + s.bb.freezeCause.toNat * 2 ^ 24

/-- BB_READ: header and events, oldest first, byte 0 first, least significant bit first (R505). -/
def execBbRead (s : State) : Host.Outcome State Fault Refusal :=
  let s1 := s.loadIr .bbRead
  .next (s1.shiftOut (if s1.bbAvailable then
      bitList 32 s1.bbHeader ++ (s1.bb.ring.flatMap BbEvent.bytes).flatMap fun b => bitList 8 b.toNat
    else List.replicate 32 false))

/-- The memories that the control bits select lose their content (R514); what is left of the verdict store is open.
Log 10 (DESIGN CHOICE). -/
def State.destroyMemories (s : State) (sel : BitVec 8) : State :=
  let s1 : State := if sel.getLsbD 1 then
    { s with frames := s.frames.map fun f => { f with slots := [] } } else s
  let s2 : State := if sel.getLsbD 2 then
    { s1 with trowels := s1.trowels.map fun x => { x with imem := [], dmem := [], dataErr := [], codeErr := [], codeSoft := [] } }
    else s1
  let s3 : State := if sel.getLsbD 3 then
    { s2 with ports := s2.ports.map fun x => { x with buf := [], descs := [] } } else s2
  let s4 : State := if sel.getLsbD 4 then
    { s3 with vs := { s3.vs with store := [], mirror := [], owner := [], queue := [], dirty := [] } } else s3
  let s5 : State := if sel.getLsbD 5 then
    { s4 with
      usb := { s4.usb with queue := [], next := 0, busy := false, busyAcked := false }
      ser := { s4.ser with queue := [], next := 0 }
      fab := { s4.fab with gw := [], gwNext := 0, fwd := [], fwdBusy := false } } else s4
  let s6 : State := if sel.getLsbD 6 then
    { s5 with
      usb := { s5.usb with taps := [] }
      fab := { s5.fab with inFlows := s5.fab.inFlows.map fun (f : InFlow) => { f with waiting := [], frags := [] } } }
    else s5
  { s6 with
    fresh := s6.fresh + 1
    tap := { s6.tap with destroyed := s6.tap.destroyed ||| sel, destroyedAt := s6.fresh } }

/-- MBIST: the result word goes out, and a 1 in bit 0 of the control word starts a run where none is in progress
(R514).
Log 11 (DEDUCED). -/
def execMbist (control : BitVec 64) (s : State) : Host.Outcome State Fault Refusal :=
  let s1 := (s.loadIr .mbist).shiftOut (bitList 64 s.tap.mbistResult.toNat)
  .next (if control.getLsbD 0 && s1.tap.mbistSel.isNone && decide (s1.phase = .test) then
      let s2 := s1.destroyMemories (control.setWidth 8 &&& 0xFE#8)
      { s2 with tap := { s2.tap with mbistSel := some (control.setWidth 8 &&& 0xFE#8), mbistResult := 0 } }
    else s1)

/-- MBIST_DONE: the run ends with a fail bit per memory, the failed tile-store slots and the first failing address
(R502, R514).
Log 11 (DEDUCED). -/
def execMbistDone (fail : BitVec 7) (slots : BitVec 15) (addr : Word) (s : State) : Host.Outcome State Fault Refusal :=
  .next (match s.tap.mbistSel with
    | none => s
    | some sel =>
      let f := fail &&& (sel >>> 1).setWidth 7
      let n : BitVec 15 := if sel.getLsbD 1 then slots else 0
      let r := BitVec.ofNat 64 (1 + 2 * f.toNat + 2 ^ 8 * n.toNat + 2 ^ 32 * (if f = 0 then 0 else addr.toNat))
      let s1 : State := { s with tap := { s.tap with mbistSel := none, mbistResult := r } }
      if sel.getLsbD 7 then
        { s1 with bb := { s1.bb with
            ring := [], queue := [], lostPending := false, freezeCause := 0, freezeNs := 0, mbistEmptied := true } }
      else s1)

/-- The field that FIELD_SCAN reads at Update-DR, as a trowel read does; SYS.SCENE_ENTRY, which is each trowel's own, has
no stated value for the TAP (R510).
Log 32 (DEDUCED). -/
def State.scanField (s : State) (a : Nat) : Word :=
  if a = Fld.sysSceneEntry then (Config.freeWord s.fresh) &&& 0xFFFF#32 else s.readLatched 0 s.tap.latch a

/-- FIELD_SCAN: bits [47:16] capture the value read at the latest Update-DR, and the field at `field` is read (R510). The
manual gives no content of the captured bits [15:0].
Log 32 (DEDUCED). -/
def execFieldScan (field : BitVec 16) (s : State) : Host.Outcome State Fault Refusal :=
  let s1 := (s.loadIr .fieldScan).shiftOut
    (bitList 16 (Config.freeWord (s.fresh + 1)).toNat ++ bitList 32 s.tap.fieldVal.toNat)
  let a := field.toNat
  .next { s1 with
    fresh := s.fresh + 2
    tap := { s1.tap with
      fieldVal := s1.scanField a
      latch := s1.latchAfter s1.tap.latch ((s1.vs.decide_.head?.map Notice.ts).getD 0) a } }

end Sys2Proof.Machine
end

