-- ==== Sys2Proof/Machine/Balls.lean ====
section
/-! DEFINITION. What the balls carry, computed from the state (R30, R43, R45, R51, R79, R508, Tables BR.4 and BR.7). No command
changes a ball but through the state these functions read. -/

namespace Sys2Proof.Machine

/-- A signal ball of Tables BR.1 to BR.3; one name stands for both legs of a differential pair. Lane 4 of a port is its clock lane,
and `tx` marks the pairs that the engine drives. -/
inductive Ball where
  | csi (p : PortId) (lane : Fin 5)
  | ln (l : Fin 8)
  | lc (c : Fin 16)
  | ls (c : Fin 16)
  | ltEn | ltFaultN
  | aa (i : Fin 8)
  | ab (i : Fin 16)
  | vref (c : Conv)
  | start (c : Conv)
  | urg (c : Conv)
  | vqClk | vqSelN
  | vqA (i : Fin 14)
  | vqD (i : Fin 16)
  | vqPar | vqAct | usbDp | usbDn | usbVbus
  | usbSs (tx : Bool)
  | mor (m : MorId) (lane : Fin 2) (tx : Bool)
  | pl (lane : Fin 2) (tx : Bool)
  | serRcal | plHb | utx | urx | ude | syncIn | syncOut
  | scn (i : Fin 3)
  | scnLatch | sleepReq | freezeN | resetN | wake | pwrOk | ready | faultN | rmCk | rmCsN
  | rmIo (i : Fin 4)
  | st (i : Fin 20)
  | xin | xout | xsIn | xsOut | tck | trstN | tms | tdi | tdo
  deriving DecidableEq, Repr

/-- What the engine puts on a ball. -/
inductive BallLevel where
  /-- Not driven; an open-drain ball is released. -/
  | highZ
  | low
  | high
  /-- Driven from the update stage of the boundary register, at the cell the BSDL file gives (R511, R513). -/
  | cell
  /-- An LC driver at this output code. -/
  | code (n : Nat)
  /-- A test source: 100 uA into a matrix pin (R178), 25 uA into a strap (R72). -/
  | source
  /-- A reference buffer on a VREF ball, or the calibration reference on SER_RCAL. -/
  | buffer
  /-- The transfers of the unit in use: SerDes blocks, USB packets, the clock and the address of a flash read. -/
  | bus
  /-- A SerDes transmitter in electrical idle. -/
  | idle
  /-- An oscillator that runs. -/
  | runs
  deriving DecidableEq, Repr

/-- What pulls a ball inside the engine, in kilohms (Table BR.4); `usb` is the pull-up by which an attached function shows
itself. -/
inductive Pull where
  | none
  | up (k : Nat)
  | down (k : Nat)
  | usb
  deriving DecidableEq, Repr

/-- A driven level. -/
def BallLevel.drive (b : Bool) : BallLevel := if b then .high else .low

/-- A driven level, or none. -/
def BallLevel.ofBit (b : Option Bool) : BallLevel :=
  match b with
  | some v => .drive v
  | none => .highZ

/-- An open-drain ball: pulled low or released. -/
def BallLevel.openDrain (pull : Bool) : BallLevel := if pull then .low else .highZ

/-- The ball belongs to a unit that the variant does not have (R51, Table BR.7). -/
def ballAbsent (v : Variant) (b : Ball) : Bool :=
  match v, b with
  | .evr8480, _ => false
  | .evr8460, .csi p _ => decide (2 ≤ p.val)
  | .evr8460, .mor m _ _ => decide (2 ≤ m.val)
  | .evr8460, .usbSs _ => true
  | .evr8460, _ => false
  | .evr8440, .csi p _ => decide (1 ≤ p.val)
  | .evr8440, .ln l => decide (4 ≤ l.val)
  | .evr8440, .vref c => decide (c = .a)
  | .evr8440, .start c => decide (c = .a)
  | .evr8440, .urg c => decide (c = .a)
  | .evr8440, .mor _ _ _ | .evr8440, .pl _ _ | .evr8440, .plHb | .evr8440, .usbSs _ | .evr8440, .aa _ => true
  | .evr8440, _ => false

/-! ### The column in force -/

/-- The condition that a column of Table BR.4 names (R45). -/
inductive BallRow where
  | reset | sleep | standby | active
  /-- The test state, under the instruction in the instruction register. -/
  | test
  deriving DecidableEq, Repr

/-- The column of Table BR.4 in force once the trowels run: pair standby or active.
Log 37 (DEDUCED). -/
def State.roleRow (s : State) : BallRow := if s.activeRole then .active else .standby

/-- The column of Table BR.4 in force for the units that trowel start brings into use; a halt before that step leaves them in
their Reset state (R79).
Log 37 (DEDUCED). -/
def State.ballRow (s : State) : BallRow :=
  match s.phase with
  | .held | .xrefWait | .xrefFatal | .thermal => .reset
  | .booting | .halted => if s.boot.started then s.roleRow else .reset
  | .running | .sleepEntry => s.roleRow
  | .asleep | .waking => .sleep
  | .test => .test

/-- The column in force for the lamp matrix: boot step 8 drives it whatever the role, courses follow the role from the end of that
step on, and an engine that halts with a pair role lets go of it (R148, R179, R186).
Log 37 (DEDUCED). -/
def State.lampRow (s : State) : BallRow :=
  match s.phase with
  | .booting => if s.neighTesting then (if s.matrixLines.isSome then .active else .reset) else s.ballRow
  | .halted => if s.pairRole.isSome then .standby else s.ballRow
  | _ => s.ballRow

/-- The cell-driven level in the test state: the boundary register under EXTEST and CLAMP, high-impedance under HIGHZ,
the Reset state otherwise (R508). -/
def State.testLevel (s : State) (reset : BallLevel) : BallLevel :=
  match s.tap.ir with
  | .extest | .extestPulse | .extestTrain | .clamp => .cell
  | .highz => .highZ
  | .samplePreload | .idcode | .bbRead | .mbist | .fieldScan | .bypass => reset

/-! ### The lamp matrix -/

/-- The off level of the strapped gate polarity; with the matrix strapped off no polarity is selected and the balls stay
high-impedance. -/
def State.gateLevel (s : State) (on : Bool) : BallLevel :=
  match s.matrixLines with
  | none => .highZ
  | some (highOn, _) => .drive (if highOn then on else !on)

/-- LN `l` in its Reset state: high-impedance while PWR_OK is low and until the strap sample, then at the off level.
Log 35 (DEDUCED). -/
def State.gateReset (s : State) : BallLevel :=
  if s.pins.pwrOk && s.boot.strapDone then s.gateLevel false else .highZ

/-- The gate of line `l` is on: the active window of a course on that line, neither dark nor blanked (R152, R153, R173). -/
def State.gateOn (s : State) (l : Nat) : Bool :=
  decide (s.light.stage = .active) && s.lampsOpen && s.lineOn l
    && (match s.light.course with
      | some c => decide (c.line = l) && !c.dark
      | none => false)

/-- The matrix pin into which the neighbour test drives its source: in boot step 8, or in a slot of a sweep (R178 to R180). -/
def State.testPin (s : State) : Option Nat :=
  if s.neighTesting then s.bootPin else if s.sweepSlot && s.activeRole then s.light.sweepPin else none

/-- LN `l` (R30, R51, R148, R150, R179, R186, Table BR.4).
Log 35 (DEDUCED). -/
def State.lnLevel (s : State) (l : Nat) : BallLevel :=
  if decide (s.identity.variant = .evr8440) && decide (4 ≤ l) then .highZ
  else
    match s.lampRow with
    | .reset => s.gateReset
    | .sleep => s.gateLevel false
    | .standby => .highZ
    | .active => if s.testPin = some (32 + l) then .source else s.gateLevel (s.gateOn l)
    | .test => if s.pins.ltEn then s.testLevel s.gateReset else s.gateLevel false

/-- The output code of LC `c`, `none` where the driver is off; in boot step 8 every column is at code 0 (R179), and in the test
state the drivers are off (R508).
Log 37 (DEDUCED). -/
def State.lcCode (s : State) (c : Nat) : Option Nat :=
  match s.lampRow with
  | .active => some (if s.lampsOpen && !s.neighTesting then (s.light.codes[c]?).getD 0 else 0)
  | .reset | .sleep | .standby | .test => none

/-- LC `c`: its driver, or the test source (R178, Table BR.4). -/
def State.lcLevel (s : State) (c : Nat) : BallLevel :=
  match s.lcCode c with
  | some n => if s.testPin = some c then .source else .code n
  | none => .highZ

/-- LS `c`: high-impedance but for the test source (R178, Table BR.4). -/
def State.lsLevel (s : State) (c : Nat) : BallLevel :=
  if decide (s.lampRow = .active) && decide (s.testPin = some (16 + c)) then .source else .highZ

/-- LT_FAULT_N (R183); Table BR.4 has it released in reset, in sleep and in pair standby.
Log 36 (DEDUCED). -/
def State.ltFaultLevel (s : State) : BallLevel :=
  match s.lampRow with
  | .active => .openDrain s.balls.ltFaultLow
  | .test => s.testLevel .highZ
  | .reset | .sleep | .standby => .highZ

/-! ### Status balls -/

/-- READY (R80). -/
def State.readyLevel (s : State) : BallLevel :=
  match s.ballRow with
  | .active | .standby => .drive s.balls.ready
  | .test => s.testLevel .low
  | .reset | .sleep => .low

/-- FAULT_N (R70, R83). -/
def State.faultLevel (s : State) : BallLevel :=
  match s.ballRow with
  | .active | .standby => .openDrain s.balls.faultLow
  | .test => s.testLevel .highZ
  | .reset => .openDrain (decide (s.phase = .xrefFatal) || (decide (s.phase = .halted) && s.balls.faultLow))
  | .sleep => .highZ

/-- SYNC_OUT. -/
def State.syncOutLevel (s : State) : BallLevel :=
  match s.ballRow with
  | .active | .standby => .drive s.balls.syncOut
  | .test => s.testLevel .low
  | .reset | .sleep => .low

/-- PL_HB: driven high for 40 ns of a heartbeat pulse of an active engine with a role and low for the 10 ns after it,
released otherwise; absent on the EVR-8440 (R51, R419, R423, R538). -/
def State.hbLevel (s : State) : BallLevel :=
  if s.identity.variant = .evr8440 then .highZ
  else
    match s.ballRow with
    | .active => if s.balls.hbLeft = 0 then .highZ else .drive (decide (4 < s.balls.hbLeft))
    | .test => s.testLevel .highZ
    | .reset | .sleep | .standby => .highZ

/-! ### The serial line -/

/-- UTX: push-pull, or open-drain on the party line of modes 3 and 4; released where the engine does not drive the line (R370,
R397, Table SL.1). -/
def State.utxLevel (s : State) : BallLevel :=
  match s.ballRow with
  | .active =>
    if !s.serLive then .highZ
    else if s.strap 10 = 3 ∨ s.strap 10 = 4 then .openDrain (!s.serSends)
    else .drive s.serSends
  | .test => s.testLevel .highZ
  | .reset | .sleep | .standby => .highZ

/-- UDE: high exactly during bits sent low through a transceiver, and driven low in the other modes (R370, Table SL.1). -/
def State.udeLevel (s : State) : BallLevel :=
  match s.ballRow with
  | .active =>
    if !s.serLive then .highZ
    else .drive ((decide (s.strap 10 = 5) || decide (s.strap 10 = 6)) && !s.serSends)
  | .test => s.testLevel .highZ
  | .reset | .sleep | .standby => .highZ

/-! ### The recipe flash -/

/-- RM_CS_N: low through an access, high otherwise, high-impedance while PWR_OK is low; an access that a low PWR_OK or RESET_N cuts
short ends with it (R61, R79, R86, Table BR.4). -/
def State.rmCsLevel (s : State) : BallLevel :=
  let l : BallLevel := if !s.pins.pwrOk then .highZ else .drive s.flashAccess.isNone
  if s.phase = .test then s.testLevel l else l

/-- RM_CK: the clock of an access, low otherwise, high-impedance while PWR_OK is low (R79, Table BR.4). -/
def State.rmCkLevel (s : State) : BallLevel :=
  let l : BallLevel := if !s.pins.pwrOk then .highZ else if s.flashAccess.isSome then .bus else .low
  if s.phase = .test then s.testLevel l else l

/-- RM_IO0 carries the instruction and the address of a read; the engine drives none of RM_IO1 to RM_IO3 in any phase of the reads
it issues, whose instruction and address go out on one line (R86, Table SR.6). -/
def State.rmIoLevel (s : State) (i : Nat) : BallLevel :=
  let l : BallLevel := if decide (i = 0) && s.flashAccess.isSome then .bus else .highZ
  if s.phase = .test then s.testLevel l else l

/-! ### SerDes and USB -/

/-- A transmitting SerDes pair: idle, or carrying its link (Table BR.4). -/
def State.serdesLevel (s : State) (on : Bool) : BallLevel :=
  match s.ballRow with
  | .active | .standby => if on && decide (s.phase ≠ .halted) then .bus else .idle
  | .test => s.testLevel .idle
  | .reset | .sleep => .idle

/-- The function is attached at SuperSpeed. -/
def State.usbSsOn (s : State) : Bool := s.usb.attached && decide (s.usb.speed = 3)

/-- USB_DP and USB_DN: the function's signalling while it is attached on them; a halted engine attaches too (R83, R349). -/
def State.usbLevel (s : State) : BallLevel :=
  if s.phase = .test then s.testLevel .highZ
  else if s.usb.attached && !s.usbSsOn then .bus else .highZ

/-! ### Converters and oscillators -/

/-- VREF_x: the reference buffer is on while REF_EN holds it on or a calibration turns it on, and off in reset and in sleep; an
external reference drives the ball itself (R192, R195, Table BR.4). -/
def State.vrefLevel (s : State) (c : Conv) : BallLevel :=
  let x := s.adc c
  let on := (s.getB (Fld.adcRefEn c) 0 && s.enabledAt (Fld.adcEnable c)) || x.calibrating
  match s.ballRow with
  | .active | .standby => if on && decide (s.strap (match c with | .a => 16 | .b => 17) ≠ 2) then .buffer else .highZ
  | .reset | .sleep | .test => .highZ

/-- The crystal oscillator on XIN and XOUT runs but in sleep (Tables BR.4 and SR.13). -/
def State.xinRuns (s : State) : Bool := decide (s.phase ≠ .asleep)

/-! ### Every ball -/

/-- What the engine puts on a ball that its variant has (Table BR.4). -/
def State.presentLevel (s : State) (b : Ball) : BallLevel :=
  match b with
  | .ln l => s.lnLevel l.val
  | .lc c => s.lcLevel c.val
  | .ls c => s.lsLevel c.val
  | .ltFaultN => s.ltFaultLevel
  | .vref c => s.vrefLevel c
  | .vqD i =>
    if s.phase = .test then s.testLevel .highZ
    else .ofBit ((if i.val < 8 then s.vqBalls.2.1 else s.vqBalls.1).map fun x => x.getLsbD (i.val % 8))
  | .vqPar => if s.phase = .test then s.testLevel .highZ else .ofBit s.vqBalls.2.2
  | .vqAct => if s.phase = .test then s.testLevel .highZ else .ofBit s.vqAct
  | .usbDp | .usbDn => s.usbLevel
  | .usbSs tx => if tx then s.serdesLevel s.usbSsOn else .highZ
  | .mor m _ tx => if tx then s.serdesLevel (s.morRuns m) else .highZ
  | .pl _ tx => if tx then s.serdesLevel s.pairRuns else .highZ
  | .serRcal => .buffer
  | .plHb => s.hbLevel
  | .utx => s.utxLevel
  | .ude => s.udeLevel
  | .syncOut => s.syncOutLevel
  | .ready => s.readyLevel
  | .faultN => s.faultLevel
  | .rmCk => s.rmCkLevel
  | .rmCsN => s.rmCsLevel
  | .rmIo i => s.rmIoLevel i.val
  | .st _ => if decide (s.phase = .booting) && !s.boot.strapDone then .source else .highZ
  | .xin | .xout => if s.xinRuns then .runs else .highZ
  | .xsIn | .xsOut => .runs
  /- Driven only while shifting, which lies within a scan command (Table BR.4). -/
  | .tdo => .highZ
  | .csi _ _ | .ltEn | .aa _ | .ab _ | .start _ | .urg _ | .vqClk | .vqSelN | .vqA _ | .usbVbus | .urx | .syncIn | .scn _
  | .scnLatch | .sleepReq | .freezeN | .resetN | .wake | .pwrOk | .tck | .trstN | .tms | .tdi => .highZ

/-- What the engine puts on a ball; a ball of an absent unit is high-impedance (R45, R51). -/
def State.ballLevel (s : State) (b : Ball) : BallLevel :=
  if ballAbsent s.identity.variant b then .highZ else s.presentLevel b

/-- The pull inside the engine on a ball; none on a ball of an absent unit (R46, R51, Table BR.4). -/
def State.ballPull (s : State) (b : Ball) : Pull :=
  if ballAbsent s.identity.variant b then .none
  else
    match b with
    | .lc _ => .down 20
    | .ltEn | .tck | .trstN => .down 100
    | .freezeN | .resetN | .tms | .tdi => .up 100
    | .rmIo _ => .up 50
    | .plHb | .wake => if s.ballRow = .reset then .down 100 else .none
    | .usbDp | .usbDn => if s.usb.attached && decide (s.phase ≠ .test) then .usb else .none
    | _ => .none

/-- The engine terminates a ball: a lane of a camera port as chapter "Camera ingress" has it, and every receiving SerDes pair
(R51, R225, R250, Table BR.4). -/
def State.ballTerminated (s : State) (b : Ball) : Bool :=
  !ballAbsent s.identity.variant b && (match b with
    | .csi p lane => s.laneTerminated p lane
    | .mor _ _ tx | .pl _ tx | .usbSs tx => !tx
    | _ => false)

end Sys2Proof.Machine
end

