-- ==== Sys2Proof/Machine/Clock.lean ====
section
/-! DEFINITION. What happens when no command waits: one cycle of the clock in force passes (R69, R139, R140, R399, R416,
R423). Everything that a cycle brings to its end (a timer, a watchdog, a slew) is a command of its own. -/

namespace Sys2Proof.Machine

/-- One TROWEL cycle of a trowel: CYCLE counts; a running timer counts down to its last cycle and the watchdog up to
its limit, where the TIMER and WATCHDOG_EXPIRY commands take over (R138 to R140).
Log 16 (DESIGN CHOICE). -/
def Trowel.cycle (limit : Nat) (x : Trowel) : Trowel :=
  let y := { x with cycles := (x.cycles + 1) % 2 ^ 64 }
  if x.status = .stopped then y
  else { y with timer := if x.timer ≤ 1 then x.timer else x.timer - 1, wdCount := min limit (x.wdCount + 1) }

/-- One TROWEL cycle of the four trowels. -/
def State.trowelCycle (s : State) : State :=
  if s.trowelsAwake && s.boot.started then
    { s with trowels := Vector.ofFn fun (t : Fin 4) => (s.trowels[t]).cycle (s.wdLimit t) }
  else s

/-- The heartbeat pulse is one CORE cycle nearer its end. -/
def State.hbCycle (s : State) : State := { s with balls := { s.balls with hbLeft := s.balls.hbLeft - 1 } }

/-- One CORE cycle, in which the mortar egresses fill the lanes that have become free (R38, R454), and a TROWEL cycle with every second one (Table PV.2).
Log 2 (DESIGN CHOICE). -/
def State.awakeCycle (s : State) : State :=
  let s1 := s.coreCycle.hbCycle.egressTick
  if s1.time.core % 2 = 0 then s1.trowelCycle else s1

/-- One cycle of the clock in force: CORE while XREF runs, the slow clock in sleep, none while the engine is held in reset,
stands in the fatal fault or stands in the test state without XREF.
Log 2 (DESIGN CHOICE). -/
def State.tick (s : State) : State :=
  match s.phase with
  | .booting | .running | .sleepEntry | .halted | .thermal => s.awakeCycle
  | .test => if s.time.xrefOff then s else s.awakeCycle
  | .asleep => s.slowCycle
  | .waking => if 4 ≤ s.sys.wakeStep then s.awakeCycle else s.slowCycle
  | .held | .xrefWait | .xrefFatal => s

end Sys2Proof.Machine
end

