-- ==== Sys2Proof/Machine/BlackBox.lean ====
section
/-! DEFINITION. The commands of the black box (R494 to R501): the write of a queued event, and FREEZE_N. -/

namespace Sys2Proof.Machine

/-- BB_EVENT_WRITE: the ring takes the oldest event of the write queue, with the time of this CORE cycle (R494 to R496). -/
def execBbEventWrite (s : State) : Host.Outcome State Fault Refusal :=
  .next (match s.bb.queue with
    | [] => s
    | e :: q =>
      if s.bbWrites then
        { s with bb := { s.bb with
            ring := ringPush s.bb.ring { e with ns := s.nowNs }, queue := q, written := s.bb.written + 1 } }
      else s)

/-- FREEZE_N_FALL (R499, Table BB.3). -/
def execFreezeNFall (s : State) : Host.Outcome State Fault Refusal := .next (s.freeze 0x05#8)

end Sys2Proof.Machine
end

