-- ==== Sys2Proof/Machine/Sleep.lean ====
section
/-! DEFINITION. Scenes, the end of sleep entry, sleep, and wake (R99 to R106, Tables SR.13 and SR.14). -/

namespace Sys2Proof.Machine

/-! ### Scenes -/

/-- Edges on SCN_LATCH act from boot step 7 on, outside sleep entry and sleep (R99).
Log 89 (DEDUCED). -/
def State.sceneActs (s : State) : Bool :=
  s.boot.started && (match s.phase with
    | .booting | .running => true
    | .waking => decide (4 ≤ s.sys.wakeStep)
    | _ => false)

/-- SCN_LATCH_RISE: the captured number reaches CORE (R99 to R102).
Log 31 (DEDUCED), 89 (DEDUCED). -/
def execScnLatchRise (scn : BitVec 3) (s : State) : Host.Outcome State Fault Refusal :=
  .next (if !s.sceneActs then s
    else if !((s.sys.scenes[scn.toNat]?).map SceneEntry.defined).getD false then
      s.bbEvent 0x00#7 0xFF#8 0x0009#16 (scn.setWidth 32)
    else if scn = s.sys.sceneActive ∧ s.sys.scenePending = false then s
    else ({ s with sys := { s.sys with sceneReq := scn, sceneDone := 0, scenePending := true } } : State).raiseAll 0)

/-- SCENE_CHANGE_TIMEOUT: a change not complete 10 ms after its event writes an event, and the engine keeps waiting
(R102); also during sleep entry, where the black box still takes events. -/
def execSceneChangeTimeout (s : State) : Host.Outcome State Fault Refusal :=
  .next (if s.sys.scenePending && s.boot.started then
    s.bbEvent 0x00#7 0xFF#8 0x000A#16 (s.sys.sceneDone.setWidth 32) else s)

/-! ### The end of sleep entry -/

/-- Events in the write queue reach the ring before the clocks stop (R496).
Log 34 (DEDUCED). -/
def State.bbDrain (s : State) : State :=
  { s with bb := if s.bbWrites then
      { s.bb with
        ring := flushQueue s.nsAfter s.bb.queue 0 s.bb.ring, queue := []
        written := s.bb.written + BitVec.ofNat 32 s.bb.queue.length }
    else s.bb }

/-- A wake cause, 1 WAKE or 2 address match (R105, Table SR.14 step 1). -/
def State.wake (s : State) (cause : BitVec 2) : State :=
  { s with phase := .waking, sys := { s.sys with wakeCause := cause, wakeStep := 1 }
           aon := { s.aon with wakeHeld := false } }

/-- Decode has ended: the elastic buffers have reached the pipeline, every descriptor has reached CORE, and every frame has been
decided (R247, R310). -/
def State.drained (s : State) : Bool :=
  s.frames.isEmpty && (List.finRange 4).all fun (p : PortId) => s.ports[p].buf.isEmpty && s.ports[p].descs.isEmpty

/-- SLEEP_DECODE_DRAINED: step 5 ends, once decode has ended, and steps 6 and 7 follow: links and ports idle, the sleep receiver is armed where
the serial line is enabled, the clocks stop (Table SR.13, R104, R105). A held WAKE edge wakes at once. VQ_ACT falls at the next
VQ_CLK edge (R334).
Log 34 (DEDUCED). -/
def execSleepDecodeDrained (s : State) : Host.Outcome State Fault Refusal :=
  .next (if decide (s.phase ≠ .sleepEntry) || decide (s.sys.sleepStep ≠ 4) || !s.drained then s
    else
      let rx := if s.serOn then some ((s.getF Fld.sysSleepAddr).setWidth 8, (s.getF Fld.sysSleepRate).setWidth 2)
        else none
      let s1 := (((s.bbEvent 0x00#7 0xFF#8 0x000D#16 0).usbDetach).serRelease.fabricSleep).pairSleep
      let s2 := s1.bbDrain
      let s3 : State := { s2 with
        phase := .asleep
        aon := { s2.aon with sleepRx := rx, sleepFlag := true }
        sys := { s2.sys with sleepStep := 7 }
        balls := { s2.balls with syncOut := false, hbLeft := 0 } }
      if s.aon.wakeHeld then s3.wake 1 else s3)

/-! ### Wake -/

/-- WAKE_RISE: it wakes a sleeping engine, is held during sleep entry, and has no effect on an awake one (R103, R105). -/
def execWakeRise (s : State) : Host.Outcome State Fault Refusal :=
  .next (if s.phase = .asleep then s.wake 1
    else if s.phase = .sleepEntry then { s with aon := { s.aon with wakeHeld := true } }
    else s)

/-- SLEEP_ADDRESS_MATCH: the armed receiver has taken the address character `addr` (R105, R395). -/
def execSleepAddressMatch (addr : Byte) (s : State) : Host.Outcome State Fault Refusal :=
  .next (match s.aon.sleepRx with
    | some (a, _) => if s.phase = .asleep ∧ a = addr then s.wake 2 else s
    | none => s)

/-- Whether the wake recalibrates: the die temperature differs by more than 20 °C from the one held. Without a value held
the manual states no result, so a free value decides (R106, Table BR.10).
Log 7 (DESIGN CHOICE), 33 (DEDUCED). -/
def State.recalibrates (s : State) (t : Rat) : Bool :=
  match s.aon.calTemp with
  | some u => decide (20 < t - u) || decide (20 < u - t)
  | none => (Config.freeWord s.fresh).getLsbD 0

/-- Converter `c` at wake step 4: a reference that is on powers up and settles (R221). -/
def State.wakeRef (s : State) (c : Conv) : State :=
  s.updAdc c fun x => { x with settling := x.settling || s.getB (Fld.adcRefEn c) 0 }

/-- A fresh estimator becomes stale at wake; its slots keep their estimates (R216). -/
def State.wakeEstimator (s : State) : State := if s.amb.running && !s.amb.stale then s.goStale else s

/-- Both converters and the estimator at wake step 4, with the recalibration where one is due (R106, R216, R221).
Log 33 (DEDUCED). -/
def State.wakeConverters (s : State) (cal : Bool) : State :=
  let s1 := ((s.wakeRef .a).wakeRef .b).wakeEstimator
  let s2 := if cal && s1.calibrates .a then s1.beginCalibration .a else s1
  if cal && s2.calibrates .b then s2.beginCalibration .b else s2

/-- The receivers of a port that is enabled power up (R229). -/
def State.wakePort (s : State) (p : PortId) : State :=
  if s.enabledAt (Fld.csiEnable p) && s.portSelected p then s.portPower p else s

/-- The receivers of the enabled ports power up. -/
def State.wakePorts (s : State) : State := (List.finRange 4).foldl State.wakePort s

/-- The time base goes into holdover, and the links start again from their oldest records (R382, R416). -/
def State.wakeLinks (s : State) : State := ((s.timeWake).serRestart.usbAttach).usbRestart.gwRestart

/-- The matrix restarts at entry 0 (R185). -/
def State.wakeLight (s : State) : State := if s.enabledAt Fld.lightEnable then s.lightStart else s

/-- WAKE_XREF_STABLE: steps 2 to 4 of Table SR.14: recalibration is decided, receivers, converters and links power up,
USB attaches, the matrix restarts at entry 0, the scrubber and the die monitor start afresh (R106, R185, R221, R310, R382, R416,
R544). -/
def execWakeXrefStable (dieTemp : Rat) (s : State) : Host.Outcome State Fault Refusal :=
  .next (if decide (s.phase ≠ .waking) || decide (s.sys.wakeStep ≠ 1) then s
    else
      let cal := s.recalibrates dieTemp
      let s1 : State := { s with
        sys := { s.sys with wakeStep := 4 }, aon := { s.aon with sleepRx := none }, fresh := s.fresh + 1
        thermal := { State.reset.thermal with warnFrom := s.nowNs, shutFrom := s.nowNs } }
      ((((s1.wakeConverters cal).wakePorts).wakeLinks).wakeLight).scrubStart)

/-- WAKE_RESUME: step 5 of Table SR.14: the trowels resume with the WAKE event, READY rises, acknowledgements clear, and
accesses that stalled in sleep entry complete (R104 to R106, R126). -/
def execWakeResume (s : State) : Host.Outcome State Fault Refusal :=
  .next (if decide (s.phase ≠ .waking) || decide (s.sys.wakeStep ≠ 4) then s
    else
      let held := s.boot.sleepHeld
      let s1 : State := { s with
        phase := .running
        balls := { s.balls with ready := true }
        boot := { s.boot with sleepHeld := false }
        sys := { s.sys with sleepAck := 0, sleepStep := 0, wakeStep := 0 }
        aon := { s.aon with sleepFlag := false } }
      let s2 := ((s1.raiseAll 2).bbEvent 0x00#7 0xFF#8 0x000E#16 (s.sys.wakeCause.setWidth 32)).pairWake
      let s3 := (List.finRange 4).foldl (fun (s : State) (t : TrowelId) => s.resume t) s2
      if held then s3.requestSleep else s3)

end Sys2Proof.Machine
end

