-- ==== Sys2Proof/Machine/Thermal.lean ====
section
/-! DEFINITION. The die temperature monitor and the thermal shutdown (R544 to R548). -/

namespace Sys2Proof.Machine

/-- The monitor runs from the start of each boot to the end of sleep entry, again from wake, and through a shutdown
(R544, R546). -/
def State.monitorRuns (s : State) : Bool :=
  match s.phase with
  | .booting | .running | .sleepEntry | .halted | .xrefFatal | .test | .thermal => true
  | .waking => decide (4 ≤ s.sys.wakeStep)
  | .held | .xrefWait | .asleep => false

/-- T_d after one more sample; the first one sets it (R544).
Log 39 (DEDUCED). -/
def Thermal.filter (x : Thermal) (r : Rat) : Rat :=
  match x.td with
  | none => r
  | some t => t + (r - t) / 64

/-- T_d rounded down to a multiple of 0.5 °C, in half degrees.
Log 39 (DEDUCED). -/
def halfDegrees (t : Rat) : Int := (2 * t).floor

/-- A state has held for its dwell of 1 s. -/
def State.dwelt (s : State) (from_ : Nat) : Bool := decide (1000000000 ≤ s.nowNs - from_)

/-- The engine is held in reset while the shutdown is active (R546); the monitor and the time base keep running. -/
def State.shutDown (s : State) : State :=
  let s1 := s.toReset .thermal 2
  { s1 with time := { s1.time with ns := s.time.ns, frac := s.time.frac, core := s.time.core }, thermal := s.thermal }

/-- THERMAL_SAMPLE: the 1 ms sample `reading` in °C (R544 to R546, Table PK.3). The warning acts before the shutdown. -/
def execThermalSample (reading : Rat) (s : State) : Host.Outcome State Fault Refusal :=
  .next (if !s.monitorRuns then s
    else
      let x := s.thermal
      let t := x.filter reading
      let q := halfDegrees t
      let warnOn := !x.warn && decide (220 ≤ q) && s.dwelt x.warnFrom
      let warnOff := x.warn && decide (q ≤ 200) && s.dwelt x.warnFrom
      let shutOn := !x.shutdown && decide (250 ≤ q) && s.dwelt x.shutFrom
      let shutOff := x.shutdown && decide (q ≤ 230) && s.dwelt x.shutFrom
      let s1 : State := { s with thermal := { x with
        td := some t
        warn := (x.warn || warnOn) && !warnOff
        warnFrom := if warnOn || warnOff then s.nowNs else x.warnFrom
        shutdown := (x.shutdown || shutOn) && !shutOff
        shutFrom := if shutOn || shutOff then s.nowNs else x.shutFrom } }
      let s2 := if warnOn && decide (s.phase ≠ .thermal) then s1.freezeIf 0x12#8 [2, 5] 1 else s1
      if shutOn then s2.shutDown
      else if shutOff && (decide (s.phase = .thermal) || decide (s.phase = .test)) then ({ s2 with phase := .held } : State).bootIfReady
      else s2)

end Sys2Proof.Machine
end

