-- ==== Sys2Proof/Machine/Writes.lean ====
section
/-! DEFINITION. The field writes that have a row of their own: each is the arrival of a trowel's write at the unit
(R115), where it is judged, shadowed or given its effect. -/

namespace Sys2Proof.Machine

/-- A write of SYS.SCENE_DONE (R102, Table TW.4) reaches its unit. -/
def execSceneDoneWrite (t : TrowelId) (v : Word) (s : State) : Host.Outcome State Fault Refusal :=
  .next (s.arrive t (BitVec.ofNat 16 Fld.sysSceneDone) v)

/-- A write of SYS.SLEEP_GO (R103) reaches its unit. -/
def execSleepGoWrite (t : TrowelId) (v : Word) (s : State) : Host.Outcome State Fault Refusal :=
  .next (s.arrive t (BitVec.ofNat 16 Fld.sysSleepGo) v)

/-- A write of SYS.SLEEP_ACK (Table SR.13) reaches its unit. -/
def execSleepAckWrite (t : TrowelId) (v : Word) (s : State) : Host.Outcome State Fault Refusal :=
  .next (s.arrive t (BitVec.ofNat 16 Fld.sysSleepAck) v)

/-- A write of LIGHT.ENABLE (R150) reaches its unit. -/
def execLightEnableWrite (t : TrowelId) (v : Word) (s : State) : Host.Outcome State Fault Refusal :=
  .next (s.arrive t (BitVec.ofNat 16 Fld.lightEnable) v)

/-- A write of LIGHT.GRP_FIRE (R557) reaches its unit. -/
def execGrpFireWrite (t : TrowelId) (v : Word) (s : State) : Host.Outcome State Fault Refusal :=
  .next (s.arrive t (BitVec.ofNat 16 Fld.lightGrpFire) v)

/-- A write of LIGHT.CRV_GO (R171) reaches its unit. -/
def execCrvGoWrite (t : TrowelId) (v : Word) (s : State) : Host.Outcome State Fault Refusal :=
  .next (s.arrive t (BitVec.ofNat 16 Fld.lightCrvGo) v)

/-- A write of LIGHT.BOARD_TEMP (R167) reaches its unit. -/
def execBoardTempWrite (t : TrowelId) (v : Word) (s : State) : Host.Outcome State Fault Refusal :=
  .next (s.arrive t (BitVec.ofNat 16 Fld.lightBoardTemp) v)

/-- A write of ADCx.ENABLE (R191) reaches its unit. -/
def execAdcEnableWrite (t : TrowelId) (c : Conv) (v : Word) (s : State) : Host.Outcome State Fault Refusal :=
  .next (s.arrive t (BitVec.ofNat 16 (Fld.adcEnable c)) v)

/-- A write of ADCx.REF_EN (R192) reaches its unit. -/
def execRefEnWrite (t : TrowelId) (c : Conv) (v : Word) (s : State) : Host.Outcome State Fault Refusal :=
  .next (s.arrive t (BitVec.ofNat 16 (Fld.adcRefEn c)) v)

/-- A write of ADCx.SEQ_GO (R202) reaches its unit. -/
def execSeqGo (t : TrowelId) (c : Conv) (v : Word) (s : State) : Host.Outcome State Fault Refusal :=
  .next (s.arrive t (BitVec.ofNat 16 (Fld.adcSeqGo c)) v)

/-- A write of ADCx.CAL_GO (R196) reaches its unit. -/
def execCalGo (t : TrowelId) (c : Conv) (v : Word) (s : State) : Host.Outcome State Fault Refusal :=
  .next (s.arrive t (BitVec.ofNat 16 (Fld.adcCalGo c)) v)

/-- A write of ADCx.ACC_SNAP (R211) reaches its unit. -/
def execAccSnap (t : TrowelId) (c : Conv) (v : Word) (s : State) : Host.Outcome State Fault Refusal :=
  .next (s.arrive t (BitVec.ofNat 16 (Fld.adcAccSnap c)) v)

/-- A write of ADCx.ACC_CLEAR (R211) reaches its unit. -/
def execAccClear (t : TrowelId) (c : Conv) (v : Word) (s : State) : Host.Outcome State Fault Refusal :=
  .next (s.arrive t (BitVec.ofNat 16 (Fld.adcAccClear c)) v)

/-- A write of CSI.ENABLE (R229, R230) reaches its unit. -/
def execCsiEnableWrite (t : TrowelId) (p : PortId) (v : Word) (s : State) : Host.Outcome State Fault Refusal :=
  .next (s.arrive t (BitVec.ofNat 16 (Fld.csiEnable p)) v)

/-- A write of CSI.VC_EN (R231) reaches its unit. -/
def execVcEnWrite (t : TrowelId) (p : PortId) (v : Word) (s : State) : Host.Outcome State Fault Refusal :=
  .next (s.arrive t (BitVec.ofNat 16 (Fld.csiVcEn p)) v)

/-- A write of CTX.ENABLE (R235, R268) reaches its unit. -/
def execCtxEnableWrite (t : TrowelId) (k : CtxId) (v : Word) (s : State) : Host.Outcome State Fault Refusal :=
  .next (s.arrive t (BitVec.ofNat 16 (Fld.ctxEnable k)) v)

/-- A write of LOC.ENABLE (R277) reaches its unit. -/
def execLocEnableWrite (t : TrowelId) (v : Word) (s : State) : Host.Outcome State Fault Refusal :=
  .next (s.arrive t (BitVec.ofNat 16 Fld.locEnable) v)

/-- A write of DEC.ENABLE (Table LD.11) reaches its unit. -/
def execDecEnableWrite (t : TrowelId) (v : Word) (s : State) : Host.Outcome State Fault Refusal :=
  .next (s.arrive t (BitVec.ofNat 16 Fld.decEnable) v)

/-- A write of VS.DECIDE (R318) reaches its unit. -/
def execVsDecide (t : TrowelId) (v : Word) (s : State) : Host.Outcome State Fault Refusal :=
  .next (s.arrive t (BitVec.ofNat 16 Fld.vsDecide) v)

/-- A write of VS.PEEK_ADDR (Table VP.7) reaches its unit. -/
def execVsPeekAddrWrite (t : TrowelId) (v : Word) (s : State) : Host.Outcome State Fault Refusal :=
  .next (s.arrive t (BitVec.ofNat 16 Fld.vsPeekAddr) v)

/-- A write of REC.HK_SEND (Table UR.13) reaches its unit. -/
def execHkSend (t : TrowelId) (v : Word) (s : State) : Host.Outcome State Fault Refusal :=
  .next (s.arrive t (BitVec.ofNat 16 Fld.recHkSend) v)

/-- A write of USB.ENABLE (R349) reaches its unit. -/
def execUsbEnableWrite (t : TrowelId) (v : Word) (s : State) : Host.Outcome State Fault Refusal :=
  .next (s.arrive t (BitVec.ofNat 16 Fld.usbEnable) v)

/-- A write of USB.REQ_NOTE_ACK (R363) reaches its unit. -/
def execReqNoteAck (t : TrowelId) (v : Word) (s : State) : Host.Outcome State Fault Refusal :=
  .next (s.arrive t (BitVec.ofNat 16 Fld.usbReqNoteAck) v)

/-- A write of SER.ENABLE (R370) reaches its unit. -/
def execSerEnableWrite (t : TrowelId) (v : Word) (s : State) : Host.Outcome State Fault Refusal :=
  .next (s.arrive t (BitVec.ofNat 16 Fld.serEnable) v)

/-- A write of SER.REQ_NOTE_ACK (R393) reaches its unit. -/
def execSerReqNoteAck (t : TrowelId) (v : Word) (s : State) : Host.Outcome State Fault Refusal :=
  .next (s.arrive t (BitVec.ofNat 16 Fld.serReqNoteAck) v)

/-- A write of PAIR.ENABLE (R419) reaches its unit. -/
def execPairEnableWrite (t : TrowelId) (v : Word) (s : State) : Host.Outcome State Fault Refusal :=
  .next (s.arrive t (BitVec.ofNat 16 Fld.pairEnable) v)

/-- A write of PAIR.TX_MSG (Table BP.8) reaches its unit. -/
def execPairTxMsgWrite (t : TrowelId) (v : Word) (s : State) : Host.Outcome State Fault Refusal :=
  .next (s.arrive t (BitVec.ofNat 16 Fld.pairTxMsg) v)

/-- A write of PAIR.RX_ACK (Table BP.8) reaches its unit. -/
def execPairRxAckWrite (t : TrowelId) (v : Word) (s : State) : Host.Outcome State Fault Refusal :=
  .next (s.arrive t (BitVec.ofNat 16 Fld.pairRxAck) v)

/-- A write of MOR.ENABLE (R440) reaches its unit. -/
def execMorEnableWrite (t : TrowelId) (m : MorId) (v : Word) (s : State) : Host.Outcome State Fault Refusal :=
  .next (s.arrive t (BitVec.ofNat 16 (Fld.morEnable m)) v)

/-- A write of MOR.ROUTE[n] (R451) reaches its unit. -/
def execRouteWrite (t : TrowelId) (n : BitVec 6) (v : Word) (s : State) : Host.Outcome State Fault Refusal :=
  .next (s.arrive t (BitVec.ofNat 16 (Fld.morRoute n.toNat)) v)

/-- A write of MOR.TX_MSG (R472) reaches its unit. -/
def execMorTxMsgWrite (t : TrowelId) (v : Word) (s : State) : Host.Outcome State Fault Refusal :=
  .next (s.arrive t (BitVec.ofNat 16 Fld.morTxMsg) v)

/-- A write of MOR.RX_ACK (Table MF.7) reaches its unit. -/
def execMorRxAckWrite (t : TrowelId) (v : Word) (s : State) : Host.Outcome State Fault Refusal :=
  .next (s.arrive t (BitVec.ofNat 16 Fld.morRxAck) v)

/-- A write of REC.RES_TAKE whose action is to include the result (R342). -/
def execResTakeInclude (t : TrowelId) (v : Word) (s : State) : Host.Outcome State Fault Refusal :=
  .next (if (v.toNat % 4 = 0 ∨ v.toNat % 4 = 3) then s.arrive t (BitVec.ofNat 16 Fld.recResTake) v else s)

/-- A write of REC.RES_TAKE whose action is to include it without its payload (R342). -/
def execResTakeNoPayload (t : TrowelId) (v : Word) (s : State) : Host.Outcome State Fault Refusal :=
  .next (if v.toNat % 4 = 1 then s.arrive t (BitVec.ofNat 16 Fld.recResTake) v else s)

/-- A write of REC.RES_TAKE whose action is to omit it (R342). -/
def execResTakeOmit (t : TrowelId) (v : Word) (s : State) : Host.Outcome State Fault Refusal :=
  .next (if v.toNat % 4 = 2 then s.arrive t (BitVec.ofNat 16 Fld.recResTake) v else s)

/-- A write of SER.CANCEL reaches the character unit; `late` tells that the frame on the line has passed its arbitration
sample (R390). -/
def execSerCancel (t : TrowelId) (v : Word) (late : Bool) (s : State) : Host.Outcome State Fault Refusal :=
  let s1 := if s.ser.phase = .record then s.updSer fun x => { x with arbDone := late } else s
  .next (s1.arrive t (BitVec.ofNat 16 Fld.serCancel) v)

end Sys2Proof.Machine
end

