-- ==== Sys2Proof/Machine/Dispatch.lean ====
section
/-! DEFINITION. The dispatch of every command to its meaning: one arm per constructor of `Instr`, one direct call each. -/

namespace Sys2Proof.Machine

def exec (i : Instr) (s : State) : Host.Outcome State Fault Refusal :=
  match i with
  | .pwrOkRise => Sys2Proof.Machine.execPwrOkRise s
  | .pwrOkLow => Sys2Proof.Machine.execPwrOkLow s
  | .resetNLow => Sys2Proof.Machine.execResetNLow s
  | .resetNRise => Sys2Proof.Machine.execResetNRise s
  | .strapSample readings => Sys2Proof.Machine.execStrapSample readings s
  | .otpLoad content => Sys2Proof.Machine.execOtpLoad content s
  | .selfCalibrationDone c dieTemp factors failed => Sys2Proof.Machine.execSelfCalibrationDone c dieTemp factors failed s
  | .sfdpRead sfdp => Sys2Proof.Machine.execSfdpRead sfdp s
  | .recipeLoadDone slot => Sys2Proof.Machine.execRecipeLoadDone slot s
  | .signatureCheckDone => Sys2Proof.Machine.execSignatureCheckDone s
  | .trowelStart scn => Sys2Proof.Machine.execTrowelStart scn s
  | .bootNeighbourTestDone => Sys2Proof.Machine.execBootNeighbourTestDone s
  | .fabricDiscoveryDone => Sys2Proof.Machine.execFabricDiscoveryDone s
  | .pairHandshakeEnd => Sys2Proof.Machine.execPairHandshakeEnd s
  | .readyRise => Sys2Proof.Machine.execReadyRise s
  | .xrefLoss => Sys2Proof.Machine.execXrefLoss s
  | .vddAonLoss => Sys2Proof.Machine.execVddAonLoss s
  | .slowClockWindowEnd xrefCycles => Sys2Proof.Machine.execSlowClockWindowEnd xrefCycles s
  | .slowClockEdgeTimeout => Sys2Proof.Machine.execSlowClockEdgeTimeout s
  | .scnLatchRise scn => Sys2Proof.Machine.execScnLatchRise scn s
  | .sceneChangeTimeout => Sys2Proof.Machine.execSceneChangeTimeout s
  | .sceneDoneWrite t v => Sys2Proof.Machine.execSceneDoneWrite t v s
  | .sleepReqRise => Sys2Proof.Machine.execSleepReqRise s
  | .sleepGoWrite t v => Sys2Proof.Machine.execSleepGoWrite t v s
  | .sleepAckWrite t v => Sys2Proof.Machine.execSleepAckWrite t v s
  | .sleepGraceExpiry => Sys2Proof.Machine.execSleepGraceExpiry s
  | .sleepDecodeDrained => Sys2Proof.Machine.execSleepDecodeDrained s
  | .wakeRise => Sys2Proof.Machine.execWakeRise s
  | .sleepAddressMatch addr => Sys2Proof.Machine.execSleepAddressMatch addr s
  | .wakeXrefStable dieTemp => Sys2Proof.Machine.execWakeXrefStable dieTemp s
  | .wakeResume => Sys2Proof.Machine.execWakeResume s
  | .thermalSample reading => Sys2Proof.Machine.execThermalSample reading s
  | .freezeNFall => Sys2Proof.Machine.execFreezeNFall s
  | .bbEventWrite => Sys2Proof.Machine.execBbEventWrite s
  | .ltEnFall => Sys2Proof.Machine.execLtEnFall s
  | .ltEnRise => Sys2Proof.Machine.execLtEnRise s
  | .add t rd ra rb => Sys2Proof.Machine.execAdd t rd ra rb s
  | .sub t rd ra rb => Sys2Proof.Machine.execSub t rd ra rb s
  | .and t rd ra rb => Sys2Proof.Machine.execAnd t rd ra rb s
  | .or t rd ra rb => Sys2Proof.Machine.execOr t rd ra rb s
  | .xor t rd ra rb => Sys2Proof.Machine.execXor t rd ra rb s
  | .shl t rd ra rb => Sys2Proof.Machine.execShl t rd ra rb s
  | .shr t rd ra rb => Sys2Proof.Machine.execShr t rd ra rb s
  | .sar t rd ra rb => Sys2Proof.Machine.execSar t rd ra rb s
  | .mul t rd ra rb => Sys2Proof.Machine.execMul t rd ra rb s
  | .mulhu t rd ra rb => Sys2Proof.Machine.execMulhu t rd ra rb s
  | .mulhs t rd ra rb => Sys2Proof.Machine.execMulhs t rd ra rb s
  | .minu t rd ra rb => Sys2Proof.Machine.execMinu t rd ra rb s
  | .maxu t rd ra rb => Sys2Proof.Machine.execMaxu t rd ra rb s
  | .cmp t ra rb => Sys2Proof.Machine.execCmp t ra rb s
  | .tst t ra rb => Sys2Proof.Machine.execTst t ra rb s
  | .mov t rd ra => Sys2Proof.Machine.execMov t rd ra s
  | .clz t rd ra => Sys2Proof.Machine.execClz t rd ra s
  | .addi t rd ra imm => Sys2Proof.Machine.execAddi t rd ra imm s
  | .andi t rd ra imm => Sys2Proof.Machine.execAndi t rd ra imm s
  | .ori t rd ra imm => Sys2Proof.Machine.execOri t rd ra imm s
  | .xori t rd ra imm => Sys2Proof.Machine.execXori t rd ra imm s
  | .shli t rd ra n => Sys2Proof.Machine.execShli t rd ra n s
  | .shri t rd ra n => Sys2Proof.Machine.execShri t rd ra n s
  | .sari t rd ra n => Sys2Proof.Machine.execSari t rd ra n s
  | .cmpi t ra imm => Sys2Proof.Machine.execCmpi t ra imm s
  | .tsti t ra imm => Sys2Proof.Machine.execTsti t ra imm s
  | .ext t rd ra p wm1 => Sys2Proof.Machine.execExt t rd ra p wm1 s
  | .ins t rd ra p wm1 => Sys2Proof.Machine.execIns t rd ra p wm1 s
  | .satu t rd ra n => Sys2Proof.Machine.execSatu t rd ra n s
  | .movi t rd imm => Sys2Proof.Machine.execMovi t rd imm s
  | .movh t rd imm => Sys2Proof.Machine.execMovh t rd imm s
  | .ld t rd ra imm => Sys2Proof.Machine.execLd t rd ra imm s
  | .st t rs ra imm => Sys2Proof.Machine.execSt t rs ra imm s
  | .bCond t cond target => Sys2Proof.Machine.execBCond t cond target s
  | .callCond t cond target => Sys2Proof.Machine.execCallCond t cond target s
  | .ret t => Sys2Proof.Machine.execRet t s
  | .jr t ra => Sys2Proof.Machine.execJr t ra s
  | .fld t rd field => Sys2Proof.Machine.execFld t rd field s
  | .fldx t rd ra field => Sys2Proof.Machine.execFldx t rd ra field s
  | .fieldReadReply t => Sys2Proof.Machine.execFieldReadReply t s
  | .fst t rs field => Sys2Proof.Machine.execFst t rs field s
  | .fstx t rs ra field => Sys2Proof.Machine.execFstx t rs ra field s
  | .fsync t => Sys2Proof.Machine.execFsync t s
  | .grpb t => Sys2Proof.Machine.execGrpb t s
  | .grpe t => Sys2Proof.Machine.execGrpe t s
  | .fieldWrite t field v => Sys2Proof.Machine.execFieldWrite t field v s
  | .fieldWriteAccepted t unit => Sys2Proof.Machine.execFieldWriteAccepted t unit s
  | .wait t rd ra rb => Sys2Proof.Machine.execWait t rd ra rb s
  | .waitEventPresent t => Sys2Proof.Machine.execWaitEventPresent t s
  | .evt t n => Sys2Proof.Machine.execEvt t n s
  | .eclr t n => Sys2Proof.Machine.execEclr t n s
  | .tset t ra => Sys2Proof.Machine.execTset t ra s
  | .kick t => Sys2Proof.Machine.execKick t s
  | .mfs t rd sreg => Sys2Proof.Machine.execMfs t rd sreg s
  | .mts t ra sreg => Sys2Proof.Machine.execMts t ra sreg s
  | .send t dest ra => Sys2Proof.Machine.execSend t dest ra s
  | .recv t rd => Sys2Proof.Machine.execRecv t rd s
  | .log t ra code => Sys2Proof.Machine.execLog t ra code s
  | .fault t code => Sys2Proof.Machine.execFault t code s
  | .nop t => Sys2Proof.Machine.execNop t s
  | .illegalInstruction t code => Sys2Proof.Machine.execIllegalInstruction t code s
  | .timer t => Sys2Proof.Machine.execTimer t s
  | .wdHalf t => Sys2Proof.Machine.execWdHalf t s
  | .watchdogExpiry t => Sys2Proof.Machine.execWatchdogExpiry t s
  | .lightEnableWrite t v => Sys2Proof.Machine.execLightEnableWrite t v s
  | .grpFireWrite t v => Sys2Proof.Machine.execGrpFireWrite t v s
  | .crvGoWrite t v => Sys2Proof.Machine.execCrvGoWrite t v s
  | .boardTempWrite t v => Sys2Proof.Machine.execBoardTempWrite t v s
  | .course => Sys2Proof.Machine.execCourse s
  | .scanInstant => Sys2Proof.Machine.execScanInstant s
  | .pulseStart g => Sys2Proof.Machine.execPulseStart g s
  | .pulseEnd g => Sys2Proof.Machine.execPulseEnd g s
  | .blankingStart => Sys2Proof.Machine.execBlankingStart s
  | .dischargeEnd => Sys2Proof.Machine.execDischargeEnd s
  | .strobeLockedIssue m => Sys2Proof.Machine.execStrobeLockedIssue m s
  | .darkStartIssue => Sys2Proof.Machine.execDarkStartIssue s
  | .faultSample g readings => Sys2Proof.Machine.execFaultSample g readings s
  | .zeroCurrentCheck col level pos => Sys2Proof.Machine.execZeroCurrentCheck col level pos s
  | .neighSweepStart => Sys2Proof.Machine.execNeighSweepStart s
  | .neighTestStep pin levels => Sys2Proof.Machine.execNeighTestStep pin levels s
  | .derateUpdate => Sys2Proof.Machine.execDerateUpdate s
  | .tempLost => Sys2Proof.Machine.execTempLost s
  | .adcEnableWrite t c v => Sys2Proof.Machine.execAdcEnableWrite t c v s
  | .refEnWrite t c v => Sys2Proof.Machine.execRefEnWrite t c v s
  | .refReady c => Sys2Proof.Machine.execRefReady c s
  | .seqGo t c v => Sys2Proof.Machine.execSeqGo t c v s
  | .calGo t c v => Sys2Proof.Machine.execCalGo t c v s
  | .accSnap t c v => Sys2Proof.Machine.execAccSnap t c v s
  | .accClear t c v => Sys2Proof.Machine.execAccClear t c v s
  | .startEdge c => Sys2Proof.Machine.execStartEdge c s
  | .urgEdge c => Sys2Proof.Machine.execUrgEdge c s
  | .strobeStart m => Sys2Proof.Machine.execStrobeStart m s
  | .darkRequest => Sys2Proof.Machine.execDarkRequest s
  | .conversionEnd c raw => Sys2Proof.Machine.execConversionEnd c raw s
  | .csiEnableWrite t p v => Sys2Proof.Machine.execCsiEnableWrite t p v s
  | .vcEnWrite t p v => Sys2Proof.Machine.execVcEnWrite t p v s
  | .csiReceiverReady p => Sys2Proof.Machine.execCsiReceiverReady p s
  | .frameStartPacket p vc num corrected => Sys2Proof.Machine.execFrameStartPacket p vc num corrected s
  | .frameEndPacket p vc corrected => Sys2Proof.Machine.execFrameEndPacket p vc corrected s
  | .pixelPacket p x => Sys2Proof.Machine.execPixelPacket p x s
  | .embeddedPacket p x => Sys2Proof.Machine.execEmbeddedPacket p x s
  | .headerUncorrectable p sync => Sys2Proof.Machine.execHeaderUncorrectable p sync s
  | .deskewBurst p => Sys2Proof.Machine.execDeskewBurst p s
  | .frameDescriptorInCore p mbps => Sys2Proof.Machine.execFrameDescriptorInCore p s mbps
  | .frameEndTimeout k => Sys2Proof.Machine.execFrameEndTimeout k s
  | .pipelineSlice p => Sys2Proof.Machine.execPipelineSlice p s
  | .ctxEnableWrite t k v => Sys2Proof.Machine.execCtxEnableWrite t k v s
  | .locEnableWrite t v => Sys2Proof.Machine.execLocEnableWrite t v s
  | .decEnableWrite t v => Sys2Proof.Machine.execDecEnableWrite t v s
  | .candidateArrival k fidx x => Sys2Proof.Machine.execCandidateArrival k fidx x s
  | .decodeResolved core out reads => Sys2Proof.Machine.execDecodeResolved core out s reads
  | .coreTimeExpiry core => Sys2Proof.Machine.execCoreTimeExpiry core s
  | .resultArrival core => Sys2Proof.Machine.execResultArrival core s
  | .closingPassEnd k fidx => Sys2Proof.Machine.execClosingPassEnd k fidx s
  | .frameDecideNotice k => Sys2Proof.Machine.execFrameDecideNotice k s
  | .noticeArrival => Sys2Proof.Machine.execNoticeArrival s
  | .tileScrub f => Sys2Proof.Machine.execTileScrub f s
  | .jointArrival => Sys2Proof.Machine.execJointArrival s
  | .jointWaitExpiry => Sys2Proof.Machine.execJointWaitExpiry s
  | .candidateJxWaitExpiry cand => Sys2Proof.Machine.execCandidateJxWaitExpiry cand s
  | .vsDecide t v => Sys2Proof.Machine.execVsDecide t v s
  | .autoDecision => Sys2Proof.Machine.execAutoDecision s
  | .vsPeekAddrWrite t v => Sys2Proof.Machine.execVsPeekAddrWrite t v s
  | .mirrorWrite => Sys2Proof.Machine.execMirrorWrite s
  | .vqQuery addr => Sys2Proof.Machine.execVqQuery addr s
  | .hkSend t v => Sys2Proof.Machine.execHkSend t v s
  | .resTakeInclude t v => Sys2Proof.Machine.execResTakeInclude t v s
  | .resTakeNoPayload t v => Sys2Proof.Machine.execResTakeNoPayload t v s
  | .resTakeOmit t v => Sys2Proof.Machine.execResTakeOmit t v s
  | .vbusPresent => Sys2Proof.Machine.execVbusPresent s
  | .vbusAbsent => Sys2Proof.Machine.execVbusAbsent s
  | .usbEnableWrite t v => Sys2Proof.Machine.execUsbEnableWrite t v s
  | .usbBusReset highSpeed => Sys2Proof.Machine.execUsbBusReset highSpeed s
  | .setConfiguration v => Sys2Proof.Machine.execSetConfiguration v s
  | .clearFeatureHalt ep => Sys2Proof.Machine.execClearFeatureHalt ep s
  | .setInterface alt => Sys2Proof.Machine.execSetInterface alt s
  | .standardRequest r => Sys2Proof.Machine.execStandardRequest r s
  | .setFeatureLinkPower => Sys2Proof.Machine.execSetFeatureLinkPower s
  | .u1U2EntryRequest => Sys2Proof.Machine.execU1U2EntryRequest s
  | .usbSuspend suspend => Sys2Proof.Machine.execUsbSuspend suspend s
  | .usbRecordTransferDone => Sys2Proof.Machine.execUsbRecordTransferDone s
  | .usbTapTransferDone => Sys2Proof.Machine.execUsbTapTransferDone s
  | .getInventory r done => Sys2Proof.Machine.execGetInventory r done s
  | .getLinkStatus r done => Sys2Proof.Machine.execGetLinkStatus r done s
  | .ackRecords r n done => Sys2Proof.Machine.execAckRecords r n done s
  | .retrieve r done => Sys2Proof.Machine.execRetrieve r done s
  | .getBlackbox r done => Sys2Proof.Machine.execGetBlackbox r done s
  | .reqNoteAck t v => Sys2Proof.Machine.execReqNoteAck t v s
  | .serEnableWrite t v => Sys2Proof.Machine.execSerEnableWrite t v s
  | .serFrameBroken chars gap => Sys2Proof.Machine.execSerFrameBroken s chars gap
  | .serAckFrame addr n => Sys2Proof.Machine.execSerAckFrame addr n s
  | .serRestartFrame addr => Sys2Proof.Machine.execSerRestartFrame addr s
  | .serGetInventory addr r => Sys2Proof.Machine.execSerGetInventory addr r s
  | .serGetLinkStatus addr r => Sys2Proof.Machine.execSerGetLinkStatus addr r s
  | .serAckRequest addr r => Sys2Proof.Machine.execSerAckRequest addr r s
  | .serRetrieve addr r => Sys2Proof.Machine.execSerRetrieve addr r s
  | .serGetBlackbox addr r => Sys2Proof.Machine.execSerGetBlackbox addr r s
  | .serFrameStart => Sys2Proof.Machine.execSerFrameStart s
  | .serCollision bit read => Sys2Proof.Machine.execSerCollision bit s read
  | .serFrameSent => Sys2Proof.Machine.execSerFrameSent s
  | .serAckWindowExpiry => Sys2Proof.Machine.execSerAckWindowExpiry s
  | .serBackoffExpiry => Sys2Proof.Machine.execSerBackoffExpiry s
  | .serLineHeldLow => Sys2Proof.Machine.execSerLineHeldLow s
  | .serCancel t v late => Sys2Proof.Machine.execSerCancel t v late s
  | .serReqNoteAck t v => Sys2Proof.Machine.execSerReqNoteAck t v s
  | .tick => Sys2Proof.Machine.execTick s
  | .syncInEdge => Sys2Proof.Machine.execSyncInEdge s
  | .sampleDeadlineExpiry r => Sys2Proof.Machine.execSampleDeadlineExpiry r s
  | .holdoverLimit => Sys2Proof.Machine.execHoldoverLimit s
  | .crystalRateStep => Sys2Proof.Machine.execCrystalRateStep s
  | .syncOutInstant => Sys2Proof.Machine.execSyncOutInstant s
  | .syncOutPulseEnd => Sys2Proof.Machine.execSyncOutPulseEnd s
  | .pairEnableWrite t v => Sys2Proof.Machine.execPairEnableWrite t v s
  | .heartbeatPulse => Sys2Proof.Machine.execHeartbeatPulse s
  | .plHbEdge => Sys2Proof.Machine.execPlHbEdge s
  | .hbLost => Sys2Proof.Machine.execHbLost s
  | .conflictSettle => Sys2Proof.Machine.execConflictSettle s
  | .pairWaitTimeout => Sys2Proof.Machine.execPairWaitTimeout s
  | .pairLinkRetransmit => Sys2Proof.Machine.execPairLinkRetransmit s
  | .pairLinkDown => Sys2Proof.Machine.execPairLinkDown s
  | .pairLinkUp => Sys2Proof.Machine.execPairLinkUp s
  | .pairHello h => Sys2Proof.Machine.execPairHello h s
  | .pairReserve last => Sys2Proof.Machine.execPairReserve last s
  | .pairReserveAck last => Sys2Proof.Machine.execPairReserveAck last s
  | .pairDecision addr word rec2 => Sys2Proof.Machine.execPairDecision addr word rec2 s
  | .pairRecord rec2 => Sys2Proof.Machine.execPairRecord rec2 s
  | .pairAckMark l n drop => Sys2Proof.Machine.execPairAckMark l n drop s
  | .pairLightMark x => Sys2Proof.Machine.execPairLightMark x s
  | .pairSenseMark x => Sys2Proof.Machine.execPairSenseMark x s
  | .senseMarkPeriod => Sys2Proof.Machine.execSenseMarkPeriod s
  | .timeMarkPeriod => Sys2Proof.Machine.execTimeMarkPeriod s
  | .pairTimeMark ns => Sys2Proof.Machine.execPairTimeMark ns s
  | .pairFault trowel cause => Sys2Proof.Machine.execPairFault trowel cause s
  | .pairStepDown => Sys2Proof.Machine.execPairStepDown s
  | .pairTakeoverMsg cause gap => Sys2Proof.Machine.execPairTakeoverMsg cause gap s
  | .pairTrowelMsg w => Sys2Proof.Machine.execPairTrowelMsg w s
  | .pairResyncStart => Sys2Proof.Machine.execPairResyncStart s
  | .pairResyncEnd c => Sys2Proof.Machine.execPairResyncEnd c s
  | .pairTxMsgWrite t v => Sys2Proof.Machine.execPairTxMsgWrite t v s
  | .pairRxAckWrite t v => Sys2Proof.Machine.execPairRxAckWrite t v s
  | .morEnableWrite t m v => Sys2Proof.Machine.execMorEnableWrite t m v s
  | .linkHello m serial lane0 lane1 exch pol => Sys2Proof.Machine.execLinkHello m serial lane0 lane1 exch pol s
  | .linkHelloPeriod m => Sys2Proof.Machine.execLinkHelloPeriod m s
  | .portDegraded m lane => Sys2Proof.Machine.execPortDegraded m lane s
  | .linkFrame m seq x crcOk => Sys2Proof.Machine.execLinkFrame m seq x crcOk s
  | .linkAck m seq => Sys2Proof.Machine.execLinkAck m seq s
  | .linkRetransmit m => Sys2Proof.Machine.execLinkRetransmit m s
  | .portDown m => Sys2Proof.Machine.execPortDown m s
  | .announce => Sys2Proof.Machine.execAnnounce s
  | .announcePeriod => Sys2Proof.Machine.execAnnouncePeriod s
  | .announceAgeOut serial => Sys2Proof.Machine.execAnnounceAgeOut serial s
  | .delayExchangePeriod m => Sys2Proof.Machine.execDelayExchangePeriod m s
  | .delayReq m => Sys2Proof.Machine.execDelayReq m s
  | .delayResp m t1 t2 t3 t4 => Sys2Proof.Machine.execDelayResp m t1 t2 t3 t4 s
  | .fabricTimeFrame m gm valid ns ofs => Sys2Proof.Machine.execFabricTimeFrame m gm valid ns ofs s
  | .morRecord => Sys2Proof.Machine.execMorRecord s
  | .morDelivered => Sys2Proof.Machine.execMorDelivered s
  | .morJoint => Sys2Proof.Machine.execMorJoint s
  | .morTap => Sys2Proof.Machine.execMorTap s
  | .morTrowel => Sys2Proof.Machine.execMorTrowel s
  | .morBroken => Sys2Proof.Machine.execMorBroken s
  | .flowBroken src cls => Sys2Proof.Machine.execFlowBroken src cls s
  | .unreachableExpiry dst => Sys2Proof.Machine.execUnreachableExpiry dst s
  | .gatewayProgressTimeout => Sys2Proof.Machine.execGatewayProgressTimeout s
  | .routeWrite t n v => Sys2Proof.Machine.execRouteWrite t n v s
  | .morTxMsgWrite t v => Sys2Proof.Machine.execMorTxMsgWrite t v s
  | .morRxAckWrite t v => Sys2Proof.Machine.execMorRxAckWrite t v s
  | .trstNLow => Sys2Proof.Machine.execTrstNLow s
  | .extest cells dr => Sys2Proof.Machine.execExtest cells dr s
  | .samplePreload cells dr => Sys2Proof.Machine.execSamplePreload cells dr s
  | .idcode => Sys2Proof.Machine.execIdcode s
  | .highz => Sys2Proof.Machine.execHighz s
  | .clamp => Sys2Proof.Machine.execClamp s
  | .extestPulse cells dr => Sys2Proof.Machine.execExtestPulse cells dr s
  | .extestTrain cells dr => Sys2Proof.Machine.execExtestTrain cells dr s
  | .bbRead => Sys2Proof.Machine.execBbRead s
  | .mbist control => Sys2Proof.Machine.execMbist control s
  | .mbistDone fail slots addr => Sys2Proof.Machine.execMbistDone fail slots addr s
  | .fieldScan field => Sys2Proof.Machine.execFieldScan field s
  | .bypass => Sys2Proof.Machine.execBypass s
  | .vqClkRise => Sys2Proof.Machine.execVqClkRise s
  | .frameStartNoticeInDecode k => Sys2Proof.Machine.execFrameStartNoticeInDecode k s
  | .serResponseSent => Sys2Proof.Machine.execSerResponseSent s
  | .serFrameRejected heard => Sys2Proof.Machine.execSerFrameRejected heard s
  | .serUnknownRequest addr request r => Sys2Proof.Machine.execSerUnknownRequest addr request r s
  | .usbVendorRequestStall r => Sys2Proof.Machine.execUsbVendorRequestStall r s
  | .pairLinkAck n => Sys2Proof.Machine.execPairLinkAck n s
  | .xrefStable => Sys2Proof.Machine.execXrefStable s
  | .superspeedTrainingTimeout => Sys2Proof.Machine.execSuperspeedTrainingTimeout s
  | .instructionScrub => Sys2Proof.Machine.execInstructionScrub s
  | .clockLaneStateChange p lane lines => Sys2Proof.Machine.execClockLaneStateChange p lane lines s

end Sys2Proof.Machine
end

