-- ==== Sys2Proof/Safety.lean ====
section
/-! DEFINITION. What a safe run is, and the words that the statements are made of: what a command does, what it leaves
alone, and the conditions that hold in every state the block reaches. -/

namespace Sys2Proof.Machine

/-! ### Conditions on a state -/

/-- The stored fields are in canonical form: strictly rising addresses, no entry at its Reset value. -/
def State.fieldsWf (s : State) : Bool := sparseWf resetValue s.fields

/-- The black box: at most 1024 events in the ring and 32 in its write queue (R494, R496). -/
def BlackBox.wf (b : BlackBox) : Bool := decide (b.ring.length ≤ 1024) && decide (b.queue.length ≤ 32)

/-- The memories of a trowel are in canonical form. -/
def Trowel.memWf (x : Trowel) : Bool :=
  sparseWf (fun _ => (0 : Word)) x.imem && sparseWf (fun _ => (0 : Word)) x.dmem

/-- The verdict store, its mirror and the owners of its entries are in canonical form. -/
def Verdict.memWf (v : Verdict) : Bool :=
  sparseWf (fun _ => (0 : BitVec 16)) v.store && sparseWf (fun _ => (0 : BitVec 16)) v.mirror
    && sparseWf (fun _ => (0 : Word)) v.owner

/-- Every memory of the engine is in canonical form. -/
def State.memWf (s : State) : Bool := (List.finRange 4).all (fun (t : TrowelId) => (s.trowels[t]).memWf) && s.vs.memWf

/-- Every pending write waits in the apply set of its own field (Table FM.3). -/
def State.shadowWf (s : State) : Bool := s.shadow.all fun p => decide (setOf p.addr = some p.set)

/-- The black box kept of the cycle in which trowels last faulted has the sizes of a black box. -/
def State.faultedWf (s : State) : Bool := s.faulted.all fun c => c.bb.wf

/-- A state as the spec lets it be. -/
def State.wf (s : State) : Bool := s.fieldsWf && s.bb.wf && s.memWf && s.shadowWf && s.faultedWf

/-- A step neither faults nor refuses. -/
def State.progresses (s : State) : Prop := ∃ t, step s = .next t

/-! ### What a command does -/

/-- Command `c` completes in state `s` with a next state that satisfies `p`. -/
def Does (c : Instr) (s : State) (p : State → Prop) : Prop := ∃ u, exec c s = .next u ∧ p u

/-- `c` completes in `s` and changes nothing but trowel `t`, which it makes `x`. -/
def MakesTrowel (c : Instr) (s : State) (t : TrowelId) (x : Trowel) : Prop :=
  exec c s = .next { s with trowels := s.trowels.set t.val x t.isLt }

/-- `c` gives register `rd` of trowel `t` the result `r`, sets Z and N from it and C and V to `cy` and `ov`, goes on at
the next instruction and changes nothing else. -/
def GivesResult (c : Instr) (s : State) (t : TrowelId) (rd : RegId) (r : Word) (cy ov : Bool) : Prop :=
  MakesTrowel c s t
    { s.trowels[t] with
      w := s.trowels[t].w.set rd.toNat r rd.isLt, z := decide (r = 0), n := r.msb, c := cy, v := ov
      pc := s.trowels[t].pc + 1 }

/-- As `GivesResult`, with no register written: the flags of a comparison. -/
def GivesFlags (c : Instr) (s : State) (t : TrowelId) (r : Word) (cy ov : Bool) : Prop :=
  MakesTrowel c s t
    { s.trowels[t] with z := decide (r = 0), n := r.msb, c := cy, v := ov, pc := s.trowels[t].pc + 1 }

/-- A write of trowel `t` to the field at `a` stands alone and its unit takes it: the trowels have been started and are
not paused, the field's unit is present and not turned off, Table TW.5 gives no reason to refuse, and the trowel's write
queue holds nothing that this unit has still to receive. -/
structure Takes (s : State) (t : TrowelId) (a : Nat) : Prop where
  awake : s.trowelsAwake = true
  started : s.boot.started = true
  present : absentField s.identity.variant a = false
  accepted : s.refusal t a = none
  on : s.turnedOff a = false
  alone : ∀ e ∈ (s.trowels[t]).wq, e.unit = unitOf a → e.answer.isSome = true

/-! ### What a command leaves alone -/

/-- Everything of the engine outside its units' own state: identity, straps and recipe, the always-on domain, the test
access port, the temperature monitor and the reset phase. -/
structure CoreFrame (s u : State) : Prop where
  pending : u.pending = s.pending
  identity : u.identity = s.identity
  aon : u.aon = s.aon
  phase : u.phase = s.phase
  boot : u.boot = s.boot
  sys : u.sys = s.sys
  tap : u.tap = s.tap
  thermal : u.thermal = s.thermal

/-- The light matrix and the converters. -/
structure LightFrame (s u : State) : Prop where
  light : u.light = s.light
  adcA : u.adcA = s.adcA
  adcB : u.adcB = s.adcB
  amb : u.amb = s.amb

/-- The cameras, the frames in flight and the decode cluster. -/
structure FrameFrame (s u : State) : Prop where
  ports : u.ports = s.ports
  frames : u.frames = s.frames
  nextFrame : u.nextFrame = s.nextFrame
  ctxs : u.ctxs = s.ctxs
  dec : u.dec = s.dec

/-- The verdict store, the record former and the links. -/
structure LinkFrame (s u : State) : Prop where
  vs : u.vs = s.vs
  former : u.former = s.former
  usb : u.usb = s.usb
  ser : u.ser = s.ser
  pair : u.pair = s.pair
  fab : u.fab = s.fab

/-- A trowel's own state: memories, registers, flags, program, stack, queues; all but what an event sets. -/
def Trowel.quiet (x : Trowel) : Trowel := { x with pending := 0, overrun := 0 }

/-- In every trowel only event bits may have changed. -/
def EventsOnly (s u : State) : Prop := ∀ t : TrowelId, (u.trowels[t]).quiet = (s.trowels[t]).quiet

/-- No converter but `c` has changed. -/
def OtherAdcKept (s u : State) (c : Conv) : Prop := ∀ d : Conv, d ≠ c → u.adc d = s.adc d

/-- The converter with no conversion, no work and no request. -/
def Adc.stopped (x : Adc) : Adc :=
  { x with conv := none, work := [], urgPend := false, strobePend := 0, darkPend := false, seqPend := false }

/-- Outside the fields `l`, stored fields changed only where a write was pending. -/
def FieldsKept (s u : State) (l : List Nat) : Prop :=
  ∀ b, b ∉ l → (∀ p ∈ s.shadow, p.addr ≠ b) → u.getF b = s.getF b

/-- The saturating 16-bit count at `a` has gone up by 1, and no stored field outside `l` has changed otherwise. -/
def Counted (s u : State) (a : Nat) (l : List Nat) : Prop :=
  u.getN a = min 65535 (s.getN a + 1) ∧ ∀ b, b ≠ a → b ∉ l → u.getF b = s.getF b

/-- No port but `p` has changed. -/
def OtherPortsKept (s u : State) (p : PortId) : Prop := ∀ q : PortId, q ≠ p → u.ports[q] = s.ports[q]

/-- Trowel `t` has seen pulse event `n`: it is pending, and nothing else of the trowel but event bits has changed. -/
def Raised (s u : State) (t : TrowelId) (n : Nat) : Prop :=
  (s.boot.started = true → (u.trowels[t]).pending.getLsbD n = true) ∧ EventsOnly s u

/-- What the engine receives on a link: a message, a request, a record or an acknowledgement, on USB, on the serial line, on a
mortar port or, of those that carry no takeover and no mark, on the pair link (R2). -/
def linkReceives : Instr → Bool
  | .usbBusReset _ | .setConfiguration _ | .clearFeatureHalt _ | .setInterface _ | .standardRequest _
  | .u1U2EntryRequest | .usbSuspend _ | .getInventory _ _ | .getLinkStatus _ _ | .ackRecords _ _ _ | .retrieve _ _
  | .getBlackbox _ _ | .usbVendorRequestStall _ => true
  | .serFrameBroken _ _ | .serFrameRejected _ | .serAckFrame _ _ | .serRestartFrame _ | .serGetInventory _ _
  | .serGetLinkStatus _ _ | .serAckRequest _ _ | .serRetrieve _ _ | .serGetBlackbox _ _ | .serUnknownRequest _ _ _ => true
  | .linkHello _ _ _ _ _ _ | .linkFrame _ _ _ _ | .linkAck _ _ | .announce | .delayReq _ | .delayResp _ _ _ _ _
  | .fabricTimeFrame _ _ _ _ _ | .morRecord | .morDelivered | .morJoint | .morTap | .morTrowel | .morBroken => true
  | .pairHello _ | .pairReserve _ | .pairReserveAck _ | .pairDecision _ _ _ | .pairRecord _ | .pairAckMark _ _ _
  | .pairTimeMark _ | .pairStepDown | .pairTrowelMsg _ | .pairResyncStart | .pairLinkAck _ => true
  | _ => false

end Sys2Proof.Machine
end

