-- ==== Sys2Proof/Certificates/Slice0/Obligations.lean ====
section
/-! DEFINITION. The statements about the model, for the provers. -/

open Sys2Proof Sys2Proof.Machine

/-! ### The block -/

/-- A step takes the command at the front of the queue and gives it its effect with the queue's rest. -/
def Obligations.StepRunsFrontCommand : Prop :=
  ∀ (s : State) (c : Instr) (rest : List Instr), s.pending = c :: rest →
    step s = exec c { s with pending := rest }

/-- With no command waiting, a step is one cycle of the clock in force (the model's choice, log entry 2): a CORE cycle
counts while XREF runs, nothing moves while the engine is held in reset or has no XREF, and no configuration field, unit
or link state changes but the messages that the mortar egresses put on lanes that have become free (R38, R454). -/
def Obligations.IdleStepIsOneCycle : Prop :=
  ∀ s : State, s.pending = [] → ∃ u, step s = .next u ∧
    ((s.phase = .running ∨ s.phase = .booting ∨ s.phase = .sleepEntry ∨ s.phase = .halted ∨ s.phase = .thermal ∨
        (s.phase = .test ∧ s.time.xrefOff = false)) → u.time.core = s.time.core + 1) ∧
    ((s.phase = .held ∨ s.phase = .xrefWait ∨ s.phase = .xrefFatal ∨ (s.phase = .test ∧ s.time.xrefOff = true)) → u = s) ∧
    u.fields = s.fields ∧ u.bb = s.bb ∧ CoreFrame s u ∧ LightFrame s u ∧ FrameFrame s u ∧
    u.vs = s.vs ∧ u.former = s.former ∧ u.usb = s.usb ∧ u.ser = s.ser ∧ u.pair = s.pair ∧
    ((∀ m : MorId, (s.fab.ports[m]).queue = []) → u.fab = s.fab)

/-- Reset leaves READY low, the trowels stopped, every configuration field at its Reset entry, no scene change under way,
the time base at 0, the black box empty and not frozen, and no command waiting. -/
def Obligations.ResetState : Prop :=
  State.reset.balls.ready = false ∧
  (∀ t : TrowelId, (State.reset.trowels[t]).status = .stopped) ∧
  (∀ a, State.reset.getF a = resetValue a) ∧
  State.reset.sys.scenePending = false ∧ State.reset.time.ns = 0 ∧
  State.reset.bb.ring = [] ∧ State.reset.bb.frozen = false ∧ State.reset.pending = []

/-- The invariant of `StepKeepsWf` holds after reset. -/
def Obligations.ResetIsWf : Prop := State.reset.wf = true

/-- Every step keeps the stored fields and the memories in canonical form, each pending write in its field's apply set,
and the black box, and the one kept of the cycle in which trowels last faulted, within 1024 events and 32 queued ones. -/
def Obligations.StepKeepsWf : Prop :=
  ∀ s u : State, s.wf = true → step s = .next u → u.wf = true

/-- Every command completes with a next state, in every state and on every operand: a command of which the spec says that it is
ignored, dropped or discarded has just that effect (log entry 1). None touches the queue behind it, and none changes the variant or
the stepping. -/
def Obligations.CommandsKeepQueueAndPart : Prop :=
  ∀ (c : Instr) (s : State), Does c s fun u =>
    u.pending = s.pending ∧ u.identity.variant = s.identity.variant ∧ u.identity.stepping = s.identity.stepping

/-! ### The trowels -/

/-- Addition, subtraction and comparison: C is the carry or the borrow, V the signed overflow (R132, Table TW.11). Logic,
multiplication, minimum, maximum, leading zeros and the moves: Z and N from the result, C and V kept. -/
def Obligations.TrowelArithmetic : Prop :=
  (∀ (s : State) (t : TrowelId) (rd ra rb : RegId) (imm : BitVec 18), s.executes t = true →
     let a := (s.trowels[t]).rd ra
     let b := (s.trowels[t]).rd rb
     let i : Word := imm.signExtend 32
     GivesResult (.add t rd ra rb) s t rd (a + b) (decide (2 ^ 32 ≤ a.toNat + b.toNat))
       (decide ((a + b).toInt ≠ a.toInt + b.toInt)) ∧
     GivesResult (.sub t rd ra rb) s t rd (a - b) (decide (a.toNat < b.toNat))
       (decide ((a - b).toInt ≠ a.toInt - b.toInt)) ∧
     GivesResult (.addi t rd ra imm) s t rd (a + i) (decide (2 ^ 32 ≤ a.toNat + i.toNat))
       (decide ((a + i).toInt ≠ a.toInt + i.toInt)) ∧
     GivesFlags (.cmp t ra rb) s t (a - b) (decide (a.toNat < b.toNat))
       (decide ((a - b).toInt ≠ a.toInt - b.toInt)) ∧
     GivesFlags (.cmpi t ra imm) s t (a - i) (decide (a.toNat < i.toNat))
       (decide ((a - i).toInt ≠ a.toInt - i.toInt))) ∧
  (∀ (s : State) (t : TrowelId) (rd ra rb : RegId) (imm : BitVec 18), s.executes t = true →
     let x := s.trowels[t]
     let a := x.rd ra
     let b := x.rd rb
     let i : Word := imm.setWidth 32
     GivesResult (.and t rd ra rb) s t rd (a &&& b) x.c x.v ∧
     GivesResult (.or t rd ra rb) s t rd (a ||| b) x.c x.v ∧
     GivesResult (.xor t rd ra rb) s t rd (a ^^^ b) x.c x.v ∧
     GivesResult (.andi t rd ra imm) s t rd (a &&& i) x.c x.v ∧
     GivesResult (.ori t rd ra imm) s t rd (a ||| i) x.c x.v ∧
     GivesResult (.xori t rd ra imm) s t rd (a ^^^ i) x.c x.v ∧
     GivesFlags (.tst t ra rb) s t (a &&& b) x.c x.v ∧
     GivesFlags (.tsti t ra imm) s t (a &&& i) x.c x.v ∧
     GivesResult (.mul t rd ra rb) s t rd (BitVec.ofNat 32 (a.toNat * b.toNat)) x.c x.v ∧
     GivesResult (.mulhu t rd ra rb) s t rd (BitVec.ofNat 32 (a.toNat * b.toNat / 2 ^ 32)) x.c x.v ∧
     GivesResult (.mulhs t rd ra rb) s t rd (BitVec.ofInt 32 (a.toInt * b.toInt / 2 ^ 32)) x.c x.v ∧
     GivesResult (.minu t rd ra rb) s t rd (BitVec.ofNat 32 (min a.toNat b.toNat)) x.c x.v ∧
     GivesResult (.maxu t rd ra rb) s t rd (BitVec.ofNat 32 (max a.toNat b.toNat)) x.c x.v ∧
     GivesResult (.mov t rd ra) s t rd a x.c x.v ∧
     (∃ n : Nat, n ≤ 32 ∧ (∀ k, 32 - n ≤ k → a.getLsbD k = false) ∧ (n < 32 → a.getLsbD (31 - n) = true) ∧
       GivesResult (.clz t rd ra) s t rd (BitVec.ofNat 32 n) x.c x.v))

/-- Shifts: C is the last bit shifted out, unchanged by a shift of 0; V is kept (R132, Table TW.11). Bit fields, clamping
and constants, bit by bit: EXT reads 0 above bit 31, INS discards what falls there, SATU clamps to 2ⁿ - 1 with V
telling so, MOVI and MOVH change no flag (Table TW.11). -/
def Obligations.TrowelShiftsAndFields : Prop :=
  (∀ (s : State) (t : TrowelId) (rd ra rb : RegId) (n : BitVec 5), s.executes t = true →
     let x := s.trowels[t]
     let a := x.rd ra
     let k := (x.rd rb).toNat % 32
     let left := fun (j : Nat) => if j = 0 then x.c else a.getLsbD (32 - j)
     let right := fun (j : Nat) => if j = 0 then x.c else a.getLsbD (j - 1)
     GivesResult (.shl t rd ra rb) s t rd (BitVec.ofNat 32 (a.toNat * 2 ^ k)) (left k) x.v ∧
     GivesResult (.shr t rd ra rb) s t rd (BitVec.ofNat 32 (a.toNat / 2 ^ k)) (right k) x.v ∧
     GivesResult (.sar t rd ra rb) s t rd (BitVec.ofInt 32 (a.toInt / 2 ^ k)) (right k) x.v ∧
     GivesResult (.shli t rd ra n) s t rd (BitVec.ofNat 32 (a.toNat * 2 ^ n.toNat)) (left n.toNat) x.v ∧
     GivesResult (.shri t rd ra n) s t rd (BitVec.ofNat 32 (a.toNat / 2 ^ n.toNat)) (right n.toNat) x.v ∧
     GivesResult (.sari t rd ra n) s t rd (BitVec.ofInt 32 (a.toInt / 2 ^ n.toNat)) (right n.toNat) x.v) ∧
  (∀ (s : State) (t : TrowelId) (rd ra : RegId) (p wm1 n : BitVec 5) (i22 : BitVec 22) (i16 : BitVec 16),
     s.executes t = true →
     let x := s.trowels[t]
     let a := x.rd ra
     (∃ r : Word, (∀ k < 32, r.getLsbD k = (decide (k ≤ wm1.toNat) && a.getLsbD (p.toNat + k))) ∧
       GivesResult (.ext t rd ra p wm1) s t rd r x.c x.v) ∧
     (∃ r : Word, (∀ k < 32, r.getLsbD k =
         if p.toNat ≤ k ∧ k ≤ p.toNat + wm1.toNat then a.getLsbD (k - p.toNat) else (x.rd rd).getLsbD k) ∧
       GivesResult (.ins t rd ra p wm1) s t rd r x.c x.v) ∧
     (n ≠ 0 → GivesResult (.satu t rd ra n) s t rd (BitVec.ofNat 32 (min a.toNat (2 ^ n.toNat - 1))) x.c
       (decide (2 ^ n.toNat - 1 < a.toNat))) ∧
     MakesTrowel (.movi t rd i22) s t
       { x with w := x.w.set rd.toNat (BitVec.ofInt 32 i22.toInt) rd.isLt, pc := x.pc + 1 } ∧
     MakesTrowel (.movh t rd i16) s t
       { x with w := x.w.set rd.toNat (BitVec.ofNat 32 (i16.toNat * 65536 + (x.rd rd).toNat % 65536)) rd.isLt
                pc := x.pc + 1 })

/-- Data memory: a load gives the word at bits [10:0] of the sum, with Z and N; a store changes that word and no other
word, register, flag or unit (R136, Table TW.11). Control flow: B, CALL, RET, JR and NOP (R136, Table TW.11). -/
def Obligations.TrowelMemoryAndControl : Prop :=
  (∀ (s : State) (t : TrowelId) (rd ra : RegId) (imm : BitVec 18), s.executes t = true →
     let x := s.trowels[t]
     let adr := BitVec.ofNat 11 ((x.rd ra).toNat + (imm.signExtend 32).toNat)
     (x.dataErr.contains adr = false → GivesResult (.ld t rd ra imm) s t rd (x.loadWord adr) x.c x.v) ∧
     (∃ d : Sparse Word, ∃ e : List (BitVec 11),
       MakesTrowel (.st t rd ra imm) s t { x with dmem := d, dataErr := e, pc := x.pc + 1 } ∧
       (∀ b : BitVec 11, sparseGet (fun _ => 0) d b.toNat = if b = adr then x.rd rd else x.loadWord b) ∧
       (∀ b : BitVec 11, e.contains b = (x.dataErr.contains b && decide (b ≠ adr))))) ∧
  (∀ (s : State) (t : TrowelId) (ra : RegId) (k : Cond) (target : BitVec 12), s.executes t = true →
     let x := s.trowels[t]
     MakesTrowel (.bCond t k target) s t { x with pc := if x.cond k then target else x.pc + 1 } ∧
     (x.rstack.length < 8 ∨ x.cond k = false →
       MakesTrowel (.callCond t k target) s t
         { x with pc := if x.cond k then target else x.pc + 1
                  rstack := if x.cond k then (x.pc + 1) :: x.rstack else x.rstack }) ∧
     (∀ (a : BitVec 12) (r : List (BitVec 12)), x.rstack = a :: r →
       MakesTrowel (.ret t) s t { x with pc := a, rstack := r }) ∧
     MakesTrowel (.jr t ra) s t { x with pc := BitVec.ofNat 12 (x.rd ra).toNat } ∧
     MakesTrowel (.nop t) s t { x with pc := x.pc + 1 })

/-- WAIT and EVT tell an event by its pending bit or level; WAIT takes the lowest-numbered one of its mask and clears a
pulse event's pending bit; ECLR does so without waiting and leaves a level event alone (R127, R135). A waiting trowel
takes the lowest-numbered event of its mask once one is present; the timer and the watchdog: TSET and KICK set them,
TIMER stops the timer, and TIMER and WD_HALF raise their events (R127, R128, R135, R139, R140). -/
def Obligations.TrowelEventsAndWaits : Prop :=
  (∀ (s : State) (t : TrowelId) (rd ra rb : RegId) (n : BitVec 6), s.executes t = true →
     let x := s.trowels[t]
     let inMask := fun (k : Nat) => if k < 32 then (x.rd ra).getLsbD k else (x.rd rb).getLsbD (k - 32)
     let taken := fun (k : Nat) => if (s.level t k).isSome then x.pending else x.pending &&& ~~~ BitVec.ofNat 64 (2 ^ k)
     (∀ k < 64, inMask k = true → s.eventPresent t k = true →
       (∀ j < k, inMask j = true → s.eventPresent t j = false) →
       MakesTrowel (.wait t rd ra rb) s t
         { x with pending := taken k, w := x.w.set rd.toNat (BitVec.ofNat 32 k) rd.isLt, pc := x.pc + 1 }) ∧
     ((∀ k < 64, inMask k = true → s.eventPresent t k = false) →
       MakesTrowel (.wait t rd ra rb) s t { x with status := .waiting rd (x.rd rb ++ x.rd ra) }) ∧
     MakesTrowel (.evt t n) s t { x with z := !s.eventPresent t n.toNat, pc := x.pc + 1 } ∧
     MakesTrowel (.eclr t n) s t { x with pending := taken n.toNat, pc := x.pc + 1 }) ∧
  (∀ (s : State) (t : TrowelId) (ra : RegId), s.trowelsAwake = true →
     let x := s.trowels[t]
     (∀ (rd : RegId) (mask : BitVec 64), x.status = .waiting rd mask → ∀ k < 64, mask.getLsbD k = true →
       s.eventPresent t k = true → (∀ j < k, mask.getLsbD j = true → s.eventPresent t j = false) →
       MakesTrowel (.waitEventPresent t) s t
         { x with pending := if (s.level t k).isSome then x.pending else x.pending &&& ~~~ BitVec.ofNat 64 (2 ^ k)
                  w := x.w.set rd.toNat (BitVec.ofNat 32 k) rd.isLt, pc := x.pc + 1, status := .run }) ∧
     (x.status = .run →
       MakesTrowel (.tset t ra) s t { x with timer := (x.rd ra).toNat, pc := x.pc + 1 } ∧
       MakesTrowel (.kick t) s t { x with wdCount := 0, pc := x.pc + 1 }) ∧
     (x.status ≠ .stopped → s.boot.started = true →
       (x.timer ≠ 0 → MakesTrowel (.timer t) s t
         { x with timer := 0, pending := x.pending ||| 16#64
                  overrun := if x.pending.getLsbD 4 then x.overrun ||| 16#64 else x.overrun }) ∧
       MakesTrowel (.wdHalf t) s t
         { x with pending := x.pending ||| 64#64
                  overrun := if x.pending.getLsbD 6 then x.overrun ||| 64#64 else x.overrun }))

/-- Special registers, mailboxes and LOG: MFS reads and latches, MTS writes what Table TW.12 lets it write, SEND drops a
word that finds eight in the mailbox and tells so in C, RECV takes the oldest word, LOG writes one event (R137, R138).
-/
def Obligations.TrowelSpecialsAndMail : Prop :=
  ∀ (s : State) (t d : TrowelId) (rd ra : RegId) (r : BitVec 4) (code : BitVec 16), s.executes t = true →
    let x := s.trowels[t]
    let v := x.rd ra
    (∃ l : Latches, MakesTrowel (.mfs t rd r) s t
        { x with w := x.w.set rd.toNat (s.special t r) rd.isLt, pc := x.pc + 1, latch := l } ∧
      l.cycleHi = (if r = 7 then BitVec.ofNat 32 (x.cycles / 2 ^ 32) else x.latch.cycleHi) ∧
      l.timeHi = (if r = 9 then BitVec.ofNat 32 (s.time.ns / 2 ^ 32) else x.latch.timeHi) ∧
      l.ntcHi = x.latch.ntcHi ∧ l.frzHi = x.latch.frzHi) ∧
    (r = 0 → MakesTrowel (.mts t ra r) s t
      { x with z := v.getLsbD 0, n := v.getLsbD 1, c := v.getLsbD 2, v := v.getLsbD 3
               refused := x.refused && !v.getLsbD 4, pc := x.pc + 1 }) ∧
    (r = 6 → MakesTrowel (.mts t ra r) s t { x with refCount := 0, pc := x.pc + 1 }) ∧
    ((r = 1 ∨ r = 2 ∨ r = 5 ∨ 7 ≤ r.toNat) → MakesTrowel (.mts t ra r) s t { x with pc := x.pc + 1 }) ∧
    (r = 3 → MakesTrowel (.mts t ra r) s t { x with overrun := x.overrun &&& ~~~ (v.setWidth 64), pc := x.pc + 1 }) ∧
    (r = 4 → MakesTrowel (.mts t ra r) s t { x with overrun := x.overrun &&& ~~~ (v ++ 0#32), pc := x.pc + 1 }) ∧
    (Does (.send t d ra) s fun u =>
      u = { s with trowels := u.trowels } ∧
      let room := decide ((s.trowels[d]).mail.length < 8)
      ∀ o : TrowelId, u.trowels[o] = { s.trowels[o] with
        mail := if o = d ∧ room = true then (s.trowels[o]).mail ++ [v] else (s.trowels[o]).mail
        c := if o = t then room else (s.trowels[o]).c
        pc := if o = t then x.pc + 1 else (s.trowels[o]).pc }) ∧
    (x.mail = [] → MakesTrowel (.recv t rd) s t { x with w := x.w.set rd.toNat 0 rd.isLt, z := true, pc := x.pc + 1 }) ∧
    (∀ (m : Word) (l : List Word), x.mail = m :: l → MakesTrowel (.recv t rd) s t
      { x with w := x.w.set rd.toNat m rd.isLt, z := false, mail := l, pc := x.pc + 1 }) ∧
    (Does (.log t ra code) s fun u => u = { s with trowels := u.trowels, bb := u.bb } ∧
      u.trowels[t] = { x with pc := x.pc + 1 } ∧ (∀ o : TrowelId, o ≠ t → u.trowels[o] = s.trowels[o]) ∧
      u.bb.ring = s.bb.ring ∧ (s.bbWrites = false → u.bb = s.bb) ∧
      (s.bbWrites = true → s.bb.queue.length < 32 →
        u.bb.queue = s.bb.queue ++ [⟨0, BitVec.ofNat 7 (0x20 + t.val), s.bb.lostPending, 0xFF, code, v⟩]))

/-- The happenings of R141 and the actions a trowel fault takes: a watchdog expiry, an illegal word, FAULT, the return
stack, the group faults, SATU with n = 0 and a load of a broken word stop all four trowels, empty the write queues of
entries not yet received, darken the lamps, release the verdict port, pull READY and FAULT_N low and halt the engine.
-/
def Obligations.TrowelFaultsHalt : Prop :=
  ∀ (s : State) (t : TrowelId) (rd ra : RegId) (k : Cond) (target : BitVec 12) (imm : BitVec 18) (code : BitVec 16)
    (w : Word), s.executes t = true →
    let x := s.trowels[t]
    let halts := fun (c : Instr) => Does c s fun u =>
      u.phase = .halted ∧ u.balls.ready = false ∧ u.balls.faultLow = true ∧ u.balls.hbLeft = 0 ∧
      (s.bb.frozen = false → s.pins.pwrOk = true → u.bb.frozen = true ∧ u.bb.freezeCause = 0x02) ∧
      u.light.stage = .rest ∧ u.holdsPort = false ∧ u.sys = s.sys ∧ u.identity = s.identity ∧
      ∀ o : TrowelId, (u.trowels[o]).status = .stopped ∧ (u.trowels[o]).group = none ∧
        (u.trowels[o]).wq = (s.trowels[o]).wq.filter (·.answer.isSome) ∧ (u.trowels[o]).w = (s.trowels[o]).w
    halts (.watchdogExpiry t) ∧ halts (.fault t code) ∧ halts (.satu t rd ra 0) ∧
    (x.codeErr.contains x.pc = true ∨ decodeTrowel t w = none → halts (.illegalInstruction t w)) ∧
    (x.cond k = true → 8 ≤ x.rstack.length → halts (.callCond t k target)) ∧
    (x.rstack = [] → halts (.ret t)) ∧
    (x.group.isSome = true → halts (.grpb t)) ∧
    (x.dataErr.contains (x.dataAddr ra imm) = true → halts (.ld t rd ra imm))

/-! ### Power, reset, boot -/

/-- PWR_OK low and RESET_N low take everything to reset but the always-on domain, the identity and the black-box ring, and
hold the engine until both pins are high; PWR_OK rising gives a power-on boot, RESET_N a warm one (R59, R60, R65, R84).
With PWR_OK low or in a thermal shutdown RESET_N low changes only the pin (R84, R546). The clocks and the always-on domain:
a VDD_AON loss changes nothing outside that domain (R64); a measurement window in an awake state qualifies the slow clock
exactly within 500 ppm of 32.768 kHz, and a sleep request that waits for it is then taken; a missing edge disqualifies it
(R68, R69); a missing XREF while the slow clock is qualified is the fatal fault, which a test state outlasts (R70, R6; log
entry 93). -/
def Obligations.ResetAndFirstBoot : Prop :=
  (∀ s : State,
     let cleared := fun (u : State) =>
       u.balls.ready = false ∧ u.fields = [] ∧ u.shadow = [] ∧ u.frames = [] ∧ u.vs.store = [] ∧
       (∀ t : TrowelId, (u.trowels[t]).status = .stopped) ∧ u.sys.enabled = 0 ∧
       u.bb.ring = s.bb.ring ∧ u.aon.calTemp = s.aon.calTemp ∧ u.aon.slowQualified = s.aon.slowQualified ∧
       u.identity = s.identity
     Does .pwrOkLow s (fun u => u.pins.pwrOk = false ∧ u.phase = .held ∧ u.sys.bootCause = 1 ∧ cleared u) ∧
     (s.pins.pwrOk = true → s.phase ≠ .thermal → Does .resetNLow s fun u =>
       u.pins.resetN = false ∧ u.phase = (if s.xrefStopped then .xrefWait else .held) ∧
       u.sys.bootCause = (if s.phase = .held then s.sys.bootCause else 2) ∧ cleared u) ∧
     (s.pins.pwrOk = false ∨ s.phase = .thermal → Does .resetNLow s fun u =>
       u = { s with pins := { s.pins with resetN := false } }) ∧
     (s.pins.pwrOk = false → s.pins.resetN = true → Does .pwrOkRise s fun u =>
       u.pins.pwrOk = true ∧ u.phase = .booting ∧ u.sys.bootCause = 1 ∧ u.time.ns = 0 ∧ u.bb.frozen = false) ∧
     (s.pins.pwrOk = false → s.pins.resetN = false → Does .pwrOkRise s fun u =>
       u.pins.pwrOk = true ∧ u.phase = .held ∧ u.sys.bootCause = 1) ∧
     (s.pins.pwrOk = true → s.phase = .held → Does .resetNRise s fun u =>
       u.pins.resetN = true ∧ u.phase = .booting ∧ u.time.ns = 0 ∧ u.bb.frozen = false ∧ u.sys = s.sys) ∧
     (s.pins.pwrOk = false ∨ s.phase ≠ .held → Does .resetNRise s fun u =>
       u = { s with pins := { s.pins with resetN := true } }) ∧
     (s.phase = .xrefWait → Does .xrefStable s fun u =>
       u.phase = (if s.pins.pwrOk && s.pins.resetN then .booting else .held) ∧ u.pins = s.pins)) ∧
  (∀ (s : State) (n : Nat),
     Does .vddAonLoss s (fun u => u = { s with aon := u.aon } ∧ u.aon.vddLost = true ∧ u.aon.slowQualified = false ∧
       u.aon.calTemp = none ∧ u.aon.sleepFlag = s.aon.sleepFlag) ∧
     (let within := 32768 * 999500 * n ≤ 1024 * 25000000 * 1000000 ∧ 1024 * 25000000 * 1000000 ≤ 32768 * 1000500 * n
      (s.measuresSlow = true → s.sys.sleepWait = false ∨ s.phase ≠ .running → Does (.slowClockWindowEnd n) s fun u =>
        u = { s with aon := u.aon, time := u.time } ∧ (u.aon.slowQualified = true ↔ within)) ∧
      (s.phase = .running → s.sys.sleepWait = true → within → Does (.slowClockWindowEnd n) s fun u =>
        u.aon.slowQualified = true ∧ u.phase = .sleepEntry ∧ u.balls.ready = false)) ∧
     (s.measuresSlow = true → Does .slowClockEdgeTimeout s fun u =>
       u = { s with aon := u.aon } ∧ u.aon.slowQualified = false) ∧
     (s.measuresSlow = true → s.aon.slowQualified = true → s.phase ≠ .test → Does .xrefLoss s fun u =>
       u.phase = .xrefFatal ∧ u.balls.faultLow = true ∧ u.balls.ready = false ∧ u.light.stage = .rest ∧
       (s.bbWrites = true → u.bb.frozen = true ∧ u.bb.freezeCause = 1) ∧
       (∀ t : TrowelId, (u.trowels[t]).status = .stopped) ∧ (∀ p : PortId, (u.ports[p]).powered = false) ∧
       u.identity = s.identity ∧ u.boot = s.boot) ∧
     (s.phase = .test → s.aon.slowQualified = true → s.time.xrefOff = false → Does .xrefLoss s fun u =>
       u = { s with balls := { s.balls with faultLow := true }, bb := u.bb, time := { s.time with xrefOff := true } } ∧
       (s.bbWrites = true → u.bb.frozen = true ∧ u.bb.freezeCause = 1)))

/-- Boot steps 2 to 11 of Table SR.4, each completing in its step of the boot with the steps before it done. Step 2: each
strap reads as the level that all its readings agree on, and as unstable where they differ (R71 to R74). Step 3: the fuses
loaded, or the engine halted (R82). Steps 3 and 4: the calibration of a converter ends with its temperature held, in any
awake state (R106, R195 to R197). Step 5: the flash header judged, with the read mode of ST0 narrowed as the flash needs
(R86, R87); the recipe taken from the ROM, or the image of the slot of ST1 loaded, or failed with its code (R88, R96). Step
6: the seal check of a sealed and of an unsealed image (R94 to R96). Step 7: the trowels start at the entries of the scene
read from the pins, or a missing mandatory unit fails the image (R17, R91, R98). Steps 8 to 10: the neighbour test, the
discovery and the handshake end in order, and in step 11 READY rises (R80, R103, R148, R179, R427, R447). -/
def Obligations.BootUp : Prop :=
  (∀ (s : State) (readings : List (List Nat)) (c : OtpContent) (x : SfdpReading) (r : Recipe) (flash : List (List Byte))
     (code : Nat) (img sig : List Byte),
     s.phase = .booting →
     let failed := fun (code : Nat) (u : State) => u.sys.failCode = BitVec.ofNat 4 code ∧
       (s.fallsBack = true → u.phase = .booting ∧ u.sys.recipeSrc = 2 ∧
         u.boot.recipe = some (romRecipe s.identity.stepping 0)) ∧
       (s.fallsBack = false → u.phase = .halted ∧ u.balls.ready = false ∧ u.balls.faultLow = true)
     let takes := fun (q : Recipe) (isSealed : Bool) (u : State) => u.phase = .booting ∧ u.boot.sigDone = true ∧
       u.sys.recipeSrc = 0 ∧ u.sys.recipeId = q.id ∧ u.sys.recipeRev = q.rev ∧ u.sys.sealedOk = isSealed
     (s.boot.strapDone = false → Does (.strapSample readings) s fun u =>
       u.boot.strapDone = true ∧ u.phase = .booting ∧ u.sys.straps.length = 20 ∧
       ∀ n < 20, ∀ (v : Nat) (q : List Nat),
         (readings.getD n []).take (if s.identity.stepping = .b0 then 4 else 8) = v :: q →
         ((∀ w ∈ q, min 15 (w / 93750) = min 15 (v / 93750)) →
           u.sys.straps[n]? = some (BitVec.ofNat 4 (min 15 (v / 93750))) ∧ u.sys.unstable.getLsbD n = false) ∧
         ((∃ w ∈ q, min 15 (w / 93750) ≠ min 15 (v / 93750)) →
           u.sys.straps[n]? = some (if n = 19 then 3 else 15) ∧ u.sys.unstable.getLsbD n = true)) ∧
     (s.boot.strapDone = true → s.boot.otpDone = false →
       Does (.otpLoad (some c)) s (fun u => u.boot.otpDone = true ∧ u.phase = .booting ∧
         u.identity.serial = c.serial ∧ u.identity.keyDigest = c.keyDigest ∧ u.identity.variant = s.identity.variant ∧
         u.adcA.calibrating = s.calibrates .a ∧ u.adcB.calibrating = s.calibrates .b) ∧
       Does (.otpLoad none) s fun u => u.phase = .halted ∧ u.balls.ready = false ∧ u.balls.faultLow = true) ∧
     (s.boot.otpDone = true → s.boot.loadDone = false → s.boot.sfdpDone = false → s.romSelected = false →
       (x.signature = true → Does (.sfdpRead x) s fun u =>
         u.boot.sfdpDone = true ∧ u.boot.sfdp = some x ∧ u.phase = .booting ∧ u.sys = s.sys ∧
         u.boot.mode =
           if s.strap 0 ≤ 3 then .single
           else if 6 ≤ s.strap 0 ∧ x.jesd216B = true ∧ x.qeBitReadsZero = false then .quad
           else if x.dual.isSome then .dual else .single) ∧
       (x.signature = false → Does (.sfdpRead x) s (failed 1))) ∧
     (s.boot.otpDone = true → s.boot.loadDone = false → s.romSelected = true → Does (.recipeLoadDone flash) s fun u =>
       u.boot.loadDone = true ∧ u.boot.sigDone = true ∧ u.sys.recipeSrc = 1 ∧ u.sys.sealedOk = false ∧
       u.boot.recipe = some (romRecipe s.identity.stepping s.recipeIndex)) ∧
     (s.boot.otpDone = true → s.boot.loadDone = false → s.romSelected = false → s.boot.sfdpDone = true →
       (∀ ok : Bool, readImage s.sealNeeded (flash.getD s.recipeIndex []) = .ok (img, r, ok) →
         Does (.recipeLoadDone flash) s fun u => u.boot.loadDone = true ∧ u.boot.sigDone = s.boot.sigDone ∧
           u.boot.recipe = some r ∧ u.boot.contentBad = !ok ∧ u.phase = .booting ∧ u.sys = s.sys) ∧
       (readImage s.sealNeeded (flash.getD s.recipeIndex []) = .error code → Does (.recipeLoadDone flash) s (failed code))) ∧
     (s.boot.loadDone = true → s.boot.sigDone = false → s.boot.recipe = some r →
       (r.sealedFlag = false → s.boot.contentBad = false → Does .signatureCheckDone s (takes r false)) ∧
       (r.sealedFlag = false → s.boot.contentBad = true → Does .signatureCheckDone s (failed 10)) ∧
       (r.sealedFlag = true → noKey s.identity.keyDigest = true →
         (s.sealNeeded = true → Does .signatureCheckDone s (failed 7)) ∧
         (s.sealNeeded = false → s.boot.contentBad = false → Does .signatureCheckDone s (takes r false))) ∧
       (r.sealedFlag = true → noKey s.identity.keyDigest = false → s.boot.raw = img ++ sig → sig.length = 104 →
         (∀ e : Unit, checkSeal s.identity.keyDigest img sig = .ok e → s.boot.contentBad = false →
           Does .signatureCheckDone s (takes r true)) ∧
         (checkSeal s.identity.keyDigest img sig = .error code → Does .signatureCheckDone s (failed code))))) ∧
  (∀ (s : State) (c : Conv) (dieTemp : Rat) (l : List CalFactor) (g : Nat),
     s.phase = .booting ∨ s.phase = .running ∨ s.phase = .sleepEntry ∨ s.phase = .test →
     (s.adc c).calibrating = true →
     let ends := fun (u : State) => (u.adc c).calibrating = false ∧ u.aon.calTemp = some dieTemp ∧ u.phase = s.phase ∧
       (u.adc c).refReady = s.getB (Fld.adcRefEn c) 0 ∧ OtherAdcKept s u c
     Does (.selfCalibrationDone c dieTemp l none) s ends ∧
     Does (.selfCalibrationDone c dieTemp l (some g)) s fun u => ends u ∧ (u.adc c).calFailed = true ∧ u.fields = s.fields) ∧
  (∀ (s : State) (scn : BitVec 3) (r : Recipe), s.phase = .booting →
     (s.boot.calDone = true → s.boot.sigDone = true → s.boot.started = false → s.boot.recipe = some r →
       (r.mandatory &&& ~~~ s.enabledWord r = 0 → Does (.trowelStart scn) s fun u =>
         u.boot.started = true ∧ u.phase = .booting ∧ u.sys.enabled = s.enabledWord r ∧ u.sys.scenes = r.scenes ∧
         u.identity = s.identity) ∧
       (r.mandatory &&& ~~~ s.enabledWord r ≠ 0 → Does (.trowelStart scn) s fun u =>
         u.sys.failCode = 9 ∧ u.boot.started = false ∧
         u.phase = if s.fallsBack then .booting else .halted)) ∧
     (s.neighTesting = true → s.bootPin = none → Does .bootNeighbourTestDone s fun u =>
       u.boot.neighDone = true ∧ u.boot.neighLeft = [] ∧ u.phase = .booting ∧ FrameFrame s u ∧ LinkFrame s u ∧
       u.sys = s.sys) ∧
     (s.boot.neighDone = true → s.boot.fabricDone = false → Does .fabricDiscoveryDone s fun u =>
       u.boot.fabricDone = true ∧ u.phase = .booting ∧ LightFrame s u ∧ u.sys = s.sys ∧ u.fields = s.fields) ∧
     (s.boot.fabricDone = true → s.boot.pairDone = false → Does .pairHandshakeEnd s fun u =>
       u.boot.pairDone = true ∧ u.phase = .booting ∧ LightFrame s u ∧ FrameFrame s u ∧ u.sys = s.sys) ∧
     (s.boot.pairDone = true → s.boot.sleepHeld = false → Does .readyRise s fun u =>
       u.phase = .running ∧ u.balls.ready = true ∧ u.fields = s.fields ∧ u.trowels = s.trowels ∧
       LightFrame s u ∧ FrameFrame s u ∧ u.vs = s.vs ∧ u.former = s.former ∧ u.ser = s.ser ∧ u.pair = s.pair) ∧
     (s.boot.pairDone = true → s.boot.sleepHeld = true → s.aon.slowQualified = true → Does .readyRise s fun u =>
       u.phase = .sleepEntry ∧ u.boot.sleepHeld = false))

/-! ### Scenes, sleep, temperature, black box, test access port -/

/-- A captured scene number: the active one, with no change under way, has no effect; an undefined one only writes an
event; any other is requested, with SCENE_DONE cleared and the event SCENE raised in every trowel. The timeout of a
change and its last acknowledgement. SYS.SCENE_DONE takes the bit of the writing trowel alone, and the last one makes
the requested scene active; SYS.SLEEP_GO asks for sleep as SLEEP_REQ does; SYS.SLEEP_ACK takes the trowel's bit, and
with the last one sleep entry goes on (R102, R103, Table TW.4, Table SR.13). -/
def Obligations.ScenesAndSystemWrites : Prop :=
  (∀ (s : State) (n : BitVec 3) (e : SceneEntry), s.phase = .running → s.boot.started = true →
     s.sys.scenes[n.toNat]? = some e →
     (e.defined = true → n ≠ s.sys.sceneActive → Does (.scnLatchRise n) s fun u =>
       u.sys = { s.sys with sceneReq := n, sceneDone := 0, scenePending := true } ∧ EventsOnly s u ∧
       (∀ t : TrowelId, (u.trowels[t]).pending.getLsbD 0 = true) ∧ u.fields = s.fields ∧ u.bb = s.bb ∧ LightFrame s u) ∧
     (n = s.sys.sceneActive → s.sys.scenePending = false → e.defined = true → exec (.scnLatchRise n) s = .next s) ∧
     (s.sys.scenePending = true → s.bb.frozen = false → s.pins.pwrOk = true → s.bb.queue.length < 32 →
       Does .sceneChangeTimeout s fun u => u = { s with bb := u.bb } ∧
         u.bb.queue = s.bb.queue ++ [⟨0, 0, s.bb.lostPending, 0xFF, 0x000A, s.sys.sceneDone.setWidth 32⟩])) ∧
  (∀ (s : State) (t : TrowelId) (v : Word),
     let own : BitVec 4 := BitVec.ofNat 4 (2 ^ t.val)
     let y := s.sys
     s.shadow = [] → v.getLsbD t.val = true →
     (Takes s t Fld.sysSceneDone →
       (y.sceneDone ||| own ≠ 15 → Does (.sceneDoneWrite t v) s fun u =>
         u = { s with sys := { y with sceneDone := y.sceneDone ||| own } }) ∧
       (y.sceneDone ||| own = 15 → Does (.sceneDoneWrite t v) s fun u =>
         u = { s with sys := { y with sceneDone := 0, sceneActive := y.sceneReq, scenePending := false } })) ∧
     (Takes s t Fld.sysSleepGo →
       (v.getLsbD 0 = true → exec (.sleepGoWrite t v) s = exec .sleepReqRise s) ∧
       (v.getLsbD 0 = true → s.phase = .running → s.aon.slowQualified = true → Does (.sleepGoWrite t v) s fun u =>
         u.phase = .sleepEntry ∧ u.balls.ready = false) ∧
       exec (.sleepGoWrite t 0) s = .next s) ∧
     (Takes s t Fld.sysSleepAck → s.phase = .sleepEntry → y.sleepStep = 1 →
       (y.sleepAck ||| own ≠ 15 → Does (.sleepAckWrite t v) s fun u =>
         u = { s with sys := { y with sleepAck := y.sleepAck ||| own } }) ∧
       (y.sleepAck ||| own = 15 → Does (.sleepAckWrite t v) s fun u =>
         2 ≤ u.sys.sleepStep ∧ u.sys.sleepAck = 15 ∧ u.phase = .sleepEntry)))

/-- Sleep entry and wake: a request with the slow clock qualified makes READY fall and raises SLEEP; without it the
request waits, with one event. The grace time's end lets entry go on. Once decode has ended, the engine sleeps with the
receiver armed where the serial line runs; WAKE or a match of its address wakes; the wake ends with READY high and
WAKE raised. -/
def Obligations.SleepAndWake : Prop :=
  ∀ (s : State) (a : Byte) (rate : BitVec 2) (dieTemp : Rat),
    (s.phase = .running → s.aon.slowQualified = true → Does .sleepReqRise s fun u =>
      u.phase = .sleepEntry ∧ u.balls.ready = false ∧ u.identity = s.identity ∧ u.aon = s.aon ∧ u.vs = s.vs ∧
      (s.boot.started = true → ∀ t : TrowelId, (u.trowels[t]).pending.getLsbD 1 = true)) ∧
    (s.phase = .running → s.aon.slowQualified = false → s.sys.sleepWait = false → Does .sleepReqRise s fun u =>
      u = { s with sys := { s.sys with sleepWait := true }, bb := u.bb }) ∧
    (s.phase = .booting ∨ s.phase = .waking → Does .sleepReqRise s fun u =>
      u = { s with boot := { s.boot with sleepHeld := true } }) ∧
    (s.phase = .sleepEntry → s.sys.sleepStep = 1 → Does .sleepGraceExpiry s fun u =>
      2 ≤ u.sys.sleepStep ∧ u.phase = .sleepEntry ∧ u.trowels = s.trowels) ∧
    (s.phase = .sleepEntry → s.sys.sleepStep = 4 → s.aon.wakeHeld = false → s.drained = true →
      Does .sleepDecodeDrained s fun u =>
      u.phase = .asleep ∧ u.aon.sleepFlag = true ∧ (s.balls.ready = false → u.holdsPort = false) ∧
      u.balls.syncOut = false ∧ u.aon.sleepRx.isSome = s.serOn ∧ u.trowels = s.trowels ∧ u.vs = s.vs ∧ u.former = s.former ∧
      u.sys.straps = s.sys.straps ∧ u.sys.enabled = s.sys.enabled) ∧
    (s.drained = false → exec .sleepDecodeDrained s = .next s) ∧
    (s.phase = .asleep → Does .wakeRise s fun u =>
      u.phase = .waking ∧ u.sys.wakeCause = 1 ∧ u.trowels = s.trowels ∧ u.fields = s.fields) ∧
    (s.phase = .sleepEntry → Does .wakeRise s fun u => u = { s with aon := { s.aon with wakeHeld := true } }) ∧
    (s.phase = .asleep → s.aon.sleepRx = some (a, rate) → Does (.sleepAddressMatch a) s fun u =>
      u.phase = .waking ∧ u.sys.wakeCause = 2 ∧ u.trowels = s.trowels ∧ u.fields = s.fields) ∧
    (s.phase = .waking → s.sys.wakeStep = 1 → Does (.wakeXrefStable dieTemp) s fun u =>
      u.amb.est = s.amb.est ∧ (s.amb.running = true → u.amb.stale = true) ∧
      (s.amb.running = true → s.amb.stale = false → s.boot.started = true →
        (u.trowels[(0 : TrowelId)]).pending.getLsbD 30 = true ∧ (u.trowels[(1 : TrowelId)]).pending.getLsbD 30 = true) ∧
      u.sys.wakeStep = 4 ∧ u.phase = .waking ∧ u.aon.sleepRx = none ∧ u.identity = s.identity ∧ u.vs = s.vs) ∧
    (s.phase = .waking → s.sys.wakeStep = 4 → s.boot.sleepHeld = false → Does .wakeResume s fun u =>
      u.balls.ready = true ∨ u.phase = .halted)

/-- The temperature monitor's first sample sets T_d; a later one moves it by 1/64 of the difference; the warning is judged
at 110 °C after 1 s, and below every threshold nothing but the monitor changes. The black box: the oldest queued event
enters the ring with the time of this cycle; FREEZE_N writes the queued events and the freeze event and stops the box;
an event that finds the queue full marks a loss. -/
def Obligations.ThermalAndBlackBox : Prop :=
  (∀ (s : State) (x : Rat), s.phase = .running → s.thermal.warn = false → s.thermal.shutdown = false →
     (s.thermal.td = none → x < 110 → Does (.thermalSample x) s fun u =>
       u = { s with thermal := { s.thermal with td := some x } }) ∧
     (∀ d : Rat, s.thermal.td = some d → d + (x - d) / 64 < 110 → Does (.thermalSample x) s fun u =>
       u = { s with thermal := { s.thermal with td := some (d + (x - d) / 64) } }) ∧
     (s.thermal.td = none → 110 ≤ x → x < 125 → s.thermal.warnFrom + 1000000000 ≤ s.time.ns →
       Does (.thermalSample x) s fun u => u.thermal.warn = true ∧ u.thermal.warnFrom = s.time.ns ∧
         u.phase = .running ∧ u.fields = s.fields ∧ u.trowels = s.trowels)) ∧
  (∀ (s : State) (e : BbEvent) (q : List BbEvent), s.phase = .running → s.pins.pwrOk = true → s.bb.frozen = false →
     s.time.frac < 4294967296 →
     (s.bb.queue = e :: q → s.bb.ring.length < 1024 → Does .bbEventWrite s fun u =>
       u = { s with bb := { s.bb with ring := s.bb.ring ++ [{ e with ns := s.time.ns }], queue := q
                                      written := s.bb.written + 1 } }) ∧
     (s.bb.queue = [] → s.bb.ring.length < 1024 → Does .freezeNFall s fun u =>
       u = { s with bb := u.bb } ∧ u.bb.frozen = true ∧ u.bb.freezeCause = 5 ∧ u.bb.freezeNs = s.time.ns ∧
       u.bb.ring = s.bb.ring ++ [⟨s.time.ns, 1, s.bb.lostPending, 0xFF, 1, 5⟩]) ∧
     (s.bb.queue.length = 32 → (s.bbEvent 0 0 0 0).bb = { s.bb with lostPending := true }))

/-- The test access port: in every state of the engine, an instruction of the test state stops the trowels, blanks the lamps, lowers
READY and silences the verdict port; IDCODE,
BB_READ, SAMPLE and BYPASS load their instruction and leave a running engine alone; what each scan shifts out; the
self-test starts and ends with its result word. -/
def Obligations.TestAccessPort : Prop :=
  ∀ (s : State) (cells dr : List Bool) (a : BitVec 16) (control : BitVec 64) (fail : BitVec 7) (slots : BitVec 15)
    (adr : Word),
    let quiet := fun (i : TapIr) (out : List Bool) (u : State) =>
      u = { s with tap := { s.tap with ir := i, captured := out } }
    let inTest := fun (u : State) => u.phase = .test ∧ u.balls.ready = false ∧ u.light.stage = .rest ∧ u.holdsPort = false ∧
      (∀ t : TrowelId, (u.trowels[t]).status = .stopped) ∧ u.bb = s.bb ∧ u.identity = s.identity
    Does .trstNLow s (fun u => u = { s with tap := { s.tap with ir := .idcode } }) ∧
    Does .idcode s (fun u => quiet .idcode ((List.range 32).map fun i => s.idcode.getLsbD i) u) ∧
    Does .bypass s (quiet .bypass [false]) ∧
    Does (.samplePreload cells dr) s (fun u =>
      u = { s with tap := { s.tap with ir := .samplePreload, captured := cells, boundary := dr } }) ∧
    (s.phase = .halted ∨ s.phase = .running → s.pins.pwrOk = true → Does .bbRead s fun u =>
      u = { s with tap := { s.tap with ir := .bbRead, captured := u.tap.captured } } ∧
      u.tap.captured.length = 32 + 128 * s.bb.ring.length) ∧
    (s.phase ≠ .test →
      Does (.extest cells dr) s (fun u => inTest u ∧ u.tap.boundary = dr ∧ u.tap.captured = cells) ∧
      Does (.extestPulse cells dr) s (fun u => inTest u ∧ u.tap.boundary = dr ∧ u.tap.captured = cells) ∧
      Does (.extestTrain cells dr) s (fun u => inTest u ∧ u.tap.boundary = dr ∧ u.tap.captured = cells) ∧
      Does .highz s (fun u => inTest u ∧ u.tap.captured = [false]) ∧
      Does .clamp s (fun u => inTest u ∧ u.tap.captured = [false]) ∧
      Does (.fieldScan a) s (fun u => inTest u ∧ u.tap.captured.length = 48 ∧ u.tap.ir = .fieldScan) ∧
      (control.getLsbD 0 = true → s.tap.mbistSel = none → Does (.mbist control) s fun u =>
        inTest u ∧ u.tap.mbistSel = some (control.setWidth 8 &&& 0xFE) ∧ u.tap.captured.length = 64)) ∧
    (∀ sel : BitVec 8, s.tap.mbistSel = some sel → sel.getLsbD 7 = false → Does (.mbistDone fail slots adr) s fun u =>
      u = { s with tap := { s.tap with mbistSel := none, mbistResult := u.tap.mbistResult } } ∧
      u.tap.mbistResult.getLsbD 0 = true ∧
      ∀ i < 7, u.tap.mbistResult.getLsbD (i + 1) = (fail.getLsbD i && sel.getLsbD (i + 1)))

/-! ### Field access -/

/-- FLD and FLDX read a field, the address of FLDX being the sum's bits [15:0]; the reply gives the value in effect, with
Z and N, once no earlier write of the trowel to that unit is open; an unassigned address and a field of an absent unit
read 0 (R13, R113, R117, R119). -/
def Obligations.FieldReads : Prop :=
  ∀ (s : State) (t : TrowelId) (rd ra : RegId) (f a : BitVec 16), s.trowelsAwake = true →
    let x := s.trowels[t]
    let g := BitVec.ofNat 16 (f.toNat + (x.rd ra).toNat)
    (x.status = .run → s.accessStalls = false →
      MakesTrowel (.fld t rd f) s t { x with status := .reading rd f } ∧
      MakesTrowel (.fldx t rd ra f) s t { x with status := .reading rd g }) ∧
    (x.status = .run → s.accessStalls = true →
      MakesTrowel (.fld t rd f) s t { x with status := .stalled (.read rd f) } ∧
      MakesTrowel (.fldx t rd ra f) s t { x with status := .stalled (.read rd g) }) ∧
    (x.status = .reading rd a → s.accessStalls = false → (∀ e ∈ x.wq, e.unit ≠ unitOf a.toNat) →
      ∃ (v : Word) (l : Latches),
        MakesTrowel (.fieldReadReply t) s t
          { x with w := x.w.set rd.toNat v rd.isLt, z := decide (v = 0), n := v.msb, pc := x.pc + 1, status := .run
                   latch := l } ∧
        (a.toNat ≠ Fld.vsNtcTsHi → a.toNat ≠ Fld.bbFreezeTsHi → v = s.readField t a.toNat) ∧
        (a.toNat ≠ Fld.vsNtcTsLo → a.toNat ≠ Fld.bbFreezeTsLo → l = x.latch) ∧
        (fieldRow a.toNat = none → v = 0) ∧ l.cycleHi = x.latch.cycleHi ∧ l.timeHi = x.latch.timeHi) ∧
    (x.status = .reading rd a → (∃ e ∈ x.wq, e.unit = unitOf a.toNat) → exec (.fieldReadReply t) s = .next s) ∧
    (absentField s.identity.variant a.toNat = true → s.readField t a.toNat = 0) ∧
    (fieldRow a.toNat = none → s.readField t a.toNat = 0)

/-- FST, FSTX, FSYNC, GRPB and GRPE: a posted write enters the write queue, or the group buffer while a group is open; a
full queue stalls; a group becomes one entry; GRPE with no group has no effect; FSYNC waits for an empty queue (R118,
R119, R123, R124). A write at its unit: refused, it changes nothing but its trowel's refusal state, with the event
REFUSED and a black-box event; to an absent unit it has no effect; to a shadowed field of a running unit it waits; to
a stored field of LOC, WL or TIME it takes effect; one that would widen a strap choice only writes its event (R13, R16, R77,
R114, R115, R122; log entry 20). -/
def Obligations.FieldWrites : Prop :=
  (∀ (s : State) (t : TrowelId) (rs ra : RegId) (f : BitVec 16) (g : List Posted), s.executes t = true →
     s.accessStalls = false →
     let x := s.trowels[t]
     let a := BitVec.ofNat 16 (f.toNat + (x.rd ra).toNat)
     (x.group = none → x.wq.length < 8 →
       MakesTrowel (.fst t rs f) s t { x with wq := x.wq ++ [⟨unitOf f.toNat, [⟨f, x.rd rs⟩], none⟩], pc := x.pc + 1 } ∧
       MakesTrowel (.fstx t rs ra f) s t
         { x with wq := x.wq ++ [⟨unitOf a.toNat, [⟨a, x.rd rs⟩], none⟩], pc := x.pc + 1 }) ∧
     (x.group = none → 8 ≤ x.wq.length →
       MakesTrowel (.fst t rs f) s t { x with status := .stalled (.post ⟨f, x.rd rs⟩) } ∧
       MakesTrowel (.fstx t rs ra f) s t { x with status := .stalled (.post ⟨a, x.rd rs⟩) }) ∧
     (x.group = some g → g.length < 16 →
       (unitOf f.toNat = .outside ∨ (∀ w ∈ g, unitOf w.addr.toNat = .outside ∨ unitOf w.addr.toNat = unitOf f.toNat) →
         MakesTrowel (.fst t rs f) s t { x with group := some (g ++ [⟨f, x.rd rs⟩]), pc := x.pc + 1 }) ∧
       (unitOf a.toNat = .outside ∨ (∀ w ∈ g, unitOf w.addr.toNat = .outside ∨ unitOf w.addr.toNat = unitOf a.toNat) →
         MakesTrowel (.fstx t rs ra f) s t { x with group := some (g ++ [⟨a, x.rd rs⟩]), pc := x.pc + 1 })) ∧
     (x.group = some g → 16 ≤ g.length → Does (.fst t rs f) s fun u => u.phase = .halted ∧ u.balls.faultLow = true) ∧
     (x.wq = [] → MakesTrowel (.fsync t) s t { x with pc := x.pc + 1 }) ∧
     (x.wq ≠ [] → MakesTrowel (.fsync t) s t { x with status := .stalled .fsync }) ∧
     (x.group = none → MakesTrowel (.grpb t) s t { x with group := some [], pc := x.pc + 1 } ∧
       MakesTrowel (.grpe t) s t { x with pc := x.pc + 1 }) ∧
     (x.group = some g → g ≠ [] → x.wq.length < 8 → ∃ n : UnitId,
       MakesTrowel (.grpe t) s t { x with group := none, wq := x.wq ++ [⟨n, g, none⟩], pc := x.pc + 1 } ∧
       ∀ m : UnitId, m ≠ .outside → (∀ w ∈ g, unitOf w.addr.toNat = m ∨ unitOf w.addr.toNat = .outside) →
         (∃ w ∈ g, unitOf w.addr.toNat = m) → n = m)) ∧
  (∀ (s : State) (t : TrowelId) (a : BitVec 16) (v : Word),
     s.trowelsAwake = true → s.boot.started = true →
     (∀ e ∈ (s.trowels[t]).wq, e.unit = unitOf a.toNat → e.answer.isSome = true) →
     let x := s.trowels[t]
     (∀ why : BitVec 3, s.refusal t a.toNat = some why → Does (.fieldWrite t a v) s fun u =>
       u = { s with trowels := u.trowels, bb := u.bb } ∧
       (∀ o : TrowelId, o ≠ t → u.trowels[o] = s.trowels[o]) ∧
       u.trowels[t] = { x with refused := true, refAddr := a, refReason := why, refCount := min 65535 (x.refCount + 1)
                               pending := x.pending ||| 32#64
                               overrun := if x.pending.getLsbD 5 then x.overrun ||| 32#64 else x.overrun } ∧
       (s.bbWrites = true → s.bb.queue.length < 32 → u.bb.queue = s.bb.queue ++
         [⟨0, 2, s.bb.lostPending, BitVec.ofNat 8 t.val, 2, BitVec.ofNat 32 (a.toNat + why.toNat * 65536)⟩])) ∧
     (absentField s.identity.variant a.toNat = true → exec (.fieldWrite t a v) s = .next s) ∧
     (∀ r : FieldRow, Takes s t a.toNat → fieldRow a.toNat = some r → s.widens a.toNat (cutToWidth r v) = none →
       (∀ set : SetId, s.runsAt a.toNat = true → setOf a.toNat = some set → Does (.fieldWrite t a v) s fun u =>
         u = { s with shadow := s.shadow ++ [⟨set, a.toNat, cutToWidth r v, s.unitCycle set⟩] }) ∧
       (s.shadow = [] → s.runsAt a.toNat = false ∨ setOf a.toNat = none →
         unitOf a.toNat = .loc ∨ unitOf a.toNat = .wl ∨ unitOf a.toNat = .time →
         Does (.fieldWrite t a v) s fun u =>
           u = { s with fields := u.fields } ∧ u.getF a.toNat = cutToWidth r v ∧
           ∀ b, b ≠ a.toNat → u.getF b = s.getF b)) ∧
     (∀ (r : FieldRow) (bits : Word), Takes s t a.toNat → fieldRow a.toNat = some r →
       s.widens a.toNat (cutToWidth r v) = some bits → s.bbWrites = true → s.bb.queue.length < 32 →
       Does (.fieldWrite t a v) s fun u => u = { s with bb := u.bb } ∧
         u.bb.queue = s.bb.queue ++ [⟨0, 0, s.bb.lostPending, 0xFF, 3, bits⟩]))

/-- The acceptance reply of a unit frees the trowel's oldest entry for it, brings its refusals, and lets a stalled write
or FSYNC go on; a scrub of the instruction memories leaves every word as it reads (R118, R119, R120, R550). -/
def Obligations.WriteRepliesAndScrub : Prop :=
  ∀ (s : State) (t : TrowelId) (n : UnitId) (e : QEntry) (q : List QEntry), s.trowelsAwake = true → n ≠ .outside →
    let x := s.trowels[t]
    (x.wq = e :: q → e.unit = n →
      (e.answer = some [] → x.status = .run →
        MakesTrowel (.fieldWriteAccepted t n) s t { x with wq := q }) ∧
      (e.answer = some [] → x.status = .stalled .fsync → q = [] → s.accessStalls = false →
        MakesTrowel (.fieldWriteAccepted t n) s t { x with wq := q, status := .run, pc := x.pc + 1 }) ∧
      (∀ w : Posted, e.answer = some [] → x.status = .stalled (.post w) → q.length < 8 → x.group = none →
        s.accessStalls = false → MakesTrowel (.fieldWriteAccepted t n) s t
          { x with wq := q ++ [⟨unitOf w.addr.toNat, [w], none⟩], status := .run, pc := x.pc + 1 }) ∧
      (∀ (a : BitVec 16) (why : BitVec 3), e.answer = some [(a, why)] → x.status = .run → s.boot.started = true →
        Does (.fieldWriteAccepted t n) s fun u =>
          u = { s with trowels := u.trowels, bb := u.bb } ∧ (∀ o : TrowelId, o ≠ t → u.trowels[o] = s.trowels[o]) ∧
          u.trowels[t] = { x with
            wq := q, refused := true, refAddr := a, refReason := why, refCount := min 65535 (x.refCount + 1)
            pending := x.pending ||| 32#64
            overrun := if x.pending.getLsbD 5 then x.overrun ||| 32#64 else x.overrun }) ∧
      (e.answer = none → exec (.fieldWriteAccepted t n) s = .next s)) ∧
    Does .instructionScrub s fun u => u = { s with trowels := u.trowels } ∧
      ∀ o : TrowelId, u.trowels[o] = { s.trowels[o] with codeSoft := [] }

/-! ### The light matrix -/

/-- The writes of LIGHT: ENABLE starts and ends the scan; GRP_FIRE and CRV_GO wait for a boundary while the unit runs and
arm groups and start transitions at once otherwise; BOARD_TEMP restarts the timeout (R115, R150, R167, R170, R171,
R557). -/
def Obligations.LightWrites : Prop :=
  ∀ (s : State) (t : TrowelId) (v : Word),
    (Takes s t Fld.lightEnable → (∀ p ∈ s.shadow, p.addr ≠ Fld.lightEnable) →
      (v.getLsbD 0 = false → s.enabledAt Fld.lightEnable = true → Does (.lightEnableWrite t v) s fun u =>
        u = { s with light := u.light, fields := u.fields, shadow := u.shadow } ∧
        u.enabledAt Fld.lightEnable = false ∧ u.light.stage = .rest ∧ u.light.course = none ∧
        u.light.codes = List.replicate 16 0 ∧ ∀ p ∈ u.shadow, p.isCourse = false) ∧
      (v.getLsbD 0 = true → s.enabledAt Fld.lightEnable = false → s.phase = .running →
        Does (.lightEnableWrite t v) s fun u => u.enabledAt Fld.lightEnable = true ∧ CoreFrame s u ∧ LinkFrame s u ∧
          (u.light.stage = .active ∨ (u.light.stage = .wait ∧ u.getN Fld.lightScanPeriodNs ≠ 0)))) ∧
    (Takes s t Fld.lightGrpFire →
      (s.enabledAt Fld.lightEnable = true → Does (.grpFireWrite t v) s fun u =>
        u = { s with shadow := s.shadow ++ [⟨.own Fld.lightGrpFire, Fld.lightGrpFire, v &&& 0xFF,
          s.unitCycle (.own Fld.lightGrpFire)⟩] }) ∧
      (s.enabledAt Fld.lightEnable = false → Does (.grpFireWrite t v) s fun u =>
        u = { s with light := { s.light with armed := u.light.armed }, fields := u.fields, shadow := u.shadow } ∧
        FieldsKept s u [] ∧
        ∀ (g : GroupId) (l : Nat), l < 8 → (u.light.armed[g]).getLsbD l = ((s.light.armed[g]).getLsbD l ||
          (v.getLsbD g.val && decide (s.getN (Fld.lightGrpMode g.val) = 2) && s.groupOnLine g.val l)))) ∧
    (Takes s t Fld.lightCrvGo →
      (s.enabledAt Fld.lightEnable = true → Does (.crvGoWrite t v) s fun u =>
        u = { s with shadow := s.shadow ++ [⟨.own Fld.lightCrvGo, Fld.lightCrvGo, v &&& 0xFF,
          s.unitCycle (.own Fld.lightCrvGo)⟩] }) ∧
      (s.enabledAt Fld.lightEnable = false → Does (.crvGoWrite t v) s fun u =>
        u = { s with light := { s.light with curves := u.light.curves }, fields := u.fields, shadow := u.shadow } ∧
        FieldsKept s u [] ∧
        ∀ g : GroupId, u.light.curves[g] = if v.getLsbD g.val then
          some ⟨s.getN (Fld.lightCrvLvl g.val), s.getN (Fld.lightCrvTgt g.val),
            max 1 (min 4096 (s.getN (Fld.lightCrvSteps g.val))), 0⟩ else s.light.curves[g])) ∧
    (Takes s t Fld.lightBoardTemp → (∀ p ∈ s.shadow, p.addr ≠ Fld.lightBoardTemp) → Does (.boardTempWrite t v) s fun u =>
      u = { s with light := { s.light with tempFrom := s.time.ns, tempValid := true, tempLost := false, tf := u.light.tf }
                   fields := u.fields, shadow := u.shadow } ∧
      FieldsKept s u [Fld.lightBoardTemp, Fld.lightTempFilt] ∧ u.getF Fld.lightBoardTemp = v &&& 0xFFFF ∧
      u.light.tf = (if s.light.tempValid = false ∨ s.light.tempLost = true
        then (((v.setWidth 16).toInt : Int) : Rat) else s.light.tf))

/-- A course boundary: the next entry's course starts with its line and length, the sets accepted in an earlier LIGHT cycle
applied (R122) and COURSE raised, the entry counted in the table that then applies; after the last entry of a scan under period lock the matrix
waits dark; an instant starts entry 0 or is counted as an overrun (R151 to R155, Table LM.7). -/
def Obligations.LightCourses : Prop :=
  ∀ (s : State) (k : CourseRun), s.enabledAt Fld.lightEnable = true → s.phase = .running →
    let started := fun (e : Nat) (u : State) =>
      u.light.stage = .active ∧ u.shadow = (s.shadow.filter fun p => !(p.isCourse && s.due p)) ∧ Raised s u 0 16 ∧
      (e = 0 → s.boot.started = true → (u.trowels[(0 : TrowelId)]).pending.getLsbD 17 = true) ∧
      ∃ r : CourseRun, u.light.course = some r ∧ r.entry = e ∧ r.line = u.scanLine e ∧
        r.dark = (u.scanDark e || !u.lineOn (u.scanLine e)) ∧
        r.len = max (u.scanNs e) (max 1000 (u.blankNs + 200)) + (if r.slot then 2000 else 0) ∧
        r.blank = u.blankNs + (if r.slot then 2000 else 0)
    let a := s.applyCourseSets
    (s.light.course = some k → s.light.stage ≠ .rest →
      (a.getN Fld.lightScanPeriodNs = 0 ∨ k.entry + 1 < a.scanLen → Does .course s fun u =>
        u = { s with light := u.light, fields := u.fields, shadow := u.shadow, trowels := u.trowels, bb := u.bb
                     pair := u.pair } ∧
        started (if k.entry + 1 < u.scanLen then k.entry + 1 else 0) u) ∧
      (a.getN Fld.lightScanPeriodNs ≠ 0 → a.scanLen ≤ k.entry + 1 → Does .course s fun u =>
        u = { s with light := u.light, fields := a.fields, shadow := a.shadow, pair := u.pair } ∧
        u.light.stage = .wait ∧ u.light.course = none ∧ u.light.codes = List.replicate 16 0)) ∧
    (s.getN Fld.lightScanPeriodNs ≠ 0 → s.light.stage = .wait → Does .scanInstant s fun u =>
      u = { s with light := u.light, fields := u.fields, shadow := u.shadow, trowels := u.trowels, bb := u.bb } ∧
      started 0 u) ∧
    (s.getN Fld.lightScanPeriodNs ≠ 0 → s.light.stage ≠ .wait → s.light.stage ≠ .rest → Does .scanInstant s fun u =>
      u = { s with light := { s.light with overrunSeen := true }, fields := u.fields, bb := u.bb } ∧
      u.getN Fld.lightOverrunCount = min 65535 (s.getN Fld.lightOverrunCount + 1) ∧
      ∀ b, b ≠ Fld.lightOverrunCount → u.getF b = s.getF b)

/-- Pulses and blanking: a scheduled pulse starts and ends on its columns, STROBE_END is raised at its end; at the start
of blanking every pulse that has not ended is clipped and counted and the columns take the discharge code; at the end
of the discharge they go to code 0 (R152, R157, R187). Conversion starts, temperature and LT_EN: a strobe-locked start
within its pulse and the one dark start of a qualifying interval are issued, 30 ns after the start before at the soonest, the
strobe-locked one first where both fall due together (Table LM.5); the millisecond update filters
the board temperature and derates; a loss applies TEMP_LOST_DER; a falling LT_EN darkens every lamp at once, and they
stay dark until a boundary after its rise (R159, R164, R167 to R170, R173, R174). -/
def Obligations.LightPulsesAndStarts : Prop :=
  (∀ (s : State) (g : GroupId) (k : CourseRun),
     (s.light.stage = .active → s.light.pulses[g] = .scheduled → Does (.pulseStart g) s fun u =>
       u = { s with light := u.light } ∧ u.light.pulses = s.light.pulses.set g.val .running ∧
       u.light.codes = u.columnCodes ∧ u.light.course = s.light.course ∧ u.light.stage = .active) ∧
     (s.light.stage = .active → s.light.pulses[g] = .running → Does (.pulseEnd g) s fun u =>
       u = { s with light := u.light, trowels := u.trowels } ∧ Raised s u 0 18 ∧
       u.light.pulses = s.light.pulses.set g.val .ended ∧ u.light.codes = u.columnCodes ∧
       u.light.course = s.light.course) ∧
     (s.light.course = some k → s.light.stage = .active → Does .blankingStart s fun u =>
       u = { s with light := u.light, fields := u.fields, trowels := u.trowels } ∧ EventsOnly s u ∧
       u.light.stage = (if k.disch = 0 then .blank else .discharge) ∧ u.light.course = some k ∧
       u.light.codes = List.replicate 16 (if k.disch = 0 ∨ k.dark = true then 0 else s.getN Fld.lightDischCode) ∧
       (∀ h : GroupId, u.light.pulses[h] = if s.light.pulses[h] = .none then .none else .ended) ∧
       ((∃ h : GroupId, s.light.pulses[h] = .running) → Raised s u 0 18) ∧ (k.slot = true → Raised s u 0 29) ∧
       u.getN Fld.lightClipCount = min 65535 (s.getN Fld.lightClipCount + ((List.finRange 8).filter fun (h : GroupId) =>
         decide (s.light.pulses[h] = .running ∨ s.light.pulses[h] = .scheduled)).length)) ∧
     (s.light.course = some k → s.light.stage = .discharge → Does .dischargeEnd s fun u =>
       u = { s with light := u.light } ∧ u.light.stage = .blank ∧ u.light.codes = List.replicate 16 0 ∧
       u.light.course = some k ∧ u.light.pulses = s.light.pulses)) ∧
  (∀ (s : State) (m : Fin 4),
     (let f := s.getN (Fld.lightSls m.val)
      let at_ := max s.time.ns (s.light.lastIssue + 30)
      ∀ k : CourseRun, s.light.course = some k → f / 8 % 2 = 1 → s.groupPulses k (f % 8) = true →
        f / 16 * 5 < s.pulseSpan k (f % 8) →
        ((∀ x ∈ s.light.issued, x.slot = none → x.due ≠ s.time.ns) → Does (.strobeLockedIssue m) s fun u =>
          u = { s with light := { s.light with
            lastIssue := at_, issued := s.light.issued ++ [⟨some m, s.time.ns, at_⟩] } }) ∧
        (∀ l : List IssuedStart, s.light.issued = l ++ [⟨none, s.time.ns, s.light.lastIssue⟩] →
          (∀ x ∈ l, x.slot = none → x.due ≠ s.time.ns) → Does (.strobeLockedIssue m) s fun u =>
          u = { s with light := { s.light with
            lastIssue := at_
            issued := l ++ [⟨some m, s.time.ns, s.light.lastIssue⟩, ⟨none, s.time.ns, at_⟩] } })) ∧
     (s.light.darkOpen = true → s.light.darkQual = true → s.light.darkIssued = false → Does .darkStartIssue s fun u =>
       u = { s with light := { s.light with
         darkIssued := true, lastIssue := max s.time.ns (s.light.lastIssue + 30)
         issued := s.light.issued ++ [⟨none, s.time.ns, max s.time.ns (s.light.lastIssue + 30)⟩] } }) ∧
     (s.boot.started = true → s.clocked = true → s.light.tempValid = true → s.light.tempLost = false →
       Does .derateUpdate s fun u =>
       u = { s with light := u.light, fields := u.fields, trowels := u.trowels, bb := u.bb } ∧ EventsOnly s u ∧
       (let tf := s.light.tf + ((s.getI Fld.lightBoardTemp 16 : Rat) - s.light.tf) / 1000;
         u.light.tf = tf ∧
         (tf ≤ (s.kneeC : Rat) → u.getN Fld.lightDerate = 256) ∧
         ((s.getI Fld.lightTmaxC 16 : Rat) ≤ tf → (s.kneeC : Rat) < tf → u.getN Fld.lightDerate = 0) ∧
         (u.light.derateFlag ≠ s.light.derateFlag → 250000000 ≤ s.time.ns - s.light.flagFrom)) ∧
       ∀ b, b ≠ Fld.lightTempFilt → b ≠ Fld.lightDerate → u.getF b = s.getF b) ∧
     (s.enabledAt Fld.lightEnable = true → s.clocked = true → s.light.tempLost = false → Does .tempLost s fun u =>
       u = { s with light := u.light, fields := u.fields, trowels := u.trowels, bb := u.bb } ∧ EventsOnly s u ∧
       u.light.tempLost = true ∧ u.light.derateFlag = true ∧
       u.getF Fld.lightDerate = s.getF Fld.lightTempLostDer ∧ ∀ b, b ≠ Fld.lightDerate → u.getF b = s.getF b) ∧
     (s.pins.ltEn = true → Does .ltEnFall s fun u =>
       u = { s with pins := { s.pins with ltEn := false }, light := u.light, trowels := u.trowels, bb := u.bb } ∧
       (∀ c ∈ u.light.codes, c = 0) ∧ u.lampsOpen = false ∧
       (s.boot.started = true → s.clocked = true → Raised s u 0 28)) ∧
     (s.pins.ltEn = false → Does .ltEnRise s fun u =>
       u = { s with pins := { s.pins with ltEn := true }, light := { s.light with relight := true } } ∧
       u.lampsOpen = false))

/-- Lamp faults: a reading is within the thresholds where it lies from 0.80 to 1.25 times the voltage of the column's code
(R146), and fails no lamp; a third reading in a row outside marks the lamp failed, pulls LT_FAULT_N low and raises its event,
and the failed lamp's column goes dark; a column at code 0 that reads above 37.5 mV (code 128, R146) in three courses, 50 ns
after it reached that code, fails alike, the last reading of a course counting once (R176); a bridge of the neighbour test
marks both pins; a sweep starts at column 0 and goes on pin by pin (R175 to R177, R180 to R183). The neighbour-pin
test: a step on the pin that is due, at boot or in the sweep, marks every neighbour above 0.30 V as bridged to the driven one,
with LT_FAULT_N low and NEIGH_SHORT raised; a step that finds none goes on to the next pin; a test-period mark starts a sweep, or with one still
running leaves the starved flag, and the next sweep starts when that one ends (R178 to R183; log entry 43). -/
def Obligations.LightFaultsAndTests : Prop :=
  (∀ (s : State) (g : GroupId) (k : CourseRun) (readings : List Nat) (col : Fin 16) (level pos : Nat),
     let below := fun (code v : Nat) => 10 * (4096 * v) < 8 * (code * 1200000)
     let above := fun (code v : Nat) => 5 * (code * 1200000) < 4 * (4096 * v)
     let width := if s.getN (Fld.lightGrpMode g.val) = 3 then k.len - k.blank
       else min (s.pulseNs g.val) (k.len - k.blank - s.pulseOfs g.val)
     (s.light.course = none → exec (.faultSample g readings) s = .next s) ∧
     (s.light.course = some k → s.faultsEvaluated = false → exec (.faultSample g readings) s = .next s) ∧
     (s.light.course = some k → s.faultsEvaluated = true → s.groupLit g.val = true → k.dark = false → k.line < 8 →
       max 40 (min 1000 (s.getN Fld.lightSenseDlyNs)) + 20 ≤ width →
       Does (.faultSample g readings) s fun u =>
         u = { s with balls := u.balls, fields := u.fields, trowels := u.trowels, bb := u.bb, light := u.light } ∧
         EventsOnly s u ∧
         ∀ (c v : Nat), c < 16 → s.lampGroup (16 * k.line + c) = g.val → s.lampMember (16 * k.line + c) = true →
           64 ≤ (s.light.codes[c]?).getD 0 → readings[c]? = some v →
           let code := (s.light.codes[c]?).getD 0
           let failed := u.lampFailed (16 * k.line + c) = true
           (¬ below code v → ¬ above code v → failed → s.lampFailed (16 * k.line + c) = true) ∧
           (below code v → 2 ≤ sparseGet (fun _ => 0) s.light.opens (16 * k.line + c) →
             failed ∧ u.balls.ltFaultLow = true ∧ (s.boot.started = true → Raised s u 0 19) ∧ u.light.codes[c]? = some 0) ∧
           (above code v → 2 ≤ sparseGet (fun _ => 0) s.light.overs (16 * k.line + c) →
             failed ∧ u.balls.ltFaultLow = true ∧ (s.boot.started = true → Raised s u 0 20) ∧
             u.light.codes[c]? = some 0)) ∧
     (s.light.course = some k → s.faultsEvaluated = true → s.light.stage = .active → k.dark = false → k.line < 8 →
       s.lampFailed (16 * k.line + col.val) = false → s.light.codes[col.val]? = some 0 →
       let n := 16 * k.line + col.val
       let zeros := sparseGet (fun _ => 0) s.light.zeros n
       let count := if s.light.zeroSeen.getLsbD col.val then zeros else zeros + 1
       ((pos : Int) < (s.light.zeroFrom[col.val]?).getD 0 + 50 → exec (.zeroCurrentCheck col level pos) s = .next s) ∧
       ((s.light.zeroFrom[col.val]?).getD 0 + 50 ≤ (pos : Int) →
         (37500 < level → count < 3 → Does (.zeroCurrentCheck col level pos) s fun u =>
           u = { s with light := { s.light with zeros := u.light.zeros, zeroSeen := u.light.zeroSeen } } ∧
           sparseGet (fun _ => 0) u.light.zeros n = count ∧ u.light.zeroSeen.getLsbD col.val = true) ∧
         (37500 < level → 3 ≤ count → Does (.zeroCurrentCheck col level pos) s fun u =>
           u.lampFailed n = true ∧ u.balls.ltFaultLow = true ∧ (s.boot.started = true → Raised s u 0 20) ∧
           CoreFrame s u) ∧
         (level ≤ 37500 → Does (.zeroCurrentCheck col level pos) s fun u =>
           u = { s with light := { s.light with zeros := u.light.zeros } } ∧
           sparseGet (fun _ => 0) u.light.zeros n = 0)))) ∧
  (∀ (s : State) (pin q : Fin 40) (v : Nat),
     let slot := s.sweepSlot = true ∧ s.activeRole = true
     let due := s.light.sweepPin = some pin.val ∧ slot
     (∀ c : Fin 16, slot →
       (s.light.sweep = some (c.val, false) → pin.val = c.val → Does (.neighTestStep pin []) s fun u =>
         u = { s with light := { s.light with sweep := some (c.val, true) } }) ∧
       (s.light.sweep = some (c.val, true) → pin.val = 16 + c.val → c.val < 15 → Does (.neighTestStep pin []) s fun u =>
         u = { s with light := { s.light with sweep := some (c.val + 1, false), slotUsed := true } }) ∧
       (s.light.sweep = some (c.val, true) → pin.val = 16 + c.val → c.val = 15 → Does (.neighTestStep pin []) s fun u =>
         u = { s with light := { s.light with sweep := if s.light.sweepDue then some (0, false) else none
                                              sweepDue := false, slotUsed := true }, trowels := u.trowels } ∧
         Raised s u 0 23)) ∧
     (s.bootPin = some pin.val → ¬ due → Does (.neighTestStep pin []) s fun u =>
       u = { s with boot := { s.boot with neighLeft := s.boot.neighLeft.tail } }) ∧
     (s.bootPin ≠ some pin.val → ¬ due → exec (.neighTestStep pin []) s = .next s) ∧
     (v ≤ 300000 → exec (.neighTestStep pin [(q, v)]) s = exec (.neighTestStep pin []) s) ∧
     (due ∨ s.bootPin = some pin.val → (pinNeighbours pin.val).contains q.val = true → 300000 < v →
       Does (.neighTestStep pin [(q, v)]) s fun u =>
       u = { s with balls := u.balls, fields := u.fields, trowels := u.trowels, bb := u.bb, light := u.light
                    boot := u.boot } ∧
       EventsOnly s u ∧ u.balls.ltFaultLow = true ∧ (s.boot.started = true → Raised s u 0 21) ∧
       ∀ p : Fin 40, p = pin ∨ p = q →
         (if p.val < 32 then u.getB Fld.lightPinFail p.val else u.getB Fld.lightPinFailLn (p.val - 32)) = true) ∧
     (s.enabledAt Fld.lightEnable = true → s.light.stage ≠ .rest →
       (s.light.sweep = none → Does .neighSweepStart s fun u =>
         u = { s with light := { s.light with sweep := some (0, false) } }) ∧
       (s.light.sweep ≠ none → Does .neighSweepStart s fun u =>
         u = { s with light := { s.light with sweepDue := true, starved := true }, bb := u.bb })))

/-! ### The converters and the ambient estimator -/

/-- The enables of a converter: ENABLE lets it start, or abandons its work and its reference, with the accumulators kept;
REF_EN starts the settle time of a reference that is not ready, or takes REF_READY away and makes the running conversion
unreferenced (R191, R192, R219, R220). Accumulator commands: a snapshot copies sum, count, minimum, maximum and flags and clears where bit 4
says so; a clear empties the accumulators of its mask (R211). -/
def Obligations.ConverterWrites : Prop :=
  (∀ (s : State) (t : TrowelId) (c : Conv) (v : Word),
     (Takes s t (Fld.adcEnable c) → (∀ p ∈ s.shadow, p.addr ≠ Fld.adcEnable c) →
       (v.getLsbD 0 = true → s.adcOn c = false → Does (.adcEnableWrite t c v) s fun u =>
         u = { s with adcA := u.adcA, adcB := u.adcB, amb := u.amb, fields := u.fields, shadow := u.shadow
                      trowels := u.trowels } ∧ EventsOnly s u ∧ OtherAdcKept s u c ∧ u.adcOn c = true ∧
         FieldsKept s u [Fld.adcEnable c] ∧
         u.adc c = { s.adc c with
           settling := (s.adc c).settling || (s.getB (Fld.adcRefEn c) 0 && !(s.adc c).refReady) }) ∧
       (v.getLsbD 0 = false → s.adcOn c = true → Does (.adcEnableWrite t c v) s fun u =>
         u = { s with adcA := u.adcA, adcB := u.adcB, amb := u.amb, fields := u.fields, shadow := u.shadow
                      trowels := u.trowels } ∧ EventsOnly s u ∧ OtherAdcKept s u c ∧ u.adcOn c = false ∧
         FieldsKept s u [Fld.adcEnable c] ∧
         u.adc c = { (s.adc c).stopped with
           settling := false, refReady := false, calWaits := false
           calibrating := (s.adc c).calibrating || (s.adc c).calWaits })) ∧
     (Takes s t (Fld.adcRefEn c) →
       (v.getLsbD 0 = true → Does (.refEnWrite t c v) s fun u =>
         u = { s with adcA := u.adcA, adcB := u.adcB, fields := u.fields, shadow := u.shadow } ∧ OtherAdcKept s u c ∧
         FieldsKept s u [Fld.adcRefEn c] ∧ u.adc c = { s.adc c with settling := !(s.adc c).refReady }) ∧
       (v.getLsbD 0 = false → s.getB (Fld.adcRefEn c) 0 = true → Does (.refEnWrite t c v) s fun u =>
         u = { s with adcA := u.adcA, adcB := u.adcB, fields := u.fields, shadow := u.shadow, trowels := u.trowels } ∧
         EventsOnly s u ∧ OtherAdcKept s u c ∧ FieldsKept s u [Fld.adcRefEn c, Fld.adcUnrefCount c] ∧
         u.adc c = { s.adc c with
           settling := false, refReady := false, conv := (s.adc c).conv.map fun k => { k with unref := true } })) ∧
     ((s.adc c).settling = true → s.getB (Fld.adcRefEn c) 0 = true → Does (.refReady c) s fun u =>
       u = { s with adcA := u.adcA, adcB := u.adcB } ∧ OtherAdcKept s u c ∧
       u.adc c = { s.adc c with settling := false, refReady := true })) ∧
  (∀ (s : State) (t : TrowelId) (c : Conv) (v : Word),
     let j : Fin 16 := Fin.ofNat 16 v.toNat
     let a := (s.adc c).acc[j]
     (Takes s t (Fld.adcAccSnap c) → s.shadow = [] → Does (.accSnap t c v) s fun u =>
       u = { s with adcA := u.adcA, adcB := u.adcB, fields := u.fields } ∧ OtherAdcKept s u c ∧
       u.getF (Fld.adcSnapSumLo c) = BitVec.ofInt 32 a.sum ∧ u.getN (Fld.adcSnapSumHi c) = (a.sum / 2 ^ 32 % 256).toNat ∧
       u.getF (Fld.adcSnapCount c) = BitVec.ofNat 32 a.count ∧
       u.getF (Fld.adcSnapMin c) = BitVec.ofNat 32 (a.min % 2 ^ 18).toNat ∧
       u.getF (Fld.adcSnapMax c) = BitVec.ofNat 32 (a.max % 2 ^ 18).toNat ∧
       u.getB (Fld.adcSnapFlags c) 0 = a.sat ∧ u.getB (Fld.adcSnapFlags c) 1 = a.out ∧
       u.getB (Fld.adcSnapFlags c) 2 = decide (a.count = 0) ∧
       FieldsKept s u [Fld.adcSnapSumLo c, Fld.adcSnapSumHi c, Fld.adcSnapCount c, Fld.adcSnapMin c, Fld.adcSnapMax c,
         Fld.adcSnapFlags c] ∧
       u.adc c = { s.adc c with
         acc := if v.getLsbD 4 then (s.adc c).acc.set j.val emptyAccum else (s.adc c).acc }) ∧
     (Takes s t (Fld.adcAccClear c) → Does (.accClear t c v) s fun u =>
       u = { s with adcA := u.adcA, adcB := u.adcB, fields := u.fields, shadow := u.shadow } ∧ OtherAdcKept s u c ∧
       FieldsKept s u [] ∧ u.adc c = { s.adc c with acc := (u.adc c).acc } ∧
       ∀ i : Fin 16, (u.adc c).acc[i] = if v.getLsbD i.val then emptyAccum else (s.adc c).acc[i]))

/-- Calibration and sequences on command: CAL_GO abandons the work of an idle converter and starts, or waits for the
running conversion; SEQ_GO and START are counted as ignored while a calibration or a sequence is under way, wait on a
busy converter, and start the first sequence entry on an idle one (R196, R199, R202, R203). -/
def Obligations.SequencesAndCalibration : Prop :=
  ∀ (s : State) (t : TrowelId) (c : Conv), s.adcTakes c = true ∨ s.calibratesNow c = true →
    let x := s.adc c
    let starts := fun (u : State) =>
      (x.calibrating = true ∨ x.seqRuns = true ∨ x.seqPend = true →
        u = { s with fields := u.fields, shadow := u.shadow, trowels := u.trowels } ∧ Raised s u 1 25 ∧
        FieldsKept s u [Fld.adcStartIgnCount c] ∧
        ((∀ p ∈ s.shadow, p.addr ≠ Fld.adcStartIgnCount c) →
          u.getN (Fld.adcStartIgnCount c) = min 65535 (s.getN (Fld.adcStartIgnCount c) + 1))) ∧
      (x.calibrating = false → x.seqRuns = false → x.seqPend = false →
        u = { s with adcA := u.adcA, adcB := u.adcB, fields := u.fields, shadow := u.shadow, trowels := u.trowels } ∧
        EventsOnly s u ∧ OtherAdcKept s u c ∧
        (x.conv.isSome = true ∨ x.work ≠ [] → u.adc c = { x with seqPend := true }) ∧
        (x.conv = none → x.work = [] →
          (∀ (e : Nat) (r : List Nat), u.sourceEntries c .seq = e :: r →
            u.adc c = { x with conv := some ⟨e, .seq, !x.refReady⟩, work := [⟨.seq, r⟩] }) ∧
          (u.sourceEntries c .seq = [] → u.adc c = x ∧ Raised s u 1 (match c with | .a => 16 | .b => 17))))
    (Takes s t (Fld.adcSeqGo c) → s.shadowWf = true → Does (.seqGo t c 1) s starts) ∧
    (s.pinsAct = true → s.shadowWf = true → Does (.startEdge c) s starts) ∧
    (Takes s t (Fld.adcCalGo c) → x.calibrating = false →
      (x.conv.isSome = true → Does (.calGo t c 1) s fun u =>
        u = { s with adcA := u.adcA, adcB := u.adcB, fields := u.fields, shadow := u.shadow } ∧ OtherAdcKept s u c ∧
        FieldsKept s u [] ∧ u.adc c = { x with calWaits := true }) ∧
      (x.conv = none → Does (.calGo t c 1) s fun u =>
        u = { s with adcA := u.adcA, adcB := u.adcB, fields := u.fields, shadow := u.shadow } ∧ OtherAdcKept s u c ∧
        FieldsKept s u [Fld.adcSeqAbortCount c] ∧
        u.adc c = { x.stopped with calibrating := true, calWaits := false }))

/-- Requests: on an idle converter the first entry of the source converts at once; on a busy one the request waits; a
second request of a source that waits is counted as lost; a calibration counts it as ignored or lost. A strobe-locked
or dark start that LIGHT has issued becomes visible, a strobe-locked one with STROBE_START; without one issued nothing happens
(R159, R164, R196, R201 to R206). The end of a conversion: the next entry of the work in progress converts; an unreferenced one
leaves no result; a referenced one adds its corrected value to the entry's accumulator, which stops at its bounds and on a
standby holds the mirrored state; an urgent one raises URG_DONE (R193, R203, R206 to R210, R222). -/
def Obligations.Conversions : Prop :=
  (∀ (s : State) (m : Fin 4),
     let idle := fun (c : Conv) => (s.adc c).calibrating = false ∧ (s.adc c).conv = none ∧ (s.adc c).work = [] ∧
       (s.adc c).urgPend = false ∧ (s.adc c).strobePend = 0 ∧ (s.adc c).darkPend = false
     let frame := fun (u : State) => EventsOnly s u ∧
       u = { s with adcA := u.adcA, adcB := u.adcB, amb := u.amb, fields := u.fields, shadow := u.shadow
                    trowels := u.trowels, bb := u.bb }
     (∀ c : Conv, s.adcTakes c = true → s.pinsAct = true →
       (s.getB (Fld.adcUrgEntry c) 4 = false ∨ (s.adc c).calibrating = true → Does (.urgEdge c) s fun u =>
         u = { s with fields := u.fields } ∧
         u.getN (Fld.adcUrgIgnCount c) = min 65535 (s.getN (Fld.adcUrgIgnCount c) + 1)) ∧
       (s.getB (Fld.adcUrgEntry c) 4 = true → idle c → Does (.urgEdge c) s fun u => frame u ∧ OtherAdcKept s u c ∧
         u.adc c = { s.adc c with
           conv := some ⟨u.getN (Fld.adcUrgEntry c) % 16, .urgent, !(s.adc c).refReady⟩, work := [⟨.urgent, []⟩] }) ∧
       (s.getB (Fld.adcUrgEntry c) 4 = true → (s.adc c).calibrating = false → (s.adc c).urgPend = true →
         Does (.urgEdge c) s fun u => u = { s with fields := u.fields } ∧
           u.getN (Fld.adcReqLostCount c) = min 65535 (s.getN (Fld.adcReqLostCount c) + 1)) ∧
       (s.getB (Fld.adcUrgEntry c) 4 = true → (s.adc c).calibrating = false → (s.adc c).urgPend = false →
         ∀ k : Conversion, (s.adc c).conv = some k → k.src ≠ .seq → Does (.urgEdge c) s fun u =>
           frame u ∧ OtherAdcKept s u c ∧ u.adc c = { s.adc c with urgPend := true })) ∧
     (let sent := fun (slot : Option (Fin 4)) => s.light.issued.any (s.startDue slot) = true
      let took := fun (slot : Option (Fin 4)) (u : State) => EventsOnly s u ∧
        u = { s with adcA := u.adcA, amb := u.amb, fields := u.fields, shadow := u.shadow, trowels := u.trowels, bb := u.bb
                     light := { s.light with issued := s.light.issued.eraseP (s.startDue slot) } }
      (¬ sent (some m) → exec (.strobeStart m) s = .next s) ∧
      (sent (some m) → s.calibratesNow .a = true → Does (.strobeStart m) s fun u =>
        took (some m) u ∧ u.adcA = s.adcA ∧ (s.boot.started = true → Raised s u 1 32) ∧
        u.getN (Fld.adcReqLostCount .a) = min 65535 (s.getN (Fld.adcReqLostCount .a) + 1)) ∧
      (sent (some m) → s.adcTakes .a = true → idle .a → s.amb.running = false → s.sourceEntries .a (.strobe m) ≠ [] →
        Does (.strobeStart m) s fun u => took (some m) u ∧ (s.boot.started = true → Raised s u 1 32) ∧
          ∀ (e : Nat) (r : List Nat), u.sourceEntries .a (.strobe m) = e :: r →
            u.adcA = { s.adcA with conv := some ⟨e, .strobe m, !s.adcA.refReady⟩, work := [⟨.strobe m, r⟩] }) ∧
      (¬ sent none → exec .darkRequest s = .next s) ∧
      (sent none → s.calibratesNow .a = true → Does .darkRequest s fun u => took none u ∧ u.adcA = s.adcA ∧
        u.getN (Fld.adcReqLostCount .a) = min 65535 (s.getN (Fld.adcReqLostCount .a) + 1)) ∧
      (sent none → s.calibratesNow .a = false → s.sourceEntries .a .dark = [] → Does .darkRequest s fun u =>
        u = { s with light := { s.light with issued := s.light.issued.eraseP (s.startDue none) } }) ∧
      (sent none → s.adcTakes .a = true → idle .a → s.sourceEntries .a .dark ≠ [] → Does .darkRequest s fun u =>
        took none u ∧ ∀ (e : Nat) (r : List Nat), u.sourceEntries .a .dark = e :: r →
          u.amb.burst = [] ∧ u.amb.burstUnref = false ∧
          u.adcA = { s.adcA with conv := some ⟨e, .dark, !s.adcA.refReady⟩, work := [⟨.dark, r⟩] }))) ∧
  (∀ (s : State) (c : Conv) (k : Conversion) (raw e : Nat) (left : List Nat) (r : List Work), s.phase = .running →
     (s.adc c).conv = some k → (s.adc c).calWaits = false → (s.adc c).work = ⟨k.src, e :: left⟩ :: r →
     (s.adc c).pendingAbove k.src.prio = none → Does (.conversionEnd c raw) s fun u =>
       OtherAdcKept s u c ∧ EventsOnly s u ∧ (u.adc c).conv = some ⟨e, k.src, !(s.adc c).refReady⟩ ∧
       (u.adc c).work = ⟨k.src, left⟩ :: r) ∧
  (∀ (s : State) (c : Conv) (k : Conversion) (raw : Nat), s.phase = .running → (s.adc c).conv = some k →
     (s.adc c).calWaits = false → (s.adc c).work = [] → (s.adc c).pendingAbove 5 = none →
     let x := s.adc c
     let j : Fin 16 := Fin.ofNat 16 (s.entryAcc c k.entry)
     let a := x.acc[j]
     let val := s.correct c k.entry raw (s.entrySub c k.entry)
     (k.unref = true → k.src ≠ .dark → Does (.conversionEnd c raw) s fun u =>
       u = { s with adcA := u.adcA, adcB := u.adcB, trowels := u.trowels } ∧ OtherAdcKept s u c ∧ EventsOnly s u ∧
       u.adc c = { x with conv := none } ∧
       (k.src = .urgent → Raised s u 1 (match c with | .a => 18 | .b => 19))) ∧
     (k.unref = true → k.src = .dark → Does (.conversionEnd c raw) s fun u =>
       u = { s with adcA := u.adcA, adcB := u.adcB, amb := { s.amb with burstUnref := true } } ∧ OtherAdcKept s u c ∧
       u.adc c = { x with conv := none }) ∧
     (k.unref = false → s.asStandby = true ∨ a.sat = true → Does (.conversionEnd c raw) s fun u =>
       OtherAdcKept s u c ∧ EventsOnly s u ∧ (u.adc c).conv = none ∧ (u.adc c).acc = x.acc) ∧
     (k.unref = false → s.asStandby = false → a.sat = false → Does (.conversionEnd c raw) s fun u =>
       u = { s with adcA := u.adcA, adcB := u.adcB, amb := u.amb, trowels := u.trowels, bb := u.bb } ∧
       OtherAdcKept s u c ∧ EventsOnly s u ∧ (u.adc c).conv = none ∧ (u.adc c).work = [] ∧
       (∀ i : Fin 16, i ≠ j → (u.adc c).acc[i] = x.acc[i]) ∧
       (a.count + 1 < 2 ^ 24 → -(2 ^ 39) ≤ a.sum + val → a.sum + val ≤ 2 ^ 39 - 1 →
         ((u.adc c).acc[j]).sum = a.sum + val ∧ ((u.adc c).acc[j]).count = a.count + 1 ∧
         ((u.adc c).acc[j]).sat = false ∧
         ((u.adc c).acc[j]).min = (if a.count = 0 then val else min a.min val) ∧
         ((u.adc c).acc[j]).max = (if a.count = 0 then val else max a.max val)) ∧
       (2 ^ 24 ≤ a.count + 1 ∨ a.sum + val < -(2 ^ 39) ∨ 2 ^ 39 - 1 < a.sum + val → (u.adc c).acc[j] = { a with sat := true } ∧
         Raised s u 1 26) ∧
       (c = .b → s.entryInput .b k.entry = 16 → Raised s u 1 34)) ∧
     -131072 ≤ val ∧ val ≤ 131071)

/-! ### Camera ingress -/

/-- A port's receivers: CSI.ENABLE powers them, or closes every open frame as truncated and powers them down; VC_EN closes
the frames of the channels that it disables; the receivers are usable 20 µs after power; lane states, deskew bursts
and bad headers (R226, R229 to R231, Table CI.6). A lane in use is the clock lane or one of the lanes that R225 gives the port; a 1
in its bit of CSI.LANE_POL exchanges its two lines (R225, R228; log entry 108). -/
def Obligations.CameraReceivers : Prop :=
  ∀ (s : State) (t : TrowelId) (p : PortId) (v : Word) (lane : Fin 5) (lines : LaneLines) (sync : Bool),
    let x := s.ports[p]
    let truncated := fun (ids : List Nat) (f : Frame) => if ids.contains f.id then { f with truncated := true } else f
    (Takes s t (Fld.csiEnable p) → (∀ q ∈ s.shadow, q.addr ≠ Fld.csiEnable p) →
      (v.getLsbD 0 = true → s.enabledAt (Fld.csiEnable p) = false → Does (.csiEnableWrite t p v) s fun u =>
        u = { s with ports := u.ports, fields := u.fields, shadow := u.shadow } ∧ OtherPortsKept s u p ∧
        u.enabledAt (Fld.csiEnable p) = true ∧ FieldsKept s u [Fld.csiEnable p, Fld.csiBufHwm p] ∧
        u.ports[p] = { x with powered := true, usable := false, deskewSeen := false, ovfSeen := false }) ∧
      (v.getLsbD 0 = false → s.enabledAt (Fld.csiEnable p) = true → Does (.csiEnableWrite t p v) s fun u =>
        u = { s with ports := u.ports, frames := u.frames, fields := u.fields, shadow := u.shadow } ∧
        OtherPortsKept s u p ∧ u.enabledAt (Fld.csiEnable p) = false ∧
        u.frames = s.frames.map (truncated x.allOpen) ∧
        u.ports[p] = { x with powered := false, usable := false, clkHs := false, ulps := 0, openVc := [], late := []
                              buf := x.buf ++ x.allOpen.map BufItem.close })) ∧
    (Takes s t (Fld.csiVcEn p) → (∀ q ∈ s.shadow, q.addr ≠ Fld.csiVcEn p) → Does (.vcEnWrite t p v) s fun u =>
      let gone := (x.openVc.filter fun e => !v.getLsbD e.1.val).flatMap (·.2)
      u = { s with ports := u.ports, frames := u.frames, fields := u.fields, shadow := u.shadow } ∧ OtherPortsKept s u p ∧
      u.getF (Fld.csiVcEn p) = v &&& 0xFFFF ∧ FieldsKept s u [Fld.csiVcEn p, Fld.csiBufHwm p] ∧
      u.frames = s.frames.map (truncated gone) ∧
      u.ports[p] = { x with openVc := x.openVc.filter fun e => v.getLsbD e.1.val
                            buf := x.buf ++ gone.map BufItem.close }) ∧
    Does (.csiReceiverReady p) s (fun u => u = { s with ports := u.ports } ∧ OtherPortsKept s u p ∧
      u.ports[p] = { x with usable := x.powered }) ∧
    (let used := lane = 4 ∨ lane.val < min (s.strapLanes p) (s.getN (Fld.csiLanes p))
     let seen : LaneLines := if s.getB (Fld.csiLanePol p) lane.val then
         (match lines with | .stop => .stop | .lp01 => .lp10 false | .lp10 _ => .lp01) else lines
     (x.powered = true → used → Does (.clockLaneStateChange p lane lines) s fun u =>
       u = { s with ports := u.ports } ∧ OtherPortsKept s u p ∧
       u.ports[p] = { x with
         clkHs := if lane = 4 then decide (seen = .lp01) else x.clkHs
         ulps := if seen = .lp10 true ∨ (lane = 4 ∧ seen = .lp10 false) then x.ulps ||| BitVec.ofNat 5 (2 ^ lane.val)
           else x.ulps &&& ~~~ BitVec.ofNat 5 (2 ^ lane.val) }) ∧
     (x.powered = false ∨ ¬ used → exec (.clockLaneStateChange p lane lines) s = .next s)) ∧
    (x.powered = true → Does (.deskewBurst p) s fun u => u = { s with ports := u.ports, fields := u.fields } ∧
      OtherPortsKept s u p ∧ u.ports[p] = { x with deskewSeen := true } ∧ Counted s u (Fld.csiDeskewCount p) []) ∧
    (x.powered = true → Does (.headerUncorrectable p sync) s fun u =>
      u = { s with frames := u.frames, fields := u.fields } ∧
      u.frames = s.frames.map (fun f => if x.allOpen.contains f.id then { f with damaged := true } else f) ∧
      Counted s u (if sync then Fld.csiSotErrCount p else Fld.csiHdrUncorrCount p) [])

/-- Frame Start and Frame End: a Frame Start on an enabled, usable channel opens one frame in each context bound to it and
counts; a further one closes the open frames as truncated; a Frame End closes them; packets on a disabled channel,
before the receivers are usable, or without an open frame are counted and have no other effect; a header corrected by its ECC
is counted first (R229, R231, R234, Table CI.6). -/
def Obligations.FrameStartsAndEnds : Prop :=
  ∀ (s : State) (p : PortId) (vc : Fin 16) (num : BitVec 16),
    let x := s.ports[p]
    let on := x.powered = true ∧ (s.getF (Fld.csiVcEn p)).getLsbD vc.val = true
    (x.powered = true →
      exec (.frameStartPacket p vc num true) s = exec (.frameStartPacket p vc num false) (s.count16 (Fld.csiHdrCorrCount p)) ∧
      exec (.frameEndPacket p vc true) s = exec (.frameEndPacket p vc false) (s.count16 (Fld.csiHdrCorrCount p))) ∧
    (x.powered = true → (s.getF (Fld.csiVcEn p)).getLsbD vc.val = false →
      Does (.frameStartPacket p vc num false) s (fun u => u = { s with fields := u.fields } ∧
        Counted s u (Fld.csiVcIgnCount p) []) ∧
      Does (.frameEndPacket p vc false) s (fun u => u = { s with fields := u.fields } ∧
        Counted s u (Fld.csiVcIgnCount p) [])) ∧
    (on → x.usable = false → Does (.frameStartPacket p vc num false) s fun u => u = { s with fields := u.fields } ∧
      Counted s u (Fld.csiOrphanCount p) []) ∧
    (on → x.usable = true → x.openOn vc = none → Does (.frameStartPacket p vc num false) s fun u =>
      let opened := s.newFrames p vc num (s.takers p vc) s.nextFrame
      u = { s with ports := u.ports, frames := u.frames, nextFrame := u.nextFrame, fields := u.fields } ∧
      OtherPortsKept s u p ∧ u.frames = s.frames ++ opened ∧ u.nextFrame = s.nextFrame + opened.length ∧
      opened.length = (s.takers p vc).length ∧
      (∀ f ∈ opened, f.ctx ∈ s.takers p vc ∧ f.port = p ∧ f.vc = vc ∧ f.num = num ∧ f.fidx = none ∧
        f.damaged = false ∧ f.truncated = false ∧ f.overloaded = false ∧ f.closed = false) ∧
      (u.ports[p]).openVc = x.openVc ++ [(vc, opened.map (·.id))] ∧
      u.getF (Fld.csiFrameCount p) = s.getF (Fld.csiFrameCount p) + 1 ∧
      ∀ b, b ≠ Fld.csiFrameCount p → b ≠ Fld.csiBufHwm p → u.getF b = s.getF b) ∧
    (∀ ids : List Nat, on → x.usable = true → x.openOn vc = some ids → Does (.frameStartPacket p vc num false) s fun u =>
      u = { s with ports := u.ports, frames := u.frames, nextFrame := u.nextFrame, fields := u.fields } ∧
      OtherPortsKept s u p ∧ u.getN (Fld.csiMissingFeCount p) = min 65535 (s.getN (Fld.csiMissingFeCount p) + 1) ∧
      ∃ opened : List Frame, opened.length = (s.takers p vc).length ∧ u.frames =
        s.frames.map (fun f => if ids.contains f.id then { f with truncated := true } else f) ++ opened) ∧
    (∀ ids : List Nat, on → x.openOn vc = some ids → ids ≠ [] → Does (.frameEndPacket p vc false) s fun u =>
      u = { s with ports := u.ports, fields := u.fields } ∧ OtherPortsKept s u p ∧
      u.ports[p] = { x with openVc := x.openVc.filter fun e => e.1 != vc, buf := x.buf ++ [.fe ids] } ∧
      ∀ b, b ≠ Fld.csiBufHwm p → u.getF b = s.getF b) ∧
    (on → x.openOn vc = none → x.late.contains vc = true → Does (.frameEndPacket p vc false) s fun u =>
      u = { s with ports := u.ports, fields := u.fields } ∧ OtherPortsKept s u p ∧
      u.ports[p] = { x with late := x.late.filter (· != vc) } ∧ Counted s u (Fld.csiLateFeCount p) []) ∧
    (on → x.openOn vc = none → x.late.contains vc = false → Does (.frameEndPacket p vc false) s fun u =>
      u = { s with fields := u.fields } ∧ Counted s u (Fld.csiOrphanCount p) [])

/-- Long packets: a line of an open frame enters the elastic buffer behind what is there; one that does not fit overloads
its frame; a short packet damages it; a type that nothing binds is ignored, a packet of no open frame is an orphan,
each with its count. Embedded data is captured, the first 256 bytes of it (R232 to R234, R237 to R239, Table CI.6).
A frame whose payload fails its CRC, or has a line of another length, is damaged and counted (R233). The frame index: the oldest
Frame Start descriptor of a port gives its frame its timestamp, corrected for the way it has taken at the lane rate (R27, R35;
log entry 109), and the context's next index (mode 0), shows it in CTX.FIDX and makes the store's entry PENDING for it, lapping a
decision of the same cycle (R333); a frame that has passed its timeout, 10 µs at the least, closes as truncated and leaves its
channel, and none does earlier (R236, R241, R244, R315). -/
def Obligations.PacketsAndIndices : Prop :=
  (∀ (s : State) (p : PortId) (x : LongPacket), x.corrected = false → (s.ports[p]).powered = true →
     (s.ports[p]).usable = true → (s.getF (Fld.csiVcEn p)).getLsbD x.vc.val = true →
     let y := s.ports[p]
     let open_ := ((y.openOn x.vc).getD []).filterMap s.frame?
     let ofFrame := fun (id : Nat) (u : State) (g : Frame → Frame) =>
       u.frames = s.frames.map fun f => if f.id = id then g f else f
     (pixelType x.dt = none ∨ s.typeBound p x.vc x.dt = false → Does (.pixelPacket p x) s fun u =>
       u = { s with fields := u.fields } ∧ Counted s u (Fld.csiDtIgnCount p) []) ∧
     (∀ w, pixelType x.dt = some w → s.typeBound p x.vc x.dt = true →
       ((∀ f ∈ open_, f.dt ≠ x.dt) → Does (.pixelPacket p x) s fun u =>
         u = { s with fields := u.fields } ∧ Counted s u (Fld.csiOrphanCount p) []) ∧
       ∀ f : Frame, open_.find? (fun f => f.dt == x.dt) = some f →
         (f.dropping = true → x.short = false → x.crcBad = false → exec (.pixelPacket p x) s = .next s) ∧ (f.dropping = false →
         (x.short = true → Does (.pixelPacket p x) s fun u => u = { s with frames := u.frames, fields := u.fields } ∧
           Counted s u (Fld.csiShortPktCount p) [] ∧ ofFrame f.id u fun f => { f with damaged := true }) ∧
         (x.short = false → x.crcBad = false → y.fits x.payload.length = false → Does (.pixelPacket p x) s fun u =>
           u = { s with frames := u.frames, fields := u.fields, ports := u.ports } ∧ OtherPortsKept s u p ∧
           u.ports[p] = { y with ovfSeen := true } ∧ Counted s u (Fld.csiOvfCount p) [] ∧
           ofFrame f.id u fun f => { f with overloaded := true, truncated := true, dropping := true }) ∧
         (x.short = false → x.crcBad = true → exec (.pixelPacket p x) s = exec (.pixelPacket p { x with crcBad := false })
           ((s.count16 (Fld.csiCrcErrCount p x.vc.val)).markDamaged [f.id])) ∧
         (x.short = false → x.crcBad = false → y.fits x.payload.length = true → f.lines < 8192 →
           (x.payload.length % w.1 ≠ 0 ∨ w.2.2 < x.payload.length ∨
             ∃ n : Nat, f.width = some n ∧ pixelCount w.1 w.2.1 x.payload.length ≠ n) →
           Does (.pixelPacket p x) s fun u =>
             u = { s with frames := u.frames, fields := u.fields, ports := u.ports } ∧ OtherPortsKept s u p ∧
             u.ports[p] = { y with buf := y.buf ++ [.line f.id x.payload 0] } ∧
             u.getN (Fld.csiFormatErrCount p) = min 65535 (s.getN (Fld.csiFormatErrCount p) + 1) ∧
             ofFrame f.id u fun g => { g with damaged := true, lines := g.lines + 1
                                              width := some (g.width.getD (pixelCount w.1 w.2.1 x.payload.length)) }) ∧
         (x.short = false → x.crcBad = false → y.fits x.payload.length = true → f.lines < 8192 → f.width = none →
           x.payload.length % w.1 = 0 → x.payload.length ≤ w.2.2 → Does (.pixelPacket p x) s fun u =>
             u = { s with frames := u.frames, fields := u.fields, ports := u.ports } ∧ OtherPortsKept s u p ∧
             u.ports[p] = { y with buf := y.buf ++ [.line f.id x.payload 0] } ∧
             (∀ b, b ≠ Fld.csiBufHwm p → u.getF b = s.getF b) ∧
             ofFrame f.id u fun g =>
               { g with lines := g.lines + 1, width := some (g.width.getD (pixelCount w.1 w.2.1 x.payload.length)) }))) ∧
     (y.openOn x.vc = none → Does (.embeddedPacket p x) s fun u =>
       u = { s with fields := u.fields } ∧ Counted s u (Fld.csiOrphanCount p) []) ∧
     (∀ all : List Nat, y.openOn x.vc = some all → (∀ i ∈ all, ∀ f : Frame, s.frame? i = some f → f.embOn = false) →
       Does (.embeddedPacket p x) s fun u => u = { s with fields := u.fields } ∧ Counted s u (Fld.csiDtIgnCount p) []) ∧
     (∀ id : Nat, y.openOn x.vc = some [id] → ∀ f : Frame, s.frame? id = some f → f.embOn = true →
       f.dropping = false → x.short = false → x.crcBad = false → y.fits x.payload.length = true →
       Does (.embeddedPacket p x) s fun u =>
         u = { s with frames := u.frames, fields := u.fields, ports := u.ports } ∧ OtherPortsKept s u p ∧
         u.ports[p] = { y with buf := y.buf ++ [.emb x.payload.length] } ∧
         (∀ b, b ≠ Fld.csiBufHwm p → u.getF b = s.getF b) ∧
         ofFrame id u fun f => { f with
           emb := (f.emb ++ x.payload).take 256, embOvf := f.embOvf || decide (256 < (f.emb ++ x.payload).length) })) ∧
  (∀ (s : State) (p : PortId) (x : LongPacket), (s.ports[p]).powered = true → x.corrected = true →
     let counted := s.count16 (Fld.csiHdrCorrCount p)
     exec (.pixelPacket p x) s = exec (.pixelPacket p { x with corrected := false }) counted ∧
     exec (.embeddedPacket p x) s = exec (.embeddedPacket p { x with corrected := false }) counted) ∧
  (∀ (s : State) (p : PortId) (mbps id : Nat) (r : List (List Nat)) (f : Frame) (k : CtxId),
     ((s.ports[p]).descs = [id] :: r → s.frame? id = some f → s.getB (Fld.ctxFidxMode f.ctx) 0 = false →
       let i : Word := if (s.ctxs[f.ctx]).indexed then (s.ctxs[f.ctx]).fidx + 1 else 0
       let ts := (4 * mbps * (s.time.ns * 2 ^ 32 + s.time.frac) - (208000 + 25 * mbps) * 2 ^ 32) / (4 * mbps * 2 ^ 32)
       let laps := s.vs.lastDecision.any fun d => d.1 == queryAddr f.ctx i && d.2.2 == s.time.core
       Does (.frameDescriptorInCore p mbps) s fun u =>
         u = { s with ports := u.ports, frames := u.frames, ctxs := u.ctxs, fields := u.fields, vs := u.vs, bb := u.bb } ∧
         OtherPortsKept s u p ∧ u.ports[p] = { s.ports[p] with descs := r } ∧
         u.frames = s.frames.map (fun g => if g.id = id then { g with ts := ts, fidx := some i } else g) ∧
         (u.ctxs[f.ctx]).fidx = i ∧ (u.ctxs[f.ctx]).indexed = true ∧ (∀ j : CtxId, j ≠ f.ctx → u.ctxs[j] = s.ctxs[j]) ∧
         u.getF (Fld.ctxFidx f.ctx) = i ∧ u.storeAt (queryAddr f.ctx i) = pendingWord i ∧
         (∀ a : BitVec 14, a ≠ queryAddr f.ctx i → u.storeAt a = s.storeAt a) ∧
         u.getN Fld.vsLappedCount = (if laps then min 65535 (s.getN Fld.vsLappedCount + 1) else s.getN Fld.vsLappedCount) ∧
         (laps = false → u.bb = s.bb)) ∧
     ((s.ports[p]).descs = [] → exec (.frameDescriptorInCore p mbps) s = .next s) ∧
     (s.openFrameOf k = some f → f.fidx.isSome = true → f.ts + 1000 * max 10 (s.getN (Fld.ctxFeTmoUs k)) ≤ s.time.ns →
       Does (.frameEndTimeout k) s fun u =>
       u = { s with ports := u.ports, frames := u.frames, fields := u.fields } ∧ OtherPortsKept s u f.port ∧
       u.frames = s.frames.map (fun g => if g.id = f.id then { g with truncated := true } else g) ∧
       (u.ports[f.port]).buf = (s.ports[f.port]).buf ++ [.close f.id] ∧
       ((s.ports[f.port]).openOn f.vc = some [f.id] → (u.ports[f.port]).openOn f.vc = none ∧
         f.vc ∈ (u.ports[f.port]).late)) ∧
     (s.openFrameOf k = some f → f.fidx = none ∨ s.time.ns < f.ts + 1000 * max 10 (s.getN (Fld.ctxFeTmoUs k)) →
       exec (.frameEndTimeout k) s = .next s) ∧
     (s.openFrameOf k = none → exec (.frameEndTimeout k) s = .next s))

/-! ### Pixel pipeline and decode cluster -/

/-- The enables of the contexts, the locator and the decode cluster: a context that stops closes its open frame as
truncated with its FE event, or marks one whose start has not reached the pipeline; a decode cluster that stops fails what it holds (R268, R309). The pipeline's slices: the port whose turn it is, round-robin
over those that have one to give, gives the next slice, and no other port does (R264; log entry 52); a
Frame Start marker applies its context's set, accepted in an earlier PIPE cycle (R122), and raises FS; up to 64 pixels of a line go on; the last slice of
a line counts it; a close raises FE and shows the frame's size; embedded data only leaves the buffer (R245, R262,
R264, R267, Table TW.8). -/
def Obligations.PipelineEnablesAndSlices : Prop :=
  (∀ (s : State) (t : TrowelId) (k : CtxId) (v : Word) (f : Frame),
     (Takes s t (Fld.ctxEnable k) → (∀ p ∈ s.shadow, p.addr ≠ Fld.ctxEnable k) →
       (v.getLsbD 0 = true → Does (.ctxEnableWrite t k v) s fun u =>
         u = { s with fields := u.fields, shadow := u.shadow, bb := u.bb } ∧ FieldsKept s u [Fld.ctxEnable k] ∧
         u.enabledAt (Fld.ctxEnable k) = true) ∧
       (v.getLsbD 0 = false → (∀ g ∈ s.frames, g.ctx = k → g.closed = true) → Does (.ctxEnableWrite t k v) s fun u =>
         u = { s with fields := u.fields, shadow := u.shadow } ∧ FieldsKept s u [Fld.ctxEnable k] ∧
         u.enabledAt (Fld.ctxEnable k) = false) ∧
       (v.getLsbD 0 = false → s.frames = [f] → f.ctx = k → f.closed = false → f.started = false →
         Does (.ctxEnableWrite t k v) s fun u =>
           u = { s with fields := u.fields, shadow := u.shadow, frames := u.frames, ports := u.ports } ∧
           u.enabledAt (Fld.ctxEnable k) = false ∧ u.frames = [{ f with truncated := true, dropping := true }]) ∧
       (v.getLsbD 0 = false → s.frames = [f] → f.ctx = k → f.closed = false → f.started = true →
         Does (.ctxEnableWrite t k v) s fun u =>
         Raised s u 2 (24 + k.val) ∧ u.enabledAt (Fld.ctxEnable k) = false ∧ CoreFrame s u ∧ LightFrame s u ∧
         (∀ g ∈ u.frames, g.closed = true ∧ g.truncated = true ∧ g.id = f.id) ∧
         (u.ports[f.port]).openVc = (s.ports[f.port]).openVc.map fun e => (e.1, e.2.filter (· != f.id)))) ∧
     (Takes s t Fld.locEnable → (∀ p ∈ s.shadow, p.addr ≠ Fld.locEnable) → Does (.locEnableWrite t v) s fun u =>
       u = { s with fields := u.fields, shadow := u.shadow } ∧ FieldsKept s u [Fld.locEnable] ∧
       u.getF Fld.locEnable = v &&& 1) ∧
     (Takes s t Fld.decEnable → (∀ p ∈ s.shadow, p.addr ≠ Fld.decEnable) →
       (v.getLsbD 0 = true → Does (.decEnableWrite t v) s fun u =>
         u = { s with fields := u.fields, shadow := u.shadow } ∧ FieldsKept s u [Fld.decEnable] ∧
         u.enabledAt Fld.decEnable = true) ∧
       (v.getLsbD 0 = false → s.enabledAt Fld.decEnable = true → Does (.decEnableWrite t v) s fun u =>
         u = { s with fields := u.fields, shadow := u.shadow, frames := u.frames, dec := u.dec } ∧
         u.enabledAt Fld.decEnable = false ∧ u.dec.ready = [] ∧ u.dec.jxIn = [] ∧ u.dec.jxWait = [] ∧
         u.dec.jxFrame = [] ∧ (∀ (i : Fin 16) (c : Candidate), u.dec.cores[i] ≠ .busy c) ∧
         u.dec.notices = s.dec.notices ∧ u.dec.retired = s.dec.retired))) ∧
  (∀ (s : State) (p : PortId) (id : Nat) (f : Frame) (r : List BufItem) (b : List Byte) (taken n : Nat),
     let y := s.ports[p]
     let px := unpackLine f.dt (f.width.getD 0) b
     (y.buf = [] → exec (.pipelineSlice p) s = .next s) ∧
     (s.nextPort ≠ some p → exec (.pipelineSlice p) s = .next s) ∧ (s.nextPort = some p →
     (y.buf = .emb n :: r → Does (.pipelineSlice p) s fun u => u = { s with ports := u.ports, pipe := u.pipe } ∧
       OtherPortsKept s u p ∧ u.ports[p] = { y with buf := r } ∧ u.pipe.turn = p + 1) ∧
     (y.buf = .fs [id] :: r → s.frame? id = some f → f.closed = false → f.started = false →
       (f.dropping = false ∨ f.overloaded = true) → Does (.pipelineSlice p) s fun u =>
       u = { s with ports := u.ports, frames := u.frames, ctxs := u.ctxs, fields := u.fields, shadow := u.shadow
                    trowels := u.trowels, bb := u.bb, pipe := u.pipe } ∧ u.pipe.turn = p + 1 ∧
       OtherPortsKept s u p ∧ u.ports[p] = { y with buf := r } ∧ FieldsKept s u [] ∧
       Raised s u 2 (16 + f.ctx.val) ∧ Raised s u 0 (32 + f.ctx.val) ∧
       u.shadow = s.shadow.filter (fun q => !(q.set == .ctx f.ctx && s.due q)) ∧ (u.frame? id).map (·.started) = some true) ∧
     (y.buf = .fe [id] :: r → s.frame? id = some f → f.closed = false → Does (.pipelineSlice p) s fun u =>
       CoreFrame s u ∧ LightFrame s u ∧ u.ports = s.ports.set p.val { y with buf := r } p.isLt ∧
       (u.frame? id).map (·.closed) = some true ∧ Raised s u 2 (24 + f.ctx.val) ∧
       u.getF (Fld.ctxFrameW f.ctx) = BitVec.ofNat 32 (f.width.getD 0) ∧
       u.getF (Fld.ctxFrameH f.ctx) = BitVec.ofNat 32 f.y ∧
       (f.damaged = true → Raised s u 2 34 ∧
         u.getN (Fld.ctxDamagedCount f.ctx) = min 65535 (s.getN (Fld.ctxDamagedCount f.ctx) + 1)) ∧
       (f.truncated = true → Raised s u 2 35) ∧ (f.overloaded = true → Raised s u 2 36)) ∧
     (y.buf = .line id b taken :: r → s.frame? id = some f → f.closed = false → f.fidx.isSome = true →
       (taken + 64 < px.length → Does (.pipelineSlice p) s fun u =>
         u = { s with ports := u.ports, fields := u.fields, pipe := u.pipe } ∧ u.pipe.turn = p + 1 ∧ OtherPortsKept s u p ∧ u.ports[p] = { y with buf := .line id b (taken + 64) :: r } ∧
         u.getF (Fld.ctxPixCount f.ctx) = s.getF (Fld.ctxPixCount f.ctx) + 64 ∧
         ∀ a, a ≠ Fld.ctxPixCount f.ctx → u.getF a = s.getF a) ∧
       (px.length ≤ taken + 64 → taken ≤ px.length → Does (.pipelineSlice p) s fun u =>
         CoreFrame s u ∧ LightFrame s u ∧ u.ports = s.ports.set p.val { y with buf := r } p.isLt ∧
         (u.frame? id).map (·.y) = some (f.y + 1) ∧ u.getF (Fld.ctxPixCount f.ctx) =
           s.getF (Fld.ctxPixCount f.ctx) + BitVec.ofNat 32 (px.length - taken)))) ∧
     (y.buf = .line id b taken :: r → s.frame? id = some f → f.closed = false → f.fidx = none →
       exec (.pipelineSlice p) s = .next s))

/-- Candidates: a Frame Start notice applies the decode set and admits the frame's candidates; one of a symbology and polarity
searched, with its signature, its tile rows and Table LD.2's limits, counts as it arrives, is merged into an earlier one that it
overlaps by more than half, is dropped beyond LOC.CAND_MAX, queues behind busy cores or takes a free one; outside those limits
whether it is formed is free (R277, R278, R284, R287, R309; log entries 114, 116). Cores and results: what a core's reads of the
store find takes effect first (R282, R283); a core whose candidate resolves holds its result and counts it, or, where the candidate fails or its time runs out,
counts the failure and is free; a result that reaches CORE is looked up and enters the result queue with the next tag
(R284, R285, R289, R291, R299). -/
def Obligations.CandidatesAndResults : Prop :=
  (∀ (s : State) (k : CtxId) (fidx : Word) (x : CandInfo) (f : Frame),
     (s.frames.find? (fun f => f.ctx == k && f.started && !f.noticed) = some f → s.dec.jxWait = [] →
       Does (.frameStartNoticeInDecode k) s fun u =>
         u = { s with fields := u.fields, shadow := u.shadow, frames := u.frames } ∧ FieldsKept s u [] ∧
         u.shadow = s.shadow.filter (fun q => !(q.set == .dec k && s.due q)) ∧
         u.frames = s.frames.map fun g => if g.id = f.id then
           { g with noticed := true, symOpt := (u.getF (Fld.decSymOpt k.val)).setWidth 3
                    eraseConf := u.getN (Fld.decEraseConf k.val) } else g) ∧
     (s.frames.find? (fun f => f.ctx == k && f.fidx == some fidx && f.noticed && !f.passed) = none →
       exec (.candidateArrival k fidx x) s = .next s) ∧
     (s.frames.find? (fun f => f.ctx == k && f.fidx == some fidx && f.noticed && !f.passed) = some f →
       let searched := s.enabledAt Fld.locEnable = true ∧ s.enabledAt Fld.decEnable = true ∧ x.sym ≠ 0 ∧
         f.symEn.getLsbD (x.sym.toNat - 1) = true ∧ f.polarityOn x = true ∧ f.signed x = true ∧ f.ready x = true
       let merged := ∃ e ∈ f.found, e.1 = x.sym ∧ sameSymbol e.2 x.corners = true
       let c : Candidate := ⟨s.dec.nextCand, f.id, f.ts, x, none, false, false, []⟩
       let counted := fun (u : State) =>
         u.getF (Fld.locCandCount k.val) = s.getF (Fld.locCandCount k.val) + 1
       (f.inLimits x = true → ¬ searched ∨ merged → exec (.candidateArrival k fidx x) s = .next s) ∧
       (f.inLimits x = false → Does (.candidateArrival k fidx x) s fun u =>
         Config.beyondLimits s.fresh = false → u = { s with fresh := s.fresh + 1 }) ∧
       (f.inLimits x = true → searched → ¬ merged → s.jointOn = false →
       (f.candMax ≤ f.cands → Does (.candidateArrival k fidx x) s fun u =>
         u = { s with fields := u.fields, frames := u.frames } ∧ counted u ∧
         u.getN (Fld.locCandDropCount k.val) = min 65535 (s.getN (Fld.locCandDropCount k.val) + 1) ∧
         u.frames = s.frames.map fun g => if g.id = f.id then
           { g with found := g.found ++ [(x.sym, x.corners)], dropCand := g.dropCand + 1 } else g) ∧
       (f.cands < f.candMax → (∀ i : Fin 16, s.dec.cores[i] ≠ .free) → Does (.candidateArrival k fidx x) s fun u =>
         u = { s with fields := u.fields, frames := u.frames
                      dec := { s.dec with ready := s.dec.ready ++ [c], nextCand := s.dec.nextCand + 1 } } ∧ counted u ∧
         u.frames = s.frames.map fun g => if g.id = f.id then
           { g with found := g.found ++ [(x.sym, x.corners)], cands := g.cands + 1 } else g) ∧
       (f.cands < f.candMax → s.dec.ready = [] → s.dec.cores[(0 : Fin 16)] = .free →
         Does (.candidateArrival k fidx x) s fun u => counted u ∧ u.dec.ready = [] ∧
           u.dec.cores = s.dec.cores.set 0 (.busy c))))) ∧
  (∀ (s : State) (i : Fin 16) (c : Candidate) (f : Frame) (out : DecodeOutcome) (fid : Nat) (r : Result)
     (reads : List (Nat × StoreFinding)) (w : Nat) (find : StoreFinding),
     (s.dec.cores[i] = .busy c → (find = .corrected ∨ w < 21760 * 144) →
       exec (.decodeResolved i out [(w, find)]) s = exec (.decodeResolved i out []) (s.storeRead w find)) ∧
     (∀ e : Nat, s.dec.cores[i] = .busy c → s.frame? c.fid = some f → c.sender = some e → s.dec.ready = [] →
       Does (.coreTimeExpiry i) s fun u =>
         u = { s with fields := u.fields, dec := { s.dec with cores := s.dec.cores.set i.val .free i.isLt } } ∧
         Counted s u Fld.decJxNosendCount []) ∧
     let failed := fun (u : State) =>
       u = { s with fields := u.fields, frames := u.frames
                    dec := { s.dec with cores := s.dec.cores.set i.val .free i.isLt } } ∧
       u.getF Fld.decFailCount = s.getF Fld.decFailCount + 1 ∧
       u.frames = s.frames.map fun g => if g.id = c.fid then { g with failed := g.failed + 1 } else g
     (s.dec.cores[i] = .busy c → s.frame? c.fid = some f → c.sender = none → (∀ x ∈ reads, x.2 = .clean) →
       (s.dec.ready = [] → Does (.coreTimeExpiry i) s failed) ∧
       (s.dec.ready = [] → f.resultOf s.dec.bad c out = none → Does (.decodeResolved i out reads) s failed) ∧
       (f.resultOf s.dec.bad c out = some r → f.syms + f.gragas < 256 → r.stitched = false →
         Does (.decodeResolved i out reads) s fun u =>
           u = { s with fields := u.fields, frames := u.frames
                        dec := { s.dec with cores := s.dec.cores.set i.val (.holding f.id r) i.isLt
                                            outlines := s.dec.outlines ++ [(f.id, r.sym, c.info.corners)] } } ∧
           u.getF Fld.decDecodedCount = s.getF Fld.decDecodedCount + 1 ∧
           (∀ a, a ≠ Fld.decDecodedCount → u.getF a = s.getF a) ∧
           u.frames = s.frames.map fun g => if g.id = f.id then
             { g with syms := if r.isGraga then g.syms else g.syms + 1
                      gragas := if r.isGraga then g.gragas + 1 else g.gragas } else g) ∧
       (s.dec.ready = [] → f.resultOf s.dec.bad c out = some r → 256 ≤ f.syms + f.gragas →
         Does (.decodeResolved i out reads) s fun u =>
         u = { s with fields := u.fields, frames := u.frames
                      dec := { s.dec with cores := s.dec.cores.set i.val .free i.isLt } } ∧
         Counted s u Fld.decSymDropCount [] ∧
         u.frames = s.frames.map fun g => if g.id = f.id then { g with dropRes := g.dropRes + 1 } else g)) ∧
     (s.dec.cores[i] = .holding fid r →
       (1024 ≤ s.former.results.length → exec (.resultArrival i) s = .next s) ∧
       (s.former.results.length < 1024 → s.dec.ready = [] → Does (.resultArrival i) s fun u =>
         u = { s with fields := u.fields, frames := u.frames
                      dec := { s.dec with cores := s.dec.cores.set i.val .free i.isLt }
                      former := { s.former with
                        results := s.former.results ++ [{ r with tag := s.former.nextTag, match_ := s.listed r }]
                        nextTag := s.former.nextTag + 1 } } ∧
         u.getF Fld.wlLookupCount = s.getF Fld.wlLookupCount + (if s.lookedUp r then 1 else 0) ∧
         u.getF Fld.wlMatchCount = s.getF Fld.wlMatchCount + (if s.listed r then 1 else 0) ∧
         u.frames = s.frames.map fun g =>
           if s.listed r = true ∧ g.id = fid then { g with matches_ := g.matches_ + 1 } else g)))

/-- Deciding a frame: the closing pass ends; the earliest frame of a context, once decided, gives its notice and its slots
back; a closed frame needs no closing pass while the locator is off (R309; log entry 55); the oldest notice enters the decide queue
of 64 with the next tag (R281, R307, R308, R317). Joint exchange and
the tile store: a message that is not accepted is dropped, one that matches no frame waits and is discarded with a
count at its time; a waiting candidate becomes free to decode; a scrub reads the words of the store in order, one period after the
other no sooner than DEC.SCRUB_MS, while the cluster is enabled; it counts corrected errors, and an uncorrectable one raises
TILE_ECC and damages the frame that holds the slot or record, fails the candidate whose record it is, and leaves the word of a
slot bad until the slot is retired (R282, R283, R303, R305; log entry 110). -/
def Obligations.DecisionsAndJointExchange : Prop :=
  (∀ (s : State) (k : CtxId) (fidx : Word) (f : Frame) (n : Notice) (r : List Notice),
     (s.frames.find? (fun f => f.ctx == k && f.fidx == some fidx && f.closed && f.noticed && !f.passed) = some f →
       (∀ e ∈ s.dec.jxFrame, e.1 ≠ f.id) → Does (.closingPassEnd k fidx) s fun u => u = { s with frames := u.frames } ∧
         u.frames = s.frames.map fun g => if g.id = f.id then { g with passed := true } else g) ∧
     (s.frames.find? (fun f => f.ctx == k) = some f →
       (s.decidable f = false →
         s.enabledAt Fld.locEnable = true ∨ f.passed = true ∨ f.closed = false ∨ f.fidx = none →
         exec (.frameDecideNotice k) s = .next s) ∧
       (s.enabledAt Fld.locEnable = false → f.passed = false → f.closed = true → f.fidx.isSome = true →
         (∀ e ∈ s.dec.jxFrame, e.1 ≠ f.id) → exec (.frameDecideNotice k) s = exec (.frameDecideNotice k)
           { s with frames := s.frames.map fun g => if g.id = f.id then { g with passed := true } else g }) ∧
       (s.decidable f = true → Does (.frameDecideNotice k) s fun u => u = { s with frames := u.frames, dec := u.dec } ∧
         u.frames = s.frames.filter (fun g => g.id != f.id) ∧
         u.dec.cores = s.dec.cores ∧ u.dec.ready = s.dec.ready ∧
         (∀ i : Nat, i ∈ u.dec.retired ↔ i ∈ s.dec.retired ∨ (i ∈ f.slots ∧ ∃ w ∈ s.dec.bad, w / 144 = i)) ∧
         ∃ m : Notice, u.dec.notices = s.dec.notices ++ [m] ∧ m.ctx = f.ctx ∧ m.ts = f.ts ∧ m.fidx = f.fidx.getD 0 ∧
           m.damaged = f.damaged ∧ m.truncated = f.truncated ∧ m.overloaded = f.overloaded ∧ m.syms = f.syms ∧
           m.gragas = f.gragas ∧ m.matches_ = f.matches_ ∧ m.failed = f.failed ∧ m.dropCand = f.dropCand ∧
           m.dropRes = f.dropRes)) ∧
     (s.dec.notices = n :: r →
       (s.vs.decide_.length < 64 → Does .noticeArrival s fun u =>
         u = { s with dec := { s.dec with notices := r }
                      vs := { s.vs with headFrom := if s.vs.decide_ = [] then s.time.ns else s.vs.headFrom
                                        decide_ := s.vs.decide_ ++ [{ n with tag := s.vs.nextTag }]
                                        nextTag := s.vs.nextTag + 1 } }) ∧
       (64 ≤ s.vs.decide_.length → exec .noticeArrival s = .next s))) ∧
  (∀ (s : State) (src : BitVec 6) (b : List Byte) (r : List (BitVec 6 × List Byte)) (m : JointMsg) (q : List JointMsg)
     (n : Nat),
     (s.dec.jxIn = (src, b) :: r →
       (s.acceptsJoint (parseJoint src b) = false → Does .jointArrival s fun u =>
         u = { s with dec := { s.dec with jxIn := r } }) ∧
       (s.acceptsJoint (parseJoint src b) = true → s.frames = [] → s.dec.decided = [] → Does .jointArrival s fun u =>
         u = { s with dec := { s.dec with jxIn := r, jxWait := s.dec.jxWait ++ [parseJoint src b] } })) ∧
     (s.dec.jxWait = m :: q → Does .jointWaitExpiry s fun u =>
       u = { s with fields := u.fields, dec := { s.dec with jxWait := q } } ∧ Counted s u Fld.decJxDropCount []) ∧
     ((∀ i : Fin 16, s.dec.cores[i] ≠ .free) → Does (.candidateJxWaitExpiry n) s fun u =>
       u = { s with dec := { s.dec with
         ready := s.dec.ready.map fun c => if c.n = n then { c with waits := false } else c } }) ∧
     (s.enabledAt Fld.decEnable = false → ∀ x : StoreFinding, exec (.tileScrub x) s = .next s) ∧
     (s.enabledAt Fld.decEnable = true →
       (storeWords ≤ s.dec.scrub → s.time.ns < s.dec.scrubFrom + 1000000 * max 10 (min 1000 (s.getN Fld.decScrubMs)) →
         ∀ x : StoreFinding, exec (.tileScrub x) s = .next s) ∧
       ∀ w from_ : Nat,
         (s.dec.scrub < storeWords ∧ w = s.dec.scrub ∧ from_ = s.dec.scrubFrom) ∨
         (storeWords ≤ s.dec.scrub ∧ s.dec.scrubFrom + 1000000 * max 10 (min 1000 (s.getN Fld.decScrubMs)) ≤ s.time.ns ∧
           w = 0 ∧ from_ = s.time.ns) →
         Does (.tileScrub .clean) s (fun u => u = { s with dec := { s.dec with scrub := w + 1, scrubFrom := from_ } }) ∧
         Does (.tileScrub .corrected) s (fun u =>
           u = { s with fields := u.fields, dec := { s.dec with scrub := w + 1, scrubFrom := from_ } } ∧
           u.getN Fld.decEccCorrCount = min 4294967295 (s.getN Fld.decEccCorrCount + 1)) ∧
         (w < 21760 * 144 → ∀ h : RecordHolder, Does (.tileScrub (.uncorrectable h)) s fun u =>
           u = { s with fields := u.fields, trowels := u.trowels, bb := u.bb, frames := u.frames, dec := u.dec } ∧
           Counted s u Fld.decEccUncorrCount [] ∧ (s.boot.started = true → Raised s u 2 40) ∧
           (w ∈ u.dec.bad ∨ w / 144 ∈ s.dec.retired) ∧
           (∀ g ∈ u.frames, g.slots.contains (w / 144) = true → g.damaged = true) ∧
           u.dec.cores = s.dec.cores ∧ u.dec.scrub = w + 1) ∧
         (21760 * 144 ≤ w →
           Does (.tileScrub (.uncorrectable .nobody)) s (fun u =>
             u = { s with fields := u.fields, trowels := u.trowels, bb := u.bb
                          dec := { s.dec with scrub := w + 1, scrubFrom := from_ } } ∧
             Counted s u Fld.decEccUncorrCount [] ∧ (s.boot.started = true → Raised s u 2 40)) ∧
           (∀ (k : CtxId) (i : Word), Does (.tileScrub (.uncorrectable (.evidence k i))) s fun u =>
             u = { s with fields := u.fields, trowels := u.trowels, bb := u.bb, frames := u.frames
                          dec := { s.dec with scrub := w + 1, scrubFrom := from_ } } ∧
             Counted s u Fld.decEccUncorrCount [] ∧
             ∀ g ∈ u.frames, g.ctx = k → g.fidx = some i → g.damaged = true) ∧
           (∀ c : Candidate, s.dec.ready = [c] → c.sender = none → (∀ (i : Fin 16) (d : Candidate),
               s.dec.cores[i] = .busy d → d.n ≠ c.n) → Does (.tileScrub (.uncorrectable (.candidate c.n))) s fun u =>
             u.dec.ready = [] ∧ u.getF Fld.decFailCount = s.getF Fld.decFailCount + 1 ∧
             u.getN Fld.decEccUncorrCount = min 65535 (s.getN Fld.decEccUncorrCount + 1) ∧
             ∀ g ∈ u.frames, g.id = c.fid → g.damaged = true))))

/-! ### Verdicts, records, USB -/

/-- The verdict word of a notice and a class (Table VP.1): VALID set and PENDING clear, the marks, MATCH, the two counts
held at 15, the class and the epoch of the frame index. Decisions: DECIDE with the head notice's tag, or the automatic
decision once the notice has been at the head for VS.AUTO_US, takes the notice, counts it and writes its verdict word, unless the
entry holds a later frame (log entry 59) or this frame's word already; a tag that is not the head's is counted as stale and changes nothing else; VS.PEEK_ADDR selects the word that PEEK_DATA shows (R318
to R320, R322). -/
def Obligations.VerdictWordsAndDecisions : Prop :=
  (∀ (n : Notice) (cls : Nat),
     let w := verdictWord n cls
     w.getLsbD 15 = true ∧ w.getLsbD 14 = false ∧ w.getLsbD 13 = (n.damaged || n.truncated || n.overloaded) ∧
     w.getLsbD 12 = decide (0 < n.matches_) ∧ w.toNat / 256 % 16 = min 15 n.syms ∧ w.toNat / 16 % 16 = min 15 n.gragas ∧
     w.toNat / 4 % 4 = cls % 4 ∧ w.toNat % 4 = n.fidx.toNat / 2048 % 4 ∧
     (pendingWord n.fidx).getLsbD 15 = false ∧ (pendingWord n.fidx).getLsbD 14 = true) ∧
  (∀ (s : State) (t : TrowelId) (v : Word) (n : Notice) (r : List Notice),
     let a := queryAddr n.ctx n.fidx
     let decided := fun (cls : Nat) (u : State) =>
       CoreFrame s u ∧ LightFrame s u ∧ FrameFrame s u ∧ u.vs.decide_ = r ∧ u.vs.mirror = s.vs.mirror ∧
       (s.lapped n = false → s.validHeld n = false → u.storeAt a = verdictWord n cls ∧ u.storeOwner a = n.fidx) ∧
       (s.lapped n = true ∨ s.validHeld n = true → u.storeAt a = s.storeAt a) ∧
       (∀ b : BitVec 14, b ≠ a → u.storeAt b = s.storeAt b) ∧
       u.former.results = s.former.results.filter (fun x => !(x.ctx == n.ctx && x.fidx == n.fidx))
     (Takes s t Fld.vsDecide → s.shadow = [] →
       (s.vs.decide_ = n :: r → v.toNat / 16 % 4096 = n.tag.toNat → Does (.vsDecide t v) s fun u =>
         decided (v.toNat % 4) u ∧ u.getF Fld.vsDecidedCount = s.getF Fld.vsDecidedCount + 1) ∧
       ((∀ m, s.vs.decide_.head? = some m → v.toNat / 16 % 4096 ≠ m.tag.toNat) → Does (.vsDecide t v) s fun u =>
         u = { s with fields := u.fields, bb := u.bb } ∧ Counted s u Fld.vsDecideStaleCount [])) ∧
     (s.getN Fld.vsAutoUs ≠ 0 → s.vs.headFrom + 1000 * s.getN Fld.vsAutoUs ≤ s.time.ns → s.vs.decide_ = n :: r →
       Does .autoDecision s fun u =>
       decided (s.getN Fld.vsAutoClass) u ∧ u.getN Fld.vsAutoCount = min 65535 (s.getN Fld.vsAutoCount + 1) ∧
       u.getF Fld.vsDecidedCount = s.getF Fld.vsDecidedCount + 1) ∧
     (s.getN Fld.vsAutoUs = 0 ∨ s.vs.decide_ = [] ∨ s.time.ns < s.vs.headFrom + 1000 * s.getN Fld.vsAutoUs → exec .autoDecision s = .next s) ∧
     (Takes s t Fld.vsPeekAddr → s.shadow = [] → Does (.vsPeekAddrWrite t v) s fun u => u = { s with fields := u.fields } ∧
       u.getF Fld.vsPeekAddr = v &&& 0x3FFF ∧ FieldsKept s u [Fld.vsPeekAddr] ∧
       (s.tap.destroyed = 0 → u.readField t Fld.vsPeekData = (s.storeAt (v.setWidth 14)).setWidth 32)))

/-- The verdict port: updates reach the mirror in order, dirty entries after them with the word the store holds then; VQ_ACT rises
where no entry is dirty, the queue is empty and the engine has held the port for two edges of VQ_CLK before this one, and falls at
the first edge after it ceases to hold it (log entry 117); the
balls answer the presented address from the mirror while the engine holds the port and VQ_SEL_N is low (R33, R34, R326
to R328, R330, Table VP.3). -/
def Obligations.VerdictPort : Prop :=
  ∀ (s : State) (a : BitVec 14) (w : BitVec 16) (f : Word) (q : List (BitVec 14 × BitVec 16))
    (d : List (BitVec 14 × Word)) (o : Option (BitVec 14)),
    let mirrored := fun (x : BitVec 16) (u : State) => u = { s with vs := u.vs, fields := u.fields } ∧
      u.vs.store = s.vs.store ∧ u.vs.decide_ = s.vs.decide_ ∧ u.mirrorAt a = x ∧
      ∀ b : BitVec 14, b ≠ a → u.mirrorAt b = s.mirrorAt b
    (s.vs.queue = (a, w) :: q → Does .mirrorWrite s fun u => mirrored w u ∧ u.vs.queue = q ∧ u.vs.dirty = s.vs.dirty) ∧
    (s.vs.queue = [] → s.vs.dirty = (a, f) :: d → Does .mirrorWrite s fun u => mirrored (s.storeAt a) u ∧ u.vs.queue = [] ∧
      u.vs.dirty = d) ∧
    Does .vqClkRise s (fun u => u = { s with vs := { s.vs with
        act := u.vs.act, enSync := if s.holdsPort then min 3 (s.vs.enSync + 1) else 0
        actCycle := if u.vs.act = s.vs.act then s.vs.actCycle else s.time.core, actBefore := u.vs.actBefore } } ∧
      (u.vs.act = true ↔ s.holdsPort = true ∧ s.vs.dirty = [] ∧ (s.vs.act = true ∨ (2 ≤ s.vs.enSync ∧ s.vs.queue = [])))) ∧
    Does (.vqQuery o) s (fun u => u = { s with pins := { s.pins with vqSelN := o.isNone }
                                               vs := { s.vs with addr := o.getD s.vs.addr } } ∧
      (o = none ∨ s.holdsPort = false → u.vqBalls = (none, none, none)) ∧
      (∀ b : BitVec 14, o = some b → s.holdsPort = true →
        (s.vqMode = 1 ∨ s.vqMode = 3 → u.vqBalls.1 = some ((s.mirrorAt b >>> 8).setWidth 8) ∧
          u.vqBalls.2.1 = some ((s.mirrorAt b).setWidth 8)) ∧
        (s.vqMode = 2 → u.vqBalls = (none, some (compactByte (s.mirrorAt b)), some false))))

/-- Records: HK_SEND forms a record of 1 to 32 words with the next sequence number, and has no effect for another count; a
standby, and one that waits after a sleep as one (log entry 120), holds it unnumbered; RES_TAKE with the head's tag moves the result to its frame's record, without its payload
or not at all as the action says; a tag that is not the head's is counted (R339, R340, R342, R428). -/
def Obligations.RecordsAndResults : Prop :=
  ∀ (s : State) (t : TrowelId) (v : Word) (r : Result) (q : List Result),
    let n := v.toNat % 64
    (Takes s t Fld.recHkSend → s.shadow = [] →
      (n = 0 ∨ 32 < n ∨ s.enabledAt Fld.recEnable = false → exec (.hkSend t v) s = .next s) ∧
      (1 ≤ n → n ≤ 32 → s.enabledAt Fld.recEnable = true →
        (s.holdsRecords = true → Does (.hkSend t v) s fun u =>
          u = { s with former := { s.former with held := s.former.held ++ [s.hkRecord n 0] } }) ∧
        (s.holdsRecords = false → Does (.hkSend t v) s fun u => CoreFrame s u ∧ LightFrame s u ∧ FrameFrame s u ∧
          u.vs = s.vs ∧ u.former = { s.former with seqNext := s.former.seqNext + 1 } ∧
          u.getF Fld.recFormedCount = s.getF Fld.recFormedCount + 1 ∧
          (s.linkTakes .usb = false → u.usb.queue = s.usb.queue) ∧
          (s.linkTakes .usb = true → queueFull s.usb.queue (s.hkRecord n s.former.seqNext).length = false →
            u.usb.queue = s.usb.queue ++ [⟨s.hkRecord n s.former.seqNext, false⟩])))) ∧
    (Takes s t Fld.recResTake → s.shadow = [] →
      (s.former.results = r :: q → v.toNat / 16 % 4096 = r.tag.toNat →
        (v.toNat % 4 = 0 ∨ v.toNat % 4 = 3 → Does (.resTakeInclude t v) s fun u =>
          u = { s with former := { s.former with results := q, taken := s.former.taken ++ [⟨r, false⟩] } }) ∧
        (v.toNat % 4 = 1 → Does (.resTakeNoPayload t v) s fun u =>
          u = { s with former := { s.former with results := q, taken := s.former.taken ++ [⟨r, true⟩] } }) ∧
        (v.toNat % 4 = 2 → Does (.resTakeOmit t v) s fun u =>
          u = { s with former := { s.former with results := q } })) ∧
      ((∀ x, s.former.results.head? = some x → v.toNat / 16 % 4096 ≠ x.tag.toNat) →
        let stale := fun (c : Instr) => Does c s fun u => u = { s with fields := u.fields, bb := u.bb } ∧
          Counted s u Fld.recTakeStaleCount []
        (v.toNat % 4 = 0 ∨ v.toNat % 4 = 3 → stale (.resTakeInclude t v)) ∧
        (v.toNat % 4 = 1 → stale (.resTakeNoPayload t v)) ∧ (v.toNat % 4 = 2 → stale (.resTakeOmit t v)))) ∧
    (∀ k m : Nat, 32 ≤ (s.hkRecord k 0).length ∧ (s.hkRecord m s.former.seqNext).length = 36 + 4 * m)

/-- USB attachment: VBUS, USB.ENABLE and the bus reset attach, detach and return the function to its default state with
the records kept; suspend stops nothing (R349 to R351, R355, R365). The result stream: while the endpoint takes transfers, a completed one marks its
record sent and moves the send pointer; an acknowledged one leaves; the tap endpoint sends up to and with a frame end;
SET_CONFIGURATION, SET_INTERFACE and CLEAR_FEATURE restart the stream from its oldest record (R354, R355, R357, R358).
-/
def Obligations.UsbAttachmentAndStream : Prop :=
  (∀ (s : State) (t : TrowelId) (v : Word) (b : Bool),
     let left := if s.usb.busy && s.usb.busyAcked then s.usb.queue.eraseIdx s.usb.next else s.usb.queue
     let attached := fun (u : State) => u.usb = { s.usb with
       vbus := true, attached := true, speed := if s.ssOffered then 3 else 2 }
     (s.usb.attached = false → s.usbRuns = true → s.usbPhase = true → Does .vbusPresent s fun u =>
       u = { s with pins := { s.pins with vbus := true }, usb := u.usb } ∧ attached u) ∧
     (s.usb.attached = false ∧ s.usbRuns = false → Does .vbusPresent s fun u =>
       u = { s with pins := { s.pins with vbus := true }, usb := { s.usb with vbus := true } }) ∧
     (s.usb.attached = true → Does .vbusAbsent s fun u =>
       CoreFrame s u ∧ LightFrame s u ∧ u.vs = s.vs ∧ u.usb.attached = false ∧ u.usb.speed = 0 ∧
       u.usb.configured = false ∧ u.usb.address = 0 ∧ u.usb.testMode = 0 ∧ u.usb.busy = false ∧ u.usb.queue = left ∧
       u.usb.vbus = false) ∧
     (Takes s t Fld.usbEnable → s.shadow = [] →
       (v.getLsbD 0 = true → s.usb.attached = false → s.usb.vbus = true → s.phase = .running →
         Does (.usbEnableWrite t v) s fun u => u = { s with fields := u.fields, usb := u.usb } ∧ attached u ∧
           u.enabledAt Fld.usbEnable = true) ∧
       (v.getLsbD 0 = false → s.usb.attached = true → Does (.usbEnableWrite t v) s fun u =>
         CoreFrame s u ∧ LightFrame s u ∧ u.usb.attached = false ∧ u.usb.queue = left ∧
         u.enabledAt Fld.usbEnable = false)) ∧
     (s.usb.attached = true → Does (.usbBusReset b) s fun u =>
       CoreFrame s u ∧ LightFrame s u ∧ Raised s u 3 32 ∧ u.usb.attached = true ∧ u.usb.configured = false ∧
       u.usb.address = 0 ∧ u.usb.queue = left ∧
       u.usb.speed = (if s.usb.speed = 3 then 3 else if b then 2 else 1) ∧
       u.getN Fld.usbBusResetCount = min 65535 (s.getN Fld.usbBusResetCount + 1)) ∧
     (s.usb.attached = true → s.usb.speed = 3 → s.usb.configured = false → Does .superspeedTrainingTimeout s fun u =>
       u = { s with usb := { s.usb with speed := 2 } }) ∧
     (s.usb.attached = true → Does (.usbSuspend true) s fun u => u = { s with usb := { s.usb with suspended := true } }) ∧
     (s.usb.attached = true → Does (.usbSuspend false) s fun u => u = { s with usb := u.usb, fab := u.fab } ∧
       u.usb.suspended = false ∧ u.usb.queue = s.usb.queue ∧ u.usb.next = s.usb.next) ∧
     exec .u1U2EntryRequest s = .next s) ∧
  (∀ (s : State) (r : QRec),
     let left := if s.usb.busy && s.usb.busyAcked then s.usb.queue.eraseIdx s.usb.next else s.usb.queue
     let restarted := fun (u : State) => u = { s with usb := u.usb, fab := u.fab } ∧ u.usb.next = 0 ∧
       u.usb.answer = .done ∧ u.usb.queue = left ∧ u.usb.halted1 = false
     (s.usbStreams = true → s.usb.busy = true → s.usb.queue[s.usb.next]? = some r → s.usb.busyAcked = false →
       Does .usbRecordTransferDone s fun u =>
       u = { s with usb := u.usb, fab := u.fab } ∧ u.usb.next = s.usb.next + 1 ∧
       u.usb.queue = s.usb.queue.set s.usb.next { r with sent := true } ∧ u.usb.sentSeq =
         (if s.usb.sentAny = true ∧ precedes (recSeq r.bytes) s.usb.sentSeq = true then s.usb.sentSeq else recSeq r.bytes)) ∧
     (s.usbStreams = true → s.usb.busy = true → s.usb.queue[s.usb.next]? = some r → s.usb.busyAcked = true →
       Does .usbRecordTransferDone s fun u =>
       u = { s with usb := u.usb, fab := u.fab } ∧ u.usb.next = s.usb.next ∧
       u.usb.queue = s.usb.queue.eraseIdx s.usb.next) ∧
     (s.usbStreams = false ∨ (s.usb.busy = false ∧ s.fab.fwdBusy = false) → exec .usbRecordTransferDone s = .next s) ∧
     (s.tapDestLive none = true → (∀ p ∈ s.usb.taps, p.dest = none ∧ byteAt p.bytes 0 ≠ 3) →
       Does .usbTapTransferDone s fun u => u = { s with usb := { s.usb with taps := [] } }) ∧
     (∀ (a b : List TapPkt) (y : TapPkt), s.tapDestLive none = true → s.usb.taps = a ++ y :: b →
       (∀ p ∈ s.usb.taps, p.dest = none) → (∀ p ∈ a, byteAt p.bytes 0 ≠ 3) → byteAt y.bytes 0 = 3 →
       Does .usbTapTransferDone s fun u => u = { s with usb := { s.usb with taps := b } }) ∧
     (s.usb.attached = true → s.usb.testMode = 0 →
       Does (.setConfiguration 1) s (fun u => restarted u ∧ u.usb.configured = true) ∧
       Does (.setConfiguration 0) s (fun u => CoreFrame s u ∧ u.usb.configured = false ∧ u.usb.answer = .done ∧
         u.usb.queue = left ∧ u.usb.busy = false) ∧
       Does (.setConfiguration 2) s (fun u => u = { s with usb := { s.usb with answer := .stall } })) ∧
     (s.usb.attached = true → s.usb.testMode = 0 → s.usb.configured = true →
       Does (.setInterface 0) s restarted ∧
       Does (.clearFeatureHalt 0x81) s restarted ∧
       (s.tapDescribed = true →
         Does (.clearFeatureHalt 0x82) s (fun u => u = { s with usb := { s.usb with halted2 := false, answer := .done } })) ∧
       Does (.clearFeatureHalt 0x83) s (fun u => u = { s with usb := { s.usb with answer := .stall } }) ∧
       Does (.setInterface 1) s (fun u => u = { s with usb := { s.usb with answer := .stall } })))

/-- The control endpoint: what the standard requests answer, link power management without effect, and the protocol STALL
of a request that is unknown, of the wrong direction or length (R351, R352, R359). Vendor requests: the
answer is the inventory, the link status, a queued record or black-box events, an acknowledgement takes the sent
records at or before it from the queue, and a completed request leaves its note; of a session other than 0 the answer is kept in
the replay cache, and the same request of the same tag, repeated, is answered from there without its effect; a note acknowledged
goes low (R357, R359 to R361, R363, Tables UR.9 to UR.11). -/
def Obligations.UsbRequests : Prop :=
  (∀ (s : State) (r : VendorSetup) (ad : BitVec 7) (k i : Byte) (len : Nat) (lat : BitVec 48) (dly : BitVec 16),
     s.usb.attached = true → s.usb.testMode = 0 →
     let answers := fun (c : Instr) (x : Answer) => Does c s fun u => u = { s with usb := { s.usb with answer := x } }
     answers .setFeatureLinkPower .done ∧
     (∀ d, s.descriptor k i = some d → answers (.standardRequest (.getDescriptor k i len)) (.data (d.take len))) ∧
     (s.descriptor k i = none → answers (.standardRequest (.getDescriptor k i len)) .stall) ∧
     Does (.standardRequest (.setAddress ad)) s (fun u => u = { s with usb := { s.usb with address := ad, answer := .done } }) ∧
     answers (.standardRequest .getConfiguration) (.data [if s.usb.configured then 1 else 0]) ∧
     answers (.standardRequest .getStatusDevice) (.data [1, 0]) ∧
     (s.usb.configured = true → answers (.standardRequest .getInterface) (.data [0]) ∧
       answers (.standardRequest .getStatusInterface) (.data [0, 0])) ∧
     (s.usb.configured = true →
       answers (.standardRequest (.getStatusEndpoint 0x81)) (.data [if s.usb.halted1 then 1 else 0, 0]) ∧
       Does (.standardRequest (.haltEndpoint 0x81)) s fun u => u.usb.halted1 = true ∧ u.usb.answer = .done ∧ u.usb.busy = false) ∧
     (s.usb.configured = false → answers (.standardRequest (.getStatusEndpoint 0x81)) .stall ∧
       answers (.standardRequest (.haltEndpoint 0x81)) .stall ∧ answers (.clearFeatureHalt 0x81) .stall) ∧
     answers (.standardRequest .clearLinkPower) .done ∧
     answers (.standardRequest (.setSel lat)) (if s.usb.speed = 3 then .done else .stall) ∧
     answers (.standardRequest (.setIsochDelay dly)) (if s.usb.speed = 3 then .done else .stall) ∧
     answers (.standardRequest .unsupported) .stall ∧
     (s.usb.speed = 2 → 1 ≤ k.toNat → k.toNat ≤ 5 → Does (.standardRequest (.testMode k)) s fun u =>
       u.usb.testMode = k ∧ u.usb.answer = .done ∧ u.usb.configured = s.usb.configured) ∧
     (s.usb.speed ≠ 2 → answers (.standardRequest (.testMode k)) .stall) ∧
     (requestSound s r = false → answers (.usbVendorRequestStall r) .stall) ∧
     (r.dirIn = false ∨ r.len ≠ 32 → answers (.getInventory r true) .stall ∧ answers (.getLinkStatus r true) .stall) ∧
     (r.dirIn = true ∨ r.len ≠ 4 → answers (.ackRecords r 0 true) .stall) ∧
     (r.len.toNat % 16 ≠ 0 → answers (.getBlackbox r true) .stall) ∧
     (4096 < r.len.toNat → answers (.retrieve r true) .stall) ∧
     (∃ x, s.descriptor 1 0 = some x ∧ x.length = 18) ∧ s.inventory.length = 32 ∧ s.linkStatus.length = 32) ∧
  (∀ (s : State) (t : TrowelId) (r : VendorSetup) (n : Word), s.usb.attached = true → s.usb.testMode = 0 →
     s.phase ≠ .halted →
     let noted := fun (q : Nat) (u : State) =>
       u.usb.note = BitVec.ofNat 32 (q + r.session.toNat * 256 + r.tag.toNat * 65536) ∧ u.usb.noteHigh = true ∧
       (s.usb.noteHigh = true → u.getN Fld.usbNoteLostCount = min 65535 (s.getN Fld.usbNoteLostCount + 1)) ∧
       ∀ b, b ≠ Fld.usbNoteLostCount → u.getF b = s.getF b
     let new := r.session = 0 ∨ r.session ≠ s.usb.session ∨ ∀ e ∈ s.usb.cache, e.session = r.session → e.tag ≠ r.tag
     let kept := fun (u : State) => (r.session = 0 → u.usb.session = s.usb.session ∧ u.usb.cache = s.usb.cache) ∧
       (r.session ≠ 0 → u.usb.session = r.session ∧ ∃ e ∈ u.usb.cache, e.session = r.session ∧ e.tag = r.tag)
     let gives := fun (c : Bool → Instr) (q : Nat) (x : Answer) => new →
       (Does (c true) s fun u => kept u ∧ noted q u ∧
         u = { s with fields := u.fields, usb := { s.usb with
           answer := x, note := u.usb.note, noteHigh := true, session := u.usb.session, cache := u.usb.cache } }) ∧
       (Does (c false) s fun u => kept u ∧ u = { s with usb := { s.usb with
         answer := x, session := u.usb.session, cache := u.usb.cache } })
     let replayed := fun (c : Bool → Instr) (q : Byte) (ans : List Byte → Answer) (data : List Byte) => ∀ e : CacheEntry,
       r.session ≠ 0 → r.session = s.usb.session →
       s.usb.cache.find? (fun e => e.session == r.session && e.tag == r.tag) = some e → e.complete = true →
       e.setup = setupBytes { r with request := q } ++ data →
       Does (c true) s fun u => u = { s with
         fields := u.fields, usb := { s.usb with
           answer := ans e.response, note := u.usb.note, noteHigh := true, cache := u.usb.cache } } ∧
         u.getN Fld.usbReplayHitCount = min 65535 (s.getN Fld.usbReplayHitCount + 1)
     (r.dirIn = true → r.len = 32 → gives (.getInventory r) 1 (.data s.inventory) ∧
       gives (.getLinkStatus r) 2 (.data s.linkStatus) ∧
       replayed (.getInventory r) 1 .data [] ∧ replayed (.getLinkStatus r) 2 .data []) ∧
     (r.dirIn = true → 16 ≤ r.len.toNat → r.len.toNat ≤ 4096 →
       gives (.retrieve r) 4 (.data (if s.activeRole then
         (((s.usb.queue[r.param.toNat]?).map fun e => e.bytes).getD []).take r.len.toNat else [])) ∧
       replayed (.retrieve r) 4 .data [] ∧
       (r.len.toNat % 16 = 0 → replayed (.getBlackbox r) 5 .data [] ∧
         gives (.getBlackbox r) 5 (.data ((s.bbFrom (256 * r.param.toNat)).take r.len.toNat)))) ∧
     (r.dirIn = false → r.len = 4 →
       replayed (.ackRecords r n) 3 (fun _ => .done) (leBytes 4 n.toNat) ∧
       (new → Does (.ackRecords r n true) s fun u => kept u ∧ noted 3 u ∧
         u = { s with usb := u.usb, fields := u.fields, pair := u.pair } ∧ u.usb.answer = .done ∧
         (s.activeRole = false ∨ (∀ e ∈ s.usb.queue, e.sent = false) →
           u.usb.queue = s.usb.queue ∧ u.usb.next = s.usb.next) ∧
         (let m := if precedes s.usb.sentSeq n then s.usb.sentSeq else n
          s.activeRole = true → s.usb.busy = false →
            (∀ e, s.usb.queue.head? = some e → precedes m (recSeq e.bytes) = false) →
            u.usb.queue = s.usb.queue.filter fun e => !(e.sent && atOrBefore (recSeq e.bytes) m)))) ∧
     (Takes s t Fld.usbReqNoteAck → s.shadow = [] → Does (.reqNoteAck t 1) s fun u =>
       u = { s with usb := { s.usb with noteHigh := false } }))

/-! ### The serial line -/

/-- Sending on the serial line: the next response, else the record at the send pointer, starts with its bytes fixed; a bit
that reads back other than it was sent is a lost arbitration, a collision or a line fault, which leaves the frame pending and is
counted; a record sent in full waits for its acknowledgement on a party line,
leaves without one where none is asked for, and stays behind the pointer otherwise; an unanswered one is retried three
times and then waits (R380, R382 to R384, R386 to R388). The receiver's counts: a frame cut short by a gap, a character with a framing or
parity error, a frame of a wrong CRC or an unknown kind (log entry 118), and a line held low, which also writes an event; they change nothing else (R373, R377, R389). -/
def Obligations.SerialSendingAndCounts : Prop :=
  (∀ (s : State) (e : SerRec) (i : Nat), s.serLive = true →
     let x := s.ser
     let seq := recSeq e.rec2
     let newest := if x.sentAny && precedes seq x.sentSeq then x.sentSeq else seq
     (x.phase = .idle ∨ x.phase = .retry →
       (x.responses ≠ [] → Does .serFrameStart s fun u => u = { s with ser := { x with
         phase := .response, arbDone := false, frameFrom := s.time.ns } }) ∧
       (x.responses = [] → x.queue[x.next]? = some e → e.wire = none → Does .serFrameStart s fun u => u = { s with ser :=
         { x with phase := .record, arbDone := false, withdrawn := false, superseded := false, dropped := false
                  frameFrom := s.time.ns
                  queue := x.queue.set x.next
                    { e with wire := some (form1 e.rec2 e.noListener x.superseded x.dropped) } } }) ∧
       (x.responses = [] → x.queue[x.next]? = some e → e.wire.isSome = true → Does .serFrameStart s fun u =>
         u = { s with ser := { x with phase := .record, arbDone := false, withdrawn := false, frameFrom := s.time.ns } }) ∧
       (x.responses = [] → x.queue[x.next]? = none → exec .serFrameStart s = .next s)) ∧
     (s.serParty = true → x.phase = .record → x.withdrawn = false →
       let bit := (frameLevels s.serInverse s.serFrameOut)[i]?
       let off := fun (read : Bool) (a : Nat) => Does (.serCollision i read) s fun u =>
         u = { s with fields := u.fields, bb := u.bb
                      ser := { x with phase := x.pendPhase, withdrawn := false, arbDone := false } } ∧ Counted s u a []
       (bit = some true → i < 12 → off false Fld.serLostArbCount) ∧
       (bit = some true → 12 ≤ i → off false Fld.serCollisionCount) ∧
       (bit = some false → off true Fld.serLineFaultCount) ∧
       (∀ read : Bool, bit = none ∨ bit = some read → exec (.serCollision i read) s = .next s)) ∧
     (x.phase = .record → x.withdrawn = false → x.queue[x.next]? = some e →
       (s.serParty = true → Does .serFrameSent s fun u =>
         u = { s with fields := u.fields, trowels := u.trowels, ser := { x with
           phase := .window, arbDone := false, sentSeq := newest, sentAny := true, queue := x.queue.set x.next { e with sent := true } } } ∧
         EventsOnly s u) ∧
       (s.serParty = false → s.getB Fld.serP2pAck 0 = false → s.pair.mode = .solo → Does .serFrameSent s fun u =>
         u = { s with trowels := u.trowels, ser := { x with
           phase := .idle, arbDone := false, sentSeq := newest, sentAny := true, retries := 0, lateCancel := false
           next := if x.restartDue then 0 else x.next, restartDue := false
           queue := (x.queue.set x.next { e with sent := true }).eraseIdx x.next } } ∧ EventsOnly s u) ∧
       (s.serParty = false → s.getB Fld.serP2pAck 0 = true → x.lateCancel = false → Does .serFrameSent s fun u =>
         u = { s with ser := { x with
           phase := .idle, arbDone := false, sentSeq := newest, sentAny := true, queue := x.queue.set x.next { e with sent := true }
           next := if x.restartDue then 0 else x.next + 1, restartDue := false } })) ∧
     (x.phase = .window → x.lateCancel = false →
       (x.noListener = true → Does .serAckWindowExpiry s fun u =>
         u = { s with ser := { x with phase := .backoff, backoffMs := min 1000 (2 * x.backoffMs) } }) ∧
       (x.noListener = false → x.retries < 3 → Does .serAckWindowExpiry s fun u =>
         u = { s with ser := { x with phase := .retry, retries := x.retries + 1 } }) ∧
       (x.noListener = false → 3 ≤ x.retries → Does .serAckWindowExpiry s fun u =>
         u = { s with bb := u.bb, ser := { x with phase := .backoff, noListener := true, backoffMs := 4 } })) ∧
     (x.phase = .backoff → Does .serBackoffExpiry s fun u => u = { s with ser := { x with phase := .retry } })) ∧
  (∀ (s : State) (chars : List (Nat × Byte)) (gap : Nat) (l : List Byte) (ticks : List Bool), s.serAwake = true →
     let counts := fun (c : Instr) (a : Nat) => Does c s fun u => u = { s with fields := u.fields } ∧ Counted s u a []
     (framesOf chars = [l] → 0 < frameLack l → 12 ≤ gap → counts (.serFrameBroken chars gap) Fld.serCrcErrCount) ∧
     (framesOf chars = [l] → frameLack l = 0 ∨ gap < 12 → exec (.serFrameBroken chars gap) s = .next s) ∧
     (readChar s.serInverse ticks = .framing → counts (.serFrameRejected (.character ticks)) Fld.serFramingErrCount) ∧
     (readChar s.serInverse ticks = .parity → counts (.serFrameRejected (.character ticks)) Fld.serParityErrCount) ∧
     (∀ c : Byte, readChar s.serInverse ticks = .byte c → exec (.serFrameRejected (.character ticks)) s = .next s) ∧
     (frameLack l = 0 → parseFrame l = none → counts (.serFrameRejected (.frame l)) Fld.serCrcErrCount) ∧
     (∀ (a k : Byte) (b : List Byte), frameLack l = 0 → parseFrame l = some (a, k, b) →
       (k = 0 ∨ 5 < k.toNat → counts (.serFrameRejected (.frame l)) Fld.serCrcErrCount) ∧
       (1 ≤ k.toNat → k.toNat ≤ 5 → exec (.serFrameRejected (.frame l)) s = .next s)) ∧
     (s.bbWrites = true → s.bb.queue.length < 32 → Does .serLineHeldLow s fun u =>
       u = { s with fields := u.fields, bb := u.bb } ∧ Counted s u Fld.serLineFaultCount [] ∧
       u.bb.queue = s.bb.queue ++ [⟨0, 0x0C, s.bb.lostPending, 0xFF, 2, 0⟩]))

/-- Serial receiving and control: an acknowledgement takes what was sent at or before it, a restart moves the send pointer
to the oldest record off a party line, SER.ENABLE releases the line, and SER.CANCEL takes the head record back, or
marks it where it comes too late; each acts only on the engine it addresses (R378, R381, R382, R390, R397). -/
def Obligations.SerialAcknowledgementAndCancel : Prop :=
  ∀ (s : State) (t : TrowelId) (addr : Byte) (n v : Word) (e : SerRec) (q : List SerRec),
    let x := s.ser
    (s.serMine addr = false → exec (.serAckFrame addr n) s = .next s ∧ exec (.serRestartFrame addr) s = .next s) ∧
    (s.serMine addr = true → x.noListener = true →
      let heard : State := { s with ser := { x with
        noListener := false, backoffMs := 0, retries := 0
        phase := if x.phase = .backoff ∨ x.phase = .retry then .idle else x.phase } }
      exec (.serAckFrame addr n) s = exec (.serAckFrame addr n) heard ∧
      exec (.serRestartFrame addr) s = exec (.serRestartFrame addr) heard) ∧
    (s.serMine addr = true → x.noListener = false →
      let m := if precedes x.sentSeq n then x.sentSeq else n
      let go := fun (e : SerRec) => e.sent && atOrBefore (recSeq e.rec2) m
      (x.phase = .idle ∨ x.phase = .response → (∀ h, x.queue.head? = some h → precedes m (recSeq h.rec2) = false) →
        Does (.serAckFrame addr n) s fun u => u = { s with pair := u.pair, ser := { x with
          queue := (x.queue.filter fun e => !go e), next := x.next - ((x.queue.take x.next).filter go).length } } ∧
          (s.pair.mode = .solo → u.pair = s.pair)) ∧
      (x.phase = .window → x.withdrawn = false → x.next = 0 → x.queue = e :: q → e.sent = true → n = recSeq e.rec2 → x.sentSeq = n →
        (∀ r ∈ q, r.sent = false ∧ recSeq r.rec2 ≠ n) → Does (.serAckFrame addr n) s fun u =>
        u = { s with pair := u.pair, ser := { x with
          queue := q, phase := .idle, retries := 0, lateCancel := false } }) ∧
      ((∀ r ∈ x.queue, r.sent = false) → Does (.serAckFrame addr n) s fun u => u = { s with pair := u.pair })) ∧
    (s.serMine addr = true → x.noListener = false →
      (s.serParty = true → exec (.serRestartFrame addr) s = .next s) ∧
      (s.serParty = false → x.phase ≠ .record → Does (.serRestartFrame addr) s fun u =>
        u = { s with ser := { x with next := 0 } }) ∧
      (s.serParty = false → x.phase = .record → Does (.serRestartFrame addr) s fun u =>
        u = { s with ser := { x with restartDue := true } })) ∧
    (Takes s t Fld.serEnable → s.shadow = [] →
      (v.getLsbD 0 = true → s.strap 10 ≠ 0 → Does (.serEnableWrite t v) s fun u => u = { s with fields := u.fields } ∧
        u.enabledAt Fld.serEnable = true ∧ FieldsKept s u [Fld.serEnable]) ∧
      (v.getLsbD 0 = true → s.strap 10 = 0 → Does (.serEnableWrite t v) s fun u => u = { s with bb := u.bb }) ∧
      (v.getLsbD 0 = false → Does (.serEnableWrite t v) s fun u => u = { s with
          fields := u.fields
          ser := { x with phase := .idle, withdrawn := false, arbDone := false, restartDue := false, responses := [] } } ∧
        u.enabledAt Fld.serEnable = false ∧ FieldsKept s u [Fld.serEnable])) ∧
    (Takes s t Fld.serReqNoteAck → s.shadow = [] → Does (.serReqNoteAck t 1) s fun u =>
      u = { s with ser := { x with noteHigh := false } }) ∧
    (Takes s t Fld.serCancel → s.shadow = [] → x.phase ≠ .record → v.getLsbD 16 = false ∨ x.queue = [] →
      exec (.serCancel t v false) s = .next s) ∧
    (Takes s t Fld.serCancel → s.shadow = [] → x.queue = e :: q →
      v.getLsbD 16 = true → v.setWidth 16 = (recSeq e.rec2).setWidth 16 →
      (x.phase = .idle → Does (.serCancel t v false) s fun u =>
        u = { s with pair := u.pair, fields := u.fields, ser := { x with queue := q, next := x.next - 1 } } ∧
        Counted s u Fld.serCancelCount []) ∧
      (x.phase = .window ∨ x.phase = .retry → x.next = 0 → Does (.serCancel t v false) s fun u =>
        u = { s with pair := u.pair, fields := u.fields, ser := { x with
          queue := q, phase := .idle, retries := 0, lateCancel := false } } ∧ Counted s u Fld.serCancelCount []) ∧
      (x.phase = .record → x.next = 0 → x.withdrawn = false →
        Does (.serCancel t v false) s fun u => u = { s with
            pair := u.pair, fields := u.fields, ser := { x with queue := q, withdrawn := true, arbDone := false } } ∧
          Counted s u Fld.serCancelCount []) ∧
      (x.phase = .record → x.next = 0 → x.withdrawn = false → Does (.serCancel t v true) s fun u => u = { s with
            fields := u.fields, ser := { x with arbDone := true, lateCancel := true, superseded := true } } ∧
          Counted s u Fld.serLateCancelCount []))

/-- Serial requests, of session 0 or with a tag that the replay cache does not hold: each that is addressed to the engine is answered with a response that repeats its code,
session and tag, status 0 and its data cut to the length asked for, status 1 for an unknown code and for an
acknowledgement request; a response sent leaves its note (R391 to R393, Table SL.5). -/
def Obligations.SerialRequests : Prop :=
  ∀ (s : State) (addr code : Byte) (r : SerReq) (p : SerResponse) (q : List SerResponse),
    let x := s.ser
    (s.serMine addr = true → x.noListener = false → x.responses = [] →
      r.session = 0 ∨ r.session ≠ x.session ∨ (∀ e ∈ x.cache, e.session = r.session → e.tag ≠ r.tag) →
      let answers := fun (c : Instr) (code status : Byte) (d : List Byte) => Does c s fun u =>
        u = { s with ser := { x with session := u.ser.session, cache := u.ser.cache, responses := [⟨r.requester,
          [code, r.session] ++ leBytes 2 r.tag.toNat ++ [r.param, r.requester.setWidth 8, r.maxLen],
          [code, r.session] ++ leBytes 2 r.tag.toNat ++ [status] ++ (if status = 0 then d.take r.maxLen.toNat else [])⟩] } } ∧
        (r.session = 0 → u.ser.session = x.session ∧ u.ser.cache = x.cache) ∧
        (r.session ≠ 0 → u.ser.session = r.session ∧
          (status = 0 → ∃ e ∈ u.ser.cache, e.session = r.session ∧ e.tag = r.tag ∧ e.complete = false))
      (r.maxLen.toNat ≤ 240 →
        answers (.serGetInventory addr r) 1 0 s.inventory ∧ answers (.serGetLinkStatus addr r) 2 0 s.linkStatus ∧
        answers (.serRetrieve addr r) 4 0 (((x.queue[r.param.toNat]?).map SerRec.form).getD []) ∧
        (r.maxLen.toNat % 16 = 0 → answers (.serGetBlackbox addr r) 5 0 (s.bbFrom (15 * r.param.toNat)))) ∧
      (240 < r.maxLen.toNat → answers (.serGetInventory addr r) 1 2 []) ∧
      answers (.serAckRequest addr r) 3 1 [] ∧
      (code = 0 ∨ 5 < code.toNat → answers (.serUnknownRequest addr code r) code 1 [])) ∧
    (s.serMine addr = false → exec (.serGetInventory addr r) s = .next s ∧ exec (.serRetrieve addr r) s = .next s) ∧
    (s.serLive = true → x.phase = .response → x.responses = p :: q → Does .serResponseSent s fun u =>
      u = { s with ser := { x with
        responses := q, phase := x.pendPhase, arbDone := false, noteHigh := true
        note := BitVec.ofNat 32 (leAt p.key 0 4)
        cache := x.cache.map fun e =>
          if e.setup = p.key ∧ e.response = p.bytes then { e with complete := true } else e } })

/-! ### The time base -/

/-- The count of the time base: a CORE cycle with no command waiting adds 2.5 ns corrected by the rate, or nothing while
the first set holds the count; TICK is raised in every trowel, and not in sleep; a limit of holdover selects the
crystal, and the crystal's rate steps towards 0 by 1 part in 10⁹; SYNC_OUT follows its mode (R399, R401, R411, R413,
R414). -/
def Obligations.TimeBaseCounts : Prop :=
  ∀ s : State,
    let x := s.time
    (s.pending = [] → s.phase = .running → x.mode ≠ .slewing →
      ∃ u, step s = .next u ∧ u.time.core = x.core + 1 ∧ u.time.rate = x.rate ∧
        (x.hold = 0 → u.time.fine = x.fine + coreStep x.rate ∧ u.time.hold = 0) ∧
        (0 < x.hold → u.time.fine = x.fine ∧ u.time.hold = x.hold - 1)) ∧
    (s.phase ≠ .asleep → s.boot.started = true → Does .tick s fun u => u = { s with trowels := u.trowels } ∧
      EventsOnly s u ∧ ∀ t : TrowelId, (u.trowels[t]).pending.getLsbD 9 = true) ∧
    (s.phase = .asleep → exec .tick s = .next s) ∧
    (s.phase = .running → s.boot.started = true →
      (x.mode = .holdover → s.getN Fld.timeHoldMaxS ≠ 0 → Does .holdoverLimit s fun u =>
        u = { s with time := { x with mode := .crystal, sel := .crystal, target := none } }) ∧
      (x.mode ≠ .holdover ∨ s.getN Fld.timeHoldMaxS = 0 → exec .holdoverLimit s = .next s) ∧
      (x.mode = .crystal → Does .crystalRateStep s fun u =>
        let r : Int := if 0 < x.rate then x.rate - 1 else if x.rate < 0 then x.rate + 1 else 0
        u = { s with time := { x with rate := r, baseRate := r } }) ∧
      (x.mode ≠ .crystal → exec .crystalRateStep s = .next s) ∧
      (s.getN Fld.timeSoutMode = 1 ∨ (s.getN Fld.timeSoutMode = 2 ∧ x.sel ≠ .crystal ∧ x.mode ≠ .holdover) →
        Does .syncOutInstant s fun u => u = { s with balls := { s.balls with syncOut := true } }) ∧
      (s.getN Fld.timeSoutMode = 0 → exec .syncOutInstant s = .next s)) ∧
    Does .syncOutPulseEnd s fun u => u = { s with balls := { s.balls with syncOut := false } }

/-- The count of the time base goes back only where a boot starts it afresh at 0: no other command lowers it (R399, R400).
-/
def Obligations.TimeNeverGoesBack : Prop :=
  ∀ (c : Instr) (s u : State), exec c s = .next u →
    s.time.fine ≤ u.time.fine ∨ u.time = TimeUnit.boot u.time.slowCycles

/-- References: an edge on SYNC_IN is an event, and where SYNC_IN is ranked a first edge seeds its candidate with the
nearest reference time; a deadline ends a count, or loses the selected reference: its rate is held in holdover, and
the loss counted; the sixteenth counted sample of a candidate better than the selected one commits it, setting the
time base the first time and slewing it afterwards (R402 to R407, R410, R413). -/
def Obligations.ReferenceSelection : Prop :=
  ∀ (s : State) (r : Ref) (ns : Nat),
    let x := s.time
    let c := x.cand r
    s.phase = .running → s.boot.started = true →
    (s.ranking.contains .syncIn = false → Does .syncInEdge s fun u => u = { s with trowels := u.trowels } ∧
      Raised s u 3 30) ∧
    (s.ranking.contains .syncIn = true → x.syncIn.seed = none → x.sel ≠ .syncIn → x.mode ≠ .holdover →
      Does .syncInEdge s fun u => u = { s with trowels := u.trowels, time := { x with syncIn := u.time.syncIn } } ∧
        Raised s u 3 30 ∧ u.time.syncIn.qualified = false ∧ u.time.syncIn.count = 0 ∧
        ∃ k : Int, let p : Int := min 1000000000 (max 1000 (s.getN Fld.timeSyncPeriodNs))
          let t : Int := s.getN Fld.timeSyncPhaseNs + k * p
          u.time.syncIn.seed = some (x.xref - 25, 4 * t) ∧
          u.time.syncIn.lastO = t * 4294967296 - (x.fine - 26843545600) ∧
          2 * u.time.syncIn.lastO.natAbs ≤ p * 4294967296) ∧
    (c.seed = none → exec (.sampleDeadlineExpiry r) s = .next s) ∧
    (c.seed ≠ none → c.qualified = false → x.mode ≠ .holdover → Does (.sampleDeadlineExpiry r) s fun u =>
      u = { s with time := x.setCand r .idle }) ∧
    (c.seed ≠ none → c.qualified = true → r = x.sel → x.mode = .slewing ∨ x.mode = .tracking →
      (∀ q, q ≠ r → (x.cand q).seed = none) → Does (.sampleDeadlineExpiry r) s fun u =>
        u = { s with time := u.time, fields := u.fields, trowels := u.trowels, bb := u.bb } ∧ Raised s u 3 28 ∧
        Counted s u Fld.timeLossCount [] ∧ u.time.mode = .holdover ∧ u.time.sel = x.sel ∧ u.time.target = none ∧
        u.time.rate = max (-250000) (min 250000 c.meanRate) ∧ u.time.fine = x.fine ∧ u.time.holdFrom = x.core ∧
        ∀ q, (u.time.cand q).seed = none) ∧
    (s.standby = true → s.ranking.contains .partner = true → s.rankOf .partner < s.rankOf x.sel →
      let p : Int × Int := (x.xref, 4 * ns)
      let o : Int := ns * 4294967296 - x.fine
      x.partner.qualified = false → x.partner.count = 15 → x.partner.inBand p = true → x.partner.inRate p = true →
      x.xref - x.partner.lastX ≤ 800200 →
      (x.set = false → Does (.pairTimeMark ns) s fun u =>
        u = { s with time := u.time, fields := u.fields, trowels := u.trowels, bb := u.bb, fresh := u.fresh } ∧
        u.time.set = true ∧ u.time.sel = .partner ∧ u.time.mode = .tracking ∧ Raised s u 3 29 ∧
        u.getF Fld.timeSetStepNs = BitVec.ofInt 32 (o / 4294967296) ∧
        u.getF Fld.timeSwitchCount = s.getF Fld.timeSwitchCount ∧
        (0 < o → u.time.fine = x.fine + o ∧ u.time.hold = x.hold) ∧
        (o ≤ 0 → u.time.fine = x.fine ∧ o.natAbs * 2 ≤ u.time.hold * 21474836480 ∧
          u.time.hold * 21474836480 < o.natAbs * 2 + 21474836480)) ∧
      (x.set = true → 42949672960 < o.natAbs → Does (.pairTimeMark ns) s fun u =>
        u = { s with time := u.time, fields := u.fields, trowels := u.trowels, bb := u.bb } ∧
        u.time.sel = .partner ∧ u.time.mode = .slewing ∧ u.time.fine = x.fine ∧ u.time.hold = x.hold ∧
        u.time.rate = max (-250000) (min 250000 (u.time.partner.meanRate + if 0 < o then 100000 else -100000)) ∧
        u.getN Fld.timeSwitchCount = min 65535 (s.getN Fld.timeSwitchCount + 1) ∧ Raised s u 3 27))

/-! ### The bonded pair -/

/-- Roles of a pair that runs: PAIR.ENABLE starts it in WAIT and stops it; the active engine's heartbeat; an edge of PL_HB
makes a waiting engine a standby and is a conflict for an active one, which leaves the role at once where it has been
active for more than 10 µs, or at the settling where it is the second; 200 µs of silence make a waiting engine active;
a TAKEOVER message makes an active one leave; leaving stops the heartbeat, releases the balls and discards the record
queues (R419, R423 to R426). -/
def Obligations.PairRoles : Prop :=
  ∀ (s : State) (t : TrowelId) (v gap : Word) (cause : Byte),
    let x := s.pair
    let left := fun (u : State) (p : Pair) (cause : Word) =>
      u.pair = { p with mode := .standby, synced := false, resync := false, stepDown := false, conflict := false
                        activeFrom := none, asked := false } ∧
      u.usb.queue = [] ∧ u.usb.taps = [] ∧ u.ser.queue = [] ∧ u.fab.gw = [] ∧ u.dec.jxWait = [] ∧
      u.balls = { s.balls with hbLeft := 0 } ∧ u.vs = s.vs ∧ u.holdsPort = false ∧ u.trowels = s.trowels ∧
      u.time = s.time ∧ CoreFrame s u ∧ LightFrame s u ∧ u.former = s.former ∧ u.ports = s.ports ∧ u.frames = s.frames ∧
      (s.bbWrites = true → s.bb.queue.length < 32 →
        u.bb.queue = s.bb.queue ++ [⟨0, 0x0E, s.bb.lostPending, 0xFF, 5, cause⟩])
    (Takes s t Fld.pairEnable → s.shadow = [] → s.pairRole.isSome = true →
      (v.getLsbD 0 = true → s.pairRuns = false → x.hbSeen = false → x.second = true → s.usb.taps = [] →
        (∀ f ∈ s.frames, f.tapOn = false) → Does (.pairEnableWrite t v) s fun u =>
        u = { s with fields := u.fields, pair := { x with mode := .wait } } ∧ u.pairRuns = true ∧
        FieldsKept s u [Fld.pairEnable]) ∧
      (v.getLsbD 0 = false → s.pairRuns = true → Does (.pairEnableWrite t v) s fun u =>
        u = { s with
          fields := u.fields, balls := { s.balls with hbLeft := 0 }, usb := u.usb, fab := u.fab
          pair := { x with mode := .solo, linkUp := false, synced := false, resync := false, out := [], asked := false } } ∧
        u.usb.queue = s.usb.queue ∧ u.pairRuns = false ∧ FieldsKept s u [Fld.pairEnable])) ∧
    (s.pairAwake = true → (∀ f ∈ s.frames, f.tapOn = false) →
      (x.mode = .active → Does .heartbeatPulse s fun u => u = { s with balls := { s.balls with hbLeft := 20 } }) ∧
      (x.mode ≠ .active → exec .heartbeatPulse s = .next s) ∧
      (x.mode = .wait → s.boot.fabricDone = false → Does .plHbEdge s fun u => u = { s with pair := { x with hbSeen := true } }) ∧
      (x.mode = .wait → s.boot.fabricDone = true → s.phase ≠ .waking → Does .plHbEdge s fun u =>
        u = { s with pair := { x with
          hbSeen := true, mode := .standby, synced := false, resync := false, stepDown := false, conflict := false
          activeFrom := none, asked := false } }) ∧
      (x.mode = .standby → Does .plHbEdge s fun u => u = { s with pair := { x with hbSeen := true } }) ∧
      (x.mode = .active → s.balls.hbLeft ≠ 0 → exec .plHbEdge s = .next s) ∧
      (x.mode = .active → s.balls.hbLeft = 0 → x.conflict = false → ∀ from_ : Nat, x.activeFrom = some from_ →
        (s.time.ns ≤ from_ + 10000 → Does .plHbEdge s fun u =>
          u = { s with fields := u.fields, pair := { x with conflict := true, hbSeen := true } } ∧
          Counted s u Fld.pairConflictCount []) ∧
        (from_ + 10000 < s.time.ns → Does .plHbEdge s fun u =>
          left u { x with hbSeen := true } 2 ∧ Counted s u Fld.pairConflictCount [])) ∧
      (x.mode = .active → x.conflict = true → x.second = true → Does .conflictSettle s fun u => left u x 2) ∧
      (x.mode = .active → x.conflict = true → x.second = false → Does .conflictSettle s fun u =>
        u = { s with pair := { x with activeFrom := none } }) ∧
      (x.conflict = false → exec .conflictSettle s = .next s) ∧
      (x.mode = .wait → x.hbSeen = false → s.phase = .running → x.linkUp = false → s.former.held = [] →
        Does .pairWaitTimeout s fun u =>
        u = { s with
          usb := u.usb, fab := u.fab
          pair := { x with
            mode := .active, activeFrom := some s.time.ns, conflict := false, stepDown := false, asked := false
            wasStandby := false } } ∧ u.usb.queue = s.usb.queue ∧
        (u.usbStreams = true → s.fab.fwd = [] → s.fab.fwdBusy = false → s.usb.next < s.usb.queue.length → u.usb.busy = true)) ∧
      (x.mode ≠ .wait ∨ x.hbSeen = true → exec .pairWaitTimeout s = .next s) ∧
      (x.mode = .active ∨ x.mode = .wait → Does .hbLost s fun u =>
        u = { s with pair := { x with hbSeen := false, conflict := false }, trowels := u.trowels } ∧ Raised s u 3 26) ∧
      (x.mode = .active → x.linkUp = true → Does (.pairTakeoverMsg cause gap) s fun u => left u x 1) ∧
      (x.mode ≠ .active → exec (.pairTakeoverMsg cause gap) s = .next s))

/-- The pair link: it comes up with a HELLO sent, and its loss leaves the partner unsynced; a sent message waits until it
is acknowledged, and is sent again without effect; a HELLO is compared and the roles settled; a standby acknowledges a
reservation and an active engine takes it; the active engine sends its marks; a trowel's word is sent, held by the
receiver (8 at most) and dropped when acknowledged (R422, R427 to R431, R439). -/
def Obligations.PairLink : Prop :=
  ∀ (s : State) (t : TrowelId) (h : HelloMsg) (v last : Word) (n : Nat),
    let x := s.pair
    let sent := fun (m : PairMsg) => { x with out := x.out ++ [(x.txSeq, m)], txSeq := x.txSeq + 1 }
    s.pairAwake = true → (x.out.map fun e => msgSize e.2).sum < 2000000 →
    exec .pairLinkRetransmit s = .next s ∧
    (x.linkUp = false → x.mode ≠ .active → Does .pairLinkUp s fun u => u = { s with pair := { x with
      linkUp := true, out := [(0, .hello s.ownHello)], txSeq := 1 } }) ∧
    (x.linkUp = true → exec .pairLinkUp s = .next s ∧
      (Does .pairLinkDown s fun u => u = { s with
          fields := u.fields, bb := u.bb
          pair := { x with linkUp := false, synced := false, resync := false, asked := false, out := [], txSeq := 0 } } ∧
        Counted s u Fld.pairLinkDownCount []) ∧
      (x.resync = false → Does (.pairLinkAck n) s fun u =>
        u = { s with pair := { x with out := x.out.filter fun e => e.1 != n } }) ∧
      (x.resync = true → x.mode = .active → (∃ c, (n, PairMsg.resyncEnd c) ∈ x.out) → Does (.pairLinkAck n) s fun u =>
        u = { s with pair := { x with out := x.out.filter fun e => e.1 != n, synced := true, resync := false } }) ∧
      (x.mode ≠ .active → ∀ a b : Bool, s.pairRole = some (a, b) →
        (h.straps.getD 2 15 = (if a then 1 else 2) + (if b then 2 else 0) → helloMismatch s.ownHello h = none →
          Does (.pairHello h) s fun u => u = { s with pair := { x with
            hello := some h, disarmed := false, roleConflict := false, second := a } }) ∧
        (h.straps.getD 2 15 = (if a then 2 else 1) + (if b then 2 else 0) → helloMismatch s.ownHello h = none →
          Does (.pairHello h) s fun u => u = { s with
            bb := u.bb
            pair := { x with hello := some h, disarmed := false, roleConflict := true
                             second := decide (h.serial.toNat < s.identity.serial.toNat) } }) ∧
        (h.recipeId ≠ s.sys.recipeId → s.bbWrites = true → s.bb.queue.length < 32 →
          h.straps.getD 2 15 = (if a then 1 else 2) + (if b then 2 else 0) → Does (.pairHello h) s fun u =>
          u = { s with bb := u.bb, pair := { x with
            hello := some h, disarmed := true, roleConflict := false, second := a } } ∧
          u.bb.queue = s.bb.queue ++ [⟨0, 0x0E, s.bb.lostPending, 0xFF, 2, 1⟩])) ∧
      (x.mode = .standby → (Does (.pairReserve last) s fun u =>
          u = { s with pair := { sent (.reserveAck last) with resEnd := last } }) ∧
        exec .senseMarkPeriod s = .next s ∧ exec .timeMarkPeriod s = .next s) ∧
      (x.mode = .active →
        (x.asked = true → 128 ≤ (last - s.former.seqNext + 1).toInt → Does (.pairReserveAck last) s fun u =>
          u = { s with pair := { x with blockEnd := last, asked := false } }) ∧
        (x.asked = false → exec (.pairReserveAck last) s = .next s) ∧
        (Does .senseMarkPeriod s fun u => u = { s with pair := sent (.sense s.senseMark) }) ∧
        (Does .timeMarkPeriod s fun u => u = { s with pair := sent (.time s.time.ns) })) ∧
      (x.words.length < 8 → Does (.pairTrowelMsg v) s fun u => u = { s with pair := { x with words := x.words ++ [v] } }) ∧
      (8 ≤ x.words.length → exec (.pairTrowelMsg v) s = .next s) ∧
      (Takes s t Fld.pairTxMsg → s.shadow = [] → Does (.pairTxMsgWrite t v) s fun u =>
        u = { s with pair := sent (.trowelMsg v) })) ∧
    (Takes s t Fld.pairRxAck → s.shadow = [] → v.getLsbD 0 = true → Does (.pairRxAckWrite t v) s fun u =>
      u = { s with pair := { x with words := x.words.tail } })

/-- What a standby takes from its partner: a decision's word enters the store and the held record of its frame goes;
records and acknowledgements reach the mirrored queues; marks of the light and of the converters; a resync replaces
the store and the queues and ends with the standby synced. An engine that is no standby takes none of them (R428,
R431). -/
def Obligations.PairMirroring : Prop :=
  ∀ (s : State) (addr : BitVec 14) (word : BitVec 16) (r : List Byte) (l : LinkId) (n : Word) (drop : Option Word)
    (m : LightMark) (a : SenseMark) (c : Resync),
    let x := s.pair
    let stays := fun e : Word => !(match drop with | some d => decide (e = d) | none => atOrBefore e n)
    (s.standby = false → exec (.pairDecision addr word r) s = .next s ∧ exec (.pairRecord r) s = .next s ∧
      exec (.pairAckMark l n drop) s = .next s ∧ exec (.pairLightMark m) s = .next s ∧
      exec (.pairSenseMark a) s = .next s ∧ exec .pairResyncStart s = .next s ∧ exec (.pairResyncEnd c) s = .next s) ∧
    (s.standby = true →
      (s.getF Fld.recLinks = 0 → Does (.pairDecision addr word r) s fun u =>
        u = { s with
          vs := u.vs, fields := u.fields, pair := { x with lastMirrored := recSeq r }
          former := { s.former with held := s.former.held.filter fun q =>
            !(recType q == 1 && recCtx q == recCtx r && recFidx q == recFidx r) } } ∧
        u.storeAt addr = word ∧ u.storeOwner addr = recFidx r ∧ ∀ b, b ≠ addr → u.storeAt b = s.storeAt b) ∧
      (s.getF Fld.recLinks = 1 → s.enabledAt Fld.usbEnable = true → queueFull s.usb.queue r.length = false →
        Does (.pairRecord r) s fun u => u = { s with
          pair := { x with lastMirrored := recSeq r }, usb := { s.usb with queue := s.usb.queue ++ [⟨r, false⟩] } }) ∧
      (Does (.pairAckMark .usb n drop) s fun u =>
        u = { s with usb := { s.usb with queue := s.usb.queue.filter fun e => stays (recSeq e.bytes) } }) ∧
      (Does (.pairAckMark .ser n drop) s fun u =>
        u = { s with ser := { s.ser with queue := s.ser.queue.filter fun e => stays (recSeq e.rec2) } }) ∧
      (Does (.pairAckMark .gw n drop) s fun u =>
        u = { s with fab := { s.fab with gw := s.fab.gw.filter fun e => stays (recSeq e.bytes) } }) ∧
      (Does (.pairLightMark m) s fun u =>
        u = { s with fields := u.fields, light := u.light, balls := { s.balls with ltFaultLow := u.balls.ltFaultLow } } ∧
        ((∃ w ∈ m.failed, w ≠ 0) ∨ m.pinFail ≠ 0 ∨ m.pinFailLn ≠ 0 → u.balls.ltFaultLow = true) ∧
        (s.balls.ltFaultLow = true → u.balls.ltFaultLow = true) ∧ u.light.courseFrom = m.at_ ∧
        (s.enabledAt Fld.lightEnable = true → m.wait = true → u.light.stage = .wait ∧ u.light.course = none) ∧
        (s.enabledAt Fld.lightEnable = true → m.wait = false → u.light.stage = .active ∧
          u.light.course = some ⟨m.entry, m.line, m.len, m.blank, m.disch, m.dark, m.slot⟩) ∧
        u.light.tf = m.tf ∧ u.light.darkCount = m.darkCount ∧ u.light.derateFlag = m.flag ∧
        u.getF Fld.lightKilled = m.killed ∧ u.getF Fld.lightPinFail = m.pinFail ∧
        (∀ g : GroupId, u.light.armed[g] = m.armed.getD g.val 0 ∧
          u.getN (Fld.lightCrvLvl g.val) = m.levels.getD g.val 0 % 2 ^ 32)) ∧
      (Does (.pairSenseMark a) s fun u => u = { s with adcA := u.adcA, adcB := u.adcB, amb := u.amb } ∧
        u.adcA = { s.adcA with acc := u.adcA.acc } ∧ u.adcB = { s.adcB with acc := u.adcB.acc } ∧
        u.amb.age = a.age ∧ u.amb.stale = a.stale ∧ u.amb.freshCount = a.freshCount ∧
        ∀ (i : Fin 16) (k : AccumMark),
          (a.accA[i.val]? = some k → u.adcA.acc[i] = ⟨k.sum, k.count, k.min, k.max, k.sat, k.out⟩) ∧
          (a.accB[i.val]? = some k → u.adcB.acc[i] = ⟨k.sum, k.count, k.min, k.max, k.sat, k.out⟩)) ∧
      (Does .pairResyncStart s fun u =>
        u = { s with fields := u.fields, pair := { x with resync := true, synced := false } } ∧
        Counted s u Fld.pairResyncCount []) ∧
      (x.resync = false → exec (.pairResyncEnd c) s = .next s) ∧
      (x.resync = true → (c.store.map (·.1)).Nodup → (∀ e ∈ c.store, e.1 < 16384) → s.getF Fld.recLinks = 0 →
        Does (.pairResyncEnd c) s fun u =>
        u.pair = { x with resEnd := c.resEnd, lastMirrored := c.last, resync := false, synced := true } ∧
        u.usb.queue = [] ∧ u.ser.queue = [] ∧ u.fab.gw = [] ∧ CoreFrame s u ∧ u.trowels = s.trowels ∧
        (∀ e ∈ c.store, u.storeAt (BitVec.ofNat 14 e.1) = e.2.1) ∧
        (∀ b : BitVec 14, (∀ e ∈ c.store, e.1 ≠ b.toNat) → u.storeAt b = 0)))

/-- Takeover: a standby that is armed takes over when the heartbeat falls silent, with cause 3 after STEP_DOWN, and when a
FAULT message arrives, with cause 2; bit 7 of the cause says that it was unsynced. It is then active, numbers its gap
record after the reservation, raises TAKEOVER, freezes its black box, and joins the courses dark until the test of Table LM.6
lets it light (log entry 76). A disarmed standby only sees the heartbeat
lost (R432, R433). -/
def Obligations.PairTakeover : Prop :=
  ∀ (s : State) (t : TrowelId) (code : Nat),
    let x := s.pair
    let gap := x.resEnd + 1 + (if x.synced then 0 else 1073741824)
    let taken := fun (u : State) =>
      u.pair.mode = .active ∧ u.pair.lastUnsynced = !x.synced ∧ u.pair.synced = false ∧ u.pair.activeFrom = some s.time.ns ∧
      u.former.held = [] ∧ u.light.joinFrom = some s.time.ns ∧ (∀ q : TrowelId, (u.trowels[q]).pending.getLsbD 11 = true) ∧
      (s.bbWrites = true → u.bb.frozen = true ∧ u.bb.freezeCause = 4) ∧
      u.getN Fld.pairTakeoverCount = min 65535 (s.getN Fld.pairTakeoverCount + 1) ∧ EventsOnly s u ∧
      u.boot = s.boot ∧ u.sys = s.sys ∧ u.aon = s.aon ∧ u.vs = s.vs
    s.pairAwake = true → x.mode = .standby → s.phase ≠ .sleepEntry →
    (x.linkUp = true → Does .pairStepDown s fun u => u = { s with pair := { x with stepDown := true } }) ∧
    (x.disarmed = true ∨ s.getB Fld.pairArm 0 = false →
      (Does .hbLost s fun u => u = { s with pair := { x with hbSeen := false, conflict := false }, trowels := u.trowels } ∧
        Raised s u 3 26) ∧
      exec (.pairFault t code) s = .next s) ∧
    (x.disarmed = false → s.getB Fld.pairArm 0 = true → s.former.held = [] →
      (x.linkUp = false → s.enabledAt Fld.recEnable = true → s.getF Fld.recLinks = 0 → Does .hbLost s fun u =>
        taken u ∧ u.former.seqNext = gap + 1 ∧ u.pair.blockEnd = gap - 1) ∧
      (x.linkUp = true → x.hello = none → s.enabledAt Fld.recEnable = false → Does (.pairFault t code) s fun u =>
        taken u ∧ u.former.seqNext = gap ∧
        u.pair.out = x.out ++ [(x.txSeq, .takeover (if x.synced then 2 else 130) gap)]))

/-! ### The mortar fabric -/

/-- Mortar links: HELLO frames bring a port up, one lane alone degraded; frames sent wait for their acknowledgement, in
order; a port that goes down is counted and gives its messages back; ANNOUNCE frames enter the database, leave it when
their node is no longer heard, and each change is an event; disabling a port makes it idle (R440, R443 to R446, R463).
-/
def Obligations.MortarLinks : Prop :=
  ∀ (s : State) (t : TrowelId) (m : MorId) (serial : BitVec 64) (l0 l1 ex po : Bool) (q : BitVec 16) (a : Announce)
    (i : LinkItem) (v : Word),
    let p := s.fab.ports[m]
    let port := fun (y : MorPort) => { s.fab with ports := s.fab.ports.set m.val y m.isLt }
    (Takes s t (Fld.morEnable m) → s.shadow = [] →
      (v.getLsbD 0 = true → Does (.morEnableWrite t m v) s fun u =>
        u = { s with fields := u.fields } ∧ u.morRuns m = true ∧ FieldsKept s u [Fld.morEnable m]) ∧
      (v.getLsbD 0 = false → p.up = false → Does (.morEnableWrite t m v) s fun u =>
        u = { s with fields := u.fields, fab := port MorPort.idle } ∧ u.morRuns m = false ∧
        FieldsKept s u [Fld.morEnable m])) ∧
    (s.morAwake m = true → p.up = false →
      (p.helloSent = false → Does (.linkHello m serial l0 l1 ex po) s fun u => u = { s with fab := port { p with
        peer := some serial, lock0 := l0, lock1 := l1, exch := ex, pol := po, helloSeen := true } }) ∧
      (p.helloSent = true → s.fab.wait = [] → s.usb.taps = [] → Does (.linkHello m serial true true ex po) s fun u =>
        (u.fab.ports[m]).up = true ∧ (u.fab.ports[m]).degraded = false ∧ (u.fab.ports[m]).peer = some serial ∧
        u.fab.annNum = s.fab.annNum + 1 ∧ Raised s u 3 22 ∧ u = { s with fab := u.fab, trowels := u.trowels }) ∧
      (p.helloSeen = false → Does (.linkHelloPeriod m) s fun u =>
        u = { s with fab := port { p with helloSent := true } }) ∧
      (s.fab.wait = [] → s.usb.taps = [] → Does (.portDegraded m l0) s fun u =>
        (u.fab.ports[m]).up = true ∧ (u.fab.ports[m]).degraded = true ∧ (u.fab.ports[m]).lock0 = !l0 ∧
        (u.fab.ports[m]).lock1 = l0 ∧ u.fab.annNum = s.fab.annNum + 1 ∧ Raised s u 3 22 ∧
        u = { s with fab := u.fab, trowels := u.trowels, bb := u.bb })) ∧
    (s.morLive m = true →
      (Does (.linkFrame m q i false) s fun u => u = { s with fields := u.fields } ∧ Counted s u (Fld.morCrcErrCount m) []) ∧
      (q ≠ p.rxSeq → exec (.linkFrame m q i true) s = .next s) ∧
      (Does (.linkFrame m p.rxSeq (.announce a) true) s fun u =>
        u = { s with fab := { port { p with rxSeq := p.rxSeq + 1 } with annIn := s.fab.annIn ++ [(m, a)] } }) ∧
      (∀ (e f : List (BitVec 16 × LinkItem)), p.out = e ++ (q, i) :: f → (∀ k ∈ e, k.1 ≠ q) →
        Does (.linkAck m q) s fun u => u = { s with fab := port { p with out := f } }) ∧
      ((∀ k ∈ p.out, k.1 ≠ q) → Does (.linkAck m q) s fun u => u = s) ∧
      (p.out ≠ [] → Does (.linkRetransmit m) s fun u =>
        u = { s with fields := u.fields } ∧ Counted s u (Fld.morRetxCount m) []) ∧
      (s.usb.taps = [] → (∀ n : MorId, n ≠ m → (s.fab.ports[n]).up = false) → Does (.portDown m) s fun u =>
        u = { s with fab := u.fab, trowels := u.trowels, fields := u.fields, bb := u.bb } ∧ u.fab.ports[m] = MorPort.idle ∧
        u.fab.wait = p.out.filterMap (fun e => match e.2 with | .msg x => some x | .announce _ => none) ++ p.queue ++
          s.fab.wait ∧
        Raised s u 3 22 ∧ Counted s u (Fld.morDownCount m) [])) ∧
    (s.morLive m = false → exec (.linkFrame m q i true) s = .next s ∧ exec (.portDown m) s = .next s) ∧
    (s.fab.annIn = [(m, a)] → a.serial ≠ s.identity.serial → (∀ n ∈ s.fab.nodes, n.serial ≠ a.serial) →
      a.id = none → a.bindings = [] → 8 ≤ a.hops → Does .announce s fun u =>
        u = { s with fab := { s.fab with annIn := [], nodes := u.fab.nodes }, trowels := u.trowels } ∧
        u.fab.nodes = s.fab.nodes ++ [a] ∧ Raised s u 3 22) ∧
    (s.fab.annIn = [(m, a)] → a ∈ s.fab.nodes → (s.fab.nodes.map (·.serial)).Nodup → Does .announce s fun u =>
      u = { s with fab := { s.fab with annIn := [] } }) ∧
    (s.anyMor = true → s.boot.started = true → (∀ n : MorId, (s.fab.ports[n]).up = false) → Does .announcePeriod s fun u =>
      u = { s with fab := { s.fab with annNum := s.fab.annNum + 1 } }) ∧
    (s.anyMor = true → s.boot.started = true → p.up = true → Does .announcePeriod s fun u =>
      u = { s with fab := u.fab } ∧ ∃ b : Announce, (u.fab.ports[m]).out = p.out ++ [(p.txSeq, .announce b)] ∧
        b.serial = s.identity.serial ∧ b.id = s.fab.id ∧ b.num = s.fab.annNum + 1 ∧ b.hops = 1) ∧
    ((∃ n ∈ s.fab.nodes, n.serial = serial) → Does (.announceAgeOut serial) s fun u =>
      u = { s with fab := { s.fab with nodes := s.fab.nodes.filter fun n => n.serial != serial }, trowels := u.trowels } ∧
      Raised s u 3 22) ∧
    ((∀ n ∈ s.fab.nodes, n.serial ≠ serial) → exec (.announceAgeOut serial) s = .next s)

/-- Link delay and fabric time: each exchange measures the delay ((t4 − t1) − (t3 − t2)) / 2, MOR.DELAY_NS is the mean of
the last 16; a valid TIME frame on the time port is a fabric sample once 16 delays are measured; an invalid one, one
on another port, and one at the grandmaster give none (R473 to R475). -/
def Obligations.MortarTime : Prop :=
  ∀ (s : State) (m : MorId) (t1 t2 t3 t4 ns : Nat) (gm : Option (BitVec 6)) (valid : Bool) (ofs : Int),
    let p := s.fab.ports[m]
    let port := fun (y : MorPort) => { s.fab with ports := s.fab.ports.set m.val y m.isLt }
    s.morLive m = true →
    (Does (.delayExchangePeriod m) s fun u => u = { s with fab := port { p with
      sentReq := some s.time.ns, sentTime := some s.timeFrame } }) ∧
    (s.isGm = true → s.timeFrame = (true, s.time.ns, 0)) ∧
    (s.isGm = false → s.timeFrame.1 = s.time.fabric.qualified) ∧
    (Does (.delayReq m) s fun u => u = { s with fab := port { p with sentResp := some s.time.ns } }) ∧
    (Does (.delayResp m t1 t2 t3 t4) s fun u =>
      let l := ((((t4 : Int) - t1) - ((t3 : Int) - t2)) / 2 :: p.delays).take 16
      u = { s with fields := u.fields, fab := port { p with delays := l } } ∧
      u.getN (Fld.morDelayNs m) = min 65535 (l.sum / l.length).toNat ∧
      ∀ b, b ≠ Fld.morDelayNs m → u.getF b = s.getF b) ∧
    (valid = false ∨ s.timePort ≠ some m ∨ p.delays.length < 16 ∨ s.isGm = true →
      exec (.fabricTimeFrame m gm valid ns ofs) s = .next s) ∧
    (valid = true → s.timePort = some m → 16 ≤ p.delays.length → s.isGm = false → s.timeTakes = true →
      s.ranking.contains .fabric = true → s.time.fabric.seed = none → s.time.sel ≠ .fabric → s.time.mode ≠ .holdover →
      Does (.fabricTimeFrame m gm valid ns ofs) s fun u =>
        let r : Int := ns + ofs + s.getN (Fld.morDelayNs m)
        u = { s with time := { s.time with fabric := u.time.fabric } } ∧ u.time.fabric.qualified = false ∧
        u.time.fabric.seed = some (s.time.xref, 4 * r) ∧ u.time.fabric.lastO = r * 4294967296 - s.time.fine)

/-- A message on a link: sent on by its route at once where the port has nothing waiting and a lane free, queued at the port where
not, or kept waiting for a route, or delivered here, where the flow takes the
expected one, drops a duplicate, and answers BROKEN for a flow it does not know; routes and trowel words written by
the Link trowel; a gap that stays open breaks its flow; a message without a route is discarded in the end (R451, R453,
R455, R458 to R461, R472). In each CORE cycle a port sends what its lanes take: of the messages waiting the oldest of class 1, but
of class 2 where seven slots in a row have passed it by, and of class 3 where fourteen have; class 2 and then class 3 where none of
a class before waits (R38; log entry 82). -/
def Obligations.MortarMessages : Prop :=
  ∀ (s : State) (t : TrowelId) (m e : MorId) (x : MorMsg) (f : InFlow) (v w : Word) (d : BitVec 6) (k : Byte)
    (q : List (BitVec 6 × Word)),
    let p := s.fab.ports[m]
    let seen := { s.fab with ports := s.fab.ports.set m.val { p with rxSeq := p.rxSeq + 1 } m.isLt }
    (s.morLive m = true →
      (s.fab.id ≠ some x.dst → x.hop.toNat < 8 → s.egress x.dst = some e → e ≠ m →
        let y := s.fab.ports[e]
        let raised := { x with hop := x.hop + 1 }
        let free := s.time.core + laneCycles raised
        (y.queue = [] → y.laneReady s.time.core = true → Does (.linkFrame m p.rxSeq (.msg x) true) s fun u =>
          u = { s with fields := u.fields, fab := u.fab } ∧
          u.fab = { seen with ports := seen.ports.set e.val { y with
            out := y.out ++ [(y.txSeq, .msg raised)], txSeq := y.txSeq + 1, skipped2 := 0, skipped3 := 0
            laneFree := if y.laneTurn then (y.laneFree.1, free) else (free, y.laneFree.2)
            laneTurn := if y.degraded then y.laneTurn else !y.laneTurn } e.isLt } ∧
          u.getF Fld.morFwdCount = s.getF Fld.morFwdCount + 1) ∧
        (y.laneReady s.time.core = false → Does (.linkFrame m p.rxSeq (.msg x) true) s fun u =>
          u = { s with fields := u.fields, fab := u.fab } ∧
          u.fab = { seen with ports := seen.ports.set e.val { y with queue := y.queue ++ [raised] } e.isLt } ∧
          u.getF Fld.morFwdCount = s.getF Fld.morFwdCount + 1)) ∧
      (s.fab.id ≠ some x.dst → x.hop.toNat < 8 → s.egress x.dst = none →
        Does (.linkFrame m p.rxSeq (.msg x) true) s fun u =>
          u = { s with fields := u.fields, fab := { seen with wait := s.fab.wait ++ [{ x with hop := x.hop + 1 }] } }) ∧
      (s.fab.id = some x.dst → morValid x = false → Does (.linkFrame m p.rxSeq (.msg x) true) s fun u =>
        u = { s with fields := u.fields, fab := seen } ∧ Counted s u Fld.morKindDropCount []) ∧
      (s.fab.id = some x.dst → morValid x = true → s.fab.inFlow x.src x.cls = some f → f.expect = some x.seq →
        f.waiting = [] → f.frags = [] → x.restart = false → x.more = false →
        Does (.linkFrame m p.rxSeq (.msg x) true) s fun u =>
          u = { s with fields := u.fields, fab := u.fab } ∧
          u.fab = { seen with
            inFlows := (s.fab.inFlows.filter fun g => !(g.src == f.src && g.cls == f.cls))
              ++ [{ f with expect := some (x.seq + 1) }]
            inbox := s.fab.inbox ++ [(x.src, x.kind, x.payload)] }) ∧
      (s.fab.id = some x.dst → morValid x = true → s.fab.inFlow x.src x.cls = some f → f.expect = some (x.seq + 1) →
        x.restart = false → Does (.linkFrame m p.rxSeq (.msg x) true) s fun u =>
          u.fab.inbox = s.fab.inbox ∧ u.getN Fld.morDupCount = min 65535 (s.getN Fld.morDupCount + 1))) ∧
    (let waits := fun (c : Byte) => ∃ y ∈ p.queue, y.cls = c
     (waits 2 → 7 ≤ p.skipped2 → p.nextClass = 2) ∧
     (waits 3 → 14 ≤ p.skipped3 → ¬ (waits 2 ∧ 7 ≤ p.skipped2) → p.nextClass = 3) ∧
     (¬ (waits 2 ∧ 7 ≤ p.skipped2) → ¬ (waits 3 ∧ 14 ≤ p.skipped3) → (waits 1 → p.nextClass = 1) ∧
       (¬ waits 1 → waits 2 → p.nextClass = 2) ∧ (¬ waits 1 → ¬ waits 2 → waits 3 →
         (∀ y ∈ p.queue, y.cls = 3) → p.nextClass = 3)) ∧
     (s.pending = [] → s.phase = .running → s.time.mode ≠ .slewing → p.up = true →
       (p.queue = [] ∨ p.laneReady (s.time.core + 1) = false → ∃ u, step s = .next u ∧ u.fab.ports[m] = p) ∧
       (p.degraded = true → p.laneReady (s.time.core + 1) = true → p.queue ≠ [] → ∃ u, step s = .next u ∧
         ∃ (i : Nat) (y : MorMsg), p.queue[i]? = some y ∧ y.cls = p.nextClass ∧ (∀ z ∈ p.queue.take i, z.cls ≠ y.cls) ∧
           (u.fab.ports[m]).out = p.out ++ [(p.txSeq, .msg y)] ∧ (u.fab.ports[m]).queue = p.queue.eraseIdx i))) ∧
    (s.fab.inFlow d k = some f → f.waiting ≠ [] → Does (.flowBroken d k) s fun u =>
      (s.boot.started = true → (u.trowels[(3 : TrowelId)]).pending.getLsbD 23 = true) ∧ EventsOnly s u ∧
      u.getN Fld.morBrokenCount = min 65535 (s.getN Fld.morBrokenCount + 1) ∧
      (s.fab.id = none → u.fab.inFlow d k = some { f with expect := none, waiting := [], frags := [], brokenSent := true })) ∧
    (s.fab.inFlow d k = none → exec (.flowBroken d k) s = .next s) ∧
    (s.fab.wait = [x] → s.fab.id ≠ some x.src → Does (.unreachableExpiry x.dst) s fun u =>
      u = { s with fields := u.fields, fab := { s.fab with wait := [] } } ∧ Counted s u Fld.morUnreachDropCount []) ∧
    (Takes s t (Fld.morRoute d.toNat) → s.shadow = [] → s.fab.wait = [] → s.usb.taps = [] →
      Does (.routeWrite t d v) s fun u => u = { s with fields := u.fields } ∧ u.route d = v &&& 0x3F ∧
        FieldsKept s u [Fld.morRoute d.toNat]) ∧
    (Takes s t Fld.morTxMsg → s.shadow = [] → s.anyMor = true → s.fab.id = some d →
      (s.getF Fld.morTxDest).setWidth 6 ≠ d → s.egress ((s.getF Fld.morTxDest).setWidth 6) = none →
      Does (.morTxMsgWrite t v) s fun u => u = { s with fab := u.fab } ∧ ∃ y : MorMsg,
        u.fab.wait = s.fab.wait ++ [y] ∧ y.kind = 5 ∧ y.cls = 1 ∧ y.src = d ∧ y.hop = 1 ∧ y.more = false ∧
        y.dst = (s.getF Fld.morTxDest).setWidth 6 ∧ y.payload = leBytes 4 v.toNat ∧ morValid y = true) ∧
    (Takes s t Fld.morRxAck → s.shadow = [] → v.getLsbD 0 = true → s.fab.words = (d, w) :: q →
      Does (.morRxAckWrite t v) s fun u => u = { s with fab := { s.fab with words := q } })

/-- Units that the fabric has delivered, oldest first: a record enters the forward queue within the 32 KiB of its origin,
DELIVERED frees the gateway's records, a joint sample reaches the cluster of an active engine, a tap packet leaves
marked with its origin or is counted, a trowel's word is held (8 at most), BROKEN makes its flow restart; without
progress the gateway link sends again (R462, R465 to R472). -/
def Obligations.MortarDelivered : Prop :=
  ∀ (s : State) (src : BitVec 6) (b : List Byte) (rest : List (BitVec 6 × Byte × List Byte)),
    let x := s.fab
    (x.inbox = (src, 1, b) :: rest →
      (x.fwdBytes src + b.length ≤ 32768 → s.usbStreams = false → Does .morRecord s fun u =>
        u = { s with fab := { x with inbox := rest, fwd := x.fwd ++ [(src, b)] } }) ∧
      (32768 < x.fwdBytes src + b.length → Does .morRecord s fun u => u = { s with fab := { x with inbox := rest } })) ∧
    (x.inbox = (src, 2, b) :: rest → s.pair.mode ≠ .active → s.gateway = none → Does .morDelivered s fun u =>
      let n := BitVec.ofNat 32 (leAt b 0 4)
      u = { s with fab := { x with
        inbox := rest, gw := u.fab.gw, gwNext := u.fab.gwNext
        delivered := if x.deliveredAny && precedes n x.delivered then x.delivered else n, deliveredAny := true } } ∧
      u.fab.gw = x.gw.filter fun e => !(e.sent && atOrBefore (recSeq e.bytes) n)) ∧
    (x.inbox = (src, 3, b) :: rest →
      (s.jointOn = true → Does .morJoint s fun u =>
        u = { s with fab := { x with inbox := rest }, dec := { s.dec with jxIn := s.dec.jxIn ++ [(src, b)] } }) ∧
      (s.jointOn = false → Does .morJoint s fun u => u = { s with fab := { x with inbox := rest } })) ∧
    (x.inbox = (src, 4, b) :: rest →
      (s.tapDestLive none = true → Does .morTap s fun u =>
        u = { s with fab := { x with inbox := rest }, usb := { s.usb with taps := u.usb.taps } } ∧
        ∃ y : TapPkt, u.usb.taps = s.usb.taps ++ [y] ∧ y.dest = none ∧ y.forwarded = true ∧
          y.bytes = b.set 3 ((b.getD 3 0 &&& 1) ||| 0x80 ||| (src.setWidth 8 <<< 1))) ∧
      (s.tapDestLive none = false → Does .morTap s fun u =>
        u = { s with fields := u.fields, fab := { x with inbox := rest } } ∧ Counted s u Fld.morTapDiscardCount [])) ∧
    (x.inbox = (src, 5, b) :: rest →
      (x.words.length < 8 → Does .morTrowel s fun u =>
        u = { s with fab := { x with inbox := rest, words := x.words ++ [(src, BitVec.ofNat 32 (leAt b 0 4))] } }) ∧
      (8 ≤ x.words.length → Does .morTrowel s fun u =>
        u = { s with fields := u.fields, fab := { x with inbox := rest } } ∧ Counted s u Fld.morMsgDropCount [])) ∧
    (x.inbox = (src, 6, b) :: rest → s.gateway = none → Does .morBroken s fun u =>
      u = { s with fab := { x with inbox := rest, outFlows := u.fab.outFlows } } ∧
      u.fab.outFlow src (b.getD 0 0) = { x.outFlow src (b.getD 0 0) with restart := true }) ∧
    (x.inbox = [] → exec .morRecord s = .next s ∧ exec .morDelivered s = .next s ∧ exec .morJoint s = .next s ∧
      exec .morTap s = .next s ∧ exec .morTrowel s = .next s ∧ exec .morBroken s = .next s) ∧
    (x.gwNext = 0 → exec .gatewayProgressTimeout s = .next s) ∧
    (x.gwNext ≠ 0 → s.gateway = none → Does .gatewayProgressTimeout s fun u => u = { s with fab := { x with gwNext := 0 } }) ∧
    (∀ (d : BitVec 6) (r : QRec), x.gwNext = 1 → s.gateway = some d → x.gw = [r] → s.egress d = none →
      Does .gatewayProgressTimeout s fun u => u.fab.gwNext = 1 ∧ ∃ y : MorMsg, u.fab.wait = x.wait ++ [y] ∧
        y.restart = true ∧ y.kind = 1 ∧ y.cls = 2 ∧ y.dst = d ∧ y.payload = r.bytes)

/-! ### Trowel words, and what links may change -/

/-- A trowel word and the instruction it spells determine each other: decoding an encoded instruction gives it back, and
every word that decodes is the encoding of its instruction. -/
def Obligations.TrowelWordsRoundTrip : Prop :=
  (∀ (i : Instr) (w : Word), encodeTrowel i = some w → ∃ t : TrowelId, decodeTrowel t w = some i) ∧
  (∀ (t : TrowelId) (w : Word) (i : Instr), decodeTrowel t w = some i → encodeTrowel i = some w)

/-- Words written out from Tables TW.9 to TW.11 decode to the instructions they stand for, and words of opcode 0, of an
opcode above 56, with a reserved bit set or with condition 15 to none. -/
def Obligations.TrowelWordsDecode : Prop :=
  decodeTrowel 0 0b000001_0001_0010_0011_00000000000000 = some (.add 0 1 2 3) ∧
  decodeTrowel 1 0b010010_0101_0110_111111111111111111 = some (.addi 1 5 6 0x3FFFF) ∧
  decodeTrowel 2 0b011011_0001_0010_0000_0000_00111_00100 = some (.ext 2 1 2 4 7) ∧
  decodeTrowel 3 0b100010_0010_0000_0000_00_000000000011 = some (.bCond 3 .ne 3) ∧
  decodeTrowel 0 0b101001_0011_0100_00_0001000000000010 = some (.fstx 0 3 4 0x1002) ∧
  decodeTrowel 0 0b000000_0000_0000_0000_00000000000000 = none ∧
  decodeTrowel 0 0b111001_0000_0000_0000_00000000000000 = none ∧
  decodeTrowel 0 0b000001_0001_0010_0011_00000000000001 = none ∧
  decodeTrowel 0 0b100010_1111_0000_0000_00_000000000011 = none

/-- What arrives on a link changes no configuration field, trowel program, recipe, selected scene, lamp output, converter
sequence or watch list: fields change only where they are read-only, trowels only by their events. -/
def Obligations.LinksChangeNoConfiguration : Prop :=
  ∀ (c : Instr) (s u : State), linkReceives c = true → exec c s = .next u →
    (∀ (a : Nat) (r : FieldRow), fieldRow a = some r → r.cls ≠ .ro → u.getF a = s.getF a) ∧
    u.shadow = s.shadow ∧ EventsOnly s u ∧ u.boot = s.boot ∧ u.sys = s.sys ∧ LightFrame s u ∧
    u.former.watch = s.former.watch

/-! ### Rules stated whole -/

/-- The program counter is 12 bits wide, and after address 4095 it continues at address 0. -/
def Obligations.ProgramCounterWraps : Prop :=
  ∀ (s : State) (t : TrowelId), ((s.trowels[t]).pc).toNat < 4096 ∧
    (s.executes t = true → (s.trowels[t]).pc = 4095 → MakesTrowel (.nop t) s t { s.trowels[t] with pc := 0 })

/-- A CALL with 8 entries on the return stack and a RET with none are trowel faults; a data-memory address is the sum's
bits [10:0], whatever its upper bits. -/
def Obligations.StackFaultsAndDataAddresses : Prop :=
  ∀ (s : State) (t : TrowelId) (rd ra : RegId) (k : Cond) (target : BitVec 12) (imm : BitVec 18), s.executes t = true →
    let x := s.trowels[t]
    let adr := BitVec.ofNat 11 (((x.rd ra).toNat + (imm.signExtend 32).toNat) % 2048)
    let faults := fun (c : Instr) => Does c s fun u =>
      u.phase = .halted ∧ u.balls.faultLow = true ∧ ∀ o : TrowelId, (u.trowels[o]).status = .stopped
    (x.cond k = true → x.rstack.length = 8 → faults (.callCond t k target)) ∧
    (x.rstack = [] → faults (.ret t)) ∧
    (x.dataErr = [] → GivesResult (.ld t rd ra imm) s t rd (sparseGet (fun _ => 0) x.dmem adr.toNat) x.c x.v) ∧
    Does (.st t rd ra imm) s fun u => ∀ b : BitVec 11,
      sparseGet (fun _ => 0) (u.trowels[t]).dmem b.toNat =
        if b = adr then x.rd rd else sparseGet (fun _ => 0) x.dmem b.toNat

/-- The source of a message sets its hop count to 1; every node that forwards it raises the count by 1: the port it leaves by has
the raised message, waiting or sent, and no other message more; a message with count 8 that is not addressed to the node is
discarded and counted. -/
def Obligations.HopCounts : Prop :=
  ∀ (s : State) (m e : MorId) (x : MorMsg) (d : BitVec 6) (c k : Byte) (more : Bool) (l : List Byte),
    let p := s.fab.ports[m]
    let ports := s.fab.ports.set m.val { p with rxSeq := p.rxSeq + 1 } m.isLt
    let msgs := fun (y : MorPort) =>
      y.queue ++ y.out.filterMap fun i => match i.2 with | .msg z => some z | .announce _ => none
    (s.compose d c k more l).1.hop = 1 ∧
    (s.morLive m = true → s.fab.id ≠ some x.dst →
      (x.hop.toNat < 8 → s.egress x.dst = some e → e ≠ m →
        Does (.linkFrame m p.rxSeq (.msg x) true) s fun u =>
          (msgs (u.fab.ports[e])).Perm ({ x with hop := x.hop + 1 } :: msgs (s.fab.ports[e]))) ∧
      (x.hop = 8 → Does (.linkFrame m p.rxSeq (.msg x) true) s fun u =>
        u = { s with fields := u.fields, fab := { s.fab with ports := ports } } ∧ Counted s u Fld.morHopDropCount []))

/-- The entry of a frame index has bits [13:11] of its query address from the context and bits [10:0] from the frame
index: 2048 entries for each context, 16 384 in all. -/
def Obligations.QueryAddresses : Prop :=
  (∀ (k : CtxId) (f : Word), (queryAddr k f).toNat = k.val * 2048 + f.toNat % 2048) ∧
  (∀ a : BitVec 14, ∃ (k : CtxId) (f : Word), queryAddr k f = a) ∧
  (∀ (j k : CtxId) (f g : Word), queryAddr j f = queryAddr k g ↔ j = k ∧ f.setWidth 11 = g.setWidth 11)
end

