-- ==== Sys2Proof/Laws/Access.lean ====
section
/-! SUPPORT. What a field write does at its unit, once for every write command. -/

namespace Sys2Proof.Machine

/-- Where a unit takes a write that stands alone, the write's arrival is its acceptance. -/
theorem State.arrive_of_takes {s : State} {t : TrowelId} {a : Nat} (h : Takes s t a) (ha : a < 65536) (v : Word) :
    s.arrive t (BitVec.ofNat 16 a) v = s.accept t a v := by
  have e : (BitVec.ofNat 16 a).toNat = a := by simp; omega
  have n : (s.trowels[t].wq.find? fun x => decide (x.unit = unitOf a) && x.answer.isNone) = none := by
    rw [List.find?_eq_none]
    intro x hx
    by_cases hu : x.unit = unitOf a
    · have := h.alone x hx hu
      cases hq : x.answer <;> simp_all
    · simp [hu]
  simp only [State.arrive, e, h.awake, h.started, n, State.receiveWrite, h.present, h.accepted]
  simp [State.refuseAll]

/-- An accepted write of a field that has no apply set, or whose unit does not run, takes effect at once. -/
theorem State.accept_now {s : State} {t : TrowelId} {a : Nat} {v : Word} {r : FieldRow} (hr : fieldRow a = some r)
    (hw : s.widens a (cutToWidth r v) = none) (ho : s.turnedOff a = false)
    (hn : s.runsAt a = false ∨ setOf a = none) :
    s.accept t a v = (s.applyNow t a (cutToWidth r v)).applyStopped := by
  have hs : (if s.runsAt a then setOf a else none) = none := by rcases hn with h | h <;> simp [h]
  simp [State.accept, hr, hw, ho, hs]

/-- Where nothing waits for a boundary, no pending write is applied. -/
theorem State.applyPending_nil {s : State} (h : s.shadow = []) (p : Pend → Bool) : s.applyPending p = s := by
  cases s; simp_all [State.applyPending]

/-- With nothing pending, stopping a unit applies nothing. -/
theorem State.applyStopped_nil {s : State} (h : s.shadow = []) : s.applyStopped = s := State.applyPending_nil h _

end Sys2Proof.Machine
end

