-- ==== Sys2Proof/Laws/Lift.lean ====
section
/-! SUPPORT. Each part of the state under a conditional and under a fold. -/

namespace Sys2Proof.Machine
@[simp] theorem ite_pending (p : Prop) [Decidable p] (a b : State) : (if p then a else b).pending = if p then a.pending else b.pending := apply_ite _ _ _ _
@[simp] theorem foldl_pending {β : Type} (g : State → β → State) (h : ∀ s x, (g s x).pending = s.pending) (l : List β) (s : State) : (l.foldl g s).pending = s.pending := by
  induction l generalizing s with
  | nil => rfl
  | cons x l ih => simp [ih, h]
@[simp] theorem ite_identity (p : Prop) [Decidable p] (a b : State) : (if p then a else b).identity = if p then a.identity else b.identity := apply_ite _ _ _ _
@[simp] theorem foldl_identity {β : Type} (g : State → β → State) (h : ∀ s x, (g s x).identity = s.identity) (l : List β) (s : State) : (l.foldl g s).identity = s.identity := by
  induction l generalizing s with
  | nil => rfl
  | cons x l ih => simp [ih, h]
@[simp] theorem ite_aon (p : Prop) [Decidable p] (a b : State) : (if p then a else b).aon = if p then a.aon else b.aon := apply_ite _ _ _ _
@[simp] theorem foldl_aon {β : Type} (g : State → β → State) (h : ∀ s x, (g s x).aon = s.aon) (l : List β) (s : State) : (l.foldl g s).aon = s.aon := by
  induction l generalizing s with
  | nil => rfl
  | cons x l ih => simp [ih, h]
@[simp] theorem ite_pins (p : Prop) [Decidable p] (a b : State) : (if p then a else b).pins = if p then a.pins else b.pins := apply_ite _ _ _ _
@[simp] theorem foldl_pins {β : Type} (g : State → β → State) (h : ∀ s x, (g s x).pins = s.pins) (l : List β) (s : State) : (l.foldl g s).pins = s.pins := by
  induction l generalizing s with
  | nil => rfl
  | cons x l ih => simp [ih, h]
@[simp] theorem ite_phase (p : Prop) [Decidable p] (a b : State) : (if p then a else b).phase = if p then a.phase else b.phase := apply_ite _ _ _ _
@[simp] theorem foldl_phase {β : Type} (g : State → β → State) (h : ∀ s x, (g s x).phase = s.phase) (l : List β) (s : State) : (l.foldl g s).phase = s.phase := by
  induction l generalizing s with
  | nil => rfl
  | cons x l ih => simp [ih, h]
@[simp] theorem ite_boot (p : Prop) [Decidable p] (a b : State) : (if p then a else b).boot = if p then a.boot else b.boot := apply_ite _ _ _ _
@[simp] theorem foldl_boot {β : Type} (g : State → β → State) (h : ∀ s x, (g s x).boot = s.boot) (l : List β) (s : State) : (l.foldl g s).boot = s.boot := by
  induction l generalizing s with
  | nil => rfl
  | cons x l ih => simp [ih, h]
@[simp] theorem ite_sys (p : Prop) [Decidable p] (a b : State) : (if p then a else b).sys = if p then a.sys else b.sys := apply_ite _ _ _ _
@[simp] theorem foldl_sys {β : Type} (g : State → β → State) (h : ∀ s x, (g s x).sys = s.sys) (l : List β) (s : State) : (l.foldl g s).sys = s.sys := by
  induction l generalizing s with
  | nil => rfl
  | cons x l ih => simp [ih, h]
@[simp] theorem ite_balls (p : Prop) [Decidable p] (a b : State) : (if p then a else b).balls = if p then a.balls else b.balls := apply_ite _ _ _ _
@[simp] theorem foldl_balls {β : Type} (g : State → β → State) (h : ∀ s x, (g s x).balls = s.balls) (l : List β) (s : State) : (l.foldl g s).balls = s.balls := by
  induction l generalizing s with
  | nil => rfl
  | cons x l ih => simp [ih, h]
@[simp] theorem ite_fields (p : Prop) [Decidable p] (a b : State) : (if p then a else b).fields = if p then a.fields else b.fields := apply_ite _ _ _ _
@[simp] theorem foldl_fields {β : Type} (g : State → β → State) (h : ∀ s x, (g s x).fields = s.fields) (l : List β) (s : State) : (l.foldl g s).fields = s.fields := by
  induction l generalizing s with
  | nil => rfl
  | cons x l ih => simp [ih, h]
@[simp] theorem ite_shadow (p : Prop) [Decidable p] (a b : State) : (if p then a else b).shadow = if p then a.shadow else b.shadow := apply_ite _ _ _ _
@[simp] theorem foldl_shadow {β : Type} (g : State → β → State) (h : ∀ s x, (g s x).shadow = s.shadow) (l : List β) (s : State) : (l.foldl g s).shadow = s.shadow := by
  induction l generalizing s with
  | nil => rfl
  | cons x l ih => simp [ih, h]
@[simp] theorem ite_trowels (p : Prop) [Decidable p] (a b : State) : (if p then a else b).trowels = if p then a.trowels else b.trowels := apply_ite _ _ _ _
@[simp] theorem foldl_trowels {β : Type} (g : State → β → State) (h : ∀ s x, (g s x).trowels = s.trowels) (l : List β) (s : State) : (l.foldl g s).trowels = s.trowels := by
  induction l generalizing s with
  | nil => rfl
  | cons x l ih => simp [ih, h]
@[simp] theorem ite_bb (p : Prop) [Decidable p] (a b : State) : (if p then a else b).bb = if p then a.bb else b.bb := apply_ite _ _ _ _
@[simp] theorem foldl_bb {β : Type} (g : State → β → State) (h : ∀ s x, (g s x).bb = s.bb) (l : List β) (s : State) : (l.foldl g s).bb = s.bb := by
  induction l generalizing s with
  | nil => rfl
  | cons x l ih => simp [ih, h]
@[simp] theorem ite_tap (p : Prop) [Decidable p] (a b : State) : (if p then a else b).tap = if p then a.tap else b.tap := apply_ite _ _ _ _
@[simp] theorem foldl_tap {β : Type} (g : State → β → State) (h : ∀ s x, (g s x).tap = s.tap) (l : List β) (s : State) : (l.foldl g s).tap = s.tap := by
  induction l generalizing s with
  | nil => rfl
  | cons x l ih => simp [ih, h]
@[simp] theorem ite_time (p : Prop) [Decidable p] (a b : State) : (if p then a else b).time = if p then a.time else b.time := apply_ite _ _ _ _
@[simp] theorem foldl_time {β : Type} (g : State → β → State) (h : ∀ s x, (g s x).time = s.time) (l : List β) (s : State) : (l.foldl g s).time = s.time := by
  induction l generalizing s with
  | nil => rfl
  | cons x l ih => simp [ih, h]
@[simp] theorem ite_thermal (p : Prop) [Decidable p] (a b : State) : (if p then a else b).thermal = if p then a.thermal else b.thermal := apply_ite _ _ _ _
@[simp] theorem foldl_thermal {β : Type} (g : State → β → State) (h : ∀ s x, (g s x).thermal = s.thermal) (l : List β) (s : State) : (l.foldl g s).thermal = s.thermal := by
  induction l generalizing s with
  | nil => rfl
  | cons x l ih => simp [ih, h]
@[simp] theorem ite_light (p : Prop) [Decidable p] (a b : State) : (if p then a else b).light = if p then a.light else b.light := apply_ite _ _ _ _
@[simp] theorem foldl_light {β : Type} (g : State → β → State) (h : ∀ s x, (g s x).light = s.light) (l : List β) (s : State) : (l.foldl g s).light = s.light := by
  induction l generalizing s with
  | nil => rfl
  | cons x l ih => simp [ih, h]
@[simp] theorem ite_adcA (p : Prop) [Decidable p] (a b : State) : (if p then a else b).adcA = if p then a.adcA else b.adcA := apply_ite _ _ _ _
@[simp] theorem foldl_adcA {β : Type} (g : State → β → State) (h : ∀ s x, (g s x).adcA = s.adcA) (l : List β) (s : State) : (l.foldl g s).adcA = s.adcA := by
  induction l generalizing s with
  | nil => rfl
  | cons x l ih => simp [ih, h]
@[simp] theorem ite_adcB (p : Prop) [Decidable p] (a b : State) : (if p then a else b).adcB = if p then a.adcB else b.adcB := apply_ite _ _ _ _
@[simp] theorem foldl_adcB {β : Type} (g : State → β → State) (h : ∀ s x, (g s x).adcB = s.adcB) (l : List β) (s : State) : (l.foldl g s).adcB = s.adcB := by
  induction l generalizing s with
  | nil => rfl
  | cons x l ih => simp [ih, h]
@[simp] theorem ite_amb (p : Prop) [Decidable p] (a b : State) : (if p then a else b).amb = if p then a.amb else b.amb := apply_ite _ _ _ _
@[simp] theorem foldl_amb {β : Type} (g : State → β → State) (h : ∀ s x, (g s x).amb = s.amb) (l : List β) (s : State) : (l.foldl g s).amb = s.amb := by
  induction l generalizing s with
  | nil => rfl
  | cons x l ih => simp [ih, h]
@[simp] theorem ite_ports (p : Prop) [Decidable p] (a b : State) : (if p then a else b).ports = if p then a.ports else b.ports := apply_ite _ _ _ _
@[simp] theorem foldl_ports {β : Type} (g : State → β → State) (h : ∀ s x, (g s x).ports = s.ports) (l : List β) (s : State) : (l.foldl g s).ports = s.ports := by
  induction l generalizing s with
  | nil => rfl
  | cons x l ih => simp [ih, h]
@[simp] theorem ite_frames (p : Prop) [Decidable p] (a b : State) : (if p then a else b).frames = if p then a.frames else b.frames := apply_ite _ _ _ _
@[simp] theorem foldl_frames {β : Type} (g : State → β → State) (h : ∀ s x, (g s x).frames = s.frames) (l : List β) (s : State) : (l.foldl g s).frames = s.frames := by
  induction l generalizing s with
  | nil => rfl
  | cons x l ih => simp [ih, h]
@[simp] theorem ite_nextFrame (p : Prop) [Decidable p] (a b : State) : (if p then a else b).nextFrame = if p then a.nextFrame else b.nextFrame := apply_ite _ _ _ _
@[simp] theorem foldl_nextFrame {β : Type} (g : State → β → State) (h : ∀ s x, (g s x).nextFrame = s.nextFrame) (l : List β) (s : State) : (l.foldl g s).nextFrame = s.nextFrame := by
  induction l generalizing s with
  | nil => rfl
  | cons x l ih => simp [ih, h]
@[simp] theorem ite_ctxs (p : Prop) [Decidable p] (a b : State) : (if p then a else b).ctxs = if p then a.ctxs else b.ctxs := apply_ite _ _ _ _
@[simp] theorem foldl_ctxs {β : Type} (g : State → β → State) (h : ∀ s x, (g s x).ctxs = s.ctxs) (l : List β) (s : State) : (l.foldl g s).ctxs = s.ctxs := by
  induction l generalizing s with
  | nil => rfl
  | cons x l ih => simp [ih, h]
@[simp] theorem ite_dec (p : Prop) [Decidable p] (a b : State) : (if p then a else b).dec = if p then a.dec else b.dec := apply_ite _ _ _ _
@[simp] theorem foldl_dec {β : Type} (g : State → β → State) (h : ∀ s x, (g s x).dec = s.dec) (l : List β) (s : State) : (l.foldl g s).dec = s.dec := by
  induction l generalizing s with
  | nil => rfl
  | cons x l ih => simp [ih, h]
@[simp] theorem ite_vs (p : Prop) [Decidable p] (a b : State) : (if p then a else b).vs = if p then a.vs else b.vs := apply_ite _ _ _ _
@[simp] theorem foldl_vs {β : Type} (g : State → β → State) (h : ∀ s x, (g s x).vs = s.vs) (l : List β) (s : State) : (l.foldl g s).vs = s.vs := by
  induction l generalizing s with
  | nil => rfl
  | cons x l ih => simp [ih, h]
@[simp] theorem ite_former (p : Prop) [Decidable p] (a b : State) : (if p then a else b).former = if p then a.former else b.former := apply_ite _ _ _ _
@[simp] theorem foldl_former {β : Type} (g : State → β → State) (h : ∀ s x, (g s x).former = s.former) (l : List β) (s : State) : (l.foldl g s).former = s.former := by
  induction l generalizing s with
  | nil => rfl
  | cons x l ih => simp [ih, h]
@[simp] theorem ite_usb (p : Prop) [Decidable p] (a b : State) : (if p then a else b).usb = if p then a.usb else b.usb := apply_ite _ _ _ _
@[simp] theorem foldl_usb {β : Type} (g : State → β → State) (h : ∀ s x, (g s x).usb = s.usb) (l : List β) (s : State) : (l.foldl g s).usb = s.usb := by
  induction l generalizing s with
  | nil => rfl
  | cons x l ih => simp [ih, h]
@[simp] theorem ite_ser (p : Prop) [Decidable p] (a b : State) : (if p then a else b).ser = if p then a.ser else b.ser := apply_ite _ _ _ _
@[simp] theorem foldl_ser {β : Type} (g : State → β → State) (h : ∀ s x, (g s x).ser = s.ser) (l : List β) (s : State) : (l.foldl g s).ser = s.ser := by
  induction l generalizing s with
  | nil => rfl
  | cons x l ih => simp [ih, h]
@[simp] theorem ite_pair (p : Prop) [Decidable p] (a b : State) : (if p then a else b).pair = if p then a.pair else b.pair := apply_ite _ _ _ _
@[simp] theorem foldl_pair {β : Type} (g : State → β → State) (h : ∀ s x, (g s x).pair = s.pair) (l : List β) (s : State) : (l.foldl g s).pair = s.pair := by
  induction l generalizing s with
  | nil => rfl
  | cons x l ih => simp [ih, h]
@[simp] theorem ite_fab (p : Prop) [Decidable p] (a b : State) : (if p then a else b).fab = if p then a.fab else b.fab := apply_ite _ _ _ _
@[simp] theorem foldl_fab {β : Type} (g : State → β → State) (h : ∀ s x, (g s x).fab = s.fab) (l : List β) (s : State) : (l.foldl g s).fab = s.fab := by
  induction l generalizing s with
  | nil => rfl
  | cons x l ih => simp [ih, h]
@[simp] theorem ite_fresh (p : Prop) [Decidable p] (a b : State) : (if p then a else b).fresh = if p then a.fresh else b.fresh := apply_ite _ _ _ _
@[simp] theorem foldl_fresh {β : Type} (g : State → β → State) (h : ∀ s x, (g s x).fresh = s.fresh) (l : List β) (s : State) : (l.foldl g s).fresh = s.fresh := by
  induction l generalizing s with
  | nil => rfl
  | cons x l ih => simp [ih, h]
@[simp] theorem ite_faulted (p : Prop) [Decidable p] (a b : State) : (if p then a else b).faulted = if p then a.faulted else b.faulted := apply_ite _ _ _ _
@[simp] theorem foldl_faulted {β : Type} (g : State → β → State) (h : ∀ s x, (g s x).faulted = s.faulted) (l : List β) (s : State) : (l.foldl g s).faulted = s.faulted := by
  induction l generalizing s with
  | nil => rfl
  | cons x l ih => simp [ih, h]
@[simp] theorem ite_pipe (p : Prop) [Decidable p] (a b : State) : (if p then a else b).pipe = if p then a.pipe else b.pipe := apply_ite _ _ _ _
@[simp] theorem foldl_pipe {β : Type} (g : State → β → State) (h : ∀ s x, (g s x).pipe = s.pipe) (l : List β) (s : State) : (l.foldl g s).pipe = s.pipe := by
  induction l generalizing s with
  | nil => rfl
  | cons x l ih => simp [ih, h]
end Sys2Proof.Machine
end

