-- ==== Sys2Proof/Laws/FrameOps.lean ====
section
/-! SUPPORT. Frames: which parts of the state each operation of Machine/Ops leaves as they were. -/

namespace Sys2Proof.Machine
@[simp] theorem State.setF_frame (s : State) (a : Nat) (v : Word) :
    (State.setF s a v).pending = s.pending ∧ (State.setF s a v).identity = s.identity ∧ (State.setF s a v).aon = s.aon ∧ (State.setF s a v).pins = s.pins ∧ (State.setF s a v).phase = s.phase ∧ (State.setF s a v).boot = s.boot ∧ (State.setF s a v).sys = s.sys ∧ (State.setF s a v).balls = s.balls ∧ (State.setF s a v).shadow = s.shadow ∧ (State.setF s a v).trowels = s.trowels ∧ (State.setF s a v).faulted = s.faulted ∧ (State.setF s a v).bb = s.bb ∧ (State.setF s a v).tap = s.tap ∧ (State.setF s a v).time = s.time ∧ (State.setF s a v).thermal = s.thermal ∧ (State.setF s a v).light = s.light ∧ (State.setF s a v).adcA = s.adcA ∧ (State.setF s a v).adcB = s.adcB ∧ (State.setF s a v).amb = s.amb ∧ (State.setF s a v).ports = s.ports ∧ (State.setF s a v).frames = s.frames ∧ (State.setF s a v).nextFrame = s.nextFrame ∧ (State.setF s a v).pipe = s.pipe ∧ (State.setF s a v).ctxs = s.ctxs ∧ (State.setF s a v).dec = s.dec ∧ (State.setF s a v).vs = s.vs ∧ (State.setF s a v).former = s.former ∧ (State.setF s a v).usb = s.usb ∧ (State.setF s a v).ser = s.ser ∧ (State.setF s a v).pair = s.pair ∧ (State.setF s a v).fab = s.fab ∧ (State.setF s a v).fresh = s.fresh := by
  first
  | (unfold State.setF; simp; done)
  | (unfold State.setF; (try dsimp only); (repeat' split) <;> (first | rfl | (simp; done) | (simp_all; done) | (try simp)))
@[simp] theorem State.setN_frame (s : State) (a : Nat) (n : Nat) :
    (State.setN s a n).pending = s.pending ∧ (State.setN s a n).identity = s.identity ∧ (State.setN s a n).aon = s.aon ∧ (State.setN s a n).pins = s.pins ∧ (State.setN s a n).phase = s.phase ∧ (State.setN s a n).boot = s.boot ∧ (State.setN s a n).sys = s.sys ∧ (State.setN s a n).balls = s.balls ∧ (State.setN s a n).shadow = s.shadow ∧ (State.setN s a n).trowels = s.trowels ∧ (State.setN s a n).faulted = s.faulted ∧ (State.setN s a n).bb = s.bb ∧ (State.setN s a n).tap = s.tap ∧ (State.setN s a n).time = s.time ∧ (State.setN s a n).thermal = s.thermal ∧ (State.setN s a n).light = s.light ∧ (State.setN s a n).adcA = s.adcA ∧ (State.setN s a n).adcB = s.adcB ∧ (State.setN s a n).amb = s.amb ∧ (State.setN s a n).ports = s.ports ∧ (State.setN s a n).frames = s.frames ∧ (State.setN s a n).nextFrame = s.nextFrame ∧ (State.setN s a n).pipe = s.pipe ∧ (State.setN s a n).ctxs = s.ctxs ∧ (State.setN s a n).dec = s.dec ∧ (State.setN s a n).vs = s.vs ∧ (State.setN s a n).former = s.former ∧ (State.setN s a n).usb = s.usb ∧ (State.setN s a n).ser = s.ser ∧ (State.setN s a n).pair = s.pair ∧ (State.setN s a n).fab = s.fab ∧ (State.setN s a n).fresh = s.fresh := by
  first
  | (unfold State.setN; simp; done)
  | (unfold State.setN; (try dsimp only); (repeat' split) <;> (first | rfl | (simp; done) | (simp_all; done) | (try simp)))
@[simp] theorem State.countSat_frame (s : State) (w a n : Nat) :
    (State.countSat s w a n).pending = s.pending ∧ (State.countSat s w a n).identity = s.identity ∧ (State.countSat s w a n).aon = s.aon ∧ (State.countSat s w a n).pins = s.pins ∧ (State.countSat s w a n).phase = s.phase ∧ (State.countSat s w a n).boot = s.boot ∧ (State.countSat s w a n).sys = s.sys ∧ (State.countSat s w a n).balls = s.balls ∧ (State.countSat s w a n).shadow = s.shadow ∧ (State.countSat s w a n).trowels = s.trowels ∧ (State.countSat s w a n).faulted = s.faulted ∧ (State.countSat s w a n).bb = s.bb ∧ (State.countSat s w a n).tap = s.tap ∧ (State.countSat s w a n).time = s.time ∧ (State.countSat s w a n).thermal = s.thermal ∧ (State.countSat s w a n).light = s.light ∧ (State.countSat s w a n).adcA = s.adcA ∧ (State.countSat s w a n).adcB = s.adcB ∧ (State.countSat s w a n).amb = s.amb ∧ (State.countSat s w a n).ports = s.ports ∧ (State.countSat s w a n).frames = s.frames ∧ (State.countSat s w a n).nextFrame = s.nextFrame ∧ (State.countSat s w a n).pipe = s.pipe ∧ (State.countSat s w a n).ctxs = s.ctxs ∧ (State.countSat s w a n).dec = s.dec ∧ (State.countSat s w a n).vs = s.vs ∧ (State.countSat s w a n).former = s.former ∧ (State.countSat s w a n).usb = s.usb ∧ (State.countSat s w a n).ser = s.ser ∧ (State.countSat s w a n).pair = s.pair ∧ (State.countSat s w a n).fab = s.fab ∧ (State.countSat s w a n).fresh = s.fresh := by
  first
  | (unfold State.countSat; simp; done)
  | (unfold State.countSat; (try dsimp only); (repeat' split) <;> (first | rfl | (simp; done) | (simp_all; done) | (try simp)))
@[simp] theorem State.count16_frame (s : State) (a : Nat) :
    (State.count16 s a).pending = s.pending ∧ (State.count16 s a).identity = s.identity ∧ (State.count16 s a).aon = s.aon ∧ (State.count16 s a).pins = s.pins ∧ (State.count16 s a).phase = s.phase ∧ (State.count16 s a).boot = s.boot ∧ (State.count16 s a).sys = s.sys ∧ (State.count16 s a).balls = s.balls ∧ (State.count16 s a).shadow = s.shadow ∧ (State.count16 s a).trowels = s.trowels ∧ (State.count16 s a).faulted = s.faulted ∧ (State.count16 s a).bb = s.bb ∧ (State.count16 s a).tap = s.tap ∧ (State.count16 s a).time = s.time ∧ (State.count16 s a).thermal = s.thermal ∧ (State.count16 s a).light = s.light ∧ (State.count16 s a).adcA = s.adcA ∧ (State.count16 s a).adcB = s.adcB ∧ (State.count16 s a).amb = s.amb ∧ (State.count16 s a).ports = s.ports ∧ (State.count16 s a).frames = s.frames ∧ (State.count16 s a).nextFrame = s.nextFrame ∧ (State.count16 s a).pipe = s.pipe ∧ (State.count16 s a).ctxs = s.ctxs ∧ (State.count16 s a).dec = s.dec ∧ (State.count16 s a).vs = s.vs ∧ (State.count16 s a).former = s.former ∧ (State.count16 s a).usb = s.usb ∧ (State.count16 s a).ser = s.ser ∧ (State.count16 s a).pair = s.pair ∧ (State.count16 s a).fab = s.fab ∧ (State.count16 s a).fresh = s.fresh := by
  first
  | (unfold State.count16; simp; done)
  | (unfold State.count16; (try dsimp only); (repeat' split) <;> (first | rfl | (simp; done) | (simp_all; done) | (try simp)))
@[simp] theorem State.countWrap_frame (s : State) (a n : Nat) :
    (State.countWrap s a n).pending = s.pending ∧ (State.countWrap s a n).identity = s.identity ∧ (State.countWrap s a n).aon = s.aon ∧ (State.countWrap s a n).pins = s.pins ∧ (State.countWrap s a n).phase = s.phase ∧ (State.countWrap s a n).boot = s.boot ∧ (State.countWrap s a n).sys = s.sys ∧ (State.countWrap s a n).balls = s.balls ∧ (State.countWrap s a n).shadow = s.shadow ∧ (State.countWrap s a n).trowels = s.trowels ∧ (State.countWrap s a n).faulted = s.faulted ∧ (State.countWrap s a n).bb = s.bb ∧ (State.countWrap s a n).tap = s.tap ∧ (State.countWrap s a n).time = s.time ∧ (State.countWrap s a n).thermal = s.thermal ∧ (State.countWrap s a n).light = s.light ∧ (State.countWrap s a n).adcA = s.adcA ∧ (State.countWrap s a n).adcB = s.adcB ∧ (State.countWrap s a n).amb = s.amb ∧ (State.countWrap s a n).ports = s.ports ∧ (State.countWrap s a n).frames = s.frames ∧ (State.countWrap s a n).nextFrame = s.nextFrame ∧ (State.countWrap s a n).pipe = s.pipe ∧ (State.countWrap s a n).ctxs = s.ctxs ∧ (State.countWrap s a n).dec = s.dec ∧ (State.countWrap s a n).vs = s.vs ∧ (State.countWrap s a n).former = s.former ∧ (State.countWrap s a n).usb = s.usb ∧ (State.countWrap s a n).ser = s.ser ∧ (State.countWrap s a n).pair = s.pair ∧ (State.countWrap s a n).fab = s.fab ∧ (State.countWrap s a n).fresh = s.fresh := by
  first
  | (unfold State.countWrap; simp; done)
  | (unfold State.countWrap; (try dsimp only); (repeat' split) <;> (first | rfl | (simp; done) | (simp_all; done) | (try simp)))
@[simp] theorem State.applyPending_frame (s : State) (sel : Pend → Bool) :
    (State.applyPending s sel).pending = s.pending ∧ (State.applyPending s sel).identity = s.identity ∧ (State.applyPending s sel).aon = s.aon ∧ (State.applyPending s sel).pins = s.pins ∧ (State.applyPending s sel).phase = s.phase ∧ (State.applyPending s sel).boot = s.boot ∧ (State.applyPending s sel).sys = s.sys ∧ (State.applyPending s sel).balls = s.balls ∧ (State.applyPending s sel).trowels = s.trowels ∧ (State.applyPending s sel).faulted = s.faulted ∧ (State.applyPending s sel).bb = s.bb ∧ (State.applyPending s sel).tap = s.tap ∧ (State.applyPending s sel).time = s.time ∧ (State.applyPending s sel).thermal = s.thermal ∧ (State.applyPending s sel).light = s.light ∧ (State.applyPending s sel).adcA = s.adcA ∧ (State.applyPending s sel).adcB = s.adcB ∧ (State.applyPending s sel).amb = s.amb ∧ (State.applyPending s sel).ports = s.ports ∧ (State.applyPending s sel).frames = s.frames ∧ (State.applyPending s sel).nextFrame = s.nextFrame ∧ (State.applyPending s sel).pipe = s.pipe ∧ (State.applyPending s sel).ctxs = s.ctxs ∧ (State.applyPending s sel).dec = s.dec ∧ (State.applyPending s sel).vs = s.vs ∧ (State.applyPending s sel).former = s.former ∧ (State.applyPending s sel).usb = s.usb ∧ (State.applyPending s sel).ser = s.ser ∧ (State.applyPending s sel).pair = s.pair ∧ (State.applyPending s sel).fab = s.fab ∧ (State.applyPending s sel).fresh = s.fresh := by
  first
  | (unfold State.applyPending; simp; done)
  | (unfold State.applyPending; (try dsimp only); (repeat' split) <;> (first | rfl | (simp; done) | (simp_all; done) | (try simp)))
@[simp] theorem State.applyBoundary_frame (s : State) (sel : Pend → Bool) :
    (State.applyBoundary s sel).pending = s.pending ∧ (State.applyBoundary s sel).identity = s.identity ∧ (State.applyBoundary s sel).aon = s.aon ∧ (State.applyBoundary s sel).pins = s.pins ∧ (State.applyBoundary s sel).phase = s.phase ∧ (State.applyBoundary s sel).boot = s.boot ∧ (State.applyBoundary s sel).sys = s.sys ∧ (State.applyBoundary s sel).balls = s.balls ∧ (State.applyBoundary s sel).trowels = s.trowels ∧ (State.applyBoundary s sel).faulted = s.faulted ∧ (State.applyBoundary s sel).bb = s.bb ∧ (State.applyBoundary s sel).tap = s.tap ∧ (State.applyBoundary s sel).time = s.time ∧ (State.applyBoundary s sel).thermal = s.thermal ∧ (State.applyBoundary s sel).light = s.light ∧ (State.applyBoundary s sel).adcA = s.adcA ∧ (State.applyBoundary s sel).adcB = s.adcB ∧ (State.applyBoundary s sel).amb = s.amb ∧ (State.applyBoundary s sel).ports = s.ports ∧ (State.applyBoundary s sel).frames = s.frames ∧ (State.applyBoundary s sel).nextFrame = s.nextFrame ∧ (State.applyBoundary s sel).pipe = s.pipe ∧ (State.applyBoundary s sel).ctxs = s.ctxs ∧ (State.applyBoundary s sel).dec = s.dec ∧ (State.applyBoundary s sel).vs = s.vs ∧ (State.applyBoundary s sel).former = s.former ∧ (State.applyBoundary s sel).usb = s.usb ∧ (State.applyBoundary s sel).ser = s.ser ∧ (State.applyBoundary s sel).pair = s.pair ∧ (State.applyBoundary s sel).fab = s.fab ∧ (State.applyBoundary s sel).fresh = s.fresh := by
  first
  | (unfold State.applyBoundary; simp; done)
  | (unfold State.applyBoundary; (try dsimp only); (repeat' split) <;> (first | rfl | (simp; done) | (simp_all; done) | (try simp)))
@[simp] theorem State.updT_frame (s : State) (t : TrowelId) (f : Trowel → Trowel) :
    (State.updT s t f).pending = s.pending ∧ (State.updT s t f).identity = s.identity ∧ (State.updT s t f).aon = s.aon ∧ (State.updT s t f).pins = s.pins ∧ (State.updT s t f).phase = s.phase ∧ (State.updT s t f).boot = s.boot ∧ (State.updT s t f).sys = s.sys ∧ (State.updT s t f).balls = s.balls ∧ (State.updT s t f).fields = s.fields ∧ (State.updT s t f).shadow = s.shadow ∧ (State.updT s t f).faulted = s.faulted ∧ (State.updT s t f).bb = s.bb ∧ (State.updT s t f).tap = s.tap ∧ (State.updT s t f).time = s.time ∧ (State.updT s t f).thermal = s.thermal ∧ (State.updT s t f).light = s.light ∧ (State.updT s t f).adcA = s.adcA ∧ (State.updT s t f).adcB = s.adcB ∧ (State.updT s t f).amb = s.amb ∧ (State.updT s t f).ports = s.ports ∧ (State.updT s t f).frames = s.frames ∧ (State.updT s t f).nextFrame = s.nextFrame ∧ (State.updT s t f).pipe = s.pipe ∧ (State.updT s t f).ctxs = s.ctxs ∧ (State.updT s t f).dec = s.dec ∧ (State.updT s t f).vs = s.vs ∧ (State.updT s t f).former = s.former ∧ (State.updT s t f).usb = s.usb ∧ (State.updT s t f).ser = s.ser ∧ (State.updT s t f).pair = s.pair ∧ (State.updT s t f).fab = s.fab ∧ (State.updT s t f).fresh = s.fresh := by
  first
  | (unfold State.updT; simp; done)
  | (unfold State.updT; (try dsimp only); (repeat' split) <;> (first | rfl | (simp; done) | (simp_all; done) | (try simp)))
@[simp] theorem State.raise_frame (s : State) (t : TrowelId) (n : Nat) :
    (State.raise s t n).pending = s.pending ∧ (State.raise s t n).identity = s.identity ∧ (State.raise s t n).aon = s.aon ∧ (State.raise s t n).pins = s.pins ∧ (State.raise s t n).phase = s.phase ∧ (State.raise s t n).boot = s.boot ∧ (State.raise s t n).sys = s.sys ∧ (State.raise s t n).balls = s.balls ∧ (State.raise s t n).fields = s.fields ∧ (State.raise s t n).shadow = s.shadow ∧ (State.raise s t n).faulted = s.faulted ∧ (State.raise s t n).bb = s.bb ∧ (State.raise s t n).tap = s.tap ∧ (State.raise s t n).time = s.time ∧ (State.raise s t n).thermal = s.thermal ∧ (State.raise s t n).light = s.light ∧ (State.raise s t n).adcA = s.adcA ∧ (State.raise s t n).adcB = s.adcB ∧ (State.raise s t n).amb = s.amb ∧ (State.raise s t n).ports = s.ports ∧ (State.raise s t n).frames = s.frames ∧ (State.raise s t n).nextFrame = s.nextFrame ∧ (State.raise s t n).pipe = s.pipe ∧ (State.raise s t n).ctxs = s.ctxs ∧ (State.raise s t n).dec = s.dec ∧ (State.raise s t n).vs = s.vs ∧ (State.raise s t n).former = s.former ∧ (State.raise s t n).usb = s.usb ∧ (State.raise s t n).ser = s.ser ∧ (State.raise s t n).pair = s.pair ∧ (State.raise s t n).fab = s.fab ∧ (State.raise s t n).fresh = s.fresh := by
  first
  | (unfold State.raise; simp; done)
  | (unfold State.raise; (try dsimp only); (repeat' split) <;> (first | rfl | (simp; done) | (simp_all; done) | (try simp)))
@[simp] theorem State.raiseAll_frame (s : State) (n : Nat) :
    (State.raiseAll s n).pending = s.pending ∧ (State.raiseAll s n).identity = s.identity ∧ (State.raiseAll s n).aon = s.aon ∧ (State.raiseAll s n).pins = s.pins ∧ (State.raiseAll s n).phase = s.phase ∧ (State.raiseAll s n).boot = s.boot ∧ (State.raiseAll s n).sys = s.sys ∧ (State.raiseAll s n).balls = s.balls ∧ (State.raiseAll s n).fields = s.fields ∧ (State.raiseAll s n).shadow = s.shadow ∧ (State.raiseAll s n).faulted = s.faulted ∧ (State.raiseAll s n).bb = s.bb ∧ (State.raiseAll s n).tap = s.tap ∧ (State.raiseAll s n).time = s.time ∧ (State.raiseAll s n).thermal = s.thermal ∧ (State.raiseAll s n).light = s.light ∧ (State.raiseAll s n).adcA = s.adcA ∧ (State.raiseAll s n).adcB = s.adcB ∧ (State.raiseAll s n).amb = s.amb ∧ (State.raiseAll s n).ports = s.ports ∧ (State.raiseAll s n).frames = s.frames ∧ (State.raiseAll s n).nextFrame = s.nextFrame ∧ (State.raiseAll s n).pipe = s.pipe ∧ (State.raiseAll s n).ctxs = s.ctxs ∧ (State.raiseAll s n).dec = s.dec ∧ (State.raiseAll s n).vs = s.vs ∧ (State.raiseAll s n).former = s.former ∧ (State.raiseAll s n).usb = s.usb ∧ (State.raiseAll s n).ser = s.ser ∧ (State.raiseAll s n).pair = s.pair ∧ (State.raiseAll s n).fab = s.fab ∧ (State.raiseAll s n).fresh = s.fresh := by
  first
  | (unfold State.raiseAll; simp; done)
  | (unfold State.raiseAll; (try dsimp only); (repeat' split) <;> (first | rfl | (simp; done) | (simp_all; done) | (try simp)))
@[simp] theorem State.bbEvent_frame (s : State) (unit : BitVec 7) (inst : Byte) (code : BitVec 16) (arg : Word) :
    (State.bbEvent s unit inst code arg).pending = s.pending ∧ (State.bbEvent s unit inst code arg).identity = s.identity ∧ (State.bbEvent s unit inst code arg).aon = s.aon ∧ (State.bbEvent s unit inst code arg).pins = s.pins ∧ (State.bbEvent s unit inst code arg).phase = s.phase ∧ (State.bbEvent s unit inst code arg).boot = s.boot ∧ (State.bbEvent s unit inst code arg).sys = s.sys ∧ (State.bbEvent s unit inst code arg).balls = s.balls ∧ (State.bbEvent s unit inst code arg).fields = s.fields ∧ (State.bbEvent s unit inst code arg).shadow = s.shadow ∧ (State.bbEvent s unit inst code arg).trowels = s.trowels ∧ (State.bbEvent s unit inst code arg).faulted = s.faulted ∧ (State.bbEvent s unit inst code arg).tap = s.tap ∧ (State.bbEvent s unit inst code arg).time = s.time ∧ (State.bbEvent s unit inst code arg).thermal = s.thermal ∧ (State.bbEvent s unit inst code arg).light = s.light ∧ (State.bbEvent s unit inst code arg).adcA = s.adcA ∧ (State.bbEvent s unit inst code arg).adcB = s.adcB ∧ (State.bbEvent s unit inst code arg).amb = s.amb ∧ (State.bbEvent s unit inst code arg).ports = s.ports ∧ (State.bbEvent s unit inst code arg).frames = s.frames ∧ (State.bbEvent s unit inst code arg).nextFrame = s.nextFrame ∧ (State.bbEvent s unit inst code arg).pipe = s.pipe ∧ (State.bbEvent s unit inst code arg).ctxs = s.ctxs ∧ (State.bbEvent s unit inst code arg).dec = s.dec ∧ (State.bbEvent s unit inst code arg).vs = s.vs ∧ (State.bbEvent s unit inst code arg).former = s.former ∧ (State.bbEvent s unit inst code arg).usb = s.usb ∧ (State.bbEvent s unit inst code arg).ser = s.ser ∧ (State.bbEvent s unit inst code arg).pair = s.pair ∧ (State.bbEvent s unit inst code arg).fab = s.fab ∧ (State.bbEvent s unit inst code arg).fresh = s.fresh := by
  first
  | (unfold State.bbEvent; simp; done)
  | (unfold State.bbEvent; (try dsimp only); (repeat' split) <;> (first | rfl | (simp; done) | (simp_all; done) | (try simp)))
@[simp] theorem State.freeze_frame (s : State) (cause : Byte) :
    (State.freeze s cause).pending = s.pending ∧ (State.freeze s cause).identity = s.identity ∧ (State.freeze s cause).aon = s.aon ∧ (State.freeze s cause).pins = s.pins ∧ (State.freeze s cause).phase = s.phase ∧ (State.freeze s cause).boot = s.boot ∧ (State.freeze s cause).sys = s.sys ∧ (State.freeze s cause).balls = s.balls ∧ (State.freeze s cause).fields = s.fields ∧ (State.freeze s cause).shadow = s.shadow ∧ (State.freeze s cause).trowels = s.trowels ∧ (State.freeze s cause).faulted = s.faulted ∧ (State.freeze s cause).tap = s.tap ∧ (State.freeze s cause).time = s.time ∧ (State.freeze s cause).thermal = s.thermal ∧ (State.freeze s cause).light = s.light ∧ (State.freeze s cause).adcA = s.adcA ∧ (State.freeze s cause).adcB = s.adcB ∧ (State.freeze s cause).amb = s.amb ∧ (State.freeze s cause).ports = s.ports ∧ (State.freeze s cause).frames = s.frames ∧ (State.freeze s cause).nextFrame = s.nextFrame ∧ (State.freeze s cause).pipe = s.pipe ∧ (State.freeze s cause).ctxs = s.ctxs ∧ (State.freeze s cause).dec = s.dec ∧ (State.freeze s cause).vs = s.vs ∧ (State.freeze s cause).former = s.former ∧ (State.freeze s cause).usb = s.usb ∧ (State.freeze s cause).ser = s.ser ∧ (State.freeze s cause).pair = s.pair ∧ (State.freeze s cause).fab = s.fab ∧ (State.freeze s cause).fresh = s.fresh := by
  first
  | (unfold State.freeze; simp; done)
  | (unfold State.freeze; (try dsimp only); (repeat' split) <;> (first | rfl | (simp; done) | (simp_all; done) | (try simp)))
@[simp] theorem State.freezeIf_frame (s : State) (cause : Byte) (levels : List Nat) (i : Nat) :
    (State.freezeIf s cause levels i).pending = s.pending ∧ (State.freezeIf s cause levels i).identity = s.identity ∧ (State.freezeIf s cause levels i).aon = s.aon ∧ (State.freezeIf s cause levels i).pins = s.pins ∧ (State.freezeIf s cause levels i).phase = s.phase ∧ (State.freezeIf s cause levels i).boot = s.boot ∧ (State.freezeIf s cause levels i).sys = s.sys ∧ (State.freezeIf s cause levels i).balls = s.balls ∧ (State.freezeIf s cause levels i).fields = s.fields ∧ (State.freezeIf s cause levels i).shadow = s.shadow ∧ (State.freezeIf s cause levels i).trowels = s.trowels ∧ (State.freezeIf s cause levels i).faulted = s.faulted ∧ (State.freezeIf s cause levels i).tap = s.tap ∧ (State.freezeIf s cause levels i).time = s.time ∧ (State.freezeIf s cause levels i).thermal = s.thermal ∧ (State.freezeIf s cause levels i).light = s.light ∧ (State.freezeIf s cause levels i).adcA = s.adcA ∧ (State.freezeIf s cause levels i).adcB = s.adcB ∧ (State.freezeIf s cause levels i).amb = s.amb ∧ (State.freezeIf s cause levels i).ports = s.ports ∧ (State.freezeIf s cause levels i).frames = s.frames ∧ (State.freezeIf s cause levels i).nextFrame = s.nextFrame ∧ (State.freezeIf s cause levels i).pipe = s.pipe ∧ (State.freezeIf s cause levels i).ctxs = s.ctxs ∧ (State.freezeIf s cause levels i).dec = s.dec ∧ (State.freezeIf s cause levels i).vs = s.vs ∧ (State.freezeIf s cause levels i).former = s.former ∧ (State.freezeIf s cause levels i).usb = s.usb ∧ (State.freezeIf s cause levels i).ser = s.ser ∧ (State.freezeIf s cause levels i).pair = s.pair ∧ (State.freezeIf s cause levels i).fab = s.fab ∧ (State.freezeIf s cause levels i).fresh = s.fresh := by
  first
  | (unfold State.freezeIf; simp; done)
  | (unfold State.freezeIf; (try dsimp only); (repeat' split) <;> (first | rfl | (simp; done) | (simp_all; done) | (try simp)))
end Sys2Proof.Machine
end

