-- ==== Sys2Proof/Laws/FrameLight.lean ====
section
/-! SUPPORT. Frames: which parts of the state each operation of Machine/Light leaves as they were. -/

namespace Sys2Proof.Machine
@[simp] theorem State.driveColumns_frame (s : State) (pos : Nat) :
    (State.driveColumns s pos).pending = s.pending ∧ (State.driveColumns s pos).identity = s.identity ∧ (State.driveColumns s pos).aon = s.aon ∧ (State.driveColumns s pos).pins = s.pins ∧ (State.driveColumns s pos).phase = s.phase ∧ (State.driveColumns s pos).boot = s.boot ∧ (State.driveColumns s pos).sys = s.sys ∧ (State.driveColumns s pos).balls = s.balls ∧ (State.driveColumns s pos).fields = s.fields ∧ (State.driveColumns s pos).shadow = s.shadow ∧ (State.driveColumns s pos).trowels = s.trowels ∧ (State.driveColumns s pos).faulted = s.faulted ∧ (State.driveColumns s pos).bb = s.bb ∧ (State.driveColumns s pos).tap = s.tap ∧ (State.driveColumns s pos).time = s.time ∧ (State.driveColumns s pos).thermal = s.thermal ∧ (State.driveColumns s pos).adcA = s.adcA ∧ (State.driveColumns s pos).adcB = s.adcB ∧ (State.driveColumns s pos).amb = s.amb ∧ (State.driveColumns s pos).ports = s.ports ∧ (State.driveColumns s pos).frames = s.frames ∧ (State.driveColumns s pos).nextFrame = s.nextFrame ∧ (State.driveColumns s pos).pipe = s.pipe ∧ (State.driveColumns s pos).ctxs = s.ctxs ∧ (State.driveColumns s pos).dec = s.dec ∧ (State.driveColumns s pos).vs = s.vs ∧ (State.driveColumns s pos).former = s.former ∧ (State.driveColumns s pos).usb = s.usb ∧ (State.driveColumns s pos).ser = s.ser ∧ (State.driveColumns s pos).pair = s.pair ∧ (State.driveColumns s pos).fab = s.fab ∧ (State.driveColumns s pos).fresh = s.fresh := by
  first
  | (unfold State.driveColumns; simp; done)
  | (unfold State.driveColumns; (try dsimp only); (repeat' split) <;> (first | rfl | (simp; done) | (simp_all; done) | (try simp)))
@[simp] theorem State.darkBegin_frame (s : State) (pos : Nat) :
    (State.darkBegin s pos).pending = s.pending ∧ (State.darkBegin s pos).identity = s.identity ∧ (State.darkBegin s pos).aon = s.aon ∧ (State.darkBegin s pos).pins = s.pins ∧ (State.darkBegin s pos).phase = s.phase ∧ (State.darkBegin s pos).boot = s.boot ∧ (State.darkBegin s pos).sys = s.sys ∧ (State.darkBegin s pos).balls = s.balls ∧ (State.darkBegin s pos).fields = s.fields ∧ (State.darkBegin s pos).shadow = s.shadow ∧ (State.darkBegin s pos).trowels = s.trowels ∧ (State.darkBegin s pos).faulted = s.faulted ∧ (State.darkBegin s pos).bb = s.bb ∧ (State.darkBegin s pos).tap = s.tap ∧ (State.darkBegin s pos).time = s.time ∧ (State.darkBegin s pos).thermal = s.thermal ∧ (State.darkBegin s pos).adcA = s.adcA ∧ (State.darkBegin s pos).adcB = s.adcB ∧ (State.darkBegin s pos).amb = s.amb ∧ (State.darkBegin s pos).ports = s.ports ∧ (State.darkBegin s pos).frames = s.frames ∧ (State.darkBegin s pos).nextFrame = s.nextFrame ∧ (State.darkBegin s pos).pipe = s.pipe ∧ (State.darkBegin s pos).ctxs = s.ctxs ∧ (State.darkBegin s pos).dec = s.dec ∧ (State.darkBegin s pos).vs = s.vs ∧ (State.darkBegin s pos).former = s.former ∧ (State.darkBegin s pos).usb = s.usb ∧ (State.darkBegin s pos).ser = s.ser ∧ (State.darkBegin s pos).pair = s.pair ∧ (State.darkBegin s pos).fab = s.fab ∧ (State.darkBegin s pos).fresh = s.fresh := by
  first
  | (unfold State.darkBegin; simp; done)
  | (unfold State.darkBegin; (try dsimp only); (repeat' split) <;> (first | rfl | (simp; done) | (simp_all; done) | (try simp)))
@[simp] theorem State.darkSlot_frame (s : State) :
    (State.darkSlot s).pending = s.pending ∧ (State.darkSlot s).identity = s.identity ∧ (State.darkSlot s).aon = s.aon ∧ (State.darkSlot s).pins = s.pins ∧ (State.darkSlot s).phase = s.phase ∧ (State.darkSlot s).boot = s.boot ∧ (State.darkSlot s).sys = s.sys ∧ (State.darkSlot s).balls = s.balls ∧ (State.darkSlot s).fields = s.fields ∧ (State.darkSlot s).shadow = s.shadow ∧ (State.darkSlot s).trowels = s.trowels ∧ (State.darkSlot s).faulted = s.faulted ∧ (State.darkSlot s).bb = s.bb ∧ (State.darkSlot s).tap = s.tap ∧ (State.darkSlot s).time = s.time ∧ (State.darkSlot s).thermal = s.thermal ∧ (State.darkSlot s).adcA = s.adcA ∧ (State.darkSlot s).adcB = s.adcB ∧ (State.darkSlot s).amb = s.amb ∧ (State.darkSlot s).ports = s.ports ∧ (State.darkSlot s).frames = s.frames ∧ (State.darkSlot s).nextFrame = s.nextFrame ∧ (State.darkSlot s).pipe = s.pipe ∧ (State.darkSlot s).ctxs = s.ctxs ∧ (State.darkSlot s).dec = s.dec ∧ (State.darkSlot s).vs = s.vs ∧ (State.darkSlot s).former = s.former ∧ (State.darkSlot s).usb = s.usb ∧ (State.darkSlot s).ser = s.ser ∧ (State.darkSlot s).pair = s.pair ∧ (State.darkSlot s).fab = s.fab ∧ (State.darkSlot s).fresh = s.fresh := by
  first
  | (unfold State.darkSlot; simp; done)
  | (unfold State.darkSlot; (try dsimp only); (repeat' split) <;> (first | rfl | (simp; done) | (simp_all; done) | (try simp)))
@[simp] theorem State.markFailed_frame (s : State) (n : Nat) :
    (State.markFailed s n).pending = s.pending ∧ (State.markFailed s n).identity = s.identity ∧ (State.markFailed s n).aon = s.aon ∧ (State.markFailed s n).pins = s.pins ∧ (State.markFailed s n).phase = s.phase ∧ (State.markFailed s n).boot = s.boot ∧ (State.markFailed s n).sys = s.sys ∧ (State.markFailed s n).balls = s.balls ∧ (State.markFailed s n).shadow = s.shadow ∧ (State.markFailed s n).trowels = s.trowels ∧ (State.markFailed s n).faulted = s.faulted ∧ (State.markFailed s n).bb = s.bb ∧ (State.markFailed s n).tap = s.tap ∧ (State.markFailed s n).time = s.time ∧ (State.markFailed s n).thermal = s.thermal ∧ (State.markFailed s n).light = s.light ∧ (State.markFailed s n).adcA = s.adcA ∧ (State.markFailed s n).adcB = s.adcB ∧ (State.markFailed s n).amb = s.amb ∧ (State.markFailed s n).ports = s.ports ∧ (State.markFailed s n).frames = s.frames ∧ (State.markFailed s n).nextFrame = s.nextFrame ∧ (State.markFailed s n).pipe = s.pipe ∧ (State.markFailed s n).ctxs = s.ctxs ∧ (State.markFailed s n).dec = s.dec ∧ (State.markFailed s n).vs = s.vs ∧ (State.markFailed s n).former = s.former ∧ (State.markFailed s n).usb = s.usb ∧ (State.markFailed s n).ser = s.ser ∧ (State.markFailed s n).pair = s.pair ∧ (State.markFailed s n).fab = s.fab ∧ (State.markFailed s n).fresh = s.fresh := by
  first
  | (unfold State.markFailed; simp; done)
  | (unfold State.markFailed; (try dsimp only); (repeat' split) <;> (first | rfl | (simp; done) | (simp_all; done) | (try simp)))
@[simp] theorem State.killFor_frame (s : State) (n : Nat) :
    (State.killFor s n).pending = s.pending ∧ (State.killFor s n).identity = s.identity ∧ (State.killFor s n).aon = s.aon ∧ (State.killFor s n).pins = s.pins ∧ (State.killFor s n).phase = s.phase ∧ (State.killFor s n).boot = s.boot ∧ (State.killFor s n).sys = s.sys ∧ (State.killFor s n).balls = s.balls ∧ (State.killFor s n).shadow = s.shadow ∧ (State.killFor s n).faulted = s.faulted ∧ (State.killFor s n).tap = s.tap ∧ (State.killFor s n).time = s.time ∧ (State.killFor s n).thermal = s.thermal ∧ (State.killFor s n).light = s.light ∧ (State.killFor s n).adcA = s.adcA ∧ (State.killFor s n).adcB = s.adcB ∧ (State.killFor s n).amb = s.amb ∧ (State.killFor s n).ports = s.ports ∧ (State.killFor s n).frames = s.frames ∧ (State.killFor s n).nextFrame = s.nextFrame ∧ (State.killFor s n).pipe = s.pipe ∧ (State.killFor s n).ctxs = s.ctxs ∧ (State.killFor s n).dec = s.dec ∧ (State.killFor s n).vs = s.vs ∧ (State.killFor s n).former = s.former ∧ (State.killFor s n).usb = s.usb ∧ (State.killFor s n).ser = s.ser ∧ (State.killFor s n).pair = s.pair ∧ (State.killFor s n).fab = s.fab ∧ (State.killFor s n).fresh = s.fresh := by
  first
  | (unfold State.killFor; simp; done)
  | (unfold State.killFor; (try dsimp only); (repeat' split) <;> (first | rfl | (simp; done) | (simp_all; done) | (try simp)))
@[simp] theorem State.ltFault_frame (s : State) :
    (State.ltFault s).pending = s.pending ∧ (State.ltFault s).identity = s.identity ∧ (State.ltFault s).aon = s.aon ∧ (State.ltFault s).pins = s.pins ∧ (State.ltFault s).phase = s.phase ∧ (State.ltFault s).boot = s.boot ∧ (State.ltFault s).sys = s.sys ∧ (State.ltFault s).fields = s.fields ∧ (State.ltFault s).shadow = s.shadow ∧ (State.ltFault s).trowels = s.trowels ∧ (State.ltFault s).faulted = s.faulted ∧ (State.ltFault s).bb = s.bb ∧ (State.ltFault s).tap = s.tap ∧ (State.ltFault s).time = s.time ∧ (State.ltFault s).thermal = s.thermal ∧ (State.ltFault s).light = s.light ∧ (State.ltFault s).adcA = s.adcA ∧ (State.ltFault s).adcB = s.adcB ∧ (State.ltFault s).amb = s.amb ∧ (State.ltFault s).ports = s.ports ∧ (State.ltFault s).frames = s.frames ∧ (State.ltFault s).nextFrame = s.nextFrame ∧ (State.ltFault s).pipe = s.pipe ∧ (State.ltFault s).ctxs = s.ctxs ∧ (State.ltFault s).dec = s.dec ∧ (State.ltFault s).vs = s.vs ∧ (State.ltFault s).former = s.former ∧ (State.ltFault s).usb = s.usb ∧ (State.ltFault s).ser = s.ser ∧ (State.ltFault s).pair = s.pair ∧ (State.ltFault s).fab = s.fab ∧ (State.ltFault s).fresh = s.fresh := by
  first
  | (unfold State.ltFault; simp; done)
  | (unfold State.ltFault; (try dsimp only); (repeat' split) <;> (first | rfl | (simp; done) | (simp_all; done) | (try simp)))
@[simp] theorem State.failLamp_frame (s : State) (n kind : Nat) :
    (State.failLamp s n kind).pending = s.pending ∧ (State.failLamp s n kind).identity = s.identity ∧ (State.failLamp s n kind).aon = s.aon ∧ (State.failLamp s n kind).pins = s.pins ∧ (State.failLamp s n kind).phase = s.phase ∧ (State.failLamp s n kind).boot = s.boot ∧ (State.failLamp s n kind).sys = s.sys ∧ (State.failLamp s n kind).shadow = s.shadow ∧ (State.failLamp s n kind).faulted = s.faulted ∧ (State.failLamp s n kind).tap = s.tap ∧ (State.failLamp s n kind).time = s.time ∧ (State.failLamp s n kind).thermal = s.thermal ∧ (State.failLamp s n kind).light = s.light ∧ (State.failLamp s n kind).adcA = s.adcA ∧ (State.failLamp s n kind).adcB = s.adcB ∧ (State.failLamp s n kind).amb = s.amb ∧ (State.failLamp s n kind).ports = s.ports ∧ (State.failLamp s n kind).frames = s.frames ∧ (State.failLamp s n kind).nextFrame = s.nextFrame ∧ (State.failLamp s n kind).pipe = s.pipe ∧ (State.failLamp s n kind).ctxs = s.ctxs ∧ (State.failLamp s n kind).dec = s.dec ∧ (State.failLamp s n kind).vs = s.vs ∧ (State.failLamp s n kind).former = s.former ∧ (State.failLamp s n kind).usb = s.usb ∧ (State.failLamp s n kind).ser = s.ser ∧ (State.failLamp s n kind).pair = s.pair ∧ (State.failLamp s n kind).fab = s.fab ∧ (State.failLamp s n kind).fresh = s.fresh := by
  first
  | (unfold State.failLamp; simp; done)
  | (unfold State.failLamp; (try dsimp only); (repeat' split) <;> (first | rfl | (simp; done) | (simp_all; done) | (try simp)))
@[simp] theorem State.afterFailure_frame (s : State) (pos : Nat) :
    (State.afterFailure s pos).pending = s.pending ∧ (State.afterFailure s pos).identity = s.identity ∧ (State.afterFailure s pos).aon = s.aon ∧ (State.afterFailure s pos).pins = s.pins ∧ (State.afterFailure s pos).phase = s.phase ∧ (State.afterFailure s pos).boot = s.boot ∧ (State.afterFailure s pos).sys = s.sys ∧ (State.afterFailure s pos).balls = s.balls ∧ (State.afterFailure s pos).fields = s.fields ∧ (State.afterFailure s pos).shadow = s.shadow ∧ (State.afterFailure s pos).trowels = s.trowels ∧ (State.afterFailure s pos).faulted = s.faulted ∧ (State.afterFailure s pos).bb = s.bb ∧ (State.afterFailure s pos).tap = s.tap ∧ (State.afterFailure s pos).time = s.time ∧ (State.afterFailure s pos).thermal = s.thermal ∧ (State.afterFailure s pos).adcA = s.adcA ∧ (State.afterFailure s pos).adcB = s.adcB ∧ (State.afterFailure s pos).amb = s.amb ∧ (State.afterFailure s pos).ports = s.ports ∧ (State.afterFailure s pos).frames = s.frames ∧ (State.afterFailure s pos).nextFrame = s.nextFrame ∧ (State.afterFailure s pos).pipe = s.pipe ∧ (State.afterFailure s pos).ctxs = s.ctxs ∧ (State.afterFailure s pos).dec = s.dec ∧ (State.afterFailure s pos).vs = s.vs ∧ (State.afterFailure s pos).former = s.former ∧ (State.afterFailure s pos).usb = s.usb ∧ (State.afterFailure s pos).ser = s.ser ∧ (State.afterFailure s pos).pair = s.pair ∧ (State.afterFailure s pos).fab = s.fab ∧ (State.afterFailure s pos).fresh = s.fresh := by
  first
  | (unfold State.afterFailure; simp; done)
  | (unfold State.afterFailure; (try dsimp only); (repeat' split) <;> (first | rfl | (simp; done) | (simp_all; done) | (try simp)))
@[simp] theorem State.sampleLamp_frame (s : State) (n : Nat) (r : LampReading) :
    (State.sampleLamp s n r).pending = s.pending ∧ (State.sampleLamp s n r).identity = s.identity ∧ (State.sampleLamp s n r).aon = s.aon ∧ (State.sampleLamp s n r).pins = s.pins ∧ (State.sampleLamp s n r).phase = s.phase ∧ (State.sampleLamp s n r).boot = s.boot ∧ (State.sampleLamp s n r).sys = s.sys ∧ (State.sampleLamp s n r).shadow = s.shadow ∧ (State.sampleLamp s n r).faulted = s.faulted ∧ (State.sampleLamp s n r).tap = s.tap ∧ (State.sampleLamp s n r).time = s.time ∧ (State.sampleLamp s n r).thermal = s.thermal ∧ (State.sampleLamp s n r).adcA = s.adcA ∧ (State.sampleLamp s n r).adcB = s.adcB ∧ (State.sampleLamp s n r).amb = s.amb ∧ (State.sampleLamp s n r).ports = s.ports ∧ (State.sampleLamp s n r).frames = s.frames ∧ (State.sampleLamp s n r).nextFrame = s.nextFrame ∧ (State.sampleLamp s n r).pipe = s.pipe ∧ (State.sampleLamp s n r).ctxs = s.ctxs ∧ (State.sampleLamp s n r).dec = s.dec ∧ (State.sampleLamp s n r).vs = s.vs ∧ (State.sampleLamp s n r).former = s.former ∧ (State.sampleLamp s n r).usb = s.usb ∧ (State.sampleLamp s n r).ser = s.ser ∧ (State.sampleLamp s n r).pair = s.pair ∧ (State.sampleLamp s n r).fab = s.fab ∧ (State.sampleLamp s n r).fresh = s.fresh := by
  first
  | (unfold State.sampleLamp; simp; done)
  | (unfold State.sampleLamp; (try dsimp only); (repeat' split) <;> (first | rfl | (simp; done) | (simp_all; done) | (try simp)))
@[simp] theorem State.sampleColumn_frame (s0 : State) (g : GroupId) (k : CourseRun) (readings : List Nat) (s : State) (c : Nat) :
    (State.sampleColumn s0 g k readings s c).pending = s.pending ∧ (State.sampleColumn s0 g k readings s c).identity = s.identity ∧ (State.sampleColumn s0 g k readings s c).aon = s.aon ∧ (State.sampleColumn s0 g k readings s c).pins = s.pins ∧ (State.sampleColumn s0 g k readings s c).phase = s.phase ∧ (State.sampleColumn s0 g k readings s c).boot = s.boot ∧ (State.sampleColumn s0 g k readings s c).sys = s.sys ∧ (State.sampleColumn s0 g k readings s c).shadow = s.shadow ∧ (State.sampleColumn s0 g k readings s c).faulted = s.faulted ∧ (State.sampleColumn s0 g k readings s c).tap = s.tap ∧ (State.sampleColumn s0 g k readings s c).time = s.time ∧ (State.sampleColumn s0 g k readings s c).thermal = s.thermal ∧ (State.sampleColumn s0 g k readings s c).adcA = s.adcA ∧ (State.sampleColumn s0 g k readings s c).adcB = s.adcB ∧ (State.sampleColumn s0 g k readings s c).amb = s.amb ∧ (State.sampleColumn s0 g k readings s c).ports = s.ports ∧ (State.sampleColumn s0 g k readings s c).frames = s.frames ∧ (State.sampleColumn s0 g k readings s c).nextFrame = s.nextFrame ∧ (State.sampleColumn s0 g k readings s c).pipe = s.pipe ∧ (State.sampleColumn s0 g k readings s c).ctxs = s.ctxs ∧ (State.sampleColumn s0 g k readings s c).dec = s.dec ∧ (State.sampleColumn s0 g k readings s c).vs = s.vs ∧ (State.sampleColumn s0 g k readings s c).former = s.former ∧ (State.sampleColumn s0 g k readings s c).usb = s.usb ∧ (State.sampleColumn s0 g k readings s c).ser = s.ser ∧ (State.sampleColumn s0 g k readings s c).pair = s.pair ∧ (State.sampleColumn s0 g k readings s c).fab = s.fab ∧ (State.sampleColumn s0 g k readings s c).fresh = s.fresh := by
  first
  | (unfold State.sampleColumn; simp; done)
  | (unfold State.sampleColumn; (try dsimp only); (repeat' split) <;> (first | rfl | (simp; done) | (simp_all; done) | (try simp)))
@[simp] theorem State.evaluatePulse_frame (s : State) (g : GroupId) (k : CourseRun) (readings : List Nat) :
    (State.evaluatePulse s g k readings).pending = s.pending ∧ (State.evaluatePulse s g k readings).identity = s.identity ∧ (State.evaluatePulse s g k readings).aon = s.aon ∧ (State.evaluatePulse s g k readings).pins = s.pins ∧ (State.evaluatePulse s g k readings).phase = s.phase ∧ (State.evaluatePulse s g k readings).boot = s.boot ∧ (State.evaluatePulse s g k readings).sys = s.sys ∧ (State.evaluatePulse s g k readings).shadow = s.shadow ∧ (State.evaluatePulse s g k readings).faulted = s.faulted ∧ (State.evaluatePulse s g k readings).tap = s.tap ∧ (State.evaluatePulse s g k readings).time = s.time ∧ (State.evaluatePulse s g k readings).thermal = s.thermal ∧ (State.evaluatePulse s g k readings).adcA = s.adcA ∧ (State.evaluatePulse s g k readings).adcB = s.adcB ∧ (State.evaluatePulse s g k readings).amb = s.amb ∧ (State.evaluatePulse s g k readings).ports = s.ports ∧ (State.evaluatePulse s g k readings).frames = s.frames ∧ (State.evaluatePulse s g k readings).nextFrame = s.nextFrame ∧ (State.evaluatePulse s g k readings).pipe = s.pipe ∧ (State.evaluatePulse s g k readings).ctxs = s.ctxs ∧ (State.evaluatePulse s g k readings).dec = s.dec ∧ (State.evaluatePulse s g k readings).vs = s.vs ∧ (State.evaluatePulse s g k readings).former = s.former ∧ (State.evaluatePulse s g k readings).usb = s.usb ∧ (State.evaluatePulse s g k readings).ser = s.ser ∧ (State.evaluatePulse s g k readings).pair = s.pair ∧ (State.evaluatePulse s g k readings).fab = s.fab ∧ (State.evaluatePulse s g k readings).fresh = s.fresh := by
  first
  | (unfold State.evaluatePulse; simp; done)
  | (unfold State.evaluatePulse; (try dsimp only); (repeat' split) <;> (first | rfl | (simp; done) | (simp_all; done) | (try simp)))
theorem execFaultSample_frame (g : GroupId) (readings : List Nat) (s : State) :
    ∃ u, execFaultSample g readings s = .next u ∧
    u.pending = s.pending ∧ u.identity = s.identity ∧ u.aon = s.aon ∧ u.pins = s.pins ∧ u.phase = s.phase ∧ u.boot = s.boot ∧ u.sys = s.sys ∧ u.shadow = s.shadow ∧ u.faulted = s.faulted ∧ u.tap = s.tap ∧ u.time = s.time ∧ u.thermal = s.thermal ∧ u.adcA = s.adcA ∧ u.adcB = s.adcB ∧ u.amb = s.amb ∧ u.ports = s.ports ∧ u.frames = s.frames ∧ u.nextFrame = s.nextFrame ∧ u.pipe = s.pipe ∧ u.ctxs = s.ctxs ∧ u.dec = s.dec ∧ u.vs = s.vs ∧ u.former = s.former ∧ u.usb = s.usb ∧ u.ser = s.ser ∧ u.pair = s.pair ∧ u.fab = s.fab ∧ u.fresh = s.fresh := by
  refine ⟨_, rfl, ?_⟩
  first
  | (simp; done)
  | ((try simp only [State.whenRun, State.access, State.packet]); (repeat' split) <;> (first | rfl | (simp; done) | (simp_all; done) | (try simp)))
theorem execZeroCurrentCheck_frame (col : Fin 16) (level : Nat) (pos : Nat) (s : State) :
    ∃ u, execZeroCurrentCheck col level pos s = .next u ∧
    u.pending = s.pending ∧ u.identity = s.identity ∧ u.aon = s.aon ∧ u.pins = s.pins ∧ u.phase = s.phase ∧ u.boot = s.boot ∧ u.sys = s.sys ∧ u.shadow = s.shadow ∧ u.faulted = s.faulted ∧ u.tap = s.tap ∧ u.time = s.time ∧ u.thermal = s.thermal ∧ u.adcA = s.adcA ∧ u.adcB = s.adcB ∧ u.amb = s.amb ∧ u.ports = s.ports ∧ u.frames = s.frames ∧ u.nextFrame = s.nextFrame ∧ u.pipe = s.pipe ∧ u.ctxs = s.ctxs ∧ u.dec = s.dec ∧ u.vs = s.vs ∧ u.former = s.former ∧ u.usb = s.usb ∧ u.ser = s.ser ∧ u.pair = s.pair ∧ u.fab = s.fab ∧ u.fresh = s.fresh := by
  refine ⟨_, rfl, ?_⟩
  first
  | (simp; done)
  | ((try simp only [State.whenRun, State.access, State.packet]); (repeat' split) <;> (first | rfl | (simp; done) | (simp_all; done) | (try simp)))
@[simp] theorem State.applyFire_frame (s : State) (v : Word) :
    (State.applyFire s v).pending = s.pending ∧ (State.applyFire s v).identity = s.identity ∧ (State.applyFire s v).aon = s.aon ∧ (State.applyFire s v).pins = s.pins ∧ (State.applyFire s v).phase = s.phase ∧ (State.applyFire s v).boot = s.boot ∧ (State.applyFire s v).sys = s.sys ∧ (State.applyFire s v).balls = s.balls ∧ (State.applyFire s v).fields = s.fields ∧ (State.applyFire s v).shadow = s.shadow ∧ (State.applyFire s v).trowels = s.trowels ∧ (State.applyFire s v).faulted = s.faulted ∧ (State.applyFire s v).bb = s.bb ∧ (State.applyFire s v).tap = s.tap ∧ (State.applyFire s v).time = s.time ∧ (State.applyFire s v).thermal = s.thermal ∧ (State.applyFire s v).adcA = s.adcA ∧ (State.applyFire s v).adcB = s.adcB ∧ (State.applyFire s v).amb = s.amb ∧ (State.applyFire s v).ports = s.ports ∧ (State.applyFire s v).frames = s.frames ∧ (State.applyFire s v).nextFrame = s.nextFrame ∧ (State.applyFire s v).pipe = s.pipe ∧ (State.applyFire s v).ctxs = s.ctxs ∧ (State.applyFire s v).dec = s.dec ∧ (State.applyFire s v).vs = s.vs ∧ (State.applyFire s v).former = s.former ∧ (State.applyFire s v).usb = s.usb ∧ (State.applyFire s v).ser = s.ser ∧ (State.applyFire s v).pair = s.pair ∧ (State.applyFire s v).fab = s.fab ∧ (State.applyFire s v).fresh = s.fresh := by
  first
  | (unfold State.applyFire; simp; done)
  | (unfold State.applyFire; (try dsimp only); (repeat' split) <;> (first | rfl | (simp; done) | (simp_all; done) | (try simp)))
@[simp] theorem State.applyGo_frame (s : State) (v : Word) :
    (State.applyGo s v).pending = s.pending ∧ (State.applyGo s v).identity = s.identity ∧ (State.applyGo s v).aon = s.aon ∧ (State.applyGo s v).pins = s.pins ∧ (State.applyGo s v).phase = s.phase ∧ (State.applyGo s v).boot = s.boot ∧ (State.applyGo s v).sys = s.sys ∧ (State.applyGo s v).balls = s.balls ∧ (State.applyGo s v).fields = s.fields ∧ (State.applyGo s v).shadow = s.shadow ∧ (State.applyGo s v).trowels = s.trowels ∧ (State.applyGo s v).faulted = s.faulted ∧ (State.applyGo s v).bb = s.bb ∧ (State.applyGo s v).tap = s.tap ∧ (State.applyGo s v).time = s.time ∧ (State.applyGo s v).thermal = s.thermal ∧ (State.applyGo s v).adcA = s.adcA ∧ (State.applyGo s v).adcB = s.adcB ∧ (State.applyGo s v).amb = s.amb ∧ (State.applyGo s v).ports = s.ports ∧ (State.applyGo s v).frames = s.frames ∧ (State.applyGo s v).nextFrame = s.nextFrame ∧ (State.applyGo s v).pipe = s.pipe ∧ (State.applyGo s v).ctxs = s.ctxs ∧ (State.applyGo s v).dec = s.dec ∧ (State.applyGo s v).vs = s.vs ∧ (State.applyGo s v).former = s.former ∧ (State.applyGo s v).usb = s.usb ∧ (State.applyGo s v).ser = s.ser ∧ (State.applyGo s v).pair = s.pair ∧ (State.applyGo s v).fab = s.fab ∧ (State.applyGo s v).fresh = s.fresh := by
  first
  | (unfold State.applyGo; simp; done)
  | (unfold State.applyGo; (try dsimp only); (repeat' split) <;> (first | rfl | (simp; done) | (simp_all; done) | (try simp)))
@[simp] theorem State.stepCurve_frame (s : State) (g : GroupId) :
    (State.stepCurve s g).pending = s.pending ∧ (State.stepCurve s g).identity = s.identity ∧ (State.stepCurve s g).aon = s.aon ∧ (State.stepCurve s g).pins = s.pins ∧ (State.stepCurve s g).phase = s.phase ∧ (State.stepCurve s g).boot = s.boot ∧ (State.stepCurve s g).sys = s.sys ∧ (State.stepCurve s g).balls = s.balls ∧ (State.stepCurve s g).shadow = s.shadow ∧ (State.stepCurve s g).faulted = s.faulted ∧ (State.stepCurve s g).bb = s.bb ∧ (State.stepCurve s g).tap = s.tap ∧ (State.stepCurve s g).time = s.time ∧ (State.stepCurve s g).thermal = s.thermal ∧ (State.stepCurve s g).adcA = s.adcA ∧ (State.stepCurve s g).adcB = s.adcB ∧ (State.stepCurve s g).amb = s.amb ∧ (State.stepCurve s g).ports = s.ports ∧ (State.stepCurve s g).frames = s.frames ∧ (State.stepCurve s g).nextFrame = s.nextFrame ∧ (State.stepCurve s g).pipe = s.pipe ∧ (State.stepCurve s g).ctxs = s.ctxs ∧ (State.stepCurve s g).dec = s.dec ∧ (State.stepCurve s g).vs = s.vs ∧ (State.stepCurve s g).former = s.former ∧ (State.stepCurve s g).usb = s.usb ∧ (State.stepCurve s g).ser = s.ser ∧ (State.stepCurve s g).pair = s.pair ∧ (State.stepCurve s g).fab = s.fab ∧ (State.stepCurve s g).fresh = s.fresh := by
  first
  | (unfold State.stepCurve; simp; done)
  | (unfold State.stepCurve; (try dsimp only); (repeat' split) <;> (first | rfl | (simp; done) | (simp_all; done) | (try simp)))
@[simp] theorem State.scanApplied_frame (s : State) :
    (State.scanApplied s).pending = s.pending ∧ (State.scanApplied s).identity = s.identity ∧ (State.scanApplied s).aon = s.aon ∧ (State.scanApplied s).pins = s.pins ∧ (State.scanApplied s).phase = s.phase ∧ (State.scanApplied s).boot = s.boot ∧ (State.scanApplied s).sys = s.sys ∧ (State.scanApplied s).balls = s.balls ∧ (State.scanApplied s).fields = s.fields ∧ (State.scanApplied s).shadow = s.shadow ∧ (State.scanApplied s).trowels = s.trowels ∧ (State.scanApplied s).faulted = s.faulted ∧ (State.scanApplied s).bb = s.bb ∧ (State.scanApplied s).tap = s.tap ∧ (State.scanApplied s).time = s.time ∧ (State.scanApplied s).thermal = s.thermal ∧ (State.scanApplied s).adcA = s.adcA ∧ (State.scanApplied s).adcB = s.adcB ∧ (State.scanApplied s).amb = s.amb ∧ (State.scanApplied s).ports = s.ports ∧ (State.scanApplied s).frames = s.frames ∧ (State.scanApplied s).nextFrame = s.nextFrame ∧ (State.scanApplied s).pipe = s.pipe ∧ (State.scanApplied s).ctxs = s.ctxs ∧ (State.scanApplied s).dec = s.dec ∧ (State.scanApplied s).vs = s.vs ∧ (State.scanApplied s).former = s.former ∧ (State.scanApplied s).usb = s.usb ∧ (State.scanApplied s).ser = s.ser ∧ (State.scanApplied s).pair = s.pair ∧ (State.scanApplied s).fab = s.fab ∧ (State.scanApplied s).fresh = s.fresh := by
  first
  | (unfold State.scanApplied; simp; done)
  | (unfold State.scanApplied; (try dsimp only); (repeat' split) <;> (first | rfl | (simp; done) | (simp_all; done) | (try simp)))
@[simp] theorem State.applyLight_frame (s : State) (sel : Pend → Bool) :
    (State.applyLight s sel).pending = s.pending ∧ (State.applyLight s sel).identity = s.identity ∧ (State.applyLight s sel).aon = s.aon ∧ (State.applyLight s sel).pins = s.pins ∧ (State.applyLight s sel).phase = s.phase ∧ (State.applyLight s sel).boot = s.boot ∧ (State.applyLight s sel).sys = s.sys ∧ (State.applyLight s sel).balls = s.balls ∧ (State.applyLight s sel).trowels = s.trowels ∧ (State.applyLight s sel).faulted = s.faulted ∧ (State.applyLight s sel).bb = s.bb ∧ (State.applyLight s sel).tap = s.tap ∧ (State.applyLight s sel).time = s.time ∧ (State.applyLight s sel).thermal = s.thermal ∧ (State.applyLight s sel).adcA = s.adcA ∧ (State.applyLight s sel).adcB = s.adcB ∧ (State.applyLight s sel).amb = s.amb ∧ (State.applyLight s sel).ports = s.ports ∧ (State.applyLight s sel).frames = s.frames ∧ (State.applyLight s sel).nextFrame = s.nextFrame ∧ (State.applyLight s sel).pipe = s.pipe ∧ (State.applyLight s sel).ctxs = s.ctxs ∧ (State.applyLight s sel).dec = s.dec ∧ (State.applyLight s sel).vs = s.vs ∧ (State.applyLight s sel).former = s.former ∧ (State.applyLight s sel).usb = s.usb ∧ (State.applyLight s sel).ser = s.ser ∧ (State.applyLight s sel).pair = s.pair ∧ (State.applyLight s sel).fab = s.fab ∧ (State.applyLight s sel).fresh = s.fresh := by
  first
  | (unfold State.applyLight; simp; done)
  | (unfold State.applyLight; (try dsimp only); (repeat' split) <;> (first | rfl | (simp; done) | (simp_all; done) | (try simp)))
@[simp] theorem State.applyCourseSets_frame (s : State) :
    (State.applyCourseSets s).pending = s.pending ∧ (State.applyCourseSets s).identity = s.identity ∧ (State.applyCourseSets s).aon = s.aon ∧ (State.applyCourseSets s).pins = s.pins ∧ (State.applyCourseSets s).phase = s.phase ∧ (State.applyCourseSets s).boot = s.boot ∧ (State.applyCourseSets s).sys = s.sys ∧ (State.applyCourseSets s).balls = s.balls ∧ (State.applyCourseSets s).trowels = s.trowels ∧ (State.applyCourseSets s).faulted = s.faulted ∧ (State.applyCourseSets s).bb = s.bb ∧ (State.applyCourseSets s).tap = s.tap ∧ (State.applyCourseSets s).time = s.time ∧ (State.applyCourseSets s).thermal = s.thermal ∧ (State.applyCourseSets s).adcA = s.adcA ∧ (State.applyCourseSets s).adcB = s.adcB ∧ (State.applyCourseSets s).amb = s.amb ∧ (State.applyCourseSets s).ports = s.ports ∧ (State.applyCourseSets s).frames = s.frames ∧ (State.applyCourseSets s).nextFrame = s.nextFrame ∧ (State.applyCourseSets s).pipe = s.pipe ∧ (State.applyCourseSets s).ctxs = s.ctxs ∧ (State.applyCourseSets s).dec = s.dec ∧ (State.applyCourseSets s).vs = s.vs ∧ (State.applyCourseSets s).former = s.former ∧ (State.applyCourseSets s).usb = s.usb ∧ (State.applyCourseSets s).ser = s.ser ∧ (State.applyCourseSets s).pair = s.pair ∧ (State.applyCourseSets s).fab = s.fab ∧ (State.applyCourseSets s).fresh = s.fresh := by
  first
  | (unfold State.applyCourseSets; simp; done)
  | (unfold State.applyCourseSets; (try dsimp only); (repeat' split) <;> (first | rfl | (simp; done) | (simp_all; done) | (try simp)))
@[simp] theorem State.endZeros_frame (s : State) (k : CourseRun) :
    (State.endZeros s k).pending = s.pending ∧ (State.endZeros s k).identity = s.identity ∧ (State.endZeros s k).aon = s.aon ∧ (State.endZeros s k).pins = s.pins ∧ (State.endZeros s k).phase = s.phase ∧ (State.endZeros s k).boot = s.boot ∧ (State.endZeros s k).sys = s.sys ∧ (State.endZeros s k).balls = s.balls ∧ (State.endZeros s k).fields = s.fields ∧ (State.endZeros s k).shadow = s.shadow ∧ (State.endZeros s k).trowels = s.trowels ∧ (State.endZeros s k).faulted = s.faulted ∧ (State.endZeros s k).bb = s.bb ∧ (State.endZeros s k).tap = s.tap ∧ (State.endZeros s k).time = s.time ∧ (State.endZeros s k).thermal = s.thermal ∧ (State.endZeros s k).adcA = s.adcA ∧ (State.endZeros s k).adcB = s.adcB ∧ (State.endZeros s k).amb = s.amb ∧ (State.endZeros s k).ports = s.ports ∧ (State.endZeros s k).frames = s.frames ∧ (State.endZeros s k).nextFrame = s.nextFrame ∧ (State.endZeros s k).pipe = s.pipe ∧ (State.endZeros s k).ctxs = s.ctxs ∧ (State.endZeros s k).dec = s.dec ∧ (State.endZeros s k).vs = s.vs ∧ (State.endZeros s k).former = s.former ∧ (State.endZeros s k).usb = s.usb ∧ (State.endZeros s k).ser = s.ser ∧ (State.endZeros s k).pair = s.pair ∧ (State.endZeros s k).fab = s.fab ∧ (State.endZeros s k).fresh = s.fresh := by
  first
  | (unfold State.endZeros; simp; done)
  | (unfold State.endZeros; (try dsimp only); (repeat' split) <;> (first | rfl | (simp; done) | (simp_all; done) | (try simp)))
@[simp] theorem State.endCourse_frame (s : State) :
    (State.endCourse s).pending = s.pending ∧ (State.endCourse s).identity = s.identity ∧ (State.endCourse s).aon = s.aon ∧ (State.endCourse s).pins = s.pins ∧ (State.endCourse s).phase = s.phase ∧ (State.endCourse s).boot = s.boot ∧ (State.endCourse s).sys = s.sys ∧ (State.endCourse s).balls = s.balls ∧ (State.endCourse s).fields = s.fields ∧ (State.endCourse s).shadow = s.shadow ∧ (State.endCourse s).trowels = s.trowels ∧ (State.endCourse s).faulted = s.faulted ∧ (State.endCourse s).bb = s.bb ∧ (State.endCourse s).tap = s.tap ∧ (State.endCourse s).time = s.time ∧ (State.endCourse s).thermal = s.thermal ∧ (State.endCourse s).adcA = s.adcA ∧ (State.endCourse s).adcB = s.adcB ∧ (State.endCourse s).amb = s.amb ∧ (State.endCourse s).ports = s.ports ∧ (State.endCourse s).frames = s.frames ∧ (State.endCourse s).nextFrame = s.nextFrame ∧ (State.endCourse s).pipe = s.pipe ∧ (State.endCourse s).ctxs = s.ctxs ∧ (State.endCourse s).dec = s.dec ∧ (State.endCourse s).vs = s.vs ∧ (State.endCourse s).former = s.former ∧ (State.endCourse s).usb = s.usb ∧ (State.endCourse s).ser = s.ser ∧ (State.endCourse s).pair = s.pair ∧ (State.endCourse s).fab = s.fab ∧ (State.endCourse s).fresh = s.fresh := by
  first
  | (unfold State.endCourse; simp; done)
  | (unfold State.endCourse; (try dsimp only); (repeat' split) <;> (first | rfl | (simp; done) | (simp_all; done) | (try simp)))
@[simp] theorem State.wrapEntry_frame (s : State) :
    (State.wrapEntry s).pending = s.pending ∧ (State.wrapEntry s).identity = s.identity ∧ (State.wrapEntry s).aon = s.aon ∧ (State.wrapEntry s).pins = s.pins ∧ (State.wrapEntry s).phase = s.phase ∧ (State.wrapEntry s).boot = s.boot ∧ (State.wrapEntry s).sys = s.sys ∧ (State.wrapEntry s).balls = s.balls ∧ (State.wrapEntry s).fields = s.fields ∧ (State.wrapEntry s).shadow = s.shadow ∧ (State.wrapEntry s).trowels = s.trowels ∧ (State.wrapEntry s).faulted = s.faulted ∧ (State.wrapEntry s).bb = s.bb ∧ (State.wrapEntry s).tap = s.tap ∧ (State.wrapEntry s).time = s.time ∧ (State.wrapEntry s).thermal = s.thermal ∧ (State.wrapEntry s).adcA = s.adcA ∧ (State.wrapEntry s).adcB = s.adcB ∧ (State.wrapEntry s).amb = s.amb ∧ (State.wrapEntry s).ports = s.ports ∧ (State.wrapEntry s).frames = s.frames ∧ (State.wrapEntry s).nextFrame = s.nextFrame ∧ (State.wrapEntry s).pipe = s.pipe ∧ (State.wrapEntry s).ctxs = s.ctxs ∧ (State.wrapEntry s).dec = s.dec ∧ (State.wrapEntry s).vs = s.vs ∧ (State.wrapEntry s).former = s.former ∧ (State.wrapEntry s).usb = s.usb ∧ (State.wrapEntry s).ser = s.ser ∧ (State.wrapEntry s).pair = s.pair ∧ (State.wrapEntry s).fab = s.fab ∧ (State.wrapEntry s).fresh = s.fresh := by
  first
  | (unfold State.wrapEntry; simp; done)
  | (unfold State.wrapEntry; (try dsimp only); (repeat' split) <;> (first | rfl | (simp; done) | (simp_all; done) | (try simp)))
@[simp] theorem State.startCourse_frame (s : State) (e0 : Nat) :
    (State.startCourse s e0).pending = s.pending ∧ (State.startCourse s e0).identity = s.identity ∧ (State.startCourse s e0).aon = s.aon ∧ (State.startCourse s e0).pins = s.pins ∧ (State.startCourse s e0).phase = s.phase ∧ (State.startCourse s e0).boot = s.boot ∧ (State.startCourse s e0).sys = s.sys ∧ (State.startCourse s e0).balls = s.balls ∧ (State.startCourse s e0).faulted = s.faulted ∧ (State.startCourse s e0).tap = s.tap ∧ (State.startCourse s e0).time = s.time ∧ (State.startCourse s e0).thermal = s.thermal ∧ (State.startCourse s e0).adcA = s.adcA ∧ (State.startCourse s e0).adcB = s.adcB ∧ (State.startCourse s e0).amb = s.amb ∧ (State.startCourse s e0).ports = s.ports ∧ (State.startCourse s e0).frames = s.frames ∧ (State.startCourse s e0).nextFrame = s.nextFrame ∧ (State.startCourse s e0).pipe = s.pipe ∧ (State.startCourse s e0).ctxs = s.ctxs ∧ (State.startCourse s e0).dec = s.dec ∧ (State.startCourse s e0).vs = s.vs ∧ (State.startCourse s e0).former = s.former ∧ (State.startCourse s e0).usb = s.usb ∧ (State.startCourse s e0).ser = s.ser ∧ (State.startCourse s e0).pair = s.pair ∧ (State.startCourse s e0).fab = s.fab ∧ (State.startCourse s e0).fresh = s.fresh := by
  first
  | (unfold State.startCourse; simp; done)
  | (unfold State.startCourse; (try dsimp only); (repeat' split) <;> (first | rfl | (simp; done) | (simp_all; done) | (try simp)))
@[simp] theorem State.lightRest_frame (s : State) :
    (State.lightRest s).pending = s.pending ∧ (State.lightRest s).identity = s.identity ∧ (State.lightRest s).aon = s.aon ∧ (State.lightRest s).pins = s.pins ∧ (State.lightRest s).phase = s.phase ∧ (State.lightRest s).boot = s.boot ∧ (State.lightRest s).sys = s.sys ∧ (State.lightRest s).balls = s.balls ∧ (State.lightRest s).fields = s.fields ∧ (State.lightRest s).shadow = s.shadow ∧ (State.lightRest s).trowels = s.trowels ∧ (State.lightRest s).faulted = s.faulted ∧ (State.lightRest s).bb = s.bb ∧ (State.lightRest s).tap = s.tap ∧ (State.lightRest s).time = s.time ∧ (State.lightRest s).thermal = s.thermal ∧ (State.lightRest s).adcA = s.adcA ∧ (State.lightRest s).adcB = s.adcB ∧ (State.lightRest s).amb = s.amb ∧ (State.lightRest s).ports = s.ports ∧ (State.lightRest s).frames = s.frames ∧ (State.lightRest s).nextFrame = s.nextFrame ∧ (State.lightRest s).pipe = s.pipe ∧ (State.lightRest s).ctxs = s.ctxs ∧ (State.lightRest s).dec = s.dec ∧ (State.lightRest s).vs = s.vs ∧ (State.lightRest s).former = s.former ∧ (State.lightRest s).usb = s.usb ∧ (State.lightRest s).ser = s.ser ∧ (State.lightRest s).pair = s.pair ∧ (State.lightRest s).fab = s.fab ∧ (State.lightRest s).fresh = s.fresh := by
  first
  | (unfold State.lightRest; simp; done)
  | (unfold State.lightRest; (try dsimp only); (repeat' split) <;> (first | rfl | (simp; done) | (simp_all; done) | (try simp)))
@[simp] theorem State.courseBoundary_frame (s : State) :
    (State.courseBoundary s).pending = s.pending ∧ (State.courseBoundary s).identity = s.identity ∧ (State.courseBoundary s).aon = s.aon ∧ (State.courseBoundary s).pins = s.pins ∧ (State.courseBoundary s).phase = s.phase ∧ (State.courseBoundary s).boot = s.boot ∧ (State.courseBoundary s).sys = s.sys ∧ (State.courseBoundary s).balls = s.balls ∧ (State.courseBoundary s).faulted = s.faulted ∧ (State.courseBoundary s).tap = s.tap ∧ (State.courseBoundary s).time = s.time ∧ (State.courseBoundary s).thermal = s.thermal ∧ (State.courseBoundary s).adcA = s.adcA ∧ (State.courseBoundary s).adcB = s.adcB ∧ (State.courseBoundary s).amb = s.amb ∧ (State.courseBoundary s).ports = s.ports ∧ (State.courseBoundary s).frames = s.frames ∧ (State.courseBoundary s).nextFrame = s.nextFrame ∧ (State.courseBoundary s).pipe = s.pipe ∧ (State.courseBoundary s).ctxs = s.ctxs ∧ (State.courseBoundary s).dec = s.dec ∧ (State.courseBoundary s).vs = s.vs ∧ (State.courseBoundary s).former = s.former ∧ (State.courseBoundary s).usb = s.usb ∧ (State.courseBoundary s).ser = s.ser ∧ (State.courseBoundary s).pair = s.pair ∧ (State.courseBoundary s).fab = s.fab ∧ (State.courseBoundary s).fresh = s.fresh := by
  first
  | (unfold State.courseBoundary; simp; done)
  | (unfold State.courseBoundary; (try dsimp only); (repeat' split) <;> (first | rfl | (simp; done) | (simp_all; done) | (try simp)))
theorem execScanInstant_frame (s : State) :
    ∃ u, execScanInstant s = .next u ∧
    u.pending = s.pending ∧ u.identity = s.identity ∧ u.aon = s.aon ∧ u.pins = s.pins ∧ u.phase = s.phase ∧ u.boot = s.boot ∧ u.sys = s.sys ∧ u.balls = s.balls ∧ u.faulted = s.faulted ∧ u.tap = s.tap ∧ u.time = s.time ∧ u.thermal = s.thermal ∧ u.adcA = s.adcA ∧ u.adcB = s.adcB ∧ u.amb = s.amb ∧ u.ports = s.ports ∧ u.frames = s.frames ∧ u.nextFrame = s.nextFrame ∧ u.pipe = s.pipe ∧ u.ctxs = s.ctxs ∧ u.dec = s.dec ∧ u.vs = s.vs ∧ u.former = s.former ∧ u.usb = s.usb ∧ u.ser = s.ser ∧ u.pair = s.pair ∧ u.fab = s.fab ∧ u.fresh = s.fresh := by
  refine ⟨_, rfl, ?_⟩
  first
  | (simp; done)
  | ((try simp only [State.whenRun, State.access, State.packet]); (repeat' split) <;> (first | rfl | (simp; done) | (simp_all; done) | (try simp)))
theorem execPulseStart_frame (g : GroupId) (s : State) :
    ∃ u, execPulseStart g s = .next u ∧
    u.pending = s.pending ∧ u.identity = s.identity ∧ u.aon = s.aon ∧ u.pins = s.pins ∧ u.phase = s.phase ∧ u.boot = s.boot ∧ u.sys = s.sys ∧ u.balls = s.balls ∧ u.fields = s.fields ∧ u.shadow = s.shadow ∧ u.trowels = s.trowels ∧ u.faulted = s.faulted ∧ u.bb = s.bb ∧ u.tap = s.tap ∧ u.time = s.time ∧ u.thermal = s.thermal ∧ u.adcA = s.adcA ∧ u.adcB = s.adcB ∧ u.amb = s.amb ∧ u.ports = s.ports ∧ u.frames = s.frames ∧ u.nextFrame = s.nextFrame ∧ u.pipe = s.pipe ∧ u.ctxs = s.ctxs ∧ u.dec = s.dec ∧ u.vs = s.vs ∧ u.former = s.former ∧ u.usb = s.usb ∧ u.ser = s.ser ∧ u.pair = s.pair ∧ u.fab = s.fab ∧ u.fresh = s.fresh := by
  refine ⟨_, rfl, ?_⟩
  first
  | (simp; done)
  | ((try simp only [State.whenRun, State.access, State.packet]); (repeat' split) <;> (first | rfl | (simp; done) | (simp_all; done) | (try simp)))
theorem execPulseEnd_frame (g : GroupId) (s : State) :
    ∃ u, execPulseEnd g s = .next u ∧
    u.pending = s.pending ∧ u.identity = s.identity ∧ u.aon = s.aon ∧ u.pins = s.pins ∧ u.phase = s.phase ∧ u.boot = s.boot ∧ u.sys = s.sys ∧ u.balls = s.balls ∧ u.fields = s.fields ∧ u.shadow = s.shadow ∧ u.faulted = s.faulted ∧ u.bb = s.bb ∧ u.tap = s.tap ∧ u.time = s.time ∧ u.thermal = s.thermal ∧ u.adcA = s.adcA ∧ u.adcB = s.adcB ∧ u.amb = s.amb ∧ u.ports = s.ports ∧ u.frames = s.frames ∧ u.nextFrame = s.nextFrame ∧ u.pipe = s.pipe ∧ u.ctxs = s.ctxs ∧ u.dec = s.dec ∧ u.vs = s.vs ∧ u.former = s.former ∧ u.usb = s.usb ∧ u.ser = s.ser ∧ u.pair = s.pair ∧ u.fab = s.fab ∧ u.fresh = s.fresh := by
  refine ⟨_, rfl, ?_⟩
  first
  | (simp; done)
  | ((try simp only [State.whenRun, State.access, State.packet]); (repeat' split) <;> (first | rfl | (simp; done) | (simp_all; done) | (try simp)))
theorem execBlankingStart_frame (s : State) :
    ∃ u, execBlankingStart s = .next u ∧
    u.pending = s.pending ∧ u.identity = s.identity ∧ u.aon = s.aon ∧ u.pins = s.pins ∧ u.phase = s.phase ∧ u.boot = s.boot ∧ u.sys = s.sys ∧ u.balls = s.balls ∧ u.shadow = s.shadow ∧ u.faulted = s.faulted ∧ u.bb = s.bb ∧ u.tap = s.tap ∧ u.time = s.time ∧ u.thermal = s.thermal ∧ u.adcA = s.adcA ∧ u.adcB = s.adcB ∧ u.amb = s.amb ∧ u.ports = s.ports ∧ u.frames = s.frames ∧ u.nextFrame = s.nextFrame ∧ u.pipe = s.pipe ∧ u.ctxs = s.ctxs ∧ u.dec = s.dec ∧ u.vs = s.vs ∧ u.former = s.former ∧ u.usb = s.usb ∧ u.ser = s.ser ∧ u.pair = s.pair ∧ u.fab = s.fab ∧ u.fresh = s.fresh := by
  refine ⟨_, rfl, ?_⟩
  first
  | (simp; done)
  | ((try simp only [State.whenRun, State.access, State.packet]); (repeat' split) <;> (first | rfl | (simp; done) | (simp_all; done) | (try simp)))
theorem execDischargeEnd_frame (s : State) :
    ∃ u, execDischargeEnd s = .next u ∧
    u.pending = s.pending ∧ u.identity = s.identity ∧ u.aon = s.aon ∧ u.pins = s.pins ∧ u.phase = s.phase ∧ u.boot = s.boot ∧ u.sys = s.sys ∧ u.balls = s.balls ∧ u.fields = s.fields ∧ u.shadow = s.shadow ∧ u.trowels = s.trowels ∧ u.faulted = s.faulted ∧ u.bb = s.bb ∧ u.tap = s.tap ∧ u.time = s.time ∧ u.thermal = s.thermal ∧ u.adcA = s.adcA ∧ u.adcB = s.adcB ∧ u.amb = s.amb ∧ u.ports = s.ports ∧ u.frames = s.frames ∧ u.nextFrame = s.nextFrame ∧ u.pipe = s.pipe ∧ u.ctxs = s.ctxs ∧ u.dec = s.dec ∧ u.vs = s.vs ∧ u.former = s.former ∧ u.usb = s.usb ∧ u.ser = s.ser ∧ u.pair = s.pair ∧ u.fab = s.fab ∧ u.fresh = s.fresh := by
  refine ⟨_, rfl, ?_⟩
  first
  | (simp; done)
  | ((try simp only [State.whenRun, State.access, State.packet]); (repeat' split) <;> (first | rfl | (simp; done) | (simp_all; done) | (try simp)))
@[simp] theorem State.issueStart_frame (s : State) (slot : Option (Fin 4)) :
    (State.issueStart s slot).pending = s.pending ∧ (State.issueStart s slot).identity = s.identity ∧ (State.issueStart s slot).aon = s.aon ∧ (State.issueStart s slot).pins = s.pins ∧ (State.issueStart s slot).phase = s.phase ∧ (State.issueStart s slot).boot = s.boot ∧ (State.issueStart s slot).sys = s.sys ∧ (State.issueStart s slot).balls = s.balls ∧ (State.issueStart s slot).fields = s.fields ∧ (State.issueStart s slot).shadow = s.shadow ∧ (State.issueStart s slot).trowels = s.trowels ∧ (State.issueStart s slot).faulted = s.faulted ∧ (State.issueStart s slot).bb = s.bb ∧ (State.issueStart s slot).tap = s.tap ∧ (State.issueStart s slot).time = s.time ∧ (State.issueStart s slot).thermal = s.thermal ∧ (State.issueStart s slot).adcA = s.adcA ∧ (State.issueStart s slot).adcB = s.adcB ∧ (State.issueStart s slot).amb = s.amb ∧ (State.issueStart s slot).ports = s.ports ∧ (State.issueStart s slot).frames = s.frames ∧ (State.issueStart s slot).nextFrame = s.nextFrame ∧ (State.issueStart s slot).pipe = s.pipe ∧ (State.issueStart s slot).ctxs = s.ctxs ∧ (State.issueStart s slot).dec = s.dec ∧ (State.issueStart s slot).vs = s.vs ∧ (State.issueStart s slot).former = s.former ∧ (State.issueStart s slot).usb = s.usb ∧ (State.issueStart s slot).ser = s.ser ∧ (State.issueStart s slot).pair = s.pair ∧ (State.issueStart s slot).fab = s.fab ∧ (State.issueStart s slot).fresh = s.fresh := by
  first
  | (unfold State.issueStart; simp; done)
  | (unfold State.issueStart; (try dsimp only); (repeat' split) <;> (first | rfl | (simp; done) | (simp_all; done) | (try simp)))
@[simp] theorem State.takeStart_frame (s : State) (slot : Option (Fin 4)) :
    (State.takeStart s slot).pending = s.pending ∧ (State.takeStart s slot).identity = s.identity ∧ (State.takeStart s slot).aon = s.aon ∧ (State.takeStart s slot).pins = s.pins ∧ (State.takeStart s slot).phase = s.phase ∧ (State.takeStart s slot).boot = s.boot ∧ (State.takeStart s slot).sys = s.sys ∧ (State.takeStart s slot).balls = s.balls ∧ (State.takeStart s slot).fields = s.fields ∧ (State.takeStart s slot).shadow = s.shadow ∧ (State.takeStart s slot).trowels = s.trowels ∧ (State.takeStart s slot).faulted = s.faulted ∧ (State.takeStart s slot).bb = s.bb ∧ (State.takeStart s slot).tap = s.tap ∧ (State.takeStart s slot).time = s.time ∧ (State.takeStart s slot).thermal = s.thermal ∧ (State.takeStart s slot).adcA = s.adcA ∧ (State.takeStart s slot).adcB = s.adcB ∧ (State.takeStart s slot).amb = s.amb ∧ (State.takeStart s slot).ports = s.ports ∧ (State.takeStart s slot).frames = s.frames ∧ (State.takeStart s slot).nextFrame = s.nextFrame ∧ (State.takeStart s slot).pipe = s.pipe ∧ (State.takeStart s slot).ctxs = s.ctxs ∧ (State.takeStart s slot).dec = s.dec ∧ (State.takeStart s slot).vs = s.vs ∧ (State.takeStart s slot).former = s.former ∧ (State.takeStart s slot).usb = s.usb ∧ (State.takeStart s slot).ser = s.ser ∧ (State.takeStart s slot).pair = s.pair ∧ (State.takeStart s slot).fab = s.fab ∧ (State.takeStart s slot).fresh = s.fresh := by
  first
  | (unfold State.takeStart; simp; done)
  | (unfold State.takeStart; (try dsimp only); (repeat' split) <;> (first | rfl | (simp; done) | (simp_all; done) | (try simp)))
theorem execStrobeLockedIssue_frame (m : Fin 4) (s : State) :
    ∃ u, execStrobeLockedIssue m s = .next u ∧
    u.pending = s.pending ∧ u.identity = s.identity ∧ u.aon = s.aon ∧ u.pins = s.pins ∧ u.phase = s.phase ∧ u.boot = s.boot ∧ u.sys = s.sys ∧ u.balls = s.balls ∧ u.fields = s.fields ∧ u.shadow = s.shadow ∧ u.trowels = s.trowels ∧ u.faulted = s.faulted ∧ u.bb = s.bb ∧ u.tap = s.tap ∧ u.time = s.time ∧ u.thermal = s.thermal ∧ u.adcA = s.adcA ∧ u.adcB = s.adcB ∧ u.amb = s.amb ∧ u.ports = s.ports ∧ u.frames = s.frames ∧ u.nextFrame = s.nextFrame ∧ u.pipe = s.pipe ∧ u.ctxs = s.ctxs ∧ u.dec = s.dec ∧ u.vs = s.vs ∧ u.former = s.former ∧ u.usb = s.usb ∧ u.ser = s.ser ∧ u.pair = s.pair ∧ u.fab = s.fab ∧ u.fresh = s.fresh := by
  refine ⟨_, rfl, ?_⟩
  first
  | (simp; done)
  | ((try simp only [State.whenRun, State.access, State.packet]); (repeat' split) <;> (first | rfl | (simp; done) | (simp_all; done) | (try simp)))
theorem execDarkStartIssue_frame (s : State) :
    ∃ u, execDarkStartIssue s = .next u ∧
    u.pending = s.pending ∧ u.identity = s.identity ∧ u.aon = s.aon ∧ u.pins = s.pins ∧ u.phase = s.phase ∧ u.boot = s.boot ∧ u.sys = s.sys ∧ u.balls = s.balls ∧ u.fields = s.fields ∧ u.shadow = s.shadow ∧ u.trowels = s.trowels ∧ u.faulted = s.faulted ∧ u.bb = s.bb ∧ u.tap = s.tap ∧ u.time = s.time ∧ u.thermal = s.thermal ∧ u.adcA = s.adcA ∧ u.adcB = s.adcB ∧ u.amb = s.amb ∧ u.ports = s.ports ∧ u.frames = s.frames ∧ u.nextFrame = s.nextFrame ∧ u.pipe = s.pipe ∧ u.ctxs = s.ctxs ∧ u.dec = s.dec ∧ u.vs = s.vs ∧ u.former = s.former ∧ u.usb = s.usb ∧ u.ser = s.ser ∧ u.pair = s.pair ∧ u.fab = s.fab ∧ u.fresh = s.fresh := by
  refine ⟨_, rfl, ?_⟩
  first
  | (simp; done)
  | ((try simp only [State.whenRun, State.access, State.packet]); (repeat' split) <;> (first | rfl | (simp; done) | (simp_all; done) | (try simp)))
@[simp] theorem State.markPin_frame (s : State) (p : Nat) :
    (State.markPin s p).pending = s.pending ∧ (State.markPin s p).identity = s.identity ∧ (State.markPin s p).aon = s.aon ∧ (State.markPin s p).pins = s.pins ∧ (State.markPin s p).phase = s.phase ∧ (State.markPin s p).boot = s.boot ∧ (State.markPin s p).sys = s.sys ∧ (State.markPin s p).balls = s.balls ∧ (State.markPin s p).shadow = s.shadow ∧ (State.markPin s p).trowels = s.trowels ∧ (State.markPin s p).faulted = s.faulted ∧ (State.markPin s p).bb = s.bb ∧ (State.markPin s p).tap = s.tap ∧ (State.markPin s p).time = s.time ∧ (State.markPin s p).thermal = s.thermal ∧ (State.markPin s p).light = s.light ∧ (State.markPin s p).adcA = s.adcA ∧ (State.markPin s p).adcB = s.adcB ∧ (State.markPin s p).amb = s.amb ∧ (State.markPin s p).ports = s.ports ∧ (State.markPin s p).frames = s.frames ∧ (State.markPin s p).nextFrame = s.nextFrame ∧ (State.markPin s p).pipe = s.pipe ∧ (State.markPin s p).ctxs = s.ctxs ∧ (State.markPin s p).dec = s.dec ∧ (State.markPin s p).vs = s.vs ∧ (State.markPin s p).former = s.former ∧ (State.markPin s p).usb = s.usb ∧ (State.markPin s p).ser = s.ser ∧ (State.markPin s p).pair = s.pair ∧ (State.markPin s p).fab = s.fab ∧ (State.markPin s p).fresh = s.fresh := by
  first
  | (unfold State.markPin; simp; done)
  | (unfold State.markPin; (try dsimp only); (repeat' split) <;> (first | rfl | (simp; done) | (simp_all; done) | (try simp)))
@[simp] theorem State.bridge_frame (s : State) (p q : Nat) :
    (State.bridge s p q).pending = s.pending ∧ (State.bridge s p q).identity = s.identity ∧ (State.bridge s p q).aon = s.aon ∧ (State.bridge s p q).pins = s.pins ∧ (State.bridge s p q).phase = s.phase ∧ (State.bridge s p q).boot = s.boot ∧ (State.bridge s p q).sys = s.sys ∧ (State.bridge s p q).shadow = s.shadow ∧ (State.bridge s p q).faulted = s.faulted ∧ (State.bridge s p q).tap = s.tap ∧ (State.bridge s p q).time = s.time ∧ (State.bridge s p q).thermal = s.thermal ∧ (State.bridge s p q).light = s.light ∧ (State.bridge s p q).adcA = s.adcA ∧ (State.bridge s p q).adcB = s.adcB ∧ (State.bridge s p q).amb = s.amb ∧ (State.bridge s p q).ports = s.ports ∧ (State.bridge s p q).frames = s.frames ∧ (State.bridge s p q).nextFrame = s.nextFrame ∧ (State.bridge s p q).pipe = s.pipe ∧ (State.bridge s p q).ctxs = s.ctxs ∧ (State.bridge s p q).dec = s.dec ∧ (State.bridge s p q).vs = s.vs ∧ (State.bridge s p q).former = s.former ∧ (State.bridge s p q).usb = s.usb ∧ (State.bridge s p q).ser = s.ser ∧ (State.bridge s p q).pair = s.pair ∧ (State.bridge s p q).fab = s.fab ∧ (State.bridge s p q).fresh = s.fresh := by
  first
  | (unfold State.bridge; simp; done)
  | (unfold State.bridge; (try dsimp only); (repeat' split) <;> (first | rfl | (simp; done) | (simp_all; done) | (try simp)))
@[simp] theorem State.sweepOn_frame (s : State) :
    (State.sweepOn s).pending = s.pending ∧ (State.sweepOn s).identity = s.identity ∧ (State.sweepOn s).aon = s.aon ∧ (State.sweepOn s).pins = s.pins ∧ (State.sweepOn s).phase = s.phase ∧ (State.sweepOn s).boot = s.boot ∧ (State.sweepOn s).sys = s.sys ∧ (State.sweepOn s).balls = s.balls ∧ (State.sweepOn s).fields = s.fields ∧ (State.sweepOn s).shadow = s.shadow ∧ (State.sweepOn s).faulted = s.faulted ∧ (State.sweepOn s).bb = s.bb ∧ (State.sweepOn s).tap = s.tap ∧ (State.sweepOn s).time = s.time ∧ (State.sweepOn s).thermal = s.thermal ∧ (State.sweepOn s).adcA = s.adcA ∧ (State.sweepOn s).adcB = s.adcB ∧ (State.sweepOn s).amb = s.amb ∧ (State.sweepOn s).ports = s.ports ∧ (State.sweepOn s).frames = s.frames ∧ (State.sweepOn s).nextFrame = s.nextFrame ∧ (State.sweepOn s).pipe = s.pipe ∧ (State.sweepOn s).ctxs = s.ctxs ∧ (State.sweepOn s).dec = s.dec ∧ (State.sweepOn s).vs = s.vs ∧ (State.sweepOn s).former = s.former ∧ (State.sweepOn s).usb = s.usb ∧ (State.sweepOn s).ser = s.ser ∧ (State.sweepOn s).pair = s.pair ∧ (State.sweepOn s).fab = s.fab ∧ (State.sweepOn s).fresh = s.fresh := by
  first
  | (unfold State.sweepOn; simp; done)
  | (unfold State.sweepOn; (try dsimp only); (repeat' split) <;> (first | rfl | (simp; done) | (simp_all; done) | (try simp)))
@[simp] theorem State.bridges_frame (s : State) (pin : Nat) (found : List Nat) :
    (State.bridges s pin found).pending = s.pending ∧ (State.bridges s pin found).identity = s.identity ∧ (State.bridges s pin found).aon = s.aon ∧ (State.bridges s pin found).pins = s.pins ∧ (State.bridges s pin found).phase = s.phase ∧ (State.bridges s pin found).boot = s.boot ∧ (State.bridges s pin found).sys = s.sys ∧ (State.bridges s pin found).shadow = s.shadow ∧ (State.bridges s pin found).faulted = s.faulted ∧ (State.bridges s pin found).tap = s.tap ∧ (State.bridges s pin found).time = s.time ∧ (State.bridges s pin found).thermal = s.thermal ∧ (State.bridges s pin found).light = s.light ∧ (State.bridges s pin found).adcA = s.adcA ∧ (State.bridges s pin found).adcB = s.adcB ∧ (State.bridges s pin found).amb = s.amb ∧ (State.bridges s pin found).ports = s.ports ∧ (State.bridges s pin found).frames = s.frames ∧ (State.bridges s pin found).nextFrame = s.nextFrame ∧ (State.bridges s pin found).pipe = s.pipe ∧ (State.bridges s pin found).ctxs = s.ctxs ∧ (State.bridges s pin found).dec = s.dec ∧ (State.bridges s pin found).vs = s.vs ∧ (State.bridges s pin found).former = s.former ∧ (State.bridges s pin found).usb = s.usb ∧ (State.bridges s pin found).ser = s.ser ∧ (State.bridges s pin found).pair = s.pair ∧ (State.bridges s pin found).fab = s.fab ∧ (State.bridges s pin found).fresh = s.fresh := by
  first
  | (unfold State.bridges; simp; done)
  | (unfold State.bridges; (try dsimp only); (repeat' split) <;> (first | rfl | (simp; done) | (simp_all; done) | (try simp)))
theorem execNeighTestStep_frame (pin : Fin 40) (levels : List (Fin 40 × Nat)) (s : State) :
    ∃ u, execNeighTestStep pin levels s = .next u ∧
    u.pending = s.pending ∧ u.identity = s.identity ∧ u.aon = s.aon ∧ u.pins = s.pins ∧ u.phase = s.phase ∧ u.sys = s.sys ∧ u.shadow = s.shadow ∧ u.faulted = s.faulted ∧ u.tap = s.tap ∧ u.time = s.time ∧ u.thermal = s.thermal ∧ u.adcA = s.adcA ∧ u.adcB = s.adcB ∧ u.amb = s.amb ∧ u.ports = s.ports ∧ u.frames = s.frames ∧ u.nextFrame = s.nextFrame ∧ u.pipe = s.pipe ∧ u.ctxs = s.ctxs ∧ u.dec = s.dec ∧ u.vs = s.vs ∧ u.former = s.former ∧ u.usb = s.usb ∧ u.ser = s.ser ∧ u.pair = s.pair ∧ u.fab = s.fab ∧ u.fresh = s.fresh := by
  refine ⟨_, rfl, ?_⟩
  first
  | (simp; done)
  | ((try simp only [State.whenRun, State.access, State.packet]); (repeat' split) <;> (first | rfl | (simp; done) | (simp_all; done) | (try simp)))
theorem execNeighSweepStart_frame (s : State) :
    ∃ u, execNeighSweepStart s = .next u ∧
    u.pending = s.pending ∧ u.identity = s.identity ∧ u.aon = s.aon ∧ u.pins = s.pins ∧ u.phase = s.phase ∧ u.boot = s.boot ∧ u.sys = s.sys ∧ u.balls = s.balls ∧ u.fields = s.fields ∧ u.shadow = s.shadow ∧ u.faulted = s.faulted ∧ u.tap = s.tap ∧ u.time = s.time ∧ u.thermal = s.thermal ∧ u.adcA = s.adcA ∧ u.adcB = s.adcB ∧ u.amb = s.amb ∧ u.ports = s.ports ∧ u.frames = s.frames ∧ u.nextFrame = s.nextFrame ∧ u.pipe = s.pipe ∧ u.ctxs = s.ctxs ∧ u.dec = s.dec ∧ u.vs = s.vs ∧ u.former = s.former ∧ u.usb = s.usb ∧ u.ser = s.ser ∧ u.pair = s.pair ∧ u.fab = s.fab ∧ u.fresh = s.fresh := by
  refine ⟨_, rfl, ?_⟩
  first
  | (simp; done)
  | ((try simp only [State.whenRun, State.access, State.packet]); (repeat' split) <;> (first | rfl | (simp; done) | (simp_all; done) | (try simp)))
@[simp] theorem State.setDerateFlag_frame (s : State) (on : Bool) :
    (State.setDerateFlag s on).pending = s.pending ∧ (State.setDerateFlag s on).identity = s.identity ∧ (State.setDerateFlag s on).aon = s.aon ∧ (State.setDerateFlag s on).pins = s.pins ∧ (State.setDerateFlag s on).phase = s.phase ∧ (State.setDerateFlag s on).boot = s.boot ∧ (State.setDerateFlag s on).sys = s.sys ∧ (State.setDerateFlag s on).balls = s.balls ∧ (State.setDerateFlag s on).fields = s.fields ∧ (State.setDerateFlag s on).shadow = s.shadow ∧ (State.setDerateFlag s on).faulted = s.faulted ∧ (State.setDerateFlag s on).tap = s.tap ∧ (State.setDerateFlag s on).time = s.time ∧ (State.setDerateFlag s on).thermal = s.thermal ∧ (State.setDerateFlag s on).adcA = s.adcA ∧ (State.setDerateFlag s on).adcB = s.adcB ∧ (State.setDerateFlag s on).amb = s.amb ∧ (State.setDerateFlag s on).ports = s.ports ∧ (State.setDerateFlag s on).frames = s.frames ∧ (State.setDerateFlag s on).nextFrame = s.nextFrame ∧ (State.setDerateFlag s on).pipe = s.pipe ∧ (State.setDerateFlag s on).ctxs = s.ctxs ∧ (State.setDerateFlag s on).dec = s.dec ∧ (State.setDerateFlag s on).vs = s.vs ∧ (State.setDerateFlag s on).former = s.former ∧ (State.setDerateFlag s on).usb = s.usb ∧ (State.setDerateFlag s on).ser = s.ser ∧ (State.setDerateFlag s on).pair = s.pair ∧ (State.setDerateFlag s on).fab = s.fab ∧ (State.setDerateFlag s on).fresh = s.fresh := by
  first
  | (unfold State.setDerateFlag; simp; done)
  | (unfold State.setDerateFlag; (try dsimp only); (repeat' split) <;> (first | rfl | (simp; done) | (simp_all; done) | (try simp)))
theorem execDerateUpdate_frame (s : State) :
    ∃ u, execDerateUpdate s = .next u ∧
    u.pending = s.pending ∧ u.identity = s.identity ∧ u.aon = s.aon ∧ u.pins = s.pins ∧ u.phase = s.phase ∧ u.boot = s.boot ∧ u.sys = s.sys ∧ u.balls = s.balls ∧ u.shadow = s.shadow ∧ u.faulted = s.faulted ∧ u.tap = s.tap ∧ u.time = s.time ∧ u.thermal = s.thermal ∧ u.adcA = s.adcA ∧ u.adcB = s.adcB ∧ u.amb = s.amb ∧ u.ports = s.ports ∧ u.frames = s.frames ∧ u.nextFrame = s.nextFrame ∧ u.pipe = s.pipe ∧ u.ctxs = s.ctxs ∧ u.dec = s.dec ∧ u.vs = s.vs ∧ u.former = s.former ∧ u.usb = s.usb ∧ u.ser = s.ser ∧ u.pair = s.pair ∧ u.fab = s.fab ∧ u.fresh = s.fresh := by
  refine ⟨_, rfl, ?_⟩
  first
  | (simp; done)
  | ((try simp only [State.whenRun, State.access, State.packet]); (repeat' split) <;> (first | rfl | (simp; done) | (simp_all; done) | (try simp)))
theorem execTempLost_frame (s : State) :
    ∃ u, execTempLost s = .next u ∧
    u.pending = s.pending ∧ u.identity = s.identity ∧ u.aon = s.aon ∧ u.pins = s.pins ∧ u.phase = s.phase ∧ u.boot = s.boot ∧ u.sys = s.sys ∧ u.balls = s.balls ∧ u.shadow = s.shadow ∧ u.faulted = s.faulted ∧ u.tap = s.tap ∧ u.time = s.time ∧ u.thermal = s.thermal ∧ u.adcA = s.adcA ∧ u.adcB = s.adcB ∧ u.amb = s.amb ∧ u.ports = s.ports ∧ u.frames = s.frames ∧ u.nextFrame = s.nextFrame ∧ u.pipe = s.pipe ∧ u.ctxs = s.ctxs ∧ u.dec = s.dec ∧ u.vs = s.vs ∧ u.former = s.former ∧ u.usb = s.usb ∧ u.ser = s.ser ∧ u.pair = s.pair ∧ u.fab = s.fab ∧ u.fresh = s.fresh := by
  refine ⟨_, rfl, ?_⟩
  first
  | (simp; done)
  | ((try simp only [State.whenRun, State.access, State.packet]); (repeat' split) <;> (first | rfl | (simp; done) | (simp_all; done) | (try simp)))
theorem execLtEnFall_frame (s : State) :
    ∃ u, execLtEnFall s = .next u ∧
    u.pending = s.pending ∧ u.identity = s.identity ∧ u.aon = s.aon ∧ u.phase = s.phase ∧ u.boot = s.boot ∧ u.sys = s.sys ∧ u.balls = s.balls ∧ u.fields = s.fields ∧ u.shadow = s.shadow ∧ u.faulted = s.faulted ∧ u.tap = s.tap ∧ u.time = s.time ∧ u.thermal = s.thermal ∧ u.adcA = s.adcA ∧ u.adcB = s.adcB ∧ u.amb = s.amb ∧ u.ports = s.ports ∧ u.frames = s.frames ∧ u.nextFrame = s.nextFrame ∧ u.pipe = s.pipe ∧ u.ctxs = s.ctxs ∧ u.dec = s.dec ∧ u.vs = s.vs ∧ u.former = s.former ∧ u.usb = s.usb ∧ u.ser = s.ser ∧ u.pair = s.pair ∧ u.fab = s.fab ∧ u.fresh = s.fresh := by
  refine ⟨_, rfl, ?_⟩
  first
  | (simp; done)
  | ((try simp only [State.whenRun, State.access, State.packet]); (repeat' split) <;> (first | rfl | (simp; done) | (simp_all; done) | (try simp)))
theorem execLtEnRise_frame (s : State) :
    ∃ u, execLtEnRise s = .next u ∧
    u.pending = s.pending ∧ u.identity = s.identity ∧ u.aon = s.aon ∧ u.phase = s.phase ∧ u.boot = s.boot ∧ u.sys = s.sys ∧ u.balls = s.balls ∧ u.fields = s.fields ∧ u.shadow = s.shadow ∧ u.trowels = s.trowels ∧ u.faulted = s.faulted ∧ u.bb = s.bb ∧ u.tap = s.tap ∧ u.time = s.time ∧ u.thermal = s.thermal ∧ u.adcA = s.adcA ∧ u.adcB = s.adcB ∧ u.amb = s.amb ∧ u.ports = s.ports ∧ u.frames = s.frames ∧ u.nextFrame = s.nextFrame ∧ u.pipe = s.pipe ∧ u.ctxs = s.ctxs ∧ u.dec = s.dec ∧ u.vs = s.vs ∧ u.former = s.former ∧ u.usb = s.usb ∧ u.ser = s.ser ∧ u.pair = s.pair ∧ u.fab = s.fab ∧ u.fresh = s.fresh := by
  refine ⟨_, rfl, ?_⟩
  first
  | (simp; done)
  | ((try simp only [State.whenRun, State.access, State.packet]); (repeat' split) <;> (first | rfl | (simp; done) | (simp_all; done) | (try simp)))
@[simp] theorem State.lightStart_frame (s : State) :
    (State.lightStart s).pending = s.pending ∧ (State.lightStart s).identity = s.identity ∧ (State.lightStart s).aon = s.aon ∧ (State.lightStart s).pins = s.pins ∧ (State.lightStart s).phase = s.phase ∧ (State.lightStart s).boot = s.boot ∧ (State.lightStart s).sys = s.sys ∧ (State.lightStart s).balls = s.balls ∧ (State.lightStart s).faulted = s.faulted ∧ (State.lightStart s).tap = s.tap ∧ (State.lightStart s).time = s.time ∧ (State.lightStart s).thermal = s.thermal ∧ (State.lightStart s).adcA = s.adcA ∧ (State.lightStart s).adcB = s.adcB ∧ (State.lightStart s).amb = s.amb ∧ (State.lightStart s).ports = s.ports ∧ (State.lightStart s).frames = s.frames ∧ (State.lightStart s).nextFrame = s.nextFrame ∧ (State.lightStart s).pipe = s.pipe ∧ (State.lightStart s).ctxs = s.ctxs ∧ (State.lightStart s).dec = s.dec ∧ (State.lightStart s).vs = s.vs ∧ (State.lightStart s).former = s.former ∧ (State.lightStart s).usb = s.usb ∧ (State.lightStart s).ser = s.ser ∧ (State.lightStart s).pair = s.pair ∧ (State.lightStart s).fab = s.fab ∧ (State.lightStart s).fresh = s.fresh := by
  first
  | (unfold State.lightStart; simp; done)
  | (unfold State.lightStart; (try dsimp only); (repeat' split) <;> (first | rfl | (simp; done) | (simp_all; done) | (try simp)))
@[simp] theorem State.lightStop_frame (s : State) :
    (State.lightStop s).pending = s.pending ∧ (State.lightStop s).identity = s.identity ∧ (State.lightStop s).aon = s.aon ∧ (State.lightStop s).pins = s.pins ∧ (State.lightStop s).phase = s.phase ∧ (State.lightStop s).boot = s.boot ∧ (State.lightStop s).sys = s.sys ∧ (State.lightStop s).balls = s.balls ∧ (State.lightStop s).trowels = s.trowels ∧ (State.lightStop s).faulted = s.faulted ∧ (State.lightStop s).bb = s.bb ∧ (State.lightStop s).tap = s.tap ∧ (State.lightStop s).time = s.time ∧ (State.lightStop s).thermal = s.thermal ∧ (State.lightStop s).adcA = s.adcA ∧ (State.lightStop s).adcB = s.adcB ∧ (State.lightStop s).amb = s.amb ∧ (State.lightStop s).ports = s.ports ∧ (State.lightStop s).frames = s.frames ∧ (State.lightStop s).nextFrame = s.nextFrame ∧ (State.lightStop s).pipe = s.pipe ∧ (State.lightStop s).ctxs = s.ctxs ∧ (State.lightStop s).dec = s.dec ∧ (State.lightStop s).vs = s.vs ∧ (State.lightStop s).former = s.former ∧ (State.lightStop s).usb = s.usb ∧ (State.lightStop s).ser = s.ser ∧ (State.lightStop s).pair = s.pair ∧ (State.lightStop s).fab = s.fab ∧ (State.lightStop s).fresh = s.fresh := by
  first
  | (unfold State.lightStop; simp; done)
  | (unfold State.lightStop; (try dsimp only); (repeat' split) <;> (first | rfl | (simp; done) | (simp_all; done) | (try simp)))
@[simp] theorem State.boardTemp_frame (s : State) (v : Word) :
    (State.boardTemp s v).pending = s.pending ∧ (State.boardTemp s v).identity = s.identity ∧ (State.boardTemp s v).aon = s.aon ∧ (State.boardTemp s v).pins = s.pins ∧ (State.boardTemp s v).phase = s.phase ∧ (State.boardTemp s v).boot = s.boot ∧ (State.boardTemp s v).sys = s.sys ∧ (State.boardTemp s v).balls = s.balls ∧ (State.boardTemp s v).shadow = s.shadow ∧ (State.boardTemp s v).trowels = s.trowels ∧ (State.boardTemp s v).faulted = s.faulted ∧ (State.boardTemp s v).bb = s.bb ∧ (State.boardTemp s v).tap = s.tap ∧ (State.boardTemp s v).time = s.time ∧ (State.boardTemp s v).thermal = s.thermal ∧ (State.boardTemp s v).adcA = s.adcA ∧ (State.boardTemp s v).adcB = s.adcB ∧ (State.boardTemp s v).amb = s.amb ∧ (State.boardTemp s v).ports = s.ports ∧ (State.boardTemp s v).frames = s.frames ∧ (State.boardTemp s v).nextFrame = s.nextFrame ∧ (State.boardTemp s v).pipe = s.pipe ∧ (State.boardTemp s v).ctxs = s.ctxs ∧ (State.boardTemp s v).dec = s.dec ∧ (State.boardTemp s v).vs = s.vs ∧ (State.boardTemp s v).former = s.former ∧ (State.boardTemp s v).usb = s.usb ∧ (State.boardTemp s v).ser = s.ser ∧ (State.boardTemp s v).pair = s.pair ∧ (State.boardTemp s v).fab = s.fab ∧ (State.boardTemp s v).fresh = s.fresh := by
  first
  | (unfold State.boardTemp; simp; done)
  | (unfold State.boardTemp; (try dsimp only); (repeat' split) <;> (first | rfl | (simp; done) | (simp_all; done) | (try simp)))
@[simp] theorem State.lightNow_frame (s : State) (a : Nat) (v : Word) :
    (State.lightNow s a v).pending = s.pending ∧ (State.lightNow s a v).identity = s.identity ∧ (State.lightNow s a v).aon = s.aon ∧ (State.lightNow s a v).pins = s.pins ∧ (State.lightNow s a v).phase = s.phase ∧ (State.lightNow s a v).boot = s.boot ∧ (State.lightNow s a v).sys = s.sys ∧ (State.lightNow s a v).balls = s.balls ∧ (State.lightNow s a v).faulted = s.faulted ∧ (State.lightNow s a v).tap = s.tap ∧ (State.lightNow s a v).time = s.time ∧ (State.lightNow s a v).thermal = s.thermal ∧ (State.lightNow s a v).adcA = s.adcA ∧ (State.lightNow s a v).adcB = s.adcB ∧ (State.lightNow s a v).amb = s.amb ∧ (State.lightNow s a v).ports = s.ports ∧ (State.lightNow s a v).frames = s.frames ∧ (State.lightNow s a v).nextFrame = s.nextFrame ∧ (State.lightNow s a v).pipe = s.pipe ∧ (State.lightNow s a v).ctxs = s.ctxs ∧ (State.lightNow s a v).dec = s.dec ∧ (State.lightNow s a v).vs = s.vs ∧ (State.lightNow s a v).former = s.former ∧ (State.lightNow s a v).usb = s.usb ∧ (State.lightNow s a v).ser = s.ser ∧ (State.lightNow s a v).pair = s.pair ∧ (State.lightNow s a v).fab = s.fab ∧ (State.lightNow s a v).fresh = s.fresh := by
  first
  | (unfold State.lightNow; simp; done)
  | (unfold State.lightNow; (try dsimp only); (repeat' split) <;> (first | rfl | (simp; done) | (simp_all; done) | (try simp)))
end Sys2Proof.Machine
end

