-- ==== Sys2Proof/Laws/FrameSense.lean ====
section
/-! SUPPORT. Frames: which parts of the state each operation of Machine/Sense leaves as they were. -/

namespace Sys2Proof.Machine
@[simp] theorem State.updAdc_frame (s : State) (c : Conv) (f : Adc → Adc) :
    (State.updAdc s c f).pending = s.pending ∧ (State.updAdc s c f).identity = s.identity ∧ (State.updAdc s c f).aon = s.aon ∧ (State.updAdc s c f).pins = s.pins ∧ (State.updAdc s c f).phase = s.phase ∧ (State.updAdc s c f).boot = s.boot ∧ (State.updAdc s c f).sys = s.sys ∧ (State.updAdc s c f).balls = s.balls ∧ (State.updAdc s c f).fields = s.fields ∧ (State.updAdc s c f).shadow = s.shadow ∧ (State.updAdc s c f).trowels = s.trowels ∧ (State.updAdc s c f).faulted = s.faulted ∧ (State.updAdc s c f).bb = s.bb ∧ (State.updAdc s c f).tap = s.tap ∧ (State.updAdc s c f).time = s.time ∧ (State.updAdc s c f).thermal = s.thermal ∧ (State.updAdc s c f).light = s.light ∧ (State.updAdc s c f).amb = s.amb ∧ (State.updAdc s c f).ports = s.ports ∧ (State.updAdc s c f).frames = s.frames ∧ (State.updAdc s c f).nextFrame = s.nextFrame ∧ (State.updAdc s c f).pipe = s.pipe ∧ (State.updAdc s c f).ctxs = s.ctxs ∧ (State.updAdc s c f).dec = s.dec ∧ (State.updAdc s c f).vs = s.vs ∧ (State.updAdc s c f).former = s.former ∧ (State.updAdc s c f).usb = s.usb ∧ (State.updAdc s c f).ser = s.ser ∧ (State.updAdc s c f).pair = s.pair ∧ (State.updAdc s c f).fab = s.fab ∧ (State.updAdc s c f).fresh = s.fresh := by
  first
  | (unfold State.updAdc; simp; done)
  | (unfold State.updAdc; (try dsimp only); (repeat' split) <;> (first | rfl | (simp; done) | (simp_all; done) | (try simp)))
@[simp] theorem State.raiseEst_frame (s : State) (n : Nat) :
    (State.raiseEst s n).pending = s.pending ∧ (State.raiseEst s n).identity = s.identity ∧ (State.raiseEst s n).aon = s.aon ∧ (State.raiseEst s n).pins = s.pins ∧ (State.raiseEst s n).phase = s.phase ∧ (State.raiseEst s n).boot = s.boot ∧ (State.raiseEst s n).sys = s.sys ∧ (State.raiseEst s n).balls = s.balls ∧ (State.raiseEst s n).fields = s.fields ∧ (State.raiseEst s n).shadow = s.shadow ∧ (State.raiseEst s n).faulted = s.faulted ∧ (State.raiseEst s n).bb = s.bb ∧ (State.raiseEst s n).tap = s.tap ∧ (State.raiseEst s n).time = s.time ∧ (State.raiseEst s n).thermal = s.thermal ∧ (State.raiseEst s n).light = s.light ∧ (State.raiseEst s n).adcA = s.adcA ∧ (State.raiseEst s n).adcB = s.adcB ∧ (State.raiseEst s n).amb = s.amb ∧ (State.raiseEst s n).ports = s.ports ∧ (State.raiseEst s n).frames = s.frames ∧ (State.raiseEst s n).nextFrame = s.nextFrame ∧ (State.raiseEst s n).pipe = s.pipe ∧ (State.raiseEst s n).ctxs = s.ctxs ∧ (State.raiseEst s n).dec = s.dec ∧ (State.raiseEst s n).vs = s.vs ∧ (State.raiseEst s n).former = s.former ∧ (State.raiseEst s n).usb = s.usb ∧ (State.raiseEst s n).ser = s.ser ∧ (State.raiseEst s n).pair = s.pair ∧ (State.raiseEst s n).fab = s.fab ∧ (State.raiseEst s n).fresh = s.fresh := by
  first
  | (unfold State.raiseEst; simp; done)
  | (unfold State.raiseEst; (try dsimp only); (repeat' split) <;> (first | rfl | (simp; done) | (simp_all; done) | (try simp)))
@[simp] theorem State.goStale_frame (s : State) :
    (State.goStale s).pending = s.pending ∧ (State.goStale s).identity = s.identity ∧ (State.goStale s).aon = s.aon ∧ (State.goStale s).pins = s.pins ∧ (State.goStale s).phase = s.phase ∧ (State.goStale s).boot = s.boot ∧ (State.goStale s).sys = s.sys ∧ (State.goStale s).balls = s.balls ∧ (State.goStale s).shadow = s.shadow ∧ (State.goStale s).faulted = s.faulted ∧ (State.goStale s).tap = s.tap ∧ (State.goStale s).time = s.time ∧ (State.goStale s).thermal = s.thermal ∧ (State.goStale s).light = s.light ∧ (State.goStale s).adcA = s.adcA ∧ (State.goStale s).adcB = s.adcB ∧ (State.goStale s).ports = s.ports ∧ (State.goStale s).frames = s.frames ∧ (State.goStale s).nextFrame = s.nextFrame ∧ (State.goStale s).pipe = s.pipe ∧ (State.goStale s).ctxs = s.ctxs ∧ (State.goStale s).dec = s.dec ∧ (State.goStale s).vs = s.vs ∧ (State.goStale s).former = s.former ∧ (State.goStale s).usb = s.usb ∧ (State.goStale s).ser = s.ser ∧ (State.goStale s).pair = s.pair ∧ (State.goStale s).fab = s.fab ∧ (State.goStale s).fresh = s.fresh := by
  first
  | (unfold State.goStale; simp; done)
  | (unfold State.goStale; (try dsimp only); (repeat' split) <;> (first | rfl | (simp; done) | (simp_all; done) | (try simp)))
@[simp] theorem State.countAge_frame (s : State) (m : Fin 4) :
    (State.countAge s m).pending = s.pending ∧ (State.countAge s m).identity = s.identity ∧ (State.countAge s m).aon = s.aon ∧ (State.countAge s m).pins = s.pins ∧ (State.countAge s m).phase = s.phase ∧ (State.countAge s m).boot = s.boot ∧ (State.countAge s m).sys = s.sys ∧ (State.countAge s m).balls = s.balls ∧ (State.countAge s m).shadow = s.shadow ∧ (State.countAge s m).faulted = s.faulted ∧ (State.countAge s m).tap = s.tap ∧ (State.countAge s m).time = s.time ∧ (State.countAge s m).thermal = s.thermal ∧ (State.countAge s m).light = s.light ∧ (State.countAge s m).adcA = s.adcA ∧ (State.countAge s m).adcB = s.adcB ∧ (State.countAge s m).ports = s.ports ∧ (State.countAge s m).frames = s.frames ∧ (State.countAge s m).nextFrame = s.nextFrame ∧ (State.countAge s m).pipe = s.pipe ∧ (State.countAge s m).ctxs = s.ctxs ∧ (State.countAge s m).dec = s.dec ∧ (State.countAge s m).vs = s.vs ∧ (State.countAge s m).former = s.former ∧ (State.countAge s m).usb = s.usb ∧ (State.countAge s m).ser = s.ser ∧ (State.countAge s m).pair = s.pair ∧ (State.countAge s m).fab = s.fab ∧ (State.countAge s m).fresh = s.fresh := by
  first
  | (unfold State.countAge; simp; done)
  | (unfold State.countAge; (try dsimp only); (repeat' split) <;> (first | rfl | (simp; done) | (simp_all; done) | (try simp)))
@[simp] theorem State.newEstimate_frame (s : State) :
    (State.newEstimate s).pending = s.pending ∧ (State.newEstimate s).identity = s.identity ∧ (State.newEstimate s).aon = s.aon ∧ (State.newEstimate s).pins = s.pins ∧ (State.newEstimate s).phase = s.phase ∧ (State.newEstimate s).boot = s.boot ∧ (State.newEstimate s).sys = s.sys ∧ (State.newEstimate s).balls = s.balls ∧ (State.newEstimate s).shadow = s.shadow ∧ (State.newEstimate s).faulted = s.faulted ∧ (State.newEstimate s).tap = s.tap ∧ (State.newEstimate s).time = s.time ∧ (State.newEstimate s).thermal = s.thermal ∧ (State.newEstimate s).light = s.light ∧ (State.newEstimate s).adcA = s.adcA ∧ (State.newEstimate s).adcB = s.adcB ∧ (State.newEstimate s).ports = s.ports ∧ (State.newEstimate s).frames = s.frames ∧ (State.newEstimate s).nextFrame = s.nextFrame ∧ (State.newEstimate s).pipe = s.pipe ∧ (State.newEstimate s).ctxs = s.ctxs ∧ (State.newEstimate s).dec = s.dec ∧ (State.newEstimate s).vs = s.vs ∧ (State.newEstimate s).former = s.former ∧ (State.newEstimate s).usb = s.usb ∧ (State.newEstimate s).ser = s.ser ∧ (State.newEstimate s).pair = s.pair ∧ (State.newEstimate s).fab = s.fab ∧ (State.newEstimate s).fresh = s.fresh := by
  first
  | (unfold State.newEstimate; simp; done)
  | (unfold State.newEstimate; (try dsimp only); (repeat' split) <;> (first | rfl | (simp; done) | (simp_all; done) | (try simp)))
@[simp] theorem State.estimatorSync_frame (s : State) :
    (State.estimatorSync s).pending = s.pending ∧ (State.estimatorSync s).identity = s.identity ∧ (State.estimatorSync s).aon = s.aon ∧ (State.estimatorSync s).pins = s.pins ∧ (State.estimatorSync s).phase = s.phase ∧ (State.estimatorSync s).boot = s.boot ∧ (State.estimatorSync s).sys = s.sys ∧ (State.estimatorSync s).balls = s.balls ∧ (State.estimatorSync s).fields = s.fields ∧ (State.estimatorSync s).shadow = s.shadow ∧ (State.estimatorSync s).faulted = s.faulted ∧ (State.estimatorSync s).bb = s.bb ∧ (State.estimatorSync s).tap = s.tap ∧ (State.estimatorSync s).time = s.time ∧ (State.estimatorSync s).thermal = s.thermal ∧ (State.estimatorSync s).light = s.light ∧ (State.estimatorSync s).adcA = s.adcA ∧ (State.estimatorSync s).adcB = s.adcB ∧ (State.estimatorSync s).ports = s.ports ∧ (State.estimatorSync s).frames = s.frames ∧ (State.estimatorSync s).nextFrame = s.nextFrame ∧ (State.estimatorSync s).pipe = s.pipe ∧ (State.estimatorSync s).ctxs = s.ctxs ∧ (State.estimatorSync s).dec = s.dec ∧ (State.estimatorSync s).vs = s.vs ∧ (State.estimatorSync s).former = s.former ∧ (State.estimatorSync s).usb = s.usb ∧ (State.estimatorSync s).ser = s.ser ∧ (State.estimatorSync s).pair = s.pair ∧ (State.estimatorSync s).fab = s.fab ∧ (State.estimatorSync s).fresh = s.fresh := by
  first
  | (unfold State.estimatorSync; simp; done)
  | (unfold State.estimatorSync; (try dsimp only); (repeat' split) <;> (first | rfl | (simp; done) | (simp_all; done) | (try simp)))
@[simp] theorem State.sequenceStart_frame (s : State) (c : Conv) :
    (State.sequenceStart s c).pending = s.pending ∧ (State.sequenceStart s c).identity = s.identity ∧ (State.sequenceStart s c).aon = s.aon ∧ (State.sequenceStart s c).pins = s.pins ∧ (State.sequenceStart s c).phase = s.phase ∧ (State.sequenceStart s c).boot = s.boot ∧ (State.sequenceStart s c).sys = s.sys ∧ (State.sequenceStart s c).balls = s.balls ∧ (State.sequenceStart s c).trowels = s.trowels ∧ (State.sequenceStart s c).faulted = s.faulted ∧ (State.sequenceStart s c).bb = s.bb ∧ (State.sequenceStart s c).tap = s.tap ∧ (State.sequenceStart s c).time = s.time ∧ (State.sequenceStart s c).thermal = s.thermal ∧ (State.sequenceStart s c).light = s.light ∧ (State.sequenceStart s c).adcA = s.adcA ∧ (State.sequenceStart s c).adcB = s.adcB ∧ (State.sequenceStart s c).amb = s.amb ∧ (State.sequenceStart s c).ports = s.ports ∧ (State.sequenceStart s c).frames = s.frames ∧ (State.sequenceStart s c).nextFrame = s.nextFrame ∧ (State.sequenceStart s c).pipe = s.pipe ∧ (State.sequenceStart s c).ctxs = s.ctxs ∧ (State.sequenceStart s c).dec = s.dec ∧ (State.sequenceStart s c).vs = s.vs ∧ (State.sequenceStart s c).former = s.former ∧ (State.sequenceStart s c).usb = s.usb ∧ (State.sequenceStart s c).ser = s.ser ∧ (State.sequenceStart s c).pair = s.pair ∧ (State.sequenceStart s c).fab = s.fab ∧ (State.sequenceStart s c).fresh = s.fresh := by
  first
  | (unfold State.sequenceStart; simp; done)
  | (unfold State.sequenceStart; (try dsimp only); (repeat' split) <;> (first | rfl | (simp; done) | (simp_all; done) | (try simp)))
@[simp] theorem State.beginConversion_frame (s : State) (c : Conv) (src : Source) (e : Nat) :
    (State.beginConversion s c src e).pending = s.pending ∧ (State.beginConversion s c src e).identity = s.identity ∧ (State.beginConversion s c src e).aon = s.aon ∧ (State.beginConversion s c src e).pins = s.pins ∧ (State.beginConversion s c src e).phase = s.phase ∧ (State.beginConversion s c src e).boot = s.boot ∧ (State.beginConversion s c src e).sys = s.sys ∧ (State.beginConversion s c src e).balls = s.balls ∧ (State.beginConversion s c src e).faulted = s.faulted ∧ (State.beginConversion s c src e).bb = s.bb ∧ (State.beginConversion s c src e).tap = s.tap ∧ (State.beginConversion s c src e).time = s.time ∧ (State.beginConversion s c src e).thermal = s.thermal ∧ (State.beginConversion s c src e).light = s.light ∧ (State.beginConversion s c src e).amb = s.amb ∧ (State.beginConversion s c src e).ports = s.ports ∧ (State.beginConversion s c src e).frames = s.frames ∧ (State.beginConversion s c src e).nextFrame = s.nextFrame ∧ (State.beginConversion s c src e).pipe = s.pipe ∧ (State.beginConversion s c src e).ctxs = s.ctxs ∧ (State.beginConversion s c src e).dec = s.dec ∧ (State.beginConversion s c src e).vs = s.vs ∧ (State.beginConversion s c src e).former = s.former ∧ (State.beginConversion s c src e).usb = s.usb ∧ (State.beginConversion s c src e).ser = s.ser ∧ (State.beginConversion s c src e).pair = s.pair ∧ (State.beginConversion s c src e).fab = s.fab ∧ (State.beginConversion s c src e).fresh = s.fresh := by
  first
  | (unfold State.beginConversion; simp; done)
  | (unfold State.beginConversion; (try dsimp only); (repeat' split) <;> (first | rfl | (simp; done) | (simp_all; done) | (try simp)))
@[simp] theorem State.seqDone_frame (s : State) (c : Conv) :
    (State.seqDone s c).pending = s.pending ∧ (State.seqDone s c).identity = s.identity ∧ (State.seqDone s c).aon = s.aon ∧ (State.seqDone s c).pins = s.pins ∧ (State.seqDone s c).phase = s.phase ∧ (State.seqDone s c).boot = s.boot ∧ (State.seqDone s c).sys = s.sys ∧ (State.seqDone s c).balls = s.balls ∧ (State.seqDone s c).fields = s.fields ∧ (State.seqDone s c).shadow = s.shadow ∧ (State.seqDone s c).faulted = s.faulted ∧ (State.seqDone s c).bb = s.bb ∧ (State.seqDone s c).tap = s.tap ∧ (State.seqDone s c).time = s.time ∧ (State.seqDone s c).thermal = s.thermal ∧ (State.seqDone s c).light = s.light ∧ (State.seqDone s c).adcA = s.adcA ∧ (State.seqDone s c).adcB = s.adcB ∧ (State.seqDone s c).amb = s.amb ∧ (State.seqDone s c).ports = s.ports ∧ (State.seqDone s c).frames = s.frames ∧ (State.seqDone s c).nextFrame = s.nextFrame ∧ (State.seqDone s c).pipe = s.pipe ∧ (State.seqDone s c).ctxs = s.ctxs ∧ (State.seqDone s c).dec = s.dec ∧ (State.seqDone s c).vs = s.vs ∧ (State.seqDone s c).former = s.former ∧ (State.seqDone s c).usb = s.usb ∧ (State.seqDone s c).ser = s.ser ∧ (State.seqDone s c).pair = s.pair ∧ (State.seqDone s c).fab = s.fab ∧ (State.seqDone s c).fresh = s.fresh := by
  first
  | (unfold State.seqDone; simp; done)
  | (unfold State.seqDone; (try dsimp only); (repeat' split) <;> (first | rfl | (simp; done) | (simp_all; done) | (try simp)))
@[simp] theorem State.beginWork_frame (s : State) (c : Conv) (src : Source) :
    (State.beginWork s c src).pending = s.pending ∧ (State.beginWork s c src).identity = s.identity ∧ (State.beginWork s c src).aon = s.aon ∧ (State.beginWork s c src).pins = s.pins ∧ (State.beginWork s c src).phase = s.phase ∧ (State.beginWork s c src).boot = s.boot ∧ (State.beginWork s c src).sys = s.sys ∧ (State.beginWork s c src).balls = s.balls ∧ (State.beginWork s c src).faulted = s.faulted ∧ (State.beginWork s c src).bb = s.bb ∧ (State.beginWork s c src).tap = s.tap ∧ (State.beginWork s c src).time = s.time ∧ (State.beginWork s c src).thermal = s.thermal ∧ (State.beginWork s c src).light = s.light ∧ (State.beginWork s c src).ports = s.ports ∧ (State.beginWork s c src).frames = s.frames ∧ (State.beginWork s c src).nextFrame = s.nextFrame ∧ (State.beginWork s c src).pipe = s.pipe ∧ (State.beginWork s c src).ctxs = s.ctxs ∧ (State.beginWork s c src).dec = s.dec ∧ (State.beginWork s c src).vs = s.vs ∧ (State.beginWork s c src).former = s.former ∧ (State.beginWork s c src).usb = s.usb ∧ (State.beginWork s c src).ser = s.ser ∧ (State.beginWork s c src).pair = s.pair ∧ (State.beginWork s c src).fab = s.fab ∧ (State.beginWork s c src).fresh = s.fresh := by
  first
  | (unfold State.beginWork; simp; done)
  | (unfold State.beginWork; (try dsimp only); (repeat' split) <;> (first | rfl | (simp; done) | (simp_all; done) | (try simp)))
@[simp] theorem State.workDone_frame (s : State) (c : Conv) (x0 : Source) :
    (State.workDone s c x0).pending = s.pending ∧ (State.workDone s c x0).identity = s.identity ∧ (State.workDone s c x0).aon = s.aon ∧ (State.workDone s c x0).pins = s.pins ∧ (State.workDone s c x0).phase = s.phase ∧ (State.workDone s c x0).boot = s.boot ∧ (State.workDone s c x0).sys = s.sys ∧ (State.workDone s c x0).balls = s.balls ∧ (State.workDone s c x0).shadow = s.shadow ∧ (State.workDone s c x0).tap = s.tap ∧ (State.workDone s c x0).time = s.time ∧ (State.workDone s c x0).thermal = s.thermal ∧ (State.workDone s c x0).light = s.light ∧ (State.workDone s c x0).adcA = s.adcA ∧ (State.workDone s c x0).adcB = s.adcB ∧ (State.workDone s c x0).ports = s.ports ∧ (State.workDone s c x0).frames = s.frames ∧ (State.workDone s c x0).nextFrame = s.nextFrame ∧ (State.workDone s c x0).ctxs = s.ctxs ∧ (State.workDone s c x0).dec = s.dec ∧ (State.workDone s c x0).vs = s.vs ∧ (State.workDone s c x0).former = s.former ∧ (State.workDone s c x0).usb = s.usb ∧ (State.workDone s c x0).ser = s.ser ∧ (State.workDone s c x0).pair = s.pair ∧ (State.workDone s c x0).fab = s.fab ∧ (State.workDone s c x0).fresh = s.fresh := by
  first
  | (unfold State.workDone; (try dsimp only); (repeat' split) <;> (first | rfl | (simp; done) | (simp_all; done)))
  | (fun_induction State.workDone s c x0 <;> (first | rfl | (simp; done) | (simp_all; done) | (try simp_all)))
@[simp] theorem State.nextConversion_frame (c : Conv) (n : Nat) (s : State) :
    (State.nextConversion c n s).pending = s.pending ∧ (State.nextConversion c n s).identity = s.identity ∧ (State.nextConversion c n s).aon = s.aon ∧ (State.nextConversion c n s).pins = s.pins ∧ (State.nextConversion c n s).phase = s.phase ∧ (State.nextConversion c n s).boot = s.boot ∧ (State.nextConversion c n s).sys = s.sys ∧ (State.nextConversion c n s).balls = s.balls ∧ (State.nextConversion c n s).tap = s.tap ∧ (State.nextConversion c n s).time = s.time ∧ (State.nextConversion c n s).thermal = s.thermal ∧ (State.nextConversion c n s).light = s.light ∧ (State.nextConversion c n s).ports = s.ports ∧ (State.nextConversion c n s).frames = s.frames ∧ (State.nextConversion c n s).nextFrame = s.nextFrame ∧ (State.nextConversion c n s).ctxs = s.ctxs ∧ (State.nextConversion c n s).dec = s.dec ∧ (State.nextConversion c n s).vs = s.vs ∧ (State.nextConversion c n s).former = s.former ∧ (State.nextConversion c n s).usb = s.usb ∧ (State.nextConversion c n s).ser = s.ser ∧ (State.nextConversion c n s).pair = s.pair ∧ (State.nextConversion c n s).fab = s.fab ∧ (State.nextConversion c n s).fresh = s.fresh := by
  induction n generalizing s with
  | zero => simp [State.nextConversion]
  | succ n ih =>
    rw [State.nextConversion]; (try dsimp only); (repeat' split) <;> (first | rfl | (simp; done) | (simp [ih]; done) | (simp_all; done) | (try simp [ih]))
@[simp] theorem State.request_pending (s : State) (c : Conv) (src : Source) (lost : State → State) (h : ∀ s, (lost s).pending = s.pending) :
    (State.request s c src lost).pending = s.pending := by
  unfold State.request; (try dsimp only); (repeat' split) <;> (first | rfl | (simp; done) | (simp [h]; done) | (simp_all; done) | (try simp [h]))
@[simp] theorem State.request_pipe (s : State) (c : Conv) (src : Source) (lost : State → State) (h : ∀ s, (lost s).pipe = s.pipe) :
    (State.request s c src lost).pipe = s.pipe := by
  unfold State.request; (try dsimp only); (repeat' split) <;> (first | rfl | (simp; done) | (simp [h]; done) | (simp_all; done) | (try simp [h]))
@[simp] theorem State.request_faulted (s : State) (c : Conv) (src : Source) (lost : State → State) (h : ∀ s, (lost s).faulted = s.faulted) :
    (State.request s c src lost).faulted = s.faulted := by
  unfold State.request; (try dsimp only); (repeat' split) <;> (first | rfl | (simp; done) | (simp [h]; done) | (simp_all; done) | (try simp [h]))
@[simp] theorem State.request_identity (s : State) (c : Conv) (src : Source) (lost : State → State) (h : ∀ s, (lost s).identity = s.identity) :
    (State.request s c src lost).identity = s.identity := by
  unfold State.request; (try dsimp only); (repeat' split) <;> (first | rfl | (simp; done) | (simp [h]; done) | (simp_all; done) | (try simp [h]))
@[simp] theorem State.request_aon (s : State) (c : Conv) (src : Source) (lost : State → State) (h : ∀ s, (lost s).aon = s.aon) :
    (State.request s c src lost).aon = s.aon := by
  unfold State.request; (try dsimp only); (repeat' split) <;> (first | rfl | (simp; done) | (simp [h]; done) | (simp_all; done) | (try simp [h]))
@[simp] theorem State.request_pins (s : State) (c : Conv) (src : Source) (lost : State → State) (h : ∀ s, (lost s).pins = s.pins) :
    (State.request s c src lost).pins = s.pins := by
  unfold State.request; (try dsimp only); (repeat' split) <;> (first | rfl | (simp; done) | (simp [h]; done) | (simp_all; done) | (try simp [h]))
@[simp] theorem State.request_phase (s : State) (c : Conv) (src : Source) (lost : State → State) (h : ∀ s, (lost s).phase = s.phase) :
    (State.request s c src lost).phase = s.phase := by
  unfold State.request; (try dsimp only); (repeat' split) <;> (first | rfl | (simp; done) | (simp [h]; done) | (simp_all; done) | (try simp [h]))
@[simp] theorem State.request_boot (s : State) (c : Conv) (src : Source) (lost : State → State) (h : ∀ s, (lost s).boot = s.boot) :
    (State.request s c src lost).boot = s.boot := by
  unfold State.request; (try dsimp only); (repeat' split) <;> (first | rfl | (simp; done) | (simp [h]; done) | (simp_all; done) | (try simp [h]))
@[simp] theorem State.request_sys (s : State) (c : Conv) (src : Source) (lost : State → State) (h : ∀ s, (lost s).sys = s.sys) :
    (State.request s c src lost).sys = s.sys := by
  unfold State.request; (try dsimp only); (repeat' split) <;> (first | rfl | (simp; done) | (simp [h]; done) | (simp_all; done) | (try simp [h]))
@[simp] theorem State.request_balls (s : State) (c : Conv) (src : Source) (lost : State → State) (h : ∀ s, (lost s).balls = s.balls) :
    (State.request s c src lost).balls = s.balls := by
  unfold State.request; (try dsimp only); (repeat' split) <;> (first | rfl | (simp; done) | (simp [h]; done) | (simp_all; done) | (try simp [h]))
@[simp] theorem State.request_bb (s : State) (c : Conv) (src : Source) (lost : State → State) (h : ∀ s, (lost s).bb = s.bb) :
    (State.request s c src lost).bb = s.bb := by
  unfold State.request; (try dsimp only); (repeat' split) <;> (first | rfl | (simp; done) | (simp [h]; done) | (simp_all; done) | (try simp [h]))
@[simp] theorem State.request_tap (s : State) (c : Conv) (src : Source) (lost : State → State) (h : ∀ s, (lost s).tap = s.tap) :
    (State.request s c src lost).tap = s.tap := by
  unfold State.request; (try dsimp only); (repeat' split) <;> (first | rfl | (simp; done) | (simp [h]; done) | (simp_all; done) | (try simp [h]))
@[simp] theorem State.request_time (s : State) (c : Conv) (src : Source) (lost : State → State) (h : ∀ s, (lost s).time = s.time) :
    (State.request s c src lost).time = s.time := by
  unfold State.request; (try dsimp only); (repeat' split) <;> (first | rfl | (simp; done) | (simp [h]; done) | (simp_all; done) | (try simp [h]))
@[simp] theorem State.request_thermal (s : State) (c : Conv) (src : Source) (lost : State → State) (h : ∀ s, (lost s).thermal = s.thermal) :
    (State.request s c src lost).thermal = s.thermal := by
  unfold State.request; (try dsimp only); (repeat' split) <;> (first | rfl | (simp; done) | (simp [h]; done) | (simp_all; done) | (try simp [h]))
@[simp] theorem State.request_light (s : State) (c : Conv) (src : Source) (lost : State → State) (h : ∀ s, (lost s).light = s.light) :
    (State.request s c src lost).light = s.light := by
  unfold State.request; (try dsimp only); (repeat' split) <;> (first | rfl | (simp; done) | (simp [h]; done) | (simp_all; done) | (try simp [h]))
@[simp] theorem State.request_ports (s : State) (c : Conv) (src : Source) (lost : State → State) (h : ∀ s, (lost s).ports = s.ports) :
    (State.request s c src lost).ports = s.ports := by
  unfold State.request; (try dsimp only); (repeat' split) <;> (first | rfl | (simp; done) | (simp [h]; done) | (simp_all; done) | (try simp [h]))
@[simp] theorem State.request_frames (s : State) (c : Conv) (src : Source) (lost : State → State) (h : ∀ s, (lost s).frames = s.frames) :
    (State.request s c src lost).frames = s.frames := by
  unfold State.request; (try dsimp only); (repeat' split) <;> (first | rfl | (simp; done) | (simp [h]; done) | (simp_all; done) | (try simp [h]))
@[simp] theorem State.request_nextFrame (s : State) (c : Conv) (src : Source) (lost : State → State) (h : ∀ s, (lost s).nextFrame = s.nextFrame) :
    (State.request s c src lost).nextFrame = s.nextFrame := by
  unfold State.request; (try dsimp only); (repeat' split) <;> (first | rfl | (simp; done) | (simp [h]; done) | (simp_all; done) | (try simp [h]))
@[simp] theorem State.request_ctxs (s : State) (c : Conv) (src : Source) (lost : State → State) (h : ∀ s, (lost s).ctxs = s.ctxs) :
    (State.request s c src lost).ctxs = s.ctxs := by
  unfold State.request; (try dsimp only); (repeat' split) <;> (first | rfl | (simp; done) | (simp [h]; done) | (simp_all; done) | (try simp [h]))
@[simp] theorem State.request_dec (s : State) (c : Conv) (src : Source) (lost : State → State) (h : ∀ s, (lost s).dec = s.dec) :
    (State.request s c src lost).dec = s.dec := by
  unfold State.request; (try dsimp only); (repeat' split) <;> (first | rfl | (simp; done) | (simp [h]; done) | (simp_all; done) | (try simp [h]))
@[simp] theorem State.request_vs (s : State) (c : Conv) (src : Source) (lost : State → State) (h : ∀ s, (lost s).vs = s.vs) :
    (State.request s c src lost).vs = s.vs := by
  unfold State.request; (try dsimp only); (repeat' split) <;> (first | rfl | (simp; done) | (simp [h]; done) | (simp_all; done) | (try simp [h]))
@[simp] theorem State.request_former (s : State) (c : Conv) (src : Source) (lost : State → State) (h : ∀ s, (lost s).former = s.former) :
    (State.request s c src lost).former = s.former := by
  unfold State.request; (try dsimp only); (repeat' split) <;> (first | rfl | (simp; done) | (simp [h]; done) | (simp_all; done) | (try simp [h]))
@[simp] theorem State.request_usb (s : State) (c : Conv) (src : Source) (lost : State → State) (h : ∀ s, (lost s).usb = s.usb) :
    (State.request s c src lost).usb = s.usb := by
  unfold State.request; (try dsimp only); (repeat' split) <;> (first | rfl | (simp; done) | (simp [h]; done) | (simp_all; done) | (try simp [h]))
@[simp] theorem State.request_ser (s : State) (c : Conv) (src : Source) (lost : State → State) (h : ∀ s, (lost s).ser = s.ser) :
    (State.request s c src lost).ser = s.ser := by
  unfold State.request; (try dsimp only); (repeat' split) <;> (first | rfl | (simp; done) | (simp [h]; done) | (simp_all; done) | (try simp [h]))
@[simp] theorem State.request_pair (s : State) (c : Conv) (src : Source) (lost : State → State) (h : ∀ s, (lost s).pair = s.pair) :
    (State.request s c src lost).pair = s.pair := by
  unfold State.request; (try dsimp only); (repeat' split) <;> (first | rfl | (simp; done) | (simp [h]; done) | (simp_all; done) | (try simp [h]))
@[simp] theorem State.request_fab (s : State) (c : Conv) (src : Source) (lost : State → State) (h : ∀ s, (lost s).fab = s.fab) :
    (State.request s c src lost).fab = s.fab := by
  unfold State.request; (try dsimp only); (repeat' split) <;> (first | rfl | (simp; done) | (simp [h]; done) | (simp_all; done) | (try simp [h]))
@[simp] theorem State.request_fresh (s : State) (c : Conv) (src : Source) (lost : State → State) (h : ∀ s, (lost s).fresh = s.fresh) :
    (State.request s c src lost).fresh = s.fresh := by
  unfold State.request; (try dsimp only); (repeat' split) <;> (first | rfl | (simp; done) | (simp [h]; done) | (simp_all; done) | (try simp [h]))
@[simp] theorem State.accumulate_frame (s : State) (c : Conv) (j : Fin 16) (v : Int) :
    (State.accumulate s c j v).pending = s.pending ∧ (State.accumulate s c j v).identity = s.identity ∧ (State.accumulate s c j v).aon = s.aon ∧ (State.accumulate s c j v).pins = s.pins ∧ (State.accumulate s c j v).phase = s.phase ∧ (State.accumulate s c j v).boot = s.boot ∧ (State.accumulate s c j v).sys = s.sys ∧ (State.accumulate s c j v).balls = s.balls ∧ (State.accumulate s c j v).fields = s.fields ∧ (State.accumulate s c j v).shadow = s.shadow ∧ (State.accumulate s c j v).faulted = s.faulted ∧ (State.accumulate s c j v).bb = s.bb ∧ (State.accumulate s c j v).tap = s.tap ∧ (State.accumulate s c j v).time = s.time ∧ (State.accumulate s c j v).thermal = s.thermal ∧ (State.accumulate s c j v).light = s.light ∧ (State.accumulate s c j v).amb = s.amb ∧ (State.accumulate s c j v).ports = s.ports ∧ (State.accumulate s c j v).frames = s.frames ∧ (State.accumulate s c j v).nextFrame = s.nextFrame ∧ (State.accumulate s c j v).pipe = s.pipe ∧ (State.accumulate s c j v).ctxs = s.ctxs ∧ (State.accumulate s c j v).dec = s.dec ∧ (State.accumulate s c j v).vs = s.vs ∧ (State.accumulate s c j v).former = s.former ∧ (State.accumulate s c j v).usb = s.usb ∧ (State.accumulate s c j v).ser = s.ser ∧ (State.accumulate s c j v).pair = s.pair ∧ (State.accumulate s c j v).fab = s.fab ∧ (State.accumulate s c j v).fresh = s.fresh := by
  first
  | (unfold State.accumulate; simp; done)
  | (unfold State.accumulate; (try dsimp only); (repeat' split) <;> (first | rfl | (simp; done) | (simp_all; done) | (try simp)))
@[simp] theorem State.takeResult_frame (s : State) (c : Conv) (k : Conversion) (raw : Nat) :
    (State.takeResult s c k raw).pending = s.pending ∧ (State.takeResult s c k raw).identity = s.identity ∧ (State.takeResult s c k raw).aon = s.aon ∧ (State.takeResult s c k raw).pins = s.pins ∧ (State.takeResult s c k raw).phase = s.phase ∧ (State.takeResult s c k raw).boot = s.boot ∧ (State.takeResult s c k raw).sys = s.sys ∧ (State.takeResult s c k raw).balls = s.balls ∧ (State.takeResult s c k raw).fields = s.fields ∧ (State.takeResult s c k raw).shadow = s.shadow ∧ (State.takeResult s c k raw).faulted = s.faulted ∧ (State.takeResult s c k raw).bb = s.bb ∧ (State.takeResult s c k raw).tap = s.tap ∧ (State.takeResult s c k raw).time = s.time ∧ (State.takeResult s c k raw).thermal = s.thermal ∧ (State.takeResult s c k raw).light = s.light ∧ (State.takeResult s c k raw).ports = s.ports ∧ (State.takeResult s c k raw).frames = s.frames ∧ (State.takeResult s c k raw).nextFrame = s.nextFrame ∧ (State.takeResult s c k raw).pipe = s.pipe ∧ (State.takeResult s c k raw).ctxs = s.ctxs ∧ (State.takeResult s c k raw).dec = s.dec ∧ (State.takeResult s c k raw).vs = s.vs ∧ (State.takeResult s c k raw).former = s.former ∧ (State.takeResult s c k raw).usb = s.usb ∧ (State.takeResult s c k raw).ser = s.ser ∧ (State.takeResult s c k raw).pair = s.pair ∧ (State.takeResult s c k raw).fab = s.fab ∧ (State.takeResult s c k raw).fresh = s.fresh := by
  first
  | (unfold State.takeResult; simp; done)
  | (unfold State.takeResult; (try dsimp only); (repeat' split) <;> (first | rfl | (simp; done) | (simp_all; done) | (try simp)))
@[simp] theorem State.beginCalibration_frame (s : State) (c : Conv) :
    (State.beginCalibration s c).pending = s.pending ∧ (State.beginCalibration s c).identity = s.identity ∧ (State.beginCalibration s c).aon = s.aon ∧ (State.beginCalibration s c).pins = s.pins ∧ (State.beginCalibration s c).phase = s.phase ∧ (State.beginCalibration s c).boot = s.boot ∧ (State.beginCalibration s c).sys = s.sys ∧ (State.beginCalibration s c).balls = s.balls ∧ (State.beginCalibration s c).shadow = s.shadow ∧ (State.beginCalibration s c).trowels = s.trowels ∧ (State.beginCalibration s c).faulted = s.faulted ∧ (State.beginCalibration s c).bb = s.bb ∧ (State.beginCalibration s c).tap = s.tap ∧ (State.beginCalibration s c).time = s.time ∧ (State.beginCalibration s c).thermal = s.thermal ∧ (State.beginCalibration s c).light = s.light ∧ (State.beginCalibration s c).amb = s.amb ∧ (State.beginCalibration s c).ports = s.ports ∧ (State.beginCalibration s c).frames = s.frames ∧ (State.beginCalibration s c).nextFrame = s.nextFrame ∧ (State.beginCalibration s c).pipe = s.pipe ∧ (State.beginCalibration s c).ctxs = s.ctxs ∧ (State.beginCalibration s c).dec = s.dec ∧ (State.beginCalibration s c).vs = s.vs ∧ (State.beginCalibration s c).former = s.former ∧ (State.beginCalibration s c).usb = s.usb ∧ (State.beginCalibration s c).ser = s.ser ∧ (State.beginCalibration s c).pair = s.pair ∧ (State.beginCalibration s c).fab = s.fab ∧ (State.beginCalibration s c).fresh = s.fresh := by
  first
  | (unfold State.beginCalibration; simp; done)
  | (unfold State.beginCalibration; (try dsimp only); (repeat' split) <;> (first | rfl | (simp; done) | (simp_all; done) | (try simp)))
@[simp] theorem State.workEnd_frame (s : State) (c : Conv) :
    (State.workEnd s c).pending = s.pending ∧ (State.workEnd s c).identity = s.identity ∧ (State.workEnd s c).aon = s.aon ∧ (State.workEnd s c).pins = s.pins ∧ (State.workEnd s c).phase = s.phase ∧ (State.workEnd s c).boot = s.boot ∧ (State.workEnd s c).sys = s.sys ∧ (State.workEnd s c).balls = s.balls ∧ (State.workEnd s c).shadow = s.shadow ∧ (State.workEnd s c).tap = s.tap ∧ (State.workEnd s c).time = s.time ∧ (State.workEnd s c).thermal = s.thermal ∧ (State.workEnd s c).light = s.light ∧ (State.workEnd s c).ports = s.ports ∧ (State.workEnd s c).frames = s.frames ∧ (State.workEnd s c).nextFrame = s.nextFrame ∧ (State.workEnd s c).ctxs = s.ctxs ∧ (State.workEnd s c).dec = s.dec ∧ (State.workEnd s c).vs = s.vs ∧ (State.workEnd s c).former = s.former ∧ (State.workEnd s c).usb = s.usb ∧ (State.workEnd s c).ser = s.ser ∧ (State.workEnd s c).pair = s.pair ∧ (State.workEnd s c).fab = s.fab ∧ (State.workEnd s c).fresh = s.fresh := by
  first
  | (unfold State.workEnd; simp; done)
  | (unfold State.workEnd; (try dsimp only); (repeat' split) <;> (first | rfl | (simp; done) | (simp_all; done) | (try simp)))
@[simp] theorem State.conversionEnd_frame (s : State) (c : Conv) (raw : Nat) :
    (State.conversionEnd s c raw).pending = s.pending ∧ (State.conversionEnd s c raw).identity = s.identity ∧ (State.conversionEnd s c raw).aon = s.aon ∧ (State.conversionEnd s c raw).pins = s.pins ∧ (State.conversionEnd s c raw).phase = s.phase ∧ (State.conversionEnd s c raw).boot = s.boot ∧ (State.conversionEnd s c raw).sys = s.sys ∧ (State.conversionEnd s c raw).balls = s.balls ∧ (State.conversionEnd s c raw).tap = s.tap ∧ (State.conversionEnd s c raw).time = s.time ∧ (State.conversionEnd s c raw).thermal = s.thermal ∧ (State.conversionEnd s c raw).light = s.light ∧ (State.conversionEnd s c raw).ports = s.ports ∧ (State.conversionEnd s c raw).frames = s.frames ∧ (State.conversionEnd s c raw).nextFrame = s.nextFrame ∧ (State.conversionEnd s c raw).ctxs = s.ctxs ∧ (State.conversionEnd s c raw).dec = s.dec ∧ (State.conversionEnd s c raw).vs = s.vs ∧ (State.conversionEnd s c raw).former = s.former ∧ (State.conversionEnd s c raw).usb = s.usb ∧ (State.conversionEnd s c raw).ser = s.ser ∧ (State.conversionEnd s c raw).pair = s.pair ∧ (State.conversionEnd s c raw).fab = s.fab ∧ (State.conversionEnd s c raw).fresh = s.fresh := by
  first
  | (unfold State.conversionEnd; simp; done)
  | (unfold State.conversionEnd; (try dsimp only); (repeat' split) <;> (first | rfl | (simp; done) | (simp_all; done) | (try simp)))
@[simp] theorem State.sequenceRequest_frame (s : State) (c : Conv) :
    (State.sequenceRequest s c).pending = s.pending ∧ (State.sequenceRequest s c).identity = s.identity ∧ (State.sequenceRequest s c).aon = s.aon ∧ (State.sequenceRequest s c).pins = s.pins ∧ (State.sequenceRequest s c).phase = s.phase ∧ (State.sequenceRequest s c).boot = s.boot ∧ (State.sequenceRequest s c).sys = s.sys ∧ (State.sequenceRequest s c).balls = s.balls ∧ (State.sequenceRequest s c).faulted = s.faulted ∧ (State.sequenceRequest s c).bb = s.bb ∧ (State.sequenceRequest s c).tap = s.tap ∧ (State.sequenceRequest s c).time = s.time ∧ (State.sequenceRequest s c).thermal = s.thermal ∧ (State.sequenceRequest s c).light = s.light ∧ (State.sequenceRequest s c).ports = s.ports ∧ (State.sequenceRequest s c).frames = s.frames ∧ (State.sequenceRequest s c).nextFrame = s.nextFrame ∧ (State.sequenceRequest s c).pipe = s.pipe ∧ (State.sequenceRequest s c).ctxs = s.ctxs ∧ (State.sequenceRequest s c).dec = s.dec ∧ (State.sequenceRequest s c).vs = s.vs ∧ (State.sequenceRequest s c).former = s.former ∧ (State.sequenceRequest s c).usb = s.usb ∧ (State.sequenceRequest s c).ser = s.ser ∧ (State.sequenceRequest s c).pair = s.pair ∧ (State.sequenceRequest s c).fab = s.fab ∧ (State.sequenceRequest s c).fresh = s.fresh := by
  first
  | (unfold State.sequenceRequest; simp; done)
  | (unfold State.sequenceRequest; (try dsimp only); (repeat' split) <;> (first | rfl | (simp; done) | (simp_all; done) | (try simp)))
theorem execStartEdge_frame (c : Conv) (s : State) :
    ∃ u, execStartEdge c s = .next u ∧
    u.pending = s.pending ∧ u.identity = s.identity ∧ u.aon = s.aon ∧ u.pins = s.pins ∧ u.phase = s.phase ∧ u.boot = s.boot ∧ u.sys = s.sys ∧ u.balls = s.balls ∧ u.faulted = s.faulted ∧ u.bb = s.bb ∧ u.tap = s.tap ∧ u.time = s.time ∧ u.thermal = s.thermal ∧ u.light = s.light ∧ u.ports = s.ports ∧ u.frames = s.frames ∧ u.nextFrame = s.nextFrame ∧ u.pipe = s.pipe ∧ u.ctxs = s.ctxs ∧ u.dec = s.dec ∧ u.vs = s.vs ∧ u.former = s.former ∧ u.usb = s.usb ∧ u.ser = s.ser ∧ u.pair = s.pair ∧ u.fab = s.fab ∧ u.fresh = s.fresh := by
  refine ⟨_, rfl, ?_⟩
  first
  | (simp; done)
  | ((try simp only [State.whenRun, State.access, State.packet]); (repeat' split) <;> (first | rfl | (simp; done) | (simp_all; done) | (try simp)))
theorem execUrgEdge_frame (c : Conv) (s : State) :
    ∃ u, execUrgEdge c s = .next u ∧
    u.pending = s.pending ∧ u.identity = s.identity ∧ u.aon = s.aon ∧ u.pins = s.pins ∧ u.phase = s.phase ∧ u.boot = s.boot ∧ u.sys = s.sys ∧ u.balls = s.balls ∧ u.faulted = s.faulted ∧ u.bb = s.bb ∧ u.tap = s.tap ∧ u.time = s.time ∧ u.thermal = s.thermal ∧ u.light = s.light ∧ u.ports = s.ports ∧ u.frames = s.frames ∧ u.nextFrame = s.nextFrame ∧ u.pipe = s.pipe ∧ u.ctxs = s.ctxs ∧ u.dec = s.dec ∧ u.vs = s.vs ∧ u.former = s.former ∧ u.usb = s.usb ∧ u.ser = s.ser ∧ u.pair = s.pair ∧ u.fab = s.fab ∧ u.fresh = s.fresh := by
  refine ⟨_, rfl, ?_⟩
  first
  | (simp; done)
  | ((try simp only [State.whenRun, State.access, State.packet]); (repeat' split) <;> (first | rfl | (simp; done) | (simp_all; done) | (try simp)))
@[simp] theorem State.lightRequest_frame (s : State) (src : Source) :
    (State.lightRequest s src).pending = s.pending ∧ (State.lightRequest s src).identity = s.identity ∧ (State.lightRequest s src).aon = s.aon ∧ (State.lightRequest s src).pins = s.pins ∧ (State.lightRequest s src).phase = s.phase ∧ (State.lightRequest s src).boot = s.boot ∧ (State.lightRequest s src).sys = s.sys ∧ (State.lightRequest s src).balls = s.balls ∧ (State.lightRequest s src).faulted = s.faulted ∧ (State.lightRequest s src).bb = s.bb ∧ (State.lightRequest s src).tap = s.tap ∧ (State.lightRequest s src).time = s.time ∧ (State.lightRequest s src).thermal = s.thermal ∧ (State.lightRequest s src).light = s.light ∧ (State.lightRequest s src).ports = s.ports ∧ (State.lightRequest s src).frames = s.frames ∧ (State.lightRequest s src).nextFrame = s.nextFrame ∧ (State.lightRequest s src).pipe = s.pipe ∧ (State.lightRequest s src).ctxs = s.ctxs ∧ (State.lightRequest s src).dec = s.dec ∧ (State.lightRequest s src).vs = s.vs ∧ (State.lightRequest s src).former = s.former ∧ (State.lightRequest s src).usb = s.usb ∧ (State.lightRequest s src).ser = s.ser ∧ (State.lightRequest s src).pair = s.pair ∧ (State.lightRequest s src).fab = s.fab ∧ (State.lightRequest s src).fresh = s.fresh := by
  first
  | (unfold State.lightRequest; simp; done)
  | (unfold State.lightRequest; (try dsimp only); (repeat' split) <;> (first | rfl | (simp; done) | (simp_all; done) | (try simp)))
theorem execStrobeStart_frame (m : Fin 4) (s : State) :
    ∃ u, execStrobeStart m s = .next u ∧
    u.pending = s.pending ∧ u.identity = s.identity ∧ u.aon = s.aon ∧ u.pins = s.pins ∧ u.phase = s.phase ∧ u.boot = s.boot ∧ u.sys = s.sys ∧ u.balls = s.balls ∧ u.faulted = s.faulted ∧ u.tap = s.tap ∧ u.time = s.time ∧ u.thermal = s.thermal ∧ u.ports = s.ports ∧ u.frames = s.frames ∧ u.nextFrame = s.nextFrame ∧ u.pipe = s.pipe ∧ u.ctxs = s.ctxs ∧ u.dec = s.dec ∧ u.vs = s.vs ∧ u.former = s.former ∧ u.usb = s.usb ∧ u.ser = s.ser ∧ u.pair = s.pair ∧ u.fab = s.fab ∧ u.fresh = s.fresh := by
  refine ⟨_, rfl, ?_⟩
  first
  | (simp; done)
  | ((try simp only [State.whenRun, State.access, State.packet]); (repeat' split) <;> (first | rfl | (simp; done) | (simp_all; done) | (try simp)))
theorem execDarkRequest_frame (s : State) :
    ∃ u, execDarkRequest s = .next u ∧
    u.pending = s.pending ∧ u.identity = s.identity ∧ u.aon = s.aon ∧ u.pins = s.pins ∧ u.phase = s.phase ∧ u.boot = s.boot ∧ u.sys = s.sys ∧ u.balls = s.balls ∧ u.faulted = s.faulted ∧ u.bb = s.bb ∧ u.tap = s.tap ∧ u.time = s.time ∧ u.thermal = s.thermal ∧ u.ports = s.ports ∧ u.frames = s.frames ∧ u.nextFrame = s.nextFrame ∧ u.pipe = s.pipe ∧ u.ctxs = s.ctxs ∧ u.dec = s.dec ∧ u.vs = s.vs ∧ u.former = s.former ∧ u.usb = s.usb ∧ u.ser = s.ser ∧ u.pair = s.pair ∧ u.fab = s.fab ∧ u.fresh = s.fresh := by
  refine ⟨_, rfl, ?_⟩
  first
  | (simp; done)
  | ((try simp only [State.whenRun, State.access, State.packet]); (repeat' split) <;> (first | rfl | (simp; done) | (simp_all; done) | (try simp)))
theorem execRefReady_frame (c : Conv) (s : State) :
    ∃ u, execRefReady c s = .next u ∧
    u.pending = s.pending ∧ u.identity = s.identity ∧ u.aon = s.aon ∧ u.pins = s.pins ∧ u.phase = s.phase ∧ u.boot = s.boot ∧ u.sys = s.sys ∧ u.balls = s.balls ∧ u.fields = s.fields ∧ u.shadow = s.shadow ∧ u.trowels = s.trowels ∧ u.faulted = s.faulted ∧ u.bb = s.bb ∧ u.tap = s.tap ∧ u.time = s.time ∧ u.thermal = s.thermal ∧ u.light = s.light ∧ u.amb = s.amb ∧ u.ports = s.ports ∧ u.frames = s.frames ∧ u.nextFrame = s.nextFrame ∧ u.pipe = s.pipe ∧ u.ctxs = s.ctxs ∧ u.dec = s.dec ∧ u.vs = s.vs ∧ u.former = s.former ∧ u.usb = s.usb ∧ u.ser = s.ser ∧ u.pair = s.pair ∧ u.fab = s.fab ∧ u.fresh = s.fresh := by
  refine ⟨_, rfl, ?_⟩
  first
  | (simp; done)
  | ((try simp only [State.whenRun, State.access, State.packet]); (repeat' split) <;> (first | rfl | (simp; done) | (simp_all; done) | (try simp)))
@[simp] theorem State.unreference_frame (s : State) (c : Conv) :
    (State.unreference s c).pending = s.pending ∧ (State.unreference s c).identity = s.identity ∧ (State.unreference s c).aon = s.aon ∧ (State.unreference s c).pins = s.pins ∧ (State.unreference s c).phase = s.phase ∧ (State.unreference s c).boot = s.boot ∧ (State.unreference s c).sys = s.sys ∧ (State.unreference s c).balls = s.balls ∧ (State.unreference s c).shadow = s.shadow ∧ (State.unreference s c).faulted = s.faulted ∧ (State.unreference s c).bb = s.bb ∧ (State.unreference s c).tap = s.tap ∧ (State.unreference s c).time = s.time ∧ (State.unreference s c).thermal = s.thermal ∧ (State.unreference s c).light = s.light ∧ (State.unreference s c).amb = s.amb ∧ (State.unreference s c).ports = s.ports ∧ (State.unreference s c).frames = s.frames ∧ (State.unreference s c).nextFrame = s.nextFrame ∧ (State.unreference s c).pipe = s.pipe ∧ (State.unreference s c).ctxs = s.ctxs ∧ (State.unreference s c).dec = s.dec ∧ (State.unreference s c).vs = s.vs ∧ (State.unreference s c).former = s.former ∧ (State.unreference s c).usb = s.usb ∧ (State.unreference s c).ser = s.ser ∧ (State.unreference s c).pair = s.pair ∧ (State.unreference s c).fab = s.fab ∧ (State.unreference s c).fresh = s.fresh := by
  first
  | (unfold State.unreference; simp; done)
  | (unfold State.unreference; (try dsimp only); (repeat' split) <;> (first | rfl | (simp; done) | (simp_all; done) | (try simp)))
@[simp] theorem State.refEnNow_frame (s : State) (c : Conv) (v : Word) :
    (State.refEnNow s c v).pending = s.pending ∧ (State.refEnNow s c v).identity = s.identity ∧ (State.refEnNow s c v).aon = s.aon ∧ (State.refEnNow s c v).pins = s.pins ∧ (State.refEnNow s c v).phase = s.phase ∧ (State.refEnNow s c v).boot = s.boot ∧ (State.refEnNow s c v).sys = s.sys ∧ (State.refEnNow s c v).balls = s.balls ∧ (State.refEnNow s c v).shadow = s.shadow ∧ (State.refEnNow s c v).faulted = s.faulted ∧ (State.refEnNow s c v).bb = s.bb ∧ (State.refEnNow s c v).tap = s.tap ∧ (State.refEnNow s c v).time = s.time ∧ (State.refEnNow s c v).thermal = s.thermal ∧ (State.refEnNow s c v).light = s.light ∧ (State.refEnNow s c v).amb = s.amb ∧ (State.refEnNow s c v).ports = s.ports ∧ (State.refEnNow s c v).frames = s.frames ∧ (State.refEnNow s c v).nextFrame = s.nextFrame ∧ (State.refEnNow s c v).pipe = s.pipe ∧ (State.refEnNow s c v).ctxs = s.ctxs ∧ (State.refEnNow s c v).dec = s.dec ∧ (State.refEnNow s c v).vs = s.vs ∧ (State.refEnNow s c v).former = s.former ∧ (State.refEnNow s c v).usb = s.usb ∧ (State.refEnNow s c v).ser = s.ser ∧ (State.refEnNow s c v).pair = s.pair ∧ (State.refEnNow s c v).fab = s.fab ∧ (State.refEnNow s c v).fresh = s.fresh := by
  first
  | (unfold State.refEnNow; simp; done)
  | (unfold State.refEnNow; (try dsimp only); (repeat' split) <;> (first | rfl | (simp; done) | (simp_all; done) | (try simp)))
@[simp] theorem State.accSnapNow_frame (s : State) (c : Conv) (v : Word) :
    (State.accSnapNow s c v).pending = s.pending ∧ (State.accSnapNow s c v).identity = s.identity ∧ (State.accSnapNow s c v).aon = s.aon ∧ (State.accSnapNow s c v).pins = s.pins ∧ (State.accSnapNow s c v).phase = s.phase ∧ (State.accSnapNow s c v).boot = s.boot ∧ (State.accSnapNow s c v).sys = s.sys ∧ (State.accSnapNow s c v).balls = s.balls ∧ (State.accSnapNow s c v).shadow = s.shadow ∧ (State.accSnapNow s c v).trowels = s.trowels ∧ (State.accSnapNow s c v).faulted = s.faulted ∧ (State.accSnapNow s c v).bb = s.bb ∧ (State.accSnapNow s c v).tap = s.tap ∧ (State.accSnapNow s c v).time = s.time ∧ (State.accSnapNow s c v).thermal = s.thermal ∧ (State.accSnapNow s c v).light = s.light ∧ (State.accSnapNow s c v).amb = s.amb ∧ (State.accSnapNow s c v).ports = s.ports ∧ (State.accSnapNow s c v).frames = s.frames ∧ (State.accSnapNow s c v).nextFrame = s.nextFrame ∧ (State.accSnapNow s c v).pipe = s.pipe ∧ (State.accSnapNow s c v).ctxs = s.ctxs ∧ (State.accSnapNow s c v).dec = s.dec ∧ (State.accSnapNow s c v).vs = s.vs ∧ (State.accSnapNow s c v).former = s.former ∧ (State.accSnapNow s c v).usb = s.usb ∧ (State.accSnapNow s c v).ser = s.ser ∧ (State.accSnapNow s c v).pair = s.pair ∧ (State.accSnapNow s c v).fab = s.fab ∧ (State.accSnapNow s c v).fresh = s.fresh := by
  first
  | (unfold State.accSnapNow; simp; done)
  | (unfold State.accSnapNow; (try dsimp only); (repeat' split) <;> (first | rfl | (simp; done) | (simp_all; done) | (try simp)))
@[simp] theorem State.accClearNow_frame (s : State) (c : Conv) (v : Word) :
    (State.accClearNow s c v).pending = s.pending ∧ (State.accClearNow s c v).identity = s.identity ∧ (State.accClearNow s c v).aon = s.aon ∧ (State.accClearNow s c v).pins = s.pins ∧ (State.accClearNow s c v).phase = s.phase ∧ (State.accClearNow s c v).boot = s.boot ∧ (State.accClearNow s c v).sys = s.sys ∧ (State.accClearNow s c v).balls = s.balls ∧ (State.accClearNow s c v).fields = s.fields ∧ (State.accClearNow s c v).shadow = s.shadow ∧ (State.accClearNow s c v).trowels = s.trowels ∧ (State.accClearNow s c v).faulted = s.faulted ∧ (State.accClearNow s c v).bb = s.bb ∧ (State.accClearNow s c v).tap = s.tap ∧ (State.accClearNow s c v).time = s.time ∧ (State.accClearNow s c v).thermal = s.thermal ∧ (State.accClearNow s c v).light = s.light ∧ (State.accClearNow s c v).amb = s.amb ∧ (State.accClearNow s c v).ports = s.ports ∧ (State.accClearNow s c v).frames = s.frames ∧ (State.accClearNow s c v).nextFrame = s.nextFrame ∧ (State.accClearNow s c v).pipe = s.pipe ∧ (State.accClearNow s c v).ctxs = s.ctxs ∧ (State.accClearNow s c v).dec = s.dec ∧ (State.accClearNow s c v).vs = s.vs ∧ (State.accClearNow s c v).former = s.former ∧ (State.accClearNow s c v).usb = s.usb ∧ (State.accClearNow s c v).ser = s.ser ∧ (State.accClearNow s c v).pair = s.pair ∧ (State.accClearNow s c v).fab = s.fab ∧ (State.accClearNow s c v).fresh = s.fresh := by
  first
  | (unfold State.accClearNow; simp; done)
  | (unfold State.accClearNow; (try dsimp only); (repeat' split) <;> (first | rfl | (simp; done) | (simp_all; done) | (try simp)))
@[simp] theorem State.calGoNow_frame (s : State) (c : Conv) (v : Word) :
    (State.calGoNow s c v).pending = s.pending ∧ (State.calGoNow s c v).identity = s.identity ∧ (State.calGoNow s c v).aon = s.aon ∧ (State.calGoNow s c v).pins = s.pins ∧ (State.calGoNow s c v).phase = s.phase ∧ (State.calGoNow s c v).boot = s.boot ∧ (State.calGoNow s c v).sys = s.sys ∧ (State.calGoNow s c v).balls = s.balls ∧ (State.calGoNow s c v).shadow = s.shadow ∧ (State.calGoNow s c v).trowels = s.trowels ∧ (State.calGoNow s c v).faulted = s.faulted ∧ (State.calGoNow s c v).bb = s.bb ∧ (State.calGoNow s c v).tap = s.tap ∧ (State.calGoNow s c v).time = s.time ∧ (State.calGoNow s c v).thermal = s.thermal ∧ (State.calGoNow s c v).light = s.light ∧ (State.calGoNow s c v).amb = s.amb ∧ (State.calGoNow s c v).ports = s.ports ∧ (State.calGoNow s c v).frames = s.frames ∧ (State.calGoNow s c v).nextFrame = s.nextFrame ∧ (State.calGoNow s c v).pipe = s.pipe ∧ (State.calGoNow s c v).ctxs = s.ctxs ∧ (State.calGoNow s c v).dec = s.dec ∧ (State.calGoNow s c v).vs = s.vs ∧ (State.calGoNow s c v).former = s.former ∧ (State.calGoNow s c v).usb = s.usb ∧ (State.calGoNow s c v).ser = s.ser ∧ (State.calGoNow s c v).pair = s.pair ∧ (State.calGoNow s c v).fab = s.fab ∧ (State.calGoNow s c v).fresh = s.fresh := by
  first
  | (unfold State.calGoNow; simp; done)
  | (unfold State.calGoNow; (try dsimp only); (repeat' split) <;> (first | rfl | (simp; done) | (simp_all; done) | (try simp)))
@[simp] theorem State.adcEnableNow_frame (s : State) (c : Conv) (v : Word) :
    (State.adcEnableNow s c v).pending = s.pending ∧ (State.adcEnableNow s c v).identity = s.identity ∧ (State.adcEnableNow s c v).aon = s.aon ∧ (State.adcEnableNow s c v).pins = s.pins ∧ (State.adcEnableNow s c v).phase = s.phase ∧ (State.adcEnableNow s c v).boot = s.boot ∧ (State.adcEnableNow s c v).sys = s.sys ∧ (State.adcEnableNow s c v).balls = s.balls ∧ (State.adcEnableNow s c v).faulted = s.faulted ∧ (State.adcEnableNow s c v).bb = s.bb ∧ (State.adcEnableNow s c v).tap = s.tap ∧ (State.adcEnableNow s c v).time = s.time ∧ (State.adcEnableNow s c v).thermal = s.thermal ∧ (State.adcEnableNow s c v).light = s.light ∧ (State.adcEnableNow s c v).ports = s.ports ∧ (State.adcEnableNow s c v).frames = s.frames ∧ (State.adcEnableNow s c v).nextFrame = s.nextFrame ∧ (State.adcEnableNow s c v).pipe = s.pipe ∧ (State.adcEnableNow s c v).ctxs = s.ctxs ∧ (State.adcEnableNow s c v).dec = s.dec ∧ (State.adcEnableNow s c v).vs = s.vs ∧ (State.adcEnableNow s c v).former = s.former ∧ (State.adcEnableNow s c v).usb = s.usb ∧ (State.adcEnableNow s c v).ser = s.ser ∧ (State.adcEnableNow s c v).pair = s.pair ∧ (State.adcEnableNow s c v).fab = s.fab ∧ (State.adcEnableNow s c v).fresh = s.fresh := by
  first
  | (unfold State.adcEnableNow; simp; done)
  | (unfold State.adcEnableNow; (try dsimp only); (repeat' split) <;> (first | rfl | (simp; done) | (simp_all; done) | (try simp)))
@[simp] theorem State.adcNow_frame (s : State) (c : Conv) (o : Nat) (v : Word) :
    (State.adcNow s c o v).pending = s.pending ∧ (State.adcNow s c o v).identity = s.identity ∧ (State.adcNow s c o v).aon = s.aon ∧ (State.adcNow s c o v).pins = s.pins ∧ (State.adcNow s c o v).phase = s.phase ∧ (State.adcNow s c o v).boot = s.boot ∧ (State.adcNow s c o v).sys = s.sys ∧ (State.adcNow s c o v).balls = s.balls ∧ (State.adcNow s c o v).faulted = s.faulted ∧ (State.adcNow s c o v).bb = s.bb ∧ (State.adcNow s c o v).tap = s.tap ∧ (State.adcNow s c o v).time = s.time ∧ (State.adcNow s c o v).thermal = s.thermal ∧ (State.adcNow s c o v).light = s.light ∧ (State.adcNow s c o v).ports = s.ports ∧ (State.adcNow s c o v).frames = s.frames ∧ (State.adcNow s c o v).nextFrame = s.nextFrame ∧ (State.adcNow s c o v).pipe = s.pipe ∧ (State.adcNow s c o v).ctxs = s.ctxs ∧ (State.adcNow s c o v).dec = s.dec ∧ (State.adcNow s c o v).vs = s.vs ∧ (State.adcNow s c o v).former = s.former ∧ (State.adcNow s c o v).usb = s.usb ∧ (State.adcNow s c o v).ser = s.ser ∧ (State.adcNow s c o v).pair = s.pair ∧ (State.adcNow s c o v).fab = s.fab ∧ (State.adcNow s c o v).fresh = s.fresh := by
  first
  | (unfold State.adcNow; simp; done)
  | (unfold State.adcNow; (try dsimp only); (repeat' split) <;> (first | rfl | (simp; done) | (simp_all; done) | (try simp)))
@[simp] theorem State.ambNow_frame (s : State) (a : Nat) (v : Word) :
    (State.ambNow s a v).pending = s.pending ∧ (State.ambNow s a v).identity = s.identity ∧ (State.ambNow s a v).aon = s.aon ∧ (State.ambNow s a v).pins = s.pins ∧ (State.ambNow s a v).phase = s.phase ∧ (State.ambNow s a v).boot = s.boot ∧ (State.ambNow s a v).sys = s.sys ∧ (State.ambNow s a v).balls = s.balls ∧ (State.ambNow s a v).shadow = s.shadow ∧ (State.ambNow s a v).faulted = s.faulted ∧ (State.ambNow s a v).bb = s.bb ∧ (State.ambNow s a v).tap = s.tap ∧ (State.ambNow s a v).time = s.time ∧ (State.ambNow s a v).thermal = s.thermal ∧ (State.ambNow s a v).light = s.light ∧ (State.ambNow s a v).adcA = s.adcA ∧ (State.ambNow s a v).adcB = s.adcB ∧ (State.ambNow s a v).ports = s.ports ∧ (State.ambNow s a v).frames = s.frames ∧ (State.ambNow s a v).nextFrame = s.nextFrame ∧ (State.ambNow s a v).pipe = s.pipe ∧ (State.ambNow s a v).ctxs = s.ctxs ∧ (State.ambNow s a v).dec = s.dec ∧ (State.ambNow s a v).vs = s.vs ∧ (State.ambNow s a v).former = s.former ∧ (State.ambNow s a v).usb = s.usb ∧ (State.ambNow s a v).ser = s.ser ∧ (State.ambNow s a v).pair = s.pair ∧ (State.ambNow s a v).fab = s.fab ∧ (State.ambNow s a v).fresh = s.fresh := by
  first
  | (unfold State.ambNow; simp; done)
  | (unfold State.ambNow; (try dsimp only); (repeat' split) <;> (first | rfl | (simp; done) | (simp_all; done) | (try simp)))
@[simp] theorem State.stopConverters_frame (s : State) :
    (State.stopConverters s).pending = s.pending ∧ (State.stopConverters s).identity = s.identity ∧ (State.stopConverters s).aon = s.aon ∧ (State.stopConverters s).pins = s.pins ∧ (State.stopConverters s).phase = s.phase ∧ (State.stopConverters s).boot = s.boot ∧ (State.stopConverters s).sys = s.sys ∧ (State.stopConverters s).balls = s.balls ∧ (State.stopConverters s).fields = s.fields ∧ (State.stopConverters s).shadow = s.shadow ∧ (State.stopConverters s).trowels = s.trowels ∧ (State.stopConverters s).faulted = s.faulted ∧ (State.stopConverters s).bb = s.bb ∧ (State.stopConverters s).tap = s.tap ∧ (State.stopConverters s).time = s.time ∧ (State.stopConverters s).thermal = s.thermal ∧ (State.stopConverters s).light = s.light ∧ (State.stopConverters s).amb = s.amb ∧ (State.stopConverters s).ports = s.ports ∧ (State.stopConverters s).frames = s.frames ∧ (State.stopConverters s).nextFrame = s.nextFrame ∧ (State.stopConverters s).pipe = s.pipe ∧ (State.stopConverters s).ctxs = s.ctxs ∧ (State.stopConverters s).dec = s.dec ∧ (State.stopConverters s).vs = s.vs ∧ (State.stopConverters s).former = s.former ∧ (State.stopConverters s).usb = s.usb ∧ (State.stopConverters s).ser = s.ser ∧ (State.stopConverters s).pair = s.pair ∧ (State.stopConverters s).fab = s.fab ∧ (State.stopConverters s).fresh = s.fresh := by
  first
  | (unfold State.stopConverters; simp; done)
  | (unfold State.stopConverters; (try dsimp only); (repeat' split) <;> (first | rfl | (simp; done) | (simp_all; done) | (try simp)))
end Sys2Proof.Machine
end

