-- ==== Sys2Proof/Laws/FrameFabric.lean ====
section
/-! SUPPORT. Frames: which parts of the state each operation of Machine/Fabric leaves as they were. -/

namespace Sys2Proof.Machine
@[simp] theorem State.updFab_frame (s : State) (f : Fabric → Fabric) :
    (State.updFab s f).pending = s.pending ∧ (State.updFab s f).identity = s.identity ∧ (State.updFab s f).aon = s.aon ∧ (State.updFab s f).pins = s.pins ∧ (State.updFab s f).phase = s.phase ∧ (State.updFab s f).boot = s.boot ∧ (State.updFab s f).sys = s.sys ∧ (State.updFab s f).balls = s.balls ∧ (State.updFab s f).fields = s.fields ∧ (State.updFab s f).shadow = s.shadow ∧ (State.updFab s f).trowels = s.trowels ∧ (State.updFab s f).faulted = s.faulted ∧ (State.updFab s f).bb = s.bb ∧ (State.updFab s f).tap = s.tap ∧ (State.updFab s f).time = s.time ∧ (State.updFab s f).thermal = s.thermal ∧ (State.updFab s f).light = s.light ∧ (State.updFab s f).adcA = s.adcA ∧ (State.updFab s f).adcB = s.adcB ∧ (State.updFab s f).amb = s.amb ∧ (State.updFab s f).ports = s.ports ∧ (State.updFab s f).frames = s.frames ∧ (State.updFab s f).nextFrame = s.nextFrame ∧ (State.updFab s f).pipe = s.pipe ∧ (State.updFab s f).ctxs = s.ctxs ∧ (State.updFab s f).dec = s.dec ∧ (State.updFab s f).vs = s.vs ∧ (State.updFab s f).former = s.former ∧ (State.updFab s f).usb = s.usb ∧ (State.updFab s f).ser = s.ser ∧ (State.updFab s f).pair = s.pair ∧ (State.updFab s f).fresh = s.fresh := by
  first
  | (unfold State.updFab; simp; done)
  | (unfold State.updFab; (try dsimp only); (repeat' split) <;> (first | rfl | (simp; done) | (simp_all; done) | (try simp)))
@[simp] theorem State.updMor_frame (s : State) (m : MorId) (f : MorPort → MorPort) :
    (State.updMor s m f).pending = s.pending ∧ (State.updMor s m f).identity = s.identity ∧ (State.updMor s m f).aon = s.aon ∧ (State.updMor s m f).pins = s.pins ∧ (State.updMor s m f).phase = s.phase ∧ (State.updMor s m f).boot = s.boot ∧ (State.updMor s m f).sys = s.sys ∧ (State.updMor s m f).balls = s.balls ∧ (State.updMor s m f).fields = s.fields ∧ (State.updMor s m f).shadow = s.shadow ∧ (State.updMor s m f).trowels = s.trowels ∧ (State.updMor s m f).faulted = s.faulted ∧ (State.updMor s m f).bb = s.bb ∧ (State.updMor s m f).tap = s.tap ∧ (State.updMor s m f).time = s.time ∧ (State.updMor s m f).thermal = s.thermal ∧ (State.updMor s m f).light = s.light ∧ (State.updMor s m f).adcA = s.adcA ∧ (State.updMor s m f).adcB = s.adcB ∧ (State.updMor s m f).amb = s.amb ∧ (State.updMor s m f).ports = s.ports ∧ (State.updMor s m f).frames = s.frames ∧ (State.updMor s m f).nextFrame = s.nextFrame ∧ (State.updMor s m f).pipe = s.pipe ∧ (State.updMor s m f).ctxs = s.ctxs ∧ (State.updMor s m f).dec = s.dec ∧ (State.updMor s m f).vs = s.vs ∧ (State.updMor s m f).former = s.former ∧ (State.updMor s m f).usb = s.usb ∧ (State.updMor s m f).ser = s.ser ∧ (State.updMor s m f).pair = s.pair ∧ (State.updMor s m f).fresh = s.fresh := by
  first
  | (unfold State.updMor; simp; done)
  | (unfold State.updMor; (try dsimp only); (repeat' split) <;> (first | rfl | (simp; done) | (simp_all; done) | (try simp)))
@[simp] theorem State.linkSend_frame (s : State) (m : MorId) (x : LinkItem) :
    (State.linkSend s m x).pending = s.pending ∧ (State.linkSend s m x).identity = s.identity ∧ (State.linkSend s m x).aon = s.aon ∧ (State.linkSend s m x).pins = s.pins ∧ (State.linkSend s m x).phase = s.phase ∧ (State.linkSend s m x).boot = s.boot ∧ (State.linkSend s m x).sys = s.sys ∧ (State.linkSend s m x).balls = s.balls ∧ (State.linkSend s m x).fields = s.fields ∧ (State.linkSend s m x).shadow = s.shadow ∧ (State.linkSend s m x).trowels = s.trowels ∧ (State.linkSend s m x).faulted = s.faulted ∧ (State.linkSend s m x).bb = s.bb ∧ (State.linkSend s m x).tap = s.tap ∧ (State.linkSend s m x).time = s.time ∧ (State.linkSend s m x).thermal = s.thermal ∧ (State.linkSend s m x).light = s.light ∧ (State.linkSend s m x).adcA = s.adcA ∧ (State.linkSend s m x).adcB = s.adcB ∧ (State.linkSend s m x).amb = s.amb ∧ (State.linkSend s m x).ports = s.ports ∧ (State.linkSend s m x).frames = s.frames ∧ (State.linkSend s m x).nextFrame = s.nextFrame ∧ (State.linkSend s m x).pipe = s.pipe ∧ (State.linkSend s m x).ctxs = s.ctxs ∧ (State.linkSend s m x).dec = s.dec ∧ (State.linkSend s m x).vs = s.vs ∧ (State.linkSend s m x).former = s.former ∧ (State.linkSend s m x).usb = s.usb ∧ (State.linkSend s m x).ser = s.ser ∧ (State.linkSend s m x).pair = s.pair ∧ (State.linkSend s m x).fresh = s.fresh := by
  first
  | (unfold State.linkSend; simp; done)
  | (unfold State.linkSend; (try dsimp only); (repeat' split) <;> (first | rfl | (simp; done) | (simp_all; done) | (try simp)))
@[simp] theorem State.egressPush_frame (s : State) (p : MorId) (m : MorMsg) :
    (State.egressPush s p m).pending = s.pending ∧ (State.egressPush s p m).identity = s.identity ∧ (State.egressPush s p m).aon = s.aon ∧ (State.egressPush s p m).pins = s.pins ∧ (State.egressPush s p m).phase = s.phase ∧ (State.egressPush s p m).boot = s.boot ∧ (State.egressPush s p m).sys = s.sys ∧ (State.egressPush s p m).balls = s.balls ∧ (State.egressPush s p m).fields = s.fields ∧ (State.egressPush s p m).shadow = s.shadow ∧ (State.egressPush s p m).trowels = s.trowels ∧ (State.egressPush s p m).faulted = s.faulted ∧ (State.egressPush s p m).bb = s.bb ∧ (State.egressPush s p m).tap = s.tap ∧ (State.egressPush s p m).time = s.time ∧ (State.egressPush s p m).thermal = s.thermal ∧ (State.egressPush s p m).light = s.light ∧ (State.egressPush s p m).adcA = s.adcA ∧ (State.egressPush s p m).adcB = s.adcB ∧ (State.egressPush s p m).amb = s.amb ∧ (State.egressPush s p m).ports = s.ports ∧ (State.egressPush s p m).frames = s.frames ∧ (State.egressPush s p m).nextFrame = s.nextFrame ∧ (State.egressPush s p m).pipe = s.pipe ∧ (State.egressPush s p m).ctxs = s.ctxs ∧ (State.egressPush s p m).dec = s.dec ∧ (State.egressPush s p m).vs = s.vs ∧ (State.egressPush s p m).former = s.former ∧ (State.egressPush s p m).usb = s.usb ∧ (State.egressPush s p m).ser = s.ser ∧ (State.egressPush s p m).pair = s.pair ∧ (State.egressPush s p m).fresh = s.fresh := by
  first
  | (unfold State.egressPush; simp; done)
  | (unfold State.egressPush; (try dsimp only); (repeat' split) <;> (first | rfl | (simp; done) | (simp_all; done) | (try simp)))
@[simp] theorem State.egressTick_frame (s : State) :
    (State.egressTick s).pending = s.pending ∧ (State.egressTick s).identity = s.identity ∧ (State.egressTick s).aon = s.aon ∧ (State.egressTick s).pins = s.pins ∧ (State.egressTick s).phase = s.phase ∧ (State.egressTick s).boot = s.boot ∧ (State.egressTick s).sys = s.sys ∧ (State.egressTick s).balls = s.balls ∧ (State.egressTick s).fields = s.fields ∧ (State.egressTick s).shadow = s.shadow ∧ (State.egressTick s).trowels = s.trowels ∧ (State.egressTick s).faulted = s.faulted ∧ (State.egressTick s).bb = s.bb ∧ (State.egressTick s).tap = s.tap ∧ (State.egressTick s).time = s.time ∧ (State.egressTick s).thermal = s.thermal ∧ (State.egressTick s).light = s.light ∧ (State.egressTick s).adcA = s.adcA ∧ (State.egressTick s).adcB = s.adcB ∧ (State.egressTick s).amb = s.amb ∧ (State.egressTick s).ports = s.ports ∧ (State.egressTick s).frames = s.frames ∧ (State.egressTick s).nextFrame = s.nextFrame ∧ (State.egressTick s).pipe = s.pipe ∧ (State.egressTick s).ctxs = s.ctxs ∧ (State.egressTick s).dec = s.dec ∧ (State.egressTick s).vs = s.vs ∧ (State.egressTick s).former = s.former ∧ (State.egressTick s).usb = s.usb ∧ (State.egressTick s).ser = s.ser ∧ (State.egressTick s).pair = s.pair ∧ (State.egressTick s).fresh = s.fresh := by
  first
  | (unfold State.egressTick; simp; done)
  | (unfold State.egressTick; (try dsimp only); (repeat' split) <;> (first | rfl | (simp; done) | (simp_all; done) | (try simp)))
@[simp] theorem State.forward_frame (s : State) (m : MorMsg) :
    (State.forward s m).pending = s.pending ∧ (State.forward s m).identity = s.identity ∧ (State.forward s m).aon = s.aon ∧ (State.forward s m).pins = s.pins ∧ (State.forward s m).phase = s.phase ∧ (State.forward s m).boot = s.boot ∧ (State.forward s m).sys = s.sys ∧ (State.forward s m).balls = s.balls ∧ (State.forward s m).fields = s.fields ∧ (State.forward s m).shadow = s.shadow ∧ (State.forward s m).trowels = s.trowels ∧ (State.forward s m).faulted = s.faulted ∧ (State.forward s m).bb = s.bb ∧ (State.forward s m).tap = s.tap ∧ (State.forward s m).time = s.time ∧ (State.forward s m).thermal = s.thermal ∧ (State.forward s m).light = s.light ∧ (State.forward s m).adcA = s.adcA ∧ (State.forward s m).adcB = s.adcB ∧ (State.forward s m).amb = s.amb ∧ (State.forward s m).ports = s.ports ∧ (State.forward s m).frames = s.frames ∧ (State.forward s m).nextFrame = s.nextFrame ∧ (State.forward s m).pipe = s.pipe ∧ (State.forward s m).ctxs = s.ctxs ∧ (State.forward s m).dec = s.dec ∧ (State.forward s m).vs = s.vs ∧ (State.forward s m).former = s.former ∧ (State.forward s m).usb = s.usb ∧ (State.forward s m).ser = s.ser ∧ (State.forward s m).pair = s.pair ∧ (State.forward s m).fresh = s.fresh := by
  first
  | (unfold State.forward; simp; done)
  | (unfold State.forward; (try dsimp only); (repeat' split) <;> (first | rfl | (simp; done) | (simp_all; done) | (try simp)))
@[simp] theorem State.compose_frame (s : State) (d : BitVec 6) (c kind : Byte) (more : Bool) (payload : List Byte) :
    (State.compose s d c kind more payload).2.pending = s.pending ∧ (State.compose s d c kind more payload).2.faulted = s.faulted ∧ (State.compose s d c kind more payload).2.pipe = s.pipe ∧ (State.compose s d c kind more payload).2.identity = s.identity ∧ (State.compose s d c kind more payload).2.aon = s.aon ∧ (State.compose s d c kind more payload).2.pins = s.pins ∧ (State.compose s d c kind more payload).2.phase = s.phase ∧ (State.compose s d c kind more payload).2.boot = s.boot ∧ (State.compose s d c kind more payload).2.sys = s.sys ∧ (State.compose s d c kind more payload).2.balls = s.balls ∧ (State.compose s d c kind more payload).2.fields = s.fields ∧ (State.compose s d c kind more payload).2.shadow = s.shadow ∧ (State.compose s d c kind more payload).2.trowels = s.trowels ∧ (State.compose s d c kind more payload).2.bb = s.bb ∧ (State.compose s d c kind more payload).2.tap = s.tap ∧ (State.compose s d c kind more payload).2.time = s.time ∧ (State.compose s d c kind more payload).2.thermal = s.thermal ∧ (State.compose s d c kind more payload).2.light = s.light ∧ (State.compose s d c kind more payload).2.adcA = s.adcA ∧ (State.compose s d c kind more payload).2.adcB = s.adcB ∧ (State.compose s d c kind more payload).2.amb = s.amb ∧ (State.compose s d c kind more payload).2.ports = s.ports ∧ (State.compose s d c kind more payload).2.frames = s.frames ∧ (State.compose s d c kind more payload).2.nextFrame = s.nextFrame ∧ (State.compose s d c kind more payload).2.ctxs = s.ctxs ∧ (State.compose s d c kind more payload).2.dec = s.dec ∧ (State.compose s d c kind more payload).2.vs = s.vs ∧ (State.compose s d c kind more payload).2.former = s.former ∧ (State.compose s d c kind more payload).2.usb = s.usb ∧ (State.compose s d c kind more payload).2.ser = s.ser ∧ (State.compose s d c kind more payload).2.pair = s.pair ∧ (State.compose s d c kind more payload).2.fresh = s.fresh := by
  unfold State.compose; (try dsimp only); (repeat' split) <;> (first | rfl | (simp; done) | (simp_all; done) | (try simp))
@[simp] theorem State.receive_frame (s : State) (m : MorMsg) :
    (State.receive s m).1.pending = s.pending ∧ (State.receive s m).1.faulted = s.faulted ∧ (State.receive s m).1.pipe = s.pipe ∧ (State.receive s m).1.identity = s.identity ∧ (State.receive s m).1.aon = s.aon ∧ (State.receive s m).1.pins = s.pins ∧ (State.receive s m).1.phase = s.phase ∧ (State.receive s m).1.boot = s.boot ∧ (State.receive s m).1.sys = s.sys ∧ (State.receive s m).1.balls = s.balls ∧ (State.receive s m).1.shadow = s.shadow ∧ (State.receive s m).1.trowels = s.trowels ∧ (State.receive s m).1.bb = s.bb ∧ (State.receive s m).1.tap = s.tap ∧ (State.receive s m).1.time = s.time ∧ (State.receive s m).1.thermal = s.thermal ∧ (State.receive s m).1.light = s.light ∧ (State.receive s m).1.adcA = s.adcA ∧ (State.receive s m).1.adcB = s.adcB ∧ (State.receive s m).1.amb = s.amb ∧ (State.receive s m).1.ports = s.ports ∧ (State.receive s m).1.frames = s.frames ∧ (State.receive s m).1.nextFrame = s.nextFrame ∧ (State.receive s m).1.ctxs = s.ctxs ∧ (State.receive s m).1.dec = s.dec ∧ (State.receive s m).1.vs = s.vs ∧ (State.receive s m).1.former = s.former ∧ (State.receive s m).1.usb = s.usb ∧ (State.receive s m).1.ser = s.ser ∧ (State.receive s m).1.pair = s.pair ∧ (State.receive s m).1.fresh = s.fresh := by
  unfold State.receive; (try dsimp only); (repeat' split) <;> (first | rfl | (simp; done) | (simp_all; done) | (try simp))
@[simp] theorem State.originate_frame (s : State) (d : BitVec 6) (c kind : Byte) (more : Bool) (payload : List Byte) :
    (State.originate s d c kind more payload).pending = s.pending ∧ (State.originate s d c kind more payload).identity = s.identity ∧ (State.originate s d c kind more payload).aon = s.aon ∧ (State.originate s d c kind more payload).pins = s.pins ∧ (State.originate s d c kind more payload).phase = s.phase ∧ (State.originate s d c kind more payload).boot = s.boot ∧ (State.originate s d c kind more payload).sys = s.sys ∧ (State.originate s d c kind more payload).balls = s.balls ∧ (State.originate s d c kind more payload).shadow = s.shadow ∧ (State.originate s d c kind more payload).trowels = s.trowels ∧ (State.originate s d c kind more payload).faulted = s.faulted ∧ (State.originate s d c kind more payload).bb = s.bb ∧ (State.originate s d c kind more payload).tap = s.tap ∧ (State.originate s d c kind more payload).time = s.time ∧ (State.originate s d c kind more payload).thermal = s.thermal ∧ (State.originate s d c kind more payload).light = s.light ∧ (State.originate s d c kind more payload).adcA = s.adcA ∧ (State.originate s d c kind more payload).adcB = s.adcB ∧ (State.originate s d c kind more payload).amb = s.amb ∧ (State.originate s d c kind more payload).ports = s.ports ∧ (State.originate s d c kind more payload).frames = s.frames ∧ (State.originate s d c kind more payload).nextFrame = s.nextFrame ∧ (State.originate s d c kind more payload).pipe = s.pipe ∧ (State.originate s d c kind more payload).ctxs = s.ctxs ∧ (State.originate s d c kind more payload).dec = s.dec ∧ (State.originate s d c kind more payload).vs = s.vs ∧ (State.originate s d c kind more payload).former = s.former ∧ (State.originate s d c kind more payload).usb = s.usb ∧ (State.originate s d c kind more payload).ser = s.ser ∧ (State.originate s d c kind more payload).pair = s.pair ∧ (State.originate s d c kind more payload).fresh = s.fresh := by
  first
  | (unfold State.originate; simp; done)
  | (unfold State.originate; (try dsimp only); (repeat' split) <;> (first | rfl | (simp; done) | (simp_all; done) | (try simp)))
@[simp] theorem State.sendUnit_frame (s : State) (d : BitVec 6) (c kind : Byte) (b : List Byte) :
    (State.sendUnit s d c kind b).pending = s.pending ∧ (State.sendUnit s d c kind b).identity = s.identity ∧ (State.sendUnit s d c kind b).aon = s.aon ∧ (State.sendUnit s d c kind b).pins = s.pins ∧ (State.sendUnit s d c kind b).phase = s.phase ∧ (State.sendUnit s d c kind b).boot = s.boot ∧ (State.sendUnit s d c kind b).sys = s.sys ∧ (State.sendUnit s d c kind b).balls = s.balls ∧ (State.sendUnit s d c kind b).shadow = s.shadow ∧ (State.sendUnit s d c kind b).trowels = s.trowels ∧ (State.sendUnit s d c kind b).faulted = s.faulted ∧ (State.sendUnit s d c kind b).bb = s.bb ∧ (State.sendUnit s d c kind b).tap = s.tap ∧ (State.sendUnit s d c kind b).time = s.time ∧ (State.sendUnit s d c kind b).thermal = s.thermal ∧ (State.sendUnit s d c kind b).light = s.light ∧ (State.sendUnit s d c kind b).adcA = s.adcA ∧ (State.sendUnit s d c kind b).adcB = s.adcB ∧ (State.sendUnit s d c kind b).amb = s.amb ∧ (State.sendUnit s d c kind b).ports = s.ports ∧ (State.sendUnit s d c kind b).frames = s.frames ∧ (State.sendUnit s d c kind b).nextFrame = s.nextFrame ∧ (State.sendUnit s d c kind b).pipe = s.pipe ∧ (State.sendUnit s d c kind b).ctxs = s.ctxs ∧ (State.sendUnit s d c kind b).dec = s.dec ∧ (State.sendUnit s d c kind b).vs = s.vs ∧ (State.sendUnit s d c kind b).former = s.former ∧ (State.sendUnit s d c kind b).usb = s.usb ∧ (State.sendUnit s d c kind b).ser = s.ser ∧ (State.sendUnit s d c kind b).pair = s.pair ∧ (State.sendUnit s d c kind b).fresh = s.fresh := by
  first
  | (unfold State.sendUnit; simp; done)
  | (unfold State.sendUnit; (try dsimp only); (repeat' split) <;> (first | rfl | (simp; done) | (simp_all; done) | (try simp)))
@[simp] theorem State.sendBroken_frame (s : State) (src : BitVec 6) (c : Byte) (next : BitVec 16) :
    (State.sendBroken s src c next).pending = s.pending ∧ (State.sendBroken s src c next).identity = s.identity ∧ (State.sendBroken s src c next).aon = s.aon ∧ (State.sendBroken s src c next).pins = s.pins ∧ (State.sendBroken s src c next).phase = s.phase ∧ (State.sendBroken s src c next).boot = s.boot ∧ (State.sendBroken s src c next).sys = s.sys ∧ (State.sendBroken s src c next).balls = s.balls ∧ (State.sendBroken s src c next).shadow = s.shadow ∧ (State.sendBroken s src c next).trowels = s.trowels ∧ (State.sendBroken s src c next).faulted = s.faulted ∧ (State.sendBroken s src c next).bb = s.bb ∧ (State.sendBroken s src c next).tap = s.tap ∧ (State.sendBroken s src c next).time = s.time ∧ (State.sendBroken s src c next).thermal = s.thermal ∧ (State.sendBroken s src c next).light = s.light ∧ (State.sendBroken s src c next).adcA = s.adcA ∧ (State.sendBroken s src c next).adcB = s.adcB ∧ (State.sendBroken s src c next).amb = s.amb ∧ (State.sendBroken s src c next).ports = s.ports ∧ (State.sendBroken s src c next).frames = s.frames ∧ (State.sendBroken s src c next).nextFrame = s.nextFrame ∧ (State.sendBroken s src c next).pipe = s.pipe ∧ (State.sendBroken s src c next).ctxs = s.ctxs ∧ (State.sendBroken s src c next).dec = s.dec ∧ (State.sendBroken s src c next).vs = s.vs ∧ (State.sendBroken s src c next).former = s.former ∧ (State.sendBroken s src c next).usb = s.usb ∧ (State.sendBroken s src c next).ser = s.ser ∧ (State.sendBroken s src c next).pair = s.pair ∧ (State.sendBroken s src c next).fresh = s.fresh := by
  first
  | (unfold State.sendBroken; simp; done)
  | (unfold State.sendBroken; (try dsimp only); (repeat' split) <;> (first | rfl | (simp; done) | (simp_all; done) | (try simp)))
@[simp] theorem State.deliver_frame (s : State) (m : MorMsg) :
    (State.deliver s m).pending = s.pending ∧ (State.deliver s m).identity = s.identity ∧ (State.deliver s m).aon = s.aon ∧ (State.deliver s m).pins = s.pins ∧ (State.deliver s m).phase = s.phase ∧ (State.deliver s m).boot = s.boot ∧ (State.deliver s m).sys = s.sys ∧ (State.deliver s m).balls = s.balls ∧ (State.deliver s m).shadow = s.shadow ∧ (State.deliver s m).trowels = s.trowels ∧ (State.deliver s m).faulted = s.faulted ∧ (State.deliver s m).bb = s.bb ∧ (State.deliver s m).tap = s.tap ∧ (State.deliver s m).time = s.time ∧ (State.deliver s m).thermal = s.thermal ∧ (State.deliver s m).light = s.light ∧ (State.deliver s m).adcA = s.adcA ∧ (State.deliver s m).adcB = s.adcB ∧ (State.deliver s m).amb = s.amb ∧ (State.deliver s m).ports = s.ports ∧ (State.deliver s m).frames = s.frames ∧ (State.deliver s m).nextFrame = s.nextFrame ∧ (State.deliver s m).pipe = s.pipe ∧ (State.deliver s m).ctxs = s.ctxs ∧ (State.deliver s m).dec = s.dec ∧ (State.deliver s m).vs = s.vs ∧ (State.deliver s m).former = s.former ∧ (State.deliver s m).usb = s.usb ∧ (State.deliver s m).ser = s.ser ∧ (State.deliver s m).pair = s.pair ∧ (State.deliver s m).fresh = s.fresh := by
  first
  | (unfold State.deliver; simp; done)
  | (unfold State.deliver; (try dsimp only); (repeat' split) <;> (first | rfl | (simp; done) | (simp_all; done) | (try simp)))
@[simp] theorem State.tapPump_frame (s : State) :
    (State.tapPump s).pending = s.pending ∧ (State.tapPump s).identity = s.identity ∧ (State.tapPump s).aon = s.aon ∧ (State.tapPump s).pins = s.pins ∧ (State.tapPump s).phase = s.phase ∧ (State.tapPump s).boot = s.boot ∧ (State.tapPump s).sys = s.sys ∧ (State.tapPump s).balls = s.balls ∧ (State.tapPump s).shadow = s.shadow ∧ (State.tapPump s).trowels = s.trowels ∧ (State.tapPump s).faulted = s.faulted ∧ (State.tapPump s).bb = s.bb ∧ (State.tapPump s).tap = s.tap ∧ (State.tapPump s).time = s.time ∧ (State.tapPump s).thermal = s.thermal ∧ (State.tapPump s).light = s.light ∧ (State.tapPump s).adcA = s.adcA ∧ (State.tapPump s).adcB = s.adcB ∧ (State.tapPump s).amb = s.amb ∧ (State.tapPump s).ports = s.ports ∧ (State.tapPump s).frames = s.frames ∧ (State.tapPump s).nextFrame = s.nextFrame ∧ (State.tapPump s).pipe = s.pipe ∧ (State.tapPump s).ctxs = s.ctxs ∧ (State.tapPump s).dec = s.dec ∧ (State.tapPump s).vs = s.vs ∧ (State.tapPump s).former = s.former ∧ (State.tapPump s).ser = s.ser ∧ (State.tapPump s).pair = s.pair ∧ (State.tapPump s).fresh = s.fresh := by
  first
  | (unfold State.tapPump; simp; done)
  | (unfold State.tapPump; (try dsimp only); (repeat' split) <;> (first | rfl | (simp; done) | (simp_all; done) | (try simp)))
@[simp] theorem State.rerouted_frame (s : State) :
    (State.rerouted s).pending = s.pending ∧ (State.rerouted s).identity = s.identity ∧ (State.rerouted s).aon = s.aon ∧ (State.rerouted s).pins = s.pins ∧ (State.rerouted s).phase = s.phase ∧ (State.rerouted s).boot = s.boot ∧ (State.rerouted s).sys = s.sys ∧ (State.rerouted s).balls = s.balls ∧ (State.rerouted s).shadow = s.shadow ∧ (State.rerouted s).trowels = s.trowels ∧ (State.rerouted s).faulted = s.faulted ∧ (State.rerouted s).bb = s.bb ∧ (State.rerouted s).tap = s.tap ∧ (State.rerouted s).time = s.time ∧ (State.rerouted s).thermal = s.thermal ∧ (State.rerouted s).light = s.light ∧ (State.rerouted s).adcA = s.adcA ∧ (State.rerouted s).adcB = s.adcB ∧ (State.rerouted s).amb = s.amb ∧ (State.rerouted s).ports = s.ports ∧ (State.rerouted s).frames = s.frames ∧ (State.rerouted s).nextFrame = s.nextFrame ∧ (State.rerouted s).pipe = s.pipe ∧ (State.rerouted s).ctxs = s.ctxs ∧ (State.rerouted s).dec = s.dec ∧ (State.rerouted s).vs = s.vs ∧ (State.rerouted s).former = s.former ∧ (State.rerouted s).ser = s.ser ∧ (State.rerouted s).pair = s.pair ∧ (State.rerouted s).fresh = s.fresh := by
  first
  | (unfold State.rerouted; simp; done)
  | (unfold State.rerouted; (try dsimp only); (repeat' split) <;> (first | rfl | (simp; done) | (simp_all; done) | (try simp)))
@[simp] theorem State.announceNow_frame (s : State) :
    (State.announceNow s).pending = s.pending ∧ (State.announceNow s).identity = s.identity ∧ (State.announceNow s).aon = s.aon ∧ (State.announceNow s).pins = s.pins ∧ (State.announceNow s).phase = s.phase ∧ (State.announceNow s).boot = s.boot ∧ (State.announceNow s).sys = s.sys ∧ (State.announceNow s).balls = s.balls ∧ (State.announceNow s).fields = s.fields ∧ (State.announceNow s).shadow = s.shadow ∧ (State.announceNow s).trowels = s.trowels ∧ (State.announceNow s).faulted = s.faulted ∧ (State.announceNow s).bb = s.bb ∧ (State.announceNow s).tap = s.tap ∧ (State.announceNow s).time = s.time ∧ (State.announceNow s).thermal = s.thermal ∧ (State.announceNow s).light = s.light ∧ (State.announceNow s).adcA = s.adcA ∧ (State.announceNow s).adcB = s.adcB ∧ (State.announceNow s).amb = s.amb ∧ (State.announceNow s).ports = s.ports ∧ (State.announceNow s).frames = s.frames ∧ (State.announceNow s).nextFrame = s.nextFrame ∧ (State.announceNow s).pipe = s.pipe ∧ (State.announceNow s).ctxs = s.ctxs ∧ (State.announceNow s).dec = s.dec ∧ (State.announceNow s).vs = s.vs ∧ (State.announceNow s).former = s.former ∧ (State.announceNow s).usb = s.usb ∧ (State.announceNow s).ser = s.ser ∧ (State.announceNow s).pair = s.pair ∧ (State.announceNow s).fresh = s.fresh := by
  first
  | (unfold State.announceNow; simp; done)
  | (unfold State.announceNow; (try dsimp only); (repeat' split) <;> (first | rfl | (simp; done) | (simp_all; done) | (try simp)))
@[simp] theorem State.takeId_frame (s : State) (i : Option (BitVec 6)) :
    (State.takeId s i).pending = s.pending ∧ (State.takeId s i).identity = s.identity ∧ (State.takeId s i).aon = s.aon ∧ (State.takeId s i).pins = s.pins ∧ (State.takeId s i).phase = s.phase ∧ (State.takeId s i).boot = s.boot ∧ (State.takeId s i).sys = s.sys ∧ (State.takeId s i).balls = s.balls ∧ (State.takeId s i).fields = s.fields ∧ (State.takeId s i).shadow = s.shadow ∧ (State.takeId s i).trowels = s.trowels ∧ (State.takeId s i).faulted = s.faulted ∧ (State.takeId s i).tap = s.tap ∧ (State.takeId s i).time = s.time ∧ (State.takeId s i).thermal = s.thermal ∧ (State.takeId s i).light = s.light ∧ (State.takeId s i).adcA = s.adcA ∧ (State.takeId s i).adcB = s.adcB ∧ (State.takeId s i).amb = s.amb ∧ (State.takeId s i).ports = s.ports ∧ (State.takeId s i).frames = s.frames ∧ (State.takeId s i).nextFrame = s.nextFrame ∧ (State.takeId s i).pipe = s.pipe ∧ (State.takeId s i).ctxs = s.ctxs ∧ (State.takeId s i).dec = s.dec ∧ (State.takeId s i).vs = s.vs ∧ (State.takeId s i).former = s.former ∧ (State.takeId s i).usb = s.usb ∧ (State.takeId s i).ser = s.ser ∧ (State.takeId s i).pair = s.pair ∧ (State.takeId s i).fresh = s.fresh := by
  first
  | (unfold State.takeId; simp; done)
  | (unfold State.takeId; (try dsimp only); (repeat' split) <;> (first | rfl | (simp; done) | (simp_all; done) | (try simp)))
@[simp] theorem State.routeChange_frame (s : State) :
    (State.routeChange s).pending = s.pending ∧ (State.routeChange s).identity = s.identity ∧ (State.routeChange s).aon = s.aon ∧ (State.routeChange s).pins = s.pins ∧ (State.routeChange s).phase = s.phase ∧ (State.routeChange s).boot = s.boot ∧ (State.routeChange s).sys = s.sys ∧ (State.routeChange s).balls = s.balls ∧ (State.routeChange s).fields = s.fields ∧ (State.routeChange s).shadow = s.shadow ∧ (State.routeChange s).faulted = s.faulted ∧ (State.routeChange s).bb = s.bb ∧ (State.routeChange s).tap = s.tap ∧ (State.routeChange s).time = s.time ∧ (State.routeChange s).thermal = s.thermal ∧ (State.routeChange s).light = s.light ∧ (State.routeChange s).adcA = s.adcA ∧ (State.routeChange s).adcB = s.adcB ∧ (State.routeChange s).amb = s.amb ∧ (State.routeChange s).ports = s.ports ∧ (State.routeChange s).frames = s.frames ∧ (State.routeChange s).nextFrame = s.nextFrame ∧ (State.routeChange s).pipe = s.pipe ∧ (State.routeChange s).ctxs = s.ctxs ∧ (State.routeChange s).dec = s.dec ∧ (State.routeChange s).vs = s.vs ∧ (State.routeChange s).former = s.former ∧ (State.routeChange s).usb = s.usb ∧ (State.routeChange s).ser = s.ser ∧ (State.routeChange s).pair = s.pair ∧ (State.routeChange s).fab = s.fab ∧ (State.routeChange s).fresh = s.fresh := by
  first
  | (unfold State.routeChange; simp; done)
  | (unfold State.routeChange; (try dsimp only); (repeat' split) <;> (first | rfl | (simp; done) | (simp_all; done) | (try simp)))
@[simp] theorem State.settleId_frame (s : State) (a : Announce) :
    (State.settleId s a).pending = s.pending ∧ (State.settleId s a).identity = s.identity ∧ (State.settleId s a).aon = s.aon ∧ (State.settleId s a).pins = s.pins ∧ (State.settleId s a).phase = s.phase ∧ (State.settleId s a).boot = s.boot ∧ (State.settleId s a).sys = s.sys ∧ (State.settleId s a).balls = s.balls ∧ (State.settleId s a).fields = s.fields ∧ (State.settleId s a).shadow = s.shadow ∧ (State.settleId s a).trowels = s.trowels ∧ (State.settleId s a).faulted = s.faulted ∧ (State.settleId s a).tap = s.tap ∧ (State.settleId s a).time = s.time ∧ (State.settleId s a).thermal = s.thermal ∧ (State.settleId s a).light = s.light ∧ (State.settleId s a).adcA = s.adcA ∧ (State.settleId s a).adcB = s.adcB ∧ (State.settleId s a).amb = s.amb ∧ (State.settleId s a).ports = s.ports ∧ (State.settleId s a).frames = s.frames ∧ (State.settleId s a).nextFrame = s.nextFrame ∧ (State.settleId s a).pipe = s.pipe ∧ (State.settleId s a).ctxs = s.ctxs ∧ (State.settleId s a).dec = s.dec ∧ (State.settleId s a).vs = s.vs ∧ (State.settleId s a).former = s.former ∧ (State.settleId s a).usb = s.usb ∧ (State.settleId s a).ser = s.ser ∧ (State.settleId s a).pair = s.pair ∧ (State.settleId s a).fresh = s.fresh := by
  first
  | (unfold State.settleId; simp; done)
  | (unfold State.settleId; (try dsimp only); (repeat' split) <;> (first | rfl | (simp; done) | (simp_all; done) | (try simp)))
@[simp] theorem State.takeAnnounce_frame (s : State) (m : MorId) (a : Announce) :
    (State.takeAnnounce s m a).pending = s.pending ∧ (State.takeAnnounce s m a).identity = s.identity ∧ (State.takeAnnounce s m a).aon = s.aon ∧ (State.takeAnnounce s m a).pins = s.pins ∧ (State.takeAnnounce s m a).phase = s.phase ∧ (State.takeAnnounce s m a).boot = s.boot ∧ (State.takeAnnounce s m a).sys = s.sys ∧ (State.takeAnnounce s m a).balls = s.balls ∧ (State.takeAnnounce s m a).fields = s.fields ∧ (State.takeAnnounce s m a).shadow = s.shadow ∧ (State.takeAnnounce s m a).faulted = s.faulted ∧ (State.takeAnnounce s m a).tap = s.tap ∧ (State.takeAnnounce s m a).time = s.time ∧ (State.takeAnnounce s m a).thermal = s.thermal ∧ (State.takeAnnounce s m a).light = s.light ∧ (State.takeAnnounce s m a).adcA = s.adcA ∧ (State.takeAnnounce s m a).adcB = s.adcB ∧ (State.takeAnnounce s m a).amb = s.amb ∧ (State.takeAnnounce s m a).ports = s.ports ∧ (State.takeAnnounce s m a).frames = s.frames ∧ (State.takeAnnounce s m a).nextFrame = s.nextFrame ∧ (State.takeAnnounce s m a).pipe = s.pipe ∧ (State.takeAnnounce s m a).ctxs = s.ctxs ∧ (State.takeAnnounce s m a).dec = s.dec ∧ (State.takeAnnounce s m a).vs = s.vs ∧ (State.takeAnnounce s m a).former = s.former ∧ (State.takeAnnounce s m a).usb = s.usb ∧ (State.takeAnnounce s m a).ser = s.ser ∧ (State.takeAnnounce s m a).pair = s.pair ∧ (State.takeAnnounce s m a).fresh = s.fresh := by
  first
  | (unfold State.takeAnnounce; simp; done)
  | (unfold State.takeAnnounce; (try dsimp only); (repeat' split) <;> (first | rfl | (simp; done) | (simp_all; done) | (try simp)))
@[simp] theorem State.morUp_frame (s : State) (m : MorId) (degraded : Bool) :
    (State.morUp s m degraded).pending = s.pending ∧ (State.morUp s m degraded).identity = s.identity ∧ (State.morUp s m degraded).aon = s.aon ∧ (State.morUp s m degraded).pins = s.pins ∧ (State.morUp s m degraded).phase = s.phase ∧ (State.morUp s m degraded).boot = s.boot ∧ (State.morUp s m degraded).sys = s.sys ∧ (State.morUp s m degraded).balls = s.balls ∧ (State.morUp s m degraded).shadow = s.shadow ∧ (State.morUp s m degraded).faulted = s.faulted ∧ (State.morUp s m degraded).bb = s.bb ∧ (State.morUp s m degraded).tap = s.tap ∧ (State.morUp s m degraded).time = s.time ∧ (State.morUp s m degraded).thermal = s.thermal ∧ (State.morUp s m degraded).light = s.light ∧ (State.morUp s m degraded).adcA = s.adcA ∧ (State.morUp s m degraded).adcB = s.adcB ∧ (State.morUp s m degraded).amb = s.amb ∧ (State.morUp s m degraded).ports = s.ports ∧ (State.morUp s m degraded).frames = s.frames ∧ (State.morUp s m degraded).nextFrame = s.nextFrame ∧ (State.morUp s m degraded).pipe = s.pipe ∧ (State.morUp s m degraded).ctxs = s.ctxs ∧ (State.morUp s m degraded).dec = s.dec ∧ (State.morUp s m degraded).vs = s.vs ∧ (State.morUp s m degraded).former = s.former ∧ (State.morUp s m degraded).ser = s.ser ∧ (State.morUp s m degraded).pair = s.pair ∧ (State.morUp s m degraded).fresh = s.fresh := by
  first
  | (unfold State.morUp; simp; done)
  | (unfold State.morUp; (try dsimp only); (repeat' split) <;> (first | rfl | (simp; done) | (simp_all; done) | (try simp)))
@[simp] theorem State.morDown_frame (s : State) (m : MorId) :
    (State.morDown s m).pending = s.pending ∧ (State.morDown s m).identity = s.identity ∧ (State.morDown s m).aon = s.aon ∧ (State.morDown s m).pins = s.pins ∧ (State.morDown s m).phase = s.phase ∧ (State.morDown s m).boot = s.boot ∧ (State.morDown s m).sys = s.sys ∧ (State.morDown s m).balls = s.balls ∧ (State.morDown s m).shadow = s.shadow ∧ (State.morDown s m).faulted = s.faulted ∧ (State.morDown s m).bb = s.bb ∧ (State.morDown s m).tap = s.tap ∧ (State.morDown s m).time = s.time ∧ (State.morDown s m).thermal = s.thermal ∧ (State.morDown s m).light = s.light ∧ (State.morDown s m).adcA = s.adcA ∧ (State.morDown s m).adcB = s.adcB ∧ (State.morDown s m).amb = s.amb ∧ (State.morDown s m).ports = s.ports ∧ (State.morDown s m).frames = s.frames ∧ (State.morDown s m).nextFrame = s.nextFrame ∧ (State.morDown s m).pipe = s.pipe ∧ (State.morDown s m).ctxs = s.ctxs ∧ (State.morDown s m).dec = s.dec ∧ (State.morDown s m).vs = s.vs ∧ (State.morDown s m).former = s.former ∧ (State.morDown s m).ser = s.ser ∧ (State.morDown s m).pair = s.pair ∧ (State.morDown s m).fresh = s.fresh := by
  first
  | (unfold State.morDown; simp; done)
  | (unfold State.morDown; (try dsimp only); (repeat' split) <;> (first | rfl | (simp; done) | (simp_all; done) | (try simp)))
end Sys2Proof.Machine
end

