-- ==== Sys2Proof/Laws/FrameStore.lean ====
section
/-! SUPPORT. Frames: which parts of the state each operation of Machine/Store leaves as they were. -/

namespace Sys2Proof.Machine
@[simp] theorem State.backlogEdge_frame (s : State) :
    (State.backlogEdge s).pending = s.pending ∧ (State.backlogEdge s).identity = s.identity ∧ (State.backlogEdge s).aon = s.aon ∧ (State.backlogEdge s).pins = s.pins ∧ (State.backlogEdge s).phase = s.phase ∧ (State.backlogEdge s).boot = s.boot ∧ (State.backlogEdge s).sys = s.sys ∧ (State.backlogEdge s).balls = s.balls ∧ (State.backlogEdge s).shadow = s.shadow ∧ (State.backlogEdge s).trowels = s.trowels ∧ (State.backlogEdge s).faulted = s.faulted ∧ (State.backlogEdge s).bb = s.bb ∧ (State.backlogEdge s).tap = s.tap ∧ (State.backlogEdge s).time = s.time ∧ (State.backlogEdge s).thermal = s.thermal ∧ (State.backlogEdge s).light = s.light ∧ (State.backlogEdge s).adcA = s.adcA ∧ (State.backlogEdge s).adcB = s.adcB ∧ (State.backlogEdge s).amb = s.amb ∧ (State.backlogEdge s).ports = s.ports ∧ (State.backlogEdge s).frames = s.frames ∧ (State.backlogEdge s).nextFrame = s.nextFrame ∧ (State.backlogEdge s).pipe = s.pipe ∧ (State.backlogEdge s).ctxs = s.ctxs ∧ (State.backlogEdge s).dec = s.dec ∧ (State.backlogEdge s).former = s.former ∧ (State.backlogEdge s).usb = s.usb ∧ (State.backlogEdge s).ser = s.ser ∧ (State.backlogEdge s).pair = s.pair ∧ (State.backlogEdge s).fab = s.fab ∧ (State.backlogEdge s).fresh = s.fresh := by
  first
  | (unfold State.backlogEdge; simp; done)
  | (unfold State.backlogEdge; (try dsimp only); (repeat' split) <;> (first | rfl | (simp; done) | (simp_all; done) | (try simp)))
@[simp] theorem State.storeWrite_frame (s : State) (a : BitVec 14) (f : Word) (w : BitVec 16) :
    (State.storeWrite s a f w).pending = s.pending ∧ (State.storeWrite s a f w).identity = s.identity ∧ (State.storeWrite s a f w).aon = s.aon ∧ (State.storeWrite s a f w).pins = s.pins ∧ (State.storeWrite s a f w).phase = s.phase ∧ (State.storeWrite s a f w).boot = s.boot ∧ (State.storeWrite s a f w).sys = s.sys ∧ (State.storeWrite s a f w).balls = s.balls ∧ (State.storeWrite s a f w).shadow = s.shadow ∧ (State.storeWrite s a f w).trowels = s.trowels ∧ (State.storeWrite s a f w).faulted = s.faulted ∧ (State.storeWrite s a f w).bb = s.bb ∧ (State.storeWrite s a f w).tap = s.tap ∧ (State.storeWrite s a f w).time = s.time ∧ (State.storeWrite s a f w).thermal = s.thermal ∧ (State.storeWrite s a f w).light = s.light ∧ (State.storeWrite s a f w).adcA = s.adcA ∧ (State.storeWrite s a f w).adcB = s.adcB ∧ (State.storeWrite s a f w).amb = s.amb ∧ (State.storeWrite s a f w).ports = s.ports ∧ (State.storeWrite s a f w).frames = s.frames ∧ (State.storeWrite s a f w).nextFrame = s.nextFrame ∧ (State.storeWrite s a f w).pipe = s.pipe ∧ (State.storeWrite s a f w).ctxs = s.ctxs ∧ (State.storeWrite s a f w).dec = s.dec ∧ (State.storeWrite s a f w).former = s.former ∧ (State.storeWrite s a f w).usb = s.usb ∧ (State.storeWrite s a f w).ser = s.ser ∧ (State.storeWrite s a f w).pair = s.pair ∧ (State.storeWrite s a f w).fab = s.fab ∧ (State.storeWrite s a f w).fresh = s.fresh := by
  first
  | (unfold State.storeWrite; simp; done)
  | (unfold State.storeWrite; (try dsimp only); (repeat' split) <;> (first | rfl | (simp; done) | (simp_all; done) | (try simp)))
end Sys2Proof.Machine
end

