-- ==== Sys2Proof/Laws/FrameCsi.lean ====
section
/-! SUPPORT. Frames: which parts of the state each operation of Machine/Csi leaves as they were. -/

namespace Sys2Proof.Machine
@[simp] theorem State.updPort_frame (s : State) (p : PortId) (f : Port → Port) :
    (State.updPort s p f).pending = s.pending ∧ (State.updPort s p f).identity = s.identity ∧ (State.updPort s p f).aon = s.aon ∧ (State.updPort s p f).pins = s.pins ∧ (State.updPort s p f).phase = s.phase ∧ (State.updPort s p f).boot = s.boot ∧ (State.updPort s p f).sys = s.sys ∧ (State.updPort s p f).balls = s.balls ∧ (State.updPort s p f).fields = s.fields ∧ (State.updPort s p f).shadow = s.shadow ∧ (State.updPort s p f).trowels = s.trowels ∧ (State.updPort s p f).faulted = s.faulted ∧ (State.updPort s p f).bb = s.bb ∧ (State.updPort s p f).tap = s.tap ∧ (State.updPort s p f).time = s.time ∧ (State.updPort s p f).thermal = s.thermal ∧ (State.updPort s p f).light = s.light ∧ (State.updPort s p f).adcA = s.adcA ∧ (State.updPort s p f).adcB = s.adcB ∧ (State.updPort s p f).amb = s.amb ∧ (State.updPort s p f).frames = s.frames ∧ (State.updPort s p f).nextFrame = s.nextFrame ∧ (State.updPort s p f).pipe = s.pipe ∧ (State.updPort s p f).ctxs = s.ctxs ∧ (State.updPort s p f).dec = s.dec ∧ (State.updPort s p f).vs = s.vs ∧ (State.updPort s p f).former = s.former ∧ (State.updPort s p f).usb = s.usb ∧ (State.updPort s p f).ser = s.ser ∧ (State.updPort s p f).pair = s.pair ∧ (State.updPort s p f).fab = s.fab ∧ (State.updPort s p f).fresh = s.fresh := by
  first
  | (unfold State.updPort; simp; done)
  | (unfold State.updPort; (try dsimp only); (repeat' split) <;> (first | rfl | (simp; done) | (simp_all; done) | (try simp)))
@[simp] theorem State.updFrame_frame (s : State) (id : Nat) (f : Frame → Frame) :
    (State.updFrame s id f).pending = s.pending ∧ (State.updFrame s id f).identity = s.identity ∧ (State.updFrame s id f).aon = s.aon ∧ (State.updFrame s id f).pins = s.pins ∧ (State.updFrame s id f).phase = s.phase ∧ (State.updFrame s id f).boot = s.boot ∧ (State.updFrame s id f).sys = s.sys ∧ (State.updFrame s id f).balls = s.balls ∧ (State.updFrame s id f).fields = s.fields ∧ (State.updFrame s id f).shadow = s.shadow ∧ (State.updFrame s id f).trowels = s.trowels ∧ (State.updFrame s id f).faulted = s.faulted ∧ (State.updFrame s id f).bb = s.bb ∧ (State.updFrame s id f).tap = s.tap ∧ (State.updFrame s id f).time = s.time ∧ (State.updFrame s id f).thermal = s.thermal ∧ (State.updFrame s id f).light = s.light ∧ (State.updFrame s id f).adcA = s.adcA ∧ (State.updFrame s id f).adcB = s.adcB ∧ (State.updFrame s id f).amb = s.amb ∧ (State.updFrame s id f).ports = s.ports ∧ (State.updFrame s id f).nextFrame = s.nextFrame ∧ (State.updFrame s id f).pipe = s.pipe ∧ (State.updFrame s id f).ctxs = s.ctxs ∧ (State.updFrame s id f).dec = s.dec ∧ (State.updFrame s id f).vs = s.vs ∧ (State.updFrame s id f).former = s.former ∧ (State.updFrame s id f).usb = s.usb ∧ (State.updFrame s id f).ser = s.ser ∧ (State.updFrame s id f).pair = s.pair ∧ (State.updFrame s id f).fab = s.fab ∧ (State.updFrame s id f).fresh = s.fresh := by
  first
  | (unfold State.updFrame; simp; done)
  | (unfold State.updFrame; (try dsimp only); (repeat' split) <;> (first | rfl | (simp; done) | (simp_all; done) | (try simp)))
@[simp] theorem State.markDamaged_frame (s : State) (ids : List Nat) :
    (State.markDamaged s ids).pending = s.pending ∧ (State.markDamaged s ids).identity = s.identity ∧ (State.markDamaged s ids).aon = s.aon ∧ (State.markDamaged s ids).pins = s.pins ∧ (State.markDamaged s ids).phase = s.phase ∧ (State.markDamaged s ids).boot = s.boot ∧ (State.markDamaged s ids).sys = s.sys ∧ (State.markDamaged s ids).balls = s.balls ∧ (State.markDamaged s ids).fields = s.fields ∧ (State.markDamaged s ids).shadow = s.shadow ∧ (State.markDamaged s ids).trowels = s.trowels ∧ (State.markDamaged s ids).faulted = s.faulted ∧ (State.markDamaged s ids).bb = s.bb ∧ (State.markDamaged s ids).tap = s.tap ∧ (State.markDamaged s ids).time = s.time ∧ (State.markDamaged s ids).thermal = s.thermal ∧ (State.markDamaged s ids).light = s.light ∧ (State.markDamaged s ids).adcA = s.adcA ∧ (State.markDamaged s ids).adcB = s.adcB ∧ (State.markDamaged s ids).amb = s.amb ∧ (State.markDamaged s ids).ports = s.ports ∧ (State.markDamaged s ids).nextFrame = s.nextFrame ∧ (State.markDamaged s ids).pipe = s.pipe ∧ (State.markDamaged s ids).ctxs = s.ctxs ∧ (State.markDamaged s ids).dec = s.dec ∧ (State.markDamaged s ids).vs = s.vs ∧ (State.markDamaged s ids).former = s.former ∧ (State.markDamaged s ids).usb = s.usb ∧ (State.markDamaged s ids).ser = s.ser ∧ (State.markDamaged s ids).pair = s.pair ∧ (State.markDamaged s ids).fab = s.fab ∧ (State.markDamaged s ids).fresh = s.fresh := by
  first
  | (unfold State.markDamaged; simp; done)
  | (unfold State.markDamaged; (try dsimp only); (repeat' split) <;> (first | rfl | (simp; done) | (simp_all; done) | (try simp)))
@[simp] theorem State.markTruncated_frame (s : State) (ids : List Nat) :
    (State.markTruncated s ids).pending = s.pending ∧ (State.markTruncated s ids).identity = s.identity ∧ (State.markTruncated s ids).aon = s.aon ∧ (State.markTruncated s ids).pins = s.pins ∧ (State.markTruncated s ids).phase = s.phase ∧ (State.markTruncated s ids).boot = s.boot ∧ (State.markTruncated s ids).sys = s.sys ∧ (State.markTruncated s ids).balls = s.balls ∧ (State.markTruncated s ids).fields = s.fields ∧ (State.markTruncated s ids).shadow = s.shadow ∧ (State.markTruncated s ids).trowels = s.trowels ∧ (State.markTruncated s ids).faulted = s.faulted ∧ (State.markTruncated s ids).bb = s.bb ∧ (State.markTruncated s ids).tap = s.tap ∧ (State.markTruncated s ids).time = s.time ∧ (State.markTruncated s ids).thermal = s.thermal ∧ (State.markTruncated s ids).light = s.light ∧ (State.markTruncated s ids).adcA = s.adcA ∧ (State.markTruncated s ids).adcB = s.adcB ∧ (State.markTruncated s ids).amb = s.amb ∧ (State.markTruncated s ids).ports = s.ports ∧ (State.markTruncated s ids).nextFrame = s.nextFrame ∧ (State.markTruncated s ids).pipe = s.pipe ∧ (State.markTruncated s ids).ctxs = s.ctxs ∧ (State.markTruncated s ids).dec = s.dec ∧ (State.markTruncated s ids).vs = s.vs ∧ (State.markTruncated s ids).former = s.former ∧ (State.markTruncated s ids).usb = s.usb ∧ (State.markTruncated s ids).ser = s.ser ∧ (State.markTruncated s ids).pair = s.pair ∧ (State.markTruncated s ids).fab = s.fab ∧ (State.markTruncated s ids).fresh = s.fresh := by
  first
  | (unfold State.markTruncated; simp; done)
  | (unfold State.markTruncated; (try dsimp only); (repeat' split) <;> (first | rfl | (simp; done) | (simp_all; done) | (try simp)))
@[simp] theorem State.bufPush_frame (s : State) (p : PortId) (l : List BufItem) :
    (State.bufPush s p l).pending = s.pending ∧ (State.bufPush s p l).identity = s.identity ∧ (State.bufPush s p l).aon = s.aon ∧ (State.bufPush s p l).pins = s.pins ∧ (State.bufPush s p l).phase = s.phase ∧ (State.bufPush s p l).boot = s.boot ∧ (State.bufPush s p l).sys = s.sys ∧ (State.bufPush s p l).balls = s.balls ∧ (State.bufPush s p l).shadow = s.shadow ∧ (State.bufPush s p l).trowels = s.trowels ∧ (State.bufPush s p l).faulted = s.faulted ∧ (State.bufPush s p l).bb = s.bb ∧ (State.bufPush s p l).tap = s.tap ∧ (State.bufPush s p l).time = s.time ∧ (State.bufPush s p l).thermal = s.thermal ∧ (State.bufPush s p l).light = s.light ∧ (State.bufPush s p l).adcA = s.adcA ∧ (State.bufPush s p l).adcB = s.adcB ∧ (State.bufPush s p l).amb = s.amb ∧ (State.bufPush s p l).frames = s.frames ∧ (State.bufPush s p l).nextFrame = s.nextFrame ∧ (State.bufPush s p l).pipe = s.pipe ∧ (State.bufPush s p l).ctxs = s.ctxs ∧ (State.bufPush s p l).dec = s.dec ∧ (State.bufPush s p l).vs = s.vs ∧ (State.bufPush s p l).former = s.former ∧ (State.bufPush s p l).usb = s.usb ∧ (State.bufPush s p l).ser = s.ser ∧ (State.bufPush s p l).pair = s.pair ∧ (State.bufPush s p l).fab = s.fab ∧ (State.bufPush s p l).fresh = s.fresh := by
  first
  | (unfold State.bufPush; simp; done)
  | (unfold State.bufPush; (try dsimp only); (repeat' split) <;> (first | rfl | (simp; done) | (simp_all; done) | (try simp)))
@[simp] theorem State.closePort_frame (s : State) (p : PortId) :
    (State.closePort s p).pending = s.pending ∧ (State.closePort s p).identity = s.identity ∧ (State.closePort s p).aon = s.aon ∧ (State.closePort s p).pins = s.pins ∧ (State.closePort s p).phase = s.phase ∧ (State.closePort s p).boot = s.boot ∧ (State.closePort s p).sys = s.sys ∧ (State.closePort s p).balls = s.balls ∧ (State.closePort s p).shadow = s.shadow ∧ (State.closePort s p).trowels = s.trowels ∧ (State.closePort s p).faulted = s.faulted ∧ (State.closePort s p).bb = s.bb ∧ (State.closePort s p).tap = s.tap ∧ (State.closePort s p).time = s.time ∧ (State.closePort s p).thermal = s.thermal ∧ (State.closePort s p).light = s.light ∧ (State.closePort s p).adcA = s.adcA ∧ (State.closePort s p).adcB = s.adcB ∧ (State.closePort s p).amb = s.amb ∧ (State.closePort s p).nextFrame = s.nextFrame ∧ (State.closePort s p).pipe = s.pipe ∧ (State.closePort s p).ctxs = s.ctxs ∧ (State.closePort s p).dec = s.dec ∧ (State.closePort s p).vs = s.vs ∧ (State.closePort s p).former = s.former ∧ (State.closePort s p).usb = s.usb ∧ (State.closePort s p).ser = s.ser ∧ (State.closePort s p).pair = s.pair ∧ (State.closePort s p).fab = s.fab ∧ (State.closePort s p).fresh = s.fresh := by
  first
  | (unfold State.closePort; simp; done)
  | (unfold State.closePort; (try dsimp only); (repeat' split) <;> (first | rfl | (simp; done) | (simp_all; done) | (try simp)))
@[simp] theorem State.portPower_frame (s : State) (p : PortId) :
    (State.portPower s p).pending = s.pending ∧ (State.portPower s p).identity = s.identity ∧ (State.portPower s p).aon = s.aon ∧ (State.portPower s p).pins = s.pins ∧ (State.portPower s p).phase = s.phase ∧ (State.portPower s p).boot = s.boot ∧ (State.portPower s p).sys = s.sys ∧ (State.portPower s p).balls = s.balls ∧ (State.portPower s p).shadow = s.shadow ∧ (State.portPower s p).trowels = s.trowels ∧ (State.portPower s p).faulted = s.faulted ∧ (State.portPower s p).bb = s.bb ∧ (State.portPower s p).tap = s.tap ∧ (State.portPower s p).time = s.time ∧ (State.portPower s p).thermal = s.thermal ∧ (State.portPower s p).light = s.light ∧ (State.portPower s p).adcA = s.adcA ∧ (State.portPower s p).adcB = s.adcB ∧ (State.portPower s p).amb = s.amb ∧ (State.portPower s p).frames = s.frames ∧ (State.portPower s p).nextFrame = s.nextFrame ∧ (State.portPower s p).pipe = s.pipe ∧ (State.portPower s p).ctxs = s.ctxs ∧ (State.portPower s p).dec = s.dec ∧ (State.portPower s p).vs = s.vs ∧ (State.portPower s p).former = s.former ∧ (State.portPower s p).usb = s.usb ∧ (State.portPower s p).ser = s.ser ∧ (State.portPower s p).pair = s.pair ∧ (State.portPower s p).fab = s.fab ∧ (State.portPower s p).fresh = s.fresh := by
  first
  | (unfold State.portPower; simp; done)
  | (unfold State.portPower; (try dsimp only); (repeat' split) <;> (first | rfl | (simp; done) | (simp_all; done) | (try simp)))
@[simp] theorem State.portEnable_frame (s : State) (p : PortId) :
    (State.portEnable s p).pending = s.pending ∧ (State.portEnable s p).identity = s.identity ∧ (State.portEnable s p).aon = s.aon ∧ (State.portEnable s p).pins = s.pins ∧ (State.portEnable s p).phase = s.phase ∧ (State.portEnable s p).boot = s.boot ∧ (State.portEnable s p).sys = s.sys ∧ (State.portEnable s p).balls = s.balls ∧ (State.portEnable s p).shadow = s.shadow ∧ (State.portEnable s p).trowels = s.trowels ∧ (State.portEnable s p).faulted = s.faulted ∧ (State.portEnable s p).bb = s.bb ∧ (State.portEnable s p).tap = s.tap ∧ (State.portEnable s p).time = s.time ∧ (State.portEnable s p).thermal = s.thermal ∧ (State.portEnable s p).light = s.light ∧ (State.portEnable s p).adcA = s.adcA ∧ (State.portEnable s p).adcB = s.adcB ∧ (State.portEnable s p).amb = s.amb ∧ (State.portEnable s p).frames = s.frames ∧ (State.portEnable s p).nextFrame = s.nextFrame ∧ (State.portEnable s p).pipe = s.pipe ∧ (State.portEnable s p).ctxs = s.ctxs ∧ (State.portEnable s p).dec = s.dec ∧ (State.portEnable s p).vs = s.vs ∧ (State.portEnable s p).former = s.former ∧ (State.portEnable s p).usb = s.usb ∧ (State.portEnable s p).ser = s.ser ∧ (State.portEnable s p).pair = s.pair ∧ (State.portEnable s p).fab = s.fab ∧ (State.portEnable s p).fresh = s.fresh := by
  first
  | (unfold State.portEnable; simp; done)
  | (unfold State.portEnable; (try dsimp only); (repeat' split) <;> (first | rfl | (simp; done) | (simp_all; done) | (try simp)))
@[simp] theorem State.portDown_frame (s : State) (p : PortId) :
    (State.portDown s p).pending = s.pending ∧ (State.portDown s p).identity = s.identity ∧ (State.portDown s p).aon = s.aon ∧ (State.portDown s p).pins = s.pins ∧ (State.portDown s p).phase = s.phase ∧ (State.portDown s p).boot = s.boot ∧ (State.portDown s p).sys = s.sys ∧ (State.portDown s p).balls = s.balls ∧ (State.portDown s p).shadow = s.shadow ∧ (State.portDown s p).trowels = s.trowels ∧ (State.portDown s p).faulted = s.faulted ∧ (State.portDown s p).bb = s.bb ∧ (State.portDown s p).tap = s.tap ∧ (State.portDown s p).time = s.time ∧ (State.portDown s p).thermal = s.thermal ∧ (State.portDown s p).light = s.light ∧ (State.portDown s p).adcA = s.adcA ∧ (State.portDown s p).adcB = s.adcB ∧ (State.portDown s p).amb = s.amb ∧ (State.portDown s p).nextFrame = s.nextFrame ∧ (State.portDown s p).pipe = s.pipe ∧ (State.portDown s p).ctxs = s.ctxs ∧ (State.portDown s p).dec = s.dec ∧ (State.portDown s p).vs = s.vs ∧ (State.portDown s p).former = s.former ∧ (State.portDown s p).usb = s.usb ∧ (State.portDown s p).ser = s.ser ∧ (State.portDown s p).pair = s.pair ∧ (State.portDown s p).fab = s.fab ∧ (State.portDown s p).fresh = s.fresh := by
  first
  | (unfold State.portDown; simp; done)
  | (unfold State.portDown; (try dsimp only); (repeat' split) <;> (first | rfl | (simp; done) | (simp_all; done) | (try simp)))
@[simp] theorem State.csiNow_frame (s : State) (a : Nat) (v : Word) :
    (State.csiNow s a v).pending = s.pending ∧ (State.csiNow s a v).identity = s.identity ∧ (State.csiNow s a v).aon = s.aon ∧ (State.csiNow s a v).pins = s.pins ∧ (State.csiNow s a v).phase = s.phase ∧ (State.csiNow s a v).boot = s.boot ∧ (State.csiNow s a v).sys = s.sys ∧ (State.csiNow s a v).balls = s.balls ∧ (State.csiNow s a v).shadow = s.shadow ∧ (State.csiNow s a v).trowels = s.trowels ∧ (State.csiNow s a v).faulted = s.faulted ∧ (State.csiNow s a v).bb = s.bb ∧ (State.csiNow s a v).tap = s.tap ∧ (State.csiNow s a v).time = s.time ∧ (State.csiNow s a v).thermal = s.thermal ∧ (State.csiNow s a v).light = s.light ∧ (State.csiNow s a v).adcA = s.adcA ∧ (State.csiNow s a v).adcB = s.adcB ∧ (State.csiNow s a v).amb = s.amb ∧ (State.csiNow s a v).nextFrame = s.nextFrame ∧ (State.csiNow s a v).pipe = s.pipe ∧ (State.csiNow s a v).ctxs = s.ctxs ∧ (State.csiNow s a v).dec = s.dec ∧ (State.csiNow s a v).vs = s.vs ∧ (State.csiNow s a v).former = s.former ∧ (State.csiNow s a v).usb = s.usb ∧ (State.csiNow s a v).ser = s.ser ∧ (State.csiNow s a v).pair = s.pair ∧ (State.csiNow s a v).fab = s.fab ∧ (State.csiNow s a v).fresh = s.fresh := by
  first
  | (unfold State.csiNow; simp; done)
  | (unfold State.csiNow; (try dsimp only); (repeat' split) <;> (first | rfl | (simp; done) | (simp_all; done) | (try simp)))
@[simp] theorem State.packet_pending (s : State) (p : PortId) (vc : Fin 16) (corrected : Bool) (f : State → State) (h : ∀ s, (f s).pending = s.pending) :
    (State.packet s p vc corrected f).pending = s.pending := by
  unfold State.packet; (try dsimp only); (repeat' split) <;> (first | rfl | (simp; done) | (simp [h]; done) | (simp_all; done) | (try simp [h]))
@[simp] theorem State.packet_pipe (s : State) (p : PortId) (vc : Fin 16) (corrected : Bool) (f : State → State) (h : ∀ s, (f s).pipe = s.pipe) :
    (State.packet s p vc corrected f).pipe = s.pipe := by
  unfold State.packet; (try dsimp only); (repeat' split) <;> (first | rfl | (simp; done) | (simp [h]; done) | (simp_all; done) | (try simp [h]))
@[simp] theorem State.packet_faulted (s : State) (p : PortId) (vc : Fin 16) (corrected : Bool) (f : State → State) (h : ∀ s, (f s).faulted = s.faulted) :
    (State.packet s p vc corrected f).faulted = s.faulted := by
  unfold State.packet; (try dsimp only); (repeat' split) <;> (first | rfl | (simp; done) | (simp [h]; done) | (simp_all; done) | (try simp [h]))
@[simp] theorem State.packet_identity (s : State) (p : PortId) (vc : Fin 16) (corrected : Bool) (f : State → State) (h : ∀ s, (f s).identity = s.identity) :
    (State.packet s p vc corrected f).identity = s.identity := by
  unfold State.packet; (try dsimp only); (repeat' split) <;> (first | rfl | (simp; done) | (simp [h]; done) | (simp_all; done) | (try simp [h]))
@[simp] theorem State.packet_aon (s : State) (p : PortId) (vc : Fin 16) (corrected : Bool) (f : State → State) (h : ∀ s, (f s).aon = s.aon) :
    (State.packet s p vc corrected f).aon = s.aon := by
  unfold State.packet; (try dsimp only); (repeat' split) <;> (first | rfl | (simp; done) | (simp [h]; done) | (simp_all; done) | (try simp [h]))
@[simp] theorem State.packet_pins (s : State) (p : PortId) (vc : Fin 16) (corrected : Bool) (f : State → State) (h : ∀ s, (f s).pins = s.pins) :
    (State.packet s p vc corrected f).pins = s.pins := by
  unfold State.packet; (try dsimp only); (repeat' split) <;> (first | rfl | (simp; done) | (simp [h]; done) | (simp_all; done) | (try simp [h]))
@[simp] theorem State.packet_phase (s : State) (p : PortId) (vc : Fin 16) (corrected : Bool) (f : State → State) (h : ∀ s, (f s).phase = s.phase) :
    (State.packet s p vc corrected f).phase = s.phase := by
  unfold State.packet; (try dsimp only); (repeat' split) <;> (first | rfl | (simp; done) | (simp [h]; done) | (simp_all; done) | (try simp [h]))
@[simp] theorem State.packet_boot (s : State) (p : PortId) (vc : Fin 16) (corrected : Bool) (f : State → State) (h : ∀ s, (f s).boot = s.boot) :
    (State.packet s p vc corrected f).boot = s.boot := by
  unfold State.packet; (try dsimp only); (repeat' split) <;> (first | rfl | (simp; done) | (simp [h]; done) | (simp_all; done) | (try simp [h]))
@[simp] theorem State.packet_sys (s : State) (p : PortId) (vc : Fin 16) (corrected : Bool) (f : State → State) (h : ∀ s, (f s).sys = s.sys) :
    (State.packet s p vc corrected f).sys = s.sys := by
  unfold State.packet; (try dsimp only); (repeat' split) <;> (first | rfl | (simp; done) | (simp [h]; done) | (simp_all; done) | (try simp [h]))
@[simp] theorem State.packet_balls (s : State) (p : PortId) (vc : Fin 16) (corrected : Bool) (f : State → State) (h : ∀ s, (f s).balls = s.balls) :
    (State.packet s p vc corrected f).balls = s.balls := by
  unfold State.packet; (try dsimp only); (repeat' split) <;> (first | rfl | (simp; done) | (simp [h]; done) | (simp_all; done) | (try simp [h]))
@[simp] theorem State.packet_shadow (s : State) (p : PortId) (vc : Fin 16) (corrected : Bool) (f : State → State) (h : ∀ s, (f s).shadow = s.shadow) :
    (State.packet s p vc corrected f).shadow = s.shadow := by
  unfold State.packet; (try dsimp only); (repeat' split) <;> (first | rfl | (simp; done) | (simp [h]; done) | (simp_all; done) | (try simp [h]))
@[simp] theorem State.packet_trowels (s : State) (p : PortId) (vc : Fin 16) (corrected : Bool) (f : State → State) (h : ∀ s, (f s).trowels = s.trowels) :
    (State.packet s p vc corrected f).trowels = s.trowels := by
  unfold State.packet; (try dsimp only); (repeat' split) <;> (first | rfl | (simp; done) | (simp [h]; done) | (simp_all; done) | (try simp [h]))
@[simp] theorem State.packet_bb (s : State) (p : PortId) (vc : Fin 16) (corrected : Bool) (f : State → State) (h : ∀ s, (f s).bb = s.bb) :
    (State.packet s p vc corrected f).bb = s.bb := by
  unfold State.packet; (try dsimp only); (repeat' split) <;> (first | rfl | (simp; done) | (simp [h]; done) | (simp_all; done) | (try simp [h]))
@[simp] theorem State.packet_tap (s : State) (p : PortId) (vc : Fin 16) (corrected : Bool) (f : State → State) (h : ∀ s, (f s).tap = s.tap) :
    (State.packet s p vc corrected f).tap = s.tap := by
  unfold State.packet; (try dsimp only); (repeat' split) <;> (first | rfl | (simp; done) | (simp [h]; done) | (simp_all; done) | (try simp [h]))
@[simp] theorem State.packet_time (s : State) (p : PortId) (vc : Fin 16) (corrected : Bool) (f : State → State) (h : ∀ s, (f s).time = s.time) :
    (State.packet s p vc corrected f).time = s.time := by
  unfold State.packet; (try dsimp only); (repeat' split) <;> (first | rfl | (simp; done) | (simp [h]; done) | (simp_all; done) | (try simp [h]))
@[simp] theorem State.packet_thermal (s : State) (p : PortId) (vc : Fin 16) (corrected : Bool) (f : State → State) (h : ∀ s, (f s).thermal = s.thermal) :
    (State.packet s p vc corrected f).thermal = s.thermal := by
  unfold State.packet; (try dsimp only); (repeat' split) <;> (first | rfl | (simp; done) | (simp [h]; done) | (simp_all; done) | (try simp [h]))
@[simp] theorem State.packet_light (s : State) (p : PortId) (vc : Fin 16) (corrected : Bool) (f : State → State) (h : ∀ s, (f s).light = s.light) :
    (State.packet s p vc corrected f).light = s.light := by
  unfold State.packet; (try dsimp only); (repeat' split) <;> (first | rfl | (simp; done) | (simp [h]; done) | (simp_all; done) | (try simp [h]))
@[simp] theorem State.packet_adcA (s : State) (p : PortId) (vc : Fin 16) (corrected : Bool) (f : State → State) (h : ∀ s, (f s).adcA = s.adcA) :
    (State.packet s p vc corrected f).adcA = s.adcA := by
  unfold State.packet; (try dsimp only); (repeat' split) <;> (first | rfl | (simp; done) | (simp [h]; done) | (simp_all; done) | (try simp [h]))
@[simp] theorem State.packet_adcB (s : State) (p : PortId) (vc : Fin 16) (corrected : Bool) (f : State → State) (h : ∀ s, (f s).adcB = s.adcB) :
    (State.packet s p vc corrected f).adcB = s.adcB := by
  unfold State.packet; (try dsimp only); (repeat' split) <;> (first | rfl | (simp; done) | (simp [h]; done) | (simp_all; done) | (try simp [h]))
@[simp] theorem State.packet_amb (s : State) (p : PortId) (vc : Fin 16) (corrected : Bool) (f : State → State) (h : ∀ s, (f s).amb = s.amb) :
    (State.packet s p vc corrected f).amb = s.amb := by
  unfold State.packet; (try dsimp only); (repeat' split) <;> (first | rfl | (simp; done) | (simp [h]; done) | (simp_all; done) | (try simp [h]))
@[simp] theorem State.packet_ports (s : State) (p : PortId) (vc : Fin 16) (corrected : Bool) (f : State → State) (h : ∀ s, (f s).ports = s.ports) :
    (State.packet s p vc corrected f).ports = s.ports := by
  unfold State.packet; (try dsimp only); (repeat' split) <;> (first | rfl | (simp; done) | (simp [h]; done) | (simp_all; done) | (try simp [h]))
@[simp] theorem State.packet_frames (s : State) (p : PortId) (vc : Fin 16) (corrected : Bool) (f : State → State) (h : ∀ s, (f s).frames = s.frames) :
    (State.packet s p vc corrected f).frames = s.frames := by
  unfold State.packet; (try dsimp only); (repeat' split) <;> (first | rfl | (simp; done) | (simp [h]; done) | (simp_all; done) | (try simp [h]))
@[simp] theorem State.packet_nextFrame (s : State) (p : PortId) (vc : Fin 16) (corrected : Bool) (f : State → State) (h : ∀ s, (f s).nextFrame = s.nextFrame) :
    (State.packet s p vc corrected f).nextFrame = s.nextFrame := by
  unfold State.packet; (try dsimp only); (repeat' split) <;> (first | rfl | (simp; done) | (simp [h]; done) | (simp_all; done) | (try simp [h]))
@[simp] theorem State.packet_ctxs (s : State) (p : PortId) (vc : Fin 16) (corrected : Bool) (f : State → State) (h : ∀ s, (f s).ctxs = s.ctxs) :
    (State.packet s p vc corrected f).ctxs = s.ctxs := by
  unfold State.packet; (try dsimp only); (repeat' split) <;> (first | rfl | (simp; done) | (simp [h]; done) | (simp_all; done) | (try simp [h]))
@[simp] theorem State.packet_dec (s : State) (p : PortId) (vc : Fin 16) (corrected : Bool) (f : State → State) (h : ∀ s, (f s).dec = s.dec) :
    (State.packet s p vc corrected f).dec = s.dec := by
  unfold State.packet; (try dsimp only); (repeat' split) <;> (first | rfl | (simp; done) | (simp [h]; done) | (simp_all; done) | (try simp [h]))
@[simp] theorem State.packet_vs (s : State) (p : PortId) (vc : Fin 16) (corrected : Bool) (f : State → State) (h : ∀ s, (f s).vs = s.vs) :
    (State.packet s p vc corrected f).vs = s.vs := by
  unfold State.packet; (try dsimp only); (repeat' split) <;> (first | rfl | (simp; done) | (simp [h]; done) | (simp_all; done) | (try simp [h]))
@[simp] theorem State.packet_former (s : State) (p : PortId) (vc : Fin 16) (corrected : Bool) (f : State → State) (h : ∀ s, (f s).former = s.former) :
    (State.packet s p vc corrected f).former = s.former := by
  unfold State.packet; (try dsimp only); (repeat' split) <;> (first | rfl | (simp; done) | (simp [h]; done) | (simp_all; done) | (try simp [h]))
@[simp] theorem State.packet_usb (s : State) (p : PortId) (vc : Fin 16) (corrected : Bool) (f : State → State) (h : ∀ s, (f s).usb = s.usb) :
    (State.packet s p vc corrected f).usb = s.usb := by
  unfold State.packet; (try dsimp only); (repeat' split) <;> (first | rfl | (simp; done) | (simp [h]; done) | (simp_all; done) | (try simp [h]))
@[simp] theorem State.packet_ser (s : State) (p : PortId) (vc : Fin 16) (corrected : Bool) (f : State → State) (h : ∀ s, (f s).ser = s.ser) :
    (State.packet s p vc corrected f).ser = s.ser := by
  unfold State.packet; (try dsimp only); (repeat' split) <;> (first | rfl | (simp; done) | (simp [h]; done) | (simp_all; done) | (try simp [h]))
@[simp] theorem State.packet_pair (s : State) (p : PortId) (vc : Fin 16) (corrected : Bool) (f : State → State) (h : ∀ s, (f s).pair = s.pair) :
    (State.packet s p vc corrected f).pair = s.pair := by
  unfold State.packet; (try dsimp only); (repeat' split) <;> (first | rfl | (simp; done) | (simp [h]; done) | (simp_all; done) | (try simp [h]))
@[simp] theorem State.packet_fab (s : State) (p : PortId) (vc : Fin 16) (corrected : Bool) (f : State → State) (h : ∀ s, (f s).fab = s.fab) :
    (State.packet s p vc corrected f).fab = s.fab := by
  unfold State.packet; (try dsimp only); (repeat' split) <;> (first | rfl | (simp; done) | (simp [h]; done) | (simp_all; done) | (try simp [h]))
@[simp] theorem State.packet_fresh (s : State) (p : PortId) (vc : Fin 16) (corrected : Bool) (f : State → State) (h : ∀ s, (f s).fresh = s.fresh) :
    (State.packet s p vc corrected f).fresh = s.fresh := by
  unfold State.packet; (try dsimp only); (repeat' split) <;> (first | rfl | (simp; done) | (simp [h]; done) | (simp_all; done) | (try simp [h]))
@[simp] theorem State.missingEnd_frame (s : State) (p : PortId) (vc : Fin 16) :
    (State.missingEnd s p vc).pending = s.pending ∧ (State.missingEnd s p vc).identity = s.identity ∧ (State.missingEnd s p vc).aon = s.aon ∧ (State.missingEnd s p vc).pins = s.pins ∧ (State.missingEnd s p vc).phase = s.phase ∧ (State.missingEnd s p vc).boot = s.boot ∧ (State.missingEnd s p vc).sys = s.sys ∧ (State.missingEnd s p vc).balls = s.balls ∧ (State.missingEnd s p vc).shadow = s.shadow ∧ (State.missingEnd s p vc).trowels = s.trowels ∧ (State.missingEnd s p vc).faulted = s.faulted ∧ (State.missingEnd s p vc).bb = s.bb ∧ (State.missingEnd s p vc).tap = s.tap ∧ (State.missingEnd s p vc).time = s.time ∧ (State.missingEnd s p vc).thermal = s.thermal ∧ (State.missingEnd s p vc).light = s.light ∧ (State.missingEnd s p vc).adcA = s.adcA ∧ (State.missingEnd s p vc).adcB = s.adcB ∧ (State.missingEnd s p vc).amb = s.amb ∧ (State.missingEnd s p vc).nextFrame = s.nextFrame ∧ (State.missingEnd s p vc).pipe = s.pipe ∧ (State.missingEnd s p vc).ctxs = s.ctxs ∧ (State.missingEnd s p vc).dec = s.dec ∧ (State.missingEnd s p vc).vs = s.vs ∧ (State.missingEnd s p vc).former = s.former ∧ (State.missingEnd s p vc).usb = s.usb ∧ (State.missingEnd s p vc).ser = s.ser ∧ (State.missingEnd s p vc).pair = s.pair ∧ (State.missingEnd s p vc).fab = s.fab ∧ (State.missingEnd s p vc).fresh = s.fresh := by
  first
  | (unfold State.missingEnd; simp; done)
  | (unfold State.missingEnd; (try dsimp only); (repeat' split) <;> (first | rfl | (simp; done) | (simp_all; done) | (try simp)))
@[simp] theorem State.openFrames_frame (s : State) (p : PortId) (vc : Fin 16) (num : BitVec 16) :
    (State.openFrames s p vc num).pending = s.pending ∧ (State.openFrames s p vc num).identity = s.identity ∧ (State.openFrames s p vc num).aon = s.aon ∧ (State.openFrames s p vc num).pins = s.pins ∧ (State.openFrames s p vc num).phase = s.phase ∧ (State.openFrames s p vc num).boot = s.boot ∧ (State.openFrames s p vc num).sys = s.sys ∧ (State.openFrames s p vc num).balls = s.balls ∧ (State.openFrames s p vc num).shadow = s.shadow ∧ (State.openFrames s p vc num).trowels = s.trowels ∧ (State.openFrames s p vc num).faulted = s.faulted ∧ (State.openFrames s p vc num).bb = s.bb ∧ (State.openFrames s p vc num).tap = s.tap ∧ (State.openFrames s p vc num).time = s.time ∧ (State.openFrames s p vc num).thermal = s.thermal ∧ (State.openFrames s p vc num).light = s.light ∧ (State.openFrames s p vc num).adcA = s.adcA ∧ (State.openFrames s p vc num).adcB = s.adcB ∧ (State.openFrames s p vc num).amb = s.amb ∧ (State.openFrames s p vc num).pipe = s.pipe ∧ (State.openFrames s p vc num).ctxs = s.ctxs ∧ (State.openFrames s p vc num).dec = s.dec ∧ (State.openFrames s p vc num).vs = s.vs ∧ (State.openFrames s p vc num).former = s.former ∧ (State.openFrames s p vc num).usb = s.usb ∧ (State.openFrames s p vc num).ser = s.ser ∧ (State.openFrames s p vc num).pair = s.pair ∧ (State.openFrames s p vc num).fab = s.fab ∧ (State.openFrames s p vc num).fresh = s.fresh := by
  first
  | (unfold State.openFrames; simp; done)
  | (unfold State.openFrames; (try dsimp only); (repeat' split) <;> (first | rfl | (simp; done) | (simp_all; done) | (try simp)))
theorem execFrameStartPacket_frame (p : PortId) (vc : Fin 16) (num : BitVec 16) (corrected : Bool) (s : State) :
    ∃ u, execFrameStartPacket p vc num corrected s = .next u ∧
    u.pending = s.pending ∧ u.identity = s.identity ∧ u.aon = s.aon ∧ u.pins = s.pins ∧ u.phase = s.phase ∧ u.boot = s.boot ∧ u.sys = s.sys ∧ u.balls = s.balls ∧ u.shadow = s.shadow ∧ u.trowels = s.trowels ∧ u.faulted = s.faulted ∧ u.bb = s.bb ∧ u.tap = s.tap ∧ u.time = s.time ∧ u.thermal = s.thermal ∧ u.light = s.light ∧ u.adcA = s.adcA ∧ u.adcB = s.adcB ∧ u.amb = s.amb ∧ u.pipe = s.pipe ∧ u.ctxs = s.ctxs ∧ u.dec = s.dec ∧ u.vs = s.vs ∧ u.former = s.former ∧ u.usb = s.usb ∧ u.ser = s.ser ∧ u.pair = s.pair ∧ u.fab = s.fab ∧ u.fresh = s.fresh := by
  refine ⟨_, rfl, ?_⟩
  first
  | (simp; done)
  | ((try simp only [State.whenRun, State.access, State.packet]); (repeat' split) <;> (first | rfl | (simp; done) | (simp_all; done) | (try simp)))
@[simp] theorem State.frameEnd_frame (s : State) (p : PortId) (vc : Fin 16) :
    (State.frameEnd s p vc).pending = s.pending ∧ (State.frameEnd s p vc).identity = s.identity ∧ (State.frameEnd s p vc).aon = s.aon ∧ (State.frameEnd s p vc).pins = s.pins ∧ (State.frameEnd s p vc).phase = s.phase ∧ (State.frameEnd s p vc).boot = s.boot ∧ (State.frameEnd s p vc).sys = s.sys ∧ (State.frameEnd s p vc).balls = s.balls ∧ (State.frameEnd s p vc).shadow = s.shadow ∧ (State.frameEnd s p vc).trowels = s.trowels ∧ (State.frameEnd s p vc).faulted = s.faulted ∧ (State.frameEnd s p vc).bb = s.bb ∧ (State.frameEnd s p vc).tap = s.tap ∧ (State.frameEnd s p vc).time = s.time ∧ (State.frameEnd s p vc).thermal = s.thermal ∧ (State.frameEnd s p vc).light = s.light ∧ (State.frameEnd s p vc).adcA = s.adcA ∧ (State.frameEnd s p vc).adcB = s.adcB ∧ (State.frameEnd s p vc).amb = s.amb ∧ (State.frameEnd s p vc).frames = s.frames ∧ (State.frameEnd s p vc).nextFrame = s.nextFrame ∧ (State.frameEnd s p vc).pipe = s.pipe ∧ (State.frameEnd s p vc).ctxs = s.ctxs ∧ (State.frameEnd s p vc).dec = s.dec ∧ (State.frameEnd s p vc).vs = s.vs ∧ (State.frameEnd s p vc).former = s.former ∧ (State.frameEnd s p vc).usb = s.usb ∧ (State.frameEnd s p vc).ser = s.ser ∧ (State.frameEnd s p vc).pair = s.pair ∧ (State.frameEnd s p vc).fab = s.fab ∧ (State.frameEnd s p vc).fresh = s.fresh := by
  first
  | (unfold State.frameEnd; simp; done)
  | (unfold State.frameEnd; (try dsimp only); (repeat' split) <;> (first | rfl | (simp; done) | (simp_all; done) | (try simp)))
theorem execFrameEndPacket_frame (p : PortId) (vc : Fin 16) (corrected : Bool) (s : State) :
    ∃ u, execFrameEndPacket p vc corrected s = .next u ∧
    u.pending = s.pending ∧ u.identity = s.identity ∧ u.aon = s.aon ∧ u.pins = s.pins ∧ u.phase = s.phase ∧ u.boot = s.boot ∧ u.sys = s.sys ∧ u.balls = s.balls ∧ u.shadow = s.shadow ∧ u.trowels = s.trowels ∧ u.faulted = s.faulted ∧ u.bb = s.bb ∧ u.tap = s.tap ∧ u.time = s.time ∧ u.thermal = s.thermal ∧ u.light = s.light ∧ u.adcA = s.adcA ∧ u.adcB = s.adcB ∧ u.amb = s.amb ∧ u.frames = s.frames ∧ u.nextFrame = s.nextFrame ∧ u.pipe = s.pipe ∧ u.ctxs = s.ctxs ∧ u.dec = s.dec ∧ u.vs = s.vs ∧ u.former = s.former ∧ u.usb = s.usb ∧ u.ser = s.ser ∧ u.pair = s.pair ∧ u.fab = s.fab ∧ u.fresh = s.fresh := by
  refine ⟨_, rfl, ?_⟩
  first
  | (simp; done)
  | ((try simp only [State.whenRun, State.access, State.packet]); (repeat' split) <;> (first | rfl | (simp; done) | (simp_all; done) | (try simp)))
@[simp] theorem State.overload_frame (s : State) (p : PortId) (id : Nat) :
    (State.overload s p id).pending = s.pending ∧ (State.overload s p id).identity = s.identity ∧ (State.overload s p id).aon = s.aon ∧ (State.overload s p id).pins = s.pins ∧ (State.overload s p id).phase = s.phase ∧ (State.overload s p id).boot = s.boot ∧ (State.overload s p id).sys = s.sys ∧ (State.overload s p id).balls = s.balls ∧ (State.overload s p id).shadow = s.shadow ∧ (State.overload s p id).trowels = s.trowels ∧ (State.overload s p id).faulted = s.faulted ∧ (State.overload s p id).bb = s.bb ∧ (State.overload s p id).tap = s.tap ∧ (State.overload s p id).time = s.time ∧ (State.overload s p id).thermal = s.thermal ∧ (State.overload s p id).light = s.light ∧ (State.overload s p id).adcA = s.adcA ∧ (State.overload s p id).adcB = s.adcB ∧ (State.overload s p id).amb = s.amb ∧ (State.overload s p id).nextFrame = s.nextFrame ∧ (State.overload s p id).pipe = s.pipe ∧ (State.overload s p id).ctxs = s.ctxs ∧ (State.overload s p id).dec = s.dec ∧ (State.overload s p id).vs = s.vs ∧ (State.overload s p id).former = s.former ∧ (State.overload s p id).usb = s.usb ∧ (State.overload s p id).ser = s.ser ∧ (State.overload s p id).pair = s.pair ∧ (State.overload s p id).fab = s.fab ∧ (State.overload s p id).fresh = s.fresh := by
  first
  | (unfold State.overload; simp; done)
  | (unfold State.overload; (try dsimp only); (repeat' split) <;> (first | rfl | (simp; done) | (simp_all; done) | (try simp)))
@[simp] theorem State.takeLine_frame (s : State) (p : PortId) (f : Frame) (b g m : Nat) (x : LongPacket) :
    (State.takeLine s p f b g m x).pending = s.pending ∧ (State.takeLine s p f b g m x).identity = s.identity ∧ (State.takeLine s p f b g m x).aon = s.aon ∧ (State.takeLine s p f b g m x).pins = s.pins ∧ (State.takeLine s p f b g m x).phase = s.phase ∧ (State.takeLine s p f b g m x).boot = s.boot ∧ (State.takeLine s p f b g m x).sys = s.sys ∧ (State.takeLine s p f b g m x).balls = s.balls ∧ (State.takeLine s p f b g m x).shadow = s.shadow ∧ (State.takeLine s p f b g m x).trowels = s.trowels ∧ (State.takeLine s p f b g m x).faulted = s.faulted ∧ (State.takeLine s p f b g m x).bb = s.bb ∧ (State.takeLine s p f b g m x).tap = s.tap ∧ (State.takeLine s p f b g m x).time = s.time ∧ (State.takeLine s p f b g m x).thermal = s.thermal ∧ (State.takeLine s p f b g m x).light = s.light ∧ (State.takeLine s p f b g m x).adcA = s.adcA ∧ (State.takeLine s p f b g m x).adcB = s.adcB ∧ (State.takeLine s p f b g m x).amb = s.amb ∧ (State.takeLine s p f b g m x).nextFrame = s.nextFrame ∧ (State.takeLine s p f b g m x).pipe = s.pipe ∧ (State.takeLine s p f b g m x).ctxs = s.ctxs ∧ (State.takeLine s p f b g m x).dec = s.dec ∧ (State.takeLine s p f b g m x).vs = s.vs ∧ (State.takeLine s p f b g m x).former = s.former ∧ (State.takeLine s p f b g m x).usb = s.usb ∧ (State.takeLine s p f b g m x).ser = s.ser ∧ (State.takeLine s p f b g m x).pair = s.pair ∧ (State.takeLine s p f b g m x).fab = s.fab ∧ (State.takeLine s p f b g m x).fresh = s.fresh := by
  first
  | (unfold State.takeLine; simp; done)
  | (unfold State.takeLine; (try dsimp only); (repeat' split) <;> (first | rfl | (simp; done) | (simp_all; done) | (try simp)))
@[simp] theorem State.pixels_frame (s : State) (p : PortId) (x : LongPacket) :
    (State.pixels s p x).pending = s.pending ∧ (State.pixels s p x).identity = s.identity ∧ (State.pixels s p x).aon = s.aon ∧ (State.pixels s p x).pins = s.pins ∧ (State.pixels s p x).phase = s.phase ∧ (State.pixels s p x).boot = s.boot ∧ (State.pixels s p x).sys = s.sys ∧ (State.pixels s p x).balls = s.balls ∧ (State.pixels s p x).shadow = s.shadow ∧ (State.pixels s p x).trowels = s.trowels ∧ (State.pixels s p x).faulted = s.faulted ∧ (State.pixels s p x).bb = s.bb ∧ (State.pixels s p x).tap = s.tap ∧ (State.pixels s p x).time = s.time ∧ (State.pixels s p x).thermal = s.thermal ∧ (State.pixels s p x).light = s.light ∧ (State.pixels s p x).adcA = s.adcA ∧ (State.pixels s p x).adcB = s.adcB ∧ (State.pixels s p x).amb = s.amb ∧ (State.pixels s p x).nextFrame = s.nextFrame ∧ (State.pixels s p x).pipe = s.pipe ∧ (State.pixels s p x).ctxs = s.ctxs ∧ (State.pixels s p x).dec = s.dec ∧ (State.pixels s p x).vs = s.vs ∧ (State.pixels s p x).former = s.former ∧ (State.pixels s p x).usb = s.usb ∧ (State.pixels s p x).ser = s.ser ∧ (State.pixels s p x).pair = s.pair ∧ (State.pixels s p x).fab = s.fab ∧ (State.pixels s p x).fresh = s.fresh := by
  first
  | (unfold State.pixels; simp; done)
  | (unfold State.pixels; (try dsimp only); (repeat' split) <;> (first | rfl | (simp; done) | (simp_all; done) | (try simp)))
theorem execPixelPacket_frame (p : PortId) (x : LongPacket) (s : State) :
    ∃ u, execPixelPacket p x s = .next u ∧
    u.pending = s.pending ∧ u.identity = s.identity ∧ u.aon = s.aon ∧ u.pins = s.pins ∧ u.phase = s.phase ∧ u.boot = s.boot ∧ u.sys = s.sys ∧ u.balls = s.balls ∧ u.shadow = s.shadow ∧ u.trowels = s.trowels ∧ u.faulted = s.faulted ∧ u.bb = s.bb ∧ u.tap = s.tap ∧ u.time = s.time ∧ u.thermal = s.thermal ∧ u.light = s.light ∧ u.adcA = s.adcA ∧ u.adcB = s.adcB ∧ u.amb = s.amb ∧ u.nextFrame = s.nextFrame ∧ u.pipe = s.pipe ∧ u.ctxs = s.ctxs ∧ u.dec = s.dec ∧ u.vs = s.vs ∧ u.former = s.former ∧ u.usb = s.usb ∧ u.ser = s.ser ∧ u.pair = s.pair ∧ u.fab = s.fab ∧ u.fresh = s.fresh := by
  refine ⟨_, rfl, ?_⟩
  first
  | (simp; done)
  | ((try simp only [State.whenRun, State.access, State.packet]); (repeat' split) <;> (first | rfl | (simp; done) | (simp_all; done) | (try simp)))
@[simp] theorem State.takeEmbedded_frame (s : State) (p : PortId) (ids : List Nat) (x : LongPacket) :
    (State.takeEmbedded s p ids x).pending = s.pending ∧ (State.takeEmbedded s p ids x).identity = s.identity ∧ (State.takeEmbedded s p ids x).aon = s.aon ∧ (State.takeEmbedded s p ids x).pins = s.pins ∧ (State.takeEmbedded s p ids x).phase = s.phase ∧ (State.takeEmbedded s p ids x).boot = s.boot ∧ (State.takeEmbedded s p ids x).sys = s.sys ∧ (State.takeEmbedded s p ids x).balls = s.balls ∧ (State.takeEmbedded s p ids x).shadow = s.shadow ∧ (State.takeEmbedded s p ids x).trowels = s.trowels ∧ (State.takeEmbedded s p ids x).faulted = s.faulted ∧ (State.takeEmbedded s p ids x).bb = s.bb ∧ (State.takeEmbedded s p ids x).tap = s.tap ∧ (State.takeEmbedded s p ids x).time = s.time ∧ (State.takeEmbedded s p ids x).thermal = s.thermal ∧ (State.takeEmbedded s p ids x).light = s.light ∧ (State.takeEmbedded s p ids x).adcA = s.adcA ∧ (State.takeEmbedded s p ids x).adcB = s.adcB ∧ (State.takeEmbedded s p ids x).amb = s.amb ∧ (State.takeEmbedded s p ids x).nextFrame = s.nextFrame ∧ (State.takeEmbedded s p ids x).pipe = s.pipe ∧ (State.takeEmbedded s p ids x).ctxs = s.ctxs ∧ (State.takeEmbedded s p ids x).dec = s.dec ∧ (State.takeEmbedded s p ids x).vs = s.vs ∧ (State.takeEmbedded s p ids x).former = s.former ∧ (State.takeEmbedded s p ids x).usb = s.usb ∧ (State.takeEmbedded s p ids x).ser = s.ser ∧ (State.takeEmbedded s p ids x).pair = s.pair ∧ (State.takeEmbedded s p ids x).fab = s.fab ∧ (State.takeEmbedded s p ids x).fresh = s.fresh := by
  first
  | (unfold State.takeEmbedded; simp; done)
  | (unfold State.takeEmbedded; (try dsimp only); (repeat' split) <;> (first | rfl | (simp; done) | (simp_all; done) | (try simp)))
@[simp] theorem State.embedded_frame (s : State) (p : PortId) (x : LongPacket) :
    (State.embedded s p x).pending = s.pending ∧ (State.embedded s p x).identity = s.identity ∧ (State.embedded s p x).aon = s.aon ∧ (State.embedded s p x).pins = s.pins ∧ (State.embedded s p x).phase = s.phase ∧ (State.embedded s p x).boot = s.boot ∧ (State.embedded s p x).sys = s.sys ∧ (State.embedded s p x).balls = s.balls ∧ (State.embedded s p x).shadow = s.shadow ∧ (State.embedded s p x).trowels = s.trowels ∧ (State.embedded s p x).faulted = s.faulted ∧ (State.embedded s p x).bb = s.bb ∧ (State.embedded s p x).tap = s.tap ∧ (State.embedded s p x).time = s.time ∧ (State.embedded s p x).thermal = s.thermal ∧ (State.embedded s p x).light = s.light ∧ (State.embedded s p x).adcA = s.adcA ∧ (State.embedded s p x).adcB = s.adcB ∧ (State.embedded s p x).amb = s.amb ∧ (State.embedded s p x).nextFrame = s.nextFrame ∧ (State.embedded s p x).pipe = s.pipe ∧ (State.embedded s p x).ctxs = s.ctxs ∧ (State.embedded s p x).dec = s.dec ∧ (State.embedded s p x).vs = s.vs ∧ (State.embedded s p x).former = s.former ∧ (State.embedded s p x).usb = s.usb ∧ (State.embedded s p x).ser = s.ser ∧ (State.embedded s p x).pair = s.pair ∧ (State.embedded s p x).fab = s.fab ∧ (State.embedded s p x).fresh = s.fresh := by
  first
  | (unfold State.embedded; simp; done)
  | (unfold State.embedded; (try dsimp only); (repeat' split) <;> (first | rfl | (simp; done) | (simp_all; done) | (try simp)))
theorem execEmbeddedPacket_frame (p : PortId) (x : LongPacket) (s : State) :
    ∃ u, execEmbeddedPacket p x s = .next u ∧
    u.pending = s.pending ∧ u.identity = s.identity ∧ u.aon = s.aon ∧ u.pins = s.pins ∧ u.phase = s.phase ∧ u.boot = s.boot ∧ u.sys = s.sys ∧ u.balls = s.balls ∧ u.shadow = s.shadow ∧ u.trowels = s.trowels ∧ u.faulted = s.faulted ∧ u.bb = s.bb ∧ u.tap = s.tap ∧ u.time = s.time ∧ u.thermal = s.thermal ∧ u.light = s.light ∧ u.adcA = s.adcA ∧ u.adcB = s.adcB ∧ u.amb = s.amb ∧ u.nextFrame = s.nextFrame ∧ u.pipe = s.pipe ∧ u.ctxs = s.ctxs ∧ u.dec = s.dec ∧ u.vs = s.vs ∧ u.former = s.former ∧ u.usb = s.usb ∧ u.ser = s.ser ∧ u.pair = s.pair ∧ u.fab = s.fab ∧ u.fresh = s.fresh := by
  refine ⟨_, rfl, ?_⟩
  first
  | (simp; done)
  | ((try simp only [State.whenRun, State.access, State.packet]); (repeat' split) <;> (first | rfl | (simp; done) | (simp_all; done) | (try simp)))
theorem execHeaderUncorrectable_frame (p : PortId) (sync : Bool) (s : State) :
    ∃ u, execHeaderUncorrectable p sync s = .next u ∧
    u.pending = s.pending ∧ u.identity = s.identity ∧ u.aon = s.aon ∧ u.pins = s.pins ∧ u.phase = s.phase ∧ u.boot = s.boot ∧ u.sys = s.sys ∧ u.balls = s.balls ∧ u.shadow = s.shadow ∧ u.trowels = s.trowels ∧ u.faulted = s.faulted ∧ u.bb = s.bb ∧ u.tap = s.tap ∧ u.time = s.time ∧ u.thermal = s.thermal ∧ u.light = s.light ∧ u.adcA = s.adcA ∧ u.adcB = s.adcB ∧ u.amb = s.amb ∧ u.ports = s.ports ∧ u.nextFrame = s.nextFrame ∧ u.pipe = s.pipe ∧ u.ctxs = s.ctxs ∧ u.dec = s.dec ∧ u.vs = s.vs ∧ u.former = s.former ∧ u.usb = s.usb ∧ u.ser = s.ser ∧ u.pair = s.pair ∧ u.fab = s.fab ∧ u.fresh = s.fresh := by
  refine ⟨_, rfl, ?_⟩
  first
  | (simp; done)
  | ((try simp only [State.whenRun, State.access, State.packet]); (repeat' split) <;> (first | rfl | (simp; done) | (simp_all; done) | (try simp)))
theorem execDeskewBurst_frame (p : PortId) (s : State) :
    ∃ u, execDeskewBurst p s = .next u ∧
    u.pending = s.pending ∧ u.identity = s.identity ∧ u.aon = s.aon ∧ u.pins = s.pins ∧ u.phase = s.phase ∧ u.boot = s.boot ∧ u.sys = s.sys ∧ u.balls = s.balls ∧ u.shadow = s.shadow ∧ u.trowels = s.trowels ∧ u.faulted = s.faulted ∧ u.bb = s.bb ∧ u.tap = s.tap ∧ u.time = s.time ∧ u.thermal = s.thermal ∧ u.light = s.light ∧ u.adcA = s.adcA ∧ u.adcB = s.adcB ∧ u.amb = s.amb ∧ u.frames = s.frames ∧ u.nextFrame = s.nextFrame ∧ u.pipe = s.pipe ∧ u.ctxs = s.ctxs ∧ u.dec = s.dec ∧ u.vs = s.vs ∧ u.former = s.former ∧ u.usb = s.usb ∧ u.ser = s.ser ∧ u.pair = s.pair ∧ u.fab = s.fab ∧ u.fresh = s.fresh := by
  refine ⟨_, rfl, ?_⟩
  first
  | (simp; done)
  | ((try simp only [State.whenRun, State.access, State.packet]); (repeat' split) <;> (first | rfl | (simp; done) | (simp_all; done) | (try simp)))
theorem execCsiReceiverReady_frame (p : PortId) (s : State) :
    ∃ u, execCsiReceiverReady p s = .next u ∧
    u.pending = s.pending ∧ u.identity = s.identity ∧ u.aon = s.aon ∧ u.pins = s.pins ∧ u.phase = s.phase ∧ u.boot = s.boot ∧ u.sys = s.sys ∧ u.balls = s.balls ∧ u.fields = s.fields ∧ u.shadow = s.shadow ∧ u.trowels = s.trowels ∧ u.faulted = s.faulted ∧ u.bb = s.bb ∧ u.tap = s.tap ∧ u.time = s.time ∧ u.thermal = s.thermal ∧ u.light = s.light ∧ u.adcA = s.adcA ∧ u.adcB = s.adcB ∧ u.amb = s.amb ∧ u.frames = s.frames ∧ u.nextFrame = s.nextFrame ∧ u.pipe = s.pipe ∧ u.ctxs = s.ctxs ∧ u.dec = s.dec ∧ u.vs = s.vs ∧ u.former = s.former ∧ u.usb = s.usb ∧ u.ser = s.ser ∧ u.pair = s.pair ∧ u.fab = s.fab ∧ u.fresh = s.fresh := by
  refine ⟨_, rfl, ?_⟩
  first
  | (simp; done)
  | ((try simp only [State.whenRun, State.access, State.packet]); (repeat' split) <;> (first | rfl | (simp; done) | (simp_all; done) | (try simp)))
theorem execClockLaneStateChange_frame (p : PortId) (lane : Fin 5) (lines : LaneLines) (s : State) :
    ∃ u, execClockLaneStateChange p lane lines s = .next u ∧
    u.pending = s.pending ∧ u.identity = s.identity ∧ u.aon = s.aon ∧ u.pins = s.pins ∧ u.phase = s.phase ∧ u.boot = s.boot ∧ u.sys = s.sys ∧ u.balls = s.balls ∧ u.fields = s.fields ∧ u.shadow = s.shadow ∧ u.trowels = s.trowels ∧ u.faulted = s.faulted ∧ u.bb = s.bb ∧ u.tap = s.tap ∧ u.time = s.time ∧ u.thermal = s.thermal ∧ u.light = s.light ∧ u.adcA = s.adcA ∧ u.adcB = s.adcB ∧ u.amb = s.amb ∧ u.frames = s.frames ∧ u.nextFrame = s.nextFrame ∧ u.pipe = s.pipe ∧ u.ctxs = s.ctxs ∧ u.dec = s.dec ∧ u.vs = s.vs ∧ u.former = s.former ∧ u.usb = s.usb ∧ u.ser = s.ser ∧ u.pair = s.pair ∧ u.fab = s.fab ∧ u.fresh = s.fresh := by
  refine ⟨_, rfl, ?_⟩
  first
  | (simp; done)
  | ((try simp only [State.whenRun, State.access, State.packet]); (repeat' split) <;> (first | rfl | (simp; done) | (simp_all; done) | (try simp)))
@[simp] theorem State.lapAtIndex_frame (s : State) (k : CtxId) (a : BitVec 14) :
    (State.lapAtIndex s k a).pending = s.pending ∧ (State.lapAtIndex s k a).identity = s.identity ∧ (State.lapAtIndex s k a).aon = s.aon ∧ (State.lapAtIndex s k a).pins = s.pins ∧ (State.lapAtIndex s k a).phase = s.phase ∧ (State.lapAtIndex s k a).boot = s.boot ∧ (State.lapAtIndex s k a).sys = s.sys ∧ (State.lapAtIndex s k a).balls = s.balls ∧ (State.lapAtIndex s k a).shadow = s.shadow ∧ (State.lapAtIndex s k a).trowels = s.trowels ∧ (State.lapAtIndex s k a).faulted = s.faulted ∧ (State.lapAtIndex s k a).tap = s.tap ∧ (State.lapAtIndex s k a).time = s.time ∧ (State.lapAtIndex s k a).thermal = s.thermal ∧ (State.lapAtIndex s k a).light = s.light ∧ (State.lapAtIndex s k a).adcA = s.adcA ∧ (State.lapAtIndex s k a).adcB = s.adcB ∧ (State.lapAtIndex s k a).amb = s.amb ∧ (State.lapAtIndex s k a).ports = s.ports ∧ (State.lapAtIndex s k a).frames = s.frames ∧ (State.lapAtIndex s k a).nextFrame = s.nextFrame ∧ (State.lapAtIndex s k a).pipe = s.pipe ∧ (State.lapAtIndex s k a).ctxs = s.ctxs ∧ (State.lapAtIndex s k a).dec = s.dec ∧ (State.lapAtIndex s k a).former = s.former ∧ (State.lapAtIndex s k a).usb = s.usb ∧ (State.lapAtIndex s k a).ser = s.ser ∧ (State.lapAtIndex s k a).pair = s.pair ∧ (State.lapAtIndex s k a).fab = s.fab ∧ (State.lapAtIndex s k a).fresh = s.fresh := by
  first
  | (unfold State.lapAtIndex; simp; done)
  | (unfold State.lapAtIndex; (try dsimp only); (repeat' split) <;> (first | rfl | (simp; done) | (simp_all; done) | (try simp)))
@[simp] theorem State.indexFrame_frame (s : State) (id : Nat) :
    (State.indexFrame s id).pending = s.pending ∧ (State.indexFrame s id).identity = s.identity ∧ (State.indexFrame s id).aon = s.aon ∧ (State.indexFrame s id).pins = s.pins ∧ (State.indexFrame s id).phase = s.phase ∧ (State.indexFrame s id).boot = s.boot ∧ (State.indexFrame s id).sys = s.sys ∧ (State.indexFrame s id).balls = s.balls ∧ (State.indexFrame s id).shadow = s.shadow ∧ (State.indexFrame s id).trowels = s.trowels ∧ (State.indexFrame s id).faulted = s.faulted ∧ (State.indexFrame s id).tap = s.tap ∧ (State.indexFrame s id).time = s.time ∧ (State.indexFrame s id).thermal = s.thermal ∧ (State.indexFrame s id).light = s.light ∧ (State.indexFrame s id).adcA = s.adcA ∧ (State.indexFrame s id).adcB = s.adcB ∧ (State.indexFrame s id).amb = s.amb ∧ (State.indexFrame s id).ports = s.ports ∧ (State.indexFrame s id).nextFrame = s.nextFrame ∧ (State.indexFrame s id).pipe = s.pipe ∧ (State.indexFrame s id).dec = s.dec ∧ (State.indexFrame s id).former = s.former ∧ (State.indexFrame s id).usb = s.usb ∧ (State.indexFrame s id).ser = s.ser ∧ (State.indexFrame s id).pair = s.pair ∧ (State.indexFrame s id).fab = s.fab ∧ (State.indexFrame s id).fresh = s.fresh := by
  first
  | (unfold State.indexFrame; simp; done)
  | (unfold State.indexFrame; (try dsimp only); (repeat' split) <;> (first | rfl | (simp; done) | (simp_all; done) | (try simp)))
@[simp] theorem State.stampFrame_frame (s : State) (ts id : Nat) :
    (State.stampFrame s ts id).pending = s.pending ∧ (State.stampFrame s ts id).identity = s.identity ∧ (State.stampFrame s ts id).aon = s.aon ∧ (State.stampFrame s ts id).pins = s.pins ∧ (State.stampFrame s ts id).phase = s.phase ∧ (State.stampFrame s ts id).boot = s.boot ∧ (State.stampFrame s ts id).sys = s.sys ∧ (State.stampFrame s ts id).balls = s.balls ∧ (State.stampFrame s ts id).fields = s.fields ∧ (State.stampFrame s ts id).shadow = s.shadow ∧ (State.stampFrame s ts id).trowels = s.trowels ∧ (State.stampFrame s ts id).faulted = s.faulted ∧ (State.stampFrame s ts id).bb = s.bb ∧ (State.stampFrame s ts id).tap = s.tap ∧ (State.stampFrame s ts id).time = s.time ∧ (State.stampFrame s ts id).thermal = s.thermal ∧ (State.stampFrame s ts id).light = s.light ∧ (State.stampFrame s ts id).adcA = s.adcA ∧ (State.stampFrame s ts id).adcB = s.adcB ∧ (State.stampFrame s ts id).amb = s.amb ∧ (State.stampFrame s ts id).ports = s.ports ∧ (State.stampFrame s ts id).nextFrame = s.nextFrame ∧ (State.stampFrame s ts id).pipe = s.pipe ∧ (State.stampFrame s ts id).ctxs = s.ctxs ∧ (State.stampFrame s ts id).dec = s.dec ∧ (State.stampFrame s ts id).vs = s.vs ∧ (State.stampFrame s ts id).former = s.former ∧ (State.stampFrame s ts id).usb = s.usb ∧ (State.stampFrame s ts id).ser = s.ser ∧ (State.stampFrame s ts id).pair = s.pair ∧ (State.stampFrame s ts id).fab = s.fab ∧ (State.stampFrame s ts id).fresh = s.fresh := by
  first
  | (unfold State.stampFrame; simp; done)
  | (unfold State.stampFrame; (try dsimp only); (repeat' split) <;> (first | rfl | (simp; done) | (simp_all; done) | (try simp)))
theorem execFrameDescriptorInCore_frame (p : PortId) (mbps : Nat) (s : State) :
    ∃ u, execFrameDescriptorInCore p s mbps = .next u ∧
    u.pending = s.pending ∧ u.identity = s.identity ∧ u.aon = s.aon ∧ u.pins = s.pins ∧ u.phase = s.phase ∧ u.boot = s.boot ∧ u.sys = s.sys ∧ u.balls = s.balls ∧ u.shadow = s.shadow ∧ u.trowels = s.trowels ∧ u.faulted = s.faulted ∧ u.tap = s.tap ∧ u.time = s.time ∧ u.thermal = s.thermal ∧ u.light = s.light ∧ u.adcA = s.adcA ∧ u.adcB = s.adcB ∧ u.amb = s.amb ∧ u.nextFrame = s.nextFrame ∧ u.pipe = s.pipe ∧ u.dec = s.dec ∧ u.former = s.former ∧ u.usb = s.usb ∧ u.ser = s.ser ∧ u.pair = s.pair ∧ u.fab = s.fab ∧ u.fresh = s.fresh := by
  refine ⟨_, rfl, ?_⟩
  first
  | (simp; done)
  | ((try simp only [State.whenRun, State.access, State.packet]); (repeat' split) <;> (first | rfl | (simp; done) | (simp_all; done) | (try simp)))
theorem execFrameEndTimeout_frame (k : CtxId) (s : State) :
    ∃ u, execFrameEndTimeout k s = .next u ∧
    u.pending = s.pending ∧ u.identity = s.identity ∧ u.aon = s.aon ∧ u.pins = s.pins ∧ u.phase = s.phase ∧ u.boot = s.boot ∧ u.sys = s.sys ∧ u.balls = s.balls ∧ u.shadow = s.shadow ∧ u.trowels = s.trowels ∧ u.faulted = s.faulted ∧ u.bb = s.bb ∧ u.tap = s.tap ∧ u.time = s.time ∧ u.thermal = s.thermal ∧ u.light = s.light ∧ u.adcA = s.adcA ∧ u.adcB = s.adcB ∧ u.amb = s.amb ∧ u.nextFrame = s.nextFrame ∧ u.pipe = s.pipe ∧ u.ctxs = s.ctxs ∧ u.dec = s.dec ∧ u.vs = s.vs ∧ u.former = s.former ∧ u.usb = s.usb ∧ u.ser = s.ser ∧ u.pair = s.pair ∧ u.fab = s.fab ∧ u.fresh = s.fresh := by
  refine ⟨_, rfl, ?_⟩
  first
  | (simp; done)
  | ((try simp only [State.whenRun, State.access, State.packet]); (repeat' split) <;> (first | rfl | (simp; done) | (simp_all; done) | (try simp)))
end Sys2Proof.Machine
end

