-- ==== Sys2Proof/Laws/FramePipe.lean ====
section
/-! SUPPORT. Frames: which parts of the state each operation of Machine/Pipe leaves as they were. -/

namespace Sys2Proof.Machine
@[simp] theorem State.tapPush_frame (s : State) (f : Frame) (b : List Byte) :
    (State.tapPush s f b).pending = s.pending ∧ (State.tapPush s f b).identity = s.identity ∧ (State.tapPush s f b).aon = s.aon ∧ (State.tapPush s f b).pins = s.pins ∧ (State.tapPush s f b).phase = s.phase ∧ (State.tapPush s f b).boot = s.boot ∧ (State.tapPush s f b).sys = s.sys ∧ (State.tapPush s f b).balls = s.balls ∧ (State.tapPush s f b).shadow = s.shadow ∧ (State.tapPush s f b).trowels = s.trowels ∧ (State.tapPush s f b).faulted = s.faulted ∧ (State.tapPush s f b).bb = s.bb ∧ (State.tapPush s f b).tap = s.tap ∧ (State.tapPush s f b).time = s.time ∧ (State.tapPush s f b).thermal = s.thermal ∧ (State.tapPush s f b).light = s.light ∧ (State.tapPush s f b).adcA = s.adcA ∧ (State.tapPush s f b).adcB = s.adcB ∧ (State.tapPush s f b).amb = s.amb ∧ (State.tapPush s f b).ports = s.ports ∧ (State.tapPush s f b).frames = s.frames ∧ (State.tapPush s f b).nextFrame = s.nextFrame ∧ (State.tapPush s f b).pipe = s.pipe ∧ (State.tapPush s f b).ctxs = s.ctxs ∧ (State.tapPush s f b).dec = s.dec ∧ (State.tapPush s f b).vs = s.vs ∧ (State.tapPush s f b).former = s.former ∧ (State.tapPush s f b).ser = s.ser ∧ (State.tapPush s f b).pair = s.pair ∧ (State.tapPush s f b).fresh = s.fresh := by
  first
  | (unfold State.tapPush; simp; done)
  | (unfold State.tapPush; (try dsimp only); (repeat' split) <;> (first | rfl | (simp; done) | (simp_all; done) | (try simp)))
@[simp] theorem State.tapCut_frame (s : State) (id : Nat) :
    (State.tapCut s id).pending = s.pending ∧ (State.tapCut s id).identity = s.identity ∧ (State.tapCut s id).aon = s.aon ∧ (State.tapCut s id).pins = s.pins ∧ (State.tapCut s id).phase = s.phase ∧ (State.tapCut s id).boot = s.boot ∧ (State.tapCut s id).sys = s.sys ∧ (State.tapCut s id).balls = s.balls ∧ (State.tapCut s id).shadow = s.shadow ∧ (State.tapCut s id).trowels = s.trowels ∧ (State.tapCut s id).faulted = s.faulted ∧ (State.tapCut s id).bb = s.bb ∧ (State.tapCut s id).tap = s.tap ∧ (State.tapCut s id).time = s.time ∧ (State.tapCut s id).thermal = s.thermal ∧ (State.tapCut s id).light = s.light ∧ (State.tapCut s id).adcA = s.adcA ∧ (State.tapCut s id).adcB = s.adcB ∧ (State.tapCut s id).amb = s.amb ∧ (State.tapCut s id).ports = s.ports ∧ (State.tapCut s id).nextFrame = s.nextFrame ∧ (State.tapCut s id).pipe = s.pipe ∧ (State.tapCut s id).ctxs = s.ctxs ∧ (State.tapCut s id).dec = s.dec ∧ (State.tapCut s id).vs = s.vs ∧ (State.tapCut s id).former = s.former ∧ (State.tapCut s id).ser = s.ser ∧ (State.tapCut s id).pair = s.pair ∧ (State.tapCut s id).fresh = s.fresh := by
  first
  | (unfold State.tapCut; simp; done)
  | (unfold State.tapCut; (try dsimp only); (repeat' split) <;> (first | rfl | (simp; done) | (simp_all; done) | (try simp)))
@[simp] theorem State.tapsGone_frame (s : State) (sel : Option (BitVec 6) → Bool) :
    (State.tapsGone s sel).pending = s.pending ∧ (State.tapsGone s sel).identity = s.identity ∧ (State.tapsGone s sel).aon = s.aon ∧ (State.tapsGone s sel).pins = s.pins ∧ (State.tapsGone s sel).phase = s.phase ∧ (State.tapsGone s sel).boot = s.boot ∧ (State.tapsGone s sel).sys = s.sys ∧ (State.tapsGone s sel).balls = s.balls ∧ (State.tapsGone s sel).shadow = s.shadow ∧ (State.tapsGone s sel).trowels = s.trowels ∧ (State.tapsGone s sel).faulted = s.faulted ∧ (State.tapsGone s sel).bb = s.bb ∧ (State.tapsGone s sel).tap = s.tap ∧ (State.tapsGone s sel).time = s.time ∧ (State.tapsGone s sel).thermal = s.thermal ∧ (State.tapsGone s sel).light = s.light ∧ (State.tapsGone s sel).adcA = s.adcA ∧ (State.tapsGone s sel).adcB = s.adcB ∧ (State.tapsGone s sel).amb = s.amb ∧ (State.tapsGone s sel).ports = s.ports ∧ (State.tapsGone s sel).nextFrame = s.nextFrame ∧ (State.tapsGone s sel).pipe = s.pipe ∧ (State.tapsGone s sel).ctxs = s.ctxs ∧ (State.tapsGone s sel).dec = s.dec ∧ (State.tapsGone s sel).vs = s.vs ∧ (State.tapsGone s sel).former = s.former ∧ (State.tapsGone s sel).ser = s.ser ∧ (State.tapsGone s sel).pair = s.pair ∧ (State.tapsGone s sel).fresh = s.fresh := by
  first
  | (unfold State.tapsGone; simp; done)
  | (unfold State.tapsGone; (try dsimp only); (repeat' split) <;> (first | rfl | (simp; done) | (simp_all; done) | (try simp)))
@[simp] theorem State.tapsLost_frame (s : State) (sel : Option (BitVec 6) → Bool) :
    (State.tapsLost s sel).pending = s.pending ∧ (State.tapsLost s sel).identity = s.identity ∧ (State.tapsLost s sel).aon = s.aon ∧ (State.tapsLost s sel).pins = s.pins ∧ (State.tapsLost s sel).phase = s.phase ∧ (State.tapsLost s sel).boot = s.boot ∧ (State.tapsLost s sel).sys = s.sys ∧ (State.tapsLost s sel).balls = s.balls ∧ (State.tapsLost s sel).shadow = s.shadow ∧ (State.tapsLost s sel).trowels = s.trowels ∧ (State.tapsLost s sel).faulted = s.faulted ∧ (State.tapsLost s sel).bb = s.bb ∧ (State.tapsLost s sel).tap = s.tap ∧ (State.tapsLost s sel).time = s.time ∧ (State.tapsLost s sel).thermal = s.thermal ∧ (State.tapsLost s sel).light = s.light ∧ (State.tapsLost s sel).adcA = s.adcA ∧ (State.tapsLost s sel).adcB = s.adcB ∧ (State.tapsLost s sel).amb = s.amb ∧ (State.tapsLost s sel).ports = s.ports ∧ (State.tapsLost s sel).nextFrame = s.nextFrame ∧ (State.tapsLost s sel).pipe = s.pipe ∧ (State.tapsLost s sel).ctxs = s.ctxs ∧ (State.tapsLost s sel).dec = s.dec ∧ (State.tapsLost s sel).vs = s.vs ∧ (State.tapsLost s sel).former = s.former ∧ (State.tapsLost s sel).ser = s.ser ∧ (State.tapsLost s sel).pair = s.pair ∧ (State.tapsLost s sel).fresh = s.fresh := by
  first
  | (unfold State.tapsLost; simp; done)
  | (unfold State.tapsLost; (try dsimp only); (repeat' split) <;> (first | rfl | (simp; done) | (simp_all; done) | (try simp)))
@[simp] theorem State.tapLine_frame (s : State) (id point l : Nat) (px : List Pixel) :
    (State.tapLine s id point l px).pending = s.pending ∧ (State.tapLine s id point l px).identity = s.identity ∧ (State.tapLine s id point l px).aon = s.aon ∧ (State.tapLine s id point l px).pins = s.pins ∧ (State.tapLine s id point l px).phase = s.phase ∧ (State.tapLine s id point l px).boot = s.boot ∧ (State.tapLine s id point l px).sys = s.sys ∧ (State.tapLine s id point l px).balls = s.balls ∧ (State.tapLine s id point l px).shadow = s.shadow ∧ (State.tapLine s id point l px).trowels = s.trowels ∧ (State.tapLine s id point l px).faulted = s.faulted ∧ (State.tapLine s id point l px).bb = s.bb ∧ (State.tapLine s id point l px).tap = s.tap ∧ (State.tapLine s id point l px).time = s.time ∧ (State.tapLine s id point l px).thermal = s.thermal ∧ (State.tapLine s id point l px).light = s.light ∧ (State.tapLine s id point l px).adcA = s.adcA ∧ (State.tapLine s id point l px).adcB = s.adcB ∧ (State.tapLine s id point l px).amb = s.amb ∧ (State.tapLine s id point l px).ports = s.ports ∧ (State.tapLine s id point l px).nextFrame = s.nextFrame ∧ (State.tapLine s id point l px).pipe = s.pipe ∧ (State.tapLine s id point l px).ctxs = s.ctxs ∧ (State.tapLine s id point l px).dec = s.dec ∧ (State.tapLine s id point l px).vs = s.vs ∧ (State.tapLine s id point l px).former = s.former ∧ (State.tapLine s id point l px).ser = s.ser ∧ (State.tapLine s id point l px).pair = s.pair := by
  first
  | (unfold State.tapLine; simp; done)
  | (unfold State.tapLine; (try dsimp only); (repeat' split) <;> (first | rfl | (simp; done) | (simp_all; done) | (try simp)))
@[simp] theorem State.tapEnd_frame (s : State) (id : Nat) :
    (State.tapEnd s id).pending = s.pending ∧ (State.tapEnd s id).identity = s.identity ∧ (State.tapEnd s id).aon = s.aon ∧ (State.tapEnd s id).pins = s.pins ∧ (State.tapEnd s id).phase = s.phase ∧ (State.tapEnd s id).boot = s.boot ∧ (State.tapEnd s id).sys = s.sys ∧ (State.tapEnd s id).balls = s.balls ∧ (State.tapEnd s id).shadow = s.shadow ∧ (State.tapEnd s id).trowels = s.trowels ∧ (State.tapEnd s id).faulted = s.faulted ∧ (State.tapEnd s id).bb = s.bb ∧ (State.tapEnd s id).tap = s.tap ∧ (State.tapEnd s id).time = s.time ∧ (State.tapEnd s id).thermal = s.thermal ∧ (State.tapEnd s id).light = s.light ∧ (State.tapEnd s id).adcA = s.adcA ∧ (State.tapEnd s id).adcB = s.adcB ∧ (State.tapEnd s id).amb = s.amb ∧ (State.tapEnd s id).ports = s.ports ∧ (State.tapEnd s id).nextFrame = s.nextFrame ∧ (State.tapEnd s id).pipe = s.pipe ∧ (State.tapEnd s id).ctxs = s.ctxs ∧ (State.tapEnd s id).dec = s.dec ∧ (State.tapEnd s id).vs = s.vs ∧ (State.tapEnd s id).former = s.former ∧ (State.tapEnd s id).ser = s.ser ∧ (State.tapEnd s id).pair = s.pair ∧ (State.tapEnd s id).fresh = s.fresh := by
  first
  | (unfold State.tapEnd; simp; done)
  | (unfold State.tapEnd; (try dsimp only); (repeat' split) <;> (first | rfl | (simp; done) | (simp_all; done) | (try simp)))
@[simp] theorem State.truncatedEvent_frame (s : State) :
    (State.truncatedEvent s).pending = s.pending ∧ (State.truncatedEvent s).identity = s.identity ∧ (State.truncatedEvent s).aon = s.aon ∧ (State.truncatedEvent s).pins = s.pins ∧ (State.truncatedEvent s).phase = s.phase ∧ (State.truncatedEvent s).boot = s.boot ∧ (State.truncatedEvent s).sys = s.sys ∧ (State.truncatedEvent s).balls = s.balls ∧ (State.truncatedEvent s).fields = s.fields ∧ (State.truncatedEvent s).shadow = s.shadow ∧ (State.truncatedEvent s).faulted = s.faulted ∧ (State.truncatedEvent s).bb = s.bb ∧ (State.truncatedEvent s).tap = s.tap ∧ (State.truncatedEvent s).time = s.time ∧ (State.truncatedEvent s).thermal = s.thermal ∧ (State.truncatedEvent s).light = s.light ∧ (State.truncatedEvent s).adcA = s.adcA ∧ (State.truncatedEvent s).adcB = s.adcB ∧ (State.truncatedEvent s).amb = s.amb ∧ (State.truncatedEvent s).ports = s.ports ∧ (State.truncatedEvent s).frames = s.frames ∧ (State.truncatedEvent s).nextFrame = s.nextFrame ∧ (State.truncatedEvent s).pipe = s.pipe ∧ (State.truncatedEvent s).ctxs = s.ctxs ∧ (State.truncatedEvent s).dec = s.dec ∧ (State.truncatedEvent s).vs = s.vs ∧ (State.truncatedEvent s).former = s.former ∧ (State.truncatedEvent s).usb = s.usb ∧ (State.truncatedEvent s).ser = s.ser ∧ (State.truncatedEvent s).pair = s.pair ∧ (State.truncatedEvent s).fab = s.fab ∧ (State.truncatedEvent s).fresh = s.fresh := by
  first
  | (unfold State.truncatedEvent; simp; done)
  | (unfold State.truncatedEvent; (try dsimp only); (repeat' split) <;> (first | rfl | (simp; done) | (simp_all; done) | (try simp)))
@[simp] theorem State.firstMark_frame (s : State) :
    (State.firstMark s).pending = s.pending ∧ (State.firstMark s).identity = s.identity ∧ (State.firstMark s).aon = s.aon ∧ (State.firstMark s).pins = s.pins ∧ (State.firstMark s).phase = s.phase ∧ (State.firstMark s).boot = s.boot ∧ (State.firstMark s).sys = s.sys ∧ (State.firstMark s).balls = s.balls ∧ (State.firstMark s).fields = s.fields ∧ (State.firstMark s).shadow = s.shadow ∧ (State.firstMark s).trowels = s.trowels ∧ (State.firstMark s).faulted = s.faulted ∧ (State.firstMark s).tap = s.tap ∧ (State.firstMark s).time = s.time ∧ (State.firstMark s).thermal = s.thermal ∧ (State.firstMark s).light = s.light ∧ (State.firstMark s).adcA = s.adcA ∧ (State.firstMark s).adcB = s.adcB ∧ (State.firstMark s).amb = s.amb ∧ (State.firstMark s).ports = s.ports ∧ (State.firstMark s).frames = s.frames ∧ (State.firstMark s).nextFrame = s.nextFrame ∧ (State.firstMark s).pipe = s.pipe ∧ (State.firstMark s).ctxs = s.ctxs ∧ (State.firstMark s).dec = s.dec ∧ (State.firstMark s).vs = s.vs ∧ (State.firstMark s).former = s.former ∧ (State.firstMark s).usb = s.usb ∧ (State.firstMark s).ser = s.ser ∧ (State.firstMark s).pair = s.pair ∧ (State.firstMark s).fab = s.fab ∧ (State.firstMark s).fresh = s.fresh := by
  first
  | (unfold State.firstMark; simp; done)
  | (unfold State.firstMark; (try dsimp only); (repeat' split) <;> (first | rfl | (simp; done) | (simp_all; done) | (try simp)))
@[simp] theorem State.gatherEvidence_frame (s : State) (id : Nat) (closing : Bool) :
    (State.gatherEvidence s id closing).pending = s.pending ∧ (State.gatherEvidence s id closing).identity = s.identity ∧ (State.gatherEvidence s id closing).aon = s.aon ∧ (State.gatherEvidence s id closing).pins = s.pins ∧ (State.gatherEvidence s id closing).phase = s.phase ∧ (State.gatherEvidence s id closing).boot = s.boot ∧ (State.gatherEvidence s id closing).sys = s.sys ∧ (State.gatherEvidence s id closing).balls = s.balls ∧ (State.gatherEvidence s id closing).fields = s.fields ∧ (State.gatherEvidence s id closing).shadow = s.shadow ∧ (State.gatherEvidence s id closing).trowels = s.trowels ∧ (State.gatherEvidence s id closing).faulted = s.faulted ∧ (State.gatherEvidence s id closing).bb = s.bb ∧ (State.gatherEvidence s id closing).tap = s.tap ∧ (State.gatherEvidence s id closing).time = s.time ∧ (State.gatherEvidence s id closing).thermal = s.thermal ∧ (State.gatherEvidence s id closing).light = s.light ∧ (State.gatherEvidence s id closing).adcA = s.adcA ∧ (State.gatherEvidence s id closing).adcB = s.adcB ∧ (State.gatherEvidence s id closing).amb = s.amb ∧ (State.gatherEvidence s id closing).ports = s.ports ∧ (State.gatherEvidence s id closing).nextFrame = s.nextFrame ∧ (State.gatherEvidence s id closing).pipe = s.pipe ∧ (State.gatherEvidence s id closing).ctxs = s.ctxs ∧ (State.gatherEvidence s id closing).dec = s.dec ∧ (State.gatherEvidence s id closing).vs = s.vs ∧ (State.gatherEvidence s id closing).former = s.former ∧ (State.gatherEvidence s id closing).usb = s.usb ∧ (State.gatherEvidence s id closing).ser = s.ser ∧ (State.gatherEvidence s id closing).pair = s.pair ∧ (State.gatherEvidence s id closing).fab = s.fab ∧ (State.gatherEvidence s id closing).fresh = s.fresh := by
  first
  | (unfold State.gatherEvidence; simp; done)
  | (unfold State.gatherEvidence; (try dsimp only); (repeat' split) <;> (first | rfl | (simp; done) | (simp_all; done) | (try simp)))
@[simp] theorem State.tileRow_frame (s : State) (id : Nat) :
    (State.tileRow s id).pending = s.pending ∧ (State.tileRow s id).identity = s.identity ∧ (State.tileRow s id).aon = s.aon ∧ (State.tileRow s id).pins = s.pins ∧ (State.tileRow s id).phase = s.phase ∧ (State.tileRow s id).boot = s.boot ∧ (State.tileRow s id).sys = s.sys ∧ (State.tileRow s id).balls = s.balls ∧ (State.tileRow s id).shadow = s.shadow ∧ (State.tileRow s id).faulted = s.faulted ∧ (State.tileRow s id).tap = s.tap ∧ (State.tileRow s id).time = s.time ∧ (State.tileRow s id).thermal = s.thermal ∧ (State.tileRow s id).light = s.light ∧ (State.tileRow s id).adcA = s.adcA ∧ (State.tileRow s id).adcB = s.adcB ∧ (State.tileRow s id).amb = s.amb ∧ (State.tileRow s id).ports = s.ports ∧ (State.tileRow s id).nextFrame = s.nextFrame ∧ (State.tileRow s id).pipe = s.pipe ∧ (State.tileRow s id).ctxs = s.ctxs ∧ (State.tileRow s id).dec = s.dec ∧ (State.tileRow s id).vs = s.vs ∧ (State.tileRow s id).former = s.former ∧ (State.tileRow s id).usb = s.usb ∧ (State.tileRow s id).ser = s.ser ∧ (State.tileRow s id).pair = s.pair ∧ (State.tileRow s id).fab = s.fab ∧ (State.tileRow s id).fresh = s.fresh := by
  first
  | (unfold State.tileRow; simp; done)
  | (unfold State.tileRow; (try dsimp only); (repeat' split) <;> (first | rfl | (simp; done) | (simp_all; done) | (try simp)))
@[simp] theorem State.produceLuma_frame (s : State) (id : Nat) (r : Nat) :
    (State.produceLuma s id r).pending = s.pending ∧ (State.produceLuma s id r).identity = s.identity ∧ (State.produceLuma s id r).aon = s.aon ∧ (State.produceLuma s id r).pins = s.pins ∧ (State.produceLuma s id r).phase = s.phase ∧ (State.produceLuma s id r).boot = s.boot ∧ (State.produceLuma s id r).sys = s.sys ∧ (State.produceLuma s id r).balls = s.balls ∧ (State.produceLuma s id r).shadow = s.shadow ∧ (State.produceLuma s id r).trowels = s.trowels ∧ (State.produceLuma s id r).faulted = s.faulted ∧ (State.produceLuma s id r).bb = s.bb ∧ (State.produceLuma s id r).tap = s.tap ∧ (State.produceLuma s id r).time = s.time ∧ (State.produceLuma s id r).thermal = s.thermal ∧ (State.produceLuma s id r).light = s.light ∧ (State.produceLuma s id r).adcA = s.adcA ∧ (State.produceLuma s id r).adcB = s.adcB ∧ (State.produceLuma s id r).amb = s.amb ∧ (State.produceLuma s id r).ports = s.ports ∧ (State.produceLuma s id r).nextFrame = s.nextFrame ∧ (State.produceLuma s id r).pipe = s.pipe ∧ (State.produceLuma s id r).ctxs = s.ctxs ∧ (State.produceLuma s id r).dec = s.dec ∧ (State.produceLuma s id r).vs = s.vs ∧ (State.produceLuma s id r).former = s.former ∧ (State.produceLuma s id r).ser = s.ser ∧ (State.produceLuma s id r).pair = s.pair := by
  first
  | (unfold State.produceLuma; simp; done)
  | (unfold State.produceLuma; (try dsimp only); (repeat' split) <;> (first | rfl | (simp; done) | (simp_all; done) | (try simp)))
@[simp] theorem State.produceBin_frame (s : State) (id : Nat) (r : Nat) :
    (State.produceBin s id r).pending = s.pending ∧ (State.produceBin s id r).identity = s.identity ∧ (State.produceBin s id r).aon = s.aon ∧ (State.produceBin s id r).pins = s.pins ∧ (State.produceBin s id r).phase = s.phase ∧ (State.produceBin s id r).boot = s.boot ∧ (State.produceBin s id r).sys = s.sys ∧ (State.produceBin s id r).balls = s.balls ∧ (State.produceBin s id r).shadow = s.shadow ∧ (State.produceBin s id r).faulted = s.faulted ∧ (State.produceBin s id r).tap = s.tap ∧ (State.produceBin s id r).time = s.time ∧ (State.produceBin s id r).thermal = s.thermal ∧ (State.produceBin s id r).light = s.light ∧ (State.produceBin s id r).adcA = s.adcA ∧ (State.produceBin s id r).adcB = s.adcB ∧ (State.produceBin s id r).amb = s.amb ∧ (State.produceBin s id r).ports = s.ports ∧ (State.produceBin s id r).nextFrame = s.nextFrame ∧ (State.produceBin s id r).pipe = s.pipe ∧ (State.produceBin s id r).ctxs = s.ctxs ∧ (State.produceBin s id r).dec = s.dec ∧ (State.produceBin s id r).vs = s.vs ∧ (State.produceBin s id r).former = s.former ∧ (State.produceBin s id r).ser = s.ser ∧ (State.produceBin s id r).pair = s.pair := by
  first
  | (unfold State.produceBin; simp; done)
  | (unfold State.produceBin; (try dsimp only); (repeat' split) <;> (first | rfl | (simp; done) | (simp_all; done) | (try simp)))
@[simp] theorem State.produce_frame (s : State) (id : Nat) (closing : Bool) :
    (State.produce s id closing).pending = s.pending ∧ (State.produce s id closing).identity = s.identity ∧ (State.produce s id closing).aon = s.aon ∧ (State.produce s id closing).pins = s.pins ∧ (State.produce s id closing).phase = s.phase ∧ (State.produce s id closing).boot = s.boot ∧ (State.produce s id closing).sys = s.sys ∧ (State.produce s id closing).balls = s.balls ∧ (State.produce s id closing).shadow = s.shadow ∧ (State.produce s id closing).faulted = s.faulted ∧ (State.produce s id closing).tap = s.tap ∧ (State.produce s id closing).time = s.time ∧ (State.produce s id closing).thermal = s.thermal ∧ (State.produce s id closing).light = s.light ∧ (State.produce s id closing).adcA = s.adcA ∧ (State.produce s id closing).adcB = s.adcB ∧ (State.produce s id closing).amb = s.amb ∧ (State.produce s id closing).ports = s.ports ∧ (State.produce s id closing).nextFrame = s.nextFrame ∧ (State.produce s id closing).pipe = s.pipe ∧ (State.produce s id closing).ctxs = s.ctxs ∧ (State.produce s id closing).dec = s.dec ∧ (State.produce s id closing).vs = s.vs ∧ (State.produce s id closing).former = s.former ∧ (State.produce s id closing).ser = s.ser ∧ (State.produce s id closing).pair = s.pair := by
  first
  | (unfold State.produce; simp; done)
  | (unfold State.produce; (try dsimp only); (repeat' split) <;> (first | rfl | (simp; done) | (simp_all; done) | (try simp)))
@[simp] theorem State.lineIn_frame (s : State) (id : Nat) (px : List Pixel) :
    (State.lineIn s id px).pending = s.pending ∧ (State.lineIn s id px).identity = s.identity ∧ (State.lineIn s id px).aon = s.aon ∧ (State.lineIn s id px).pins = s.pins ∧ (State.lineIn s id px).phase = s.phase ∧ (State.lineIn s id px).boot = s.boot ∧ (State.lineIn s id px).sys = s.sys ∧ (State.lineIn s id px).balls = s.balls ∧ (State.lineIn s id px).shadow = s.shadow ∧ (State.lineIn s id px).faulted = s.faulted ∧ (State.lineIn s id px).tap = s.tap ∧ (State.lineIn s id px).time = s.time ∧ (State.lineIn s id px).thermal = s.thermal ∧ (State.lineIn s id px).light = s.light ∧ (State.lineIn s id px).adcA = s.adcA ∧ (State.lineIn s id px).adcB = s.adcB ∧ (State.lineIn s id px).amb = s.amb ∧ (State.lineIn s id px).ports = s.ports ∧ (State.lineIn s id px).nextFrame = s.nextFrame ∧ (State.lineIn s id px).pipe = s.pipe ∧ (State.lineIn s id px).ctxs = s.ctxs ∧ (State.lineIn s id px).dec = s.dec ∧ (State.lineIn s id px).vs = s.vs ∧ (State.lineIn s id px).former = s.former ∧ (State.lineIn s id px).ser = s.ser ∧ (State.lineIn s id px).pair = s.pair := by
  first
  | (unfold State.lineIn; simp; done)
  | (unfold State.lineIn; (try dsimp only); (repeat' split) <;> (first | rfl | (simp; done) | (simp_all; done) | (try simp)))
@[simp] theorem State.fsEvent_frame (s : State) (k : CtxId) :
    (State.fsEvent s k).pending = s.pending ∧ (State.fsEvent s k).identity = s.identity ∧ (State.fsEvent s k).aon = s.aon ∧ (State.fsEvent s k).pins = s.pins ∧ (State.fsEvent s k).phase = s.phase ∧ (State.fsEvent s k).boot = s.boot ∧ (State.fsEvent s k).sys = s.sys ∧ (State.fsEvent s k).balls = s.balls ∧ (State.fsEvent s k).fields = s.fields ∧ (State.fsEvent s k).shadow = s.shadow ∧ (State.fsEvent s k).faulted = s.faulted ∧ (State.fsEvent s k).bb = s.bb ∧ (State.fsEvent s k).tap = s.tap ∧ (State.fsEvent s k).time = s.time ∧ (State.fsEvent s k).thermal = s.thermal ∧ (State.fsEvent s k).light = s.light ∧ (State.fsEvent s k).adcA = s.adcA ∧ (State.fsEvent s k).adcB = s.adcB ∧ (State.fsEvent s k).amb = s.amb ∧ (State.fsEvent s k).ports = s.ports ∧ (State.fsEvent s k).frames = s.frames ∧ (State.fsEvent s k).nextFrame = s.nextFrame ∧ (State.fsEvent s k).pipe = s.pipe ∧ (State.fsEvent s k).ctxs = s.ctxs ∧ (State.fsEvent s k).dec = s.dec ∧ (State.fsEvent s k).vs = s.vs ∧ (State.fsEvent s k).former = s.former ∧ (State.fsEvent s k).usb = s.usb ∧ (State.fsEvent s k).ser = s.ser ∧ (State.fsEvent s k).pair = s.pair ∧ (State.fsEvent s k).fab = s.fab ∧ (State.fsEvent s k).fresh = s.fresh := by
  first
  | (unfold State.fsEvent; simp; done)
  | (unfold State.fsEvent; (try dsimp only); (repeat' split) <;> (first | rfl | (simp; done) | (simp_all; done) | (try simp)))
@[simp] theorem State.feEvent_frame (s : State) (k : CtxId) :
    (State.feEvent s k).pending = s.pending ∧ (State.feEvent s k).identity = s.identity ∧ (State.feEvent s k).aon = s.aon ∧ (State.feEvent s k).pins = s.pins ∧ (State.feEvent s k).phase = s.phase ∧ (State.feEvent s k).boot = s.boot ∧ (State.feEvent s k).sys = s.sys ∧ (State.feEvent s k).balls = s.balls ∧ (State.feEvent s k).fields = s.fields ∧ (State.feEvent s k).shadow = s.shadow ∧ (State.feEvent s k).faulted = s.faulted ∧ (State.feEvent s k).bb = s.bb ∧ (State.feEvent s k).tap = s.tap ∧ (State.feEvent s k).time = s.time ∧ (State.feEvent s k).thermal = s.thermal ∧ (State.feEvent s k).light = s.light ∧ (State.feEvent s k).adcA = s.adcA ∧ (State.feEvent s k).adcB = s.adcB ∧ (State.feEvent s k).amb = s.amb ∧ (State.feEvent s k).ports = s.ports ∧ (State.feEvent s k).frames = s.frames ∧ (State.feEvent s k).nextFrame = s.nextFrame ∧ (State.feEvent s k).pipe = s.pipe ∧ (State.feEvent s k).ctxs = s.ctxs ∧ (State.feEvent s k).dec = s.dec ∧ (State.feEvent s k).vs = s.vs ∧ (State.feEvent s k).former = s.former ∧ (State.feEvent s k).usb = s.usb ∧ (State.feEvent s k).ser = s.ser ∧ (State.feEvent s k).pair = s.pair ∧ (State.feEvent s k).fab = s.fab ∧ (State.feEvent s k).fresh = s.fresh := by
  first
  | (unfold State.feEvent; simp; done)
  | (unfold State.feEvent; (try dsimp only); (repeat' split) <;> (first | rfl | (simp; done) | (simp_all; done) | (try simp)))
@[simp] theorem State.startFrame_frame (s : State) (id : Nat) :
    (State.startFrame s id).pending = s.pending ∧ (State.startFrame s id).identity = s.identity ∧ (State.startFrame s id).aon = s.aon ∧ (State.startFrame s id).pins = s.pins ∧ (State.startFrame s id).phase = s.phase ∧ (State.startFrame s id).boot = s.boot ∧ (State.startFrame s id).sys = s.sys ∧ (State.startFrame s id).balls = s.balls ∧ (State.startFrame s id).faulted = s.faulted ∧ (State.startFrame s id).tap = s.tap ∧ (State.startFrame s id).time = s.time ∧ (State.startFrame s id).thermal = s.thermal ∧ (State.startFrame s id).light = s.light ∧ (State.startFrame s id).adcA = s.adcA ∧ (State.startFrame s id).adcB = s.adcB ∧ (State.startFrame s id).amb = s.amb ∧ (State.startFrame s id).ports = s.ports ∧ (State.startFrame s id).nextFrame = s.nextFrame ∧ (State.startFrame s id).pipe = s.pipe ∧ (State.startFrame s id).dec = s.dec ∧ (State.startFrame s id).vs = s.vs ∧ (State.startFrame s id).former = s.former ∧ (State.startFrame s id).usb = s.usb ∧ (State.startFrame s id).ser = s.ser ∧ (State.startFrame s id).pair = s.pair ∧ (State.startFrame s id).fab = s.fab ∧ (State.startFrame s id).fresh = s.fresh := by
  first
  | (unfold State.startFrame; simp; done)
  | (unfold State.startFrame; (try dsimp only); (repeat' split) <;> (first | rfl | (simp; done) | (simp_all; done) | (try simp)))
@[simp] theorem State.flushFrame_frame (s : State) (id : Nat) :
    (State.flushFrame s id).pending = s.pending ∧ (State.flushFrame s id).identity = s.identity ∧ (State.flushFrame s id).aon = s.aon ∧ (State.flushFrame s id).pins = s.pins ∧ (State.flushFrame s id).phase = s.phase ∧ (State.flushFrame s id).boot = s.boot ∧ (State.flushFrame s id).sys = s.sys ∧ (State.flushFrame s id).balls = s.balls ∧ (State.flushFrame s id).shadow = s.shadow ∧ (State.flushFrame s id).faulted = s.faulted ∧ (State.flushFrame s id).tap = s.tap ∧ (State.flushFrame s id).time = s.time ∧ (State.flushFrame s id).thermal = s.thermal ∧ (State.flushFrame s id).light = s.light ∧ (State.flushFrame s id).adcA = s.adcA ∧ (State.flushFrame s id).adcB = s.adcB ∧ (State.flushFrame s id).amb = s.amb ∧ (State.flushFrame s id).ports = s.ports ∧ (State.flushFrame s id).nextFrame = s.nextFrame ∧ (State.flushFrame s id).pipe = s.pipe ∧ (State.flushFrame s id).ctxs = s.ctxs ∧ (State.flushFrame s id).dec = s.dec ∧ (State.flushFrame s id).vs = s.vs ∧ (State.flushFrame s id).former = s.former ∧ (State.flushFrame s id).ser = s.ser ∧ (State.flushFrame s id).pair = s.pair := by
  first
  | (unfold State.flushFrame; simp; done)
  | (unfold State.flushFrame; (try dsimp only); (repeat' split) <;> (first | rfl | (simp; done) | (simp_all; done) | (try simp)))
@[simp] theorem State.closeFrame_frame (s : State) (id : Nat) :
    (State.closeFrame s id).pending = s.pending ∧ (State.closeFrame s id).identity = s.identity ∧ (State.closeFrame s id).aon = s.aon ∧ (State.closeFrame s id).pins = s.pins ∧ (State.closeFrame s id).phase = s.phase ∧ (State.closeFrame s id).boot = s.boot ∧ (State.closeFrame s id).sys = s.sys ∧ (State.closeFrame s id).balls = s.balls ∧ (State.closeFrame s id).shadow = s.shadow ∧ (State.closeFrame s id).faulted = s.faulted ∧ (State.closeFrame s id).tap = s.tap ∧ (State.closeFrame s id).time = s.time ∧ (State.closeFrame s id).thermal = s.thermal ∧ (State.closeFrame s id).light = s.light ∧ (State.closeFrame s id).adcA = s.adcA ∧ (State.closeFrame s id).adcB = s.adcB ∧ (State.closeFrame s id).amb = s.amb ∧ (State.closeFrame s id).ports = s.ports ∧ (State.closeFrame s id).nextFrame = s.nextFrame ∧ (State.closeFrame s id).pipe = s.pipe ∧ (State.closeFrame s id).ctxs = s.ctxs ∧ (State.closeFrame s id).dec = s.dec ∧ (State.closeFrame s id).vs = s.vs ∧ (State.closeFrame s id).former = s.former ∧ (State.closeFrame s id).ser = s.ser ∧ (State.closeFrame s id).pair = s.pair := by
  first
  | (unfold State.closeFrame; simp; done)
  | (unfold State.closeFrame; (try dsimp only); (repeat' split) <;> (first | rfl | (simp; done) | (simp_all; done) | (try simp)))
@[simp] theorem State.frameIn_frame (s : State) (id : Nat) :
    (State.frameIn s id).pending = s.pending ∧ (State.frameIn s id).identity = s.identity ∧ (State.frameIn s id).aon = s.aon ∧ (State.frameIn s id).pins = s.pins ∧ (State.frameIn s id).phase = s.phase ∧ (State.frameIn s id).boot = s.boot ∧ (State.frameIn s id).sys = s.sys ∧ (State.frameIn s id).balls = s.balls ∧ (State.frameIn s id).faulted = s.faulted ∧ (State.frameIn s id).tap = s.tap ∧ (State.frameIn s id).time = s.time ∧ (State.frameIn s id).thermal = s.thermal ∧ (State.frameIn s id).light = s.light ∧ (State.frameIn s id).adcA = s.adcA ∧ (State.frameIn s id).adcB = s.adcB ∧ (State.frameIn s id).amb = s.amb ∧ (State.frameIn s id).ports = s.ports ∧ (State.frameIn s id).nextFrame = s.nextFrame ∧ (State.frameIn s id).pipe = s.pipe ∧ (State.frameIn s id).dec = s.dec ∧ (State.frameIn s id).vs = s.vs ∧ (State.frameIn s id).former = s.former ∧ (State.frameIn s id).ser = s.ser ∧ (State.frameIn s id).pair = s.pair := by
  first
  | (unfold State.frameIn; simp; done)
  | (unfold State.frameIn; (try dsimp only); (repeat' split) <;> (first | rfl | (simp; done) | (simp_all; done) | (try simp)))
@[simp] theorem State.endFrame_frame (s : State) (f : Frame) :
    (State.endFrame s f).pending = s.pending ∧ (State.endFrame s f).identity = s.identity ∧ (State.endFrame s f).aon = s.aon ∧ (State.endFrame s f).pins = s.pins ∧ (State.endFrame s f).phase = s.phase ∧ (State.endFrame s f).boot = s.boot ∧ (State.endFrame s f).sys = s.sys ∧ (State.endFrame s f).balls = s.balls ∧ (State.endFrame s f).shadow = s.shadow ∧ (State.endFrame s f).faulted = s.faulted ∧ (State.endFrame s f).tap = s.tap ∧ (State.endFrame s f).time = s.time ∧ (State.endFrame s f).thermal = s.thermal ∧ (State.endFrame s f).light = s.light ∧ (State.endFrame s f).adcA = s.adcA ∧ (State.endFrame s f).adcB = s.adcB ∧ (State.endFrame s f).amb = s.amb ∧ (State.endFrame s f).nextFrame = s.nextFrame ∧ (State.endFrame s f).pipe = s.pipe ∧ (State.endFrame s f).ctxs = s.ctxs ∧ (State.endFrame s f).dec = s.dec ∧ (State.endFrame s f).vs = s.vs ∧ (State.endFrame s f).former = s.former ∧ (State.endFrame s f).ser = s.ser ∧ (State.endFrame s f).pair = s.pair := by
  first
  | (unfold State.endFrame; simp; done)
  | (unfold State.endFrame; (try dsimp only); (repeat' split) <;> (first | rfl | (simp; done) | (simp_all; done) | (try simp)))
@[simp] theorem State.serve_frame (s : State) (p : PortId) :
    (State.serve s p).pending = s.pending ∧ (State.serve s p).identity = s.identity ∧ (State.serve s p).aon = s.aon ∧ (State.serve s p).pins = s.pins ∧ (State.serve s p).phase = s.phase ∧ (State.serve s p).boot = s.boot ∧ (State.serve s p).sys = s.sys ∧ (State.serve s p).balls = s.balls ∧ (State.serve s p).faulted = s.faulted ∧ (State.serve s p).tap = s.tap ∧ (State.serve s p).time = s.time ∧ (State.serve s p).thermal = s.thermal ∧ (State.serve s p).light = s.light ∧ (State.serve s p).adcA = s.adcA ∧ (State.serve s p).adcB = s.adcB ∧ (State.serve s p).amb = s.amb ∧ (State.serve s p).nextFrame = s.nextFrame ∧ (State.serve s p).pipe = s.pipe ∧ (State.serve s p).dec = s.dec ∧ (State.serve s p).vs = s.vs ∧ (State.serve s p).former = s.former ∧ (State.serve s p).ser = s.ser ∧ (State.serve s p).pair = s.pair := by
  first
  | (unfold State.serve; simp; done)
  | (unfold State.serve; (try dsimp only); (repeat' split) <;> (first | rfl | (simp; done) | (simp_all; done) | (try simp)))
theorem execPipelineSlice_frame (p : PortId) (s : State) :
    ∃ u, execPipelineSlice p s = .next u ∧
    u.pending = s.pending ∧ u.identity = s.identity ∧ u.aon = s.aon ∧ u.pins = s.pins ∧ u.phase = s.phase ∧ u.boot = s.boot ∧ u.sys = s.sys ∧ u.balls = s.balls ∧ u.faulted = s.faulted ∧ u.tap = s.tap ∧ u.time = s.time ∧ u.thermal = s.thermal ∧ u.light = s.light ∧ u.adcA = s.adcA ∧ u.adcB = s.adcB ∧ u.amb = s.amb ∧ u.nextFrame = s.nextFrame ∧ u.dec = s.dec ∧ u.vs = s.vs ∧ u.former = s.former ∧ u.ser = s.ser ∧ u.pair = s.pair := by
  refine ⟨_, rfl, ?_⟩
  first
  | (simp; done)
  | ((try simp only [State.whenRun, State.access, State.packet]); (repeat' split) <;> (first | rfl | (simp; done) | (simp_all; done) | (try simp)))
@[simp] theorem State.ctxNow_frame (s : State) (a : Nat) (v : Word) :
    (State.ctxNow s a v).pending = s.pending ∧ (State.ctxNow s a v).identity = s.identity ∧ (State.ctxNow s a v).aon = s.aon ∧ (State.ctxNow s a v).pins = s.pins ∧ (State.ctxNow s a v).phase = s.phase ∧ (State.ctxNow s a v).boot = s.boot ∧ (State.ctxNow s a v).sys = s.sys ∧ (State.ctxNow s a v).balls = s.balls ∧ (State.ctxNow s a v).faulted = s.faulted ∧ (State.ctxNow s a v).tap = s.tap ∧ (State.ctxNow s a v).time = s.time ∧ (State.ctxNow s a v).thermal = s.thermal ∧ (State.ctxNow s a v).light = s.light ∧ (State.ctxNow s a v).adcA = s.adcA ∧ (State.ctxNow s a v).adcB = s.adcB ∧ (State.ctxNow s a v).amb = s.amb ∧ (State.ctxNow s a v).nextFrame = s.nextFrame ∧ (State.ctxNow s a v).pipe = s.pipe ∧ (State.ctxNow s a v).ctxs = s.ctxs ∧ (State.ctxNow s a v).dec = s.dec ∧ (State.ctxNow s a v).vs = s.vs ∧ (State.ctxNow s a v).former = s.former ∧ (State.ctxNow s a v).ser = s.ser ∧ (State.ctxNow s a v).pair = s.pair := by
  first
  | (unfold State.ctxNow; simp; done)
  | (unfold State.ctxNow; (try dsimp only); (repeat' split) <;> (first | rfl | (simp; done) | (simp_all; done) | (try simp)))
end Sys2Proof.Machine
end

