-- ==== Sys2Proof/Laws/FrameCluster.lean ====
section
/-! SUPPORT. Frames: which parts of the state each operation of Machine/Cluster leaves as they were. -/

namespace Sys2Proof.Machine
@[simp] theorem State.schedule_frame (s : State) :
    (State.schedule s).pending = s.pending ∧ (State.schedule s).identity = s.identity ∧ (State.schedule s).aon = s.aon ∧ (State.schedule s).pins = s.pins ∧ (State.schedule s).phase = s.phase ∧ (State.schedule s).boot = s.boot ∧ (State.schedule s).sys = s.sys ∧ (State.schedule s).balls = s.balls ∧ (State.schedule s).fields = s.fields ∧ (State.schedule s).shadow = s.shadow ∧ (State.schedule s).trowels = s.trowels ∧ (State.schedule s).faulted = s.faulted ∧ (State.schedule s).bb = s.bb ∧ (State.schedule s).tap = s.tap ∧ (State.schedule s).time = s.time ∧ (State.schedule s).thermal = s.thermal ∧ (State.schedule s).light = s.light ∧ (State.schedule s).adcA = s.adcA ∧ (State.schedule s).adcB = s.adcB ∧ (State.schedule s).amb = s.amb ∧ (State.schedule s).ports = s.ports ∧ (State.schedule s).frames = s.frames ∧ (State.schedule s).nextFrame = s.nextFrame ∧ (State.schedule s).pipe = s.pipe ∧ (State.schedule s).ctxs = s.ctxs ∧ (State.schedule s).vs = s.vs ∧ (State.schedule s).former = s.former ∧ (State.schedule s).usb = s.usb ∧ (State.schedule s).ser = s.ser ∧ (State.schedule s).pair = s.pair ∧ (State.schedule s).fab = s.fab ∧ (State.schedule s).fresh = s.fresh := by
  first
  | (unfold State.schedule; simp; done)
  | (unfold State.schedule; (try dsimp only); (repeat' split) <;> (first | rfl | (simp; done) | (simp_all; done) | (try simp)))
@[simp] theorem State.freeCore_frame (s : State) (i : Fin 16) :
    (State.freeCore s i).pending = s.pending ∧ (State.freeCore s i).identity = s.identity ∧ (State.freeCore s i).aon = s.aon ∧ (State.freeCore s i).pins = s.pins ∧ (State.freeCore s i).phase = s.phase ∧ (State.freeCore s i).boot = s.boot ∧ (State.freeCore s i).sys = s.sys ∧ (State.freeCore s i).balls = s.balls ∧ (State.freeCore s i).fields = s.fields ∧ (State.freeCore s i).shadow = s.shadow ∧ (State.freeCore s i).trowels = s.trowels ∧ (State.freeCore s i).faulted = s.faulted ∧ (State.freeCore s i).bb = s.bb ∧ (State.freeCore s i).tap = s.tap ∧ (State.freeCore s i).time = s.time ∧ (State.freeCore s i).thermal = s.thermal ∧ (State.freeCore s i).light = s.light ∧ (State.freeCore s i).adcA = s.adcA ∧ (State.freeCore s i).adcB = s.adcB ∧ (State.freeCore s i).amb = s.amb ∧ (State.freeCore s i).ports = s.ports ∧ (State.freeCore s i).frames = s.frames ∧ (State.freeCore s i).nextFrame = s.nextFrame ∧ (State.freeCore s i).pipe = s.pipe ∧ (State.freeCore s i).ctxs = s.ctxs ∧ (State.freeCore s i).vs = s.vs ∧ (State.freeCore s i).former = s.former ∧ (State.freeCore s i).usb = s.usb ∧ (State.freeCore s i).ser = s.ser ∧ (State.freeCore s i).pair = s.pair ∧ (State.freeCore s i).fab = s.fab ∧ (State.freeCore s i).fresh = s.fresh := by
  first
  | (unfold State.freeCore; simp; done)
  | (unfold State.freeCore; (try dsimp only); (repeat' split) <;> (first | rfl | (simp; done) | (simp_all; done) | (try simp)))
@[simp] theorem State.sendJoint_frame (s : State) (c : Candidate) (f : Frame) (i : Nat) (g : Option GridRead) :
    (State.sendJoint s c f i g).pending = s.pending ∧ (State.sendJoint s c f i g).identity = s.identity ∧ (State.sendJoint s c f i g).aon = s.aon ∧ (State.sendJoint s c f i g).pins = s.pins ∧ (State.sendJoint s c f i g).phase = s.phase ∧ (State.sendJoint s c f i g).boot = s.boot ∧ (State.sendJoint s c f i g).sys = s.sys ∧ (State.sendJoint s c f i g).balls = s.balls ∧ (State.sendJoint s c f i g).shadow = s.shadow ∧ (State.sendJoint s c f i g).trowels = s.trowels ∧ (State.sendJoint s c f i g).faulted = s.faulted ∧ (State.sendJoint s c f i g).bb = s.bb ∧ (State.sendJoint s c f i g).tap = s.tap ∧ (State.sendJoint s c f i g).time = s.time ∧ (State.sendJoint s c f i g).thermal = s.thermal ∧ (State.sendJoint s c f i g).light = s.light ∧ (State.sendJoint s c f i g).adcA = s.adcA ∧ (State.sendJoint s c f i g).adcB = s.adcB ∧ (State.sendJoint s c f i g).amb = s.amb ∧ (State.sendJoint s c f i g).ports = s.ports ∧ (State.sendJoint s c f i g).nextFrame = s.nextFrame ∧ (State.sendJoint s c f i g).pipe = s.pipe ∧ (State.sendJoint s c f i g).ctxs = s.ctxs ∧ (State.sendJoint s c f i g).dec = s.dec ∧ (State.sendJoint s c f i g).vs = s.vs ∧ (State.sendJoint s c f i g).former = s.former ∧ (State.sendJoint s c f i g).usb = s.usb ∧ (State.sendJoint s c f i g).ser = s.ser ∧ (State.sendJoint s c f i g).pair = s.pair ∧ (State.sendJoint s c f i g).fresh = s.fresh := by
  first
  | (unfold State.sendJoint; simp; done)
  | (unfold State.sendJoint; (try dsimp only); (repeat' split) <;> (first | rfl | (simp; done) | (simp_all; done) | (try simp)))
@[simp] theorem State.joinFrame_frame (s : State) (f : Frame) (m : JointMsg) :
    (State.joinFrame s f m).pending = s.pending ∧ (State.joinFrame s f m).identity = s.identity ∧ (State.joinFrame s f m).aon = s.aon ∧ (State.joinFrame s f m).pins = s.pins ∧ (State.joinFrame s f m).phase = s.phase ∧ (State.joinFrame s f m).boot = s.boot ∧ (State.joinFrame s f m).sys = s.sys ∧ (State.joinFrame s f m).balls = s.balls ∧ (State.joinFrame s f m).shadow = s.shadow ∧ (State.joinFrame s f m).trowels = s.trowels ∧ (State.joinFrame s f m).faulted = s.faulted ∧ (State.joinFrame s f m).bb = s.bb ∧ (State.joinFrame s f m).tap = s.tap ∧ (State.joinFrame s f m).time = s.time ∧ (State.joinFrame s f m).thermal = s.thermal ∧ (State.joinFrame s f m).light = s.light ∧ (State.joinFrame s f m).adcA = s.adcA ∧ (State.joinFrame s f m).adcB = s.adcB ∧ (State.joinFrame s f m).amb = s.amb ∧ (State.joinFrame s f m).ports = s.ports ∧ (State.joinFrame s f m).frames = s.frames ∧ (State.joinFrame s f m).nextFrame = s.nextFrame ∧ (State.joinFrame s f m).pipe = s.pipe ∧ (State.joinFrame s f m).ctxs = s.ctxs ∧ (State.joinFrame s f m).vs = s.vs ∧ (State.joinFrame s f m).former = s.former ∧ (State.joinFrame s f m).usb = s.usb ∧ (State.joinFrame s f m).ser = s.ser ∧ (State.joinFrame s f m).pair = s.pair ∧ (State.joinFrame s f m).fab = s.fab ∧ (State.joinFrame s f m).fresh = s.fresh := by
  first
  | (unfold State.joinFrame; simp; done)
  | (unfold State.joinFrame; (try dsimp only); (repeat' split) <;> (first | rfl | (simp; done) | (simp_all; done) | (try simp)))
@[simp] theorem State.matchJoint_frame (s : State) (m : JointMsg) :
    (State.matchJoint s m).pending = s.pending ∧ (State.matchJoint s m).identity = s.identity ∧ (State.matchJoint s m).aon = s.aon ∧ (State.matchJoint s m).pins = s.pins ∧ (State.matchJoint s m).phase = s.phase ∧ (State.matchJoint s m).boot = s.boot ∧ (State.matchJoint s m).sys = s.sys ∧ (State.matchJoint s m).balls = s.balls ∧ (State.matchJoint s m).shadow = s.shadow ∧ (State.matchJoint s m).trowels = s.trowels ∧ (State.matchJoint s m).faulted = s.faulted ∧ (State.matchJoint s m).bb = s.bb ∧ (State.matchJoint s m).tap = s.tap ∧ (State.matchJoint s m).time = s.time ∧ (State.matchJoint s m).thermal = s.thermal ∧ (State.matchJoint s m).light = s.light ∧ (State.matchJoint s m).adcA = s.adcA ∧ (State.matchJoint s m).adcB = s.adcB ∧ (State.matchJoint s m).amb = s.amb ∧ (State.matchJoint s m).ports = s.ports ∧ (State.matchJoint s m).frames = s.frames ∧ (State.matchJoint s m).nextFrame = s.nextFrame ∧ (State.matchJoint s m).pipe = s.pipe ∧ (State.matchJoint s m).ctxs = s.ctxs ∧ (State.matchJoint s m).vs = s.vs ∧ (State.matchJoint s m).former = s.former ∧ (State.matchJoint s m).usb = s.usb ∧ (State.matchJoint s m).ser = s.ser ∧ (State.matchJoint s m).pair = s.pair ∧ (State.matchJoint s m).fab = s.fab ∧ (State.matchJoint s m).fresh = s.fresh := by
  first
  | (unfold State.matchJoint; simp; done)
  | (unfold State.matchJoint; (try dsimp only); (repeat' split) <;> (first | rfl | (simp; done) | (simp_all; done) | (try simp)))
@[simp] theorem State.rematch_frame (s : State) :
    (State.rematch s).pending = s.pending ∧ (State.rematch s).identity = s.identity ∧ (State.rematch s).aon = s.aon ∧ (State.rematch s).pins = s.pins ∧ (State.rematch s).phase = s.phase ∧ (State.rematch s).boot = s.boot ∧ (State.rematch s).sys = s.sys ∧ (State.rematch s).balls = s.balls ∧ (State.rematch s).shadow = s.shadow ∧ (State.rematch s).trowels = s.trowels ∧ (State.rematch s).faulted = s.faulted ∧ (State.rematch s).bb = s.bb ∧ (State.rematch s).tap = s.tap ∧ (State.rematch s).time = s.time ∧ (State.rematch s).thermal = s.thermal ∧ (State.rematch s).light = s.light ∧ (State.rematch s).adcA = s.adcA ∧ (State.rematch s).adcB = s.adcB ∧ (State.rematch s).amb = s.amb ∧ (State.rematch s).ports = s.ports ∧ (State.rematch s).frames = s.frames ∧ (State.rematch s).nextFrame = s.nextFrame ∧ (State.rematch s).pipe = s.pipe ∧ (State.rematch s).ctxs = s.ctxs ∧ (State.rematch s).vs = s.vs ∧ (State.rematch s).former = s.former ∧ (State.rematch s).usb = s.usb ∧ (State.rematch s).ser = s.ser ∧ (State.rematch s).pair = s.pair ∧ (State.rematch s).fab = s.fab ∧ (State.rematch s).fresh = s.fresh := by
  first
  | (unfold State.rematch; simp; done)
  | (unfold State.rematch; (try dsimp only); (repeat' split) <;> (first | rfl | (simp; done) | (simp_all; done) | (try simp)))
theorem execJointArrival_frame (s : State) :
    ∃ u, execJointArrival s = .next u ∧
    u.pending = s.pending ∧ u.identity = s.identity ∧ u.aon = s.aon ∧ u.pins = s.pins ∧ u.phase = s.phase ∧ u.boot = s.boot ∧ u.sys = s.sys ∧ u.balls = s.balls ∧ u.shadow = s.shadow ∧ u.trowels = s.trowels ∧ u.faulted = s.faulted ∧ u.bb = s.bb ∧ u.tap = s.tap ∧ u.time = s.time ∧ u.thermal = s.thermal ∧ u.light = s.light ∧ u.adcA = s.adcA ∧ u.adcB = s.adcB ∧ u.amb = s.amb ∧ u.ports = s.ports ∧ u.frames = s.frames ∧ u.nextFrame = s.nextFrame ∧ u.pipe = s.pipe ∧ u.ctxs = s.ctxs ∧ u.vs = s.vs ∧ u.former = s.former ∧ u.usb = s.usb ∧ u.ser = s.ser ∧ u.pair = s.pair ∧ u.fab = s.fab ∧ u.fresh = s.fresh := by
  refine ⟨_, rfl, ?_⟩
  first
  | (simp; done)
  | ((try simp only [State.whenRun, State.access, State.packet]); (repeat' split) <;> (first | rfl | (simp; done) | (simp_all; done) | (try simp)))
theorem execJointWaitExpiry_frame (s : State) :
    ∃ u, execJointWaitExpiry s = .next u ∧
    u.pending = s.pending ∧ u.identity = s.identity ∧ u.aon = s.aon ∧ u.pins = s.pins ∧ u.phase = s.phase ∧ u.boot = s.boot ∧ u.sys = s.sys ∧ u.balls = s.balls ∧ u.shadow = s.shadow ∧ u.trowels = s.trowels ∧ u.faulted = s.faulted ∧ u.bb = s.bb ∧ u.tap = s.tap ∧ u.time = s.time ∧ u.thermal = s.thermal ∧ u.light = s.light ∧ u.adcA = s.adcA ∧ u.adcB = s.adcB ∧ u.amb = s.amb ∧ u.ports = s.ports ∧ u.frames = s.frames ∧ u.nextFrame = s.nextFrame ∧ u.pipe = s.pipe ∧ u.ctxs = s.ctxs ∧ u.vs = s.vs ∧ u.former = s.former ∧ u.usb = s.usb ∧ u.ser = s.ser ∧ u.pair = s.pair ∧ u.fab = s.fab ∧ u.fresh = s.fresh := by
  refine ⟨_, rfl, ?_⟩
  first
  | (simp; done)
  | ((try simp only [State.whenRun, State.access, State.packet]); (repeat' split) <;> (first | rfl | (simp; done) | (simp_all; done) | (try simp)))
theorem execCandidateJxWaitExpiry_frame (cand : Nat) (s : State) :
    ∃ u, execCandidateJxWaitExpiry cand s = .next u ∧
    u.pending = s.pending ∧ u.identity = s.identity ∧ u.aon = s.aon ∧ u.pins = s.pins ∧ u.phase = s.phase ∧ u.boot = s.boot ∧ u.sys = s.sys ∧ u.balls = s.balls ∧ u.fields = s.fields ∧ u.shadow = s.shadow ∧ u.trowels = s.trowels ∧ u.faulted = s.faulted ∧ u.bb = s.bb ∧ u.tap = s.tap ∧ u.time = s.time ∧ u.thermal = s.thermal ∧ u.light = s.light ∧ u.adcA = s.adcA ∧ u.adcB = s.adcB ∧ u.amb = s.amb ∧ u.ports = s.ports ∧ u.frames = s.frames ∧ u.nextFrame = s.nextFrame ∧ u.pipe = s.pipe ∧ u.ctxs = s.ctxs ∧ u.vs = s.vs ∧ u.former = s.former ∧ u.usb = s.usb ∧ u.ser = s.ser ∧ u.pair = s.pair ∧ u.fab = s.fab ∧ u.fresh = s.fresh := by
  refine ⟨_, rfl, ?_⟩
  first
  | (simp; done)
  | ((try simp only [State.whenRun, State.access, State.packet]); (repeat' split) <;> (first | rfl | (simp; done) | (simp_all; done) | (try simp)))
theorem execFrameStartNoticeInDecode_frame (k : CtxId) (s : State) :
    ∃ u, execFrameStartNoticeInDecode k s = .next u ∧
    u.pending = s.pending ∧ u.identity = s.identity ∧ u.aon = s.aon ∧ u.pins = s.pins ∧ u.phase = s.phase ∧ u.boot = s.boot ∧ u.sys = s.sys ∧ u.balls = s.balls ∧ u.trowels = s.trowels ∧ u.faulted = s.faulted ∧ u.bb = s.bb ∧ u.tap = s.tap ∧ u.time = s.time ∧ u.thermal = s.thermal ∧ u.light = s.light ∧ u.adcA = s.adcA ∧ u.adcB = s.adcB ∧ u.amb = s.amb ∧ u.ports = s.ports ∧ u.nextFrame = s.nextFrame ∧ u.pipe = s.pipe ∧ u.ctxs = s.ctxs ∧ u.vs = s.vs ∧ u.former = s.former ∧ u.usb = s.usb ∧ u.ser = s.ser ∧ u.pair = s.pair ∧ u.fab = s.fab ∧ u.fresh = s.fresh := by
  refine ⟨_, rfl, ?_⟩
  first
  | (simp; done)
  | ((try simp only [State.whenRun, State.access, State.packet]); (repeat' split) <;> (first | rfl | (simp; done) | (simp_all; done) | (try simp)))
@[simp] theorem State.queueCandidate_frame (s : State) (k : CtxId) (f : Frame) (x : CandInfo) :
    (State.queueCandidate s k f x).pending = s.pending ∧ (State.queueCandidate s k f x).identity = s.identity ∧ (State.queueCandidate s k f x).aon = s.aon ∧ (State.queueCandidate s k f x).pins = s.pins ∧ (State.queueCandidate s k f x).phase = s.phase ∧ (State.queueCandidate s k f x).boot = s.boot ∧ (State.queueCandidate s k f x).sys = s.sys ∧ (State.queueCandidate s k f x).balls = s.balls ∧ (State.queueCandidate s k f x).fields = s.fields ∧ (State.queueCandidate s k f x).shadow = s.shadow ∧ (State.queueCandidate s k f x).trowels = s.trowels ∧ (State.queueCandidate s k f x).faulted = s.faulted ∧ (State.queueCandidate s k f x).bb = s.bb ∧ (State.queueCandidate s k f x).tap = s.tap ∧ (State.queueCandidate s k f x).time = s.time ∧ (State.queueCandidate s k f x).thermal = s.thermal ∧ (State.queueCandidate s k f x).light = s.light ∧ (State.queueCandidate s k f x).adcA = s.adcA ∧ (State.queueCandidate s k f x).adcB = s.adcB ∧ (State.queueCandidate s k f x).amb = s.amb ∧ (State.queueCandidate s k f x).ports = s.ports ∧ (State.queueCandidate s k f x).nextFrame = s.nextFrame ∧ (State.queueCandidate s k f x).pipe = s.pipe ∧ (State.queueCandidate s k f x).ctxs = s.ctxs ∧ (State.queueCandidate s k f x).vs = s.vs ∧ (State.queueCandidate s k f x).former = s.former ∧ (State.queueCandidate s k f x).usb = s.usb ∧ (State.queueCandidate s k f x).ser = s.ser ∧ (State.queueCandidate s k f x).pair = s.pair ∧ (State.queueCandidate s k f x).fab = s.fab ∧ (State.queueCandidate s k f x).fresh = s.fresh := by
  first
  | (unfold State.queueCandidate; simp; done)
  | (unfold State.queueCandidate; (try dsimp only); (repeat' split) <;> (first | rfl | (simp; done) | (simp_all; done) | (try simp)))
theorem execCandidateArrival_frame (k : CtxId) (fidx : Word) (x : CandInfo) (s : State) :
    ∃ u, execCandidateArrival k fidx x s = .next u ∧
    u.pending = s.pending ∧ u.identity = s.identity ∧ u.aon = s.aon ∧ u.pins = s.pins ∧ u.phase = s.phase ∧ u.boot = s.boot ∧ u.sys = s.sys ∧ u.balls = s.balls ∧ u.shadow = s.shadow ∧ u.trowels = s.trowels ∧ u.faulted = s.faulted ∧ u.bb = s.bb ∧ u.tap = s.tap ∧ u.time = s.time ∧ u.thermal = s.thermal ∧ u.light = s.light ∧ u.adcA = s.adcA ∧ u.adcB = s.adcB ∧ u.amb = s.amb ∧ u.ports = s.ports ∧ u.nextFrame = s.nextFrame ∧ u.pipe = s.pipe ∧ u.ctxs = s.ctxs ∧ u.vs = s.vs ∧ u.former = s.former ∧ u.usb = s.usb ∧ u.ser = s.ser ∧ u.pair = s.pair ∧ u.fab = s.fab := by
  refine ⟨_, rfl, ?_⟩
  first
  | (simp; done)
  | ((try simp only [State.whenRun, State.access, State.packet]); (repeat' split) <;> (first | rfl | (simp; done) | (simp_all; done) | (try simp)))
@[simp] theorem State.failCandidate_frame (s : State) (c : Candidate) :
    (State.failCandidate s c).pending = s.pending ∧ (State.failCandidate s c).identity = s.identity ∧ (State.failCandidate s c).aon = s.aon ∧ (State.failCandidate s c).pins = s.pins ∧ (State.failCandidate s c).phase = s.phase ∧ (State.failCandidate s c).boot = s.boot ∧ (State.failCandidate s c).sys = s.sys ∧ (State.failCandidate s c).balls = s.balls ∧ (State.failCandidate s c).shadow = s.shadow ∧ (State.failCandidate s c).trowels = s.trowels ∧ (State.failCandidate s c).faulted = s.faulted ∧ (State.failCandidate s c).bb = s.bb ∧ (State.failCandidate s c).tap = s.tap ∧ (State.failCandidate s c).time = s.time ∧ (State.failCandidate s c).thermal = s.thermal ∧ (State.failCandidate s c).light = s.light ∧ (State.failCandidate s c).adcA = s.adcA ∧ (State.failCandidate s c).adcB = s.adcB ∧ (State.failCandidate s c).amb = s.amb ∧ (State.failCandidate s c).ports = s.ports ∧ (State.failCandidate s c).nextFrame = s.nextFrame ∧ (State.failCandidate s c).pipe = s.pipe ∧ (State.failCandidate s c).ctxs = s.ctxs ∧ (State.failCandidate s c).dec = s.dec ∧ (State.failCandidate s c).vs = s.vs ∧ (State.failCandidate s c).former = s.former ∧ (State.failCandidate s c).usb = s.usb ∧ (State.failCandidate s c).ser = s.ser ∧ (State.failCandidate s c).pair = s.pair ∧ (State.failCandidate s c).fab = s.fab ∧ (State.failCandidate s c).fresh = s.fresh := by
  first
  | (unfold State.failCandidate; simp; done)
  | (unfold State.failCandidate; (try dsimp only); (repeat' split) <;> (first | rfl | (simp; done) | (simp_all; done) | (try simp)))
@[simp] theorem State.giveResult_frame (s : State) (i : Fin 16) (f : Frame) (c : Candidate) (r : Result) :
    (State.giveResult s i f c r).pending = s.pending ∧ (State.giveResult s i f c r).identity = s.identity ∧ (State.giveResult s i f c r).aon = s.aon ∧ (State.giveResult s i f c r).pins = s.pins ∧ (State.giveResult s i f c r).phase = s.phase ∧ (State.giveResult s i f c r).boot = s.boot ∧ (State.giveResult s i f c r).sys = s.sys ∧ (State.giveResult s i f c r).balls = s.balls ∧ (State.giveResult s i f c r).shadow = s.shadow ∧ (State.giveResult s i f c r).trowels = s.trowels ∧ (State.giveResult s i f c r).faulted = s.faulted ∧ (State.giveResult s i f c r).bb = s.bb ∧ (State.giveResult s i f c r).tap = s.tap ∧ (State.giveResult s i f c r).time = s.time ∧ (State.giveResult s i f c r).thermal = s.thermal ∧ (State.giveResult s i f c r).light = s.light ∧ (State.giveResult s i f c r).adcA = s.adcA ∧ (State.giveResult s i f c r).adcB = s.adcB ∧ (State.giveResult s i f c r).amb = s.amb ∧ (State.giveResult s i f c r).ports = s.ports ∧ (State.giveResult s i f c r).nextFrame = s.nextFrame ∧ (State.giveResult s i f c r).pipe = s.pipe ∧ (State.giveResult s i f c r).ctxs = s.ctxs ∧ (State.giveResult s i f c r).vs = s.vs ∧ (State.giveResult s i f c r).former = s.former ∧ (State.giveResult s i f c r).usb = s.usb ∧ (State.giveResult s i f c r).ser = s.ser ∧ (State.giveResult s i f c r).pair = s.pair ∧ (State.giveResult s i f c r).fab = s.fab ∧ (State.giveResult s i f c r).fresh = s.fresh := by
  first
  | (unfold State.giveResult; simp; done)
  | (unfold State.giveResult; (try dsimp only); (repeat' split) <;> (first | rfl | (simp; done) | (simp_all; done) | (try simp)))
@[simp] theorem State.resolve_frame (s : State) (i : Fin 16) (out : DecodeOutcome) :
    (State.resolve s i out).pending = s.pending ∧ (State.resolve s i out).identity = s.identity ∧ (State.resolve s i out).aon = s.aon ∧ (State.resolve s i out).pins = s.pins ∧ (State.resolve s i out).phase = s.phase ∧ (State.resolve s i out).boot = s.boot ∧ (State.resolve s i out).sys = s.sys ∧ (State.resolve s i out).balls = s.balls ∧ (State.resolve s i out).shadow = s.shadow ∧ (State.resolve s i out).trowels = s.trowels ∧ (State.resolve s i out).faulted = s.faulted ∧ (State.resolve s i out).bb = s.bb ∧ (State.resolve s i out).tap = s.tap ∧ (State.resolve s i out).time = s.time ∧ (State.resolve s i out).thermal = s.thermal ∧ (State.resolve s i out).light = s.light ∧ (State.resolve s i out).adcA = s.adcA ∧ (State.resolve s i out).adcB = s.adcB ∧ (State.resolve s i out).amb = s.amb ∧ (State.resolve s i out).ports = s.ports ∧ (State.resolve s i out).nextFrame = s.nextFrame ∧ (State.resolve s i out).pipe = s.pipe ∧ (State.resolve s i out).ctxs = s.ctxs ∧ (State.resolve s i out).vs = s.vs ∧ (State.resolve s i out).former = s.former ∧ (State.resolve s i out).usb = s.usb ∧ (State.resolve s i out).ser = s.ser ∧ (State.resolve s i out).pair = s.pair ∧ (State.resolve s i out).fresh = s.fresh := by
  first
  | (unfold State.resolve; simp; done)
  | (unfold State.resolve; (try dsimp only); (repeat' split) <;> (first | rfl | (simp; done) | (simp_all; done) | (try simp)))
@[simp] theorem State.tileEcc_frame (s : State) (arg : Nat) :
    (State.tileEcc s arg).pending = s.pending ∧ (State.tileEcc s arg).identity = s.identity ∧ (State.tileEcc s arg).aon = s.aon ∧ (State.tileEcc s arg).pins = s.pins ∧ (State.tileEcc s arg).phase = s.phase ∧ (State.tileEcc s arg).boot = s.boot ∧ (State.tileEcc s arg).sys = s.sys ∧ (State.tileEcc s arg).balls = s.balls ∧ (State.tileEcc s arg).shadow = s.shadow ∧ (State.tileEcc s arg).faulted = s.faulted ∧ (State.tileEcc s arg).tap = s.tap ∧ (State.tileEcc s arg).time = s.time ∧ (State.tileEcc s arg).thermal = s.thermal ∧ (State.tileEcc s arg).light = s.light ∧ (State.tileEcc s arg).adcA = s.adcA ∧ (State.tileEcc s arg).adcB = s.adcB ∧ (State.tileEcc s arg).amb = s.amb ∧ (State.tileEcc s arg).ports = s.ports ∧ (State.tileEcc s arg).frames = s.frames ∧ (State.tileEcc s arg).nextFrame = s.nextFrame ∧ (State.tileEcc s arg).pipe = s.pipe ∧ (State.tileEcc s arg).ctxs = s.ctxs ∧ (State.tileEcc s arg).dec = s.dec ∧ (State.tileEcc s arg).vs = s.vs ∧ (State.tileEcc s arg).former = s.former ∧ (State.tileEcc s arg).usb = s.usb ∧ (State.tileEcc s arg).ser = s.ser ∧ (State.tileEcc s arg).pair = s.pair ∧ (State.tileEcc s arg).fab = s.fab ∧ (State.tileEcc s arg).fresh = s.fresh := by
  first
  | (unfold State.tileEcc; simp; done)
  | (unfold State.tileEcc; (try dsimp only); (repeat' split) <;> (first | rfl | (simp; done) | (simp_all; done) | (try simp)))
@[simp] theorem State.failBusy_frame (n : Nat) (s : State) (i : Fin 16) :
    (State.failBusy n s i).pending = s.pending ∧ (State.failBusy n s i).identity = s.identity ∧ (State.failBusy n s i).aon = s.aon ∧ (State.failBusy n s i).pins = s.pins ∧ (State.failBusy n s i).phase = s.phase ∧ (State.failBusy n s i).boot = s.boot ∧ (State.failBusy n s i).sys = s.sys ∧ (State.failBusy n s i).balls = s.balls ∧ (State.failBusy n s i).shadow = s.shadow ∧ (State.failBusy n s i).trowels = s.trowels ∧ (State.failBusy n s i).faulted = s.faulted ∧ (State.failBusy n s i).bb = s.bb ∧ (State.failBusy n s i).tap = s.tap ∧ (State.failBusy n s i).time = s.time ∧ (State.failBusy n s i).thermal = s.thermal ∧ (State.failBusy n s i).light = s.light ∧ (State.failBusy n s i).adcA = s.adcA ∧ (State.failBusy n s i).adcB = s.adcB ∧ (State.failBusy n s i).amb = s.amb ∧ (State.failBusy n s i).ports = s.ports ∧ (State.failBusy n s i).nextFrame = s.nextFrame ∧ (State.failBusy n s i).pipe = s.pipe ∧ (State.failBusy n s i).ctxs = s.ctxs ∧ (State.failBusy n s i).vs = s.vs ∧ (State.failBusy n s i).former = s.former ∧ (State.failBusy n s i).usb = s.usb ∧ (State.failBusy n s i).ser = s.ser ∧ (State.failBusy n s i).pair = s.pair ∧ (State.failBusy n s i).fresh = s.fresh := by
  first
  | (unfold State.failBusy; simp; done)
  | (unfold State.failBusy; (try dsimp only); (repeat' split) <;> (first | rfl | (simp; done) | (simp_all; done) | (try simp)))
@[simp] theorem State.failWaiting_frame (s : State) (c : Candidate) :
    (State.failWaiting s c).pending = s.pending ∧ (State.failWaiting s c).identity = s.identity ∧ (State.failWaiting s c).aon = s.aon ∧ (State.failWaiting s c).pins = s.pins ∧ (State.failWaiting s c).phase = s.phase ∧ (State.failWaiting s c).boot = s.boot ∧ (State.failWaiting s c).sys = s.sys ∧ (State.failWaiting s c).balls = s.balls ∧ (State.failWaiting s c).shadow = s.shadow ∧ (State.failWaiting s c).trowels = s.trowels ∧ (State.failWaiting s c).faulted = s.faulted ∧ (State.failWaiting s c).bb = s.bb ∧ (State.failWaiting s c).tap = s.tap ∧ (State.failWaiting s c).time = s.time ∧ (State.failWaiting s c).thermal = s.thermal ∧ (State.failWaiting s c).light = s.light ∧ (State.failWaiting s c).adcA = s.adcA ∧ (State.failWaiting s c).adcB = s.adcB ∧ (State.failWaiting s c).amb = s.amb ∧ (State.failWaiting s c).ports = s.ports ∧ (State.failWaiting s c).nextFrame = s.nextFrame ∧ (State.failWaiting s c).pipe = s.pipe ∧ (State.failWaiting s c).ctxs = s.ctxs ∧ (State.failWaiting s c).dec = s.dec ∧ (State.failWaiting s c).vs = s.vs ∧ (State.failWaiting s c).former = s.former ∧ (State.failWaiting s c).usb = s.usb ∧ (State.failWaiting s c).ser = s.ser ∧ (State.failWaiting s c).pair = s.pair ∧ (State.failWaiting s c).fab = s.fab ∧ (State.failWaiting s c).fresh = s.fresh := by
  first
  | (unfold State.failWaiting; simp; done)
  | (unfold State.failWaiting; (try dsimp only); (repeat' split) <;> (first | rfl | (simp; done) | (simp_all; done) | (try simp)))
@[simp] theorem State.recordBroken_frame (s : State) (n : Nat) :
    (State.recordBroken s n).pending = s.pending ∧ (State.recordBroken s n).identity = s.identity ∧ (State.recordBroken s n).aon = s.aon ∧ (State.recordBroken s n).pins = s.pins ∧ (State.recordBroken s n).phase = s.phase ∧ (State.recordBroken s n).boot = s.boot ∧ (State.recordBroken s n).sys = s.sys ∧ (State.recordBroken s n).balls = s.balls ∧ (State.recordBroken s n).shadow = s.shadow ∧ (State.recordBroken s n).trowels = s.trowels ∧ (State.recordBroken s n).faulted = s.faulted ∧ (State.recordBroken s n).bb = s.bb ∧ (State.recordBroken s n).tap = s.tap ∧ (State.recordBroken s n).time = s.time ∧ (State.recordBroken s n).thermal = s.thermal ∧ (State.recordBroken s n).light = s.light ∧ (State.recordBroken s n).adcA = s.adcA ∧ (State.recordBroken s n).adcB = s.adcB ∧ (State.recordBroken s n).amb = s.amb ∧ (State.recordBroken s n).ports = s.ports ∧ (State.recordBroken s n).nextFrame = s.nextFrame ∧ (State.recordBroken s n).pipe = s.pipe ∧ (State.recordBroken s n).ctxs = s.ctxs ∧ (State.recordBroken s n).vs = s.vs ∧ (State.recordBroken s n).former = s.former ∧ (State.recordBroken s n).usb = s.usb ∧ (State.recordBroken s n).ser = s.ser ∧ (State.recordBroken s n).pair = s.pair ∧ (State.recordBroken s n).fresh = s.fresh := by
  first
  | (unfold State.recordBroken; simp; done)
  | (unfold State.recordBroken; (try dsimp only); (repeat' split) <;> (first | rfl | (simp; done) | (simp_all; done) | (try simp)))
@[simp] theorem State.markBad_frame (s : State) (w n : Nat) :
    (State.markBad s w n).pending = s.pending ∧ (State.markBad s w n).identity = s.identity ∧ (State.markBad s w n).aon = s.aon ∧ (State.markBad s w n).pins = s.pins ∧ (State.markBad s w n).phase = s.phase ∧ (State.markBad s w n).boot = s.boot ∧ (State.markBad s w n).sys = s.sys ∧ (State.markBad s w n).balls = s.balls ∧ (State.markBad s w n).fields = s.fields ∧ (State.markBad s w n).shadow = s.shadow ∧ (State.markBad s w n).trowels = s.trowels ∧ (State.markBad s w n).faulted = s.faulted ∧ (State.markBad s w n).bb = s.bb ∧ (State.markBad s w n).tap = s.tap ∧ (State.markBad s w n).time = s.time ∧ (State.markBad s w n).thermal = s.thermal ∧ (State.markBad s w n).light = s.light ∧ (State.markBad s w n).adcA = s.adcA ∧ (State.markBad s w n).adcB = s.adcB ∧ (State.markBad s w n).amb = s.amb ∧ (State.markBad s w n).ports = s.ports ∧ (State.markBad s w n).frames = s.frames ∧ (State.markBad s w n).nextFrame = s.nextFrame ∧ (State.markBad s w n).pipe = s.pipe ∧ (State.markBad s w n).ctxs = s.ctxs ∧ (State.markBad s w n).vs = s.vs ∧ (State.markBad s w n).former = s.former ∧ (State.markBad s w n).usb = s.usb ∧ (State.markBad s w n).ser = s.ser ∧ (State.markBad s w n).pair = s.pair ∧ (State.markBad s w n).fab = s.fab ∧ (State.markBad s w n).fresh = s.fresh := by
  first
  | (unfold State.markBad; simp; done)
  | (unfold State.markBad; (try dsimp only); (repeat' split) <;> (first | rfl | (simp; done) | (simp_all; done) | (try simp)))
@[simp] theorem State.storeRead_frame (s : State) (w : Nat) (f : StoreFinding) :
    (State.storeRead s w f).pending = s.pending ∧ (State.storeRead s w f).identity = s.identity ∧ (State.storeRead s w f).aon = s.aon ∧ (State.storeRead s w f).pins = s.pins ∧ (State.storeRead s w f).phase = s.phase ∧ (State.storeRead s w f).boot = s.boot ∧ (State.storeRead s w f).sys = s.sys ∧ (State.storeRead s w f).balls = s.balls ∧ (State.storeRead s w f).shadow = s.shadow ∧ (State.storeRead s w f).faulted = s.faulted ∧ (State.storeRead s w f).tap = s.tap ∧ (State.storeRead s w f).time = s.time ∧ (State.storeRead s w f).thermal = s.thermal ∧ (State.storeRead s w f).light = s.light ∧ (State.storeRead s w f).adcA = s.adcA ∧ (State.storeRead s w f).adcB = s.adcB ∧ (State.storeRead s w f).amb = s.amb ∧ (State.storeRead s w f).ports = s.ports ∧ (State.storeRead s w f).nextFrame = s.nextFrame ∧ (State.storeRead s w f).pipe = s.pipe ∧ (State.storeRead s w f).ctxs = s.ctxs ∧ (State.storeRead s w f).vs = s.vs ∧ (State.storeRead s w f).former = s.former ∧ (State.storeRead s w f).usb = s.usb ∧ (State.storeRead s w f).ser = s.ser ∧ (State.storeRead s w f).pair = s.pair ∧ (State.storeRead s w f).fresh = s.fresh := by
  unfold State.storeRead
  split
  · simp
  · simp
  · split
    · simp
    · dsimp only
      split <;> simp
theorem execTileScrub_frame (f : StoreFinding) (s : State) :
    ∃ u, execTileScrub f s = .next u ∧
    u.pending = s.pending ∧ u.identity = s.identity ∧ u.aon = s.aon ∧ u.pins = s.pins ∧ u.phase = s.phase ∧ u.boot = s.boot ∧ u.sys = s.sys ∧ u.balls = s.balls ∧ u.shadow = s.shadow ∧ u.faulted = s.faulted ∧ u.tap = s.tap ∧ u.time = s.time ∧ u.thermal = s.thermal ∧ u.light = s.light ∧ u.adcA = s.adcA ∧ u.adcB = s.adcB ∧ u.amb = s.amb ∧ u.ports = s.ports ∧ u.nextFrame = s.nextFrame ∧ u.pipe = s.pipe ∧ u.ctxs = s.ctxs ∧ u.vs = s.vs ∧ u.former = s.former ∧ u.usb = s.usb ∧ u.ser = s.ser ∧ u.pair = s.pair ∧ u.fresh = s.fresh := by
  refine ⟨_, rfl, ?_⟩
  first
  | (simp; done)
  | ((try simp only [State.whenRun, State.access, State.packet]); (repeat' split) <;> (first | rfl | (simp; done) | (simp_all; done) | (try simp)))
@[simp] theorem State.scrubStart_frame (s : State) :
    (State.scrubStart s).pending = s.pending ∧ (State.scrubStart s).identity = s.identity ∧ (State.scrubStart s).aon = s.aon ∧ (State.scrubStart s).pins = s.pins ∧ (State.scrubStart s).phase = s.phase ∧ (State.scrubStart s).boot = s.boot ∧ (State.scrubStart s).sys = s.sys ∧ (State.scrubStart s).balls = s.balls ∧ (State.scrubStart s).fields = s.fields ∧ (State.scrubStart s).shadow = s.shadow ∧ (State.scrubStart s).trowels = s.trowels ∧ (State.scrubStart s).faulted = s.faulted ∧ (State.scrubStart s).bb = s.bb ∧ (State.scrubStart s).tap = s.tap ∧ (State.scrubStart s).time = s.time ∧ (State.scrubStart s).thermal = s.thermal ∧ (State.scrubStart s).light = s.light ∧ (State.scrubStart s).adcA = s.adcA ∧ (State.scrubStart s).adcB = s.adcB ∧ (State.scrubStart s).amb = s.amb ∧ (State.scrubStart s).ports = s.ports ∧ (State.scrubStart s).frames = s.frames ∧ (State.scrubStart s).nextFrame = s.nextFrame ∧ (State.scrubStart s).pipe = s.pipe ∧ (State.scrubStart s).ctxs = s.ctxs ∧ (State.scrubStart s).vs = s.vs ∧ (State.scrubStart s).former = s.former ∧ (State.scrubStart s).usb = s.usb ∧ (State.scrubStart s).ser = s.ser ∧ (State.scrubStart s).pair = s.pair ∧ (State.scrubStart s).fab = s.fab ∧ (State.scrubStart s).fresh = s.fresh := by
  first
  | (unfold State.scrubStart; simp; done)
  | (unfold State.scrubStart; (try dsimp only); (repeat' split) <;> (first | rfl | (simp; done) | (simp_all; done) | (try simp)))
theorem execDecodeResolved_frame (core : Fin 16) (out : DecodeOutcome) (reads : List (Nat × StoreFinding)) (s : State) :
    ∃ u, execDecodeResolved core out s reads = .next u ∧
    u.pending = s.pending ∧ u.identity = s.identity ∧ u.aon = s.aon ∧ u.pins = s.pins ∧ u.phase = s.phase ∧ u.boot = s.boot ∧ u.sys = s.sys ∧ u.balls = s.balls ∧ u.shadow = s.shadow ∧ u.faulted = s.faulted ∧ u.tap = s.tap ∧ u.time = s.time ∧ u.thermal = s.thermal ∧ u.light = s.light ∧ u.adcA = s.adcA ∧ u.adcB = s.adcB ∧ u.amb = s.amb ∧ u.ports = s.ports ∧ u.nextFrame = s.nextFrame ∧ u.pipe = s.pipe ∧ u.ctxs = s.ctxs ∧ u.vs = s.vs ∧ u.former = s.former ∧ u.usb = s.usb ∧ u.ser = s.ser ∧ u.pair = s.pair ∧ u.fresh = s.fresh := by
  refine ⟨_, rfl, ?_⟩
  first
  | (simp; done)
  | ((try simp only [State.whenRun, State.access, State.packet]); (repeat' split) <;> (first | rfl | (simp; done) | (simp_all; done) | (try simp)))
theorem execCoreTimeExpiry_frame (core : Fin 16) (s : State) :
    ∃ u, execCoreTimeExpiry core s = .next u ∧
    u.pending = s.pending ∧ u.identity = s.identity ∧ u.aon = s.aon ∧ u.pins = s.pins ∧ u.phase = s.phase ∧ u.boot = s.boot ∧ u.sys = s.sys ∧ u.balls = s.balls ∧ u.shadow = s.shadow ∧ u.trowels = s.trowels ∧ u.faulted = s.faulted ∧ u.bb = s.bb ∧ u.tap = s.tap ∧ u.time = s.time ∧ u.thermal = s.thermal ∧ u.light = s.light ∧ u.adcA = s.adcA ∧ u.adcB = s.adcB ∧ u.amb = s.amb ∧ u.ports = s.ports ∧ u.nextFrame = s.nextFrame ∧ u.pipe = s.pipe ∧ u.ctxs = s.ctxs ∧ u.vs = s.vs ∧ u.former = s.former ∧ u.usb = s.usb ∧ u.ser = s.ser ∧ u.pair = s.pair ∧ u.fresh = s.fresh := by
  refine ⟨_, rfl, ?_⟩
  first
  | (simp; done)
  | ((try simp only [State.whenRun, State.access, State.packet]); (repeat' split) <;> (first | rfl | (simp; done) | (simp_all; done) | (try simp)))
theorem execResultArrival_frame (core : Fin 16) (s : State) :
    ∃ u, execResultArrival core s = .next u ∧
    u.pending = s.pending ∧ u.identity = s.identity ∧ u.aon = s.aon ∧ u.pins = s.pins ∧ u.phase = s.phase ∧ u.boot = s.boot ∧ u.sys = s.sys ∧ u.balls = s.balls ∧ u.shadow = s.shadow ∧ u.trowels = s.trowels ∧ u.faulted = s.faulted ∧ u.bb = s.bb ∧ u.tap = s.tap ∧ u.time = s.time ∧ u.thermal = s.thermal ∧ u.light = s.light ∧ u.adcA = s.adcA ∧ u.adcB = s.adcB ∧ u.amb = s.amb ∧ u.ports = s.ports ∧ u.nextFrame = s.nextFrame ∧ u.pipe = s.pipe ∧ u.ctxs = s.ctxs ∧ u.vs = s.vs ∧ u.usb = s.usb ∧ u.ser = s.ser ∧ u.pair = s.pair ∧ u.fab = s.fab ∧ u.fresh = s.fresh := by
  refine ⟨_, rfl, ?_⟩
  first
  | (simp; done)
  | ((try simp only [State.whenRun, State.access, State.packet]); (repeat' split) <;> (first | rfl | (simp; done) | (simp_all; done) | (try simp)))
@[simp] theorem State.passFrame_frame (s : State) (f : Frame) :
    (State.passFrame s f).pending = s.pending ∧ (State.passFrame s f).identity = s.identity ∧ (State.passFrame s f).aon = s.aon ∧ (State.passFrame s f).pins = s.pins ∧ (State.passFrame s f).phase = s.phase ∧ (State.passFrame s f).boot = s.boot ∧ (State.passFrame s f).sys = s.sys ∧ (State.passFrame s f).balls = s.balls ∧ (State.passFrame s f).shadow = s.shadow ∧ (State.passFrame s f).trowels = s.trowels ∧ (State.passFrame s f).faulted = s.faulted ∧ (State.passFrame s f).bb = s.bb ∧ (State.passFrame s f).tap = s.tap ∧ (State.passFrame s f).time = s.time ∧ (State.passFrame s f).thermal = s.thermal ∧ (State.passFrame s f).light = s.light ∧ (State.passFrame s f).adcA = s.adcA ∧ (State.passFrame s f).adcB = s.adcB ∧ (State.passFrame s f).amb = s.amb ∧ (State.passFrame s f).ports = s.ports ∧ (State.passFrame s f).nextFrame = s.nextFrame ∧ (State.passFrame s f).pipe = s.pipe ∧ (State.passFrame s f).ctxs = s.ctxs ∧ (State.passFrame s f).vs = s.vs ∧ (State.passFrame s f).former = s.former ∧ (State.passFrame s f).usb = s.usb ∧ (State.passFrame s f).ser = s.ser ∧ (State.passFrame s f).pair = s.pair ∧ (State.passFrame s f).fab = s.fab ∧ (State.passFrame s f).fresh = s.fresh := by
  first
  | (unfold State.passFrame; simp; done)
  | (unfold State.passFrame; (try dsimp only); (repeat' split) <;> (first | rfl | (simp; done) | (simp_all; done) | (try simp)))
theorem execClosingPassEnd_frame (k : CtxId) (fidx : Word) (s : State) :
    ∃ u, execClosingPassEnd k fidx s = .next u ∧
    u.pending = s.pending ∧ u.identity = s.identity ∧ u.aon = s.aon ∧ u.pins = s.pins ∧ u.phase = s.phase ∧ u.boot = s.boot ∧ u.sys = s.sys ∧ u.balls = s.balls ∧ u.shadow = s.shadow ∧ u.trowels = s.trowels ∧ u.faulted = s.faulted ∧ u.bb = s.bb ∧ u.tap = s.tap ∧ u.time = s.time ∧ u.thermal = s.thermal ∧ u.light = s.light ∧ u.adcA = s.adcA ∧ u.adcB = s.adcB ∧ u.amb = s.amb ∧ u.ports = s.ports ∧ u.nextFrame = s.nextFrame ∧ u.pipe = s.pipe ∧ u.ctxs = s.ctxs ∧ u.vs = s.vs ∧ u.former = s.former ∧ u.usb = s.usb ∧ u.ser = s.ser ∧ u.pair = s.pair ∧ u.fab = s.fab ∧ u.fresh = s.fresh := by
  refine ⟨_, rfl, ?_⟩
  first
  | (simp; done)
  | ((try simp only [State.whenRun, State.access, State.packet]); (repeat' split) <;> (first | rfl | (simp; done) | (simp_all; done) | (try simp)))
@[simp] theorem State.passIdle_frame (s : State) (k : CtxId) :
    (State.passIdle s k).pending = s.pending ∧ (State.passIdle s k).identity = s.identity ∧ (State.passIdle s k).aon = s.aon ∧ (State.passIdle s k).pins = s.pins ∧ (State.passIdle s k).phase = s.phase ∧ (State.passIdle s k).boot = s.boot ∧ (State.passIdle s k).sys = s.sys ∧ (State.passIdle s k).balls = s.balls ∧ (State.passIdle s k).shadow = s.shadow ∧ (State.passIdle s k).trowels = s.trowels ∧ (State.passIdle s k).faulted = s.faulted ∧ (State.passIdle s k).bb = s.bb ∧ (State.passIdle s k).tap = s.tap ∧ (State.passIdle s k).time = s.time ∧ (State.passIdle s k).thermal = s.thermal ∧ (State.passIdle s k).light = s.light ∧ (State.passIdle s k).adcA = s.adcA ∧ (State.passIdle s k).adcB = s.adcB ∧ (State.passIdle s k).amb = s.amb ∧ (State.passIdle s k).ports = s.ports ∧ (State.passIdle s k).nextFrame = s.nextFrame ∧ (State.passIdle s k).pipe = s.pipe ∧ (State.passIdle s k).ctxs = s.ctxs ∧ (State.passIdle s k).vs = s.vs ∧ (State.passIdle s k).former = s.former ∧ (State.passIdle s k).usb = s.usb ∧ (State.passIdle s k).ser = s.ser ∧ (State.passIdle s k).pair = s.pair ∧ (State.passIdle s k).fab = s.fab ∧ (State.passIdle s k).fresh = s.fresh := by
  first
  | (unfold State.passIdle; simp; done)
  | (unfold State.passIdle; (try dsimp only); (repeat' split) <;> (first | rfl | (simp; done) | (simp_all; done) | (try simp)))
@[simp] theorem State.giveNotice_frame (s : State) (k : CtxId) :
    (State.giveNotice s k).pending = s.pending ∧ (State.giveNotice s k).identity = s.identity ∧ (State.giveNotice s k).aon = s.aon ∧ (State.giveNotice s k).pins = s.pins ∧ (State.giveNotice s k).phase = s.phase ∧ (State.giveNotice s k).boot = s.boot ∧ (State.giveNotice s k).sys = s.sys ∧ (State.giveNotice s k).balls = s.balls ∧ (State.giveNotice s k).fields = s.fields ∧ (State.giveNotice s k).shadow = s.shadow ∧ (State.giveNotice s k).trowels = s.trowels ∧ (State.giveNotice s k).faulted = s.faulted ∧ (State.giveNotice s k).bb = s.bb ∧ (State.giveNotice s k).tap = s.tap ∧ (State.giveNotice s k).time = s.time ∧ (State.giveNotice s k).thermal = s.thermal ∧ (State.giveNotice s k).light = s.light ∧ (State.giveNotice s k).adcA = s.adcA ∧ (State.giveNotice s k).adcB = s.adcB ∧ (State.giveNotice s k).amb = s.amb ∧ (State.giveNotice s k).ports = s.ports ∧ (State.giveNotice s k).nextFrame = s.nextFrame ∧ (State.giveNotice s k).pipe = s.pipe ∧ (State.giveNotice s k).ctxs = s.ctxs ∧ (State.giveNotice s k).vs = s.vs ∧ (State.giveNotice s k).former = s.former ∧ (State.giveNotice s k).usb = s.usb ∧ (State.giveNotice s k).ser = s.ser ∧ (State.giveNotice s k).pair = s.pair ∧ (State.giveNotice s k).fab = s.fab ∧ (State.giveNotice s k).fresh = s.fresh := by
  first
  | (unfold State.giveNotice; simp; done)
  | (unfold State.giveNotice; (try dsimp only); (repeat' split) <;> (first | rfl | (simp; done) | (simp_all; done) | (try simp)))
theorem execFrameDecideNotice_frame (k : CtxId) (s : State) :
    ∃ u, execFrameDecideNotice k s = .next u ∧
    u.pending = s.pending ∧ u.identity = s.identity ∧ u.aon = s.aon ∧ u.pins = s.pins ∧ u.phase = s.phase ∧ u.boot = s.boot ∧ u.sys = s.sys ∧ u.balls = s.balls ∧ u.shadow = s.shadow ∧ u.trowels = s.trowels ∧ u.faulted = s.faulted ∧ u.bb = s.bb ∧ u.tap = s.tap ∧ u.time = s.time ∧ u.thermal = s.thermal ∧ u.light = s.light ∧ u.adcA = s.adcA ∧ u.adcB = s.adcB ∧ u.amb = s.amb ∧ u.ports = s.ports ∧ u.nextFrame = s.nextFrame ∧ u.pipe = s.pipe ∧ u.ctxs = s.ctxs ∧ u.vs = s.vs ∧ u.former = s.former ∧ u.usb = s.usb ∧ u.ser = s.ser ∧ u.pair = s.pair ∧ u.fab = s.fab ∧ u.fresh = s.fresh := by
  refine ⟨_, rfl, ?_⟩
  first
  | (simp; done)
  | ((try simp only [State.whenRun, State.access, State.packet]); (repeat' split) <;> (first | rfl | (simp; done) | (simp_all; done) | (try simp)))
theorem execNoticeArrival_frame (s : State) :
    ∃ u, execNoticeArrival s = .next u ∧
    u.pending = s.pending ∧ u.identity = s.identity ∧ u.aon = s.aon ∧ u.pins = s.pins ∧ u.phase = s.phase ∧ u.boot = s.boot ∧ u.sys = s.sys ∧ u.balls = s.balls ∧ u.fields = s.fields ∧ u.shadow = s.shadow ∧ u.trowels = s.trowels ∧ u.faulted = s.faulted ∧ u.bb = s.bb ∧ u.tap = s.tap ∧ u.time = s.time ∧ u.thermal = s.thermal ∧ u.light = s.light ∧ u.adcA = s.adcA ∧ u.adcB = s.adcB ∧ u.amb = s.amb ∧ u.ports = s.ports ∧ u.frames = s.frames ∧ u.nextFrame = s.nextFrame ∧ u.pipe = s.pipe ∧ u.ctxs = s.ctxs ∧ u.former = s.former ∧ u.usb = s.usb ∧ u.ser = s.ser ∧ u.pair = s.pair ∧ u.fab = s.fab ∧ u.fresh = s.fresh := by
  refine ⟨_, rfl, ?_⟩
  first
  | (simp; done)
  | ((try simp only [State.whenRun, State.access, State.packet]); (repeat' split) <;> (first | rfl | (simp; done) | (simp_all; done) | (try simp)))
@[simp] theorem State.decStop_frame (s : State) :
    (State.decStop s).pending = s.pending ∧ (State.decStop s).identity = s.identity ∧ (State.decStop s).aon = s.aon ∧ (State.decStop s).pins = s.pins ∧ (State.decStop s).phase = s.phase ∧ (State.decStop s).boot = s.boot ∧ (State.decStop s).sys = s.sys ∧ (State.decStop s).balls = s.balls ∧ (State.decStop s).shadow = s.shadow ∧ (State.decStop s).trowels = s.trowels ∧ (State.decStop s).faulted = s.faulted ∧ (State.decStop s).bb = s.bb ∧ (State.decStop s).tap = s.tap ∧ (State.decStop s).time = s.time ∧ (State.decStop s).thermal = s.thermal ∧ (State.decStop s).light = s.light ∧ (State.decStop s).adcA = s.adcA ∧ (State.decStop s).adcB = s.adcB ∧ (State.decStop s).amb = s.amb ∧ (State.decStop s).ports = s.ports ∧ (State.decStop s).nextFrame = s.nextFrame ∧ (State.decStop s).pipe = s.pipe ∧ (State.decStop s).ctxs = s.ctxs ∧ (State.decStop s).vs = s.vs ∧ (State.decStop s).former = s.former ∧ (State.decStop s).usb = s.usb ∧ (State.decStop s).ser = s.ser ∧ (State.decStop s).pair = s.pair ∧ (State.decStop s).fab = s.fab ∧ (State.decStop s).fresh = s.fresh := by
  first
  | (unfold State.decStop; simp; done)
  | (unfold State.decStop; (try dsimp only); (repeat' split) <;> (first | rfl | (simp; done) | (simp_all; done) | (try simp)))
@[simp] theorem State.decNow_frame (s : State) (a : Nat) (v : Word) :
    (State.decNow s a v).pending = s.pending ∧ (State.decNow s a v).identity = s.identity ∧ (State.decNow s a v).aon = s.aon ∧ (State.decNow s a v).pins = s.pins ∧ (State.decNow s a v).phase = s.phase ∧ (State.decNow s a v).boot = s.boot ∧ (State.decNow s a v).sys = s.sys ∧ (State.decNow s a v).balls = s.balls ∧ (State.decNow s a v).shadow = s.shadow ∧ (State.decNow s a v).trowels = s.trowels ∧ (State.decNow s a v).faulted = s.faulted ∧ (State.decNow s a v).bb = s.bb ∧ (State.decNow s a v).tap = s.tap ∧ (State.decNow s a v).time = s.time ∧ (State.decNow s a v).thermal = s.thermal ∧ (State.decNow s a v).light = s.light ∧ (State.decNow s a v).adcA = s.adcA ∧ (State.decNow s a v).adcB = s.adcB ∧ (State.decNow s a v).amb = s.amb ∧ (State.decNow s a v).ports = s.ports ∧ (State.decNow s a v).nextFrame = s.nextFrame ∧ (State.decNow s a v).pipe = s.pipe ∧ (State.decNow s a v).ctxs = s.ctxs ∧ (State.decNow s a v).vs = s.vs ∧ (State.decNow s a v).former = s.former ∧ (State.decNow s a v).usb = s.usb ∧ (State.decNow s a v).ser = s.ser ∧ (State.decNow s a v).pair = s.pair ∧ (State.decNow s a v).fab = s.fab ∧ (State.decNow s a v).fresh = s.fresh := by
  first
  | (unfold State.decNow; simp; done)
  | (unfold State.decNow; (try dsimp only); (repeat' split) <;> (first | rfl | (simp; done) | (simp_all; done) | (try simp)))
@[simp] theorem State.jointEnd_frame (s : State) :
    (State.jointEnd s).pending = s.pending ∧ (State.jointEnd s).identity = s.identity ∧ (State.jointEnd s).aon = s.aon ∧ (State.jointEnd s).pins = s.pins ∧ (State.jointEnd s).phase = s.phase ∧ (State.jointEnd s).boot = s.boot ∧ (State.jointEnd s).sys = s.sys ∧ (State.jointEnd s).balls = s.balls ∧ (State.jointEnd s).fields = s.fields ∧ (State.jointEnd s).shadow = s.shadow ∧ (State.jointEnd s).trowels = s.trowels ∧ (State.jointEnd s).faulted = s.faulted ∧ (State.jointEnd s).bb = s.bb ∧ (State.jointEnd s).tap = s.tap ∧ (State.jointEnd s).time = s.time ∧ (State.jointEnd s).thermal = s.thermal ∧ (State.jointEnd s).light = s.light ∧ (State.jointEnd s).adcA = s.adcA ∧ (State.jointEnd s).adcB = s.adcB ∧ (State.jointEnd s).amb = s.amb ∧ (State.jointEnd s).ports = s.ports ∧ (State.jointEnd s).frames = s.frames ∧ (State.jointEnd s).nextFrame = s.nextFrame ∧ (State.jointEnd s).pipe = s.pipe ∧ (State.jointEnd s).ctxs = s.ctxs ∧ (State.jointEnd s).vs = s.vs ∧ (State.jointEnd s).former = s.former ∧ (State.jointEnd s).usb = s.usb ∧ (State.jointEnd s).ser = s.ser ∧ (State.jointEnd s).pair = s.pair ∧ (State.jointEnd s).fab = s.fab ∧ (State.jointEnd s).fresh = s.fresh := by
  first
  | (unfold State.jointEnd; simp; done)
  | (unfold State.jointEnd; (try dsimp only); (repeat' split) <;> (first | rfl | (simp; done) | (simp_all; done) | (try simp)))
end Sys2Proof.Machine
end

