-- ==== Sys2Proof/Laws/FrameLinks.lean ====
section
/-! SUPPORT. Frames: which parts of the state each operation of Machine/Links leaves as they were. -/

namespace Sys2Proof.Machine
@[simp] theorem State.pairSend_frame (s : State) (m : PairMsg) :
    (State.pairSend s m).pending = s.pending ∧ (State.pairSend s m).identity = s.identity ∧ (State.pairSend s m).aon = s.aon ∧ (State.pairSend s m).pins = s.pins ∧ (State.pairSend s m).phase = s.phase ∧ (State.pairSend s m).boot = s.boot ∧ (State.pairSend s m).sys = s.sys ∧ (State.pairSend s m).balls = s.balls ∧ (State.pairSend s m).fields = s.fields ∧ (State.pairSend s m).shadow = s.shadow ∧ (State.pairSend s m).trowels = s.trowels ∧ (State.pairSend s m).faulted = s.faulted ∧ (State.pairSend s m).bb = s.bb ∧ (State.pairSend s m).tap = s.tap ∧ (State.pairSend s m).time = s.time ∧ (State.pairSend s m).thermal = s.thermal ∧ (State.pairSend s m).light = s.light ∧ (State.pairSend s m).adcA = s.adcA ∧ (State.pairSend s m).adcB = s.adcB ∧ (State.pairSend s m).amb = s.amb ∧ (State.pairSend s m).ports = s.ports ∧ (State.pairSend s m).frames = s.frames ∧ (State.pairSend s m).nextFrame = s.nextFrame ∧ (State.pairSend s m).pipe = s.pipe ∧ (State.pairSend s m).ctxs = s.ctxs ∧ (State.pairSend s m).dec = s.dec ∧ (State.pairSend s m).vs = s.vs ∧ (State.pairSend s m).former = s.former ∧ (State.pairSend s m).usb = s.usb ∧ (State.pairSend s m).ser = s.ser ∧ (State.pairSend s m).fab = s.fab ∧ (State.pairSend s m).fresh = s.fresh := by
  first
  | (unfold State.pairSend; simp; done)
  | (unfold State.pairSend; (try dsimp only); (repeat' split) <;> (first | rfl | (simp; done) | (simp_all; done) | (try simp)))
@[simp] theorem State.mirror_frame (s : State) (m : PairMsg) :
    (State.mirror s m).pending = s.pending ∧ (State.mirror s m).identity = s.identity ∧ (State.mirror s m).aon = s.aon ∧ (State.mirror s m).pins = s.pins ∧ (State.mirror s m).phase = s.phase ∧ (State.mirror s m).boot = s.boot ∧ (State.mirror s m).sys = s.sys ∧ (State.mirror s m).balls = s.balls ∧ (State.mirror s m).fields = s.fields ∧ (State.mirror s m).shadow = s.shadow ∧ (State.mirror s m).trowels = s.trowels ∧ (State.mirror s m).faulted = s.faulted ∧ (State.mirror s m).bb = s.bb ∧ (State.mirror s m).tap = s.tap ∧ (State.mirror s m).time = s.time ∧ (State.mirror s m).thermal = s.thermal ∧ (State.mirror s m).light = s.light ∧ (State.mirror s m).adcA = s.adcA ∧ (State.mirror s m).adcB = s.adcB ∧ (State.mirror s m).amb = s.amb ∧ (State.mirror s m).ports = s.ports ∧ (State.mirror s m).frames = s.frames ∧ (State.mirror s m).nextFrame = s.nextFrame ∧ (State.mirror s m).pipe = s.pipe ∧ (State.mirror s m).ctxs = s.ctxs ∧ (State.mirror s m).dec = s.dec ∧ (State.mirror s m).vs = s.vs ∧ (State.mirror s m).former = s.former ∧ (State.mirror s m).usb = s.usb ∧ (State.mirror s m).ser = s.ser ∧ (State.mirror s m).fab = s.fab ∧ (State.mirror s m).fresh = s.fresh := by
  first
  | (unfold State.mirror; simp; done)
  | (unfold State.mirror; (try dsimp only); (repeat' split) <;> (first | rfl | (simp; done) | (simp_all; done) | (try simp)))
@[simp] theorem State.usbStart_frame (s : State) :
    (State.usbStart s).pending = s.pending ∧ (State.usbStart s).identity = s.identity ∧ (State.usbStart s).aon = s.aon ∧ (State.usbStart s).pins = s.pins ∧ (State.usbStart s).phase = s.phase ∧ (State.usbStart s).boot = s.boot ∧ (State.usbStart s).sys = s.sys ∧ (State.usbStart s).balls = s.balls ∧ (State.usbStart s).fields = s.fields ∧ (State.usbStart s).shadow = s.shadow ∧ (State.usbStart s).trowels = s.trowels ∧ (State.usbStart s).faulted = s.faulted ∧ (State.usbStart s).bb = s.bb ∧ (State.usbStart s).tap = s.tap ∧ (State.usbStart s).time = s.time ∧ (State.usbStart s).thermal = s.thermal ∧ (State.usbStart s).light = s.light ∧ (State.usbStart s).adcA = s.adcA ∧ (State.usbStart s).adcB = s.adcB ∧ (State.usbStart s).amb = s.amb ∧ (State.usbStart s).ports = s.ports ∧ (State.usbStart s).frames = s.frames ∧ (State.usbStart s).nextFrame = s.nextFrame ∧ (State.usbStart s).pipe = s.pipe ∧ (State.usbStart s).ctxs = s.ctxs ∧ (State.usbStart s).dec = s.dec ∧ (State.usbStart s).vs = s.vs ∧ (State.usbStart s).former = s.former ∧ (State.usbStart s).ser = s.ser ∧ (State.usbStart s).pair = s.pair ∧ (State.usbStart s).fresh = s.fresh := by
  first
  | (unfold State.usbStart; simp; done)
  | (unfold State.usbStart; (try dsimp only); (repeat' split) <;> (first | rfl | (simp; done) | (simp_all; done) | (try simp)))
@[simp] theorem State.usbDrop_frame (s : State) :
    (State.usbDrop s).pending = s.pending ∧ (State.usbDrop s).identity = s.identity ∧ (State.usbDrop s).aon = s.aon ∧ (State.usbDrop s).pins = s.pins ∧ (State.usbDrop s).phase = s.phase ∧ (State.usbDrop s).boot = s.boot ∧ (State.usbDrop s).sys = s.sys ∧ (State.usbDrop s).balls = s.balls ∧ (State.usbDrop s).shadow = s.shadow ∧ (State.usbDrop s).trowels = s.trowels ∧ (State.usbDrop s).faulted = s.faulted ∧ (State.usbDrop s).bb = s.bb ∧ (State.usbDrop s).tap = s.tap ∧ (State.usbDrop s).time = s.time ∧ (State.usbDrop s).thermal = s.thermal ∧ (State.usbDrop s).light = s.light ∧ (State.usbDrop s).adcA = s.adcA ∧ (State.usbDrop s).adcB = s.adcB ∧ (State.usbDrop s).amb = s.amb ∧ (State.usbDrop s).ports = s.ports ∧ (State.usbDrop s).frames = s.frames ∧ (State.usbDrop s).nextFrame = s.nextFrame ∧ (State.usbDrop s).pipe = s.pipe ∧ (State.usbDrop s).ctxs = s.ctxs ∧ (State.usbDrop s).dec = s.dec ∧ (State.usbDrop s).vs = s.vs ∧ (State.usbDrop s).former = s.former ∧ (State.usbDrop s).ser = s.ser ∧ (State.usbDrop s).fab = s.fab ∧ (State.usbDrop s).fresh = s.fresh := by
  first
  | (unfold State.usbDrop; simp; done)
  | (unfold State.usbDrop; (try dsimp only); (repeat' split) <;> (first | rfl | (simp; done) | (simp_all; done) | (try simp)))
@[simp] theorem State.usbRoom_frame (n : Nat) (s : State) (k : Nat) :
    (State.usbRoom n s k).pending = s.pending ∧ (State.usbRoom n s k).identity = s.identity ∧ (State.usbRoom n s k).aon = s.aon ∧ (State.usbRoom n s k).pins = s.pins ∧ (State.usbRoom n s k).phase = s.phase ∧ (State.usbRoom n s k).boot = s.boot ∧ (State.usbRoom n s k).sys = s.sys ∧ (State.usbRoom n s k).balls = s.balls ∧ (State.usbRoom n s k).shadow = s.shadow ∧ (State.usbRoom n s k).trowels = s.trowels ∧ (State.usbRoom n s k).bb = s.bb ∧ (State.usbRoom n s k).tap = s.tap ∧ (State.usbRoom n s k).time = s.time ∧ (State.usbRoom n s k).thermal = s.thermal ∧ (State.usbRoom n s k).light = s.light ∧ (State.usbRoom n s k).adcA = s.adcA ∧ (State.usbRoom n s k).adcB = s.adcB ∧ (State.usbRoom n s k).amb = s.amb ∧ (State.usbRoom n s k).ports = s.ports ∧ (State.usbRoom n s k).frames = s.frames ∧ (State.usbRoom n s k).nextFrame = s.nextFrame ∧ (State.usbRoom n s k).ctxs = s.ctxs ∧ (State.usbRoom n s k).dec = s.dec ∧ (State.usbRoom n s k).vs = s.vs ∧ (State.usbRoom n s k).former = s.former ∧ (State.usbRoom n s k).ser = s.ser ∧ (State.usbRoom n s k).fab = s.fab ∧ (State.usbRoom n s k).fresh = s.fresh := by
  induction n generalizing s with
  | zero => simp [State.usbRoom]
  | succ n ih =>
    rw [State.usbRoom]; (try dsimp only); (repeat' split) <;> (first | rfl | (simp; done) | (simp [ih]; done) | (simp_all; done) | (try simp [ih]))
@[simp] theorem State.usbPush_frame (s : State) (r : List Byte) :
    (State.usbPush s r).pending = s.pending ∧ (State.usbPush s r).identity = s.identity ∧ (State.usbPush s r).aon = s.aon ∧ (State.usbPush s r).pins = s.pins ∧ (State.usbPush s r).phase = s.phase ∧ (State.usbPush s r).boot = s.boot ∧ (State.usbPush s r).sys = s.sys ∧ (State.usbPush s r).balls = s.balls ∧ (State.usbPush s r).shadow = s.shadow ∧ (State.usbPush s r).trowels = s.trowels ∧ (State.usbPush s r).bb = s.bb ∧ (State.usbPush s r).tap = s.tap ∧ (State.usbPush s r).time = s.time ∧ (State.usbPush s r).thermal = s.thermal ∧ (State.usbPush s r).light = s.light ∧ (State.usbPush s r).adcA = s.adcA ∧ (State.usbPush s r).adcB = s.adcB ∧ (State.usbPush s r).amb = s.amb ∧ (State.usbPush s r).ports = s.ports ∧ (State.usbPush s r).frames = s.frames ∧ (State.usbPush s r).nextFrame = s.nextFrame ∧ (State.usbPush s r).ctxs = s.ctxs ∧ (State.usbPush s r).dec = s.dec ∧ (State.usbPush s r).vs = s.vs ∧ (State.usbPush s r).former = s.former ∧ (State.usbPush s r).ser = s.ser ∧ (State.usbPush s r).fresh = s.fresh := by
  first
  | (unfold State.usbPush; simp; done)
  | (unfold State.usbPush; (try dsimp only); (repeat' split) <;> (first | rfl | (simp; done) | (simp_all; done) | (try simp)))
@[simp] theorem State.serPush_frame (s : State) (r : List Byte) :
    (State.serPush s r).pending = s.pending ∧ (State.serPush s r).identity = s.identity ∧ (State.serPush s r).aon = s.aon ∧ (State.serPush s r).pins = s.pins ∧ (State.serPush s r).phase = s.phase ∧ (State.serPush s r).boot = s.boot ∧ (State.serPush s r).sys = s.sys ∧ (State.serPush s r).balls = s.balls ∧ (State.serPush s r).shadow = s.shadow ∧ (State.serPush s r).trowels = s.trowels ∧ (State.serPush s r).faulted = s.faulted ∧ (State.serPush s r).bb = s.bb ∧ (State.serPush s r).tap = s.tap ∧ (State.serPush s r).time = s.time ∧ (State.serPush s r).thermal = s.thermal ∧ (State.serPush s r).light = s.light ∧ (State.serPush s r).adcA = s.adcA ∧ (State.serPush s r).adcB = s.adcB ∧ (State.serPush s r).amb = s.amb ∧ (State.serPush s r).ports = s.ports ∧ (State.serPush s r).frames = s.frames ∧ (State.serPush s r).nextFrame = s.nextFrame ∧ (State.serPush s r).pipe = s.pipe ∧ (State.serPush s r).ctxs = s.ctxs ∧ (State.serPush s r).dec = s.dec ∧ (State.serPush s r).vs = s.vs ∧ (State.serPush s r).former = s.former ∧ (State.serPush s r).usb = s.usb ∧ (State.serPush s r).fab = s.fab ∧ (State.serPush s r).fresh = s.fresh := by
  first
  | (unfold State.serPush; simp; done)
  | (unfold State.serPush; (try dsimp only); (repeat' split) <;> (first | rfl | (simp; done) | (simp_all; done) | (try simp)))
@[simp] theorem State.gwPump_frame (n : Nat) (s : State) :
    (State.gwPump n s).pending = s.pending ∧ (State.gwPump n s).identity = s.identity ∧ (State.gwPump n s).aon = s.aon ∧ (State.gwPump n s).pins = s.pins ∧ (State.gwPump n s).phase = s.phase ∧ (State.gwPump n s).boot = s.boot ∧ (State.gwPump n s).sys = s.sys ∧ (State.gwPump n s).balls = s.balls ∧ (State.gwPump n s).shadow = s.shadow ∧ (State.gwPump n s).trowels = s.trowels ∧ (State.gwPump n s).bb = s.bb ∧ (State.gwPump n s).tap = s.tap ∧ (State.gwPump n s).time = s.time ∧ (State.gwPump n s).thermal = s.thermal ∧ (State.gwPump n s).light = s.light ∧ (State.gwPump n s).adcA = s.adcA ∧ (State.gwPump n s).adcB = s.adcB ∧ (State.gwPump n s).amb = s.amb ∧ (State.gwPump n s).ports = s.ports ∧ (State.gwPump n s).frames = s.frames ∧ (State.gwPump n s).nextFrame = s.nextFrame ∧ (State.gwPump n s).ctxs = s.ctxs ∧ (State.gwPump n s).dec = s.dec ∧ (State.gwPump n s).vs = s.vs ∧ (State.gwPump n s).former = s.former ∧ (State.gwPump n s).usb = s.usb ∧ (State.gwPump n s).ser = s.ser ∧ (State.gwPump n s).pair = s.pair ∧ (State.gwPump n s).fresh = s.fresh := by
  induction n generalizing s with
  | zero => simp [State.gwPump]
  | succ n ih =>
    rw [State.gwPump]; (try dsimp only); (repeat' split) <;> (first | rfl | (simp; done) | (simp [ih]; done) | (simp_all; done) | (try simp [ih]))
@[simp] theorem State.gwRoom_frame (n : Nat) (s : State) (k : Nat) :
    (State.gwRoom n s k).pending = s.pending ∧ (State.gwRoom n s k).identity = s.identity ∧ (State.gwRoom n s k).aon = s.aon ∧ (State.gwRoom n s k).pins = s.pins ∧ (State.gwRoom n s k).phase = s.phase ∧ (State.gwRoom n s k).boot = s.boot ∧ (State.gwRoom n s k).sys = s.sys ∧ (State.gwRoom n s k).balls = s.balls ∧ (State.gwRoom n s k).shadow = s.shadow ∧ (State.gwRoom n s k).trowels = s.trowels ∧ (State.gwRoom n s k).bb = s.bb ∧ (State.gwRoom n s k).tap = s.tap ∧ (State.gwRoom n s k).time = s.time ∧ (State.gwRoom n s k).thermal = s.thermal ∧ (State.gwRoom n s k).light = s.light ∧ (State.gwRoom n s k).adcA = s.adcA ∧ (State.gwRoom n s k).adcB = s.adcB ∧ (State.gwRoom n s k).amb = s.amb ∧ (State.gwRoom n s k).ports = s.ports ∧ (State.gwRoom n s k).frames = s.frames ∧ (State.gwRoom n s k).nextFrame = s.nextFrame ∧ (State.gwRoom n s k).ctxs = s.ctxs ∧ (State.gwRoom n s k).dec = s.dec ∧ (State.gwRoom n s k).vs = s.vs ∧ (State.gwRoom n s k).former = s.former ∧ (State.gwRoom n s k).usb = s.usb ∧ (State.gwRoom n s k).ser = s.ser ∧ (State.gwRoom n s k).fresh = s.fresh := by
  induction n generalizing s with
  | zero => simp [State.gwRoom]
  | succ n ih =>
    rw [State.gwRoom]; (try dsimp only); (repeat' split) <;> (first | rfl | (simp; done) | (simp [ih]; done) | (simp_all; done) | (try simp [ih]))
@[simp] theorem State.gwPush_frame (s : State) (r : List Byte) :
    (State.gwPush s r).pending = s.pending ∧ (State.gwPush s r).identity = s.identity ∧ (State.gwPush s r).aon = s.aon ∧ (State.gwPush s r).pins = s.pins ∧ (State.gwPush s r).phase = s.phase ∧ (State.gwPush s r).boot = s.boot ∧ (State.gwPush s r).sys = s.sys ∧ (State.gwPush s r).balls = s.balls ∧ (State.gwPush s r).shadow = s.shadow ∧ (State.gwPush s r).trowels = s.trowels ∧ (State.gwPush s r).bb = s.bb ∧ (State.gwPush s r).tap = s.tap ∧ (State.gwPush s r).time = s.time ∧ (State.gwPush s r).thermal = s.thermal ∧ (State.gwPush s r).light = s.light ∧ (State.gwPush s r).adcA = s.adcA ∧ (State.gwPush s r).adcB = s.adcB ∧ (State.gwPush s r).amb = s.amb ∧ (State.gwPush s r).ports = s.ports ∧ (State.gwPush s r).frames = s.frames ∧ (State.gwPush s r).nextFrame = s.nextFrame ∧ (State.gwPush s r).ctxs = s.ctxs ∧ (State.gwPush s r).dec = s.dec ∧ (State.gwPush s r).vs = s.vs ∧ (State.gwPush s r).former = s.former ∧ (State.gwPush s r).usb = s.usb ∧ (State.gwPush s r).ser = s.ser ∧ (State.gwPush s r).fresh = s.fresh := by
  first
  | (unfold State.gwPush; simp; done)
  | (unfold State.gwPush; (try dsimp only); (repeat' split) <;> (first | rfl | (simp; done) | (simp_all; done) | (try simp)))
@[simp] theorem State.gwRestart_frame (s : State) :
    (State.gwRestart s).pending = s.pending ∧ (State.gwRestart s).identity = s.identity ∧ (State.gwRestart s).aon = s.aon ∧ (State.gwRestart s).pins = s.pins ∧ (State.gwRestart s).phase = s.phase ∧ (State.gwRestart s).boot = s.boot ∧ (State.gwRestart s).sys = s.sys ∧ (State.gwRestart s).balls = s.balls ∧ (State.gwRestart s).shadow = s.shadow ∧ (State.gwRestart s).trowels = s.trowels ∧ (State.gwRestart s).bb = s.bb ∧ (State.gwRestart s).tap = s.tap ∧ (State.gwRestart s).time = s.time ∧ (State.gwRestart s).thermal = s.thermal ∧ (State.gwRestart s).light = s.light ∧ (State.gwRestart s).adcA = s.adcA ∧ (State.gwRestart s).adcB = s.adcB ∧ (State.gwRestart s).amb = s.amb ∧ (State.gwRestart s).ports = s.ports ∧ (State.gwRestart s).frames = s.frames ∧ (State.gwRestart s).nextFrame = s.nextFrame ∧ (State.gwRestart s).ctxs = s.ctxs ∧ (State.gwRestart s).dec = s.dec ∧ (State.gwRestart s).vs = s.vs ∧ (State.gwRestart s).former = s.former ∧ (State.gwRestart s).usb = s.usb ∧ (State.gwRestart s).ser = s.ser ∧ (State.gwRestart s).pair = s.pair ∧ (State.gwRestart s).fresh = s.fresh := by
  first
  | (unfold State.gwRestart; simp; done)
  | (unfold State.gwRestart; (try dsimp only); (repeat' split) <;> (first | rfl | (simp; done) | (simp_all; done) | (try simp)))
@[simp] theorem State.toLinks_frame (s : State) (takes : State → LinkId → Bool) (r : List Byte) :
    (State.toLinks s takes r).pending = s.pending ∧ (State.toLinks s takes r).identity = s.identity ∧ (State.toLinks s takes r).aon = s.aon ∧ (State.toLinks s takes r).pins = s.pins ∧ (State.toLinks s takes r).phase = s.phase ∧ (State.toLinks s takes r).boot = s.boot ∧ (State.toLinks s takes r).sys = s.sys ∧ (State.toLinks s takes r).balls = s.balls ∧ (State.toLinks s takes r).shadow = s.shadow ∧ (State.toLinks s takes r).trowels = s.trowels ∧ (State.toLinks s takes r).bb = s.bb ∧ (State.toLinks s takes r).tap = s.tap ∧ (State.toLinks s takes r).time = s.time ∧ (State.toLinks s takes r).thermal = s.thermal ∧ (State.toLinks s takes r).light = s.light ∧ (State.toLinks s takes r).adcA = s.adcA ∧ (State.toLinks s takes r).adcB = s.adcB ∧ (State.toLinks s takes r).amb = s.amb ∧ (State.toLinks s takes r).ports = s.ports ∧ (State.toLinks s takes r).frames = s.frames ∧ (State.toLinks s takes r).nextFrame = s.nextFrame ∧ (State.toLinks s takes r).ctxs = s.ctxs ∧ (State.toLinks s takes r).dec = s.dec ∧ (State.toLinks s takes r).vs = s.vs ∧ (State.toLinks s takes r).former = s.former ∧ (State.toLinks s takes r).fresh = s.fresh := by
  first
  | (unfold State.toLinks; simp; done)
  | (unfold State.toLinks; (try dsimp only); (repeat' split) <;> (first | rfl | (simp; done) | (simp_all; done) | (try simp)))
end Sys2Proof.Machine
end

