-- ==== Sys2Proof/Laws/FrameRecord.lean ====
section
/-! SUPPORT. Frames: which parts of the state each operation of Machine/Record leaves as they were. -/

namespace Sys2Proof.Machine
@[simp] theorem State.askBlock_frame (s : State) :
    (State.askBlock s).pending = s.pending ∧ (State.askBlock s).identity = s.identity ∧ (State.askBlock s).aon = s.aon ∧ (State.askBlock s).pins = s.pins ∧ (State.askBlock s).phase = s.phase ∧ (State.askBlock s).boot = s.boot ∧ (State.askBlock s).sys = s.sys ∧ (State.askBlock s).balls = s.balls ∧ (State.askBlock s).fields = s.fields ∧ (State.askBlock s).shadow = s.shadow ∧ (State.askBlock s).trowels = s.trowels ∧ (State.askBlock s).faulted = s.faulted ∧ (State.askBlock s).bb = s.bb ∧ (State.askBlock s).tap = s.tap ∧ (State.askBlock s).time = s.time ∧ (State.askBlock s).thermal = s.thermal ∧ (State.askBlock s).light = s.light ∧ (State.askBlock s).adcA = s.adcA ∧ (State.askBlock s).adcB = s.adcB ∧ (State.askBlock s).amb = s.amb ∧ (State.askBlock s).ports = s.ports ∧ (State.askBlock s).frames = s.frames ∧ (State.askBlock s).nextFrame = s.nextFrame ∧ (State.askBlock s).pipe = s.pipe ∧ (State.askBlock s).ctxs = s.ctxs ∧ (State.askBlock s).dec = s.dec ∧ (State.askBlock s).vs = s.vs ∧ (State.askBlock s).former = s.former ∧ (State.askBlock s).usb = s.usb ∧ (State.askBlock s).ser = s.ser ∧ (State.askBlock s).fab = s.fab ∧ (State.askBlock s).fresh = s.fresh := by
  first
  | (unfold State.askBlock; simp; done)
  | (unfold State.askBlock; (try dsimp only); (repeat' split) <;> (first | rfl | (simp; done) | (simp_all; done) | (try simp)))
@[simp] theorem State.nextSeq_frame (s : State) :
    (State.nextSeq s).pending = s.pending ∧ (State.nextSeq s).identity = s.identity ∧ (State.nextSeq s).aon = s.aon ∧ (State.nextSeq s).pins = s.pins ∧ (State.nextSeq s).phase = s.phase ∧ (State.nextSeq s).boot = s.boot ∧ (State.nextSeq s).sys = s.sys ∧ (State.nextSeq s).balls = s.balls ∧ (State.nextSeq s).shadow = s.shadow ∧ (State.nextSeq s).trowels = s.trowels ∧ (State.nextSeq s).faulted = s.faulted ∧ (State.nextSeq s).bb = s.bb ∧ (State.nextSeq s).tap = s.tap ∧ (State.nextSeq s).time = s.time ∧ (State.nextSeq s).thermal = s.thermal ∧ (State.nextSeq s).light = s.light ∧ (State.nextSeq s).adcA = s.adcA ∧ (State.nextSeq s).adcB = s.adcB ∧ (State.nextSeq s).amb = s.amb ∧ (State.nextSeq s).ports = s.ports ∧ (State.nextSeq s).frames = s.frames ∧ (State.nextSeq s).nextFrame = s.nextFrame ∧ (State.nextSeq s).pipe = s.pipe ∧ (State.nextSeq s).ctxs = s.ctxs ∧ (State.nextSeq s).dec = s.dec ∧ (State.nextSeq s).vs = s.vs ∧ (State.nextSeq s).usb = s.usb ∧ (State.nextSeq s).ser = s.ser ∧ (State.nextSeq s).fab = s.fab ∧ (State.nextSeq s).fresh = s.fresh := by
  first
  | (unfold State.nextSeq; simp; done)
  | (unfold State.nextSeq; (try dsimp only); (repeat' split) <;> (first | rfl | (simp; done) | (simp_all; done) | (try simp)))
@[simp] theorem State.formRecord_frame (s : State) (make : Word → List Byte) (msg : List Byte → PairMsg) :
    (State.formRecord s make msg).pending = s.pending ∧ (State.formRecord s make msg).identity = s.identity ∧ (State.formRecord s make msg).aon = s.aon ∧ (State.formRecord s make msg).pins = s.pins ∧ (State.formRecord s make msg).phase = s.phase ∧ (State.formRecord s make msg).boot = s.boot ∧ (State.formRecord s make msg).sys = s.sys ∧ (State.formRecord s make msg).balls = s.balls ∧ (State.formRecord s make msg).shadow = s.shadow ∧ (State.formRecord s make msg).trowels = s.trowels ∧ (State.formRecord s make msg).bb = s.bb ∧ (State.formRecord s make msg).tap = s.tap ∧ (State.formRecord s make msg).time = s.time ∧ (State.formRecord s make msg).thermal = s.thermal ∧ (State.formRecord s make msg).light = s.light ∧ (State.formRecord s make msg).adcA = s.adcA ∧ (State.formRecord s make msg).adcB = s.adcB ∧ (State.formRecord s make msg).amb = s.amb ∧ (State.formRecord s make msg).ports = s.ports ∧ (State.formRecord s make msg).frames = s.frames ∧ (State.formRecord s make msg).nextFrame = s.nextFrame ∧ (State.formRecord s make msg).ctxs = s.ctxs ∧ (State.formRecord s make msg).dec = s.dec ∧ (State.formRecord s make msg).vs = s.vs ∧ (State.formRecord s make msg).fresh = s.fresh := by
  first
  | (unfold State.formRecord; simp; done)
  | (unfold State.formRecord; (try dsimp only); (repeat' split) <;> (first | rfl | (simp; done) | (simp_all; done) | (try simp)))
@[simp] theorem State.resTake_frame (s : State) (v : Word) :
    (State.resTake s v).pending = s.pending ∧ (State.resTake s v).identity = s.identity ∧ (State.resTake s v).aon = s.aon ∧ (State.resTake s v).pins = s.pins ∧ (State.resTake s v).phase = s.phase ∧ (State.resTake s v).boot = s.boot ∧ (State.resTake s v).sys = s.sys ∧ (State.resTake s v).balls = s.balls ∧ (State.resTake s v).shadow = s.shadow ∧ (State.resTake s v).trowels = s.trowels ∧ (State.resTake s v).faulted = s.faulted ∧ (State.resTake s v).tap = s.tap ∧ (State.resTake s v).time = s.time ∧ (State.resTake s v).thermal = s.thermal ∧ (State.resTake s v).light = s.light ∧ (State.resTake s v).adcA = s.adcA ∧ (State.resTake s v).adcB = s.adcB ∧ (State.resTake s v).amb = s.amb ∧ (State.resTake s v).ports = s.ports ∧ (State.resTake s v).frames = s.frames ∧ (State.resTake s v).nextFrame = s.nextFrame ∧ (State.resTake s v).pipe = s.pipe ∧ (State.resTake s v).ctxs = s.ctxs ∧ (State.resTake s v).dec = s.dec ∧ (State.resTake s v).vs = s.vs ∧ (State.resTake s v).usb = s.usb ∧ (State.resTake s v).ser = s.ser ∧ (State.resTake s v).pair = s.pair ∧ (State.resTake s v).fab = s.fab ∧ (State.resTake s v).fresh = s.fresh := by
  first
  | (unfold State.resTake; simp; done)
  | (unfold State.resTake; (try dsimp only); (repeat' split) <;> (first | rfl | (simp; done) | (simp_all; done) | (try simp)))
@[simp] theorem State.recNow_frame (s : State) (a : Nat) (v : Word) :
    (State.recNow s a v).pending = s.pending ∧ (State.recNow s a v).identity = s.identity ∧ (State.recNow s a v).aon = s.aon ∧ (State.recNow s a v).pins = s.pins ∧ (State.recNow s a v).phase = s.phase ∧ (State.recNow s a v).boot = s.boot ∧ (State.recNow s a v).sys = s.sys ∧ (State.recNow s a v).balls = s.balls ∧ (State.recNow s a v).shadow = s.shadow ∧ (State.recNow s a v).trowels = s.trowels ∧ (State.recNow s a v).tap = s.tap ∧ (State.recNow s a v).time = s.time ∧ (State.recNow s a v).thermal = s.thermal ∧ (State.recNow s a v).light = s.light ∧ (State.recNow s a v).adcA = s.adcA ∧ (State.recNow s a v).adcB = s.adcB ∧ (State.recNow s a v).amb = s.amb ∧ (State.recNow s a v).ports = s.ports ∧ (State.recNow s a v).frames = s.frames ∧ (State.recNow s a v).nextFrame = s.nextFrame ∧ (State.recNow s a v).ctxs = s.ctxs ∧ (State.recNow s a v).dec = s.dec ∧ (State.recNow s a v).vs = s.vs ∧ (State.recNow s a v).fresh = s.fresh := by
  first
  | (unfold State.recNow; simp; done)
  | (unfold State.recNow; (try dsimp only); (repeat' split) <;> (first | rfl | (simp; done) | (simp_all; done) | (try simp)))
end Sys2Proof.Machine
end

