-- ==== Sys2Proof/Laws/FrameVerdict.lean ====
section
/-! SUPPORT. Frames: which parts of the state each operation of Machine/Verdict leaves as they were. -/

namespace Sys2Proof.Machine
@[simp] theorem State.decideHead_frame (s : State) (cls : Nat) (auto : Bool) :
    (State.decideHead s cls auto).pending = s.pending ∧ (State.decideHead s cls auto).identity = s.identity ∧ (State.decideHead s cls auto).aon = s.aon ∧ (State.decideHead s cls auto).pins = s.pins ∧ (State.decideHead s cls auto).phase = s.phase ∧ (State.decideHead s cls auto).boot = s.boot ∧ (State.decideHead s cls auto).sys = s.sys ∧ (State.decideHead s cls auto).balls = s.balls ∧ (State.decideHead s cls auto).shadow = s.shadow ∧ (State.decideHead s cls auto).trowels = s.trowels ∧ (State.decideHead s cls auto).tap = s.tap ∧ (State.decideHead s cls auto).time = s.time ∧ (State.decideHead s cls auto).thermal = s.thermal ∧ (State.decideHead s cls auto).light = s.light ∧ (State.decideHead s cls auto).adcA = s.adcA ∧ (State.decideHead s cls auto).adcB = s.adcB ∧ (State.decideHead s cls auto).amb = s.amb ∧ (State.decideHead s cls auto).ports = s.ports ∧ (State.decideHead s cls auto).frames = s.frames ∧ (State.decideHead s cls auto).nextFrame = s.nextFrame ∧ (State.decideHead s cls auto).ctxs = s.ctxs ∧ (State.decideHead s cls auto).dec = s.dec ∧ (State.decideHead s cls auto).fresh = s.fresh := by
  unfold State.decideHead
  split
  · simp
  · dsimp only
    split <;> simp
@[simp] theorem State.vsNow_frame (s : State) (a : Nat) (v : Word) :
    (State.vsNow s a v).pending = s.pending ∧ (State.vsNow s a v).identity = s.identity ∧ (State.vsNow s a v).aon = s.aon ∧ (State.vsNow s a v).pins = s.pins ∧ (State.vsNow s a v).phase = s.phase ∧ (State.vsNow s a v).boot = s.boot ∧ (State.vsNow s a v).sys = s.sys ∧ (State.vsNow s a v).balls = s.balls ∧ (State.vsNow s a v).shadow = s.shadow ∧ (State.vsNow s a v).trowels = s.trowels ∧ (State.vsNow s a v).tap = s.tap ∧ (State.vsNow s a v).time = s.time ∧ (State.vsNow s a v).thermal = s.thermal ∧ (State.vsNow s a v).light = s.light ∧ (State.vsNow s a v).adcA = s.adcA ∧ (State.vsNow s a v).adcB = s.adcB ∧ (State.vsNow s a v).amb = s.amb ∧ (State.vsNow s a v).ports = s.ports ∧ (State.vsNow s a v).frames = s.frames ∧ (State.vsNow s a v).nextFrame = s.nextFrame ∧ (State.vsNow s a v).ctxs = s.ctxs ∧ (State.vsNow s a v).dec = s.dec ∧ (State.vsNow s a v).fresh = s.fresh := by
  first
  | (unfold State.vsNow; simp; done)
  | (unfold State.vsNow; (try dsimp only); (repeat' split) <;> (first | rfl | (simp; done) | (simp_all; done) | (try simp)))
theorem execAutoDecision_frame (s : State) :
    ∃ u, execAutoDecision s = .next u ∧
    u.pending = s.pending ∧ u.identity = s.identity ∧ u.aon = s.aon ∧ u.pins = s.pins ∧ u.phase = s.phase ∧ u.boot = s.boot ∧ u.sys = s.sys ∧ u.balls = s.balls ∧ u.shadow = s.shadow ∧ u.trowels = s.trowels ∧ u.tap = s.tap ∧ u.time = s.time ∧ u.thermal = s.thermal ∧ u.light = s.light ∧ u.adcA = s.adcA ∧ u.adcB = s.adcB ∧ u.amb = s.amb ∧ u.ports = s.ports ∧ u.frames = s.frames ∧ u.nextFrame = s.nextFrame ∧ u.ctxs = s.ctxs ∧ u.dec = s.dec ∧ u.fresh = s.fresh := by
  refine ⟨_, rfl, ?_⟩
  first
  | (simp; done)
  | ((try simp only [State.whenRun, State.access, State.packet]); (repeat' split) <;> (first | rfl | (simp; done) | (simp_all; done) | (try simp)))
@[simp] theorem State.vqEdge_frame (s : State) :
    (State.vqEdge s).pending = s.pending ∧ (State.vqEdge s).identity = s.identity ∧ (State.vqEdge s).aon = s.aon ∧ (State.vqEdge s).pins = s.pins ∧ (State.vqEdge s).phase = s.phase ∧ (State.vqEdge s).boot = s.boot ∧ (State.vqEdge s).sys = s.sys ∧ (State.vqEdge s).balls = s.balls ∧ (State.vqEdge s).fields = s.fields ∧ (State.vqEdge s).shadow = s.shadow ∧ (State.vqEdge s).trowels = s.trowels ∧ (State.vqEdge s).faulted = s.faulted ∧ (State.vqEdge s).bb = s.bb ∧ (State.vqEdge s).tap = s.tap ∧ (State.vqEdge s).time = s.time ∧ (State.vqEdge s).thermal = s.thermal ∧ (State.vqEdge s).light = s.light ∧ (State.vqEdge s).adcA = s.adcA ∧ (State.vqEdge s).adcB = s.adcB ∧ (State.vqEdge s).amb = s.amb ∧ (State.vqEdge s).ports = s.ports ∧ (State.vqEdge s).frames = s.frames ∧ (State.vqEdge s).nextFrame = s.nextFrame ∧ (State.vqEdge s).pipe = s.pipe ∧ (State.vqEdge s).ctxs = s.ctxs ∧ (State.vqEdge s).dec = s.dec ∧ (State.vqEdge s).former = s.former ∧ (State.vqEdge s).usb = s.usb ∧ (State.vqEdge s).ser = s.ser ∧ (State.vqEdge s).pair = s.pair ∧ (State.vqEdge s).fab = s.fab ∧ (State.vqEdge s).fresh = s.fresh := by
  first
  | (unfold State.vqEdge; simp; done)
  | (unfold State.vqEdge; (try dsimp only); (repeat' split) <;> (first | rfl | (simp; done) | (simp_all; done) | (try simp)))
theorem execVqClkRise_frame (s : State) :
    ∃ u, execVqClkRise s = .next u ∧
    u.pending = s.pending ∧ u.identity = s.identity ∧ u.aon = s.aon ∧ u.pins = s.pins ∧ u.phase = s.phase ∧ u.boot = s.boot ∧ u.sys = s.sys ∧ u.balls = s.balls ∧ u.fields = s.fields ∧ u.shadow = s.shadow ∧ u.trowels = s.trowels ∧ u.faulted = s.faulted ∧ u.bb = s.bb ∧ u.tap = s.tap ∧ u.time = s.time ∧ u.thermal = s.thermal ∧ u.light = s.light ∧ u.adcA = s.adcA ∧ u.adcB = s.adcB ∧ u.amb = s.amb ∧ u.ports = s.ports ∧ u.frames = s.frames ∧ u.nextFrame = s.nextFrame ∧ u.pipe = s.pipe ∧ u.ctxs = s.ctxs ∧ u.dec = s.dec ∧ u.former = s.former ∧ u.usb = s.usb ∧ u.ser = s.ser ∧ u.pair = s.pair ∧ u.fab = s.fab ∧ u.fresh = s.fresh := by
  refine ⟨_, rfl, ?_⟩
  first
  | (simp; done)
  | ((try simp only [State.whenRun, State.access, State.packet]); (repeat' split) <;> (first | rfl | (simp; done) | (simp_all; done) | (try simp)))
theorem execMirrorWrite_frame (s : State) :
    ∃ u, execMirrorWrite s = .next u ∧
    u.pending = s.pending ∧ u.identity = s.identity ∧ u.aon = s.aon ∧ u.pins = s.pins ∧ u.phase = s.phase ∧ u.boot = s.boot ∧ u.sys = s.sys ∧ u.balls = s.balls ∧ u.shadow = s.shadow ∧ u.trowels = s.trowels ∧ u.faulted = s.faulted ∧ u.bb = s.bb ∧ u.tap = s.tap ∧ u.time = s.time ∧ u.thermal = s.thermal ∧ u.light = s.light ∧ u.adcA = s.adcA ∧ u.adcB = s.adcB ∧ u.amb = s.amb ∧ u.ports = s.ports ∧ u.frames = s.frames ∧ u.nextFrame = s.nextFrame ∧ u.pipe = s.pipe ∧ u.ctxs = s.ctxs ∧ u.dec = s.dec ∧ u.former = s.former ∧ u.usb = s.usb ∧ u.ser = s.ser ∧ u.fab = s.fab ∧ u.fresh = s.fresh := by
  refine ⟨_, rfl, ?_⟩
  first
  | (simp; done)
  | ((try simp only [State.whenRun, State.access, State.packet]); (repeat' split) <;> (first | rfl | (simp; done) | (simp_all; done) | (try simp)))
theorem execVqQuery_frame (addr : Option (BitVec 14)) (s : State) :
    ∃ u, execVqQuery addr s = .next u ∧
    u.pending = s.pending ∧ u.identity = s.identity ∧ u.aon = s.aon ∧ u.phase = s.phase ∧ u.boot = s.boot ∧ u.sys = s.sys ∧ u.balls = s.balls ∧ u.fields = s.fields ∧ u.shadow = s.shadow ∧ u.trowels = s.trowels ∧ u.faulted = s.faulted ∧ u.bb = s.bb ∧ u.tap = s.tap ∧ u.time = s.time ∧ u.thermal = s.thermal ∧ u.light = s.light ∧ u.adcA = s.adcA ∧ u.adcB = s.adcB ∧ u.amb = s.amb ∧ u.ports = s.ports ∧ u.frames = s.frames ∧ u.nextFrame = s.nextFrame ∧ u.pipe = s.pipe ∧ u.ctxs = s.ctxs ∧ u.dec = s.dec ∧ u.former = s.former ∧ u.usb = s.usb ∧ u.ser = s.ser ∧ u.pair = s.pair ∧ u.fab = s.fab ∧ u.fresh = s.fresh := by
  refine ⟨_, rfl, ?_⟩
  first
  | (simp; done)
  | ((try simp only [State.whenRun, State.access, State.packet]); (repeat' split) <;> (first | rfl | (simp; done) | (simp_all; done) | (try simp)))
end Sys2Proof.Machine
end

