-- ==== Sys2Proof/Laws/FrameUsb.lean ====
section
/-! SUPPORT. Frames: which parts of the state each operation of Machine/Usb leaves as they were. -/

namespace Sys2Proof.Machine
@[simp] theorem State.usbAttach_frame (s : State) :
    (State.usbAttach s).pending = s.pending ∧ (State.usbAttach s).identity = s.identity ∧ (State.usbAttach s).aon = s.aon ∧ (State.usbAttach s).pins = s.pins ∧ (State.usbAttach s).phase = s.phase ∧ (State.usbAttach s).boot = s.boot ∧ (State.usbAttach s).sys = s.sys ∧ (State.usbAttach s).balls = s.balls ∧ (State.usbAttach s).fields = s.fields ∧ (State.usbAttach s).shadow = s.shadow ∧ (State.usbAttach s).trowels = s.trowels ∧ (State.usbAttach s).faulted = s.faulted ∧ (State.usbAttach s).bb = s.bb ∧ (State.usbAttach s).tap = s.tap ∧ (State.usbAttach s).time = s.time ∧ (State.usbAttach s).thermal = s.thermal ∧ (State.usbAttach s).light = s.light ∧ (State.usbAttach s).adcA = s.adcA ∧ (State.usbAttach s).adcB = s.adcB ∧ (State.usbAttach s).amb = s.amb ∧ (State.usbAttach s).ports = s.ports ∧ (State.usbAttach s).frames = s.frames ∧ (State.usbAttach s).nextFrame = s.nextFrame ∧ (State.usbAttach s).pipe = s.pipe ∧ (State.usbAttach s).ctxs = s.ctxs ∧ (State.usbAttach s).dec = s.dec ∧ (State.usbAttach s).vs = s.vs ∧ (State.usbAttach s).former = s.former ∧ (State.usbAttach s).ser = s.ser ∧ (State.usbAttach s).pair = s.pair ∧ (State.usbAttach s).fab = s.fab ∧ (State.usbAttach s).fresh = s.fresh := by
  first
  | (unfold State.usbAttach; simp; done)
  | (unfold State.usbAttach; (try dsimp only); (repeat' split) <;> (first | rfl | (simp; done) | (simp_all; done) | (try simp)))
@[simp] theorem State.usbDropTransfer_frame (s : State) :
    (State.usbDropTransfer s).pending = s.pending ∧ (State.usbDropTransfer s).identity = s.identity ∧ (State.usbDropTransfer s).aon = s.aon ∧ (State.usbDropTransfer s).pins = s.pins ∧ (State.usbDropTransfer s).phase = s.phase ∧ (State.usbDropTransfer s).boot = s.boot ∧ (State.usbDropTransfer s).sys = s.sys ∧ (State.usbDropTransfer s).balls = s.balls ∧ (State.usbDropTransfer s).fields = s.fields ∧ (State.usbDropTransfer s).shadow = s.shadow ∧ (State.usbDropTransfer s).trowels = s.trowels ∧ (State.usbDropTransfer s).faulted = s.faulted ∧ (State.usbDropTransfer s).bb = s.bb ∧ (State.usbDropTransfer s).tap = s.tap ∧ (State.usbDropTransfer s).time = s.time ∧ (State.usbDropTransfer s).thermal = s.thermal ∧ (State.usbDropTransfer s).light = s.light ∧ (State.usbDropTransfer s).adcA = s.adcA ∧ (State.usbDropTransfer s).adcB = s.adcB ∧ (State.usbDropTransfer s).amb = s.amb ∧ (State.usbDropTransfer s).ports = s.ports ∧ (State.usbDropTransfer s).frames = s.frames ∧ (State.usbDropTransfer s).nextFrame = s.nextFrame ∧ (State.usbDropTransfer s).pipe = s.pipe ∧ (State.usbDropTransfer s).ctxs = s.ctxs ∧ (State.usbDropTransfer s).dec = s.dec ∧ (State.usbDropTransfer s).vs = s.vs ∧ (State.usbDropTransfer s).former = s.former ∧ (State.usbDropTransfer s).ser = s.ser ∧ (State.usbDropTransfer s).pair = s.pair ∧ (State.usbDropTransfer s).fresh = s.fresh := by
  first
  | (unfold State.usbDropTransfer; simp; done)
  | (unfold State.usbDropTransfer; (try dsimp only); (repeat' split) <;> (first | rfl | (simp; done) | (simp_all; done) | (try simp)))
@[simp] theorem State.usbAbandon_frame (s : State) :
    (State.usbAbandon s).pending = s.pending ∧ (State.usbAbandon s).identity = s.identity ∧ (State.usbAbandon s).aon = s.aon ∧ (State.usbAbandon s).pins = s.pins ∧ (State.usbAbandon s).phase = s.phase ∧ (State.usbAbandon s).boot = s.boot ∧ (State.usbAbandon s).sys = s.sys ∧ (State.usbAbandon s).balls = s.balls ∧ (State.usbAbandon s).shadow = s.shadow ∧ (State.usbAbandon s).trowels = s.trowels ∧ (State.usbAbandon s).faulted = s.faulted ∧ (State.usbAbandon s).bb = s.bb ∧ (State.usbAbandon s).tap = s.tap ∧ (State.usbAbandon s).time = s.time ∧ (State.usbAbandon s).thermal = s.thermal ∧ (State.usbAbandon s).light = s.light ∧ (State.usbAbandon s).adcA = s.adcA ∧ (State.usbAbandon s).adcB = s.adcB ∧ (State.usbAbandon s).amb = s.amb ∧ (State.usbAbandon s).ports = s.ports ∧ (State.usbAbandon s).nextFrame = s.nextFrame ∧ (State.usbAbandon s).pipe = s.pipe ∧ (State.usbAbandon s).ctxs = s.ctxs ∧ (State.usbAbandon s).dec = s.dec ∧ (State.usbAbandon s).vs = s.vs ∧ (State.usbAbandon s).former = s.former ∧ (State.usbAbandon s).ser = s.ser ∧ (State.usbAbandon s).pair = s.pair ∧ (State.usbAbandon s).fresh = s.fresh := by
  first
  | (unfold State.usbAbandon; simp; done)
  | (unfold State.usbAbandon; (try dsimp only); (repeat' split) <;> (first | rfl | (simp; done) | (simp_all; done) | (try simp)))
@[simp] theorem State.usbDefault_frame (s : State) :
    (State.usbDefault s).pending = s.pending ∧ (State.usbDefault s).identity = s.identity ∧ (State.usbDefault s).aon = s.aon ∧ (State.usbDefault s).pins = s.pins ∧ (State.usbDefault s).phase = s.phase ∧ (State.usbDefault s).boot = s.boot ∧ (State.usbDefault s).sys = s.sys ∧ (State.usbDefault s).balls = s.balls ∧ (State.usbDefault s).fields = s.fields ∧ (State.usbDefault s).shadow = s.shadow ∧ (State.usbDefault s).trowels = s.trowels ∧ (State.usbDefault s).faulted = s.faulted ∧ (State.usbDefault s).bb = s.bb ∧ (State.usbDefault s).tap = s.tap ∧ (State.usbDefault s).time = s.time ∧ (State.usbDefault s).thermal = s.thermal ∧ (State.usbDefault s).light = s.light ∧ (State.usbDefault s).adcA = s.adcA ∧ (State.usbDefault s).adcB = s.adcB ∧ (State.usbDefault s).amb = s.amb ∧ (State.usbDefault s).ports = s.ports ∧ (State.usbDefault s).frames = s.frames ∧ (State.usbDefault s).nextFrame = s.nextFrame ∧ (State.usbDefault s).pipe = s.pipe ∧ (State.usbDefault s).ctxs = s.ctxs ∧ (State.usbDefault s).dec = s.dec ∧ (State.usbDefault s).vs = s.vs ∧ (State.usbDefault s).former = s.former ∧ (State.usbDefault s).ser = s.ser ∧ (State.usbDefault s).pair = s.pair ∧ (State.usbDefault s).fab = s.fab ∧ (State.usbDefault s).fresh = s.fresh := by
  first
  | (unfold State.usbDefault; simp; done)
  | (unfold State.usbDefault; (try dsimp only); (repeat' split) <;> (first | rfl | (simp; done) | (simp_all; done) | (try simp)))
@[simp] theorem State.usbDetach_frame (s : State) :
    (State.usbDetach s).pending = s.pending ∧ (State.usbDetach s).identity = s.identity ∧ (State.usbDetach s).aon = s.aon ∧ (State.usbDetach s).pins = s.pins ∧ (State.usbDetach s).phase = s.phase ∧ (State.usbDetach s).boot = s.boot ∧ (State.usbDetach s).sys = s.sys ∧ (State.usbDetach s).balls = s.balls ∧ (State.usbDetach s).shadow = s.shadow ∧ (State.usbDetach s).trowels = s.trowels ∧ (State.usbDetach s).faulted = s.faulted ∧ (State.usbDetach s).bb = s.bb ∧ (State.usbDetach s).tap = s.tap ∧ (State.usbDetach s).time = s.time ∧ (State.usbDetach s).thermal = s.thermal ∧ (State.usbDetach s).light = s.light ∧ (State.usbDetach s).adcA = s.adcA ∧ (State.usbDetach s).adcB = s.adcB ∧ (State.usbDetach s).amb = s.amb ∧ (State.usbDetach s).ports = s.ports ∧ (State.usbDetach s).nextFrame = s.nextFrame ∧ (State.usbDetach s).pipe = s.pipe ∧ (State.usbDetach s).ctxs = s.ctxs ∧ (State.usbDetach s).dec = s.dec ∧ (State.usbDetach s).vs = s.vs ∧ (State.usbDetach s).former = s.former ∧ (State.usbDetach s).ser = s.ser ∧ (State.usbDetach s).pair = s.pair ∧ (State.usbDetach s).fresh = s.fresh := by
  first
  | (unfold State.usbDetach; simp; done)
  | (unfold State.usbDetach; (try dsimp only); (repeat' split) <;> (first | rfl | (simp; done) | (simp_all; done) | (try simp)))
theorem execVbusPresent_frame (s : State) :
    ∃ u, execVbusPresent s = .next u ∧
    u.pending = s.pending ∧ u.identity = s.identity ∧ u.aon = s.aon ∧ u.phase = s.phase ∧ u.boot = s.boot ∧ u.sys = s.sys ∧ u.balls = s.balls ∧ u.fields = s.fields ∧ u.shadow = s.shadow ∧ u.trowels = s.trowels ∧ u.faulted = s.faulted ∧ u.bb = s.bb ∧ u.tap = s.tap ∧ u.time = s.time ∧ u.thermal = s.thermal ∧ u.light = s.light ∧ u.adcA = s.adcA ∧ u.adcB = s.adcB ∧ u.amb = s.amb ∧ u.ports = s.ports ∧ u.frames = s.frames ∧ u.nextFrame = s.nextFrame ∧ u.pipe = s.pipe ∧ u.ctxs = s.ctxs ∧ u.dec = s.dec ∧ u.vs = s.vs ∧ u.former = s.former ∧ u.ser = s.ser ∧ u.pair = s.pair ∧ u.fab = s.fab ∧ u.fresh = s.fresh := by
  refine ⟨_, rfl, ?_⟩
  first
  | (simp; done)
  | ((try simp only [State.whenRun, State.access, State.packet]); (repeat' split) <;> (first | rfl | (simp; done) | (simp_all; done) | (try simp)))
theorem execVbusAbsent_frame (s : State) :
    ∃ u, execVbusAbsent s = .next u ∧
    u.pending = s.pending ∧ u.identity = s.identity ∧ u.aon = s.aon ∧ u.phase = s.phase ∧ u.boot = s.boot ∧ u.sys = s.sys ∧ u.balls = s.balls ∧ u.shadow = s.shadow ∧ u.trowels = s.trowels ∧ u.faulted = s.faulted ∧ u.bb = s.bb ∧ u.tap = s.tap ∧ u.time = s.time ∧ u.thermal = s.thermal ∧ u.light = s.light ∧ u.adcA = s.adcA ∧ u.adcB = s.adcB ∧ u.amb = s.amb ∧ u.ports = s.ports ∧ u.nextFrame = s.nextFrame ∧ u.pipe = s.pipe ∧ u.ctxs = s.ctxs ∧ u.dec = s.dec ∧ u.vs = s.vs ∧ u.former = s.former ∧ u.ser = s.ser ∧ u.pair = s.pair ∧ u.fresh = s.fresh := by
  refine ⟨_, rfl, ?_⟩
  first
  | (simp; done)
  | ((try simp only [State.whenRun, State.access, State.packet]); (repeat' split) <;> (first | rfl | (simp; done) | (simp_all; done) | (try simp)))
theorem execSuperspeedTrainingTimeout_frame (s : State) :
    ∃ u, execSuperspeedTrainingTimeout s = .next u ∧
    u.pending = s.pending ∧ u.identity = s.identity ∧ u.aon = s.aon ∧ u.pins = s.pins ∧ u.phase = s.phase ∧ u.boot = s.boot ∧ u.sys = s.sys ∧ u.balls = s.balls ∧ u.fields = s.fields ∧ u.shadow = s.shadow ∧ u.trowels = s.trowels ∧ u.faulted = s.faulted ∧ u.bb = s.bb ∧ u.tap = s.tap ∧ u.time = s.time ∧ u.thermal = s.thermal ∧ u.light = s.light ∧ u.adcA = s.adcA ∧ u.adcB = s.adcB ∧ u.amb = s.amb ∧ u.ports = s.ports ∧ u.frames = s.frames ∧ u.nextFrame = s.nextFrame ∧ u.pipe = s.pipe ∧ u.ctxs = s.ctxs ∧ u.dec = s.dec ∧ u.vs = s.vs ∧ u.former = s.former ∧ u.ser = s.ser ∧ u.pair = s.pair ∧ u.fab = s.fab ∧ u.fresh = s.fresh := by
  refine ⟨_, rfl, ?_⟩
  first
  | (simp; done)
  | ((try simp only [State.whenRun, State.access, State.packet]); (repeat' split) <;> (first | rfl | (simp; done) | (simp_all; done) | (try simp)))
@[simp] theorem State.usbNow_frame (s : State) (a : Nat) (v : Word) :
    (State.usbNow s a v).pending = s.pending ∧ (State.usbNow s a v).identity = s.identity ∧ (State.usbNow s a v).aon = s.aon ∧ (State.usbNow s a v).pins = s.pins ∧ (State.usbNow s a v).phase = s.phase ∧ (State.usbNow s a v).boot = s.boot ∧ (State.usbNow s a v).sys = s.sys ∧ (State.usbNow s a v).balls = s.balls ∧ (State.usbNow s a v).shadow = s.shadow ∧ (State.usbNow s a v).trowels = s.trowels ∧ (State.usbNow s a v).faulted = s.faulted ∧ (State.usbNow s a v).bb = s.bb ∧ (State.usbNow s a v).tap = s.tap ∧ (State.usbNow s a v).time = s.time ∧ (State.usbNow s a v).thermal = s.thermal ∧ (State.usbNow s a v).light = s.light ∧ (State.usbNow s a v).adcA = s.adcA ∧ (State.usbNow s a v).adcB = s.adcB ∧ (State.usbNow s a v).amb = s.amb ∧ (State.usbNow s a v).ports = s.ports ∧ (State.usbNow s a v).nextFrame = s.nextFrame ∧ (State.usbNow s a v).pipe = s.pipe ∧ (State.usbNow s a v).ctxs = s.ctxs ∧ (State.usbNow s a v).dec = s.dec ∧ (State.usbNow s a v).vs = s.vs ∧ (State.usbNow s a v).former = s.former ∧ (State.usbNow s a v).ser = s.ser ∧ (State.usbNow s a v).pair = s.pair ∧ (State.usbNow s a v).fresh = s.fresh := by
  first
  | (unfold State.usbNow; simp; done)
  | (unfold State.usbNow; (try dsimp only); (repeat' split) <;> (first | rfl | (simp; done) | (simp_all; done) | (try simp)))
theorem execUsbBusReset_frame (highSpeed : Bool) (s : State) :
    ∃ u, execUsbBusReset highSpeed s = .next u ∧
    u.pending = s.pending ∧ u.identity = s.identity ∧ u.aon = s.aon ∧ u.pins = s.pins ∧ u.phase = s.phase ∧ u.boot = s.boot ∧ u.sys = s.sys ∧ u.balls = s.balls ∧ u.shadow = s.shadow ∧ u.faulted = s.faulted ∧ u.bb = s.bb ∧ u.tap = s.tap ∧ u.time = s.time ∧ u.thermal = s.thermal ∧ u.light = s.light ∧ u.adcA = s.adcA ∧ u.adcB = s.adcB ∧ u.amb = s.amb ∧ u.ports = s.ports ∧ u.nextFrame = s.nextFrame ∧ u.pipe = s.pipe ∧ u.ctxs = s.ctxs ∧ u.dec = s.dec ∧ u.vs = s.vs ∧ u.former = s.former ∧ u.ser = s.ser ∧ u.pair = s.pair ∧ u.fresh = s.fresh := by
  refine ⟨_, rfl, ?_⟩
  first
  | (simp; done)
  | ((try simp only [State.whenRun, State.access, State.packet]); (repeat' split) <;> (first | rfl | (simp; done) | (simp_all; done) | (try simp)))
theorem execUsbSuspend_frame (suspend : Bool) (s : State) :
    ∃ u, execUsbSuspend suspend s = .next u ∧
    u.pending = s.pending ∧ u.identity = s.identity ∧ u.aon = s.aon ∧ u.pins = s.pins ∧ u.phase = s.phase ∧ u.boot = s.boot ∧ u.sys = s.sys ∧ u.balls = s.balls ∧ u.fields = s.fields ∧ u.shadow = s.shadow ∧ u.trowels = s.trowels ∧ u.faulted = s.faulted ∧ u.bb = s.bb ∧ u.tap = s.tap ∧ u.time = s.time ∧ u.thermal = s.thermal ∧ u.light = s.light ∧ u.adcA = s.adcA ∧ u.adcB = s.adcB ∧ u.amb = s.amb ∧ u.ports = s.ports ∧ u.frames = s.frames ∧ u.nextFrame = s.nextFrame ∧ u.pipe = s.pipe ∧ u.ctxs = s.ctxs ∧ u.dec = s.dec ∧ u.vs = s.vs ∧ u.former = s.former ∧ u.ser = s.ser ∧ u.pair = s.pair ∧ u.fresh = s.fresh := by
  refine ⟨_, rfl, ?_⟩
  first
  | (simp; done)
  | ((try simp only [State.whenRun, State.access, State.packet]); (repeat' split) <;> (first | rfl | (simp; done) | (simp_all; done) | (try simp)))
theorem execU1U2EntryRequest_frame (s : State) :
    ∃ u, execU1U2EntryRequest s = .next u ∧
    u.pending = s.pending ∧ u.identity = s.identity ∧ u.aon = s.aon ∧ u.pins = s.pins ∧ u.phase = s.phase ∧ u.boot = s.boot ∧ u.sys = s.sys ∧ u.balls = s.balls ∧ u.fields = s.fields ∧ u.shadow = s.shadow ∧ u.trowels = s.trowels ∧ u.faulted = s.faulted ∧ u.bb = s.bb ∧ u.tap = s.tap ∧ u.time = s.time ∧ u.thermal = s.thermal ∧ u.light = s.light ∧ u.adcA = s.adcA ∧ u.adcB = s.adcB ∧ u.amb = s.amb ∧ u.ports = s.ports ∧ u.frames = s.frames ∧ u.nextFrame = s.nextFrame ∧ u.pipe = s.pipe ∧ u.ctxs = s.ctxs ∧ u.dec = s.dec ∧ u.vs = s.vs ∧ u.former = s.former ∧ u.usb = s.usb ∧ u.ser = s.ser ∧ u.pair = s.pair ∧ u.fab = s.fab ∧ u.fresh = s.fresh := by
  refine ⟨_, rfl, ?_⟩
  first
  | (simp; done)
  | ((try simp only [State.whenRun, State.access, State.packet]); (repeat' split) <;> (first | rfl | (simp; done) | (simp_all; done) | (try simp)))
@[simp] theorem State.usbRestart_frame (s : State) :
    (State.usbRestart s).pending = s.pending ∧ (State.usbRestart s).identity = s.identity ∧ (State.usbRestart s).aon = s.aon ∧ (State.usbRestart s).pins = s.pins ∧ (State.usbRestart s).phase = s.phase ∧ (State.usbRestart s).boot = s.boot ∧ (State.usbRestart s).sys = s.sys ∧ (State.usbRestart s).balls = s.balls ∧ (State.usbRestart s).fields = s.fields ∧ (State.usbRestart s).shadow = s.shadow ∧ (State.usbRestart s).trowels = s.trowels ∧ (State.usbRestart s).faulted = s.faulted ∧ (State.usbRestart s).bb = s.bb ∧ (State.usbRestart s).tap = s.tap ∧ (State.usbRestart s).time = s.time ∧ (State.usbRestart s).thermal = s.thermal ∧ (State.usbRestart s).light = s.light ∧ (State.usbRestart s).adcA = s.adcA ∧ (State.usbRestart s).adcB = s.adcB ∧ (State.usbRestart s).amb = s.amb ∧ (State.usbRestart s).ports = s.ports ∧ (State.usbRestart s).frames = s.frames ∧ (State.usbRestart s).nextFrame = s.nextFrame ∧ (State.usbRestart s).pipe = s.pipe ∧ (State.usbRestart s).ctxs = s.ctxs ∧ (State.usbRestart s).dec = s.dec ∧ (State.usbRestart s).vs = s.vs ∧ (State.usbRestart s).former = s.former ∧ (State.usbRestart s).ser = s.ser ∧ (State.usbRestart s).pair = s.pair ∧ (State.usbRestart s).fresh = s.fresh := by
  first
  | (unfold State.usbRestart; simp; done)
  | (unfold State.usbRestart; (try dsimp only); (repeat' split) <;> (first | rfl | (simp; done) | (simp_all; done) | (try simp)))
theorem execUsbRecordTransferDone_frame (s : State) :
    ∃ u, execUsbRecordTransferDone s = .next u ∧
    u.pending = s.pending ∧ u.identity = s.identity ∧ u.aon = s.aon ∧ u.pins = s.pins ∧ u.phase = s.phase ∧ u.boot = s.boot ∧ u.sys = s.sys ∧ u.balls = s.balls ∧ u.shadow = s.shadow ∧ u.trowels = s.trowels ∧ u.faulted = s.faulted ∧ u.bb = s.bb ∧ u.tap = s.tap ∧ u.time = s.time ∧ u.thermal = s.thermal ∧ u.light = s.light ∧ u.adcA = s.adcA ∧ u.adcB = s.adcB ∧ u.amb = s.amb ∧ u.ports = s.ports ∧ u.frames = s.frames ∧ u.nextFrame = s.nextFrame ∧ u.pipe = s.pipe ∧ u.ctxs = s.ctxs ∧ u.dec = s.dec ∧ u.vs = s.vs ∧ u.former = s.former ∧ u.ser = s.ser ∧ u.pair = s.pair ∧ u.fresh = s.fresh := by
  refine ⟨_, rfl, ?_⟩
  first
  | (simp; done)
  | ((try simp only [State.whenRun, State.access, State.packet]); (repeat' split) <;> (first | rfl | (simp; done) | (simp_all; done) | (try simp)))
theorem execUsbTapTransferDone_frame (s : State) :
    ∃ u, execUsbTapTransferDone s = .next u ∧
    u.pending = s.pending ∧ u.identity = s.identity ∧ u.aon = s.aon ∧ u.pins = s.pins ∧ u.phase = s.phase ∧ u.boot = s.boot ∧ u.sys = s.sys ∧ u.balls = s.balls ∧ u.fields = s.fields ∧ u.shadow = s.shadow ∧ u.trowels = s.trowels ∧ u.faulted = s.faulted ∧ u.bb = s.bb ∧ u.tap = s.tap ∧ u.time = s.time ∧ u.thermal = s.thermal ∧ u.light = s.light ∧ u.adcA = s.adcA ∧ u.adcB = s.adcB ∧ u.amb = s.amb ∧ u.ports = s.ports ∧ u.frames = s.frames ∧ u.nextFrame = s.nextFrame ∧ u.pipe = s.pipe ∧ u.ctxs = s.ctxs ∧ u.dec = s.dec ∧ u.vs = s.vs ∧ u.former = s.former ∧ u.ser = s.ser ∧ u.pair = s.pair ∧ u.fab = s.fab ∧ u.fresh = s.fresh := by
  refine ⟨_, rfl, ?_⟩
  first
  | (simp; done)
  | ((try simp only [State.whenRun, State.access, State.packet]); (repeat' split) <;> (first | rfl | (simp; done) | (simp_all; done) | (try simp)))
@[simp] theorem State.reply_frame (s : State) (a : Answer) :
    (State.reply s a).pending = s.pending ∧ (State.reply s a).identity = s.identity ∧ (State.reply s a).aon = s.aon ∧ (State.reply s a).pins = s.pins ∧ (State.reply s a).phase = s.phase ∧ (State.reply s a).boot = s.boot ∧ (State.reply s a).sys = s.sys ∧ (State.reply s a).balls = s.balls ∧ (State.reply s a).fields = s.fields ∧ (State.reply s a).shadow = s.shadow ∧ (State.reply s a).trowels = s.trowels ∧ (State.reply s a).faulted = s.faulted ∧ (State.reply s a).bb = s.bb ∧ (State.reply s a).tap = s.tap ∧ (State.reply s a).time = s.time ∧ (State.reply s a).thermal = s.thermal ∧ (State.reply s a).light = s.light ∧ (State.reply s a).adcA = s.adcA ∧ (State.reply s a).adcB = s.adcB ∧ (State.reply s a).amb = s.amb ∧ (State.reply s a).ports = s.ports ∧ (State.reply s a).frames = s.frames ∧ (State.reply s a).nextFrame = s.nextFrame ∧ (State.reply s a).pipe = s.pipe ∧ (State.reply s a).ctxs = s.ctxs ∧ (State.reply s a).dec = s.dec ∧ (State.reply s a).vs = s.vs ∧ (State.reply s a).former = s.former ∧ (State.reply s a).ser = s.ser ∧ (State.reply s a).pair = s.pair ∧ (State.reply s a).fab = s.fab ∧ (State.reply s a).fresh = s.fresh := by
  first
  | (unfold State.reply; simp; done)
  | (unfold State.reply; (try dsimp only); (repeat' split) <;> (first | rfl | (simp; done) | (simp_all; done) | (try simp)))
theorem execSetConfiguration_frame (v : Byte) (s : State) :
    ∃ u, execSetConfiguration v s = .next u ∧
    u.pending = s.pending ∧ u.identity = s.identity ∧ u.aon = s.aon ∧ u.pins = s.pins ∧ u.phase = s.phase ∧ u.boot = s.boot ∧ u.sys = s.sys ∧ u.balls = s.balls ∧ u.shadow = s.shadow ∧ u.trowels = s.trowels ∧ u.faulted = s.faulted ∧ u.bb = s.bb ∧ u.tap = s.tap ∧ u.time = s.time ∧ u.thermal = s.thermal ∧ u.light = s.light ∧ u.adcA = s.adcA ∧ u.adcB = s.adcB ∧ u.amb = s.amb ∧ u.ports = s.ports ∧ u.nextFrame = s.nextFrame ∧ u.pipe = s.pipe ∧ u.ctxs = s.ctxs ∧ u.dec = s.dec ∧ u.vs = s.vs ∧ u.former = s.former ∧ u.ser = s.ser ∧ u.pair = s.pair ∧ u.fresh = s.fresh := by
  refine ⟨_, rfl, ?_⟩
  first
  | (simp; done)
  | ((try simp only [State.whenRun, State.access, State.packet]); (repeat' split) <;> (first | rfl | (simp; done) | (simp_all; done) | (try simp)))
theorem execClearFeatureHalt_frame (ep : Byte) (s : State) :
    ∃ u, execClearFeatureHalt ep s = .next u ∧
    u.pending = s.pending ∧ u.identity = s.identity ∧ u.aon = s.aon ∧ u.pins = s.pins ∧ u.phase = s.phase ∧ u.boot = s.boot ∧ u.sys = s.sys ∧ u.balls = s.balls ∧ u.fields = s.fields ∧ u.shadow = s.shadow ∧ u.trowels = s.trowels ∧ u.faulted = s.faulted ∧ u.bb = s.bb ∧ u.tap = s.tap ∧ u.time = s.time ∧ u.thermal = s.thermal ∧ u.light = s.light ∧ u.adcA = s.adcA ∧ u.adcB = s.adcB ∧ u.amb = s.amb ∧ u.ports = s.ports ∧ u.frames = s.frames ∧ u.nextFrame = s.nextFrame ∧ u.pipe = s.pipe ∧ u.ctxs = s.ctxs ∧ u.dec = s.dec ∧ u.vs = s.vs ∧ u.former = s.former ∧ u.ser = s.ser ∧ u.pair = s.pair ∧ u.fresh = s.fresh := by
  refine ⟨_, rfl, ?_⟩
  first
  | (simp; done)
  | ((try simp only [State.whenRun, State.access, State.packet]); (repeat' split) <;> (first | rfl | (simp; done) | (simp_all; done) | (try simp)))
theorem execSetInterface_frame (alt : Byte) (s : State) :
    ∃ u, execSetInterface alt s = .next u ∧
    u.pending = s.pending ∧ u.identity = s.identity ∧ u.aon = s.aon ∧ u.pins = s.pins ∧ u.phase = s.phase ∧ u.boot = s.boot ∧ u.sys = s.sys ∧ u.balls = s.balls ∧ u.fields = s.fields ∧ u.shadow = s.shadow ∧ u.trowels = s.trowels ∧ u.faulted = s.faulted ∧ u.bb = s.bb ∧ u.tap = s.tap ∧ u.time = s.time ∧ u.thermal = s.thermal ∧ u.light = s.light ∧ u.adcA = s.adcA ∧ u.adcB = s.adcB ∧ u.amb = s.amb ∧ u.ports = s.ports ∧ u.frames = s.frames ∧ u.nextFrame = s.nextFrame ∧ u.pipe = s.pipe ∧ u.ctxs = s.ctxs ∧ u.dec = s.dec ∧ u.vs = s.vs ∧ u.former = s.former ∧ u.ser = s.ser ∧ u.pair = s.pair ∧ u.fresh = s.fresh := by
  refine ⟨_, rfl, ?_⟩
  first
  | (simp; done)
  | ((try simp only [State.whenRun, State.access, State.packet]); (repeat' split) <;> (first | rfl | (simp; done) | (simp_all; done) | (try simp)))
theorem execSetFeatureLinkPower_frame (s : State) :
    ∃ u, execSetFeatureLinkPower s = .next u ∧
    u.pending = s.pending ∧ u.identity = s.identity ∧ u.aon = s.aon ∧ u.pins = s.pins ∧ u.phase = s.phase ∧ u.boot = s.boot ∧ u.sys = s.sys ∧ u.balls = s.balls ∧ u.fields = s.fields ∧ u.shadow = s.shadow ∧ u.trowels = s.trowels ∧ u.faulted = s.faulted ∧ u.bb = s.bb ∧ u.tap = s.tap ∧ u.time = s.time ∧ u.thermal = s.thermal ∧ u.light = s.light ∧ u.adcA = s.adcA ∧ u.adcB = s.adcB ∧ u.amb = s.amb ∧ u.ports = s.ports ∧ u.frames = s.frames ∧ u.nextFrame = s.nextFrame ∧ u.pipe = s.pipe ∧ u.ctxs = s.ctxs ∧ u.dec = s.dec ∧ u.vs = s.vs ∧ u.former = s.former ∧ u.ser = s.ser ∧ u.pair = s.pair ∧ u.fab = s.fab ∧ u.fresh = s.fresh := by
  refine ⟨_, rfl, ?_⟩
  first
  | (simp; done)
  | ((try simp only [State.whenRun, State.access, State.packet]); (repeat' split) <;> (first | rfl | (simp; done) | (simp_all; done) | (try simp)))
theorem execStandardRequest_frame (r : StdRequest) (s : State) :
    ∃ u, execStandardRequest r s = .next u ∧
    u.pending = s.pending ∧ u.identity = s.identity ∧ u.aon = s.aon ∧ u.pins = s.pins ∧ u.phase = s.phase ∧ u.boot = s.boot ∧ u.sys = s.sys ∧ u.balls = s.balls ∧ u.shadow = s.shadow ∧ u.trowels = s.trowels ∧ u.faulted = s.faulted ∧ u.bb = s.bb ∧ u.tap = s.tap ∧ u.time = s.time ∧ u.thermal = s.thermal ∧ u.light = s.light ∧ u.adcA = s.adcA ∧ u.adcB = s.adcB ∧ u.amb = s.amb ∧ u.ports = s.ports ∧ u.nextFrame = s.nextFrame ∧ u.pipe = s.pipe ∧ u.ctxs = s.ctxs ∧ u.dec = s.dec ∧ u.vs = s.vs ∧ u.former = s.former ∧ u.ser = s.ser ∧ u.pair = s.pair ∧ u.fresh = s.fresh := by
  refine ⟨_, rfl, ?_⟩
  first
  | (simp; done)
  | ((try simp only [State.whenRun, State.access, State.packet]); (repeat' split) <;> (first | rfl | (simp; done) | (simp_all; done) | (try simp)))
@[simp] theorem State.usbNote_frame (s : State) (r : VendorSetup) :
    (State.usbNote s r).pending = s.pending ∧ (State.usbNote s r).identity = s.identity ∧ (State.usbNote s r).aon = s.aon ∧ (State.usbNote s r).pins = s.pins ∧ (State.usbNote s r).phase = s.phase ∧ (State.usbNote s r).boot = s.boot ∧ (State.usbNote s r).sys = s.sys ∧ (State.usbNote s r).balls = s.balls ∧ (State.usbNote s r).faulted = s.faulted ∧ (State.usbNote s r).bb = s.bb ∧ (State.usbNote s r).tap = s.tap ∧ (State.usbNote s r).time = s.time ∧ (State.usbNote s r).thermal = s.thermal ∧ (State.usbNote s r).light = s.light ∧ (State.usbNote s r).ports = s.ports ∧ (State.usbNote s r).frames = s.frames ∧ (State.usbNote s r).nextFrame = s.nextFrame ∧ (State.usbNote s r).pipe = s.pipe ∧ (State.usbNote s r).ctxs = s.ctxs ∧ (State.usbNote s r).dec = s.dec ∧ (State.usbNote s r).vs = s.vs ∧ (State.usbNote s r).former = s.former ∧ (State.usbNote s r).ser = s.ser ∧ (State.usbNote s r).pair = s.pair ∧ (State.usbNote s r).fab = s.fab ∧ (State.usbNote s r).fresh = s.fresh := by
  first
  | (unfold State.usbNote; simp; done)
  | (unfold State.usbNote; (try dsimp only); (repeat' split) <;> (first | rfl | (simp; done) | (simp_all; done) | (try simp)))
@[simp] theorem State.vendor_pending (s : State) (r : VendorSetup) (data resp : List Byte) (eff : State → State) (done : Bool) (h : ∀ s, (eff s).pending = s.pending) :
    (State.vendor s r data resp eff done).pending = s.pending := by
  unfold State.vendor; (try dsimp only); (repeat' split) <;> (first | rfl | (simp; done) | (simp [h]; done) | (simp_all; done) | (try simp [h]))
@[simp] theorem State.vendor_pipe (s : State) (r : VendorSetup) (data resp : List Byte) (eff : State → State) (done : Bool) (h : ∀ s, (eff s).pipe = s.pipe) :
    (State.vendor s r data resp eff done).pipe = s.pipe := by
  unfold State.vendor; (try dsimp only); (repeat' split) <;> (first | rfl | (simp; done) | (simp [h]; done) | (simp_all; done) | (try simp [h]))
@[simp] theorem State.vendor_faulted (s : State) (r : VendorSetup) (data resp : List Byte) (eff : State → State) (done : Bool) (h : ∀ s, (eff s).faulted = s.faulted) :
    (State.vendor s r data resp eff done).faulted = s.faulted := by
  unfold State.vendor; (try dsimp only); (repeat' split) <;> (first | rfl | (simp; done) | (simp [h]; done) | (simp_all; done) | (try simp [h]))
@[simp] theorem State.vendor_identity (s : State) (r : VendorSetup) (data resp : List Byte) (eff : State → State) (done : Bool) (h : ∀ s, (eff s).identity = s.identity) :
    (State.vendor s r data resp eff done).identity = s.identity := by
  unfold State.vendor; (try dsimp only); (repeat' split) <;> (first | rfl | (simp; done) | (simp [h]; done) | (simp_all; done) | (try simp [h]))
@[simp] theorem State.vendor_aon (s : State) (r : VendorSetup) (data resp : List Byte) (eff : State → State) (done : Bool) (h : ∀ s, (eff s).aon = s.aon) :
    (State.vendor s r data resp eff done).aon = s.aon := by
  unfold State.vendor; (try dsimp only); (repeat' split) <;> (first | rfl | (simp; done) | (simp [h]; done) | (simp_all; done) | (try simp [h]))
@[simp] theorem State.vendor_pins (s : State) (r : VendorSetup) (data resp : List Byte) (eff : State → State) (done : Bool) (h : ∀ s, (eff s).pins = s.pins) :
    (State.vendor s r data resp eff done).pins = s.pins := by
  unfold State.vendor; (try dsimp only); (repeat' split) <;> (first | rfl | (simp; done) | (simp [h]; done) | (simp_all; done) | (try simp [h]))
@[simp] theorem State.vendor_phase (s : State) (r : VendorSetup) (data resp : List Byte) (eff : State → State) (done : Bool) (h : ∀ s, (eff s).phase = s.phase) :
    (State.vendor s r data resp eff done).phase = s.phase := by
  unfold State.vendor; (try dsimp only); (repeat' split) <;> (first | rfl | (simp; done) | (simp [h]; done) | (simp_all; done) | (try simp [h]))
@[simp] theorem State.vendor_boot (s : State) (r : VendorSetup) (data resp : List Byte) (eff : State → State) (done : Bool) (h : ∀ s, (eff s).boot = s.boot) :
    (State.vendor s r data resp eff done).boot = s.boot := by
  unfold State.vendor; (try dsimp only); (repeat' split) <;> (first | rfl | (simp; done) | (simp [h]; done) | (simp_all; done) | (try simp [h]))
@[simp] theorem State.vendor_sys (s : State) (r : VendorSetup) (data resp : List Byte) (eff : State → State) (done : Bool) (h : ∀ s, (eff s).sys = s.sys) :
    (State.vendor s r data resp eff done).sys = s.sys := by
  unfold State.vendor; (try dsimp only); (repeat' split) <;> (first | rfl | (simp; done) | (simp [h]; done) | (simp_all; done) | (try simp [h]))
@[simp] theorem State.vendor_balls (s : State) (r : VendorSetup) (data resp : List Byte) (eff : State → State) (done : Bool) (h : ∀ s, (eff s).balls = s.balls) :
    (State.vendor s r data resp eff done).balls = s.balls := by
  unfold State.vendor; (try dsimp only); (repeat' split) <;> (first | rfl | (simp; done) | (simp [h]; done) | (simp_all; done) | (try simp [h]))
@[simp] theorem State.vendor_bb (s : State) (r : VendorSetup) (data resp : List Byte) (eff : State → State) (done : Bool) (h : ∀ s, (eff s).bb = s.bb) :
    (State.vendor s r data resp eff done).bb = s.bb := by
  unfold State.vendor; (try dsimp only); (repeat' split) <;> (first | rfl | (simp; done) | (simp [h]; done) | (simp_all; done) | (try simp [h]))
@[simp] theorem State.vendor_tap (s : State) (r : VendorSetup) (data resp : List Byte) (eff : State → State) (done : Bool) (h : ∀ s, (eff s).tap = s.tap) :
    (State.vendor s r data resp eff done).tap = s.tap := by
  unfold State.vendor; (try dsimp only); (repeat' split) <;> (first | rfl | (simp; done) | (simp [h]; done) | (simp_all; done) | (try simp [h]))
@[simp] theorem State.vendor_time (s : State) (r : VendorSetup) (data resp : List Byte) (eff : State → State) (done : Bool) (h : ∀ s, (eff s).time = s.time) :
    (State.vendor s r data resp eff done).time = s.time := by
  unfold State.vendor; (try dsimp only); (repeat' split) <;> (first | rfl | (simp; done) | (simp [h]; done) | (simp_all; done) | (try simp [h]))
@[simp] theorem State.vendor_thermal (s : State) (r : VendorSetup) (data resp : List Byte) (eff : State → State) (done : Bool) (h : ∀ s, (eff s).thermal = s.thermal) :
    (State.vendor s r data resp eff done).thermal = s.thermal := by
  unfold State.vendor; (try dsimp only); (repeat' split) <;> (first | rfl | (simp; done) | (simp [h]; done) | (simp_all; done) | (try simp [h]))
@[simp] theorem State.vendor_light (s : State) (r : VendorSetup) (data resp : List Byte) (eff : State → State) (done : Bool) (h : ∀ s, (eff s).light = s.light) :
    (State.vendor s r data resp eff done).light = s.light := by
  unfold State.vendor; (try dsimp only); (repeat' split) <;> (first | rfl | (simp; done) | (simp [h]; done) | (simp_all; done) | (try simp [h]))
@[simp] theorem State.vendor_ports (s : State) (r : VendorSetup) (data resp : List Byte) (eff : State → State) (done : Bool) (h : ∀ s, (eff s).ports = s.ports) :
    (State.vendor s r data resp eff done).ports = s.ports := by
  unfold State.vendor; (try dsimp only); (repeat' split) <;> (first | rfl | (simp; done) | (simp [h]; done) | (simp_all; done) | (try simp [h]))
@[simp] theorem State.vendor_frames (s : State) (r : VendorSetup) (data resp : List Byte) (eff : State → State) (done : Bool) (h : ∀ s, (eff s).frames = s.frames) :
    (State.vendor s r data resp eff done).frames = s.frames := by
  unfold State.vendor; (try dsimp only); (repeat' split) <;> (first | rfl | (simp; done) | (simp [h]; done) | (simp_all; done) | (try simp [h]))
@[simp] theorem State.vendor_nextFrame (s : State) (r : VendorSetup) (data resp : List Byte) (eff : State → State) (done : Bool) (h : ∀ s, (eff s).nextFrame = s.nextFrame) :
    (State.vendor s r data resp eff done).nextFrame = s.nextFrame := by
  unfold State.vendor; (try dsimp only); (repeat' split) <;> (first | rfl | (simp; done) | (simp [h]; done) | (simp_all; done) | (try simp [h]))
@[simp] theorem State.vendor_ctxs (s : State) (r : VendorSetup) (data resp : List Byte) (eff : State → State) (done : Bool) (h : ∀ s, (eff s).ctxs = s.ctxs) :
    (State.vendor s r data resp eff done).ctxs = s.ctxs := by
  unfold State.vendor; (try dsimp only); (repeat' split) <;> (first | rfl | (simp; done) | (simp [h]; done) | (simp_all; done) | (try simp [h]))
@[simp] theorem State.vendor_dec (s : State) (r : VendorSetup) (data resp : List Byte) (eff : State → State) (done : Bool) (h : ∀ s, (eff s).dec = s.dec) :
    (State.vendor s r data resp eff done).dec = s.dec := by
  unfold State.vendor; (try dsimp only); (repeat' split) <;> (first | rfl | (simp; done) | (simp [h]; done) | (simp_all; done) | (try simp [h]))
@[simp] theorem State.vendor_vs (s : State) (r : VendorSetup) (data resp : List Byte) (eff : State → State) (done : Bool) (h : ∀ s, (eff s).vs = s.vs) :
    (State.vendor s r data resp eff done).vs = s.vs := by
  unfold State.vendor; (try dsimp only); (repeat' split) <;> (first | rfl | (simp; done) | (simp [h]; done) | (simp_all; done) | (try simp [h]))
@[simp] theorem State.vendor_former (s : State) (r : VendorSetup) (data resp : List Byte) (eff : State → State) (done : Bool) (h : ∀ s, (eff s).former = s.former) :
    (State.vendor s r data resp eff done).former = s.former := by
  unfold State.vendor; (try dsimp only); (repeat' split) <;> (first | rfl | (simp; done) | (simp [h]; done) | (simp_all; done) | (try simp [h]))
@[simp] theorem State.vendor_ser (s : State) (r : VendorSetup) (data resp : List Byte) (eff : State → State) (done : Bool) (h : ∀ s, (eff s).ser = s.ser) :
    (State.vendor s r data resp eff done).ser = s.ser := by
  unfold State.vendor; (try dsimp only); (repeat' split) <;> (first | rfl | (simp; done) | (simp [h]; done) | (simp_all; done) | (try simp [h]))
@[simp] theorem State.vendor_pair (s : State) (r : VendorSetup) (data resp : List Byte) (eff : State → State) (done : Bool) (h : ∀ s, (eff s).pair = s.pair) :
    (State.vendor s r data resp eff done).pair = s.pair := by
  unfold State.vendor; (try dsimp only); (repeat' split) <;> (first | rfl | (simp; done) | (simp [h]; done) | (simp_all; done) | (try simp [h]))
@[simp] theorem State.vendor_fab (s : State) (r : VendorSetup) (data resp : List Byte) (eff : State → State) (done : Bool) (h : ∀ s, (eff s).fab = s.fab) :
    (State.vendor s r data resp eff done).fab = s.fab := by
  unfold State.vendor; (try dsimp only); (repeat' split) <;> (first | rfl | (simp; done) | (simp [h]; done) | (simp_all; done) | (try simp [h]))
@[simp] theorem State.vendor_fresh (s : State) (r : VendorSetup) (data resp : List Byte) (eff : State → State) (done : Bool) (h : ∀ s, (eff s).fresh = s.fresh) :
    (State.vendor s r data resp eff done).fresh = s.fresh := by
  unfold State.vendor; (try dsimp only); (repeat' split) <;> (first | rfl | (simp; done) | (simp [h]; done) | (simp_all; done) | (try simp [h]))
@[simp] theorem State.usbRequest_pending (s : State) (r : VendorSetup) (dirIn lenOk halted : Bool) (data resp : List Byte) (eff : State → State) (done : Bool) (h : ∀ s, (eff s).pending = s.pending) :
    (State.usbRequest s r dirIn lenOk halted data resp eff done).pending = s.pending := by
  unfold State.usbRequest; (try dsimp only); (repeat' split) <;> (first | rfl | (simp; done) | (simp [h]; done) | (simp_all; done) | (try simp [h]))
@[simp] theorem State.usbRequest_pipe (s : State) (r : VendorSetup) (dirIn lenOk halted : Bool) (data resp : List Byte) (eff : State → State) (done : Bool) (h : ∀ s, (eff s).pipe = s.pipe) :
    (State.usbRequest s r dirIn lenOk halted data resp eff done).pipe = s.pipe := by
  unfold State.usbRequest; (try dsimp only); (repeat' split) <;> (first | rfl | (simp; done) | (simp [h]; done) | (simp_all; done) | (try simp [h]))
@[simp] theorem State.usbRequest_faulted (s : State) (r : VendorSetup) (dirIn lenOk halted : Bool) (data resp : List Byte) (eff : State → State) (done : Bool) (h : ∀ s, (eff s).faulted = s.faulted) :
    (State.usbRequest s r dirIn lenOk halted data resp eff done).faulted = s.faulted := by
  unfold State.usbRequest; (try dsimp only); (repeat' split) <;> (first | rfl | (simp; done) | (simp [h]; done) | (simp_all; done) | (try simp [h]))
@[simp] theorem State.usbRequest_identity (s : State) (r : VendorSetup) (dirIn lenOk halted : Bool) (data resp : List Byte) (eff : State → State) (done : Bool) (h : ∀ s, (eff s).identity = s.identity) :
    (State.usbRequest s r dirIn lenOk halted data resp eff done).identity = s.identity := by
  unfold State.usbRequest; (try dsimp only); (repeat' split) <;> (first | rfl | (simp; done) | (simp [h]; done) | (simp_all; done) | (try simp [h]))
@[simp] theorem State.usbRequest_aon (s : State) (r : VendorSetup) (dirIn lenOk halted : Bool) (data resp : List Byte) (eff : State → State) (done : Bool) (h : ∀ s, (eff s).aon = s.aon) :
    (State.usbRequest s r dirIn lenOk halted data resp eff done).aon = s.aon := by
  unfold State.usbRequest; (try dsimp only); (repeat' split) <;> (first | rfl | (simp; done) | (simp [h]; done) | (simp_all; done) | (try simp [h]))
@[simp] theorem State.usbRequest_pins (s : State) (r : VendorSetup) (dirIn lenOk halted : Bool) (data resp : List Byte) (eff : State → State) (done : Bool) (h : ∀ s, (eff s).pins = s.pins) :
    (State.usbRequest s r dirIn lenOk halted data resp eff done).pins = s.pins := by
  unfold State.usbRequest; (try dsimp only); (repeat' split) <;> (first | rfl | (simp; done) | (simp [h]; done) | (simp_all; done) | (try simp [h]))
@[simp] theorem State.usbRequest_phase (s : State) (r : VendorSetup) (dirIn lenOk halted : Bool) (data resp : List Byte) (eff : State → State) (done : Bool) (h : ∀ s, (eff s).phase = s.phase) :
    (State.usbRequest s r dirIn lenOk halted data resp eff done).phase = s.phase := by
  unfold State.usbRequest; (try dsimp only); (repeat' split) <;> (first | rfl | (simp; done) | (simp [h]; done) | (simp_all; done) | (try simp [h]))
@[simp] theorem State.usbRequest_boot (s : State) (r : VendorSetup) (dirIn lenOk halted : Bool) (data resp : List Byte) (eff : State → State) (done : Bool) (h : ∀ s, (eff s).boot = s.boot) :
    (State.usbRequest s r dirIn lenOk halted data resp eff done).boot = s.boot := by
  unfold State.usbRequest; (try dsimp only); (repeat' split) <;> (first | rfl | (simp; done) | (simp [h]; done) | (simp_all; done) | (try simp [h]))
@[simp] theorem State.usbRequest_sys (s : State) (r : VendorSetup) (dirIn lenOk halted : Bool) (data resp : List Byte) (eff : State → State) (done : Bool) (h : ∀ s, (eff s).sys = s.sys) :
    (State.usbRequest s r dirIn lenOk halted data resp eff done).sys = s.sys := by
  unfold State.usbRequest; (try dsimp only); (repeat' split) <;> (first | rfl | (simp; done) | (simp [h]; done) | (simp_all; done) | (try simp [h]))
@[simp] theorem State.usbRequest_balls (s : State) (r : VendorSetup) (dirIn lenOk halted : Bool) (data resp : List Byte) (eff : State → State) (done : Bool) (h : ∀ s, (eff s).balls = s.balls) :
    (State.usbRequest s r dirIn lenOk halted data resp eff done).balls = s.balls := by
  unfold State.usbRequest; (try dsimp only); (repeat' split) <;> (first | rfl | (simp; done) | (simp [h]; done) | (simp_all; done) | (try simp [h]))
@[simp] theorem State.usbRequest_bb (s : State) (r : VendorSetup) (dirIn lenOk halted : Bool) (data resp : List Byte) (eff : State → State) (done : Bool) (h : ∀ s, (eff s).bb = s.bb) :
    (State.usbRequest s r dirIn lenOk halted data resp eff done).bb = s.bb := by
  unfold State.usbRequest; (try dsimp only); (repeat' split) <;> (first | rfl | (simp; done) | (simp [h]; done) | (simp_all; done) | (try simp [h]))
@[simp] theorem State.usbRequest_tap (s : State) (r : VendorSetup) (dirIn lenOk halted : Bool) (data resp : List Byte) (eff : State → State) (done : Bool) (h : ∀ s, (eff s).tap = s.tap) :
    (State.usbRequest s r dirIn lenOk halted data resp eff done).tap = s.tap := by
  unfold State.usbRequest; (try dsimp only); (repeat' split) <;> (first | rfl | (simp; done) | (simp [h]; done) | (simp_all; done) | (try simp [h]))
@[simp] theorem State.usbRequest_time (s : State) (r : VendorSetup) (dirIn lenOk halted : Bool) (data resp : List Byte) (eff : State → State) (done : Bool) (h : ∀ s, (eff s).time = s.time) :
    (State.usbRequest s r dirIn lenOk halted data resp eff done).time = s.time := by
  unfold State.usbRequest; (try dsimp only); (repeat' split) <;> (first | rfl | (simp; done) | (simp [h]; done) | (simp_all; done) | (try simp [h]))
@[simp] theorem State.usbRequest_thermal (s : State) (r : VendorSetup) (dirIn lenOk halted : Bool) (data resp : List Byte) (eff : State → State) (done : Bool) (h : ∀ s, (eff s).thermal = s.thermal) :
    (State.usbRequest s r dirIn lenOk halted data resp eff done).thermal = s.thermal := by
  unfold State.usbRequest; (try dsimp only); (repeat' split) <;> (first | rfl | (simp; done) | (simp [h]; done) | (simp_all; done) | (try simp [h]))
@[simp] theorem State.usbRequest_light (s : State) (r : VendorSetup) (dirIn lenOk halted : Bool) (data resp : List Byte) (eff : State → State) (done : Bool) (h : ∀ s, (eff s).light = s.light) :
    (State.usbRequest s r dirIn lenOk halted data resp eff done).light = s.light := by
  unfold State.usbRequest; (try dsimp only); (repeat' split) <;> (first | rfl | (simp; done) | (simp [h]; done) | (simp_all; done) | (try simp [h]))
@[simp] theorem State.usbRequest_ports (s : State) (r : VendorSetup) (dirIn lenOk halted : Bool) (data resp : List Byte) (eff : State → State) (done : Bool) (h : ∀ s, (eff s).ports = s.ports) :
    (State.usbRequest s r dirIn lenOk halted data resp eff done).ports = s.ports := by
  unfold State.usbRequest; (try dsimp only); (repeat' split) <;> (first | rfl | (simp; done) | (simp [h]; done) | (simp_all; done) | (try simp [h]))
@[simp] theorem State.usbRequest_frames (s : State) (r : VendorSetup) (dirIn lenOk halted : Bool) (data resp : List Byte) (eff : State → State) (done : Bool) (h : ∀ s, (eff s).frames = s.frames) :
    (State.usbRequest s r dirIn lenOk halted data resp eff done).frames = s.frames := by
  unfold State.usbRequest; (try dsimp only); (repeat' split) <;> (first | rfl | (simp; done) | (simp [h]; done) | (simp_all; done) | (try simp [h]))
@[simp] theorem State.usbRequest_nextFrame (s : State) (r : VendorSetup) (dirIn lenOk halted : Bool) (data resp : List Byte) (eff : State → State) (done : Bool) (h : ∀ s, (eff s).nextFrame = s.nextFrame) :
    (State.usbRequest s r dirIn lenOk halted data resp eff done).nextFrame = s.nextFrame := by
  unfold State.usbRequest; (try dsimp only); (repeat' split) <;> (first | rfl | (simp; done) | (simp [h]; done) | (simp_all; done) | (try simp [h]))
@[simp] theorem State.usbRequest_ctxs (s : State) (r : VendorSetup) (dirIn lenOk halted : Bool) (data resp : List Byte) (eff : State → State) (done : Bool) (h : ∀ s, (eff s).ctxs = s.ctxs) :
    (State.usbRequest s r dirIn lenOk halted data resp eff done).ctxs = s.ctxs := by
  unfold State.usbRequest; (try dsimp only); (repeat' split) <;> (first | rfl | (simp; done) | (simp [h]; done) | (simp_all; done) | (try simp [h]))
@[simp] theorem State.usbRequest_dec (s : State) (r : VendorSetup) (dirIn lenOk halted : Bool) (data resp : List Byte) (eff : State → State) (done : Bool) (h : ∀ s, (eff s).dec = s.dec) :
    (State.usbRequest s r dirIn lenOk halted data resp eff done).dec = s.dec := by
  unfold State.usbRequest; (try dsimp only); (repeat' split) <;> (first | rfl | (simp; done) | (simp [h]; done) | (simp_all; done) | (try simp [h]))
@[simp] theorem State.usbRequest_vs (s : State) (r : VendorSetup) (dirIn lenOk halted : Bool) (data resp : List Byte) (eff : State → State) (done : Bool) (h : ∀ s, (eff s).vs = s.vs) :
    (State.usbRequest s r dirIn lenOk halted data resp eff done).vs = s.vs := by
  unfold State.usbRequest; (try dsimp only); (repeat' split) <;> (first | rfl | (simp; done) | (simp [h]; done) | (simp_all; done) | (try simp [h]))
@[simp] theorem State.usbRequest_former (s : State) (r : VendorSetup) (dirIn lenOk halted : Bool) (data resp : List Byte) (eff : State → State) (done : Bool) (h : ∀ s, (eff s).former = s.former) :
    (State.usbRequest s r dirIn lenOk halted data resp eff done).former = s.former := by
  unfold State.usbRequest; (try dsimp only); (repeat' split) <;> (first | rfl | (simp; done) | (simp [h]; done) | (simp_all; done) | (try simp [h]))
@[simp] theorem State.usbRequest_ser (s : State) (r : VendorSetup) (dirIn lenOk halted : Bool) (data resp : List Byte) (eff : State → State) (done : Bool) (h : ∀ s, (eff s).ser = s.ser) :
    (State.usbRequest s r dirIn lenOk halted data resp eff done).ser = s.ser := by
  unfold State.usbRequest; (try dsimp only); (repeat' split) <;> (first | rfl | (simp; done) | (simp [h]; done) | (simp_all; done) | (try simp [h]))
@[simp] theorem State.usbRequest_pair (s : State) (r : VendorSetup) (dirIn lenOk halted : Bool) (data resp : List Byte) (eff : State → State) (done : Bool) (h : ∀ s, (eff s).pair = s.pair) :
    (State.usbRequest s r dirIn lenOk halted data resp eff done).pair = s.pair := by
  unfold State.usbRequest; (try dsimp only); (repeat' split) <;> (first | rfl | (simp; done) | (simp [h]; done) | (simp_all; done) | (try simp [h]))
@[simp] theorem State.usbRequest_fab (s : State) (r : VendorSetup) (dirIn lenOk halted : Bool) (data resp : List Byte) (eff : State → State) (done : Bool) (h : ∀ s, (eff s).fab = s.fab) :
    (State.usbRequest s r dirIn lenOk halted data resp eff done).fab = s.fab := by
  unfold State.usbRequest; (try dsimp only); (repeat' split) <;> (first | rfl | (simp; done) | (simp [h]; done) | (simp_all; done) | (try simp [h]))
@[simp] theorem State.usbRequest_fresh (s : State) (r : VendorSetup) (dirIn lenOk halted : Bool) (data resp : List Byte) (eff : State → State) (done : Bool) (h : ∀ s, (eff s).fresh = s.fresh) :
    (State.usbRequest s r dirIn lenOk halted data resp eff done).fresh = s.fresh := by
  unfold State.usbRequest; (try dsimp only); (repeat' split) <;> (first | rfl | (simp; done) | (simp [h]; done) | (simp_all; done) | (try simp [h]))
theorem execGetInventory_frame (r : VendorSetup) (done : Bool) (s : State) :
    ∃ u, execGetInventory r done s = .next u ∧
    u.pending = s.pending ∧ u.identity = s.identity ∧ u.aon = s.aon ∧ u.pins = s.pins ∧ u.phase = s.phase ∧ u.boot = s.boot ∧ u.sys = s.sys ∧ u.balls = s.balls ∧ u.faulted = s.faulted ∧ u.bb = s.bb ∧ u.tap = s.tap ∧ u.time = s.time ∧ u.thermal = s.thermal ∧ u.light = s.light ∧ u.ports = s.ports ∧ u.frames = s.frames ∧ u.nextFrame = s.nextFrame ∧ u.pipe = s.pipe ∧ u.ctxs = s.ctxs ∧ u.dec = s.dec ∧ u.vs = s.vs ∧ u.former = s.former ∧ u.ser = s.ser ∧ u.pair = s.pair ∧ u.fab = s.fab ∧ u.fresh = s.fresh := by
  refine ⟨_, rfl, ?_⟩
  first
  | (simp; done)
  | ((try simp only [State.whenRun, State.access, State.packet]); (repeat' split) <;> (first | rfl | (simp; done) | (simp_all; done) | (try simp)))
theorem execGetLinkStatus_frame (r : VendorSetup) (done : Bool) (s : State) :
    ∃ u, execGetLinkStatus r done s = .next u ∧
    u.pending = s.pending ∧ u.identity = s.identity ∧ u.aon = s.aon ∧ u.pins = s.pins ∧ u.phase = s.phase ∧ u.boot = s.boot ∧ u.sys = s.sys ∧ u.balls = s.balls ∧ u.faulted = s.faulted ∧ u.bb = s.bb ∧ u.tap = s.tap ∧ u.time = s.time ∧ u.thermal = s.thermal ∧ u.light = s.light ∧ u.ports = s.ports ∧ u.frames = s.frames ∧ u.nextFrame = s.nextFrame ∧ u.pipe = s.pipe ∧ u.ctxs = s.ctxs ∧ u.dec = s.dec ∧ u.vs = s.vs ∧ u.former = s.former ∧ u.ser = s.ser ∧ u.pair = s.pair ∧ u.fab = s.fab ∧ u.fresh = s.fresh := by
  refine ⟨_, rfl, ?_⟩
  first
  | (simp; done)
  | ((try simp only [State.whenRun, State.access, State.packet]); (repeat' split) <;> (first | rfl | (simp; done) | (simp_all; done) | (try simp)))
@[simp] theorem State.ackUsb_frame (s : State) (n : Word) :
    (State.ackUsb s n).pending = s.pending ∧ (State.ackUsb s n).identity = s.identity ∧ (State.ackUsb s n).aon = s.aon ∧ (State.ackUsb s n).pins = s.pins ∧ (State.ackUsb s n).phase = s.phase ∧ (State.ackUsb s n).boot = s.boot ∧ (State.ackUsb s n).sys = s.sys ∧ (State.ackUsb s n).balls = s.balls ∧ (State.ackUsb s n).fields = s.fields ∧ (State.ackUsb s n).shadow = s.shadow ∧ (State.ackUsb s n).trowels = s.trowels ∧ (State.ackUsb s n).faulted = s.faulted ∧ (State.ackUsb s n).bb = s.bb ∧ (State.ackUsb s n).tap = s.tap ∧ (State.ackUsb s n).time = s.time ∧ (State.ackUsb s n).thermal = s.thermal ∧ (State.ackUsb s n).light = s.light ∧ (State.ackUsb s n).adcA = s.adcA ∧ (State.ackUsb s n).adcB = s.adcB ∧ (State.ackUsb s n).amb = s.amb ∧ (State.ackUsb s n).ports = s.ports ∧ (State.ackUsb s n).frames = s.frames ∧ (State.ackUsb s n).nextFrame = s.nextFrame ∧ (State.ackUsb s n).pipe = s.pipe ∧ (State.ackUsb s n).ctxs = s.ctxs ∧ (State.ackUsb s n).dec = s.dec ∧ (State.ackUsb s n).vs = s.vs ∧ (State.ackUsb s n).former = s.former ∧ (State.ackUsb s n).ser = s.ser ∧ (State.ackUsb s n).fab = s.fab ∧ (State.ackUsb s n).fresh = s.fresh := by
  first
  | (unfold State.ackUsb; simp; done)
  | (unfold State.ackUsb; (try dsimp only); (repeat' split) <;> (first | rfl | (simp; done) | (simp_all; done) | (try simp)))
theorem execAckRecords_frame (r : VendorSetup) (n : Word) (done : Bool) (s : State) :
    ∃ u, execAckRecords r n done s = .next u ∧
    u.pending = s.pending ∧ u.identity = s.identity ∧ u.aon = s.aon ∧ u.pins = s.pins ∧ u.phase = s.phase ∧ u.boot = s.boot ∧ u.sys = s.sys ∧ u.balls = s.balls ∧ u.faulted = s.faulted ∧ u.bb = s.bb ∧ u.tap = s.tap ∧ u.time = s.time ∧ u.thermal = s.thermal ∧ u.light = s.light ∧ u.ports = s.ports ∧ u.frames = s.frames ∧ u.nextFrame = s.nextFrame ∧ u.pipe = s.pipe ∧ u.ctxs = s.ctxs ∧ u.dec = s.dec ∧ u.vs = s.vs ∧ u.former = s.former ∧ u.ser = s.ser ∧ u.fab = s.fab ∧ u.fresh = s.fresh := by
  refine ⟨_, rfl, ?_⟩
  first
  | (simp; done)
  | ((try simp only [State.whenRun, State.access, State.packet]); (repeat' split) <;> (first | rfl | (simp; done) | (simp_all; done) | (try simp)))
theorem execRetrieve_frame (r : VendorSetup) (done : Bool) (s : State) :
    ∃ u, execRetrieve r done s = .next u ∧
    u.pending = s.pending ∧ u.identity = s.identity ∧ u.aon = s.aon ∧ u.pins = s.pins ∧ u.phase = s.phase ∧ u.boot = s.boot ∧ u.sys = s.sys ∧ u.balls = s.balls ∧ u.faulted = s.faulted ∧ u.bb = s.bb ∧ u.tap = s.tap ∧ u.time = s.time ∧ u.thermal = s.thermal ∧ u.light = s.light ∧ u.ports = s.ports ∧ u.frames = s.frames ∧ u.nextFrame = s.nextFrame ∧ u.pipe = s.pipe ∧ u.ctxs = s.ctxs ∧ u.dec = s.dec ∧ u.vs = s.vs ∧ u.former = s.former ∧ u.ser = s.ser ∧ u.pair = s.pair ∧ u.fab = s.fab ∧ u.fresh = s.fresh := by
  refine ⟨_, rfl, ?_⟩
  first
  | (simp; done)
  | ((try simp only [State.whenRun, State.access, State.packet]); (repeat' split) <;> (first | rfl | (simp; done) | (simp_all; done) | (try simp)))
theorem execGetBlackbox_frame (r : VendorSetup) (done : Bool) (s : State) :
    ∃ u, execGetBlackbox r done s = .next u ∧
    u.pending = s.pending ∧ u.identity = s.identity ∧ u.aon = s.aon ∧ u.pins = s.pins ∧ u.phase = s.phase ∧ u.boot = s.boot ∧ u.sys = s.sys ∧ u.balls = s.balls ∧ u.faulted = s.faulted ∧ u.bb = s.bb ∧ u.tap = s.tap ∧ u.time = s.time ∧ u.thermal = s.thermal ∧ u.light = s.light ∧ u.ports = s.ports ∧ u.frames = s.frames ∧ u.nextFrame = s.nextFrame ∧ u.pipe = s.pipe ∧ u.ctxs = s.ctxs ∧ u.dec = s.dec ∧ u.vs = s.vs ∧ u.former = s.former ∧ u.ser = s.ser ∧ u.pair = s.pair ∧ u.fab = s.fab ∧ u.fresh = s.fresh := by
  refine ⟨_, rfl, ?_⟩
  first
  | (simp; done)
  | ((try simp only [State.whenRun, State.access, State.packet]); (repeat' split) <;> (first | rfl | (simp; done) | (simp_all; done) | (try simp)))
theorem execUsbVendorRequestStall_frame (r : VendorSetup) (s : State) :
    ∃ u, execUsbVendorRequestStall r s = .next u ∧
    u.pending = s.pending ∧ u.identity = s.identity ∧ u.aon = s.aon ∧ u.pins = s.pins ∧ u.phase = s.phase ∧ u.boot = s.boot ∧ u.sys = s.sys ∧ u.balls = s.balls ∧ u.fields = s.fields ∧ u.shadow = s.shadow ∧ u.trowels = s.trowels ∧ u.faulted = s.faulted ∧ u.bb = s.bb ∧ u.tap = s.tap ∧ u.time = s.time ∧ u.thermal = s.thermal ∧ u.light = s.light ∧ u.adcA = s.adcA ∧ u.adcB = s.adcB ∧ u.amb = s.amb ∧ u.ports = s.ports ∧ u.frames = s.frames ∧ u.nextFrame = s.nextFrame ∧ u.pipe = s.pipe ∧ u.ctxs = s.ctxs ∧ u.dec = s.dec ∧ u.vs = s.vs ∧ u.former = s.former ∧ u.ser = s.ser ∧ u.pair = s.pair ∧ u.fab = s.fab ∧ u.fresh = s.fresh := by
  refine ⟨_, rfl, ?_⟩
  first
  | (simp; done)
  | ((try simp only [State.whenRun, State.access, State.packet]); (repeat' split) <;> (first | rfl | (simp; done) | (simp_all; done) | (try simp)))
end Sys2Proof.Machine
end

