-- ==== Sys2Proof/Laws/FrameSer.lean ====
section
/-! SUPPORT. Frames: which parts of the state each operation of Machine/Ser leaves as they were. -/

namespace Sys2Proof.Machine
@[simp] theorem State.updSer_frame (s : State) (f : Ser → Ser) :
    (State.updSer s f).pending = s.pending ∧ (State.updSer s f).identity = s.identity ∧ (State.updSer s f).aon = s.aon ∧ (State.updSer s f).pins = s.pins ∧ (State.updSer s f).phase = s.phase ∧ (State.updSer s f).boot = s.boot ∧ (State.updSer s f).sys = s.sys ∧ (State.updSer s f).balls = s.balls ∧ (State.updSer s f).fields = s.fields ∧ (State.updSer s f).shadow = s.shadow ∧ (State.updSer s f).trowels = s.trowels ∧ (State.updSer s f).faulted = s.faulted ∧ (State.updSer s f).bb = s.bb ∧ (State.updSer s f).tap = s.tap ∧ (State.updSer s f).time = s.time ∧ (State.updSer s f).thermal = s.thermal ∧ (State.updSer s f).light = s.light ∧ (State.updSer s f).adcA = s.adcA ∧ (State.updSer s f).adcB = s.adcB ∧ (State.updSer s f).amb = s.amb ∧ (State.updSer s f).ports = s.ports ∧ (State.updSer s f).frames = s.frames ∧ (State.updSer s f).nextFrame = s.nextFrame ∧ (State.updSer s f).pipe = s.pipe ∧ (State.updSer s f).ctxs = s.ctxs ∧ (State.updSer s f).dec = s.dec ∧ (State.updSer s f).vs = s.vs ∧ (State.updSer s f).former = s.former ∧ (State.updSer s f).usb = s.usb ∧ (State.updSer s f).pair = s.pair ∧ (State.updSer s f).fab = s.fab ∧ (State.updSer s f).fresh = s.fresh := by
  first
  | (unfold State.updSer; simp; done)
  | (unfold State.updSer; (try dsimp only); (repeat' split) <;> (first | rfl | (simp; done) | (simp_all; done) | (try simp)))
@[simp] theorem State.serRelease_frame (s : State) :
    (State.serRelease s).pending = s.pending ∧ (State.serRelease s).identity = s.identity ∧ (State.serRelease s).aon = s.aon ∧ (State.serRelease s).pins = s.pins ∧ (State.serRelease s).phase = s.phase ∧ (State.serRelease s).boot = s.boot ∧ (State.serRelease s).sys = s.sys ∧ (State.serRelease s).balls = s.balls ∧ (State.serRelease s).fields = s.fields ∧ (State.serRelease s).shadow = s.shadow ∧ (State.serRelease s).trowels = s.trowels ∧ (State.serRelease s).faulted = s.faulted ∧ (State.serRelease s).bb = s.bb ∧ (State.serRelease s).tap = s.tap ∧ (State.serRelease s).time = s.time ∧ (State.serRelease s).thermal = s.thermal ∧ (State.serRelease s).light = s.light ∧ (State.serRelease s).adcA = s.adcA ∧ (State.serRelease s).adcB = s.adcB ∧ (State.serRelease s).amb = s.amb ∧ (State.serRelease s).ports = s.ports ∧ (State.serRelease s).frames = s.frames ∧ (State.serRelease s).nextFrame = s.nextFrame ∧ (State.serRelease s).pipe = s.pipe ∧ (State.serRelease s).ctxs = s.ctxs ∧ (State.serRelease s).dec = s.dec ∧ (State.serRelease s).vs = s.vs ∧ (State.serRelease s).former = s.former ∧ (State.serRelease s).usb = s.usb ∧ (State.serRelease s).pair = s.pair ∧ (State.serRelease s).fab = s.fab ∧ (State.serRelease s).fresh = s.fresh := by
  first
  | (unfold State.serRelease; simp; done)
  | (unfold State.serRelease; (try dsimp only); (repeat' split) <;> (first | rfl | (simp; done) | (simp_all; done) | (try simp)))
@[simp] theorem State.serRestart_frame (s : State) :
    (State.serRestart s).pending = s.pending ∧ (State.serRestart s).identity = s.identity ∧ (State.serRestart s).aon = s.aon ∧ (State.serRestart s).pins = s.pins ∧ (State.serRestart s).phase = s.phase ∧ (State.serRestart s).boot = s.boot ∧ (State.serRestart s).sys = s.sys ∧ (State.serRestart s).balls = s.balls ∧ (State.serRestart s).fields = s.fields ∧ (State.serRestart s).shadow = s.shadow ∧ (State.serRestart s).trowels = s.trowels ∧ (State.serRestart s).faulted = s.faulted ∧ (State.serRestart s).bb = s.bb ∧ (State.serRestart s).tap = s.tap ∧ (State.serRestart s).time = s.time ∧ (State.serRestart s).thermal = s.thermal ∧ (State.serRestart s).light = s.light ∧ (State.serRestart s).adcA = s.adcA ∧ (State.serRestart s).adcB = s.adcB ∧ (State.serRestart s).amb = s.amb ∧ (State.serRestart s).ports = s.ports ∧ (State.serRestart s).frames = s.frames ∧ (State.serRestart s).nextFrame = s.nextFrame ∧ (State.serRestart s).pipe = s.pipe ∧ (State.serRestart s).ctxs = s.ctxs ∧ (State.serRestart s).dec = s.dec ∧ (State.serRestart s).vs = s.vs ∧ (State.serRestart s).former = s.former ∧ (State.serRestart s).usb = s.usb ∧ (State.serRestart s).pair = s.pair ∧ (State.serRestart s).fab = s.fab ∧ (State.serRestart s).fresh = s.fresh := by
  first
  | (unfold State.serRestart; simp; done)
  | (unfold State.serRestart; (try dsimp only); (repeat' split) <;> (first | rfl | (simp; done) | (simp_all; done) | (try simp)))
theorem execSerFrameStart_frame (s : State) :
    ∃ u, execSerFrameStart s = .next u ∧
    u.pending = s.pending ∧ u.identity = s.identity ∧ u.aon = s.aon ∧ u.pins = s.pins ∧ u.phase = s.phase ∧ u.boot = s.boot ∧ u.sys = s.sys ∧ u.balls = s.balls ∧ u.fields = s.fields ∧ u.shadow = s.shadow ∧ u.trowels = s.trowels ∧ u.faulted = s.faulted ∧ u.bb = s.bb ∧ u.tap = s.tap ∧ u.time = s.time ∧ u.thermal = s.thermal ∧ u.light = s.light ∧ u.adcA = s.adcA ∧ u.adcB = s.adcB ∧ u.amb = s.amb ∧ u.ports = s.ports ∧ u.frames = s.frames ∧ u.nextFrame = s.nextFrame ∧ u.pipe = s.pipe ∧ u.ctxs = s.ctxs ∧ u.dec = s.dec ∧ u.vs = s.vs ∧ u.former = s.former ∧ u.usb = s.usb ∧ u.pair = s.pair ∧ u.fab = s.fab ∧ u.fresh = s.fresh := by
  refine ⟨_, rfl, ?_⟩
  first
  | (simp; done)
  | ((try simp only [State.whenRun, State.access, State.packet]); (repeat' split) <;> (first | rfl | (simp; done) | (simp_all; done) | (try simp)))
theorem execSerCollision_frame (bit : Nat) (read : Bool) (s : State) :
    ∃ u, execSerCollision bit s read = .next u ∧
    u.pending = s.pending ∧ u.identity = s.identity ∧ u.aon = s.aon ∧ u.pins = s.pins ∧ u.phase = s.phase ∧ u.boot = s.boot ∧ u.sys = s.sys ∧ u.balls = s.balls ∧ u.shadow = s.shadow ∧ u.trowels = s.trowels ∧ u.faulted = s.faulted ∧ u.tap = s.tap ∧ u.time = s.time ∧ u.thermal = s.thermal ∧ u.light = s.light ∧ u.adcA = s.adcA ∧ u.adcB = s.adcB ∧ u.amb = s.amb ∧ u.ports = s.ports ∧ u.frames = s.frames ∧ u.nextFrame = s.nextFrame ∧ u.pipe = s.pipe ∧ u.ctxs = s.ctxs ∧ u.dec = s.dec ∧ u.vs = s.vs ∧ u.former = s.former ∧ u.usb = s.usb ∧ u.pair = s.pair ∧ u.fab = s.fab ∧ u.fresh = s.fresh := by
  refine ⟨_, rfl, ?_⟩
  first
  | (simp; done)
  | ((try simp only [State.whenRun, State.access, State.packet]); (repeat' split) <;> (first | rfl | (simp; done) | (simp_all; done) | (try simp)))
@[simp] theorem State.serRecordSent_frame (s : State) :
    (State.serRecordSent s).pending = s.pending ∧ (State.serRecordSent s).identity = s.identity ∧ (State.serRecordSent s).aon = s.aon ∧ (State.serRecordSent s).pins = s.pins ∧ (State.serRecordSent s).phase = s.phase ∧ (State.serRecordSent s).boot = s.boot ∧ (State.serRecordSent s).sys = s.sys ∧ (State.serRecordSent s).balls = s.balls ∧ (State.serRecordSent s).shadow = s.shadow ∧ (State.serRecordSent s).faulted = s.faulted ∧ (State.serRecordSent s).bb = s.bb ∧ (State.serRecordSent s).tap = s.tap ∧ (State.serRecordSent s).time = s.time ∧ (State.serRecordSent s).thermal = s.thermal ∧ (State.serRecordSent s).light = s.light ∧ (State.serRecordSent s).adcA = s.adcA ∧ (State.serRecordSent s).adcB = s.adcB ∧ (State.serRecordSent s).amb = s.amb ∧ (State.serRecordSent s).ports = s.ports ∧ (State.serRecordSent s).frames = s.frames ∧ (State.serRecordSent s).nextFrame = s.nextFrame ∧ (State.serRecordSent s).pipe = s.pipe ∧ (State.serRecordSent s).ctxs = s.ctxs ∧ (State.serRecordSent s).dec = s.dec ∧ (State.serRecordSent s).vs = s.vs ∧ (State.serRecordSent s).former = s.former ∧ (State.serRecordSent s).usb = s.usb ∧ (State.serRecordSent s).fab = s.fab ∧ (State.serRecordSent s).fresh = s.fresh := by
  first
  | (unfold State.serRecordSent; simp; done)
  | (unfold State.serRecordSent; (try dsimp only); (repeat' split) <;> (first | rfl | (simp; done) | (simp_all; done) | (try simp)))
theorem execSerFrameSent_frame (s : State) :
    ∃ u, execSerFrameSent s = .next u ∧
    u.pending = s.pending ∧ u.identity = s.identity ∧ u.aon = s.aon ∧ u.pins = s.pins ∧ u.phase = s.phase ∧ u.boot = s.boot ∧ u.sys = s.sys ∧ u.balls = s.balls ∧ u.shadow = s.shadow ∧ u.faulted = s.faulted ∧ u.bb = s.bb ∧ u.tap = s.tap ∧ u.time = s.time ∧ u.thermal = s.thermal ∧ u.light = s.light ∧ u.adcA = s.adcA ∧ u.adcB = s.adcB ∧ u.amb = s.amb ∧ u.ports = s.ports ∧ u.frames = s.frames ∧ u.nextFrame = s.nextFrame ∧ u.pipe = s.pipe ∧ u.ctxs = s.ctxs ∧ u.dec = s.dec ∧ u.vs = s.vs ∧ u.former = s.former ∧ u.usb = s.usb ∧ u.fab = s.fab ∧ u.fresh = s.fresh := by
  refine ⟨_, rfl, ?_⟩
  first
  | (simp; done)
  | ((try simp only [State.whenRun, State.access, State.packet]); (repeat' split) <;> (first | rfl | (simp; done) | (simp_all; done) | (try simp)))
theorem execSerAckWindowExpiry_frame (s : State) :
    ∃ u, execSerAckWindowExpiry s = .next u ∧
    u.pending = s.pending ∧ u.identity = s.identity ∧ u.aon = s.aon ∧ u.pins = s.pins ∧ u.phase = s.phase ∧ u.boot = s.boot ∧ u.sys = s.sys ∧ u.balls = s.balls ∧ u.fields = s.fields ∧ u.shadow = s.shadow ∧ u.trowels = s.trowels ∧ u.faulted = s.faulted ∧ u.tap = s.tap ∧ u.time = s.time ∧ u.thermal = s.thermal ∧ u.light = s.light ∧ u.adcA = s.adcA ∧ u.adcB = s.adcB ∧ u.amb = s.amb ∧ u.ports = s.ports ∧ u.frames = s.frames ∧ u.nextFrame = s.nextFrame ∧ u.pipe = s.pipe ∧ u.ctxs = s.ctxs ∧ u.dec = s.dec ∧ u.vs = s.vs ∧ u.former = s.former ∧ u.usb = s.usb ∧ u.fab = s.fab ∧ u.fresh = s.fresh := by
  refine ⟨_, rfl, ?_⟩
  first
  | (simp; done)
  | ((try simp only [State.whenRun, State.access, State.packet]); (repeat' split) <;> (first | rfl | (simp; done) | (simp_all; done) | (try simp)))
theorem execSerBackoffExpiry_frame (s : State) :
    ∃ u, execSerBackoffExpiry s = .next u ∧
    u.pending = s.pending ∧ u.identity = s.identity ∧ u.aon = s.aon ∧ u.pins = s.pins ∧ u.phase = s.phase ∧ u.boot = s.boot ∧ u.sys = s.sys ∧ u.balls = s.balls ∧ u.fields = s.fields ∧ u.shadow = s.shadow ∧ u.trowels = s.trowels ∧ u.faulted = s.faulted ∧ u.bb = s.bb ∧ u.tap = s.tap ∧ u.time = s.time ∧ u.thermal = s.thermal ∧ u.light = s.light ∧ u.adcA = s.adcA ∧ u.adcB = s.adcB ∧ u.amb = s.amb ∧ u.ports = s.ports ∧ u.frames = s.frames ∧ u.nextFrame = s.nextFrame ∧ u.pipe = s.pipe ∧ u.ctxs = s.ctxs ∧ u.dec = s.dec ∧ u.vs = s.vs ∧ u.former = s.former ∧ u.usb = s.usb ∧ u.pair = s.pair ∧ u.fab = s.fab ∧ u.fresh = s.fresh := by
  refine ⟨_, rfl, ?_⟩
  first
  | (simp; done)
  | ((try simp only [State.whenRun, State.access, State.packet]); (repeat' split) <;> (first | rfl | (simp; done) | (simp_all; done) | (try simp)))
theorem execSerLineHeldLow_frame (s : State) :
    ∃ u, execSerLineHeldLow s = .next u ∧
    u.pending = s.pending ∧ u.identity = s.identity ∧ u.aon = s.aon ∧ u.pins = s.pins ∧ u.phase = s.phase ∧ u.boot = s.boot ∧ u.sys = s.sys ∧ u.balls = s.balls ∧ u.shadow = s.shadow ∧ u.trowels = s.trowels ∧ u.faulted = s.faulted ∧ u.tap = s.tap ∧ u.time = s.time ∧ u.thermal = s.thermal ∧ u.light = s.light ∧ u.adcA = s.adcA ∧ u.adcB = s.adcB ∧ u.amb = s.amb ∧ u.ports = s.ports ∧ u.frames = s.frames ∧ u.nextFrame = s.nextFrame ∧ u.pipe = s.pipe ∧ u.ctxs = s.ctxs ∧ u.dec = s.dec ∧ u.vs = s.vs ∧ u.former = s.former ∧ u.usb = s.usb ∧ u.ser = s.ser ∧ u.pair = s.pair ∧ u.fab = s.fab ∧ u.fresh = s.fresh := by
  refine ⟨_, rfl, ?_⟩
  first
  | (simp; done)
  | ((try simp only [State.whenRun, State.access, State.packet]); (repeat' split) <;> (first | rfl | (simp; done) | (simp_all; done) | (try simp)))
@[simp] theorem State.serCancel_frame (s : State) (v : Word) :
    (State.serCancel s v).pending = s.pending ∧ (State.serCancel s v).identity = s.identity ∧ (State.serCancel s v).aon = s.aon ∧ (State.serCancel s v).pins = s.pins ∧ (State.serCancel s v).phase = s.phase ∧ (State.serCancel s v).boot = s.boot ∧ (State.serCancel s v).sys = s.sys ∧ (State.serCancel s v).balls = s.balls ∧ (State.serCancel s v).shadow = s.shadow ∧ (State.serCancel s v).trowels = s.trowels ∧ (State.serCancel s v).faulted = s.faulted ∧ (State.serCancel s v).bb = s.bb ∧ (State.serCancel s v).tap = s.tap ∧ (State.serCancel s v).time = s.time ∧ (State.serCancel s v).thermal = s.thermal ∧ (State.serCancel s v).light = s.light ∧ (State.serCancel s v).adcA = s.adcA ∧ (State.serCancel s v).adcB = s.adcB ∧ (State.serCancel s v).amb = s.amb ∧ (State.serCancel s v).ports = s.ports ∧ (State.serCancel s v).frames = s.frames ∧ (State.serCancel s v).nextFrame = s.nextFrame ∧ (State.serCancel s v).pipe = s.pipe ∧ (State.serCancel s v).ctxs = s.ctxs ∧ (State.serCancel s v).dec = s.dec ∧ (State.serCancel s v).vs = s.vs ∧ (State.serCancel s v).former = s.former ∧ (State.serCancel s v).usb = s.usb ∧ (State.serCancel s v).fab = s.fab ∧ (State.serCancel s v).fresh = s.fresh := by
  first
  | (unfold State.serCancel; simp; done)
  | (unfold State.serCancel; (try dsimp only); (repeat' split) <;> (first | rfl | (simp; done) | (simp_all; done) | (try simp)))
@[simp] theorem State.ackSer_frame (s : State) (n : Word) :
    (State.ackSer s n).pending = s.pending ∧ (State.ackSer s n).identity = s.identity ∧ (State.ackSer s n).aon = s.aon ∧ (State.ackSer s n).pins = s.pins ∧ (State.ackSer s n).phase = s.phase ∧ (State.ackSer s n).boot = s.boot ∧ (State.ackSer s n).sys = s.sys ∧ (State.ackSer s n).balls = s.balls ∧ (State.ackSer s n).fields = s.fields ∧ (State.ackSer s n).shadow = s.shadow ∧ (State.ackSer s n).trowels = s.trowels ∧ (State.ackSer s n).faulted = s.faulted ∧ (State.ackSer s n).bb = s.bb ∧ (State.ackSer s n).tap = s.tap ∧ (State.ackSer s n).time = s.time ∧ (State.ackSer s n).thermal = s.thermal ∧ (State.ackSer s n).light = s.light ∧ (State.ackSer s n).adcA = s.adcA ∧ (State.ackSer s n).adcB = s.adcB ∧ (State.ackSer s n).amb = s.amb ∧ (State.ackSer s n).ports = s.ports ∧ (State.ackSer s n).frames = s.frames ∧ (State.ackSer s n).nextFrame = s.nextFrame ∧ (State.ackSer s n).pipe = s.pipe ∧ (State.ackSer s n).ctxs = s.ctxs ∧ (State.ackSer s n).dec = s.dec ∧ (State.ackSer s n).vs = s.vs ∧ (State.ackSer s n).former = s.former ∧ (State.ackSer s n).usb = s.usb ∧ (State.ackSer s n).fab = s.fab ∧ (State.ackSer s n).fresh = s.fresh := by
  first
  | (unfold State.ackSer; simp; done)
  | (unfold State.ackSer; (try dsimp only); (repeat' split) <;> (first | rfl | (simp; done) | (simp_all; done) | (try simp)))
theorem execSerAckFrame_frame (addr : Byte) (n : Word) (s : State) :
    ∃ u, execSerAckFrame addr n s = .next u ∧
    u.pending = s.pending ∧ u.identity = s.identity ∧ u.aon = s.aon ∧ u.pins = s.pins ∧ u.phase = s.phase ∧ u.boot = s.boot ∧ u.sys = s.sys ∧ u.balls = s.balls ∧ u.fields = s.fields ∧ u.shadow = s.shadow ∧ u.trowels = s.trowels ∧ u.faulted = s.faulted ∧ u.bb = s.bb ∧ u.tap = s.tap ∧ u.time = s.time ∧ u.thermal = s.thermal ∧ u.light = s.light ∧ u.adcA = s.adcA ∧ u.adcB = s.adcB ∧ u.amb = s.amb ∧ u.ports = s.ports ∧ u.frames = s.frames ∧ u.nextFrame = s.nextFrame ∧ u.pipe = s.pipe ∧ u.ctxs = s.ctxs ∧ u.dec = s.dec ∧ u.vs = s.vs ∧ u.former = s.former ∧ u.usb = s.usb ∧ u.fab = s.fab ∧ u.fresh = s.fresh := by
  refine ⟨_, rfl, ?_⟩
  first
  | (simp; done)
  | ((try simp only [State.whenRun, State.access, State.packet]); (repeat' split) <;> (first | rfl | (simp; done) | (simp_all; done) | (try simp)))
theorem execSerRestartFrame_frame (addr : Byte) (s : State) :
    ∃ u, execSerRestartFrame addr s = .next u ∧
    u.pending = s.pending ∧ u.identity = s.identity ∧ u.aon = s.aon ∧ u.pins = s.pins ∧ u.phase = s.phase ∧ u.boot = s.boot ∧ u.sys = s.sys ∧ u.balls = s.balls ∧ u.fields = s.fields ∧ u.shadow = s.shadow ∧ u.trowels = s.trowels ∧ u.faulted = s.faulted ∧ u.bb = s.bb ∧ u.tap = s.tap ∧ u.time = s.time ∧ u.thermal = s.thermal ∧ u.light = s.light ∧ u.adcA = s.adcA ∧ u.adcB = s.adcB ∧ u.amb = s.amb ∧ u.ports = s.ports ∧ u.frames = s.frames ∧ u.nextFrame = s.nextFrame ∧ u.pipe = s.pipe ∧ u.ctxs = s.ctxs ∧ u.dec = s.dec ∧ u.vs = s.vs ∧ u.former = s.former ∧ u.usb = s.usb ∧ u.pair = s.pair ∧ u.fab = s.fab ∧ u.fresh = s.fresh := by
  refine ⟨_, rfl, ?_⟩
  first
  | (simp; done)
  | ((try simp only [State.whenRun, State.access, State.packet]); (repeat' split) <;> (first | rfl | (simp; done) | (simp_all; done) | (try simp)))
theorem execSerFrameBroken_frame (chars : List (Nat × Byte)) (gap : Nat) (s : State) :
    ∃ u, execSerFrameBroken s chars gap = .next u ∧
    u.pending = s.pending ∧ u.identity = s.identity ∧ u.aon = s.aon ∧ u.pins = s.pins ∧ u.phase = s.phase ∧ u.boot = s.boot ∧ u.sys = s.sys ∧ u.balls = s.balls ∧ u.shadow = s.shadow ∧ u.trowels = s.trowels ∧ u.faulted = s.faulted ∧ u.bb = s.bb ∧ u.tap = s.tap ∧ u.time = s.time ∧ u.thermal = s.thermal ∧ u.light = s.light ∧ u.adcA = s.adcA ∧ u.adcB = s.adcB ∧ u.amb = s.amb ∧ u.ports = s.ports ∧ u.frames = s.frames ∧ u.nextFrame = s.nextFrame ∧ u.pipe = s.pipe ∧ u.ctxs = s.ctxs ∧ u.dec = s.dec ∧ u.vs = s.vs ∧ u.former = s.former ∧ u.usb = s.usb ∧ u.ser = s.ser ∧ u.pair = s.pair ∧ u.fab = s.fab ∧ u.fresh = s.fresh := by
  refine ⟨_, rfl, ?_⟩
  first
  | (simp; done)
  | ((try simp only [State.whenRun, State.access, State.packet]); (repeat' split) <;> (first | rfl | (simp; done) | (simp_all; done) | (try simp)))
theorem execSerFrameRejected_frame (heard : SerHeard) (s : State) :
    ∃ u, execSerFrameRejected heard s = .next u ∧
    u.pending = s.pending ∧ u.identity = s.identity ∧ u.aon = s.aon ∧ u.pins = s.pins ∧ u.phase = s.phase ∧ u.boot = s.boot ∧ u.sys = s.sys ∧ u.balls = s.balls ∧ u.shadow = s.shadow ∧ u.trowels = s.trowels ∧ u.faulted = s.faulted ∧ u.bb = s.bb ∧ u.tap = s.tap ∧ u.time = s.time ∧ u.thermal = s.thermal ∧ u.light = s.light ∧ u.adcA = s.adcA ∧ u.adcB = s.adcB ∧ u.amb = s.amb ∧ u.ports = s.ports ∧ u.frames = s.frames ∧ u.nextFrame = s.nextFrame ∧ u.pipe = s.pipe ∧ u.ctxs = s.ctxs ∧ u.dec = s.dec ∧ u.vs = s.vs ∧ u.former = s.former ∧ u.usb = s.usb ∧ u.ser = s.ser ∧ u.pair = s.pair ∧ u.fab = s.fab ∧ u.fresh = s.fresh := by
  refine ⟨_, rfl, ?_⟩
  first
  | (simp; done)
  | ((try simp only [State.whenRun, State.access, State.packet]); (repeat' split) <;> (first | rfl | (simp; done) | (simp_all; done) | (try simp)))
@[simp] theorem State.serRequest_frame (s : State) (addr code : Byte) (r : SerReq) (status : Byte) (d : List Byte) :
    (State.serRequest s addr code r status d).pending = s.pending ∧ (State.serRequest s addr code r status d).identity = s.identity ∧ (State.serRequest s addr code r status d).aon = s.aon ∧ (State.serRequest s addr code r status d).pins = s.pins ∧ (State.serRequest s addr code r status d).phase = s.phase ∧ (State.serRequest s addr code r status d).boot = s.boot ∧ (State.serRequest s addr code r status d).sys = s.sys ∧ (State.serRequest s addr code r status d).balls = s.balls ∧ (State.serRequest s addr code r status d).shadow = s.shadow ∧ (State.serRequest s addr code r status d).trowels = s.trowels ∧ (State.serRequest s addr code r status d).faulted = s.faulted ∧ (State.serRequest s addr code r status d).bb = s.bb ∧ (State.serRequest s addr code r status d).tap = s.tap ∧ (State.serRequest s addr code r status d).time = s.time ∧ (State.serRequest s addr code r status d).thermal = s.thermal ∧ (State.serRequest s addr code r status d).light = s.light ∧ (State.serRequest s addr code r status d).adcA = s.adcA ∧ (State.serRequest s addr code r status d).adcB = s.adcB ∧ (State.serRequest s addr code r status d).amb = s.amb ∧ (State.serRequest s addr code r status d).ports = s.ports ∧ (State.serRequest s addr code r status d).frames = s.frames ∧ (State.serRequest s addr code r status d).nextFrame = s.nextFrame ∧ (State.serRequest s addr code r status d).pipe = s.pipe ∧ (State.serRequest s addr code r status d).ctxs = s.ctxs ∧ (State.serRequest s addr code r status d).dec = s.dec ∧ (State.serRequest s addr code r status d).vs = s.vs ∧ (State.serRequest s addr code r status d).former = s.former ∧ (State.serRequest s addr code r status d).usb = s.usb ∧ (State.serRequest s addr code r status d).pair = s.pair ∧ (State.serRequest s addr code r status d).fab = s.fab ∧ (State.serRequest s addr code r status d).fresh = s.fresh := by
  first
  | (unfold State.serRequest; simp; done)
  | (unfold State.serRequest; (try dsimp only); (repeat' split) <;> (first | rfl | (simp; done) | (simp_all; done) | (try simp)))
theorem execSerGetInventory_frame (addr : Byte) (r : SerReq) (s : State) :
    ∃ u, execSerGetInventory addr r s = .next u ∧
    u.pending = s.pending ∧ u.identity = s.identity ∧ u.aon = s.aon ∧ u.pins = s.pins ∧ u.phase = s.phase ∧ u.boot = s.boot ∧ u.sys = s.sys ∧ u.balls = s.balls ∧ u.shadow = s.shadow ∧ u.trowels = s.trowels ∧ u.faulted = s.faulted ∧ u.bb = s.bb ∧ u.tap = s.tap ∧ u.time = s.time ∧ u.thermal = s.thermal ∧ u.light = s.light ∧ u.adcA = s.adcA ∧ u.adcB = s.adcB ∧ u.amb = s.amb ∧ u.ports = s.ports ∧ u.frames = s.frames ∧ u.nextFrame = s.nextFrame ∧ u.pipe = s.pipe ∧ u.ctxs = s.ctxs ∧ u.dec = s.dec ∧ u.vs = s.vs ∧ u.former = s.former ∧ u.usb = s.usb ∧ u.pair = s.pair ∧ u.fab = s.fab ∧ u.fresh = s.fresh := by
  refine ⟨_, rfl, ?_⟩
  first
  | (simp; done)
  | ((try simp only [State.whenRun, State.access, State.packet]); (repeat' split) <;> (first | rfl | (simp; done) | (simp_all; done) | (try simp)))
theorem execSerGetLinkStatus_frame (addr : Byte) (r : SerReq) (s : State) :
    ∃ u, execSerGetLinkStatus addr r s = .next u ∧
    u.pending = s.pending ∧ u.identity = s.identity ∧ u.aon = s.aon ∧ u.pins = s.pins ∧ u.phase = s.phase ∧ u.boot = s.boot ∧ u.sys = s.sys ∧ u.balls = s.balls ∧ u.shadow = s.shadow ∧ u.trowels = s.trowels ∧ u.faulted = s.faulted ∧ u.bb = s.bb ∧ u.tap = s.tap ∧ u.time = s.time ∧ u.thermal = s.thermal ∧ u.light = s.light ∧ u.adcA = s.adcA ∧ u.adcB = s.adcB ∧ u.amb = s.amb ∧ u.ports = s.ports ∧ u.frames = s.frames ∧ u.nextFrame = s.nextFrame ∧ u.pipe = s.pipe ∧ u.ctxs = s.ctxs ∧ u.dec = s.dec ∧ u.vs = s.vs ∧ u.former = s.former ∧ u.usb = s.usb ∧ u.pair = s.pair ∧ u.fab = s.fab ∧ u.fresh = s.fresh := by
  refine ⟨_, rfl, ?_⟩
  first
  | (simp; done)
  | ((try simp only [State.whenRun, State.access, State.packet]); (repeat' split) <;> (first | rfl | (simp; done) | (simp_all; done) | (try simp)))
theorem execSerAckRequest_frame (addr : Byte) (r : SerReq) (s : State) :
    ∃ u, execSerAckRequest addr r s = .next u ∧
    u.pending = s.pending ∧ u.identity = s.identity ∧ u.aon = s.aon ∧ u.pins = s.pins ∧ u.phase = s.phase ∧ u.boot = s.boot ∧ u.sys = s.sys ∧ u.balls = s.balls ∧ u.shadow = s.shadow ∧ u.trowels = s.trowels ∧ u.faulted = s.faulted ∧ u.bb = s.bb ∧ u.tap = s.tap ∧ u.time = s.time ∧ u.thermal = s.thermal ∧ u.light = s.light ∧ u.adcA = s.adcA ∧ u.adcB = s.adcB ∧ u.amb = s.amb ∧ u.ports = s.ports ∧ u.frames = s.frames ∧ u.nextFrame = s.nextFrame ∧ u.pipe = s.pipe ∧ u.ctxs = s.ctxs ∧ u.dec = s.dec ∧ u.vs = s.vs ∧ u.former = s.former ∧ u.usb = s.usb ∧ u.pair = s.pair ∧ u.fab = s.fab ∧ u.fresh = s.fresh := by
  refine ⟨_, rfl, ?_⟩
  first
  | (simp; done)
  | ((try simp only [State.whenRun, State.access, State.packet]); (repeat' split) <;> (first | rfl | (simp; done) | (simp_all; done) | (try simp)))
theorem execSerRetrieve_frame (addr : Byte) (r : SerReq) (s : State) :
    ∃ u, execSerRetrieve addr r s = .next u ∧
    u.pending = s.pending ∧ u.identity = s.identity ∧ u.aon = s.aon ∧ u.pins = s.pins ∧ u.phase = s.phase ∧ u.boot = s.boot ∧ u.sys = s.sys ∧ u.balls = s.balls ∧ u.shadow = s.shadow ∧ u.trowels = s.trowels ∧ u.faulted = s.faulted ∧ u.bb = s.bb ∧ u.tap = s.tap ∧ u.time = s.time ∧ u.thermal = s.thermal ∧ u.light = s.light ∧ u.adcA = s.adcA ∧ u.adcB = s.adcB ∧ u.amb = s.amb ∧ u.ports = s.ports ∧ u.frames = s.frames ∧ u.nextFrame = s.nextFrame ∧ u.pipe = s.pipe ∧ u.ctxs = s.ctxs ∧ u.dec = s.dec ∧ u.vs = s.vs ∧ u.former = s.former ∧ u.usb = s.usb ∧ u.pair = s.pair ∧ u.fab = s.fab ∧ u.fresh = s.fresh := by
  refine ⟨_, rfl, ?_⟩
  first
  | (simp; done)
  | ((try simp only [State.whenRun, State.access, State.packet]); (repeat' split) <;> (first | rfl | (simp; done) | (simp_all; done) | (try simp)))
theorem execSerGetBlackbox_frame (addr : Byte) (r : SerReq) (s : State) :
    ∃ u, execSerGetBlackbox addr r s = .next u ∧
    u.pending = s.pending ∧ u.identity = s.identity ∧ u.aon = s.aon ∧ u.pins = s.pins ∧ u.phase = s.phase ∧ u.boot = s.boot ∧ u.sys = s.sys ∧ u.balls = s.balls ∧ u.shadow = s.shadow ∧ u.trowels = s.trowels ∧ u.faulted = s.faulted ∧ u.bb = s.bb ∧ u.tap = s.tap ∧ u.time = s.time ∧ u.thermal = s.thermal ∧ u.light = s.light ∧ u.adcA = s.adcA ∧ u.adcB = s.adcB ∧ u.amb = s.amb ∧ u.ports = s.ports ∧ u.frames = s.frames ∧ u.nextFrame = s.nextFrame ∧ u.pipe = s.pipe ∧ u.ctxs = s.ctxs ∧ u.dec = s.dec ∧ u.vs = s.vs ∧ u.former = s.former ∧ u.usb = s.usb ∧ u.pair = s.pair ∧ u.fab = s.fab ∧ u.fresh = s.fresh := by
  refine ⟨_, rfl, ?_⟩
  first
  | (simp; done)
  | ((try simp only [State.whenRun, State.access, State.packet]); (repeat' split) <;> (first | rfl | (simp; done) | (simp_all; done) | (try simp)))
theorem execSerUnknownRequest_frame (addr : Byte) (request : Byte) (r : SerReq) (s : State) :
    ∃ u, execSerUnknownRequest addr request r s = .next u ∧
    u.pending = s.pending ∧ u.identity = s.identity ∧ u.aon = s.aon ∧ u.pins = s.pins ∧ u.phase = s.phase ∧ u.boot = s.boot ∧ u.sys = s.sys ∧ u.balls = s.balls ∧ u.faulted = s.faulted ∧ u.bb = s.bb ∧ u.tap = s.tap ∧ u.time = s.time ∧ u.thermal = s.thermal ∧ u.light = s.light ∧ u.ports = s.ports ∧ u.frames = s.frames ∧ u.nextFrame = s.nextFrame ∧ u.pipe = s.pipe ∧ u.ctxs = s.ctxs ∧ u.dec = s.dec ∧ u.vs = s.vs ∧ u.former = s.former ∧ u.usb = s.usb ∧ u.pair = s.pair ∧ u.fab = s.fab ∧ u.fresh = s.fresh := by
  refine ⟨_, rfl, ?_⟩
  first
  | (simp; done)
  | ((try simp only [State.whenRun, State.access, State.packet]); (repeat' split) <;> (first | rfl | (simp; done) | (simp_all; done) | (try simp)))
theorem execSerResponseSent_frame (s : State) :
    ∃ u, execSerResponseSent s = .next u ∧
    u.pending = s.pending ∧ u.identity = s.identity ∧ u.aon = s.aon ∧ u.pins = s.pins ∧ u.phase = s.phase ∧ u.boot = s.boot ∧ u.sys = s.sys ∧ u.balls = s.balls ∧ u.fields = s.fields ∧ u.shadow = s.shadow ∧ u.trowels = s.trowels ∧ u.faulted = s.faulted ∧ u.bb = s.bb ∧ u.tap = s.tap ∧ u.time = s.time ∧ u.thermal = s.thermal ∧ u.light = s.light ∧ u.adcA = s.adcA ∧ u.adcB = s.adcB ∧ u.amb = s.amb ∧ u.ports = s.ports ∧ u.frames = s.frames ∧ u.nextFrame = s.nextFrame ∧ u.pipe = s.pipe ∧ u.ctxs = s.ctxs ∧ u.dec = s.dec ∧ u.vs = s.vs ∧ u.former = s.former ∧ u.usb = s.usb ∧ u.pair = s.pair ∧ u.fab = s.fab ∧ u.fresh = s.fresh := by
  refine ⟨_, rfl, ?_⟩
  first
  | (simp; done)
  | ((try simp only [State.whenRun, State.access, State.packet]); (repeat' split) <;> (first | rfl | (simp; done) | (simp_all; done) | (try simp)))
@[simp] theorem State.serNow_frame (s : State) (a : Nat) (v : Word) :
    (State.serNow s a v).pending = s.pending ∧ (State.serNow s a v).identity = s.identity ∧ (State.serNow s a v).aon = s.aon ∧ (State.serNow s a v).pins = s.pins ∧ (State.serNow s a v).phase = s.phase ∧ (State.serNow s a v).boot = s.boot ∧ (State.serNow s a v).sys = s.sys ∧ (State.serNow s a v).balls = s.balls ∧ (State.serNow s a v).shadow = s.shadow ∧ (State.serNow s a v).trowels = s.trowels ∧ (State.serNow s a v).faulted = s.faulted ∧ (State.serNow s a v).bb = s.bb ∧ (State.serNow s a v).tap = s.tap ∧ (State.serNow s a v).time = s.time ∧ (State.serNow s a v).thermal = s.thermal ∧ (State.serNow s a v).light = s.light ∧ (State.serNow s a v).adcA = s.adcA ∧ (State.serNow s a v).adcB = s.adcB ∧ (State.serNow s a v).amb = s.amb ∧ (State.serNow s a v).ports = s.ports ∧ (State.serNow s a v).frames = s.frames ∧ (State.serNow s a v).nextFrame = s.nextFrame ∧ (State.serNow s a v).pipe = s.pipe ∧ (State.serNow s a v).ctxs = s.ctxs ∧ (State.serNow s a v).dec = s.dec ∧ (State.serNow s a v).vs = s.vs ∧ (State.serNow s a v).former = s.former ∧ (State.serNow s a v).usb = s.usb ∧ (State.serNow s a v).fab = s.fab ∧ (State.serNow s a v).fresh = s.fresh := by
  first
  | (unfold State.serNow; simp; done)
  | (unfold State.serNow; (try dsimp only); (repeat' split) <;> (first | rfl | (simp; done) | (simp_all; done) | (try simp)))
end Sys2Proof.Machine
end

