-- ==== Sys2Proof/Laws/FrameTime.lean ====
section
/-! SUPPORT. Frames: which parts of the state each operation of Machine/Time leaves as they were. -/

namespace Sys2Proof.Machine
@[simp] theorem State.updTime_frame (s : State) (f : TimeUnit → TimeUnit) :
    (State.updTime s f).pending = s.pending ∧ (State.updTime s f).identity = s.identity ∧ (State.updTime s f).aon = s.aon ∧ (State.updTime s f).pins = s.pins ∧ (State.updTime s f).phase = s.phase ∧ (State.updTime s f).boot = s.boot ∧ (State.updTime s f).sys = s.sys ∧ (State.updTime s f).balls = s.balls ∧ (State.updTime s f).fields = s.fields ∧ (State.updTime s f).shadow = s.shadow ∧ (State.updTime s f).trowels = s.trowels ∧ (State.updTime s f).faulted = s.faulted ∧ (State.updTime s f).bb = s.bb ∧ (State.updTime s f).tap = s.tap ∧ (State.updTime s f).thermal = s.thermal ∧ (State.updTime s f).light = s.light ∧ (State.updTime s f).adcA = s.adcA ∧ (State.updTime s f).adcB = s.adcB ∧ (State.updTime s f).amb = s.amb ∧ (State.updTime s f).ports = s.ports ∧ (State.updTime s f).frames = s.frames ∧ (State.updTime s f).nextFrame = s.nextFrame ∧ (State.updTime s f).pipe = s.pipe ∧ (State.updTime s f).ctxs = s.ctxs ∧ (State.updTime s f).dec = s.dec ∧ (State.updTime s f).vs = s.vs ∧ (State.updTime s f).former = s.former ∧ (State.updTime s f).usb = s.usb ∧ (State.updTime s f).ser = s.ser ∧ (State.updTime s f).pair = s.pair ∧ (State.updTime s f).fab = s.fab ∧ (State.updTime s f).fresh = s.fresh := by
  first
  | (unfold State.updTime; simp; done)
  | (unfold State.updTime; (try dsimp only); (repeat' split) <;> (first | rfl | (simp; done) | (simp_all; done) | (try simp)))
@[simp] theorem State.track_frame (s : State) (base : Int) :
    (State.track s base).pending = s.pending ∧ (State.track s base).identity = s.identity ∧ (State.track s base).aon = s.aon ∧ (State.track s base).pins = s.pins ∧ (State.track s base).phase = s.phase ∧ (State.track s base).boot = s.boot ∧ (State.track s base).sys = s.sys ∧ (State.track s base).balls = s.balls ∧ (State.track s base).fields = s.fields ∧ (State.track s base).shadow = s.shadow ∧ (State.track s base).trowels = s.trowels ∧ (State.track s base).faulted = s.faulted ∧ (State.track s base).bb = s.bb ∧ (State.track s base).tap = s.tap ∧ (State.track s base).thermal = s.thermal ∧ (State.track s base).light = s.light ∧ (State.track s base).adcA = s.adcA ∧ (State.track s base).adcB = s.adcB ∧ (State.track s base).amb = s.amb ∧ (State.track s base).ports = s.ports ∧ (State.track s base).frames = s.frames ∧ (State.track s base).nextFrame = s.nextFrame ∧ (State.track s base).pipe = s.pipe ∧ (State.track s base).ctxs = s.ctxs ∧ (State.track s base).dec = s.dec ∧ (State.track s base).vs = s.vs ∧ (State.track s base).former = s.former ∧ (State.track s base).usb = s.usb ∧ (State.track s base).ser = s.ser ∧ (State.track s base).pair = s.pair ∧ (State.track s base).fab = s.fab := by
  first
  | (unfold State.track; simp; done)
  | (unfold State.track; (try dsimp only); (repeat' split) <;> (first | rfl | (simp; done) | (simp_all; done) | (try simp)))
@[simp] theorem State.steer_frame (s : State) (base o : Int) :
    (State.steer s base o).pending = s.pending ∧ (State.steer s base o).identity = s.identity ∧ (State.steer s base o).aon = s.aon ∧ (State.steer s base o).pins = s.pins ∧ (State.steer s base o).phase = s.phase ∧ (State.steer s base o).boot = s.boot ∧ (State.steer s base o).sys = s.sys ∧ (State.steer s base o).balls = s.balls ∧ (State.steer s base o).fields = s.fields ∧ (State.steer s base o).shadow = s.shadow ∧ (State.steer s base o).faulted = s.faulted ∧ (State.steer s base o).bb = s.bb ∧ (State.steer s base o).tap = s.tap ∧ (State.steer s base o).thermal = s.thermal ∧ (State.steer s base o).light = s.light ∧ (State.steer s base o).adcA = s.adcA ∧ (State.steer s base o).adcB = s.adcB ∧ (State.steer s base o).amb = s.amb ∧ (State.steer s base o).ports = s.ports ∧ (State.steer s base o).frames = s.frames ∧ (State.steer s base o).nextFrame = s.nextFrame ∧ (State.steer s base o).pipe = s.pipe ∧ (State.steer s base o).ctxs = s.ctxs ∧ (State.steer s base o).dec = s.dec ∧ (State.steer s base o).vs = s.vs ∧ (State.steer s base o).former = s.former ∧ (State.steer s base o).usb = s.usb ∧ (State.steer s base o).ser = s.ser ∧ (State.steer s base o).pair = s.pair ∧ (State.steer s base o).fab = s.fab := by
  first
  | (unfold State.steer; simp; done)
  | (unfold State.steer; (try dsimp only); (repeat' split) <;> (first | rfl | (simp; done) | (simp_all; done) | (try simp)))
@[simp] theorem State.firstSet_frame (s : State) (o : Int) :
    (State.firstSet s o).pending = s.pending ∧ (State.firstSet s o).identity = s.identity ∧ (State.firstSet s o).aon = s.aon ∧ (State.firstSet s o).pins = s.pins ∧ (State.firstSet s o).phase = s.phase ∧ (State.firstSet s o).boot = s.boot ∧ (State.firstSet s o).sys = s.sys ∧ (State.firstSet s o).balls = s.balls ∧ (State.firstSet s o).fields = s.fields ∧ (State.firstSet s o).shadow = s.shadow ∧ (State.firstSet s o).faulted = s.faulted ∧ (State.firstSet s o).bb = s.bb ∧ (State.firstSet s o).tap = s.tap ∧ (State.firstSet s o).thermal = s.thermal ∧ (State.firstSet s o).light = s.light ∧ (State.firstSet s o).adcA = s.adcA ∧ (State.firstSet s o).adcB = s.adcB ∧ (State.firstSet s o).amb = s.amb ∧ (State.firstSet s o).ports = s.ports ∧ (State.firstSet s o).frames = s.frames ∧ (State.firstSet s o).nextFrame = s.nextFrame ∧ (State.firstSet s o).pipe = s.pipe ∧ (State.firstSet s o).ctxs = s.ctxs ∧ (State.firstSet s o).dec = s.dec ∧ (State.firstSet s o).vs = s.vs ∧ (State.firstSet s o).former = s.former ∧ (State.firstSet s o).usb = s.usb ∧ (State.firstSet s o).ser = s.ser ∧ (State.firstSet s o).pair = s.pair ∧ (State.firstSet s o).fab = s.fab ∧ (State.firstSet s o).fresh = s.fresh := by
  first
  | (unfold State.firstSet; simp; done)
  | (unfold State.firstSet; (try dsimp only); (repeat' split) <;> (first | rfl | (simp; done) | (simp_all; done) | (try simp)))
@[simp] theorem State.endCounts_frame (s : State) (p : Ref → Bool) :
    (State.endCounts s p).pending = s.pending ∧ (State.endCounts s p).identity = s.identity ∧ (State.endCounts s p).aon = s.aon ∧ (State.endCounts s p).pins = s.pins ∧ (State.endCounts s p).phase = s.phase ∧ (State.endCounts s p).boot = s.boot ∧ (State.endCounts s p).sys = s.sys ∧ (State.endCounts s p).balls = s.balls ∧ (State.endCounts s p).fields = s.fields ∧ (State.endCounts s p).shadow = s.shadow ∧ (State.endCounts s p).trowels = s.trowels ∧ (State.endCounts s p).faulted = s.faulted ∧ (State.endCounts s p).bb = s.bb ∧ (State.endCounts s p).tap = s.tap ∧ (State.endCounts s p).thermal = s.thermal ∧ (State.endCounts s p).light = s.light ∧ (State.endCounts s p).adcA = s.adcA ∧ (State.endCounts s p).adcB = s.adcB ∧ (State.endCounts s p).amb = s.amb ∧ (State.endCounts s p).ports = s.ports ∧ (State.endCounts s p).frames = s.frames ∧ (State.endCounts s p).nextFrame = s.nextFrame ∧ (State.endCounts s p).pipe = s.pipe ∧ (State.endCounts s p).ctxs = s.ctxs ∧ (State.endCounts s p).dec = s.dec ∧ (State.endCounts s p).vs = s.vs ∧ (State.endCounts s p).former = s.former ∧ (State.endCounts s p).usb = s.usb ∧ (State.endCounts s p).ser = s.ser ∧ (State.endCounts s p).pair = s.pair ∧ (State.endCounts s p).fab = s.fab ∧ (State.endCounts s p).fresh = s.fresh := by
  first
  | (unfold State.endCounts; simp; done)
  | (unfold State.endCounts; (try dsimp only); (repeat' split) <;> (first | rfl | (simp; done) | (simp_all; done) | (try simp)))
@[simp] theorem State.commit_frame (s : State) (c : Ref) :
    (State.commit s c).pending = s.pending ∧ (State.commit s c).identity = s.identity ∧ (State.commit s c).aon = s.aon ∧ (State.commit s c).pins = s.pins ∧ (State.commit s c).phase = s.phase ∧ (State.commit s c).boot = s.boot ∧ (State.commit s c).sys = s.sys ∧ (State.commit s c).balls = s.balls ∧ (State.commit s c).shadow = s.shadow ∧ (State.commit s c).faulted = s.faulted ∧ (State.commit s c).tap = s.tap ∧ (State.commit s c).thermal = s.thermal ∧ (State.commit s c).light = s.light ∧ (State.commit s c).adcA = s.adcA ∧ (State.commit s c).adcB = s.adcB ∧ (State.commit s c).amb = s.amb ∧ (State.commit s c).ports = s.ports ∧ (State.commit s c).frames = s.frames ∧ (State.commit s c).nextFrame = s.nextFrame ∧ (State.commit s c).pipe = s.pipe ∧ (State.commit s c).ctxs = s.ctxs ∧ (State.commit s c).dec = s.dec ∧ (State.commit s c).vs = s.vs ∧ (State.commit s c).former = s.former ∧ (State.commit s c).usb = s.usb ∧ (State.commit s c).ser = s.ser ∧ (State.commit s c).pair = s.pair ∧ (State.commit s c).fab = s.fab := by
  first
  | (unfold State.commit; simp; done)
  | (unfold State.commit; (try dsimp only); (repeat' split) <;> (first | rfl | (simp; done) | (simp_all; done) | (try simp)))
@[simp] theorem State.retarget_frame (s : State) :
    (State.retarget s).pending = s.pending ∧ (State.retarget s).identity = s.identity ∧ (State.retarget s).aon = s.aon ∧ (State.retarget s).pins = s.pins ∧ (State.retarget s).phase = s.phase ∧ (State.retarget s).boot = s.boot ∧ (State.retarget s).sys = s.sys ∧ (State.retarget s).balls = s.balls ∧ (State.retarget s).shadow = s.shadow ∧ (State.retarget s).faulted = s.faulted ∧ (State.retarget s).tap = s.tap ∧ (State.retarget s).thermal = s.thermal ∧ (State.retarget s).light = s.light ∧ (State.retarget s).adcA = s.adcA ∧ (State.retarget s).adcB = s.adcB ∧ (State.retarget s).amb = s.amb ∧ (State.retarget s).ports = s.ports ∧ (State.retarget s).frames = s.frames ∧ (State.retarget s).nextFrame = s.nextFrame ∧ (State.retarget s).pipe = s.pipe ∧ (State.retarget s).ctxs = s.ctxs ∧ (State.retarget s).dec = s.dec ∧ (State.retarget s).vs = s.vs ∧ (State.retarget s).former = s.former ∧ (State.retarget s).usb = s.usb ∧ (State.retarget s).ser = s.ser ∧ (State.retarget s).pair = s.pair ∧ (State.retarget s).fab = s.fab := by
  first
  | (unfold State.retarget; simp; done)
  | (unfold State.retarget; (try dsimp only); (repeat' split) <;> (first | rfl | (simp; done) | (simp_all; done) | (try simp)))
@[simp] theorem State.loseRef_frame (s : State) (c : Ref) :
    (State.loseRef s c).pending = s.pending ∧ (State.loseRef s c).identity = s.identity ∧ (State.loseRef s c).aon = s.aon ∧ (State.loseRef s c).pins = s.pins ∧ (State.loseRef s c).phase = s.phase ∧ (State.loseRef s c).boot = s.boot ∧ (State.loseRef s c).sys = s.sys ∧ (State.loseRef s c).balls = s.balls ∧ (State.loseRef s c).shadow = s.shadow ∧ (State.loseRef s c).faulted = s.faulted ∧ (State.loseRef s c).tap = s.tap ∧ (State.loseRef s c).thermal = s.thermal ∧ (State.loseRef s c).light = s.light ∧ (State.loseRef s c).adcA = s.adcA ∧ (State.loseRef s c).adcB = s.adcB ∧ (State.loseRef s c).amb = s.amb ∧ (State.loseRef s c).ports = s.ports ∧ (State.loseRef s c).frames = s.frames ∧ (State.loseRef s c).nextFrame = s.nextFrame ∧ (State.loseRef s c).pipe = s.pipe ∧ (State.loseRef s c).ctxs = s.ctxs ∧ (State.loseRef s c).dec = s.dec ∧ (State.loseRef s c).vs = s.vs ∧ (State.loseRef s c).former = s.former ∧ (State.loseRef s c).usb = s.usb ∧ (State.loseRef s c).ser = s.ser ∧ (State.loseRef s c).pair = s.pair ∧ (State.loseRef s c).fab = s.fab ∧ (State.loseRef s c).fresh = s.fresh := by
  first
  | (unfold State.loseRef; simp; done)
  | (unfold State.loseRef; (try dsimp only); (repeat' split) <;> (first | rfl | (simp; done) | (simp_all; done) | (try simp)))
@[simp] theorem State.timeSample_frame (s : State) (c : Ref) (x r o : Int) :
    (State.timeSample s c x r o).pending = s.pending ∧ (State.timeSample s c x r o).identity = s.identity ∧ (State.timeSample s c x r o).aon = s.aon ∧ (State.timeSample s c x r o).pins = s.pins ∧ (State.timeSample s c x r o).phase = s.phase ∧ (State.timeSample s c x r o).boot = s.boot ∧ (State.timeSample s c x r o).sys = s.sys ∧ (State.timeSample s c x r o).balls = s.balls ∧ (State.timeSample s c x r o).shadow = s.shadow ∧ (State.timeSample s c x r o).faulted = s.faulted ∧ (State.timeSample s c x r o).tap = s.tap ∧ (State.timeSample s c x r o).thermal = s.thermal ∧ (State.timeSample s c x r o).light = s.light ∧ (State.timeSample s c x r o).adcA = s.adcA ∧ (State.timeSample s c x r o).adcB = s.adcB ∧ (State.timeSample s c x r o).amb = s.amb ∧ (State.timeSample s c x r o).ports = s.ports ∧ (State.timeSample s c x r o).frames = s.frames ∧ (State.timeSample s c x r o).nextFrame = s.nextFrame ∧ (State.timeSample s c x r o).pipe = s.pipe ∧ (State.timeSample s c x r o).ctxs = s.ctxs ∧ (State.timeSample s c x r o).dec = s.dec ∧ (State.timeSample s c x r o).vs = s.vs ∧ (State.timeSample s c x r o).former = s.former ∧ (State.timeSample s c x r o).usb = s.usb ∧ (State.timeSample s c x r o).ser = s.ser ∧ (State.timeSample s c x r o).pair = s.pair ∧ (State.timeSample s c x r o).fab = s.fab := by
  first
  | (unfold State.timeSample; simp; done)
  | (unfold State.timeSample; (try dsimp only); (repeat' split) <;> (first | rfl | (simp; done) | (simp_all; done) | (try simp)))
@[simp] theorem State.carriedSample_frame (s : State) (c : Ref) (ns : Int) :
    (State.carriedSample s c ns).pending = s.pending ∧ (State.carriedSample s c ns).identity = s.identity ∧ (State.carriedSample s c ns).aon = s.aon ∧ (State.carriedSample s c ns).pins = s.pins ∧ (State.carriedSample s c ns).phase = s.phase ∧ (State.carriedSample s c ns).boot = s.boot ∧ (State.carriedSample s c ns).sys = s.sys ∧ (State.carriedSample s c ns).balls = s.balls ∧ (State.carriedSample s c ns).shadow = s.shadow ∧ (State.carriedSample s c ns).faulted = s.faulted ∧ (State.carriedSample s c ns).tap = s.tap ∧ (State.carriedSample s c ns).thermal = s.thermal ∧ (State.carriedSample s c ns).light = s.light ∧ (State.carriedSample s c ns).adcA = s.adcA ∧ (State.carriedSample s c ns).adcB = s.adcB ∧ (State.carriedSample s c ns).amb = s.amb ∧ (State.carriedSample s c ns).ports = s.ports ∧ (State.carriedSample s c ns).frames = s.frames ∧ (State.carriedSample s c ns).nextFrame = s.nextFrame ∧ (State.carriedSample s c ns).pipe = s.pipe ∧ (State.carriedSample s c ns).ctxs = s.ctxs ∧ (State.carriedSample s c ns).dec = s.dec ∧ (State.carriedSample s c ns).vs = s.vs ∧ (State.carriedSample s c ns).former = s.former ∧ (State.carriedSample s c ns).usb = s.usb ∧ (State.carriedSample s c ns).ser = s.ser ∧ (State.carriedSample s c ns).pair = s.pair ∧ (State.carriedSample s c ns).fab = s.fab := by
  first
  | (unfold State.carriedSample; simp; done)
  | (unfold State.carriedSample; (try dsimp only); (repeat' split) <;> (first | rfl | (simp; done) | (simp_all; done) | (try simp)))
theorem execTick_frame (s : State) :
    ∃ u, execTick s = .next u ∧
    u.pending = s.pending ∧ u.identity = s.identity ∧ u.aon = s.aon ∧ u.pins = s.pins ∧ u.phase = s.phase ∧ u.boot = s.boot ∧ u.sys = s.sys ∧ u.balls = s.balls ∧ u.fields = s.fields ∧ u.shadow = s.shadow ∧ u.faulted = s.faulted ∧ u.bb = s.bb ∧ u.tap = s.tap ∧ u.time = s.time ∧ u.thermal = s.thermal ∧ u.light = s.light ∧ u.adcA = s.adcA ∧ u.adcB = s.adcB ∧ u.amb = s.amb ∧ u.ports = s.ports ∧ u.frames = s.frames ∧ u.nextFrame = s.nextFrame ∧ u.pipe = s.pipe ∧ u.ctxs = s.ctxs ∧ u.dec = s.dec ∧ u.vs = s.vs ∧ u.former = s.former ∧ u.usb = s.usb ∧ u.ser = s.ser ∧ u.pair = s.pair ∧ u.fab = s.fab ∧ u.fresh = s.fresh := by
  refine ⟨_, rfl, ?_⟩
  first
  | (simp; done)
  | ((try simp only [State.whenRun, State.access, State.packet]); (repeat' split) <;> (first | rfl | (simp; done) | (simp_all; done) | (try simp)))
theorem execSyncInEdge_frame (s : State) :
    ∃ u, execSyncInEdge s = .next u ∧
    u.pending = s.pending ∧ u.identity = s.identity ∧ u.aon = s.aon ∧ u.pins = s.pins ∧ u.phase = s.phase ∧ u.boot = s.boot ∧ u.sys = s.sys ∧ u.balls = s.balls ∧ u.shadow = s.shadow ∧ u.faulted = s.faulted ∧ u.tap = s.tap ∧ u.thermal = s.thermal ∧ u.light = s.light ∧ u.adcA = s.adcA ∧ u.adcB = s.adcB ∧ u.amb = s.amb ∧ u.ports = s.ports ∧ u.frames = s.frames ∧ u.nextFrame = s.nextFrame ∧ u.pipe = s.pipe ∧ u.ctxs = s.ctxs ∧ u.dec = s.dec ∧ u.vs = s.vs ∧ u.former = s.former ∧ u.usb = s.usb ∧ u.ser = s.ser ∧ u.pair = s.pair ∧ u.fab = s.fab := by
  refine ⟨_, rfl, ?_⟩
  first
  | (simp; done)
  | ((try simp only [State.whenRun, State.access, State.packet]); (repeat' split) <;> (first | rfl | (simp; done) | (simp_all; done) | (try simp)))
theorem execSampleDeadlineExpiry_frame (r : Ref) (s : State) :
    ∃ u, execSampleDeadlineExpiry r s = .next u ∧
    u.pending = s.pending ∧ u.identity = s.identity ∧ u.aon = s.aon ∧ u.pins = s.pins ∧ u.phase = s.phase ∧ u.boot = s.boot ∧ u.sys = s.sys ∧ u.balls = s.balls ∧ u.shadow = s.shadow ∧ u.faulted = s.faulted ∧ u.tap = s.tap ∧ u.thermal = s.thermal ∧ u.light = s.light ∧ u.adcA = s.adcA ∧ u.adcB = s.adcB ∧ u.amb = s.amb ∧ u.ports = s.ports ∧ u.frames = s.frames ∧ u.nextFrame = s.nextFrame ∧ u.pipe = s.pipe ∧ u.ctxs = s.ctxs ∧ u.dec = s.dec ∧ u.vs = s.vs ∧ u.former = s.former ∧ u.usb = s.usb ∧ u.ser = s.ser ∧ u.pair = s.pair ∧ u.fab = s.fab := by
  refine ⟨_, rfl, ?_⟩
  first
  | (simp; done)
  | ((try simp only [State.whenRun, State.access, State.packet]); (repeat' split) <;> (first | rfl | (simp; done) | (simp_all; done) | (try simp)))
theorem execHoldoverLimit_frame (s : State) :
    ∃ u, execHoldoverLimit s = .next u ∧
    u.pending = s.pending ∧ u.identity = s.identity ∧ u.aon = s.aon ∧ u.pins = s.pins ∧ u.phase = s.phase ∧ u.boot = s.boot ∧ u.sys = s.sys ∧ u.balls = s.balls ∧ u.fields = s.fields ∧ u.shadow = s.shadow ∧ u.trowels = s.trowels ∧ u.faulted = s.faulted ∧ u.bb = s.bb ∧ u.tap = s.tap ∧ u.thermal = s.thermal ∧ u.light = s.light ∧ u.adcA = s.adcA ∧ u.adcB = s.adcB ∧ u.amb = s.amb ∧ u.ports = s.ports ∧ u.frames = s.frames ∧ u.nextFrame = s.nextFrame ∧ u.pipe = s.pipe ∧ u.ctxs = s.ctxs ∧ u.dec = s.dec ∧ u.vs = s.vs ∧ u.former = s.former ∧ u.usb = s.usb ∧ u.ser = s.ser ∧ u.pair = s.pair ∧ u.fab = s.fab ∧ u.fresh = s.fresh := by
  refine ⟨_, rfl, ?_⟩
  first
  | (simp; done)
  | ((try simp only [State.whenRun, State.access, State.packet]); (repeat' split) <;> (first | rfl | (simp; done) | (simp_all; done) | (try simp)))
theorem execCrystalRateStep_frame (s : State) :
    ∃ u, execCrystalRateStep s = .next u ∧
    u.pending = s.pending ∧ u.identity = s.identity ∧ u.aon = s.aon ∧ u.pins = s.pins ∧ u.phase = s.phase ∧ u.boot = s.boot ∧ u.sys = s.sys ∧ u.balls = s.balls ∧ u.fields = s.fields ∧ u.shadow = s.shadow ∧ u.trowels = s.trowels ∧ u.faulted = s.faulted ∧ u.bb = s.bb ∧ u.tap = s.tap ∧ u.thermal = s.thermal ∧ u.light = s.light ∧ u.adcA = s.adcA ∧ u.adcB = s.adcB ∧ u.amb = s.amb ∧ u.ports = s.ports ∧ u.frames = s.frames ∧ u.nextFrame = s.nextFrame ∧ u.pipe = s.pipe ∧ u.ctxs = s.ctxs ∧ u.dec = s.dec ∧ u.vs = s.vs ∧ u.former = s.former ∧ u.usb = s.usb ∧ u.ser = s.ser ∧ u.pair = s.pair ∧ u.fab = s.fab ∧ u.fresh = s.fresh := by
  refine ⟨_, rfl, ?_⟩
  first
  | (simp; done)
  | ((try simp only [State.whenRun, State.access, State.packet]); (repeat' split) <;> (first | rfl | (simp; done) | (simp_all; done) | (try simp)))
theorem execSyncOutInstant_frame (s : State) :
    ∃ u, execSyncOutInstant s = .next u ∧
    u.pending = s.pending ∧ u.identity = s.identity ∧ u.aon = s.aon ∧ u.pins = s.pins ∧ u.phase = s.phase ∧ u.boot = s.boot ∧ u.sys = s.sys ∧ u.fields = s.fields ∧ u.shadow = s.shadow ∧ u.trowels = s.trowels ∧ u.faulted = s.faulted ∧ u.bb = s.bb ∧ u.tap = s.tap ∧ u.time = s.time ∧ u.thermal = s.thermal ∧ u.light = s.light ∧ u.adcA = s.adcA ∧ u.adcB = s.adcB ∧ u.amb = s.amb ∧ u.ports = s.ports ∧ u.frames = s.frames ∧ u.nextFrame = s.nextFrame ∧ u.pipe = s.pipe ∧ u.ctxs = s.ctxs ∧ u.dec = s.dec ∧ u.vs = s.vs ∧ u.former = s.former ∧ u.usb = s.usb ∧ u.ser = s.ser ∧ u.pair = s.pair ∧ u.fab = s.fab ∧ u.fresh = s.fresh := by
  refine ⟨_, rfl, ?_⟩
  first
  | (simp; done)
  | ((try simp only [State.whenRun, State.access, State.packet]); (repeat' split) <;> (first | rfl | (simp; done) | (simp_all; done) | (try simp)))
theorem execSyncOutPulseEnd_frame (s : State) :
    ∃ u, execSyncOutPulseEnd s = .next u ∧
    u.pending = s.pending ∧ u.identity = s.identity ∧ u.aon = s.aon ∧ u.pins = s.pins ∧ u.phase = s.phase ∧ u.boot = s.boot ∧ u.sys = s.sys ∧ u.fields = s.fields ∧ u.shadow = s.shadow ∧ u.trowels = s.trowels ∧ u.faulted = s.faulted ∧ u.bb = s.bb ∧ u.tap = s.tap ∧ u.time = s.time ∧ u.thermal = s.thermal ∧ u.light = s.light ∧ u.adcA = s.adcA ∧ u.adcB = s.adcB ∧ u.amb = s.amb ∧ u.ports = s.ports ∧ u.frames = s.frames ∧ u.nextFrame = s.nextFrame ∧ u.pipe = s.pipe ∧ u.ctxs = s.ctxs ∧ u.dec = s.dec ∧ u.vs = s.vs ∧ u.former = s.former ∧ u.usb = s.usb ∧ u.ser = s.ser ∧ u.pair = s.pair ∧ u.fab = s.fab ∧ u.fresh = s.fresh := by
  refine ⟨_, rfl, ?_⟩
  first
  | (simp; done)
  | ((try simp only [State.whenRun, State.access, State.packet]); (repeat' split) <;> (first | rfl | (simp; done) | (simp_all; done) | (try simp)))
@[simp] theorem State.coreCycle_frame (s : State) :
    (State.coreCycle s).pending = s.pending ∧ (State.coreCycle s).identity = s.identity ∧ (State.coreCycle s).aon = s.aon ∧ (State.coreCycle s).pins = s.pins ∧ (State.coreCycle s).phase = s.phase ∧ (State.coreCycle s).boot = s.boot ∧ (State.coreCycle s).sys = s.sys ∧ (State.coreCycle s).balls = s.balls ∧ (State.coreCycle s).fields = s.fields ∧ (State.coreCycle s).shadow = s.shadow ∧ (State.coreCycle s).faulted = s.faulted ∧ (State.coreCycle s).bb = s.bb ∧ (State.coreCycle s).tap = s.tap ∧ (State.coreCycle s).thermal = s.thermal ∧ (State.coreCycle s).light = s.light ∧ (State.coreCycle s).adcA = s.adcA ∧ (State.coreCycle s).adcB = s.adcB ∧ (State.coreCycle s).amb = s.amb ∧ (State.coreCycle s).ports = s.ports ∧ (State.coreCycle s).frames = s.frames ∧ (State.coreCycle s).nextFrame = s.nextFrame ∧ (State.coreCycle s).pipe = s.pipe ∧ (State.coreCycle s).ctxs = s.ctxs ∧ (State.coreCycle s).dec = s.dec ∧ (State.coreCycle s).vs = s.vs ∧ (State.coreCycle s).former = s.former ∧ (State.coreCycle s).usb = s.usb ∧ (State.coreCycle s).ser = s.ser ∧ (State.coreCycle s).pair = s.pair ∧ (State.coreCycle s).fab = s.fab := by
  first
  | (unfold State.coreCycle; simp; done)
  | (unfold State.coreCycle; (try dsimp only); (repeat' split) <;> (first | rfl | (simp; done) | (simp_all; done) | (try simp)))
@[simp] theorem State.slowCycle_frame (s : State) :
    (State.slowCycle s).pending = s.pending ∧ (State.slowCycle s).identity = s.identity ∧ (State.slowCycle s).aon = s.aon ∧ (State.slowCycle s).pins = s.pins ∧ (State.slowCycle s).phase = s.phase ∧ (State.slowCycle s).boot = s.boot ∧ (State.slowCycle s).sys = s.sys ∧ (State.slowCycle s).balls = s.balls ∧ (State.slowCycle s).fields = s.fields ∧ (State.slowCycle s).shadow = s.shadow ∧ (State.slowCycle s).trowels = s.trowels ∧ (State.slowCycle s).faulted = s.faulted ∧ (State.slowCycle s).bb = s.bb ∧ (State.slowCycle s).tap = s.tap ∧ (State.slowCycle s).thermal = s.thermal ∧ (State.slowCycle s).light = s.light ∧ (State.slowCycle s).adcA = s.adcA ∧ (State.slowCycle s).adcB = s.adcB ∧ (State.slowCycle s).amb = s.amb ∧ (State.slowCycle s).ports = s.ports ∧ (State.slowCycle s).frames = s.frames ∧ (State.slowCycle s).nextFrame = s.nextFrame ∧ (State.slowCycle s).pipe = s.pipe ∧ (State.slowCycle s).ctxs = s.ctxs ∧ (State.slowCycle s).dec = s.dec ∧ (State.slowCycle s).vs = s.vs ∧ (State.slowCycle s).former = s.former ∧ (State.slowCycle s).usb = s.usb ∧ (State.slowCycle s).ser = s.ser ∧ (State.slowCycle s).pair = s.pair ∧ (State.slowCycle s).fab = s.fab ∧ (State.slowCycle s).fresh = s.fresh := by
  first
  | (unfold State.slowCycle; simp; done)
  | (unfold State.slowCycle; (try dsimp only); (repeat' split) <;> (first | rfl | (simp; done) | (simp_all; done) | (try simp)))
@[simp] theorem State.timeSleep_frame (s : State) :
    (State.timeSleep s).pending = s.pending ∧ (State.timeSleep s).identity = s.identity ∧ (State.timeSleep s).aon = s.aon ∧ (State.timeSleep s).pins = s.pins ∧ (State.timeSleep s).phase = s.phase ∧ (State.timeSleep s).boot = s.boot ∧ (State.timeSleep s).sys = s.sys ∧ (State.timeSleep s).balls = s.balls ∧ (State.timeSleep s).fields = s.fields ∧ (State.timeSleep s).shadow = s.shadow ∧ (State.timeSleep s).trowels = s.trowels ∧ (State.timeSleep s).faulted = s.faulted ∧ (State.timeSleep s).bb = s.bb ∧ (State.timeSleep s).tap = s.tap ∧ (State.timeSleep s).thermal = s.thermal ∧ (State.timeSleep s).light = s.light ∧ (State.timeSleep s).adcA = s.adcA ∧ (State.timeSleep s).adcB = s.adcB ∧ (State.timeSleep s).amb = s.amb ∧ (State.timeSleep s).ports = s.ports ∧ (State.timeSleep s).frames = s.frames ∧ (State.timeSleep s).nextFrame = s.nextFrame ∧ (State.timeSleep s).pipe = s.pipe ∧ (State.timeSleep s).ctxs = s.ctxs ∧ (State.timeSleep s).dec = s.dec ∧ (State.timeSleep s).vs = s.vs ∧ (State.timeSleep s).former = s.former ∧ (State.timeSleep s).usb = s.usb ∧ (State.timeSleep s).ser = s.ser ∧ (State.timeSleep s).pair = s.pair ∧ (State.timeSleep s).fab = s.fab ∧ (State.timeSleep s).fresh = s.fresh := by
  first
  | (unfold State.timeSleep; simp; done)
  | (unfold State.timeSleep; (try dsimp only); (repeat' split) <;> (first | rfl | (simp; done) | (simp_all; done) | (try simp)))
@[simp] theorem State.timeWake_frame (s : State) :
    (State.timeWake s).pending = s.pending ∧ (State.timeWake s).identity = s.identity ∧ (State.timeWake s).aon = s.aon ∧ (State.timeWake s).pins = s.pins ∧ (State.timeWake s).phase = s.phase ∧ (State.timeWake s).boot = s.boot ∧ (State.timeWake s).sys = s.sys ∧ (State.timeWake s).balls = s.balls ∧ (State.timeWake s).fields = s.fields ∧ (State.timeWake s).shadow = s.shadow ∧ (State.timeWake s).trowels = s.trowels ∧ (State.timeWake s).faulted = s.faulted ∧ (State.timeWake s).bb = s.bb ∧ (State.timeWake s).tap = s.tap ∧ (State.timeWake s).thermal = s.thermal ∧ (State.timeWake s).light = s.light ∧ (State.timeWake s).adcA = s.adcA ∧ (State.timeWake s).adcB = s.adcB ∧ (State.timeWake s).amb = s.amb ∧ (State.timeWake s).ports = s.ports ∧ (State.timeWake s).frames = s.frames ∧ (State.timeWake s).nextFrame = s.nextFrame ∧ (State.timeWake s).pipe = s.pipe ∧ (State.timeWake s).ctxs = s.ctxs ∧ (State.timeWake s).dec = s.dec ∧ (State.timeWake s).vs = s.vs ∧ (State.timeWake s).former = s.former ∧ (State.timeWake s).usb = s.usb ∧ (State.timeWake s).ser = s.ser ∧ (State.timeWake s).pair = s.pair ∧ (State.timeWake s).fab = s.fab ∧ (State.timeWake s).fresh = s.fresh := by
  first
  | (unfold State.timeWake; simp; done)
  | (unfold State.timeWake; (try dsimp only); (repeat' split) <;> (first | rfl | (simp; done) | (simp_all; done) | (try simp)))
end Sys2Proof.Machine
end

