-- ==== Sys2Proof/Laws/FramePair.lean ====
section
/-! SUPPORT. Frames: which parts of the state each operation of Machine/Pair leaves as they were. -/

namespace Sys2Proof.Machine
@[simp] theorem State.updPair_frame (s : State) (f : Pair → Pair) :
    (State.updPair s f).pending = s.pending ∧ (State.updPair s f).identity = s.identity ∧ (State.updPair s f).aon = s.aon ∧ (State.updPair s f).pins = s.pins ∧ (State.updPair s f).phase = s.phase ∧ (State.updPair s f).boot = s.boot ∧ (State.updPair s f).sys = s.sys ∧ (State.updPair s f).balls = s.balls ∧ (State.updPair s f).fields = s.fields ∧ (State.updPair s f).shadow = s.shadow ∧ (State.updPair s f).trowels = s.trowels ∧ (State.updPair s f).faulted = s.faulted ∧ (State.updPair s f).bb = s.bb ∧ (State.updPair s f).tap = s.tap ∧ (State.updPair s f).time = s.time ∧ (State.updPair s f).thermal = s.thermal ∧ (State.updPair s f).light = s.light ∧ (State.updPair s f).adcA = s.adcA ∧ (State.updPair s f).adcB = s.adcB ∧ (State.updPair s f).amb = s.amb ∧ (State.updPair s f).ports = s.ports ∧ (State.updPair s f).frames = s.frames ∧ (State.updPair s f).nextFrame = s.nextFrame ∧ (State.updPair s f).pipe = s.pipe ∧ (State.updPair s f).ctxs = s.ctxs ∧ (State.updPair s f).dec = s.dec ∧ (State.updPair s f).vs = s.vs ∧ (State.updPair s f).former = s.former ∧ (State.updPair s f).usb = s.usb ∧ (State.updPair s f).ser = s.ser ∧ (State.updPair s f).fab = s.fab ∧ (State.updPair s f).fresh = s.fresh := by
  first
  | (unfold State.updPair; simp; done)
  | (unfold State.updPair; (try dsimp only); (repeat' split) <;> (first | rfl | (simp; done) | (simp_all; done) | (try simp)))
@[simp] theorem State.resyncIfDue_frame (s : State) :
    (State.resyncIfDue s).pending = s.pending ∧ (State.resyncIfDue s).identity = s.identity ∧ (State.resyncIfDue s).aon = s.aon ∧ (State.resyncIfDue s).pins = s.pins ∧ (State.resyncIfDue s).phase = s.phase ∧ (State.resyncIfDue s).boot = s.boot ∧ (State.resyncIfDue s).sys = s.sys ∧ (State.resyncIfDue s).balls = s.balls ∧ (State.resyncIfDue s).shadow = s.shadow ∧ (State.resyncIfDue s).trowels = s.trowels ∧ (State.resyncIfDue s).faulted = s.faulted ∧ (State.resyncIfDue s).bb = s.bb ∧ (State.resyncIfDue s).tap = s.tap ∧ (State.resyncIfDue s).time = s.time ∧ (State.resyncIfDue s).thermal = s.thermal ∧ (State.resyncIfDue s).light = s.light ∧ (State.resyncIfDue s).adcA = s.adcA ∧ (State.resyncIfDue s).adcB = s.adcB ∧ (State.resyncIfDue s).amb = s.amb ∧ (State.resyncIfDue s).ports = s.ports ∧ (State.resyncIfDue s).frames = s.frames ∧ (State.resyncIfDue s).nextFrame = s.nextFrame ∧ (State.resyncIfDue s).pipe = s.pipe ∧ (State.resyncIfDue s).ctxs = s.ctxs ∧ (State.resyncIfDue s).dec = s.dec ∧ (State.resyncIfDue s).vs = s.vs ∧ (State.resyncIfDue s).former = s.former ∧ (State.resyncIfDue s).usb = s.usb ∧ (State.resyncIfDue s).ser = s.ser ∧ (State.resyncIfDue s).fab = s.fab ∧ (State.resyncIfDue s).fresh = s.fresh := by
  first
  | (unfold State.resyncIfDue; simp; done)
  | (unfold State.resyncIfDue; (try dsimp only); (repeat' split) <;> (first | rfl | (simp; done) | (simp_all; done) | (try simp)))
@[simp] theorem State.numberHeld_frame (s : State) (held : List (List Byte)) :
    (State.numberHeld s held).pending = s.pending ∧ (State.numberHeld s held).identity = s.identity ∧ (State.numberHeld s held).aon = s.aon ∧ (State.numberHeld s held).pins = s.pins ∧ (State.numberHeld s held).phase = s.phase ∧ (State.numberHeld s held).boot = s.boot ∧ (State.numberHeld s held).sys = s.sys ∧ (State.numberHeld s held).balls = s.balls ∧ (State.numberHeld s held).shadow = s.shadow ∧ (State.numberHeld s held).trowels = s.trowels ∧ (State.numberHeld s held).bb = s.bb ∧ (State.numberHeld s held).tap = s.tap ∧ (State.numberHeld s held).time = s.time ∧ (State.numberHeld s held).thermal = s.thermal ∧ (State.numberHeld s held).light = s.light ∧ (State.numberHeld s held).adcA = s.adcA ∧ (State.numberHeld s held).adcB = s.adcB ∧ (State.numberHeld s held).amb = s.amb ∧ (State.numberHeld s held).ports = s.ports ∧ (State.numberHeld s held).frames = s.frames ∧ (State.numberHeld s held).nextFrame = s.nextFrame ∧ (State.numberHeld s held).ctxs = s.ctxs ∧ (State.numberHeld s held).dec = s.dec ∧ (State.numberHeld s held).vs = s.vs ∧ (State.numberHeld s held).fresh = s.fresh := by
  first
  | (unfold State.numberHeld; simp; done)
  | (unfold State.numberHeld; (try dsimp only); (repeat' split) <;> (first | rfl | (simp; done) | (simp_all; done) | (try simp)))
@[simp] theorem State.becomeActive_frame (s : State) :
    (State.becomeActive s).pending = s.pending ∧ (State.becomeActive s).identity = s.identity ∧ (State.becomeActive s).aon = s.aon ∧ (State.becomeActive s).pins = s.pins ∧ (State.becomeActive s).phase = s.phase ∧ (State.becomeActive s).boot = s.boot ∧ (State.becomeActive s).sys = s.sys ∧ (State.becomeActive s).balls = s.balls ∧ (State.becomeActive s).fields = s.fields ∧ (State.becomeActive s).shadow = s.shadow ∧ (State.becomeActive s).trowels = s.trowels ∧ (State.becomeActive s).faulted = s.faulted ∧ (State.becomeActive s).bb = s.bb ∧ (State.becomeActive s).tap = s.tap ∧ (State.becomeActive s).time = s.time ∧ (State.becomeActive s).thermal = s.thermal ∧ (State.becomeActive s).light = s.light ∧ (State.becomeActive s).adcA = s.adcA ∧ (State.becomeActive s).adcB = s.adcB ∧ (State.becomeActive s).amb = s.amb ∧ (State.becomeActive s).ports = s.ports ∧ (State.becomeActive s).frames = s.frames ∧ (State.becomeActive s).nextFrame = s.nextFrame ∧ (State.becomeActive s).pipe = s.pipe ∧ (State.becomeActive s).ctxs = s.ctxs ∧ (State.becomeActive s).dec = s.dec ∧ (State.becomeActive s).vs = s.vs ∧ (State.becomeActive s).former = s.former ∧ (State.becomeActive s).usb = s.usb ∧ (State.becomeActive s).ser = s.ser ∧ (State.becomeActive s).fab = s.fab ∧ (State.becomeActive s).fresh = s.fresh := by
  first
  | (unfold State.becomeActive; simp; done)
  | (unfold State.becomeActive; (try dsimp only); (repeat' split) <;> (first | rfl | (simp; done) | (simp_all; done) | (try simp)))
@[simp] theorem State.waitActive_frame (s : State) :
    (State.waitActive s).pending = s.pending ∧ (State.waitActive s).identity = s.identity ∧ (State.waitActive s).aon = s.aon ∧ (State.waitActive s).pins = s.pins ∧ (State.waitActive s).phase = s.phase ∧ (State.waitActive s).boot = s.boot ∧ (State.waitActive s).sys = s.sys ∧ (State.waitActive s).balls = s.balls ∧ (State.waitActive s).shadow = s.shadow ∧ (State.waitActive s).trowels = s.trowels ∧ (State.waitActive s).bb = s.bb ∧ (State.waitActive s).tap = s.tap ∧ (State.waitActive s).time = s.time ∧ (State.waitActive s).thermal = s.thermal ∧ (State.waitActive s).light = s.light ∧ (State.waitActive s).adcA = s.adcA ∧ (State.waitActive s).adcB = s.adcB ∧ (State.waitActive s).amb = s.amb ∧ (State.waitActive s).ports = s.ports ∧ (State.waitActive s).frames = s.frames ∧ (State.waitActive s).nextFrame = s.nextFrame ∧ (State.waitActive s).ctxs = s.ctxs ∧ (State.waitActive s).dec = s.dec ∧ (State.waitActive s).vs = s.vs ∧ (State.waitActive s).fresh = s.fresh := by
  first
  | (unfold State.waitActive; simp; done)
  | (unfold State.waitActive; (try dsimp only); (repeat' split) <;> (first | rfl | (simp; done) | (simp_all; done) | (try simp)))
@[simp] theorem State.dropQueues_frame (s : State) :
    (State.dropQueues s).pending = s.pending ∧ (State.dropQueues s).identity = s.identity ∧ (State.dropQueues s).aon = s.aon ∧ (State.dropQueues s).pins = s.pins ∧ (State.dropQueues s).phase = s.phase ∧ (State.dropQueues s).boot = s.boot ∧ (State.dropQueues s).sys = s.sys ∧ (State.dropQueues s).balls = s.balls ∧ (State.dropQueues s).fields = s.fields ∧ (State.dropQueues s).shadow = s.shadow ∧ (State.dropQueues s).trowels = s.trowels ∧ (State.dropQueues s).faulted = s.faulted ∧ (State.dropQueues s).bb = s.bb ∧ (State.dropQueues s).tap = s.tap ∧ (State.dropQueues s).time = s.time ∧ (State.dropQueues s).thermal = s.thermal ∧ (State.dropQueues s).light = s.light ∧ (State.dropQueues s).adcA = s.adcA ∧ (State.dropQueues s).adcB = s.adcB ∧ (State.dropQueues s).amb = s.amb ∧ (State.dropQueues s).ports = s.ports ∧ (State.dropQueues s).frames = s.frames ∧ (State.dropQueues s).nextFrame = s.nextFrame ∧ (State.dropQueues s).pipe = s.pipe ∧ (State.dropQueues s).ctxs = s.ctxs ∧ (State.dropQueues s).vs = s.vs ∧ (State.dropQueues s).former = s.former ∧ (State.dropQueues s).pair = s.pair ∧ (State.dropQueues s).fresh = s.fresh := by
  first
  | (unfold State.dropQueues; simp; done)
  | (unfold State.dropQueues; (try dsimp only); (repeat' split) <;> (first | rfl | (simp; done) | (simp_all; done) | (try simp)))
@[simp] theorem State.becomeStandby_frame (s : State) :
    (State.becomeStandby s).pending = s.pending ∧ (State.becomeStandby s).identity = s.identity ∧ (State.becomeStandby s).aon = s.aon ∧ (State.becomeStandby s).pins = s.pins ∧ (State.becomeStandby s).phase = s.phase ∧ (State.becomeStandby s).boot = s.boot ∧ (State.becomeStandby s).sys = s.sys ∧ (State.becomeStandby s).balls = s.balls ∧ (State.becomeStandby s).fields = s.fields ∧ (State.becomeStandby s).shadow = s.shadow ∧ (State.becomeStandby s).trowels = s.trowels ∧ (State.becomeStandby s).faulted = s.faulted ∧ (State.becomeStandby s).bb = s.bb ∧ (State.becomeStandby s).tap = s.tap ∧ (State.becomeStandby s).time = s.time ∧ (State.becomeStandby s).thermal = s.thermal ∧ (State.becomeStandby s).light = s.light ∧ (State.becomeStandby s).adcA = s.adcA ∧ (State.becomeStandby s).adcB = s.adcB ∧ (State.becomeStandby s).amb = s.amb ∧ (State.becomeStandby s).ports = s.ports ∧ (State.becomeStandby s).frames = s.frames ∧ (State.becomeStandby s).nextFrame = s.nextFrame ∧ (State.becomeStandby s).pipe = s.pipe ∧ (State.becomeStandby s).ctxs = s.ctxs ∧ (State.becomeStandby s).dec = s.dec ∧ (State.becomeStandby s).vs = s.vs ∧ (State.becomeStandby s).former = s.former ∧ (State.becomeStandby s).usb = s.usb ∧ (State.becomeStandby s).ser = s.ser ∧ (State.becomeStandby s).fab = s.fab ∧ (State.becomeStandby s).fresh = s.fresh := by
  first
  | (unfold State.becomeStandby; simp; done)
  | (unfold State.becomeStandby; (try dsimp only); (repeat' split) <;> (first | rfl | (simp; done) | (simp_all; done) | (try simp)))
@[simp] theorem State.leaveActive_frame (s : State) (cause : Word) :
    (State.leaveActive s cause).pending = s.pending ∧ (State.leaveActive s cause).identity = s.identity ∧ (State.leaveActive s cause).aon = s.aon ∧ (State.leaveActive s cause).pins = s.pins ∧ (State.leaveActive s cause).phase = s.phase ∧ (State.leaveActive s cause).boot = s.boot ∧ (State.leaveActive s cause).sys = s.sys ∧ (State.leaveActive s cause).shadow = s.shadow ∧ (State.leaveActive s cause).trowels = s.trowels ∧ (State.leaveActive s cause).faulted = s.faulted ∧ (State.leaveActive s cause).tap = s.tap ∧ (State.leaveActive s cause).time = s.time ∧ (State.leaveActive s cause).thermal = s.thermal ∧ (State.leaveActive s cause).light = s.light ∧ (State.leaveActive s cause).adcA = s.adcA ∧ (State.leaveActive s cause).adcB = s.adcB ∧ (State.leaveActive s cause).amb = s.amb ∧ (State.leaveActive s cause).ports = s.ports ∧ (State.leaveActive s cause).nextFrame = s.nextFrame ∧ (State.leaveActive s cause).pipe = s.pipe ∧ (State.leaveActive s cause).ctxs = s.ctxs ∧ (State.leaveActive s cause).former = s.former ∧ (State.leaveActive s cause).fresh = s.fresh := by
  first
  | (unfold State.leaveActive; simp; done)
  | (unfold State.leaveActive; (try dsimp only); (repeat' split) <;> (first | rfl | (simp; done) | (simp_all; done) | (try simp)))
@[simp] theorem State.replayQueues_frame (s : State) :
    (State.replayQueues s).pending = s.pending ∧ (State.replayQueues s).identity = s.identity ∧ (State.replayQueues s).aon = s.aon ∧ (State.replayQueues s).pins = s.pins ∧ (State.replayQueues s).phase = s.phase ∧ (State.replayQueues s).boot = s.boot ∧ (State.replayQueues s).sys = s.sys ∧ (State.replayQueues s).balls = s.balls ∧ (State.replayQueues s).fields = s.fields ∧ (State.replayQueues s).shadow = s.shadow ∧ (State.replayQueues s).trowels = s.trowels ∧ (State.replayQueues s).faulted = s.faulted ∧ (State.replayQueues s).bb = s.bb ∧ (State.replayQueues s).tap = s.tap ∧ (State.replayQueues s).time = s.time ∧ (State.replayQueues s).thermal = s.thermal ∧ (State.replayQueues s).light = s.light ∧ (State.replayQueues s).adcA = s.adcA ∧ (State.replayQueues s).adcB = s.adcB ∧ (State.replayQueues s).amb = s.amb ∧ (State.replayQueues s).ports = s.ports ∧ (State.replayQueues s).frames = s.frames ∧ (State.replayQueues s).nextFrame = s.nextFrame ∧ (State.replayQueues s).pipe = s.pipe ∧ (State.replayQueues s).ctxs = s.ctxs ∧ (State.replayQueues s).dec = s.dec ∧ (State.replayQueues s).vs = s.vs ∧ (State.replayQueues s).former = s.former ∧ (State.replayQueues s).pair = s.pair ∧ (State.replayQueues s).fresh = s.fresh := by
  first
  | (unfold State.replayQueues; simp; done)
  | (unfold State.replayQueues; (try dsimp only); (repeat' split) <;> (first | rfl | (simp; done) | (simp_all; done) | (try simp)))
@[simp] theorem State.takeover_frame (s : State) (cause : Nat) :
    (State.takeover s cause).pending = s.pending ∧ (State.takeover s cause).identity = s.identity ∧ (State.takeover s cause).aon = s.aon ∧ (State.takeover s cause).pins = s.pins ∧ (State.takeover s cause).phase = s.phase ∧ (State.takeover s cause).boot = s.boot ∧ (State.takeover s cause).sys = s.sys ∧ (State.takeover s cause).balls = s.balls ∧ (State.takeover s cause).shadow = s.shadow ∧ (State.takeover s cause).tap = s.tap ∧ (State.takeover s cause).time = s.time ∧ (State.takeover s cause).thermal = s.thermal ∧ (State.takeover s cause).adcA = s.adcA ∧ (State.takeover s cause).adcB = s.adcB ∧ (State.takeover s cause).amb = s.amb ∧ (State.takeover s cause).ports = s.ports ∧ (State.takeover s cause).frames = s.frames ∧ (State.takeover s cause).nextFrame = s.nextFrame ∧ (State.takeover s cause).ctxs = s.ctxs ∧ (State.takeover s cause).dec = s.dec ∧ (State.takeover s cause).vs = s.vs ∧ (State.takeover s cause).fresh = s.fresh := by
  first
  | (unfold State.takeover; simp; done)
  | (unfold State.takeover; (try dsimp only); (repeat' split) <;> (first | rfl | (simp; done) | (simp_all; done) | (try simp)))
theorem execHeartbeatPulse_frame (s : State) :
    ∃ u, execHeartbeatPulse s = .next u ∧
    u.pending = s.pending ∧ u.identity = s.identity ∧ u.aon = s.aon ∧ u.pins = s.pins ∧ u.phase = s.phase ∧ u.boot = s.boot ∧ u.sys = s.sys ∧ u.fields = s.fields ∧ u.shadow = s.shadow ∧ u.trowels = s.trowels ∧ u.faulted = s.faulted ∧ u.bb = s.bb ∧ u.tap = s.tap ∧ u.time = s.time ∧ u.thermal = s.thermal ∧ u.light = s.light ∧ u.adcA = s.adcA ∧ u.adcB = s.adcB ∧ u.amb = s.amb ∧ u.ports = s.ports ∧ u.frames = s.frames ∧ u.nextFrame = s.nextFrame ∧ u.pipe = s.pipe ∧ u.ctxs = s.ctxs ∧ u.dec = s.dec ∧ u.vs = s.vs ∧ u.former = s.former ∧ u.usb = s.usb ∧ u.ser = s.ser ∧ u.pair = s.pair ∧ u.fab = s.fab ∧ u.fresh = s.fresh := by
  refine ⟨_, rfl, ?_⟩
  first
  | (simp; done)
  | ((try simp only [State.whenRun, State.access, State.packet]); (repeat' split) <;> (first | rfl | (simp; done) | (simp_all; done) | (try simp)))
theorem execPlHbEdge_frame (s : State) :
    ∃ u, execPlHbEdge s = .next u ∧
    u.pending = s.pending ∧ u.identity = s.identity ∧ u.aon = s.aon ∧ u.pins = s.pins ∧ u.phase = s.phase ∧ u.boot = s.boot ∧ u.sys = s.sys ∧ u.shadow = s.shadow ∧ u.trowels = s.trowels ∧ u.faulted = s.faulted ∧ u.tap = s.tap ∧ u.time = s.time ∧ u.thermal = s.thermal ∧ u.light = s.light ∧ u.adcA = s.adcA ∧ u.adcB = s.adcB ∧ u.amb = s.amb ∧ u.ports = s.ports ∧ u.nextFrame = s.nextFrame ∧ u.pipe = s.pipe ∧ u.ctxs = s.ctxs ∧ u.former = s.former ∧ u.fresh = s.fresh := by
  refine ⟨_, rfl, ?_⟩
  first
  | (simp; done)
  | ((try simp only [State.whenRun, State.access, State.packet]); (repeat' split) <;> (first | rfl | (simp; done) | (simp_all; done) | (try simp)))
theorem execHbLost_frame (s : State) :
    ∃ u, execHbLost s = .next u ∧
    u.pending = s.pending ∧ u.identity = s.identity ∧ u.aon = s.aon ∧ u.pins = s.pins ∧ u.phase = s.phase ∧ u.boot = s.boot ∧ u.sys = s.sys ∧ u.balls = s.balls ∧ u.shadow = s.shadow ∧ u.tap = s.tap ∧ u.time = s.time ∧ u.thermal = s.thermal ∧ u.adcA = s.adcA ∧ u.adcB = s.adcB ∧ u.amb = s.amb ∧ u.ports = s.ports ∧ u.frames = s.frames ∧ u.nextFrame = s.nextFrame ∧ u.ctxs = s.ctxs ∧ u.dec = s.dec ∧ u.vs = s.vs ∧ u.fresh = s.fresh := by
  refine ⟨_, rfl, ?_⟩
  first
  | (simp; done)
  | ((try simp only [State.whenRun, State.access, State.packet]); (repeat' split) <;> (first | rfl | (simp; done) | (simp_all; done) | (try simp)))
theorem execConflictSettle_frame (s : State) :
    ∃ u, execConflictSettle s = .next u ∧
    u.pending = s.pending ∧ u.identity = s.identity ∧ u.aon = s.aon ∧ u.pins = s.pins ∧ u.phase = s.phase ∧ u.boot = s.boot ∧ u.sys = s.sys ∧ u.shadow = s.shadow ∧ u.trowels = s.trowels ∧ u.faulted = s.faulted ∧ u.tap = s.tap ∧ u.time = s.time ∧ u.thermal = s.thermal ∧ u.light = s.light ∧ u.adcA = s.adcA ∧ u.adcB = s.adcB ∧ u.amb = s.amb ∧ u.ports = s.ports ∧ u.nextFrame = s.nextFrame ∧ u.pipe = s.pipe ∧ u.ctxs = s.ctxs ∧ u.former = s.former ∧ u.fresh = s.fresh := by
  refine ⟨_, rfl, ?_⟩
  first
  | (simp; done)
  | ((try simp only [State.whenRun, State.access, State.packet]); (repeat' split) <;> (first | rfl | (simp; done) | (simp_all; done) | (try simp)))
theorem execPairWaitTimeout_frame (s : State) :
    ∃ u, execPairWaitTimeout s = .next u ∧
    u.pending = s.pending ∧ u.identity = s.identity ∧ u.aon = s.aon ∧ u.pins = s.pins ∧ u.phase = s.phase ∧ u.boot = s.boot ∧ u.sys = s.sys ∧ u.balls = s.balls ∧ u.shadow = s.shadow ∧ u.trowels = s.trowels ∧ u.bb = s.bb ∧ u.tap = s.tap ∧ u.time = s.time ∧ u.thermal = s.thermal ∧ u.light = s.light ∧ u.adcA = s.adcA ∧ u.adcB = s.adcB ∧ u.amb = s.amb ∧ u.ports = s.ports ∧ u.frames = s.frames ∧ u.nextFrame = s.nextFrame ∧ u.ctxs = s.ctxs ∧ u.dec = s.dec ∧ u.vs = s.vs ∧ u.fresh = s.fresh := by
  refine ⟨_, rfl, ?_⟩
  first
  | (simp; done)
  | ((try simp only [State.whenRun, State.access, State.packet]); (repeat' split) <;> (first | rfl | (simp; done) | (simp_all; done) | (try simp)))
@[simp] theorem State.waitDecide_frame (s : State) (first : Bool) :
    (State.waitDecide s first).pending = s.pending ∧ (State.waitDecide s first).identity = s.identity ∧ (State.waitDecide s first).aon = s.aon ∧ (State.waitDecide s first).pins = s.pins ∧ (State.waitDecide s first).phase = s.phase ∧ (State.waitDecide s first).boot = s.boot ∧ (State.waitDecide s first).sys = s.sys ∧ (State.waitDecide s first).balls = s.balls ∧ (State.waitDecide s first).shadow = s.shadow ∧ (State.waitDecide s first).trowels = s.trowels ∧ (State.waitDecide s first).bb = s.bb ∧ (State.waitDecide s first).tap = s.tap ∧ (State.waitDecide s first).time = s.time ∧ (State.waitDecide s first).thermal = s.thermal ∧ (State.waitDecide s first).light = s.light ∧ (State.waitDecide s first).adcA = s.adcA ∧ (State.waitDecide s first).adcB = s.adcB ∧ (State.waitDecide s first).amb = s.amb ∧ (State.waitDecide s first).ports = s.ports ∧ (State.waitDecide s first).frames = s.frames ∧ (State.waitDecide s first).nextFrame = s.nextFrame ∧ (State.waitDecide s first).ctxs = s.ctxs ∧ (State.waitDecide s first).dec = s.dec ∧ (State.waitDecide s first).vs = s.vs ∧ (State.waitDecide s first).fresh = s.fresh := by
  first
  | (unfold State.waitDecide; simp; done)
  | (unfold State.waitDecide; (try dsimp only); (repeat' split) <;> (first | rfl | (simp; done) | (simp_all; done) | (try simp)))
theorem execPairLinkUp_frame (s : State) :
    ∃ u, execPairLinkUp s = .next u ∧
    u.pending = s.pending ∧ u.identity = s.identity ∧ u.aon = s.aon ∧ u.pins = s.pins ∧ u.phase = s.phase ∧ u.boot = s.boot ∧ u.sys = s.sys ∧ u.balls = s.balls ∧ u.shadow = s.shadow ∧ u.trowels = s.trowels ∧ u.faulted = s.faulted ∧ u.bb = s.bb ∧ u.tap = s.tap ∧ u.time = s.time ∧ u.thermal = s.thermal ∧ u.light = s.light ∧ u.adcA = s.adcA ∧ u.adcB = s.adcB ∧ u.amb = s.amb ∧ u.ports = s.ports ∧ u.frames = s.frames ∧ u.nextFrame = s.nextFrame ∧ u.pipe = s.pipe ∧ u.ctxs = s.ctxs ∧ u.dec = s.dec ∧ u.vs = s.vs ∧ u.former = s.former ∧ u.usb = s.usb ∧ u.ser = s.ser ∧ u.fab = s.fab ∧ u.fresh = s.fresh := by
  refine ⟨_, rfl, ?_⟩
  first
  | (simp; done)
  | ((try simp only [State.whenRun, State.access, State.packet]); (repeat' split) <;> (first | rfl | (simp; done) | (simp_all; done) | (try simp)))
theorem execPairLinkDown_frame (s : State) :
    ∃ u, execPairLinkDown s = .next u ∧
    u.pending = s.pending ∧ u.identity = s.identity ∧ u.aon = s.aon ∧ u.pins = s.pins ∧ u.phase = s.phase ∧ u.boot = s.boot ∧ u.sys = s.sys ∧ u.balls = s.balls ∧ u.shadow = s.shadow ∧ u.trowels = s.trowels ∧ u.faulted = s.faulted ∧ u.tap = s.tap ∧ u.time = s.time ∧ u.thermal = s.thermal ∧ u.light = s.light ∧ u.adcA = s.adcA ∧ u.adcB = s.adcB ∧ u.amb = s.amb ∧ u.ports = s.ports ∧ u.frames = s.frames ∧ u.nextFrame = s.nextFrame ∧ u.pipe = s.pipe ∧ u.ctxs = s.ctxs ∧ u.dec = s.dec ∧ u.vs = s.vs ∧ u.former = s.former ∧ u.usb = s.usb ∧ u.ser = s.ser ∧ u.fab = s.fab ∧ u.fresh = s.fresh := by
  refine ⟨_, rfl, ?_⟩
  first
  | (simp; done)
  | ((try simp only [State.whenRun, State.access, State.packet]); (repeat' split) <;> (first | rfl | (simp; done) | (simp_all; done) | (try simp)))
theorem execPairLinkRetransmit_frame (s : State) :
    ∃ u, execPairLinkRetransmit s = .next u ∧
    u.pending = s.pending ∧ u.identity = s.identity ∧ u.aon = s.aon ∧ u.pins = s.pins ∧ u.phase = s.phase ∧ u.boot = s.boot ∧ u.sys = s.sys ∧ u.balls = s.balls ∧ u.fields = s.fields ∧ u.shadow = s.shadow ∧ u.trowels = s.trowels ∧ u.faulted = s.faulted ∧ u.bb = s.bb ∧ u.tap = s.tap ∧ u.time = s.time ∧ u.thermal = s.thermal ∧ u.light = s.light ∧ u.adcA = s.adcA ∧ u.adcB = s.adcB ∧ u.amb = s.amb ∧ u.ports = s.ports ∧ u.frames = s.frames ∧ u.nextFrame = s.nextFrame ∧ u.pipe = s.pipe ∧ u.ctxs = s.ctxs ∧ u.dec = s.dec ∧ u.vs = s.vs ∧ u.former = s.former ∧ u.usb = s.usb ∧ u.ser = s.ser ∧ u.pair = s.pair ∧ u.fab = s.fab ∧ u.fresh = s.fresh := by
  refine ⟨_, rfl, ?_⟩
  first
  | (simp; done)
  | ((try simp only [State.whenRun, State.access, State.packet]); (repeat' split) <;> (first | rfl | (simp; done) | (simp_all; done) | (try simp)))
theorem execPairLinkAck_frame (n : Nat) (s : State) :
    ∃ u, execPairLinkAck n s = .next u ∧
    u.pending = s.pending ∧ u.identity = s.identity ∧ u.aon = s.aon ∧ u.pins = s.pins ∧ u.phase = s.phase ∧ u.boot = s.boot ∧ u.sys = s.sys ∧ u.balls = s.balls ∧ u.fields = s.fields ∧ u.shadow = s.shadow ∧ u.trowels = s.trowels ∧ u.faulted = s.faulted ∧ u.bb = s.bb ∧ u.tap = s.tap ∧ u.time = s.time ∧ u.thermal = s.thermal ∧ u.light = s.light ∧ u.adcA = s.adcA ∧ u.adcB = s.adcB ∧ u.amb = s.amb ∧ u.ports = s.ports ∧ u.frames = s.frames ∧ u.nextFrame = s.nextFrame ∧ u.pipe = s.pipe ∧ u.ctxs = s.ctxs ∧ u.dec = s.dec ∧ u.vs = s.vs ∧ u.former = s.former ∧ u.usb = s.usb ∧ u.ser = s.ser ∧ u.fab = s.fab ∧ u.fresh = s.fresh := by
  refine ⟨_, rfl, ?_⟩
  first
  | (simp; done)
  | ((try simp only [State.whenRun, State.access, State.packet]); (repeat' split) <;> (first | rfl | (simp; done) | (simp_all; done) | (try simp)))
@[simp] theorem State.settleRole_frame (s : State) (h : HelloMsg) (lvl : Nat) :
    (State.settleRole s h lvl).pending = s.pending ∧ (State.settleRole s h lvl).identity = s.identity ∧ (State.settleRole s h lvl).aon = s.aon ∧ (State.settleRole s h lvl).pins = s.pins ∧ (State.settleRole s h lvl).phase = s.phase ∧ (State.settleRole s h lvl).boot = s.boot ∧ (State.settleRole s h lvl).sys = s.sys ∧ (State.settleRole s h lvl).balls = s.balls ∧ (State.settleRole s h lvl).fields = s.fields ∧ (State.settleRole s h lvl).shadow = s.shadow ∧ (State.settleRole s h lvl).trowels = s.trowels ∧ (State.settleRole s h lvl).faulted = s.faulted ∧ (State.settleRole s h lvl).tap = s.tap ∧ (State.settleRole s h lvl).time = s.time ∧ (State.settleRole s h lvl).thermal = s.thermal ∧ (State.settleRole s h lvl).light = s.light ∧ (State.settleRole s h lvl).adcA = s.adcA ∧ (State.settleRole s h lvl).adcB = s.adcB ∧ (State.settleRole s h lvl).amb = s.amb ∧ (State.settleRole s h lvl).ports = s.ports ∧ (State.settleRole s h lvl).frames = s.frames ∧ (State.settleRole s h lvl).nextFrame = s.nextFrame ∧ (State.settleRole s h lvl).pipe = s.pipe ∧ (State.settleRole s h lvl).ctxs = s.ctxs ∧ (State.settleRole s h lvl).dec = s.dec ∧ (State.settleRole s h lvl).vs = s.vs ∧ (State.settleRole s h lvl).former = s.former ∧ (State.settleRole s h lvl).usb = s.usb ∧ (State.settleRole s h lvl).ser = s.ser ∧ (State.settleRole s h lvl).fab = s.fab ∧ (State.settleRole s h lvl).fresh = s.fresh := by
  first
  | (unfold State.settleRole; simp; done)
  | (unfold State.settleRole; (try dsimp only); (repeat' split) <;> (first | rfl | (simp; done) | (simp_all; done) | (try simp)))
theorem execPairHello_frame (h : HelloMsg) (s : State) :
    ∃ u, execPairHello h s = .next u ∧
    u.pending = s.pending ∧ u.identity = s.identity ∧ u.aon = s.aon ∧ u.pins = s.pins ∧ u.phase = s.phase ∧ u.boot = s.boot ∧ u.sys = s.sys ∧ u.balls = s.balls ∧ u.shadow = s.shadow ∧ u.trowels = s.trowels ∧ u.faulted = s.faulted ∧ u.tap = s.tap ∧ u.time = s.time ∧ u.thermal = s.thermal ∧ u.light = s.light ∧ u.adcA = s.adcA ∧ u.adcB = s.adcB ∧ u.amb = s.amb ∧ u.ports = s.ports ∧ u.frames = s.frames ∧ u.nextFrame = s.nextFrame ∧ u.pipe = s.pipe ∧ u.ctxs = s.ctxs ∧ u.dec = s.dec ∧ u.vs = s.vs ∧ u.former = s.former ∧ u.usb = s.usb ∧ u.ser = s.ser ∧ u.fab = s.fab ∧ u.fresh = s.fresh := by
  refine ⟨_, rfl, ?_⟩
  first
  | (simp; done)
  | ((try simp only [State.whenRun, State.access, State.packet]); (repeat' split) <;> (first | rfl | (simp; done) | (simp_all; done) | (try simp)))
theorem execPairReserve_frame (last : Word) (s : State) :
    ∃ u, execPairReserve last s = .next u ∧
    u.pending = s.pending ∧ u.identity = s.identity ∧ u.aon = s.aon ∧ u.pins = s.pins ∧ u.phase = s.phase ∧ u.boot = s.boot ∧ u.sys = s.sys ∧ u.balls = s.balls ∧ u.fields = s.fields ∧ u.shadow = s.shadow ∧ u.trowels = s.trowels ∧ u.faulted = s.faulted ∧ u.bb = s.bb ∧ u.tap = s.tap ∧ u.time = s.time ∧ u.thermal = s.thermal ∧ u.light = s.light ∧ u.adcA = s.adcA ∧ u.adcB = s.adcB ∧ u.amb = s.amb ∧ u.ports = s.ports ∧ u.frames = s.frames ∧ u.nextFrame = s.nextFrame ∧ u.pipe = s.pipe ∧ u.ctxs = s.ctxs ∧ u.dec = s.dec ∧ u.vs = s.vs ∧ u.former = s.former ∧ u.usb = s.usb ∧ u.ser = s.ser ∧ u.fab = s.fab ∧ u.fresh = s.fresh := by
  refine ⟨_, rfl, ?_⟩
  first
  | (simp; done)
  | ((try simp only [State.whenRun, State.access, State.packet]); (repeat' split) <;> (first | rfl | (simp; done) | (simp_all; done) | (try simp)))
theorem execPairReserveAck_frame (last : Word) (s : State) :
    ∃ u, execPairReserveAck last s = .next u ∧
    u.pending = s.pending ∧ u.identity = s.identity ∧ u.aon = s.aon ∧ u.pins = s.pins ∧ u.phase = s.phase ∧ u.boot = s.boot ∧ u.sys = s.sys ∧ u.balls = s.balls ∧ u.fields = s.fields ∧ u.shadow = s.shadow ∧ u.trowels = s.trowels ∧ u.faulted = s.faulted ∧ u.bb = s.bb ∧ u.tap = s.tap ∧ u.time = s.time ∧ u.thermal = s.thermal ∧ u.light = s.light ∧ u.adcA = s.adcA ∧ u.adcB = s.adcB ∧ u.amb = s.amb ∧ u.ports = s.ports ∧ u.frames = s.frames ∧ u.nextFrame = s.nextFrame ∧ u.pipe = s.pipe ∧ u.ctxs = s.ctxs ∧ u.dec = s.dec ∧ u.vs = s.vs ∧ u.former = s.former ∧ u.usb = s.usb ∧ u.ser = s.ser ∧ u.fab = s.fab ∧ u.fresh = s.fresh := by
  refine ⟨_, rfl, ?_⟩
  first
  | (simp; done)
  | ((try simp only [State.whenRun, State.access, State.packet]); (repeat' split) <;> (first | rfl | (simp; done) | (simp_all; done) | (try simp)))
theorem execPairDecision_frame (addr : BitVec 14) (word : BitVec 16) (rec2 : List Byte) (s : State) :
    ∃ u, execPairDecision addr word rec2 s = .next u ∧
    u.pending = s.pending ∧ u.identity = s.identity ∧ u.aon = s.aon ∧ u.pins = s.pins ∧ u.phase = s.phase ∧ u.boot = s.boot ∧ u.sys = s.sys ∧ u.balls = s.balls ∧ u.shadow = s.shadow ∧ u.trowels = s.trowels ∧ u.bb = s.bb ∧ u.tap = s.tap ∧ u.time = s.time ∧ u.thermal = s.thermal ∧ u.light = s.light ∧ u.adcA = s.adcA ∧ u.adcB = s.adcB ∧ u.amb = s.amb ∧ u.ports = s.ports ∧ u.frames = s.frames ∧ u.nextFrame = s.nextFrame ∧ u.ctxs = s.ctxs ∧ u.dec = s.dec ∧ u.fresh = s.fresh := by
  refine ⟨_, rfl, ?_⟩
  first
  | (simp; done)
  | ((try simp only [State.whenRun, State.access, State.packet]); (repeat' split) <;> (first | rfl | (simp; done) | (simp_all; done) | (try simp)))
theorem execPairRecord_frame (rec2 : List Byte) (s : State) :
    ∃ u, execPairRecord rec2 s = .next u ∧
    u.pending = s.pending ∧ u.identity = s.identity ∧ u.aon = s.aon ∧ u.pins = s.pins ∧ u.phase = s.phase ∧ u.boot = s.boot ∧ u.sys = s.sys ∧ u.balls = s.balls ∧ u.shadow = s.shadow ∧ u.trowels = s.trowels ∧ u.bb = s.bb ∧ u.tap = s.tap ∧ u.time = s.time ∧ u.thermal = s.thermal ∧ u.light = s.light ∧ u.adcA = s.adcA ∧ u.adcB = s.adcB ∧ u.amb = s.amb ∧ u.ports = s.ports ∧ u.frames = s.frames ∧ u.nextFrame = s.nextFrame ∧ u.ctxs = s.ctxs ∧ u.dec = s.dec ∧ u.vs = s.vs ∧ u.former = s.former ∧ u.fresh = s.fresh := by
  refine ⟨_, rfl, ?_⟩
  first
  | (simp; done)
  | ((try simp only [State.whenRun, State.access, State.packet]); (repeat' split) <;> (first | rfl | (simp; done) | (simp_all; done) | (try simp)))
theorem execPairAckMark_frame (l : LinkId) (n : Word) (drop : Option Word) (s : State) :
    ∃ u, execPairAckMark l n drop s = .next u ∧
    u.pending = s.pending ∧ u.identity = s.identity ∧ u.aon = s.aon ∧ u.pins = s.pins ∧ u.phase = s.phase ∧ u.boot = s.boot ∧ u.sys = s.sys ∧ u.balls = s.balls ∧ u.fields = s.fields ∧ u.shadow = s.shadow ∧ u.trowels = s.trowels ∧ u.faulted = s.faulted ∧ u.bb = s.bb ∧ u.tap = s.tap ∧ u.time = s.time ∧ u.thermal = s.thermal ∧ u.light = s.light ∧ u.adcA = s.adcA ∧ u.adcB = s.adcB ∧ u.amb = s.amb ∧ u.ports = s.ports ∧ u.frames = s.frames ∧ u.nextFrame = s.nextFrame ∧ u.pipe = s.pipe ∧ u.ctxs = s.ctxs ∧ u.dec = s.dec ∧ u.vs = s.vs ∧ u.former = s.former ∧ u.pair = s.pair ∧ u.fresh = s.fresh := by
  refine ⟨_, rfl, ?_⟩
  first
  | (simp; done)
  | ((try simp only [State.whenRun, State.access, State.packet]); (repeat' split) <;> (first | rfl | (simp; done) | (simp_all; done) | (try simp)))
@[simp] theorem State.markFault_frame (s : State) (m : LightMark) :
    (State.markFault s m).pending = s.pending ∧ (State.markFault s m).identity = s.identity ∧ (State.markFault s m).aon = s.aon ∧ (State.markFault s m).pins = s.pins ∧ (State.markFault s m).phase = s.phase ∧ (State.markFault s m).boot = s.boot ∧ (State.markFault s m).sys = s.sys ∧ (State.markFault s m).fields = s.fields ∧ (State.markFault s m).shadow = s.shadow ∧ (State.markFault s m).trowels = s.trowels ∧ (State.markFault s m).faulted = s.faulted ∧ (State.markFault s m).bb = s.bb ∧ (State.markFault s m).tap = s.tap ∧ (State.markFault s m).time = s.time ∧ (State.markFault s m).thermal = s.thermal ∧ (State.markFault s m).light = s.light ∧ (State.markFault s m).adcA = s.adcA ∧ (State.markFault s m).adcB = s.adcB ∧ (State.markFault s m).amb = s.amb ∧ (State.markFault s m).ports = s.ports ∧ (State.markFault s m).frames = s.frames ∧ (State.markFault s m).nextFrame = s.nextFrame ∧ (State.markFault s m).pipe = s.pipe ∧ (State.markFault s m).ctxs = s.ctxs ∧ (State.markFault s m).dec = s.dec ∧ (State.markFault s m).vs = s.vs ∧ (State.markFault s m).former = s.former ∧ (State.markFault s m).usb = s.usb ∧ (State.markFault s m).ser = s.ser ∧ (State.markFault s m).pair = s.pair ∧ (State.markFault s m).fab = s.fab ∧ (State.markFault s m).fresh = s.fresh := by
  first
  | (unfold State.markFault; simp; done)
  | (unfold State.markFault; (try dsimp only); (repeat' split) <;> (first | rfl | (simp; done) | (simp_all; done) | (try simp)))
@[simp] theorem State.takeLight_frame (s : State) (m : LightMark) :
    (State.takeLight s m).pending = s.pending ∧ (State.takeLight s m).identity = s.identity ∧ (State.takeLight s m).aon = s.aon ∧ (State.takeLight s m).pins = s.pins ∧ (State.takeLight s m).phase = s.phase ∧ (State.takeLight s m).boot = s.boot ∧ (State.takeLight s m).sys = s.sys ∧ (State.takeLight s m).shadow = s.shadow ∧ (State.takeLight s m).trowels = s.trowels ∧ (State.takeLight s m).faulted = s.faulted ∧ (State.takeLight s m).bb = s.bb ∧ (State.takeLight s m).tap = s.tap ∧ (State.takeLight s m).time = s.time ∧ (State.takeLight s m).thermal = s.thermal ∧ (State.takeLight s m).adcA = s.adcA ∧ (State.takeLight s m).adcB = s.adcB ∧ (State.takeLight s m).amb = s.amb ∧ (State.takeLight s m).ports = s.ports ∧ (State.takeLight s m).frames = s.frames ∧ (State.takeLight s m).nextFrame = s.nextFrame ∧ (State.takeLight s m).pipe = s.pipe ∧ (State.takeLight s m).ctxs = s.ctxs ∧ (State.takeLight s m).dec = s.dec ∧ (State.takeLight s m).vs = s.vs ∧ (State.takeLight s m).former = s.former ∧ (State.takeLight s m).usb = s.usb ∧ (State.takeLight s m).ser = s.ser ∧ (State.takeLight s m).pair = s.pair ∧ (State.takeLight s m).fab = s.fab ∧ (State.takeLight s m).fresh = s.fresh := by
  first
  | (unfold State.takeLight; simp; done)
  | (unfold State.takeLight; (try dsimp only); (repeat' split) <;> (first | rfl | (simp; done) | (simp_all; done) | (try simp)))
@[simp] theorem State.takeSense_frame (s : State) (m : SenseMark) :
    (State.takeSense s m).pending = s.pending ∧ (State.takeSense s m).identity = s.identity ∧ (State.takeSense s m).aon = s.aon ∧ (State.takeSense s m).pins = s.pins ∧ (State.takeSense s m).phase = s.phase ∧ (State.takeSense s m).boot = s.boot ∧ (State.takeSense s m).sys = s.sys ∧ (State.takeSense s m).balls = s.balls ∧ (State.takeSense s m).fields = s.fields ∧ (State.takeSense s m).shadow = s.shadow ∧ (State.takeSense s m).trowels = s.trowels ∧ (State.takeSense s m).faulted = s.faulted ∧ (State.takeSense s m).bb = s.bb ∧ (State.takeSense s m).tap = s.tap ∧ (State.takeSense s m).time = s.time ∧ (State.takeSense s m).thermal = s.thermal ∧ (State.takeSense s m).light = s.light ∧ (State.takeSense s m).ports = s.ports ∧ (State.takeSense s m).frames = s.frames ∧ (State.takeSense s m).nextFrame = s.nextFrame ∧ (State.takeSense s m).pipe = s.pipe ∧ (State.takeSense s m).ctxs = s.ctxs ∧ (State.takeSense s m).dec = s.dec ∧ (State.takeSense s m).vs = s.vs ∧ (State.takeSense s m).former = s.former ∧ (State.takeSense s m).usb = s.usb ∧ (State.takeSense s m).ser = s.ser ∧ (State.takeSense s m).pair = s.pair ∧ (State.takeSense s m).fab = s.fab ∧ (State.takeSense s m).fresh = s.fresh := by
  first
  | (unfold State.takeSense; simp; done)
  | (unfold State.takeSense; (try dsimp only); (repeat' split) <;> (first | rfl | (simp; done) | (simp_all; done) | (try simp)))
theorem execPairLightMark_frame (x : LightMark) (s : State) :
    ∃ u, execPairLightMark x s = .next u ∧
    u.pending = s.pending ∧ u.identity = s.identity ∧ u.aon = s.aon ∧ u.pins = s.pins ∧ u.phase = s.phase ∧ u.boot = s.boot ∧ u.sys = s.sys ∧ u.shadow = s.shadow ∧ u.trowels = s.trowels ∧ u.faulted = s.faulted ∧ u.bb = s.bb ∧ u.tap = s.tap ∧ u.time = s.time ∧ u.thermal = s.thermal ∧ u.adcA = s.adcA ∧ u.adcB = s.adcB ∧ u.amb = s.amb ∧ u.ports = s.ports ∧ u.frames = s.frames ∧ u.nextFrame = s.nextFrame ∧ u.pipe = s.pipe ∧ u.ctxs = s.ctxs ∧ u.dec = s.dec ∧ u.vs = s.vs ∧ u.former = s.former ∧ u.usb = s.usb ∧ u.ser = s.ser ∧ u.pair = s.pair ∧ u.fab = s.fab ∧ u.fresh = s.fresh := by
  refine ⟨_, rfl, ?_⟩
  first
  | (simp; done)
  | ((try simp only [State.whenRun, State.access, State.packet]); (repeat' split) <;> (first | rfl | (simp; done) | (simp_all; done) | (try simp)))
theorem execPairSenseMark_frame (x : SenseMark) (s : State) :
    ∃ u, execPairSenseMark x s = .next u ∧
    u.pending = s.pending ∧ u.identity = s.identity ∧ u.aon = s.aon ∧ u.pins = s.pins ∧ u.phase = s.phase ∧ u.boot = s.boot ∧ u.sys = s.sys ∧ u.balls = s.balls ∧ u.fields = s.fields ∧ u.shadow = s.shadow ∧ u.trowels = s.trowels ∧ u.faulted = s.faulted ∧ u.bb = s.bb ∧ u.tap = s.tap ∧ u.time = s.time ∧ u.thermal = s.thermal ∧ u.light = s.light ∧ u.ports = s.ports ∧ u.frames = s.frames ∧ u.nextFrame = s.nextFrame ∧ u.pipe = s.pipe ∧ u.ctxs = s.ctxs ∧ u.dec = s.dec ∧ u.vs = s.vs ∧ u.former = s.former ∧ u.usb = s.usb ∧ u.ser = s.ser ∧ u.pair = s.pair ∧ u.fab = s.fab ∧ u.fresh = s.fresh := by
  refine ⟨_, rfl, ?_⟩
  first
  | (simp; done)
  | ((try simp only [State.whenRun, State.access, State.packet]); (repeat' split) <;> (first | rfl | (simp; done) | (simp_all; done) | (try simp)))
theorem execSenseMarkPeriod_frame (s : State) :
    ∃ u, execSenseMarkPeriod s = .next u ∧
    u.pending = s.pending ∧ u.identity = s.identity ∧ u.aon = s.aon ∧ u.pins = s.pins ∧ u.phase = s.phase ∧ u.boot = s.boot ∧ u.sys = s.sys ∧ u.balls = s.balls ∧ u.fields = s.fields ∧ u.shadow = s.shadow ∧ u.trowels = s.trowels ∧ u.faulted = s.faulted ∧ u.bb = s.bb ∧ u.tap = s.tap ∧ u.time = s.time ∧ u.thermal = s.thermal ∧ u.light = s.light ∧ u.adcA = s.adcA ∧ u.adcB = s.adcB ∧ u.amb = s.amb ∧ u.ports = s.ports ∧ u.frames = s.frames ∧ u.nextFrame = s.nextFrame ∧ u.pipe = s.pipe ∧ u.ctxs = s.ctxs ∧ u.dec = s.dec ∧ u.vs = s.vs ∧ u.former = s.former ∧ u.usb = s.usb ∧ u.ser = s.ser ∧ u.fab = s.fab ∧ u.fresh = s.fresh := by
  refine ⟨_, rfl, ?_⟩
  first
  | (simp; done)
  | ((try simp only [State.whenRun, State.access, State.packet]); (repeat' split) <;> (first | rfl | (simp; done) | (simp_all; done) | (try simp)))
theorem execTimeMarkPeriod_frame (s : State) :
    ∃ u, execTimeMarkPeriod s = .next u ∧
    u.pending = s.pending ∧ u.identity = s.identity ∧ u.aon = s.aon ∧ u.pins = s.pins ∧ u.phase = s.phase ∧ u.boot = s.boot ∧ u.sys = s.sys ∧ u.balls = s.balls ∧ u.fields = s.fields ∧ u.shadow = s.shadow ∧ u.trowels = s.trowels ∧ u.faulted = s.faulted ∧ u.bb = s.bb ∧ u.tap = s.tap ∧ u.time = s.time ∧ u.thermal = s.thermal ∧ u.light = s.light ∧ u.adcA = s.adcA ∧ u.adcB = s.adcB ∧ u.amb = s.amb ∧ u.ports = s.ports ∧ u.frames = s.frames ∧ u.nextFrame = s.nextFrame ∧ u.pipe = s.pipe ∧ u.ctxs = s.ctxs ∧ u.dec = s.dec ∧ u.vs = s.vs ∧ u.former = s.former ∧ u.usb = s.usb ∧ u.ser = s.ser ∧ u.fab = s.fab ∧ u.fresh = s.fresh := by
  refine ⟨_, rfl, ?_⟩
  first
  | (simp; done)
  | ((try simp only [State.whenRun, State.access, State.packet]); (repeat' split) <;> (first | rfl | (simp; done) | (simp_all; done) | (try simp)))
theorem execPairTimeMark_frame (ns : Nat) (s : State) :
    ∃ u, execPairTimeMark ns s = .next u ∧
    u.pending = s.pending ∧ u.identity = s.identity ∧ u.aon = s.aon ∧ u.pins = s.pins ∧ u.phase = s.phase ∧ u.boot = s.boot ∧ u.sys = s.sys ∧ u.balls = s.balls ∧ u.shadow = s.shadow ∧ u.faulted = s.faulted ∧ u.tap = s.tap ∧ u.thermal = s.thermal ∧ u.light = s.light ∧ u.adcA = s.adcA ∧ u.adcB = s.adcB ∧ u.amb = s.amb ∧ u.ports = s.ports ∧ u.frames = s.frames ∧ u.nextFrame = s.nextFrame ∧ u.pipe = s.pipe ∧ u.ctxs = s.ctxs ∧ u.dec = s.dec ∧ u.vs = s.vs ∧ u.former = s.former ∧ u.usb = s.usb ∧ u.ser = s.ser ∧ u.pair = s.pair ∧ u.fab = s.fab := by
  refine ⟨_, rfl, ?_⟩
  first
  | (simp; done)
  | ((try simp only [State.whenRun, State.access, State.packet]); (repeat' split) <;> (first | rfl | (simp; done) | (simp_all; done) | (try simp)))
theorem execPairFault_frame (_trowel : TrowelId) (_cause : Nat) (s : State) :
    ∃ u, execPairFault _trowel _cause s = .next u ∧
    u.pending = s.pending ∧ u.identity = s.identity ∧ u.aon = s.aon ∧ u.pins = s.pins ∧ u.phase = s.phase ∧ u.boot = s.boot ∧ u.sys = s.sys ∧ u.balls = s.balls ∧ u.shadow = s.shadow ∧ u.tap = s.tap ∧ u.time = s.time ∧ u.thermal = s.thermal ∧ u.adcA = s.adcA ∧ u.adcB = s.adcB ∧ u.amb = s.amb ∧ u.ports = s.ports ∧ u.frames = s.frames ∧ u.nextFrame = s.nextFrame ∧ u.ctxs = s.ctxs ∧ u.dec = s.dec ∧ u.vs = s.vs ∧ u.fresh = s.fresh := by
  refine ⟨_, rfl, ?_⟩
  first
  | (simp; done)
  | ((try simp only [State.whenRun, State.access, State.packet]); (repeat' split) <;> (first | rfl | (simp; done) | (simp_all; done) | (try simp)))
theorem execPairStepDown_frame (s : State) :
    ∃ u, execPairStepDown s = .next u ∧
    u.pending = s.pending ∧ u.identity = s.identity ∧ u.aon = s.aon ∧ u.pins = s.pins ∧ u.phase = s.phase ∧ u.boot = s.boot ∧ u.sys = s.sys ∧ u.balls = s.balls ∧ u.fields = s.fields ∧ u.shadow = s.shadow ∧ u.trowels = s.trowels ∧ u.faulted = s.faulted ∧ u.bb = s.bb ∧ u.tap = s.tap ∧ u.time = s.time ∧ u.thermal = s.thermal ∧ u.light = s.light ∧ u.adcA = s.adcA ∧ u.adcB = s.adcB ∧ u.amb = s.amb ∧ u.ports = s.ports ∧ u.frames = s.frames ∧ u.nextFrame = s.nextFrame ∧ u.pipe = s.pipe ∧ u.ctxs = s.ctxs ∧ u.dec = s.dec ∧ u.vs = s.vs ∧ u.former = s.former ∧ u.usb = s.usb ∧ u.ser = s.ser ∧ u.fab = s.fab ∧ u.fresh = s.fresh := by
  refine ⟨_, rfl, ?_⟩
  first
  | (simp; done)
  | ((try simp only [State.whenRun, State.access, State.packet]); (repeat' split) <;> (first | rfl | (simp; done) | (simp_all; done) | (try simp)))
theorem execPairTakeoverMsg_frame (_cause : Byte) (_gap : Word) (s : State) :
    ∃ u, execPairTakeoverMsg _cause _gap s = .next u ∧
    u.pending = s.pending ∧ u.identity = s.identity ∧ u.aon = s.aon ∧ u.pins = s.pins ∧ u.phase = s.phase ∧ u.boot = s.boot ∧ u.sys = s.sys ∧ u.shadow = s.shadow ∧ u.trowels = s.trowels ∧ u.faulted = s.faulted ∧ u.tap = s.tap ∧ u.time = s.time ∧ u.thermal = s.thermal ∧ u.light = s.light ∧ u.adcA = s.adcA ∧ u.adcB = s.adcB ∧ u.amb = s.amb ∧ u.ports = s.ports ∧ u.nextFrame = s.nextFrame ∧ u.pipe = s.pipe ∧ u.ctxs = s.ctxs ∧ u.former = s.former ∧ u.fresh = s.fresh := by
  refine ⟨_, rfl, ?_⟩
  first
  | (simp; done)
  | ((try simp only [State.whenRun, State.access, State.packet]); (repeat' split) <;> (first | rfl | (simp; done) | (simp_all; done) | (try simp)))
theorem execPairTrowelMsg_frame (w : Word) (s : State) :
    ∃ u, execPairTrowelMsg w s = .next u ∧
    u.pending = s.pending ∧ u.identity = s.identity ∧ u.aon = s.aon ∧ u.pins = s.pins ∧ u.phase = s.phase ∧ u.boot = s.boot ∧ u.sys = s.sys ∧ u.balls = s.balls ∧ u.fields = s.fields ∧ u.shadow = s.shadow ∧ u.trowels = s.trowels ∧ u.faulted = s.faulted ∧ u.bb = s.bb ∧ u.tap = s.tap ∧ u.time = s.time ∧ u.thermal = s.thermal ∧ u.light = s.light ∧ u.adcA = s.adcA ∧ u.adcB = s.adcB ∧ u.amb = s.amb ∧ u.ports = s.ports ∧ u.frames = s.frames ∧ u.nextFrame = s.nextFrame ∧ u.pipe = s.pipe ∧ u.ctxs = s.ctxs ∧ u.dec = s.dec ∧ u.vs = s.vs ∧ u.former = s.former ∧ u.usb = s.usb ∧ u.ser = s.ser ∧ u.fab = s.fab ∧ u.fresh = s.fresh := by
  refine ⟨_, rfl, ?_⟩
  first
  | (simp; done)
  | ((try simp only [State.whenRun, State.access, State.packet]); (repeat' split) <;> (first | rfl | (simp; done) | (simp_all; done) | (try simp)))
theorem execPairResyncStart_frame (s : State) :
    ∃ u, execPairResyncStart s = .next u ∧
    u.pending = s.pending ∧ u.identity = s.identity ∧ u.aon = s.aon ∧ u.pins = s.pins ∧ u.phase = s.phase ∧ u.boot = s.boot ∧ u.sys = s.sys ∧ u.balls = s.balls ∧ u.shadow = s.shadow ∧ u.trowels = s.trowels ∧ u.faulted = s.faulted ∧ u.bb = s.bb ∧ u.tap = s.tap ∧ u.time = s.time ∧ u.thermal = s.thermal ∧ u.light = s.light ∧ u.adcA = s.adcA ∧ u.adcB = s.adcB ∧ u.amb = s.amb ∧ u.ports = s.ports ∧ u.frames = s.frames ∧ u.nextFrame = s.nextFrame ∧ u.pipe = s.pipe ∧ u.ctxs = s.ctxs ∧ u.dec = s.dec ∧ u.vs = s.vs ∧ u.former = s.former ∧ u.usb = s.usb ∧ u.ser = s.ser ∧ u.fab = s.fab ∧ u.fresh = s.fresh := by
  refine ⟨_, rfl, ?_⟩
  first
  | (simp; done)
  | ((try simp only [State.whenRun, State.access, State.packet]); (repeat' split) <;> (first | rfl | (simp; done) | (simp_all; done) | (try simp)))
@[simp] theorem State.takeStore_frame (s : State) (l : List (Nat × BitVec 16 × Word)) :
    (State.takeStore s l).pending = s.pending ∧ (State.takeStore s l).identity = s.identity ∧ (State.takeStore s l).aon = s.aon ∧ (State.takeStore s l).pins = s.pins ∧ (State.takeStore s l).phase = s.phase ∧ (State.takeStore s l).boot = s.boot ∧ (State.takeStore s l).sys = s.sys ∧ (State.takeStore s l).balls = s.balls ∧ (State.takeStore s l).shadow = s.shadow ∧ (State.takeStore s l).trowels = s.trowels ∧ (State.takeStore s l).faulted = s.faulted ∧ (State.takeStore s l).bb = s.bb ∧ (State.takeStore s l).tap = s.tap ∧ (State.takeStore s l).time = s.time ∧ (State.takeStore s l).thermal = s.thermal ∧ (State.takeStore s l).light = s.light ∧ (State.takeStore s l).adcA = s.adcA ∧ (State.takeStore s l).adcB = s.adcB ∧ (State.takeStore s l).amb = s.amb ∧ (State.takeStore s l).ports = s.ports ∧ (State.takeStore s l).frames = s.frames ∧ (State.takeStore s l).nextFrame = s.nextFrame ∧ (State.takeStore s l).pipe = s.pipe ∧ (State.takeStore s l).ctxs = s.ctxs ∧ (State.takeStore s l).dec = s.dec ∧ (State.takeStore s l).former = s.former ∧ (State.takeStore s l).usb = s.usb ∧ (State.takeStore s l).ser = s.ser ∧ (State.takeStore s l).pair = s.pair ∧ (State.takeStore s l).fab = s.fab ∧ (State.takeStore s l).fresh = s.fresh := by
  first
  | (unfold State.takeStore; simp; done)
  | (unfold State.takeStore; (try dsimp only); (repeat' split) <;> (first | rfl | (simp; done) | (simp_all; done) | (try simp)))
theorem execPairResyncEnd_frame (c : Resync) (s : State) :
    ∃ u, execPairResyncEnd c s = .next u ∧
    u.pending = s.pending ∧ u.identity = s.identity ∧ u.aon = s.aon ∧ u.pins = s.pins ∧ u.phase = s.phase ∧ u.boot = s.boot ∧ u.sys = s.sys ∧ u.shadow = s.shadow ∧ u.trowels = s.trowels ∧ u.faulted = s.faulted ∧ u.bb = s.bb ∧ u.tap = s.tap ∧ u.time = s.time ∧ u.thermal = s.thermal ∧ u.ports = s.ports ∧ u.frames = s.frames ∧ u.nextFrame = s.nextFrame ∧ u.pipe = s.pipe ∧ u.ctxs = s.ctxs ∧ u.dec = s.dec ∧ u.former = s.former ∧ u.fresh = s.fresh := by
  refine ⟨_, rfl, ?_⟩
  first
  | (simp; done)
  | ((try simp only [State.whenRun, State.access, State.packet]); (repeat' split) <;> (first | rfl | (simp; done) | (simp_all; done) | (try simp)))
@[simp] theorem State.pairStart_frame (s : State) :
    (State.pairStart s).pending = s.pending ∧ (State.pairStart s).identity = s.identity ∧ (State.pairStart s).aon = s.aon ∧ (State.pairStart s).pins = s.pins ∧ (State.pairStart s).phase = s.phase ∧ (State.pairStart s).boot = s.boot ∧ (State.pairStart s).sys = s.sys ∧ (State.pairStart s).balls = s.balls ∧ (State.pairStart s).fields = s.fields ∧ (State.pairStart s).shadow = s.shadow ∧ (State.pairStart s).trowels = s.trowels ∧ (State.pairStart s).faulted = s.faulted ∧ (State.pairStart s).bb = s.bb ∧ (State.pairStart s).tap = s.tap ∧ (State.pairStart s).time = s.time ∧ (State.pairStart s).thermal = s.thermal ∧ (State.pairStart s).light = s.light ∧ (State.pairStart s).adcA = s.adcA ∧ (State.pairStart s).adcB = s.adcB ∧ (State.pairStart s).amb = s.amb ∧ (State.pairStart s).ports = s.ports ∧ (State.pairStart s).frames = s.frames ∧ (State.pairStart s).nextFrame = s.nextFrame ∧ (State.pairStart s).pipe = s.pipe ∧ (State.pairStart s).ctxs = s.ctxs ∧ (State.pairStart s).dec = s.dec ∧ (State.pairStart s).vs = s.vs ∧ (State.pairStart s).former = s.former ∧ (State.pairStart s).usb = s.usb ∧ (State.pairStart s).ser = s.ser ∧ (State.pairStart s).fab = s.fab ∧ (State.pairStart s).fresh = s.fresh := by
  first
  | (unfold State.pairStart; simp; done)
  | (unfold State.pairStart; (try dsimp only); (repeat' split) <;> (first | rfl | (simp; done) | (simp_all; done) | (try simp)))
@[simp] theorem State.pairNow_frame (s : State) (a : Nat) (v : Word) :
    (State.pairNow s a v).pending = s.pending ∧ (State.pairNow s a v).identity = s.identity ∧ (State.pairNow s a v).aon = s.aon ∧ (State.pairNow s a v).pins = s.pins ∧ (State.pairNow s a v).phase = s.phase ∧ (State.pairNow s a v).boot = s.boot ∧ (State.pairNow s a v).sys = s.sys ∧ (State.pairNow s a v).shadow = s.shadow ∧ (State.pairNow s a v).trowels = s.trowels ∧ (State.pairNow s a v).bb = s.bb ∧ (State.pairNow s a v).tap = s.tap ∧ (State.pairNow s a v).time = s.time ∧ (State.pairNow s a v).thermal = s.thermal ∧ (State.pairNow s a v).light = s.light ∧ (State.pairNow s a v).adcA = s.adcA ∧ (State.pairNow s a v).adcB = s.adcB ∧ (State.pairNow s a v).amb = s.amb ∧ (State.pairNow s a v).ports = s.ports ∧ (State.pairNow s a v).nextFrame = s.nextFrame ∧ (State.pairNow s a v).ctxs = s.ctxs ∧ (State.pairNow s a v).dec = s.dec ∧ (State.pairNow s a v).vs = s.vs ∧ (State.pairNow s a v).fresh = s.fresh := by
  first
  | (unfold State.pairNow; simp; done)
  | (unfold State.pairNow; (try dsimp only); (repeat' split) <;> (first | rfl | (simp; done) | (simp_all; done) | (try simp)))
@[simp] theorem State.pairSleep_frame (s : State) :
    (State.pairSleep s).pending = s.pending ∧ (State.pairSleep s).identity = s.identity ∧ (State.pairSleep s).aon = s.aon ∧ (State.pairSleep s).pins = s.pins ∧ (State.pairSleep s).phase = s.phase ∧ (State.pairSleep s).boot = s.boot ∧ (State.pairSleep s).sys = s.sys ∧ (State.pairSleep s).fields = s.fields ∧ (State.pairSleep s).shadow = s.shadow ∧ (State.pairSleep s).trowels = s.trowels ∧ (State.pairSleep s).faulted = s.faulted ∧ (State.pairSleep s).tap = s.tap ∧ (State.pairSleep s).time = s.time ∧ (State.pairSleep s).thermal = s.thermal ∧ (State.pairSleep s).light = s.light ∧ (State.pairSleep s).adcA = s.adcA ∧ (State.pairSleep s).adcB = s.adcB ∧ (State.pairSleep s).amb = s.amb ∧ (State.pairSleep s).ports = s.ports ∧ (State.pairSleep s).frames = s.frames ∧ (State.pairSleep s).nextFrame = s.nextFrame ∧ (State.pairSleep s).pipe = s.pipe ∧ (State.pairSleep s).ctxs = s.ctxs ∧ (State.pairSleep s).dec = s.dec ∧ (State.pairSleep s).vs = s.vs ∧ (State.pairSleep s).former = s.former ∧ (State.pairSleep s).usb = s.usb ∧ (State.pairSleep s).ser = s.ser ∧ (State.pairSleep s).fab = s.fab ∧ (State.pairSleep s).fresh = s.fresh := by
  first
  | (unfold State.pairSleep; simp; done)
  | (unfold State.pairSleep; (try dsimp only); (repeat' split) <;> (first | rfl | (simp; done) | (simp_all; done) | (try simp)))
@[simp] theorem State.pairWake_frame (s : State) :
    (State.pairWake s).pending = s.pending ∧ (State.pairWake s).identity = s.identity ∧ (State.pairWake s).aon = s.aon ∧ (State.pairWake s).pins = s.pins ∧ (State.pairWake s).phase = s.phase ∧ (State.pairWake s).boot = s.boot ∧ (State.pairWake s).sys = s.sys ∧ (State.pairWake s).balls = s.balls ∧ (State.pairWake s).shadow = s.shadow ∧ (State.pairWake s).trowels = s.trowels ∧ (State.pairWake s).bb = s.bb ∧ (State.pairWake s).tap = s.tap ∧ (State.pairWake s).time = s.time ∧ (State.pairWake s).thermal = s.thermal ∧ (State.pairWake s).light = s.light ∧ (State.pairWake s).adcA = s.adcA ∧ (State.pairWake s).adcB = s.adcB ∧ (State.pairWake s).amb = s.amb ∧ (State.pairWake s).ports = s.ports ∧ (State.pairWake s).frames = s.frames ∧ (State.pairWake s).nextFrame = s.nextFrame ∧ (State.pairWake s).ctxs = s.ctxs ∧ (State.pairWake s).vs = s.vs ∧ (State.pairWake s).fresh = s.fresh := by
  first
  | (unfold State.pairWake; simp; done)
  | (unfold State.pairWake; (try dsimp only); (repeat' split) <;> (first | rfl | (simp; done) | (simp_all; done) | (try simp)))
end Sys2Proof.Machine
end

