-- ==== Sys2Proof/Laws/FrameHalt.lean ====
section
/-! SUPPORT. Frames: which parts of the state each operation of Machine/Halt leaves as they were. -/

namespace Sys2Proof.Machine
@[simp] theorem State.stopTrowels_frame (s : State) :
    (State.stopTrowels s).pending = s.pending ∧ (State.stopTrowels s).identity = s.identity ∧ (State.stopTrowels s).aon = s.aon ∧ (State.stopTrowels s).pins = s.pins ∧ (State.stopTrowels s).phase = s.phase ∧ (State.stopTrowels s).boot = s.boot ∧ (State.stopTrowels s).sys = s.sys ∧ (State.stopTrowels s).balls = s.balls ∧ (State.stopTrowels s).fields = s.fields ∧ (State.stopTrowels s).shadow = s.shadow ∧ (State.stopTrowels s).faulted = s.faulted ∧ (State.stopTrowels s).bb = s.bb ∧ (State.stopTrowels s).tap = s.tap ∧ (State.stopTrowels s).time = s.time ∧ (State.stopTrowels s).thermal = s.thermal ∧ (State.stopTrowels s).light = s.light ∧ (State.stopTrowels s).adcA = s.adcA ∧ (State.stopTrowels s).adcB = s.adcB ∧ (State.stopTrowels s).amb = s.amb ∧ (State.stopTrowels s).ports = s.ports ∧ (State.stopTrowels s).frames = s.frames ∧ (State.stopTrowels s).nextFrame = s.nextFrame ∧ (State.stopTrowels s).pipe = s.pipe ∧ (State.stopTrowels s).ctxs = s.ctxs ∧ (State.stopTrowels s).dec = s.dec ∧ (State.stopTrowels s).vs = s.vs ∧ (State.stopTrowels s).former = s.former ∧ (State.stopTrowels s).usb = s.usb ∧ (State.stopTrowels s).ser = s.ser ∧ (State.stopTrowels s).pair = s.pair ∧ (State.stopTrowels s).fab = s.fab ∧ (State.stopTrowels s).fresh = s.fresh := by
  first
  | (unfold State.stopTrowels; simp; done)
  | (unfold State.stopTrowels; (try dsimp only); (repeat' split) <;> (first | rfl | (simp; done) | (simp_all; done) | (try simp)))
@[simp] theorem State.enterHalt_frame (s : State) :
    (State.enterHalt s).pending = s.pending ∧ (State.enterHalt s).identity = s.identity ∧ (State.enterHalt s).aon = s.aon ∧ (State.enterHalt s).pins = s.pins ∧ (State.enterHalt s).boot = s.boot ∧ (State.enterHalt s).sys = s.sys ∧ (State.enterHalt s).shadow = s.shadow ∧ (State.enterHalt s).trowels = s.trowels ∧ (State.enterHalt s).faulted = s.faulted ∧ (State.enterHalt s).bb = s.bb ∧ (State.enterHalt s).tap = s.tap ∧ (State.enterHalt s).time = s.time ∧ (State.enterHalt s).thermal = s.thermal ∧ (State.enterHalt s).amb = s.amb ∧ (State.enterHalt s).ports = s.ports ∧ (State.enterHalt s).nextFrame = s.nextFrame ∧ (State.enterHalt s).pipe = s.pipe ∧ (State.enterHalt s).ctxs = s.ctxs ∧ (State.enterHalt s).dec = s.dec ∧ (State.enterHalt s).former = s.former ∧ (State.enterHalt s).fresh = s.fresh := by
  first
  | (unfold State.enterHalt; simp; done)
  | (unfold State.enterHalt; (try dsimp only); (repeat' split) <;> (first | rfl | (simp; done) | (simp_all; done) | (try simp)))
@[simp] theorem State.discardWrites_frame (s : State) :
    (State.discardWrites s).pending = s.pending ∧ (State.discardWrites s).identity = s.identity ∧ (State.discardWrites s).aon = s.aon ∧ (State.discardWrites s).pins = s.pins ∧ (State.discardWrites s).phase = s.phase ∧ (State.discardWrites s).boot = s.boot ∧ (State.discardWrites s).sys = s.sys ∧ (State.discardWrites s).balls = s.balls ∧ (State.discardWrites s).fields = s.fields ∧ (State.discardWrites s).shadow = s.shadow ∧ (State.discardWrites s).faulted = s.faulted ∧ (State.discardWrites s).bb = s.bb ∧ (State.discardWrites s).tap = s.tap ∧ (State.discardWrites s).time = s.time ∧ (State.discardWrites s).thermal = s.thermal ∧ (State.discardWrites s).light = s.light ∧ (State.discardWrites s).adcA = s.adcA ∧ (State.discardWrites s).adcB = s.adcB ∧ (State.discardWrites s).amb = s.amb ∧ (State.discardWrites s).ports = s.ports ∧ (State.discardWrites s).frames = s.frames ∧ (State.discardWrites s).nextFrame = s.nextFrame ∧ (State.discardWrites s).pipe = s.pipe ∧ (State.discardWrites s).ctxs = s.ctxs ∧ (State.discardWrites s).dec = s.dec ∧ (State.discardWrites s).vs = s.vs ∧ (State.discardWrites s).former = s.former ∧ (State.discardWrites s).usb = s.usb ∧ (State.discardWrites s).ser = s.ser ∧ (State.discardWrites s).pair = s.pair ∧ (State.discardWrites s).fab = s.fab ∧ (State.discardWrites s).fresh = s.fresh := by
  first
  | (unfold State.discardWrites; simp; done)
  | (unfold State.discardWrites; (try dsimp only); (repeat' split) <;> (first | rfl | (simp; done) | (simp_all; done) | (try simp)))
@[simp] theorem State.faultEvents_frame (s : State) (l : List (TrowelId × Word)) :
    (State.faultEvents s l).pending = s.pending ∧ (State.faultEvents s l).identity = s.identity ∧ (State.faultEvents s l).aon = s.aon ∧ (State.faultEvents s l).pins = s.pins ∧ (State.faultEvents s l).phase = s.phase ∧ (State.faultEvents s l).boot = s.boot ∧ (State.faultEvents s l).sys = s.sys ∧ (State.faultEvents s l).balls = s.balls ∧ (State.faultEvents s l).fields = s.fields ∧ (State.faultEvents s l).shadow = s.shadow ∧ (State.faultEvents s l).trowels = s.trowels ∧ (State.faultEvents s l).faulted = s.faulted ∧ (State.faultEvents s l).tap = s.tap ∧ (State.faultEvents s l).time = s.time ∧ (State.faultEvents s l).thermal = s.thermal ∧ (State.faultEvents s l).light = s.light ∧ (State.faultEvents s l).adcA = s.adcA ∧ (State.faultEvents s l).adcB = s.adcB ∧ (State.faultEvents s l).amb = s.amb ∧ (State.faultEvents s l).ports = s.ports ∧ (State.faultEvents s l).frames = s.frames ∧ (State.faultEvents s l).nextFrame = s.nextFrame ∧ (State.faultEvents s l).pipe = s.pipe ∧ (State.faultEvents s l).ctxs = s.ctxs ∧ (State.faultEvents s l).dec = s.dec ∧ (State.faultEvents s l).vs = s.vs ∧ (State.faultEvents s l).former = s.former ∧ (State.faultEvents s l).usb = s.usb ∧ (State.faultEvents s l).ser = s.ser ∧ (State.faultEvents s l).pair = s.pair ∧ (State.faultEvents s l).fab = s.fab ∧ (State.faultEvents s l).fresh = s.fresh := by
  first
  | (unfold State.faultEvents; simp; done)
  | (unfold State.faultEvents; (try dsimp only); (repeat' split) <;> (first | rfl | (simp; done) | (simp_all; done) | (try simp)))
@[simp] theorem State.trowelFault_frame (s : State) (t : TrowelId) (cause : Nat) (code : BitVec 16) :
    (State.trowelFault s t cause code).pending = s.pending ∧ (State.trowelFault s t cause code).identity = s.identity ∧ (State.trowelFault s t cause code).aon = s.aon ∧ (State.trowelFault s t cause code).pins = s.pins ∧ (State.trowelFault s t cause code).boot = s.boot ∧ (State.trowelFault s t cause code).sys = s.sys ∧ (State.trowelFault s t cause code).shadow = s.shadow ∧ (State.trowelFault s t cause code).tap = s.tap ∧ (State.trowelFault s t cause code).time = s.time ∧ (State.trowelFault s t cause code).thermal = s.thermal ∧ (State.trowelFault s t cause code).amb = s.amb ∧ (State.trowelFault s t cause code).ports = s.ports ∧ (State.trowelFault s t cause code).nextFrame = s.nextFrame ∧ (State.trowelFault s t cause code).pipe = s.pipe ∧ (State.trowelFault s t cause code).ctxs = s.ctxs ∧ (State.trowelFault s t cause code).dec = s.dec ∧ (State.trowelFault s t cause code).former = s.former ∧ (State.trowelFault s t cause code).fresh = s.fresh := by
  first
  | (unfold State.trowelFault; simp; done)
  | (unfold State.trowelFault; (try dsimp only); (repeat' split) <;> (first | rfl | (simp; done) | (simp_all; done) | (try simp)))
@[simp] theorem State.secondFault_frame (s : State) (t : TrowelId) (can : State → Bool) (f : State → State) :
    (State.secondFault s t can f).pending = s.pending ∧ (State.secondFault s t can f).identity = s.identity ∧ (State.secondFault s t can f).aon = s.aon ∧ (State.secondFault s t can f).pins = s.pins ∧ (State.secondFault s t can f).phase = s.phase ∧ (State.secondFault s t can f).boot = s.boot ∧ (State.secondFault s t can f).sys = s.sys ∧ (State.secondFault s t can f).balls = s.balls ∧ (State.secondFault s t can f).fields = s.fields ∧ (State.secondFault s t can f).shadow = s.shadow ∧ (State.secondFault s t can f).trowels = s.trowels ∧ (State.secondFault s t can f).tap = s.tap ∧ (State.secondFault s t can f).time = s.time ∧ (State.secondFault s t can f).thermal = s.thermal ∧ (State.secondFault s t can f).light = s.light ∧ (State.secondFault s t can f).adcA = s.adcA ∧ (State.secondFault s t can f).adcB = s.adcB ∧ (State.secondFault s t can f).amb = s.amb ∧ (State.secondFault s t can f).ports = s.ports ∧ (State.secondFault s t can f).frames = s.frames ∧ (State.secondFault s t can f).nextFrame = s.nextFrame ∧ (State.secondFault s t can f).pipe = s.pipe ∧ (State.secondFault s t can f).ctxs = s.ctxs ∧ (State.secondFault s t can f).dec = s.dec ∧ (State.secondFault s t can f).vs = s.vs ∧ (State.secondFault s t can f).former = s.former ∧ (State.secondFault s t can f).usb = s.usb ∧ (State.secondFault s t can f).ser = s.ser ∧ (State.secondFault s t can f).pair = s.pair ∧ (State.secondFault s t can f).fab = s.fab ∧ (State.secondFault s t can f).fresh = s.fresh := by
  first
  | (unfold State.secondFault; simp; done)
  | (unfold State.secondFault; (try dsimp only); (repeat' split) <;> (first | rfl | (simp; done) | (simp_all; done) | (try simp)))
@[simp] theorem State.haltBoot_frame (s : State) (code : Nat) :
    (State.haltBoot s code).pending = s.pending ∧ (State.haltBoot s code).identity = s.identity ∧ (State.haltBoot s code).aon = s.aon ∧ (State.haltBoot s code).pins = s.pins ∧ (State.haltBoot s code).boot = s.boot ∧ (State.haltBoot s code).sys = s.sys ∧ (State.haltBoot s code).shadow = s.shadow ∧ (State.haltBoot s code).trowels = s.trowels ∧ (State.haltBoot s code).faulted = s.faulted ∧ (State.haltBoot s code).tap = s.tap ∧ (State.haltBoot s code).time = s.time ∧ (State.haltBoot s code).thermal = s.thermal ∧ (State.haltBoot s code).amb = s.amb ∧ (State.haltBoot s code).ports = s.ports ∧ (State.haltBoot s code).nextFrame = s.nextFrame ∧ (State.haltBoot s code).pipe = s.pipe ∧ (State.haltBoot s code).ctxs = s.ctxs ∧ (State.haltBoot s code).dec = s.dec ∧ (State.haltBoot s code).former = s.former ∧ (State.haltBoot s code).fresh = s.fresh := by
  first
  | (unfold State.haltBoot; simp; done)
  | (unfold State.haltBoot; (try dsimp only); (repeat' split) <;> (first | rfl | (simp; done) | (simp_all; done) | (try simp)))
@[simp] theorem State.refuse_frame (s : State) (t : TrowelId) (a : BitVec 16) (reason : BitVec 3) :
    (State.refuse s t a reason).pending = s.pending ∧ (State.refuse s t a reason).identity = s.identity ∧ (State.refuse s t a reason).aon = s.aon ∧ (State.refuse s t a reason).pins = s.pins ∧ (State.refuse s t a reason).phase = s.phase ∧ (State.refuse s t a reason).boot = s.boot ∧ (State.refuse s t a reason).sys = s.sys ∧ (State.refuse s t a reason).balls = s.balls ∧ (State.refuse s t a reason).fields = s.fields ∧ (State.refuse s t a reason).shadow = s.shadow ∧ (State.refuse s t a reason).faulted = s.faulted ∧ (State.refuse s t a reason).tap = s.tap ∧ (State.refuse s t a reason).time = s.time ∧ (State.refuse s t a reason).thermal = s.thermal ∧ (State.refuse s t a reason).light = s.light ∧ (State.refuse s t a reason).adcA = s.adcA ∧ (State.refuse s t a reason).adcB = s.adcB ∧ (State.refuse s t a reason).amb = s.amb ∧ (State.refuse s t a reason).ports = s.ports ∧ (State.refuse s t a reason).frames = s.frames ∧ (State.refuse s t a reason).nextFrame = s.nextFrame ∧ (State.refuse s t a reason).pipe = s.pipe ∧ (State.refuse s t a reason).ctxs = s.ctxs ∧ (State.refuse s t a reason).dec = s.dec ∧ (State.refuse s t a reason).vs = s.vs ∧ (State.refuse s t a reason).former = s.former ∧ (State.refuse s t a reason).usb = s.usb ∧ (State.refuse s t a reason).ser = s.ser ∧ (State.refuse s t a reason).pair = s.pair ∧ (State.refuse s t a reason).fab = s.fab ∧ (State.refuse s t a reason).fresh = s.fresh := by
  first
  | (unfold State.refuse; simp; done)
  | (unfold State.refuse; (try dsimp only); (repeat' split) <;> (first | rfl | (simp; done) | (simp_all; done) | (try simp)))
end Sys2Proof.Machine
end

