-- ==== Sys2Proof/Laws/FrameSleepEntry.lean ====
section
/-! SUPPORT. Frames: which parts of the state each operation of Machine/SleepEntry leaves as they were. -/

namespace Sys2Proof.Machine
@[simp] theorem State.sleepDark_frame (s : State) :
    (State.sleepDark s).pending = s.pending ∧ (State.sleepDark s).identity = s.identity ∧ (State.sleepDark s).aon = s.aon ∧ (State.sleepDark s).pins = s.pins ∧ (State.sleepDark s).phase = s.phase ∧ (State.sleepDark s).boot = s.boot ∧ (State.sleepDark s).balls = s.balls ∧ (State.sleepDark s).shadow = s.shadow ∧ (State.sleepDark s).trowels = s.trowels ∧ (State.sleepDark s).faulted = s.faulted ∧ (State.sleepDark s).bb = s.bb ∧ (State.sleepDark s).tap = s.tap ∧ (State.sleepDark s).time = s.time ∧ (State.sleepDark s).thermal = s.thermal ∧ (State.sleepDark s).amb = s.amb ∧ (State.sleepDark s).nextFrame = s.nextFrame ∧ (State.sleepDark s).pipe = s.pipe ∧ (State.sleepDark s).ctxs = s.ctxs ∧ (State.sleepDark s).vs = s.vs ∧ (State.sleepDark s).former = s.former ∧ (State.sleepDark s).usb = s.usb ∧ (State.sleepDark s).ser = s.ser ∧ (State.sleepDark s).pair = s.pair ∧ (State.sleepDark s).fab = s.fab ∧ (State.sleepDark s).fresh = s.fresh := by
  first
  | (unfold State.sleepDark; simp; done)
  | (unfold State.sleepDark; (try dsimp only); (repeat' split) <;> (first | rfl | (simp; done) | (simp_all; done) | (try simp)))
@[simp] theorem State.sleepProceed_frame (s : State) :
    (State.sleepProceed s).pending = s.pending ∧ (State.sleepProceed s).identity = s.identity ∧ (State.sleepProceed s).aon = s.aon ∧ (State.sleepProceed s).pins = s.pins ∧ (State.sleepProceed s).phase = s.phase ∧ (State.sleepProceed s).boot = s.boot ∧ (State.sleepProceed s).balls = s.balls ∧ (State.sleepProceed s).shadow = s.shadow ∧ (State.sleepProceed s).trowels = s.trowels ∧ (State.sleepProceed s).faulted = s.faulted ∧ (State.sleepProceed s).bb = s.bb ∧ (State.sleepProceed s).tap = s.tap ∧ (State.sleepProceed s).time = s.time ∧ (State.sleepProceed s).thermal = s.thermal ∧ (State.sleepProceed s).amb = s.amb ∧ (State.sleepProceed s).nextFrame = s.nextFrame ∧ (State.sleepProceed s).pipe = s.pipe ∧ (State.sleepProceed s).ctxs = s.ctxs ∧ (State.sleepProceed s).vs = s.vs ∧ (State.sleepProceed s).former = s.former ∧ (State.sleepProceed s).usb = s.usb ∧ (State.sleepProceed s).ser = s.ser ∧ (State.sleepProceed s).pair = s.pair ∧ (State.sleepProceed s).fab = s.fab ∧ (State.sleepProceed s).fresh = s.fresh := by
  first
  | (unfold State.sleepProceed; simp; done)
  | (unfold State.sleepProceed; (try dsimp only); (repeat' split) <;> (first | rfl | (simp; done) | (simp_all; done) | (try simp)))
@[simp] theorem State.sleepBegin_frame (s : State) :
    (State.sleepBegin s).pending = s.pending ∧ (State.sleepBegin s).identity = s.identity ∧ (State.sleepBegin s).aon = s.aon ∧ (State.sleepBegin s).pins = s.pins ∧ (State.sleepBegin s).boot = s.boot ∧ (State.sleepBegin s).shadow = s.shadow ∧ (State.sleepBegin s).faulted = s.faulted ∧ (State.sleepBegin s).bb = s.bb ∧ (State.sleepBegin s).tap = s.tap ∧ (State.sleepBegin s).thermal = s.thermal ∧ (State.sleepBegin s).amb = s.amb ∧ (State.sleepBegin s).nextFrame = s.nextFrame ∧ (State.sleepBegin s).pipe = s.pipe ∧ (State.sleepBegin s).ctxs = s.ctxs ∧ (State.sleepBegin s).vs = s.vs ∧ (State.sleepBegin s).former = s.former ∧ (State.sleepBegin s).usb = s.usb ∧ (State.sleepBegin s).ser = s.ser ∧ (State.sleepBegin s).fab = s.fab ∧ (State.sleepBegin s).fresh = s.fresh := by
  first
  | (unfold State.sleepBegin; simp; done)
  | (unfold State.sleepBegin; (try dsimp only); (repeat' split) <;> (first | rfl | (simp; done) | (simp_all; done) | (try simp)))
@[simp] theorem State.requestSleep_frame (s : State) :
    (State.requestSleep s).pending = s.pending ∧ (State.requestSleep s).identity = s.identity ∧ (State.requestSleep s).aon = s.aon ∧ (State.requestSleep s).pins = s.pins ∧ (State.requestSleep s).shadow = s.shadow ∧ (State.requestSleep s).faulted = s.faulted ∧ (State.requestSleep s).tap = s.tap ∧ (State.requestSleep s).thermal = s.thermal ∧ (State.requestSleep s).amb = s.amb ∧ (State.requestSleep s).nextFrame = s.nextFrame ∧ (State.requestSleep s).pipe = s.pipe ∧ (State.requestSleep s).ctxs = s.ctxs ∧ (State.requestSleep s).vs = s.vs ∧ (State.requestSleep s).former = s.former ∧ (State.requestSleep s).usb = s.usb ∧ (State.requestSleep s).ser = s.ser ∧ (State.requestSleep s).fab = s.fab ∧ (State.requestSleep s).fresh = s.fresh := by
  first
  | (unfold State.requestSleep; simp; done)
  | (unfold State.requestSleep; (try dsimp only); (repeat' split) <;> (first | rfl | (simp; done) | (simp_all; done) | (try simp)))
theorem execCourse_frame (s : State) :
    ∃ u, execCourse s = .next u ∧
    u.pending = s.pending ∧ u.identity = s.identity ∧ u.aon = s.aon ∧ u.pins = s.pins ∧ u.phase = s.phase ∧ u.boot = s.boot ∧ u.balls = s.balls ∧ u.faulted = s.faulted ∧ u.tap = s.tap ∧ u.time = s.time ∧ u.thermal = s.thermal ∧ u.amb = s.amb ∧ u.nextFrame = s.nextFrame ∧ u.pipe = s.pipe ∧ u.ctxs = s.ctxs ∧ u.vs = s.vs ∧ u.former = s.former ∧ u.usb = s.usb ∧ u.ser = s.ser ∧ u.fab = s.fab ∧ u.fresh = s.fresh := by
  refine ⟨_, rfl, ?_⟩
  first
  | (simp; done)
  | ((try simp only [State.whenRun, State.access, State.packet]); (repeat' split) <;> (first | rfl | (simp; done) | (simp_all; done) | (try simp)))
theorem execConversionEnd_frame (c : Conv) (raw : Nat) (s : State) :
    ∃ u, execConversionEnd c raw s = .next u ∧
    u.pending = s.pending ∧ u.identity = s.identity ∧ u.aon = s.aon ∧ u.pins = s.pins ∧ u.phase = s.phase ∧ u.boot = s.boot ∧ u.balls = s.balls ∧ u.tap = s.tap ∧ u.time = s.time ∧ u.thermal = s.thermal ∧ u.nextFrame = s.nextFrame ∧ u.ctxs = s.ctxs ∧ u.vs = s.vs ∧ u.former = s.former ∧ u.usb = s.usb ∧ u.ser = s.ser ∧ u.pair = s.pair ∧ u.fab = s.fab ∧ u.fresh = s.fresh := by
  refine ⟨_, rfl, ?_⟩
  first
  | (simp; done)
  | ((try simp only [State.whenRun, State.access, State.packet]); (repeat' split) <;> (first | rfl | (simp; done) | (simp_all; done) | (try simp)))
theorem execSleepReqRise_frame (s : State) :
    ∃ u, execSleepReqRise s = .next u ∧
    u.pending = s.pending ∧ u.identity = s.identity ∧ u.aon = s.aon ∧ u.pins = s.pins ∧ u.shadow = s.shadow ∧ u.faulted = s.faulted ∧ u.tap = s.tap ∧ u.thermal = s.thermal ∧ u.amb = s.amb ∧ u.nextFrame = s.nextFrame ∧ u.pipe = s.pipe ∧ u.ctxs = s.ctxs ∧ u.vs = s.vs ∧ u.former = s.former ∧ u.usb = s.usb ∧ u.ser = s.ser ∧ u.fab = s.fab ∧ u.fresh = s.fresh := by
  refine ⟨_, rfl, ?_⟩
  first
  | (simp; done)
  | ((try simp only [State.whenRun, State.access, State.packet]); (repeat' split) <;> (first | rfl | (simp; done) | (simp_all; done) | (try simp)))
theorem execSleepGraceExpiry_frame (s : State) :
    ∃ u, execSleepGraceExpiry s = .next u ∧
    u.pending = s.pending ∧ u.identity = s.identity ∧ u.aon = s.aon ∧ u.pins = s.pins ∧ u.phase = s.phase ∧ u.boot = s.boot ∧ u.balls = s.balls ∧ u.shadow = s.shadow ∧ u.trowels = s.trowels ∧ u.faulted = s.faulted ∧ u.tap = s.tap ∧ u.time = s.time ∧ u.thermal = s.thermal ∧ u.amb = s.amb ∧ u.nextFrame = s.nextFrame ∧ u.pipe = s.pipe ∧ u.ctxs = s.ctxs ∧ u.vs = s.vs ∧ u.former = s.former ∧ u.usb = s.usb ∧ u.ser = s.ser ∧ u.pair = s.pair ∧ u.fab = s.fab ∧ u.fresh = s.fresh := by
  refine ⟨_, rfl, ?_⟩
  first
  | (simp; done)
  | ((try simp only [State.whenRun, State.access, State.packet]); (repeat' split) <;> (first | rfl | (simp; done) | (simp_all; done) | (try simp)))
end Sys2Proof.Machine
end

