-- ==== Sys2Proof/Laws/FrameTrowel.lean ====
section
/-! SUPPORT. Frames: which parts of the state each operation of Machine/Trowel leaves as they were. -/

namespace Sys2Proof.Machine
@[simp] theorem State.runT_frame (s : State) (t : TrowelId) (f : Trowel → Trowel) :
    (State.runT s t f).pending = s.pending ∧ (State.runT s t f).identity = s.identity ∧ (State.runT s t f).aon = s.aon ∧ (State.runT s t f).pins = s.pins ∧ (State.runT s t f).phase = s.phase ∧ (State.runT s t f).boot = s.boot ∧ (State.runT s t f).sys = s.sys ∧ (State.runT s t f).balls = s.balls ∧ (State.runT s t f).fields = s.fields ∧ (State.runT s t f).shadow = s.shadow ∧ (State.runT s t f).faulted = s.faulted ∧ (State.runT s t f).bb = s.bb ∧ (State.runT s t f).tap = s.tap ∧ (State.runT s t f).time = s.time ∧ (State.runT s t f).thermal = s.thermal ∧ (State.runT s t f).light = s.light ∧ (State.runT s t f).adcA = s.adcA ∧ (State.runT s t f).adcB = s.adcB ∧ (State.runT s t f).amb = s.amb ∧ (State.runT s t f).ports = s.ports ∧ (State.runT s t f).frames = s.frames ∧ (State.runT s t f).nextFrame = s.nextFrame ∧ (State.runT s t f).pipe = s.pipe ∧ (State.runT s t f).ctxs = s.ctxs ∧ (State.runT s t f).dec = s.dec ∧ (State.runT s t f).vs = s.vs ∧ (State.runT s t f).former = s.former ∧ (State.runT s t f).usb = s.usb ∧ (State.runT s t f).ser = s.ser ∧ (State.runT s t f).pair = s.pair ∧ (State.runT s t f).fab = s.fab ∧ (State.runT s t f).fresh = s.fresh := by
  first
  | (unfold State.runT; simp; done)
  | (unfold State.runT; (try dsimp only); (repeat' split) <;> (first | rfl | (simp; done) | (simp_all; done) | (try simp)))
@[simp] theorem State.whenRun_pending (s : State) (t : TrowelId) (f : State → State) (h : ∀ s, (f s).pending = s.pending) :
    (State.whenRun s t f).pending = s.pending := by
  unfold State.whenRun; (try dsimp only); (repeat' split) <;> (first | rfl | (simp; done) | (simp [h]; done) | (simp_all; done) | (try simp [h]))
@[simp] theorem State.whenRun_pipe (s : State) (t : TrowelId) (f : State → State) (h : ∀ s, (f s).pipe = s.pipe) :
    (State.whenRun s t f).pipe = s.pipe := by
  unfold State.whenRun; (try dsimp only); (repeat' split) <;> (first | rfl | (simp; done) | (simp [h]; done) | (simp_all; done) | (try simp [h]))
@[simp] theorem State.whenRun_faulted (s : State) (t : TrowelId) (f : State → State) (h : ∀ s, (f s).faulted = s.faulted) :
    (State.whenRun s t f).faulted = s.faulted := by
  unfold State.whenRun; (try dsimp only); (repeat' split) <;> (first | rfl | (simp; done) | (simp [h]; done) | (simp_all; done) | (try simp [h]))
@[simp] theorem State.whenRun_identity (s : State) (t : TrowelId) (f : State → State) (h : ∀ s, (f s).identity = s.identity) :
    (State.whenRun s t f).identity = s.identity := by
  unfold State.whenRun; (try dsimp only); (repeat' split) <;> (first | rfl | (simp; done) | (simp [h]; done) | (simp_all; done) | (try simp [h]))
@[simp] theorem State.whenRun_aon (s : State) (t : TrowelId) (f : State → State) (h : ∀ s, (f s).aon = s.aon) :
    (State.whenRun s t f).aon = s.aon := by
  unfold State.whenRun; (try dsimp only); (repeat' split) <;> (first | rfl | (simp; done) | (simp [h]; done) | (simp_all; done) | (try simp [h]))
@[simp] theorem State.whenRun_pins (s : State) (t : TrowelId) (f : State → State) (h : ∀ s, (f s).pins = s.pins) :
    (State.whenRun s t f).pins = s.pins := by
  unfold State.whenRun; (try dsimp only); (repeat' split) <;> (first | rfl | (simp; done) | (simp [h]; done) | (simp_all; done) | (try simp [h]))
@[simp] theorem State.whenRun_phase (s : State) (t : TrowelId) (f : State → State) (h : ∀ s, (f s).phase = s.phase) :
    (State.whenRun s t f).phase = s.phase := by
  unfold State.whenRun; (try dsimp only); (repeat' split) <;> (first | rfl | (simp; done) | (simp [h]; done) | (simp_all; done) | (try simp [h]))
@[simp] theorem State.whenRun_boot (s : State) (t : TrowelId) (f : State → State) (h : ∀ s, (f s).boot = s.boot) :
    (State.whenRun s t f).boot = s.boot := by
  unfold State.whenRun; (try dsimp only); (repeat' split) <;> (first | rfl | (simp; done) | (simp [h]; done) | (simp_all; done) | (try simp [h]))
@[simp] theorem State.whenRun_sys (s : State) (t : TrowelId) (f : State → State) (h : ∀ s, (f s).sys = s.sys) :
    (State.whenRun s t f).sys = s.sys := by
  unfold State.whenRun; (try dsimp only); (repeat' split) <;> (first | rfl | (simp; done) | (simp [h]; done) | (simp_all; done) | (try simp [h]))
@[simp] theorem State.whenRun_balls (s : State) (t : TrowelId) (f : State → State) (h : ∀ s, (f s).balls = s.balls) :
    (State.whenRun s t f).balls = s.balls := by
  unfold State.whenRun; (try dsimp only); (repeat' split) <;> (first | rfl | (simp; done) | (simp [h]; done) | (simp_all; done) | (try simp [h]))
@[simp] theorem State.whenRun_fields (s : State) (t : TrowelId) (f : State → State) (h : ∀ s, (f s).fields = s.fields) :
    (State.whenRun s t f).fields = s.fields := by
  unfold State.whenRun; (try dsimp only); (repeat' split) <;> (first | rfl | (simp; done) | (simp [h]; done) | (simp_all; done) | (try simp [h]))
@[simp] theorem State.whenRun_shadow (s : State) (t : TrowelId) (f : State → State) (h : ∀ s, (f s).shadow = s.shadow) :
    (State.whenRun s t f).shadow = s.shadow := by
  unfold State.whenRun; (try dsimp only); (repeat' split) <;> (first | rfl | (simp; done) | (simp [h]; done) | (simp_all; done) | (try simp [h]))
@[simp] theorem State.whenRun_trowels (s : State) (t : TrowelId) (f : State → State) (h : ∀ s, (f s).trowels = s.trowels) :
    (State.whenRun s t f).trowels = s.trowels := by
  unfold State.whenRun; (try dsimp only); (repeat' split) <;> (first | rfl | (simp; done) | (simp [h]; done) | (simp_all; done) | (try simp [h]))
@[simp] theorem State.whenRun_bb (s : State) (t : TrowelId) (f : State → State) (h : ∀ s, (f s).bb = s.bb) :
    (State.whenRun s t f).bb = s.bb := by
  unfold State.whenRun; (try dsimp only); (repeat' split) <;> (first | rfl | (simp; done) | (simp [h]; done) | (simp_all; done) | (try simp [h]))
@[simp] theorem State.whenRun_tap (s : State) (t : TrowelId) (f : State → State) (h : ∀ s, (f s).tap = s.tap) :
    (State.whenRun s t f).tap = s.tap := by
  unfold State.whenRun; (try dsimp only); (repeat' split) <;> (first | rfl | (simp; done) | (simp [h]; done) | (simp_all; done) | (try simp [h]))
@[simp] theorem State.whenRun_time (s : State) (t : TrowelId) (f : State → State) (h : ∀ s, (f s).time = s.time) :
    (State.whenRun s t f).time = s.time := by
  unfold State.whenRun; (try dsimp only); (repeat' split) <;> (first | rfl | (simp; done) | (simp [h]; done) | (simp_all; done) | (try simp [h]))
@[simp] theorem State.whenRun_thermal (s : State) (t : TrowelId) (f : State → State) (h : ∀ s, (f s).thermal = s.thermal) :
    (State.whenRun s t f).thermal = s.thermal := by
  unfold State.whenRun; (try dsimp only); (repeat' split) <;> (first | rfl | (simp; done) | (simp [h]; done) | (simp_all; done) | (try simp [h]))
@[simp] theorem State.whenRun_light (s : State) (t : TrowelId) (f : State → State) (h : ∀ s, (f s).light = s.light) :
    (State.whenRun s t f).light = s.light := by
  unfold State.whenRun; (try dsimp only); (repeat' split) <;> (first | rfl | (simp; done) | (simp [h]; done) | (simp_all; done) | (try simp [h]))
@[simp] theorem State.whenRun_adcA (s : State) (t : TrowelId) (f : State → State) (h : ∀ s, (f s).adcA = s.adcA) :
    (State.whenRun s t f).adcA = s.adcA := by
  unfold State.whenRun; (try dsimp only); (repeat' split) <;> (first | rfl | (simp; done) | (simp [h]; done) | (simp_all; done) | (try simp [h]))
@[simp] theorem State.whenRun_adcB (s : State) (t : TrowelId) (f : State → State) (h : ∀ s, (f s).adcB = s.adcB) :
    (State.whenRun s t f).adcB = s.adcB := by
  unfold State.whenRun; (try dsimp only); (repeat' split) <;> (first | rfl | (simp; done) | (simp [h]; done) | (simp_all; done) | (try simp [h]))
@[simp] theorem State.whenRun_amb (s : State) (t : TrowelId) (f : State → State) (h : ∀ s, (f s).amb = s.amb) :
    (State.whenRun s t f).amb = s.amb := by
  unfold State.whenRun; (try dsimp only); (repeat' split) <;> (first | rfl | (simp; done) | (simp [h]; done) | (simp_all; done) | (try simp [h]))
@[simp] theorem State.whenRun_ports (s : State) (t : TrowelId) (f : State → State) (h : ∀ s, (f s).ports = s.ports) :
    (State.whenRun s t f).ports = s.ports := by
  unfold State.whenRun; (try dsimp only); (repeat' split) <;> (first | rfl | (simp; done) | (simp [h]; done) | (simp_all; done) | (try simp [h]))
@[simp] theorem State.whenRun_frames (s : State) (t : TrowelId) (f : State → State) (h : ∀ s, (f s).frames = s.frames) :
    (State.whenRun s t f).frames = s.frames := by
  unfold State.whenRun; (try dsimp only); (repeat' split) <;> (first | rfl | (simp; done) | (simp [h]; done) | (simp_all; done) | (try simp [h]))
@[simp] theorem State.whenRun_nextFrame (s : State) (t : TrowelId) (f : State → State) (h : ∀ s, (f s).nextFrame = s.nextFrame) :
    (State.whenRun s t f).nextFrame = s.nextFrame := by
  unfold State.whenRun; (try dsimp only); (repeat' split) <;> (first | rfl | (simp; done) | (simp [h]; done) | (simp_all; done) | (try simp [h]))
@[simp] theorem State.whenRun_ctxs (s : State) (t : TrowelId) (f : State → State) (h : ∀ s, (f s).ctxs = s.ctxs) :
    (State.whenRun s t f).ctxs = s.ctxs := by
  unfold State.whenRun; (try dsimp only); (repeat' split) <;> (first | rfl | (simp; done) | (simp [h]; done) | (simp_all; done) | (try simp [h]))
@[simp] theorem State.whenRun_dec (s : State) (t : TrowelId) (f : State → State) (h : ∀ s, (f s).dec = s.dec) :
    (State.whenRun s t f).dec = s.dec := by
  unfold State.whenRun; (try dsimp only); (repeat' split) <;> (first | rfl | (simp; done) | (simp [h]; done) | (simp_all; done) | (try simp [h]))
@[simp] theorem State.whenRun_vs (s : State) (t : TrowelId) (f : State → State) (h : ∀ s, (f s).vs = s.vs) :
    (State.whenRun s t f).vs = s.vs := by
  unfold State.whenRun; (try dsimp only); (repeat' split) <;> (first | rfl | (simp; done) | (simp [h]; done) | (simp_all; done) | (try simp [h]))
@[simp] theorem State.whenRun_former (s : State) (t : TrowelId) (f : State → State) (h : ∀ s, (f s).former = s.former) :
    (State.whenRun s t f).former = s.former := by
  unfold State.whenRun; (try dsimp only); (repeat' split) <;> (first | rfl | (simp; done) | (simp [h]; done) | (simp_all; done) | (try simp [h]))
@[simp] theorem State.whenRun_usb (s : State) (t : TrowelId) (f : State → State) (h : ∀ s, (f s).usb = s.usb) :
    (State.whenRun s t f).usb = s.usb := by
  unfold State.whenRun; (try dsimp only); (repeat' split) <;> (first | rfl | (simp; done) | (simp [h]; done) | (simp_all; done) | (try simp [h]))
@[simp] theorem State.whenRun_ser (s : State) (t : TrowelId) (f : State → State) (h : ∀ s, (f s).ser = s.ser) :
    (State.whenRun s t f).ser = s.ser := by
  unfold State.whenRun; (try dsimp only); (repeat' split) <;> (first | rfl | (simp; done) | (simp [h]; done) | (simp_all; done) | (try simp [h]))
@[simp] theorem State.whenRun_pair (s : State) (t : TrowelId) (f : State → State) (h : ∀ s, (f s).pair = s.pair) :
    (State.whenRun s t f).pair = s.pair := by
  unfold State.whenRun; (try dsimp only); (repeat' split) <;> (first | rfl | (simp; done) | (simp [h]; done) | (simp_all; done) | (try simp [h]))
@[simp] theorem State.whenRun_fab (s : State) (t : TrowelId) (f : State → State) (h : ∀ s, (f s).fab = s.fab) :
    (State.whenRun s t f).fab = s.fab := by
  unfold State.whenRun; (try dsimp only); (repeat' split) <;> (first | rfl | (simp; done) | (simp [h]; done) | (simp_all; done) | (try simp [h]))
@[simp] theorem State.whenRun_fresh (s : State) (t : TrowelId) (f : State → State) (h : ∀ s, (f s).fresh = s.fresh) :
    (State.whenRun s t f).fresh = s.fresh := by
  unfold State.whenRun; (try dsimp only); (repeat' split) <;> (first | rfl | (simp; done) | (simp [h]; done) | (simp_all; done) | (try simp [h]))
@[simp] theorem State.mayFault_pending (s : State) (t : TrowelId) (f : State → State) (h : ∀ s, (f s).pending = s.pending) :
    (State.mayFault s t f).pending = s.pending := by
  unfold State.mayFault; (try dsimp only); (repeat' split) <;> (first | rfl | (simp; done) | (simp [h]; done) | (simp_all; done) | (try simp [h]))
@[simp] theorem State.mayFault_phase (s : State) (t : TrowelId) (f : State → State) (h : ∀ s, (f s).phase = s.phase) :
    (State.mayFault s t f).phase = s.phase := by
  unfold State.mayFault; (try dsimp only); (repeat' split) <;> (first | rfl | (simp; done) | (simp [h]; done) | (simp_all; done) | (try simp [h]))
@[simp] theorem State.mayFault_trowels (s : State) (t : TrowelId) (f : State → State) (h : ∀ s, (f s).trowels = s.trowels) :
    (State.mayFault s t f).trowels = s.trowels := by
  unfold State.mayFault; (try dsimp only); (repeat' split) <;> (first | rfl | (simp; done) | (simp [h]; done) | (simp_all; done) | (try simp [h]))
@[simp] theorem State.mayFault_identity (s : State) (t : TrowelId) (f : State → State) (h : ∀ s, (f s).identity = s.identity) :
    (State.mayFault s t f).identity = s.identity := by
  unfold State.mayFault; (try dsimp only); (repeat' split) <;> (first | rfl | (simp; done) | (simp [h]; done) | (simp_all; done) | (try simp [h]))
@[simp] theorem State.mayFault_aon (s : State) (t : TrowelId) (f : State → State) (h : ∀ s, (f s).aon = s.aon) :
    (State.mayFault s t f).aon = s.aon := by
  unfold State.mayFault; (try dsimp only); (repeat' split) <;> (first | rfl | (simp; done) | (simp [h]; done) | (simp_all; done) | (try simp [h]))
@[simp] theorem State.mayFault_pins (s : State) (t : TrowelId) (f : State → State) (h : ∀ s, (f s).pins = s.pins) :
    (State.mayFault s t f).pins = s.pins := by
  unfold State.mayFault; (try dsimp only); (repeat' split) <;> (first | rfl | (simp; done) | (simp [h]; done) | (simp_all; done) | (try simp [h]))
@[simp] theorem State.mayFault_boot (s : State) (t : TrowelId) (f : State → State) (h : ∀ s, (f s).boot = s.boot) :
    (State.mayFault s t f).boot = s.boot := by
  unfold State.mayFault; (try dsimp only); (repeat' split) <;> (first | rfl | (simp; done) | (simp [h]; done) | (simp_all; done) | (try simp [h]))
@[simp] theorem State.mayFault_sys (s : State) (t : TrowelId) (f : State → State) (h : ∀ s, (f s).sys = s.sys) :
    (State.mayFault s t f).sys = s.sys := by
  unfold State.mayFault; (try dsimp only); (repeat' split) <;> (first | rfl | (simp; done) | (simp [h]; done) | (simp_all; done) | (try simp [h]))
@[simp] theorem State.mayFault_balls (s : State) (t : TrowelId) (f : State → State) (h : ∀ s, (f s).balls = s.balls) :
    (State.mayFault s t f).balls = s.balls := by
  unfold State.mayFault; (try dsimp only); (repeat' split) <;> (first | rfl | (simp; done) | (simp [h]; done) | (simp_all; done) | (try simp [h]))
@[simp] theorem State.mayFault_fields (s : State) (t : TrowelId) (f : State → State) (h : ∀ s, (f s).fields = s.fields) :
    (State.mayFault s t f).fields = s.fields := by
  unfold State.mayFault; (try dsimp only); (repeat' split) <;> (first | rfl | (simp; done) | (simp [h]; done) | (simp_all; done) | (try simp [h]))
@[simp] theorem State.mayFault_shadow (s : State) (t : TrowelId) (f : State → State) (h : ∀ s, (f s).shadow = s.shadow) :
    (State.mayFault s t f).shadow = s.shadow := by
  unfold State.mayFault; (try dsimp only); (repeat' split) <;> (first | rfl | (simp; done) | (simp [h]; done) | (simp_all; done) | (try simp [h]))
@[simp] theorem State.mayFault_tap (s : State) (t : TrowelId) (f : State → State) (h : ∀ s, (f s).tap = s.tap) :
    (State.mayFault s t f).tap = s.tap := by
  unfold State.mayFault; (try dsimp only); (repeat' split) <;> (first | rfl | (simp; done) | (simp [h]; done) | (simp_all; done) | (try simp [h]))
@[simp] theorem State.mayFault_time (s : State) (t : TrowelId) (f : State → State) (h : ∀ s, (f s).time = s.time) :
    (State.mayFault s t f).time = s.time := by
  unfold State.mayFault; (try dsimp only); (repeat' split) <;> (first | rfl | (simp; done) | (simp [h]; done) | (simp_all; done) | (try simp [h]))
@[simp] theorem State.mayFault_thermal (s : State) (t : TrowelId) (f : State → State) (h : ∀ s, (f s).thermal = s.thermal) :
    (State.mayFault s t f).thermal = s.thermal := by
  unfold State.mayFault; (try dsimp only); (repeat' split) <;> (first | rfl | (simp; done) | (simp [h]; done) | (simp_all; done) | (try simp [h]))
@[simp] theorem State.mayFault_light (s : State) (t : TrowelId) (f : State → State) (h : ∀ s, (f s).light = s.light) :
    (State.mayFault s t f).light = s.light := by
  unfold State.mayFault; (try dsimp only); (repeat' split) <;> (first | rfl | (simp; done) | (simp [h]; done) | (simp_all; done) | (try simp [h]))
@[simp] theorem State.mayFault_adcA (s : State) (t : TrowelId) (f : State → State) (h : ∀ s, (f s).adcA = s.adcA) :
    (State.mayFault s t f).adcA = s.adcA := by
  unfold State.mayFault; (try dsimp only); (repeat' split) <;> (first | rfl | (simp; done) | (simp [h]; done) | (simp_all; done) | (try simp [h]))
@[simp] theorem State.mayFault_adcB (s : State) (t : TrowelId) (f : State → State) (h : ∀ s, (f s).adcB = s.adcB) :
    (State.mayFault s t f).adcB = s.adcB := by
  unfold State.mayFault; (try dsimp only); (repeat' split) <;> (first | rfl | (simp; done) | (simp [h]; done) | (simp_all; done) | (try simp [h]))
@[simp] theorem State.mayFault_amb (s : State) (t : TrowelId) (f : State → State) (h : ∀ s, (f s).amb = s.amb) :
    (State.mayFault s t f).amb = s.amb := by
  unfold State.mayFault; (try dsimp only); (repeat' split) <;> (first | rfl | (simp; done) | (simp [h]; done) | (simp_all; done) | (try simp [h]))
@[simp] theorem State.mayFault_ports (s : State) (t : TrowelId) (f : State → State) (h : ∀ s, (f s).ports = s.ports) :
    (State.mayFault s t f).ports = s.ports := by
  unfold State.mayFault; (try dsimp only); (repeat' split) <;> (first | rfl | (simp; done) | (simp [h]; done) | (simp_all; done) | (try simp [h]))
@[simp] theorem State.mayFault_frames (s : State) (t : TrowelId) (f : State → State) (h : ∀ s, (f s).frames = s.frames) :
    (State.mayFault s t f).frames = s.frames := by
  unfold State.mayFault; (try dsimp only); (repeat' split) <;> (first | rfl | (simp; done) | (simp [h]; done) | (simp_all; done) | (try simp [h]))
@[simp] theorem State.mayFault_nextFrame (s : State) (t : TrowelId) (f : State → State) (h : ∀ s, (f s).nextFrame = s.nextFrame) :
    (State.mayFault s t f).nextFrame = s.nextFrame := by
  unfold State.mayFault; (try dsimp only); (repeat' split) <;> (first | rfl | (simp; done) | (simp [h]; done) | (simp_all; done) | (try simp [h]))
@[simp] theorem State.mayFault_ctxs (s : State) (t : TrowelId) (f : State → State) (h : ∀ s, (f s).ctxs = s.ctxs) :
    (State.mayFault s t f).ctxs = s.ctxs := by
  unfold State.mayFault; (try dsimp only); (repeat' split) <;> (first | rfl | (simp; done) | (simp [h]; done) | (simp_all; done) | (try simp [h]))
@[simp] theorem State.mayFault_dec (s : State) (t : TrowelId) (f : State → State) (h : ∀ s, (f s).dec = s.dec) :
    (State.mayFault s t f).dec = s.dec := by
  unfold State.mayFault; (try dsimp only); (repeat' split) <;> (first | rfl | (simp; done) | (simp [h]; done) | (simp_all; done) | (try simp [h]))
@[simp] theorem State.mayFault_vs (s : State) (t : TrowelId) (f : State → State) (h : ∀ s, (f s).vs = s.vs) :
    (State.mayFault s t f).vs = s.vs := by
  unfold State.mayFault; (try dsimp only); (repeat' split) <;> (first | rfl | (simp; done) | (simp [h]; done) | (simp_all; done) | (try simp [h]))
@[simp] theorem State.mayFault_former (s : State) (t : TrowelId) (f : State → State) (h : ∀ s, (f s).former = s.former) :
    (State.mayFault s t f).former = s.former := by
  unfold State.mayFault; (try dsimp only); (repeat' split) <;> (first | rfl | (simp; done) | (simp [h]; done) | (simp_all; done) | (try simp [h]))
@[simp] theorem State.mayFault_usb (s : State) (t : TrowelId) (f : State → State) (h : ∀ s, (f s).usb = s.usb) :
    (State.mayFault s t f).usb = s.usb := by
  unfold State.mayFault; (try dsimp only); (repeat' split) <;> (first | rfl | (simp; done) | (simp [h]; done) | (simp_all; done) | (try simp [h]))
@[simp] theorem State.mayFault_ser (s : State) (t : TrowelId) (f : State → State) (h : ∀ s, (f s).ser = s.ser) :
    (State.mayFault s t f).ser = s.ser := by
  unfold State.mayFault; (try dsimp only); (repeat' split) <;> (first | rfl | (simp; done) | (simp [h]; done) | (simp_all; done) | (try simp [h]))
@[simp] theorem State.mayFault_pair (s : State) (t : TrowelId) (f : State → State) (h : ∀ s, (f s).pair = s.pair) :
    (State.mayFault s t f).pair = s.pair := by
  unfold State.mayFault; (try dsimp only); (repeat' split) <;> (first | rfl | (simp; done) | (simp [h]; done) | (simp_all; done) | (try simp [h]))
@[simp] theorem State.mayFault_fab (s : State) (t : TrowelId) (f : State → State) (h : ∀ s, (f s).fab = s.fab) :
    (State.mayFault s t f).fab = s.fab := by
  unfold State.mayFault; (try dsimp only); (repeat' split) <;> (first | rfl | (simp; done) | (simp [h]; done) | (simp_all; done) | (try simp [h]))
@[simp] theorem State.mayFault_fresh (s : State) (t : TrowelId) (f : State → State) (h : ∀ s, (f s).fresh = s.fresh) :
    (State.mayFault s t f).fresh = s.fresh := by
  unfold State.mayFault; (try dsimp only); (repeat' split) <;> (first | rfl | (simp; done) | (simp [h]; done) | (simp_all; done) | (try simp [h]))
@[simp] theorem State.mayFault_pipe (s : State) (t : TrowelId) (f : State → State) (h : ∀ s, (f s).pipe = s.pipe) :
    (State.mayFault s t f).pipe = s.pipe := by
  unfold State.mayFault; (try dsimp only); (repeat' split) <;> (first | rfl | (simp; done) | (simp [h]; done) | (simp_all; done) | (try simp [h]))
theorem execAdd_frame (t : TrowelId) (rd ra rb : RegId) (s : State) :
    ∃ u, execAdd t rd ra rb s = .next u ∧
    u.pending = s.pending ∧ u.identity = s.identity ∧ u.aon = s.aon ∧ u.pins = s.pins ∧ u.phase = s.phase ∧ u.boot = s.boot ∧ u.sys = s.sys ∧ u.balls = s.balls ∧ u.fields = s.fields ∧ u.shadow = s.shadow ∧ u.faulted = s.faulted ∧ u.bb = s.bb ∧ u.tap = s.tap ∧ u.time = s.time ∧ u.thermal = s.thermal ∧ u.light = s.light ∧ u.adcA = s.adcA ∧ u.adcB = s.adcB ∧ u.amb = s.amb ∧ u.ports = s.ports ∧ u.frames = s.frames ∧ u.nextFrame = s.nextFrame ∧ u.pipe = s.pipe ∧ u.ctxs = s.ctxs ∧ u.dec = s.dec ∧ u.vs = s.vs ∧ u.former = s.former ∧ u.usb = s.usb ∧ u.ser = s.ser ∧ u.pair = s.pair ∧ u.fab = s.fab ∧ u.fresh = s.fresh := by
  refine ⟨_, rfl, ?_⟩
  first
  | (simp; done)
  | ((try simp only [State.whenRun, State.access, State.packet]); (repeat' split) <;> (first | rfl | (simp; done) | (simp_all; done) | (try simp)))
theorem execSub_frame (t : TrowelId) (rd ra rb : RegId) (s : State) :
    ∃ u, execSub t rd ra rb s = .next u ∧
    u.pending = s.pending ∧ u.identity = s.identity ∧ u.aon = s.aon ∧ u.pins = s.pins ∧ u.phase = s.phase ∧ u.boot = s.boot ∧ u.sys = s.sys ∧ u.balls = s.balls ∧ u.fields = s.fields ∧ u.shadow = s.shadow ∧ u.faulted = s.faulted ∧ u.bb = s.bb ∧ u.tap = s.tap ∧ u.time = s.time ∧ u.thermal = s.thermal ∧ u.light = s.light ∧ u.adcA = s.adcA ∧ u.adcB = s.adcB ∧ u.amb = s.amb ∧ u.ports = s.ports ∧ u.frames = s.frames ∧ u.nextFrame = s.nextFrame ∧ u.pipe = s.pipe ∧ u.ctxs = s.ctxs ∧ u.dec = s.dec ∧ u.vs = s.vs ∧ u.former = s.former ∧ u.usb = s.usb ∧ u.ser = s.ser ∧ u.pair = s.pair ∧ u.fab = s.fab ∧ u.fresh = s.fresh := by
  refine ⟨_, rfl, ?_⟩
  first
  | (simp; done)
  | ((try simp only [State.whenRun, State.access, State.packet]); (repeat' split) <;> (first | rfl | (simp; done) | (simp_all; done) | (try simp)))
theorem execAnd_frame (t : TrowelId) (rd ra rb : RegId) (s : State) :
    ∃ u, execAnd t rd ra rb s = .next u ∧
    u.pending = s.pending ∧ u.identity = s.identity ∧ u.aon = s.aon ∧ u.pins = s.pins ∧ u.phase = s.phase ∧ u.boot = s.boot ∧ u.sys = s.sys ∧ u.balls = s.balls ∧ u.fields = s.fields ∧ u.shadow = s.shadow ∧ u.faulted = s.faulted ∧ u.bb = s.bb ∧ u.tap = s.tap ∧ u.time = s.time ∧ u.thermal = s.thermal ∧ u.light = s.light ∧ u.adcA = s.adcA ∧ u.adcB = s.adcB ∧ u.amb = s.amb ∧ u.ports = s.ports ∧ u.frames = s.frames ∧ u.nextFrame = s.nextFrame ∧ u.pipe = s.pipe ∧ u.ctxs = s.ctxs ∧ u.dec = s.dec ∧ u.vs = s.vs ∧ u.former = s.former ∧ u.usb = s.usb ∧ u.ser = s.ser ∧ u.pair = s.pair ∧ u.fab = s.fab ∧ u.fresh = s.fresh := by
  refine ⟨_, rfl, ?_⟩
  first
  | (simp; done)
  | ((try simp only [State.whenRun, State.access, State.packet]); (repeat' split) <;> (first | rfl | (simp; done) | (simp_all; done) | (try simp)))
theorem execOr_frame (t : TrowelId) (rd ra rb : RegId) (s : State) :
    ∃ u, execOr t rd ra rb s = .next u ∧
    u.pending = s.pending ∧ u.identity = s.identity ∧ u.aon = s.aon ∧ u.pins = s.pins ∧ u.phase = s.phase ∧ u.boot = s.boot ∧ u.sys = s.sys ∧ u.balls = s.balls ∧ u.fields = s.fields ∧ u.shadow = s.shadow ∧ u.faulted = s.faulted ∧ u.bb = s.bb ∧ u.tap = s.tap ∧ u.time = s.time ∧ u.thermal = s.thermal ∧ u.light = s.light ∧ u.adcA = s.adcA ∧ u.adcB = s.adcB ∧ u.amb = s.amb ∧ u.ports = s.ports ∧ u.frames = s.frames ∧ u.nextFrame = s.nextFrame ∧ u.pipe = s.pipe ∧ u.ctxs = s.ctxs ∧ u.dec = s.dec ∧ u.vs = s.vs ∧ u.former = s.former ∧ u.usb = s.usb ∧ u.ser = s.ser ∧ u.pair = s.pair ∧ u.fab = s.fab ∧ u.fresh = s.fresh := by
  refine ⟨_, rfl, ?_⟩
  first
  | (simp; done)
  | ((try simp only [State.whenRun, State.access, State.packet]); (repeat' split) <;> (first | rfl | (simp; done) | (simp_all; done) | (try simp)))
theorem execXor_frame (t : TrowelId) (rd ra rb : RegId) (s : State) :
    ∃ u, execXor t rd ra rb s = .next u ∧
    u.pending = s.pending ∧ u.identity = s.identity ∧ u.aon = s.aon ∧ u.pins = s.pins ∧ u.phase = s.phase ∧ u.boot = s.boot ∧ u.sys = s.sys ∧ u.balls = s.balls ∧ u.fields = s.fields ∧ u.shadow = s.shadow ∧ u.faulted = s.faulted ∧ u.bb = s.bb ∧ u.tap = s.tap ∧ u.time = s.time ∧ u.thermal = s.thermal ∧ u.light = s.light ∧ u.adcA = s.adcA ∧ u.adcB = s.adcB ∧ u.amb = s.amb ∧ u.ports = s.ports ∧ u.frames = s.frames ∧ u.nextFrame = s.nextFrame ∧ u.pipe = s.pipe ∧ u.ctxs = s.ctxs ∧ u.dec = s.dec ∧ u.vs = s.vs ∧ u.former = s.former ∧ u.usb = s.usb ∧ u.ser = s.ser ∧ u.pair = s.pair ∧ u.fab = s.fab ∧ u.fresh = s.fresh := by
  refine ⟨_, rfl, ?_⟩
  first
  | (simp; done)
  | ((try simp only [State.whenRun, State.access, State.packet]); (repeat' split) <;> (first | rfl | (simp; done) | (simp_all; done) | (try simp)))
theorem execMul_frame (t : TrowelId) (rd ra rb : RegId) (s : State) :
    ∃ u, execMul t rd ra rb s = .next u ∧
    u.pending = s.pending ∧ u.identity = s.identity ∧ u.aon = s.aon ∧ u.pins = s.pins ∧ u.phase = s.phase ∧ u.boot = s.boot ∧ u.sys = s.sys ∧ u.balls = s.balls ∧ u.fields = s.fields ∧ u.shadow = s.shadow ∧ u.faulted = s.faulted ∧ u.bb = s.bb ∧ u.tap = s.tap ∧ u.time = s.time ∧ u.thermal = s.thermal ∧ u.light = s.light ∧ u.adcA = s.adcA ∧ u.adcB = s.adcB ∧ u.amb = s.amb ∧ u.ports = s.ports ∧ u.frames = s.frames ∧ u.nextFrame = s.nextFrame ∧ u.pipe = s.pipe ∧ u.ctxs = s.ctxs ∧ u.dec = s.dec ∧ u.vs = s.vs ∧ u.former = s.former ∧ u.usb = s.usb ∧ u.ser = s.ser ∧ u.pair = s.pair ∧ u.fab = s.fab ∧ u.fresh = s.fresh := by
  refine ⟨_, rfl, ?_⟩
  first
  | (simp; done)
  | ((try simp only [State.whenRun, State.access, State.packet]); (repeat' split) <;> (first | rfl | (simp; done) | (simp_all; done) | (try simp)))
theorem execMulhu_frame (t : TrowelId) (rd ra rb : RegId) (s : State) :
    ∃ u, execMulhu t rd ra rb s = .next u ∧
    u.pending = s.pending ∧ u.identity = s.identity ∧ u.aon = s.aon ∧ u.pins = s.pins ∧ u.phase = s.phase ∧ u.boot = s.boot ∧ u.sys = s.sys ∧ u.balls = s.balls ∧ u.fields = s.fields ∧ u.shadow = s.shadow ∧ u.faulted = s.faulted ∧ u.bb = s.bb ∧ u.tap = s.tap ∧ u.time = s.time ∧ u.thermal = s.thermal ∧ u.light = s.light ∧ u.adcA = s.adcA ∧ u.adcB = s.adcB ∧ u.amb = s.amb ∧ u.ports = s.ports ∧ u.frames = s.frames ∧ u.nextFrame = s.nextFrame ∧ u.pipe = s.pipe ∧ u.ctxs = s.ctxs ∧ u.dec = s.dec ∧ u.vs = s.vs ∧ u.former = s.former ∧ u.usb = s.usb ∧ u.ser = s.ser ∧ u.pair = s.pair ∧ u.fab = s.fab ∧ u.fresh = s.fresh := by
  refine ⟨_, rfl, ?_⟩
  first
  | (simp; done)
  | ((try simp only [State.whenRun, State.access, State.packet]); (repeat' split) <;> (first | rfl | (simp; done) | (simp_all; done) | (try simp)))
theorem execMulhs_frame (t : TrowelId) (rd ra rb : RegId) (s : State) :
    ∃ u, execMulhs t rd ra rb s = .next u ∧
    u.pending = s.pending ∧ u.identity = s.identity ∧ u.aon = s.aon ∧ u.pins = s.pins ∧ u.phase = s.phase ∧ u.boot = s.boot ∧ u.sys = s.sys ∧ u.balls = s.balls ∧ u.fields = s.fields ∧ u.shadow = s.shadow ∧ u.faulted = s.faulted ∧ u.bb = s.bb ∧ u.tap = s.tap ∧ u.time = s.time ∧ u.thermal = s.thermal ∧ u.light = s.light ∧ u.adcA = s.adcA ∧ u.adcB = s.adcB ∧ u.amb = s.amb ∧ u.ports = s.ports ∧ u.frames = s.frames ∧ u.nextFrame = s.nextFrame ∧ u.pipe = s.pipe ∧ u.ctxs = s.ctxs ∧ u.dec = s.dec ∧ u.vs = s.vs ∧ u.former = s.former ∧ u.usb = s.usb ∧ u.ser = s.ser ∧ u.pair = s.pair ∧ u.fab = s.fab ∧ u.fresh = s.fresh := by
  refine ⟨_, rfl, ?_⟩
  first
  | (simp; done)
  | ((try simp only [State.whenRun, State.access, State.packet]); (repeat' split) <;> (first | rfl | (simp; done) | (simp_all; done) | (try simp)))
theorem execMinu_frame (t : TrowelId) (rd ra rb : RegId) (s : State) :
    ∃ u, execMinu t rd ra rb s = .next u ∧
    u.pending = s.pending ∧ u.identity = s.identity ∧ u.aon = s.aon ∧ u.pins = s.pins ∧ u.phase = s.phase ∧ u.boot = s.boot ∧ u.sys = s.sys ∧ u.balls = s.balls ∧ u.fields = s.fields ∧ u.shadow = s.shadow ∧ u.faulted = s.faulted ∧ u.bb = s.bb ∧ u.tap = s.tap ∧ u.time = s.time ∧ u.thermal = s.thermal ∧ u.light = s.light ∧ u.adcA = s.adcA ∧ u.adcB = s.adcB ∧ u.amb = s.amb ∧ u.ports = s.ports ∧ u.frames = s.frames ∧ u.nextFrame = s.nextFrame ∧ u.pipe = s.pipe ∧ u.ctxs = s.ctxs ∧ u.dec = s.dec ∧ u.vs = s.vs ∧ u.former = s.former ∧ u.usb = s.usb ∧ u.ser = s.ser ∧ u.pair = s.pair ∧ u.fab = s.fab ∧ u.fresh = s.fresh := by
  refine ⟨_, rfl, ?_⟩
  first
  | (simp; done)
  | ((try simp only [State.whenRun, State.access, State.packet]); (repeat' split) <;> (first | rfl | (simp; done) | (simp_all; done) | (try simp)))
theorem execMaxu_frame (t : TrowelId) (rd ra rb : RegId) (s : State) :
    ∃ u, execMaxu t rd ra rb s = .next u ∧
    u.pending = s.pending ∧ u.identity = s.identity ∧ u.aon = s.aon ∧ u.pins = s.pins ∧ u.phase = s.phase ∧ u.boot = s.boot ∧ u.sys = s.sys ∧ u.balls = s.balls ∧ u.fields = s.fields ∧ u.shadow = s.shadow ∧ u.faulted = s.faulted ∧ u.bb = s.bb ∧ u.tap = s.tap ∧ u.time = s.time ∧ u.thermal = s.thermal ∧ u.light = s.light ∧ u.adcA = s.adcA ∧ u.adcB = s.adcB ∧ u.amb = s.amb ∧ u.ports = s.ports ∧ u.frames = s.frames ∧ u.nextFrame = s.nextFrame ∧ u.pipe = s.pipe ∧ u.ctxs = s.ctxs ∧ u.dec = s.dec ∧ u.vs = s.vs ∧ u.former = s.former ∧ u.usb = s.usb ∧ u.ser = s.ser ∧ u.pair = s.pair ∧ u.fab = s.fab ∧ u.fresh = s.fresh := by
  refine ⟨_, rfl, ?_⟩
  first
  | (simp; done)
  | ((try simp only [State.whenRun, State.access, State.packet]); (repeat' split) <;> (first | rfl | (simp; done) | (simp_all; done) | (try simp)))
theorem execShl_frame (t : TrowelId) (rd ra rb : RegId) (s : State) :
    ∃ u, execShl t rd ra rb s = .next u ∧
    u.pending = s.pending ∧ u.identity = s.identity ∧ u.aon = s.aon ∧ u.pins = s.pins ∧ u.phase = s.phase ∧ u.boot = s.boot ∧ u.sys = s.sys ∧ u.balls = s.balls ∧ u.fields = s.fields ∧ u.shadow = s.shadow ∧ u.faulted = s.faulted ∧ u.bb = s.bb ∧ u.tap = s.tap ∧ u.time = s.time ∧ u.thermal = s.thermal ∧ u.light = s.light ∧ u.adcA = s.adcA ∧ u.adcB = s.adcB ∧ u.amb = s.amb ∧ u.ports = s.ports ∧ u.frames = s.frames ∧ u.nextFrame = s.nextFrame ∧ u.pipe = s.pipe ∧ u.ctxs = s.ctxs ∧ u.dec = s.dec ∧ u.vs = s.vs ∧ u.former = s.former ∧ u.usb = s.usb ∧ u.ser = s.ser ∧ u.pair = s.pair ∧ u.fab = s.fab ∧ u.fresh = s.fresh := by
  refine ⟨_, rfl, ?_⟩
  first
  | (simp; done)
  | ((try simp only [State.whenRun, State.access, State.packet]); (repeat' split) <;> (first | rfl | (simp; done) | (simp_all; done) | (try simp)))
theorem execShr_frame (t : TrowelId) (rd ra rb : RegId) (s : State) :
    ∃ u, execShr t rd ra rb s = .next u ∧
    u.pending = s.pending ∧ u.identity = s.identity ∧ u.aon = s.aon ∧ u.pins = s.pins ∧ u.phase = s.phase ∧ u.boot = s.boot ∧ u.sys = s.sys ∧ u.balls = s.balls ∧ u.fields = s.fields ∧ u.shadow = s.shadow ∧ u.faulted = s.faulted ∧ u.bb = s.bb ∧ u.tap = s.tap ∧ u.time = s.time ∧ u.thermal = s.thermal ∧ u.light = s.light ∧ u.adcA = s.adcA ∧ u.adcB = s.adcB ∧ u.amb = s.amb ∧ u.ports = s.ports ∧ u.frames = s.frames ∧ u.nextFrame = s.nextFrame ∧ u.pipe = s.pipe ∧ u.ctxs = s.ctxs ∧ u.dec = s.dec ∧ u.vs = s.vs ∧ u.former = s.former ∧ u.usb = s.usb ∧ u.ser = s.ser ∧ u.pair = s.pair ∧ u.fab = s.fab ∧ u.fresh = s.fresh := by
  refine ⟨_, rfl, ?_⟩
  first
  | (simp; done)
  | ((try simp only [State.whenRun, State.access, State.packet]); (repeat' split) <;> (first | rfl | (simp; done) | (simp_all; done) | (try simp)))
theorem execSar_frame (t : TrowelId) (rd ra rb : RegId) (s : State) :
    ∃ u, execSar t rd ra rb s = .next u ∧
    u.pending = s.pending ∧ u.identity = s.identity ∧ u.aon = s.aon ∧ u.pins = s.pins ∧ u.phase = s.phase ∧ u.boot = s.boot ∧ u.sys = s.sys ∧ u.balls = s.balls ∧ u.fields = s.fields ∧ u.shadow = s.shadow ∧ u.faulted = s.faulted ∧ u.bb = s.bb ∧ u.tap = s.tap ∧ u.time = s.time ∧ u.thermal = s.thermal ∧ u.light = s.light ∧ u.adcA = s.adcA ∧ u.adcB = s.adcB ∧ u.amb = s.amb ∧ u.ports = s.ports ∧ u.frames = s.frames ∧ u.nextFrame = s.nextFrame ∧ u.pipe = s.pipe ∧ u.ctxs = s.ctxs ∧ u.dec = s.dec ∧ u.vs = s.vs ∧ u.former = s.former ∧ u.usb = s.usb ∧ u.ser = s.ser ∧ u.pair = s.pair ∧ u.fab = s.fab ∧ u.fresh = s.fresh := by
  refine ⟨_, rfl, ?_⟩
  first
  | (simp; done)
  | ((try simp only [State.whenRun, State.access, State.packet]); (repeat' split) <;> (first | rfl | (simp; done) | (simp_all; done) | (try simp)))
theorem execCmp_frame (t : TrowelId) (ra rb : RegId) (s : State) :
    ∃ u, execCmp t ra rb s = .next u ∧
    u.pending = s.pending ∧ u.identity = s.identity ∧ u.aon = s.aon ∧ u.pins = s.pins ∧ u.phase = s.phase ∧ u.boot = s.boot ∧ u.sys = s.sys ∧ u.balls = s.balls ∧ u.fields = s.fields ∧ u.shadow = s.shadow ∧ u.faulted = s.faulted ∧ u.bb = s.bb ∧ u.tap = s.tap ∧ u.time = s.time ∧ u.thermal = s.thermal ∧ u.light = s.light ∧ u.adcA = s.adcA ∧ u.adcB = s.adcB ∧ u.amb = s.amb ∧ u.ports = s.ports ∧ u.frames = s.frames ∧ u.nextFrame = s.nextFrame ∧ u.pipe = s.pipe ∧ u.ctxs = s.ctxs ∧ u.dec = s.dec ∧ u.vs = s.vs ∧ u.former = s.former ∧ u.usb = s.usb ∧ u.ser = s.ser ∧ u.pair = s.pair ∧ u.fab = s.fab ∧ u.fresh = s.fresh := by
  refine ⟨_, rfl, ?_⟩
  first
  | (simp; done)
  | ((try simp only [State.whenRun, State.access, State.packet]); (repeat' split) <;> (first | rfl | (simp; done) | (simp_all; done) | (try simp)))
theorem execTst_frame (t : TrowelId) (ra rb : RegId) (s : State) :
    ∃ u, execTst t ra rb s = .next u ∧
    u.pending = s.pending ∧ u.identity = s.identity ∧ u.aon = s.aon ∧ u.pins = s.pins ∧ u.phase = s.phase ∧ u.boot = s.boot ∧ u.sys = s.sys ∧ u.balls = s.balls ∧ u.fields = s.fields ∧ u.shadow = s.shadow ∧ u.faulted = s.faulted ∧ u.bb = s.bb ∧ u.tap = s.tap ∧ u.time = s.time ∧ u.thermal = s.thermal ∧ u.light = s.light ∧ u.adcA = s.adcA ∧ u.adcB = s.adcB ∧ u.amb = s.amb ∧ u.ports = s.ports ∧ u.frames = s.frames ∧ u.nextFrame = s.nextFrame ∧ u.pipe = s.pipe ∧ u.ctxs = s.ctxs ∧ u.dec = s.dec ∧ u.vs = s.vs ∧ u.former = s.former ∧ u.usb = s.usb ∧ u.ser = s.ser ∧ u.pair = s.pair ∧ u.fab = s.fab ∧ u.fresh = s.fresh := by
  refine ⟨_, rfl, ?_⟩
  first
  | (simp; done)
  | ((try simp only [State.whenRun, State.access, State.packet]); (repeat' split) <;> (first | rfl | (simp; done) | (simp_all; done) | (try simp)))
theorem execMov_frame (t : TrowelId) (rd ra : RegId) (s : State) :
    ∃ u, execMov t rd ra s = .next u ∧
    u.pending = s.pending ∧ u.identity = s.identity ∧ u.aon = s.aon ∧ u.pins = s.pins ∧ u.phase = s.phase ∧ u.boot = s.boot ∧ u.sys = s.sys ∧ u.balls = s.balls ∧ u.fields = s.fields ∧ u.shadow = s.shadow ∧ u.faulted = s.faulted ∧ u.bb = s.bb ∧ u.tap = s.tap ∧ u.time = s.time ∧ u.thermal = s.thermal ∧ u.light = s.light ∧ u.adcA = s.adcA ∧ u.adcB = s.adcB ∧ u.amb = s.amb ∧ u.ports = s.ports ∧ u.frames = s.frames ∧ u.nextFrame = s.nextFrame ∧ u.pipe = s.pipe ∧ u.ctxs = s.ctxs ∧ u.dec = s.dec ∧ u.vs = s.vs ∧ u.former = s.former ∧ u.usb = s.usb ∧ u.ser = s.ser ∧ u.pair = s.pair ∧ u.fab = s.fab ∧ u.fresh = s.fresh := by
  refine ⟨_, rfl, ?_⟩
  first
  | (simp; done)
  | ((try simp only [State.whenRun, State.access, State.packet]); (repeat' split) <;> (first | rfl | (simp; done) | (simp_all; done) | (try simp)))
theorem execClz_frame (t : TrowelId) (rd ra : RegId) (s : State) :
    ∃ u, execClz t rd ra s = .next u ∧
    u.pending = s.pending ∧ u.identity = s.identity ∧ u.aon = s.aon ∧ u.pins = s.pins ∧ u.phase = s.phase ∧ u.boot = s.boot ∧ u.sys = s.sys ∧ u.balls = s.balls ∧ u.fields = s.fields ∧ u.shadow = s.shadow ∧ u.faulted = s.faulted ∧ u.bb = s.bb ∧ u.tap = s.tap ∧ u.time = s.time ∧ u.thermal = s.thermal ∧ u.light = s.light ∧ u.adcA = s.adcA ∧ u.adcB = s.adcB ∧ u.amb = s.amb ∧ u.ports = s.ports ∧ u.frames = s.frames ∧ u.nextFrame = s.nextFrame ∧ u.pipe = s.pipe ∧ u.ctxs = s.ctxs ∧ u.dec = s.dec ∧ u.vs = s.vs ∧ u.former = s.former ∧ u.usb = s.usb ∧ u.ser = s.ser ∧ u.pair = s.pair ∧ u.fab = s.fab ∧ u.fresh = s.fresh := by
  refine ⟨_, rfl, ?_⟩
  first
  | (simp; done)
  | ((try simp only [State.whenRun, State.access, State.packet]); (repeat' split) <;> (first | rfl | (simp; done) | (simp_all; done) | (try simp)))
theorem execAddi_frame (t : TrowelId) (rd ra : RegId) (imm : BitVec 18) (s : State) :
    ∃ u, execAddi t rd ra imm s = .next u ∧
    u.pending = s.pending ∧ u.identity = s.identity ∧ u.aon = s.aon ∧ u.pins = s.pins ∧ u.phase = s.phase ∧ u.boot = s.boot ∧ u.sys = s.sys ∧ u.balls = s.balls ∧ u.fields = s.fields ∧ u.shadow = s.shadow ∧ u.faulted = s.faulted ∧ u.bb = s.bb ∧ u.tap = s.tap ∧ u.time = s.time ∧ u.thermal = s.thermal ∧ u.light = s.light ∧ u.adcA = s.adcA ∧ u.adcB = s.adcB ∧ u.amb = s.amb ∧ u.ports = s.ports ∧ u.frames = s.frames ∧ u.nextFrame = s.nextFrame ∧ u.pipe = s.pipe ∧ u.ctxs = s.ctxs ∧ u.dec = s.dec ∧ u.vs = s.vs ∧ u.former = s.former ∧ u.usb = s.usb ∧ u.ser = s.ser ∧ u.pair = s.pair ∧ u.fab = s.fab ∧ u.fresh = s.fresh := by
  refine ⟨_, rfl, ?_⟩
  first
  | (simp; done)
  | ((try simp only [State.whenRun, State.access, State.packet]); (repeat' split) <;> (first | rfl | (simp; done) | (simp_all; done) | (try simp)))
theorem execAndi_frame (t : TrowelId) (rd ra : RegId) (imm : BitVec 18) (s : State) :
    ∃ u, execAndi t rd ra imm s = .next u ∧
    u.pending = s.pending ∧ u.identity = s.identity ∧ u.aon = s.aon ∧ u.pins = s.pins ∧ u.phase = s.phase ∧ u.boot = s.boot ∧ u.sys = s.sys ∧ u.balls = s.balls ∧ u.fields = s.fields ∧ u.shadow = s.shadow ∧ u.faulted = s.faulted ∧ u.bb = s.bb ∧ u.tap = s.tap ∧ u.time = s.time ∧ u.thermal = s.thermal ∧ u.light = s.light ∧ u.adcA = s.adcA ∧ u.adcB = s.adcB ∧ u.amb = s.amb ∧ u.ports = s.ports ∧ u.frames = s.frames ∧ u.nextFrame = s.nextFrame ∧ u.pipe = s.pipe ∧ u.ctxs = s.ctxs ∧ u.dec = s.dec ∧ u.vs = s.vs ∧ u.former = s.former ∧ u.usb = s.usb ∧ u.ser = s.ser ∧ u.pair = s.pair ∧ u.fab = s.fab ∧ u.fresh = s.fresh := by
  refine ⟨_, rfl, ?_⟩
  first
  | (simp; done)
  | ((try simp only [State.whenRun, State.access, State.packet]); (repeat' split) <;> (first | rfl | (simp; done) | (simp_all; done) | (try simp)))
theorem execOri_frame (t : TrowelId) (rd ra : RegId) (imm : BitVec 18) (s : State) :
    ∃ u, execOri t rd ra imm s = .next u ∧
    u.pending = s.pending ∧ u.identity = s.identity ∧ u.aon = s.aon ∧ u.pins = s.pins ∧ u.phase = s.phase ∧ u.boot = s.boot ∧ u.sys = s.sys ∧ u.balls = s.balls ∧ u.fields = s.fields ∧ u.shadow = s.shadow ∧ u.faulted = s.faulted ∧ u.bb = s.bb ∧ u.tap = s.tap ∧ u.time = s.time ∧ u.thermal = s.thermal ∧ u.light = s.light ∧ u.adcA = s.adcA ∧ u.adcB = s.adcB ∧ u.amb = s.amb ∧ u.ports = s.ports ∧ u.frames = s.frames ∧ u.nextFrame = s.nextFrame ∧ u.pipe = s.pipe ∧ u.ctxs = s.ctxs ∧ u.dec = s.dec ∧ u.vs = s.vs ∧ u.former = s.former ∧ u.usb = s.usb ∧ u.ser = s.ser ∧ u.pair = s.pair ∧ u.fab = s.fab ∧ u.fresh = s.fresh := by
  refine ⟨_, rfl, ?_⟩
  first
  | (simp; done)
  | ((try simp only [State.whenRun, State.access, State.packet]); (repeat' split) <;> (first | rfl | (simp; done) | (simp_all; done) | (try simp)))
theorem execXori_frame (t : TrowelId) (rd ra : RegId) (imm : BitVec 18) (s : State) :
    ∃ u, execXori t rd ra imm s = .next u ∧
    u.pending = s.pending ∧ u.identity = s.identity ∧ u.aon = s.aon ∧ u.pins = s.pins ∧ u.phase = s.phase ∧ u.boot = s.boot ∧ u.sys = s.sys ∧ u.balls = s.balls ∧ u.fields = s.fields ∧ u.shadow = s.shadow ∧ u.faulted = s.faulted ∧ u.bb = s.bb ∧ u.tap = s.tap ∧ u.time = s.time ∧ u.thermal = s.thermal ∧ u.light = s.light ∧ u.adcA = s.adcA ∧ u.adcB = s.adcB ∧ u.amb = s.amb ∧ u.ports = s.ports ∧ u.frames = s.frames ∧ u.nextFrame = s.nextFrame ∧ u.pipe = s.pipe ∧ u.ctxs = s.ctxs ∧ u.dec = s.dec ∧ u.vs = s.vs ∧ u.former = s.former ∧ u.usb = s.usb ∧ u.ser = s.ser ∧ u.pair = s.pair ∧ u.fab = s.fab ∧ u.fresh = s.fresh := by
  refine ⟨_, rfl, ?_⟩
  first
  | (simp; done)
  | ((try simp only [State.whenRun, State.access, State.packet]); (repeat' split) <;> (first | rfl | (simp; done) | (simp_all; done) | (try simp)))
theorem execShli_frame (t : TrowelId) (rd ra : RegId) (n : BitVec 5) (s : State) :
    ∃ u, execShli t rd ra n s = .next u ∧
    u.pending = s.pending ∧ u.identity = s.identity ∧ u.aon = s.aon ∧ u.pins = s.pins ∧ u.phase = s.phase ∧ u.boot = s.boot ∧ u.sys = s.sys ∧ u.balls = s.balls ∧ u.fields = s.fields ∧ u.shadow = s.shadow ∧ u.faulted = s.faulted ∧ u.bb = s.bb ∧ u.tap = s.tap ∧ u.time = s.time ∧ u.thermal = s.thermal ∧ u.light = s.light ∧ u.adcA = s.adcA ∧ u.adcB = s.adcB ∧ u.amb = s.amb ∧ u.ports = s.ports ∧ u.frames = s.frames ∧ u.nextFrame = s.nextFrame ∧ u.pipe = s.pipe ∧ u.ctxs = s.ctxs ∧ u.dec = s.dec ∧ u.vs = s.vs ∧ u.former = s.former ∧ u.usb = s.usb ∧ u.ser = s.ser ∧ u.pair = s.pair ∧ u.fab = s.fab ∧ u.fresh = s.fresh := by
  refine ⟨_, rfl, ?_⟩
  first
  | (simp; done)
  | ((try simp only [State.whenRun, State.access, State.packet]); (repeat' split) <;> (first | rfl | (simp; done) | (simp_all; done) | (try simp)))
theorem execShri_frame (t : TrowelId) (rd ra : RegId) (n : BitVec 5) (s : State) :
    ∃ u, execShri t rd ra n s = .next u ∧
    u.pending = s.pending ∧ u.identity = s.identity ∧ u.aon = s.aon ∧ u.pins = s.pins ∧ u.phase = s.phase ∧ u.boot = s.boot ∧ u.sys = s.sys ∧ u.balls = s.balls ∧ u.fields = s.fields ∧ u.shadow = s.shadow ∧ u.faulted = s.faulted ∧ u.bb = s.bb ∧ u.tap = s.tap ∧ u.time = s.time ∧ u.thermal = s.thermal ∧ u.light = s.light ∧ u.adcA = s.adcA ∧ u.adcB = s.adcB ∧ u.amb = s.amb ∧ u.ports = s.ports ∧ u.frames = s.frames ∧ u.nextFrame = s.nextFrame ∧ u.pipe = s.pipe ∧ u.ctxs = s.ctxs ∧ u.dec = s.dec ∧ u.vs = s.vs ∧ u.former = s.former ∧ u.usb = s.usb ∧ u.ser = s.ser ∧ u.pair = s.pair ∧ u.fab = s.fab ∧ u.fresh = s.fresh := by
  refine ⟨_, rfl, ?_⟩
  first
  | (simp; done)
  | ((try simp only [State.whenRun, State.access, State.packet]); (repeat' split) <;> (first | rfl | (simp; done) | (simp_all; done) | (try simp)))
theorem execSari_frame (t : TrowelId) (rd ra : RegId) (n : BitVec 5) (s : State) :
    ∃ u, execSari t rd ra n s = .next u ∧
    u.pending = s.pending ∧ u.identity = s.identity ∧ u.aon = s.aon ∧ u.pins = s.pins ∧ u.phase = s.phase ∧ u.boot = s.boot ∧ u.sys = s.sys ∧ u.balls = s.balls ∧ u.fields = s.fields ∧ u.shadow = s.shadow ∧ u.faulted = s.faulted ∧ u.bb = s.bb ∧ u.tap = s.tap ∧ u.time = s.time ∧ u.thermal = s.thermal ∧ u.light = s.light ∧ u.adcA = s.adcA ∧ u.adcB = s.adcB ∧ u.amb = s.amb ∧ u.ports = s.ports ∧ u.frames = s.frames ∧ u.nextFrame = s.nextFrame ∧ u.pipe = s.pipe ∧ u.ctxs = s.ctxs ∧ u.dec = s.dec ∧ u.vs = s.vs ∧ u.former = s.former ∧ u.usb = s.usb ∧ u.ser = s.ser ∧ u.pair = s.pair ∧ u.fab = s.fab ∧ u.fresh = s.fresh := by
  refine ⟨_, rfl, ?_⟩
  first
  | (simp; done)
  | ((try simp only [State.whenRun, State.access, State.packet]); (repeat' split) <;> (first | rfl | (simp; done) | (simp_all; done) | (try simp)))
theorem execCmpi_frame (t : TrowelId) (ra : RegId) (imm : BitVec 18) (s : State) :
    ∃ u, execCmpi t ra imm s = .next u ∧
    u.pending = s.pending ∧ u.identity = s.identity ∧ u.aon = s.aon ∧ u.pins = s.pins ∧ u.phase = s.phase ∧ u.boot = s.boot ∧ u.sys = s.sys ∧ u.balls = s.balls ∧ u.fields = s.fields ∧ u.shadow = s.shadow ∧ u.faulted = s.faulted ∧ u.bb = s.bb ∧ u.tap = s.tap ∧ u.time = s.time ∧ u.thermal = s.thermal ∧ u.light = s.light ∧ u.adcA = s.adcA ∧ u.adcB = s.adcB ∧ u.amb = s.amb ∧ u.ports = s.ports ∧ u.frames = s.frames ∧ u.nextFrame = s.nextFrame ∧ u.pipe = s.pipe ∧ u.ctxs = s.ctxs ∧ u.dec = s.dec ∧ u.vs = s.vs ∧ u.former = s.former ∧ u.usb = s.usb ∧ u.ser = s.ser ∧ u.pair = s.pair ∧ u.fab = s.fab ∧ u.fresh = s.fresh := by
  refine ⟨_, rfl, ?_⟩
  first
  | (simp; done)
  | ((try simp only [State.whenRun, State.access, State.packet]); (repeat' split) <;> (first | rfl | (simp; done) | (simp_all; done) | (try simp)))
theorem execTsti_frame (t : TrowelId) (ra : RegId) (imm : BitVec 18) (s : State) :
    ∃ u, execTsti t ra imm s = .next u ∧
    u.pending = s.pending ∧ u.identity = s.identity ∧ u.aon = s.aon ∧ u.pins = s.pins ∧ u.phase = s.phase ∧ u.boot = s.boot ∧ u.sys = s.sys ∧ u.balls = s.balls ∧ u.fields = s.fields ∧ u.shadow = s.shadow ∧ u.faulted = s.faulted ∧ u.bb = s.bb ∧ u.tap = s.tap ∧ u.time = s.time ∧ u.thermal = s.thermal ∧ u.light = s.light ∧ u.adcA = s.adcA ∧ u.adcB = s.adcB ∧ u.amb = s.amb ∧ u.ports = s.ports ∧ u.frames = s.frames ∧ u.nextFrame = s.nextFrame ∧ u.pipe = s.pipe ∧ u.ctxs = s.ctxs ∧ u.dec = s.dec ∧ u.vs = s.vs ∧ u.former = s.former ∧ u.usb = s.usb ∧ u.ser = s.ser ∧ u.pair = s.pair ∧ u.fab = s.fab ∧ u.fresh = s.fresh := by
  refine ⟨_, rfl, ?_⟩
  first
  | (simp; done)
  | ((try simp only [State.whenRun, State.access, State.packet]); (repeat' split) <;> (first | rfl | (simp; done) | (simp_all; done) | (try simp)))
theorem execExt_frame (t : TrowelId) (rd ra : RegId) (p wm1 : BitVec 5) (s : State) :
    ∃ u, execExt t rd ra p wm1 s = .next u ∧
    u.pending = s.pending ∧ u.identity = s.identity ∧ u.aon = s.aon ∧ u.pins = s.pins ∧ u.phase = s.phase ∧ u.boot = s.boot ∧ u.sys = s.sys ∧ u.balls = s.balls ∧ u.fields = s.fields ∧ u.shadow = s.shadow ∧ u.faulted = s.faulted ∧ u.bb = s.bb ∧ u.tap = s.tap ∧ u.time = s.time ∧ u.thermal = s.thermal ∧ u.light = s.light ∧ u.adcA = s.adcA ∧ u.adcB = s.adcB ∧ u.amb = s.amb ∧ u.ports = s.ports ∧ u.frames = s.frames ∧ u.nextFrame = s.nextFrame ∧ u.pipe = s.pipe ∧ u.ctxs = s.ctxs ∧ u.dec = s.dec ∧ u.vs = s.vs ∧ u.former = s.former ∧ u.usb = s.usb ∧ u.ser = s.ser ∧ u.pair = s.pair ∧ u.fab = s.fab ∧ u.fresh = s.fresh := by
  refine ⟨_, rfl, ?_⟩
  first
  | (simp; done)
  | ((try simp only [State.whenRun, State.access, State.packet]); (repeat' split) <;> (first | rfl | (simp; done) | (simp_all; done) | (try simp)))
theorem execIns_frame (t : TrowelId) (rd ra : RegId) (p wm1 : BitVec 5) (s : State) :
    ∃ u, execIns t rd ra p wm1 s = .next u ∧
    u.pending = s.pending ∧ u.identity = s.identity ∧ u.aon = s.aon ∧ u.pins = s.pins ∧ u.phase = s.phase ∧ u.boot = s.boot ∧ u.sys = s.sys ∧ u.balls = s.balls ∧ u.fields = s.fields ∧ u.shadow = s.shadow ∧ u.faulted = s.faulted ∧ u.bb = s.bb ∧ u.tap = s.tap ∧ u.time = s.time ∧ u.thermal = s.thermal ∧ u.light = s.light ∧ u.adcA = s.adcA ∧ u.adcB = s.adcB ∧ u.amb = s.amb ∧ u.ports = s.ports ∧ u.frames = s.frames ∧ u.nextFrame = s.nextFrame ∧ u.pipe = s.pipe ∧ u.ctxs = s.ctxs ∧ u.dec = s.dec ∧ u.vs = s.vs ∧ u.former = s.former ∧ u.usb = s.usb ∧ u.ser = s.ser ∧ u.pair = s.pair ∧ u.fab = s.fab ∧ u.fresh = s.fresh := by
  refine ⟨_, rfl, ?_⟩
  first
  | (simp; done)
  | ((try simp only [State.whenRun, State.access, State.packet]); (repeat' split) <;> (first | rfl | (simp; done) | (simp_all; done) | (try simp)))
theorem execSatu_frame (t : TrowelId) (rd ra : RegId) (n : BitVec 5) (s : State) :
    ∃ u, execSatu t rd ra n s = .next u ∧
    u.pending = s.pending ∧ u.identity = s.identity ∧ u.aon = s.aon ∧ u.pins = s.pins ∧ u.boot = s.boot ∧ u.sys = s.sys ∧ u.shadow = s.shadow ∧ u.tap = s.tap ∧ u.time = s.time ∧ u.thermal = s.thermal ∧ u.amb = s.amb ∧ u.ports = s.ports ∧ u.nextFrame = s.nextFrame ∧ u.pipe = s.pipe ∧ u.ctxs = s.ctxs ∧ u.dec = s.dec ∧ u.former = s.former ∧ u.fresh = s.fresh := by
  refine ⟨_, rfl, ?_⟩
  first
  | (simp; done)
  | ((try simp only [State.whenRun, State.access, State.packet]); (repeat' split) <;> (first | rfl | (simp; done) | (simp_all; done) | (try simp)))
theorem execMovi_frame (t : TrowelId) (rd : RegId) (imm : BitVec 22) (s : State) :
    ∃ u, execMovi t rd imm s = .next u ∧
    u.pending = s.pending ∧ u.identity = s.identity ∧ u.aon = s.aon ∧ u.pins = s.pins ∧ u.phase = s.phase ∧ u.boot = s.boot ∧ u.sys = s.sys ∧ u.balls = s.balls ∧ u.fields = s.fields ∧ u.shadow = s.shadow ∧ u.faulted = s.faulted ∧ u.bb = s.bb ∧ u.tap = s.tap ∧ u.time = s.time ∧ u.thermal = s.thermal ∧ u.light = s.light ∧ u.adcA = s.adcA ∧ u.adcB = s.adcB ∧ u.amb = s.amb ∧ u.ports = s.ports ∧ u.frames = s.frames ∧ u.nextFrame = s.nextFrame ∧ u.pipe = s.pipe ∧ u.ctxs = s.ctxs ∧ u.dec = s.dec ∧ u.vs = s.vs ∧ u.former = s.former ∧ u.usb = s.usb ∧ u.ser = s.ser ∧ u.pair = s.pair ∧ u.fab = s.fab ∧ u.fresh = s.fresh := by
  refine ⟨_, rfl, ?_⟩
  first
  | (simp; done)
  | ((try simp only [State.whenRun, State.access, State.packet]); (repeat' split) <;> (first | rfl | (simp; done) | (simp_all; done) | (try simp)))
theorem execMovh_frame (t : TrowelId) (rd : RegId) (imm : BitVec 16) (s : State) :
    ∃ u, execMovh t rd imm s = .next u ∧
    u.pending = s.pending ∧ u.identity = s.identity ∧ u.aon = s.aon ∧ u.pins = s.pins ∧ u.phase = s.phase ∧ u.boot = s.boot ∧ u.sys = s.sys ∧ u.balls = s.balls ∧ u.fields = s.fields ∧ u.shadow = s.shadow ∧ u.faulted = s.faulted ∧ u.bb = s.bb ∧ u.tap = s.tap ∧ u.time = s.time ∧ u.thermal = s.thermal ∧ u.light = s.light ∧ u.adcA = s.adcA ∧ u.adcB = s.adcB ∧ u.amb = s.amb ∧ u.ports = s.ports ∧ u.frames = s.frames ∧ u.nextFrame = s.nextFrame ∧ u.pipe = s.pipe ∧ u.ctxs = s.ctxs ∧ u.dec = s.dec ∧ u.vs = s.vs ∧ u.former = s.former ∧ u.usb = s.usb ∧ u.ser = s.ser ∧ u.pair = s.pair ∧ u.fab = s.fab ∧ u.fresh = s.fresh := by
  refine ⟨_, rfl, ?_⟩
  first
  | (simp; done)
  | ((try simp only [State.whenRun, State.access, State.packet]); (repeat' split) <;> (first | rfl | (simp; done) | (simp_all; done) | (try simp)))
theorem execLd_frame (t : TrowelId) (rd ra : RegId) (imm : BitVec 18) (s : State) :
    ∃ u, execLd t rd ra imm s = .next u ∧
    u.pending = s.pending ∧ u.identity = s.identity ∧ u.aon = s.aon ∧ u.pins = s.pins ∧ u.boot = s.boot ∧ u.sys = s.sys ∧ u.shadow = s.shadow ∧ u.tap = s.tap ∧ u.time = s.time ∧ u.thermal = s.thermal ∧ u.amb = s.amb ∧ u.ports = s.ports ∧ u.nextFrame = s.nextFrame ∧ u.pipe = s.pipe ∧ u.ctxs = s.ctxs ∧ u.dec = s.dec ∧ u.former = s.former ∧ u.fresh = s.fresh := by
  refine ⟨_, rfl, ?_⟩
  first
  | (simp; done)
  | ((try simp only [State.whenRun, State.access, State.packet]); (repeat' split) <;> (first | rfl | (simp; done) | (simp_all; done) | (try simp)))
theorem execSt_frame (t : TrowelId) (rs ra : RegId) (imm : BitVec 18) (s : State) :
    ∃ u, execSt t rs ra imm s = .next u ∧
    u.pending = s.pending ∧ u.identity = s.identity ∧ u.aon = s.aon ∧ u.pins = s.pins ∧ u.phase = s.phase ∧ u.boot = s.boot ∧ u.sys = s.sys ∧ u.balls = s.balls ∧ u.fields = s.fields ∧ u.shadow = s.shadow ∧ u.faulted = s.faulted ∧ u.bb = s.bb ∧ u.tap = s.tap ∧ u.time = s.time ∧ u.thermal = s.thermal ∧ u.light = s.light ∧ u.adcA = s.adcA ∧ u.adcB = s.adcB ∧ u.amb = s.amb ∧ u.ports = s.ports ∧ u.frames = s.frames ∧ u.nextFrame = s.nextFrame ∧ u.pipe = s.pipe ∧ u.ctxs = s.ctxs ∧ u.dec = s.dec ∧ u.vs = s.vs ∧ u.former = s.former ∧ u.usb = s.usb ∧ u.ser = s.ser ∧ u.pair = s.pair ∧ u.fab = s.fab ∧ u.fresh = s.fresh := by
  refine ⟨_, rfl, ?_⟩
  first
  | (simp; done)
  | ((try simp only [State.whenRun, State.access, State.packet]); (repeat' split) <;> (first | rfl | (simp; done) | (simp_all; done) | (try simp)))
theorem execBCond_frame (t : TrowelId) (cond : Cond) (target : BitVec 12) (s : State) :
    ∃ u, execBCond t cond target s = .next u ∧
    u.pending = s.pending ∧ u.identity = s.identity ∧ u.aon = s.aon ∧ u.pins = s.pins ∧ u.phase = s.phase ∧ u.boot = s.boot ∧ u.sys = s.sys ∧ u.balls = s.balls ∧ u.fields = s.fields ∧ u.shadow = s.shadow ∧ u.faulted = s.faulted ∧ u.bb = s.bb ∧ u.tap = s.tap ∧ u.time = s.time ∧ u.thermal = s.thermal ∧ u.light = s.light ∧ u.adcA = s.adcA ∧ u.adcB = s.adcB ∧ u.amb = s.amb ∧ u.ports = s.ports ∧ u.frames = s.frames ∧ u.nextFrame = s.nextFrame ∧ u.pipe = s.pipe ∧ u.ctxs = s.ctxs ∧ u.dec = s.dec ∧ u.vs = s.vs ∧ u.former = s.former ∧ u.usb = s.usb ∧ u.ser = s.ser ∧ u.pair = s.pair ∧ u.fab = s.fab ∧ u.fresh = s.fresh := by
  refine ⟨_, rfl, ?_⟩
  first
  | (simp; done)
  | ((try simp only [State.whenRun, State.access, State.packet]); (repeat' split) <;> (first | rfl | (simp; done) | (simp_all; done) | (try simp)))
theorem execCallCond_frame (t : TrowelId) (cond : Cond) (target : BitVec 12) (s : State) :
    ∃ u, execCallCond t cond target s = .next u ∧
    u.pending = s.pending ∧ u.identity = s.identity ∧ u.aon = s.aon ∧ u.pins = s.pins ∧ u.boot = s.boot ∧ u.sys = s.sys ∧ u.shadow = s.shadow ∧ u.tap = s.tap ∧ u.time = s.time ∧ u.thermal = s.thermal ∧ u.amb = s.amb ∧ u.ports = s.ports ∧ u.nextFrame = s.nextFrame ∧ u.pipe = s.pipe ∧ u.ctxs = s.ctxs ∧ u.dec = s.dec ∧ u.former = s.former ∧ u.fresh = s.fresh := by
  refine ⟨_, rfl, ?_⟩
  first
  | (simp; done)
  | ((try simp only [State.whenRun, State.access, State.packet]); (repeat' split) <;> (first | rfl | (simp; done) | (simp_all; done) | (try simp)))
theorem execRet_frame (t : TrowelId) (s : State) :
    ∃ u, execRet t s = .next u ∧
    u.pending = s.pending ∧ u.identity = s.identity ∧ u.aon = s.aon ∧ u.pins = s.pins ∧ u.boot = s.boot ∧ u.sys = s.sys ∧ u.shadow = s.shadow ∧ u.tap = s.tap ∧ u.time = s.time ∧ u.thermal = s.thermal ∧ u.amb = s.amb ∧ u.ports = s.ports ∧ u.nextFrame = s.nextFrame ∧ u.pipe = s.pipe ∧ u.ctxs = s.ctxs ∧ u.dec = s.dec ∧ u.former = s.former ∧ u.fresh = s.fresh := by
  refine ⟨_, rfl, ?_⟩
  unfold State.mayFault
  dsimp only
  split
  · split <;> simp
  · simp
theorem execJr_frame (t : TrowelId) (ra : RegId) (s : State) :
    ∃ u, execJr t ra s = .next u ∧
    u.pending = s.pending ∧ u.identity = s.identity ∧ u.aon = s.aon ∧ u.pins = s.pins ∧ u.phase = s.phase ∧ u.boot = s.boot ∧ u.sys = s.sys ∧ u.balls = s.balls ∧ u.fields = s.fields ∧ u.shadow = s.shadow ∧ u.faulted = s.faulted ∧ u.bb = s.bb ∧ u.tap = s.tap ∧ u.time = s.time ∧ u.thermal = s.thermal ∧ u.light = s.light ∧ u.adcA = s.adcA ∧ u.adcB = s.adcB ∧ u.amb = s.amb ∧ u.ports = s.ports ∧ u.frames = s.frames ∧ u.nextFrame = s.nextFrame ∧ u.pipe = s.pipe ∧ u.ctxs = s.ctxs ∧ u.dec = s.dec ∧ u.vs = s.vs ∧ u.former = s.former ∧ u.usb = s.usb ∧ u.ser = s.ser ∧ u.pair = s.pair ∧ u.fab = s.fab ∧ u.fresh = s.fresh := by
  refine ⟨_, rfl, ?_⟩
  first
  | (simp; done)
  | ((try simp only [State.whenRun, State.access, State.packet]); (repeat' split) <;> (first | rfl | (simp; done) | (simp_all; done) | (try simp)))
theorem execNop_frame (t : TrowelId) (s : State) :
    ∃ u, execNop t s = .next u ∧
    u.pending = s.pending ∧ u.identity = s.identity ∧ u.aon = s.aon ∧ u.pins = s.pins ∧ u.phase = s.phase ∧ u.boot = s.boot ∧ u.sys = s.sys ∧ u.balls = s.balls ∧ u.fields = s.fields ∧ u.shadow = s.shadow ∧ u.faulted = s.faulted ∧ u.bb = s.bb ∧ u.tap = s.tap ∧ u.time = s.time ∧ u.thermal = s.thermal ∧ u.light = s.light ∧ u.adcA = s.adcA ∧ u.adcB = s.adcB ∧ u.amb = s.amb ∧ u.ports = s.ports ∧ u.frames = s.frames ∧ u.nextFrame = s.nextFrame ∧ u.pipe = s.pipe ∧ u.ctxs = s.ctxs ∧ u.dec = s.dec ∧ u.vs = s.vs ∧ u.former = s.former ∧ u.usb = s.usb ∧ u.ser = s.ser ∧ u.pair = s.pair ∧ u.fab = s.fab ∧ u.fresh = s.fresh := by
  refine ⟨_, rfl, ?_⟩
  first
  | (simp; done)
  | ((try simp only [State.whenRun, State.access, State.packet]); (repeat' split) <;> (first | rfl | (simp; done) | (simp_all; done) | (try simp)))
@[simp] theorem State.takeEvent_frame (s : State) (t : TrowelId) (rd : RegId) (n : Nat) :
    (State.takeEvent s t rd n).pending = s.pending ∧ (State.takeEvent s t rd n).identity = s.identity ∧ (State.takeEvent s t rd n).aon = s.aon ∧ (State.takeEvent s t rd n).pins = s.pins ∧ (State.takeEvent s t rd n).phase = s.phase ∧ (State.takeEvent s t rd n).boot = s.boot ∧ (State.takeEvent s t rd n).sys = s.sys ∧ (State.takeEvent s t rd n).balls = s.balls ∧ (State.takeEvent s t rd n).fields = s.fields ∧ (State.takeEvent s t rd n).shadow = s.shadow ∧ (State.takeEvent s t rd n).faulted = s.faulted ∧ (State.takeEvent s t rd n).bb = s.bb ∧ (State.takeEvent s t rd n).tap = s.tap ∧ (State.takeEvent s t rd n).time = s.time ∧ (State.takeEvent s t rd n).thermal = s.thermal ∧ (State.takeEvent s t rd n).light = s.light ∧ (State.takeEvent s t rd n).adcA = s.adcA ∧ (State.takeEvent s t rd n).adcB = s.adcB ∧ (State.takeEvent s t rd n).amb = s.amb ∧ (State.takeEvent s t rd n).ports = s.ports ∧ (State.takeEvent s t rd n).frames = s.frames ∧ (State.takeEvent s t rd n).nextFrame = s.nextFrame ∧ (State.takeEvent s t rd n).pipe = s.pipe ∧ (State.takeEvent s t rd n).ctxs = s.ctxs ∧ (State.takeEvent s t rd n).dec = s.dec ∧ (State.takeEvent s t rd n).vs = s.vs ∧ (State.takeEvent s t rd n).former = s.former ∧ (State.takeEvent s t rd n).usb = s.usb ∧ (State.takeEvent s t rd n).ser = s.ser ∧ (State.takeEvent s t rd n).pair = s.pair ∧ (State.takeEvent s t rd n).fab = s.fab ∧ (State.takeEvent s t rd n).fresh = s.fresh := by
  first
  | (unfold State.takeEvent; simp; done)
  | (unfold State.takeEvent; (try dsimp only); (repeat' split) <;> (first | rfl | (simp; done) | (simp_all; done) | (try simp)))
theorem execWait_frame (t : TrowelId) (rd ra rb : RegId) (s : State) :
    ∃ u, execWait t rd ra rb s = .next u ∧
    u.pending = s.pending ∧ u.identity = s.identity ∧ u.aon = s.aon ∧ u.pins = s.pins ∧ u.phase = s.phase ∧ u.boot = s.boot ∧ u.sys = s.sys ∧ u.balls = s.balls ∧ u.fields = s.fields ∧ u.shadow = s.shadow ∧ u.faulted = s.faulted ∧ u.bb = s.bb ∧ u.tap = s.tap ∧ u.time = s.time ∧ u.thermal = s.thermal ∧ u.light = s.light ∧ u.adcA = s.adcA ∧ u.adcB = s.adcB ∧ u.amb = s.amb ∧ u.ports = s.ports ∧ u.frames = s.frames ∧ u.nextFrame = s.nextFrame ∧ u.pipe = s.pipe ∧ u.ctxs = s.ctxs ∧ u.dec = s.dec ∧ u.vs = s.vs ∧ u.former = s.former ∧ u.usb = s.usb ∧ u.ser = s.ser ∧ u.pair = s.pair ∧ u.fab = s.fab ∧ u.fresh = s.fresh := by
  refine ⟨_, rfl, ?_⟩
  first
  | (simp; done)
  | ((try simp only [State.whenRun, State.access, State.packet]); (repeat' split) <;> (first | rfl | (simp; done) | (simp_all; done) | (try simp)))
theorem execWaitEventPresent_frame (t : TrowelId) (s : State) :
    ∃ u, execWaitEventPresent t s = .next u ∧
    u.pending = s.pending ∧ u.identity = s.identity ∧ u.aon = s.aon ∧ u.pins = s.pins ∧ u.phase = s.phase ∧ u.boot = s.boot ∧ u.sys = s.sys ∧ u.balls = s.balls ∧ u.fields = s.fields ∧ u.shadow = s.shadow ∧ u.faulted = s.faulted ∧ u.bb = s.bb ∧ u.tap = s.tap ∧ u.time = s.time ∧ u.thermal = s.thermal ∧ u.light = s.light ∧ u.adcA = s.adcA ∧ u.adcB = s.adcB ∧ u.amb = s.amb ∧ u.ports = s.ports ∧ u.frames = s.frames ∧ u.nextFrame = s.nextFrame ∧ u.pipe = s.pipe ∧ u.ctxs = s.ctxs ∧ u.dec = s.dec ∧ u.vs = s.vs ∧ u.former = s.former ∧ u.usb = s.usb ∧ u.ser = s.ser ∧ u.pair = s.pair ∧ u.fab = s.fab ∧ u.fresh = s.fresh := by
  refine ⟨_, rfl, ?_⟩
  first
  | (simp; done)
  | ((try simp only [State.whenRun, State.access, State.packet]); (repeat' split) <;> (first | rfl | (simp; done) | (simp_all; done) | (try simp)))
theorem execEvt_frame (t : TrowelId) (n : BitVec 6) (s : State) :
    ∃ u, execEvt t n s = .next u ∧
    u.pending = s.pending ∧ u.identity = s.identity ∧ u.aon = s.aon ∧ u.pins = s.pins ∧ u.phase = s.phase ∧ u.boot = s.boot ∧ u.sys = s.sys ∧ u.balls = s.balls ∧ u.fields = s.fields ∧ u.shadow = s.shadow ∧ u.faulted = s.faulted ∧ u.bb = s.bb ∧ u.tap = s.tap ∧ u.time = s.time ∧ u.thermal = s.thermal ∧ u.light = s.light ∧ u.adcA = s.adcA ∧ u.adcB = s.adcB ∧ u.amb = s.amb ∧ u.ports = s.ports ∧ u.frames = s.frames ∧ u.nextFrame = s.nextFrame ∧ u.pipe = s.pipe ∧ u.ctxs = s.ctxs ∧ u.dec = s.dec ∧ u.vs = s.vs ∧ u.former = s.former ∧ u.usb = s.usb ∧ u.ser = s.ser ∧ u.pair = s.pair ∧ u.fab = s.fab ∧ u.fresh = s.fresh := by
  refine ⟨_, rfl, ?_⟩
  first
  | (simp; done)
  | ((try simp only [State.whenRun, State.access, State.packet]); (repeat' split) <;> (first | rfl | (simp; done) | (simp_all; done) | (try simp)))
theorem execEclr_frame (t : TrowelId) (n : BitVec 6) (s : State) :
    ∃ u, execEclr t n s = .next u ∧
    u.pending = s.pending ∧ u.identity = s.identity ∧ u.aon = s.aon ∧ u.pins = s.pins ∧ u.phase = s.phase ∧ u.boot = s.boot ∧ u.sys = s.sys ∧ u.balls = s.balls ∧ u.fields = s.fields ∧ u.shadow = s.shadow ∧ u.faulted = s.faulted ∧ u.bb = s.bb ∧ u.tap = s.tap ∧ u.time = s.time ∧ u.thermal = s.thermal ∧ u.light = s.light ∧ u.adcA = s.adcA ∧ u.adcB = s.adcB ∧ u.amb = s.amb ∧ u.ports = s.ports ∧ u.frames = s.frames ∧ u.nextFrame = s.nextFrame ∧ u.pipe = s.pipe ∧ u.ctxs = s.ctxs ∧ u.dec = s.dec ∧ u.vs = s.vs ∧ u.former = s.former ∧ u.usb = s.usb ∧ u.ser = s.ser ∧ u.pair = s.pair ∧ u.fab = s.fab ∧ u.fresh = s.fresh := by
  refine ⟨_, rfl, ?_⟩
  first
  | (simp; done)
  | ((try simp only [State.whenRun, State.access, State.packet]); (repeat' split) <;> (first | rfl | (simp; done) | (simp_all; done) | (try simp)))
theorem execTset_frame (t : TrowelId) (ra : RegId) (s : State) :
    ∃ u, execTset t ra s = .next u ∧
    u.pending = s.pending ∧ u.identity = s.identity ∧ u.aon = s.aon ∧ u.pins = s.pins ∧ u.phase = s.phase ∧ u.boot = s.boot ∧ u.sys = s.sys ∧ u.balls = s.balls ∧ u.fields = s.fields ∧ u.shadow = s.shadow ∧ u.faulted = s.faulted ∧ u.bb = s.bb ∧ u.tap = s.tap ∧ u.time = s.time ∧ u.thermal = s.thermal ∧ u.light = s.light ∧ u.adcA = s.adcA ∧ u.adcB = s.adcB ∧ u.amb = s.amb ∧ u.ports = s.ports ∧ u.frames = s.frames ∧ u.nextFrame = s.nextFrame ∧ u.pipe = s.pipe ∧ u.ctxs = s.ctxs ∧ u.dec = s.dec ∧ u.vs = s.vs ∧ u.former = s.former ∧ u.usb = s.usb ∧ u.ser = s.ser ∧ u.pair = s.pair ∧ u.fab = s.fab ∧ u.fresh = s.fresh := by
  refine ⟨_, rfl, ?_⟩
  first
  | (simp; done)
  | ((try simp only [State.whenRun, State.access, State.packet]); (repeat' split) <;> (first | rfl | (simp; done) | (simp_all; done) | (try simp)))
theorem execTimer_frame (t : TrowelId) (s : State) :
    ∃ u, execTimer t s = .next u ∧
    u.pending = s.pending ∧ u.identity = s.identity ∧ u.aon = s.aon ∧ u.pins = s.pins ∧ u.phase = s.phase ∧ u.boot = s.boot ∧ u.sys = s.sys ∧ u.balls = s.balls ∧ u.fields = s.fields ∧ u.shadow = s.shadow ∧ u.faulted = s.faulted ∧ u.bb = s.bb ∧ u.tap = s.tap ∧ u.time = s.time ∧ u.thermal = s.thermal ∧ u.light = s.light ∧ u.adcA = s.adcA ∧ u.adcB = s.adcB ∧ u.amb = s.amb ∧ u.ports = s.ports ∧ u.frames = s.frames ∧ u.nextFrame = s.nextFrame ∧ u.pipe = s.pipe ∧ u.ctxs = s.ctxs ∧ u.dec = s.dec ∧ u.vs = s.vs ∧ u.former = s.former ∧ u.usb = s.usb ∧ u.ser = s.ser ∧ u.pair = s.pair ∧ u.fab = s.fab ∧ u.fresh = s.fresh := by
  refine ⟨_, rfl, ?_⟩
  first
  | (simp; done)
  | ((try simp only [State.whenRun, State.access, State.packet]); (repeat' split) <;> (first | rfl | (simp; done) | (simp_all; done) | (try simp)))
theorem execKick_frame (t : TrowelId) (s : State) :
    ∃ u, execKick t s = .next u ∧
    u.pending = s.pending ∧ u.identity = s.identity ∧ u.aon = s.aon ∧ u.pins = s.pins ∧ u.phase = s.phase ∧ u.boot = s.boot ∧ u.sys = s.sys ∧ u.balls = s.balls ∧ u.fields = s.fields ∧ u.shadow = s.shadow ∧ u.faulted = s.faulted ∧ u.bb = s.bb ∧ u.tap = s.tap ∧ u.time = s.time ∧ u.thermal = s.thermal ∧ u.light = s.light ∧ u.adcA = s.adcA ∧ u.adcB = s.adcB ∧ u.amb = s.amb ∧ u.ports = s.ports ∧ u.frames = s.frames ∧ u.nextFrame = s.nextFrame ∧ u.pipe = s.pipe ∧ u.ctxs = s.ctxs ∧ u.dec = s.dec ∧ u.vs = s.vs ∧ u.former = s.former ∧ u.usb = s.usb ∧ u.ser = s.ser ∧ u.pair = s.pair ∧ u.fab = s.fab ∧ u.fresh = s.fresh := by
  refine ⟨_, rfl, ?_⟩
  first
  | (simp; done)
  | ((try simp only [State.whenRun, State.access, State.packet]); (repeat' split) <;> (first | rfl | (simp; done) | (simp_all; done) | (try simp)))
theorem execWdHalf_frame (t : TrowelId) (s : State) :
    ∃ u, execWdHalf t s = .next u ∧
    u.pending = s.pending ∧ u.identity = s.identity ∧ u.aon = s.aon ∧ u.pins = s.pins ∧ u.phase = s.phase ∧ u.boot = s.boot ∧ u.sys = s.sys ∧ u.balls = s.balls ∧ u.fields = s.fields ∧ u.shadow = s.shadow ∧ u.faulted = s.faulted ∧ u.bb = s.bb ∧ u.tap = s.tap ∧ u.time = s.time ∧ u.thermal = s.thermal ∧ u.light = s.light ∧ u.adcA = s.adcA ∧ u.adcB = s.adcB ∧ u.amb = s.amb ∧ u.ports = s.ports ∧ u.frames = s.frames ∧ u.nextFrame = s.nextFrame ∧ u.pipe = s.pipe ∧ u.ctxs = s.ctxs ∧ u.dec = s.dec ∧ u.vs = s.vs ∧ u.former = s.former ∧ u.usb = s.usb ∧ u.ser = s.ser ∧ u.pair = s.pair ∧ u.fab = s.fab ∧ u.fresh = s.fresh := by
  refine ⟨_, rfl, ?_⟩
  first
  | (simp; done)
  | ((try simp only [State.whenRun, State.access, State.packet]); (repeat' split) <;> (first | rfl | (simp; done) | (simp_all; done) | (try simp)))
theorem execWatchdogExpiry_frame (t : TrowelId) (s : State) :
    ∃ u, execWatchdogExpiry t s = .next u ∧
    u.pending = s.pending ∧ u.identity = s.identity ∧ u.aon = s.aon ∧ u.pins = s.pins ∧ u.boot = s.boot ∧ u.sys = s.sys ∧ u.shadow = s.shadow ∧ u.tap = s.tap ∧ u.time = s.time ∧ u.thermal = s.thermal ∧ u.amb = s.amb ∧ u.ports = s.ports ∧ u.nextFrame = s.nextFrame ∧ u.pipe = s.pipe ∧ u.ctxs = s.ctxs ∧ u.dec = s.dec ∧ u.former = s.former ∧ u.fresh = s.fresh := by
  refine ⟨_, rfl, ?_⟩
  first
  | (simp; done)
  | ((try simp only [State.whenRun, State.access, State.packet]); (repeat' split) <;> (first | rfl | (simp; done) | (simp_all; done) | (try simp)))
theorem execMfs_frame (t : TrowelId) (rd : RegId) (sreg : BitVec 4) (s : State) :
    ∃ u, execMfs t rd sreg s = .next u ∧
    u.pending = s.pending ∧ u.identity = s.identity ∧ u.aon = s.aon ∧ u.pins = s.pins ∧ u.phase = s.phase ∧ u.boot = s.boot ∧ u.sys = s.sys ∧ u.balls = s.balls ∧ u.fields = s.fields ∧ u.shadow = s.shadow ∧ u.faulted = s.faulted ∧ u.bb = s.bb ∧ u.tap = s.tap ∧ u.time = s.time ∧ u.thermal = s.thermal ∧ u.light = s.light ∧ u.adcA = s.adcA ∧ u.adcB = s.adcB ∧ u.amb = s.amb ∧ u.ports = s.ports ∧ u.frames = s.frames ∧ u.nextFrame = s.nextFrame ∧ u.pipe = s.pipe ∧ u.ctxs = s.ctxs ∧ u.dec = s.dec ∧ u.vs = s.vs ∧ u.former = s.former ∧ u.usb = s.usb ∧ u.ser = s.ser ∧ u.pair = s.pair ∧ u.fab = s.fab ∧ u.fresh = s.fresh := by
  refine ⟨_, rfl, ?_⟩
  first
  | (simp; done)
  | ((try simp only [State.whenRun, State.access, State.packet]); (repeat' split) <;> (first | rfl | (simp; done) | (simp_all; done) | (try simp)))
theorem execMts_frame (t : TrowelId) (ra : RegId) (sreg : BitVec 4) (s : State) :
    ∃ u, execMts t ra sreg s = .next u ∧
    u.pending = s.pending ∧ u.identity = s.identity ∧ u.aon = s.aon ∧ u.pins = s.pins ∧ u.phase = s.phase ∧ u.boot = s.boot ∧ u.sys = s.sys ∧ u.balls = s.balls ∧ u.fields = s.fields ∧ u.shadow = s.shadow ∧ u.faulted = s.faulted ∧ u.bb = s.bb ∧ u.tap = s.tap ∧ u.time = s.time ∧ u.thermal = s.thermal ∧ u.light = s.light ∧ u.adcA = s.adcA ∧ u.adcB = s.adcB ∧ u.amb = s.amb ∧ u.ports = s.ports ∧ u.frames = s.frames ∧ u.nextFrame = s.nextFrame ∧ u.pipe = s.pipe ∧ u.ctxs = s.ctxs ∧ u.dec = s.dec ∧ u.vs = s.vs ∧ u.former = s.former ∧ u.usb = s.usb ∧ u.ser = s.ser ∧ u.pair = s.pair ∧ u.fab = s.fab ∧ u.fresh = s.fresh := by
  refine ⟨_, rfl, ?_⟩
  first
  | (simp; done)
  | ((try simp only [State.whenRun, State.access, State.packet]); (repeat' split) <;> (first | rfl | (simp; done) | (simp_all; done) | (try simp)))
theorem execSend_frame (t dest : TrowelId) (ra : RegId) (s : State) :
    ∃ u, execSend t dest ra s = .next u ∧
    u.pending = s.pending ∧ u.identity = s.identity ∧ u.aon = s.aon ∧ u.pins = s.pins ∧ u.phase = s.phase ∧ u.boot = s.boot ∧ u.sys = s.sys ∧ u.balls = s.balls ∧ u.fields = s.fields ∧ u.shadow = s.shadow ∧ u.faulted = s.faulted ∧ u.bb = s.bb ∧ u.tap = s.tap ∧ u.time = s.time ∧ u.thermal = s.thermal ∧ u.light = s.light ∧ u.adcA = s.adcA ∧ u.adcB = s.adcB ∧ u.amb = s.amb ∧ u.ports = s.ports ∧ u.frames = s.frames ∧ u.nextFrame = s.nextFrame ∧ u.pipe = s.pipe ∧ u.ctxs = s.ctxs ∧ u.dec = s.dec ∧ u.vs = s.vs ∧ u.former = s.former ∧ u.usb = s.usb ∧ u.ser = s.ser ∧ u.pair = s.pair ∧ u.fab = s.fab ∧ u.fresh = s.fresh := by
  refine ⟨_, rfl, ?_⟩
  first
  | (simp; done)
  | ((try simp only [State.whenRun, State.access, State.packet]); (repeat' split) <;> (first | rfl | (simp; done) | (simp_all; done) | (try simp)))
theorem execRecv_frame (t : TrowelId) (rd : RegId) (s : State) :
    ∃ u, execRecv t rd s = .next u ∧
    u.pending = s.pending ∧ u.identity = s.identity ∧ u.aon = s.aon ∧ u.pins = s.pins ∧ u.phase = s.phase ∧ u.boot = s.boot ∧ u.sys = s.sys ∧ u.balls = s.balls ∧ u.fields = s.fields ∧ u.shadow = s.shadow ∧ u.faulted = s.faulted ∧ u.bb = s.bb ∧ u.tap = s.tap ∧ u.time = s.time ∧ u.thermal = s.thermal ∧ u.light = s.light ∧ u.adcA = s.adcA ∧ u.adcB = s.adcB ∧ u.amb = s.amb ∧ u.ports = s.ports ∧ u.frames = s.frames ∧ u.nextFrame = s.nextFrame ∧ u.pipe = s.pipe ∧ u.ctxs = s.ctxs ∧ u.dec = s.dec ∧ u.vs = s.vs ∧ u.former = s.former ∧ u.usb = s.usb ∧ u.ser = s.ser ∧ u.pair = s.pair ∧ u.fab = s.fab ∧ u.fresh = s.fresh := by
  refine ⟨_, rfl, ?_⟩
  first
  | (simp; done)
  | ((try simp only [State.whenRun, State.access, State.packet]); (repeat' split) <;> (first | rfl | (simp; done) | (simp_all; done) | (try simp)))
theorem execLog_frame (t : TrowelId) (ra : RegId) (code : BitVec 16) (s : State) :
    ∃ u, execLog t ra code s = .next u ∧
    u.pending = s.pending ∧ u.identity = s.identity ∧ u.aon = s.aon ∧ u.pins = s.pins ∧ u.phase = s.phase ∧ u.boot = s.boot ∧ u.sys = s.sys ∧ u.balls = s.balls ∧ u.fields = s.fields ∧ u.shadow = s.shadow ∧ u.faulted = s.faulted ∧ u.tap = s.tap ∧ u.time = s.time ∧ u.thermal = s.thermal ∧ u.light = s.light ∧ u.adcA = s.adcA ∧ u.adcB = s.adcB ∧ u.amb = s.amb ∧ u.ports = s.ports ∧ u.frames = s.frames ∧ u.nextFrame = s.nextFrame ∧ u.pipe = s.pipe ∧ u.ctxs = s.ctxs ∧ u.dec = s.dec ∧ u.vs = s.vs ∧ u.former = s.former ∧ u.usb = s.usb ∧ u.ser = s.ser ∧ u.pair = s.pair ∧ u.fab = s.fab ∧ u.fresh = s.fresh := by
  refine ⟨_, rfl, ?_⟩
  first
  | (simp; done)
  | ((try simp only [State.whenRun, State.access, State.packet]); (repeat' split) <;> (first | rfl | (simp; done) | (simp_all; done) | (try simp)))
theorem execFault_frame (t : TrowelId) (code : BitVec 16) (s : State) :
    ∃ u, execFault t code s = .next u ∧
    u.pending = s.pending ∧ u.identity = s.identity ∧ u.aon = s.aon ∧ u.pins = s.pins ∧ u.boot = s.boot ∧ u.sys = s.sys ∧ u.shadow = s.shadow ∧ u.tap = s.tap ∧ u.time = s.time ∧ u.thermal = s.thermal ∧ u.amb = s.amb ∧ u.ports = s.ports ∧ u.nextFrame = s.nextFrame ∧ u.pipe = s.pipe ∧ u.ctxs = s.ctxs ∧ u.dec = s.dec ∧ u.former = s.former ∧ u.fresh = s.fresh := by
  refine ⟨_, rfl, ?_⟩
  first
  | (simp; done)
  | ((try simp only [State.whenRun, State.access, State.packet]); (repeat' split) <;> (first | rfl | (simp; done) | (simp_all; done) | (try simp)))
end Sys2Proof.Machine
end

