-- ==== Sys2Proof/Laws/FrameAccess.lean ====
section
/-! SUPPORT. Frames: which parts of the state each operation of Machine/Access leaves as they were. -/

namespace Sys2Proof.Machine
@[simp] theorem State.ignoreEnable_frame (s : State) (a : Nat) :
    (State.ignoreEnable s a).pending = s.pending ∧ (State.ignoreEnable s a).identity = s.identity ∧ (State.ignoreEnable s a).aon = s.aon ∧ (State.ignoreEnable s a).pins = s.pins ∧ (State.ignoreEnable s a).phase = s.phase ∧ (State.ignoreEnable s a).boot = s.boot ∧ (State.ignoreEnable s a).sys = s.sys ∧ (State.ignoreEnable s a).balls = s.balls ∧ (State.ignoreEnable s a).fields = s.fields ∧ (State.ignoreEnable s a).shadow = s.shadow ∧ (State.ignoreEnable s a).trowels = s.trowels ∧ (State.ignoreEnable s a).faulted = s.faulted ∧ (State.ignoreEnable s a).tap = s.tap ∧ (State.ignoreEnable s a).time = s.time ∧ (State.ignoreEnable s a).thermal = s.thermal ∧ (State.ignoreEnable s a).light = s.light ∧ (State.ignoreEnable s a).adcA = s.adcA ∧ (State.ignoreEnable s a).adcB = s.adcB ∧ (State.ignoreEnable s a).amb = s.amb ∧ (State.ignoreEnable s a).ports = s.ports ∧ (State.ignoreEnable s a).frames = s.frames ∧ (State.ignoreEnable s a).nextFrame = s.nextFrame ∧ (State.ignoreEnable s a).pipe = s.pipe ∧ (State.ignoreEnable s a).ctxs = s.ctxs ∧ (State.ignoreEnable s a).dec = s.dec ∧ (State.ignoreEnable s a).vs = s.vs ∧ (State.ignoreEnable s a).former = s.former ∧ (State.ignoreEnable s a).usb = s.usb ∧ (State.ignoreEnable s a).ser = s.ser ∧ (State.ignoreEnable s a).pair = s.pair ∧ (State.ignoreEnable s a).fab = s.fab ∧ (State.ignoreEnable s a).fresh = s.fresh := by
  first
  | (unfold State.ignoreEnable; simp; done)
  | (unfold State.ignoreEnable; (try dsimp only); (repeat' split) <;> (first | rfl | (simp; done) | (simp_all; done) | (try simp)))
@[simp] theorem State.sysNow_frame (s : State) (t : TrowelId) (a : Nat) (v : Word) :
    (State.sysNow s t a v).pending = s.pending ∧ (State.sysNow s t a v).identity = s.identity ∧ (State.sysNow s t a v).aon = s.aon ∧ (State.sysNow s t a v).pins = s.pins ∧ (State.sysNow s t a v).shadow = s.shadow ∧ (State.sysNow s t a v).faulted = s.faulted ∧ (State.sysNow s t a v).tap = s.tap ∧ (State.sysNow s t a v).thermal = s.thermal ∧ (State.sysNow s t a v).amb = s.amb ∧ (State.sysNow s t a v).nextFrame = s.nextFrame ∧ (State.sysNow s t a v).pipe = s.pipe ∧ (State.sysNow s t a v).ctxs = s.ctxs ∧ (State.sysNow s t a v).vs = s.vs ∧ (State.sysNow s t a v).former = s.former ∧ (State.sysNow s t a v).usb = s.usb ∧ (State.sysNow s t a v).ser = s.ser ∧ (State.sysNow s t a v).fab = s.fab ∧ (State.sysNow s t a v).fresh = s.fresh := by
  first
  | (unfold State.sysNow; simp; done)
  | (unfold State.sysNow; (try dsimp only); (repeat' split) <;> (first | rfl | (simp; done) | (simp_all; done) | (try simp)))
@[simp] theorem State.applyNow_frame (s : State) (t : TrowelId) (a : Nat) (v : Word) :
    (State.applyNow s t a v).pending = s.pending ∧ (State.applyNow s t a v).identity = s.identity ∧ (State.applyNow s t a v).aon = s.aon ∧ (State.applyNow s t a v).pins = s.pins ∧ (State.applyNow s t a v).tap = s.tap ∧ (State.applyNow s t a v).thermal = s.thermal ∧ (State.applyNow s t a v).nextFrame = s.nextFrame ∧ (State.applyNow s t a v).ctxs = s.ctxs := by
  unfold State.applyNow
  split
  all_goals simp
@[simp] theorem State.applyStopped_frame (s : State) :
    (State.applyStopped s).pending = s.pending ∧ (State.applyStopped s).identity = s.identity ∧ (State.applyStopped s).aon = s.aon ∧ (State.applyStopped s).pins = s.pins ∧ (State.applyStopped s).phase = s.phase ∧ (State.applyStopped s).boot = s.boot ∧ (State.applyStopped s).sys = s.sys ∧ (State.applyStopped s).balls = s.balls ∧ (State.applyStopped s).trowels = s.trowels ∧ (State.applyStopped s).faulted = s.faulted ∧ (State.applyStopped s).bb = s.bb ∧ (State.applyStopped s).tap = s.tap ∧ (State.applyStopped s).time = s.time ∧ (State.applyStopped s).thermal = s.thermal ∧ (State.applyStopped s).light = s.light ∧ (State.applyStopped s).adcA = s.adcA ∧ (State.applyStopped s).adcB = s.adcB ∧ (State.applyStopped s).amb = s.amb ∧ (State.applyStopped s).ports = s.ports ∧ (State.applyStopped s).frames = s.frames ∧ (State.applyStopped s).nextFrame = s.nextFrame ∧ (State.applyStopped s).pipe = s.pipe ∧ (State.applyStopped s).ctxs = s.ctxs ∧ (State.applyStopped s).dec = s.dec ∧ (State.applyStopped s).vs = s.vs ∧ (State.applyStopped s).former = s.former ∧ (State.applyStopped s).usb = s.usb ∧ (State.applyStopped s).ser = s.ser ∧ (State.applyStopped s).pair = s.pair ∧ (State.applyStopped s).fab = s.fab ∧ (State.applyStopped s).fresh = s.fresh := by
  first
  | (unfold State.applyStopped; simp; done)
  | (unfold State.applyStopped; (try dsimp only); (repeat' split) <;> (first | rfl | (simp; done) | (simp_all; done) | (try simp)))
@[simp] theorem State.accept_frame (s : State) (t : TrowelId) (a : Nat) (v : Word) :
    (State.accept s t a v).pending = s.pending ∧ (State.accept s t a v).identity = s.identity ∧ (State.accept s t a v).aon = s.aon ∧ (State.accept s t a v).pins = s.pins ∧ (State.accept s t a v).tap = s.tap ∧ (State.accept s t a v).thermal = s.thermal ∧ (State.accept s t a v).nextFrame = s.nextFrame ∧ (State.accept s t a v).ctxs = s.ctxs := by
  first
  | (unfold State.accept; simp; done)
  | (unfold State.accept; (try dsimp only); (repeat' split) <;> (first | rfl | (simp; done) | (simp_all; done) | (try simp)))
@[simp] theorem State.receiveWrite_frame (s : State) (t : TrowelId) (w : Posted) :
    (State.receiveWrite s t w).1.pending = s.pending ∧ (State.receiveWrite s t w).1.identity = s.identity ∧ (State.receiveWrite s t w).1.aon = s.aon ∧ (State.receiveWrite s t w).1.pins = s.pins ∧ (State.receiveWrite s t w).1.tap = s.tap ∧ (State.receiveWrite s t w).1.thermal = s.thermal ∧ (State.receiveWrite s t w).1.nextFrame = s.nextFrame ∧ (State.receiveWrite s t w).1.ctxs = s.ctxs := by
  unfold State.receiveWrite; (try dsimp only); (repeat' split) <;> (first | rfl | (simp; done) | (simp_all; done) | (try simp))
@[simp] theorem State.receiveAll_frame (s : State) (t : TrowelId) (l : List Posted) :
    (s.receiveAll t l).1.pending = s.pending ∧ (s.receiveAll t l).1.identity = s.identity ∧ (s.receiveAll t l).1.aon = s.aon ∧ (s.receiveAll t l).1.pins = s.pins ∧ (s.receiveAll t l).1.tap = s.tap ∧ (s.receiveAll t l).1.thermal = s.thermal ∧ (s.receiveAll t l).1.nextFrame = s.nextFrame ∧ (s.receiveAll t l).1.ctxs = s.ctxs := by
  induction l generalizing s with
  | nil => simp [State.receiveAll]
  | cons w l ih =>
    rw [State.receiveAll]; simp [ih]
@[simp] theorem State.refuseAll_frame (s : State) (t : TrowelId) (l : List (BitVec 16 × BitVec 3)) :
    (State.refuseAll s t l).pending = s.pending ∧ (State.refuseAll s t l).identity = s.identity ∧ (State.refuseAll s t l).aon = s.aon ∧ (State.refuseAll s t l).pins = s.pins ∧ (State.refuseAll s t l).phase = s.phase ∧ (State.refuseAll s t l).boot = s.boot ∧ (State.refuseAll s t l).sys = s.sys ∧ (State.refuseAll s t l).balls = s.balls ∧ (State.refuseAll s t l).fields = s.fields ∧ (State.refuseAll s t l).shadow = s.shadow ∧ (State.refuseAll s t l).faulted = s.faulted ∧ (State.refuseAll s t l).tap = s.tap ∧ (State.refuseAll s t l).time = s.time ∧ (State.refuseAll s t l).thermal = s.thermal ∧ (State.refuseAll s t l).light = s.light ∧ (State.refuseAll s t l).adcA = s.adcA ∧ (State.refuseAll s t l).adcB = s.adcB ∧ (State.refuseAll s t l).amb = s.amb ∧ (State.refuseAll s t l).ports = s.ports ∧ (State.refuseAll s t l).frames = s.frames ∧ (State.refuseAll s t l).nextFrame = s.nextFrame ∧ (State.refuseAll s t l).pipe = s.pipe ∧ (State.refuseAll s t l).ctxs = s.ctxs ∧ (State.refuseAll s t l).dec = s.dec ∧ (State.refuseAll s t l).vs = s.vs ∧ (State.refuseAll s t l).former = s.former ∧ (State.refuseAll s t l).usb = s.usb ∧ (State.refuseAll s t l).ser = s.ser ∧ (State.refuseAll s t l).pair = s.pair ∧ (State.refuseAll s t l).fab = s.fab ∧ (State.refuseAll s t l).fresh = s.fresh := by
  first
  | (unfold State.refuseAll; simp; done)
  | (unfold State.refuseAll; (try dsimp only); (repeat' split) <;> (first | rfl | (simp; done) | (simp_all; done) | (try simp)))
@[simp] theorem State.arrive_frame (s : State) (t : TrowelId) (a : BitVec 16) (v : Word) :
    (State.arrive s t a v).pending = s.pending ∧ (State.arrive s t a v).identity = s.identity ∧ (State.arrive s t a v).aon = s.aon ∧ (State.arrive s t a v).pins = s.pins ∧ (State.arrive s t a v).tap = s.tap ∧ (State.arrive s t a v).thermal = s.thermal ∧ (State.arrive s t a v).nextFrame = s.nextFrame ∧ (State.arrive s t a v).ctxs = s.ctxs := by
  first
  | (unfold State.arrive; simp; done)
  | (unfold State.arrive; (try dsimp only); (repeat' split) <;> (first | rfl | (simp; done) | (simp_all; done) | (try simp)))
@[simp] theorem State.post_frame (s : State) (t : TrowelId) (w : Posted) :
    (State.post s t w).pending = s.pending ∧ (State.post s t w).identity = s.identity ∧ (State.post s t w).aon = s.aon ∧ (State.post s t w).pins = s.pins ∧ (State.post s t w).boot = s.boot ∧ (State.post s t w).sys = s.sys ∧ (State.post s t w).shadow = s.shadow ∧ (State.post s t w).tap = s.tap ∧ (State.post s t w).time = s.time ∧ (State.post s t w).thermal = s.thermal ∧ (State.post s t w).amb = s.amb ∧ (State.post s t w).ports = s.ports ∧ (State.post s t w).nextFrame = s.nextFrame ∧ (State.post s t w).pipe = s.pipe ∧ (State.post s t w).ctxs = s.ctxs ∧ (State.post s t w).dec = s.dec ∧ (State.post s t w).former = s.former ∧ (State.post s t w).fresh = s.fresh := by
  first
  | (unfold State.post; simp; done)
  | (unfold State.post; (try dsimp only); (repeat' split) <;> (first | rfl | (simp; done) | (simp_all; done) | (try simp)))
@[simp] theorem State.closeGroup_frame (s : State) (t : TrowelId) :
    (State.closeGroup s t).pending = s.pending ∧ (State.closeGroup s t).identity = s.identity ∧ (State.closeGroup s t).aon = s.aon ∧ (State.closeGroup s t).pins = s.pins ∧ (State.closeGroup s t).phase = s.phase ∧ (State.closeGroup s t).boot = s.boot ∧ (State.closeGroup s t).sys = s.sys ∧ (State.closeGroup s t).balls = s.balls ∧ (State.closeGroup s t).fields = s.fields ∧ (State.closeGroup s t).shadow = s.shadow ∧ (State.closeGroup s t).faulted = s.faulted ∧ (State.closeGroup s t).bb = s.bb ∧ (State.closeGroup s t).tap = s.tap ∧ (State.closeGroup s t).time = s.time ∧ (State.closeGroup s t).thermal = s.thermal ∧ (State.closeGroup s t).light = s.light ∧ (State.closeGroup s t).adcA = s.adcA ∧ (State.closeGroup s t).adcB = s.adcB ∧ (State.closeGroup s t).amb = s.amb ∧ (State.closeGroup s t).ports = s.ports ∧ (State.closeGroup s t).frames = s.frames ∧ (State.closeGroup s t).nextFrame = s.nextFrame ∧ (State.closeGroup s t).pipe = s.pipe ∧ (State.closeGroup s t).ctxs = s.ctxs ∧ (State.closeGroup s t).dec = s.dec ∧ (State.closeGroup s t).vs = s.vs ∧ (State.closeGroup s t).former = s.former ∧ (State.closeGroup s t).usb = s.usb ∧ (State.closeGroup s t).ser = s.ser ∧ (State.closeGroup s t).pair = s.pair ∧ (State.closeGroup s t).fab = s.fab ∧ (State.closeGroup s t).fresh = s.fresh := by
  first
  | (unfold State.closeGroup; simp; done)
  | (unfold State.closeGroup; (try dsimp only); (repeat' split) <;> (first | rfl | (simp; done) | (simp_all; done) | (try simp)))
@[simp] theorem State.syncWrites_frame (s : State) (t : TrowelId) :
    (State.syncWrites s t).pending = s.pending ∧ (State.syncWrites s t).identity = s.identity ∧ (State.syncWrites s t).aon = s.aon ∧ (State.syncWrites s t).pins = s.pins ∧ (State.syncWrites s t).phase = s.phase ∧ (State.syncWrites s t).boot = s.boot ∧ (State.syncWrites s t).sys = s.sys ∧ (State.syncWrites s t).balls = s.balls ∧ (State.syncWrites s t).fields = s.fields ∧ (State.syncWrites s t).shadow = s.shadow ∧ (State.syncWrites s t).faulted = s.faulted ∧ (State.syncWrites s t).bb = s.bb ∧ (State.syncWrites s t).tap = s.tap ∧ (State.syncWrites s t).time = s.time ∧ (State.syncWrites s t).thermal = s.thermal ∧ (State.syncWrites s t).light = s.light ∧ (State.syncWrites s t).adcA = s.adcA ∧ (State.syncWrites s t).adcB = s.adcB ∧ (State.syncWrites s t).amb = s.amb ∧ (State.syncWrites s t).ports = s.ports ∧ (State.syncWrites s t).frames = s.frames ∧ (State.syncWrites s t).nextFrame = s.nextFrame ∧ (State.syncWrites s t).pipe = s.pipe ∧ (State.syncWrites s t).ctxs = s.ctxs ∧ (State.syncWrites s t).dec = s.dec ∧ (State.syncWrites s t).vs = s.vs ∧ (State.syncWrites s t).former = s.former ∧ (State.syncWrites s t).usb = s.usb ∧ (State.syncWrites s t).ser = s.ser ∧ (State.syncWrites s t).pair = s.pair ∧ (State.syncWrites s t).fab = s.fab ∧ (State.syncWrites s t).fresh = s.fresh := by
  first
  | (unfold State.syncWrites; simp; done)
  | (unfold State.syncWrites; (try dsimp only); (repeat' split) <;> (first | rfl | (simp; done) | (simp_all; done) | (try simp)))
@[simp] theorem State.resume_frame (s : State) (t : TrowelId) :
    (State.resume s t).pending = s.pending ∧ (State.resume s t).identity = s.identity ∧ (State.resume s t).aon = s.aon ∧ (State.resume s t).pins = s.pins ∧ (State.resume s t).boot = s.boot ∧ (State.resume s t).sys = s.sys ∧ (State.resume s t).shadow = s.shadow ∧ (State.resume s t).tap = s.tap ∧ (State.resume s t).time = s.time ∧ (State.resume s t).thermal = s.thermal ∧ (State.resume s t).amb = s.amb ∧ (State.resume s t).ports = s.ports ∧ (State.resume s t).nextFrame = s.nextFrame ∧ (State.resume s t).pipe = s.pipe ∧ (State.resume s t).ctxs = s.ctxs ∧ (State.resume s t).dec = s.dec ∧ (State.resume s t).former = s.former ∧ (State.resume s t).fresh = s.fresh := by
  first
  | (unfold State.resume; simp; done)
  | (unfold State.resume; (try dsimp only); (repeat' split) <;> (first | rfl | (simp; done) | (simp_all; done) | (try simp)))
@[simp] theorem State.orStall_pending (s : State) (t : TrowelId) (op : Stall) (f : State → State) (h : ∀ s, (f s).pending = s.pending) :
    (State.orStall s t op f).pending = s.pending := by
  unfold State.orStall; (try dsimp only); (repeat' split) <;> (first | rfl | (simp; done) | (simp [h]; done) | (simp_all; done) | (try simp [h]))
@[simp] theorem State.orStall_pipe (s : State) (t : TrowelId) (op : Stall) (f : State → State) (h : ∀ s, (f s).pipe = s.pipe) :
    (State.orStall s t op f).pipe = s.pipe := by
  unfold State.orStall; (try dsimp only); (repeat' split) <;> (first | rfl | (simp; done) | (simp [h]; done) | (simp_all; done) | (try simp [h]))
@[simp] theorem State.orStall_faulted (s : State) (t : TrowelId) (op : Stall) (f : State → State) (h : ∀ s, (f s).faulted = s.faulted) :
    (State.orStall s t op f).faulted = s.faulted := by
  unfold State.orStall; (try dsimp only); (repeat' split) <;> (first | rfl | (simp; done) | (simp [h]; done) | (simp_all; done) | (try simp [h]))
@[simp] theorem State.orStall_identity (s : State) (t : TrowelId) (op : Stall) (f : State → State) (h : ∀ s, (f s).identity = s.identity) :
    (State.orStall s t op f).identity = s.identity := by
  unfold State.orStall; (try dsimp only); (repeat' split) <;> (first | rfl | (simp; done) | (simp [h]; done) | (simp_all; done) | (try simp [h]))
@[simp] theorem State.orStall_aon (s : State) (t : TrowelId) (op : Stall) (f : State → State) (h : ∀ s, (f s).aon = s.aon) :
    (State.orStall s t op f).aon = s.aon := by
  unfold State.orStall; (try dsimp only); (repeat' split) <;> (first | rfl | (simp; done) | (simp [h]; done) | (simp_all; done) | (try simp [h]))
@[simp] theorem State.orStall_pins (s : State) (t : TrowelId) (op : Stall) (f : State → State) (h : ∀ s, (f s).pins = s.pins) :
    (State.orStall s t op f).pins = s.pins := by
  unfold State.orStall; (try dsimp only); (repeat' split) <;> (first | rfl | (simp; done) | (simp [h]; done) | (simp_all; done) | (try simp [h]))
@[simp] theorem State.orStall_phase (s : State) (t : TrowelId) (op : Stall) (f : State → State) (h : ∀ s, (f s).phase = s.phase) :
    (State.orStall s t op f).phase = s.phase := by
  unfold State.orStall; (try dsimp only); (repeat' split) <;> (first | rfl | (simp; done) | (simp [h]; done) | (simp_all; done) | (try simp [h]))
@[simp] theorem State.orStall_boot (s : State) (t : TrowelId) (op : Stall) (f : State → State) (h : ∀ s, (f s).boot = s.boot) :
    (State.orStall s t op f).boot = s.boot := by
  unfold State.orStall; (try dsimp only); (repeat' split) <;> (first | rfl | (simp; done) | (simp [h]; done) | (simp_all; done) | (try simp [h]))
@[simp] theorem State.orStall_sys (s : State) (t : TrowelId) (op : Stall) (f : State → State) (h : ∀ s, (f s).sys = s.sys) :
    (State.orStall s t op f).sys = s.sys := by
  unfold State.orStall; (try dsimp only); (repeat' split) <;> (first | rfl | (simp; done) | (simp [h]; done) | (simp_all; done) | (try simp [h]))
@[simp] theorem State.orStall_balls (s : State) (t : TrowelId) (op : Stall) (f : State → State) (h : ∀ s, (f s).balls = s.balls) :
    (State.orStall s t op f).balls = s.balls := by
  unfold State.orStall; (try dsimp only); (repeat' split) <;> (first | rfl | (simp; done) | (simp [h]; done) | (simp_all; done) | (try simp [h]))
@[simp] theorem State.orStall_fields (s : State) (t : TrowelId) (op : Stall) (f : State → State) (h : ∀ s, (f s).fields = s.fields) :
    (State.orStall s t op f).fields = s.fields := by
  unfold State.orStall; (try dsimp only); (repeat' split) <;> (first | rfl | (simp; done) | (simp [h]; done) | (simp_all; done) | (try simp [h]))
@[simp] theorem State.orStall_shadow (s : State) (t : TrowelId) (op : Stall) (f : State → State) (h : ∀ s, (f s).shadow = s.shadow) :
    (State.orStall s t op f).shadow = s.shadow := by
  unfold State.orStall; (try dsimp only); (repeat' split) <;> (first | rfl | (simp; done) | (simp [h]; done) | (simp_all; done) | (try simp [h]))
@[simp] theorem State.orStall_bb (s : State) (t : TrowelId) (op : Stall) (f : State → State) (h : ∀ s, (f s).bb = s.bb) :
    (State.orStall s t op f).bb = s.bb := by
  unfold State.orStall; (try dsimp only); (repeat' split) <;> (first | rfl | (simp; done) | (simp [h]; done) | (simp_all; done) | (try simp [h]))
@[simp] theorem State.orStall_tap (s : State) (t : TrowelId) (op : Stall) (f : State → State) (h : ∀ s, (f s).tap = s.tap) :
    (State.orStall s t op f).tap = s.tap := by
  unfold State.orStall; (try dsimp only); (repeat' split) <;> (first | rfl | (simp; done) | (simp [h]; done) | (simp_all; done) | (try simp [h]))
@[simp] theorem State.orStall_time (s : State) (t : TrowelId) (op : Stall) (f : State → State) (h : ∀ s, (f s).time = s.time) :
    (State.orStall s t op f).time = s.time := by
  unfold State.orStall; (try dsimp only); (repeat' split) <;> (first | rfl | (simp; done) | (simp [h]; done) | (simp_all; done) | (try simp [h]))
@[simp] theorem State.orStall_thermal (s : State) (t : TrowelId) (op : Stall) (f : State → State) (h : ∀ s, (f s).thermal = s.thermal) :
    (State.orStall s t op f).thermal = s.thermal := by
  unfold State.orStall; (try dsimp only); (repeat' split) <;> (first | rfl | (simp; done) | (simp [h]; done) | (simp_all; done) | (try simp [h]))
@[simp] theorem State.orStall_light (s : State) (t : TrowelId) (op : Stall) (f : State → State) (h : ∀ s, (f s).light = s.light) :
    (State.orStall s t op f).light = s.light := by
  unfold State.orStall; (try dsimp only); (repeat' split) <;> (first | rfl | (simp; done) | (simp [h]; done) | (simp_all; done) | (try simp [h]))
@[simp] theorem State.orStall_adcA (s : State) (t : TrowelId) (op : Stall) (f : State → State) (h : ∀ s, (f s).adcA = s.adcA) :
    (State.orStall s t op f).adcA = s.adcA := by
  unfold State.orStall; (try dsimp only); (repeat' split) <;> (first | rfl | (simp; done) | (simp [h]; done) | (simp_all; done) | (try simp [h]))
@[simp] theorem State.orStall_adcB (s : State) (t : TrowelId) (op : Stall) (f : State → State) (h : ∀ s, (f s).adcB = s.adcB) :
    (State.orStall s t op f).adcB = s.adcB := by
  unfold State.orStall; (try dsimp only); (repeat' split) <;> (first | rfl | (simp; done) | (simp [h]; done) | (simp_all; done) | (try simp [h]))
@[simp] theorem State.orStall_amb (s : State) (t : TrowelId) (op : Stall) (f : State → State) (h : ∀ s, (f s).amb = s.amb) :
    (State.orStall s t op f).amb = s.amb := by
  unfold State.orStall; (try dsimp only); (repeat' split) <;> (first | rfl | (simp; done) | (simp [h]; done) | (simp_all; done) | (try simp [h]))
@[simp] theorem State.orStall_ports (s : State) (t : TrowelId) (op : Stall) (f : State → State) (h : ∀ s, (f s).ports = s.ports) :
    (State.orStall s t op f).ports = s.ports := by
  unfold State.orStall; (try dsimp only); (repeat' split) <;> (first | rfl | (simp; done) | (simp [h]; done) | (simp_all; done) | (try simp [h]))
@[simp] theorem State.orStall_frames (s : State) (t : TrowelId) (op : Stall) (f : State → State) (h : ∀ s, (f s).frames = s.frames) :
    (State.orStall s t op f).frames = s.frames := by
  unfold State.orStall; (try dsimp only); (repeat' split) <;> (first | rfl | (simp; done) | (simp [h]; done) | (simp_all; done) | (try simp [h]))
@[simp] theorem State.orStall_nextFrame (s : State) (t : TrowelId) (op : Stall) (f : State → State) (h : ∀ s, (f s).nextFrame = s.nextFrame) :
    (State.orStall s t op f).nextFrame = s.nextFrame := by
  unfold State.orStall; (try dsimp only); (repeat' split) <;> (first | rfl | (simp; done) | (simp [h]; done) | (simp_all; done) | (try simp [h]))
@[simp] theorem State.orStall_ctxs (s : State) (t : TrowelId) (op : Stall) (f : State → State) (h : ∀ s, (f s).ctxs = s.ctxs) :
    (State.orStall s t op f).ctxs = s.ctxs := by
  unfold State.orStall; (try dsimp only); (repeat' split) <;> (first | rfl | (simp; done) | (simp [h]; done) | (simp_all; done) | (try simp [h]))
@[simp] theorem State.orStall_dec (s : State) (t : TrowelId) (op : Stall) (f : State → State) (h : ∀ s, (f s).dec = s.dec) :
    (State.orStall s t op f).dec = s.dec := by
  unfold State.orStall; (try dsimp only); (repeat' split) <;> (first | rfl | (simp; done) | (simp [h]; done) | (simp_all; done) | (try simp [h]))
@[simp] theorem State.orStall_vs (s : State) (t : TrowelId) (op : Stall) (f : State → State) (h : ∀ s, (f s).vs = s.vs) :
    (State.orStall s t op f).vs = s.vs := by
  unfold State.orStall; (try dsimp only); (repeat' split) <;> (first | rfl | (simp; done) | (simp [h]; done) | (simp_all; done) | (try simp [h]))
@[simp] theorem State.orStall_former (s : State) (t : TrowelId) (op : Stall) (f : State → State) (h : ∀ s, (f s).former = s.former) :
    (State.orStall s t op f).former = s.former := by
  unfold State.orStall; (try dsimp only); (repeat' split) <;> (first | rfl | (simp; done) | (simp [h]; done) | (simp_all; done) | (try simp [h]))
@[simp] theorem State.orStall_usb (s : State) (t : TrowelId) (op : Stall) (f : State → State) (h : ∀ s, (f s).usb = s.usb) :
    (State.orStall s t op f).usb = s.usb := by
  unfold State.orStall; (try dsimp only); (repeat' split) <;> (first | rfl | (simp; done) | (simp [h]; done) | (simp_all; done) | (try simp [h]))
@[simp] theorem State.orStall_ser (s : State) (t : TrowelId) (op : Stall) (f : State → State) (h : ∀ s, (f s).ser = s.ser) :
    (State.orStall s t op f).ser = s.ser := by
  unfold State.orStall; (try dsimp only); (repeat' split) <;> (first | rfl | (simp; done) | (simp [h]; done) | (simp_all; done) | (try simp [h]))
@[simp] theorem State.orStall_pair (s : State) (t : TrowelId) (op : Stall) (f : State → State) (h : ∀ s, (f s).pair = s.pair) :
    (State.orStall s t op f).pair = s.pair := by
  unfold State.orStall; (try dsimp only); (repeat' split) <;> (first | rfl | (simp; done) | (simp [h]; done) | (simp_all; done) | (try simp [h]))
@[simp] theorem State.orStall_fab (s : State) (t : TrowelId) (op : Stall) (f : State → State) (h : ∀ s, (f s).fab = s.fab) :
    (State.orStall s t op f).fab = s.fab := by
  unfold State.orStall; (try dsimp only); (repeat' split) <;> (first | rfl | (simp; done) | (simp [h]; done) | (simp_all; done) | (try simp [h]))
@[simp] theorem State.orStall_fresh (s : State) (t : TrowelId) (op : Stall) (f : State → State) (h : ∀ s, (f s).fresh = s.fresh) :
    (State.orStall s t op f).fresh = s.fresh := by
  unfold State.orStall; (try dsimp only); (repeat' split) <;> (first | rfl | (simp; done) | (simp [h]; done) | (simp_all; done) | (try simp [h]))
@[simp] theorem State.access_pending (s : State) (t : TrowelId) (op : Stall) (f : State → State) (h : ∀ s, (f s).pending = s.pending) :
    (State.access s t op f).pending = s.pending := by
  unfold State.access State.whenRun State.orStall; (try dsimp only); (repeat' split) <;> (first | rfl | (simp; done) | (simp [h]; done) | (simp_all; done) | (try simp [h]))
@[simp] theorem State.access_pipe (s : State) (t : TrowelId) (op : Stall) (f : State → State) (h : ∀ s, (f s).pipe = s.pipe) :
    (State.access s t op f).pipe = s.pipe := by
  unfold State.access State.whenRun State.orStall; (try dsimp only); (repeat' split) <;> (first | rfl | (simp; done) | (simp [h]; done) | (simp_all; done) | (try simp [h]))
@[simp] theorem State.access_faulted (s : State) (t : TrowelId) (op : Stall) (f : State → State) (h : ∀ s, (f s).faulted = s.faulted) :
    (State.access s t op f).faulted = s.faulted := by
  unfold State.access State.whenRun State.orStall; (try dsimp only); (repeat' split) <;> (first | rfl | (simp; done) | (simp [h]; done) | (simp_all; done) | (try simp [h]))
@[simp] theorem State.access_identity (s : State) (t : TrowelId) (op : Stall) (f : State → State) (h : ∀ s, (f s).identity = s.identity) :
    (State.access s t op f).identity = s.identity := by
  unfold State.access State.whenRun State.orStall; (try dsimp only); (repeat' split) <;> (first | rfl | (simp; done) | (simp [h]; done) | (simp_all; done) | (try simp [h]))
@[simp] theorem State.access_aon (s : State) (t : TrowelId) (op : Stall) (f : State → State) (h : ∀ s, (f s).aon = s.aon) :
    (State.access s t op f).aon = s.aon := by
  unfold State.access State.whenRun State.orStall; (try dsimp only); (repeat' split) <;> (first | rfl | (simp; done) | (simp [h]; done) | (simp_all; done) | (try simp [h]))
@[simp] theorem State.access_pins (s : State) (t : TrowelId) (op : Stall) (f : State → State) (h : ∀ s, (f s).pins = s.pins) :
    (State.access s t op f).pins = s.pins := by
  unfold State.access State.whenRun State.orStall; (try dsimp only); (repeat' split) <;> (first | rfl | (simp; done) | (simp [h]; done) | (simp_all; done) | (try simp [h]))
@[simp] theorem State.access_phase (s : State) (t : TrowelId) (op : Stall) (f : State → State) (h : ∀ s, (f s).phase = s.phase) :
    (State.access s t op f).phase = s.phase := by
  unfold State.access State.whenRun State.orStall; (try dsimp only); (repeat' split) <;> (first | rfl | (simp; done) | (simp [h]; done) | (simp_all; done) | (try simp [h]))
@[simp] theorem State.access_boot (s : State) (t : TrowelId) (op : Stall) (f : State → State) (h : ∀ s, (f s).boot = s.boot) :
    (State.access s t op f).boot = s.boot := by
  unfold State.access State.whenRun State.orStall; (try dsimp only); (repeat' split) <;> (first | rfl | (simp; done) | (simp [h]; done) | (simp_all; done) | (try simp [h]))
@[simp] theorem State.access_sys (s : State) (t : TrowelId) (op : Stall) (f : State → State) (h : ∀ s, (f s).sys = s.sys) :
    (State.access s t op f).sys = s.sys := by
  unfold State.access State.whenRun State.orStall; (try dsimp only); (repeat' split) <;> (first | rfl | (simp; done) | (simp [h]; done) | (simp_all; done) | (try simp [h]))
@[simp] theorem State.access_balls (s : State) (t : TrowelId) (op : Stall) (f : State → State) (h : ∀ s, (f s).balls = s.balls) :
    (State.access s t op f).balls = s.balls := by
  unfold State.access State.whenRun State.orStall; (try dsimp only); (repeat' split) <;> (first | rfl | (simp; done) | (simp [h]; done) | (simp_all; done) | (try simp [h]))
@[simp] theorem State.access_fields (s : State) (t : TrowelId) (op : Stall) (f : State → State) (h : ∀ s, (f s).fields = s.fields) :
    (State.access s t op f).fields = s.fields := by
  unfold State.access State.whenRun State.orStall; (try dsimp only); (repeat' split) <;> (first | rfl | (simp; done) | (simp [h]; done) | (simp_all; done) | (try simp [h]))
@[simp] theorem State.access_shadow (s : State) (t : TrowelId) (op : Stall) (f : State → State) (h : ∀ s, (f s).shadow = s.shadow) :
    (State.access s t op f).shadow = s.shadow := by
  unfold State.access State.whenRun State.orStall; (try dsimp only); (repeat' split) <;> (first | rfl | (simp; done) | (simp [h]; done) | (simp_all; done) | (try simp [h]))
@[simp] theorem State.access_bb (s : State) (t : TrowelId) (op : Stall) (f : State → State) (h : ∀ s, (f s).bb = s.bb) :
    (State.access s t op f).bb = s.bb := by
  unfold State.access State.whenRun State.orStall; (try dsimp only); (repeat' split) <;> (first | rfl | (simp; done) | (simp [h]; done) | (simp_all; done) | (try simp [h]))
@[simp] theorem State.access_tap (s : State) (t : TrowelId) (op : Stall) (f : State → State) (h : ∀ s, (f s).tap = s.tap) :
    (State.access s t op f).tap = s.tap := by
  unfold State.access State.whenRun State.orStall; (try dsimp only); (repeat' split) <;> (first | rfl | (simp; done) | (simp [h]; done) | (simp_all; done) | (try simp [h]))
@[simp] theorem State.access_time (s : State) (t : TrowelId) (op : Stall) (f : State → State) (h : ∀ s, (f s).time = s.time) :
    (State.access s t op f).time = s.time := by
  unfold State.access State.whenRun State.orStall; (try dsimp only); (repeat' split) <;> (first | rfl | (simp; done) | (simp [h]; done) | (simp_all; done) | (try simp [h]))
@[simp] theorem State.access_thermal (s : State) (t : TrowelId) (op : Stall) (f : State → State) (h : ∀ s, (f s).thermal = s.thermal) :
    (State.access s t op f).thermal = s.thermal := by
  unfold State.access State.whenRun State.orStall; (try dsimp only); (repeat' split) <;> (first | rfl | (simp; done) | (simp [h]; done) | (simp_all; done) | (try simp [h]))
@[simp] theorem State.access_light (s : State) (t : TrowelId) (op : Stall) (f : State → State) (h : ∀ s, (f s).light = s.light) :
    (State.access s t op f).light = s.light := by
  unfold State.access State.whenRun State.orStall; (try dsimp only); (repeat' split) <;> (first | rfl | (simp; done) | (simp [h]; done) | (simp_all; done) | (try simp [h]))
@[simp] theorem State.access_adcA (s : State) (t : TrowelId) (op : Stall) (f : State → State) (h : ∀ s, (f s).adcA = s.adcA) :
    (State.access s t op f).adcA = s.adcA := by
  unfold State.access State.whenRun State.orStall; (try dsimp only); (repeat' split) <;> (first | rfl | (simp; done) | (simp [h]; done) | (simp_all; done) | (try simp [h]))
@[simp] theorem State.access_adcB (s : State) (t : TrowelId) (op : Stall) (f : State → State) (h : ∀ s, (f s).adcB = s.adcB) :
    (State.access s t op f).adcB = s.adcB := by
  unfold State.access State.whenRun State.orStall; (try dsimp only); (repeat' split) <;> (first | rfl | (simp; done) | (simp [h]; done) | (simp_all; done) | (try simp [h]))
@[simp] theorem State.access_amb (s : State) (t : TrowelId) (op : Stall) (f : State → State) (h : ∀ s, (f s).amb = s.amb) :
    (State.access s t op f).amb = s.amb := by
  unfold State.access State.whenRun State.orStall; (try dsimp only); (repeat' split) <;> (first | rfl | (simp; done) | (simp [h]; done) | (simp_all; done) | (try simp [h]))
@[simp] theorem State.access_ports (s : State) (t : TrowelId) (op : Stall) (f : State → State) (h : ∀ s, (f s).ports = s.ports) :
    (State.access s t op f).ports = s.ports := by
  unfold State.access State.whenRun State.orStall; (try dsimp only); (repeat' split) <;> (first | rfl | (simp; done) | (simp [h]; done) | (simp_all; done) | (try simp [h]))
@[simp] theorem State.access_frames (s : State) (t : TrowelId) (op : Stall) (f : State → State) (h : ∀ s, (f s).frames = s.frames) :
    (State.access s t op f).frames = s.frames := by
  unfold State.access State.whenRun State.orStall; (try dsimp only); (repeat' split) <;> (first | rfl | (simp; done) | (simp [h]; done) | (simp_all; done) | (try simp [h]))
@[simp] theorem State.access_nextFrame (s : State) (t : TrowelId) (op : Stall) (f : State → State) (h : ∀ s, (f s).nextFrame = s.nextFrame) :
    (State.access s t op f).nextFrame = s.nextFrame := by
  unfold State.access State.whenRun State.orStall; (try dsimp only); (repeat' split) <;> (first | rfl | (simp; done) | (simp [h]; done) | (simp_all; done) | (try simp [h]))
@[simp] theorem State.access_ctxs (s : State) (t : TrowelId) (op : Stall) (f : State → State) (h : ∀ s, (f s).ctxs = s.ctxs) :
    (State.access s t op f).ctxs = s.ctxs := by
  unfold State.access State.whenRun State.orStall; (try dsimp only); (repeat' split) <;> (first | rfl | (simp; done) | (simp [h]; done) | (simp_all; done) | (try simp [h]))
@[simp] theorem State.access_dec (s : State) (t : TrowelId) (op : Stall) (f : State → State) (h : ∀ s, (f s).dec = s.dec) :
    (State.access s t op f).dec = s.dec := by
  unfold State.access State.whenRun State.orStall; (try dsimp only); (repeat' split) <;> (first | rfl | (simp; done) | (simp [h]; done) | (simp_all; done) | (try simp [h]))
@[simp] theorem State.access_vs (s : State) (t : TrowelId) (op : Stall) (f : State → State) (h : ∀ s, (f s).vs = s.vs) :
    (State.access s t op f).vs = s.vs := by
  unfold State.access State.whenRun State.orStall; (try dsimp only); (repeat' split) <;> (first | rfl | (simp; done) | (simp [h]; done) | (simp_all; done) | (try simp [h]))
@[simp] theorem State.access_former (s : State) (t : TrowelId) (op : Stall) (f : State → State) (h : ∀ s, (f s).former = s.former) :
    (State.access s t op f).former = s.former := by
  unfold State.access State.whenRun State.orStall; (try dsimp only); (repeat' split) <;> (first | rfl | (simp; done) | (simp [h]; done) | (simp_all; done) | (try simp [h]))
@[simp] theorem State.access_usb (s : State) (t : TrowelId) (op : Stall) (f : State → State) (h : ∀ s, (f s).usb = s.usb) :
    (State.access s t op f).usb = s.usb := by
  unfold State.access State.whenRun State.orStall; (try dsimp only); (repeat' split) <;> (first | rfl | (simp; done) | (simp [h]; done) | (simp_all; done) | (try simp [h]))
@[simp] theorem State.access_ser (s : State) (t : TrowelId) (op : Stall) (f : State → State) (h : ∀ s, (f s).ser = s.ser) :
    (State.access s t op f).ser = s.ser := by
  unfold State.access State.whenRun State.orStall; (try dsimp only); (repeat' split) <;> (first | rfl | (simp; done) | (simp [h]; done) | (simp_all; done) | (try simp [h]))
@[simp] theorem State.access_pair (s : State) (t : TrowelId) (op : Stall) (f : State → State) (h : ∀ s, (f s).pair = s.pair) :
    (State.access s t op f).pair = s.pair := by
  unfold State.access State.whenRun State.orStall; (try dsimp only); (repeat' split) <;> (first | rfl | (simp; done) | (simp [h]; done) | (simp_all; done) | (try simp [h]))
@[simp] theorem State.access_fab (s : State) (t : TrowelId) (op : Stall) (f : State → State) (h : ∀ s, (f s).fab = s.fab) :
    (State.access s t op f).fab = s.fab := by
  unfold State.access State.whenRun State.orStall; (try dsimp only); (repeat' split) <;> (first | rfl | (simp; done) | (simp [h]; done) | (simp_all; done) | (try simp [h]))
@[simp] theorem State.access_fresh (s : State) (t : TrowelId) (op : Stall) (f : State → State) (h : ∀ s, (f s).fresh = s.fresh) :
    (State.access s t op f).fresh = s.fresh := by
  unfold State.access State.whenRun State.orStall; (try dsimp only); (repeat' split) <;> (first | rfl | (simp; done) | (simp [h]; done) | (simp_all; done) | (try simp [h]))
theorem execFld_frame (t : TrowelId) (rd : RegId) (field : BitVec 16) (s : State) :
    ∃ u, execFld t rd field s = .next u ∧
    u.pending = s.pending ∧ u.identity = s.identity ∧ u.aon = s.aon ∧ u.pins = s.pins ∧ u.phase = s.phase ∧ u.boot = s.boot ∧ u.sys = s.sys ∧ u.balls = s.balls ∧ u.fields = s.fields ∧ u.shadow = s.shadow ∧ u.faulted = s.faulted ∧ u.bb = s.bb ∧ u.tap = s.tap ∧ u.time = s.time ∧ u.thermal = s.thermal ∧ u.light = s.light ∧ u.adcA = s.adcA ∧ u.adcB = s.adcB ∧ u.amb = s.amb ∧ u.ports = s.ports ∧ u.frames = s.frames ∧ u.nextFrame = s.nextFrame ∧ u.pipe = s.pipe ∧ u.ctxs = s.ctxs ∧ u.dec = s.dec ∧ u.vs = s.vs ∧ u.former = s.former ∧ u.usb = s.usb ∧ u.ser = s.ser ∧ u.pair = s.pair ∧ u.fab = s.fab ∧ u.fresh = s.fresh := by
  refine ⟨_, rfl, ?_⟩
  first
  | (simp; done)
  | ((try simp only [State.whenRun, State.access, State.packet]); (repeat' split) <;> (first | rfl | (simp; done) | (simp_all; done) | (try simp)))
theorem execFldx_frame (t : TrowelId) (rd ra : RegId) (field : BitVec 16) (s : State) :
    ∃ u, execFldx t rd ra field s = .next u ∧
    u.pending = s.pending ∧ u.identity = s.identity ∧ u.aon = s.aon ∧ u.pins = s.pins ∧ u.phase = s.phase ∧ u.boot = s.boot ∧ u.sys = s.sys ∧ u.balls = s.balls ∧ u.fields = s.fields ∧ u.shadow = s.shadow ∧ u.faulted = s.faulted ∧ u.bb = s.bb ∧ u.tap = s.tap ∧ u.time = s.time ∧ u.thermal = s.thermal ∧ u.light = s.light ∧ u.adcA = s.adcA ∧ u.adcB = s.adcB ∧ u.amb = s.amb ∧ u.ports = s.ports ∧ u.frames = s.frames ∧ u.nextFrame = s.nextFrame ∧ u.pipe = s.pipe ∧ u.ctxs = s.ctxs ∧ u.dec = s.dec ∧ u.vs = s.vs ∧ u.former = s.former ∧ u.usb = s.usb ∧ u.ser = s.ser ∧ u.pair = s.pair ∧ u.fab = s.fab ∧ u.fresh = s.fresh := by
  refine ⟨_, rfl, ?_⟩
  first
  | (simp; done)
  | ((try simp only [State.whenRun, State.access, State.packet]); (repeat' split) <;> (first | rfl | (simp; done) | (simp_all; done) | (try simp)))
theorem execFieldReadReply_frame (t : TrowelId) (s : State) :
    ∃ u, execFieldReadReply t s = .next u ∧
    u.pending = s.pending ∧ u.identity = s.identity ∧ u.aon = s.aon ∧ u.pins = s.pins ∧ u.phase = s.phase ∧ u.boot = s.boot ∧ u.sys = s.sys ∧ u.balls = s.balls ∧ u.fields = s.fields ∧ u.shadow = s.shadow ∧ u.faulted = s.faulted ∧ u.bb = s.bb ∧ u.tap = s.tap ∧ u.time = s.time ∧ u.thermal = s.thermal ∧ u.light = s.light ∧ u.adcA = s.adcA ∧ u.adcB = s.adcB ∧ u.amb = s.amb ∧ u.ports = s.ports ∧ u.frames = s.frames ∧ u.nextFrame = s.nextFrame ∧ u.pipe = s.pipe ∧ u.ctxs = s.ctxs ∧ u.dec = s.dec ∧ u.vs = s.vs ∧ u.former = s.former ∧ u.usb = s.usb ∧ u.ser = s.ser ∧ u.pair = s.pair ∧ u.fab = s.fab ∧ u.fresh = s.fresh := by
  refine ⟨_, rfl, ?_⟩
  first
  | (simp; done)
  | ((try simp only [State.whenRun, State.access, State.packet]); (repeat' split) <;> (first | rfl | (simp; done) | (simp_all; done) | (try simp)))
theorem execFst_frame (t : TrowelId) (rs : RegId) (field : BitVec 16) (s : State) :
    ∃ u, execFst t rs field s = .next u ∧
    u.pending = s.pending ∧ u.identity = s.identity ∧ u.aon = s.aon ∧ u.pins = s.pins ∧ u.boot = s.boot ∧ u.sys = s.sys ∧ u.shadow = s.shadow ∧ u.tap = s.tap ∧ u.time = s.time ∧ u.thermal = s.thermal ∧ u.amb = s.amb ∧ u.ports = s.ports ∧ u.nextFrame = s.nextFrame ∧ u.pipe = s.pipe ∧ u.ctxs = s.ctxs ∧ u.dec = s.dec ∧ u.former = s.former ∧ u.fresh = s.fresh := by
  refine ⟨_, rfl, ?_⟩
  first
  | (simp; done)
  | ((try simp only [State.whenRun, State.access, State.packet]); (repeat' split) <;> (first | rfl | (simp; done) | (simp_all; done) | (try simp)))
theorem execFstx_frame (t : TrowelId) (rs ra : RegId) (field : BitVec 16) (s : State) :
    ∃ u, execFstx t rs ra field s = .next u ∧
    u.pending = s.pending ∧ u.identity = s.identity ∧ u.aon = s.aon ∧ u.pins = s.pins ∧ u.boot = s.boot ∧ u.sys = s.sys ∧ u.shadow = s.shadow ∧ u.tap = s.tap ∧ u.time = s.time ∧ u.thermal = s.thermal ∧ u.amb = s.amb ∧ u.ports = s.ports ∧ u.nextFrame = s.nextFrame ∧ u.pipe = s.pipe ∧ u.ctxs = s.ctxs ∧ u.dec = s.dec ∧ u.former = s.former ∧ u.fresh = s.fresh := by
  refine ⟨_, rfl, ?_⟩
  first
  | (simp; done)
  | ((try simp only [State.whenRun, State.access, State.packet]); (repeat' split) <;> (first | rfl | (simp; done) | (simp_all; done) | (try simp)))
theorem execFsync_frame (t : TrowelId) (s : State) :
    ∃ u, execFsync t s = .next u ∧
    u.pending = s.pending ∧ u.identity = s.identity ∧ u.aon = s.aon ∧ u.pins = s.pins ∧ u.phase = s.phase ∧ u.boot = s.boot ∧ u.sys = s.sys ∧ u.balls = s.balls ∧ u.fields = s.fields ∧ u.shadow = s.shadow ∧ u.faulted = s.faulted ∧ u.bb = s.bb ∧ u.tap = s.tap ∧ u.time = s.time ∧ u.thermal = s.thermal ∧ u.light = s.light ∧ u.adcA = s.adcA ∧ u.adcB = s.adcB ∧ u.amb = s.amb ∧ u.ports = s.ports ∧ u.frames = s.frames ∧ u.nextFrame = s.nextFrame ∧ u.pipe = s.pipe ∧ u.ctxs = s.ctxs ∧ u.dec = s.dec ∧ u.vs = s.vs ∧ u.former = s.former ∧ u.usb = s.usb ∧ u.ser = s.ser ∧ u.pair = s.pair ∧ u.fab = s.fab ∧ u.fresh = s.fresh := by
  refine ⟨_, rfl, ?_⟩
  first
  | (simp; done)
  | ((try simp only [State.whenRun, State.access, State.packet]); (repeat' split) <;> (first | rfl | (simp; done) | (simp_all; done) | (try simp)))
theorem execGrpb_frame (t : TrowelId) (s : State) :
    ∃ u, execGrpb t s = .next u ∧
    u.pending = s.pending ∧ u.identity = s.identity ∧ u.aon = s.aon ∧ u.pins = s.pins ∧ u.boot = s.boot ∧ u.sys = s.sys ∧ u.shadow = s.shadow ∧ u.tap = s.tap ∧ u.time = s.time ∧ u.thermal = s.thermal ∧ u.amb = s.amb ∧ u.ports = s.ports ∧ u.nextFrame = s.nextFrame ∧ u.pipe = s.pipe ∧ u.ctxs = s.ctxs ∧ u.dec = s.dec ∧ u.former = s.former ∧ u.fresh = s.fresh := by
  refine ⟨_, rfl, ?_⟩
  first
  | (simp; done)
  | ((try simp only [State.whenRun, State.access, State.packet]); (repeat' split) <;> (first | rfl | (simp; done) | (simp_all; done) | (try simp)))
theorem execGrpe_frame (t : TrowelId) (s : State) :
    ∃ u, execGrpe t s = .next u ∧
    u.pending = s.pending ∧ u.identity = s.identity ∧ u.aon = s.aon ∧ u.pins = s.pins ∧ u.phase = s.phase ∧ u.boot = s.boot ∧ u.sys = s.sys ∧ u.balls = s.balls ∧ u.fields = s.fields ∧ u.shadow = s.shadow ∧ u.faulted = s.faulted ∧ u.bb = s.bb ∧ u.tap = s.tap ∧ u.time = s.time ∧ u.thermal = s.thermal ∧ u.light = s.light ∧ u.adcA = s.adcA ∧ u.adcB = s.adcB ∧ u.amb = s.amb ∧ u.ports = s.ports ∧ u.frames = s.frames ∧ u.nextFrame = s.nextFrame ∧ u.pipe = s.pipe ∧ u.ctxs = s.ctxs ∧ u.dec = s.dec ∧ u.vs = s.vs ∧ u.former = s.former ∧ u.usb = s.usb ∧ u.ser = s.ser ∧ u.pair = s.pair ∧ u.fab = s.fab ∧ u.fresh = s.fresh := by
  refine ⟨_, rfl, ?_⟩
  first
  | (simp; done)
  | ((try simp only [State.whenRun, State.access, State.packet]); (repeat' split) <;> (first | rfl | (simp; done) | (simp_all; done) | (try simp)))
theorem execFieldWrite_frame (t : TrowelId) (field : BitVec 16) (v : Word) (s : State) :
    ∃ u, execFieldWrite t field v s = .next u ∧
    u.pending = s.pending ∧ u.identity = s.identity ∧ u.aon = s.aon ∧ u.pins = s.pins ∧ u.tap = s.tap ∧ u.thermal = s.thermal ∧ u.nextFrame = s.nextFrame ∧ u.ctxs = s.ctxs := by
  refine ⟨_, rfl, ?_⟩
  first
  | (simp; done)
  | ((try simp only [State.whenRun, State.access, State.packet]); (repeat' split) <;> (first | rfl | (simp; done) | (simp_all; done) | (try simp)))
theorem execFieldWriteAccepted_frame (t : TrowelId) (unit : UnitId) (s : State) :
    ∃ u, execFieldWriteAccepted t unit s = .next u ∧
    u.pending = s.pending ∧ u.identity = s.identity ∧ u.aon = s.aon ∧ u.pins = s.pins ∧ u.boot = s.boot ∧ u.sys = s.sys ∧ u.shadow = s.shadow ∧ u.tap = s.tap ∧ u.time = s.time ∧ u.thermal = s.thermal ∧ u.amb = s.amb ∧ u.ports = s.ports ∧ u.nextFrame = s.nextFrame ∧ u.pipe = s.pipe ∧ u.ctxs = s.ctxs ∧ u.dec = s.dec ∧ u.former = s.former ∧ u.fresh = s.fresh := by
  refine ⟨_, rfl, ?_⟩
  first
  | (simp; done)
  | ((try simp only [State.whenRun, State.access, State.packet]); (repeat' split) <;> (first | rfl | (simp; done) | (simp_all; done) | (try simp)))
end Sys2Proof.Machine
end

