-- ==== Sys2Proof/Laws/FrameBoot.lean ====
section
/-! SUPPORT. Frames: which parts of the state each operation of Machine/Boot leaves as they were. -/

namespace Sys2Proof.Machine
@[simp] theorem State.toReset_frame (s : State) (ph : Phase) (cause : BitVec 2) :
    (State.toReset s ph cause).pending = s.pending ∧ (State.toReset s ph cause).identity = s.identity ∧ (State.toReset s ph cause).pins = s.pins ∧ (State.toReset s ph cause).fresh = s.fresh := by
  first
  | (unfold State.toReset; simp; done)
  | (unfold State.toReset; (try dsimp only); (repeat' split) <;> (first | rfl | (simp; done) | (simp_all; done) | (try simp)))
@[simp] theorem State.beginBoot_frame (s : State) :
    (State.beginBoot s).pending = s.pending ∧ (State.beginBoot s).identity = s.identity ∧ (State.beginBoot s).pins = s.pins ∧ (State.beginBoot s).boot = s.boot ∧ (State.beginBoot s).sys = s.sys ∧ (State.beginBoot s).balls = s.balls ∧ (State.beginBoot s).fields = s.fields ∧ (State.beginBoot s).shadow = s.shadow ∧ (State.beginBoot s).trowels = s.trowels ∧ (State.beginBoot s).faulted = s.faulted ∧ (State.beginBoot s).light = s.light ∧ (State.beginBoot s).adcA = s.adcA ∧ (State.beginBoot s).adcB = s.adcB ∧ (State.beginBoot s).amb = s.amb ∧ (State.beginBoot s).ports = s.ports ∧ (State.beginBoot s).frames = s.frames ∧ (State.beginBoot s).nextFrame = s.nextFrame ∧ (State.beginBoot s).pipe = s.pipe ∧ (State.beginBoot s).ctxs = s.ctxs ∧ (State.beginBoot s).dec = s.dec ∧ (State.beginBoot s).vs = s.vs ∧ (State.beginBoot s).former = s.former ∧ (State.beginBoot s).usb = s.usb ∧ (State.beginBoot s).ser = s.ser ∧ (State.beginBoot s).pair = s.pair ∧ (State.beginBoot s).fab = s.fab ∧ (State.beginBoot s).fresh = s.fresh := by
  first
  | (unfold State.beginBoot; simp; done)
  | (unfold State.beginBoot; (try dsimp only); (repeat' split) <;> (first | rfl | (simp; done) | (simp_all; done) | (try simp)))
@[simp] theorem State.bootIfReady_frame (s : State) :
    (State.bootIfReady s).pending = s.pending ∧ (State.bootIfReady s).identity = s.identity ∧ (State.bootIfReady s).pins = s.pins ∧ (State.bootIfReady s).boot = s.boot ∧ (State.bootIfReady s).sys = s.sys ∧ (State.bootIfReady s).balls = s.balls ∧ (State.bootIfReady s).fields = s.fields ∧ (State.bootIfReady s).shadow = s.shadow ∧ (State.bootIfReady s).trowels = s.trowels ∧ (State.bootIfReady s).faulted = s.faulted ∧ (State.bootIfReady s).light = s.light ∧ (State.bootIfReady s).adcA = s.adcA ∧ (State.bootIfReady s).adcB = s.adcB ∧ (State.bootIfReady s).amb = s.amb ∧ (State.bootIfReady s).ports = s.ports ∧ (State.bootIfReady s).frames = s.frames ∧ (State.bootIfReady s).nextFrame = s.nextFrame ∧ (State.bootIfReady s).pipe = s.pipe ∧ (State.bootIfReady s).ctxs = s.ctxs ∧ (State.bootIfReady s).dec = s.dec ∧ (State.bootIfReady s).vs = s.vs ∧ (State.bootIfReady s).former = s.former ∧ (State.bootIfReady s).usb = s.usb ∧ (State.bootIfReady s).ser = s.ser ∧ (State.bootIfReady s).pair = s.pair ∧ (State.bootIfReady s).fab = s.fab ∧ (State.bootIfReady s).fresh = s.fresh := by
  first
  | (unfold State.bootIfReady; simp; done)
  | (unfold State.bootIfReady; (try dsimp only); (repeat' split) <;> (first | rfl | (simp; done) | (simp_all; done) | (try simp)))
theorem execPwrOkRise_frame (s : State) :
    ∃ u, execPwrOkRise s = .next u ∧
    u.pending = s.pending ∧ u.identity = s.identity ∧ u.fresh = s.fresh := by
  refine ⟨_, rfl, ?_⟩
  first
  | (simp; done)
  | ((try simp only [State.whenRun, State.access, State.packet]); (repeat' split) <;> (first | rfl | (simp; done) | (simp_all; done) | (try simp)))
theorem execPwrOkLow_frame (s : State) :
    ∃ u, execPwrOkLow s = .next u ∧
    u.pending = s.pending ∧ u.identity = s.identity ∧ u.fresh = s.fresh := by
  refine ⟨_, rfl, ?_⟩
  first
  | (simp; done)
  | ((try simp only [State.whenRun, State.access, State.packet]); (repeat' split) <;> (first | rfl | (simp; done) | (simp_all; done) | (try simp)))
theorem execResetNLow_frame (s : State) :
    ∃ u, execResetNLow s = .next u ∧
    u.pending = s.pending ∧ u.identity = s.identity ∧ u.fresh = s.fresh := by
  refine ⟨_, rfl, ?_⟩
  first
  | (simp; done)
  | ((try simp only [State.whenRun, State.access, State.packet]); (repeat' split) <;> (first | rfl | (simp; done) | (simp_all; done) | (try simp)))
theorem execResetNRise_frame (s : State) :
    ∃ u, execResetNRise s = .next u ∧
    u.pending = s.pending ∧ u.identity = s.identity ∧ u.boot = s.boot ∧ u.sys = s.sys ∧ u.balls = s.balls ∧ u.fields = s.fields ∧ u.shadow = s.shadow ∧ u.trowels = s.trowels ∧ u.faulted = s.faulted ∧ u.light = s.light ∧ u.adcA = s.adcA ∧ u.adcB = s.adcB ∧ u.amb = s.amb ∧ u.ports = s.ports ∧ u.frames = s.frames ∧ u.nextFrame = s.nextFrame ∧ u.pipe = s.pipe ∧ u.ctxs = s.ctxs ∧ u.dec = s.dec ∧ u.vs = s.vs ∧ u.former = s.former ∧ u.usb = s.usb ∧ u.ser = s.ser ∧ u.pair = s.pair ∧ u.fab = s.fab ∧ u.fresh = s.fresh := by
  refine ⟨_, rfl, ?_⟩
  first
  | (simp; done)
  | ((try simp only [State.whenRun, State.access, State.packet]); (repeat' split) <;> (first | rfl | (simp; done) | (simp_all; done) | (try simp)))
theorem execXrefStable_frame (s : State) :
    ∃ u, execXrefStable s = .next u ∧
    u.pending = s.pending ∧ u.identity = s.identity ∧ u.pins = s.pins ∧ u.boot = s.boot ∧ u.sys = s.sys ∧ u.balls = s.balls ∧ u.fields = s.fields ∧ u.shadow = s.shadow ∧ u.trowels = s.trowels ∧ u.faulted = s.faulted ∧ u.light = s.light ∧ u.adcA = s.adcA ∧ u.adcB = s.adcB ∧ u.amb = s.amb ∧ u.ports = s.ports ∧ u.frames = s.frames ∧ u.nextFrame = s.nextFrame ∧ u.pipe = s.pipe ∧ u.ctxs = s.ctxs ∧ u.dec = s.dec ∧ u.vs = s.vs ∧ u.former = s.former ∧ u.usb = s.usb ∧ u.ser = s.ser ∧ u.pair = s.pair ∧ u.fab = s.fab ∧ u.fresh = s.fresh := by
  refine ⟨_, rfl, ?_⟩
  first
  | (simp; done)
  | ((try simp only [State.whenRun, State.access, State.packet]); (repeat' split) <;> (first | rfl | (simp; done) | (simp_all; done) | (try simp)))
theorem execXrefLoss_frame (s : State) :
    ∃ u, execXrefLoss s = .next u ∧
    u.pending = s.pending ∧ u.identity = s.identity ∧ u.aon = s.aon ∧ u.pins = s.pins ∧ u.boot = s.boot ∧ u.sys = s.sys ∧ u.shadow = s.shadow ∧ u.faulted = s.faulted ∧ u.tap = s.tap ∧ u.thermal = s.thermal ∧ u.amb = s.amb ∧ u.nextFrame = s.nextFrame ∧ u.pipe = s.pipe ∧ u.ctxs = s.ctxs ∧ u.dec = s.dec ∧ u.former = s.former ∧ u.pair = s.pair ∧ u.fresh = s.fresh := by
  refine ⟨_, rfl, ?_⟩
  first
  | (simp; done)
  | ((try simp only [State.whenRun, State.access, State.packet]); (repeat' split) <;> (first | rfl | (simp; done) | (simp_all; done) | (try simp)))
theorem execVddAonLoss_frame (s : State) :
    ∃ u, execVddAonLoss s = .next u ∧
    u.pending = s.pending ∧ u.identity = s.identity ∧ u.pins = s.pins ∧ u.phase = s.phase ∧ u.boot = s.boot ∧ u.sys = s.sys ∧ u.balls = s.balls ∧ u.fields = s.fields ∧ u.shadow = s.shadow ∧ u.trowels = s.trowels ∧ u.faulted = s.faulted ∧ u.bb = s.bb ∧ u.tap = s.tap ∧ u.time = s.time ∧ u.thermal = s.thermal ∧ u.light = s.light ∧ u.adcA = s.adcA ∧ u.adcB = s.adcB ∧ u.amb = s.amb ∧ u.ports = s.ports ∧ u.frames = s.frames ∧ u.nextFrame = s.nextFrame ∧ u.pipe = s.pipe ∧ u.ctxs = s.ctxs ∧ u.dec = s.dec ∧ u.vs = s.vs ∧ u.former = s.former ∧ u.usb = s.usb ∧ u.ser = s.ser ∧ u.pair = s.pair ∧ u.fab = s.fab ∧ u.fresh = s.fresh := by
  refine ⟨_, rfl, ?_⟩
  first
  | (simp; done)
  | ((try simp only [State.whenRun, State.access, State.packet]); (repeat' split) <;> (first | rfl | (simp; done) | (simp_all; done) | (try simp)))
theorem execSlowClockWindowEnd_frame (xrefCycles : Nat) (s : State) :
    ∃ u, execSlowClockWindowEnd xrefCycles s = .next u ∧
    u.pending = s.pending ∧ u.identity = s.identity ∧ u.pins = s.pins ∧ u.boot = s.boot ∧ u.shadow = s.shadow ∧ u.faulted = s.faulted ∧ u.bb = s.bb ∧ u.tap = s.tap ∧ u.thermal = s.thermal ∧ u.amb = s.amb ∧ u.nextFrame = s.nextFrame ∧ u.pipe = s.pipe ∧ u.ctxs = s.ctxs ∧ u.vs = s.vs ∧ u.former = s.former ∧ u.usb = s.usb ∧ u.ser = s.ser ∧ u.fab = s.fab ∧ u.fresh = s.fresh := by
  refine ⟨_, rfl, ?_⟩
  first
  | (simp; done)
  | ((try simp only [State.whenRun, State.access, State.packet]); (repeat' split) <;> (first | rfl | (simp; done) | (simp_all; done) | (try simp)))
theorem execSlowClockEdgeTimeout_frame (s : State) :
    ∃ u, execSlowClockEdgeTimeout s = .next u ∧
    u.pending = s.pending ∧ u.identity = s.identity ∧ u.pins = s.pins ∧ u.phase = s.phase ∧ u.boot = s.boot ∧ u.sys = s.sys ∧ u.balls = s.balls ∧ u.fields = s.fields ∧ u.shadow = s.shadow ∧ u.trowels = s.trowels ∧ u.faulted = s.faulted ∧ u.bb = s.bb ∧ u.tap = s.tap ∧ u.time = s.time ∧ u.thermal = s.thermal ∧ u.light = s.light ∧ u.adcA = s.adcA ∧ u.adcB = s.adcB ∧ u.amb = s.amb ∧ u.ports = s.ports ∧ u.frames = s.frames ∧ u.nextFrame = s.nextFrame ∧ u.pipe = s.pipe ∧ u.ctxs = s.ctxs ∧ u.dec = s.dec ∧ u.vs = s.vs ∧ u.former = s.former ∧ u.usb = s.usb ∧ u.ser = s.ser ∧ u.pair = s.pair ∧ u.fab = s.fab ∧ u.fresh = s.fresh := by
  refine ⟨_, rfl, ?_⟩
  first
  | (simp; done)
  | ((try simp only [State.whenRun, State.access, State.packet]); (repeat' split) <;> (first | rfl | (simp; done) | (simp_all; done) | (try simp)))
@[simp] theorem State.stepEnd_frame (s : State) (n from_ : Nat) :
    (State.stepEnd s n from_).pending = s.pending ∧ (State.stepEnd s n from_).identity = s.identity ∧ (State.stepEnd s n from_).aon = s.aon ∧ (State.stepEnd s n from_).pins = s.pins ∧ (State.stepEnd s n from_).phase = s.phase ∧ (State.stepEnd s n from_).sys = s.sys ∧ (State.stepEnd s n from_).balls = s.balls ∧ (State.stepEnd s n from_).fields = s.fields ∧ (State.stepEnd s n from_).shadow = s.shadow ∧ (State.stepEnd s n from_).trowels = s.trowels ∧ (State.stepEnd s n from_).faulted = s.faulted ∧ (State.stepEnd s n from_).tap = s.tap ∧ (State.stepEnd s n from_).time = s.time ∧ (State.stepEnd s n from_).thermal = s.thermal ∧ (State.stepEnd s n from_).light = s.light ∧ (State.stepEnd s n from_).adcA = s.adcA ∧ (State.stepEnd s n from_).adcB = s.adcB ∧ (State.stepEnd s n from_).amb = s.amb ∧ (State.stepEnd s n from_).ports = s.ports ∧ (State.stepEnd s n from_).frames = s.frames ∧ (State.stepEnd s n from_).nextFrame = s.nextFrame ∧ (State.stepEnd s n from_).pipe = s.pipe ∧ (State.stepEnd s n from_).ctxs = s.ctxs ∧ (State.stepEnd s n from_).dec = s.dec ∧ (State.stepEnd s n from_).vs = s.vs ∧ (State.stepEnd s n from_).former = s.former ∧ (State.stepEnd s n from_).usb = s.usb ∧ (State.stepEnd s n from_).ser = s.ser ∧ (State.stepEnd s n from_).pair = s.pair ∧ (State.stepEnd s n from_).fab = s.fab ∧ (State.stepEnd s n from_).fresh = s.fresh := by
  first
  | (unfold State.stepEnd; simp; done)
  | (unfold State.stepEnd; (try dsimp only); (repeat' split) <;> (first | rfl | (simp; done) | (simp_all; done) | (try simp)))
@[simp] theorem State.strapEvents_frame (s : State) (n : Nat) :
    (State.strapEvents s n).pending = s.pending ∧ (State.strapEvents s n).identity = s.identity ∧ (State.strapEvents s n).aon = s.aon ∧ (State.strapEvents s n).pins = s.pins ∧ (State.strapEvents s n).phase = s.phase ∧ (State.strapEvents s n).boot = s.boot ∧ (State.strapEvents s n).sys = s.sys ∧ (State.strapEvents s n).balls = s.balls ∧ (State.strapEvents s n).fields = s.fields ∧ (State.strapEvents s n).shadow = s.shadow ∧ (State.strapEvents s n).trowels = s.trowels ∧ (State.strapEvents s n).faulted = s.faulted ∧ (State.strapEvents s n).tap = s.tap ∧ (State.strapEvents s n).time = s.time ∧ (State.strapEvents s n).thermal = s.thermal ∧ (State.strapEvents s n).light = s.light ∧ (State.strapEvents s n).adcA = s.adcA ∧ (State.strapEvents s n).adcB = s.adcB ∧ (State.strapEvents s n).amb = s.amb ∧ (State.strapEvents s n).ports = s.ports ∧ (State.strapEvents s n).frames = s.frames ∧ (State.strapEvents s n).nextFrame = s.nextFrame ∧ (State.strapEvents s n).pipe = s.pipe ∧ (State.strapEvents s n).ctxs = s.ctxs ∧ (State.strapEvents s n).dec = s.dec ∧ (State.strapEvents s n).vs = s.vs ∧ (State.strapEvents s n).former = s.former ∧ (State.strapEvents s n).usb = s.usb ∧ (State.strapEvents s n).ser = s.ser ∧ (State.strapEvents s n).pair = s.pair ∧ (State.strapEvents s n).fab = s.fab ∧ (State.strapEvents s n).fresh = s.fresh := by
  first
  | (unfold State.strapEvents; simp; done)
  | (unfold State.strapEvents; (try dsimp only); (repeat' split) <;> (first | rfl | (simp; done) | (simp_all; done) | (try simp)))
theorem execStrapSample_frame (readings : List (List Nat)) (s : State) :
    ∃ u, execStrapSample readings s = .next u ∧
    u.pending = s.pending ∧ u.identity = s.identity ∧ u.aon = s.aon ∧ u.pins = s.pins ∧ u.phase = s.phase ∧ u.balls = s.balls ∧ u.fields = s.fields ∧ u.shadow = s.shadow ∧ u.trowels = s.trowels ∧ u.faulted = s.faulted ∧ u.tap = s.tap ∧ u.time = s.time ∧ u.thermal = s.thermal ∧ u.light = s.light ∧ u.adcA = s.adcA ∧ u.adcB = s.adcB ∧ u.amb = s.amb ∧ u.ports = s.ports ∧ u.frames = s.frames ∧ u.nextFrame = s.nextFrame ∧ u.pipe = s.pipe ∧ u.ctxs = s.ctxs ∧ u.dec = s.dec ∧ u.vs = s.vs ∧ u.former = s.former ∧ u.usb = s.usb ∧ u.ser = s.ser ∧ u.pair = s.pair ∧ u.fab = s.fab ∧ u.fresh = s.fresh := by
  refine ⟨_, rfl, ?_⟩
  first
  | (simp; done)
  | ((try simp only [State.whenRun, State.access, State.packet]); (repeat' split) <;> (first | rfl | (simp; done) | (simp_all; done) | (try simp)))
theorem execOtpLoad_frame (content : Option OtpContent) (s : State) :
    ∃ u, execOtpLoad content s = .next u ∧
    u.pending = s.pending ∧ u.aon = s.aon ∧ u.pins = s.pins ∧ u.sys = s.sys ∧ u.shadow = s.shadow ∧ u.trowels = s.trowels ∧ u.faulted = s.faulted ∧ u.tap = s.tap ∧ u.time = s.time ∧ u.thermal = s.thermal ∧ u.amb = s.amb ∧ u.ports = s.ports ∧ u.nextFrame = s.nextFrame ∧ u.pipe = s.pipe ∧ u.ctxs = s.ctxs ∧ u.dec = s.dec ∧ u.former = s.former ∧ u.fresh = s.fresh := by
  refine ⟨_, rfl, ?_⟩
  first
  | (simp; done)
  | ((try simp only [State.whenRun, State.access, State.packet]); (repeat' split) <;> (first | rfl | (simp; done) | (simp_all; done) | (try simp)))
@[simp] theorem State.storeFactors_frame (s : State) (c : Conv) (l : List CalFactor) :
    (State.storeFactors s c l).pending = s.pending ∧ (State.storeFactors s c l).identity = s.identity ∧ (State.storeFactors s c l).aon = s.aon ∧ (State.storeFactors s c l).pins = s.pins ∧ (State.storeFactors s c l).phase = s.phase ∧ (State.storeFactors s c l).boot = s.boot ∧ (State.storeFactors s c l).sys = s.sys ∧ (State.storeFactors s c l).balls = s.balls ∧ (State.storeFactors s c l).shadow = s.shadow ∧ (State.storeFactors s c l).trowels = s.trowels ∧ (State.storeFactors s c l).faulted = s.faulted ∧ (State.storeFactors s c l).bb = s.bb ∧ (State.storeFactors s c l).tap = s.tap ∧ (State.storeFactors s c l).time = s.time ∧ (State.storeFactors s c l).thermal = s.thermal ∧ (State.storeFactors s c l).light = s.light ∧ (State.storeFactors s c l).adcA = s.adcA ∧ (State.storeFactors s c l).adcB = s.adcB ∧ (State.storeFactors s c l).amb = s.amb ∧ (State.storeFactors s c l).ports = s.ports ∧ (State.storeFactors s c l).frames = s.frames ∧ (State.storeFactors s c l).nextFrame = s.nextFrame ∧ (State.storeFactors s c l).pipe = s.pipe ∧ (State.storeFactors s c l).ctxs = s.ctxs ∧ (State.storeFactors s c l).dec = s.dec ∧ (State.storeFactors s c l).vs = s.vs ∧ (State.storeFactors s c l).former = s.former ∧ (State.storeFactors s c l).usb = s.usb ∧ (State.storeFactors s c l).ser = s.ser ∧ (State.storeFactors s c l).pair = s.pair ∧ (State.storeFactors s c l).fab = s.fab ∧ (State.storeFactors s c l).fresh = s.fresh := by
  first
  | (unfold State.storeFactors; simp; done)
  | (unfold State.storeFactors; (try dsimp only); (repeat' split) <;> (first | rfl | (simp; done) | (simp_all; done) | (try simp)))
theorem execSelfCalibrationDone_frame (c : Conv) (dieTemp : Rat) (factors : List CalFactor) (failed : Option Nat) (s : State) :
    ∃ u, execSelfCalibrationDone c dieTemp factors failed s = .next u ∧
    u.pending = s.pending ∧ u.identity = s.identity ∧ u.pins = s.pins ∧ u.phase = s.phase ∧ u.sys = s.sys ∧ u.balls = s.balls ∧ u.shadow = s.shadow ∧ u.faulted = s.faulted ∧ u.tap = s.tap ∧ u.time = s.time ∧ u.thermal = s.thermal ∧ u.light = s.light ∧ u.amb = s.amb ∧ u.ports = s.ports ∧ u.frames = s.frames ∧ u.nextFrame = s.nextFrame ∧ u.pipe = s.pipe ∧ u.ctxs = s.ctxs ∧ u.dec = s.dec ∧ u.vs = s.vs ∧ u.former = s.former ∧ u.usb = s.usb ∧ u.ser = s.ser ∧ u.pair = s.pair ∧ u.fab = s.fab ∧ u.fresh = s.fresh := by
  refine ⟨_, rfl, ?_⟩
  first
  | (simp; done)
  | ((try simp only [State.whenRun, State.access, State.packet]); (repeat' split) <;> (first | rfl | (simp; done) | (simp_all; done) | (try simp)))
@[simp] theorem State.takeRecipe_frame (s : State) (r : Recipe) (src : BitVec 2) (isSealed : Bool) :
    (State.takeRecipe s r src isSealed).pending = s.pending ∧ (State.takeRecipe s r src isSealed).identity = s.identity ∧ (State.takeRecipe s r src isSealed).aon = s.aon ∧ (State.takeRecipe s r src isSealed).pins = s.pins ∧ (State.takeRecipe s r src isSealed).phase = s.phase ∧ (State.takeRecipe s r src isSealed).balls = s.balls ∧ (State.takeRecipe s r src isSealed).fields = s.fields ∧ (State.takeRecipe s r src isSealed).shadow = s.shadow ∧ (State.takeRecipe s r src isSealed).trowels = s.trowels ∧ (State.takeRecipe s r src isSealed).faulted = s.faulted ∧ (State.takeRecipe s r src isSealed).bb = s.bb ∧ (State.takeRecipe s r src isSealed).tap = s.tap ∧ (State.takeRecipe s r src isSealed).time = s.time ∧ (State.takeRecipe s r src isSealed).thermal = s.thermal ∧ (State.takeRecipe s r src isSealed).light = s.light ∧ (State.takeRecipe s r src isSealed).adcA = s.adcA ∧ (State.takeRecipe s r src isSealed).adcB = s.adcB ∧ (State.takeRecipe s r src isSealed).amb = s.amb ∧ (State.takeRecipe s r src isSealed).ports = s.ports ∧ (State.takeRecipe s r src isSealed).frames = s.frames ∧ (State.takeRecipe s r src isSealed).nextFrame = s.nextFrame ∧ (State.takeRecipe s r src isSealed).pipe = s.pipe ∧ (State.takeRecipe s r src isSealed).ctxs = s.ctxs ∧ (State.takeRecipe s r src isSealed).dec = s.dec ∧ (State.takeRecipe s r src isSealed).vs = s.vs ∧ (State.takeRecipe s r src isSealed).former = s.former ∧ (State.takeRecipe s r src isSealed).usb = s.usb ∧ (State.takeRecipe s r src isSealed).ser = s.ser ∧ (State.takeRecipe s r src isSealed).pair = s.pair ∧ (State.takeRecipe s r src isSealed).fab = s.fab ∧ (State.takeRecipe s r src isSealed).fresh = s.fresh := by
  first
  | (unfold State.takeRecipe; simp; done)
  | (unfold State.takeRecipe; (try dsimp only); (repeat' split) <;> (first | rfl | (simp; done) | (simp_all; done) | (try simp)))
@[simp] theorem State.failImage_frame (s : State) (code : Nat) :
    (State.failImage s code).pending = s.pending ∧ (State.failImage s code).identity = s.identity ∧ (State.failImage s code).aon = s.aon ∧ (State.failImage s code).pins = s.pins ∧ (State.failImage s code).shadow = s.shadow ∧ (State.failImage s code).trowels = s.trowels ∧ (State.failImage s code).faulted = s.faulted ∧ (State.failImage s code).tap = s.tap ∧ (State.failImage s code).time = s.time ∧ (State.failImage s code).thermal = s.thermal ∧ (State.failImage s code).amb = s.amb ∧ (State.failImage s code).ports = s.ports ∧ (State.failImage s code).nextFrame = s.nextFrame ∧ (State.failImage s code).pipe = s.pipe ∧ (State.failImage s code).ctxs = s.ctxs ∧ (State.failImage s code).dec = s.dec ∧ (State.failImage s code).former = s.former ∧ (State.failImage s code).fresh = s.fresh := by
  first
  | (unfold State.failImage; simp; done)
  | (unfold State.failImage; (try dsimp only); (repeat' split) <;> (first | rfl | (simp; done) | (simp_all; done) | (try simp)))
theorem execSfdpRead_frame (sfdp : SfdpReading) (s : State) :
    ∃ u, execSfdpRead sfdp s = .next u ∧
    u.pending = s.pending ∧ u.identity = s.identity ∧ u.aon = s.aon ∧ u.pins = s.pins ∧ u.shadow = s.shadow ∧ u.trowels = s.trowels ∧ u.faulted = s.faulted ∧ u.tap = s.tap ∧ u.time = s.time ∧ u.thermal = s.thermal ∧ u.amb = s.amb ∧ u.ports = s.ports ∧ u.nextFrame = s.nextFrame ∧ u.pipe = s.pipe ∧ u.ctxs = s.ctxs ∧ u.dec = s.dec ∧ u.former = s.former ∧ u.fresh = s.fresh := by
  refine ⟨_, rfl, ?_⟩
  first
  | (simp; done)
  | ((try simp only [State.whenRun, State.access, State.packet]); (repeat' split) <;> (first | rfl | (simp; done) | (simp_all; done) | (try simp)))
theorem execRecipeLoadDone_frame (flash : List (List Byte)) (s : State) :
    ∃ u, execRecipeLoadDone flash s = .next u ∧
    u.pending = s.pending ∧ u.identity = s.identity ∧ u.aon = s.aon ∧ u.pins = s.pins ∧ u.shadow = s.shadow ∧ u.trowels = s.trowels ∧ u.faulted = s.faulted ∧ u.tap = s.tap ∧ u.time = s.time ∧ u.thermal = s.thermal ∧ u.amb = s.amb ∧ u.ports = s.ports ∧ u.nextFrame = s.nextFrame ∧ u.pipe = s.pipe ∧ u.ctxs = s.ctxs ∧ u.dec = s.dec ∧ u.former = s.former ∧ u.fresh = s.fresh := by
  refine ⟨_, rfl, ?_⟩
  first
  | (simp; done)
  | ((try simp only [State.whenRun, State.access, State.packet]); (repeat' split) <;> (first | rfl | (simp; done) | (simp_all; done) | (try simp)))
@[simp] theorem State.judgeContent_frame (s : State) (r : Recipe) (isSealed : Bool) :
    (State.judgeContent s r isSealed).pending = s.pending ∧ (State.judgeContent s r isSealed).identity = s.identity ∧ (State.judgeContent s r isSealed).aon = s.aon ∧ (State.judgeContent s r isSealed).pins = s.pins ∧ (State.judgeContent s r isSealed).shadow = s.shadow ∧ (State.judgeContent s r isSealed).trowels = s.trowels ∧ (State.judgeContent s r isSealed).faulted = s.faulted ∧ (State.judgeContent s r isSealed).tap = s.tap ∧ (State.judgeContent s r isSealed).time = s.time ∧ (State.judgeContent s r isSealed).thermal = s.thermal ∧ (State.judgeContent s r isSealed).amb = s.amb ∧ (State.judgeContent s r isSealed).ports = s.ports ∧ (State.judgeContent s r isSealed).nextFrame = s.nextFrame ∧ (State.judgeContent s r isSealed).pipe = s.pipe ∧ (State.judgeContent s r isSealed).ctxs = s.ctxs ∧ (State.judgeContent s r isSealed).dec = s.dec ∧ (State.judgeContent s r isSealed).former = s.former ∧ (State.judgeContent s r isSealed).fresh = s.fresh := by
  first
  | (unfold State.judgeContent; simp; done)
  | (unfold State.judgeContent; (try dsimp only); (repeat' split) <;> (first | rfl | (simp; done) | (simp_all; done) | (try simp)))
theorem execSignatureCheckDone_frame (s : State) :
    ∃ u, execSignatureCheckDone s = .next u ∧
    u.pending = s.pending ∧ u.identity = s.identity ∧ u.aon = s.aon ∧ u.pins = s.pins ∧ u.shadow = s.shadow ∧ u.trowels = s.trowels ∧ u.faulted = s.faulted ∧ u.tap = s.tap ∧ u.time = s.time ∧ u.thermal = s.thermal ∧ u.amb = s.amb ∧ u.ports = s.ports ∧ u.nextFrame = s.nextFrame ∧ u.pipe = s.pipe ∧ u.ctxs = s.ctxs ∧ u.dec = s.dec ∧ u.former = s.former ∧ u.fresh = s.fresh := by
  refine ⟨_, rfl, ?_⟩
  first
  | (simp; done)
  | ((try simp only [State.whenRun, State.access, State.packet]); (repeat' split) <;> (first | rfl | (simp; done) | (simp_all; done) | (try simp)))
@[simp] theorem State.initialValue_frame (s : State) (e : Nat × Word) :
    (State.initialValue s e).pending = s.pending ∧ (State.initialValue s e).identity = s.identity ∧ (State.initialValue s e).aon = s.aon ∧ (State.initialValue s e).pins = s.pins ∧ (State.initialValue s e).phase = s.phase ∧ (State.initialValue s e).boot = s.boot ∧ (State.initialValue s e).sys = s.sys ∧ (State.initialValue s e).balls = s.balls ∧ (State.initialValue s e).shadow = s.shadow ∧ (State.initialValue s e).trowels = s.trowels ∧ (State.initialValue s e).faulted = s.faulted ∧ (State.initialValue s e).tap = s.tap ∧ (State.initialValue s e).time = s.time ∧ (State.initialValue s e).thermal = s.thermal ∧ (State.initialValue s e).light = s.light ∧ (State.initialValue s e).adcA = s.adcA ∧ (State.initialValue s e).adcB = s.adcB ∧ (State.initialValue s e).amb = s.amb ∧ (State.initialValue s e).ports = s.ports ∧ (State.initialValue s e).frames = s.frames ∧ (State.initialValue s e).nextFrame = s.nextFrame ∧ (State.initialValue s e).pipe = s.pipe ∧ (State.initialValue s e).ctxs = s.ctxs ∧ (State.initialValue s e).dec = s.dec ∧ (State.initialValue s e).vs = s.vs ∧ (State.initialValue s e).former = s.former ∧ (State.initialValue s e).usb = s.usb ∧ (State.initialValue s e).ser = s.ser ∧ (State.initialValue s e).pair = s.pair ∧ (State.initialValue s e).fab = s.fab ∧ (State.initialValue s e).fresh = s.fresh := by
  first
  | (unfold State.initialValue; simp; done)
  | (unfold State.initialValue; (try dsimp only); (repeat' split) <;> (first | rfl | (simp; done) | (simp_all; done) | (try simp)))
@[simp] theorem State.startUnits_frame (s : State) :
    (State.startUnits s).pending = s.pending ∧ (State.startUnits s).identity = s.identity ∧ (State.startUnits s).aon = s.aon ∧ (State.startUnits s).pins = s.pins ∧ (State.startUnits s).tap = s.tap ∧ (State.startUnits s).thermal = s.thermal ∧ (State.startUnits s).nextFrame = s.nextFrame ∧ (State.startUnits s).ctxs = s.ctxs := by
  first
  | (unfold State.startUnits; simp; done)
  | (unfold State.startUnits; (try dsimp only); (repeat' split) <;> (first | rfl | (simp; done) | (simp_all; done) | (try simp)))
@[simp] theorem State.loadFields_frame (s : State) (r : Recipe) :
    (State.loadFields s r).pending = s.pending ∧ (State.loadFields s r).identity = s.identity ∧ (State.loadFields s r).aon = s.aon ∧ (State.loadFields s r).pins = s.pins ∧ (State.loadFields s r).phase = s.phase ∧ (State.loadFields s r).boot = s.boot ∧ (State.loadFields s r).sys = s.sys ∧ (State.loadFields s r).balls = s.balls ∧ (State.loadFields s r).shadow = s.shadow ∧ (State.loadFields s r).trowels = s.trowels ∧ (State.loadFields s r).faulted = s.faulted ∧ (State.loadFields s r).tap = s.tap ∧ (State.loadFields s r).time = s.time ∧ (State.loadFields s r).thermal = s.thermal ∧ (State.loadFields s r).light = s.light ∧ (State.loadFields s r).adcA = s.adcA ∧ (State.loadFields s r).adcB = s.adcB ∧ (State.loadFields s r).amb = s.amb ∧ (State.loadFields s r).ports = s.ports ∧ (State.loadFields s r).frames = s.frames ∧ (State.loadFields s r).nextFrame = s.nextFrame ∧ (State.loadFields s r).pipe = s.pipe ∧ (State.loadFields s r).ctxs = s.ctxs ∧ (State.loadFields s r).dec = s.dec ∧ (State.loadFields s r).vs = s.vs ∧ (State.loadFields s r).usb = s.usb ∧ (State.loadFields s r).ser = s.ser ∧ (State.loadFields s r).pair = s.pair ∧ (State.loadFields s r).fab = s.fab ∧ (State.loadFields s r).fresh = s.fresh := by
  first
  | (unfold State.loadFields; simp; done)
  | (unfold State.loadFields; (try dsimp only); (repeat' split) <;> (first | rfl | (simp; done) | (simp_all; done) | (try simp)))
@[simp] theorem State.optionalMissing_frame (s : State) (r : Recipe) :
    (State.optionalMissing s r).pending = s.pending ∧ (State.optionalMissing s r).identity = s.identity ∧ (State.optionalMissing s r).aon = s.aon ∧ (State.optionalMissing s r).pins = s.pins ∧ (State.optionalMissing s r).phase = s.phase ∧ (State.optionalMissing s r).boot = s.boot ∧ (State.optionalMissing s r).sys = s.sys ∧ (State.optionalMissing s r).balls = s.balls ∧ (State.optionalMissing s r).fields = s.fields ∧ (State.optionalMissing s r).shadow = s.shadow ∧ (State.optionalMissing s r).trowels = s.trowels ∧ (State.optionalMissing s r).faulted = s.faulted ∧ (State.optionalMissing s r).tap = s.tap ∧ (State.optionalMissing s r).time = s.time ∧ (State.optionalMissing s r).thermal = s.thermal ∧ (State.optionalMissing s r).light = s.light ∧ (State.optionalMissing s r).adcA = s.adcA ∧ (State.optionalMissing s r).adcB = s.adcB ∧ (State.optionalMissing s r).amb = s.amb ∧ (State.optionalMissing s r).ports = s.ports ∧ (State.optionalMissing s r).frames = s.frames ∧ (State.optionalMissing s r).nextFrame = s.nextFrame ∧ (State.optionalMissing s r).pipe = s.pipe ∧ (State.optionalMissing s r).ctxs = s.ctxs ∧ (State.optionalMissing s r).dec = s.dec ∧ (State.optionalMissing s r).vs = s.vs ∧ (State.optionalMissing s r).former = s.former ∧ (State.optionalMissing s r).usb = s.usb ∧ (State.optionalMissing s r).ser = s.ser ∧ (State.optionalMissing s r).pair = s.pair ∧ (State.optionalMissing s r).fab = s.fab ∧ (State.optionalMissing s r).fresh = s.fresh := by
  first
  | (unfold State.optionalMissing; simp; done)
  | (unfold State.optionalMissing; (try dsimp only); (repeat' split) <;> (first | rfl | (simp; done) | (simp_all; done) | (try simp)))
@[simp] theorem State.startTrowels_frame (s : State) (r : Recipe) (n : BitVec 3) :
    (State.startTrowels s r n).pending = s.pending ∧ (State.startTrowels s r n).identity = s.identity ∧ (State.startTrowels s r n).aon = s.aon ∧ (State.startTrowels s r n).pins = s.pins ∧ (State.startTrowels s r n).phase = s.phase ∧ (State.startTrowels s r n).boot = s.boot ∧ (State.startTrowels s r n).sys = s.sys ∧ (State.startTrowels s r n).balls = s.balls ∧ (State.startTrowels s r n).fields = s.fields ∧ (State.startTrowels s r n).shadow = s.shadow ∧ (State.startTrowels s r n).faulted = s.faulted ∧ (State.startTrowels s r n).bb = s.bb ∧ (State.startTrowels s r n).tap = s.tap ∧ (State.startTrowels s r n).time = s.time ∧ (State.startTrowels s r n).thermal = s.thermal ∧ (State.startTrowels s r n).light = s.light ∧ (State.startTrowels s r n).adcA = s.adcA ∧ (State.startTrowels s r n).adcB = s.adcB ∧ (State.startTrowels s r n).amb = s.amb ∧ (State.startTrowels s r n).ports = s.ports ∧ (State.startTrowels s r n).frames = s.frames ∧ (State.startTrowels s r n).nextFrame = s.nextFrame ∧ (State.startTrowels s r n).pipe = s.pipe ∧ (State.startTrowels s r n).ctxs = s.ctxs ∧ (State.startTrowels s r n).dec = s.dec ∧ (State.startTrowels s r n).vs = s.vs ∧ (State.startTrowels s r n).former = s.former ∧ (State.startTrowels s r n).usb = s.usb ∧ (State.startTrowels s r n).ser = s.ser ∧ (State.startTrowels s r n).pair = s.pair ∧ (State.startTrowels s r n).fab = s.fab ∧ (State.startTrowels s r n).fresh = s.fresh := by
  first
  | (unfold State.startTrowels; simp; done)
  | (unfold State.startTrowels; (try dsimp only); (repeat' split) <;> (first | rfl | (simp; done) | (simp_all; done) | (try simp)))
@[simp] theorem State.startLight_frame (s : State) :
    (State.startLight s).pending = s.pending ∧ (State.startLight s).identity = s.identity ∧ (State.startLight s).aon = s.aon ∧ (State.startLight s).pins = s.pins ∧ (State.startLight s).phase = s.phase ∧ (State.startLight s).sys = s.sys ∧ (State.startLight s).balls = s.balls ∧ (State.startLight s).fields = s.fields ∧ (State.startLight s).shadow = s.shadow ∧ (State.startLight s).trowels = s.trowels ∧ (State.startLight s).faulted = s.faulted ∧ (State.startLight s).bb = s.bb ∧ (State.startLight s).tap = s.tap ∧ (State.startLight s).time = s.time ∧ (State.startLight s).thermal = s.thermal ∧ (State.startLight s).adcA = s.adcA ∧ (State.startLight s).adcB = s.adcB ∧ (State.startLight s).amb = s.amb ∧ (State.startLight s).ports = s.ports ∧ (State.startLight s).frames = s.frames ∧ (State.startLight s).nextFrame = s.nextFrame ∧ (State.startLight s).pipe = s.pipe ∧ (State.startLight s).ctxs = s.ctxs ∧ (State.startLight s).dec = s.dec ∧ (State.startLight s).vs = s.vs ∧ (State.startLight s).former = s.former ∧ (State.startLight s).usb = s.usb ∧ (State.startLight s).ser = s.ser ∧ (State.startLight s).pair = s.pair ∧ (State.startLight s).fab = s.fab ∧ (State.startLight s).fresh = s.fresh := by
  first
  | (unfold State.startLight; simp; done)
  | (unfold State.startLight; (try dsimp only); (repeat' split) <;> (first | rfl | (simp; done) | (simp_all; done) | (try simp)))
theorem execTrowelStart_frame (scn : BitVec 3) (s : State) :
    ∃ u, execTrowelStart scn s = .next u ∧
    u.pending = s.pending ∧ u.identity = s.identity ∧ u.aon = s.aon ∧ u.pins = s.pins ∧ u.tap = s.tap ∧ u.thermal = s.thermal ∧ u.nextFrame = s.nextFrame ∧ u.ctxs = s.ctxs := by
  refine ⟨_, rfl, ?_⟩
  first
  | (simp; done)
  | ((try simp only [State.whenRun, State.access, State.packet]); (repeat' split) <;> (first | rfl | (simp; done) | (simp_all; done) | (try simp)))
theorem execBootNeighbourTestDone_frame (s : State) :
    ∃ u, execBootNeighbourTestDone s = .next u ∧
    u.pending = s.pending ∧ u.identity = s.identity ∧ u.aon = s.aon ∧ u.pins = s.pins ∧ u.phase = s.phase ∧ u.sys = s.sys ∧ u.balls = s.balls ∧ u.faulted = s.faulted ∧ u.tap = s.tap ∧ u.time = s.time ∧ u.thermal = s.thermal ∧ u.adcA = s.adcA ∧ u.adcB = s.adcB ∧ u.amb = s.amb ∧ u.ports = s.ports ∧ u.frames = s.frames ∧ u.nextFrame = s.nextFrame ∧ u.pipe = s.pipe ∧ u.ctxs = s.ctxs ∧ u.dec = s.dec ∧ u.vs = s.vs ∧ u.former = s.former ∧ u.usb = s.usb ∧ u.ser = s.ser ∧ u.pair = s.pair ∧ u.fab = s.fab ∧ u.fresh = s.fresh := by
  refine ⟨_, rfl, ?_⟩
  first
  | (simp; done)
  | ((try simp only [State.whenRun, State.access, State.packet]); (repeat' split) <;> (first | rfl | (simp; done) | (simp_all; done) | (try simp)))
theorem execFabricDiscoveryDone_frame (s : State) :
    ∃ u, execFabricDiscoveryDone s = .next u ∧
    u.pending = s.pending ∧ u.identity = s.identity ∧ u.aon = s.aon ∧ u.pins = s.pins ∧ u.phase = s.phase ∧ u.sys = s.sys ∧ u.balls = s.balls ∧ u.shadow = s.shadow ∧ u.tap = s.tap ∧ u.time = s.time ∧ u.thermal = s.thermal ∧ u.light = s.light ∧ u.adcA = s.adcA ∧ u.adcB = s.adcB ∧ u.amb = s.amb ∧ u.ports = s.ports ∧ u.frames = s.frames ∧ u.nextFrame = s.nextFrame ∧ u.ctxs = s.ctxs ∧ u.dec = s.dec ∧ u.vs = s.vs ∧ u.fresh = s.fresh := by
  refine ⟨_, rfl, ?_⟩
  first
  | (simp; done)
  | ((try simp only [State.whenRun, State.access, State.packet]); (repeat' split) <;> (first | rfl | (simp; done) | (simp_all; done) | (try simp)))
theorem execPairHandshakeEnd_frame (s : State) :
    ∃ u, execPairHandshakeEnd s = .next u ∧
    u.pending = s.pending ∧ u.identity = s.identity ∧ u.aon = s.aon ∧ u.pins = s.pins ∧ u.phase = s.phase ∧ u.sys = s.sys ∧ u.balls = s.balls ∧ u.shadow = s.shadow ∧ u.trowels = s.trowels ∧ u.tap = s.tap ∧ u.time = s.time ∧ u.thermal = s.thermal ∧ u.light = s.light ∧ u.adcA = s.adcA ∧ u.adcB = s.adcB ∧ u.amb = s.amb ∧ u.ports = s.ports ∧ u.frames = s.frames ∧ u.nextFrame = s.nextFrame ∧ u.ctxs = s.ctxs ∧ u.dec = s.dec ∧ u.vs = s.vs ∧ u.fresh = s.fresh := by
  refine ⟨_, rfl, ?_⟩
  first
  | (simp; done)
  | ((try simp only [State.whenRun, State.access, State.packet]); (repeat' split) <;> (first | rfl | (simp; done) | (simp_all; done) | (try simp)))
theorem execReadyRise_frame (s : State) :
    ∃ u, execReadyRise s = .next u ∧
    u.pending = s.pending ∧ u.identity = s.identity ∧ u.aon = s.aon ∧ u.pins = s.pins ∧ u.shadow = s.shadow ∧ u.faulted = s.faulted ∧ u.tap = s.tap ∧ u.thermal = s.thermal ∧ u.amb = s.amb ∧ u.nextFrame = s.nextFrame ∧ u.pipe = s.pipe ∧ u.ctxs = s.ctxs ∧ u.vs = s.vs ∧ u.former = s.former ∧ u.ser = s.ser ∧ u.fresh = s.fresh := by
  refine ⟨_, rfl, ?_⟩
  first
  | (simp; done)
  | ((try simp only [State.whenRun, State.access, State.packet]); (repeat' split) <;> (first | rfl | (simp; done) | (simp_all; done) | (try simp)))
end Sys2Proof.Machine
end

