-- ==== Sys2Proof/Laws/FrameTap.lean ====
section
/-! SUPPORT. Frames: which parts of the state each operation of Machine/Tap leaves as they were. -/

namespace Sys2Proof.Machine
@[simp] theorem State.enterTest_frame (s : State) :
    (State.enterTest s).pending = s.pending ∧ (State.enterTest s).identity = s.identity ∧ (State.enterTest s).aon = s.aon ∧ (State.enterTest s).pins = s.pins ∧ (State.enterTest s).boot = s.boot ∧ (State.enterTest s).sys = s.sys ∧ (State.enterTest s).shadow = s.shadow ∧ (State.enterTest s).faulted = s.faulted ∧ (State.enterTest s).bb = s.bb ∧ (State.enterTest s).tap = s.tap ∧ (State.enterTest s).thermal = s.thermal ∧ (State.enterTest s).adcA = s.adcA ∧ (State.enterTest s).adcB = s.adcB ∧ (State.enterTest s).amb = s.amb ∧ (State.enterTest s).ports = s.ports ∧ (State.enterTest s).nextFrame = s.nextFrame ∧ (State.enterTest s).pipe = s.pipe ∧ (State.enterTest s).ctxs = s.ctxs ∧ (State.enterTest s).dec = s.dec ∧ (State.enterTest s).former = s.former ∧ (State.enterTest s).pair = s.pair ∧ (State.enterTest s).fresh = s.fresh := by
  first
  | (unfold State.enterTest; simp; done)
  | (unfold State.enterTest; (try dsimp only); (repeat' split) <;> (first | rfl | (simp; done) | (simp_all; done) | (try simp)))
@[simp] theorem State.loadIr_frame (s : State) (i : TapIr) :
    (State.loadIr s i).pending = s.pending ∧ (State.loadIr s i).identity = s.identity ∧ (State.loadIr s i).aon = s.aon ∧ (State.loadIr s i).pins = s.pins ∧ (State.loadIr s i).boot = s.boot ∧ (State.loadIr s i).sys = s.sys ∧ (State.loadIr s i).shadow = s.shadow ∧ (State.loadIr s i).faulted = s.faulted ∧ (State.loadIr s i).bb = s.bb ∧ (State.loadIr s i).thermal = s.thermal ∧ (State.loadIr s i).adcA = s.adcA ∧ (State.loadIr s i).adcB = s.adcB ∧ (State.loadIr s i).amb = s.amb ∧ (State.loadIr s i).ports = s.ports ∧ (State.loadIr s i).nextFrame = s.nextFrame ∧ (State.loadIr s i).pipe = s.pipe ∧ (State.loadIr s i).ctxs = s.ctxs ∧ (State.loadIr s i).dec = s.dec ∧ (State.loadIr s i).former = s.former ∧ (State.loadIr s i).pair = s.pair ∧ (State.loadIr s i).fresh = s.fresh := by
  first
  | (unfold State.loadIr; simp; done)
  | (unfold State.loadIr; (try dsimp only); (repeat' split) <;> (first | rfl | (simp; done) | (simp_all; done) | (try simp)))
@[simp] theorem State.shiftOut_frame (s : State) (l : List Bool) :
    (State.shiftOut s l).pending = s.pending ∧ (State.shiftOut s l).identity = s.identity ∧ (State.shiftOut s l).aon = s.aon ∧ (State.shiftOut s l).pins = s.pins ∧ (State.shiftOut s l).phase = s.phase ∧ (State.shiftOut s l).boot = s.boot ∧ (State.shiftOut s l).sys = s.sys ∧ (State.shiftOut s l).balls = s.balls ∧ (State.shiftOut s l).fields = s.fields ∧ (State.shiftOut s l).shadow = s.shadow ∧ (State.shiftOut s l).trowels = s.trowels ∧ (State.shiftOut s l).faulted = s.faulted ∧ (State.shiftOut s l).bb = s.bb ∧ (State.shiftOut s l).time = s.time ∧ (State.shiftOut s l).thermal = s.thermal ∧ (State.shiftOut s l).light = s.light ∧ (State.shiftOut s l).adcA = s.adcA ∧ (State.shiftOut s l).adcB = s.adcB ∧ (State.shiftOut s l).amb = s.amb ∧ (State.shiftOut s l).ports = s.ports ∧ (State.shiftOut s l).frames = s.frames ∧ (State.shiftOut s l).nextFrame = s.nextFrame ∧ (State.shiftOut s l).pipe = s.pipe ∧ (State.shiftOut s l).ctxs = s.ctxs ∧ (State.shiftOut s l).dec = s.dec ∧ (State.shiftOut s l).vs = s.vs ∧ (State.shiftOut s l).former = s.former ∧ (State.shiftOut s l).usb = s.usb ∧ (State.shiftOut s l).ser = s.ser ∧ (State.shiftOut s l).pair = s.pair ∧ (State.shiftOut s l).fab = s.fab ∧ (State.shiftOut s l).fresh = s.fresh := by
  first
  | (unfold State.shiftOut; simp; done)
  | (unfold State.shiftOut; (try dsimp only); (repeat' split) <;> (first | rfl | (simp; done) | (simp_all; done) | (try simp)))
@[simp] theorem State.boundaryScan_frame (s : State) (cells dr : List Bool) :
    (State.boundaryScan s cells dr).pending = s.pending ∧ (State.boundaryScan s cells dr).identity = s.identity ∧ (State.boundaryScan s cells dr).aon = s.aon ∧ (State.boundaryScan s cells dr).pins = s.pins ∧ (State.boundaryScan s cells dr).phase = s.phase ∧ (State.boundaryScan s cells dr).boot = s.boot ∧ (State.boundaryScan s cells dr).sys = s.sys ∧ (State.boundaryScan s cells dr).balls = s.balls ∧ (State.boundaryScan s cells dr).fields = s.fields ∧ (State.boundaryScan s cells dr).shadow = s.shadow ∧ (State.boundaryScan s cells dr).trowels = s.trowels ∧ (State.boundaryScan s cells dr).faulted = s.faulted ∧ (State.boundaryScan s cells dr).bb = s.bb ∧ (State.boundaryScan s cells dr).time = s.time ∧ (State.boundaryScan s cells dr).thermal = s.thermal ∧ (State.boundaryScan s cells dr).light = s.light ∧ (State.boundaryScan s cells dr).adcA = s.adcA ∧ (State.boundaryScan s cells dr).adcB = s.adcB ∧ (State.boundaryScan s cells dr).amb = s.amb ∧ (State.boundaryScan s cells dr).ports = s.ports ∧ (State.boundaryScan s cells dr).frames = s.frames ∧ (State.boundaryScan s cells dr).nextFrame = s.nextFrame ∧ (State.boundaryScan s cells dr).pipe = s.pipe ∧ (State.boundaryScan s cells dr).ctxs = s.ctxs ∧ (State.boundaryScan s cells dr).dec = s.dec ∧ (State.boundaryScan s cells dr).vs = s.vs ∧ (State.boundaryScan s cells dr).former = s.former ∧ (State.boundaryScan s cells dr).usb = s.usb ∧ (State.boundaryScan s cells dr).ser = s.ser ∧ (State.boundaryScan s cells dr).pair = s.pair ∧ (State.boundaryScan s cells dr).fab = s.fab ∧ (State.boundaryScan s cells dr).fresh = s.fresh := by
  first
  | (unfold State.boundaryScan; simp; done)
  | (unfold State.boundaryScan; (try dsimp only); (repeat' split) <;> (first | rfl | (simp; done) | (simp_all; done) | (try simp)))
theorem execTrstNLow_frame (s : State) :
    ∃ u, execTrstNLow s = .next u ∧
    u.pending = s.pending ∧ u.identity = s.identity ∧ u.aon = s.aon ∧ u.pins = s.pins ∧ u.phase = s.phase ∧ u.boot = s.boot ∧ u.sys = s.sys ∧ u.balls = s.balls ∧ u.fields = s.fields ∧ u.shadow = s.shadow ∧ u.trowels = s.trowels ∧ u.faulted = s.faulted ∧ u.bb = s.bb ∧ u.time = s.time ∧ u.thermal = s.thermal ∧ u.light = s.light ∧ u.adcA = s.adcA ∧ u.adcB = s.adcB ∧ u.amb = s.amb ∧ u.ports = s.ports ∧ u.frames = s.frames ∧ u.nextFrame = s.nextFrame ∧ u.pipe = s.pipe ∧ u.ctxs = s.ctxs ∧ u.dec = s.dec ∧ u.vs = s.vs ∧ u.former = s.former ∧ u.usb = s.usb ∧ u.ser = s.ser ∧ u.pair = s.pair ∧ u.fab = s.fab ∧ u.fresh = s.fresh := by
  refine ⟨_, rfl, ?_⟩
  first
  | (simp; done)
  | ((try simp only [State.whenRun, State.access, State.packet]); (repeat' split) <;> (first | rfl | (simp; done) | (simp_all; done) | (try simp)))
theorem execExtest_frame (cells dr : List Bool) (s : State) :
    ∃ u, execExtest cells dr s = .next u ∧
    u.pending = s.pending ∧ u.identity = s.identity ∧ u.aon = s.aon ∧ u.pins = s.pins ∧ u.boot = s.boot ∧ u.sys = s.sys ∧ u.shadow = s.shadow ∧ u.faulted = s.faulted ∧ u.bb = s.bb ∧ u.thermal = s.thermal ∧ u.adcA = s.adcA ∧ u.adcB = s.adcB ∧ u.amb = s.amb ∧ u.ports = s.ports ∧ u.nextFrame = s.nextFrame ∧ u.pipe = s.pipe ∧ u.ctxs = s.ctxs ∧ u.dec = s.dec ∧ u.former = s.former ∧ u.pair = s.pair ∧ u.fresh = s.fresh := by
  refine ⟨_, rfl, ?_⟩
  first
  | (simp; done)
  | ((try simp only [State.whenRun, State.access, State.packet]); (repeat' split) <;> (first | rfl | (simp; done) | (simp_all; done) | (try simp)))
theorem execSamplePreload_frame (cells dr : List Bool) (s : State) :
    ∃ u, execSamplePreload cells dr s = .next u ∧
    u.pending = s.pending ∧ u.identity = s.identity ∧ u.aon = s.aon ∧ u.pins = s.pins ∧ u.boot = s.boot ∧ u.sys = s.sys ∧ u.shadow = s.shadow ∧ u.faulted = s.faulted ∧ u.bb = s.bb ∧ u.thermal = s.thermal ∧ u.adcA = s.adcA ∧ u.adcB = s.adcB ∧ u.amb = s.amb ∧ u.ports = s.ports ∧ u.nextFrame = s.nextFrame ∧ u.pipe = s.pipe ∧ u.ctxs = s.ctxs ∧ u.dec = s.dec ∧ u.former = s.former ∧ u.pair = s.pair ∧ u.fresh = s.fresh := by
  refine ⟨_, rfl, ?_⟩
  first
  | (simp; done)
  | ((try simp only [State.whenRun, State.access, State.packet]); (repeat' split) <;> (first | rfl | (simp; done) | (simp_all; done) | (try simp)))
theorem execExtestPulse_frame (cells dr : List Bool) (s : State) :
    ∃ u, execExtestPulse cells dr s = .next u ∧
    u.pending = s.pending ∧ u.identity = s.identity ∧ u.aon = s.aon ∧ u.pins = s.pins ∧ u.boot = s.boot ∧ u.sys = s.sys ∧ u.shadow = s.shadow ∧ u.faulted = s.faulted ∧ u.bb = s.bb ∧ u.thermal = s.thermal ∧ u.adcA = s.adcA ∧ u.adcB = s.adcB ∧ u.amb = s.amb ∧ u.ports = s.ports ∧ u.nextFrame = s.nextFrame ∧ u.pipe = s.pipe ∧ u.ctxs = s.ctxs ∧ u.dec = s.dec ∧ u.former = s.former ∧ u.pair = s.pair ∧ u.fresh = s.fresh := by
  refine ⟨_, rfl, ?_⟩
  first
  | (simp; done)
  | ((try simp only [State.whenRun, State.access, State.packet]); (repeat' split) <;> (first | rfl | (simp; done) | (simp_all; done) | (try simp)))
theorem execExtestTrain_frame (cells dr : List Bool) (s : State) :
    ∃ u, execExtestTrain cells dr s = .next u ∧
    u.pending = s.pending ∧ u.identity = s.identity ∧ u.aon = s.aon ∧ u.pins = s.pins ∧ u.boot = s.boot ∧ u.sys = s.sys ∧ u.shadow = s.shadow ∧ u.faulted = s.faulted ∧ u.bb = s.bb ∧ u.thermal = s.thermal ∧ u.adcA = s.adcA ∧ u.adcB = s.adcB ∧ u.amb = s.amb ∧ u.ports = s.ports ∧ u.nextFrame = s.nextFrame ∧ u.pipe = s.pipe ∧ u.ctxs = s.ctxs ∧ u.dec = s.dec ∧ u.former = s.former ∧ u.pair = s.pair ∧ u.fresh = s.fresh := by
  refine ⟨_, rfl, ?_⟩
  first
  | (simp; done)
  | ((try simp only [State.whenRun, State.access, State.packet]); (repeat' split) <;> (first | rfl | (simp; done) | (simp_all; done) | (try simp)))
theorem execIdcode_frame (s : State) :
    ∃ u, execIdcode s = .next u ∧
    u.pending = s.pending ∧ u.identity = s.identity ∧ u.aon = s.aon ∧ u.pins = s.pins ∧ u.boot = s.boot ∧ u.sys = s.sys ∧ u.shadow = s.shadow ∧ u.faulted = s.faulted ∧ u.bb = s.bb ∧ u.thermal = s.thermal ∧ u.adcA = s.adcA ∧ u.adcB = s.adcB ∧ u.amb = s.amb ∧ u.ports = s.ports ∧ u.nextFrame = s.nextFrame ∧ u.pipe = s.pipe ∧ u.ctxs = s.ctxs ∧ u.dec = s.dec ∧ u.former = s.former ∧ u.pair = s.pair ∧ u.fresh = s.fresh := by
  refine ⟨_, rfl, ?_⟩
  first
  | (simp; done)
  | ((try simp only [State.whenRun, State.access, State.packet]); (repeat' split) <;> (first | rfl | (simp; done) | (simp_all; done) | (try simp)))
theorem execHighz_frame (s : State) :
    ∃ u, execHighz s = .next u ∧
    u.pending = s.pending ∧ u.identity = s.identity ∧ u.aon = s.aon ∧ u.pins = s.pins ∧ u.boot = s.boot ∧ u.sys = s.sys ∧ u.shadow = s.shadow ∧ u.faulted = s.faulted ∧ u.bb = s.bb ∧ u.thermal = s.thermal ∧ u.adcA = s.adcA ∧ u.adcB = s.adcB ∧ u.amb = s.amb ∧ u.ports = s.ports ∧ u.nextFrame = s.nextFrame ∧ u.pipe = s.pipe ∧ u.ctxs = s.ctxs ∧ u.dec = s.dec ∧ u.former = s.former ∧ u.pair = s.pair ∧ u.fresh = s.fresh := by
  refine ⟨_, rfl, ?_⟩
  first
  | (simp; done)
  | ((try simp only [State.whenRun, State.access, State.packet]); (repeat' split) <;> (first | rfl | (simp; done) | (simp_all; done) | (try simp)))
theorem execClamp_frame (s : State) :
    ∃ u, execClamp s = .next u ∧
    u.pending = s.pending ∧ u.identity = s.identity ∧ u.aon = s.aon ∧ u.pins = s.pins ∧ u.boot = s.boot ∧ u.sys = s.sys ∧ u.shadow = s.shadow ∧ u.faulted = s.faulted ∧ u.bb = s.bb ∧ u.thermal = s.thermal ∧ u.adcA = s.adcA ∧ u.adcB = s.adcB ∧ u.amb = s.amb ∧ u.ports = s.ports ∧ u.nextFrame = s.nextFrame ∧ u.pipe = s.pipe ∧ u.ctxs = s.ctxs ∧ u.dec = s.dec ∧ u.former = s.former ∧ u.pair = s.pair ∧ u.fresh = s.fresh := by
  refine ⟨_, rfl, ?_⟩
  first
  | (simp; done)
  | ((try simp only [State.whenRun, State.access, State.packet]); (repeat' split) <;> (first | rfl | (simp; done) | (simp_all; done) | (try simp)))
theorem execBypass_frame (s : State) :
    ∃ u, execBypass s = .next u ∧
    u.pending = s.pending ∧ u.identity = s.identity ∧ u.aon = s.aon ∧ u.pins = s.pins ∧ u.boot = s.boot ∧ u.sys = s.sys ∧ u.shadow = s.shadow ∧ u.faulted = s.faulted ∧ u.bb = s.bb ∧ u.thermal = s.thermal ∧ u.adcA = s.adcA ∧ u.adcB = s.adcB ∧ u.amb = s.amb ∧ u.ports = s.ports ∧ u.nextFrame = s.nextFrame ∧ u.pipe = s.pipe ∧ u.ctxs = s.ctxs ∧ u.dec = s.dec ∧ u.former = s.former ∧ u.pair = s.pair ∧ u.fresh = s.fresh := by
  refine ⟨_, rfl, ?_⟩
  first
  | (simp; done)
  | ((try simp only [State.whenRun, State.access, State.packet]); (repeat' split) <;> (first | rfl | (simp; done) | (simp_all; done) | (try simp)))
theorem execBbRead_frame (s : State) :
    ∃ u, execBbRead s = .next u ∧
    u.pending = s.pending ∧ u.identity = s.identity ∧ u.aon = s.aon ∧ u.pins = s.pins ∧ u.boot = s.boot ∧ u.sys = s.sys ∧ u.shadow = s.shadow ∧ u.faulted = s.faulted ∧ u.bb = s.bb ∧ u.thermal = s.thermal ∧ u.adcA = s.adcA ∧ u.adcB = s.adcB ∧ u.amb = s.amb ∧ u.ports = s.ports ∧ u.nextFrame = s.nextFrame ∧ u.pipe = s.pipe ∧ u.ctxs = s.ctxs ∧ u.dec = s.dec ∧ u.former = s.former ∧ u.pair = s.pair ∧ u.fresh = s.fresh := by
  refine ⟨_, rfl, ?_⟩
  first
  | (simp; done)
  | ((try simp only [State.whenRun, State.access, State.packet]); (repeat' split) <;> (first | rfl | (simp; done) | (simp_all; done) | (try simp)))
@[simp] theorem State.destroyMemories_frame (s : State) (sel : BitVec 8) :
    (State.destroyMemories s sel).pending = s.pending ∧ (State.destroyMemories s sel).identity = s.identity ∧ (State.destroyMemories s sel).aon = s.aon ∧ (State.destroyMemories s sel).pins = s.pins ∧ (State.destroyMemories s sel).phase = s.phase ∧ (State.destroyMemories s sel).boot = s.boot ∧ (State.destroyMemories s sel).sys = s.sys ∧ (State.destroyMemories s sel).balls = s.balls ∧ (State.destroyMemories s sel).fields = s.fields ∧ (State.destroyMemories s sel).shadow = s.shadow ∧ (State.destroyMemories s sel).faulted = s.faulted ∧ (State.destroyMemories s sel).bb = s.bb ∧ (State.destroyMemories s sel).time = s.time ∧ (State.destroyMemories s sel).thermal = s.thermal ∧ (State.destroyMemories s sel).light = s.light ∧ (State.destroyMemories s sel).adcA = s.adcA ∧ (State.destroyMemories s sel).adcB = s.adcB ∧ (State.destroyMemories s sel).amb = s.amb ∧ (State.destroyMemories s sel).nextFrame = s.nextFrame ∧ (State.destroyMemories s sel).pipe = s.pipe ∧ (State.destroyMemories s sel).ctxs = s.ctxs ∧ (State.destroyMemories s sel).dec = s.dec ∧ (State.destroyMemories s sel).former = s.former := by
  first
  | (unfold State.destroyMemories; simp; done)
  | (unfold State.destroyMemories; (try dsimp only); (repeat' split) <;> (first | rfl | (simp; done) | (simp_all; done) | (try simp)))
theorem execMbist_frame (control : BitVec 64) (s : State) :
    ∃ u, execMbist control s = .next u ∧
    u.pending = s.pending ∧ u.identity = s.identity ∧ u.aon = s.aon ∧ u.pins = s.pins ∧ u.boot = s.boot ∧ u.sys = s.sys ∧ u.shadow = s.shadow ∧ u.faulted = s.faulted ∧ u.bb = s.bb ∧ u.thermal = s.thermal ∧ u.adcA = s.adcA ∧ u.adcB = s.adcB ∧ u.amb = s.amb ∧ u.nextFrame = s.nextFrame ∧ u.pipe = s.pipe ∧ u.ctxs = s.ctxs ∧ u.dec = s.dec ∧ u.former = s.former := by
  refine ⟨_, rfl, ?_⟩
  first
  | (simp; done)
  | ((try simp only [State.whenRun, State.access, State.packet]); (repeat' split) <;> (first | rfl | (simp; done) | (simp_all; done) | (try simp)))
theorem execMbistDone_frame (fail : BitVec 7) (slots : BitVec 15) (addr : Word) (s : State) :
    ∃ u, execMbistDone fail slots addr s = .next u ∧
    u.pending = s.pending ∧ u.identity = s.identity ∧ u.aon = s.aon ∧ u.pins = s.pins ∧ u.phase = s.phase ∧ u.boot = s.boot ∧ u.sys = s.sys ∧ u.balls = s.balls ∧ u.fields = s.fields ∧ u.shadow = s.shadow ∧ u.trowels = s.trowels ∧ u.faulted = s.faulted ∧ u.time = s.time ∧ u.thermal = s.thermal ∧ u.light = s.light ∧ u.adcA = s.adcA ∧ u.adcB = s.adcB ∧ u.amb = s.amb ∧ u.ports = s.ports ∧ u.frames = s.frames ∧ u.nextFrame = s.nextFrame ∧ u.pipe = s.pipe ∧ u.ctxs = s.ctxs ∧ u.dec = s.dec ∧ u.vs = s.vs ∧ u.former = s.former ∧ u.usb = s.usb ∧ u.ser = s.ser ∧ u.pair = s.pair ∧ u.fab = s.fab ∧ u.fresh = s.fresh := by
  refine ⟨_, rfl, ?_⟩
  first
  | (simp; done)
  | ((try simp only [State.whenRun, State.access, State.packet]); (repeat' split) <;> (first | rfl | (simp; done) | (simp_all; done) | (try simp)))
theorem execFieldScan_frame (field : BitVec 16) (s : State) :
    ∃ u, execFieldScan field s = .next u ∧
    u.pending = s.pending ∧ u.identity = s.identity ∧ u.aon = s.aon ∧ u.pins = s.pins ∧ u.boot = s.boot ∧ u.sys = s.sys ∧ u.shadow = s.shadow ∧ u.faulted = s.faulted ∧ u.bb = s.bb ∧ u.thermal = s.thermal ∧ u.adcA = s.adcA ∧ u.adcB = s.adcB ∧ u.amb = s.amb ∧ u.ports = s.ports ∧ u.nextFrame = s.nextFrame ∧ u.pipe = s.pipe ∧ u.ctxs = s.ctxs ∧ u.dec = s.dec ∧ u.former = s.former ∧ u.pair = s.pair := by
  refine ⟨_, rfl, ?_⟩
  first
  | (simp; done)
  | ((try simp only [State.whenRun, State.access, State.packet]); (repeat' split) <;> (first | rfl | (simp; done) | (simp_all; done) | (try simp)))
end Sys2Proof.Machine
end

