-- ==== Sys2Proof/Laws/FrameClock.lean ====
section
/-! SUPPORT. Frames: which parts of the state each operation of Machine/Clock leaves as they were. -/

namespace Sys2Proof.Machine
@[simp] theorem State.trowelCycle_frame (s : State) :
    (State.trowelCycle s).pending = s.pending ∧ (State.trowelCycle s).identity = s.identity ∧ (State.trowelCycle s).aon = s.aon ∧ (State.trowelCycle s).pins = s.pins ∧ (State.trowelCycle s).phase = s.phase ∧ (State.trowelCycle s).boot = s.boot ∧ (State.trowelCycle s).sys = s.sys ∧ (State.trowelCycle s).balls = s.balls ∧ (State.trowelCycle s).fields = s.fields ∧ (State.trowelCycle s).shadow = s.shadow ∧ (State.trowelCycle s).faulted = s.faulted ∧ (State.trowelCycle s).bb = s.bb ∧ (State.trowelCycle s).tap = s.tap ∧ (State.trowelCycle s).time = s.time ∧ (State.trowelCycle s).thermal = s.thermal ∧ (State.trowelCycle s).light = s.light ∧ (State.trowelCycle s).adcA = s.adcA ∧ (State.trowelCycle s).adcB = s.adcB ∧ (State.trowelCycle s).amb = s.amb ∧ (State.trowelCycle s).ports = s.ports ∧ (State.trowelCycle s).frames = s.frames ∧ (State.trowelCycle s).nextFrame = s.nextFrame ∧ (State.trowelCycle s).pipe = s.pipe ∧ (State.trowelCycle s).ctxs = s.ctxs ∧ (State.trowelCycle s).dec = s.dec ∧ (State.trowelCycle s).vs = s.vs ∧ (State.trowelCycle s).former = s.former ∧ (State.trowelCycle s).usb = s.usb ∧ (State.trowelCycle s).ser = s.ser ∧ (State.trowelCycle s).pair = s.pair ∧ (State.trowelCycle s).fab = s.fab ∧ (State.trowelCycle s).fresh = s.fresh := by
  first
  | (unfold State.trowelCycle; simp; done)
  | (unfold State.trowelCycle; (try dsimp only); (repeat' split) <;> (first | rfl | (simp; done) | (simp_all; done) | (try simp)))
@[simp] theorem State.hbCycle_frame (s : State) :
    (State.hbCycle s).pending = s.pending ∧ (State.hbCycle s).identity = s.identity ∧ (State.hbCycle s).aon = s.aon ∧ (State.hbCycle s).pins = s.pins ∧ (State.hbCycle s).phase = s.phase ∧ (State.hbCycle s).boot = s.boot ∧ (State.hbCycle s).sys = s.sys ∧ (State.hbCycle s).fields = s.fields ∧ (State.hbCycle s).shadow = s.shadow ∧ (State.hbCycle s).trowels = s.trowels ∧ (State.hbCycle s).faulted = s.faulted ∧ (State.hbCycle s).bb = s.bb ∧ (State.hbCycle s).tap = s.tap ∧ (State.hbCycle s).time = s.time ∧ (State.hbCycle s).thermal = s.thermal ∧ (State.hbCycle s).light = s.light ∧ (State.hbCycle s).adcA = s.adcA ∧ (State.hbCycle s).adcB = s.adcB ∧ (State.hbCycle s).amb = s.amb ∧ (State.hbCycle s).ports = s.ports ∧ (State.hbCycle s).frames = s.frames ∧ (State.hbCycle s).nextFrame = s.nextFrame ∧ (State.hbCycle s).pipe = s.pipe ∧ (State.hbCycle s).ctxs = s.ctxs ∧ (State.hbCycle s).dec = s.dec ∧ (State.hbCycle s).vs = s.vs ∧ (State.hbCycle s).former = s.former ∧ (State.hbCycle s).usb = s.usb ∧ (State.hbCycle s).ser = s.ser ∧ (State.hbCycle s).pair = s.pair ∧ (State.hbCycle s).fab = s.fab ∧ (State.hbCycle s).fresh = s.fresh := by
  first
  | (unfold State.hbCycle; simp; done)
  | (unfold State.hbCycle; (try dsimp only); (repeat' split) <;> (first | rfl | (simp; done) | (simp_all; done) | (try simp)))
@[simp] theorem State.awakeCycle_frame (s : State) :
    (State.awakeCycle s).pending = s.pending ∧ (State.awakeCycle s).identity = s.identity ∧ (State.awakeCycle s).aon = s.aon ∧ (State.awakeCycle s).pins = s.pins ∧ (State.awakeCycle s).phase = s.phase ∧ (State.awakeCycle s).boot = s.boot ∧ (State.awakeCycle s).sys = s.sys ∧ (State.awakeCycle s).fields = s.fields ∧ (State.awakeCycle s).shadow = s.shadow ∧ (State.awakeCycle s).faulted = s.faulted ∧ (State.awakeCycle s).bb = s.bb ∧ (State.awakeCycle s).tap = s.tap ∧ (State.awakeCycle s).thermal = s.thermal ∧ (State.awakeCycle s).light = s.light ∧ (State.awakeCycle s).adcA = s.adcA ∧ (State.awakeCycle s).adcB = s.adcB ∧ (State.awakeCycle s).amb = s.amb ∧ (State.awakeCycle s).ports = s.ports ∧ (State.awakeCycle s).frames = s.frames ∧ (State.awakeCycle s).nextFrame = s.nextFrame ∧ (State.awakeCycle s).pipe = s.pipe ∧ (State.awakeCycle s).ctxs = s.ctxs ∧ (State.awakeCycle s).dec = s.dec ∧ (State.awakeCycle s).vs = s.vs ∧ (State.awakeCycle s).former = s.former ∧ (State.awakeCycle s).usb = s.usb ∧ (State.awakeCycle s).ser = s.ser ∧ (State.awakeCycle s).pair = s.pair := by
  first
  | (unfold State.awakeCycle; simp; done)
  | (unfold State.awakeCycle; (try dsimp only); (repeat' split) <;> (first | rfl | (simp; done) | (simp_all; done) | (try simp)))
@[simp] theorem State.tick_frame (s : State) :
    (State.tick s).pending = s.pending ∧ (State.tick s).identity = s.identity ∧ (State.tick s).aon = s.aon ∧ (State.tick s).pins = s.pins ∧ (State.tick s).phase = s.phase ∧ (State.tick s).boot = s.boot ∧ (State.tick s).sys = s.sys ∧ (State.tick s).fields = s.fields ∧ (State.tick s).shadow = s.shadow ∧ (State.tick s).faulted = s.faulted ∧ (State.tick s).bb = s.bb ∧ (State.tick s).tap = s.tap ∧ (State.tick s).thermal = s.thermal ∧ (State.tick s).light = s.light ∧ (State.tick s).adcA = s.adcA ∧ (State.tick s).adcB = s.adcB ∧ (State.tick s).amb = s.amb ∧ (State.tick s).ports = s.ports ∧ (State.tick s).frames = s.frames ∧ (State.tick s).nextFrame = s.nextFrame ∧ (State.tick s).pipe = s.pipe ∧ (State.tick s).ctxs = s.ctxs ∧ (State.tick s).dec = s.dec ∧ (State.tick s).vs = s.vs ∧ (State.tick s).former = s.former ∧ (State.tick s).usb = s.usb ∧ (State.tick s).ser = s.ser ∧ (State.tick s).pair = s.pair := by
  unfold State.tick
  split
  · simp
  · simp
  · simp
  · simp
  · simp
  · split <;> simp
  · simp
  · split <;> simp
  · simp
  · simp
  · simp
end Sys2Proof.Machine
end

