-- ==== Sys2Proof/Laws/FrameSleep.lean ====
section
/-! SUPPORT. Frames: which parts of the state each operation of Machine/Sleep leaves as they were. -/

namespace Sys2Proof.Machine
theorem execScnLatchRise_frame (scn : BitVec 3) (s : State) :
    ∃ u, execScnLatchRise scn s = .next u ∧
    u.pending = s.pending ∧ u.identity = s.identity ∧ u.aon = s.aon ∧ u.pins = s.pins ∧ u.phase = s.phase ∧ u.boot = s.boot ∧ u.balls = s.balls ∧ u.fields = s.fields ∧ u.shadow = s.shadow ∧ u.faulted = s.faulted ∧ u.tap = s.tap ∧ u.time = s.time ∧ u.thermal = s.thermal ∧ u.light = s.light ∧ u.adcA = s.adcA ∧ u.adcB = s.adcB ∧ u.amb = s.amb ∧ u.ports = s.ports ∧ u.frames = s.frames ∧ u.nextFrame = s.nextFrame ∧ u.pipe = s.pipe ∧ u.ctxs = s.ctxs ∧ u.dec = s.dec ∧ u.vs = s.vs ∧ u.former = s.former ∧ u.usb = s.usb ∧ u.ser = s.ser ∧ u.pair = s.pair ∧ u.fab = s.fab ∧ u.fresh = s.fresh := by
  refine ⟨_, rfl, ?_⟩
  first
  | (simp; done)
  | ((try simp only [State.whenRun, State.access, State.packet]); (repeat' split) <;> (first | rfl | (simp; done) | (simp_all; done) | (try simp)))
theorem execSceneChangeTimeout_frame (s : State) :
    ∃ u, execSceneChangeTimeout s = .next u ∧
    u.pending = s.pending ∧ u.identity = s.identity ∧ u.aon = s.aon ∧ u.pins = s.pins ∧ u.phase = s.phase ∧ u.boot = s.boot ∧ u.sys = s.sys ∧ u.balls = s.balls ∧ u.fields = s.fields ∧ u.shadow = s.shadow ∧ u.trowels = s.trowels ∧ u.faulted = s.faulted ∧ u.tap = s.tap ∧ u.time = s.time ∧ u.thermal = s.thermal ∧ u.light = s.light ∧ u.adcA = s.adcA ∧ u.adcB = s.adcB ∧ u.amb = s.amb ∧ u.ports = s.ports ∧ u.frames = s.frames ∧ u.nextFrame = s.nextFrame ∧ u.pipe = s.pipe ∧ u.ctxs = s.ctxs ∧ u.dec = s.dec ∧ u.vs = s.vs ∧ u.former = s.former ∧ u.usb = s.usb ∧ u.ser = s.ser ∧ u.pair = s.pair ∧ u.fab = s.fab ∧ u.fresh = s.fresh := by
  refine ⟨_, rfl, ?_⟩
  first
  | (simp; done)
  | ((try simp only [State.whenRun, State.access, State.packet]); (repeat' split) <;> (first | rfl | (simp; done) | (simp_all; done) | (try simp)))
@[simp] theorem State.bbDrain_frame (s : State) :
    (State.bbDrain s).pending = s.pending ∧ (State.bbDrain s).identity = s.identity ∧ (State.bbDrain s).aon = s.aon ∧ (State.bbDrain s).pins = s.pins ∧ (State.bbDrain s).phase = s.phase ∧ (State.bbDrain s).boot = s.boot ∧ (State.bbDrain s).sys = s.sys ∧ (State.bbDrain s).balls = s.balls ∧ (State.bbDrain s).fields = s.fields ∧ (State.bbDrain s).shadow = s.shadow ∧ (State.bbDrain s).trowels = s.trowels ∧ (State.bbDrain s).faulted = s.faulted ∧ (State.bbDrain s).tap = s.tap ∧ (State.bbDrain s).time = s.time ∧ (State.bbDrain s).thermal = s.thermal ∧ (State.bbDrain s).light = s.light ∧ (State.bbDrain s).adcA = s.adcA ∧ (State.bbDrain s).adcB = s.adcB ∧ (State.bbDrain s).amb = s.amb ∧ (State.bbDrain s).ports = s.ports ∧ (State.bbDrain s).frames = s.frames ∧ (State.bbDrain s).nextFrame = s.nextFrame ∧ (State.bbDrain s).pipe = s.pipe ∧ (State.bbDrain s).ctxs = s.ctxs ∧ (State.bbDrain s).dec = s.dec ∧ (State.bbDrain s).vs = s.vs ∧ (State.bbDrain s).former = s.former ∧ (State.bbDrain s).usb = s.usb ∧ (State.bbDrain s).ser = s.ser ∧ (State.bbDrain s).pair = s.pair ∧ (State.bbDrain s).fab = s.fab ∧ (State.bbDrain s).fresh = s.fresh := by
  first
  | (unfold State.bbDrain; simp; done)
  | (unfold State.bbDrain; (try dsimp only); (repeat' split) <;> (first | rfl | (simp; done) | (simp_all; done) | (try simp)))
@[simp] theorem State.wake_frame (s : State) (cause : BitVec 2) :
    (State.wake s cause).pending = s.pending ∧ (State.wake s cause).identity = s.identity ∧ (State.wake s cause).pins = s.pins ∧ (State.wake s cause).boot = s.boot ∧ (State.wake s cause).balls = s.balls ∧ (State.wake s cause).fields = s.fields ∧ (State.wake s cause).shadow = s.shadow ∧ (State.wake s cause).trowels = s.trowels ∧ (State.wake s cause).faulted = s.faulted ∧ (State.wake s cause).bb = s.bb ∧ (State.wake s cause).tap = s.tap ∧ (State.wake s cause).time = s.time ∧ (State.wake s cause).thermal = s.thermal ∧ (State.wake s cause).light = s.light ∧ (State.wake s cause).adcA = s.adcA ∧ (State.wake s cause).adcB = s.adcB ∧ (State.wake s cause).amb = s.amb ∧ (State.wake s cause).ports = s.ports ∧ (State.wake s cause).frames = s.frames ∧ (State.wake s cause).nextFrame = s.nextFrame ∧ (State.wake s cause).pipe = s.pipe ∧ (State.wake s cause).ctxs = s.ctxs ∧ (State.wake s cause).dec = s.dec ∧ (State.wake s cause).vs = s.vs ∧ (State.wake s cause).former = s.former ∧ (State.wake s cause).usb = s.usb ∧ (State.wake s cause).ser = s.ser ∧ (State.wake s cause).pair = s.pair ∧ (State.wake s cause).fab = s.fab ∧ (State.wake s cause).fresh = s.fresh := by
  first
  | (unfold State.wake; simp; done)
  | (unfold State.wake; (try dsimp only); (repeat' split) <;> (first | rfl | (simp; done) | (simp_all; done) | (try simp)))
theorem execSleepDecodeDrained_frame (s : State) :
    ∃ u, execSleepDecodeDrained s = .next u ∧
    u.pending = s.pending ∧ u.identity = s.identity ∧ u.pins = s.pins ∧ u.boot = s.boot ∧ u.shadow = s.shadow ∧ u.trowels = s.trowels ∧ u.faulted = s.faulted ∧ u.tap = s.tap ∧ u.time = s.time ∧ u.thermal = s.thermal ∧ u.light = s.light ∧ u.adcA = s.adcA ∧ u.adcB = s.adcB ∧ u.amb = s.amb ∧ u.nextFrame = s.nextFrame ∧ u.pipe = s.pipe ∧ u.ctxs = s.ctxs ∧ u.dec = s.dec ∧ u.former = s.former ∧ u.fresh = s.fresh := by
  refine ⟨_, rfl, ?_⟩
  first
  | (simp; done)
  | ((try simp only [State.whenRun, State.access, State.packet]); (repeat' split) <;> (first | rfl | (simp; done) | (simp_all; done) | (try simp)))
theorem execWakeRise_frame (s : State) :
    ∃ u, execWakeRise s = .next u ∧
    u.pending = s.pending ∧ u.identity = s.identity ∧ u.pins = s.pins ∧ u.boot = s.boot ∧ u.balls = s.balls ∧ u.fields = s.fields ∧ u.shadow = s.shadow ∧ u.trowels = s.trowels ∧ u.faulted = s.faulted ∧ u.bb = s.bb ∧ u.tap = s.tap ∧ u.time = s.time ∧ u.thermal = s.thermal ∧ u.light = s.light ∧ u.adcA = s.adcA ∧ u.adcB = s.adcB ∧ u.amb = s.amb ∧ u.ports = s.ports ∧ u.frames = s.frames ∧ u.nextFrame = s.nextFrame ∧ u.pipe = s.pipe ∧ u.ctxs = s.ctxs ∧ u.dec = s.dec ∧ u.vs = s.vs ∧ u.former = s.former ∧ u.usb = s.usb ∧ u.ser = s.ser ∧ u.pair = s.pair ∧ u.fab = s.fab ∧ u.fresh = s.fresh := by
  refine ⟨_, rfl, ?_⟩
  first
  | (simp; done)
  | ((try simp only [State.whenRun, State.access, State.packet]); (repeat' split) <;> (first | rfl | (simp; done) | (simp_all; done) | (try simp)))
theorem execSleepAddressMatch_frame (addr : Byte) (s : State) :
    ∃ u, execSleepAddressMatch addr s = .next u ∧
    u.pending = s.pending ∧ u.identity = s.identity ∧ u.pins = s.pins ∧ u.boot = s.boot ∧ u.balls = s.balls ∧ u.fields = s.fields ∧ u.shadow = s.shadow ∧ u.trowels = s.trowels ∧ u.faulted = s.faulted ∧ u.bb = s.bb ∧ u.tap = s.tap ∧ u.time = s.time ∧ u.thermal = s.thermal ∧ u.light = s.light ∧ u.adcA = s.adcA ∧ u.adcB = s.adcB ∧ u.amb = s.amb ∧ u.ports = s.ports ∧ u.frames = s.frames ∧ u.nextFrame = s.nextFrame ∧ u.pipe = s.pipe ∧ u.ctxs = s.ctxs ∧ u.dec = s.dec ∧ u.vs = s.vs ∧ u.former = s.former ∧ u.usb = s.usb ∧ u.ser = s.ser ∧ u.pair = s.pair ∧ u.fab = s.fab ∧ u.fresh = s.fresh := by
  refine ⟨_, rfl, ?_⟩
  first
  | (simp; done)
  | ((try simp only [State.whenRun, State.access, State.packet]); (repeat' split) <;> (first | rfl | (simp; done) | (simp_all; done) | (try simp)))
@[simp] theorem State.wakeRef_frame (s : State) (c : Conv) :
    (State.wakeRef s c).pending = s.pending ∧ (State.wakeRef s c).identity = s.identity ∧ (State.wakeRef s c).aon = s.aon ∧ (State.wakeRef s c).pins = s.pins ∧ (State.wakeRef s c).phase = s.phase ∧ (State.wakeRef s c).boot = s.boot ∧ (State.wakeRef s c).sys = s.sys ∧ (State.wakeRef s c).balls = s.balls ∧ (State.wakeRef s c).fields = s.fields ∧ (State.wakeRef s c).shadow = s.shadow ∧ (State.wakeRef s c).trowels = s.trowels ∧ (State.wakeRef s c).faulted = s.faulted ∧ (State.wakeRef s c).bb = s.bb ∧ (State.wakeRef s c).tap = s.tap ∧ (State.wakeRef s c).time = s.time ∧ (State.wakeRef s c).thermal = s.thermal ∧ (State.wakeRef s c).light = s.light ∧ (State.wakeRef s c).amb = s.amb ∧ (State.wakeRef s c).ports = s.ports ∧ (State.wakeRef s c).frames = s.frames ∧ (State.wakeRef s c).nextFrame = s.nextFrame ∧ (State.wakeRef s c).pipe = s.pipe ∧ (State.wakeRef s c).ctxs = s.ctxs ∧ (State.wakeRef s c).dec = s.dec ∧ (State.wakeRef s c).vs = s.vs ∧ (State.wakeRef s c).former = s.former ∧ (State.wakeRef s c).usb = s.usb ∧ (State.wakeRef s c).ser = s.ser ∧ (State.wakeRef s c).pair = s.pair ∧ (State.wakeRef s c).fab = s.fab ∧ (State.wakeRef s c).fresh = s.fresh := by
  first
  | (unfold State.wakeRef; simp; done)
  | (unfold State.wakeRef; (try dsimp only); (repeat' split) <;> (first | rfl | (simp; done) | (simp_all; done) | (try simp)))
@[simp] theorem State.wakeEstimator_frame (s : State) :
    (State.wakeEstimator s).pending = s.pending ∧ (State.wakeEstimator s).identity = s.identity ∧ (State.wakeEstimator s).aon = s.aon ∧ (State.wakeEstimator s).pins = s.pins ∧ (State.wakeEstimator s).phase = s.phase ∧ (State.wakeEstimator s).boot = s.boot ∧ (State.wakeEstimator s).sys = s.sys ∧ (State.wakeEstimator s).balls = s.balls ∧ (State.wakeEstimator s).shadow = s.shadow ∧ (State.wakeEstimator s).faulted = s.faulted ∧ (State.wakeEstimator s).tap = s.tap ∧ (State.wakeEstimator s).time = s.time ∧ (State.wakeEstimator s).thermal = s.thermal ∧ (State.wakeEstimator s).light = s.light ∧ (State.wakeEstimator s).adcA = s.adcA ∧ (State.wakeEstimator s).adcB = s.adcB ∧ (State.wakeEstimator s).ports = s.ports ∧ (State.wakeEstimator s).frames = s.frames ∧ (State.wakeEstimator s).nextFrame = s.nextFrame ∧ (State.wakeEstimator s).pipe = s.pipe ∧ (State.wakeEstimator s).ctxs = s.ctxs ∧ (State.wakeEstimator s).dec = s.dec ∧ (State.wakeEstimator s).vs = s.vs ∧ (State.wakeEstimator s).former = s.former ∧ (State.wakeEstimator s).usb = s.usb ∧ (State.wakeEstimator s).ser = s.ser ∧ (State.wakeEstimator s).pair = s.pair ∧ (State.wakeEstimator s).fab = s.fab ∧ (State.wakeEstimator s).fresh = s.fresh := by
  first
  | (unfold State.wakeEstimator; simp; done)
  | (unfold State.wakeEstimator; (try dsimp only); (repeat' split) <;> (first | rfl | (simp; done) | (simp_all; done) | (try simp)))
@[simp] theorem State.wakeConverters_frame (s : State) (cal : Bool) :
    (State.wakeConverters s cal).pending = s.pending ∧ (State.wakeConverters s cal).identity = s.identity ∧ (State.wakeConverters s cal).aon = s.aon ∧ (State.wakeConverters s cal).pins = s.pins ∧ (State.wakeConverters s cal).phase = s.phase ∧ (State.wakeConverters s cal).boot = s.boot ∧ (State.wakeConverters s cal).sys = s.sys ∧ (State.wakeConverters s cal).balls = s.balls ∧ (State.wakeConverters s cal).shadow = s.shadow ∧ (State.wakeConverters s cal).faulted = s.faulted ∧ (State.wakeConverters s cal).tap = s.tap ∧ (State.wakeConverters s cal).time = s.time ∧ (State.wakeConverters s cal).thermal = s.thermal ∧ (State.wakeConverters s cal).light = s.light ∧ (State.wakeConverters s cal).ports = s.ports ∧ (State.wakeConverters s cal).frames = s.frames ∧ (State.wakeConverters s cal).nextFrame = s.nextFrame ∧ (State.wakeConverters s cal).pipe = s.pipe ∧ (State.wakeConverters s cal).ctxs = s.ctxs ∧ (State.wakeConverters s cal).dec = s.dec ∧ (State.wakeConverters s cal).vs = s.vs ∧ (State.wakeConverters s cal).former = s.former ∧ (State.wakeConverters s cal).usb = s.usb ∧ (State.wakeConverters s cal).ser = s.ser ∧ (State.wakeConverters s cal).pair = s.pair ∧ (State.wakeConverters s cal).fab = s.fab ∧ (State.wakeConverters s cal).fresh = s.fresh := by
  first
  | (unfold State.wakeConverters; simp; done)
  | (unfold State.wakeConverters; (try dsimp only); (repeat' split) <;> (first | rfl | (simp; done) | (simp_all; done) | (try simp)))
@[simp] theorem State.wakePort_frame (s : State) (p : PortId) :
    (State.wakePort s p).pending = s.pending ∧ (State.wakePort s p).identity = s.identity ∧ (State.wakePort s p).aon = s.aon ∧ (State.wakePort s p).pins = s.pins ∧ (State.wakePort s p).phase = s.phase ∧ (State.wakePort s p).boot = s.boot ∧ (State.wakePort s p).sys = s.sys ∧ (State.wakePort s p).balls = s.balls ∧ (State.wakePort s p).shadow = s.shadow ∧ (State.wakePort s p).trowels = s.trowels ∧ (State.wakePort s p).faulted = s.faulted ∧ (State.wakePort s p).bb = s.bb ∧ (State.wakePort s p).tap = s.tap ∧ (State.wakePort s p).time = s.time ∧ (State.wakePort s p).thermal = s.thermal ∧ (State.wakePort s p).light = s.light ∧ (State.wakePort s p).adcA = s.adcA ∧ (State.wakePort s p).adcB = s.adcB ∧ (State.wakePort s p).amb = s.amb ∧ (State.wakePort s p).frames = s.frames ∧ (State.wakePort s p).nextFrame = s.nextFrame ∧ (State.wakePort s p).pipe = s.pipe ∧ (State.wakePort s p).ctxs = s.ctxs ∧ (State.wakePort s p).dec = s.dec ∧ (State.wakePort s p).vs = s.vs ∧ (State.wakePort s p).former = s.former ∧ (State.wakePort s p).usb = s.usb ∧ (State.wakePort s p).ser = s.ser ∧ (State.wakePort s p).pair = s.pair ∧ (State.wakePort s p).fab = s.fab ∧ (State.wakePort s p).fresh = s.fresh := by
  first
  | (unfold State.wakePort; simp; done)
  | (unfold State.wakePort; (try dsimp only); (repeat' split) <;> (first | rfl | (simp; done) | (simp_all; done) | (try simp)))
@[simp] theorem State.wakePorts_frame (s : State) :
    (State.wakePorts s).pending = s.pending ∧ (State.wakePorts s).identity = s.identity ∧ (State.wakePorts s).aon = s.aon ∧ (State.wakePorts s).pins = s.pins ∧ (State.wakePorts s).phase = s.phase ∧ (State.wakePorts s).boot = s.boot ∧ (State.wakePorts s).sys = s.sys ∧ (State.wakePorts s).balls = s.balls ∧ (State.wakePorts s).shadow = s.shadow ∧ (State.wakePorts s).trowels = s.trowels ∧ (State.wakePorts s).faulted = s.faulted ∧ (State.wakePorts s).bb = s.bb ∧ (State.wakePorts s).tap = s.tap ∧ (State.wakePorts s).time = s.time ∧ (State.wakePorts s).thermal = s.thermal ∧ (State.wakePorts s).light = s.light ∧ (State.wakePorts s).adcA = s.adcA ∧ (State.wakePorts s).adcB = s.adcB ∧ (State.wakePorts s).amb = s.amb ∧ (State.wakePorts s).frames = s.frames ∧ (State.wakePorts s).nextFrame = s.nextFrame ∧ (State.wakePorts s).pipe = s.pipe ∧ (State.wakePorts s).ctxs = s.ctxs ∧ (State.wakePorts s).dec = s.dec ∧ (State.wakePorts s).vs = s.vs ∧ (State.wakePorts s).former = s.former ∧ (State.wakePorts s).usb = s.usb ∧ (State.wakePorts s).ser = s.ser ∧ (State.wakePorts s).pair = s.pair ∧ (State.wakePorts s).fab = s.fab ∧ (State.wakePorts s).fresh = s.fresh := by
  first
  | (unfold State.wakePorts; simp; done)
  | (unfold State.wakePorts; (try dsimp only); (repeat' split) <;> (first | rfl | (simp; done) | (simp_all; done) | (try simp)))
@[simp] theorem State.wakeLinks_frame (s : State) :
    (State.wakeLinks s).pending = s.pending ∧ (State.wakeLinks s).identity = s.identity ∧ (State.wakeLinks s).aon = s.aon ∧ (State.wakeLinks s).pins = s.pins ∧ (State.wakeLinks s).phase = s.phase ∧ (State.wakeLinks s).boot = s.boot ∧ (State.wakeLinks s).sys = s.sys ∧ (State.wakeLinks s).balls = s.balls ∧ (State.wakeLinks s).shadow = s.shadow ∧ (State.wakeLinks s).trowels = s.trowels ∧ (State.wakeLinks s).bb = s.bb ∧ (State.wakeLinks s).tap = s.tap ∧ (State.wakeLinks s).thermal = s.thermal ∧ (State.wakeLinks s).light = s.light ∧ (State.wakeLinks s).adcA = s.adcA ∧ (State.wakeLinks s).adcB = s.adcB ∧ (State.wakeLinks s).amb = s.amb ∧ (State.wakeLinks s).ports = s.ports ∧ (State.wakeLinks s).frames = s.frames ∧ (State.wakeLinks s).nextFrame = s.nextFrame ∧ (State.wakeLinks s).ctxs = s.ctxs ∧ (State.wakeLinks s).dec = s.dec ∧ (State.wakeLinks s).vs = s.vs ∧ (State.wakeLinks s).former = s.former ∧ (State.wakeLinks s).pair = s.pair ∧ (State.wakeLinks s).fresh = s.fresh := by
  first
  | (unfold State.wakeLinks; simp; done)
  | (unfold State.wakeLinks; (try dsimp only); (repeat' split) <;> (first | rfl | (simp; done) | (simp_all; done) | (try simp)))
@[simp] theorem State.wakeLight_frame (s : State) :
    (State.wakeLight s).pending = s.pending ∧ (State.wakeLight s).identity = s.identity ∧ (State.wakeLight s).aon = s.aon ∧ (State.wakeLight s).pins = s.pins ∧ (State.wakeLight s).phase = s.phase ∧ (State.wakeLight s).boot = s.boot ∧ (State.wakeLight s).sys = s.sys ∧ (State.wakeLight s).balls = s.balls ∧ (State.wakeLight s).faulted = s.faulted ∧ (State.wakeLight s).tap = s.tap ∧ (State.wakeLight s).time = s.time ∧ (State.wakeLight s).thermal = s.thermal ∧ (State.wakeLight s).adcA = s.adcA ∧ (State.wakeLight s).adcB = s.adcB ∧ (State.wakeLight s).amb = s.amb ∧ (State.wakeLight s).ports = s.ports ∧ (State.wakeLight s).frames = s.frames ∧ (State.wakeLight s).nextFrame = s.nextFrame ∧ (State.wakeLight s).pipe = s.pipe ∧ (State.wakeLight s).ctxs = s.ctxs ∧ (State.wakeLight s).dec = s.dec ∧ (State.wakeLight s).vs = s.vs ∧ (State.wakeLight s).former = s.former ∧ (State.wakeLight s).usb = s.usb ∧ (State.wakeLight s).ser = s.ser ∧ (State.wakeLight s).pair = s.pair ∧ (State.wakeLight s).fab = s.fab ∧ (State.wakeLight s).fresh = s.fresh := by
  first
  | (unfold State.wakeLight; simp; done)
  | (unfold State.wakeLight; (try dsimp only); (repeat' split) <;> (first | rfl | (simp; done) | (simp_all; done) | (try simp)))
theorem execWakeXrefStable_frame (dieTemp : Rat) (s : State) :
    ∃ u, execWakeXrefStable dieTemp s = .next u ∧
    u.pending = s.pending ∧ u.identity = s.identity ∧ u.pins = s.pins ∧ u.phase = s.phase ∧ u.boot = s.boot ∧ u.tap = s.tap ∧ u.frames = s.frames ∧ u.nextFrame = s.nextFrame ∧ u.ctxs = s.ctxs ∧ u.vs = s.vs ∧ u.former = s.former := by
  refine ⟨_, rfl, ?_⟩
  first
  | (simp; done)
  | ((try simp only [State.whenRun, State.access, State.packet]); (repeat' split) <;> (first | rfl | (simp; done) | (simp_all; done) | (try simp)))
theorem execWakeResume_frame (s : State) :
    ∃ u, execWakeResume s = .next u ∧
    u.pending = s.pending ∧ u.identity = s.identity ∧ u.pins = s.pins ∧ u.shadow = s.shadow ∧ u.tap = s.tap ∧ u.thermal = s.thermal ∧ u.nextFrame = s.nextFrame ∧ u.ctxs = s.ctxs ∧ u.fresh = s.fresh := by
  refine ⟨_, rfl, ?_⟩
  first
  | (simp; done)
  | ((try simp only [State.whenRun, State.access, State.packet]); (repeat' split) <;> (first | rfl | (simp; done) | (simp_all; done) | (try simp)))
end Sys2Proof.Machine
end

