-- ==== Sys2Proof/Laws/FrameThermal.lean ====
section
/-! SUPPORT. Frames: which parts of the state each operation of Machine/Thermal leaves as they were. -/

namespace Sys2Proof.Machine
@[simp] theorem State.shutDown_frame (s : State) :
    (State.shutDown s).pending = s.pending ∧ (State.shutDown s).identity = s.identity ∧ (State.shutDown s).pins = s.pins ∧ (State.shutDown s).thermal = s.thermal ∧ (State.shutDown s).fresh = s.fresh := by
  first
  | (unfold State.shutDown; simp; done)
  | (unfold State.shutDown; (try dsimp only); (repeat' split) <;> (first | rfl | (simp; done) | (simp_all; done) | (try simp)))
theorem execThermalSample_frame (reading : Rat) (s : State) :
    ∃ u, execThermalSample reading s = .next u ∧
    u.pending = s.pending ∧ u.identity = s.identity ∧ u.pins = s.pins ∧ u.fresh = s.fresh := by
  refine ⟨_, rfl, ?_⟩
  first
  | (simp; done)
  | ((try simp only [State.whenRun, State.access, State.packet]); (repeat' split) <;> (first | rfl | (simp; done) | (simp_all; done) | (try simp)))
end Sys2Proof.Machine
end

