-- ==== Sys2Proof/Laws/FrameWrites.lean ====
section
/-! SUPPORT. Frames: which parts of the state each operation of Machine/Writes leaves as they were. -/

namespace Sys2Proof.Machine
theorem execSceneDoneWrite_frame (t : TrowelId) (v : Word) (s : State) :
    ∃ u, execSceneDoneWrite t v s = .next u ∧
    u.pending = s.pending ∧ u.identity = s.identity ∧ u.aon = s.aon ∧ u.pins = s.pins ∧ u.tap = s.tap ∧ u.thermal = s.thermal ∧ u.nextFrame = s.nextFrame ∧ u.ctxs = s.ctxs := by
  refine ⟨_, rfl, ?_⟩
  first
  | (simp; done)
  | ((try simp only [State.whenRun, State.access, State.packet]); (repeat' split) <;> (first | rfl | (simp; done) | (simp_all; done) | (try simp)))
theorem execSleepGoWrite_frame (t : TrowelId) (v : Word) (s : State) :
    ∃ u, execSleepGoWrite t v s = .next u ∧
    u.pending = s.pending ∧ u.identity = s.identity ∧ u.aon = s.aon ∧ u.pins = s.pins ∧ u.tap = s.tap ∧ u.thermal = s.thermal ∧ u.nextFrame = s.nextFrame ∧ u.ctxs = s.ctxs := by
  refine ⟨_, rfl, ?_⟩
  first
  | (simp; done)
  | ((try simp only [State.whenRun, State.access, State.packet]); (repeat' split) <;> (first | rfl | (simp; done) | (simp_all; done) | (try simp)))
theorem execSleepAckWrite_frame (t : TrowelId) (v : Word) (s : State) :
    ∃ u, execSleepAckWrite t v s = .next u ∧
    u.pending = s.pending ∧ u.identity = s.identity ∧ u.aon = s.aon ∧ u.pins = s.pins ∧ u.tap = s.tap ∧ u.thermal = s.thermal ∧ u.nextFrame = s.nextFrame ∧ u.ctxs = s.ctxs := by
  refine ⟨_, rfl, ?_⟩
  first
  | (simp; done)
  | ((try simp only [State.whenRun, State.access, State.packet]); (repeat' split) <;> (first | rfl | (simp; done) | (simp_all; done) | (try simp)))
theorem execLightEnableWrite_frame (t : TrowelId) (v : Word) (s : State) :
    ∃ u, execLightEnableWrite t v s = .next u ∧
    u.pending = s.pending ∧ u.identity = s.identity ∧ u.aon = s.aon ∧ u.pins = s.pins ∧ u.tap = s.tap ∧ u.thermal = s.thermal ∧ u.nextFrame = s.nextFrame ∧ u.ctxs = s.ctxs := by
  refine ⟨_, rfl, ?_⟩
  first
  | (simp; done)
  | ((try simp only [State.whenRun, State.access, State.packet]); (repeat' split) <;> (first | rfl | (simp; done) | (simp_all; done) | (try simp)))
theorem execGrpFireWrite_frame (t : TrowelId) (v : Word) (s : State) :
    ∃ u, execGrpFireWrite t v s = .next u ∧
    u.pending = s.pending ∧ u.identity = s.identity ∧ u.aon = s.aon ∧ u.pins = s.pins ∧ u.tap = s.tap ∧ u.thermal = s.thermal ∧ u.nextFrame = s.nextFrame ∧ u.ctxs = s.ctxs := by
  refine ⟨_, rfl, ?_⟩
  first
  | (simp; done)
  | ((try simp only [State.whenRun, State.access, State.packet]); (repeat' split) <;> (first | rfl | (simp; done) | (simp_all; done) | (try simp)))
theorem execCrvGoWrite_frame (t : TrowelId) (v : Word) (s : State) :
    ∃ u, execCrvGoWrite t v s = .next u ∧
    u.pending = s.pending ∧ u.identity = s.identity ∧ u.aon = s.aon ∧ u.pins = s.pins ∧ u.tap = s.tap ∧ u.thermal = s.thermal ∧ u.nextFrame = s.nextFrame ∧ u.ctxs = s.ctxs := by
  refine ⟨_, rfl, ?_⟩
  first
  | (simp; done)
  | ((try simp only [State.whenRun, State.access, State.packet]); (repeat' split) <;> (first | rfl | (simp; done) | (simp_all; done) | (try simp)))
theorem execBoardTempWrite_frame (t : TrowelId) (v : Word) (s : State) :
    ∃ u, execBoardTempWrite t v s = .next u ∧
    u.pending = s.pending ∧ u.identity = s.identity ∧ u.aon = s.aon ∧ u.pins = s.pins ∧ u.tap = s.tap ∧ u.thermal = s.thermal ∧ u.nextFrame = s.nextFrame ∧ u.ctxs = s.ctxs := by
  refine ⟨_, rfl, ?_⟩
  first
  | (simp; done)
  | ((try simp only [State.whenRun, State.access, State.packet]); (repeat' split) <;> (first | rfl | (simp; done) | (simp_all; done) | (try simp)))
theorem execAdcEnableWrite_frame (t : TrowelId) (c : Conv) (v : Word) (s : State) :
    ∃ u, execAdcEnableWrite t c v s = .next u ∧
    u.pending = s.pending ∧ u.identity = s.identity ∧ u.aon = s.aon ∧ u.pins = s.pins ∧ u.tap = s.tap ∧ u.thermal = s.thermal ∧ u.nextFrame = s.nextFrame ∧ u.ctxs = s.ctxs := by
  refine ⟨_, rfl, ?_⟩
  first
  | (simp; done)
  | ((try simp only [State.whenRun, State.access, State.packet]); (repeat' split) <;> (first | rfl | (simp; done) | (simp_all; done) | (try simp)))
theorem execRefEnWrite_frame (t : TrowelId) (c : Conv) (v : Word) (s : State) :
    ∃ u, execRefEnWrite t c v s = .next u ∧
    u.pending = s.pending ∧ u.identity = s.identity ∧ u.aon = s.aon ∧ u.pins = s.pins ∧ u.tap = s.tap ∧ u.thermal = s.thermal ∧ u.nextFrame = s.nextFrame ∧ u.ctxs = s.ctxs := by
  refine ⟨_, rfl, ?_⟩
  first
  | (simp; done)
  | ((try simp only [State.whenRun, State.access, State.packet]); (repeat' split) <;> (first | rfl | (simp; done) | (simp_all; done) | (try simp)))
theorem execSeqGo_frame (t : TrowelId) (c : Conv) (v : Word) (s : State) :
    ∃ u, execSeqGo t c v s = .next u ∧
    u.pending = s.pending ∧ u.identity = s.identity ∧ u.aon = s.aon ∧ u.pins = s.pins ∧ u.tap = s.tap ∧ u.thermal = s.thermal ∧ u.nextFrame = s.nextFrame ∧ u.ctxs = s.ctxs := by
  refine ⟨_, rfl, ?_⟩
  first
  | (simp; done)
  | ((try simp only [State.whenRun, State.access, State.packet]); (repeat' split) <;> (first | rfl | (simp; done) | (simp_all; done) | (try simp)))
theorem execCalGo_frame (t : TrowelId) (c : Conv) (v : Word) (s : State) :
    ∃ u, execCalGo t c v s = .next u ∧
    u.pending = s.pending ∧ u.identity = s.identity ∧ u.aon = s.aon ∧ u.pins = s.pins ∧ u.tap = s.tap ∧ u.thermal = s.thermal ∧ u.nextFrame = s.nextFrame ∧ u.ctxs = s.ctxs := by
  refine ⟨_, rfl, ?_⟩
  first
  | (simp; done)
  | ((try simp only [State.whenRun, State.access, State.packet]); (repeat' split) <;> (first | rfl | (simp; done) | (simp_all; done) | (try simp)))
theorem execAccSnap_frame (t : TrowelId) (c : Conv) (v : Word) (s : State) :
    ∃ u, execAccSnap t c v s = .next u ∧
    u.pending = s.pending ∧ u.identity = s.identity ∧ u.aon = s.aon ∧ u.pins = s.pins ∧ u.tap = s.tap ∧ u.thermal = s.thermal ∧ u.nextFrame = s.nextFrame ∧ u.ctxs = s.ctxs := by
  refine ⟨_, rfl, ?_⟩
  first
  | (simp; done)
  | ((try simp only [State.whenRun, State.access, State.packet]); (repeat' split) <;> (first | rfl | (simp; done) | (simp_all; done) | (try simp)))
theorem execAccClear_frame (t : TrowelId) (c : Conv) (v : Word) (s : State) :
    ∃ u, execAccClear t c v s = .next u ∧
    u.pending = s.pending ∧ u.identity = s.identity ∧ u.aon = s.aon ∧ u.pins = s.pins ∧ u.tap = s.tap ∧ u.thermal = s.thermal ∧ u.nextFrame = s.nextFrame ∧ u.ctxs = s.ctxs := by
  refine ⟨_, rfl, ?_⟩
  first
  | (simp; done)
  | ((try simp only [State.whenRun, State.access, State.packet]); (repeat' split) <;> (first | rfl | (simp; done) | (simp_all; done) | (try simp)))
theorem execCsiEnableWrite_frame (t : TrowelId) (p : PortId) (v : Word) (s : State) :
    ∃ u, execCsiEnableWrite t p v s = .next u ∧
    u.pending = s.pending ∧ u.identity = s.identity ∧ u.aon = s.aon ∧ u.pins = s.pins ∧ u.tap = s.tap ∧ u.thermal = s.thermal ∧ u.nextFrame = s.nextFrame ∧ u.ctxs = s.ctxs := by
  refine ⟨_, rfl, ?_⟩
  first
  | (simp; done)
  | ((try simp only [State.whenRun, State.access, State.packet]); (repeat' split) <;> (first | rfl | (simp; done) | (simp_all; done) | (try simp)))
theorem execVcEnWrite_frame (t : TrowelId) (p : PortId) (v : Word) (s : State) :
    ∃ u, execVcEnWrite t p v s = .next u ∧
    u.pending = s.pending ∧ u.identity = s.identity ∧ u.aon = s.aon ∧ u.pins = s.pins ∧ u.tap = s.tap ∧ u.thermal = s.thermal ∧ u.nextFrame = s.nextFrame ∧ u.ctxs = s.ctxs := by
  refine ⟨_, rfl, ?_⟩
  first
  | (simp; done)
  | ((try simp only [State.whenRun, State.access, State.packet]); (repeat' split) <;> (first | rfl | (simp; done) | (simp_all; done) | (try simp)))
theorem execCtxEnableWrite_frame (t : TrowelId) (k : CtxId) (v : Word) (s : State) :
    ∃ u, execCtxEnableWrite t k v s = .next u ∧
    u.pending = s.pending ∧ u.identity = s.identity ∧ u.aon = s.aon ∧ u.pins = s.pins ∧ u.tap = s.tap ∧ u.thermal = s.thermal ∧ u.nextFrame = s.nextFrame ∧ u.ctxs = s.ctxs := by
  refine ⟨_, rfl, ?_⟩
  first
  | (simp; done)
  | ((try simp only [State.whenRun, State.access, State.packet]); (repeat' split) <;> (first | rfl | (simp; done) | (simp_all; done) | (try simp)))
theorem execLocEnableWrite_frame (t : TrowelId) (v : Word) (s : State) :
    ∃ u, execLocEnableWrite t v s = .next u ∧
    u.pending = s.pending ∧ u.identity = s.identity ∧ u.aon = s.aon ∧ u.pins = s.pins ∧ u.tap = s.tap ∧ u.thermal = s.thermal ∧ u.nextFrame = s.nextFrame ∧ u.ctxs = s.ctxs := by
  refine ⟨_, rfl, ?_⟩
  first
  | (simp; done)
  | ((try simp only [State.whenRun, State.access, State.packet]); (repeat' split) <;> (first | rfl | (simp; done) | (simp_all; done) | (try simp)))
theorem execDecEnableWrite_frame (t : TrowelId) (v : Word) (s : State) :
    ∃ u, execDecEnableWrite t v s = .next u ∧
    u.pending = s.pending ∧ u.identity = s.identity ∧ u.aon = s.aon ∧ u.pins = s.pins ∧ u.tap = s.tap ∧ u.thermal = s.thermal ∧ u.nextFrame = s.nextFrame ∧ u.ctxs = s.ctxs := by
  refine ⟨_, rfl, ?_⟩
  first
  | (simp; done)
  | ((try simp only [State.whenRun, State.access, State.packet]); (repeat' split) <;> (first | rfl | (simp; done) | (simp_all; done) | (try simp)))
theorem execVsDecide_frame (t : TrowelId) (v : Word) (s : State) :
    ∃ u, execVsDecide t v s = .next u ∧
    u.pending = s.pending ∧ u.identity = s.identity ∧ u.aon = s.aon ∧ u.pins = s.pins ∧ u.tap = s.tap ∧ u.thermal = s.thermal ∧ u.nextFrame = s.nextFrame ∧ u.ctxs = s.ctxs := by
  refine ⟨_, rfl, ?_⟩
  first
  | (simp; done)
  | ((try simp only [State.whenRun, State.access, State.packet]); (repeat' split) <;> (first | rfl | (simp; done) | (simp_all; done) | (try simp)))
theorem execVsPeekAddrWrite_frame (t : TrowelId) (v : Word) (s : State) :
    ∃ u, execVsPeekAddrWrite t v s = .next u ∧
    u.pending = s.pending ∧ u.identity = s.identity ∧ u.aon = s.aon ∧ u.pins = s.pins ∧ u.tap = s.tap ∧ u.thermal = s.thermal ∧ u.nextFrame = s.nextFrame ∧ u.ctxs = s.ctxs := by
  refine ⟨_, rfl, ?_⟩
  first
  | (simp; done)
  | ((try simp only [State.whenRun, State.access, State.packet]); (repeat' split) <;> (first | rfl | (simp; done) | (simp_all; done) | (try simp)))
theorem execHkSend_frame (t : TrowelId) (v : Word) (s : State) :
    ∃ u, execHkSend t v s = .next u ∧
    u.pending = s.pending ∧ u.identity = s.identity ∧ u.aon = s.aon ∧ u.pins = s.pins ∧ u.tap = s.tap ∧ u.thermal = s.thermal ∧ u.nextFrame = s.nextFrame ∧ u.ctxs = s.ctxs := by
  refine ⟨_, rfl, ?_⟩
  first
  | (simp; done)
  | ((try simp only [State.whenRun, State.access, State.packet]); (repeat' split) <;> (first | rfl | (simp; done) | (simp_all; done) | (try simp)))
theorem execUsbEnableWrite_frame (t : TrowelId) (v : Word) (s : State) :
    ∃ u, execUsbEnableWrite t v s = .next u ∧
    u.pending = s.pending ∧ u.identity = s.identity ∧ u.aon = s.aon ∧ u.pins = s.pins ∧ u.tap = s.tap ∧ u.thermal = s.thermal ∧ u.nextFrame = s.nextFrame ∧ u.ctxs = s.ctxs := by
  refine ⟨_, rfl, ?_⟩
  first
  | (simp; done)
  | ((try simp only [State.whenRun, State.access, State.packet]); (repeat' split) <;> (first | rfl | (simp; done) | (simp_all; done) | (try simp)))
theorem execReqNoteAck_frame (t : TrowelId) (v : Word) (s : State) :
    ∃ u, execReqNoteAck t v s = .next u ∧
    u.pending = s.pending ∧ u.identity = s.identity ∧ u.aon = s.aon ∧ u.pins = s.pins ∧ u.tap = s.tap ∧ u.thermal = s.thermal ∧ u.nextFrame = s.nextFrame ∧ u.ctxs = s.ctxs := by
  refine ⟨_, rfl, ?_⟩
  first
  | (simp; done)
  | ((try simp only [State.whenRun, State.access, State.packet]); (repeat' split) <;> (first | rfl | (simp; done) | (simp_all; done) | (try simp)))
theorem execSerEnableWrite_frame (t : TrowelId) (v : Word) (s : State) :
    ∃ u, execSerEnableWrite t v s = .next u ∧
    u.pending = s.pending ∧ u.identity = s.identity ∧ u.aon = s.aon ∧ u.pins = s.pins ∧ u.tap = s.tap ∧ u.thermal = s.thermal ∧ u.nextFrame = s.nextFrame ∧ u.ctxs = s.ctxs := by
  refine ⟨_, rfl, ?_⟩
  first
  | (simp; done)
  | ((try simp only [State.whenRun, State.access, State.packet]); (repeat' split) <;> (first | rfl | (simp; done) | (simp_all; done) | (try simp)))
theorem execSerReqNoteAck_frame (t : TrowelId) (v : Word) (s : State) :
    ∃ u, execSerReqNoteAck t v s = .next u ∧
    u.pending = s.pending ∧ u.identity = s.identity ∧ u.aon = s.aon ∧ u.pins = s.pins ∧ u.tap = s.tap ∧ u.thermal = s.thermal ∧ u.nextFrame = s.nextFrame ∧ u.ctxs = s.ctxs := by
  refine ⟨_, rfl, ?_⟩
  first
  | (simp; done)
  | ((try simp only [State.whenRun, State.access, State.packet]); (repeat' split) <;> (first | rfl | (simp; done) | (simp_all; done) | (try simp)))
theorem execPairEnableWrite_frame (t : TrowelId) (v : Word) (s : State) :
    ∃ u, execPairEnableWrite t v s = .next u ∧
    u.pending = s.pending ∧ u.identity = s.identity ∧ u.aon = s.aon ∧ u.pins = s.pins ∧ u.tap = s.tap ∧ u.thermal = s.thermal ∧ u.nextFrame = s.nextFrame ∧ u.ctxs = s.ctxs := by
  refine ⟨_, rfl, ?_⟩
  first
  | (simp; done)
  | ((try simp only [State.whenRun, State.access, State.packet]); (repeat' split) <;> (first | rfl | (simp; done) | (simp_all; done) | (try simp)))
theorem execPairTxMsgWrite_frame (t : TrowelId) (v : Word) (s : State) :
    ∃ u, execPairTxMsgWrite t v s = .next u ∧
    u.pending = s.pending ∧ u.identity = s.identity ∧ u.aon = s.aon ∧ u.pins = s.pins ∧ u.tap = s.tap ∧ u.thermal = s.thermal ∧ u.nextFrame = s.nextFrame ∧ u.ctxs = s.ctxs := by
  refine ⟨_, rfl, ?_⟩
  first
  | (simp; done)
  | ((try simp only [State.whenRun, State.access, State.packet]); (repeat' split) <;> (first | rfl | (simp; done) | (simp_all; done) | (try simp)))
theorem execPairRxAckWrite_frame (t : TrowelId) (v : Word) (s : State) :
    ∃ u, execPairRxAckWrite t v s = .next u ∧
    u.pending = s.pending ∧ u.identity = s.identity ∧ u.aon = s.aon ∧ u.pins = s.pins ∧ u.tap = s.tap ∧ u.thermal = s.thermal ∧ u.nextFrame = s.nextFrame ∧ u.ctxs = s.ctxs := by
  refine ⟨_, rfl, ?_⟩
  first
  | (simp; done)
  | ((try simp only [State.whenRun, State.access, State.packet]); (repeat' split) <;> (first | rfl | (simp; done) | (simp_all; done) | (try simp)))
theorem execMorEnableWrite_frame (t : TrowelId) (m : MorId) (v : Word) (s : State) :
    ∃ u, execMorEnableWrite t m v s = .next u ∧
    u.pending = s.pending ∧ u.identity = s.identity ∧ u.aon = s.aon ∧ u.pins = s.pins ∧ u.tap = s.tap ∧ u.thermal = s.thermal ∧ u.nextFrame = s.nextFrame ∧ u.ctxs = s.ctxs := by
  refine ⟨_, rfl, ?_⟩
  first
  | (simp; done)
  | ((try simp only [State.whenRun, State.access, State.packet]); (repeat' split) <;> (first | rfl | (simp; done) | (simp_all; done) | (try simp)))
theorem execRouteWrite_frame (t : TrowelId) (n : BitVec 6) (v : Word) (s : State) :
    ∃ u, execRouteWrite t n v s = .next u ∧
    u.pending = s.pending ∧ u.identity = s.identity ∧ u.aon = s.aon ∧ u.pins = s.pins ∧ u.tap = s.tap ∧ u.thermal = s.thermal ∧ u.nextFrame = s.nextFrame ∧ u.ctxs = s.ctxs := by
  refine ⟨_, rfl, ?_⟩
  first
  | (simp; done)
  | ((try simp only [State.whenRun, State.access, State.packet]); (repeat' split) <;> (first | rfl | (simp; done) | (simp_all; done) | (try simp)))
theorem execMorTxMsgWrite_frame (t : TrowelId) (v : Word) (s : State) :
    ∃ u, execMorTxMsgWrite t v s = .next u ∧
    u.pending = s.pending ∧ u.identity = s.identity ∧ u.aon = s.aon ∧ u.pins = s.pins ∧ u.tap = s.tap ∧ u.thermal = s.thermal ∧ u.nextFrame = s.nextFrame ∧ u.ctxs = s.ctxs := by
  refine ⟨_, rfl, ?_⟩
  first
  | (simp; done)
  | ((try simp only [State.whenRun, State.access, State.packet]); (repeat' split) <;> (first | rfl | (simp; done) | (simp_all; done) | (try simp)))
theorem execMorRxAckWrite_frame (t : TrowelId) (v : Word) (s : State) :
    ∃ u, execMorRxAckWrite t v s = .next u ∧
    u.pending = s.pending ∧ u.identity = s.identity ∧ u.aon = s.aon ∧ u.pins = s.pins ∧ u.tap = s.tap ∧ u.thermal = s.thermal ∧ u.nextFrame = s.nextFrame ∧ u.ctxs = s.ctxs := by
  refine ⟨_, rfl, ?_⟩
  first
  | (simp; done)
  | ((try simp only [State.whenRun, State.access, State.packet]); (repeat' split) <;> (first | rfl | (simp; done) | (simp_all; done) | (try simp)))
theorem execResTakeInclude_frame (t : TrowelId) (v : Word) (s : State) :
    ∃ u, execResTakeInclude t v s = .next u ∧
    u.pending = s.pending ∧ u.identity = s.identity ∧ u.aon = s.aon ∧ u.pins = s.pins ∧ u.tap = s.tap ∧ u.thermal = s.thermal ∧ u.nextFrame = s.nextFrame ∧ u.ctxs = s.ctxs := by
  refine ⟨_, rfl, ?_⟩
  first
  | (simp; done)
  | ((try simp only [State.whenRun, State.access, State.packet]); (repeat' split) <;> (first | rfl | (simp; done) | (simp_all; done) | (try simp)))
theorem execResTakeNoPayload_frame (t : TrowelId) (v : Word) (s : State) :
    ∃ u, execResTakeNoPayload t v s = .next u ∧
    u.pending = s.pending ∧ u.identity = s.identity ∧ u.aon = s.aon ∧ u.pins = s.pins ∧ u.tap = s.tap ∧ u.thermal = s.thermal ∧ u.nextFrame = s.nextFrame ∧ u.ctxs = s.ctxs := by
  refine ⟨_, rfl, ?_⟩
  first
  | (simp; done)
  | ((try simp only [State.whenRun, State.access, State.packet]); (repeat' split) <;> (first | rfl | (simp; done) | (simp_all; done) | (try simp)))
theorem execResTakeOmit_frame (t : TrowelId) (v : Word) (s : State) :
    ∃ u, execResTakeOmit t v s = .next u ∧
    u.pending = s.pending ∧ u.identity = s.identity ∧ u.aon = s.aon ∧ u.pins = s.pins ∧ u.tap = s.tap ∧ u.thermal = s.thermal ∧ u.nextFrame = s.nextFrame ∧ u.ctxs = s.ctxs := by
  refine ⟨_, rfl, ?_⟩
  first
  | (simp; done)
  | ((try simp only [State.whenRun, State.access, State.packet]); (repeat' split) <;> (first | rfl | (simp; done) | (simp_all; done) | (try simp)))
theorem execSerCancel_frame (t : TrowelId) (v : Word) (late : Bool) (s : State) :
    ∃ u, execSerCancel t v late s = .next u ∧
    u.pending = s.pending ∧ u.identity = s.identity ∧ u.aon = s.aon ∧ u.pins = s.pins ∧ u.tap = s.tap ∧ u.thermal = s.thermal ∧ u.nextFrame = s.nextFrame ∧ u.ctxs = s.ctxs := by
  refine ⟨_, rfl, ?_⟩
  first
  | (simp; done)
  | ((try simp only [State.whenRun, State.access, State.packet]); (repeat' split) <;> (first | rfl | (simp; done) | (simp_all; done) | (try simp)))
end Sys2Proof.Machine
end

