-- ==== Sys2Proof/Laws/State.lean ====
section
/-! SUPPORT. The laws of the updates of one part of the state: the part an update changes, and the ones beside it. -/

namespace Sys2Proof.Machine

/-! ### Trowels, ports, converters, mortar ports -/

/-- The trowels after a change of one, each named. -/
theorem State.updT_trowels (s : State) (t : TrowelId) (f : Trowel → Trowel) :
    (s.updT t f).trowels = s.trowels.set t.val (f s.trowels[t]) t.isLt := rfl

/-- The trowel that a change names. -/
@[simp] theorem State.updT_self (s : State) (t : TrowelId) (f : Trowel → Trowel) :
    (s.updT t f).trowels[t.val] = f s.trowels[t.val] := by simp [State.updT]

/-- Every other trowel. -/
theorem State.updT_of_ne (s : State) {t o : TrowelId} (h : o ≠ t) (f : Trowel → Trowel) :
    (s.updT t f).trowels[o.val] = s.trowels[o.val] := by
  have : t.val ≠ o.val := fun e => h (Fin.ext e.symm)
  simp [State.updT, this]

/-- Any trowel after a change of one. -/
theorem State.updT_get (s : State) (t o : TrowelId) (f : Trowel → Trowel) :
    (s.updT t f).trowels[o.val] = if o = t then f s.trowels[o.val] else s.trowels[o.val] := by
  split
  · rename_i h; subst h; simp
  · rename_i h; exact s.updT_of_ne h f

/-- A change of a trowel into itself is none. -/
@[simp] theorem State.updT_id (s : State) (t : TrowelId) : s.updT t (fun x => x) = s := by
  cases s; simp [State.updT]

/-- The port that a change names. -/
@[simp] theorem State.updPort_self (s : State) (p : PortId) (f : Port → Port) :
    (s.updPort p f).ports[p.val] = f s.ports[p.val] := by simp [State.updPort]

/-- Every other port. -/
theorem State.updPort_of_ne (s : State) {p q : PortId} (h : q ≠ p) (f : Port → Port) :
    (s.updPort p f).ports[q.val] = s.ports[q.val] := by
  have : p.val ≠ q.val := fun e => h (Fin.ext e.symm)
  simp [State.updPort, this]

/-- Any port after a change of one. -/
theorem State.updPort_get (s : State) (p q : PortId) (f : Port → Port) :
    (s.updPort p f).ports[q.val] = if q = p then f s.ports[q.val] else s.ports[q.val] := by
  split
  · rename_i h; subst h; simp
  · rename_i h; exact s.updPort_of_ne h f

/-- The converter that a change names. -/
@[simp] theorem State.updAdc_self (s : State) (c : Conv) (f : Adc → Adc) : (s.updAdc c f).adc c = f (s.adc c) := by
  cases c <;> rfl

/-- The other converter. -/
theorem State.updAdc_of_ne (s : State) {c d : Conv} (h : d ≠ c) (f : Adc → Adc) : (s.updAdc c f).adc d = s.adc d := by
  cases c <;> cases d <;> first | rfl | exact absurd rfl h

/-- The frames after a change of one. -/
@[simp] theorem State.updFrame_frames (s : State) (id : Nat) (f : Frame → Frame) :
    (s.updFrame id f).frames = s.frames.map fun x => if x.id = id then f x else x := rfl

/-- A change of the fabric. -/
@[simp] theorem State.updFab_fab (s : State) (f : Fabric → Fabric) : (s.updFab f).fab = f s.fab := rfl

/-- The mortar port that a change names. -/
@[simp] theorem State.updMor_self (s : State) (m : MorId) (f : MorPort → MorPort) :
    (s.updMor m f).fab.ports[m.val] = f s.fab.ports[m.val] := by simp [State.updMor]

/-- Every other mortar port. -/
theorem State.updMor_of_ne (s : State) {m n : MorId} (h : n ≠ m) (f : MorPort → MorPort) :
    (s.updMor m f).fab.ports[n.val] = s.fab.ports[n.val] := by
  have : m.val ≠ n.val := fun e => h (Fin.ext e.symm)
  simp [State.updMor, this]

/-! ### Units of which there is one -/

/-- A change of the pair port. -/
@[simp] theorem State.updPair_pair (s : State) (f : Pair → Pair) : (s.updPair f).pair = f s.pair := rfl

/-- A change of the serial line. -/
@[simp] theorem State.updSer_ser (s : State) (f : Ser → Ser) : (s.updSer f).ser = f s.ser := rfl

/-- A change of the time unit. -/
@[simp] theorem State.updTime_time (s : State) (f : TimeUnit → TimeUnit) : (s.updTime f).time = f s.time := rfl

/-! ### Stored fields -/

/-- Writing a field changes the stored fields alone. -/
theorem State.setF_eq (s : State) (a : Nat) (v : Word) : s.setF a v = { s with fields := (s.setF a v).fields } := rfl

/-- Counting changes the stored fields alone. -/
theorem State.count16_eq (s : State) (a : Nat) : s.count16 a = { s with fields := (s.count16 a).fields } := rfl

end Sys2Proof.Machine
end

