-- ==== Sys2Proof/Laws/Ops.lean ====
section
/-! SUPPORT. What the operations that every unit shares do: events of the trowels, black-box events, the freeze, and the
halt. -/

namespace Sys2Proof.Machine

/-! ### Events of the trowels -/

/-- Raising an event sets its pending bit. -/
@[simp] theorem Trowel.raise_pending_self (x : Trowel) {n : Nat} (h : n < 64) : (x.raise n).pending.getLsbD n = true := by
  unfold Trowel.raise
  split
  · assumption
  · rw [BitVec.getLsbD_or, BitVec.getLsbD_ofNat, Nat.testBit_two_pow_self, decide_eq_true h, Bool.and_true, Bool.or_true]

/-- Raising an event keeps everything of a trowel but the pending and overrun bits. -/
theorem Trowel.raise_eq (x : Trowel) (n : Nat) :
    x.raise n = { x with pending := (x.raise n).pending, overrun := (x.raise n).overrun } := by
  unfold Trowel.raise; split <;> rfl

/-- An event not yet pending becomes pending, and no overrun is marked. -/
theorem Trowel.raise_of_not (x : Trowel) {n : Nat} (h : x.pending.getLsbD n = false) :
    x.raise n = { x with pending := x.pending ||| BitVec.ofNat 64 (2 ^ n) } := by simp [Trowel.raise, h]

/-- An event still pending marks its overrun. -/
theorem Trowel.raise_of_pending (x : Trowel) {n : Nat} (h : x.pending.getLsbD n = true) :
    x.raise n = { x with overrun := x.overrun ||| BitVec.ofNat 64 (2 ^ n) } := by simp [Trowel.raise, h]

/-- Raising an event changes the trowels alone. -/
theorem State.raise_eq (s : State) (t : TrowelId) (n : Nat) : s.raise t n = { s with trowels := (s.raise t n).trowels } := by
  unfold State.raise; split <;> rfl

/-- Raising an event, once the trowels have been started. -/
theorem State.raise_started {s : State} (h : s.boot.started = true) (t : TrowelId) (n : Nat) :
    s.raise t n = s.updT t (·.raise n) := by simp [State.raise, State.trowelsLive, h]

/-- Before the trowels start, no event is raised. -/
theorem State.raise_unstarted {s : State} (h : s.boot.started = false) (t : TrowelId) (n : Nat) : s.raise t n = s := by
  simp [State.raise, State.trowelsLive, h]

/-- Raising an event in all trowels changes the trowels alone. -/
theorem State.raiseAll_eq (s : State) (n : Nat) : s.raiseAll n = { s with trowels := (s.raiseAll n).trowels } := by
  unfold State.raiseAll
  rw [State.raise_eq _ 3, State.raise_eq _ 2, State.raise_eq _ 1, State.raise_eq _ 0]

/-- Each trowel after an event of all of them. -/
theorem State.raiseAll_get {s : State} (h : s.boot.started = true) (n : Nat) (t : TrowelId) :
    (s.raiseAll n).trowels[t.val] = s.trowels[t.val].raise n := by
  fin_cases t <;> simp [State.raiseAll, State.raise, State.trowelsLive, h, State.updT]

/-- Raising an event keeps everything of a trowel but the pending and overrun bits. -/
theorem State.raise_get (s : State) (t o : TrowelId) (n : Nat) :
    (s.raise t n).trowels[o.val] = { s.trowels[o.val] with
      pending := (s.raise t n).trowels[o.val].pending, overrun := (s.raise t n).trowels[o.val].overrun } := by
  unfold State.raise
  split
  · rw [State.updT_get]
    split
    · exact Trowel.raise_eq _ _
    · rfl
  · rfl

/-! ### Black box -/

/-- An event that finds room joins the write queue. -/
theorem BlackBox.push_room {b : BlackBox} (h : b.queue.length < 32) (unit : BitVec 7) (inst : Byte) (code : BitVec 16)
    (arg : Word) : b.push unit inst code arg =
      { b with queue := b.queue ++ [⟨0, unit, b.lostPending, inst, code, arg⟩], lostPending := false } := by
  simp [BlackBox.push, Nat.not_le.mpr h]

/-- An event that finds the write queue full is lost, and marked. -/
theorem BlackBox.push_full {b : BlackBox} (h : 32 ≤ b.queue.length) (unit : BitVec 7) (inst : Byte) (code : BitVec 16)
    (arg : Word) : b.push unit inst code arg = { b with lostPending := true } := by simp [BlackBox.push, h]

/-- A black-box event changes the black box alone. -/
theorem State.bbEvent_eq (s : State) (unit : BitVec 7) (inst : Byte) (code : BitVec 16) (arg : Word) :
    s.bbEvent unit inst code arg = { s with bb := (s.bbEvent unit inst code arg).bb } := rfl

/-- A black-box event where the engine writes events. -/
theorem State.bbEvent_on {s : State} (h : s.bbWrites = true) (unit : BitVec 7) (inst : Byte) (code : BitVec 16)
    (arg : Word) : (s.bbEvent unit inst code arg).bb = s.bb.push unit inst code arg := by simp [State.bbEvent, h]

/-- A black-box event where the engine writes none. -/
theorem State.bbEvent_off {s : State} (h : s.bbWrites = false) (unit : BitVec 7) (inst : Byte) (code : BitVec 16)
    (arg : Word) : s.bbEvent unit inst code arg = s := by simp [State.bbEvent, h]

/-- Pushing an event neither freezes the box nor changes its ring. -/
@[simp] theorem BlackBox.push_keeps (b : BlackBox) (unit : BitVec 7) (inst : Byte) (code : BitVec 16) (arg : Word) :
    (b.push unit inst code arg).frozen = b.frozen ∧ (b.push unit inst code arg).ring = b.ring ∧
    (b.push unit inst code arg).freezeCause = b.freezeCause ∧ (b.push unit inst code arg).freezeNs = b.freezeNs ∧
    (b.push unit inst code arg).written = b.written ∧ (b.push unit inst code arg).emptied = b.emptied := by
  unfold BlackBox.push; split <;> simp

/-- Whether events are written does not depend on the events themselves. -/
@[simp] theorem State.bbEvent_bbWrites (s : State) (unit : BitVec 7) (inst : Byte) (code : BitVec 16) (arg : Word) :
    (s.bbEvent unit inst code arg).bbWrites = s.bbWrites := by
  unfold State.bbEvent
  cases h : s.bbWrites <;> simp [State.bbWrites, State.clocked] at h ⊢ <;> simp_all

/-- A freeze where the engine writes events: the box is frozen with its cause. -/
theorem State.freeze_on {s : State} (h : s.bbWrites = true) (cause : Byte) :
    (s.freeze cause).bb.frozen = true ∧ (s.freeze cause).bb.freezeCause = cause ∧ (s.freeze cause).bb.queue = [] := by
  simp [State.freeze, h]

/-- A freeze where the engine writes none has no effect. -/
theorem State.freeze_off {s : State} (h : s.bbWrites = false) (cause : Byte) : s.freeze cause = s := by
  simp [State.freeze, h]

/-- A freeze changes the black box alone. -/
theorem State.freeze_eq (s : State) (cause : Byte) : s.freeze cause = { s with bb := (s.freeze cause).bb } := rfl

/-! ### Halting -/

/-- The trowels after the stop of a halt. -/
@[simp] theorem State.stopTrowels_get (s : State) (t : TrowelId) :
    s.stopTrowels.trowels[t.val] = { s.trowels[t.val] with status := .stopped } := by
  simp [State.stopTrowels]

/-- The trowels after the writes not yet received are discarded. -/
@[simp] theorem State.discardWrites_get (s : State) (t : TrowelId) :
    s.discardWrites.trowels[t.val] =
      { s.trowels[t.val] with wq := s.trowels[t.val].wq.filter (·.answer.isSome), group := none } := by
  simp [State.discardWrites]

/-- The halted engine: READY low, FAULT_N low, no heartbeat, the lamps at rest. -/
@[simp] theorem State.enterHalt_does (s : State) :
    s.enterHalt.phase = .halted ∧ s.enterHalt.balls.ready = false ∧ s.enterHalt.balls.faultLow = true ∧
    s.enterHalt.balls.hbLeft = 0 ∧ s.enterHalt.light.stage = .rest := by
  refine ⟨?_, ?_, ?_, ?_, ?_⟩ <;> simp [State.enterHalt, State.lightRest]

end Sys2Proof.Machine
end

