-- ==== Sys2Proof/Laws/Store.lean ====
section
/-! SUPPORT. The laws of the sparse stores: what a read sees after a write, and that writes keep the canonical form. -/

namespace Sys2Proof.Machine

variable {α : Type}

/-- An address that a store does not list reads as unlisted. -/
theorem sparseGet_of_notMem (d : Nat → α) (l : Sparse α) (a : Nat) (h : ∀ e ∈ l, e.1 ≠ a) : sparseGet d l a = d a := by
  induction l with
  | nil => rfl
  | cons e r ih =>
    have h1 : a ≠ e.1 := fun x => h e (by simp) x.symm
    simp [sparseGet, h1, ih fun x hx => h x (by simp [hx])]

/-- Dropping an address leaves it unlisted. -/
theorem sparseDrop_notMem (a : Nat) (l : Sparse α) : ∀ e ∈ sparseDrop a l, e.1 ≠ a := by
  induction l with
  | nil => simp [sparseDrop]
  | cons e r ih =>
    by_cases h : a = e.1
    · rw [sparseDrop, if_pos h]; exact ih
    · intro x hx
      simp only [sparseDrop, if_neg h, List.mem_cons] at hx
      rcases hx with rfl | hx
      · exact fun y => h y.symm
      · exact ih x hx

/-- Dropping an address leaves every other one as it was. -/
theorem sparseGet_sparseDrop_of_ne (d : Nat → α) {a b : Nat} (h : b ≠ a) (l : Sparse α) :
    sparseGet d (sparseDrop a l) b = sparseGet d l b := by
  induction l with
  | nil => rfl
  | cons e r ih =>
    by_cases h1 : a = e.1
    · have h2 : b ≠ e.1 := h1 ▸ h
      simp [sparseDrop, sparseGet, h1 ▸ ih, h2, h1]
    · by_cases h2 : b = e.1 <;> simp [sparseDrop, sparseGet, h1, h2, ih]

/-- An entry put at an address reads back. -/
theorem sparseGet_sparsePut_self (d : Nat → α) (a : Nat) (x : α) (l : Sparse α) : sparseGet d (sparsePut a x l) a = x := by
  induction l with
  | nil => simp [sparsePut, sparseGet]
  | cons e r ih =>
    simp only [sparsePut]
    split
    · simp [sparseGet]
    · split
      · simp [sparseGet]
      · rename_i h; simp [sparseGet, h, ih]

/-- An entry put at an address leaves every other one as it was. -/
theorem sparseGet_sparsePut_of_ne (d : Nat → α) {a b : Nat} (h : b ≠ a) (x : α) (l : Sparse α) :
    sparseGet d (sparsePut a x l) b = sparseGet d l b := by
  induction l with
  | nil => simp [sparsePut, sparseGet, h]
  | cons e r ih =>
    simp only [sparsePut]
    split
    · simp [sparseGet, h]
    · split
      · rename_i h1; simp [sparseGet, h, h1 ▸ h]
      · by_cases h2 : b = e.1 <;> simp [sparseGet, h2, ih]

variable [DecidableEq α]

/-- A read after a write to the same address gives the value written. -/
@[simp] theorem sparseGet_sparseSet_self (d : Nat → α) (l : Sparse α) (a : Nat) (x : α) :
    sparseGet d (sparseSet d l a x) a = x := by
  unfold sparseSet
  split
  · rename_i h; rw [sparseGet_of_notMem d _ a (sparseDrop_notMem a l), h]
  · exact sparseGet_sparsePut_self d a x l

/-- A write leaves every other address alone. -/
theorem sparseGet_sparseSet_of_ne (d : Nat → α) (l : Sparse α) {a b : Nat} (h : b ≠ a) (x : α) :
    sparseGet d (sparseSet d l a x) b = sparseGet d l b := by
  unfold sparseSet
  split
  · exact sparseGet_sparseDrop_of_ne d h l
  · exact sparseGet_sparsePut_of_ne d h x l

/-- A read after a write, at any address. -/
theorem sparseGet_sparseSet (d : Nat → α) (l : Sparse α) (a b : Nat) (x : α) :
    sparseGet d (sparseSet d l a x) b = if b = a then x else sparseGet d l b := by
  split
  · rename_i h; subst h; simp
  · rename_i h; exact sparseGet_sparseSet_of_ne d l h x

/-! ### Canonical form -/

/-- A lower bound may be lowered. -/
theorem sparseWfFrom_mono (d : Nat → α) {m n : Nat} (h : m ≤ n) (l : Sparse α) (w : sparseWfFrom d n l = true) :
    sparseWfFrom d m l = true := by
  cases l with
  | nil => rfl
  | cons e r =>
    simp only [sparseWfFrom, Bool.and_eq_true, decide_eq_true_eq] at w ⊢
    exact ⟨⟨by omega, w.1.2⟩, w.2⟩

/-- In a store above `lo`, dropping an address keeps the form. -/
theorem sparseDrop_wfFrom (d : Nat → α) (a : Nat) (l : Sparse α) (lo : Nat) (w : sparseWfFrom d lo l = true) :
    sparseWfFrom d lo (sparseDrop a l) = true := by
  induction l generalizing lo with
  | nil => rfl
  | cons e r ih =>
    simp only [sparseWfFrom, Bool.and_eq_true, decide_eq_true_eq] at w
    by_cases h : a = e.1
    · simp only [sparseDrop, if_pos h]
      exact sparseWfFrom_mono d (by omega) _ (ih _ w.2)
    · simp only [sparseDrop, if_neg h, sparseWfFrom, Bool.and_eq_true, decide_eq_true_eq]
      exact ⟨w.1, ih _ w.2⟩

/-- In a store above `lo`, putting an entry at or above `lo` keeps the form. -/
theorem sparsePut_wfFrom (d : Nat → α) {a : Nat} {x : α} (hx : x ≠ d a) (l : Sparse α) (lo : Nat) (ha : lo ≤ a)
    (w : sparseWfFrom d lo l = true) : sparseWfFrom d lo (sparsePut a x l) = true := by
  induction l generalizing lo with
  | nil => simp [sparsePut, sparseWfFrom, ha, hx]
  | cons e r ih =>
    simp only [sparseWfFrom, Bool.and_eq_true, decide_eq_true_eq] at w
    simp only [sparsePut]
    split
    · rename_i h
      simp only [sparseWfFrom, Bool.and_eq_true, decide_eq_true_eq]
      exact ⟨⟨ha, hx⟩, ⟨by omega, w.1.2⟩, w.2⟩
    · split
      · rename_i h
        subst h
        simp only [sparseWfFrom, Bool.and_eq_true, decide_eq_true_eq]
        exact ⟨⟨ha, hx⟩, w.2⟩
      · simp only [sparseWfFrom, Bool.and_eq_true, decide_eq_true_eq]
        exact ⟨w.1, ih _ (by omega) w.2⟩

/-- A write keeps the canonical form. -/
@[simp] theorem sparseSet_wf (d : Nat → α) (l : Sparse α) (a : Nat) (x : α) (w : sparseWf d l = true) :
    sparseWf d (sparseSet d l a x) = true := by
  unfold sparseSet sparseWf
  split
  · exact sparseDrop_wfFrom d a l 0 w
  · rename_i h; exact sparsePut_wfFrom d h l 0 (Nat.zero_le _) w

/-- An empty store is canonical. -/
@[simp] theorem sparseWf_nil (d : Nat → α) : sparseWf d ([] : Sparse α) = true := rfl

/-! ### Stored fields -/

/-- A field read after a write, at any address. -/
theorem State.getF_setF (s : State) (a b : Nat) (v : Word) : (s.setF a v).getF b = if b = a then v else s.getF b :=
  sparseGet_sparseSet resetValue s.fields a b v

@[simp] theorem State.getF_setF_self (s : State) (a : Nat) (v : Word) : (s.setF a v).getF a = v := by
  simp [State.getF_setF]

theorem State.getF_setF_of_ne (s : State) {a b : Nat} (h : b ≠ a) (v : Word) : (s.setF a v).getF b = s.getF b := by
  simp [State.getF_setF, h]

/-- A saturating count reads one step further on. -/
@[simp] theorem State.getN_count16_self (s : State) (a : Nat) : (s.count16 a).getN a = min 65535 (s.getN a + 1) := by
  have h : min 65535 (s.getN a + 1) < 2 ^ 32 := by omega
  simp [State.count16, State.countSat, State.setN, State.getN, BitVec.toNat_ofNat]

/-- A count leaves every other field alone. -/
theorem State.getF_count16_of_ne (s : State) {a b : Nat} (h : b ≠ a) : (s.count16 a).getF b = s.getF b :=
  State.getF_setF_of_ne s h _

end Sys2Proof.Machine
end

