-- ==== Sys2Proof/Laws/Writes.lean ====
section
/-! SUPPORT. What each command that writes a field of its own does where its unit takes the write: one equation per command. -/

namespace Sys2Proof.Machine

/-- Only lane counts, lane rates and SER.ENABLE can widen a strap choice. -/
theorem State.widens_none {s : State} {a : Nat} {v : Word}
    (ha : ∀ p : PortId, a ≠ Fld.csiLanes p ∧ a ≠ Fld.csiRateMbps p) (hb : a ≠ Fld.serEnable) : s.widens a v = none := by
  unfold State.widens
  have h : (List.finRange 4).find?
      (fun (p : PortId) => decide (a = Fld.csiLanes p) || decide (a = Fld.csiRateMbps p)) = none := by
    rw [List.find?_eq_none]; intro p _; simp [ha p]
  rw [h]; simp [hb]

/-- An assigned field of the given width that no apply set names is written at once. -/
theorem State.arrive_now {s : State} {t : TrowelId} {a n : Nat} {v : Word} (h : Takes s t a) (ha : a < 65536)
    (hr : (fieldRow a).map (·.width) = some n) (hn : setOf a = none)
    (hw : s.widens a (v &&& BitVec.ofNat 32 (2 ^ n - 1)) = none) :
    s.arrive t (BitVec.ofNat 16 a) v = (s.applyNow t a (v &&& BitVec.ofNat 32 (2 ^ n - 1))).applyStopped := by
  rw [State.arrive_of_takes h ha]
  cases hf : fieldRow a with
  | none => simp [hf] at hr
  | some r =>
    simp only [hf, Option.map_some, Option.some.injEq] at hr
    have hc : cutToWidth r v = v &&& BitVec.ofNat 32 (2 ^ n - 1) := by rw [cutToWidth, hr]
    rw [State.accept_now hf (hc ▸ hw) h.on (.inr hn), hc]

/-- A write by `sceneDoneWrite`, taken by its unit. -/
theorem exec_sceneDoneWrite_taken {s : State} {t : TrowelId} {v : Word} (h : Takes s t Fld.sysSceneDone) :
    exec (.sceneDoneWrite t v) s = .next (s.sysNow t Fld.sysSceneDone (v &&& 15)).applyStopped := by
  have e := State.arrive_now (n := 4) (v := v) h (by decide)
    (by decide)
    (by decide)
    (State.widens_none (by decide) (by decide))
  have u : unitOf Fld.sysSceneDone = .sys := by decide
  rw [show exec (.sceneDoneWrite t v) s = .next (s.arrive t (BitVec.ofNat 16 Fld.sysSceneDone) v) from rfl, e]
  simp only [State.applyNow, u]; rfl

/-- A write by `sleepGoWrite`, taken by its unit. -/
theorem exec_sleepGoWrite_taken {s : State} {t : TrowelId} {v : Word} (h : Takes s t Fld.sysSleepGo) :
    exec (.sleepGoWrite t v) s = .next (s.sysNow t Fld.sysSleepGo (v &&& 1)).applyStopped := by
  have e := State.arrive_now (n := 1) (v := v) h (by decide)
    (by decide)
    (by decide)
    (State.widens_none (by decide) (by decide))
  have u : unitOf Fld.sysSleepGo = .sys := by decide
  rw [show exec (.sleepGoWrite t v) s = .next (s.arrive t (BitVec.ofNat 16 Fld.sysSleepGo) v) from rfl, e]
  simp only [State.applyNow, u]; rfl

/-- A write by `sleepAckWrite`, taken by its unit. -/
theorem exec_sleepAckWrite_taken {s : State} {t : TrowelId} {v : Word} (h : Takes s t Fld.sysSleepAck) :
    exec (.sleepAckWrite t v) s = .next (s.sysNow t Fld.sysSleepAck (v &&& 15)).applyStopped := by
  have e := State.arrive_now (n := 4) (v := v) h (by decide)
    (by decide)
    (by decide)
    (State.widens_none (by decide) (by decide))
  have u : unitOf Fld.sysSleepAck = .sys := by decide
  rw [show exec (.sleepAckWrite t v) s = .next (s.arrive t (BitVec.ofNat 16 Fld.sysSleepAck) v) from rfl, e]
  simp only [State.applyNow, u]; rfl

/-- A write by `lightEnableWrite`, taken by its unit. -/
theorem exec_lightEnableWrite_taken {s : State} {t : TrowelId} {v : Word} (h : Takes s t Fld.lightEnable) :
    exec (.lightEnableWrite t v) s = .next (s.lightNow Fld.lightEnable (v &&& 1)).applyStopped := by
  have e := State.arrive_now (n := 1) (v := v) h (by decide)
    (by decide)
    (by decide)
    (State.widens_none (by decide) (by decide))
  have u : unitOf Fld.lightEnable = .light := by decide
  rw [show exec (.lightEnableWrite t v) s = .next (s.arrive t (BitVec.ofNat 16 Fld.lightEnable) v) from rfl, e]
  simp only [State.applyNow, u]; rfl

/-- A write by `boardTempWrite`, taken by its unit. -/
theorem exec_boardTempWrite_taken {s : State} {t : TrowelId} {v : Word} (h : Takes s t Fld.lightBoardTemp) :
    exec (.boardTempWrite t v) s = .next (s.lightNow Fld.lightBoardTemp (v &&& 65535)).applyStopped := by
  have e := State.arrive_now (n := 16) (v := v) h (by decide)
    (by decide)
    (by decide)
    (State.widens_none (by decide) (by decide))
  have u : unitOf Fld.lightBoardTemp = .light := by decide
  rw [show exec (.boardTempWrite t v) s = .next (s.arrive t (BitVec.ofNat 16 Fld.lightBoardTemp) v) from rfl, e]
  simp only [State.applyNow, u]; rfl

/-- A write by `locEnableWrite`, taken by its unit. -/
theorem exec_locEnableWrite_taken {s : State} {t : TrowelId} {v : Word} (h : Takes s t Fld.locEnable) :
    exec (.locEnableWrite t v) s = .next (s.setF Fld.locEnable (v &&& 1)).applyStopped := by
  have e := State.arrive_now (n := 1) (v := v) h (by decide)
    (by decide)
    (by decide)
    (State.widens_none (by decide) (by decide))
  have u : unitOf Fld.locEnable = .loc := by decide
  rw [show exec (.locEnableWrite t v) s = .next (s.arrive t (BitVec.ofNat 16 Fld.locEnable) v) from rfl, e]
  simp only [State.applyNow, u]; rfl

/-- A write by `decEnableWrite`, taken by its unit. -/
theorem exec_decEnableWrite_taken {s : State} {t : TrowelId} {v : Word} (h : Takes s t Fld.decEnable) :
    exec (.decEnableWrite t v) s = .next (s.decNow Fld.decEnable (v &&& 1)).applyStopped := by
  have e := State.arrive_now (n := 1) (v := v) h (by decide)
    (by decide)
    (by decide)
    (State.widens_none (by decide) (by decide))
  have u : unitOf Fld.decEnable = .dec := by decide
  rw [show exec (.decEnableWrite t v) s = .next (s.arrive t (BitVec.ofNat 16 Fld.decEnable) v) from rfl, e]
  simp only [State.applyNow, u]; rfl

/-- A write by `vsDecide`, taken by its unit. -/
theorem exec_vsDecide_taken {s : State} {t : TrowelId} {v : Word} (h : Takes s t Fld.vsDecide) :
    exec (.vsDecide t v) s = .next (s.vsNow Fld.vsDecide (v &&& 65535)).applyStopped := by
  have e := State.arrive_now (n := 16) (v := v) h (by decide)
    (by decide)
    (by decide)
    (State.widens_none (by decide) (by decide))
  have u : unitOf Fld.vsDecide = .vs := by decide
  rw [show exec (.vsDecide t v) s = .next (s.arrive t (BitVec.ofNat 16 Fld.vsDecide) v) from rfl, e]
  simp only [State.applyNow, u]; rfl

/-- A write by `vsPeekAddrWrite`, taken by its unit. -/
theorem exec_vsPeekAddrWrite_taken {s : State} {t : TrowelId} {v : Word} (h : Takes s t Fld.vsPeekAddr) :
    exec (.vsPeekAddrWrite t v) s = .next (s.vsNow Fld.vsPeekAddr (v &&& 16383)).applyStopped := by
  have e := State.arrive_now (n := 14) (v := v) h (by decide)
    (by decide)
    (by decide)
    (State.widens_none (by decide) (by decide))
  have u : unitOf Fld.vsPeekAddr = .vs := by decide
  rw [show exec (.vsPeekAddrWrite t v) s = .next (s.arrive t (BitVec.ofNat 16 Fld.vsPeekAddr) v) from rfl, e]
  simp only [State.applyNow, u]; rfl

/-- A write by `hkSend`, taken by its unit. -/
theorem exec_hkSend_taken {s : State} {t : TrowelId} {v : Word} (h : Takes s t Fld.recHkSend) :
    exec (.hkSend t v) s = .next (s.recNow Fld.recHkSend (v &&& 63)).applyStopped := by
  have e := State.arrive_now (n := 6) (v := v) h (by decide)
    (by decide)
    (by decide)
    (State.widens_none (by decide) (by decide))
  have u : unitOf Fld.recHkSend = .recf := by decide
  rw [show exec (.hkSend t v) s = .next (s.arrive t (BitVec.ofNat 16 Fld.recHkSend) v) from rfl, e]
  simp only [State.applyNow, u]; rfl

/-- A write by `usbEnableWrite`, taken by its unit. -/
theorem exec_usbEnableWrite_taken {s : State} {t : TrowelId} {v : Word} (h : Takes s t Fld.usbEnable) :
    exec (.usbEnableWrite t v) s = .next (s.usbNow Fld.usbEnable (v &&& 1)).applyStopped := by
  have e := State.arrive_now (n := 1) (v := v) h (by decide)
    (by decide)
    (by decide)
    (State.widens_none (by decide) (by decide))
  have u : unitOf Fld.usbEnable = .usb := by decide
  rw [show exec (.usbEnableWrite t v) s = .next (s.arrive t (BitVec.ofNat 16 Fld.usbEnable) v) from rfl, e]
  simp only [State.applyNow, u]; rfl

/-- A write by `reqNoteAck`, taken by its unit. -/
theorem exec_reqNoteAck_taken {s : State} {t : TrowelId} {v : Word} (h : Takes s t Fld.usbReqNoteAck) :
    exec (.reqNoteAck t v) s = .next (s.usbNow Fld.usbReqNoteAck (v &&& 1)).applyStopped := by
  have e := State.arrive_now (n := 1) (v := v) h (by decide)
    (by decide)
    (by decide)
    (State.widens_none (by decide) (by decide))
  have u : unitOf Fld.usbReqNoteAck = .usb := by decide
  rw [show exec (.reqNoteAck t v) s = .next (s.arrive t (BitVec.ofNat 16 Fld.usbReqNoteAck) v) from rfl, e]
  simp only [State.applyNow, u]; rfl

/-- A write by `serReqNoteAck`, taken by its unit. -/
theorem exec_serReqNoteAck_taken {s : State} {t : TrowelId} {v : Word} (h : Takes s t Fld.serReqNoteAck) :
    exec (.serReqNoteAck t v) s = .next (s.serNow Fld.serReqNoteAck (v &&& 1)).applyStopped := by
  have e := State.arrive_now (n := 1) (v := v) h (by decide)
    (by decide)
    (by decide)
    (State.widens_none (by decide) (by decide))
  have u : unitOf Fld.serReqNoteAck = .serQ := by decide
  rw [show exec (.serReqNoteAck t v) s = .next (s.arrive t (BitVec.ofNat 16 Fld.serReqNoteAck) v) from rfl, e]
  simp only [State.applyNow, u]; rfl

/-- A write by `pairEnableWrite`, taken by its unit. -/
theorem exec_pairEnableWrite_taken {s : State} {t : TrowelId} {v : Word} (h : Takes s t Fld.pairEnable) :
    exec (.pairEnableWrite t v) s = .next (s.pairNow Fld.pairEnable (v &&& 1)).applyStopped := by
  have e := State.arrive_now (n := 1) (v := v) h (by decide)
    (by decide)
    (by decide)
    (State.widens_none (by decide) (by decide))
  have u : unitOf Fld.pairEnable = .pair := by decide
  rw [show exec (.pairEnableWrite t v) s = .next (s.arrive t (BitVec.ofNat 16 Fld.pairEnable) v) from rfl, e]
  simp only [State.applyNow, u]; rfl

/-- A write by `pairTxMsgWrite`, taken by its unit. -/
theorem exec_pairTxMsgWrite_taken {s : State} {t : TrowelId} {v : Word} (h : Takes s t Fld.pairTxMsg) :
    exec (.pairTxMsgWrite t v) s = .next (s.pairNow Fld.pairTxMsg v).applyStopped := by
  have e := State.arrive_now (n := 32) (v := v) h (by decide)
    (by decide)
    (by decide)
    (State.widens_none (by decide) (by decide))
  have u : unitOf Fld.pairTxMsg = .pair := by decide
  rw [show exec (.pairTxMsgWrite t v) s = .next (s.arrive t (BitVec.ofNat 16 Fld.pairTxMsg) v) from rfl, e]
  rw [show v &&& BitVec.ofNat 32 (2 ^ 32 - 1) = v from BitVec.and_allOnes]
  simp only [State.applyNow, u]

/-- A write by `pairRxAckWrite`, taken by its unit. -/
theorem exec_pairRxAckWrite_taken {s : State} {t : TrowelId} {v : Word} (h : Takes s t Fld.pairRxAck) :
    exec (.pairRxAckWrite t v) s = .next (s.pairNow Fld.pairRxAck (v &&& 1)).applyStopped := by
  have e := State.arrive_now (n := 1) (v := v) h (by decide)
    (by decide)
    (by decide)
    (State.widens_none (by decide) (by decide))
  have u : unitOf Fld.pairRxAck = .pair := by decide
  rw [show exec (.pairRxAckWrite t v) s = .next (s.arrive t (BitVec.ofNat 16 Fld.pairRxAck) v) from rfl, e]
  simp only [State.applyNow, u]; rfl

/-- A write by `morTxMsgWrite`, taken by its unit. -/
theorem exec_morTxMsgWrite_taken {s : State} {t : TrowelId} {v : Word} (h : Takes s t Fld.morTxMsg) :
    exec (.morTxMsgWrite t v) s = .next (s.morNow Fld.morTxMsg v).applyStopped := by
  have e := State.arrive_now (n := 32) (v := v) h (by decide)
    (by decide)
    (by decide)
    (State.widens_none (by decide) (by decide))
  have u : unitOf Fld.morTxMsg = .mor := by decide
  rw [show exec (.morTxMsgWrite t v) s = .next (s.arrive t (BitVec.ofNat 16 Fld.morTxMsg) v) from rfl, e]
  rw [show v &&& BitVec.ofNat 32 (2 ^ 32 - 1) = v from BitVec.and_allOnes]
  simp only [State.applyNow, u]

/-- A write by `morRxAckWrite`, taken by its unit. -/
theorem exec_morRxAckWrite_taken {s : State} {t : TrowelId} {v : Word} (h : Takes s t Fld.morRxAck) :
    exec (.morRxAckWrite t v) s = .next (s.morNow Fld.morRxAck (v &&& 1)).applyStopped := by
  have e := State.arrive_now (n := 1) (v := v) h (by decide)
    (by decide)
    (by decide)
    (State.widens_none (by decide) (by decide))
  have u : unitOf Fld.morRxAck = .mor := by decide
  rw [show exec (.morRxAckWrite t v) s = .next (s.arrive t (BitVec.ofNat 16 Fld.morRxAck) v) from rfl, e]
  simp only [State.applyNow, u]; rfl

/-- A write by `morEnableWrite`, taken by its unit. -/
theorem exec_morEnableWrite_taken {s : State} {t : TrowelId} {v : Word} {m : MorId} (h : Takes s t (Fld.morEnable m)) :
    exec (.morEnableWrite t m v) s = .next (s.morNow (Fld.morEnable m) (v &&& 1)).applyStopped := by
  have e := State.arrive_now (n := 1) (v := v) h ((by decide : ∀ (m : MorId), Fld.morEnable m < 65536) m)
    ((by decide : ∀ (m : MorId), (fieldRow (Fld.morEnable m)).map (·.width) = some 1) m)
    ((by decide : ∀ (m : MorId), setOf (Fld.morEnable m) = none) m)
    (State.widens_none ((by decide : ∀ (m : MorId), ∀ q : PortId, Fld.morEnable m ≠ Fld.csiLanes q ∧ Fld.morEnable m ≠ Fld.csiRateMbps q) m) ((by decide : ∀ (m : MorId), Fld.morEnable m ≠ Fld.serEnable) m))
  have u : unitOf (Fld.morEnable m) = .mor := ((by decide : ∀ (m : MorId), unitOf (Fld.morEnable m) = .mor) m)
  rw [show exec (.morEnableWrite t m v) s = .next (s.arrive t (BitVec.ofNat 16 (Fld.morEnable m)) v) from rfl, e]
  simp only [State.applyNow, u]; rfl

/-- A write by `ctxEnableWrite`, taken by its unit. -/
theorem exec_ctxEnableWrite_taken {s : State} {t : TrowelId} {v : Word} {k : CtxId} (h : Takes s t (Fld.ctxEnable k)) :
    exec (.ctxEnableWrite t k v) s = .next (s.ctxNow (Fld.ctxEnable k) (v &&& 1)).applyStopped := by
  have e := State.arrive_now (n := 1) (v := v) h ((by decide : ∀ (k : CtxId), Fld.ctxEnable k < 65536) k)
    ((by decide : ∀ (k : CtxId), (fieldRow (Fld.ctxEnable k)).map (·.width) = some 1) k)
    ((by decide : ∀ (k : CtxId), setOf (Fld.ctxEnable k) = none) k)
    (State.widens_none ((by decide : ∀ (k : CtxId), ∀ q : PortId, Fld.ctxEnable k ≠ Fld.csiLanes q ∧ Fld.ctxEnable k ≠ Fld.csiRateMbps q) k) ((by decide : ∀ (k : CtxId), Fld.ctxEnable k ≠ Fld.serEnable) k))
  have u : unitOf (Fld.ctxEnable k) = .ctx := ((by decide : ∀ (k : CtxId), unitOf (Fld.ctxEnable k) = .ctx) k)
  rw [show exec (.ctxEnableWrite t k v) s = .next (s.arrive t (BitVec.ofNat 16 (Fld.ctxEnable k)) v) from rfl, e]
  simp only [State.applyNow, u]; rfl

/-- A write by `csiEnableWrite`, taken by its unit. -/
theorem exec_csiEnableWrite_taken {s : State} {t : TrowelId} {v : Word} {p : PortId} (h : Takes s t (Fld.csiEnable p)) :
    exec (.csiEnableWrite t p v) s = .next (s.csiNow (Fld.csiEnable p) (v &&& 1)).applyStopped := by
  have e := State.arrive_now (n := 1) (v := v) h ((by decide : ∀ (p : PortId), Fld.csiEnable p < 65536) p)
    ((by decide : ∀ (p : PortId), (fieldRow (Fld.csiEnable p)).map (·.width) = some 1) p)
    ((by decide : ∀ (p : PortId), setOf (Fld.csiEnable p) = none) p)
    (State.widens_none ((by decide : ∀ (p : PortId), ∀ q : PortId, Fld.csiEnable p ≠ Fld.csiLanes q ∧ Fld.csiEnable p ≠ Fld.csiRateMbps q) p) ((by decide : ∀ (p : PortId), Fld.csiEnable p ≠ Fld.serEnable) p))
  have u : unitOf (Fld.csiEnable p) = .csi := ((by decide : ∀ (p : PortId), unitOf (Fld.csiEnable p) = .csi) p)
  rw [show exec (.csiEnableWrite t p v) s = .next (s.arrive t (BitVec.ofNat 16 (Fld.csiEnable p)) v) from rfl, e]
  simp only [State.applyNow, u]; rfl

/-- A write by `vcEnWrite`, taken by its unit. -/
theorem exec_vcEnWrite_taken {s : State} {t : TrowelId} {v : Word} {p : PortId} (h : Takes s t (Fld.csiVcEn p)) :
    exec (.vcEnWrite t p v) s = .next (s.csiNow (Fld.csiVcEn p) (v &&& 65535)).applyStopped := by
  have e := State.arrive_now (n := 16) (v := v) h ((by decide : ∀ (p : PortId), Fld.csiVcEn p < 65536) p)
    ((by decide : ∀ (p : PortId), (fieldRow (Fld.csiVcEn p)).map (·.width) = some 16) p)
    ((by decide : ∀ (p : PortId), setOf (Fld.csiVcEn p) = none) p)
    (State.widens_none ((by decide : ∀ (p : PortId), ∀ q : PortId, Fld.csiVcEn p ≠ Fld.csiLanes q ∧ Fld.csiVcEn p ≠ Fld.csiRateMbps q) p) ((by decide : ∀ (p : PortId), Fld.csiVcEn p ≠ Fld.serEnable) p))
  have u : unitOf (Fld.csiVcEn p) = .csi := ((by decide : ∀ (p : PortId), unitOf (Fld.csiVcEn p) = .csi) p)
  rw [show exec (.vcEnWrite t p v) s = .next (s.arrive t (BitVec.ofNat 16 (Fld.csiVcEn p)) v) from rfl, e]
  simp only [State.applyNow, u]; rfl

/-- A write by `adcEnableWrite`, taken by its unit. -/
theorem exec_adcEnableWrite_taken {s : State} {t : TrowelId} {v : Word} {c : Conv} (h : Takes s t (Fld.adcEnable c)) :
    exec (.adcEnableWrite t c v) s = .next (s.adcNow c 0 (v &&& 1)).applyStopped := by
  have e := State.arrive_now (n := 1) (v := v) h (by cases c <;> decide)
    (by cases c <;> decide)
    (by cases c <;> decide)
    (State.widens_none (by cases c <;> decide) (by cases c <;> decide))
  rw [show exec (.adcEnableWrite t c v) s = .next (s.arrive t (BitVec.ofNat 16 (Fld.adcEnable c)) v) from rfl, e]
  cases c <;> rfl

/-- A write by `refEnWrite`, taken by its unit. -/
theorem exec_refEnWrite_taken {s : State} {t : TrowelId} {v : Word} {c : Conv} (h : Takes s t (Fld.adcRefEn c)) :
    exec (.refEnWrite t c v) s = .next (s.adcNow c 1 (v &&& 1)).applyStopped := by
  have e := State.arrive_now (n := 1) (v := v) h (by cases c <;> decide)
    (by cases c <;> decide)
    (by cases c <;> decide)
    (State.widens_none (by cases c <;> decide) (by cases c <;> decide))
  rw [show exec (.refEnWrite t c v) s = .next (s.arrive t (BitVec.ofNat 16 (Fld.adcRefEn c)) v) from rfl, e]
  cases c <;> rfl

/-- A write by `seqGo`, taken by its unit. -/
theorem exec_seqGo_taken {s : State} {t : TrowelId} {v : Word} {c : Conv} (h : Takes s t (Fld.adcSeqGo c)) :
    exec (.seqGo t c v) s = .next (s.adcNow c 4 (v &&& 1)).applyStopped := by
  have e := State.arrive_now (n := 1) (v := v) h (by cases c <;> decide)
    (by cases c <;> decide)
    (by cases c <;> decide)
    (State.widens_none (by cases c <;> decide) (by cases c <;> decide))
  rw [show exec (.seqGo t c v) s = .next (s.arrive t (BitVec.ofNat 16 (Fld.adcSeqGo c)) v) from rfl, e]
  cases c <;> rfl

/-- A write by `calGo`, taken by its unit. -/
theorem exec_calGo_taken {s : State} {t : TrowelId} {v : Word} {c : Conv} (h : Takes s t (Fld.adcCalGo c)) :
    exec (.calGo t c v) s = .next (s.adcNow c 5 (v &&& 1)).applyStopped := by
  have e := State.arrive_now (n := 1) (v := v) h (by cases c <;> decide)
    (by cases c <;> decide)
    (by cases c <;> decide)
    (State.widens_none (by cases c <;> decide) (by cases c <;> decide))
  rw [show exec (.calGo t c v) s = .next (s.arrive t (BitVec.ofNat 16 (Fld.adcCalGo c)) v) from rfl, e]
  cases c <;> rfl

/-- A write by `accSnap`, taken by its unit. -/
theorem exec_accSnap_taken {s : State} {t : TrowelId} {v : Word} {c : Conv} (h : Takes s t (Fld.adcAccSnap c)) :
    exec (.accSnap t c v) s = .next (s.adcNow c 0x7 (v &&& 31)).applyStopped := by
  have e := State.arrive_now (n := 5) (v := v) h (by cases c <;> decide)
    (by cases c <;> decide)
    (by cases c <;> decide)
    (State.widens_none (by cases c <;> decide) (by cases c <;> decide))
  rw [show exec (.accSnap t c v) s = .next (s.arrive t (BitVec.ofNat 16 (Fld.adcAccSnap c)) v) from rfl, e]
  cases c <;> rfl

/-- A write by `accClear`, taken by its unit. -/
theorem exec_accClear_taken {s : State} {t : TrowelId} {v : Word} {c : Conv} (h : Takes s t (Fld.adcAccClear c)) :
    exec (.accClear t c v) s = .next (s.adcNow c 0x8 (v &&& 65535)).applyStopped := by
  have e := State.arrive_now (n := 16) (v := v) h (by cases c <;> decide)
    (by cases c <;> decide)
    (by cases c <;> decide)
    (State.widens_none (by cases c <;> decide) (by cases c <;> decide))
  rw [show exec (.accClear t c v) s = .next (s.arrive t (BitVec.ofNat 16 (Fld.adcAccClear c)) v) from rfl, e]
  cases c <;> rfl

/-- A write by `routeWrite`, taken by its unit. -/
theorem exec_routeWrite_taken {s : State} {t : TrowelId} {v : Word} {n : BitVec 6} (h : Takes s t (Fld.morRoute n.toNat)) :
    exec (.routeWrite t n v) s = .next (s.morNow (Fld.morRoute n.toNat) (v &&& 63)).applyStopped := by
  have e := State.arrive_now (n := 6) (v := v) h ((by decide : ∀ (n : BitVec 6), Fld.morRoute n.toNat < 65536) n)
    ((by decide : ∀ (n : BitVec 6), (fieldRow (Fld.morRoute n.toNat)).map (·.width) = some 6) n)
    ((by decide : ∀ (n : BitVec 6), setOf (Fld.morRoute n.toNat) = none) n)
    (State.widens_none ((by decide : ∀ (n : BitVec 6), ∀ q : PortId, Fld.morRoute n.toNat ≠ Fld.csiLanes q ∧ Fld.morRoute n.toNat ≠ Fld.csiRateMbps q) n) ((by decide : ∀ (n : BitVec 6), Fld.morRoute n.toNat ≠ Fld.serEnable) n))
  have u : unitOf (Fld.morRoute n.toNat) = .mor := ((by decide : ∀ (n : BitVec 6), unitOf (Fld.morRoute n.toNat) = .mor) n)
  rw [show exec (.routeWrite t n v) s = .next (s.arrive t (BitVec.ofNat 16 (Fld.morRoute n.toNat)) v) from rfl, e]
  simp only [State.applyNow, u]; rfl

end Sys2Proof.Machine
end

