-- ==== Sys2Proof/Tests/Slice0.lean ====
section
/-! SUPPORT. Tests: ill-formed commands refused, instruction words written out from the spec's encoding, the spec's worked
examples, and a witness of every hypothesis of the obligations. Expected results are the spec's, not the model's. -/

set_option maxRecDepth 10000
set_option Elab.async false

namespace Sys2Proof.Tests

open Sys2Proof.Machine

/-! ### Sample states -/

/-- A running engine: booted, trowels started at program counter 7. -/
def runState : State :=
  { State.reset with
    phase := .running
    pins := { State.reset.pins with pwrOk := true }
    boot := { State.reset.boot with started := true, neighDone := true, fabricDone := true, pairDone := true }
    sys := { State.reset.sys with
      enabled := 0x7FFF
      straps := [1, 0, 1, 2, 1, 8, 8, 8, 8, 3, 1, 0, 1, 4, 5, 0, 0, 0, 0, 0] }
    trowels := State.reset.trowels.map fun x => { x with status := .run, pc := 7 } }

/-- `runState` with fields written. -/
def runWith (l : List (Nat × Word)) : State := l.foldl (fun s e => s.setF e.1 e.2) runState

/-- `runState` with trowel 0 changed. -/
def runT (f : Trowel → Trowel) : State := runState.updT 0 f

/-- A frame of context 2 on port 0, virtual channel 1. -/
def sFrame : Frame :=
  { id := 4, port := 0, vc := 1, ctx := 2, dt := 0x2A, num := 5, ts := 77, fidx := none, damaged := false
    truncated := false, overloaded := false, dropping := false, embOn := true, emb := [], embOvf := false, width := none, lines := 0
    started := false, closed := false, y := 0, blk := [], luma := [], bits := [], rx0 := 0, rx1 := 0, ry0 := 0, ry1 := 0
    tapOn := false, tapStarted := false, tapLines := 0, rows := 0, slots := [], full := false, symOpt := 0, eraseConf := 32
    candMax := 64, symEn := 127, pol := 0, minContrast := 20, modMin := 0, modMax := 0, evidence := [], found := []
    noticed := false, passed := false, cands := 0, dropCand := 0, syms := 0, gragas := 0, matches_ := 0
    stitched := 0, failed := 0, dropRes := 0, jxSent := 0 }

/-- A candidate of frame 4. -/
def sCand : Candidate :=
  { n := 9, fid := 4, ts := 77, info := ⟨1, [(0, 0), (160, 0), (160, 160), (0, 160)], 32, false⟩, sender := none
    waits := false, joint := false, msgs := [] }

/-- Frame 4 with its start noticed and ten lines of ten pixels, dark at the left, in whose one tile the finder signature of
Data Matrix has been found. -/
def lFrame : Frame :=
  { sFrame with
    noticed := true, started := true, fidx := some 1, rx1 := 9, ry1 := 9, rows := 1, slots := [5]
    luma := List.replicate 10 (List.replicate 5 0 ++ List.replicate 5 200), evidence := [[⟨[], 0, [], [], 1⟩]] }

/-- A Data Matrix grid over the outline of `sCand`, read as the bytes A and B, with one check codeword. -/
def sRead : GridRead :=
  { cols := 10, rows := 10, corners := sCand.info.corners, orient := 0, tilt := 0, module := 16, bits := 8
    blocks := [⟨[List.range 8], [0], 1⟩]
    tokens := [.byte 65, .byte 66], rune := false }

/-- A result in the result queue. -/
def sResult : Result :=
  { tag := 3, ctx := 2, fidx := 1, ts := 77, sym := 1, payload := [65, 66], corners := [], orient := 0, tilt := 0
    module := 16, contrast := 50, modulation := 50, corrected := 0, erasures := 0, mirrored := false, stitched := false
    gs1 := false, light := false, rune := false, match_ := false, cx := 0, cy := 0, radius := 0 }

/-- A notice of context 2. -/
def sNotice : Notice :=
  { tag := 3, ctx := 2, fidx := 1, ts := 77, damaged := false, truncated := false, overloaded := false, syms := 1, gragas := 0
    matches_ := 0, stitched := 0, failed := 0, dropCand := 0, dropRes := 0, jxSent := 0, emb := none, embOvf := false }

/-- A joint message of node 1. -/
def sJoint : JointMsg := ⟨1, 1, 0, 0, 77, [], []⟩

/-- The bytes of a housekeeping record with sequence number `n`. -/
def rec (n : Byte) : List Byte := [1, 0, 0, 0, n, 0, 0, 0, 1, 2, 3]

/-- A USB record queue with two records. -/
def qUsb : List QRec := [⟨rec 1, false⟩, ⟨rec 2, false⟩]

/-- Serial queue entries that have not been sent, and one whose bytes are fixed. -/
def eSer (n : Byte) : SerRec := ⟨rec n, false, false, none, false⟩
def eWire (n : Byte) : SerRec := ⟨rec n, false, false, some (rec n), false⟩

/-- A running engine of an attached and configured USB function with two records queued. -/
def uState (f : Usb → Usb) : State :=
  { runWith [(Fld.usbEnable, 1), (Fld.usbTapEn, 1)] with
    usb := f { State.reset.usb with attached := true, configured := true, speed := 2, vbus := true, queue := qUsb } }

/-- An engine whose serial line is on, at address 5, on a party line where `party` says so, with a serial state. -/
def lState (party : Bool) (f : Ser → Ser) : State :=
  { runWith [(Fld.serEnable, 1), (Fld.serAddr, 5)] with
    sys := { runState.sys with straps := runState.sys.straps.set 10 (if party then 3 else 1) }
    ser := f { State.reset.ser with queue := [eSer 1, eSer 2] } }

/-- A recipe that sets nothing. -/
def sRecipe : Recipe :=
  { id := 7, rev := 2, crc := 0, sealedFlag := false, mandatory := 0, optional := 0, disable := 0, code := [], data := []
    init := [], scenes := [], watch := [], binning := none, homographies := [], rom := none }

/-- An engine in the boot, with the boot's progress changed. -/
def bootState (f : Boot → Boot) : State :=
  { State.reset with
    phase := .booting, pins := runState.pins, sys := { runState.sys with enabled := 0 }, boot := f State.reset.boot }

/-- An image with the required sections alone (R89): empty programs, nothing mandatory, scene 0 defined. -/
def sImage (flags : Byte) : List Byte :=
  let entry := fun (k o n : Nat) => leBytes 2 k ++ leBytes 2 0 ++ leBytes 4 o ++ leBytes 4 n
  let body := [0x45#8, 0x56#8, 0x52#8, 0x43#8, 1#8, 0#8, 6#8, 0#8] ++ leBytes 4 244 ++ leBytes 4 7 ++ leBytes 2 2
    ++ [flags, 0#8] ++ List.replicate 12 0#8
    ++ entry 0x0001 104 8 ++ entry 0x0010 104 0 ++ entry 0x0011 104 0 ++ entry 0x0012 104 0 ++ entry 0x0013 104 0
    ++ entry 0x0040 112 128 ++ List.replicate 8 0#8 ++ [1#8] ++ List.replicate 127 0#8
  body ++ leBytes 4 (crc32c body).toNat

/-- A seal block (R92) under the key and with the signature whose points are the neutral element: every message verifies. -/
def sSeal : List Byte :=
  [0x45#8, 0x56#8, 0x53#8, 0x47#8, 1#8, 0#8, 104#8, 0#8] ++ (1#8 :: List.replicate 31 0#8)
    ++ (1#8 :: List.replicate 31 0#8) ++ List.replicate 32 0#8

/-- The state after a command, the state itself where it gives none. -/
def after (c : Instr) (s : State) : State := match exec c s with | .next u => u | _ => s

/-- `Takes` as a check. -/
def takes (s : State) (t : TrowelId) (a : Nat) : Bool :=
  s.trowelsAwake && s.boot.started && !absentField s.identity.variant a && (s.refusal t a).isNone && !s.turnedOff a
    && (s.trowels[t]).wq.all (fun e => !(decide (e.unit = unitOf a)) || e.answer.isSome)

theorem takes_sound (s : State) (t : TrowelId) (a : Nat) (h : takes s t a = true) : Takes s t a := by
  simp only [takes, Bool.and_eq_true, Bool.not_eq_true', List.all_eq_true, Bool.or_eq_true] at h
  obtain ⟨⟨⟨⟨⟨h1, h2⟩, h3⟩, h4⟩, h5⟩, h6⟩ := h
  refine ⟨h1, h2, h3, by simpa using h4, h5, fun e he hu => ?_⟩
  rcases h6 e he with h | h
  · simp [hu] at h
  · exact h

/-! ### Well-formed commands: an ill-formed term for each check, which it refuses, and well-formed ones -/

theorem test_wf_strap_readings :
    (Instr.strapSample (List.replicate 20 (List.replicate 8 3))).wf = true ∧
    (Instr.strapSample (List.replicate 20 (List.replicate 4 3))).wf = false ∧
    (Instr.strapSample (List.replicate 19 (List.replicate 8 3))).wf = false ∧
    (Instr.strapSample (List.replicate 19 (List.replicate 8 3) ++ [[3]])).wf = false := by decide

theorem test_wf_otp :
    (Instr.otpLoad none).wf = true ∧ (Instr.otpLoad (some ⟨1, List.replicate 32 0⟩)).wf = true ∧
    (Instr.otpLoad (some ⟨1, List.replicate 31 0⟩)).wf = false := by decide

theorem test_wf_calibration :
    (Instr.selfCalibrationDone .b 20 [⟨0, 0⟩, ⟨0, 0⟩, ⟨0, 0⟩] none).wf = true ∧
    (Instr.selfCalibrationDone .a 20 [⟨0, 0⟩, ⟨0, 0⟩, ⟨0, 0⟩] none).wf = false ∧
    (Instr.selfCalibrationDone .a 20 [] (some 4)).wf = true ∧
    (Instr.selfCalibrationDone .a 20 [] (some 5)).wf = false := by decide

theorem test_wf_lamp_and_converter_readings :
    (Instr.faultSample 0 (List.replicate 16 1500000)).wf = true ∧
    (Instr.faultSample 0 (List.replicate 15 0)).wf = false ∧
    (Instr.faultSample 0 (List.replicate 16 1500001)).wf = false ∧
    (Instr.zeroCurrentCheck 0 1500000 0).wf = true ∧ (Instr.zeroCurrentCheck 0 1500001 0).wf = false ∧
    (Instr.conversionEnd .a 16383).wf = true ∧ (Instr.conversionEnd .a 16384).wf = false ∧
    (Instr.conversionEnd .b 4095).wf = true ∧ (Instr.conversionEnd .b 4096).wf = false := by decide

theorem test_wf_packets :
    (Instr.pixelPacket 0 ⟨0, 0x2A, [1, 2], false, false, false⟩).wf = true ∧
    (Instr.pixelPacket 0 ⟨0, 0x2A, List.replicate 65536 1, false, false, false⟩).wf = false ∧
    (Instr.embeddedPacket 0 ⟨0, 0x12, List.replicate 65536 1, false, false, false⟩).wf = false := by decide +kernel

theorem test_wf_candidates :
    (Instr.candidateArrival 4 0 sCand.info).wf = true ∧
    (Instr.candidateArrival 4 0 { sCand.info with corners := [(0, 0)] }).wf = false ∧
    (Instr.frameDescriptorInCore 0 80).wf = true ∧ (Instr.frameDescriptorInCore 0 79).wf = false ∧
    (Instr.frameDescriptorInCore 0 4500).wf = true ∧ (Instr.frameDescriptorInCore 0 4501).wf = false ∧
    (Instr.recipeLoadDone [[]]).wf = true := by decide

theorem test_wf_decode_outcomes :
    let c : List Pt := [(0, 0), (1, 0), (1, 1), (0, 1)]
    (Instr.decodeResolved 0 .failed [(storeWords - 1, .clean)]).wf = true ∧
    (Instr.decodeResolved 0 .failed [(storeWords, .clean)]).wf = false ∧
    (Instr.decodeResolved 0 (.grid sRead) []).wf = true ∧
    (Instr.decodeResolved 0 (.grid { sRead with corners := [] }) []).wf = false ∧
    (Instr.decodeResolved 0 (.grid { sRead with cols := 0 }) []).wf = false ∧
    (Instr.decodeResolved 0 (.grid { sRead with blocks := [⟨[[0, 99]], [1], 0⟩] }) []).wf = true ∧
    (Instr.decodeResolved 0 (.grid { sRead with blocks := [⟨[[0, 100]], [1], 0⟩] }) []).wf = false ∧
    (Instr.decodeResolved 0 (.grid { sRead with blocks := [⟨[[0, 3]], [], 0⟩] }) []).wf = false ∧
    (Instr.decodeResolved 0 (.grid { sRead with tokens := [.eci 999999] }) []).wf = true ∧
    (Instr.decodeResolved 0 (.grid { sRead with tokens := [.eci 1000000] }) []).wf = false ∧
    (Instr.decodeResolved 0 (.graga ⟨c, 0, 0, 16⟩) []).wf = true ∧
    (Instr.decodeResolved 0 (.graga ⟨[], 0, 0, 16⟩) []).wf = false := by decide +kernel

theorem test_wf_pair_messages :
    let h : HelloMsg := ⟨1, List.replicate 20 3, 0x60, 0xB1, 0, 0, 0, 0, 0, false⟩
    let m : LightMark :=
      ⟨0, 0, 0, 1000, 200, 60, false, false, false, List.replicate 8 0, List.replicate 8 0, 256, 20, false, [0, 0, 0, 0], 0, 0, 0, 0⟩
    let a : List AccumMark := List.replicate 16 ⟨0, 0, 0, 0, false, false⟩
    let x : SenseMark := ⟨a, a, [none], 0, true, 0⟩
    let y : Resync := ⟨[], [], [], [], 0, 0, m, x⟩
    (Instr.pairHello h).wf = true ∧ (Instr.pairHello { h with straps := [] }).wf = false ∧
    (Instr.pairDecision 0 0 (List.replicate 12 0)).wf = true ∧
    (Instr.pairDecision 0 0 (List.replicate 11 0)).wf = false ∧ (Instr.pairRecord [2, 1]).wf = false ∧
    (Instr.pairLightMark m).wf = true ∧ (Instr.pairLightMark { m with failed := [] }).wf = false ∧
    (Instr.pairSenseMark x).wf = true ∧ (Instr.pairSenseMark { x with accB := [] }).wf = false ∧
    (Instr.pairResyncEnd y).wf = true ∧ (Instr.pairResyncEnd { y with light := { m with armed := [] } }).wf = false ∧
    (Instr.pairFault 0 5).wf = true ∧ (Instr.pairFault 0 0).wf = false ∧ (Instr.pairFault 0 6).wf = false := by
  decide +kernel

theorem test_wf_link_frames :
    let m : MorMsg := ⟨6, false, false, 1, 2, 1, 1, 0, List.replicate 4096 0, 0⟩
    let a : Announce := ⟨1, none, false, false, 0, 0, [none, none, none, none], []⟩
    (Instr.linkFrame 0 0 (.msg m) true).wf = true ∧
    (Instr.linkFrame 0 0 (.msg { m with payload := 0 :: m.payload }) true).wf = false ∧
    (Instr.linkFrame 0 0 (.announce a) true).wf = true ∧
    (Instr.linkFrame 0 0 (.announce { a with peers := [] }) true).wf = false := by decide +kernel

/-! ### Instruction words, written out from Tables TW.8 to TW.11 -/

theorem test_word_three_registers :
    decodeTrowel 2 0b001001_1111_1110_1101_00000000000000 = some (.mul 2 15 14 13) ∧
    decodeTrowel 2 0b001110_0000_1110_1101_00000000000000 = some (.cmp 2 14 13) ∧
    decodeTrowel 2 0b001110_0001_1110_1101_00000000000000 = none ∧
    decodeTrowel 0 0b101101_0001_1010_1011_00000000000000 = some (.wait 0 1 10 11) := by decide

theorem test_word_immediates :
    decodeTrowel 0 0b010010_0011_0011_000000000000000001 = some (.addi 0 3 3 1) ∧
    decodeTrowel 0 0b011110_1010_0000000000000000111111 = some (.movi 0 10 0x3F) ∧
    decodeTrowel 0 0b011111_0001_0000_001000000000000000 = some (.movh 0 1 0x8000) ∧
    decodeTrowel 0 0b010110_0001_0010_000000000000011111 = some (.shli 0 1 2 31) ∧
    decodeTrowel 0 0b010110_0001_0010_000000000000100000 = none ∧
    decodeTrowel 0 0b011101_0001_0010_000000000000000000 = none := by decide

theorem test_word_memory_and_fields :
    decodeTrowel 1 0b100000_0011_1111_000000000000000101 = some (.ld 1 3 15 5) ∧
    decodeTrowel 1 0b100001_0011_1111_111111111111111111 = some (.st 1 3 15 0x3FFFF) ∧
    decodeTrowel 1 0b100110_0100_0000_000000000000001100 = some (.fld 1 4 0x000C) ∧
    decodeTrowel 1 0b101000_0101_0000_000000000000010000 = some (.fst 1 5 0x0010) := by decide

theorem test_word_control_and_system :
    decodeTrowel 3 0b100011_0000_0000_0000_00_111111111111 = some (.callCond 3 .al 0xFFF) ∧
    decodeTrowel 3 0b100100_0000_0000_0000_00000000000000 = some (.ret 3) ∧
    decodeTrowel 3 0b100101_0000_0100_0000_00000000000000 = some (.jr 3 4) ∧
    decodeTrowel 3 0b101010_0000_0000_0000_00000000000000 = some (.fsync 3) ∧
    decodeTrowel 3 0b101110_0000_0000_0000_00000000111111 = some (.evt 3 63) ∧
    decodeTrowel 3 0b110011_0000_0111_0000_00000000000000 = some (.mts 3 7 0) ∧
    decodeTrowel 3 0b110110_0000_0010_000000000100000001 = some (.log 3 2 0x0101) ∧
    decodeTrowel 3 0b111000_0000_0000_0000_00000000000000 = some (.nop 3) := by decide

/-! ### The spec's worked examples -/

/-- Cell 9 (spec/00): present word 0x7CD3, enabled word 0x7853. -/
theorem test_cell_9_enabled_word :
    let s : State := { State.reset with
      identity := { State.reset.identity with variant := .evr8460 }
      sys := { State.reset.sys with straps := [7, 2, 15, 2, 5, 8, 2, 2, 0, 3, 1, 15, 3, 4, 15, 15, 15, 15, 15, 2] } }
    presentWord .evr8460 = 0x7CD3 ∧ s.enabledWord { sRecipe with disable := 0x0080 } = 0x7853 := by decide +kernel

/-- Bay 3 (spec/03, spec/11): enabled word 0x7831. -/
theorem test_bay_3_enabled_word :
    let s : State := { State.reset with
      identity := { State.reset.identity with variant := .evr8480 }
      sys := { State.reset.sys with straps := [7, 2, 15, 0, 15, 8, 0, 0, 0, 15, 15, 15, 3, 4, 15, 15, 15, 15, 15, 2] } }
    s.enabledWord sRecipe = 0x7831 := by decide +kernel

/-- Frame 5330 and frame 7378 (spec/01, Table VP.8). -/
theorem test_verdict_words :
    verdictWord { sNotice with fidx := 5330, syms := 1, gragas := 1, matches_ := 1 } 2 = 0x911A ∧
    verdictWord { sNotice with fidx := 7378, syms := 0, truncated := true } 0 = 0xA003 ∧
    pendingWord 5330 = 0x4002 ∧ pendingWord 7378 = 0x4003 := by decide

theorem test_verdict_port_forms :
    [0x4002#16, 0x911A#16, 0x4003#16, 0xA003#16].map compactByte = [0x42, 0x9A, 0x43, 0xA3] ∧
    [0x4002#16, 0x911A#16, 0x4003#16, 0xA003#16].map evenOnes = [true, true, false, true] := by decide

/-- Channel West (spec/05): the board reads 80.0 °C. -/
theorem test_derate_code :
    (runWith [(Fld.lightTmaxC, 1680), (Fld.lightKneeC, 1120)]).derateOf 1280 = 182 := by decide +kernel

/-- Lamp L21 of Channel West, with and without the sensor-feedback trim. -/
theorem test_lamp_code :
    let l := [(Fld.lightLines, 3), (Fld.lightLamp 21, 8), (Fld.lightBin 21, 0x8800), (Fld.lightGrpMode 0, 1),
      (Fld.lightGrpSet 0, 2048), (Fld.lightGrpFb 0, 1), (Fld.lightTrim 0, 0x7E00)]
    let lit := fun (s : State) => { s with
      pins := { s.pins with ltEn := true }, light := { s.light with derateUsed := 182, groupMask := 1 } }
    (lit (runWith l)).lampCode 21 = 1522 ∧ (lit (runWith ((Fld.lightFbHold, 1) :: l))).lampCode 21 = 1547 := by
  decide +kernel

/-- Channel West (spec/06, step 14): slot 0 goes from 3200 to 3220 on the result 3280 of a raw 820. -/
theorem test_estimate :
    let s := runWith [(Fld.ambFilt, 2), (Fld.adcCorrGain .a 0, 0x8000), (Fld.adcEntry .a 0, 0x100000)]
    let s1 := { s with amb := { s.amb with est := s.amb.est.set 0 (some 3200), burst := [(0, 3280)] } }
    (s1.newEstimate).amb.est[0] = some 3220 := by decide +kernel

/-- Cell 9 (spec/07): frame numbers 0xFFFF and then 0x0001 in mode 1. -/
theorem test_frame_index :
    let a := Ctx.index ⟨0, false, 0, 0, false⟩ true 0xFFFF
    let b := Ctx.index a.2 true 0x0001
    a.1 = 0x0000FFFF ∧ b.1 = 0x00010001 ∧ epochOf b.1 = 0 := by decide

/-- One pixel through k0 of Cell 9 (Table PP.6). -/
theorem test_pixel_chain :
    let tone : List Nat := (List.replicate 33 0).set 11 47104 |>.set 12 49152
    let c : PixelSet := ⟨0x2B, 1, true, [4096, 4096, 4096, 4096], [0x1800, 0x1000, 0x1C00],
      [0x1400, -0x400, 0, -0x200, 0x1400, -0x200, 0, -0x400, 0x1400], tone, true, false, 0, 12, 0, 0⟩
    [[300 * 64], [420 * 64], [260 * 64]].map (c.black 0 0) = [[15104], [22784], [12544]] ∧
    c.balance [15104, 22784, 12544] = [22624, 22904, 21744] ∧
    c.yOf [22624, 22904, 21744] = 22688 ∧ c.toneOf 22688 = 47264 ∧
    c.luma8 [22624, 22904, 21744] = 184 := by decide +kernel

/-- Graga codewords (spec/09): ID 1 in G15 and G24, ID 517 in G15. -/
theorem test_graga_ids :
    let w := fun (n x : Nat) => (List.range n).map fun k => x.testBit (n - 1 - k)
    gragaId 6 (w 15 (1 * 16 + 0b0011)) 0 false = some 1 ∧
    gragaId 7 (w 24 (1 * 64 + 0b000011)) 0 false = some 1 ∧
    gragaId 6 ((List.range 15).map [1, 8, 10, 13].contains) 0 false = some 517 ∧
    gragaId 6 ((List.range 15).map [1, 8, 10].contains) 0 false = none := by decide +kernel

/-- The record of frame 5330 (spec/11): header bytes and length. -/
theorem test_record_header :
    let s : State := { State.reset with
      identity := { State.reset.identity with variant := .evr8480, stepping := .b1 }
      sys := { State.reset.sys with enabled := 0x7831 } }
    let n : Notice := { sNotice with ctx := 0, fidx := 5330, ts := 0x00000012A05F3C40, gragas := 1, matches_ := 1 }
    let r : Result := { sResult with payload := List.replicate 9 65, match_ := true }
    let g : Result := { sResult with sym := 6, payload := leBytes 4 517 }
    let b := s.frameRecord n 0x911A [⟨r, false⟩, ⟨g, false⟩] 0x0000A0F7
    b.length = 136 ∧ b.take 32 =
      [0x02, 0x01, 0x88, 0x00, 0xF7, 0xA0, 0x00, 0x00, 0x40, 0x3C, 0x5F, 0xA0, 0x12, 0x00, 0x00, 0x00,
       0x00, 0x80, 0x1A, 0x91, 0xD2, 0x14, 0x00, 0x00, 0xFF, 0x7F, 0x31, 0x78, 0x80, 0xB1, 0xFF, 0x03] := by
  decide +kernel

/-- The trowel fault of Bay 3 (spec/18) in GET_BLACKBOX order, and the two events the fault leaves. -/
theorem test_black_box_event :
    let e : BbEvent := ⟨0x0000000C8A3B0F10, 0x02, false, 0x01, 0x0001, 0x000012E4⟩
    e.bytes = [0x10, 0x0F, 0x3B, 0x8A, 0x0C, 0x00, 0x00, 0x00, 0x02, 0x01, 0x01, 0x00, 0xE4, 0x12, 0x00, 0x00] ∧
    ((runState.updT 1 fun x => { x with pc := 0x2E4 }).trowelFault 1 1 0).bb.ring.map
        (fun x => (x.unit, x.inst, x.code, x.arg)) = [(2, 1, 1, 0x000012E4), (1, 0xFF, 1, 2)] := by
  decide +kernel

/-- Node 5 of Cell 9 (spec/15): MOR.ROUTE 0x2C is M0 with the alternate M1. -/
theorem test_egress :
    let s : State := runWith [(Fld.morRoute 2, 0x2C)]
    let up := fun (m : MorId) (s : State) => s.updMor m fun p => { p with up := true }
    (up 0 (up 1 s)).egress 2 = some 0 ∧ (up 1 s).egress 2 = some 1 ∧ s.egress 2 = none := by decide +kernel

/-- Check values of the CRCs of the links and of the two hashes, of their standards. -/
theorem test_checksums :
    crc32c ([0x31, 0x32, 0x33, 0x34, 0x35, 0x36, 0x37, 0x38, 0x39] : List Byte) = 0xE3069283 ∧
    crc16 ([0x31, 0x32, 0x33, 0x34, 0x35, 0x36, 0x37, 0x38, 0x39] : List Byte) = 0x29B1 ∧
    (sha256 ([0x61, 0x62, 0x63] : List Byte)).take 4 = [0xBA, 0x78, 0x16, 0xBF] ∧
    (sha512 ([0x61, 0x62, 0x63] : List Byte)).take 4 = [0xDD, 0xAF, 0x35, 0xA1] := by decide +kernel

/-- RFC 8032, section 7.1, test 1: the empty message, and one byte in its place. -/
theorem test_ed25519 :
    (let be := fun n : Nat => (List.range 32).map fun i => BitVec.ofNat 8 (n / 256 ^ (31 - i))
     let pk := be 0xd75a980182b10ab7d54bfed3c964073a0ee172f3daa62325af021a68f707511a
     let sig := be 0xe5564300c360ac729086e2cc806e828a84877f1eb8e5d974d873e06522490155
       ++ be 0x5fb8821590a33bacc61e39701cf9b46bd25bf5f0595bbe24655141438e7a100b
     ed25519Verify pk [] sig = true ∧ ed25519Verify pk [0] sig = false) := by decide +kernel

/-! ### Interface -/

/-- The opcode table gives no row any bits, so no word spells a command. -/
theorem test_table_gives_no_bits : decodeTableWord 32 0 = none ∧ decodeTableWord 0 0 = none := by decide

/-- A trowel adds, at wrap-around: 0xFFFFFFFF + 1 is 0 with the carry set (R111). -/
theorem test_add_wraps :
    let s := runT fun x => { x with w := (x.w.set 2 0xFFFFFFFF).set 3 1 }
    let x := (after (.add 0 1 2 3) s).trowels[0]
    x.w[1] = 0 ∧ x.z = true ∧ x.n = false ∧ x.c = true ∧ x.v = false ∧ x.pc = 8 := by
  decide +kernel

/-- A one-cycle LOG writes its event with the argument word. -/
theorem test_log :
    let s := runT fun x => { x with w := x.w.set 2 0xABCD1234 }
    (after (.log 0 2 0x0101) s).bb.queue.map (fun e => (e.code, e.arg)) = [(0x0101, 0xABCD1234)] := by decide +kernel

/-- A step takes the front command, and leaves the rest of the queue. -/
theorem test_step_takes_front :
    (match step { runState with pending := [.nop 0, .nop 1] } with | .next u => u.pending.length | _ => 9) = 1 := by
  decide +kernel

/-! ### Witnesses of the hypotheses of the obligations -/

theorem witness_StepRunsFrontCommand :
    ({ runState with pending := [.nop 0, .idcode] } : State).pending = .nop 0 :: [.idcode] := rfl

theorem witness_IdleStepIsOneCycle :
    runState.pending = [] ∧ runState.phase = .running ∧ State.reset.pending = [] ∧ State.reset.phase = .held := by
  decide +kernel

theorem witness_StepKeepsWf :
    let s : State := { runState with pending := [.nop 0, .idcode] }
    s.wf = true ∧ ∃ u, step s = .next u := ⟨by decide +kernel, _, rfl⟩

theorem witness_CommandsKeepQueueAndPart : ∃ u, exec (.pwrOkLow) runState = .next u := ⟨_, rfl⟩

theorem witness_TimeNeverGoesBack : ∃ u, exec .tick runState = .next u := ⟨_, rfl⟩

theorem witness_TrowelWordsRoundTrip :
    encodeTrowel (.add 0 1 2 3) = some 0x0448C000 ∧ decodeTrowel 0 0x0448C000 ≠ none := by
  decide +kernel

theorem witness_LinksChangeNoConfiguration :
    linkReceives (.setConfiguration 1) = true ∧ ∃ u, exec (.setConfiguration 1) runState = .next u :=
  ⟨by decide, _, rfl⟩

/-- States that meet the hypotheses of `Obligations.TrowelArithmetic`. -/
theorem witness_TrowelArithmetic_1 :
    (let s : State := runState; let t : TrowelId := 0;
      s.executes t = true) := by
  decide +kernel

/-- States that meet the hypotheses of `Obligations.TrowelArithmetic`. -/
theorem witness_TrowelArithmetic_2 :
    (let s : State := runState; let t : TrowelId := 0;
      s.executes t = true) := by
  decide +kernel

/-- States that meet the hypotheses of `Obligations.TrowelShiftsAndFields`. -/
theorem witness_TrowelShiftsAndFields_1 :
    (let s : State := runState; let t : TrowelId := 0;
      s.executes t = true) := by
  decide +kernel

/-- States that meet the hypotheses of `Obligations.TrowelShiftsAndFields`. -/
theorem witness_TrowelShiftsAndFields_2 :
    (let s : State := (runT fun x => { x with w := #v[0xF0F1E2D3, 0x12345678, 0xDEADBEEF, 35, 0x80000001,0,0,0,0,0,0,0,0,0,0,0] });
     let t : TrowelId := 0; let n : BitVec 5 := 5;
      s.executes t = true ∧ n ≠ 0) := by
  decide +kernel

/-- States that meet the hypotheses of `Obligations.TrowelMemoryAndControl`. -/
theorem witness_TrowelMemoryAndControl_1 :
    (let s : State := runState; let t : TrowelId := 0; let ra : RegId := 2; let imm : BitVec 18 := 0x3FFFF;
     let x := s.trowels[t]; let adr := BitVec.ofNat 11 ((x.rd ra).toNat + (imm.signExtend 32).toNat);
      s.executes t = true ∧ x.dataErr.contains adr = false) := by
  decide +kernel

/-- States that meet the hypotheses of `Obligations.TrowelMemoryAndControl`. -/
theorem witness_TrowelMemoryAndControl_2 :
    (let s : State := runState; let t : TrowelId := 0; let k : Cond := .eq; let x := s.trowels[t];
      s.executes t = true ∧ (x.rstack.length < 8 ∨ x.cond k = false)) ∧
    (let s : State := (runT fun x => { x with rstack := [3, 4], pc := 4095 }); let t : TrowelId := 0;
     let x := s.trowels[t]; let a : BitVec 12 := 3; let r : List (BitVec 12) := [4];
      s.executes t = true ∧ x.rstack = a :: r) := by
  decide +kernel

/-- States that meet the hypotheses of `Obligations.TrowelEventsAndWaits`. -/
theorem witness_TrowelEventsAndWaits_1 :
    (let k : Nat := 4; let s : State := (runT fun x => { x with w := (x.w.set 2 0x11).set 3 0, pending := 0x10 });
     let t : TrowelId := 0; let ra : RegId := 2; let rb : RegId := 3; let x := s.trowels[t];
     let inMask := fun (k : Nat) => if k < 32 then (x.rd ra).getLsbD k else (x.rd rb).getLsbD (k - 32);
      s.executes t = true ∧ inMask k = true ∧ s.eventPresent t k = true ∧
      ((∀ j < k, inMask j = true → s.eventPresent t j = false))) ∧
    (let s : State := (runT fun x => { x with w := (x.w.set 2 0x11).set 3 0 }); let t : TrowelId := 0;
     let ra : RegId := 2; let rb : RegId := 3; let x := s.trowels[t];
     let inMask := fun (k : Nat) => if k < 32 then (x.rd ra).getLsbD k else (x.rd rb).getLsbD (k - 32);
      s.executes t = true ∧ ((∀ k < 64, inMask k = true → s.eventPresent t k = false))) := by
  decide +kernel

/-- States that meet the hypotheses of `Obligations.TrowelEventsAndWaits`. -/
theorem witness_TrowelEventsAndWaits_2 :
    (let k : Nat := 5; let s : State := (runT fun x => { x with status := .waiting 3 0x30, pending := 0x20 });
     let t : TrowelId := 0; let x := s.trowels[t]; let rd : RegId := 3; let mask : BitVec 64 := 0x30;
      s.trowelsAwake = true ∧ x.status = .waiting rd mask ∧ mask.getLsbD k = true ∧ s.eventPresent t k = true ∧
      ((∀ j < k, mask.getLsbD j = true → s.eventPresent t j = false)) ∧ x.status ≠ .stopped ∧ s.boot.started = true) ∧
    (let s : State := (runT fun x => { x with timer := 3, pending := 16 }); let t : TrowelId := 0;
     let x := s.trowels[t];
      s.trowelsAwake = true ∧ x.status = .run ∧ x.status ≠ .stopped ∧ s.boot.started = true ∧ x.timer ≠ 0) := by
  decide +kernel

/-- States that meet the hypotheses of `Obligations.TrowelSpecialsAndMail`. -/
theorem witness_TrowelSpecialsAndMaila :
    (let s : State := runState; let t : TrowelId := 0; let r : BitVec 4 := 0; let x := s.trowels[t];
      s.executes t = true ∧ r = 0 ∧ x.mail = [] ∧ s.bb.frozen = false ∧ s.pins.pwrOk = true ∧
      s.bb.queue.length < 32) ∧
    (let s : State := runState; let t : TrowelId := 0; let r : BitVec 4 := 6;
      s.executes t = true ∧ r = 6) ∧
    (let s : State := runState; let t : TrowelId := 0; let r : BitVec 4 := 1;
      s.executes t = true ∧ ((r = 1 ∨ r = 2 ∨ r = 5 ∨ 7 ≤ r.toNat))) ∧
    (let s : State := runState; let t : TrowelId := 0; let r : BitVec 4 := 3;
      s.executes t = true ∧ r = 3) ∧
    (let s : State := runState; let t : TrowelId := 0; let r : BitVec 4 := 4;
      s.executes t = true ∧ r = 4) := by
  decide +kernel

/-- States that meet the hypotheses of `Obligations.TrowelSpecialsAndMail`. -/
theorem witness_TrowelSpecialsAndMailb :
    (let s : State := (runT fun x => { x with mail := [5, 6], w := x.w.set 2 0x1F, overrun := 0x8000000000000003 });
     let t : TrowelId := 0; let x := s.trowels[t]; let m : Word := 5; let l : List Word := [6];
      s.executes t = true ∧ x.mail = m :: l) := by
  decide +kernel

/-- States that meet the hypotheses of `Obligations.TrowelFaultsHalt`. -/
theorem witness_TrowelFaultsHalt :
    (let s : State := runState; let t : TrowelId := 0; let w : Word := 0; let x := s.trowels[t];
      s.executes t = true ∧ (x.codeErr.contains x.pc = true ∨ decodeTrowel t w = none) ∧ x.rstack = []) ∧
    (let s : State := (runT fun x => { x with rstack := [1,2,3,4,5,6,7,8], dataErr := [3], wq := [⟨.loc, [], none⟩, ⟨.loc, [], some []⟩] });
     let t : TrowelId := 0; let ra : RegId := 2; let k : Cond := .al; let imm : BitVec 18 := 3; let x := s.trowels[t];
      s.executes t = true ∧ x.cond k = true ∧ 8 ≤ x.rstack.length ∧ x.dataErr.contains (x.dataAddr ra imm) = true) ∧
    (let s : State := (runT fun x => { x with codeErr := [7], group := some [] }); let t : TrowelId := 0;
     let x := s.trowels[t];
      s.executes t = true ∧ x.group.isSome = true) := by
  decide +kernel

/-- States that meet the hypotheses of `Obligations.ResetAndFirstBoot`. -/
theorem witness_ResetAndFirstBoot_1 :
    (let s : State := runState; s.pins.pwrOk = true ∧ s.phase ≠ .thermal) ∧
    (let s : State := { runState with phase := .asleep }; s.pins.pwrOk = true ∧ s.phase ≠ .thermal ∧ s.xrefStopped = true) ∧
    (let s : State := { runState with phase := .thermal }; s.pins.pwrOk = false ∨ s.phase = .thermal) ∧
    (let s : State := State.reset; s.pins.pwrOk = false ∧ s.pins.resetN = true) ∧
    (let s : State := { State.reset with pins := { State.reset.pins with resetN := false } };
      s.pins.pwrOk = false ∧ s.pins.resetN = false) ∧
    (let s : State := { runState with pins := { runState.pins with resetN := false }, phase := .held };
      s.pins.pwrOk = true ∧ s.phase = .held) ∧
    (let s : State := runState; s.pins.pwrOk = false ∨ s.phase ≠ .held) ∧
    (let s : State := { runState with phase := .xrefWait }; s.phase = .xrefWait) := by
  decide +kernel

/-- States that meet the hypotheses of `Obligations.ResetAndFirstBoot`. -/
theorem witness_ResetAndFirstBoot_2 :
    (let s : State := runState; s.measuresSlow = true ∧ (s.sys.sleepWait = false ∨ s.phase ≠ .running)) ∧
    (let s : State := { runState with sys := { runState.sys with sleepWait := true } }; let n : Nat := 781250;
     let within := 32768 * 999500 * n ≤ 1024 * 25000000 * 1000000 ∧ 1024 * 25000000 * 1000000 ≤ 32768 * 1000500 * n;
      s.phase = .running ∧ s.sys.sleepWait = true ∧ within) ∧
    (let s : State := { runState with aon := { runState.aon with slowQualified := true } };
      s.measuresSlow = true ∧ s.aon.slowQualified = true ∧ s.phase ≠ .test) ∧
    (let s : State := { runState with aon := { runState.aon with slowQualified := true }, phase := .test };
      s.phase = .test ∧ s.aon.slowQualified = true ∧ s.time.xrefOff = false) := by
  decide +kernel

/-- States that meet the hypotheses of `Obligations.BootUp`. -/
theorem witness_BootUp_1 :
    (let s : State := bootState id; let r : List (List Nat) := List.replicate 20 (List.replicate 8 100000);
     let v : Nat := 100000; let q : List Nat := List.replicate 3 100000;
      s.phase = .booting ∧ s.boot.strapDone = false ∧ (r.getD 3 []).take (if s.identity.stepping = .b0 then 4 else 8) = v :: q ++ List.replicate (if s.identity.stepping = .b0 then 0 else 4) 100000 ∧
      (∀ w ∈ q, min 15 (w / 93750) = min 15 (v / 93750))) ∧
    (let s : State := bootState id; let r : List (List Nat) := List.replicate 20 (0 :: List.replicate 7 100000);
     let q : List Nat := List.replicate (if s.identity.stepping = .b0 then 3 else 7) 100000;
      s.phase = .booting ∧ s.boot.strapDone = false ∧ (r.getD 19 []).take (if s.identity.stepping = .b0 then 4 else 8) = 0 :: q ∧
      (∃ w ∈ q, min 15 (w / 93750) ≠ min 15 (0 / 93750))) ∧
    (let s : State := bootState fun b => { b with strapDone := true };
      s.phase = .booting ∧ s.boot.strapDone = true ∧ s.boot.otpDone = false) ∧
    (let s : State := bootState fun b => { b with strapDone := true, otpDone := true };
     let x : SfdpReading := ⟨true, true, false, some ⟨0x3B, 8⟩, ⟨0x6B, 8⟩⟩;
      s.phase = .booting ∧ s.boot.otpDone = true ∧ s.boot.loadDone = false ∧ s.boot.sfdpDone = false ∧
      s.romSelected = false ∧ x.signature = true ∧ ({ x with signature := false }).signature = false) ∧
    (let b := bootState fun b => { b with strapDone := true, otpDone := true };
     let s : State := { b with sys := { b.sys with straps := b.sys.straps.set 0 0 } };
      s.phase = .booting ∧ s.boot.otpDone = true ∧ s.boot.loadDone = false ∧ s.romSelected = true) ∧
    (let s : State := bootState fun b => { b with strapDone := true, otpDone := true, sfdpDone := true }; let flash : List (List Byte) := [sImage 0];
      s.phase = .booting ∧ s.boot.otpDone = true ∧ s.boot.loadDone = false ∧ s.romSelected = false ∧ s.boot.sfdpDone = true ∧
      (readImage s.sealNeeded (flash.getD s.recipeIndex [])).toOption.isSome = true ∧
      (readImage s.sealNeeded (([] : List (List Byte)).getD s.recipeIndex [])).toOption.isSome = false) := by
  decide +kernel

/-- States that meet the hypotheses of `Obligations.BootUp`. -/
theorem witness_BootUp_2 :
    (let s : State := bootState fun b => { b with loadDone := true, recipe := some sRecipe };
      s.phase = .booting ∧ s.boot.loadDone = true ∧ s.boot.sigDone = false ∧ s.boot.recipe = some sRecipe ∧
      sRecipe.sealedFlag = false ∧ s.boot.contentBad = false) ∧
    (let s : State := bootState fun b => { b with loadDone := true, recipe := some sRecipe, contentBad := true };
      s.phase = .booting ∧ s.boot.loadDone = true ∧ s.boot.sigDone = false ∧ s.boot.recipe = some sRecipe ∧
      sRecipe.sealedFlag = false ∧ s.boot.contentBad = true) ∧
    (let r : Recipe := { sRecipe with sealedFlag := true };
     let b := bootState fun b => { b with loadDone := true, recipe := some r };
     let s : State := { b with sys := { b.sys with straps := b.sys.straps.set 19 2 } };
      s.phase = .booting ∧ s.boot.loadDone = true ∧ s.boot.sigDone = false ∧ s.boot.recipe = some r ∧
      r.sealedFlag = true ∧ noKey s.identity.keyDigest = true ∧ s.sealNeeded = true ∧ b.sealNeeded = false ∧ b.boot.contentBad = false) ∧
    (let r : Recipe := { sRecipe with sealedFlag := true }; let img : List Byte := sImage 1;
     let b := bootState fun b => { b with loadDone := true, recipe := some r, raw := img ++ sSeal };
     let s : State := { b with identity := { b.identity with keyDigest := sha256 (slice sSeal 8 32) } };
      s.phase = .booting ∧ s.boot.loadDone = true ∧ s.boot.sigDone = false ∧ s.boot.recipe = some r ∧
      r.sealedFlag = true ∧ noKey s.identity.keyDigest = false ∧ s.boot.raw = img ++ sSeal ∧ sSeal.length = 104 ∧
      (checkSeal s.identity.keyDigest img sSeal).toOption = some () ∧ s.boot.contentBad = false ∧
      (checkSeal s.identity.keyDigest img (List.replicate 104 0)).toOption = none) := by
  decide +kernel

/-- States that meet the hypotheses of `Obligations.BootUp`. -/
theorem witness_BootUp_3 :
    (let b := bootState fun b => { b with strapDone := true };
     let s : State := { b with adcA := { Adc.idle with calibrating := true } }; let c : Conv := .a;
      (s.phase = .booting ∨ s.phase = .running ∨ s.phase = .sleepEntry ∨ s.phase = .test) ∧ (s.adc c).calibrating = true) ∧
    (let s : State := bootState fun b => { b with calDone := true, sigDone := true, recipe := some sRecipe };
      s.phase = .booting ∧ s.boot.calDone = true ∧ s.boot.sigDone = true ∧ s.boot.started = false ∧
      s.boot.recipe = some sRecipe ∧ sRecipe.mandatory &&& ~~~ s.enabledWord sRecipe = 0) ∧
    (let r : Recipe := { sRecipe with mandatory := 0x8000 };
     let s : State := bootState fun b => { b with calDone := true, sigDone := true, recipe := some r };
      s.phase = .booting ∧ s.boot.calDone = true ∧ s.boot.sigDone = true ∧ s.boot.started = false ∧
      s.boot.recipe = some r ∧ r.mandatory &&& ~~~ s.enabledWord r ≠ 0) ∧
    (let s : State := bootState fun b => { b with started := true };
      s.phase = .booting ∧ s.neighTesting = true ∧ s.bootPin = none) ∧
    (let s : State := bootState fun b => { b with started := true, neighDone := true };
      s.phase = .booting ∧ s.boot.neighDone = true ∧ s.boot.fabricDone = false) ∧
    (let s : State := bootState fun b => { b with started := true, neighDone := true, fabricDone := true };
      s.phase = .booting ∧ s.boot.fabricDone = true ∧ s.boot.pairDone = false) ∧
    (let s : State := bootState fun b => { b with pairDone := true };
      s.phase = .booting ∧ s.boot.pairDone = true ∧ s.boot.sleepHeld = false) ∧
    (let b := bootState fun b => { b with pairDone := true, sleepHeld := true };
     let s : State := { b with aon := { b.aon with slowQualified := true } };
      s.phase = .booting ∧ s.boot.pairDone = true ∧ s.boot.sleepHeld = true ∧ s.aon.slowQualified = true) := by
  decide +kernel

/-- States that meet the hypotheses of `Obligations.ScenesAndSystemWrites`. -/
theorem witness_ScenesAndSystemWrites_1 :
    (let s : State := { runState with sys := { runState.sys with scenes := [⟨true, 1, 1, []⟩, ⟨true, 2, 2, []⟩, ⟨false, 0, 0, []⟩] } };
     let n : BitVec 3 := 1; let e : SceneEntry := ⟨true, 2, 2, []⟩;
      s.phase = .running ∧ s.boot.started = true ∧ s.sys.scenes[n.toNat]? = some e ∧ e.defined = true ∧
      n ≠ s.sys.sceneActive) ∧
    (let s : State := { runState with sys := { runState.sys with scenes := [⟨true, 1, 1, []⟩, ⟨true, 2, 2, []⟩, ⟨false, 0, 0, []⟩] } };
     let n : BitVec 3 := 0; let e : SceneEntry := ⟨true, 1, 1, []⟩;
      s.phase = .running ∧ s.boot.started = true ∧ s.sys.scenes[n.toNat]? = some e ∧ n = s.sys.sceneActive ∧
      s.sys.scenePending = false ∧ e.defined = true) ∧
    (let s : State := { runState with sys := { runState.sys with scenes := [⟨true, 1, 1, []⟩, ⟨true, 2, 2, []⟩], scenePending := true, sceneDone := 7 } };
     let n : BitVec 3 := 1; let e : SceneEntry := ⟨true, 2, 2, []⟩;
      s.phase = .running ∧ s.boot.started = true ∧ s.sys.scenes[n.toNat]? = some e ∧ s.sys.scenePending = true ∧
      s.bb.frozen = false ∧ s.pins.pwrOk = true ∧ s.bb.queue.length < 32) := by
  decide +kernel

/-- States that meet the hypotheses of `Obligations.ScenesAndSystemWrites`. -/
theorem witness_ScenesAndSystemWrites_2 :
    (let s : State := { runState with sys := { runState.sys with scenePending := true, sceneReq := 2 } };
     let t : TrowelId := 0; let v : Word := 3; let own : BitVec 4 := BitVec.ofNat 4 (2 ^ t.val); let y := s.sys;
      s.shadow = [] ∧ v.getLsbD t.val = true ∧ takes s t Fld.sysSceneDone = true ∧ y.sceneDone ||| own ≠ 15 ∧
      takes s t Fld.sysSleepGo = true ∧ v.getLsbD 0 = true) ∧
    (let s : State := { runState with aon := { runState.aon with slowQualified := true } }; let t : TrowelId := 0; let v : Word := 3;
      s.shadow = [] ∧ v.getLsbD t.val = true ∧ takes s t Fld.sysSleepGo = true ∧ v.getLsbD 0 = true ∧
      s.phase = .running ∧ s.aon.slowQualified = true) ∧
    (let s : State := { runState with sys := { runState.sys with scenePending := true, sceneReq := 2, sceneDone := 14 } };
     let t : TrowelId := 0; let v : Word := 1; let own : BitVec 4 := BitVec.ofNat 4 (2 ^ t.val); let y := s.sys;
      s.shadow = [] ∧ v.getLsbD t.val = true ∧ takes s t Fld.sysSceneDone = true ∧ y.sceneDone ||| own = 15) ∧
    (let s : State := { runState with phase := .sleepEntry, sys := { runState.sys with sleepStep := 1 } };
     let t : TrowelId := 0; let v : Word := 1; let own : BitVec 4 := BitVec.ofNat 4 (2 ^ t.val); let y := s.sys;
      s.shadow = [] ∧ v.getLsbD t.val = true ∧ takes s t Fld.sysSleepAck = true ∧ s.phase = .sleepEntry ∧
      y.sleepStep = 1 ∧ y.sleepAck ||| own ≠ 15) ∧
    (let s : State := { runState with phase := .sleepEntry, sys := { runState.sys with sleepStep := 1, sleepAck := 14 } };
     let t : TrowelId := 0; let v : Word := 1; let own : BitVec 4 := BitVec.ofNat 4 (2 ^ t.val); let y := s.sys;
      s.shadow = [] ∧ v.getLsbD t.val = true ∧ takes s t Fld.sysSleepAck = true ∧ s.phase = .sleepEntry ∧
      y.sleepStep = 1 ∧ y.sleepAck ||| own = 15) := by
  decide +kernel

/-- States that meet the hypotheses of `Obligations.SleepAndWake`. -/
theorem witness_SleepAndWakea :
    (let s : State := { runState with aon := { runState.aon with slowQualified := true } };
      s.phase = .running ∧ s.aon.slowQualified = true) ∧
    (let s : State := runState;
      s.phase = .running ∧ s.aon.slowQualified = false ∧ s.sys.sleepWait = false) ∧
    (let s : State := { runState with phase := .booting };
      (s.phase = .booting ∨ s.phase = .waking)) ∧
    (let s : State := { runState with phase := .sleepEntry, sys := { runState.sys with sleepStep := 1 } };
      s.phase = .sleepEntry ∧ s.sys.sleepStep = 1) ∧
    (let s : State := { runState with phase := .sleepEntry, sys := { runState.sys with sleepStep := 4 } };
      s.phase = .sleepEntry ∧ s.sys.sleepStep = 4 ∧ s.aon.wakeHeld = false ∧ s.drained = true) ∧
    (let s : State := { runState with frames := [sFrame] };
      s.drained = false) ∧
    (let s : State := { runState with phase := .asleep };
      s.phase = .asleep) := by
  decide +kernel

/-- States that meet the hypotheses of `Obligations.SleepAndWake`. -/
theorem witness_SleepAndWakeb :
    (let s : State := { runState with phase := .asleep, aon := { runState.aon with sleepRx := some (9, 1) } };
     let a : Byte := 9; let rate : BitVec 2 := 1;
      s.phase = .asleep ∧ s.aon.sleepRx = some (a, rate)) ∧
    (let s : State := { runState with phase := .waking, sys := { runState.sys with wakeStep := 1 }, amb := { runState.amb with running := true, stale := false } };
      s.phase = .waking ∧ s.sys.wakeStep = 1 ∧ s.amb.running = true ∧ s.amb.stale = false ∧ s.boot.started = true) ∧
    (let s : State := { runState with phase := .waking, sys := { runState.sys with wakeStep := 4 } };
      s.phase = .waking ∧ s.sys.wakeStep = 4 ∧ s.boot.sleepHeld = false) := by
  decide +kernel

/-- States that meet the hypotheses of `Obligations.ThermalAndBlackBox`. -/
theorem witness_ThermalAndBlackBox_1 :
    (let s : State := runState; let x : Rat := 109;
      s.phase = .running ∧ s.thermal.warn = false ∧ s.thermal.shutdown = false ∧ s.thermal.td = none ∧ x < 110) ∧
    (let s : State := { runState with thermal := { runState.thermal with td := some 109 } }; let x : Rat := 170;
     let d : Rat := 109;
      s.phase = .running ∧ s.thermal.warn = false ∧ s.thermal.shutdown = false ∧ s.thermal.td = some d ∧
      d + (x - d) / 64 < 110) ∧
    (let s : State := { runState with time := { runState.time with ns := 1000000000 } }; let x : Rat := 110;
      s.phase = .running ∧ s.thermal.warn = false ∧ s.thermal.shutdown = false ∧ s.thermal.td = none ∧ 110 ≤ x ∧
      x < 125 ∧ s.thermal.warnFrom + 1000000000 ≤ s.time.ns) := by
  decide +kernel

/-- States that meet the hypotheses of `Obligations.ThermalAndBlackBox`. -/
theorem witness_ThermalAndBlackBox_2 :
    (let s : State := { runState with bb := { runState.bb with queue := [⟨0, 1, false, 2, 3, 4⟩] } };
     let e : BbEvent := ⟨0, 1, false, 2, 3, 4⟩; let q : List BbEvent := [];
      s.phase = .running ∧ s.pins.pwrOk = true ∧ s.bb.frozen = false ∧ s.time.frac < 4294967296 ∧
      s.bb.queue = e :: q ∧ s.bb.ring.length < 1024) ∧
    (let s : State := { runState with time := { runState.time with ns := 77 }, bb := { runState.bb with ring := List.replicate 1023 ⟨0, 1, false, 2, 3, 4⟩ } };
      s.phase = .running ∧ s.pins.pwrOk = true ∧ s.bb.frozen = false ∧ s.time.frac < 4294967296 ∧ s.bb.queue = [] ∧
      s.bb.ring.length < 1024) ∧
    (let s : State := { runState with bb := { runState.bb with queue := List.replicate 32 ⟨0, 1, false, 2, 3, 4⟩ } };
      s.phase = .running ∧ s.pins.pwrOk = true ∧ s.bb.frozen = false ∧ s.time.frac < 4294967296 ∧
      s.bb.queue.length = 32) := by
  decide +kernel

/-- States that meet the hypotheses of `Obligations.TestAccessPort`. -/
theorem witness_TestAccessPort :
    (let s : State := runState; let control : BitVec 64 := 0x83;
      (s.phase = .halted ∨ s.phase = .running) ∧ s.pins.pwrOk = true ∧ s.phase ≠ .test ∧ control.getLsbD 0 = true ∧
      s.tap.mbistSel = none) ∧
    (let s : State := { runState with tap := { runState.tap with mbistSel := some 0x62 } };
     let sel : BitVec 8 := 0x62;
      s.tap.mbistSel = some sel ∧ sel.getLsbD 7 = false) := by
  decide +kernel

/-- States that meet the hypotheses of `Obligations.FieldReads`. -/
theorem witness_FieldReadsa :
    (let s : State := runState; let t : TrowelId := 0; let a : BitVec 16 := 0x300; let x := s.trowels[t];
      s.trowelsAwake = true ∧ x.status = .run ∧ s.accessStalls = false ∧ fieldRow a.toNat = none) ∧
    (let s : State := { runState with phase := .sleepEntry, sys := { runState.sys with sleepStep := 3 } };
     let t : TrowelId := 0; let x := s.trowels[t];
      s.trowelsAwake = true ∧ x.status = .run ∧ s.accessStalls = true) ∧
    (let s : State := (runState.updT 0 fun x => { x with status := .reading 4 0x1000 }); let t : TrowelId := 0;
     let rd : RegId := 4; let a : BitVec 16 := 0x1000; let x := s.trowels[t];
      s.trowelsAwake = true ∧ x.status = .reading rd a ∧ s.accessStalls = false ∧
      ((∀ e ∈ x.wq, e.unit ≠ unitOf a.toNat)) ∧ a.toNat ≠ Fld.vsNtcTsHi ∧ a.toNat ≠ Fld.bbFreezeTsHi ∧
      a.toNat ≠ Fld.vsNtcTsLo ∧ a.toNat ≠ Fld.bbFreezeTsLo) ∧
    (let s : State := (runState.updT 3 fun x => { x with status := .reading 4 0x300 }); let t : TrowelId := 3;
     let rd : RegId := 4; let a : BitVec 16 := 0x300; let x := s.trowels[t];
      s.trowelsAwake = true ∧ x.status = .reading rd a ∧ s.accessStalls = false ∧
      ((∀ e ∈ x.wq, e.unit ≠ unitOf a.toNat)) ∧ fieldRow a.toNat = none) ∧
    (let s : State := (runState.updT 0 fun x => { x with status := .reading 4 0x1000, wq := [⟨.light, [], none⟩] });
     let t : TrowelId := 0; let rd : RegId := 4; let a : BitVec 16 := 0x1000; let x := s.trowels[t];
      s.trowelsAwake = true ∧ x.status = .reading rd a ∧ ((∃ e ∈ x.wq, e.unit = unitOf a.toNat))) := by
  decide +kernel

/-- States that meet the hypotheses of `Obligations.FieldReads`. -/
theorem witness_FieldReadsb :
    (let s : State := { runState with identity := { runState.identity with variant := .evr8440 } };
     let a : BitVec 16 := 0x2000;
      s.trowelsAwake = true ∧ absentField s.identity.variant a.toNat = true) := by
  decide +kernel

/-- States that meet the hypotheses of `Obligations.FieldWrites`. -/
theorem witness_FieldWrites_1 :
    (let s : State := runState; let t : TrowelId := 0; let x := s.trowels[t];
      s.executes t = true ∧ s.accessStalls = false ∧ x.group = none ∧ x.wq.length < 8 ∧ x.wq = []) ∧
    (let s : State := (runState.updT 0 fun x => { x with wq := List.replicate 8 ⟨.loc, [], none⟩ });
     let t : TrowelId := 0; let x := s.trowels[t];
      s.executes t = true ∧ s.accessStalls = false ∧ x.group = none ∧ 8 ≤ x.wq.length ∧ x.wq ≠ []) ∧
    (let s : State := (runState.updT 0 fun x => { x with wq := List.replicate 7 ⟨.loc, [], none⟩, group := some [⟨0x1000, 1⟩, ⟨0x300, 1⟩] });
     let t : TrowelId := 0; let ra : RegId := 2; let f : BitVec 16 := 0x1001;
     let g : List Posted := [⟨0x1000, 1⟩, ⟨0x300, 1⟩]; let x := s.trowels[t];
     let a := BitVec.ofNat 16 (f.toNat + (x.rd ra).toNat);
      s.executes t = true ∧ s.accessStalls = false ∧ x.group = some g ∧ g.length < 16 ∧
      (unitOf f.toNat = .outside ∨ (∀ w ∈ g, unitOf w.addr.toNat = .outside ∨ unitOf w.addr.toNat = unitOf f.toNat)) ∧
      (unitOf a.toNat = .outside ∨ (∀ w ∈ g, unitOf w.addr.toNat = .outside ∨ unitOf w.addr.toNat = unitOf a.toNat)) ∧
      g ≠ [] ∧ x.wq.length < 8) ∧
    (let s : State := (runState.updT 0 fun x => { x with group := some (List.replicate 16 ⟨0x1000, 1⟩) });
     let t : TrowelId := 0; let g : List Posted := List.replicate 16 ⟨0x1000, 1⟩; let x := s.trowels[t];
      s.executes t = true ∧ s.accessStalls = false ∧ x.group = some g ∧ 16 ≤ g.length) := by
  decide +kernel

/-- States that meet the hypotheses of `Obligations.FieldWrites`. -/
theorem witness_FieldWrites_2 :
    (let why : BitVec 3 := 3; let s : State := runState; let t : TrowelId := 0; let a : BitVec 16 := 0x300;
      s.trowelsAwake = true ∧ s.boot.started = true ∧
      ((∀ e ∈ (s.trowels[t]).wq, e.unit = unitOf a.toNat → e.answer.isSome = true)) ∧
      s.refusal t a.toNat = some why) ∧
    (let s : State := { runState with identity := { runState.identity with variant := .evr8440 } };
     let t : TrowelId := 1; let a : BitVec 16 := 0x2000;
      s.trowelsAwake = true ∧ s.boot.started = true ∧
      ((∀ e ∈ (s.trowels[t]).wq, e.unit = unitOf a.toNat → e.answer.isSome = true)) ∧
      absentField s.identity.variant a.toNat = true) ∧
    (let s : State := (runWith [(Fld.lightEnable, 1)]); let t : TrowelId := 0;
     let a : BitVec 16 := BitVec.ofNat 16 (Fld.lightBlankNs); let v : Word := 0xFFFFFFFF;
     let r : FieldRow := ((fieldRow a.toNat).getD ⟨0, 1, 0, false, 0, .ro, false⟩);
     let set : SetId := ((setOf a.toNat).getD .est);
      s.trowelsAwake = true ∧ s.boot.started = true ∧
      ((∀ e ∈ (s.trowels[t]).wq, e.unit = unitOf a.toNat → e.answer.isSome = true)) ∧ takes s t a.toNat = true ∧
      fieldRow a.toNat = some r ∧ s.widens a.toNat (cutToWidth r v) = none ∧ s.runsAt a.toNat = true ∧
      setOf a.toNat = some set) ∧
    (let s : State := runState; let t : TrowelId := 2; let a : BitVec 16 := BitVec.ofNat 16 (Fld.locCandMax 0);
     let v : Word := 0xFFFFFFFF; let r : FieldRow := ((fieldRow a.toNat).getD ⟨0, 1, 0, false, 0, .ro, false⟩);
      s.trowelsAwake = true ∧ s.boot.started = true ∧
      ((∀ e ∈ (s.trowels[t]).wq, e.unit = unitOf a.toNat → e.answer.isSome = true)) ∧ takes s t a.toNat = true ∧
      fieldRow a.toNat = some r ∧ s.widens a.toNat (cutToWidth r v) = none ∧ s.shadow = [] ∧
      (s.runsAt a.toNat = false ∨ setOf a.toNat = none) ∧
      (unitOf a.toNat = .loc ∨ unitOf a.toNat = .wl ∨ unitOf a.toNat = .time)) ∧
    (let s : State := { runState with sys := { runState.sys with straps := runState.sys.straps.set 10 0 } }; let t : TrowelId := 3;
     let a : BitVec 16 := BitVec.ofNat 16 Fld.serEnable; let v : Word := 1;
     let r : FieldRow := ((fieldRow a.toNat).getD ⟨0, 1, 0, false, 0, .ro, false⟩);
      s.trowelsAwake = true ∧ s.boot.started = true ∧
      ((∀ e ∈ (s.trowels[t]).wq, e.unit = unitOf a.toNat → e.answer.isSome = true)) ∧ takes s t a.toNat = true ∧
      fieldRow a.toNat = some r ∧ s.widens a.toNat (cutToWidth r v) = some 0 ∧ s.bbWrites = true ∧ s.bb.queue.length < 32) := by
  decide +kernel

/-- States that meet the hypotheses of `Obligations.WriteRepliesAndScrub`. -/
theorem witness_WriteRepliesAndScrub :
    (let s : State := (runState.updT 0 fun x => { x with wq := [⟨.loc, [], some []⟩, ⟨.light, [], none⟩], codeSoft := [3] });
     let t : TrowelId := 0; let n : UnitId := .loc; let e : QEntry := ⟨.loc, [], some []⟩;
     let q : List QEntry := [⟨.light, [], none⟩]; let x := s.trowels[t];
      s.trowelsAwake = true ∧ n ≠ .outside ∧ x.wq = e :: q ∧ e.unit = n ∧ e.answer = some [] ∧ x.status = .run) ∧
    (let s : State := (runState.updT 0 fun x => { x with wq := [⟨.loc, [], some []⟩], status := .stalled .fsync });
     let t : TrowelId := 0; let n : UnitId := .loc; let e : QEntry := ⟨.loc, [], some []⟩; let q : List QEntry := [];
     let x := s.trowels[t];
      s.trowelsAwake = true ∧ n ≠ .outside ∧ x.wq = e :: q ∧ e.unit = n ∧ e.answer = some [] ∧
      x.status = .stalled .fsync ∧ q = [] ∧ s.accessStalls = false) ∧
    (let s : State := (runState.updT 0 fun x => { x with wq := ⟨.loc, [], some []⟩ :: List.replicate 7 ⟨.light, [], none⟩, status := .stalled (.post ⟨1, 2⟩) });
     let t : TrowelId := 0; let n : UnitId := .loc; let e : QEntry := ⟨.loc, [], some []⟩;
     let q : List QEntry := List.replicate 7 ⟨.light, [], none⟩; let x := s.trowels[t]; let w : Posted := ⟨1, 2⟩;
      s.trowelsAwake = true ∧ n ≠ .outside ∧ x.wq = e :: q ∧ e.unit = n ∧ e.answer = some [] ∧
      x.status = .stalled (.post w) ∧ q.length < 8 ∧ x.group = none ∧ s.accessStalls = false) ∧
    (let s : State := (runState.updT 0 fun x => { x with wq := [⟨.loc, [], some [(3, 2)]⟩] }); let t : TrowelId := 0;
     let n : UnitId := .loc; let e : QEntry := ⟨.loc, [], some [(3, 2)]⟩; let q : List QEntry := [];
     let x := s.trowels[t]; let a : BitVec 16 := 3; let why : BitVec 3 := 2;
      s.trowelsAwake = true ∧ n ≠ .outside ∧ x.wq = e :: q ∧ e.unit = n ∧ e.answer = some [(a, why)] ∧
      x.status = .run ∧ s.boot.started = true) ∧
    (let s : State := (runState.updT 0 fun x => { x with wq := [⟨.loc, [], none⟩] }); let t : TrowelId := 0;
     let n : UnitId := .loc; let e : QEntry := ⟨.loc, [], none⟩; let q : List QEntry := []; let x := s.trowels[t];
      s.trowelsAwake = true ∧ n ≠ .outside ∧ x.wq = e :: q ∧ e.unit = n ∧ e.answer = none) := by
  decide +kernel

/-- States that meet the hypotheses of `Obligations.LightWrites`. -/
theorem witness_LightWrites :
    (let s : State := (runWith [(Fld.lightEnable, 1)]); let t : TrowelId := 0; let v : Word := 0;
      takes s t Fld.lightEnable = true ∧ ((∀ p ∈ s.shadow, p.addr ≠ Fld.lightEnable)) ∧ v.getLsbD 0 = false ∧
      s.enabledAt Fld.lightEnable = true ∧ takes s t Fld.lightGrpFire = true ∧ takes s t Fld.lightCrvGo = true ∧
      takes s t Fld.lightBoardTemp = true ∧ ((∀ p ∈ s.shadow, p.addr ≠ Fld.lightBoardTemp))) ∧
    (let s : State := runState; let t : TrowelId := 0; let v : Word := 1;
      takes s t Fld.lightEnable = true ∧ ((∀ p ∈ s.shadow, p.addr ≠ Fld.lightEnable)) ∧ v.getLsbD 0 = true ∧
      s.enabledAt Fld.lightEnable = false ∧ s.phase = .running ∧ takes s t Fld.lightGrpFire = true ∧
      takes s t Fld.lightCrvGo = true) := by
  decide +kernel

/-- States that meet the hypotheses of `Obligations.LightCourses`. -/
theorem witness_LightCourses :
    (let s : State := { (runWith [(Fld.lightEnable, 1), (Fld.lightScanLen, 2)]) with light := { Light.idle with stage := .active, course := some ⟨0, 0, 20000, 1000, 0, false, false⟩ } };
     let k : CourseRun := ⟨0, 0, 20000, 1000, 0, false, false⟩;
      s.enabledAt Fld.lightEnable = true ∧ s.phase = .running ∧ s.light.course = some k ∧ s.light.stage ≠ .rest ∧
      (s.applyCourseSets.getN Fld.lightScanPeriodNs = 0 ∨ k.entry + 1 < s.applyCourseSets.scanLen)) ∧
    (let s : State := { (runWith [(Fld.lightEnable, 1), (Fld.lightScanLen, 4), (Fld.lightScanPeriodNs, 1000000)]) with light := { Light.idle with stage := .active, course := some ⟨3, 0, 20000, 1000, 0, false, false⟩ } };
     let k : CourseRun := ⟨3, 0, 20000, 1000, 0, false, false⟩;
      s.enabledAt Fld.lightEnable = true ∧ s.phase = .running ∧ s.light.course = some k ∧ s.light.stage ≠ .rest ∧
      s.applyCourseSets.getN Fld.lightScanPeriodNs ≠ 0 ∧ s.applyCourseSets.scanLen ≤ k.entry + 1 ∧
      s.getN Fld.lightScanPeriodNs ≠ 0 ∧ s.light.stage ≠ .wait) ∧
    (let s : State := { (runWith [(Fld.lightEnable, 1), (Fld.lightScanLen, 4), (Fld.lightScanPeriodNs, 1000000)]) with light := { Light.idle with stage := .wait } };
      s.enabledAt Fld.lightEnable = true ∧ s.phase = .running ∧ s.getN Fld.lightScanPeriodNs ≠ 0 ∧
      s.light.stage = .wait) := by
  decide +kernel

/-- States that meet the hypotheses of `Obligations.LightPulsesAndStarts`. -/
theorem witness_LightPulsesAndStarts_1 :
    (let s : State := { (runWith [(Fld.lightEnable, 1)]) with light := { Light.idle with stage := .active, course := some ⟨0, 1, 20000, 2000, 100, false, false⟩, pulses := (Vector.replicate 8 PulseState.none).set 2 .scheduled } };
     let g : GroupId := 2; let k : CourseRun := ⟨0, 1, 20000, 2000, 100, false, false⟩;
      s.light.stage = .active ∧ s.light.pulses[g] = .scheduled ∧ s.light.course = some k) ∧
    (let s : State := { (runWith [(Fld.lightEnable, 1), (Fld.lightDischCode, 77)]) with light := { Light.idle with stage := .active, course := some ⟨0, 1, 20000, 2000, 0, false, true⟩, pulses := (Vector.replicate 8 PulseState.none).set 2 .running } };
     let g : GroupId := 2;
      s.light.stage = .active ∧ s.light.pulses[g] = .running) ∧
    (let s : State := { (runWith [(Fld.lightEnable, 1), (Fld.lightDischCode, 77)]) with light := { Light.idle with stage := .discharge, course := some ⟨0, 1, 20000, 2000, 50, false, true⟩, pulses := (Vector.replicate 8 PulseState.none).set 2 .ended } };
     let k : CourseRun := ⟨0, 1, 20000, 2000, 50, false, true⟩;
      s.light.course = some k ∧ s.light.stage = .discharge) := by
  decide +kernel

/-- States that meet the hypotheses of `Obligations.LightPulsesAndStarts`. -/
theorem witness_LightPulsesAndStarts_2 :
    (let s : State := { (runWith [(Fld.lightEnable, 1), (Fld.lightSls 2, 0x19), (Fld.lightGrpMode 1, 1), (Fld.lightGrpW 1, 1000), (Fld.lightGrpSet 1, 255), (Fld.lightLamp 0, 9)]) with light := { Light.idle with tempValid := true, groupMask := 2, stage := .active, course := some ⟨0, 0, 200000, 2000, 0, false, false⟩, pulses := (Vector.replicate 8 PulseState.none).set 1 .running } };
     let m : Fin 4 := 2; let f := s.getN (Fld.lightSls m.val);
     let k : CourseRun := ⟨0, 0, 200000, 2000, 0, false, false⟩;
      s.light.course = some k ∧ f / 8 % 2 = 1 ∧ s.groupPulses k (f % 8) = true ∧ f / 16 * 5 < s.pulseSpan k (f % 8) ∧
      (∀ x ∈ s.light.issued, x.slot = none → x.due ≠ s.time.ns) ∧
      s.enabledAt Fld.lightEnable = true ∧ s.clocked = true ∧ s.light.tempLost = false ∧ s.boot.started = true ∧
      s.light.tempValid = true) ∧
    (let s : State := { (runWith [(Fld.lightEnable, 1), (Fld.lightSls 2, 0x19), (Fld.lightGrpMode 1, 1), (Fld.lightGrpW 1, 1000), (Fld.lightGrpSet 1, 255), (Fld.lightLamp 0, 9)]) with light := { Light.idle with stage := .active, course := some ⟨0, 0, 200000, 2000, 0, false, false⟩, pulses := (Vector.replicate 8 PulseState.none).set 1 .running, groupMask := 2, lastIssue := 50, issued := [⟨some 0, 0, 20⟩, ⟨none, 0, 50⟩] } };
     let k : CourseRun := ⟨0, 0, 200000, 2000, 0, false, false⟩; let l : List IssuedStart := [⟨some 0, 0, 20⟩];
      s.light.course = some k ∧ s.groupPulses k (0x19 % 8) = true ∧ 0x19 / 16 * 5 < s.pulseSpan k (0x19 % 8) ∧
      s.light.issued = l ++ [⟨none, s.time.ns, s.light.lastIssue⟩] ∧
      (∀ x ∈ l, x.slot = none → x.due ≠ s.time.ns)) ∧
    (let s : State := { runState with pins := { runState.pins with ltEn := true } };
      s.pins.ltEn = true ∧ s.boot.started = true ∧ s.clocked = true) ∧
    (let s : State := { runState with pins := { runState.pins with ltEn := false } };
      s.pins.ltEn = false) ∧
    (let s : State := { (runWith [(Fld.lightEnable, 1), (Fld.lightBoardTemp, 640)]) with light := { Light.idle with darkOpen := true, darkQual := true, tempValid := true, tf := 200, lastIssue := 100 } };
      s.light.darkOpen = true ∧ s.light.darkQual = true ∧ s.light.darkIssued = false ∧ s.boot.started = true ∧
      s.light.tempValid = true ∧ s.light.tempLost = false) := by
  decide +kernel

/-- States that meet the hypotheses of `Obligations.LightFaultsAndTests`. -/
theorem witness_LightFaultsAndTests_1 :
    (let s : State := runState;
      s.light.course = none) ∧
    (let s : State := { { (runWith [(Fld.lightEnable, 1), (Fld.lightLines, 3), (Fld.lightLamp 16, 0x1A), (Fld.lightLamp 17, 0x1A), (Fld.lightLamp 18, 0x1A), (Fld.lightLamp 19, 0x1A), (Fld.lightGrpMode 2, 1), (Fld.lightGrpW 2, 1000), (Fld.lightGrpSet 2, 200), (Fld.lightSenseDlyNs, 100)]) with light := { Light.idle with pulses := (Vector.replicate 8 PulseState.none).set 2 .running, stage := .active, course := some ⟨0, 1, 20000, 2000, 0, false, false⟩ } } with pins := { runState.pins with ltEn := false } };
     let k : CourseRun := ⟨0, 1, 20000, 2000, 0, false, false⟩;
      s.light.course = some k ∧ s.faultsEvaluated = false) ∧
    (let s : State := { (runWith [(Fld.lightEnable, 1), (Fld.lightLines, 3), (Fld.lightLamp 16, 0x1A), (Fld.lightLamp 17, 0x1A), (Fld.lightLamp 18, 0x1A), (Fld.lightLamp 19, 0x1A), (Fld.lightGrpMode 2, 1), (Fld.lightGrpW 2, 1000), (Fld.lightGrpSet 2, 200), (Fld.lightSenseDlyNs, 100)]) with light := { Light.idle with pulses := (Vector.replicate 8 PulseState.none).set 2 .running, stage := .active, course := some ⟨0, 1, 20000, 2000, 0, false, false⟩, codes := [100, 100, 100, 64, 0, 0, 0, 0, 0, 0, 0, 0, 0, 0, 0, 0], opens := [(17, 2)], overs := [(18, 2)] } };
     let g : GroupId := 2; let k : CourseRun := ⟨0, 1, 20000, 2000, 0, false, false⟩;
      s.light.course = some k ∧ s.faultsEvaluated = true ∧ s.groupLit g.val = true ∧ k.dark = false ∧ k.line < 8 ∧
      max 40 (min 1000 (s.getN Fld.lightSenseDlyNs)) + 20 ≤ (if s.getN (Fld.lightGrpMode g.val) = 3 then k.len - k.blank
        else min (s.pulseNs g.val) (k.len - k.blank - s.pulseOfs g.val)) ∧
      (∀ c ∈ [0, 1, 2, 3], s.lampGroup (16 * k.line + c) = g.val ∧ s.lampMember (16 * k.line + c) = true ∧
        64 ≤ (s.light.codes[c]?).getD 0) ∧
      2 ≤ sparseGet (fun _ => 0) s.light.opens 17 ∧ 10 * (4096 * 1000) < 8 * (100 * 1200000) ∧
      2 ≤ sparseGet (fun _ => 0) s.light.overs 18 ∧ 5 * (100 * 1200000) < 4 * (4096 * 50000)) ∧
    (let s : State := { (runWith [(Fld.lightEnable, 1), (Fld.lightLines, 3), (Fld.lightLamp 16, 0x1A), (Fld.lightLamp 17, 0x1A), (Fld.lightLamp 18, 0x1A), (Fld.lightLamp 19, 0x1A), (Fld.lightGrpMode 2, 1), (Fld.lightGrpW 2, 1000), (Fld.lightGrpSet 2, 200), (Fld.lightSenseDlyNs, 100)]) with light := { Light.idle with pulses := (Vector.replicate 8 PulseState.none).set 2 .running, stage := .active, course := some ⟨0, 1, 20000, 2000, 0, false, false⟩, codes := [100, 100, 100, 64, 0, 0, 0, 0, 0, 0, 0, 0, 0, 0, 0, 0], zeros := [(20, 1)] } };
     let k : CourseRun := ⟨0, 1, 20000, 2000, 0, false, false⟩; let col : Fin 16 := 4; let n := 16 * k.line + col.val;
     let zeros := sparseGet (fun _ => 0) s.light.zeros n;
      s.light.course = some k ∧ s.faultsEvaluated = true ∧ s.light.stage = .active ∧ k.dark = false ∧ k.line < 8 ∧
      s.lampFailed (16 * k.line + col.val) = false ∧ s.light.codes[col.val]? = some 0 ∧
      (49 : Int) < (s.light.zeroFrom[col.val]?).getD 0 + 50 ∧ (s.light.zeroFrom[col.val]?).getD 0 + 50 ≤ (50 : Int) ∧
      (if s.light.zeroSeen.getLsbD col.val then zeros else zeros + 1) < 3) ∧
    (let s : State := { (runWith [(Fld.lightEnable, 1), (Fld.lightLines, 3), (Fld.lightLamp 16, 0x1A), (Fld.lightLamp 17, 0x1A), (Fld.lightLamp 18, 0x1A), (Fld.lightLamp 19, 0x1A), (Fld.lightGrpMode 2, 1), (Fld.lightGrpW 2, 1000), (Fld.lightGrpSet 2, 200), (Fld.lightSenseDlyNs, 100)]) with light := { Light.idle with pulses := (Vector.replicate 8 PulseState.none).set 2 .running, stage := .active, course := some ⟨0, 1, 20000, 2000, 0, false, false⟩, codes := [100, 100, 100, 64, 0, 0, 0, 0, 0, 0, 0, 0, 0, 0, 0, 0], zeros := [(20, 2)] } };
     let k : CourseRun := ⟨0, 1, 20000, 2000, 0, false, false⟩; let col : Fin 16 := 4; let n := 16 * k.line + col.val;
     let zeros := sparseGet (fun _ => 0) s.light.zeros n;
      s.light.course = some k ∧ s.faultsEvaluated = true ∧ s.light.stage = .active ∧ k.dark = false ∧ k.line < 8 ∧
      s.lampFailed (16 * k.line + col.val) = false ∧ s.light.codes[col.val]? = some 0 ∧
      (s.light.zeroFrom[col.val]?).getD 0 + 50 ≤ (50 : Int) ∧
      3 ≤ (if s.light.zeroSeen.getLsbD col.val then zeros else zeros + 1)) := by
  decide +kernel

/-- States that meet the hypotheses of `Obligations.LightFaultsAndTests`. -/
theorem witness_LightFaultsAndTests_2 :
    (let c : Fin 16 := 3;
     let s : State := { (runWith [(Fld.lightEnable, 1), (Fld.lightLines, 3)]) with light := { Light.idle with stage := .blank, sweep := some (3, false), course := some ⟨0, 0, 20000, 2000, 0, true, false⟩ } };
     let pin : Fin 40 := 3; let q : Fin 40 := 4; let slot := s.sweepSlot = true ∧ s.activeRole = true;
     let due := s.light.sweepPin = some pin.val ∧ slot;
      slot ∧ s.light.sweep = some (c.val, false) ∧ pin.val = c.val ∧ (due ∨ s.bootPin = some pin.val) ∧
      (pinNeighbours pin.val).contains q.val = true ∧ s.enabledAt Fld.lightEnable = true ∧ s.light.stage ≠ .rest ∧
      s.light.sweep ≠ none) ∧
    (let c : Fin 16 := 3;
     let s : State := { (runWith [(Fld.lightEnable, 1), (Fld.lightLines, 3)]) with light := { Light.idle with stage := .blank, sweep := some (3, true), course := some ⟨0, 0, 20000, 2000, 0, true, false⟩ } };
     let pin : Fin 40 := 19; let slot := s.sweepSlot = true ∧ s.activeRole = true;
      slot ∧ s.light.sweep = some (c.val, true) ∧ pin.val = 16 + c.val ∧ c.val < 15) ∧
    (let c : Fin 16 := 15;
     let s : State := { (runWith [(Fld.lightEnable, 1), (Fld.lightLines, 3)]) with light := { Light.idle with stage := .blank, sweep := some (15, true), course := some ⟨0, 0, 20000, 2000, 0, true, false⟩ } };
     let pin : Fin 40 := 31; let slot := s.sweepSlot = true ∧ s.activeRole = true;
      slot ∧ s.light.sweep = some (c.val, true) ∧ pin.val = 16 + c.val ∧ c.val = 15) ∧
    (let s : State := { (runWith [(Fld.lightEnable, 1), (Fld.lightLines, 3)]) with phase := .booting, boot := { runState.boot with neighDone := false, neighLeft := [33] }, pins := { runState.pins with ltEn := true } };
     let pin : Fin 40 := 33; let slot := s.sweepSlot = true ∧ s.activeRole = true;
     let due := s.light.sweepPin = some pin.val ∧ slot;
      s.bootPin = some pin.val ∧ (¬ due)) ∧
    (let s : State := runState; let pin : Fin 40 := 3;
     let due := s.light.sweepPin = some pin.val ∧ s.sweepSlot = true ∧ s.activeRole = true;
      s.bootPin ≠ some pin.val ∧ (¬ due)) ∧
    (let s : State := { (runWith [(Fld.lightEnable, 1), (Fld.lightLines, 3)]) with light := { Light.idle with stage := .active } };
      s.enabledAt Fld.lightEnable = true ∧ s.light.stage ≠ .rest ∧ s.light.sweep = none) := by
  decide +kernel

/-- States that meet the hypotheses of `Obligations.ConverterWrites`. -/
theorem witness_ConverterWrites_1 :
    (let s : State := (runWith [(Fld.adcRefEn .a, 1)]); let t : TrowelId := 1; let c : Conv := .a; let v : Word := 1;
      takes s t (Fld.adcEnable c) = true ∧ ((∀ p ∈ s.shadow, p.addr ≠ Fld.adcEnable c)) ∧ v.getLsbD 0 = true ∧
      s.adcOn c = false) ∧
    (let s : State := { (runWith [(Fld.adcEnable .a, 1), (Fld.adcRefEn .a, 1)]) with adcA := { Adc.idle with refReady := true, urgPend := true, conv := some ⟨1, .urgent, false⟩, work := [⟨.urgent, []⟩], calWaits := true } };
     let t : TrowelId := 1; let c : Conv := .a; let v : Word := 0;
      takes s t (Fld.adcEnable c) = true ∧ ((∀ p ∈ s.shadow, p.addr ≠ Fld.adcEnable c)) ∧ v.getLsbD 0 = false ∧
      s.adcOn c = true ∧ takes s t (Fld.adcRefEn c) = true ∧ s.getB (Fld.adcRefEn c) 0 = true) ∧
    (let s : State := runState; let t : TrowelId := 1; let c : Conv := .a; let v : Word := 1;
      takes s t (Fld.adcRefEn c) = true ∧ v.getLsbD 0 = true) ∧
    (let s : State := { (runWith [(Fld.adcEnable .a, 1), (Fld.adcRefEn .a, 1)]) with adcA := { Adc.idle with settling := true } };
     let c : Conv := .a;
      (s.adc c).settling = true ∧ s.getB (Fld.adcRefEn c) 0 = true) := by
  decide +kernel

/-- States that meet the hypotheses of `Obligations.ConverterWrites`. -/
theorem witness_ConverterWrites_2 :
    (let s : State := { runState with adcA := { Adc.idle with acc := (Vector.replicate 16 ⟨0, 0, 0, 0, false, false⟩).set 3 ⟨-5, 2, -131072, 131071, true, true⟩ } };
     let t : TrowelId := 1; let c : Conv := .a;
      takes s t (Fld.adcAccSnap c) = true ∧ s.shadow = [] ∧ takes s t (Fld.adcAccClear c) = true) := by
  decide +kernel

/-- States that meet the hypotheses of `Obligations.SequencesAndCalibration`. -/
theorem witness_SequencesAndCalibration :
    (let s : State := (runWith [(Fld.adcEnable .a, 1)]); let t : TrowelId := 1; let c : Conv := .a; let x := s.adc c;
      (s.adcTakes c = true ∨ s.calibratesNow c = true) ∧ takes s t (Fld.adcSeqGo c) = true ∧ s.shadowWf = true ∧ s.pinsAct = true ∧
      takes s t (Fld.adcCalGo c) = true ∧ x.calibrating = false ∧ x.conv = none) ∧
    (let s : State := { (runWith [(Fld.adcEnable .a, 1), (Fld.adcEntry .a 2, 0x800), (Fld.adcEntry .a 5, 0x801)]) with adcA := { Adc.idle with conv := some ⟨1, .urgent, false⟩, work := [⟨.urgent, []⟩] } };
     let t : TrowelId := 1; let c : Conv := .a; let x := s.adc c;
      (s.adcTakes c = true ∨ s.calibratesNow c = true) ∧ takes s t (Fld.adcCalGo c) = true ∧ x.calibrating = false ∧
      x.conv.isSome = true) ∧
    (let s : State := { runState with adcA := { Adc.idle with calibrating := true } }; let t : TrowelId := 1; let c : Conv := .a;
      s.adcTakes c = false ∧ s.calibratesNow c = true ∧ takes s t (Fld.adcSeqGo c) = true ∧ s.shadowWf = true ∧
      s.pinsAct = true) := by
  decide +kernel

/-- States that meet the hypotheses of `Obligations.Conversions`. -/
theorem witness_Conversions_1a :
    (let c : Conv := .a; let s : State := (runWith [(Fld.adcEnable .a, 1), (Fld.adcEnable .b, 1)]);
      s.adcTakes c = true ∧ s.pinsAct = true ∧ (s.getB (Fld.adcUrgEntry c) 4 = false ∨ (s.adc c).calibrating = true) ∧
      ¬ (s.light.issued.any (s.startDue (some 1)) = true) ∧ ¬ (s.light.issued.any (s.startDue none) = true)) ∧
    (let s : State := { runWith [(Fld.adcEnable .a, 1)] with light := { Light.idle with issued := [⟨none, 0, 0⟩] } };
      s.light.issued.any (s.startDue none) = true ∧ s.calibratesNow .a = false ∧ s.sourceEntries .a .dark = []) ∧
    (let c : Conv := .a;
     let s : State := { (runWith [(Fld.adcEnable .a, 1), (Fld.adcUrgEntry .a, 0x17), (Fld.adcEntry .a 2, 0x3000), (Fld.adcEntry .a 5, 0x3001), (Fld.adcEntry .a 9, 0x1800), (Fld.adcEntry .a 10, 0x1801)]) with light := { Light.idle with issued := [⟨some 1, 0, 0⟩, ⟨none, 0, 0⟩] } };
     let m : Fin 4 := 1;
     let idle := fun (c : Conv) => (s.adc c).calibrating = false ∧ (s.adc c).conv = none ∧ (s.adc c).work = [] ∧ (s.adc c).urgPend = false ∧ (s.adc c).strobePend = 0 ∧ (s.adc c).darkPend = false;
      s.adcTakes c = true ∧ s.pinsAct = true ∧ s.getB (Fld.adcUrgEntry c) 4 = true ∧ idle c ∧ s.adcTakes .a = true ∧
      idle .a ∧ s.amb.running = false ∧ s.sourceEntries .a (.strobe m) ≠ [] ∧
      s.light.issued.any (s.startDue (some m)) = true) ∧
    (let c : Conv := .a;
     let s : State := { (runWith [(Fld.adcEnable .a, 1), (Fld.adcUrgEntry .a, 0x17), (Fld.adcEntry .a 2, 0x3000), (Fld.adcEntry .a 5, 0x3001), (Fld.adcEntry .a 9, 0x1800), (Fld.adcEntry .a 10, 0x1801)]) with adcA := { Adc.idle with urgPend := true, refReady := true } };
      s.adcTakes c = true ∧ s.pinsAct = true ∧ s.getB (Fld.adcUrgEntry c) 4 = true ∧ (s.adc c).calibrating = false ∧
      (s.adc c).urgPend = true) ∧
    (let c : Conv := .a;
     let s : State := { (runWith [(Fld.adcEnable .a, 1), (Fld.adcUrgEntry .a, 0x17), (Fld.adcEntry .a 2, 0x3000), (Fld.adcEntry .a 5, 0x3001), (Fld.adcEntry .a 9, 0x1800), (Fld.adcEntry .a 10, 0x1801)]) with adcA := { Adc.idle with conv := some ⟨3, .urgent, false⟩ } };
     let k : Conversion := ⟨3, .urgent, false⟩;
      s.adcTakes c = true ∧ s.pinsAct = true ∧ s.getB (Fld.adcUrgEntry c) 4 = true ∧ (s.adc c).calibrating = false ∧
      (s.adc c).urgPend = false ∧ (s.adc c).conv = some k ∧ k.src ≠ .seq) ∧
    (let s : State := { (runWith [(Fld.adcEnable .a, 1), (Fld.adcUrgEntry .a, 0x17), (Fld.adcEntry .a 2, 0x3000), (Fld.adcEntry .a 5, 0x3001), (Fld.adcEntry .a 9, 0x1800), (Fld.adcEntry .a 10, 0x1801)]) with adcA := { Adc.idle with calibrating := true }, light := { Light.idle with issued := [⟨some 1, 0, 0⟩, ⟨none, 0, 0⟩] } };
      s.light.issued.any (s.startDue (some 1)) = true ∧ s.light.issued.any (s.startDue none) = true ∧
      s.calibratesNow .a = true ∧ s.boot.started = true) := by
  decide +kernel

/-- States that meet the hypotheses of `Obligations.Conversions`. -/
theorem witness_Conversions_1b :
    (let s : State := { (runWith [(Fld.adcEnable .a, 1), (Fld.adcUrgEntry .a, 0x17), (Fld.adcEntry .a 2, 0x3000), (Fld.adcEntry .a 5, 0x3001), (Fld.adcEntry .a 9, 0x1800), (Fld.adcEntry .a 10, 0x1801)]) with light := { Light.idle with issued := [⟨some 1, 0, 0⟩, ⟨none, 0, 0⟩] } };
     let idle := fun (c : Conv) => (s.adc c).calibrating = false ∧ (s.adc c).conv = none ∧ (s.adc c).work = [] ∧ (s.adc c).urgPend = false ∧ (s.adc c).strobePend = 0 ∧ (s.adc c).darkPend = false;
      s.light.issued.any (s.startDue none) = true ∧ s.adcTakes .a = true ∧ idle .a ∧ s.sourceEntries .a .dark ≠ []) := by
  decide +kernel

/-- States that meet the hypotheses of `Obligations.Conversions`. -/
theorem witness_Conversions_2 :
    (let s : State := { (runWith [(Fld.adcEnable .a, 1)]) with adcA := { Adc.idle with conv := some ⟨3, .urgent, true⟩ } };
     let c : Conv := .a; let k : Conversion := ⟨3, .urgent, true⟩;
      s.phase = .running ∧ (s.adc c).conv = some k ∧ (s.adc c).calWaits = false ∧ (s.adc c).work = [] ∧
      (s.adc c).pendingAbove 5 = none ∧ k.unref = true ∧ k.src ≠ .dark) ∧
    (let s : State := { (runWith [(Fld.adcEnable .a, 1), (Fld.adcEntry .a 3, 0x30000)]) with adcA := { Adc.idle with conv := some ⟨3, .seq, false⟩, acc := (Vector.replicate 16 ⟨0, 0, 0, 0, false, false⟩).set 3 ⟨549755813887, 16777214, -7, 9, false, true⟩ } };
     let c : Conv := .a; let k : Conversion := ⟨3, .seq, false⟩; let x := s.adc c;
     let j : Fin 16 := Fin.ofNat 16 (s.entryAcc c k.entry); let a := x.acc[j];
      s.phase = .running ∧ (s.adc c).conv = some k ∧ (s.adc c).calWaits = false ∧ (s.adc c).work = [] ∧
      (s.adc c).pendingAbove 5 = none ∧ k.unref = false ∧ s.asStandby = false ∧ a.sat = false) ∧
    (let s : State := { (runWith [(Fld.adcEnable .a, 1)]) with adcA := { Adc.idle with conv := some ⟨3, .dark, true⟩ } };
     let c : Conv := .a; let k : Conversion := ⟨3, .dark, true⟩;
      s.phase = .running ∧ (s.adc c).conv = some k ∧ (s.adc c).calWaits = false ∧ (s.adc c).work = [] ∧
      (s.adc c).pendingAbove 5 = none ∧ k.unref = true ∧ k.src = .dark) ∧
    (let s : State := { (runWith [(Fld.adcEnable .a, 1)]) with adcA := { Adc.idle with conv := some ⟨3, .seq, false⟩, acc := Vector.replicate 16 ⟨0, 0, 0, 0, true, true⟩ } };
     let c : Conv := .a; let k : Conversion := ⟨3, .seq, false⟩; let a := (s.adc c).acc[(Fin.ofNat 16 (s.entryAcc c k.entry) : Fin 16)];
      s.phase = .running ∧ (s.adc c).conv = some k ∧ (s.adc c).calWaits = false ∧ (s.adc c).work = [] ∧
      (s.adc c).pendingAbove 5 = none ∧ k.unref = false ∧ (s.asStandby = true ∨ a.sat = true)) ∧
    (let s : State := { (runWith [(Fld.adcEnable .a, 1)]) with adcA := { Adc.idle with conv := some ⟨3, .seq, false⟩, work := [⟨.seq, [4, 5]⟩] } };
     let c : Conv := .a; let k : Conversion := ⟨3, .seq, false⟩;
      s.phase = .running ∧ (s.adc c).conv = some k ∧ (s.adc c).calWaits = false ∧ (s.adc c).work = ⟨k.src, 4 :: [5]⟩ :: [] ∧
      (s.adc c).pendingAbove k.src.prio = none) := by
  decide +kernel

/-- States that meet the hypotheses of `Obligations.CameraReceivers`. -/
theorem witness_CameraReceivers :
    (let s : State := runState; let t : TrowelId := 2; let p : PortId := 0; let v : Word := 1;
      takes s t (Fld.csiEnable p) = true ∧ ((∀ q ∈ s.shadow, q.addr ≠ Fld.csiEnable p)) ∧ v.getLsbD 0 = true ∧
      s.enabledAt (Fld.csiEnable p) = false ∧ takes s t (Fld.csiVcEn p) = true ∧
      ((∀ q ∈ s.shadow, q.addr ≠ Fld.csiVcEn p))) ∧
    (let s : State := { { (runWith [(Fld.csiEnable 0, 1), (Fld.csiVcEn 0, 3)]) with frames := [sFrame] } with ports := runState.ports.set 0 { Port.idle with powered := true, openVc := [(1, [4])] } };
     let t : TrowelId := 2; let p : PortId := 0; let v : Word := 0; let x := s.ports[p];
      takes s t (Fld.csiEnable p) = true ∧ ((∀ q ∈ s.shadow, q.addr ≠ Fld.csiEnable p)) ∧ v.getLsbD 0 = false ∧
      s.enabledAt (Fld.csiEnable p) = true ∧ x.powered = true) ∧
    (let s : State := { (runWith [(Fld.csiEnable 0, 1), (Fld.csiLanes 0, 4)]) with ports := runState.ports.set 0 { Port.idle with powered := true } };
     let p : PortId := 0; let lane : Fin 5 := 0;
      (s.ports[p]).powered = true ∧ (lane = 4 ∨ lane.val < min (s.strapLanes p) (s.getN (Fld.csiLanes p)))) ∧
    (let s : State := { runWith [(Fld.csiLanes 0, 2)] with ports := runState.ports.set 0 { Port.idle with powered := true } };
     let p : PortId := 0; let lane : Fin 5 := 2; let x := s.ports[p];
      x.powered = false ∨ ¬ (lane = 4 ∨ lane.val < min (s.strapLanes p) (s.getN (Fld.csiLanes p)))) := by
  decide +kernel

/-- States that meet the hypotheses of `Obligations.FrameStartsAndEnds`. -/
theorem witness_FrameStartsAndEnds :
    (let s : State := { (runWith [(Fld.csiEnable 0, 1), (Fld.csiVcEn 0, 3)]) with ports := runState.ports.set 0 { Port.idle with powered := true, usable := true } };
     let p : PortId := 0; let vc : Fin 16 := 5; let x := s.ports[p];
      x.powered = true ∧ (s.getF (Fld.csiVcEn p)).getLsbD vc.val = false) ∧
    (let s : State := { (runWith [(Fld.csiEnable 0, 1), (Fld.csiVcEn 0, 3)]) with ports := runState.ports.set 0 { Port.idle with powered := true } };
     let p : PortId := 0; let vc : Fin 16 := 1; let x := s.ports[p];
     let on := x.powered = true ∧ (s.getF (Fld.csiVcEn p)).getLsbD vc.val = true;
      on ∧ x.usable = false ∧ x.openOn vc = none ∧ x.late.contains vc = false) ∧
    (let s : State := { (runWith [(Fld.csiEnable 0, 1), (Fld.csiVcEn 0, 3), (Fld.ctxEnable 2, 1), (Fld.ctxSrc 2, 0xA84)]) with ports := runState.ports.set 0 { Port.idle with powered := true, usable := true } };
     let p : PortId := 0; let vc : Fin 16 := 1; let x := s.ports[p];
     let on := x.powered = true ∧ (s.getF (Fld.csiVcEn p)).getLsbD vc.val = true;
      on ∧ x.usable = true ∧ x.openOn vc = none) ∧
    (let s : State := { { (runWith [(Fld.csiEnable 0, 1), (Fld.csiVcEn 0, 3), (Fld.ctxEnable 2, 1), (Fld.ctxSrc 2, 0xA84)]) with frames := [sFrame] } with ports := runState.ports.set 0 { Port.idle with powered := true, usable := true, openVc := [(1, [4])] } };
     let p : PortId := 0; let vc : Fin 16 := 1; let x := s.ports[p];
     let on := x.powered = true ∧ (s.getF (Fld.csiVcEn p)).getLsbD vc.val = true; let ids : List Nat := [4];
      on ∧ x.usable = true ∧ x.openOn vc = some ids ∧ ids ≠ []) ∧
    (let s : State := { { (runWith [(Fld.csiEnable 0, 1), (Fld.csiVcEn 0, 3), (Fld.ctxEnable 2, 1), (Fld.ctxSrc 2, 0xA84)]) with frames := [sFrame] } with ports := runState.ports.set 0 { Port.idle with powered := true, usable := true, late := [1, 2] } };
     let p : PortId := 0; let vc : Fin 16 := 1; let x := s.ports[p];
     let on := x.powered = true ∧ (s.getF (Fld.csiVcEn p)).getLsbD vc.val = true;
      on ∧ x.openOn vc = none ∧ x.late.contains vc = true) := by
  decide +kernel

/-- States that meet the hypotheses of `Obligations.PacketsAndIndices`. -/
theorem witness_PacketsAndIndices_1a :
    (let s : State := { { (runWith [(Fld.csiEnable 0, 1), (Fld.csiVcEn 0, 3)]) with frames := [sFrame] } with ports := runState.ports.set 0 { Port.idle with powered := true, usable := true, openVc := [(1, [4])] } };
     let p : PortId := 0; let x : LongPacket := ⟨1, 0x2A, [1,2,3], false, false, false⟩;
      x.corrected = false ∧ (s.ports[p]).powered = true ∧ (s.ports[p]).usable = true ∧
      (s.getF (Fld.csiVcEn p)).getLsbD x.vc.val = true ∧ (pixelType x.dt = none ∨ s.typeBound p x.vc x.dt = false)) ∧
    (let s : State := { { (runWith [(Fld.csiEnable 0, 1), (Fld.csiVcEn 0, 3), (Fld.ctxEnable 2, 1), (Fld.ctxSrc 2, 0x1A84)]) with frames := [{ sFrame with dt := 0x2B }] } with ports := runState.ports.set 0 { Port.idle with powered := true, usable := true, openVc := [(1, [4])] } };
     let p : PortId := 0; let x : LongPacket := ⟨1, 0x2A, [1,2,3], false, false, false⟩; let y := s.ports[p];
     let open_ := ((y.openOn x.vc).getD []).filterMap s.frame?; let w := (1, 1, 8192);
      x.corrected = false ∧ (s.ports[p]).powered = true ∧ (s.ports[p]).usable = true ∧
      (s.getF (Fld.csiVcEn p)).getLsbD x.vc.val = true ∧ pixelType x.dt = some w ∧ s.typeBound p x.vc x.dt = true ∧
      ((∀ f ∈ open_, f.dt ≠ x.dt))) ∧
    (let s : State := { { (runWith [(Fld.csiEnable 0, 1), (Fld.csiVcEn 0, 3), (Fld.ctxEnable 2, 1), (Fld.ctxSrc 2, 0x1A84)]) with frames := [sFrame] } with ports := runState.ports.set 0 { Port.idle with powered := true, usable := true, openVc := [(1, [4])] } };
     let p : PortId := 0; let x : LongPacket := ⟨1, 0x2A, [1,2,3], false, false, true⟩; let y := s.ports[p];
     let open_ := ((y.openOn x.vc).getD []).filterMap s.frame?; let w := (1, 1, 8192); let f : Frame := sFrame;
      x.corrected = false ∧ (s.ports[p]).powered = true ∧ (s.ports[p]).usable = true ∧
      (s.getF (Fld.csiVcEn p)).getLsbD x.vc.val = true ∧ pixelType x.dt = some w ∧ s.typeBound p x.vc x.dt = true ∧
      open_.find? (fun f => f.dt == x.dt) = some f ∧ f.dropping = false ∧ x.short = true) := by
  decide +kernel

/-- States that meet the hypotheses of `Obligations.PacketsAndIndices`. -/
theorem witness_PacketsAndIndices_1b :
    (let s : State := { { (runWith [(Fld.csiEnable 0, 1), (Fld.csiVcEn 0, 3), (Fld.ctxEnable 2, 1), (Fld.ctxSrc 2, 0x1A84)]) with frames := [sFrame] } with ports := runState.ports.set 0 { Port.idle with powered := true, usable := true, openVc := [(1, [4])], buf := [.emb 261100] } };
     let p : PortId := 0; let x : LongPacket := ⟨1, 0x2A, List.replicate 100 1, false, false, false⟩;
     let y := s.ports[p]; let open_ := ((y.openOn x.vc).getD []).filterMap s.frame?; let w := (1, 1, 8192);
     let f : Frame := sFrame;
      x.corrected = false ∧ (s.ports[p]).powered = true ∧ (s.ports[p]).usable = true ∧
      (s.getF (Fld.csiVcEn p)).getLsbD x.vc.val = true ∧ pixelType x.dt = some w ∧ s.typeBound p x.vc x.dt = true ∧
      open_.find? (fun f => f.dt == x.dt) = some f ∧ f.dropping = false ∧ x.short = false ∧ x.crcBad = false ∧
      y.fits x.payload.length = false) ∧
    (let s : State := { { (runWith [(Fld.csiEnable 0, 1), (Fld.csiVcEn 0, 3), (Fld.ctxEnable 2, 1), (Fld.ctxSrc 2, 0x1A84)]) with frames := [{ sFrame with emb := List.replicate 250 9, lines := 8191 }] } with ports := runState.ports.set 0 { Port.idle with powered := true, usable := true, openVc := [(1, [4])], buf := [.emb 261000] } };
     let p : PortId := 0; let x : LongPacket := ⟨1, 0x2A, List.replicate 100 1, false, false, false⟩;
     let y := s.ports[p]; let open_ := ((y.openOn x.vc).getD []).filterMap s.frame?; let w := (1, 1, 8192);
     let f : Frame := { sFrame with emb := List.replicate 250 9, lines := 8191 }; let id : Nat := 4;
      x.corrected = false ∧ (s.ports[p]).powered = true ∧ (s.ports[p]).usable = true ∧
      (s.getF (Fld.csiVcEn p)).getLsbD x.vc.val = true ∧ pixelType x.dt = some w ∧ s.typeBound p x.vc x.dt = true ∧
      open_.find? (fun f => f.dt == x.dt) = some f ∧ f.dropping = false ∧ x.short = false ∧ x.crcBad = false ∧
      y.fits x.payload.length = true ∧ f.lines < 8192 ∧ f.width = none ∧ x.payload.length % w.1 = 0 ∧
      x.payload.length ≤ w.2.2 ∧ y.openOn x.vc = some [id] ∧ s.frame? id = some f ∧ f.embOn = true) := by
  decide +kernel

/-- States that meet the hypotheses of `Obligations.PacketsAndIndices`. -/
theorem witness_PacketsAndIndices_1c :
    (let s : State := { { (runWith [(Fld.csiEnable 0, 1), (Fld.csiVcEn 0, 3), (Fld.ctxEnable 2, 1), (Fld.ctxSrc 2, 0x1A84)]) with frames := [{ sFrame with width := some 99, embOn := false }] } with ports := runState.ports.set 0 { Port.idle with powered := true, usable := true, openVc := [(1, [4])] } };
     let p : PortId := 0; let x : LongPacket := ⟨1, 0x2A, List.replicate 100 1, false, false, false⟩;
     let y := s.ports[p]; let open_ := ((y.openOn x.vc).getD []).filterMap s.frame?; let w := (1, 1, 8192);
     let f : Frame := { sFrame with width := some 99, embOn := false };
      x.corrected = false ∧ (s.ports[p]).powered = true ∧ (s.ports[p]).usable = true ∧
      (s.getF (Fld.csiVcEn p)).getLsbD x.vc.val = true ∧ pixelType x.dt = some w ∧ s.typeBound p x.vc x.dt = true ∧
      open_.find? (fun f => f.dt == x.dt) = some f ∧ f.dropping = false ∧ x.short = false ∧ x.crcBad = false ∧
      ({ x with crcBad := true }).crcBad = true ∧ y.fits x.payload.length = true ∧ f.lines < 8192 ∧
      f.width = some 99 ∧ pixelCount w.1 w.2.1 x.payload.length ≠ 99 ∧
      y.openOn x.vc = some [4] ∧ (s.frame? 4).all (fun f => !f.embOn) = true) ∧
    (let s : State := { { (runWith [(Fld.csiEnable 0, 1), (Fld.csiVcEn 0, 3), (Fld.ctxEnable 2, 1), (Fld.ctxSrc 2, 0x1A84)]) with frames := [{ sFrame with dropping := true }] } with ports := runState.ports.set 0 { Port.idle with powered := true, usable := true, openVc := [(1, [4])] } };
     let p : PortId := 0; let x : LongPacket := ⟨1, 0x2A, [1,2,3], false, false, false⟩; let y := s.ports[p];
     let open_ := ((y.openOn x.vc).getD []).filterMap s.frame?; let f : Frame := { sFrame with dropping := true };
      x.corrected = false ∧ (s.ports[p]).powered = true ∧ (s.ports[p]).usable = true ∧
      (s.getF (Fld.csiVcEn p)).getLsbD x.vc.val = true ∧ pixelType x.dt = some (1, 1, 8192) ∧ s.typeBound p x.vc x.dt = true ∧
      open_.find? (fun f => f.dt == x.dt) = some f ∧ f.dropping = true ∧ x.short = false ∧ x.crcBad = false) ∧
    (let s : State := { runState with ports := runState.ports.set 0 { Port.idle with powered := true } }; let p : PortId := 0;
     let x : LongPacket := ⟨1, 0x2A, [1,2,3], true, false, false⟩;
      (s.ports[p]).powered = true ∧ x.corrected = true) ∧
    (let s : State := { { (runWith [(Fld.csiEnable 0, 1), (Fld.csiVcEn 0, 3), (Fld.ctxEnable 2, 1), (Fld.ctxSrc 2, 0x1A84)]) with frames := [sFrame] } with ports := runState.ports.set 0 { Port.idle with powered := true, usable := true } };
     let p : PortId := 0; let x : LongPacket := ⟨1, 0x2A, [1,2,3], false, false, false⟩; let y := s.ports[p];
      x.corrected = false ∧ (s.ports[p]).powered = true ∧ (s.ports[p]).usable = true ∧
      (s.getF (Fld.csiVcEn p)).getLsbD x.vc.val = true ∧ y.openOn x.vc = none) := by
  decide +kernel

/-- States that meet the hypotheses of `Obligations.PacketsAndIndices`. -/
theorem witness_PacketsAndIndices_2 :
    (let s : State := { { (runWith [(Fld.csiEnable 0, 1), (Fld.csiVcEn 0, 3), (Fld.ctxEnable 2, 1), (Fld.ctxSrc 2, 0x1A84)]) with frames := [sFrame] } with ports := runState.ports.set 0 { Port.idle with powered := true, usable := true, openVc := [(1, [4])], descs := [[4], [5]] } };
     let p : PortId := 0; let id : Nat := 4; let r : List (List Nat) := [[5]]; let f : Frame := sFrame;
     let k : CtxId := 2;
      (s.ports[p]).descs = [id] :: r ∧ s.frame? id = some f ∧ s.getB (Fld.ctxFidxMode f.ctx) 0 = false ∧
      s.openFrameOf k = some f) ∧
    (let s : State := runState; let p : PortId := 0; let k : CtxId := 2;
      (s.ports[p]).descs = [] ∧ s.openFrameOf k = none) ∧
    (let f : Frame := { sFrame with fidx := some 1, ts := 77 };
     let s : State := { runWith [(Fld.ctxFeTmoUs 2, 0)] with frames := [f], time := { runState.time with ns := 77 + 10000 }, ports := runState.ports.set 0 { Port.idle with openVc := [(1, [4])] } };
     let k : CtxId := 2;
      s.openFrameOf k = some f ∧ f.fidx.isSome = true ∧ f.ts + 1000 * max 10 (s.getN (Fld.ctxFeTmoUs k)) ≤ s.time.ns) ∧
    (let f : Frame := { sFrame with fidx := some 1, ts := 77 };
     let s : State := { runWith [(Fld.ctxFeTmoUs 2, 0)] with frames := [f], time := { runState.time with ns := 77 + 9999 }, ports := runState.ports.set 0 { Port.idle with openVc := [(1, [4])] } };
     let k : CtxId := 2;
      s.openFrameOf k = some f ∧ (f.fidx = none ∨ s.time.ns < f.ts + 1000 * max 10 (s.getN (Fld.ctxFeTmoUs k)))) := by
  decide +kernel

/-- States that meet the hypotheses of `Obligations.PipelineEnablesAndSlices`. -/
theorem witness_PipelineEnablesAndSlices_1 :
    (let s : State := runState; let t : TrowelId := 2; let k : CtxId := 2; let v : Word := 1;
      takes s t (Fld.ctxEnable k) = true ∧ ((∀ p ∈ s.shadow, p.addr ≠ Fld.ctxEnable k)) ∧ v.getLsbD 0 = true ∧
      takes s t Fld.locEnable = true ∧ ((∀ p ∈ s.shadow, p.addr ≠ Fld.locEnable)) ∧ takes s t Fld.decEnable = true ∧
      ((∀ p ∈ s.shadow, p.addr ≠ Fld.decEnable))) ∧
    (let s : State := { { (runWith [(Fld.csiEnable 0, 1), (Fld.csiVcEn 0, 3), (Fld.ctxEnable 2, 1), (Fld.ctxSrc 2, 0x1A84)]) with frames := [{ sFrame with closed := true }] } with ports := runState.ports.set 0 { Port.idle with powered := true, usable := true, openVc := [(1, [4])] } };
     let t : TrowelId := 2; let k : CtxId := 2; let v : Word := 0;
      takes s t (Fld.ctxEnable k) = true ∧ ((∀ p ∈ s.shadow, p.addr ≠ Fld.ctxEnable k)) ∧ v.getLsbD 0 = false ∧
      ((∀ g ∈ s.frames, g.ctx = k → g.closed = true))) ∧
    (let s : State := { { (runWith [(Fld.csiEnable 0, 1), (Fld.csiVcEn 0, 3), (Fld.ctxEnable 2, 1), (Fld.ctxSrc 2, 0x1A84)]) with frames := [sFrame] } with ports := runState.ports.set 0 { Port.idle with powered := true, usable := true, openVc := [(1, [4])], buf := [.fs [4], .emb 3] } };
     let t : TrowelId := 2; let k : CtxId := 2; let v : Word := 0; let f : Frame := sFrame;
      takes s t (Fld.ctxEnable k) = true ∧ ((∀ p ∈ s.shadow, p.addr ≠ Fld.ctxEnable k)) ∧ v.getLsbD 0 = false ∧
      s.frames = [f] ∧ f.ctx = k ∧ f.closed = false ∧ f.started = false) ∧
    (let s : State := { { (runWith [(Fld.csiEnable 0, 1), (Fld.csiVcEn 0, 3), (Fld.ctxEnable 2, 1), (Fld.ctxSrc 2, 0x1A84)]) with frames := [{ sFrame with started := true }] } with ports := runState.ports.set 0 { Port.idle with powered := true, usable := true, openVc := [(1, [4])], buf := [.fs [4], .emb 3] } };
     let t : TrowelId := 2; let k : CtxId := 2; let v : Word := 0; let f : Frame := { sFrame with started := true };
      takes s t (Fld.ctxEnable k) = true ∧ ((∀ p ∈ s.shadow, p.addr ≠ Fld.ctxEnable k)) ∧ v.getLsbD 0 = false ∧
      s.frames = [f] ∧ f.ctx = k ∧ f.closed = false ∧ f.started = true) ∧
    (let s : State := { { (runWith [(Fld.csiEnable 0, 1), (Fld.csiVcEn 0, 3), (Fld.decEnable, 1), (Fld.ctxEnable 2, 1), (Fld.ctxSrc 2, 0x1A84)]) with frames := [sFrame], dec := { runState.dec with cores := runState.dec.cores.set 2 (.busy ⟨0, 4, 77, ⟨1, [], 16, false⟩, none, false, false, []⟩), ready := [⟨0, 4, 77, ⟨1, [], 16, false⟩, none, false, false, []⟩], jxIn := [(1, [2])] } } with ports := runState.ports.set 0 { Port.idle with powered := true, usable := true, openVc := [(1, [4])] } };
     let t : TrowelId := 2; let v : Word := 0;
      takes s t Fld.decEnable = true ∧ ((∀ p ∈ s.shadow, p.addr ≠ Fld.decEnable)) ∧ v.getLsbD 0 = false ∧
      s.enabledAt Fld.decEnable = true) := by
  decide +kernel

/-- States that meet the hypotheses of `Obligations.PipelineEnablesAndSlices`. -/
theorem witness_PipelineEnablesAndSlices_2a :
    (let s : State := runState; let p : PortId := 0; let y := s.ports[p];
      y.buf = [] ∧ s.nextPort ≠ some p) ∧
    (let s : State := { (runWith []) with ports := runState.ports.set 0 { Port.idle with buf := [.emb 3, .fe [4]] } };
     let p : PortId := 0; let r : List BufItem := [.fe [4]]; let n : Nat := 3; let y := s.ports[p];
      s.nextPort = some p ∧ y.buf = .emb n :: r) ∧
    (let s : State := { { (runWith [(Fld.ctxEnable 2, 1), (Fld.ctxSrc 2, 0x1A84)]) with frames := [sFrame], shadow := [⟨.ctx 2, Fld.ctxRoiX 2, 8, 0⟩, ⟨.scan, Fld.lightBlankNs, 1000, 0⟩] } with ports := runState.ports.set 0 { Port.idle with buf := [.fs [4]] } };
     let p : PortId := 0; let id : Nat := 4; let f : Frame := sFrame; let r : List BufItem := []; let y := s.ports[p];
      s.nextPort = some p ∧ y.buf = .fs [id] :: r ∧ s.frame? id = some f ∧ f.closed = false ∧ f.started = false ∧
      (f.dropping = false ∨ f.overloaded = true)) ∧
    (let s : State := { { (runWith [(Fld.ctxEnable 2, 1), (Fld.ctxSrc 2, 0x1A84)]) with frames := [{ sFrame with damaged := true, truncated := true, overloaded := true, width := some 640, y := 480, fidx := some 3 }] } with ports := runState.ports.set 0 { Port.idle with buf := [.fe [4]] } };
     let p : PortId := 0; let id : Nat := 4;
     let f : Frame := { sFrame with damaged := true, truncated := true, overloaded := true, width := some 640, y := 480, fidx := some 3 };
     let r : List BufItem := []; let y := s.ports[p];
      s.nextPort = some p ∧ y.buf = .fe [id] :: r ∧ s.frame? id = some f ∧ f.closed = false) ∧
    (let s : State := { { (runWith [(Fld.ctxEnable 2, 1), (Fld.ctxSrc 2, 0x1A84)]) with frames := [sFrame] } with ports := runState.ports.set 0 { Port.idle with buf := [.line 4 [1,2] 0] } };
     let p : PortId := 0; let id : Nat := 4; let f : Frame := sFrame; let r : List BufItem := [];
     let b : List Byte := [1,2]; let taken : Nat := 0; let y := s.ports[p];
      y.buf = .line id b taken :: r ∧ s.frame? id = some f ∧ f.closed = false ∧ f.fidx = none) := by
  decide +kernel

/-- States that meet the hypotheses of `Obligations.PipelineEnablesAndSlices`. -/
theorem witness_PipelineEnablesAndSlices_2b :
    (let s : State := { { (runWith [(Fld.ctxEnable 2, 1), (Fld.ctxSrc 2, 0x1A84)]) with frames := [{ sFrame with fidx := some 3, width := some 100, started := true }] } with ports := runState.ports.set 0 { Port.idle with buf := [.line 4 (List.replicate 100 7) 0] } };
     let p : PortId := 0; let id : Nat := 4;
     let f : Frame := { sFrame with fidx := some 3, width := some 100, started := true }; let r : List BufItem := [];
     let b : List Byte := List.replicate 100 7; let taken : Nat := 0; let y := s.ports[p];
     let px := unpackLine f.dt (f.width.getD 0) b;
      s.nextPort = some p ∧ y.buf = .line id b taken :: r ∧ s.frame? id = some f ∧ f.closed = false ∧ f.fidx.isSome = true ∧
      taken + 64 < px.length) ∧
    (let s : State := { { (runWith [(Fld.ctxEnable 2, 1), (Fld.ctxSrc 2, 0x1A84)]) with frames := [{ sFrame with fidx := some 3, width := some 128, started := true }] } with ports := runState.ports.set 0 { Port.idle with buf := [.line 4 (List.replicate 128 7) 64] } };
     let p : PortId := 0; let id : Nat := 4;
     let f : Frame := { sFrame with fidx := some 3, width := some 128, started := true }; let r : List BufItem := [];
     let b : List Byte := List.replicate 128 7; let taken : Nat := 64; let y := s.ports[p];
     let px := unpackLine f.dt (f.width.getD 0) b;
      s.nextPort = some p ∧ y.buf = .line id b taken :: r ∧ s.frame? id = some f ∧ f.closed = false ∧ f.fidx.isSome = true ∧
      px.length ≤ taken + 64 ∧ taken ≤ px.length) := by
  decide +kernel

/-- States that meet the hypotheses of `Obligations.CandidatesAndResults`. -/
theorem witness_CandidatesAndResults_1 :
    (let s : State := { (runWith []) with frames := [{ sFrame with started := true }], shadow := [⟨.dec 2, Fld.decSymOpt 2, 5, 0⟩, ⟨.scan, Fld.lightBlankNs, 900, 0⟩] };
     let k : CtxId := 2; let fidx : Word := 1; let f : Frame := { sFrame with started := true };
      s.frames.find? (fun f => f.ctx == k && f.started && !f.noticed) = some f ∧ s.dec.jxWait = [] ∧
      s.frames.find? (fun f => f.ctx == k && f.fidx == some fidx && f.noticed && !f.passed) = none) ∧
    (let f : Frame := { lFrame with found := [(1, sCand.info.corners)] }; let k : CtxId := 2; let fidx : Word := 1; let x : CandInfo := sCand.info;
     let s : State := { runWith [(Fld.locEnable, 1), (Fld.decEnable, 1)] with frames := [f] };
      s.frames.find? (fun f => f.ctx == k && f.fidx == some fidx && f.noticed && !f.passed) = some f ∧ f.inLimits x = true ∧
      (∃ e ∈ f.found, e.1 = x.sym ∧ sameSymbol e.2 x.corners = true)) ∧
    (let f : Frame := lFrame; let k : CtxId := 2; let fidx : Word := 1; let x : CandInfo := { sCand.info with module := 16 };
     let s : State := { runWith [(Fld.locEnable, 1), (Fld.decEnable, 1)] with frames := [f] };
      s.frames.find? (fun f => f.ctx == k && f.fidx == some fidx && f.noticed && !f.passed) = some f ∧ f.inLimits x = false) ∧
    (let f : Frame := { lFrame with cands := 64 }; let k : CtxId := 2; let fidx : Word := 1; let x : CandInfo := sCand.info;
     let s : State := { runWith [(Fld.locEnable, 1), (Fld.decEnable, 1)] with frames := [f] };
      s.frames.find? (fun f => f.ctx == k && f.fidx == some fidx && f.noticed && !f.passed) = some f ∧ f.inLimits x = true ∧
      s.enabledAt Fld.locEnable = true ∧ s.enabledAt Fld.decEnable = true ∧ x.sym ≠ 0 ∧
      f.symEn.getLsbD (x.sym.toNat - 1) = true ∧ f.polarityOn x = true ∧ f.signed x = true ∧ f.ready x = true ∧ ¬ (∃ e ∈ f.found, e.1 = x.sym ∧ sameSymbol e.2 x.corners = true) ∧
      s.jointOn = false ∧ f.candMax ≤ f.cands) := by
  decide +kernel

/-- States that meet the hypotheses of `Obligations.CandidatesAndResults`. -/
theorem witness_CandidatesAndResults_2 :
    (let f : Frame := { lFrame with cands := 63, found := [(2, sCand.info.corners)] }; let k : CtxId := 2; let fidx : Word := 1; let x : CandInfo := sCand.info;
     let s : State := { runWith [(Fld.locEnable, 1), (Fld.decEnable, 1)] with frames := [f], dec := { State.reset.dec with cores := Vector.replicate 16 (.busy sCand) } };
      s.frames.find? (fun f => f.ctx == k && f.fidx == some fidx && f.noticed && !f.passed) = some f ∧ f.inLimits x = true ∧
      s.enabledAt Fld.locEnable = true ∧ s.enabledAt Fld.decEnable = true ∧ x.sym ≠ 0 ∧
      f.symEn.getLsbD (x.sym.toNat - 1) = true ∧ f.polarityOn x = true ∧ f.signed x = true ∧ f.ready x = true ∧ ¬ (∃ e ∈ f.found, e.1 = x.sym ∧ sameSymbol e.2 x.corners = true) ∧
      s.jointOn = false ∧ f.cands < f.candMax ∧ (∀ i : Fin 16, s.dec.cores[i] ≠ .free)) ∧
    (let f : Frame := lFrame; let k : CtxId := 2; let fidx : Word := 1; let x : CandInfo := sCand.info;
     let s : State := { runWith [(Fld.locEnable, 1), (Fld.decEnable, 1)] with frames := [f], dec := { State.reset.dec with nextCand := 44 } };
      s.frames.find? (fun f => f.ctx == k && f.fidx == some fidx && f.noticed && !f.passed) = some f ∧ f.inLimits x = true ∧
      s.enabledAt Fld.locEnable = true ∧ s.enabledAt Fld.decEnable = true ∧ x.sym ≠ 0 ∧
      f.symEn.getLsbD (x.sym.toNat - 1) = true ∧ f.polarityOn x = true ∧ f.signed x = true ∧ f.ready x = true ∧ ¬ (∃ e ∈ f.found, e.1 = x.sym ∧ sameSymbol e.2 x.corners = true) ∧
      s.jointOn = false ∧ f.cands < f.candMax ∧ s.dec.ready = [] ∧ s.dec.cores[(0 : Fin 16)] = .free) := by
  decide +kernel

/-- States that meet the hypotheses of `Obligations.CandidatesAndResults`. -/
theorem witness_CandidatesAndResults_3 :
    (let i : Fin 16 := 15; let c : Candidate := sCand; let f : Frame := lFrame;
     let s : State := { runWith [(Fld.locEnable, 1), (Fld.decEnable, 1)] with frames := [f], dec := { State.reset.dec with cores := (Vector.replicate 16 Core.free).set 15 (.busy sCand) } };
     let find : StoreFinding := .uncorrectable .nobody; let w : Nat := 21760 * 144 - 1; let reads : List (Nat × StoreFinding) := [];
      s.dec.cores[i] = .busy c ∧ (find = .corrected ∨ w < 21760 * 144) ∧ s.frame? c.fid = some f ∧ c.sender = none ∧
      (∀ x ∈ reads, x.2 = .clean) ∧ s.dec.ready = [] ∧ f.resultOf s.dec.bad c .failed = none) ∧
    (let i : Fin 16 := 15; let c : Candidate := { sCand with sender := some 1 }; let f : Frame := lFrame;
     let s : State := { runWith [(Fld.locEnable, 1), (Fld.decEnable, 1)] with frames := [f], dec := { State.reset.dec with cores := (Vector.replicate 16 Core.free).set 15 (.busy { sCand with sender := some 1 }) } };
      s.dec.cores[i] = .busy c ∧ s.frame? c.fid = some f ∧ c.sender = some 1 ∧ s.dec.ready = []) ∧
    (let i : Fin 16 := 15; let c : Candidate := sCand; let f : Frame := { lFrame with luma := [], rows := 0, syms := 255 };
     let s : State := { runWith [(Fld.locEnable, 1), (Fld.decEnable, 1)] with frames := [f], dec := { State.reset.dec with cores := (Vector.replicate 16 Core.free).set 15 (.busy sCand) } };
      s.dec.cores[i] = .busy c ∧ s.frame? c.fid = some f ∧ c.sender = none ∧ f.syms + f.gragas < 256 ∧
      (f.resultOf s.dec.bad c (.grid sRead)).any (fun r => !r.stitched) = true) ∧
    (let i : Fin 16 := 15; let c : Candidate := sCand; let f : Frame := { lFrame with luma := [], rows := 0, syms := 200, gragas := 56 };
     let s : State := { runWith [(Fld.locEnable, 1), (Fld.decEnable, 1)] with frames := [f], dec := { State.reset.dec with cores := (Vector.replicate 16 Core.free).set 15 (.busy sCand) } };
      s.dec.cores[i] = .busy c ∧ s.frame? c.fid = some f ∧ c.sender = none ∧ s.dec.ready = [] ∧
      256 ≤ f.syms + f.gragas ∧ (f.resultOf s.dec.bad c (.grid sRead)).isSome = true) ∧
    (let s : State := { { (runWith [(Fld.locEnable, 1), (Fld.decEnable, 1)]) with frames := [lFrame], former := { runState.former with results := List.replicate 1024 sResult } } with dec := { State.reset.dec with cores := (Vector.replicate 16 Core.free).set 0 (.holding 4 sResult) } };
     let i : Fin 16 := 0; let fid : Nat := 4; let r : Result := sResult;
      s.dec.cores[i] = .holding fid r ∧ 1024 ≤ s.former.results.length) ∧
    (let s : State := { { (runWith [(Fld.locEnable, 1), (Fld.decEnable, 1), (Fld.wlEnable, 1), (Fld.wlSymMask, 1)]) with frames := [lFrame], former := { runState.former with results := List.replicate 1023 sResult, nextTag := 4095, watch := [payloadDigest 1 [65, 66]] } } with dec := { State.reset.dec with cores := (Vector.replicate 16 Core.free).set 0 (.holding 4 sResult) } };
     let i : Fin 16 := 0; let fid : Nat := 4; let r : Result := sResult;
      s.dec.cores[i] = .holding fid r ∧ s.former.results.length < 1024 ∧ s.dec.ready = []) := by
  decide +kernel

/-- States that meet the hypotheses of `Obligations.DecisionsAndJointExchange`. -/
theorem witness_DecisionsAndJointExchange_1 :
    (let f : Frame := { sFrame with noticed := true, started := true, fidx := some 1, closed := true, slots := [5, 6] };
     let s : State := { (runWith [(Fld.locEnable, 1), (Fld.decEnable, 1)]) with frames := [f] }; let k : CtxId := 2; let fidx : Word := 1;
      s.frames.find? (fun f => f.ctx == k && f.fidx == some fidx && f.closed && f.noticed && !f.passed) = some f ∧
      (∀ e ∈ s.dec.jxFrame, e.1 ≠ f.id) ∧ s.frames.find? (fun f => f.ctx == k) = some f ∧ s.decidable f = false ∧
      (s.enabledAt Fld.locEnable = true ∨ f.passed = true ∨ f.closed = false ∨ f.fidx = none)) ∧
    (let f : Frame := { sFrame with noticed := true, started := true, fidx := some 1, closed := true, slots := [5, 6] };
     let s : State := { (runWith [(Fld.decEnable, 1)]) with frames := [f] }; let k : CtxId := 2;
      s.frames.find? (fun f => f.ctx == k) = some f ∧ s.enabledAt Fld.locEnable = false ∧ f.passed = false ∧
      f.closed = true ∧ f.fidx.isSome = true ∧ (∀ e ∈ s.dec.jxFrame, e.1 ≠ f.id)) ∧
    (let f : Frame := { { sFrame with noticed := true, started := true, fidx := some 1, closed := true, slots := [5, 6] } with passed := true, syms := 3, matches_ := 1 };
     let s : State := { (runWith [(Fld.locEnable, 1), (Fld.decEnable, 1)]) with frames := [f], dec := { State.reset.dec with bad := [6 * 144, 9] } }; let k : CtxId := 2;
      s.frames.find? (fun f => f.ctx == k) = some f ∧ s.decidable f = true) ∧
    (let s : State := { { (runWith [(Fld.locEnable, 1), (Fld.decEnable, 1)]) with vs := { State.reset.vs with decide_ := List.replicate 63 sNotice, nextTag := 4095 } } with dec := { State.reset.dec with notices := [sNotice] } };
     let n : Notice := sNotice; let r : List Notice := [];
      s.dec.notices = n :: r ∧ s.vs.decide_.length < 64) ∧
    (let s : State := { { (runWith [(Fld.locEnable, 1), (Fld.decEnable, 1)]) with vs := { State.reset.vs with decide_ := List.replicate 64 sNotice, nextTag := 4095 } } with dec := { State.reset.dec with notices := [sNotice] } };
     let n : Notice := sNotice; let r : List Notice := [];
      s.dec.notices = n :: r ∧ 64 ≤ s.vs.decide_.length) := by
  decide +kernel

/-- States that meet the hypotheses of `Obligations.DecisionsAndJointExchange`. -/
theorem witness_DecisionsAndJointExchange_2 :
    (let s : State := { (runWith [(Fld.decEnable, 1)]) with dec := { State.reset.dec with jxIn := [(1, [3]), (2, [])] } };
     let src : BitVec 6 := 1; let b : List Byte := [3]; let r : List (BitVec 6 × List Byte) := [(2, [])];
      s.dec.jxIn = (src, b) :: r ∧ s.acceptsJoint (parseJoint src b) = false) ∧
    (let s : State := { { (runWith [(Fld.decEnable, 1), (Fld.morEnable 0, 1), (Fld.ctxHomogEn 0, 1)]) with fab := { State.reset.fab with id := some 0 }, boot := { runState.boot with recipe := some { sRecipe with homographies := [⟨0, 1, 0, [1065353216, 0, 0, 0, 1065353216, 0, 0, 0, 1065353216]⟩] } } } with dec := { State.reset.dec with jxIn := [(1, [3])] } };
     let src : BitVec 6 := 1; let b : List Byte := [3]; let r : List (BitVec 6 × List Byte) := [];
      s.dec.jxIn = (src, b) :: r ∧ s.acceptsJoint (parseJoint src b) = true ∧ s.frames = [] ∧ s.dec.decided = []) ∧
    (let s : State := { (runWith [(Fld.decEnable, 1)]) with dec := { State.reset.dec with jxWait := [sJoint, sJoint] } };
     let m : JointMsg := sJoint; let q : List JointMsg := [sJoint];
      s.dec.jxWait = m :: q) ∧
    (let s : State := { runState with dec := { State.reset.dec with ready := [{ sCand with waits := true }], cores := Vector.replicate 16 (.busy sCand) } };
      (∀ i : Fin 16, s.dec.cores[i] ≠ .free) ∧ s.enabledAt Fld.decEnable = false) ∧
    (let s : State := { (runWith [(Fld.decEnable, 1)]) with dec := { State.reset.dec with scrub := storeWords }, time := { State.reset.time with ns := 9999999 } };
      s.enabledAt Fld.decEnable = true ∧ storeWords ≤ s.dec.scrub ∧
      s.time.ns < s.dec.scrubFrom + 1000000 * max 10 (min 1000 (s.getN Fld.decScrubMs))) := by
  decide +kernel

/-- States that meet the hypotheses of `Obligations.DecisionsAndJointExchange`. -/
theorem witness_DecisionsAndJointExchange_3 :
    (let s : State := { (runWith [(Fld.decEnable, 1), (Fld.decScrubMs, 0)]) with dec := { State.reset.dec with scrub := storeWords }, time := { State.reset.time with ns := 10000000 } };
     let w : Nat := 0;
      s.enabledAt Fld.decEnable = true ∧ storeWords ≤ s.dec.scrub ∧
      s.dec.scrubFrom + 1000000 * max 10 (min 1000 (s.getN Fld.decScrubMs)) ≤ s.time.ns ∧ w < 21760 * 144) ∧
    (let s : State := { (runWith [(Fld.decEnable, 1)]) with dec := { State.reset.dec with scrub := 21760 * 144, ready := [sCand] } };
     let w : Nat := 21760 * 144; let from_ : Nat := 0;
      s.enabledAt Fld.decEnable = true ∧ s.dec.scrub < storeWords ∧ w = s.dec.scrub ∧ from_ = s.dec.scrubFrom ∧
      21760 * 144 ≤ w ∧ s.dec.ready = [sCand] ∧ sCand.sender = none ∧ (∀ i : Fin 16, s.dec.cores[i] = .free)) := by
  decide +kernel

/-- States that meet the hypotheses of `Obligations.VerdictWordsAndDecisions`. -/
theorem witness_VerdictWordsAndDecisions :
    (let s : State := { (runWith []) with vs := { State.reset.vs with decide_ := [sNotice, { sNotice with tag := 4 }], store := [(4097, 0x4003)], owner := [(4097, 1)] } };
     let t : TrowelId := 2; let v : Word := 0x32; let n : Notice := sNotice; let r : List Notice := [{ sNotice with tag := 4 }];
      takes s t Fld.vsDecide = true ∧ s.shadow = [] ∧ s.vs.decide_ = n :: r ∧ v.toNat / 16 % 4096 = n.tag.toNat ∧
      s.lapped n = false ∧ s.validHeld n = false ∧ takes s t Fld.vsPeekAddr = true ∧ s.tap.destroyed = 0) ∧
    (let s : State := { (runWith [(Fld.vsAutoUs, 100), (Fld.vsAutoClass, 2)]) with vs := { State.reset.vs with decide_ := [sNotice], headFrom := 50 } };
     let t : TrowelId := 2; let v : Word := 0x40;
      takes s t Fld.vsDecide = true ∧ s.shadow = [] ∧ (∀ m ∈ s.vs.decide_.head?.toList, v.toNat / 16 % 4096 ≠ m.tag.toNat) ∧
      (s.getN Fld.vsAutoUs = 0 ∨ s.vs.decide_ = [] ∨ s.time.ns < s.vs.headFrom + 1000 * s.getN Fld.vsAutoUs)) ∧
    (let s : State := { (runWith [(Fld.vsAutoUs, 100), (Fld.vsAutoClass, 2)]) with vs := { State.reset.vs with decide_ := [sNotice], headFrom := 50 }, time := { State.reset.time with ns := 100050 } };
      s.getN Fld.vsAutoUs ≠ 0 ∧ s.vs.headFrom + 1000 * s.getN Fld.vsAutoUs ≤ s.time.ns ∧ s.vs.decide_ = sNotice :: []) ∧
    (let s : State := { (runWith []) with vs := { State.reset.vs with decide_ := [sNotice], store := [(4097, 0x4002)], owner := [(4097, 2049)] } };
     let n : Notice := sNotice;
      s.lapped n = true ∨ s.validHeld n = true) := by
  decide +kernel

/-- States that meet the hypotheses of `Obligations.VerdictPort`. -/
theorem witness_VerdictPort :
    (let s : State := { (runWith []) with vs := { State.reset.vs with queue := [(5, 0xF0F0), (6, 1)], dirty := [(7, 1)], act := true } };
     let a : BitVec 14 := 5; let w : BitVec 16 := 0xF0F0; let q : List (BitVec 14 × BitVec 16) := [(6, 1)];
      s.vs.queue = (a, w) :: q) ∧
    (let s : State := { (runWith []) with vs := { State.reset.vs with dirty := [(7, 1), (8, 1)], store := [(7, 3)] } };
     let a : BitVec 14 := 7; let f : Word := 1; let d : List (BitVec 14 × Word) := [(8, 1)];
      s.vs.queue = [] ∧ s.vs.dirty = (a, f) :: d) ∧
    (let s : State := { runState with sys := { runState.sys with straps := runState.sys.straps.set 4 1 }, balls := { runState.balls with ready := true } };
     let o : Option (BitVec 14) := some 5; let b : BitVec 14 := 5;
      o = some b ∧ s.holdsPort = true ∧ (s.vqMode = 1 ∨ s.vqMode = 3)) ∧
    (let s : State := { runState with phase := .halted };
      s.holdsPort = false) := by
  decide +kernel

/-- States that meet the hypotheses of `Obligations.RecordsAndResults`. -/
theorem witness_RecordsAndResults_1 :
    (let s : State := runState; let t : TrowelId := 2; let v : Word := 0; let n := v.toNat % 64;
      takes s t Fld.recHkSend = true ∧ s.shadow = [] ∧ (n = 0 ∨ 32 < n ∨ s.enabledAt Fld.recEnable = false)) ∧
    (let s : State := { (runWith [(Fld.recEnable, 1)]) with pair := { State.reset.pair with mode := .standby } };
     let t : TrowelId := 2; let v : Word := 32; let n := v.toNat % 64;
      takes s t Fld.recHkSend = true ∧ s.shadow = [] ∧ 1 ≤ n ∧ n ≤ 32 ∧ s.enabledAt Fld.recEnable = true ∧ s.holdsRecords = true) ∧
    (let s : State := (runWith [(Fld.recEnable, 1), (Fld.recLinks, 1), (Fld.usbEnable, 1)]); let t : TrowelId := 2;
     let v : Word := 1; let n := v.toNat % 64;
      takes s t Fld.recHkSend = true ∧ s.shadow = [] ∧ 1 ≤ n ∧ n ≤ 32 ∧ s.enabledAt Fld.recEnable = true ∧ s.holdsRecords = false ∧
      s.linkTakes .usb = true ∧ queueFull s.usb.queue (s.hkRecord n s.former.seqNext).length = false) ∧
    (let s : State := (runWith [(Fld.recEnable, 1), (Fld.recLinks, 0)]);
      s.linkTakes .usb = false) := by
  decide +kernel

/-- States that meet the hypotheses of `Obligations.RecordsAndResults`. -/
theorem witness_RecordsAndResults_2 :
    (let s : State := { (runWith []) with former := { State.reset.former with results := [sResult, { sResult with tag := 4 }] } };
     let t : TrowelId := 2; let r : Result := sResult; let q : List Result := [{ sResult with tag := 4 }];
     let v : Word := 0x30;
      takes s t Fld.recResTake = true ∧ s.shadow = [] ∧ s.former.results = r :: q ∧ v.toNat / 16 % 4096 = r.tag.toNat ∧
      v.toNat % 4 = 0) ∧
    (let s : State := { (runWith []) with former := { State.reset.former with results := [sResult, { sResult with tag := 4 }] } };
     let t : TrowelId := 2; let r : Result := sResult; let q : List Result := [{ sResult with tag := 4 }];
     let v : Word := 0x31;
      takes s t Fld.recResTake = true ∧ s.shadow = [] ∧ s.former.results = r :: q ∧ v.toNat / 16 % 4096 = r.tag.toNat ∧
      v.toNat % 4 = 1) ∧
    (let s : State := { (runWith []) with former := { State.reset.former with results := [sResult, { sResult with tag := 4 }] } };
     let t : TrowelId := 2; let r : Result := sResult; let q : List Result := [{ sResult with tag := 4 }];
     let v : Word := 0x32;
      takes s t Fld.recResTake = true ∧ s.shadow = [] ∧ s.former.results = r :: q ∧ v.toNat / 16 % 4096 = r.tag.toNat ∧
      v.toNat % 4 = 2) ∧
    (let s : State := { (runWith []) with former := { State.reset.former with results := [sResult, { sResult with tag := 4 }] } };
     let t : TrowelId := 2; let r : Result := sResult; let q : List Result := [{ sResult with tag := 4 }];
     let v : Word := 0x33;
      takes s t Fld.recResTake = true ∧ s.shadow = [] ∧ s.former.results = r :: q ∧ v.toNat / 16 % 4096 = r.tag.toNat ∧
      v.toNat % 4 = 3) ∧
    (let s : State := { (runWith []) with former := { State.reset.former with results := [sResult] } };
     let t : TrowelId := 2; let v : Word := 0x42;
      takes s t Fld.recResTake = true ∧ s.shadow = [] ∧ v.toNat % 4 = 2 ∧ (0x40#32).toNat % 4 = 0 ∧ (0x41#32).toNat % 4 = 1 ∧
      (∀ x ∈ s.former.results.head?.toList, v.toNat / 16 % 4096 ≠ x.tag.toNat ∧ (0x40#32).toNat / 16 % 4096 ≠ x.tag.toNat ∧
        (0x41#32).toNat / 16 % 4096 ≠ x.tag.toNat)) := by
  decide +kernel

/-- States that meet the hypotheses of `Obligations.UsbAttachmentAndStream`. -/
theorem witness_UsbAttachmentAndStream_1 :
    (let s : State := (runWith [(Fld.usbEnable, 1)]);
      s.usb.attached = false ∧ s.usbRuns = true ∧ s.usbPhase = true) ∧
    (let s : State := (runWith [(Fld.usbEnable, 0)]);
      s.usb.attached = false ∧ s.usbRuns = false) ∧
    (let s : State := uState fun u => { u with busy := true, busyAcked := true, next := 1 }; let t : TrowelId := 3; let v : Word := 0;
      s.usb.attached = true ∧ takes s t Fld.usbEnable = true ∧ s.shadow = [] ∧ v.getLsbD 0 = false) ∧
    (let s : State := { (runWith []) with usb := { State.reset.usb with vbus := true } }; let t : TrowelId := 3; let v : Word := 1;
      takes s t Fld.usbEnable = true ∧ s.shadow = [] ∧ v.getLsbD 0 = true ∧ s.usb.attached = false ∧
      s.usb.vbus = true ∧ s.phase = .running) ∧
    (let s : State := uState fun u => { u with speed := 3, configured := false };
      s.usb.attached = true ∧ s.usb.speed = 3 ∧ s.usb.configured = false) := by
  decide +kernel

/-- States that meet the hypotheses of `Obligations.UsbAttachmentAndStream`. -/
theorem witness_UsbAttachmentAndStream_2 :
    (let s : State := uState fun u => { u with busy := true, queue := qUsb }; let r : QRec := ⟨rec 1, false⟩;
      s.usbStreams = true ∧ s.usb.busy = true ∧ s.usb.queue[s.usb.next]? = some r ∧ s.usb.busyAcked = false) ∧
    (let s : State := uState fun u => { u with busy := true, busyAcked := true, next := 1 }; let r : QRec := ⟨rec 2, false⟩;
      s.usbStreams = true ∧ s.usb.busy = true ∧ s.usb.queue[s.usb.next]? = some r ∧ s.usb.busyAcked = true) ∧
    (let s : State := uState id;
      s.usbStreams = false ∨ (s.usb.busy = false ∧ s.fab.fwdBusy = false)) ∧
    (let s : State := uState fun u => { u with speed := 3, taps := [⟨none, 0, false, [1, 2]⟩, ⟨none, 0, false, [2, 2]⟩] };
      s.tapDestLive none = true ∧ (∀ p ∈ s.usb.taps, p.dest = none ∧ byteAt p.bytes 0 ≠ 3)) ∧
    (let y : TapPkt := ⟨none, 0, false, [3]⟩; let a : List TapPkt := [⟨none, 0, false, [1, 2]⟩]; let b : List TapPkt := [⟨none, 1, false, [1, 2]⟩];
     let s : State := uState fun u => { u with speed := 3, taps := a ++ y :: b };
      s.tapDestLive none = true ∧ s.usb.taps = a ++ y :: b ∧ (∀ p ∈ s.usb.taps, p.dest = none) ∧
      (∀ p ∈ a, byteAt p.bytes 0 ≠ 3) ∧ byteAt y.bytes 0 = 3) ∧
    (let s : State := uState fun u => { u with speed := 3 };
      s.usb.attached = true ∧ s.usb.testMode = 0 ∧ s.usb.configured = true ∧ s.tapDescribed = true) := by
  decide +kernel

/-- States that meet the hypotheses of `Obligations.UsbRequests`. -/
theorem witness_UsbRequests_1 :
    (let s : State := uState id; let r : VendorSetup := ⟨true, 6, 0x77, 0, 0, 32⟩; let k : Byte := 1; let i : Byte := 0;
     let d := s.deviceDescriptor;
      s.usb.attached = true ∧ s.usb.testMode = 0 ∧ s.descriptor k i = some d ∧ s.usb.configured = true ∧
      requestSound s r = false ∧ (r.dirIn = true ∨ r.len ≠ 4) ∧ s.usb.speed = 2 ∧ 1 ≤ k.toNat ∧ k.toNat ≤ 5) ∧
    (let s : State := uState fun u => { u with configured := false, speed := 3 }; let r : VendorSetup := ⟨false, 3, 0x77, 0, 0, 5⟩;
     let k : Byte := 3; let i : Byte := 9;
      s.usb.attached = true ∧ s.usb.testMode = 0 ∧ s.descriptor k i = none ∧ (r.dirIn = false ∨ r.len ≠ 32) ∧
      r.len.toNat % 16 ≠ 0 ∧ s.usb.configured = false ∧ s.usb.speed ≠ 2) ∧
    (let s : State := uState id; let r : VendorSetup := ⟨true, 4, 0x77, 0, 0, 4097⟩;
      s.usb.attached = true ∧ s.usb.testMode = 0 ∧ 4096 < r.len.toNat) := by
  decide +kernel

/-- States that meet the hypotheses of `Obligations.UsbRequests`. -/
theorem witness_UsbRequests_2 :
    (let s : State := uState id; let t : TrowelId := 3; let r : VendorSetup := ⟨true, 1, 0x77, 3, 0, 32⟩;
      s.usb.attached = true ∧ s.usb.testMode = 0 ∧ s.phase ≠ .halted ∧ r.dirIn = true ∧ r.len = 32 ∧ 16 ≤ r.len.toNat ∧
      r.len.toNat ≤ 4096 ∧ r.len.toNat % 16 = 0 ∧ takes s t Fld.usbReqNoteAck = true ∧ s.shadow = [] ∧
      (r.session = 0 ∨ r.session ≠ s.usb.session ∨ ∀ e ∈ s.usb.cache, e.session = r.session → e.tag ≠ r.tag)) ∧
    (let s : State := uState id; let r : VendorSetup := ⟨false, 3, 0x77, 0, 0, 4⟩;
      s.usb.attached = true ∧ s.usb.testMode = 0 ∧ s.phase ≠ .halted ∧ r.dirIn = false ∧ r.len = 4 ∧ r.session = 0 ∧
      (s.activeRole = false ∨ (∀ e ∈ s.usb.queue, e.sent = false))) ∧
    (let s : State := uState fun u => { u with sentSeq := 1, next := 1, queue := [⟨rec 1, true⟩, ⟨rec 2, false⟩] };
     let r : VendorSetup := ⟨false, 3, 0x77, 0, 0, 4⟩; let n : Word := 1; let m := if precedes s.usb.sentSeq n then s.usb.sentSeq else n;
      s.usb.attached = true ∧ s.usb.testMode = 0 ∧ s.phase ≠ .halted ∧ r.dirIn = false ∧ r.len = 4 ∧ r.session = 0 ∧
      s.activeRole = true ∧ s.usb.busy = false ∧ (∀ e ∈ s.usb.queue.head?.toList, precedes m (recSeq e.bytes) = false)) ∧
    (let r : VendorSetup := ⟨true, 5, 0x77, 3, 0, 32⟩;
     let e : CacheEntry := ⟨3, 0x77, setupBytes { r with request := 5 } ++ [], [9], true⟩;
     let s : State := uState fun u => { u with session := 3, cache := [e] };
      s.usb.attached = true ∧ s.usb.testMode = 0 ∧ s.phase ≠ .halted ∧ r.session ≠ 0 ∧ r.session = s.usb.session ∧
      s.usb.cache.find? (fun e => e.session == r.session && e.tag == r.tag) = some e ∧ e.complete = true ∧
      e.setup = setupBytes { r with request := 5 } ++ [] ∧ r.dirIn = true ∧ r.len.toNat % 16 = 0) := by
  decide +kernel

/-- States that meet the hypotheses of `Obligations.SerialSendingAndCounts`. -/
theorem witness_SerialSendingAndCounts_1 :
    (let s : State := lState false fun x => { x with responses := [⟨1, [1], [2]⟩] }; let x := s.ser;
      s.serLive = true ∧ (x.phase = .idle ∨ x.phase = .retry) ∧ x.responses ≠ []) ∧
    (let s : State := lState false fun x => { x with phase := .retry }; let e : SerRec := eSer 1; let x := s.ser;
      s.serLive = true ∧ (x.phase = .idle ∨ x.phase = .retry) ∧ x.responses = [] ∧
      x.queue[x.next]? = some e ∧ e.wire = none) ∧
    (let s : State := lState false fun x => { x with queue := [eWire 1] }; let e : SerRec := eWire 1; let x := s.ser;
      s.serLive = true ∧ (x.phase = .idle ∨ x.phase = .retry) ∧ x.responses = [] ∧
      x.queue[x.next]? = some e ∧ e.wire.isSome = true) ∧
    (let s : State := lState false fun x => { x with next := 2 }; let x := s.ser;
      s.serLive = true ∧ (x.phase = .idle ∨ x.phase = .retry) ∧ x.responses = [] ∧ x.queue[x.next]? = none) ∧
    (let s : State := lState true fun x => { x with phase := .record, queue := [eWire 1] }; let x := s.ser;
      s.serLive = true ∧ s.serParty = true ∧ x.phase = .record ∧ x.withdrawn = false ∧
      (frameLevels s.serInverse s.serFrameOut)[0]? = some false ∧ (frameLevels s.serInverse s.serFrameOut)[11]? = some true ∧
      (frameLevels s.serInverse s.serFrameOut)[13]? = some true ∧ (frameLevels s.serInverse s.serFrameOut)[9999]? = none) := by
  decide +kernel

/-- States that meet the hypotheses of `Obligations.SerialSendingAndCounts`. -/
theorem witness_SerialSendingAndCounts_2 :
    (let s : State := lState true fun x => { x with phase := .record, queue := [eWire 1] }; let e : SerRec := eWire 1; let x := s.ser;
      s.serLive = true ∧ x.phase = .record ∧ x.withdrawn = false ∧ x.queue[x.next]? = some e ∧ s.serParty = true) ∧
    (let s : State := lState false fun x => { x with phase := .record, sentSeq := 5, restartDue := true, queue := [eWire 1] };
     let e : SerRec := eWire 1; let x := s.ser;
      s.serLive = true ∧ x.phase = .record ∧ x.withdrawn = false ∧ x.queue[x.next]? = some e ∧ s.serParty = false ∧
      s.getB Fld.serP2pAck 0 = false ∧ s.pair.mode = .solo) ∧
    (let b := lState false fun x => { x with phase := .record, queue := [eWire 1] }; let s := b.setF Fld.serP2pAck 1;
     let e : SerRec := eWire 1; let x := s.ser;
      s.serLive = true ∧ x.phase = .record ∧ x.withdrawn = false ∧ x.queue[x.next]? = some e ∧ s.serParty = false ∧
      s.getB Fld.serP2pAck 0 = true ∧ x.lateCancel = false) ∧
    (let s : State := lState true fun x => { x with phase := .window, noListener := true, backoffMs := 512 }; let x := s.ser;
      s.serLive = true ∧ x.phase = .window ∧ x.lateCancel = false ∧ x.noListener = true) ∧
    (let s : State := lState true fun x => { x with phase := .window, retries := 2 }; let x := s.ser;
      s.serLive = true ∧ x.phase = .window ∧ x.lateCancel = false ∧ x.noListener = false ∧ x.retries < 3) ∧
    (let s : State := lState true fun x => { x with phase := .window, retries := 3 }; let x := s.ser;
      s.serLive = true ∧ x.phase = .window ∧ x.lateCancel = false ∧ x.noListener = false ∧ 3 ≤ x.retries) ∧
    (let s : State := lState true fun x => { x with phase := .backoff };
      s.serLive = true ∧ s.ser.phase = .backoff) := by
  decide +kernel

/-- States that meet the hypotheses of `Obligations.SerialSendingAndCounts`. -/
theorem witness_SerialSendingAndCounts_3 :
    (let s : State := lState false id; let chars : List (Nat × Byte) := [(20, 0x85), (0, 2), (0, 4), (0, 1)];
      s.serAwake = true ∧ framesOf chars = [[0x85, 2, 4, 1]] ∧ 0 < frameLack [0x85, 2, 4, 1] ∧ 12 ≤ 12 ∧ 11 < 12 ∧
      s.bbWrites = true ∧ s.bb.queue.length < 32) ∧
    (let s : State := lState false id; let c : List Bool := charLevels s.serInverse 0x43;
     let ticks := fun (l : List Bool) => l.flatMap (List.replicate 16);
      s.serAwake = true ∧ readChar s.serInverse (ticks c) = .byte 0x43 ∧
      readChar s.serInverse (ticks (c.set 10 false)) = .framing ∧ readChar s.serInverse (ticks (c.set 9 (!(c.getD 9 false)))) = .parity) ∧
    (let s : State := lState false id; let l := serFrame 0x85 6 [1, 2];
      s.serAwake = true ∧ frameLack l = 0 ∧ parseFrame l = some (0x85, 6, [1, 2]) ∧ 5 < (6#8).toNat ∧
      parseFrame (serFrame 0x85 2 [1, 2]) = some (0x85, 2, [1, 2]) ∧ frameLack (l.set 3 9) = 0 ∧ parseFrame (l.set 3 9) = none) := by
  decide +kernel

/-- States that meet the hypotheses of `Obligations.SerialAcknowledgementAndCancel`. -/
theorem witness_SerialAcknowledgementAndCancel_1 :
    (let s : State := lState false id; let t : TrowelId := 3; let v : Word := 1; let addr : Byte := 0x81;
      s.serMine addr = false ∧ takes s t Fld.serEnable = true ∧ s.shadow = [] ∧ v.getLsbD 0 = true ∧ s.strap 10 ≠ 0 ∧
      takes s t Fld.serReqNoteAck = true ∧ takes s t Fld.serCancel = true ∧ s.ser.phase ≠ .record ∧
      (v.getLsbD 16 = false ∨ s.ser.queue = [])) ∧
    (let s : State := lState false fun x => { x with noListener := true, phase := .backoff };
      s.serMine 0x85 = true ∧ s.ser.noListener = true) ∧
    (let e : SerRec := { eSer 1 with sent := true };
     let s : State := lState false fun x => { x with queue := [e], next := 1, sentSeq := 1 }; let x := s.ser; let n : Word := 1;
     let m := if precedes x.sentSeq n then x.sentSeq else n;
      s.serMine 0x85 = true ∧ x.noListener = false ∧ (x.phase = .idle ∨ x.phase = .response) ∧
      (∀ h ∈ x.queue.head?.toList, precedes m (recSeq h.rec2) = false) ∧ s.serParty = false ∧ x.phase ≠ .record) ∧
    (let e : SerRec := { eSer 1 with sent := true };
     let s : State := lState true fun x => { x with queue := [e, eSer 2], phase := .window, sentSeq := 1 }; let x := s.ser; let n : Word := 1;
      s.serMine 0x85 = true ∧ x.noListener = false ∧ x.phase = .window ∧ x.withdrawn = false ∧ x.next = 0 ∧
      x.queue = e :: [eSer 2] ∧ e.sent = true ∧ n = recSeq e.rec2 ∧ x.sentSeq = n ∧
      (∀ r ∈ [eSer 2], r.sent = false ∧ recSeq r.rec2 ≠ n) ∧ s.serParty = true) ∧
    (let s : State := lState false id; let x := s.ser;
      s.serMine 0x85 = true ∧ x.noListener = false ∧ (∀ r ∈ x.queue, r.sent = false)) ∧
    (let s : State := lState false fun x => { x with phase := .record, next := 1 }; let x := s.ser;
      s.serMine 0x85 = true ∧ x.noListener = false ∧ s.serParty = false ∧ x.phase = .record) := by
  decide +kernel

/-- States that meet the hypotheses of `Obligations.SerialAcknowledgementAndCancel`. -/
theorem witness_SerialAcknowledgementAndCancel_2 :
    (let b := lState false id; let s : State := { b with sys := { b.sys with straps := b.sys.straps.set 10 0 } };
     let t : TrowelId := 3; let v : Word := 1;
      takes s t Fld.serEnable = true ∧ s.shadow = [] ∧ v.getLsbD 0 = true ∧ s.strap 10 = 0) ∧
    (let s : State := lState false fun x => { x with phase := .record, responses := [⟨1, [1], [2]⟩] }; let t : TrowelId := 3; let v : Word := 0;
      takes s t Fld.serEnable = true ∧ s.shadow = [] ∧ v.getLsbD 0 = false) ∧
    (let s : State := lState true fun x => { x with phase := .idle }; let t : TrowelId := 3; let v : Word := 0x10001; let x := s.ser;
      takes s t Fld.serCancel = true ∧ s.shadow = [] ∧ x.queue = eSer 1 :: [eSer 2] ∧ v.getLsbD 16 = true ∧
      v.setWidth 16 = (recSeq (eSer 1).rec2).setWidth 16 ∧ x.phase = .idle) ∧
    (let s : State := lState true fun x => { x with phase := .retry }; let t : TrowelId := 3; let v : Word := 0x10001; let x := s.ser;
      takes s t Fld.serCancel = true ∧ s.shadow = [] ∧ x.queue = eSer 1 :: [eSer 2] ∧ v.getLsbD 16 = true ∧
      v.setWidth 16 = (recSeq (eSer 1).rec2).setWidth 16 ∧ (x.phase = .window ∨ x.phase = .retry) ∧ x.next = 0) ∧
    (let s : State := lState true fun x => { x with phase := .record }; let t : TrowelId := 3; let v : Word := 0x10001; let x := s.ser;
      takes s t Fld.serCancel = true ∧ s.shadow = [] ∧ x.queue = eSer 1 :: [eSer 2] ∧ v.getLsbD 16 = true ∧
      v.setWidth 16 = (recSeq (eSer 1).rec2).setWidth 16 ∧ x.phase = .record ∧ x.next = 0 ∧ x.withdrawn = false) := by
  decide +kernel

/-- States that meet the hypotheses of `Obligations.SerialRequests`. -/
theorem witness_SerialRequests :
    (let s : State := lState false id; let addr : Byte := 0x85; let code : Byte := 6; let r : SerReq := ⟨7, 0x1234, 0, 9, 240⟩; let x := s.ser;
      s.serMine addr = true ∧ x.noListener = false ∧ x.responses = [] ∧ r.maxLen.toNat ≤ 240 ∧ r.maxLen.toNat % 16 = 0 ∧
      (r.session = 0 ∨ r.session ≠ x.session ∨ ∀ e ∈ x.cache, e.session = r.session → e.tag ≠ r.tag) ∧
      (code = 0 ∨ 5 < code.toNat)) ∧
    (let s : State := lState false id; let addr : Byte := 0x85; let r : SerReq := ⟨0, 1, 0, 9, 241⟩; let x := s.ser;
      s.serMine addr = true ∧ x.noListener = false ∧ r.session = 0 ∧ x.responses = [] ∧ 240 < r.maxLen.toNat) ∧
    (let s : State := lState false id;
      s.serMine 0x81 = false) ∧
    (let p : SerResponse := ⟨1, [1, 2, 3, 4, 5], [2]⟩;
     let s : State := lState false fun x => { x with phase := .response, responses := [p], cache := [⟨1, 2, [1, 2, 3, 4, 5], [2], false⟩], noListener := true };
      s.serLive = true ∧ s.ser.phase = .response ∧ s.ser.responses = p :: []) := by
  decide +kernel

/-- States that meet the hypotheses of `Obligations.TimeBaseCounts`. -/
theorem witness_TimeBaseCounts :
    (let s : State := runState; let x := s.time;
      s.pending = [] ∧ s.phase = .running ∧ x.mode ≠ .slewing ∧ s.phase ≠ .asleep ∧ s.boot.started = true ∧
      (x.mode ≠ .holdover ∨ s.getN Fld.timeHoldMaxS = 0) ∧ x.mode ≠ .crystal ∧ s.getN Fld.timeSoutMode = 0) ∧
    (let s : State := { runState with phase := .asleep };
      s.phase = .asleep) ∧
    (let s : State := { (runWith [(Fld.timeHoldMaxS, 1)]) with time := { State.reset.time with mode := .holdover, sel := .fabric, core := 1000000000000 } };
     let x := s.time;
      s.phase = .running ∧ s.boot.started = true ∧ x.mode = .holdover ∧ s.getN Fld.timeHoldMaxS ≠ 0) ∧
    (let s : State := { (runWith []) with time := { State.reset.time with mode := .crystal, rate := 5 } };
     let x := s.time;
      s.phase = .running ∧ s.boot.started = true ∧ x.mode = .crystal) ∧
    (let s : State := (runWith [(Fld.timeSoutMode, 1)]); let x := s.time;
      s.phase = .running ∧ s.boot.started = true ∧
      (s.getN Fld.timeSoutMode = 1 ∨ (s.getN Fld.timeSoutMode = 2 ∧ x.sel ≠ .crystal ∧ x.mode ≠ .holdover))) := by
  decide +kernel

/-- States that meet the hypotheses of `Obligations.ReferenceSelection`. -/
theorem witness_ReferenceSelectiona :
    (let s : State := (runWith [(Fld.timeCandEn, 0)]); let r : Ref := .fabric; let x := s.time; let c := x.cand r;
      s.phase = .running ∧ s.boot.started = true ∧ s.ranking.contains .syncIn = false ∧ c.seed = none) ∧
    (let s : State := { (runWith [(Fld.timeCandEn, 7), (Fld.timeSyncPeriodNs, 1000000)]) with time := { State.reset.time with core := 4000, ns := 10000 } };
     let x := s.time;
      s.phase = .running ∧ s.boot.started = true ∧ s.ranking.contains .syncIn = true ∧ x.syncIn.seed = none ∧
      x.sel ≠ .syncIn ∧ x.mode ≠ .holdover) ∧
    (let s : State := { (runWith [(Fld.timeCandEn, 7)]) with time := { State.reset.time with fabric := ⟨some (0, 0), 1000, [(0, 0)], 3, false, 0, 0⟩ } };
     let r : Ref := .fabric; let x := s.time; let c := x.cand r;
      s.phase = .running ∧ s.boot.started = true ∧ c.seed ≠ none ∧ c.qualified = false ∧ x.mode ≠ .holdover) ∧
    (let s : State := { (runWith [(Fld.timeCandEn, 7)]) with time := { State.reset.time with sel := .fabric, mode := .tracking, rate := 3, fabric := ⟨some (0, 0), 1000, [(1000, 1000), (0, 0)], 16, true, 0, 0⟩ } };
     let r : Ref := .fabric; let x := s.time; let c := x.cand r;
      s.phase = .running ∧ s.boot.started = true ∧ c.seed ≠ none ∧ c.qualified = true ∧ r = x.sel ∧
      (x.mode = .slewing ∨ x.mode = .tracking) ∧
      ((∀ q ∈ [Ref.fabric, .syncIn, .partner, .crystal], q ≠ r → (x.cand q).seed = none))) ∧
    (let s : State := { { (runWith [(Fld.pairEnable, 1), (Fld.timeCandEn, 7)]) with pair := { State.reset.pair with mode := .standby, linkUp := true } } with time := { State.reset.time with core := 40000, partner := ⟨some (0, 0), 399990, [(399990, 399990)], 15, false, 0, 0⟩ } };
     let ns : Nat := 100000; let x := s.time; let p : Int × Int := (x.xref, 4 * ns);
      s.phase = .running ∧ s.boot.started = true ∧ s.standby = true ∧ s.ranking.contains .partner = true ∧
      s.rankOf .partner < s.rankOf x.sel ∧ x.partner.qualified = false ∧ x.partner.count = 15 ∧
      x.partner.inBand p = true ∧ x.partner.inRate p = true ∧ x.xref - x.partner.lastX ≤ 800200 ∧ x.set = false) := by
  decide +kernel

/-- States that meet the hypotheses of `Obligations.ReferenceSelection`. -/
theorem witness_ReferenceSelectionb :
    (let s : State := { { (runWith [(Fld.pairEnable, 1), (Fld.timeCandEn, 7)]) with pair := { State.reset.pair with mode := .standby, linkUp := true } } with time := { State.reset.time with core := 40000, set := true, ns := 200000, frac := 77, hold := 2, partner := ⟨some (0, 0), 399990, [(399990, 399990)], 15, false, 0, 0⟩ } };
     let ns : Nat := 100000; let x := s.time; let p : Int × Int := (x.xref, 4 * ns);
     let o : Int := ns * 4294967296 - x.fine;
      s.phase = .running ∧ s.boot.started = true ∧ s.standby = true ∧ s.ranking.contains .partner = true ∧
      s.rankOf .partner < s.rankOf x.sel ∧ x.partner.qualified = false ∧ x.partner.count = 15 ∧
      x.partner.inBand p = true ∧ x.partner.inRate p = true ∧ x.xref - x.partner.lastX ≤ 800200 ∧ x.set = true ∧
      42949672960 < o.natAbs) := by
  decide +kernel

/-- States that meet the hypotheses of `Obligations.PairRoles`. -/
theorem witness_PairRolesa :
    (let s : State := { (runWith [(Fld.pairEnable, 0)]) with pair := { State.reset.pair with second := true } };
     let t : TrowelId := 3; let v : Word := 1; let x := s.pair;
      takes s t Fld.pairEnable = true ∧ s.shadow = [] ∧ s.pairRole.isSome = true ∧ v.getLsbD 0 = true ∧
      s.pairRuns = false ∧ x.hbSeen = false ∧ x.second = true ∧ s.usb.taps = [] ∧
      ((∀ f ∈ s.frames, f.tapOn = false))) ∧
    (let s : State := { (runWith [(Fld.pairEnable, 1)]) with pair := { State.reset.pair with mode := .active, out := [(3, .stepDown 1)], linkUp := true } };
     let t : TrowelId := 3; let v : Word := 0; let x := s.pair;
      takes s t Fld.pairEnable = true ∧ s.shadow = [] ∧ s.pairRole.isSome = true ∧ v.getLsbD 0 = false ∧
      s.pairRuns = true ∧ s.pairAwake = true ∧ ((∀ f ∈ s.frames, f.tapOn = false)) ∧ x.mode = .active ∧
      x.conflict = false ∧ (x.mode ≠ .wait ∨ x.hbSeen = true) ∧ (x.mode = .active ∨ x.mode = .wait) ∧
      x.linkUp = true) ∧
    (let s : State := { { (runWith [(Fld.pairEnable, 1)]) with boot := { runState.boot with fabricDone := false }, phase := .booting } with pair := { State.reset.pair with mode := .wait } };
     let x := s.pair;
      s.pairAwake = true ∧ ((∀ f ∈ s.frames, f.tapOn = false)) ∧ x.mode ≠ .active ∧ x.mode = .wait ∧
      s.boot.fabricDone = false) ∧
    (let s : State := { (runWith [(Fld.pairEnable, 1)]) with pair := { State.reset.pair with mode := .wait } };
     let x := s.pair;
      s.pairAwake = true ∧ ((∀ f ∈ s.frames, f.tapOn = false)) ∧ x.mode = .wait ∧ s.boot.fabricDone = true ∧
      s.phase ≠ .waking ∧ x.hbSeen = false ∧ s.phase = .running ∧ x.linkUp = false ∧ s.former.held = []) ∧
    (let s : State := { (runWith [(Fld.pairEnable, 1)]) with pair := { State.reset.pair with mode := .standby, linkUp := true } };
     let x := s.pair;
      s.pairAwake = true ∧ ((∀ f ∈ s.frames, f.tapOn = false)) ∧ x.mode = .standby) := by
  decide +kernel

/-- States that meet the hypotheses of `Obligations.PairRoles`. -/
theorem witness_PairRolesb :
    (let s : State := { { (runWith [(Fld.pairEnable, 1)]) with balls := { runState.balls with hbLeft := 3 }, usb := { State.reset.usb with queue := [⟨[1], false⟩] } } with pair := { State.reset.pair with mode := .active, linkUp := true, synced := true } };
     let x := s.pair;
      s.pairAwake = true ∧ ((∀ f ∈ s.frames, f.tapOn = false)) ∧ x.mode = .active ∧ s.balls.hbLeft ≠ 0) ∧
    (let s : State := { { (runWith [(Fld.pairEnable, 1), (Fld.pairConflictCount, 7)]) with time := { runState.time with ns := 10000 } } with pair := { State.reset.pair with mode := .active, activeFrom := some 0, out := [(3, .stepDown 1)] } };
     let x := s.pair; let from_ : Nat := 0;
      s.pairAwake = true ∧ ((∀ f ∈ s.frames, f.tapOn = false)) ∧ x.mode = .active ∧ s.balls.hbLeft = 0 ∧
      x.conflict = false ∧ x.activeFrom = some from_ ∧ s.time.ns ≤ from_ + 10000) ∧
    (let s : State := { { (runWith [(Fld.pairEnable, 1)]) with time := { runState.time with ns := 10001 }, usb := { State.reset.usb with queue := [⟨[1], false⟩] }, dec := { State.reset.dec with jxWait := [sJoint] } } with pair := { State.reset.pair with mode := .active, activeFrom := some 0, linkUp := true } };
     let x := s.pair; let from_ : Nat := 0;
      s.pairAwake = true ∧ ((∀ f ∈ s.frames, f.tapOn = false)) ∧ x.mode = .active ∧ s.balls.hbLeft = 0 ∧
      x.conflict = false ∧ x.activeFrom = some from_ ∧ from_ + 10000 < s.time.ns) ∧
    (let s : State := { (runWith [(Fld.pairEnable, 1)]) with pair := { State.reset.pair with mode := .active, conflict := true, second := true, activeFrom := some 0, linkUp := true, out := [(0, .trowelMsg 3)] } };
     let x := s.pair;
      s.pairAwake = true ∧ ((∀ f ∈ s.frames, f.tapOn = false)) ∧ x.mode = .active ∧ x.conflict = true ∧
      x.second = true) ∧
    (let s : State := { (runWith [(Fld.pairEnable, 1)]) with pair := { State.reset.pair with mode := .active, conflict := true, activeFrom := some 0 } };
     let x := s.pair;
      s.pairAwake = true ∧ ((∀ f ∈ s.frames, f.tapOn = false)) ∧ x.mode = .active ∧ x.conflict = true ∧
      x.second = false) := by
  decide +kernel

/-- States that meet the hypotheses of `Obligations.PairLink`. -/
theorem witness_PairLinka :
    (let s : State := { (runWith [(Fld.pairEnable, 1)]) with pair := { State.reset.pair with mode := .wait } };
     let t : TrowelId := 3; let v : Word := 1; let x := s.pair;
      s.pairAwake = true ∧ (x.out.map fun e => msgSize e.2).sum < 2000000 ∧ x.linkUp = false ∧ x.mode ≠ .active ∧
      takes s t Fld.pairRxAck = true ∧ s.shadow = [] ∧ v.getLsbD 0 = true) ∧
    (let s : State := { (runWith [(Fld.pairEnable, 1)]) with pair := { State.reset.pair with mode := .wait, linkUp := true, out := [(4, .time 3), (5, .stepDown 1)], txSeq := 6 } };
     let t : TrowelId := 3; let h : HelloMsg := { runState.ownHello with straps := runState.sys.straps.set 2 2 };
     let x := s.pair; let a : Bool := false; let b : Bool := false;
      s.pairAwake = true ∧ (x.out.map fun e => msgSize e.2).sum < 2000000 ∧ x.linkUp = true ∧ x.resync = false ∧
      x.mode ≠ .active ∧ s.pairRole = some (a, b) ∧ h.straps.getD 2 15 = (if a then 1 else 2) + (if b then 2 else 0) ∧
      helloMismatch s.ownHello h = none ∧ x.words.length < 8 ∧ takes s t Fld.pairTxMsg = true ∧ s.shadow = []) ∧
    (let s : State := { (runWith [(Fld.pairEnable, 1)]) with pair := { State.reset.pair with mode := .active, linkUp := true, resync := true, asked := true, out := [(4, .time 3), (5, .resyncEnd ⟨[], [], [], [], 1, 2, runState.lightMark, runState.senseMark⟩)], txSeq := 6 } };
     let last : Word := 127; let n : Nat := 5; let x := s.pair;
      s.pairAwake = true ∧ (x.out.map fun e => msgSize e.2).sum < 2000000 ∧ x.linkUp = true ∧ x.resync = true ∧
      x.mode = .active ∧
      (x.out.any (fun e => e.1 == n && (match e.2 with | .resyncEnd _ => true | _ => false)) = true) ∧
      x.asked = true ∧ 128 ≤ (last - s.former.seqNext + 1).toInt) ∧
    (let s : State := { (runWith [(Fld.pairEnable, 1)]) with pair := { State.reset.pair with mode := .wait, linkUp := true } };
     let h : HelloMsg := { runState.ownHello with straps := runState.sys.straps.set 2 1, serial := 5 };
     let x := s.pair; let a : Bool := false; let b : Bool := false;
      s.pairAwake = true ∧ (x.out.map fun e => msgSize e.2).sum < 2000000 ∧ x.linkUp = true ∧ x.mode ≠ .active ∧
      s.pairRole = some (a, b) ∧ h.straps.getD 2 15 = (if a then 2 else 1) + (if b then 2 else 0) ∧
      helloMismatch s.ownHello h = none) ∧
    (let s : State := { (runWith [(Fld.pairEnable, 1)]) with pair := { State.reset.pair with mode := .wait, linkUp := true } };
     let h : HelloMsg := { runState.ownHello with straps := runState.sys.straps.set 2 2, recipeId := 9 };
     let x := s.pair; let a : Bool := false; let b : Bool := false;
      s.pairAwake = true ∧ (x.out.map fun e => msgSize e.2).sum < 2000000 ∧ x.linkUp = true ∧ x.mode ≠ .active ∧
      s.pairRole = some (a, b) ∧ h.recipeId ≠ s.sys.recipeId ∧ s.bbWrites = true ∧ s.bb.queue.length < 32 ∧
      h.straps.getD 2 15 = (if a then 1 else 2) + (if b then 2 else 0)) := by
  decide +kernel

/-- States that meet the hypotheses of `Obligations.PairLink`. -/
theorem witness_PairLinkb :
    (let s : State := { (runWith [(Fld.pairEnable, 1)]) with pair := { State.reset.pair with mode := .standby, linkUp := true, words := [1, 2, 3, 4, 5, 6, 7, 8] } };
     let x := s.pair;
      s.pairAwake = true ∧ (x.out.map fun e => msgSize e.2).sum < 2000000 ∧ x.linkUp = true ∧ x.mode = .standby ∧
      8 ≤ x.words.length) ∧
    (let s : State := { (runWith [(Fld.pairEnable, 1)]) with pair := { State.reset.pair with mode := .active, linkUp := true } };
     let x := s.pair;
      s.pairAwake = true ∧ (x.out.map fun e => msgSize e.2).sum < 2000000 ∧ x.linkUp = true ∧ x.mode = .active ∧
      x.asked = false) := by
  decide +kernel

/-- States that meet the hypotheses of `Obligations.PairMirroring`. -/
theorem witness_PairMirroring :
    (let s : State := { (runWith [(Fld.pairEnable, 1)]) with pair := { State.reset.pair with mode := .active, linkUp := true } };
      s.standby = false) ∧
    (let s : State := { { (runWith [(Fld.pairEnable, 1), (Fld.recLinks, 0)]) with usb := { State.reset.usb with queue := [⟨[1, 1, 0, 0, 9, 0, 0, 0, 0, 0, 0, 0, 1, 0, 0, 0, 2, 0, 0, 0, 5, 5, 5, 5], true⟩, ⟨[1, 0, 0, 0, 8], false⟩] }, fab := { State.reset.fab with gw := [⟨[1, 1, 0, 0, 9, 0, 0, 0, 0, 0, 0, 0, 1, 0, 0, 0, 2, 0, 0, 0, 5, 5, 5, 5], true⟩, ⟨[1, 0, 0, 0, 7], false⟩] }, ser := { State.reset.ser with queue := [⟨[1, 1, 0, 0, 9, 0, 0, 0, 0, 0, 0, 0, 1, 0, 0, 0, 2, 0, 0, 0, 5, 5, 5, 5], false, false, none, true⟩] }, vs := { State.reset.vs with store := [(4097, 0x4003), (77, 4)] } } with pair := { State.reset.pair with mode := .standby, linkUp := true } };
      s.standby = true ∧ s.getF Fld.recLinks = 0) ∧
    (let s : State := { { (runWith [(Fld.pairEnable, 1), (Fld.recLinks, 1), (Fld.usbEnable, 1)]) with usb := { State.reset.usb with queue := [⟨[1, 1, 0, 0, 9, 0, 0, 0, 0, 0, 0, 0, 1, 0, 0, 0, 2, 0, 0, 0, 5, 5, 5, 5], true⟩, ⟨[1, 0, 0, 0, 8], false⟩] }, fab := { State.reset.fab with gw := [⟨[1, 1, 0, 0, 9, 0, 0, 0, 0, 0, 0, 0, 1, 0, 0, 0, 2, 0, 0, 0, 5, 5, 5, 5], true⟩, ⟨[1, 0, 0, 0, 7], false⟩] }, ser := { State.reset.ser with queue := [⟨[1, 1, 0, 0, 9, 0, 0, 0, 0, 0, 0, 0, 1, 0, 0, 0, 2, 0, 0, 0, 5, 5, 5, 5], false, false, none, true⟩] } } with pair := { State.reset.pair with mode := .standby, linkUp := true } };
     let r : List Byte := [1, 1, 0, 0, 9, 0, 0, 0, 0, 0, 0, 0, 1, 0, 0, 0, 2, 0, 0, 0, 5, 5, 5, 5];
      s.standby = true ∧ s.getF Fld.recLinks = 1 ∧ s.enabledAt Fld.usbEnable = true ∧
      queueFull s.usb.queue r.length = false) ∧
    (let s : State := { { (runWith [(Fld.pairEnable, 1)]) with usb := { State.reset.usb with queue := [⟨[1, 1, 0, 0, 9, 0, 0, 0, 0, 0, 0, 0, 1, 0, 0, 0, 2, 0, 0, 0, 5, 5, 5, 5], true⟩, ⟨[1, 0, 0, 0, 8], false⟩] }, fab := { State.reset.fab with gw := [⟨[1, 1, 0, 0, 9, 0, 0, 0, 0, 0, 0, 0, 1, 0, 0, 0, 2, 0, 0, 0, 5, 5, 5, 5], true⟩, ⟨[1, 0, 0, 0, 7], false⟩] }, ser := { State.reset.ser with queue := [⟨[1, 1, 0, 0, 9, 0, 0, 0, 0, 0, 0, 0, 1, 0, 0, 0, 2, 0, 0, 0, 5, 5, 5, 5], false, false, none, true⟩] }, former := { State.reset.former with held := [[1, 1, 0, 0, 9, 0, 0, 0, 0, 0, 0, 0, 1, 0, 0, 0, 2, 0, 0, 0, 5, 5, 5, 5], [1, 2]] } } with pair := { State.reset.pair with mode := .standby, linkUp := true } };
     let x := s.pair;
      s.standby = true ∧ x.resync = false) ∧
    (let s : State := { { (runWith [(Fld.pairEnable, 1), (Fld.recLinks, 0)]) with usb := { State.reset.usb with queue := [⟨[1, 1, 0, 0, 9, 0, 0, 0, 0, 0, 0, 0, 1, 0, 0, 0, 2, 0, 0, 0, 5, 5, 5, 5], true⟩, ⟨[1, 0, 0, 0, 8], false⟩] }, fab := { State.reset.fab with gw := [⟨[1, 1, 0, 0, 9, 0, 0, 0, 0, 0, 0, 0, 1, 0, 0, 0, 2, 0, 0, 0, 5, 5, 5, 5], true⟩, ⟨[1, 0, 0, 0, 7], false⟩] }, ser := { State.reset.ser with queue := [⟨[1, 1, 0, 0, 9, 0, 0, 0, 0, 0, 0, 0, 1, 0, 0, 0, 2, 0, 0, 0, 5, 5, 5, 5], false, false, none, true⟩] }, vs := { State.reset.vs with store := [(4097, 0x4003), (77, 4)] } } with pair := { State.reset.pair with mode := .standby, linkUp := true, resync := true, synced := false } };
     let c : Resync := ⟨[(4097, 0x8003, 1), (5, 0, 0), (16383, 1, 2)], [⟨[1], false⟩], [], [], 77, 66, { runState.lightMark with tf := 30, darkCount := 3, flag := true, killed := 5, pinFail := 7, armed := [1, 2, 3], levels := [4, 5, 6] }, ⟨[⟨1, 2, 3, 4, true, false⟩], [⟨-1, 2, 3, 4, true, false⟩], [some 3], 9, false, 0⟩⟩;
     let x := s.pair;
      s.standby = true ∧ x.resync = true ∧ (c.store.map (·.1)).Nodup ∧ ((∀ e ∈ c.store, e.1 < 16384)) ∧
      s.getF Fld.recLinks = 0) := by
  decide +kernel

/-- States that meet the hypotheses of `Obligations.PairTakeover`. -/
theorem witness_PairTakeover :
    (let s : State := { (runWith [(Fld.pairEnable, 1)]) with pair := { State.reset.pair with mode := .standby, linkUp := true, synced := true } };
     let x := s.pair;
      s.pairAwake = true ∧ x.mode = .standby ∧ s.phase ≠ .sleepEntry ∧ x.linkUp = true ∧ x.disarmed = false ∧
      s.getB Fld.pairArm 0 = true ∧ s.former.held = [] ∧ x.hello = none ∧ s.enabledAt Fld.recEnable = false) ∧
    (let s : State := { (runWith [(Fld.pairEnable, 1)]) with pair := { State.reset.pair with mode := .standby, linkUp := true, disarmed := true } };
     let x := s.pair;
      s.pairAwake = true ∧ x.mode = .standby ∧ s.phase ≠ .sleepEntry ∧
      (x.disarmed = true ∨ s.getB Fld.pairArm 0 = false)) ∧
    (let s : State := { (runWith [(Fld.pairEnable, 1), (Fld.pairArm, 1), (Fld.recEnable, 1), (Fld.recLinks, 0)]) with pair := { State.reset.pair with mode := .standby, synced := true, resEnd := 127 } };
     let x := s.pair;
      s.pairAwake = true ∧ x.mode = .standby ∧ s.phase ≠ .sleepEntry ∧ x.disarmed = false ∧
      s.getB Fld.pairArm 0 = true ∧ s.former.held = [] ∧ x.linkUp = false ∧ s.enabledAt Fld.recEnable = true ∧
      s.getF Fld.recLinks = 0) := by
  decide +kernel

/-- States that meet the hypotheses of `Obligations.MortarLinks`. -/
theorem witness_MortarLinksa :
    (let s : State := { (runWith [(Fld.morEnable 0, 1), (Fld.morEnable 1, 1)]) with fab := { State.reset.fab with annNum := 5 } };
     let t : TrowelId := 3; let m : MorId := 0; let serial : BitVec 64 := 0x77; let v : Word := 1;
     let p := s.fab.ports[m];
      takes s t (Fld.morEnable m) = true ∧ s.shadow = [] ∧ v.getLsbD 0 = true ∧ s.morAwake m = true ∧ p.up = false ∧
      p.helloSent = false ∧ p.helloSeen = false ∧ s.fab.wait = [] ∧ s.usb.taps = [] ∧ s.morLive m = false ∧
      s.anyMor = true ∧ s.boot.started = true ∧ ((∀ n : MorId, (s.fab.ports[n]).up = false)) ∧
      ((∀ n ∈ s.fab.nodes, n.serial ≠ serial))) ∧
    (let s : State := { (runWith [(Fld.morEnable 0, 1), (Fld.morEnable 1, 1)]) with fab := { State.reset.fab with annNum := 5 } };
     let t : TrowelId := 3; let m : MorId := 0; let v : Word := 0; let p := s.fab.ports[m];
      takes s t (Fld.morEnable m) = true ∧ s.shadow = [] ∧ v.getLsbD 0 = false ∧ p.up = false) ∧
    (let s : State := { (runWith [(Fld.morEnable 0, 1), (Fld.morEnable 1, 1)]) with fab := { State.reset.fab with ports := State.reset.fab.ports.set 0 { MorPort.down with helloSent := true }, annNum := 5 } };
     let m : MorId := 0; let p := s.fab.ports[m];
      s.morAwake m = true ∧ p.up = false ∧ p.helloSent = true ∧ s.fab.wait = [] ∧ s.usb.taps = []) ∧
    (let s : State := { (runWith [(Fld.morEnable 0, 1), (Fld.morEnable 1, 1)]) with fab := { State.reset.fab with ports := State.reset.fab.ports.set 0 { MorPort.down with up := true, helloSent := true, helloSeen := true, lock0 := true, lock1 := true, rxSeq := 5, txSeq := 9, out := [(4, .msg ⟨5, false, false, 9, 3, 1, 2, 7, [1, 2, 3, 4], 0⟩), (5, .announce ⟨0x77, none, false, false, 3, 8, [], []⟩)] } } };
     let m : MorId := 0; let q : BitVec 16 := 4;
     let i : LinkItem := .msg ⟨5, false, false, 9, 3, 1, 2, 7, [1, 2, 3, 4], 0⟩; let p := s.fab.ports[m];
     let e : List (BitVec 16 × LinkItem) := [];
     let f : List (BitVec 16 × LinkItem) := [(5, .announce ⟨0x77, none, false, false, 3, 8, [], []⟩)];
      s.morLive m = true ∧ q ≠ p.rxSeq ∧ p.out = e ++ (q, i) :: f ∧ ((∀ k ∈ e, k.1 ≠ q)) ∧ p.out ≠ [] ∧
      s.usb.taps = [] ∧ ((∀ n : MorId, n ≠ m → (s.fab.ports[n]).up = false)) ∧ s.anyMor = true ∧
      s.boot.started = true ∧ p.up = true) ∧
    (let s : State := { (runWith [(Fld.morEnable 0, 1), (Fld.morEnable 1, 1)]) with fab := { State.reset.fab with ports := State.reset.fab.ports.set 0 { MorPort.down with up := true, helloSent := true, helloSeen := true, lock0 := true, lock1 := true, rxSeq := 65535, txSeq := 65535, out := [(4, .msg ⟨5, false, false, 9, 3, 1, 2, 7, [1, 2, 3, 4], 0⟩), (5, .announce ⟨0x77, none, false, false, 3, 8, [], []⟩)] } } };
     let m : MorId := 0; let q : BitVec 16 := 9; let p := s.fab.ports[m];
      s.morLive m = true ∧ ((∀ k ∈ p.out, k.1 ≠ q))) := by
  decide +kernel

/-- States that meet the hypotheses of `Obligations.MortarLinks`. -/
theorem witness_MortarLinksb :
    (let s : State := { (runWith [(Fld.morEnable 0, 1), (Fld.morEnable 1, 1)]) with fab := { State.reset.fab with ports := State.reset.fab.ports.set 0 { MorPort.down with up := true, helloSent := true, helloSeen := true, lock0 := true, lock1 := true, rxSeq := 5 }, annIn := [(0, ⟨0x77, none, false, false, 3, 8, [], []⟩)] } };
     let m : MorId := 0; let a : Announce := ⟨0x77, none, false, false, 3, 8, [], []⟩;
      s.fab.annIn = [(m, a)] ∧ a.serial ≠ s.identity.serial ∧ ((∀ n ∈ s.fab.nodes, n.serial ≠ a.serial)) ∧
      a.id = none ∧ a.bindings = [] ∧ 8 ≤ a.hops) ∧
    (let s : State := { (runWith [(Fld.morEnable 0, 1), (Fld.morEnable 1, 1), (Fld.morCrcErrCount 0, 65535)]) with fab := { State.reset.fab with ports := State.reset.fab.ports.set 0 { MorPort.down with up := true, helloSent := true, helloSeen := true, lock0 := true, lock1 := true }, annIn := [(0, ⟨0x77, none, false, false, 3, 8, [], []⟩)], nodes := [⟨0x77, none, false, false, 3, 8, [], []⟩] } };
     let m : MorId := 0; let serial : BitVec 64 := 0x77; let a : Announce := ⟨0x77, none, false, false, 3, 8, [], []⟩;
      s.fab.annIn = [(m, a)] ∧ a ∈ s.fab.nodes ∧ (s.fab.nodes.map (·.serial)).Nodup ∧
      ((∃ n ∈ s.fab.nodes, n.serial = serial))) := by
  decide +kernel

/-- States that meet the hypotheses of `Obligations.MortarTime`. -/
theorem witness_MortarTime :
    (let s : State := { (runWith [(Fld.morEnable 0, 1), (Fld.morEnable 1, 1)]) with fab := { State.reset.fab with ports := State.reset.fab.ports.set 0 { MorPort.down with up := true, helloSent := true, helloSeen := true, lock0 := true, lock1 := true } } };
     let m : MorId := 0; let valid : Bool := false; let p := s.fab.ports[m];
      s.morLive m = true ∧ s.isGm = false ∧
      (valid = false ∨ s.timePort ≠ some m ∨ p.delays.length < 16 ∨ s.isGm = true)) ∧
    (let s : State := { (runWith [(Fld.morEnable 0, 1), (Fld.morEnable 1, 1), (Fld.morRoute 0, 4), (Fld.morGmEn, 1)]) with fab := { State.reset.fab with ports := State.reset.fab.ports.set 0 { MorPort.down with up := true, helloSent := true, helloSeen := true, lock0 := true, lock1 := true, delays := List.replicate 16 100 }, id := some 5 } };
     let m : MorId := 0;
      s.morLive m = true ∧ s.isGm = true) ∧
    (let s : State := { { (runWith [(Fld.morEnable 0, 1), (Fld.morEnable 1, 1), (Fld.morRoute 0, 4), (Fld.timeCandEn, 7), (Fld.morDelayNs 0, 100)]) with time := { runState.time with core := 4000, ns := 9 } } with fab := { State.reset.fab with ports := State.reset.fab.ports.set 0 { MorPort.down with up := true, helloSent := true, helloSeen := true, lock0 := true, lock1 := true, delays := List.replicate 16 100 }, nodes := [⟨0x77, some 0, true, true, 3, 1, [], []⟩], id := some 5 } };
     let m : MorId := 0; let valid : Bool := true; let p := s.fab.ports[m];
      s.morLive m = true ∧ valid = true ∧ s.timePort = some m ∧ 16 ≤ p.delays.length ∧ s.isGm = false ∧
      s.timeTakes = true ∧ s.ranking.contains .fabric = true ∧ s.time.fabric.seed = none ∧ s.time.sel ≠ .fabric ∧
      s.time.mode ≠ .holdover) := by
  decide +kernel

/-- States that meet the hypotheses of `Obligations.MortarMessages`. -/
theorem witness_MortarMessagesa :
    (let s : State := { (runWith [(Fld.morEnable 0, 1), (Fld.morEnable 1, 1), (Fld.morRoute 3, 5)]) with fab := { State.reset.fab with ports := (State.reset.fab.ports.set 0 { MorPort.down with up := true, helloSent := true, helloSeen := true, lock0 := true, lock1 := true, rxSeq := 5 }).set 1 { MorPort.down with up := true, helloSent := true, helloSeen := true, lock0 := true, lock1 := true, txSeq := 65535 } } };
     let t : TrowelId := 3; let m : MorId := 0; let e : MorId := 1;
     let x : MorMsg := (morSeal ⟨5, false, false, 9, 3, 1, 2, 7, [1, 2, 3, 4], 0⟩); let d : BitVec 6 := 9;
     let k : Byte := 1;
      s.morLive m = true ∧ s.fab.id ≠ some x.dst ∧ x.hop.toNat < 8 ∧ s.egress x.dst = some e ∧ e ≠ m ∧
      (s.fab.ports[e]).queue = [] ∧ (s.fab.ports[e]).laneReady s.time.core = true ∧ s.fab.inFlow d k = none ∧ takes s t (Fld.morRoute d.toNat) = true ∧ s.shadow = [] ∧ s.fab.wait = [] ∧
      s.usb.taps = []) ∧
    (let s : State := { (runWith [(Fld.morEnable 0, 1), (Fld.morEnable 1, 1)]) with fab := { State.reset.fab with ports := (State.reset.fab.ports.set 0 { MorPort.down with up := true, helloSent := true, helloSeen := true, lock0 := true, lock1 := true, rxSeq := 5 }).set 1 { MorPort.down with up := true, helloSent := true, helloSeen := true, lock0 := true, lock1 := true, txSeq := 65535 } } };
     let m : MorId := 0; let x : MorMsg := (morSeal ⟨5, false, false, 9, 3, 1, 2, 7, [1, 2, 3, 4], 0⟩);
      s.morLive m = true ∧ s.fab.id ≠ some x.dst ∧ x.hop.toNat < 8 ∧ s.egress x.dst = none) ∧
    (let s : State := { (runWith [(Fld.morEnable 0, 1), (Fld.morEnable 1, 1)]) with fab := { State.reset.fab with ports := (State.reset.fab.ports.set 0 { MorPort.down with up := true, helloSent := true, helloSeen := true, lock0 := true, lock1 := true, rxSeq := 5 }).set 1 { MorPort.down with up := true, helloSent := true, helloSeen := true, lock0 := true, lock1 := true, txSeq := 65535 }, id := some 3 } };
     let m : MorId := 0; let x : MorMsg := ⟨5, false, false, 9, 3, 1, 2, 7, [1, 2, 3, 4], 1⟩;
      s.morLive m = true ∧ s.fab.id = some x.dst ∧ morValid x = false) ∧
    (let s : State := { (runWith [(Fld.morEnable 0, 1), (Fld.morEnable 1, 1)]) with fab := { State.reset.fab with ports := (State.reset.fab.ports.set 0 { MorPort.down with up := true, helloSent := true, helloSeen := true, lock0 := true, lock1 := true, rxSeq := 5 }).set 1 { MorPort.down with up := true, helloSent := true, helloSeen := true, lock0 := true, lock1 := true, txSeq := 65535 }, id := some 3, inFlows := [⟨9, 1, some 7, [], false, []⟩] } };
     let m : MorId := 0; let x : MorMsg := (morSeal ⟨5, false, false, 9, 3, 1, 2, 7, [1, 2, 3, 4], 0⟩);
     let f : InFlow := ⟨9, 1, some 7, [], false, []⟩;
      s.morLive m = true ∧ s.fab.id = some x.dst ∧ morValid x = true ∧ s.fab.inFlow x.src x.cls = some f ∧
      f.expect = some x.seq ∧ f.waiting = [] ∧ f.frags = [] ∧ x.restart = false ∧ x.more = false) ∧
    (let s : State := { (runWith [(Fld.morEnable 0, 1), (Fld.morEnable 1, 1)]) with fab := { State.reset.fab with ports := (State.reset.fab.ports.set 0 { MorPort.down with up := true, helloSent := true, helloSeen := true, lock0 := true, lock1 := true, rxSeq := 5 }).set 1 { MorPort.down with up := true, helloSent := true, helloSeen := true, lock0 := true, lock1 := true, txSeq := 65535 }, id := some 3, inFlows := [⟨9, 1, some 8, [], false, []⟩] } };
     let m : MorId := 0; let x : MorMsg := (morSeal ⟨5, false, false, 9, 3, 1, 2, 7, [1, 2, 3, 4], 0⟩);
     let f : InFlow := ⟨9, 1, some 8, [], false, []⟩;
      s.morLive m = true ∧ s.fab.id = some x.dst ∧ morValid x = true ∧ s.fab.inFlow x.src x.cls = some f ∧
      f.expect = some (x.seq + 1) ∧ x.restart = false) := by
  decide +kernel

/-- States that meet the hypotheses of `Obligations.MortarMessages`. -/
theorem witness_MortarMessagesb :
    (let s : State := { (runWith [(Fld.morEnable 0, 1), (Fld.morEnable 1, 1)]) with fab := { State.reset.fab with inFlows := [⟨9, 1, some 6, [(morSeal ⟨5, false, false, 9, 3, 1, 2, 7, [1, 2, 3, 4], 0⟩)], false, []⟩] } };
     let f : InFlow := ⟨9, 1, some 6, [(morSeal ⟨5, false, false, 9, 3, 1, 2, 7, [1, 2, 3, 4], 0⟩)], false, []⟩;
     let d : BitVec 6 := 9; let k : Byte := 1;
      s.fab.inFlow d k = some f ∧ f.waiting ≠ []) ∧
    (let s : State := { (runWith [(Fld.morEnable 0, 1), (Fld.morEnable 1, 1)]) with fab := { State.reset.fab with wait := [(morSeal ⟨5, false, false, 9, 3, 1, 2, 7, [1, 2, 3, 4], 0⟩)] } };
     let x : MorMsg := (morSeal ⟨5, false, false, 9, 3, 1, 2, 7, [1, 2, 3, 4], 0⟩);
      s.fab.wait = [x] ∧ s.fab.id ≠ some x.src) ∧
    (let s : State := { (runWith [(Fld.morEnable 0, 1), (Fld.morEnable 1, 1), (Fld.morTxDest, 3)]) with fab := { State.reset.fab with id := some 9 } };
     let t : TrowelId := 3; let d : BitVec 6 := 9;
      takes s t Fld.morTxMsg = true ∧ s.shadow = [] ∧ s.anyMor = true ∧ s.fab.id = some d ∧
      (s.getF Fld.morTxDest).setWidth 6 ≠ d ∧ s.egress ((s.getF Fld.morTxDest).setWidth 6) = none) ∧
    (let s : State := { (runWith [(Fld.morEnable 0, 1), (Fld.morEnable 1, 1)]) with fab := { State.reset.fab with words := [(9, 5), (2, 1)] } };
     let t : TrowelId := 3; let v : Word := 1; let w : Word := 5; let d : BitVec 6 := 9;
     let q : List (BitVec 6 × Word) := [(2, 1)];
      takes s t Fld.morRxAck = true ∧ s.shadow = [] ∧ v.getLsbD 0 = true ∧ s.fab.words = (d, w) :: q) := by
  decide +kernel

/-- States that meet the hypotheses of `Obligations.MortarMessages`. -/
theorem witness_MortarMessagesc :
    (let s : State := { (runWith [(Fld.morEnable 0, 1), (Fld.morEnable 1, 1), (Fld.morRoute 3, 5)]) with fab := { State.reset.fab with ports := (State.reset.fab.ports.set 0 { MorPort.down with up := true, helloSent := true, helloSeen := true, lock0 := true, lock1 := true, rxSeq := 5 }).set 1 { MorPort.down with up := true, helloSent := true, helloSeen := true, lock0 := true, lock1 := true, laneFree := (90, 90) } } };
     let m : MorId := 0; let e : MorId := 1; let x : MorMsg := (morSeal ⟨5, false, false, 9, 3, 1, 2, 7, [1, 2, 3, 4], 0⟩);
      s.morLive m = true ∧ s.fab.id ≠ some x.dst ∧ x.hop.toNat < 8 ∧ s.egress x.dst = some e ∧ e ≠ m ∧
      (s.fab.ports[e]).laneReady s.time.core = false) ∧
    (let s : State := { (runWith [(Fld.morEnable 0, 1), (Fld.morEnable 1, 1)]) with fab := { State.reset.fab with ports := State.reset.fab.ports.set 0 { MorPort.down with up := true, lock0 := true, lock1 := true, queue := [⟨5, false, false, 9, 3, 1, 2, 7, [1, 2, 3, 4], 0⟩, ⟨5, false, false, 9, 3, 2, 2, 7, [1, 2, 3, 4], 0⟩], skipped2 := 7, laneFree := (90, 90) } } };
     let m : MorId := 0; let p := s.fab.ports[m]; let waits := fun (c : Byte) => p.queue.any (fun y => y.cls == c) = true;
      waits 2 ∧ 7 ≤ p.skipped2 ∧ s.pending = [] ∧ s.phase = .running ∧ s.time.mode ≠ .slewing ∧ p.up = true ∧ p.laneReady (s.time.core + 1) = false) ∧
    (let s : State := { (runWith [(Fld.morEnable 0, 1), (Fld.morEnable 1, 1)]) with fab := { State.reset.fab with ports := State.reset.fab.ports.set 0 { MorPort.down with up := true, lock0 := true, lock1 := true, queue := [⟨5, false, false, 9, 3, 1, 2, 7, [1, 2, 3, 4], 0⟩, ⟨5, false, false, 9, 3, 2, 2, 7, [1, 2, 3, 4], 0⟩, ⟨5, false, false, 9, 3, 3, 2, 7, [1, 2, 3, 4], 0⟩], skipped2 := 6, skipped3 := 14 } } };
     let m : MorId := 0; let p := s.fab.ports[m]; let waits := fun (c : Byte) => p.queue.any (fun y => y.cls == c) = true;
      waits 3 ∧ 14 ≤ p.skipped3 ∧ ¬ (waits 2 ∧ 7 ≤ p.skipped2)) ∧
    (let s : State := { (runWith [(Fld.morEnable 0, 1), (Fld.morEnable 1, 1)]) with fab := { State.reset.fab with ports := State.reset.fab.ports.set 0 { MorPort.down with up := true, lock0 := true, degraded := true, queue := [⟨5, false, false, 9, 3, 3, 2, 7, [1, 2, 3, 4], 0⟩, ⟨5, false, false, 9, 3, 2, 2, 7, [1, 2, 3, 4], 0⟩, ⟨5, false, false, 9, 3, 1, 2, 7, [1, 2, 3, 4], 0⟩], skipped2 := 6, skipped3 := 13 } } };
     let m : MorId := 0; let p := s.fab.ports[m]; let waits := fun (c : Byte) => p.queue.any (fun y => y.cls == c) = true;
      ¬ (waits 2 ∧ 7 ≤ p.skipped2) ∧ ¬ (waits 3 ∧ 14 ≤ p.skipped3) ∧ waits 1 ∧
      s.pending = [] ∧ s.phase = .running ∧ s.time.mode ≠ .slewing ∧ p.up = true ∧ p.degraded = true ∧ p.laneReady (s.time.core + 1) = true ∧ p.queue ≠ []) ∧
    (let s : State := { (runWith [(Fld.morEnable 0, 1), (Fld.morEnable 1, 1)]) with fab := { State.reset.fab with ports := State.reset.fab.ports.set 0 { MorPort.down with up := true, lock0 := true, lock1 := true, queue := [⟨5, false, false, 9, 3, 3, 2, 7, [1, 2, 3, 4], 0⟩, ⟨5, false, false, 9, 3, 2, 2, 7, [1, 2, 3, 4], 0⟩], skipped2 := 6, skipped3 := 13 } } };
     let m : MorId := 0; let p := s.fab.ports[m]; let waits := fun (c : Byte) => p.queue.any (fun y => y.cls == c) = true;
      ¬ (waits 2 ∧ 7 ≤ p.skipped2) ∧ ¬ (waits 3 ∧ 14 ≤ p.skipped3) ∧ ¬ waits 1 ∧ waits 2) ∧
    (let s : State := { (runWith [(Fld.morEnable 0, 1), (Fld.morEnable 1, 1)]) with fab := { State.reset.fab with ports := State.reset.fab.ports.set 0 { MorPort.down with up := true, lock0 := true, lock1 := true, queue := [⟨5, false, false, 9, 3, 3, 2, 7, [1, 2, 3, 4], 0⟩], skipped2 := 7, skipped3 := 13 } } };
     let m : MorId := 0; let p := s.fab.ports[m]; let waits := fun (c : Byte) => p.queue.any (fun y => y.cls == c) = true;
      ¬ (waits 2 ∧ 7 ≤ p.skipped2) ∧ ¬ (waits 3 ∧ 14 ≤ p.skipped3) ∧ ¬ waits 1 ∧ ¬ waits 2 ∧ waits 3 ∧
      ((∀ y ∈ p.queue, y.cls = 3))) := by
  decide +kernel

/-- States that meet the hypotheses of `Obligations.MortarDelivered`. -/
theorem witness_MortarDelivereda :
    (let s : State := { (runWith [(Fld.morEnable 0, 1), (Fld.morEnable 1, 1)]) with fab := { State.reset.fab with inbox := [(9, 1, [1, 2, 3, 4]), (1, 2, [3])] } };
     let src : BitVec 6 := 9; let b : List Byte := [1, 2, 3, 4];
     let rest : List (BitVec 6 × Byte × List Byte) := [(1, 2, [3])]; let x := s.fab;
      x.inbox = (src, 1, b) :: rest ∧ x.fwdBytes src + b.length ≤ 32768 ∧ s.usbStreams = false ∧ x.gwNext = 0) ∧
    (let s : State := { (runWith [(Fld.morEnable 0, 1), (Fld.morEnable 1, 1)]) with fab := { State.reset.fab with inbox := [(9, 1, [1, 2, 3, 4]), (1, 2, [3])], fwd := [(9, List.replicate 32765 1)] } };
     let src : BitVec 6 := 9; let b : List Byte := [1, 2, 3, 4];
     let rest : List (BitVec 6 × Byte × List Byte) := [(1, 2, [3])]; let x := s.fab;
      x.inbox = (src, 1, b) :: rest ∧ 32768 < x.fwdBytes src + b.length) ∧
    (let s : State := { (runWith [(Fld.morEnable 0, 1), (Fld.morEnable 1, 1)]) with fab := { State.reset.fab with inbox := [(9, 2, [1, 2, 3, 4]), (1, 2, [3])], gw := [⟨[1, 0, 0, 0, 1, 2, 3, 4], true⟩, ⟨[1, 0, 0, 0, 9, 9, 3, 4], true⟩, ⟨[1, 0, 0, 0, 1, 2, 3, 4], false⟩] } };
     let src : BitVec 6 := 9; let b : List Byte := [1, 2, 3, 4];
     let rest : List (BitVec 6 × Byte × List Byte) := [(1, 2, [3])]; let x := s.fab;
      x.inbox = (src, 2, b) :: rest ∧ s.pair.mode ≠ .active ∧ s.gateway = none) := by
  decide +kernel

/-- States that meet the hypotheses of `Obligations.MortarDelivered`. -/
theorem witness_MortarDeliveredb :
    (let s : State := { (runWith [(Fld.morEnable 0, 1), (Fld.morEnable 1, 1), (Fld.decEnable, 1)]) with fab := { State.reset.fab with inbox := [(9, 3, [1, 2, 3, 4]), (1, 2, [3])], id := some 2 } };
     let src : BitVec 6 := 9; let b : List Byte := [1, 2, 3, 4];
     let rest : List (BitVec 6 × Byte × List Byte) := [(1, 2, [3])]; let x := s.fab;
      x.inbox = (src, 3, b) :: rest ∧ s.jointOn = true) ∧
    (let s : State := { (runWith [(Fld.morEnable 0, 1), (Fld.morEnable 1, 1)]) with fab := { State.reset.fab with inbox := [(9, 3, [1, 2, 3, 4]), (1, 2, [3])] } };
     let src : BitVec 6 := 9; let b : List Byte := [1, 2, 3, 4];
     let rest : List (BitVec 6 × Byte × List Byte) := [(1, 2, [3])]; let x := s.fab;
      x.inbox = (src, 3, b) :: rest ∧ s.jointOn = false) ∧
    (let s : State := { { (runWith [(Fld.morEnable 0, 1), (Fld.morEnable 1, 1), (Fld.usbEnable, 1), (Fld.usbTapEn, 1)]) with usb := { State.reset.usb with attached := true, speed := 3, configured := true } } with fab := { State.reset.fab with inbox := [(9, 4, [1, 2, 3, 4]), (1, 2, [3])] } };
     let src : BitVec 6 := 9; let b : List Byte := [1, 2, 3, 4];
     let rest : List (BitVec 6 × Byte × List Byte) := [(1, 2, [3])]; let x := s.fab;
      x.inbox = (src, 4, b) :: rest ∧ s.tapDestLive none = true) := by
  decide +kernel

/-- States that meet the hypotheses of `Obligations.MortarDelivered`. -/
theorem witness_MortarDeliveredc :
    (let s : State := { (runWith [(Fld.morEnable 0, 1), (Fld.morEnable 1, 1)]) with fab := { State.reset.fab with inbox := [(9, 4, [1, 2, 3, 4]), (1, 2, [3])] } };
     let src : BitVec 6 := 9; let b : List Byte := [1, 2, 3, 4];
     let rest : List (BitVec 6 × Byte × List Byte) := [(1, 2, [3])]; let x := s.fab;
      x.inbox = (src, 4, b) :: rest ∧ s.tapDestLive none = false) ∧
    (let s : State := { (runWith [(Fld.morEnable 0, 1), (Fld.morEnable 1, 1)]) with fab := { State.reset.fab with inbox := [(9, 5, [1, 2, 3, 4]), (1, 2, [3])], words := List.replicate 7 (1, 2) } };
     let src : BitVec 6 := 9; let b : List Byte := [1, 2, 3, 4];
     let rest : List (BitVec 6 × Byte × List Byte) := [(1, 2, [3])]; let x := s.fab;
      x.inbox = (src, 5, b) :: rest ∧ x.words.length < 8) ∧
    (let s : State := { (runWith [(Fld.morEnable 0, 1), (Fld.morEnable 1, 1)]) with fab := { State.reset.fab with inbox := [(9, 5, [1, 2, 3, 4]), (1, 2, [3])], words := List.replicate 8 (1, 2) } };
     let src : BitVec 6 := 9; let b : List Byte := [1, 2, 3, 4];
     let rest : List (BitVec 6 × Byte × List Byte) := [(1, 2, [3])]; let x := s.fab;
      x.inbox = (src, 5, b) :: rest ∧ 8 ≤ x.words.length) := by
  decide +kernel

/-- States that meet the hypotheses of `Obligations.MortarDelivered`. -/
theorem witness_MortarDeliveredd :
    (let s : State := { (runWith [(Fld.morEnable 0, 1), (Fld.morEnable 1, 1)]) with fab := { State.reset.fab with inbox := [(9, 6, [1, 2, 3, 4]), (1, 2, [3])] } };
     let src : BitVec 6 := 9; let b : List Byte := [1, 2, 3, 4];
     let rest : List (BitVec 6 × Byte × List Byte) := [(1, 2, [3])]; let x := s.fab;
      x.inbox = (src, 6, b) :: rest ∧ s.gateway = none) ∧
    (let s : State := { (runWith [(Fld.morEnable 0, 1), (Fld.morEnable 1, 1)]) with fab := { State.reset.fab with gwNext := 0 } };
     let x := s.fab;
      x.inbox = []) ∧
    (let s : State := { (runWith [(Fld.morEnable 0, 1), (Fld.morEnable 1, 1)]) with fab := { State.reset.fab with gwNext := 3 } };
     let x := s.fab;
      x.gwNext ≠ 0 ∧ s.gateway = none) := by
  decide +kernel

/-- States that meet the hypotheses of `Obligations.MortarDelivered`. -/
theorem witness_MortarDeliverede :
    (let s : State := { (runWith [(Fld.morEnable 0, 1), (Fld.morEnable 1, 1), (Fld.recLinks, 4), (Fld.morGwNode, 0x43)]) with fab := { State.reset.fab with gwNext := 1, id := some 2, gw := [⟨[1, 0, 0, 0, 5, 0, 0, 0], true⟩] } };
     let x := s.fab; let d : BitVec 6 := 3; let r : QRec := ⟨[1, 0, 0, 0, 5, 0, 0, 0], true⟩;
      x.gwNext = 1 ∧ s.gateway = some d ∧ x.gw = [r] ∧ s.egress d = none) := by
  decide +kernel

/-- States that meet the hypotheses of `Obligations.ProgramCounterWraps`. -/
theorem witness_ProgramCounterWraps :
    (let s : State := (runT fun x => { x with pc := 4095 }); let t : TrowelId := 0;
      s.executes t = true ∧ (s.trowels[t]).pc = 4095) := by
  decide +kernel

/-- States that meet the hypotheses of `Obligations.StackFaultsAndDataAddresses`. -/
theorem witness_StackFaultsAndDataAddresses :
    (let s : State := (runT fun x => { x with rstack := [1,2,3,4,5,6,7,8] }); let t : TrowelId := 0;
     let k : Cond := .al; let x := s.trowels[t];
      s.executes t = true ∧ x.cond k = true ∧ x.rstack.length = 8 ∧ x.dataErr = []) ∧
    (let s : State := runState; let t : TrowelId := 0; let x := s.trowels[t];
      s.executes t = true ∧ x.rstack = []) := by
  decide +kernel

/-- States that meet the hypotheses of `Obligations.HopCounts`. -/
theorem witness_HopCounts :
    (let s : State := { (runWith [(Fld.morEnable 0, 1), (Fld.morEnable 1, 1), (Fld.morRoute 3, 5)]) with fab := { State.reset.fab with ports := (State.reset.fab.ports.set 0 { MorPort.down with up := true, helloSent := true, helloSeen := true, lock0 := true, lock1 := true, rxSeq := 5 }).set 1 { MorPort.down with up := true, helloSent := true, helloSeen := true, lock0 := true, lock1 := true, txSeq := 65535 } } };
     let m : MorId := 0; let e : MorId := 1;
     let x : MorMsg := (morSeal ⟨5, false, false, 9, 3, 1, 2, 7, [1, 2, 3, 4], 0⟩);
      s.morLive m = true ∧ s.fab.id ≠ some x.dst ∧ x.hop.toNat < 8 ∧ s.egress x.dst = some e ∧ e ≠ m) ∧
    (let s : State := { (runWith [(Fld.morEnable 0, 1), (Fld.morEnable 1, 1), (Fld.morRoute 3, 5)]) with fab := { State.reset.fab with ports := (State.reset.fab.ports.set 0 { MorPort.down with up := true, helloSent := true, helloSeen := true, lock0 := true, lock1 := true, rxSeq := 5 }).set 1 { MorPort.down with up := true, helloSent := true, helloSeen := true, lock0 := true, lock1 := true, txSeq := 65535 } } };
     let m : MorId := 0; let x : MorMsg := (morSeal ⟨5, false, false, 9, 3, 1, 8, 7, [1, 2, 3, 4], 0⟩);
      s.morLive m = true ∧ s.fab.id ≠ some x.dst ∧ x.hop = 8) := by
  decide +kernel

end Sys2Proof.Tests
end

section
/-! SUPPORT. Field reads: the instructions FLD and FLDX, the reply of the unit, and the value that it gives (R113, R117). -/

namespace Sys2Proof.Machine

/-- The field address of FLDX and FSTX is the sum's bits [15:0]. -/
theorem Trowel.fieldAddr_eq (x : Trowel) (ra : RegId) (f : BitVec 16) :
    x.fieldAddr ra f = BitVec.ofNat 16 (f.toNat + (x.rd ra).toNat) := by
  unfold Trowel.fieldAddr
  bv_omega

/-- A running trowel that is awake executes. -/
theorem State.executes_of_run {s : State} {t : TrowelId} (ha : s.trowelsAwake = true)
    (hr : s.trowels[t].status = .run) : s.executes t = true := by
  rw [State.executes, ha, hr]; rfl

/-- An access instruction of a running trowel goes to work where no access stalls. -/
theorem State.access_works {s : State} {t : TrowelId} (ha : s.trowelsAwake = true) (hr : s.trowels[t].status = .run)
    (hs : s.accessStalls = false) (op : Stall) (f : State → State) : s.access t op f = f s := by
  simp [State.access, State.whenRun, State.orStall, State.executes_of_run ha hr, hs]

/-- An access instruction of a running trowel waits while accesses stall (R126). -/
theorem State.access_waits {s : State} {t : TrowelId} (ha : s.trowelsAwake = true) (hr : s.trowels[t].status = .run)
    (hs : s.accessStalls = true) (op : Stall) (f : State → State) :
    s.access t op f = s.updT t fun x => { x with status := .stalled op } := by
  simp [State.access, State.whenRun, State.orStall, State.executes_of_run ha hr, hs]

/-- The reply to a read gives the latched value and moves the program on, once no earlier write to that unit is open. -/
theorem execFieldReadReply_reading {s : State} {t : TrowelId} {rd : RegId} {a : BitVec 16} (ha : s.trowelsAwake = true)
    (hs : s.accessStalls = false) (hr : s.trowels[t].status = .reading rd a)
    (hw : ∀ e ∈ s.trowels[t].wq, e.unit ≠ unitOf a.toNat) :
    execFieldReadReply t s = .next (s.updT t fun x =>
      { x.result rd (s.readLatched t s.trowels[t].latch a.toNat) with
        status := .run
        latch := s.latchAfter s.trowels[t].latch ((s.vs.decide_.head?.map Notice.ts).getD 0) a.toNat }) := by
  have hq : (s.trowels[t].wq.any fun e => decide (e.unit = unitOf a.toNat)) = false := by simpa using hw
  simp only [execFieldReadReply, ha, hs, hr, hq]
  rfl

/-- The reply does not come while an earlier write of the trowel to that unit is open (R119). -/
theorem execFieldReadReply_open {s : State} {t : TrowelId} {rd : RegId} {a : BitVec 16}
    (hr : s.trowels[t].status = .reading rd a) (hw : ∃ e ∈ s.trowels[t].wq, e.unit = unitOf a.toNat) :
    execFieldReadReply t s = .next s := by
  have hq : (s.trowels[t].wq.any fun e => decide (e.unit = unitOf a.toNat)) = true := by simpa using hw
  simp only [execFieldReadReply, hr, hq, if_true, ite_self]

/-- An unassigned address reads 0 (R113). -/
theorem State.readField_unassigned {a : Nat} (h : fieldRow a = none) (s : State) (t : TrowelId) : s.readField t a = 0 := by
  simp [State.readField, h]

/-- A field of an absent unit reads 0 (R13). -/
theorem State.readField_absent {s : State} {a : Nat} (h : absentField s.identity.variant a = true) (t : TrowelId) :
    s.readField t a = 0 := by
  cases hr : fieldRow a <;> simp [State.readField, hr, h]

/-- But for the two latched high words, a read with latches is the plain read (R138). -/
theorem State.readLatched_of_ne {a : Nat} (h1 : a ≠ Fld.vsNtcTsHi) (h2 : a ≠ Fld.bbFreezeTsHi) (s : State) (t : TrowelId)
    (l : Latches) : s.readLatched t l a = s.readField t a := by
  simp [State.readLatched, h1, h2]

/-- Both latched high words are assigned, so an unassigned address reads 0 with latches too. -/
theorem State.readLatched_unassigned {a : Nat} (h : fieldRow a = none) (s : State) (t : TrowelId) (l : Latches) :
    s.readLatched t l a = 0 := by
  have assigned : fieldRow Fld.vsNtcTsHi ≠ none ∧ fieldRow Fld.bbFreezeTsHi ≠ none := by decide
  rw [State.readLatched_of_ne (fun e => assigned.1 (e ▸ h)) (fun e => assigned.2 (e ▸ h)),
    State.readField_unassigned h]

/-- But for the two low words, a read leaves the latches (R138). -/
theorem State.latchAfter_of_ne {a : Nat} (h1 : a ≠ Fld.vsNtcTsLo) (h2 : a ≠ Fld.bbFreezeTsLo) (s : State) (l : Latches)
    (ts : Nat) : s.latchAfter l ts a = l := by
  simp [State.latchAfter, h1, h2]

/-- No field read touches the latches of the cycle count and the time. -/
theorem State.latchAfter_keeps (s : State) (l : Latches) (ts a : Nat) :
    (s.latchAfter l ts a).cycleHi = l.cycleHi ∧ (s.latchAfter l ts a).timeHi = l.timeHi := by
  unfold State.latchAfter
  split
  · exact ⟨rfl, rfl⟩
  · split <;> exact ⟨rfl, rfl⟩

/-- Settles O19: FLD and FLDX go through `State.access`, the reply through `execFieldReadReply`, and its value through
`State.readLatched`. -/
theorem fieldReads : Obligations.FieldReads := by
  unfold Obligations.FieldReads
  intro s t rd ra f a ha x g
  have hg : x.fieldAddr ra f = g := x.fieldAddr_eq ra f
  have fld : exec (.fld t rd f) s =
      .next (s.access t (.read rd f) fun s => s.updT t fun x => { x with status := .reading rd f }) := rfl
  have fldx : exec (.fldx t rd ra f) s =
      .next (s.access t (.read rd g) fun s => s.updT t fun x => { x with status := .reading rd g }) := by
    rw [← hg]; rfl
  refine ⟨fun hr hs => ⟨?_, ?_⟩, fun hr hs => ⟨?_, ?_⟩, fun hr hs hw => ?_, fun hr hw => ?_,
    fun h => State.readField_absent h t, fun h => State.readField_unassigned h s t⟩
  · rw [MakesTrowel, fld, State.access_works ha hr hs]; rfl
  · rw [MakesTrowel, fldx, State.access_works ha hr hs]; rfl
  · rw [MakesTrowel, fld, State.access_waits ha hr hs]; rfl
  · rw [MakesTrowel, fldx, State.access_waits ha hr hs]; rfl
  · obtain ⟨hc, ht⟩ := s.latchAfter_keeps x.latch ((s.vs.decide_.head?.map Notice.ts).getD 0) a.toNat
    refine ⟨s.readLatched t x.latch a.toNat, _, execFieldReadReply_reading ha hs hr hw,
      fun h1 h2 => State.readLatched_of_ne h1 h2 s t _, fun h1 h2 => State.latchAfter_of_ne h1 h2 s _ _,
      fun h => State.readLatched_unassigned h s t _, hc, ht⟩
  · exact execFieldReadReply_open hr hw

end Sys2Proof.Machine
end

section
/-! SUPPORT. What a link may change: read-only fields and the event bits of the trowels; and that the operations shared by the
links keep to it. -/

namespace Sys2Proof.Machine

/-! ### The relation -/

/-- What no link changes at all: pending writes, boot and recipe, scenes, lamps, converters, and the watch list. -/
def State.settings (s : State) : List Pend × Boot × Sys × Light × Adc × Adc × Estimator × List (BitVec 64) :=
  (s.shadow, s.boot, s.sys, s.light, s.adcA, s.adcB, s.amb, s.former.watch)

/-- The address is of no field but a read-only one. -/
def readOnly (a : Nat) : Bool := (fieldRow a).all fun r => decide (r.cls = .ro)

/-- `u` differs from `s` in what is no setting, in read-only fields and in event bits alone. -/
structure LinkKeeps (s u : State) : Prop where
  config : ∀ a r, fieldRow a = some r → r.cls ≠ .ro → u.getF a = s.getF a
  events : EventsOnly s u
  settings : u.settings = s.settings

theorem LinkKeeps.refl (s : State) : LinkKeeps s s := ⟨fun _ _ _ _ => rfl, fun _ => rfl, rfl⟩

section
variable {s u v : State}

/-- A change beside fields, trowels and settings. -/
theorem LinkKeeps.frame (h : LinkKeeps s u)
    (e : v.fields = u.fields ∧ v.trowels = u.trowels ∧ v.settings = u.settings) : LinkKeeps s v := by
  obtain ⟨hf, ht, hs⟩ := e
  refine ⟨fun a r hr hc => ?_, fun t => ?_, hs.trans h.settings⟩
  · rw [State.getF, hf]; exact h.config a r hr hc
  · rw [ht]; exact h.events t

/-- Either branch of a conditional. -/
theorem LinkKeeps.ite {p : Prop} [Decidable p] (hu : LinkKeeps s u) (hv : LinkKeeps s v) :
    LinkKeeps s (if p then u else v) := by
  split
  · exact hu
  · exact hv

/-- A further change that happens or not. -/
theorem LinkKeeps.maybe {p : Prop} [Decidable p] (h : LinkKeeps s u) (hv : LinkKeeps s u → LinkKeeps s v) :
    LinkKeeps s (if p then v else u) := .ite (hv h) h

/-- Every step of a fold. -/
theorem LinkKeeps.foldl {β : Type} {f : State → β → State} (hf : ∀ v x, LinkKeeps s v → LinkKeeps s (f v x)) (l : List β)
    (h : LinkKeeps s u) : LinkKeeps s (l.foldl f u) := by
  induction l generalizing u with
  | nil => exact h
  | cons x l ih => exact ih (hf u x h)

/-! ### Fields and events -/

/-- The engine stores a value in a read-only field. -/
theorem LinkKeeps.setF (h : LinkKeeps s u) {a : Nat} {x : Word} (ha : readOnly a = true := by decide) :
    LinkKeeps s (u.setF a x) := by
  refine ⟨fun b r hr hc => ?_, h.events, h.settings⟩
  have hb : b ≠ a := by
    rintro rfl
    simp [readOnly, hr, hc] at ha
  rw [State.getF_setF_of_ne u hb]
  exact h.config b r hr hc

theorem LinkKeeps.setN (h : LinkKeeps s u) {a n : Nat} (ha : readOnly a = true := by decide) :
    LinkKeeps s (u.setN a n) := h.setF ha

theorem LinkKeeps.countSat (h : LinkKeeps s u) {w a n : Nat} (ha : readOnly a = true := by decide) :
    LinkKeeps s (u.countSat w a n) := h.setF ha

theorem LinkKeeps.count16 (h : LinkKeeps s u) {a : Nat} (ha : readOnly a = true := by decide) :
    LinkKeeps s (u.count16 a) := h.setF ha

theorem LinkKeeps.countWrap (h : LinkKeeps s u) {a n : Nat} (ha : readOnly a = true := by decide) :
    LinkKeeps s (u.countWrap a n) := h.setF ha

/-- An event is raised in a trowel. -/
theorem LinkKeeps.raise (h : LinkKeeps s u) {t : TrowelId} {n : Nat} : LinkKeeps s (u.raise t n) := by
  refine ⟨fun a r hr hc => ?_, fun o => ?_, ?_⟩
  · rw [State.raise_eq]; exact h.config a r hr hc
  · have e := congrArg Trowel.quiet (u.raise_get t o n)
    exact e.trans (h.events o)
  · rw [State.raise_eq]; exact h.settings

/-- An event is raised in all trowels. -/
theorem LinkKeeps.raiseAll (h : LinkKeeps s u) {n : Nat} : LinkKeeps s (u.raiseAll n) := h.raise.raise.raise.raise

/-! ### The pair link and the record queues -/

/-- A change of the links' own state and of the black box. -/
theorem LinkKeeps.links (h : LinkKeeps s u) {a : Usb} {b : Ser} {c : Pair} {d : Fabric} {e : BlackBox} :
    LinkKeeps s { u with usb := a, ser := b, pair := c, fab := d, bb := e } := h.frame ⟨rfl, rfl, rfl⟩

theorem LinkKeeps.bbEvent (h : LinkKeeps s u) {n : BitVec 7} {i : Byte} {c : BitVec 16} {x : Word} :
    LinkKeeps s (u.bbEvent n i c x) := .links h

theorem LinkKeeps.pairSend (h : LinkKeeps s u) {m : PairMsg} : LinkKeeps s (u.pairSend m) :=
  h.frame (by simp [State.settings])

theorem LinkKeeps.mirror (h : LinkKeeps s u) {m : PairMsg} : LinkKeeps s (u.mirror m) :=
  h.frame (by simp [State.settings])

theorem LinkKeeps.usbStart (h : LinkKeeps s u) : LinkKeeps s u.usbStart := h.frame (by simp [State.settings])

/-- A message goes on by its route, or waits for one. -/
theorem LinkKeeps.forward (h : LinkKeeps s u) {m : MorMsg} : LinkKeeps s (u.forward m) :=
  h.frame (by simp [State.settings])

/-- A message that has reached its destination counts as a duplicate or a drop at most. -/
theorem LinkKeeps.receive (h : LinkKeeps s u) {m : MorMsg} : LinkKeeps s (u.receive m).1 := by
  unfold State.receive
  split
  · exact .count16 h
  · exact .countSat (.countSat (.links h))

theorem LinkKeeps.originate (h : LinkKeeps s u) {d : BitVec 6} {c kind : Byte} {more : Bool} {b : List Byte} :
    LinkKeeps s (u.originate d c kind more b) := by
  unfold State.originate
  split
  · exact h
  · have hc : LinkKeeps s (u.compose d c kind more b).2 := .links h
    exact .ite (.receive hc) (.forward hc)

theorem LinkKeeps.usbDrop (h : LinkKeeps s u) : LinkKeeps s u.usbDrop := by
  simp only [State.usbDrop]
  split
  · exact h
  · exact .mirror (.countSat (.links h))

theorem LinkKeeps.usbRoom (h : LinkKeeps s u) {k n : Nat} : LinkKeeps s (State.usbRoom k u n) := by
  induction k generalizing u with
  | zero => exact h
  | succ k ih => exact .ite (ih (.usbDrop h)) h

theorem LinkKeeps.usbPush (h : LinkKeeps s u) {r : List Byte} : LinkKeeps s (u.usbPush r) := by
  unfold State.usbPush
  exact .usbStart (.links (.usbRoom h))

theorem LinkKeeps.serPush (h : LinkKeeps s u) {r : List Byte} : LinkKeeps s (u.serPush r) := by
  unfold State.serPush
  refine .links (.ite h ?_)
  split
  · exact h
  · exact .mirror (.countSat (.links h))

theorem LinkKeeps.gwPump (h : LinkKeeps s u) {k : Nat} : LinkKeeps s (State.gwPump k u) := by
  induction k generalizing u with
  | zero => exact h
  | succ k ih =>
    unfold State.gwPump
    split
    · exact .ite h (ih (.originate (.links h)))
    · exact h

theorem LinkKeeps.gwRoom (h : LinkKeeps s u) {k n : Nat} : LinkKeeps s (State.gwRoom k u n) := by
  induction k generalizing u with
  | zero => exact h
  | succ k ih =>
    unfold State.gwRoom
    split
    · exact h
    · exact .ite (ih (.mirror (.countSat (.links h)))) h

theorem LinkKeeps.gwPush (h : LinkKeeps s u) {r : List Byte} : LinkKeeps s (u.gwPush r) := by
  unfold State.gwPush
  exact .gwPump (.links (.gwRoom h))

theorem LinkKeeps.gwRestart (h : LinkKeeps s u) : LinkKeeps s u.gwRestart := by
  unfold State.gwRestart
  split
  · exact .links h
  · exact .gwPump (.links h)

/-- A record goes to every link that takes it. -/
theorem LinkKeeps.toLinks (h : LinkKeeps s u) {takes : State → LinkId → Bool} {r : List Byte} :
    LinkKeeps s (u.toLinks takes r) := by
  unfold State.toLinks
  exact .maybe (.ite (.serPush (.maybe h (.usbPush ·))) (.maybe h (.usbPush ·))) (.gwPush ·)

end

end Sys2Proof.Machine
end

section
/-! SUPPORT. The operations behind the commands of USB, the serial line, the bonded pair, the time base and the mortar fabric
keep to what a link may change. -/

namespace Sys2Proof.Machine

section
variable {s u : State}

/-! ### USB -/

/-- The tap drop counts of the contexts are read-only. -/
theorem readOnly_ctxTapDropCount : ∀ k : CtxId, readOnly (Fld.ctxTapDropCount k) = true := by decide

theorem LinkKeeps.sendUnit (h : LinkKeeps s u) {d : BitVec 6} {c kind : Byte} {b : List Byte} :
    LinkKeeps s (u.sendUnit d c kind b) := .foldl (fun _ _ hv => .originate hv) _ h

theorem LinkKeeps.tapPump (h : LinkKeeps s u) : LinkKeeps s u.tapPump := by
  unfold State.tapPump
  exact .foldl (fun _ _ hv => .sendUnit hv) _ (.links h)

theorem LinkKeeps.tapPush (h : LinkKeeps s u) {f : Frame} {b : List Byte} : LinkKeeps s (u.tapPush f b) := by
  unfold State.tapPush
  exact .tapPump (.links h)

theorem LinkKeeps.tapCut (h : LinkKeeps s u) {id : Nat} : LinkKeeps s (u.tapCut id) := by
  unfold State.tapCut
  split
  · exact h
  · rename_i f _
    have hf : LinkKeeps s (u.updFrame id fun f => { f with tapOn := false }) := .frame h ⟨rfl, rfl, rfl⟩
    exact .ite h (.maybe (.count16 hf (readOnly_ctxTapDropCount f.ctx)) (.tapPush ·))

theorem LinkKeeps.tapsGone (h : LinkKeeps s u) {sel : Option (BitVec 6) → Bool} : LinkKeeps s (u.tapsGone sel) :=
  .foldl (fun _ _ hv => .tapCut hv) _ h

/-- The packets lost with their destination are counted in read-only fields. -/
theorem LinkKeeps.tapsLost (h : LinkKeeps s u) {sel : Option (BitVec 6) → Bool} : LinkKeeps s (u.tapsLost sel) := by
  unfold State.tapsLost
  refine .foldl (fun v x hv => .ite hv ?_) _ (.links (.tapsGone h))
  exact .count16 hv (readOnly_ctxTapDropCount x.ctx)

theorem LinkKeeps.usbAbandon (h : LinkKeeps s u) : LinkKeeps s u.usbAbandon := by
  unfold State.usbAbandon
  exact .tapsLost (.links h)

theorem LinkKeeps.reply (h : LinkKeeps s u) {a : Answer} : LinkKeeps s (u.reply a) := .ite (.links h) h

theorem LinkKeeps.usbRestart (h : LinkKeeps s u) : LinkKeeps s u.usbRestart := by
  unfold State.usbRestart
  exact .usbStart (.links h)

theorem LinkKeeps.usbNote (h : LinkKeeps s u) {r : VendorSetup} : LinkKeeps s (u.usbNote r) := by
  unfold State.usbNote
  exact .links (.ite (.count16 h) h)

/-- A vendor request keeps to what its effect keeps to. -/
theorem LinkKeeps.vendor (h : LinkKeeps s u) {eff : State → State} (he : ∀ v, LinkKeeps s v → LinkKeeps s (eff v))
    {r : VendorSetup} {data resp : List Byte} {done : Bool} : LinkKeeps s (u.vendor r data resp eff done) := by
  unfold State.vendor
  dsimp only
  split
  · exact .ite (.maybe (.count16 (.links h)) (.usbNote ·))
      (.maybe (.links (.maybe (.links h) (.count16 ·))) fun hv => .usbNote (he _ hv))
  · exact .maybe (.links h) fun hv => .usbNote (he _ hv)

theorem LinkKeeps.usbRequest (h : LinkKeeps s u) {eff : State → State} (he : ∀ v, LinkKeeps s v → LinkKeeps s (eff v))
    {r : VendorSetup} {dirIn lenOk halted : Bool} {data resp : List Byte} {done : Bool} :
    LinkKeeps s (u.usbRequest r dirIn lenOk halted data resp eff done) := .ite h (.ite (.reply h) (.vendor h he))

/-! ### The serial line -/

theorem LinkKeeps.serRequest (h : LinkKeeps s u) {addr code : Byte} {r : SerReq} {status : Byte} {d : List Byte} :
    LinkKeeps s (u.serRequest addr code r status d) := by
  unfold State.serRequest
  split
  · exact h
  · dsimp only
    split
    · exact .links h
    · split
      · exact .links (.ite (.links h) (.links h))
      · split
        · exact .links (.ite (.count16 (.links h)) (.links (.count16 (.links h))))
        · split
          · exact .links (.count16 (.links (.links h)))
          · exact .links (.ite (.links h) (.links h))

/-! ### The bonded pair -/

theorem LinkKeeps.askBlock (h : LinkKeeps s u) : LinkKeeps s u.askBlock := h.frame (by simp [State.settings])

theorem LinkKeeps.settleRole (h : LinkKeeps s u) {m : HelloMsg} {lvl : Nat} : LinkKeeps s (u.settleRole m lvl) :=
  h.frame (by simp [State.settings])

theorem LinkKeeps.resyncIfDue (h : LinkKeeps s u) : LinkKeeps s u.resyncIfDue := by
  unfold State.resyncIfDue
  exact .ite (.askBlock (.pairSend (.pairSend (.count16 (.links h))))) h

theorem LinkKeeps.storeWrite (h : LinkKeeps s u) {a : BitVec 14} {f : Word} {w : BitVec 16} :
    LinkKeeps s (u.storeWrite a f w) := by
  unfold State.storeWrite State.backlogEdge
  exact .maybe (.frame h ⟨rfl, rfl, rfl⟩) (.count16 ·)

/-! ### The time base -/

theorem LinkKeeps.updTime (h : LinkKeeps s u) {f : TimeUnit → TimeUnit} : LinkKeeps s (u.updTime f) :=
  h.frame ⟨rfl, rfl, rfl⟩

theorem LinkKeeps.track (h : LinkKeeps s u) {r : Int} : LinkKeeps s (u.track r) := h.frame ⟨rfl, rfl, rfl⟩

theorem LinkKeeps.steer (h : LinkKeeps s u) {r o : Int} : LinkKeeps s (u.steer r o) := by
  unfold State.steer
  exact .ite (.updTime h) (.maybe (.track h) (.raise ·))

theorem LinkKeeps.firstSet (h : LinkKeeps s u) {o : Int} : LinkKeeps s (u.firstSet o) := by
  unfold State.firstSet
  exact .maybe (.maybe (.ite (.updTime h) (.updTime h)) (.raiseAll ·)) (.raiseAll ·)

theorem LinkKeeps.endCounts (h : LinkKeeps s u) {p : Ref → Bool} : LinkKeeps s (u.endCounts p) :=
  .foldl (fun _ _ hv => .maybe hv (.updTime ·)) _ h

/-- A commit stores the offset and the step, both read-only. -/
theorem LinkKeeps.commit (h : LinkKeeps s u) {c : Ref} : LinkKeeps s (u.commit c) := by
  unfold State.commit
  exact .maybe (.ite (.raise (.bbEvent (.track (.setF (.firstSet (.updTime (.setF (.updTime h))))))))
    (.steer (.bbEvent (.count16 (.updTime (.setF (.updTime h))))))) (.endCounts ·)

theorem LinkKeeps.retarget (h : LinkKeeps s u) : LinkKeeps s u.retarget := by
  unfold State.retarget
  dsimp only
  refine .ite h ?_
  split
  · exact .ite (.commit (.updTime (.maybe h (.count16 ·)))) (.updTime (.maybe h (.count16 ·)))
  · exact .updTime (.maybe h (.count16 ·))

theorem LinkKeeps.loseRef (h : LinkKeeps s u) {c : Ref} : LinkKeeps s (u.loseRef c) := by
  unfold State.loseRef
  exact .ite (.endCounts (.updTime (.links (.bbEvent (.count16 (.raise (.updTime h))))))) (.updTime h)

theorem LinkKeeps.timeSample (h : LinkKeeps s u) {c : Ref} {x r o : Int} : LinkKeeps s (u.timeSample c x r o) := by
  unfold State.timeSample
  dsimp only
  refine .ite h (.ite (.retarget (.ite ?_ (.updTime ?_))) (.ite (.commit ?_) (.ite (.steer ?_) (.retarget ?_))))
  · exact .loseRef (.maybe (.maybe h (.setF ·)) (.count16 ·))
  · exact .loseRef (.maybe (.maybe h (.setF ·)) (.count16 ·))
  all_goals exact .maybe (.updTime (.maybe (.maybe h (.setF ·)) (.count16 ·))) (.raise ·)

/-! ### The mortar fabric -/

theorem LinkKeeps.deliver (h : LinkKeeps s u) {m : MorMsg} : LinkKeeps s (u.deliver m) := by
  unfold State.deliver
  exact .ite (.originate (.receive h)) (.receive h)

theorem LinkKeeps.transit (h : LinkKeeps s u) {m : MorMsg} : LinkKeeps s (u.transit m) :=
  .ite (.deliver h) (.ite (.count16 h) (.forward (.countWrap h)))

theorem LinkKeeps.linkSend (h : LinkKeeps s u) {m : MorId} {x : LinkItem} : LinkKeeps s (u.linkSend m x) := .links h

theorem LinkKeeps.announceNow (h : LinkKeeps s u) : LinkKeeps s u.announceNow :=
  .foldl (fun _ _ hv => .linkSend hv) _ (.links h)

theorem LinkKeeps.rerouted (h : LinkKeeps s u) : LinkKeeps s u.rerouted := by
  unfold State.rerouted
  exact .tapPump (.foldl (fun _ _ hv => .forward hv) _ (.links h))

theorem LinkKeeps.morUp (h : LinkKeeps s u) {m : MorId} {degraded : Bool} : LinkKeeps s (u.morUp m degraded) :=
  .rerouted (.raise (.announceNow (.links h)))

theorem LinkKeeps.morTryUp (h : LinkKeeps s u) {m : MorId} : LinkKeeps s (u.morTryUp m) := .ite (.morUp h) h

theorem LinkKeeps.takeId (h : LinkKeeps s u) {i : Option (BitVec 6)} : LinkKeeps s (u.takeId i) := by
  cases i <;> exact .links h

theorem LinkKeeps.settleId (h : LinkKeeps s u) {a : Announce} : LinkKeeps s (u.settleId a) := by
  unfold State.settleId
  refine .ite h (.announceNow ?_)
  split
  · exact .links (.links (.takeId h))
  · exact .links (.takeId h)

/-- A newer announcement enters the database and is flooded on. -/
theorem LinkKeeps.takeAnnounce (h : LinkKeeps s u) {m : MorId} {a : Announce} : LinkKeeps s (u.takeAnnounce m a) := by
  unfold State.takeAnnounce
  exact .ite h (.maybe (.settleId (.ite (.links h) (.raise (.links h)))) fun hv =>
    .foldl (fun _ _ hv => .ite hv (.linkSend hv)) _ hv)

end

end Sys2Proof.Machine
end

section
/-! SUPPORT. Every command that arrives on a link keeps to what a link may change. -/

namespace Sys2Proof.Machine

/-- The outcome of a command in `s`: its next state keeps to what a link may change. -/
def LinkSafe (s : State) (o : Host.Outcome State Fault Refusal) : Prop := ∀ u, o = .next u → LinkKeeps s u

theorem LinkSafe.next {s u : State} (h : LinkKeeps s s → LinkKeeps s u) : LinkSafe s (.next u) := by
  rintro _ ⟨rfl⟩
  exact h (.refl s)

/-! ### USB -/

theorem execUsbBusReset_linkSafe (highSpeed : Bool) (s : State) : LinkSafe s (execUsbBusReset highSpeed s) :=
  .next fun h => .ite h (.raise (.count16 (.links (.links (.usbAbandon h)))))

theorem execUsbSuspend_linkSafe (suspend : Bool) (s : State) : LinkSafe s (execUsbSuspend suspend s) :=
  .next fun h => .ite h (.usbStart (.links h))

theorem execSetConfiguration_linkSafe (v : Byte) (s : State) : LinkSafe s (execSetConfiguration v s) :=
  .next fun h => .ite h (.ite (.usbRestart (.links h)) (.ite (.links (.usbAbandon h)) (.reply h)))

theorem execClearFeatureHalt_linkSafe (ep : Byte) (s : State) : LinkSafe s (execClearFeatureHalt ep s) :=
  .next fun h => .ite (.reply h) (.ite (.usbRestart (.links h)) (.ite (.links h) (.reply h)))

theorem execSetInterface_linkSafe (alt : Byte) (s : State) : LinkSafe s (execSetInterface alt s) :=
  .next fun h => .ite (.reply h) (.usbRestart (.links h))

/-- A standard request changes the USB function alone, and the tap counts where it abandons transfers. -/
theorem execStandardRequest_linkSafe (r : StdRequest) (s : State) : LinkSafe s (execStandardRequest r s) :=
  .next fun h => .ite h <| by
    cases r with
    | getDescriptor k i len =>
      dsimp only
      split
      · exact .reply h
      · exact .reply h
    | setAddress a => exact .links h
    | getConfiguration | getStatusDevice | clearLinkPower | setSel _ | setIsochDelay _ | unsupported => exact .reply h
    | getInterface | getStatusInterface | getStatusEndpoint ep => exact .ite (.reply h) (.reply h)
    | haltEndpoint ep => exact .ite (.reply h) (.ite (.links h) (.ite (.links h) (.reply h)))
    | testMode sel => exact .ite (.links (.usbAbandon h)) (.reply h)

theorem execGetInventory_linkSafe (r : VendorSetup) (done : Bool) (s : State) : LinkSafe s (execGetInventory r done s) :=
  .next fun h => .usbRequest h fun _ hv => hv

theorem execGetLinkStatus_linkSafe (r : VendorSetup) (done : Bool) (s : State) :
    LinkSafe s (execGetLinkStatus r done s) :=
  .next fun h => .usbRequest h fun _ hv => hv

theorem execAckRecords_linkSafe (r : VendorSetup) (n : Word) (done : Bool) (s : State) :
    LinkSafe s (execAckRecords r n done s) :=
  .next fun h => .usbRequest h fun _ hv => .ite (.mirror (.links hv)) hv

theorem execRetrieve_linkSafe (r : VendorSetup) (done : Bool) (s : State) : LinkSafe s (execRetrieve r done s) :=
  .next fun h => .usbRequest h fun _ hv => hv

theorem execGetBlackbox_linkSafe (r : VendorSetup) (done : Bool) (s : State) : LinkSafe s (execGetBlackbox r done s) :=
  .next fun h => .usbRequest h fun _ hv => hv

theorem execUsbVendorRequestStall_linkSafe (r : VendorSetup) (s : State) :
    LinkSafe s (execUsbVendorRequestStall r s) :=
  .next fun h => .ite h (.reply h)

/-! ### The serial line -/

theorem execSerFrameBroken_linkSafe (s : State) (chars : List (Nat × Byte)) (gap : Nat) :
    LinkSafe s (execSerFrameBroken s chars gap) :=
  .next fun h => .ite (.foldl (fun _ _ hv => .count16 hv) _ h) h

theorem execSerFrameRejected_linkSafe (heard : SerHeard) (s : State) : LinkSafe s (execSerFrameRejected heard s) :=
  .next fun h => .ite h <| by
    cases heard with
    | character ticks =>
      dsimp only
      split
      · exact .count16 h
      · exact .count16 h
      all_goals exact h
    | frame l => exact .ite (.count16 h) h

theorem execSerAckFrame_linkSafe (addr : Byte) (n : Word) (s : State) : LinkSafe s (execSerAckFrame addr n s) :=
  .next fun h => .ite (.mirror (.links (.links h))) h

theorem execSerRestartFrame_linkSafe (addr : Byte) (s : State) : LinkSafe s (execSerRestartFrame addr s) :=
  .next fun h => .ite (.ite (.links h) (.links h)) h

theorem execSerUnknownRequest_linkSafe (addr request : Byte) (r : SerReq) (s : State) :
    LinkSafe s (execSerUnknownRequest addr request r s) :=
  .next fun h => .ite h (.serRequest h)

/-! ### The mortar ports -/

theorem execLinkHello_linkSafe (m : MorId) (serial : BitVec 64) (lane0 lane1 exch pol : Bool) (s : State) :
    LinkSafe s (execLinkHello m serial lane0 lane1 exch pol s) :=
  .next fun h => .ite h (.morTryUp (.links h))

/-- The counts of broken frames and the delays of the ports are read-only. -/
theorem readOnly_morPort : ∀ m : MorId, readOnly (Fld.morCrcErrCount m) = true ∧ readOnly (Fld.morDelayNs m) = true := by
  decide

theorem execLinkFrame_linkSafe (m : MorId) (seq : BitVec 16) (x : LinkItem) (crcOk : Bool) (s : State) :
    LinkSafe s (execLinkFrame m seq x crcOk s) :=
  .next fun h => .ite h <| .ite (.count16 h (readOnly_morPort m).1) <| .ite h <| by
    cases x with
    | msg y => exact .transit (.links h)
    | announce a => exact .links (.links h)

theorem execLinkAck_linkSafe (m : MorId) (seq : BitVec 16) (s : State) : LinkSafe s (execLinkAck m seq s) :=
  .next fun h => .ite h (.links h)

theorem execAnnounce_linkSafe (s : State) : LinkSafe s (execAnnounce s) :=
  .next fun h => by
    split
    · exact h
    · exact .takeAnnounce (.links h)

theorem execDelayReq_linkSafe (m : MorId) (s : State) : LinkSafe s (execDelayReq m s) :=
  .next fun h => .ite h (.links h)

theorem execDelayResp_linkSafe (m : MorId) (t1 t2 t3 t4 : Nat) (s : State) :
    LinkSafe s (execDelayResp m t1 t2 t3 t4 s) :=
  .next fun h => .ite h (.setN (.links h) (readOnly_morPort m).2)

theorem execFabricTimeFrame_linkSafe (m : MorId) (gm : Option (BitVec 6)) (valid : Bool) (ns : Nat) (ofs : Int)
    (s : State) : LinkSafe s (execFabricTimeFrame m gm valid ns ofs s) :=
  .next fun h => .ite (.timeSample h) h

theorem execMorRecord_linkSafe (s : State) : LinkSafe s (execMorRecord s) :=
  .next fun h => by
    split
    · exact h
    · exact .ite (.usbStart (.links (.links h))) (.links h)

theorem execMorDelivered_linkSafe (s : State) : LinkSafe s (execMorDelivered s) :=
  .next fun h => by
    split
    · exact h
    · exact .gwPump (.mirror (.links (.links h)))

theorem execMorJoint_linkSafe (s : State) : LinkSafe s (execMorJoint s) :=
  .next fun h => by
    split
    · exact h
    · exact .ite (.frame h ⟨rfl, rfl, rfl⟩) (.links h)

theorem execMorTap_linkSafe (s : State) : LinkSafe s (execMorTap s) :=
  .next fun h => by
    split
    · exact h
    · exact .ite (.links (.links h)) (.count16 (.links h))

theorem execMorTrowel_linkSafe (s : State) : LinkSafe s (execMorTrowel s) :=
  .next fun h => by
    split
    · exact h
    · exact .ite (.links (.links h)) (.count16 (.links h))

theorem execMorBroken_linkSafe (s : State) : LinkSafe s (execMorBroken s) :=
  .next fun h => by
    split
    · exact h
    · exact .maybe (.links (.links h)) (.gwRestart ·)

/-! ### The pair link -/

theorem execPairHello_linkSafe (m : HelloMsg) (s : State) : LinkSafe s (execPairHello m s) :=
  .next fun h => .ite h <| .resyncIfDue <| .settleRole <| by
    split
    · exact .bbEvent (.links h)
    · exact .links h

theorem execPairReserve_linkSafe (last : Word) (s : State) : LinkSafe s (execPairReserve last s) :=
  .next fun h => .ite (.pairSend (.links h)) h

theorem execPairReserveAck_linkSafe (last : Word) (s : State) : LinkSafe s (execPairReserveAck last s) :=
  .next fun h => .ite (.askBlock (.links h)) h

/-- The word goes to the verdict store, the record to the links, and only the held record of the frame leaves the former. -/
theorem execPairDecision_linkSafe (addr : BitVec 14) (word : BitVec 16) (rec2 : List Byte) (s : State) :
    LinkSafe s (execPairDecision addr word rec2 s) :=
  .next fun h => .ite h <| by
    have hw : LinkKeeps s (s.storeWrite addr (recFidx rec2) word) := .storeWrite h
    refine .toLinks (hw.frame ?_)
    exact ⟨rfl, rfl, rfl⟩

theorem execPairRecord_linkSafe (rec2 : List Byte) (s : State) : LinkSafe s (execPairRecord rec2 s) :=
  .next fun h => .ite h (.toLinks (.links h))

theorem execPairAckMark_linkSafe (l : LinkId) (n : Word) (drop : Option Word) (s : State) :
    LinkSafe s (execPairAckMark l n drop s) :=
  .next fun h => .ite h <| by cases l <;> exact .links h

theorem execPairTimeMark_linkSafe (ns : Nat) (s : State) : LinkSafe s (execPairTimeMark ns s) :=
  .next fun h => .ite (.timeSample h) h

theorem execPairStepDown_linkSafe (s : State) : LinkSafe s (execPairStepDown s) :=
  .next fun h => .ite (.links h) h

theorem execPairTrowelMsg_linkSafe (w : Word) (s : State) : LinkSafe s (execPairTrowelMsg w s) :=
  .next fun h => .ite (.links h) h

theorem execPairResyncStart_linkSafe (s : State) : LinkSafe s (execPairResyncStart s) :=
  .next fun h => .ite (.count16 (.links h)) h

theorem execPairLinkAck_linkSafe (n : Nat) (s : State) : LinkSafe s (execPairLinkAck n s) :=
  .next fun h => .ite h (.links h)

/-! ### All of them -/

/-- Every command that arrives on a link keeps to what a link may change. -/
theorem exec_linkSafe {c : Instr} (hc : linkReceives c = true) (s : State) : LinkSafe s (exec c s) := by
  cases c
  case usbBusReset b => exact execUsbBusReset_linkSafe b s
  case setConfiguration v => exact execSetConfiguration_linkSafe v s
  case clearFeatureHalt ep => exact execClearFeatureHalt_linkSafe ep s
  case setInterface alt => exact execSetInterface_linkSafe alt s
  case standardRequest r => exact execStandardRequest_linkSafe r s
  case u1U2EntryRequest => exact .next id
  case usbSuspend b => exact execUsbSuspend_linkSafe b s
  case getInventory r done => exact execGetInventory_linkSafe r done s
  case getLinkStatus r done => exact execGetLinkStatus_linkSafe r done s
  case ackRecords r n done => exact execAckRecords_linkSafe r n done s
  case retrieve r done => exact execRetrieve_linkSafe r done s
  case getBlackbox r done => exact execGetBlackbox_linkSafe r done s
  case usbVendorRequestStall r => exact execUsbVendorRequestStall_linkSafe r s
  case serFrameBroken chars gap => exact execSerFrameBroken_linkSafe s chars gap
  case serFrameRejected heard => exact execSerFrameRejected_linkSafe heard s
  case serAckFrame addr n => exact execSerAckFrame_linkSafe addr n s
  case serRestartFrame addr => exact execSerRestartFrame_linkSafe addr s
  case serGetInventory addr r => exact .next fun h => .serRequest h
  case serGetLinkStatus addr r => exact .next fun h => .serRequest h
  case serAckRequest addr r => exact .next fun h => .serRequest h
  case serRetrieve addr r => exact .next fun h => .serRequest h
  case serGetBlackbox addr r => exact .next fun h => .serRequest h
  case serUnknownRequest addr request r => exact execSerUnknownRequest_linkSafe addr request r s
  case linkHello m serial lane0 lane1 exch pol => exact execLinkHello_linkSafe m serial lane0 lane1 exch pol s
  case linkFrame m seq x crcOk => exact execLinkFrame_linkSafe m seq x crcOk s
  case linkAck m seq => exact execLinkAck_linkSafe m seq s
  case announce => exact execAnnounce_linkSafe s
  case delayReq m => exact execDelayReq_linkSafe m s
  case delayResp m t1 t2 t3 t4 => exact execDelayResp_linkSafe m t1 t2 t3 t4 s
  case fabricTimeFrame m gm valid ns ofs => exact execFabricTimeFrame_linkSafe m gm valid ns ofs s
  case morRecord => exact execMorRecord_linkSafe s
  case morDelivered => exact execMorDelivered_linkSafe s
  case morJoint => exact execMorJoint_linkSafe s
  case morTap => exact execMorTap_linkSafe s
  case morTrowel => exact execMorTrowel_linkSafe s
  case morBroken => exact execMorBroken_linkSafe s
  case pairHello m => exact execPairHello_linkSafe m s
  case pairReserve last => exact execPairReserve_linkSafe last s
  case pairReserveAck last => exact execPairReserveAck_linkSafe last s
  case pairDecision addr word rec2 => exact execPairDecision_linkSafe addr word rec2 s
  case pairRecord rec2 => exact execPairRecord_linkSafe rec2 s
  case pairAckMark l n drop => exact execPairAckMark_linkSafe l n drop s
  case pairTimeMark ns => exact execPairTimeMark_linkSafe ns s
  case pairStepDown => exact execPairStepDown_linkSafe s
  case pairTrowelMsg w => exact execPairTrowelMsg_linkSafe w s
  case pairResyncStart => exact execPairResyncStart_linkSafe s
  case pairLinkAck n => exact execPairLinkAck_linkSafe n s
  all_goals exact absurd hc Bool.false_ne_true

/-- Settles O56: every command of `linkReceives` keeps to `LinkKeeps`, which spells out what a link may change. -/
theorem linksChangeNoConfiguration : Obligations.LinksChangeNoConfiguration := by
  unfold Obligations.LinksChangeNoConfiguration
  intro c s u hc hu
  obtain ⟨config, events, settings⟩ := exec_linkSafe hc s u hu
  simp only [State.settings, Prod.mk.injEq] at settings
  obtain ⟨hshadow, hboot, hsys, hlight, hadcA, hadcB, hamb, hwatch⟩ := settings
  exact ⟨config, hshadow, events, hboot, hsys, ⟨hlight, hadcA, hadcB, hamb⟩, hwatch⟩

end Sys2Proof.Machine
end

section
/-! SUPPORT. The power and reset pins, the start of a boot, and the always-on domain (R59, R60, R64 to R70, R84). -/

namespace Sys2Proof.Machine

/-! ### Reset and the start of a boot -/

/-- What a reset of `s` leaves: READY low, nothing stored or in flight, the trowels stopped, and of `s` the black-box ring,
the always-on domain and the identity (R65, Table BR.10). -/
def ClearedFrom (s u : State) : Prop :=
  u.balls.ready = false ∧ u.fields = [] ∧ u.shadow = [] ∧ u.frames = [] ∧ u.vs.store = [] ∧
  (∀ t : TrowelId, (u.trowels[t]).status = .stopped) ∧ u.sys.enabled = 0 ∧
  u.bb.ring = s.bb.ring ∧ u.aon.calTemp = s.aon.calTemp ∧ u.aon.slowQualified = s.aon.slowQualified ∧
  u.identity = s.identity

/-- A reset clears, whatever the pins then are. -/
theorem State.toReset_cleared (s : State) (ph : Phase) (cause : BitVec 2) (p : Pins) :
    ClearedFrom s { s.toReset ph cause with pins := p } := by
  have stopped (t : TrowelId) : (State.reset.trowels[t]).status = .stopped := by
    simp [State.reset, Trowel.idle]
  exact ⟨rfl, rfl, rfl, rfl, rfl, stopped, rfl, rfl, rfl, rfl, rfl⟩

/-- Boot step 1: the time base starts at 0 and the freeze is released (R59, R501). -/
theorem State.beginBoot_starts (s : State) :
    s.beginBoot.phase = .booting ∧ s.beginBoot.time.ns = 0 ∧ s.beginBoot.bb.frozen = false := by
  have keeps (u : State) (c : BitVec 7) (i : Byte) (e : BitVec 16) (x : Word) :
      (u.bbEvent c i e x).bb.frozen = u.bb.frozen := by
    cases h : u.bbWrites
    · rw [State.bbEvent_off h]
    · rw [State.bbEvent_on h, (BlackBox.push_keeps ..).1]
  unfold State.beginBoot
  dsimp only
  split <;> exact ⟨rfl, rfl, by simp only [keeps]⟩

/-- With both pins high, an engine held in reset boots (R59). -/
theorem State.bootIfReady_ready {s : State} (hp : s.pins.pwrOk = true) (hr : s.pins.resetN = true)
    (hh : s.phase = .held) : s.bootIfReady = s.beginBoot := by simp [State.bootIfReady, hp, hr, hh]

/-- With a pin low, or not held in reset, the engine starts no boot. -/
theorem State.bootIfReady_waits {s : State} (h : (s.pins.pwrOk && s.pins.resetN) = false ∨ s.phase ≠ .held) :
    s.bootIfReady = s := by
  rw [State.bootIfReady, if_neg]
  rcases h with h | h <;> simp [h]

/-- A held engine boots exactly with both pins high. -/
theorem State.bootIfReady_phase {s : State} (h : s.phase = .held) :
    s.bootIfReady.phase = if s.pins.pwrOk && s.pins.resetN then .booting else .held := by
  split
  next hb =>
    obtain ⟨hp, hr⟩ := Bool.and_eq_true_iff.mp hb
    rw [State.bootIfReady_ready hp hr h, s.beginBoot_starts.1]
  next hb => rw [State.bootIfReady_waits (.inl (Bool.eq_false_iff.mpr hb)), h]

/-! ### The pins -/

/-- The engine as PWR_OK rises: reset, with the cause power-on. -/
def State.powered (s : State) : State := { s.toReset .held 1 with pins := { s.pins with pwrOk := true } }

/-- PWR_OK rising resets the engine, and a boot begins where RESET_N is high. -/
theorem exec_pwrOkRise {s : State} (h : s.pins.pwrOk = false) : exec .pwrOkRise s = .next s.powered.bootIfReady := by
  change execPwrOkRise s = _
  rw [execPwrOkRise, h]
  rfl

/-- The engine as RESET_N rises. -/
def State.released (s : State) : State := { s with pins := { s.pins with resetN := true } }

/-- RESET_N rising starts the boot of a held engine that has power. -/
theorem exec_resetNRise (s : State) : exec .resetNRise s = .next s.released.bootIfReady := rfl

/-- RESET_N low resets an engine that is powered and not shut down, with the cause reset where it was not held (R84). -/
theorem exec_resetNLow_resets {s : State} (hp : s.pins.pwrOk = true) (ht : s.phase ≠ .thermal) :
    exec .resetNLow s = .next { s.toReset (if s.xrefStopped then .xrefWait else .held)
      (if s.phase = .held then s.sys.bootCause else 2) with pins := { s.pins with resetN := false } } := by
  change execResetNLow s = _
  dsimp only [execResetNLow]
  rw [if_neg (by simp [hp, ht])]
  rfl

/-- Without PWR_OK and in a thermal shutdown RESET_N low changes its pin alone (R84, R546). -/
theorem exec_resetNLow_pin {s : State} (h : s.pins.pwrOk = false ∨ s.phase = .thermal) :
    exec .resetNLow s = .next { s with pins := { s.pins with resetN := false } } := by
  change execResetNLow s = _
  rcases h with h | h <;> simp [execResetNLow, h]

/-- A stable XREF ends the wait of a reset for it, and a boot begins where both pins are high (R84). -/
theorem exec_xrefStable {s : State} (h : s.phase = .xrefWait) :
    exec .xrefStable s = .next ({ s with phase := .held } : State).bootIfReady := by
  change execXrefStable s = _
  rw [execXrefStable, if_pos h]

/-! ### The slow clock -/

/-- 1024 slow periods of `n` reference cycles in all lie within 500 ppm of 32.768 kHz (R68), in whole numbers. -/
def SlowWithin (n : Nat) : Prop :=
  32768 * 999500 * n ≤ 1024 * 25000000 * 1000000 ∧ 1024 * 25000000 * 1000000 ≤ 32768 * 1000500 * n

/-- The model's judgement of a window of `n` reference cycles: its frequency against the two bounds. -/
def slowJudged (n : Nat) : Bool :=
  decide (0 < n) && decide ((32768 : Rat) * 999500 / 1000000 ≤ (1024 * 25000000 : Rat) / (max 1 n : Nat))
    && decide ((1024 * 25000000 : Rat) / (max 1 n : Nat) ≤ (32768 : Rat) * 1000500 / 1000000)

/-- A window passes exactly where its frequency, multiplied out, lies between the bounds. -/
theorem slowJudged_iff (n : Nat) : slowJudged n = true ↔ SlowWithin n := by
  rcases Nat.eq_zero_or_pos n with rfl | hn
  · simp [slowJudged, SlowWithin]
  · have hq : (0 : Rat) < n := Nat.cast_pos.mpr hn
    have lower : (32768 : Rat) * 999500 / 1000000 ≤ 1024 * 25000000 / n ↔
        32768 * 999500 * n ≤ 1024 * 25000000 * 1000000 := by
      rw [div_le_div_iff₀ (by norm_num) hq]; norm_cast
    have upper : (1024 * 25000000 : Rat) / n ≤ 32768 * 1000500 / 1000000 ↔
        1024 * 25000000 * 1000000 ≤ 32768 * 1000500 * n := by
      rw [div_le_div_iff₀ hq (by norm_num)]; norm_cast
    simp only [slowJudged, SlowWithin, max_eq_right (Nat.succ_le_of_lt hn), decide_eq_true hn, Bool.true_and, Bool.and_eq_true,
      decide_eq_true_eq, lower, upper]

/-- The state with a window of `n` cycles measured and judged. -/
def State.slowMeasured (s : State) (n : Nat) : State :=
  { s with aon := { s.aon with slowQualified := slowJudged n }, time := { s.time with slowCycles := n } }

/-- In an awake state the end of a window judges the slow clock, and where it passes a waiting sleep request is taken. -/
theorem exec_slowClockWindowEnd {s : State} (h : s.measuresSlow = true) (n : Nat) :
    exec (.slowClockWindowEnd n) s = .next
      (if slowJudged n && s.sys.sleepWait && decide (s.phase = .running) then (s.slowMeasured n).sleepBegin
       else s.slowMeasured n) := by
  change execSlowClockWindowEnd n s = _
  rw [execSlowClockWindowEnd, h]
  rfl

/-- A missing edge in an awake state disqualifies the slow clock. -/
theorem exec_slowClockEdgeTimeout {s : State} (h : s.measuresSlow = true) :
    exec .slowClockEdgeTimeout s = .next { s with aon := { s.aon with slowQualified := false } } := by
  change execSlowClockEdgeTimeout s = _
  rw [execSlowClockEdgeTimeout, if_pos h]

/-- Sleep entry begins with READY low (R103). -/
theorem State.sleepBegin_enters (s : State) : s.sleepBegin.phase = .sleepEntry ∧ s.sleepBegin.balls.ready = false := by
  simp [State.sleepBegin]

/-! ### The loss of XREF -/

/-- The event of a missing XREF, and the freeze with the cause of a fatal fault. -/
def State.xrefFreeze (s : State) : State := (s.bbEvent 0x00#7 0xFF#8 0x0010#16 0).freeze 0x01#8

/-- Where the engine writes events, the black box is then frozen with its cause (R500). -/
theorem State.xrefFreeze_frozen {s : State} (h : s.bbWrites = true) :
    s.xrefFreeze.bb.frozen = true ∧ s.xrefFreeze.bb.freezeCause = 1 := by
  obtain ⟨frozen, cause, -⟩ := State.freeze_on ((s.bbEvent_bbWrites 0x00#7 0xFF#8 0x0010#16 0).trans h) 0x01#8
  exact ⟨frozen, cause⟩

/-- Trowels, lamps, converters and links stop, as at the fatal fault. -/
def State.stopAll (s : State) : State := s.stopTrowels.lightRest.stopConverters.serRelease.usbDetach

/-- The stop of everything leaves the black box, the identity, the boot's record and the lamps' rest. -/
theorem State.stopAll_does (s : State) :
    s.stopAll.bb = s.bb ∧ s.stopAll.identity = s.identity ∧ s.stopAll.boot = s.boot ∧
    s.stopAll.trowels = s.stopTrowels.trowels ∧ s.stopAll.light.stage = .rest := by
  refine ⟨?_, ?_, ?_, ?_, ?_⟩ <;> simp [State.stopAll, State.lightRest]

/-- The engine after the fatal fault of a missing XREF (R70). -/
def State.xrefFatal (s : State) : State :=
  { s.xrefFreeze.stopAll with
    phase := .xrefFatal
    balls := { ready := false, faultLow := true, ltFaultLow := false, syncOut := false, hbLeft := 0 }
    ports := s.xrefFreeze.stopAll.ports.map fun x => { x with powered := false, usable := false } }

/-- Outside the test state an engine that measures the slow clock has XREF. -/
theorem State.xrefStopped_of_measuresSlow {s : State} (h : s.measuresSlow = true) (ht : s.phase ≠ .test) :
    s.xrefStopped = false := by
  cases hp : s.phase <;> simp_all [State.measuresSlow, State.xrefStopped]

/-- A missing XREF while the slow clock is qualified is fatal outside the test state. -/
theorem exec_xrefLoss_fatal {s : State} (hm : s.measuresSlow = true) (hq : s.aon.slowQualified = true)
    (ht : s.phase ≠ .test) : exec .xrefLoss s = .next s.xrefFatal := by
  change execXrefLoss s = _
  have hs : s.xrefStopped = false := State.xrefStopped_of_measuresSlow hm ht
  dsimp only [execXrefLoss]
  rw [if_pos (by simp [hm, hq, hs]), if_neg ht]
  rfl

/-- The test state outlasts a missing XREF, which freezes the black box and pulls FAULT_N low (R6, R70). -/
theorem exec_xrefLoss_test {s : State} (ht : s.phase = .test) (hq : s.aon.slowQualified = true)
    (hx : s.time.xrefOff = false) : exec .xrefLoss s = .next
      { s with
        balls := { s.balls with faultLow := true }, bb := s.xrefFreeze.bb, time := { s.time with xrefOff := true } } := by
  change execXrefLoss s = _
  have hm : s.measuresSlow = true := by simp [State.measuresSlow, ht]
  have hs : s.xrefStopped = false := by simp [State.xrefStopped, ht, hx]
  dsimp only [execXrefLoss]
  rw [if_pos (by simp [hm, hq, hs]), if_pos ht]
  rfl

/-- The fatal fault stops every trowel and powers every camera receiver down, with READY and FAULT_N low, the lamps at
rest, the black box frozen, and the identity and the boot's record kept. -/
theorem State.xrefFatal_does (s : State) :
    s.xrefFatal.light.stage = .rest ∧
    (s.bbWrites = true → s.xrefFatal.bb.frozen = true ∧ s.xrefFatal.bb.freezeCause = 1) ∧
    (∀ t : TrowelId, (s.xrefFatal.trowels[t]).status = .stopped) ∧
    (∀ p : PortId, (s.xrefFatal.ports[p]).powered = false) ∧
    s.xrefFatal.identity = s.identity ∧ s.xrefFatal.boot = s.boot := by
  obtain ⟨bb, identity, boot, trowels, rest⟩ := s.xrefFreeze.stopAll_does
  refine ⟨rest, fun h => ?_, fun t => ?_, fun p => ?_, identity, boot⟩
  · change s.xrefFreeze.stopAll.bb.frozen = true ∧ s.xrefFreeze.stopAll.bb.freezeCause = 1
    rw [bb]
    exact State.xrefFreeze_frozen h
  · change (s.xrefFreeze.stopAll.trowels[t.val]).status = .stopped
    simp only [trowels, State.stopTrowels_get]
  · simp [State.xrefFatal]

/-- Settles O13: the pins through `State.toReset` and `State.bootIfReady`, the slow clock through `slowJudged_iff`, and a
missing XREF through `State.xrefFatal`. -/
theorem resetAndFirstBoot : Obligations.ResetAndFirstBoot := by
  unfold Obligations.ResetAndFirstBoot
  refine ⟨fun s => ⟨?_, fun hp ht => ?_, fun h => ?_, fun hp hr => ?_, fun hp hr => ?_, fun hp hh => ?_, fun h => ?_,
    fun h => ?_⟩, fun s n => ⟨?_, ⟨fun hm hw => ?_, fun hr hw hn => ?_⟩, fun hm => ?_, fun hm hq ht => ?_,
    fun ht hq hx => ?_⟩⟩
  · exact ⟨_, rfl, rfl, rfl, rfl, s.toReset_cleared ..⟩
  · exact ⟨_, exec_resetNLow_resets hp ht, rfl, rfl, rfl, s.toReset_cleared ..⟩
  · exact ⟨_, exec_resetNLow_pin h, rfl⟩
  · have boots : s.powered.bootIfReady = s.powered.beginBoot := State.bootIfReady_ready rfl hr rfl
    obtain ⟨booting, zero, thawed⟩ := s.powered.beginBoot_starts
    rw [← boots] at booting zero thawed
    exact ⟨_, exec_pwrOkRise hp, by simp [State.powered], booting, by simp [State.powered, State.toReset], zero, thawed⟩
  · have waits : s.powered.bootIfReady = s.powered := State.bootIfReady_waits (.inl hr)
    exact ⟨_, (exec_pwrOkRise hp).trans (congrArg _ waits), rfl, rfl, rfl⟩
  · have boots : s.released.bootIfReady = s.released.beginBoot := State.bootIfReady_ready hp rfl hh
    obtain ⟨booting, zero, thawed⟩ := s.released.beginBoot_starts
    rw [← boots] at booting zero thawed
    exact ⟨_, exec_resetNRise s, by simp [State.released], booting, zero, thawed, by simp [State.released]⟩
  · have waits : s.released.bootIfReady = s.released :=
      State.bootIfReady_waits (h.imp_left fun hp => by simp [State.released, hp])
    exact ⟨_, exec_resetNRise s, waits⟩
  · exact ⟨_, exec_xrefStable h, State.bootIfReady_phase rfl, by simp⟩
  · exact ⟨_, rfl, rfl, rfl, rfl, rfl, rfl⟩
  · have awake : (s.sys.sleepWait && decide (s.phase = .running)) = false := by
      rcases hw with hw | hw <;> simp [hw]
    refine ⟨_, exec_slowClockWindowEnd hm n, ?_⟩
    rw [Bool.and_assoc, awake, Bool.and_false, if_neg Bool.false_ne_true]
    exact ⟨rfl, slowJudged_iff n⟩
  · have hm : s.measuresSlow = true := by simp [State.measuresSlow, hr]
    have hj : slowJudged n = true := (slowJudged_iff n).mpr hn
    obtain ⟨entry, ready⟩ := (s.slowMeasured n).sleepBegin_enters
    refine ⟨_, exec_slowClockWindowEnd hm n, ?_⟩
    rw [if_pos (by simp [hj, hw, hr])]
    exact ⟨by simp [State.slowMeasured, hj], entry, ready⟩
  · exact ⟨_, exec_slowClockEdgeTimeout hm, rfl, rfl⟩
  · exact ⟨_, exec_xrefLoss_fatal hm hq ht, rfl, rfl, rfl, s.xrefFatal_does⟩
  · exact ⟨_, exec_xrefLoss_test ht hq hx, rfl, State.xrefFreeze_frozen⟩

end Sys2Proof.Machine
end

section
/-! SUPPORT. The words of the trowel instructions: decoder and encoder undo each other (R131, Tables TW.9 to TW.11). -/

namespace Sys2Proof.Machine

/-! ### Words and their five fields -/

/-- The fields of a word made of five fields. -/
theorem trowelFields_trowelWord (op : BitVec 6) (rd ra rb : BitVec 4) (low : BitVec 14) :
    trowelFields (trowelWord op rd ra rb low) = ⟨op, rd, ra, rb, low⟩ := by
  simp [trowelFields, trowelWord, BitVec.extractLsb'_append_eq_of_le (w := 14), BitVec.extractLsb'_append_eq_of_le (w := 4),
    BitVec.extractLsb'_append_eq_right (w' := 14), BitVec.extractLsb'_append_eq_right (w' := 4)]

/-- A word is made of its fields. -/
theorem trowelWord_trowelFields (w : Word) :
    trowelWord (trowelFields w).op (trowelFields w).rd (trowelFields w).ra (trowelFields w).rb (trowelFields w).low = w := by
  dsimp only [trowelFields, trowelWord]
  rw [BitVec.extractLsb'_append_extractLsb'_eq_extractLsb' (start₂ := 26) rfl,
    BitVec.extractLsb'_append_extractLsb'_eq_extractLsb' (start₂ := 22) rfl,
    BitVec.extractLsb'_append_extractLsb'_eq_extractLsb' (start₂ := 18) rfl,
    BitVec.extractLsb'_append_extractLsb'_eq_extractLsb' (start₂ := 14) rfl]
  exact BitVec.extractLsb'_eq_self

/-! ### Operands within the fields -/

/-- Cutting a value that fits the smaller width loses nothing. -/
theorem setWidth_setWidth_of_lt {k w : Nat} {x : BitVec w} (h : x.toNat < 2 ^ k) : (x.setWidth k).setWidth w = x := by
  apply BitVec.eq_of_toNat_eq
  rw [BitVec.toNat_setWidth, BitVec.toNat_setWidth, Nat.mod_eq_of_lt h, Nat.mod_eq_of_lt x.isLt]

/-- The two parts of an 18-bit immediate make it. -/
theorem immHigh_append_immLow (i : BitVec 18) : immHigh i ++ immLow i = i :=
  BitVec.extractLsb'_append_extractLsb' (w := 4)

theorem immHigh_append (rb : BitVec 4) (low : BitVec 14) : immHigh (rb ++ low) = rb :=
  BitVec.extractLsb'_append_eq_left

theorem immLow_append (rb : BitVec 4) (low : BitVec 14) : immLow (rb ++ low) = low :=
  BitVec.extractLsb'_append_eq_right

/-- A 16-bit value leaves the upper two bits of an 18-bit immediate 0. -/
theorem immHigh_setWidth_lt (a : BitVec 16) : (immHigh (a.setWidth 18)).toNat < 4 := by
  have := a.isLt
  simp [immHigh, Nat.shiftRight_eq_div_pow]
  omega

/-- An immediate with its upper two bits 0 is a 16-bit value. -/
theorem append_setWidth_of_lt {rb : BitVec 4} (h : rb.toNat < 4) (low : BitVec 14) :
    ((rb ++ low).setWidth 16).setWidth 18 = rb ++ low := by
  apply setWidth_setWidth_of_lt
  have := low.isLt
  rw [BitVec.toNat_append, ← Nat.shiftLeft_add_eq_or_of_lt low.isLt, Nat.shiftLeft_eq]
  omega

/-- A position and a width, packed side by side. -/
theorem packed_toNat (p wm1 : BitVec 5) :
    (wm1.setWidth 14 <<< 5 ||| p.setWidth 14).toNat = wm1.toNat * 32 + p.toNat := by
  have hp := p.isLt
  have hw := wm1.isLt
  have e : (wm1.setWidth 14 <<< 5).toNat = wm1.toNat <<< 5 := by
    rw [BitVec.toNat_shiftLeft, BitVec.toNat_setWidth, Nat.shiftLeft_eq, Nat.shiftLeft_eq]; omega
  rw [BitVec.toNat_or, e, BitVec.toNat_setWidth, Nat.mod_eq_of_lt (by omega), ← Nat.shiftLeft_add_eq_or_of_lt hp,
    Nat.shiftLeft_eq]

theorem packed_position (p wm1 : BitVec 5) : (wm1.setWidth 14 <<< 5 ||| p.setWidth 14).setWidth 5 = p := by
  apply BitVec.eq_of_toNat_eq
  rw [BitVec.toNat_setWidth, packed_toNat]
  omega

theorem packed_width (p wm1 : BitVec 5) : ((wm1.setWidth 14 <<< 5 ||| p.setWidth 14) >>> 5).setWidth 5 = wm1 := by
  apply BitVec.eq_of_toNat_eq
  rw [BitVec.toNat_setWidth, BitVec.toNat_ushiftRight, packed_toNat, Nat.shiftRight_eq_div_pow]
  omega

/-- What lies below 1024 is a position and a width. -/
theorem packed_of_lt {x : BitVec 14} (h : x.toNat < 1024) :
    ((x >>> 5).setWidth 5).setWidth 14 <<< 5 ||| (x.setWidth 5).setWidth 14 = x := by
  apply BitVec.eq_of_toNat_eq
  rw [packed_toNat, BitVec.toNat_setWidth, BitVec.toNat_setWidth, BitVec.toNat_ushiftRight, Nat.shiftRight_eq_div_pow]
  omega

/-- The three parts of a 22-bit immediate. -/
theorem imm22_parts (i : BitVec 22) : i.extractLsb' 18 4 ++ i.extractLsb' 14 4 ++ i.extractLsb' 0 14 = i := by
  rw [BitVec.extractLsb'_append_extractLsb'_eq_extractLsb' (start₂ := 18) rfl,
    BitVec.extractLsb'_append_extractLsb'_eq_extractLsb' (start₂ := 14) rfl]
  exact BitVec.extractLsb'_eq_self

theorem imm22_append (ra rb : BitVec 4) (low : BitVec 14) :
    (ra ++ rb ++ low).extractLsb' 18 4 = ra ∧ (ra ++ rb ++ low).extractLsb' 14 4 = rb ∧
      (ra ++ rb ++ low).extractLsb' 0 14 = low := by
  simp [BitVec.extractLsb'_append_eq_of_le (w := 14), BitVec.extractLsb'_append_eq_of_le (w := 4),
    BitVec.extractLsb'_append_eq_right (w' := 14), BitVec.extractLsb'_append_eq_right (w' := 4)]

/-- A trowel's number, as the destination of SEND. -/
theorem ofNat_trowelId (d : TrowelId) : Fin.ofNat 4 (BitVec.ofNat 14 d.val).toNat = d := by revert d; decide

/-- Each condition has its code. -/
theorem condOf_condCode (c : Cond) : condOf (condCode c) = some c := by cases c <;> rfl

/-- Each code of a condition is that condition's. -/
theorem condCode_of_condOf {c : BitVec 4} {k : Cond} (h : condOf c = some k) : condCode k = c := by
  revert c k; decide

/-- An instruction with its reserved bits right. -/
theorem when_eq_some {ok : Bool} {i j : Instr} : when_ ok i = some j ↔ ok = true ∧ i = j := by
  cases ok <;> simp [when_]

/-- An instruction decodes to itself where the fields that it is encoded in spell it. -/
theorem decodeTrowel_of_fields {i : Instr} {w : Word} {op : BitVec 6} {rd ra rb : BitVec 4} {low : BitVec 14}
    {j : TrowelId → Instr} (h : encodeTrowel i = some w) (he : encodeTrowel i = some (trowelWord op rd ra rb low))
    (hd : ∀ t, decodeFields t ⟨op, rd, ra, rb, low⟩ = some (j t)) (hj : ∃ t, j t = i) :
    ∃ t : TrowelId, decodeTrowel t w = some i := by
  obtain rfl := Option.some.inj (he.symm.trans h)
  obtain ⟨t, rfl⟩ := hj
  exact ⟨t, (congrArg (decodeFields t) (trowelFields_trowelWord ..)).trans (hd t)⟩

/-- The same for an instruction with reserved bits, which are right. -/
theorem decodeTrowel_of_reserved {i : Instr} {w : Word} {op : BitVec 6} {rd ra rb : BitVec 4} {low : BitVec 14}
    {ok : Bool} {j : TrowelId → Instr} (h : encodeTrowel i = some w)
    (he : encodeTrowel i = some (trowelWord op rd ra rb low))
    (hd : ∀ t, decodeFields t ⟨op, rd, ra, rb, low⟩ = when_ ok (j t)) (hok : ok = true) (hj : ∃ t, j t = i) :
    ∃ t : TrowelId, decodeTrowel t w = some i :=
  decodeTrowel_of_fields h he (fun t => (hd t).trans (when_eq_some.mpr ⟨hok, rfl⟩)) hj

/-- Every encoded instruction decodes to itself; the cases go by the operands below the opcode. -/
theorem decodeTrowel_encodeTrowel {i : Instr} {w : Word} (h : encodeTrowel i = some w) :
    ∃ t : TrowelId, decodeTrowel t w = some i := by
  cases i
  case add | sub | and | or | xor | shl | shr | sar | mul | mulhu | mulhs | minu | maxu | cmp | tst | mov | clz | ret | jr |
      fsync | grpb | grpe | wait | tset | kick | recv | nop =>
    exact decodeTrowel_of_reserved h rfl (fun _ => rfl) rfl ⟨_, rfl⟩
  case addi | andi | ori | xori | ld | st =>
    exact decodeTrowel_of_fields h rfl (fun _ => rfl) (by simp [TrowelFields.imm, immHigh_append_immLow])
  case cmpi | tsti =>
    exact decodeTrowel_of_reserved h rfl (fun _ => rfl) rfl (by simp [TrowelFields.imm, immHigh_append_immLow])
  case shli | shri | sari | evt | eclr | mfs | mts =>
    exact decodeTrowel_of_reserved h rfl (fun _ => rfl) (by simp; omega) (by simp)
  case ext | ins =>
    exact decodeTrowel_of_reserved h rfl (fun _ => rfl) (by simp [-BitVec.toNat_or, packed_toNat]; omega)
      (by simp only [packed_position, packed_width]; exact ⟨_, rfl⟩)
  case satu t rd ra n =>
    have hn : n ≠ 0 := fun hn => by simp [encodeTrowel, hn] at h
    exact decodeTrowel_of_reserved h (if_neg hn) (fun _ => rfl) (by simp; bv_omega) (by simp)
  case movi =>
    exact decodeTrowel_of_fields h rfl (fun _ => rfl) (by simp [imm22_parts])
  case movh | fld | fldx | fst | fstx | log | fault =>
    exact decodeTrowel_of_reserved h rfl (fun _ => rfl) (by simp [immHigh_setWidth_lt])
      (by simp [TrowelFields.imm, immHigh_append_immLow])
  case bCond | callCond =>
    exact decodeTrowel_of_fields h rfl (fun _ => (if_pos (by simp; omega)).trans (congrArg _ (condOf_condCode _))) (by simp)
  case send =>
    exact decodeTrowel_of_reserved h rfl (fun _ => rfl) (by simp; omega)
      (by simp only [ofNat_trowelId]; exact ⟨_, rfl⟩)
  all_goals exact absurd h nofun

/-- Where a word decodes with reserved bits, they are right. -/
theorem encodeTrowel_of_reserved {ok : Bool} {i j : Instr} {w : Word} (h : when_ ok j = some i)
    (he : ok = true → encodeTrowel j = some w) : encodeTrowel i = some w := by
  obtain ⟨hok, rfl⟩ := when_eq_some.mp h
  exact he hok

/-- What decodes is encoded in the same fields; case `h_n` is opcode `n`, and the cases go by the operands below it. -/
theorem encodeTrowel_decodeFields {t : TrowelId} {f : TrowelFields} {i : Instr} (h : decodeFields t f = some i) :
    encodeTrowel i = some (trowelWord (BitVec.ofNat 6 f.op.toNat) f.rd f.ra f.rb f.low) := by
  unfold decodeFields at h
  generalize f.op.toNat = n at h ⊢
  split at h
  case h_1 | h_2 | h_3 | h_4 | h_5 | h_6 | h_7 | h_8 | h_9 | h_10 | h_11 | h_12 | h_13 | h_14 | h_15 | h_16 | h_17 | h_36 |
      h_37 | h_42 | h_43 | h_44 | h_45 | h_48 | h_49 | h_53 | h_56 =>
    exact encodeTrowel_of_reserved h fun hok => congrArg some (by simp at hok; simp [hok])
  case h_18 | h_19 | h_20 | h_21 | h_32 | h_33 =>
    obtain rfl := Option.some.inj h
    exact congrArg some (by simp [TrowelFields.imm, immHigh_append, immLow_append])
  case h_25 | h_26 =>
    exact encodeTrowel_of_reserved h fun hok => congrArg some
      (by simp at hok; simp [hok, TrowelFields.imm, immHigh_append, immLow_append])
  case h_22 | h_23 | h_24 | h_46 | h_47 | h_50 | h_51 =>
    exact encodeTrowel_of_reserved h fun hok => congrArg some (by simp at hok; simp [hok, setWidth_setWidth_of_lt])
  case h_27 | h_28 =>
    exact encodeTrowel_of_reserved h fun hok => congrArg some (by simp at hok; simp [hok, packed_of_lt])
  case h_29 =>
    refine encodeTrowel_of_reserved h fun hok => ?_
    simp at hok
    obtain ⟨⟨hrb, hlow⟩, hz⟩ := hok
    have hn : f.low.setWidth 5 ≠ 0 := fun hn => hz (by rw [← setWidth_setWidth_of_lt (k := 5) hlow, hn]; rfl)
    exact (if_neg hn).trans (congrArg some (by simp [hrb, hlow, setWidth_setWidth_of_lt]))
  case h_30 =>
    obtain rfl := Option.some.inj h
    exact congrArg some (by simp [imm22_append])
  case h_31 | h_38 | h_39 | h_40 | h_41 | h_54 | h_55 =>
    exact encodeTrowel_of_reserved h fun hok => congrArg some
      (by simp at hok; simp [hok, TrowelFields.imm, append_setWidth_of_lt, immHigh_append, immLow_append])
  case h_34 | h_35 =>
    obtain ⟨hok, h⟩ := Option.ite_none_right_eq_some.mp h
    obtain ⟨c, hc, rfl⟩ := Option.map_eq_some_iff.mp h
    exact congrArg some (by simp at hok; simp [hok, condCode_of_condOf hc, setWidth_setWidth_of_lt])
  case h_52 =>
    exact encodeTrowel_of_reserved h fun hok => congrArg some (by simp at hok; simp [hok, Nat.mod_eq_of_lt])
  case h_57 => exact absurd h nofun

/-- Settles O54: each instruction is the one its own fields spell, and each word is made of its fields. -/
theorem trowelWordsRoundTrip : Obligations.TrowelWordsRoundTrip := by
  unfold Obligations.TrowelWordsRoundTrip
  refine ⟨fun i w h => decodeTrowel_encodeTrowel h, fun t w i h => ?_⟩
  have e := encodeTrowel_decodeFields h
  rwa [BitVec.ofNat_toNat, BitVec.setWidth_eq, trowelWord_trowelFields] at e

/-- Settles O55: the words are decoded by computation. -/
theorem trowelWordsDecode : Obligations.TrowelWordsDecode := by
  unfold Obligations.TrowelWordsDecode
  exact ⟨rfl, rfl, rfl, rfl, rfl, rfl, rfl, rfl, rfl⟩

end Sys2Proof.Machine
end

section
/-! SUPPORT. The rules of a trowel that executes an instruction: what the instruction's operation comes to, and the shapes of
result that the arithmetic instructions share (R132, Table TW.11). -/

namespace Sys2Proof.Machine

/-! ### Executing -/

/-- An executing trowel is awake and runs. -/
theorem State.executes_iff {s : State} {t : TrowelId} :
    s.executes t = true ↔ s.trowelsAwake = true ∧ s.trowels[t].status = .run := by
  simp [State.executes]

section
variable {s : State} {t : TrowelId} (h : s.executes t = true)
include h

theorem State.runT_executes (f : Trowel → Trowel) : s.runT t f = s.updT t f := if_pos h

theorem State.whenRun_executes (f : State → State) : s.whenRun t f = f s := if_pos h

theorem State.mayFault_executes (f : State → State) : s.mayFault t f = f s := if_pos h

variable {c : Instr} {x : Trowel}

/-- An instruction whose whole effect is on its trowel. -/
theorem makesTrowel_of_runT {f : Trowel → Trowel} (he : exec c s = .next (s.runT t f)) (hf : f s.trowels[t] = x) :
    MakesTrowel c s t x := by
  rw [MakesTrowel, he, State.runT_executes h, ← hf]
  rfl

/-- An instruction that reaches beyond its trowel. -/
theorem exec_of_whenRun {f : State → State} (he : exec c s = .next (s.whenRun t f)) : exec c s = .next (f s) := by
  rw [he, State.whenRun_executes h]

/-- An instruction that can be a trowel fault. -/
theorem exec_of_mayFault {f : State → State} (he : exec c s = .next (s.mayFault t f)) : exec c s = .next (f s) := by
  rw [he, State.mayFault_executes h]

end

/-- A change of one trowel alone. -/
theorem makesTrowel_of_updT {c : Instr} {s : State} {t : TrowelId} {f : Trowel → Trowel} {x : Trowel}
    (he : exec c s = .next (s.updT t f)) (hf : f s.trowels[t] = x) : MakesTrowel c s t x := by
  rw [MakesTrowel, he, ← hf]
  rfl

/-! ### Results and flags -/

/-- A result with Z and N. -/
theorem Trowel.result_eq (x : Trowel) (rd : RegId) (r : Word) :
    x.result rd r =
      { x with w := x.w.set rd.toNat r rd.isLt, z := decide (r = 0), n := r.msb, pc := x.pc + 1 } := by
  rw [BitVec.msb_eq_getLsbD_last]; rfl

/-- A result with all four flags. -/
theorem Trowel.wr_setZNCV_eq (x : Trowel) (rd : RegId) (r : Word) (c v : Bool) :
    ((x.wr rd r).setZNCV r c v).advance =
      { x with w := x.w.set rd.toNat r rd.isLt, z := decide (r = 0), n := r.msb, c := c, v := v, pc := x.pc + 1 } := by
  rw [BitVec.msb_eq_getLsbD_last]; rfl

/-- The four flags of a comparison. -/
theorem Trowel.setZNCV_eq (x : Trowel) (r : Word) (c v : Bool) :
    (x.setZNCV r c v).advance = { x with z := decide (r = 0), n := r.msb, c := c, v := v, pc := x.pc + 1 } := by
  rw [BitVec.msb_eq_getLsbD_last]; rfl

/-- Z and N of a comparison. -/
theorem Trowel.setZN_eq (x : Trowel) (r : Word) :
    (x.setZN r).advance = { x with z := decide (r = 0), n := r.msb, pc := x.pc + 1 } := by
  rw [BitVec.msb_eq_getLsbD_last]; rfl

section
variable {c : Instr} {s : State} {t : TrowelId} {rd : RegId} {g : Trowel → Word} {r : Word} {cy ov : Trowel → Bool}
  {cy' ov' : Bool} (h : s.executes t = true)
include h

/-- An instruction that gives a result with Z and N keeps C and V. -/
theorem givesResult_of_result (he : exec c s = .next (s.runT t fun x => x.result rd (g x))) (hr : g s.trowels[t] = r) :
    GivesResult c s t rd r s.trowels[t].c s.trowels[t].v :=
  makesTrowel_of_runT h he (hr ▸ Trowel.result_eq ..)

/-- An instruction that gives a result with all four flags. -/
theorem givesResult_of_setZNCV (he : exec c s = .next (s.runT t fun x => ((x.wr rd (g x)).setZNCV (g x) (cy x) (ov x)).advance))
    (hr : g s.trowels[t] = r) (hc : cy s.trowels[t] = cy') (hv : ov s.trowels[t] = ov') :
    GivesResult c s t rd r cy' ov' :=
  makesTrowel_of_runT h he (hr ▸ hc ▸ hv ▸ Trowel.wr_setZNCV_eq ..)

/-- A comparison that gives Z and N keeps C and V. -/
theorem givesFlags_of_setZN (he : exec c s = .next (s.runT t fun x => (x.setZN (g x)).advance)) (hr : g s.trowels[t] = r) :
    GivesFlags c s t r s.trowels[t].c s.trowels[t].v :=
  makesTrowel_of_runT h he (hr ▸ Trowel.setZN_eq ..)

/-- A comparison that gives all four flags. -/
theorem givesFlags_of_setZNCV (he : exec c s = .next (s.runT t fun x => (x.setZNCV (g x) (cy x) (ov x)).advance))
    (hr : g s.trowels[t] = r) (hc : cy s.trowels[t] = cy') (hv : ov s.trowels[t] = ov') : GivesFlags c s t r cy' ov' :=
  makesTrowel_of_runT h he (hr ▸ hc ▸ hv ▸ Trowel.setZNCV_eq ..)

end

end Sys2Proof.Machine
end

section
/-! SUPPORT. Arithmetic, logic, products, comparisons and moves (R132, Table TW.11). -/

namespace Sys2Proof.Machine

/-- A sum or difference of two words fits the signed range exactly where wrapping keeps it. -/
theorem bmod_ne_iff {i : Int} (hl : -2 ^ 32 ≤ i) (hu : i < 2 ^ 32) :
    i.bmod (2 ^ 32) ≠ i ↔ i < -2 ^ 31 ∨ 2 ^ 31 ≤ i := by
  rw [Int.bmod_def]
  split <;> omega

/-- V of an addition says that the result is not the sum. -/
theorem addOverflow_eq (a b : Word) : addOverflow a b = decide ((a + b).toInt ≠ a.toInt + b.toInt) := by
  have ha := a.toInt_lt; have ha' := a.le_toInt; have hb := b.toInt_lt; have hb' := b.le_toInt
  rw [addOverflow, ← Bool.decide_or, BitVec.toInt_add, decide_eq_decide, bmod_ne_iff] <;> omega

/-- V of a subtraction says that the result is not the difference. -/
theorem subOverflow_eq (a b : Word) : subOverflow a b = decide ((a - b).toInt ≠ a.toInt - b.toInt) := by
  have ha := a.toInt_lt; have ha' := a.le_toInt; have hb := b.toInt_lt; have hb' := b.le_toInt
  rw [subOverflow, ← Bool.decide_or, BitVec.toInt_sub, decide_eq_decide, bmod_ne_iff] <;> omega

/-- The low word of a product. -/
theorem mul_eq_ofNat (a b : Word) : a * b = BitVec.ofNat 32 (a.toNat * b.toNat) := by
  apply BitVec.eq_of_toNat_eq; simp

theorem minimum_eq_ofNat (a b : Word) : (if a.toNat ≤ b.toNat then a else b) = BitVec.ofNat 32 (min a.toNat b.toNat) := by
  rw [min_def]; split <;> simp

theorem maximum_eq_ofNat (a b : Word) : (if a.toNat ≤ b.toNat then b else a) = BitVec.ofNat 32 (max a.toNat b.toNat) := by
  rw [max_def]; split <;> simp

/-- A word has at most 32 leading zeros; they are zeros, and the bit below them is set. -/
theorem leadingZeros_spec (a : Word) :
    leadingZeros a ≤ 32 ∧ (∀ k, 32 - leadingZeros a ≤ k → a.getLsbD k = false) ∧
      (leadingZeros a < 32 → a.getLsbD (31 - leadingZeros a) = true) := by
  by_cases h : a = 0
  · simp [leadingZeros, h]
  · have hn : a.toNat ≠ 0 := fun e => h (BitVec.eq_of_toNat_eq e)
    have top : a.toNat.log2 < 32 := (Nat.log2_lt hn).mpr a.isLt
    have e : leadingZeros a = 31 - a.toNat.log2 := if_neg h
    rw [e]
    refine ⟨by omega, fun k hk => ?_, fun _ => ?_⟩
    · exact Nat.testBit_lt_two_pow ((Nat.log2_lt hn).mp (by omega))
    · rw [Nat.sub_sub_self (by omega)]
      exact Nat.testBit_log2 hn

/-- Settles O7: each instruction through the shape of its result, V through `addOverflow_eq` and `subOverflow_eq`. -/
theorem trowelArithmetic : Obligations.TrowelArithmetic := by
  unfold Obligations.TrowelArithmetic
  constructor
  · intro s t rd ra rb imm h a b i
    refine ⟨?_, ?_, ?_, ?_, ?_⟩
    · exact givesResult_of_setZNCV h rfl rfl rfl (addOverflow_eq a b)
    · exact givesResult_of_setZNCV h rfl rfl rfl (subOverflow_eq a b)
    · exact givesResult_of_setZNCV h rfl rfl rfl (addOverflow_eq a i)
    · exact givesFlags_of_setZNCV h rfl rfl rfl (subOverflow_eq a b)
    · exact givesFlags_of_setZNCV h rfl rfl rfl (subOverflow_eq a i)
  · intro s t rd ra rb imm h x a b i
    obtain ⟨le, zeros, one⟩ := leadingZeros_spec a
    refine ⟨?_, ?_, ?_, ?_, ?_, ?_, ?_, ?_, ?_, ?_, ?_, ?_, ?_, ?_, leadingZeros a, le, zeros, one, ?_⟩
    case refine_7 | refine_8 => exact givesFlags_of_setZN h rfl rfl
    case refine_9 => exact givesResult_of_result h rfl (mul_eq_ofNat a b)
    case refine_12 => exact givesResult_of_result h rfl (minimum_eq_ofNat a b)
    case refine_13 => exact givesResult_of_result h rfl (maximum_eq_ofNat a b)
    all_goals exact givesResult_of_result h rfl rfl

end Sys2Proof.Machine
end

section
/-! SUPPORT. Shifts, bit fields, clamping and constants (R132, Table TW.11). -/

namespace Sys2Proof.Machine

/-! ### Shifts -/

theorem shiftLeft_eq_ofNat (a : Word) (k : Nat) : a <<< k = BitVec.ofNat 32 (a.toNat * 2 ^ k) := by
  apply BitVec.eq_of_toNat_eq
  rw [BitVec.toNat_shiftLeft, Nat.shiftLeft_eq, BitVec.toNat_ofNat]

theorem ushiftRight_eq_ofNat (a : Word) (k : Nat) : a >>> k = BitVec.ofNat 32 (a.toNat / 2 ^ k) := by
  rw [← Nat.shiftRight_eq_div_pow, ← BitVec.toNat_ushiftRight, BitVec.ofNat_toNat, BitVec.setWidth_eq]

theorem sshiftRight_eq_ofInt (a : Word) (k : Nat) : a.sshiftRight k = BitVec.ofInt 32 (a.toInt / 2 ^ k) := by
  rw [BitVec.sshiftRight, Int.shiftRight_eq_div_pow, Nat.cast_pow, Nat.cast_ofNat]

/-! ### Bit fields -/

/-- The mask of a field's low bits. -/
theorem getLsbD_fieldMask (wm1 : BitVec 5) (k : Nat) :
    (BitVec.ofNat 32 (2 ^ (wm1.toNat + 1) - 1)).getLsbD k = decide (k ≤ wm1.toNat) := by
  have hw := wm1.isLt
  rw [BitVec.getLsbD_ofNat, Nat.testBit_two_pow_sub_one, ← Bool.decide_and]
  exact decide_eq_decide.mpr (by omega)

/-- EXT, bit by bit. -/
theorem getLsbD_extField (a : Word) (p wm1 : BitVec 5) (k : Nat) :
    (extField a p wm1).getLsbD k = (decide (k ≤ wm1.toNat) && a.getLsbD (p.toNat + k)) := by
  rw [extField, BitVec.getLsbD_and, BitVec.getLsbD_ushiftRight, getLsbD_fieldMask, Bool.and_comm]

/-- INS, bit by bit. -/
theorem getLsbD_insField (d a : Word) (p wm1 : BitVec 5) {k : Nat} (hk : k < 32) :
    (insField d a p wm1).getLsbD k =
      if p.toNat ≤ k ∧ k ≤ p.toNat + wm1.toNat then a.getLsbD (k - p.toNat) else d.getLsbD k := by
  dsimp only [insField]
  simp only [BitVec.getLsbD_or, BitVec.getLsbD_and, BitVec.getLsbD_not, BitVec.getLsbD_shiftLeft, getLsbD_fieldMask, hk,
    decide_true, Bool.true_and]
  by_cases below : k < p.toNat
  · simp [below, Nat.not_le.mpr below]
  · have inside : k - p.toNat ≤ wm1.toNat ↔ k ≤ p.toNat + wm1.toNat := by omega
    by_cases within : k ≤ p.toNat + wm1.toNat <;> simp [below, inside, within, Nat.not_lt.mp below]

/-! ### Clamping and constants -/

/-- SATU with a width of at least 1: the value clamped, and V telling so. -/
theorem satu_givesResult {s : State} {t : TrowelId} (h : s.executes t = true) (rd ra : RegId) {n : BitVec 5} (hn : n ≠ 0) :
    GivesResult (.satu t rd ra n) s t rd (BitVec.ofNat 32 (min ((s.trowels[t]).rd ra).toNat (2 ^ n.toNat - 1)))
      (s.trowels[t]).c (decide (2 ^ n.toNat - 1 < ((s.trowels[t]).rd ra).toNat)) := by
  refine makesTrowel_of_updT ((exec_of_mayFault h rfl).trans (congrArg _ (if_neg hn))) ?_
  have lim : (BitVec.ofNat 32 (2 ^ n.toNat - 1)).toNat = 2 ^ n.toNat - 1 :=
    Nat.mod_eq_of_lt ((Nat.sub_le ..).trans_lt (Nat.pow_lt_pow_right (by omega) n.isLt))
  have clamped (a : Word) : (if decide (2 ^ n.toNat - 1 < a.toNat) = true then BitVec.ofNat 32 (2 ^ n.toNat - 1) else a) =
      BitVec.ofNat 32 (min a.toNat (2 ^ n.toNat - 1)) := by
    rw [min_def]
    split <;> split <;> simp at * <;> omega
  dsimp only
  rw [lim, clamped, Trowel.result_eq]

/-- MOVH, in numbers. -/
theorem append_eq_ofNat (i : BitVec 16) (d : Word) :
    (i ++ d.setWidth 16 : BitVec 32) = BitVec.ofNat 32 (i.toNat * 65536 + d.toNat % 65536) := by
  apply BitVec.eq_of_toNat_eq
  have hi := i.isLt
  rw [BitVec.toNat_append, ← Nat.shiftLeft_add_eq_or_of_lt (BitVec.isLt _), Nat.shiftLeft_eq, BitVec.toNat_setWidth,
    BitVec.toNat_ofNat]
  omega

/-- Settles O8: the shifts in numbers, the bit fields bit by bit. -/
theorem trowelShiftsAndFields : Obligations.TrowelShiftsAndFields := by
  unfold Obligations.TrowelShiftsAndFields
  constructor
  · intro s t rd ra rb n h x a k left right
    refine ⟨?_, ?_, ?_, ?_, ?_, ?_⟩
    · exact givesResult_of_setZNCV h rfl (shiftLeft_eq_ofNat a k) rfl rfl
    · exact givesResult_of_setZNCV h rfl (ushiftRight_eq_ofNat a k) rfl rfl
    · exact givesResult_of_setZNCV h rfl (sshiftRight_eq_ofInt a k) rfl rfl
    · exact givesResult_of_setZNCV h rfl (shiftLeft_eq_ofNat a n.toNat) rfl rfl
    · exact givesResult_of_setZNCV h rfl (ushiftRight_eq_ofNat a n.toNat) rfl rfl
    · exact givesResult_of_setZNCV h rfl (sshiftRight_eq_ofInt a n.toNat) rfl rfl
  · intro s t rd ra p wm1 n i22 i16 h x a
    refine ⟨?_, ?_, fun hn => satu_givesResult h rd ra hn, ?_, ?_⟩
    · exact ⟨_, fun k _ => getLsbD_extField a p wm1 k, givesResult_of_result h rfl rfl⟩
    · exact ⟨_, fun k hk => getLsbD_insField (x.rd rd) a p wm1 hk, givesResult_of_result h rfl rfl⟩
    · exact makesTrowel_of_runT h rfl rfl
    · exact makesTrowel_of_runT h rfl (by rw [append_eq_ofNat]; rfl)

end Sys2Proof.Machine
end

section
/-! SUPPORT. Data memory and control flow (R110, R136, Table TW.11). -/

namespace Sys2Proof.Machine

/-! ### Data memory -/

/-- A data-memory address is the sum's bits [10:0]. -/
theorem Trowel.dataAddr_eq (x : Trowel) (ra : RegId) (i : BitVec 18) :
    x.dataAddr ra i = BitVec.ofNat 11 ((x.rd ra).toNat + (i.signExtend 32).toNat) := by
  apply BitVec.eq_of_toNat_eq
  rw [Trowel.dataAddr, simm18, BitVec.toNat_setWidth, BitVec.toNat_add, BitVec.toNat_ofNat, Nat.mod_mod_of_dvd]
  exact pow_dvd_pow 2 (by omega)

/-- A load after a store, at any address. -/
theorem Trowel.loadWord_storeWord (x : Trowel) (a b : BitVec 11) (v : Word) :
    (x.storeWord a v).loadWord b = if b = a then v else x.loadWord b := by
  rw [Trowel.loadWord, Trowel.storeWord, sparseGet_sparseSet]
  exact if_congr BitVec.toNat_inj rfl rfl

/-- A store makes the word it writes sound and leaves every other one as it is (Table PK.6). -/
theorem Trowel.dataErr_storeWord (x : Trowel) (a b : BitVec 11) (v : Word) :
    (x.storeWord a v).dataErr.contains b = (x.dataErr.contains b && decide (b ≠ a)) := by
  rw [Trowel.storeWord, Bool.eq_iff_iff]
  simp

section
variable {s : State} {t : TrowelId} (h : s.executes t = true)
include h

/-- A load of a sound word. -/
theorem ld_givesResult (rd ra : RegId) (imm : BitVec 18)
    (he : (s.trowels[t]).dataErr.contains ((s.trowels[t]).dataAddr ra imm) = false) :
    GivesResult (.ld t rd ra imm) s t rd ((s.trowels[t]).loadWord ((s.trowels[t]).dataAddr ra imm)) (s.trowels[t]).c
      (s.trowels[t]).v :=
  makesTrowel_of_updT ((exec_of_mayFault h rfl).trans (congrArg _ (if_neg (Bool.eq_false_iff.mp he)))) (Trowel.result_eq ..)

/-- A store. -/
theorem st_makesTrowel (rs ra : RegId) (imm : BitVec 18) :
    MakesTrowel (.st t rs ra imm) s t
      ((s.trowels[t]).storeWord ((s.trowels[t]).dataAddr ra imm) ((s.trowels[t]).rd rs)).advance :=
  makesTrowel_of_runT h rfl rfl

/-! ### Control flow -/

/-- A call that finds room on the return stack, or whose condition fails. -/
theorem callCond_makesTrowel {k : Cond} (target : BitVec 12)
    (hr : (s.trowels[t]).rstack.length < 8 ∨ (s.trowels[t]).cond k = false) :
    MakesTrowel (.callCond t k target) s t
      { s.trowels[t] with
        pc := if (s.trowels[t]).cond k then target else (s.trowels[t]).pc + 1
        rstack := if (s.trowels[t]).cond k then ((s.trowels[t]).pc + 1) :: (s.trowels[t]).rstack
          else (s.trowels[t]).rstack } := by
  have room : ¬ ((s.trowels[t]).cond k && decide (8 ≤ (s.trowels[t]).rstack.length)) = true := by
    rw [Bool.and_eq_true, decide_eq_true_eq]
    rintro ⟨hc, full⟩
    rcases hr with hr | hr
    · omega
    · exact Bool.false_ne_true (hr.symm.trans hc)
  refine makesTrowel_of_updT ((exec_of_mayFault h rfl).trans (congrArg _ (if_neg room))) ?_
  dsimp only
  split <;> rfl

/-- A return to the address on top of the stack. -/
theorem ret_makesTrowel {a : BitVec 12} {r : List (BitVec 12)} (hr : (s.trowels[t]).rstack = a :: r) :
    MakesTrowel (.ret t) s t { s.trowels[t] with pc := a, rstack := r } := by
  have pops : exec (.ret t) s = .next (s.updT t fun x => { x with rstack := r, pc := a }) :=
    (exec_of_mayFault h rfl).trans (by rw [hr])
  exact makesTrowel_of_updT pops rfl

end

/-- Settles O9: the loads and stores at `Trowel.dataAddr`, a load of what was stored by `Trowel.loadWord_storeWord`. -/
theorem trowelMemoryAndControl : Obligations.TrowelMemoryAndControl := by
  unfold Obligations.TrowelMemoryAndControl
  constructor
  · intro s t rd ra imm h x adr
    have hadr : x.dataAddr ra imm = adr := x.dataAddr_eq ra imm
    refine ⟨fun he => hadr ▸ ld_givesResult h rd ra imm (hadr ▸ he), _, _, st_makesTrowel h rd ra imm,
      fun b => ?_, fun b => ?_⟩
    · exact hadr ▸ x.loadWord_storeWord (x.dataAddr ra imm) b (x.rd rd)
    · exact hadr ▸ x.dataErr_storeWord (x.dataAddr ra imm) b (x.rd rd)
  · intro s t ra k target h x
    refine ⟨makesTrowel_of_runT h rfl ?_, fun hr => callCond_makesTrowel h target hr, fun a r hr => ret_makesTrowel h hr,
      makesTrowel_of_runT h rfl ?_, makesTrowel_of_runT h rfl rfl⟩
    · change (if x.cond k then { x with pc := target } else x.advance) = _
      split <;> rfl
    · change ({ x with pc := (x.rd ra).setWidth 12 } : Trowel) = _
      rw [BitVec.ofNat_toNat]

/-- Settles O57: 12 bits hold at most 4095, and there one more is 0. -/
theorem programCounterWraps : Obligations.ProgramCounterWraps := by
  unfold Obligations.ProgramCounterWraps
  refine fun s t => ⟨(s.trowels[t]).pc.isLt, fun h hpc => makesTrowel_of_runT h rfl ?_⟩
  change ({ s.trowels[t] with pc := (s.trowels[t]).pc + 1 } : Trowel) = _
  rw [hpc]
  rfl

end Sys2Proof.Machine
end

section
/-! SUPPORT. The trowel fault: what it does to the engine, and which instructions of an executing trowel are one (R131, R136,
R141). -/

namespace Sys2Proof.Machine

/-! ### What a trowel fault does -/

/-- The events of a fault leave the engine writing events, and end in the freeze with its cause (R141, R500). -/
theorem State.faultEvents_freezes {s : State} (h : s.bbWrites = true) (l : List (TrowelId × Word)) :
    (s.faultEvents l).bb.frozen = true ∧ (s.faultEvents l).bb.freezeCause = 0x02 := by
  have writes (l : List (TrowelId × Word)) (s : State) : (l.foldl (fun (s : State) (e : TrowelId × Word) =>
      s.bbEvent 0x02#7 (BitVec.ofNat 8 e.1.val) 0x0001#16 e.2) s).bbWrites = s.bbWrites := by
    induction l generalizing s with
    | nil => rfl
    | cons e l ih => rw [List.foldl_cons, ih, State.bbEvent_bbWrites]
  obtain ⟨frozen, cause, -⟩ := State.freeze_on ((writes l s).trans h) 0x02#8
  exact ⟨frozen, cause⟩

/-- An engine whose trowels are awake writes events as soon as its black box is not frozen and PWR_OK is high (R497). -/
theorem State.bbWrites_of_awake {s : State} (h : s.trowelsAwake = true) (hf : s.bb.frozen = false)
    (hp : s.pins.pwrOk = true) : s.bbWrites = true := by
  have clocked : s.clocked = true := by
    unfold State.trowelsAwake at h
    unfold State.clocked
    split at h <;> simp_all
  rw [State.bbWrites, hf, hp, clocked]
  rfl

/-- `u` is `s` after a trowel fault (R83, R141). -/
def FaultHalts (s u : State) : Prop :=
  u.phase = .halted ∧ u.balls.ready = false ∧ u.balls.faultLow = true ∧ u.balls.hbLeft = 0 ∧
  (s.bb.frozen = false → s.pins.pwrOk = true → u.bb.frozen = true ∧ u.bb.freezeCause = 0x02) ∧
  u.light.stage = .rest ∧ u.holdsPort = false ∧ u.sys = s.sys ∧ u.identity = s.identity ∧
  ∀ o : TrowelId, (u.trowels[o]).status = .stopped ∧ (u.trowels[o]).group = none ∧
    (u.trowels[o]).wq = (s.trowels[o]).wq.filter (·.answer.isSome) ∧ (u.trowels[o]).w = (s.trowels[o]).w

/-- A trowel fault ends in the halt. -/
theorem State.trowelFault_ends (s : State) (t : TrowelId) (cause : Nat) (code : BitVec 16) :
    ∃ v : State, s.trowelFault t cause code = v.enterHalt := ⟨_, rfl⟩

/-- The trowels after a trowel fault. -/
theorem State.trowelFault_get (s : State) (t o : TrowelId) (cause : Nat) (code : BitVec 16) :
    (s.trowelFault t cause code).trowels[o.val] = { s.trowels[o.val] with
      status := .stopped, wq := s.trowels[o.val].wq.filter (·.answer.isSome), group := none } := by
  simp [State.trowelFault]

/-- The black box after a trowel fault of an engine that writes events. -/
theorem State.trowelFault_freezes {s : State} (h : s.bbWrites = true) (t : TrowelId) (cause : Nat) (code : BitVec 16) :
    (s.trowelFault t cause code).bb.frozen = true ∧ (s.trowelFault t cause code).bb.freezeCause = 0x02 := by
  unfold State.trowelFault
  simp only [State.enterHalt_frame]
  refine State.faultEvents_freezes ?_ _
  simpa [State.bbWrites, State.clocked] using h

/-- A halted engine with READY low does not hold the verdict port (R327). -/
theorem State.holdsPort_of_halted {s : State} (hp : s.phase = .halted) (hr : s.balls.ready = false) :
    s.holdsPort = false := by
  simp [State.holdsPort, hp, hr]

/-- A trowel fault of an engine whose trowels are awake. -/
theorem State.trowelFault_halts {s : State} (h : s.trowelsAwake = true) (t : TrowelId) (cause : Nat) (code : BitVec 16) :
    FaultHalts s (s.trowelFault t cause code) := by
  obtain ⟨v, ends⟩ := s.trowelFault_ends t cause code
  obtain ⟨phase, ready, fault, beat, rest⟩ := v.enterHalt_does
  rw [← ends] at phase ready fault beat rest
  refine ⟨phase, ready, fault, beat, fun hf hp => State.trowelFault_freezes (State.bbWrites_of_awake h hf hp) t cause code,
    rest, State.holdsPort_of_halted phase ready, ?_, ?_, fun o => ?_⟩
  · simp only [State.trowelFault_frame]
  · simp only [State.trowelFault_frame]
  · rw [Fin.getElem_fin, State.trowelFault_get]
    exact ⟨rfl, rfl, rfl, rfl⟩

/-! ### Which instructions are a trowel fault -/

section
variable {s : State} {t : TrowelId} (h : s.executes t = true)
include h

/-- A command that is a trowel fault halts the engine. -/
theorem halts_of_trowelFault {c : Instr} {cause : Nat} {code : BitVec 16}
    (he : exec c s = .next (s.trowelFault t cause code)) : Does c s (FaultHalts s) :=
  ⟨_, he, State.trowelFault_halts (State.executes_iff.mp h).1 t cause code⟩

/-- An instruction that can be a trowel fault, and is one. -/
theorem halts_of_mayFault {c : Instr} {f : State → State} {cause : Nat} {code : BitVec 16}
    (he : exec c s = .next (s.mayFault t f)) (hf : f s = s.trowelFault t cause code) : Does c s (FaultHalts s) :=
  halts_of_trowelFault h ((exec_of_mayFault h he).trans (congrArg _ hf))

theorem watchdogExpiry_halts : Does (.watchdogExpiry t) s (FaultHalts s) := by
  obtain ⟨awake, run⟩ := State.executes_iff.mp h
  have watched : s.watched t = true := by rw [State.watched, awake, run]; rfl
  exact halts_of_trowelFault h (congrArg Host.Outcome.next (if_pos watched))

/-- A broken word is fetched as opcode 0, which is illegal (R550). -/
theorem illegalInstruction_halts {w : Word}
    (hw : (s.trowels[t]).codeErr.contains (s.trowels[t]).pc = true ∨ decodeTrowel t w = none) :
    Does (.illegalInstruction t w) s (FaultHalts s) := by
  have illegal : decodeTrowel t (s.fetched t w) = none := by
    unfold State.fetched
    split
    · rfl
    · rename_i sound
      exact hw.resolve_left sound
  exact halts_of_mayFault h rfl (if_pos (Option.isNone_iff_eq_none.mpr illegal))

theorem callCond_halts {k : Cond} (target : BitVec 12) (hc : (s.trowels[t]).cond k = true)
    (hr : 8 ≤ (s.trowels[t]).rstack.length) : Does (.callCond t k target) s (FaultHalts s) :=
  halts_of_mayFault h rfl (if_pos (by rw [hc, decide_eq_true hr]; rfl))

theorem ret_halts (hr : (s.trowels[t]).rstack = []) : Does (.ret t) s (FaultHalts s) :=
  halts_of_mayFault (cause := 3) (code := 0) h rfl (by rw [hr])

theorem ld_halts {rd ra : RegId} {imm : BitVec 18}
    (he : (s.trowels[t]).dataErr.contains ((s.trowels[t]).dataAddr ra imm) = true) :
    Does (.ld t rd ra imm) s (FaultHalts s) :=
  halts_of_mayFault h rfl (if_pos he)

end

/-- The trowel that a command has made. -/
theorem State.makes_get (s : State) (t : TrowelId) (x : Trowel) :
    ({ s with trowels := s.trowels.set t.val x t.isLt } : State).trowels[t] = x := by
  simp

/-- Settles O12: each of the happenings is `State.trowelFault`, which halts by `State.trowelFault_halts`. -/
theorem trowelFaultsHalt : Obligations.TrowelFaultsHalt := by
  unfold Obligations.TrowelFaultsHalt
  intro s t rd ra k target imm code w h x halts
  exact ⟨watchdogExpiry_halts h, halts_of_mayFault h rfl rfl, halts_of_mayFault h rfl (if_pos rfl),
    fun hw => illegalInstruction_halts h hw, fun hc hr => callCond_halts h target hc hr, fun hr => ret_halts h hr,
    fun hg => halts_of_mayFault h rfl (if_pos hg), fun he => ld_halts h he⟩

/-- Settles O58: the stack faults halt as every trowel fault does, and the sum's upper bits fall away in
`Trowel.dataAddr_eq`. -/
theorem stackFaultsAndDataAddresses : Obligations.StackFaultsAndDataAddresses := by
  unfold Obligations.StackFaultsAndDataAddresses
  intro s t rd ra k target imm h x adr faults
  have faulted {c : Instr} (hc : Does c s (FaultHalts s)) : faults c := by
    obtain ⟨u, he, phase, -, fault, -, -, -, -, -, -, trowels⟩ := hc
    exact ⟨u, he, phase, fault, fun o => (trowels o).1⟩
  have hadr : x.dataAddr ra imm = adr := by
    rw [x.dataAddr_eq]
    apply BitVec.eq_of_toNat_eq
    rw [BitVec.toNat_ofNat, BitVec.toNat_ofNat, Nat.mod_mod]
  refine ⟨fun hc hr => faulted (callCond_halts h target hc hr.ge), fun hr => faulted (ret_halts h hr), fun he => ?_,
    _, st_makesTrowel h rd ra imm, fun b => ?_⟩
  · have sound : x.dataErr.contains (x.dataAddr ra imm) = false := by rw [he]; rfl
    exact hadr ▸ ld_givesResult h rd ra imm sound
  · rw [State.makes_get]
    exact (x.loadWord_storeWord (x.dataAddr ra imm) b (x.rd rd)).trans (by rw [hadr]; rfl)

end Sys2Proof.Machine
end

section
/-! SUPPORT. Events, WAIT, the trowel timer and the watchdog (R127, R128, R135, R139, R140). -/

namespace Sys2Proof.Machine

/-! ### Changes of one trowel -/

/-- Two changes of one trowel are one. -/
theorem State.updT_updT (s : State) (t : TrowelId) (f g : Trowel → Trowel) :
    (s.updT t f).updT t g = s.updT t fun x => g (f x) := by
  simp [State.updT]

/-- Raising an event sets its pending bit, and its overrun bit where it was still pending (R127, R128). -/
theorem Trowel.raise_bits (x : Trowel) (n : Nat) :
    x.raise n = { x with
      pending := x.pending ||| BitVec.ofNat 64 (2 ^ n)
      overrun := if x.pending.getLsbD n then x.overrun ||| BitVec.ofNat 64 (2 ^ n) else x.overrun } := by
  unfold Trowel.raise
  split
  next waits =>
    have kept : x.pending ||| BitVec.ofNat 64 (2 ^ n) = x.pending := by
      refine BitVec.eq_of_getLsbD_eq fun i hi => ?_
      rw [BitVec.getLsbD_or, BitVec.getLsbD_ofNat, Nat.testBit_two_pow]
      by_cases e : n = i
      · rw [← e, waits, Bool.true_or]
      · rw [decide_eq_false e, Bool.and_false, Bool.or_false]
    rw [kept]
  next => rfl

/-- Taking an event clears the pending bit of a pulse event and leaves a level event alone (R127). -/
theorem State.taken_eq (s : State) (t : TrowelId) (x : Trowel) (n : Nat) :
    (if (s.level t n).isNone then x.clearEvent n else x) = { x with
      pending := if (s.level t n).isSome then x.pending else x.pending &&& ~~~ BitVec.ofNat 64 (2 ^ n) } := by
  cases s.level t n <;> rfl

/-! ### The lowest event -/

/-- The lowest-numbered event of a mask is taken (R135). -/
theorem State.lowestEvent_some {s : State} {t : TrowelId} {mask : BitVec 64} {k : Nat} (hk : k < 64)
    (hm : mask.getLsbD k = true) (hp : s.eventPresent t k = true)
    (hl : ∀ j < k, mask.getLsbD j = true → s.eventPresent t j = false) : s.lowestEvent t mask = some k := by
  refine List.find?_range_eq_some.mpr ⟨by rw [hm, hp]; rfl, List.mem_range.mpr hk, fun j hj => ?_⟩
  cases h : mask.getLsbD j
  · rfl
  · rw [hl j hj h]; rfl

theorem State.lowestEvent_none {s : State} {t : TrowelId} {mask : BitVec 64}
    (h : ∀ k < 64, mask.getLsbD k = true → s.eventPresent t k = false) : s.lowestEvent t mask = none := by
  refine List.find?_range_eq_none.mpr fun k hk => ?_
  cases hm : mask.getLsbD k
  · rfl
  · rw [h k hk hm]; rfl

/-- What a WAIT that takes event `n` makes of its trowel. -/
theorem State.takeEvent_eq (s : State) (t : TrowelId) (rd : RegId) (n : Nat) :
    s.takeEvent t rd n = s.updT t fun x => { x with
      pending := if (s.level t n).isSome then x.pending else x.pending &&& ~~~ BitVec.ofNat 64 (2 ^ n)
      w := x.w.set rd.toNat (BitVec.ofNat 32 n) rd.isLt, pc := x.pc + 1, status := .run } := by
  simp only [State.takeEvent, State.taken_eq]
  rfl

/-! ### The instructions and the timers -/

section
variable {s : State} {t : TrowelId}

/-- A WAIT with an event of its mask present takes the lowest. -/
theorem wait_takes (h : s.executes t = true) (rd : RegId) {ra rb : RegId} {k : Nat}
    (hl : s.lowestEvent t ((s.trowels[t]).rd rb ++ (s.trowels[t]).rd ra) = some k) :
    MakesTrowel (.wait t rd ra rb) s t { s.trowels[t] with
      pending := if (s.level t k).isSome then (s.trowels[t]).pending
        else (s.trowels[t]).pending &&& ~~~ BitVec.ofNat 64 (2 ^ k)
      w := (s.trowels[t]).w.set rd.toNat (BitVec.ofNat 32 k) rd.isLt, pc := (s.trowels[t]).pc + 1 } := by
  have takes : exec (.wait t rd ra rb) s = .next (s.takeEvent t rd k) :=
    (exec_of_whenRun h rfl).trans (by dsimp only; rw [hl])
  rw [State.takeEvent_eq] at takes
  refine makesTrowel_of_updT takes ?_
  rw [← (State.executes_iff.mp h).2]

/-- A WAIT with no event of its mask present waits. -/
theorem wait_waits (h : s.executes t = true) (rd : RegId) {ra rb : RegId}
    (hl : s.lowestEvent t ((s.trowels[t]).rd rb ++ (s.trowels[t]).rd ra) = none) :
    MakesTrowel (.wait t rd ra rb) s t
      { s.trowels[t] with status := .waiting rd ((s.trowels[t]).rd rb ++ (s.trowels[t]).rd ra) } := by
  have waits : exec (.wait t rd ra rb) s =
      .next (s.updT t fun x => { x with status := .waiting rd ((s.trowels[t]).rd rb ++ (s.trowels[t]).rd ra) }) :=
    (exec_of_whenRun h rfl).trans (by dsimp only; rw [hl])
  exact makesTrowel_of_updT waits rfl

/-- A waiting trowel takes the lowest event of its mask once one is present (R135). -/
theorem waitEventPresent_takes (ha : s.trowelsAwake = true) {rd : RegId} {mask : BitVec 64} {k : Nat}
    (hw : (s.trowels[t]).status = .waiting rd mask) (hl : s.lowestEvent t mask = some k) :
    MakesTrowel (.waitEventPresent t) s t { s.trowels[t] with
      pending := if (s.level t k).isSome then (s.trowels[t]).pending
        else (s.trowels[t]).pending &&& ~~~ BitVec.ofNat 64 (2 ^ k)
      w := (s.trowels[t]).w.set rd.toNat (BitVec.ofNat 32 k) rd.isLt, pc := (s.trowels[t]).pc + 1, status := .run } := by
  have takes : exec (.waitEventPresent t) s = .next (s.takeEvent t rd k) := by
    change execWaitEventPresent t s = _
    simp only [execWaitEventPresent, ha, if_true, hw, hl]
  rw [State.takeEvent_eq] at takes
  exact makesTrowel_of_updT takes rfl

/-- A change of a started trowel followed by a pulse event. -/
theorem State.updT_raise (hs : s.boot.started = true) (f : Trowel → Trowel) (n : Nat) :
    (s.updT t f).raise t n = s.updT t fun x => (f x).raise n := by
  rw [State.raise_started (s := s.updT t f) hs, State.updT_updT]

theorem timer_makesTrowel (ha : s.trowelsAwake = true) (hs : s.boot.started = true)
    (hr : (s.trowels[t]).status ≠ .stopped) (ht : (s.trowels[t]).timer ≠ 0) :
    MakesTrowel (.timer t) s t (({ s.trowels[t] with timer := 0 } : Trowel).raise 4) := by
  have e : exec (.timer t) s = .next ((s.updT t fun x => { x with timer := 0 }).raise t 4) :=
    congrArg _ (if_pos (by simp only [ha, decide_eq_true hr, decide_eq_true ht]; rfl))
  exact makesTrowel_of_updT (e.trans (congrArg _ (State.updT_raise hs ..))) rfl

theorem wdHalf_makesTrowel (ha : s.trowelsAwake = true) (hs : s.boot.started = true)
    (hr : (s.trowels[t]).status ≠ .stopped) : MakesTrowel (.wdHalf t) s t ((s.trowels[t]).raise 6) := by
  have e : exec (.wdHalf t) s = .next (s.raise t 6) :=
    congrArg _ (if_pos (by simp only [ha, decide_eq_true hr]; rfl))
  exact makesTrowel_of_updT (e.trans (congrArg _ (State.raise_started hs ..))) rfl

end

/-- Settles O10: the taken event by `State.lowestEvent_some`, TIMER and WD_HALF by `Trowel.raise_bits`. -/
theorem trowelEventsAndWaits : Obligations.TrowelEventsAndWaits := by
  unfold Obligations.TrowelEventsAndWaits
  constructor
  · intro s t rd ra rb n h x inMask taken
    have mask (k : Nat) : (x.rd rb ++ x.rd ra : BitVec 64).getLsbD k = inMask k := BitVec.getLsbD_append
    have evt : exec (.evt t n) s = .next (s.updT t fun x => { x.advance with z := !s.eventPresent t n.toNat }) :=
      (exec_of_whenRun h rfl).trans rfl
    have eclr : exec (.eclr t n) s =
        .next (s.updT t fun x => (if (s.level t n.toNat).isNone then x.clearEvent n.toNat else x).advance) :=
      (exec_of_whenRun h rfl).trans rfl
    refine ⟨fun k hk hm hp hl => wait_takes h rd ?_, fun hn => wait_waits h rd ?_, makesTrowel_of_updT evt rfl,
      makesTrowel_of_updT eclr (congrArg Trowel.advance (s.taken_eq t x n.toNat))⟩
    · exact State.lowestEvent_some hk ((mask k).trans hm) hp fun j hj hj' => hl j hj ((mask j).symm.trans hj')
    · exact State.lowestEvent_none fun k hk hk' => hn k hk ((mask k).symm.trans hk')
  · intro s t ra ha x
    refine ⟨fun rd mask hw k hk hm hp hl => waitEventPresent_takes ha hw (State.lowestEvent_some hk hm hp hl),
      fun hr => ?_, fun hr hs => ⟨fun ht => ?_, ?_⟩⟩
    · have h := State.executes_of_run ha hr
      exact ⟨makesTrowel_of_runT h rfl rfl, makesTrowel_of_runT h rfl rfl⟩
    · have made := timer_makesTrowel ha hs hr ht
      rwa [Trowel.raise_bits] at made
    · have made := wdHalf_makesTrowel ha hs hr
      rwa [Trowel.raise_bits] at made

end Sys2Proof.Machine
end

section
/-! SUPPORT. Special registers, mailboxes and LOG (R137, R138, Tables TW.6 and TW.12). -/

namespace Sys2Proof.Machine

/-! ### Special registers -/

/-- The latches after MFS of register `r`: CYCLE_LO and TIME_LO latch their high words (R138). -/
def State.mfsLatch (s : State) (t : TrowelId) (r : BitVec 4) : Latches :=
  { s.trowels[t].latch with
    cycleHi := if r = 7 then BitVec.ofNat 32 (s.trowels[t].cycles / 2 ^ 32) else s.trowels[t].latch.cycleHi
    timeHi := if r = 9 then BitVec.ofNat 32 (s.time.ns / 2 ^ 32) else s.trowels[t].latch.timeHi }

/-- The high word of the time base. -/
theorem State.timeWord_high (s : State) : (s.timeWord >>> 32).setWidth 32 = BitVec.ofNat 32 (s.time.ns / 2 ^ 32) := by
  apply BitVec.eq_of_toNat_eq
  rw [BitVec.toNat_setWidth, BitVec.toNat_ushiftRight, State.timeWord, BitVec.toNat_ofNat, BitVec.toNat_ofNat,
    Nat.shiftRight_eq_div_pow, State.nowNs]
  omega

theorem mfs_makesTrowel {s : State} {t : TrowelId} (h : s.executes t = true) (rd : RegId) (r : BitVec 4) :
    MakesTrowel (.mfs t rd r) s t { s.trowels[t] with
      w := s.trowels[t].w.set rd.toNat (s.special t r) rd.isLt, pc := s.trowels[t].pc + 1, latch := s.mfsLatch t r } := by
  have high := s.timeWord_high
  refine makesTrowel_of_updT ((exec_of_whenRun h rfl).trans rfl) ?_
  unfold State.mfsLatch
  rw [← high]
  dsimp only
  split <;> split <;> rfl

/-- The trowel after MTS of `v` to register `r`, but for the program counter (Table TW.12). -/
def Trowel.mts (x : Trowel) (v : Word) (r : BitVec 4) : Trowel :=
  match r.toNat with
  | 0 => { x with z := v.getLsbD 0, n := v.getLsbD 1, c := v.getLsbD 2, v := v.getLsbD 3
                  refused := x.refused && !v.getLsbD 4 }
  | 3 => { x with overrun := x.overrun &&& ~~~ (v.setWidth 64) }
  | 4 => { x with overrun := x.overrun &&& ~~~ (v.setWidth 64 <<< 32) }
  | 6 => { x with refCount := 0 }
  | _ => x

theorem mts_makesTrowel {s : State} {t : TrowelId} (h : s.executes t = true) (ra : RegId) (r : BitVec 4) :
    MakesTrowel (.mts t ra r) s t (s.trowels[t].mts (s.trowels[t].rd ra) r).advance :=
  makesTrowel_of_runT h rfl rfl

/-- A word above 32 zeros. -/
theorem setWidth_shiftLeft_eq_append (v : Word) : v.setWidth 64 <<< 32 = v ++ 0#32 := by
  apply BitVec.eq_of_toNat_eq
  have := v.isLt
  rw [BitVec.toNat_shiftLeft, BitVec.toNat_setWidth, BitVec.toNat_append, Nat.shiftLeft_eq, Nat.shiftLeft_eq]
  simp
  omega

/-- MTS of a read-only register changes nothing. -/
theorem Trowel.mts_readOnly (x : Trowel) (v : Word) {r : BitVec 4} (h : r = 1 ∨ r = 2 ∨ r = 5 ∨ 7 ≤ r.toNat) :
    x.mts v r = x := by
  have other : r.toNat ≠ 0 ∧ r.toNat ≠ 3 ∧ r.toNat ≠ 4 ∧ r.toNat ≠ 6 := by
    rcases h with rfl | rfl | rfl | h
    · decide
    · decide
    · decide
    · omega
  unfold Trowel.mts
  split
  case h_5 => rfl
  all_goals omega

/-! ### Mailboxes and LOG -/

/-- The trowels after SEND: the word is in the mailbox where it found room, and the sender has C and goes on (R137). -/
theorem send_does {s : State} {t : TrowelId} (h : s.executes t = true) (d : TrowelId) (ra : RegId) :
    Does (.send t d ra) s fun u => u = { s with trowels := u.trowels } ∧
      let room := decide (s.trowels[d].mail.length < 8)
      ∀ o : TrowelId, u.trowels[o] = { s.trowels[o] with
        mail := if o = d ∧ room = true then s.trowels[o].mail ++ [s.trowels[t].rd ra] else s.trowels[o].mail
        c := if o = t then room else s.trowels[o].c
        pc := if o = t then s.trowels[t].pc + 1 else s.trowels[o].pc } := by
  refine ⟨_, (exec_of_whenRun h rfl).trans rfl, rfl, fun o => ?_⟩
  generalize decide (s.trowels[d].mail.length < 8) = room
  dsimp only [Fin.getElem_fin]
  rw [State.updT_get, State.updT_get]
  by_cases ht : o = t
  · subst ht
    by_cases hd : o = d <;> cases room <;> simp [hd, Trowel.advance]
  · by_cases hd : o = d
    · subst hd
      cases room <;> simp [ht]
    · simp [ht, hd]

theorem recv_empty {s : State} {t : TrowelId} (h : s.executes t = true) (rd : RegId) (hm : s.trowels[t].mail = []) :
    MakesTrowel (.recv t rd) s t
      { s.trowels[t] with w := s.trowels[t].w.set rd.toNat 0 rd.isLt, z := true, pc := s.trowels[t].pc + 1 } :=
  makesTrowel_of_runT h rfl <| by
    dsimp only
    split
    next => rfl
    next word => exact absurd (word.symm.trans hm) nofun

theorem recv_takes {s : State} {t : TrowelId} (h : s.executes t = true) (rd : RegId) {m : Word} {l : List Word}
    (hm : s.trowels[t].mail = m :: l) : MakesTrowel (.recv t rd) s t
      { s.trowels[t] with
        w := s.trowels[t].w.set rd.toNat m rd.isLt, z := false, mail := l, pc := s.trowels[t].pc + 1 } :=
  makesTrowel_of_runT h rfl <| by
    dsimp only
    split
    next empty => exact absurd (empty.symm.trans hm) nofun
    next word =>
      obtain ⟨rfl, rfl⟩ := List.cons.inj (word.symm.trans hm)
      rfl

/-- LOG writes its event and goes on (R137). -/
theorem exec_log {s : State} {t : TrowelId} (h : s.executes t = true) (ra : RegId) (code : BitVec 16) :
    exec (.log t ra code) s = .next
      ((s.bbEvent (BitVec.ofNat 7 (0x20 + t.val)) 0xFF#8 code (s.trowels[t].rd ra)).updT t (·.advance)) :=
  (exec_of_whenRun h rfl).trans rfl

/-- What LOG does, to the trowel and to the black box. -/
theorem log_does {s : State} {t : TrowelId} (h : s.executes t = true) (ra : RegId) (code : BitVec 16) :
    Does (.log t ra code) s fun u => u = { s with trowels := u.trowels, bb := u.bb } ∧
      u.trowels[t] = { s.trowels[t] with pc := s.trowels[t].pc + 1 } ∧
      (∀ o : TrowelId, o ≠ t → u.trowels[o] = s.trowels[o]) ∧
      u.bb.ring = s.bb.ring ∧ (s.bbWrites = false → u.bb = s.bb) ∧
      (s.bbWrites = true → s.bb.queue.length < 32 → u.bb.queue = s.bb.queue ++
        [⟨0, BitVec.ofNat 7 (0x20 + t.val), s.bb.lostPending, 0xFF, code, s.trowels[t].rd ra⟩]) := by
  refine ⟨_, exec_log h ra code, rfl, State.updT_self .., fun o ho => State.updT_of_ne _ ho _, ?_, fun hb => ?_,
    fun hb hq => ?_⟩
  · cases hb : s.bbWrites
    · rw [State.bbEvent_off hb]; rfl
    · exact (congrArg BlackBox.ring (State.bbEvent_on hb ..)).trans (BlackBox.push_keeps ..).2.1
  · rw [State.bbEvent_off hb]; rfl
  · exact (congrArg BlackBox.queue (State.bbEvent_on hb ..)).trans (congrArg BlackBox.queue (BlackBox.push_room hq ..))

/-- Settles O11: MFS through `State.mfsLatch`, MTS through `Trowel.mts`. -/
theorem trowelSpecialsAndMail : Obligations.TrowelSpecialsAndMail := by
  unfold Obligations.TrowelSpecialsAndMail
  intro s t d rd ra r code h x v
  have mts := mts_makesTrowel h ra r
  refine ⟨⟨_, mfs_makesTrowel h rd r, rfl, rfl, rfl, rfl⟩, ?_, ?_, fun hr => ?_, ?_, ?_, send_does h d ra,
    fun hm => recv_empty h rd hm, fun m l hm => recv_takes h rd hm, log_does h ra code⟩
  · rintro rfl; exact mts
  · rintro rfl; exact mts
  · rwa [Trowel.mts_readOnly _ _ hr] at mts
  · rintro rfl; exact mts
  · rintro rfl; rw [← setWidth_shiftLeft_eq_append]; exact mts

end Sys2Proof.Machine
end

section
/-! SUPPORT. Posted writes, groups and FSYNC, and what a write does at its unit (R113 to R115, R118, R119, R122 to R124). -/

namespace Sys2Proof.Machine

/-! ### The unit of a group -/

/-- The unit of a group is that of one of its writes, and a unit proper. -/
theorem groupUnit_some {g : List Posted} {n : UnitId} (h : groupUnit g = some n) :
    n ≠ .outside ∧ ∃ w ∈ g, unitOf w.addr.toNat = n := by
  have hm := List.mem_of_find?_eq_some h
  have hn := List.find?_some h
  exact ⟨by simpa using hn, List.mem_map.mp hm⟩

/-- A group that writes to unit `m`, and to no other, is of that unit. -/
theorem groupUnit_eq_some {g : List Posted} {m : UnitId} (hm : m ≠ .outside)
    (hg : ∀ w ∈ g, unitOf w.addr.toNat = m ∨ unitOf w.addr.toNat = .outside) (hw : ∃ w ∈ g, unitOf w.addr.toNat = m) :
    groupUnit g = some m := by
  cases h : groupUnit g with
  | none =>
    obtain ⟨w, hw, rfl⟩ := hw
    have nowhere := List.find?_eq_none.mp h _ (List.mem_map_of_mem hw)
    exact absurd (by simpa using nowhere) hm
  | some n =>
    obtain ⟨hn, w, hw, rfl⟩ := groupUnit_some h
    rw [(hg w hw).resolve_right hn]

/-! ### Posting -/

section
variable {s : State} {t : TrowelId}

/-- With room in the write queue and no group open, a posted write becomes an entry of its own (R118). -/
theorem State.post_queues (w : Posted) (hg : s.trowels[t].group = none) (hq : s.trowels[t].wq.length < 8) :
    s.post t w = s.updT t fun x =>
      { x.advance with wq := x.wq ++ [⟨unitOf w.addr.toNat, [w], none⟩], status := .run } := by
  simp only [State.post, hg, if_neg (Nat.not_le.mpr hq)]

/-- A full write queue stalls (R118). -/
theorem State.post_stalls (w : Posted) (hg : s.trowels[t].group = none) (hq : 8 ≤ s.trowels[t].wq.length) :
    s.post t w = s.updT t fun x => { x with status := .stalled (.post w) } := by
  simp only [State.post, hg, if_pos hq]

/-- A write to no unit, or to the group's, joins the open group (R123, R124). -/
theorem State.post_joins {w : Posted} {g : List Posted} (hg : s.trowels[t].group = some g) (hl : g.length < 16)
    (hu : unitOf w.addr.toNat = .outside ∨
      ∀ y ∈ g, unitOf y.addr.toNat = .outside ∨ unitOf y.addr.toNat = unitOf w.addr.toNat) :
    s.post t w = s.updT t fun x => { x.advance with group := some (g ++ [w]), status := .run } := by
  have joins : ¬ (16 ≤ g.length ∨ (unitOf w.addr.toNat ≠ .outside ∧ (groupUnit g).isSome = true ∧
      groupUnit g ≠ some (unitOf w.addr.toNat))) := by
    rintro (full | ⟨inside, one, other⟩)
    · omega
    · obtain ⟨n, hn⟩ := Option.isSome_iff_exists.mp one
      obtain ⟨proper, y, hy, rfl⟩ := groupUnit_some hn
      exact other (hn.trans (congrArg some (((hu.resolve_left inside) y hy).resolve_left proper)))
  simp only [State.post, hg, if_neg joins]

/-- A 17th write of a group is a trowel fault (R124). -/
theorem State.post_faults (w : Posted) {g : List Posted} (hg : s.trowels[t].group = some g) (hl : 16 ≤ g.length) :
    s.post t w = s.trowelFault t 4 0 := by
  simp only [State.post, hg, if_pos (Or.inl hl)]

/-- A group with a write in it becomes one entry of the write queue (R123). -/
theorem State.closeGroup_sends {g : List Posted} (hg : s.trowels[t].group = some g) (hn : g ≠ [])
    (hq : s.trowels[t].wq.length < 8) :
    s.closeGroup t = s.updT t fun x =>
      { x.advance with group := none, wq := x.wq ++ [⟨(groupUnit g).getD .outside, g, none⟩], status := .run } := by
  cases g with
  | nil => exact absurd rfl hn
  | cons w g => simp only [State.closeGroup, hg, if_neg (Nat.not_le.mpr hq)]

theorem State.closeGroup_none (hg : s.trowels[t].group = none) :
    s.closeGroup t = s.updT t fun x => { x.advance with status := .run } := by
  simp only [State.closeGroup, hg]

theorem State.syncWrites_empty (hq : s.trowels[t].wq = []) :
    s.syncWrites t = s.updT t fun x => { x.advance with status := .run } := by
  simp only [State.syncWrites, hq, List.isEmpty_nil, if_true]

theorem State.syncWrites_waits (hq : s.trowels[t].wq ≠ []) :
    s.syncWrites t = s.updT t fun x => { x with status := .stalled .fsync } :=
  if_neg (by rwa [List.isEmpty_iff])

/-! ### The instructions -/

/-- A change that ends with the trowel running, of a trowel that ran. -/
theorem makesTrowel_of_run {c : Instr} {f : Trowel → Trowel} {y : Trowel} (h : s.executes t = true)
    (he : exec c s = .next (s.updT t f)) (hf : f s.trowels[t] = { y with status := .run })
    (hy : y.status = s.trowels[t].status) : MakesTrowel c s t y := by
  refine makesTrowel_of_updT he (hf.trans ?_)
  rw [← (State.executes_iff.mp h).2, ← hy]

section
variable (h : s.executes t = true) (hs : s.accessStalls = false)
include h hs

/-- FST posts its write. -/
theorem exec_fst (rs : RegId) (f : BitVec 16) : exec (.fst t rs f) s = .next (s.post t ⟨f, s.trowels[t].rd rs⟩) :=
  (exec_of_mayFault h rfl).trans (congrArg _ (if_neg (Bool.eq_false_iff.mp hs)))

/-- FSTX posts its write, to the address plus a register. -/
theorem exec_fstx (rs ra : RegId) (f : BitVec 16) :
    exec (.fstx t rs ra f) s = .next (s.post t ⟨s.trowels[t].fieldAddr ra f, s.trowels[t].rd rs⟩) :=
  (exec_of_mayFault h rfl).trans (congrArg _ (if_neg (Bool.eq_false_iff.mp hs)))

/-- FSYNC and GRPE go to work where no access stalls. -/
theorem State.access_executes (op : Stall) (f : State → State) : s.access t op f = f s := by
  obtain ⟨awake, run⟩ := State.executes_iff.mp h
  exact State.access_works awake run hs op f

theorem exec_fsync : exec (.fsync t) s = .next (s.syncWrites t) := congrArg _ (State.access_executes h hs ..)

theorem exec_grpe : exec (.grpe t) s = .next (s.closeGroup t) := congrArg _ (State.access_executes h hs ..)

end

end

/-! ### A write at its unit -/

/-- The trowel to which a refusal has been declared (R114, R120). -/
def Trowel.refuse (x : Trowel) (a : BitVec 16) (why : BitVec 3) : Trowel :=
  { x with
    refused := true, refAddr := a, refReason := why, refCount := min 65535 (x.refCount + 1)
    pending := x.pending ||| 32#64
    overrun := if x.pending.getLsbD 5 then x.overrun ||| 32#64 else x.overrun }

/-- A refusal is declared to its trowel, with a black-box event. -/
theorem State.refuse_eq {s : State} (hs : s.boot.started = true) (t : TrowelId) (a : BitVec 16) (why : BitVec 3) :
    s.refuse t a why = (s.updT t (·.refuse a why)).bbEvent 0x02#7 (BitVec.ofNat 8 t.val) 0x0002#16
      (BitVec.ofNat 32 (a.toNat + why.toNat * 2 ^ 16)) := by
  rw [State.refuse, State.updT_raise hs]
  simp only [Trowel.raise_bits]
  rfl

section
variable {s : State} {t : TrowelId}

/-- What a refusal does: to its trowel, to no other, and to the black box. -/
theorem State.refuse_does (hs : s.boot.started = true) (a : BitVec 16) (why : BitVec 3) :
    let u := s.refuse t a why
    u = { s with trowels := u.trowels, bb := u.bb } ∧ (∀ o : TrowelId, o ≠ t → u.trowels[o] = s.trowels[o]) ∧
      u.trowels[t] = s.trowels[t].refuse a why ∧
      (s.bbWrites = true → s.bb.queue.length < 32 → u.bb.queue = s.bb.queue ++
        [⟨0, 2, s.bb.lostPending, BitVec.ofNat 8 t.val, 2, BitVec.ofNat 32 (a.toNat + why.toNat * 65536)⟩]) := by
  intro u
  have e : u = _ := State.refuse_eq hs t a why
  rw [e]
  refine ⟨rfl, fun o ho => State.updT_of_ne s ho (·.refuse a why), State.updT_self s t (·.refuse a why), fun hb hq => ?_⟩
  have writes : (s.updT t (·.refuse a why)).bbWrites = true := hb
  rw [State.bbEvent_on writes]
  exact congrArg BlackBox.queue (BlackBox.push_room hq ..)

/-- A write for which the queue holds no entry that its unit has still to receive stands alone. -/
theorem State.arrive_alone (ha : s.trowelsAwake = true) (hs : s.boot.started = true) {a : BitVec 16}
    (hq : ∀ e ∈ s.trowels[t].wq, e.unit = unitOf a.toNat → e.answer.isSome = true) (v : Word) :
    s.arrive t a v = (s.receiveWrite t ⟨a, v⟩).1.refuseAll t (s.receiveWrite t ⟨a, v⟩).2.toList := by
  have alone : (s.trowels[t].wq.find? fun e => decide (e.unit = unitOf a.toNat) && e.answer.isNone) = none := by
    refine List.find?_eq_none.mpr fun e he hm => ?_
    rw [Bool.and_eq_true, decide_eq_true_eq] at hm
    have := hq e he hm.1
    cases h : e.answer <;> simp_all
  simp only [State.arrive, ha, hs, alone]
  rfl

/-- An unrefused write to an absent unit has no effect (R13). -/
theorem State.receiveWrite_absent {w : Posted} (h : absentField s.identity.variant w.addr.toNat = true) :
    s.receiveWrite t w = (s, none) := if_pos h

/-- A refused write changes nothing; the refusal goes back (R114). -/
theorem State.receiveWrite_refused {w : Posted} {why : BitVec 3} (h : s.refusal t w.addr.toNat = some why) :
    s.receiveWrite t w = (s, some (w.addr, why)) := by
  have present : ¬ absentField s.identity.variant w.addr.toNat = true := fun absent => by
    rw [State.refusal, if_pos absent] at h
    exact absurd h nofun
  rw [State.receiveWrite, if_neg present, h]

/-- A write that its unit takes is accepted by it. -/
theorem exec_fieldWrite_takes {a : BitVec 16} (h : Takes s t a.toNat) (v : Word) :
    exec (.fieldWrite t a v) s = .next (s.accept t a.toNat v) := by
  have e := State.arrive_of_takes h a.isLt v
  rw [BitVec.ofNat_toNat, BitVec.setWidth_eq] at e
  exact congrArg _ e

/-- A value that would widen a strap choice only writes its event (R16). -/
theorem State.accept_widens {a : Nat} {v : Word} {r : FieldRow} {bits : Word} (hr : fieldRow a = some r)
    (hw : s.widens a (cutToWidth r v) = some bits) : s.accept t a v = s.bbEvent 0x00#7 0xFF#8 0x0003#16 bits := by
  simp only [State.accept, hr, hw]

/-- A shadowed field of a running unit waits for its boundary (R115, R122). -/
theorem State.accept_shadowed {a : Nat} {v : Word} {r : FieldRow} {set : SetId} (hr : fieldRow a = some r)
    (hw : s.widens a (cutToWidth r v) = none) (ho : s.turnedOff a = false) (hn : s.runsAt a = true)
    (hset : setOf a = some set) :
    s.accept t a v = { s with shadow := s.shadow ++ [⟨set, a, cutToWidth r v, s.unitCycle set⟩] } := by
  simp [State.accept, hr, hw, ho, hn, hset]

/-- A stored field of LOC, WL or TIME takes effect at once by being stored. -/
theorem State.applyNow_stored {a : Nat} (hu : unitOf a = .loc ∨ unitOf a = .wl ∨ unitOf a = .time) (v : Word) :
    s.applyNow t a v = s.setF a v := by
  rcases hu with hu | hu | hu <;> rw [State.applyNow, hu]

end

/-- Settles O20: the instructions through `State.post`, `State.closeGroup` and `State.syncWrites`, the unit through
`State.arrive_alone` and `State.accept`. -/
theorem fieldWrites : Obligations.FieldWrites := by
  unfold Obligations.FieldWrites
  constructor
  · intro s t rs ra f g h hs x a
    have fst := exec_fst h hs rs f
    have fstx := exec_fstx h hs rs ra f
    rw [Trowel.fieldAddr_eq] at fstx
    have fsync := exec_fsync h hs
    have grpe := exec_grpe h hs
    refine ⟨fun hg hq => ⟨?_, ?_⟩, fun hg hq => ⟨?_, ?_⟩, fun hg hl => ⟨fun hu => ?_, fun hu => ?_⟩, fun hg hl => ?_,
      fun hq => ?_, fun hq => ?_, fun hg => ⟨?_, ?_⟩, fun hg hn hq => ⟨(groupUnit g).getD .outside, ?_, fun m hm hu hw => ?_⟩⟩
    · rw [State.post_queues _ hg hq] at fst
      exact makesTrowel_of_run h fst rfl rfl
    · rw [State.post_queues _ hg hq] at fstx
      exact makesTrowel_of_run h fstx rfl rfl
    · rw [State.post_stalls _ hg hq] at fst
      exact makesTrowel_of_updT fst rfl
    · rw [State.post_stalls _ hg hq] at fstx
      exact makesTrowel_of_updT fstx rfl
    · rw [State.post_joins hg hl hu] at fst
      exact makesTrowel_of_run h fst rfl rfl
    · rw [State.post_joins hg hl hu] at fstx
      exact makesTrowel_of_run h fstx rfl rfl
    · rw [State.post_faults _ hg hl] at fst
      obtain ⟨u, he, phase, -, fault, -⟩ := halts_of_trowelFault h fst
      exact ⟨u, he, phase, fault⟩
    · rw [State.syncWrites_empty hq] at fsync
      exact makesTrowel_of_run h fsync rfl rfl
    · rw [State.syncWrites_waits hq] at fsync
      exact makesTrowel_of_updT fsync rfl
    · have opens : exec (.grpb t) s = .next (s.updT t fun x => { x.advance with group := some [] }) :=
        (exec_of_mayFault h rfl).trans (congrArg _ (if_neg (by rw [hg]; nofun)))
      exact makesTrowel_of_updT opens rfl
    · rw [State.closeGroup_none hg] at grpe
      exact makesTrowel_of_run h grpe rfl rfl
    · rw [State.closeGroup_sends hg hn hq] at grpe
      exact makesTrowel_of_run h grpe rfl rfl
    · rw [groupUnit_eq_some hm hu hw]; rfl
  · intro s t a v ha hs hq x
    have write : exec (.fieldWrite t a v) s = .next (s.arrive t a v) := rfl
    rw [State.arrive_alone ha hs hq] at write
    refine ⟨fun why hw => ?_, fun absent => ?_, fun r takes hr hw => ⟨fun set hn hset => ?_, fun hsh hn hu => ?_⟩,
      fun r bits takes hr hw hb hl => ?_⟩
    · rw [State.receiveWrite_refused (w := ⟨a, v⟩) hw] at write
      exact ⟨_, write, State.refuse_does hs a why⟩
    · rw [State.receiveWrite_absent (w := ⟨a, v⟩) absent] at write
      exact write
    · exact ⟨_, exec_fieldWrite_takes takes v, State.accept_shadowed hr hw takes.on hn hset⟩
    · refine ⟨_, exec_fieldWrite_takes takes v, ?_⟩
      rw [State.accept_now hr hw takes.on hn, State.applyNow_stored hu, State.applyStopped_nil (s := s.setF ..) hsh]
      exact ⟨rfl, State.getF_setF_self .., fun b hb => State.getF_setF_of_ne _ hb _⟩
    · refine ⟨_, exec_fieldWrite_takes takes v, ?_⟩
      rw [State.accept_widens hr hw]
      have event := State.bbEvent_on hb 0x00#7 0xFF#8 0x0003#16 bits
      exact ⟨rfl, congrArg BlackBox.queue (event.trans (BlackBox.push_room hl ..))⟩

end Sys2Proof.Machine
end

section
/-! SUPPORT. The acceptance reply of a unit, and the instruction scrub (R118 to R120, R550). -/

namespace Sys2Proof.Machine

/-- A change of one trowel is what it makes of that trowel. -/
theorem State.updT_congr (s : State) (t : TrowelId) {f g : Trowel → Trowel} (h : f s.trowels[t] = g s.trowels[t]) :
    s.updT t f = s.updT t g := by
  rw [State.updT, State.updT, h]

section
variable {s : State} {t : TrowelId}

/-! ### What a stalled instruction does when it goes on -/

/-- A running trowel has nothing to go on with. -/
theorem State.resume_running (h : s.trowels[t].status = .run) : s.resume t = s := by
  unfold State.resume
  rw [h]
  exact ite_self s

/-- A stalled FSYNC goes on with the wait for an empty queue. -/
theorem State.resume_fsync (hs : s.accessStalls = false) (h : s.trowels[t].status = .stalled .fsync) :
    s.resume t = s.syncWrites t := by
  rw [State.resume, if_neg (Bool.eq_false_iff.mp hs), h]

/-- A stalled write is posted. -/
theorem State.resume_post (hs : s.accessStalls = false) {w : Posted} (h : s.trowels[t].status = .stalled (.post w)) :
    s.resume t = s.post t w := by
  rw [State.resume, if_neg (Bool.eq_false_iff.mp hs), h]

/-! ### The reply -/

/-- The oldest entry of a queue, where it is for the unit. -/
theorem find_oldest {l q : List QEntry} {e : QEntry} {n : UnitId} (hq : l = e :: q) (hu : e.unit = n) :
    (l.find? fun e => decide (e.unit = n)) = some e := by
  simp [hq, hu]

section
variable {n : UnitId} {e : QEntry} {q : List QEntry} (ha : s.trowelsAwake = true) (hn : n ≠ .outside)
  (hq : s.trowels[t].wq = e :: q) (hu : e.unit = n)
include ha hn hq hu

/-- A reply before the unit has received the entry has no effect. -/
theorem exec_fieldWriteAccepted_early (hl : e.answer = none) : exec (.fieldWriteAccepted t n) s = .next s := by
  change execFieldWriteAccepted t n s = _
  simp only [execFieldWriteAccepted, ha, find_oldest hq hu, if_neg hn, hl]
  rfl

/-- The reply frees the oldest entry for the unit, brings its refusals, and lets a stalled instruction go on. -/
theorem exec_fieldWriteAccepted_answered {l : List (BitVec 16 × BitVec 3)} (hl : e.answer = some l) :
    exec (.fieldWriteAccepted t n) s = .next (((s.updT t fun x => { x with wq := q }).refuseAll t l).resume t) := by
  change execFieldWriteAccepted t n s = _
  have freed : (s.updT t fun x => { x with wq := x.wq.eraseP fun e => decide (e.unit = n) }) =
      s.updT t fun x => { x with wq := q } :=
    s.updT_congr t (by rw [hq]; simp [hu])
  simp only [execFieldWriteAccepted, ha, find_oldest hq hu, if_neg hn, hl, freed]
  rfl

end

/-! ### The scrub -/

/-- Where the trowels are awake, the scrub rewrites the corrected words, and no word reads otherwise. -/
theorem instructionScrub_does (ha : s.trowelsAwake = true) :
    Does .instructionScrub s fun u => u = { s with trowels := u.trowels } ∧
      ∀ o : TrowelId, u.trowels[o] = { s.trowels[o] with codeSoft := [] } := by
  have scrubs : exec .instructionScrub s =
      .next { s with trowels := s.trowels.map fun x => { x with codeSoft := [] } } := by
    change execInstructionScrub s = _
    unfold State.trowelsAwake at ha
    unfold execInstructionScrub
    cases hp : s.phase <;> simp_all
  exact ⟨_, scrubs, rfl, fun o => by simp⟩

end

/-- Settles O21: the reply by `exec_fieldWriteAccepted_answered`, and what goes on by the state it leaves. -/
theorem writeRepliesAndScrub : Obligations.WriteRepliesAndScrub := by
  unfold Obligations.WriteRepliesAndScrub
  intro s t n e q ha hn x
  refine ⟨fun hq hu => ⟨fun hl hr => ?_, fun hl hr hq' hs => ?_, fun w hl hr hroom hg hs => ?_, fun a why hl hr hs => ?_,
    fun hl => exec_fieldWriteAccepted_early ha hn hq hu hl⟩, instructionScrub_does ha⟩
  all_goals
    have reply := exec_fieldWriteAccepted_answered ha hn hq hu hl
    have freed : (s.updT t fun x => { x with wq := q }).trowels[t] = { x with wq := q } := State.updT_self ..
  · have on := State.resume_running (s := s.updT t fun x => { x with wq := q }) (by rw [freed]; exact hr)
    exact makesTrowel_of_updT (reply.trans (congrArg _ on)) rfl
  · have on := State.resume_fsync (s := s.updT t fun x => { x with wq := q }) hs (by rw [freed]; exact hr)
    rw [State.syncWrites_empty (by rw [freed]; exact hq'), State.updT_updT] at on
    exact makesTrowel_of_updT (reply.trans (congrArg _ on)) rfl
  · have on := State.resume_post (s := s.updT t fun x => { x with wq := q }) hs (by rw [freed]; exact hr)
    rw [State.post_queues w (by rw [freed]; exact hg) (by rw [freed]; exact hroom), State.updT_updT] at on
    exact makesTrowel_of_updT (reply.trans (congrArg _ on)) rfl
  · obtain ⟨frame, others, own, -⟩ := State.refuse_does (s := s.updT t fun x => { x with wq := q }) (t := t) hs a why
    have on := State.resume_running (t := t) (by rw [own, freed]; exact hr)
    refine ⟨_, reply.trans (congrArg _ on), frame, fun o ho => (others o ho).trans (State.updT_of_ne s ho _), own.trans ?_⟩
    rw [freed]
    rfl

end Sys2Proof.Machine
end


section
/-! SUPPORT. What the operations of the light matrix change, and what they leave alone. -/

namespace Sys2Proof.Machine

/-! ### The relation -/

/-- `u` differs from `s` in the light matrix, the balls, the black box, event bits newly set, and stored fields that `w`
picks alone. -/
structure LightKeeps (w : Nat → Prop) (s u : State) : Prop where
  frame : u = { s with light := u.light, balls := u.balls, fields := u.fields, trowels := u.trowels, bb := u.bb }
  fields : ∀ b, ¬ w b → u.getF b = s.getF b
  events : EventsOnly s u
  stays : ∀ (t : TrowelId) (n : Nat), (s.trowels[t]).pending.getLsbD n = true → (u.trowels[t]).pending.getLsbD n = true

theorem EventsOnly.trans {s u v : State} (h : EventsOnly s u) (g : EventsOnly u v) : EventsOnly s v :=
  fun t => (g t).trans (h t)

theorem LightKeeps.refl (w : Nat → Prop) (s : State) : LightKeeps w s s :=
  ⟨rfl, fun _ _ => rfl, fun _ => rfl, fun _ _ h => h⟩

section
variable {w : Nat → Prop} {s u v : State}

theorem LightKeeps.trans (h : LightKeeps w s u) (g : LightKeeps w u v) : LightKeeps w s v where
  frame := g.frame.trans (congrArg (fun x : State => { x with
    light := v.light, balls := v.balls, fields := v.fields, trowels := v.trowels, bb := v.bb }) h.frame)
  fields b hb := (g.fields b hb).trans (h.fields b hb)
  events := h.events.trans g.events
  stays t n hn := g.stays t n (h.stays t n hn)

/-- The trowels had started before exactly if they have now. -/
theorem LightKeeps.started (h : LightKeeps w s u) : u.boot.started = s.boot.started := congrArg (·.boot.started) h.frame

/-- What changes where the balls are not among it. -/
theorem LightKeeps.frame_of_balls (h : LightKeeps w s u) (hb : u.balls = s.balls) :
    u = { s with light := u.light, fields := u.fields, trowels := u.trowels, bb := u.bb } :=
  h.frame.trans (congrArg (fun b : Balls => ({ s with
    light := u.light, balls := b, fields := u.fields, trowels := u.trowels, bb := u.bb } : State)) hb)

/-- A change of the light matrix, the balls and the black box. -/
theorem LightKeeps.parts (h : LightKeeps w s u) {a : Light} {b : Balls} {c : BlackBox} :
    LightKeeps w s { u with light := a, balls := b, bb := c } :=
  h.trans ⟨rfl, fun _ _ => rfl, fun _ => rfl, fun _ _ e => e⟩

theorem LightKeeps.bbEvent (h : LightKeeps w s u) {n : BitVec 7} {i : Byte} {c : BitVec 16} {x : Word} :
    LightKeeps w s (u.bbEvent n i c x) := .parts h

theorem LightKeeps.freezeIf (h : LightKeeps w s u) {c : Byte} {l : List Nat} {i : Nat} :
    LightKeeps w s (u.freezeIf c l i) := .parts h

theorem LightKeeps.setF (h : LightKeeps w s u) {a : Nat} {x : Word} (ha : w a) : LightKeeps w s (u.setF a x) :=
  h.trans ⟨rfl, fun b hb => State.getF_setF_of_ne u (by rintro rfl; exact hb ha) x, fun _ => rfl, fun _ _ e => e⟩

theorem LightKeeps.count16 (h : LightKeeps w s u) {a : Nat} (ha : w a) : LightKeeps w s (u.count16 a) := h.setF ha

/-- An event is raised in a trowel. -/
theorem LightKeeps.raise (h : LightKeeps w s u) {t : TrowelId} {n : Nat} : LightKeeps w s (u.raise t n) := by
  cases hs : u.boot.started
  · rw [State.raise_unstarted hs]; exact h
  rw [State.raise_started hs]
  refine h.trans ⟨rfl, fun _ _ => rfl, fun o => ?_, fun o m hm => ?_⟩
  · refine (congrArg Trowel.quiet (u.updT_get t o (·.raise n))).trans ?_
    split
    · rw [Trowel.raise_bits]; rfl
    · rfl
  · refine (congrArg (fun x : Trowel => x.pending.getLsbD m) (u.updT_get t o (·.raise n))).trans ?_
    split
    · rw [Trowel.raise_bits, BitVec.getLsbD_or]
      exact (congrArg (· || _) hm).trans (Bool.true_or _)
    · exact hm

/-- Either branch of a conditional. -/
theorem LightKeeps.ite {p : Prop} [Decidable p] (hu : LightKeeps w s u) (hv : LightKeeps w s v) :
    LightKeeps w s (if p then u else v) := by
  split
  · exact hu
  · exact hv

/-- A further change that happens or not. -/
theorem LightKeeps.maybe {p : Prop} [Decidable p] (h : LightKeeps w s u) (hv : LightKeeps w s u → LightKeeps w s v) :
    LightKeeps w s (if p then v else u) := .ite (hv h) h

/-- Every step of a fold. -/
theorem LightKeeps.foldl {β : Type} {f : State → β → State} (hf : ∀ v x, LightKeeps w s v → LightKeeps w s (f v x))
    (l : List β) (h : LightKeeps w s u) : LightKeeps w s (l.foldl f u) := by
  induction l generalizing u with
  | nil => exact h
  | cons x l ih => exact ih (hf u x h)

/-- A raised event stays pending whatever the light matrix does next. -/
theorem LightKeeps.raised {t : TrowelId} {n : Nat} (hn : n < 64) (h : LightKeeps w s u) (g : LightKeeps w (u.raise t n) v) :
    Raised s v t n := by
  refine ⟨fun hs => g.stays t n ?_, (h.raise.trans g).events⟩
  rw [State.raise_started (h.started.trans hs)]
  exact (congrArg (fun x : Trowel => x.pending.getLsbD n) (u.updT_self t _)).trans (Trowel.raise_pending_self _ hn)

end

/-! ### Codes and dark intervals -/

/-- What the start of a dark interval may change. -/
theorem State.darkBegin_keeps (s : State) (pos : Nat) : ∃ (o q i c : Bool) (n : Nat), s.darkBegin pos = { s with light :=
    { s.light with darkOpen := o, darkQual := q, darkIssued := i, courseQual := c, darkCount := n } } := by
  unfold State.darkBegin
  dsimp only
  split
  · exact ⟨_, _, _, _, _, rfl⟩
  · exact ⟨_, _, _, _, _, rfl⟩

@[simp] theorem State.darkBegin_light (s : State) (pos : Nat) : (s.darkBegin pos).light.stage = s.light.stage ∧
    (s.darkBegin pos).light.course = s.light.course ∧ (s.darkBegin pos).light.codes = s.light.codes ∧
    (s.darkBegin pos).light.pulses = s.light.pulses := by
  obtain ⟨o, q, i, c, n, e⟩ := s.darkBegin_keeps pos
  rw [e]
  exact ⟨rfl, rfl, rfl, rfl⟩

/-- What the forced slot of a dark interval may change. -/
theorem State.darkSlot_keeps (s : State) : ∃ (q c : Bool) (n : Nat), s.darkSlot = { s with light :=
    { s.light with darkQual := q, courseQual := c, darkCount := n } } := by
  unfold State.darkSlot
  split
  · exact ⟨_, _, _, rfl⟩
  · exact ⟨_, _, _, rfl⟩

@[simp] theorem State.darkSlot_light (s : State) : s.darkSlot.light.stage = s.light.stage ∧
    s.darkSlot.light.course = s.light.course ∧ s.darkSlot.light.codes = s.light.codes ∧
    s.darkSlot.light.pulses = s.light.pulses := by
  obtain ⟨q, c, n, e⟩ := s.darkSlot_keeps
  rw [e]
  exact ⟨rfl, rfl, rfl, rfl⟩

/-! ### Numbers and fields -/

theorem State.getN_setN (s : State) (a : Nat) {n : Nat} (h : n < 2 ^ 32) : (s.setN a n).getN a = n := by
  rw [State.getN, State.setN, State.getF_setF_self, BitVec.toNat_ofNat, Nat.mod_eq_of_lt h]

/-- Pending writes that take effect leave the fields of the others alone. -/
theorem State.getF_applyPending {s : State} {sel : Pend → Bool} {b : Nat}
    (h : ∀ p ∈ s.shadow, sel p = true → p.addr ≠ b) :
    (s.applyPending sel).getF b = s.getF b := by
  have fold (l : List Pend) (f : Sparse Word) (hl : ∀ p ∈ l, p.addr ≠ b) :
      sparseGet resetValue (l.foldl (fun f p => sparseSet resetValue f p.addr p.val) f) b = sparseGet resetValue f b := by
    induction l generalizing f with
    | nil => rfl
    | cons p l ih =>
      rw [List.foldl_cons, ih _ fun x hx => hl x (List.mem_cons_of_mem _ hx),
        sparseGet_sparseSet_of_ne _ _ (Ne.symm (hl p List.mem_cons_self))]
  exact fold _ _ fun p hp => h p (List.mem_filter.mp hp).1 (List.mem_filter.mp hp).2

end Sys2Proof.Machine
end

section
/-! SUPPORT. Course boundaries: what the pending sets, the end of a course and the start of the next one do (R122, R152 to
R158). -/

namespace Sys2Proof.Machine

/-! ### The pending sets -/

/-- The writes that a course boundary applies. -/
def State.boundaryPick (s : State) (p : Pend) : Bool := p.isCourse && s.due p

theorem State.applyFire_zero (s : State) : s.applyFire 0 = s := by simp [State.applyFire]

theorem State.applyGo_zero (s : State) : s.applyGo 0 = s := by simp [State.applyGo]

/-- The sets of a boundary change the armings, the curves and the noted dark entries beside the writes that take effect. -/
theorem State.applyLight_eq (s : State) (sel : Pend → Bool) :
    s.applyLight sel = { s.applyPending (fun p => p.isCourse && sel p) with light := { s.light with
      armed := (s.applyLight sel).light.armed, curves := (s.applyLight sel).light.curves
      darkNoted := (s.applyLight sel).light.darkNoted } } := by
  simp only [State.applyLight]
  split <;> rfl

/-- Where no set has a write to apply, nothing changes. -/
theorem State.applyLight_none {s : State} {sel : Pend → Bool} (h : ∀ p ∈ s.shadow, (p.isCourse && sel p) = false) :
    s.applyLight sel = s := by
  have none_picked : s.shadow.filter (fun p => p.isCourse && sel p) = [] :=
    List.filter_eq_nil_iff.mpr fun p hp => by simp [h p hp]
  have kept : s.applyPending (fun p => p.isCourse && sel p) = s := by
    have all : s.shadow.filter (fun p => !(p.isCourse && sel p)) = s.shadow :=
      List.filter_eq_self.mpr fun p hp => by rw [h p hp]; rfl
    rw [State.applyPending, none_picked, all]; rfl
  have no_value (a : Nat) : s.lastPending (fun p => p.isCourse && sel p) a = 0 := by
    have : s.shadow.filter (fun p => p.addr == a && (p.isCourse && sel p)) = [] :=
      List.filter_eq_nil_iff.mpr fun p hp => by simp [h p hp]
    rw [State.lastPending, this]; rfl
  have no_scan : (s.shadow.any fun p => p.set == .scan && sel p) = false := by
    refine List.any_eq_false.mpr fun p hp hs => ?_
    have := h p hp
    rw [Bool.and_eq_true, beq_iff_eq] at hs
    rw [Pend.isCourse, hs.1, hs.2] at this
    exact absurd this nofun
  simp only [State.applyLight, kept, no_value, no_scan, Bool.false_eq_true, if_false]
  exact (congrArg (·.applyGo 0) s.applyFire_zero).trans s.applyGo_zero

/-- After the sets of a boundary have applied, the writes of the boundary's own cycle and of other sets wait on. -/
theorem State.applyCourseSets_shadow (s : State) : s.applyCourseSets.shadow = s.shadow.filter fun p => !s.boundaryPick p := by
  rw [State.applyCourseSets, State.applyLight_eq]; rfl

/-- A field with no pending write is as it was after the boundary. -/
theorem State.getF_applyLight {s : State} {sel : Pend → Bool} {b : Nat} (h : ∀ p ∈ s.shadow, p.addr ≠ b) :
    (s.applyLight sel).getF b = s.getF b := by
  rw [State.applyLight_eq]
  exact State.getF_applyPending (s := s) fun p hp _ => h p hp

/-! ### The start of a course -/

/-- The stored fields that the start of a course may write. -/
def courseField (b : Nat) : Prop := b = Fld.lightClipCount ∨ ∃ g : GroupId, b = Fld.lightCrvLvl g.val

section
variable {w : Nat → Prop} {s u : State}

theorem LightKeeps.driveColumns (h : LightKeeps w s u) {pos : Nat} : LightKeeps w s (u.driveColumns pos) := .parts h

theorem LightKeeps.darkBegin (h : LightKeeps w s u) {pos : Nat} : LightKeeps w s (u.darkBegin pos) := by
  obtain ⟨o, q, i, c, n, e⟩ := u.darkBegin_keeps pos
  rw [e]
  exact .parts h

theorem LightKeeps.stepCurve (h : LightKeeps courseField s u) {g : GroupId} : LightKeeps courseField s (u.stepCurve g) := by
  unfold State.stepCurve
  split
  · exact h
  · have level (n : Nat) : LightKeeps courseField s (u.setN (Fld.lightCrvLvl g.val) n) := h.setF (.inr ⟨g, rfl⟩)
    exact .ite (.raise (.parts (level _))) (.parts (level _))

end

theorem State.stepCurves_keeps (s : State) : LightKeeps courseField s ((List.finRange 8).foldl State.stepCurve s) :=
  .foldl (f := State.stepCurve) (fun _ _ h => .stepCurve h) _ (.refl _ s)

/-- The start of a course raises COURSE, and MATRIX_WRAP at entry 0, after the sets have applied (R122, R155). -/
theorem State.startCourse_raises (s : State) (e : Nat) : ∃ x, LightKeeps courseField s.applyCourseSets x ∧
    LightKeeps courseField (if (if e < s.applyCourseSets.scanLen then e else 0) = 0 then (x.raise 0 16).raise 0 17
      else x.raise 0 16) (s.startCourse e) := by
  unfold State.startCourse
  have stepped := s.applyCourseSets.stepCurves_keeps
  exact ⟨_, .maybe (.parts (.maybe stepped (.count16 · (.inl rfl)))) (.bbEvent ·),
    .darkBegin (.parts (.driveColumns (.refl ..)))⟩

theorem State.startCourse_keeps (s : State) (e : Nat) : LightKeeps courseField s.applyCourseSets (s.startCourse e) := by
  obtain ⟨x, before, after⟩ := s.startCourse_raises e
  have raised := (before.raise (t := 0) (n := 16)).maybe (p := (if e < s.applyCourseSets.scanLen then e else 0) = 0)
    (.raise · (t := 0) (n := 17))
  exact raised.trans after

/-- The course that starts at entry `e`, once the curves have stepped. -/
theorem State.startCourse_course (s : State) (e0 : Nat) :
    let a := s.applyCourseSets
    let b := (List.finRange 8).foldl State.stepCurve a
    let e := if e0 < a.scanLen then e0 else 0
    let more := if b.light.slotNext then 2000 else 0
    (s.startCourse e0).light.stage = .active ∧ ∃ d, (s.startCourse e0).light.course = some
      { entry := e, line := b.scanLine e, len := max (b.scanNs e) b.shortestCourse + more, blank := b.blankNs + more
        disch := d, dark := b.scanDark e || !b.lineOn (b.scanLine e), slot := b.light.slotNext } := by
  simp [State.startCourse, State.driveColumns]

/-- The start of a course writes no field of the scan. -/
theorem not_courseField {b : Nat} (h : b < 0x1080) : ¬ courseField b := by
  rintro (rfl | ⟨g, rfl⟩)
  · exact absurd h (by decide)
  · exact Nat.not_lt.mpr (Nat.le_add_right ..) h

/-- The scan table reads on as it did. -/
theorem LightKeeps.scan {s u : State} (h : LightKeeps courseField s u) :
    u.scanLen = s.scanLen ∧ u.blankNs = s.blankNs ∧ (∀ l, u.lineOn l = s.lineOn l) ∧
    ∀ e < 16, u.scanLine e = s.scanLine e ∧ u.scanDark e = s.scanDark e ∧ u.scanNs e = s.scanNs e := by
  have same {b : Nat} (hb : b < 0x1080) : u.getF b = s.getF b := h.fields b (not_courseField hb)
  have lines : u.matrixLines = s.matrixLines := by rw [h.frame]; rfl
  have unit : u.unitOn 12 = s.unitOn 12 := by rw [h.frame]; rfl
  refine ⟨?_, ?_, fun l => ?_, fun e he => ?_⟩
  · rw [State.scanLen, State.getN, same (by decide)]; rfl
  · rw [State.blankNs, State.getN, same (by decide)]; rfl
  · rw [State.lineOn, lines, unit, State.getB, same (by decide)]; rfl
  · have entry : u.getF (Fld.lightScan e) = s.getF (Fld.lightScan e) := same (by unfold Fld.lightScan; omega)
    rw [State.scanLine, State.scanDark, State.scanNs, State.getN, State.getB, entry]
    exact ⟨rfl, rfl, rfl⟩

theorem State.scanLen_pos (s : State) : 0 < s.scanLen := Nat.lt_of_lt_of_le Nat.one_pos (Nat.le_max_left ..)

theorem State.scanLen_le (s : State) : s.scanLen ≤ 16 := by unfold State.scanLen; omega

/-- An event raised after a change that leaves the trowels alone. -/
theorem Raised.of_eq {s a u : State} {t : TrowelId} {n : Nat} (ht : a.trowels = s.trowels) (hb : a.boot = s.boot)
    (h : Raised a u t n) : Raised s u t n := by
  rwa [Raised, EventsOnly, ht, hb] at h

/-- At a boundary in `s`, the course of entry `e` has started in `u`: its line and length come from the table that the
boundary has brought into force, the pending sets have applied, and its events are raised (R151 to R155). -/
def CourseStarts (s : State) (e : Nat) (u : State) : Prop :=
  u.light.stage = .active ∧ u.shadow = (s.shadow.filter fun p => !s.boundaryPick p) ∧ Raised s u 0 16 ∧
  (e = 0 → s.boot.started = true → (u.trowels[(0 : TrowelId)]).pending.getLsbD 17 = true) ∧
  ∃ r : CourseRun, u.light.course = some r ∧ r.entry = e ∧ r.line = u.scanLine e ∧
    r.dark = (u.scanDark e || !u.lineOn (u.scanLine e)) ∧
    r.len = max (u.scanNs e) (max 1000 (u.blankNs + 200)) + (if r.slot then 2000 else 0) ∧
    r.blank = u.blankNs + (if r.slot then 2000 else 0)

/-- The start of the course of an entry in use. -/
theorem State.startCourse_starts {s b : State} {e : Nat} (ht : b.applyCourseSets.trowels = s.trowels)
    (hb : b.applyCourseSets.boot = s.boot) (hs : b.applyCourseSets.shadow = s.shadow.filter fun p => !s.boundaryPick p)
    (he : e < b.applyCourseSets.scanLen) : CourseStarts s e (b.startCourse e) := by
  obtain ⟨active, d, course⟩ := b.startCourse_course e
  obtain ⟨x, before, after⟩ := b.startCourse_raises e
  have keeps := b.startCourse_keeps e
  rw [if_pos he] at course after
  generalize b.startCourse e = u at *
  refine ⟨active, ?_, ?_, fun h0 h => ?_, ?_⟩
  · rw [keeps.frame, hs]
  · have wrap := (LightKeeps.refl courseField (x.raise 0 16)).maybe (p := e = 0) (.raise · (t := 0) (n := 17))
    exact (before.raised (by decide) (wrap.trans after)).of_eq ht hb
  · rw [if_pos h0] at after
    exact (before.raise.raised (by decide) after).1 (hb ▸ h)
  · obtain ⟨-, blank, lines, table⟩ := keeps.scan
    obtain ⟨-, blank', lines', table'⟩ := b.applyCourseSets.stepCurves_keeps.scan
    obtain ⟨line, dark, ns⟩ := table e (he.trans_le b.applyCourseSets.scanLen_le)
    obtain ⟨line', dark', ns'⟩ := table' e (he.trans_le b.applyCourseSets.scanLen_le)
    refine ⟨_, course, rfl, line'.trans line.symm, ?_, ?_, ?_⟩
    · rw [line, lines, dark, ← dark', ← line', ← lines']
    · rw [ns, blank, ← ns', ← blank', State.shortestCourse]
    · rw [blank, ← blank']

end Sys2Proof.Machine
end

section
/-! SUPPORT. The boundary between two courses, the wait under period lock, and the instant (R151 to R155). -/

namespace Sys2Proof.Machine

section
variable {s : State}

/-! ### What a boundary changes -/

theorem State.mirror_eq (s : State) (m : PairMsg) : s.mirror m = { s with pair := (s.mirror m).pair } := by
  unfold State.mirror State.pairSend
  split
  · split <;> rfl
  · rfl

theorem State.endCourse_eq (s : State) : s.endCourse = { s with light := s.endCourse.light } := by
  unfold State.endCourse State.endZeros
  split
  · rfl
  · dsimp only
    split <;> rfl

theorem State.endCourse_entry {k : CourseRun} (hc : s.light.course = some k) :
    s.endCourse.light.nextEntry = k.entry + 1 ∧ s.endCourse.light.stage = .wait ∧ s.endCourse.light.course = none ∧
    s.endCourse.light.codes = List.replicate 16 0 := by
  unfold State.endCourse
  rw [hc]
  exact ⟨rfl, rfl, rfl, rfl⟩

/-- What the sets of a boundary bring into force does not depend on the light matrix. -/
theorem State.applyCourseSets_light (s : State) (l : Light) :
    State.applyCourseSets { s with light := l } =
      { s.applyCourseSets with light := (State.applyCourseSets { s with light := l }).light } := by
  simp only [State.applyCourseSets]
  rw [State.applyLight_eq s, State.applyLight_eq { s with light := l }]
  rfl

/-- The state of a boundary between the end of a course and the start of the next. -/
def State.between (s : State) : State := s.endCourse.applyCourseSets.wrapEntry

theorem State.between_eq (s : State) : s.between = { s.applyCourseSets with light := s.between.light } := by
  have e := s.applyCourseSets_light s.endCourse.light
  rw [← State.endCourse_eq] at e
  rw [State.between, State.wrapEntry, e]

theorem State.between_period (s : State) :
    s.between.getN Fld.lightScanPeriodNs = s.applyCourseSets.getN Fld.lightScanPeriodNs := by
  rw [State.between_eq]; rfl

theorem State.between_scanLen (s : State) : s.between.scanLen = s.applyCourseSets.scanLen := by
  rw [State.between_eq]; rfl

/-- The scan goes on at the entry that follows, or at entry 0 (R151). -/
theorem State.between_light {k : CourseRun} (hc : s.light.course = some k) :
    s.between.light.nextEntry = (if k.entry + 1 < s.applyCourseSets.scanLen then k.entry + 1 else 0) ∧
    s.between.light.stage = .wait ∧ s.between.light.course = none ∧ s.between.light.codes = List.replicate 16 0 := by
  obtain ⟨entry, stage, course, codes⟩ := State.endCourse_entry hc
  have len : s.endCourse.applyCourseSets.scanLen = s.applyCourseSets.scanLen := s.between_scanLen
  have light := s.endCourse.applyLight_eq s.endCourse.due
  rw [← State.applyCourseSets] at light
  refine ⟨?_, ?_, ?_, ?_⟩
  · rw [← len, ← entry, State.between, State.wrapEntry, light]
  · rw [← stage, State.between, State.wrapEntry, light]
  · rw [← course, State.between, State.wrapEntry, light]
  · rw [← codes, State.between, State.wrapEntry, light]

/-- No set has a write left to apply once a boundary has applied them. -/
theorem State.between_applied (s : State) : s.between.applyCourseSets = s.between := by
  refine State.applyLight_none fun p hp => ?_
  have due : s.between.due = s.due := by rw [s.between_eq, State.applyCourseSets, State.applyLight_eq]; rfl
  rw [s.between_eq] at hp
  have waits := (List.mem_filter.mp (s.applyCourseSets_shadow ▸ hp)).2
  rw [due, ← State.boundaryPick]
  exact Bool.not_eq_true' _ ▸ waits

theorem State.applyCourseSets_eq (s : State) : s.applyCourseSets = { s with
    light := s.applyCourseSets.light, fields := s.applyCourseSets.fields, shadow := s.applyCourseSets.shadow } := by
  rw [State.applyCourseSets, State.applyLight_eq]
  rfl

/-- The parts of the engine that the start of a course may change. -/
theorem State.startCourse_eq (s : State) (e : Nat) : s.startCourse e = { s with
    light := (s.startCourse e).light, fields := (s.startCourse e).fields, shadow := (s.startCourse e).shadow
    trowels := (s.startCourse e).trowels, bb := (s.startCourse e).bb } := by
  have balls : (s.startCourse e).balls = s.balls := by simp
  have keeps := (s.startCourse_keeps e).frame
  generalize s.startCourse e = u at *
  rw [keeps, balls, State.applyCourseSets_eq]

/-- The same at a boundary, where the sets apply once. -/
theorem State.between_startCourse_eq (s : State) (e : Nat) : s.between.startCourse e = { s with
    light := (s.between.startCourse e).light, fields := (s.between.startCourse e).fields
    shadow := (s.between.startCourse e).shadow, trowels := (s.between.startCourse e).trowels
    bb := (s.between.startCourse e).bb } := by
  have start := s.between.startCourse_eq e
  generalize s.between.startCourse e = u at start ⊢
  rw [start, State.between_eq, State.applyCourseSets_eq]

/-! ### The commands -/

theorem State.sleepProceed_running (h : s.phase = .running) : s.sleepProceed = s := by
  simp [State.sleepProceed, h]

theorem State.lightSleeps_running (h : s.phase = .running) : s.lightSleeps = false := by
  simp [State.lightSleeps, h]

section
variable {k : CourseRun} (he : s.enabledAt Fld.lightEnable = true) (hp : s.phase = .running) (hs : s.light.stage ≠ .rest)
include he hp hs

/-- A boundary in a running engine is mirrored, and lets no sleep entry go on. -/
theorem exec_course_running : ∃ m, exec .course s = .next (s.courseBoundary.mirror m) := by
  have runs : (s.enabledAt Fld.lightEnable && decide (s.light.stage ≠ .rest)) = true := by rw [he, decide_eq_true hs]; rfl
  refine ⟨.light s.courseBoundary.lightMark, ?_⟩
  change execCourse s = _
  simp only [execCourse, runs, if_true]
  rw [State.sleepProceed_running (by simp [hp])]

variable (hc : s.light.course = some k)
include hc

theorem State.courseBoundary_running : s.courseBoundary =
    if s.between.getN Fld.lightScanPeriodNs ≠ 0 ∧ s.between.light.nextEntry = 0 ∧ s.light.course.isSome
    then s.between.darkBegin 0 else s.between.startCourse s.between.light.nextEntry := by
  have works : ¬ (!s.enabledAt Fld.lightEnable || decide (s.light.stage = .rest)) = true := by
    rw [he, decide_eq_false hs]; nofun
  have awake : ¬ s.lightSleeps = true := by rw [State.lightSleeps_running hp]; nofun
  have course : s.light.course.isSome = true := by rw [hc]; rfl
  rw [State.courseBoundary, if_neg works, if_neg awake, State.between]
  dsimp only
  rw [if_pos course]

/-- After the last entry of a scan under period lock the matrix waits dark (R154). -/
theorem State.courseBoundary_waits (hl : s.between.getN Fld.lightScanPeriodNs ≠ 0) (h0 : s.between.light.nextEntry = 0) :
    s.courseBoundary = s.between.darkBegin 0 := by
  rw [State.courseBoundary_running he hp hs hc, if_pos ⟨hl, h0, by rw [hc]; rfl⟩]

/-- The next course starts where the scan is not locked, or not at its end. -/
theorem State.courseBoundary_starts (h : s.between.getN Fld.lightScanPeriodNs = 0 ∨ s.between.light.nextEntry ≠ 0) :
    s.courseBoundary = s.between.startCourse s.between.light.nextEntry := by
  rw [State.courseBoundary_running he hp hs hc, if_neg fun e => h.elim e.1 fun n => n e.2.1]

end
end

end Sys2Proof.Machine
end

section
/-! SUPPORT. What the commands COURSE and SCAN_INSTANT do, and the statement about them. -/

namespace Sys2Proof.Machine

section
variable {s : State} {k : CourseRun}

/-- A boundary brings the sets into force and leaves the trowels and the boot alone. -/
theorem State.applyCourseSets_keeps (s : State) :
    s.applyCourseSets.trowels = s.trowels ∧ s.applyCourseSets.boot = s.boot := by
  rw [State.applyCourseSets_eq]
  exact ⟨rfl, rfl⟩

/-- The course that starts at a boundary, in the state in which the boundary fell. -/
theorem State.between_starts {e : Nat} (h : e < s.applyCourseSets.scanLen) : CourseStarts s e (s.between.startCourse e) := by
  obtain ⟨trowels, boot⟩ := s.applyCourseSets_keeps
  apply State.startCourse_starts <;> rw [State.between_applied, State.between_eq]
  · exact trowels
  · exact boot
  · exact s.applyCourseSets_shadow
  · exact h

/-- What stands on the pair link has no part in it. -/
theorem CourseStarts.pair {v : State} {e : Nat} (h : CourseStarts s e v) (p : Pair) :
    CourseStarts s e { v with pair := p } := by
  obtain ⟨stage, shadow, raised, wraps, r, course, entry, line, dark, len, blank⟩ := h
  exact ⟨stage, shadow, raised, wraps, r, course, entry, line, dark, len, blank⟩

section
variable (he : s.enabledAt Fld.lightEnable = true) (hp : s.phase = .running)
include he hp

section
variable (hs : s.light.stage ≠ .rest) (hc : s.light.course = some k)
include hs hc

theorem course_starts (h : s.applyCourseSets.getN Fld.lightScanPeriodNs = 0 ∨ k.entry + 1 < s.applyCourseSets.scanLen) :
    Does .course s fun u =>
      u = { s with light := u.light, fields := u.fields, shadow := u.shadow, trowels := u.trowels, bb := u.bb
                   pair := u.pair } ∧
      CourseStarts s (if k.entry + 1 < u.scanLen then k.entry + 1 else 0) u := by
  obtain ⟨m, boundary⟩ := exec_course_running he hp hs
  obtain ⟨entry, -⟩ := State.between_light hc
  have goes_on : s.between.getN Fld.lightScanPeriodNs = 0 ∨ s.between.light.nextEntry ≠ 0 := by
    rw [State.between_period, entry]
    exact h.imp_right fun h => by rw [if_pos h]; exact Nat.succ_ne_zero _
  rw [State.courseBoundary_starts he hp hs hc goes_on, State.mirror_eq] at boundary
  have in_use : s.between.light.nextEntry < s.applyCourseSets.scanLen := by
    rw [entry]; split
    · assumption
    · exact State.scanLen_pos _
  have starts := State.between_starts in_use
  have frame := s.between_startCourse_eq s.between.light.nextEntry
  have len := (s.between.startCourse_keeps s.between.light.nextEntry).scan.1
  rw [State.between_applied, State.between_scanLen] at len
  generalize s.between.startCourse s.between.light.nextEntry = v at *
  rw [entry, ← len] at starts
  generalize (v.mirror m).pair = p at *
  exact ⟨_, boundary, congrArg (fun x : State => { x with pair := p }) frame, starts.pair p⟩

theorem course_waits (hl : s.applyCourseSets.getN Fld.lightScanPeriodNs ≠ 0) (h0 : s.applyCourseSets.scanLen ≤ k.entry + 1) :
    Does .course s fun u =>
      u = { s with light := u.light, fields := s.applyCourseSets.fields, shadow := s.applyCourseSets.shadow
                   pair := u.pair } ∧
      u.light.stage = .wait ∧ u.light.course = none ∧ u.light.codes = List.replicate 16 0 := by
  obtain ⟨m, boundary⟩ := exec_course_running he hp hs
  obtain ⟨entry, stage, course, codes⟩ := State.between_light hc
  rw [if_neg (Nat.not_lt.mpr h0)] at entry
  rw [State.courseBoundary_waits he hp hs hc (s.between_period ▸ hl) entry, State.mirror_eq] at boundary
  obtain ⟨o, q, i, c, n, dark⟩ := s.between.darkBegin_keeps 0
  have sets := s.applyCourseSets_eq
  have frame := s.between_eq
  generalize (State.mirror _ m).pair = p at boundary
  rw [dark] at boundary
  refine ⟨_, boundary, ?_, stage, course, codes⟩
  generalize s.between = b at *
  rw [frame, sets]

end

/-- An instant of a waiting scan starts entry 0 (R154). -/
theorem scanInstant_starts (hl : s.getN Fld.lightScanPeriodNs ≠ 0) (hw : s.light.stage = .wait) : Does .scanInstant s fun u =>
    u = { s with light := u.light, fields := u.fields, shadow := u.shadow, trowels := u.trowels, bb := u.bb } ∧
    CourseStarts s 0 u := by
  have instant : exec .scanInstant s = .next (s.startCourse 0) := by
    change execScanInstant s = _
    simp [execScanInstant, he, hl, State.lightSleeps_running hp, hw]
  obtain ⟨trowels, boot⟩ := s.applyCourseSets_keeps
  have starts : CourseStarts s 0 (s.startCourse 0) :=
    State.startCourse_starts trowels boot s.applyCourseSets_shadow s.applyCourseSets.scanLen_pos
  have frame := s.startCourse_eq 0
  generalize s.startCourse 0 = u at *
  refine ⟨u, instant, ?_, starts⟩
  rw [frame]

/-- An instant that finds the scan running is an overrun (R154). -/
theorem scanInstant_overruns (hl : s.getN Fld.lightScanPeriodNs ≠ 0) (hw : s.light.stage ≠ .wait)
    (hr : s.light.stage ≠ .rest) : Does .scanInstant s fun u =>
      u = { s with light := { s.light with overrunSeen := true }, fields := u.fields, bb := u.bb } ∧
      u.getN Fld.lightOverrunCount = min 65535 (s.getN Fld.lightOverrunCount + 1) ∧
      ∀ b, b ≠ Fld.lightOverrunCount → u.getF b = s.getF b := by
  have instant : ∃ x, exec .scanInstant s = .next (State.bbEvent { s.count16 Fld.lightOverrunCount with
      light := { s.light with overrunSeen := true } } 0x03#7 0xFF#8 0x0002#16 x) := by
    change ∃ x, execScanInstant s = _
    cases h : s.light.stage <;> simp_all [execScanInstant, State.lightSleeps_running hp]
  obtain ⟨x, instant⟩ := instant
  exact ⟨_, instant, rfl, s.getN_count16_self _, fun b hb => s.getF_count16_of_ne hb⟩

end
end

/-- Settles O23: a boundary is `State.between` followed by a wait or by `State.startCourse`, whose effect is
`State.startCourse_starts`. -/
theorem lightCourses : Obligations.LightCourses := by
  unfold Obligations.LightCourses
  intro s k he hp started a
  exact ⟨fun hc hs => ⟨course_starts he hp hs hc, course_waits he hp hs hc⟩, scanInstant_starts he hp,
    scanInstant_overruns he hp⟩

end Sys2Proof.Machine
end

section
/-! SUPPORT. The writes of LIGHT: arming, transitions, the board temperature, and the enable (R115, R150, R167, R170, R171,
R557). -/

namespace Sys2Proof.Machine

/-! ### How a write arrives -/

section
variable {s : State} {t : TrowelId} {a n : Nat}

/-- A shadowed write to a running unit waits for its boundary. -/
theorem State.arrive_shadowed {set : SetId} (h : Takes s t a) (ha : a < 65536) (hr : (fieldRow a).map (·.width) = some n)
    (hw : ∀ v, s.widens a v = none) (hs : setOf a = some set) (hn : s.runsAt a = true) (v : Word) :
    s.arrive t (BitVec.ofNat 16 a) v = { s with
      shadow := s.shadow ++ [⟨set, a, v &&& BitVec.ofNat 32 (2 ^ n - 1), s.unitCycle set⟩] } := by
  obtain ⟨r, hf, rfl⟩ := Option.map_eq_some_iff.mp hr
  rw [State.arrive_of_takes h ha, State.accept_shadowed hf (hw _) h.on hn hs, cutToWidth]

/-- A write to a unit that does not run takes effect at once. -/
theorem State.arrive_stopped (h : Takes s t a) (ha : a < 65536) (hr : (fieldRow a).map (·.width) = some n)
    (hw : ∀ v, s.widens a v = none) (hn : s.runsAt a = false) (v : Word) :
    s.arrive t (BitVec.ofNat 16 a) v = (s.applyNow t a (v &&& BitVec.ofNat 32 (2 ^ n - 1))).applyStopped := by
  obtain ⟨r, hf, rfl⟩ := Option.map_eq_some_iff.mp hr
  rw [State.arrive_of_takes h ha, State.accept_now hf (hw _) h.on (.inl hn), cutToWidth]

end

/-- Writes that a stopped unit releases touch no field but their own. -/
theorem State.applyStopped_fieldsKept {s u : State} {l : List Nat} (hs : u.shadow = s.shadow)
    (h : ∀ b, b ∉ l → u.getF b = s.getF b) : FieldsKept s u.applyStopped l := fun b hb hp =>
  (State.getF_applyPending fun p hm _ => hp p (hs ▸ hm)).trans (h b hb)

/-! ### Arming and transitions -/

/-- A bit of a mask that a fold has built up. -/
theorem getLsbD_foldl_setBit (p : Nat → Bool) (ls : List Nat) (b : BitVec 8) {l : Nat} (hl : l < 8) :
    (ls.foldl (fun (b : BitVec 8) l => if p l then b ||| BitVec.ofNat 8 (2 ^ l) else b) b).getLsbD l =
      (b.getLsbD l || decide (l ∈ ls) && p l) := by
  induction ls generalizing b with
  | nil => simp
  | cons x ls ih =>
    have bit : (BitVec.ofNat 8 (2 ^ x)).getLsbD l = decide (x = l) := by
      rw [BitVec.getLsbD_ofNat, Nat.testBit_two_pow, decide_eq_true hl, Bool.true_and]
    rw [List.foldl_cons, ih, apply_ite (BitVec.getLsbD · l), BitVec.getLsbD_or, bit]
    by_cases e : x = l
    · cases hx : p x <;> simp [e, e ▸ hx]
    · simp [e, Ne.symm e]

theorem getLsbD_and_255 (v : Word) (g : GroupId) : (v &&& 255).getLsbD g.val = v.getLsbD g.val := by
  have ones : ∀ g : GroupId, (255#32).getLsbD g.val = true := by decide
  exact (BitVec.getLsbD_and ..).trans (by rw [show (255 : Word) = 255#32 from rfl, ones, Bool.and_true])

/-- A fire arms the groups of its mask in mode 2, for the lines on which they have lamps (R557). -/
theorem State.applyFire_armed (s : State) (v : Word) (g : GroupId) {l : Nat} (hl : l < 8) :
    ((s.applyFire v).light.armed[g]).getLsbD l = ((s.light.armed[g]).getLsbD l ||
      (v.getLsbD g.val && decide (s.getN (Fld.lightGrpMode g.val) = 2) && s.groupOnLine g.val l)) := by
  have armed : (s.applyFire v).light.armed[g] = if v.getLsbD g.val && s.getN (Fld.lightGrpMode g.val) == 2 then
      (List.range 8).foldl (fun (b : BitVec 8) l =>
        if s.groupOnLine g.val l then b ||| BitVec.ofNat 8 (2 ^ l) else b) s.light.armed[g]
      else s.light.armed[g] := by simp [State.applyFire]
  have mode : (v.getLsbD g.val && s.getN (Fld.lightGrpMode g.val) == 2) =
      (v.getLsbD g.val && decide (s.getN (Fld.lightGrpMode g.val) = 2)) := rfl
  rw [armed, mode]
  split
  next h => rw [getLsbD_foldl_setBit _ _ _ hl, h, decide_eq_true (List.mem_range.mpr hl)]
  next h => rw [Bool.eq_false_iff.mpr h, Bool.false_and, Bool.or_false]

/-- A go starts the transitions of its mask from the present levels (R171). -/
theorem State.applyGo_curves (s : State) (v : Word) (g : GroupId) :
    (s.applyGo v).light.curves[g] = if v.getLsbD g.val then
      some ⟨s.getN (Fld.lightCrvLvl g.val), s.getN (Fld.lightCrvTgt g.val),
        max 1 (min 4096 (s.getN (Fld.lightCrvSteps g.val))), 0⟩ else s.light.curves[g] := by
  simp [State.applyGo]

section
variable {s : State} {t : TrowelId}

section
variable (hr : s.enabledAt Fld.lightEnable = true)
include hr

/-- A fire in a running unit waits for the boundary (R115). -/
theorem grpFireWrite_waits (h : Takes s t Fld.lightGrpFire) (v : Word) : Does (.grpFireWrite t v) s fun u =>
    u = { s with shadow := s.shadow ++ [⟨.own Fld.lightGrpFire, Fld.lightGrpFire, v &&& 0xFF,
      s.unitCycle (.own Fld.lightGrpFire)⟩] } :=
  ⟨_, congrArg Host.Outcome.next (State.arrive_shadowed (n := 8) (set := .own Fld.lightGrpFire) h (by decide) (by decide)
    (fun _ => State.widens_none (by decide) (by decide)) (by decide) hr v), rfl⟩

/-- A go in a running unit waits for the boundary (R115). -/
theorem crvGoWrite_waits (h : Takes s t Fld.lightCrvGo) (v : Word) : Does (.crvGoWrite t v) s fun u =>
    u = { s with shadow := s.shadow ++ [⟨.own Fld.lightCrvGo, Fld.lightCrvGo, v &&& 0xFF,
      s.unitCycle (.own Fld.lightCrvGo)⟩] } :=
  ⟨_, congrArg Host.Outcome.next (State.arrive_shadowed (n := 8) (set := .own Fld.lightCrvGo) h (by decide) (by decide)
    (fun _ => State.widens_none (by decide) (by decide)) (by decide) hr v), rfl⟩

end

section
variable (hr : s.enabledAt Fld.lightEnable = false)
include hr

theorem exec_grpFireWrite_stopped (h : Takes s t Fld.lightGrpFire) (v : Word) :
    exec (.grpFireWrite t v) s = .next (s.applyFire (v &&& 255)).applyStopped :=
  congrArg _ (State.arrive_stopped (n := 8) h (by decide) (by decide)
    (fun _ => State.widens_none (by decide) (by decide)) hr v)

theorem exec_crvGoWrite_stopped (h : Takes s t Fld.lightCrvGo) (v : Word) :
    exec (.crvGoWrite t v) s = .next (s.applyGo (v &&& 255)).applyStopped :=
  congrArg _ (State.arrive_stopped (n := 8) h (by decide) (by decide)
    (fun _ => State.widens_none (by decide) (by decide)) hr v)

/-- A fire in a unit that does not run arms at once (R557). -/
theorem grpFireWrite_arms (h : Takes s t Fld.lightGrpFire) (v : Word) : Does (.grpFireWrite t v) s fun u =>
    u = { s with light := { s.light with armed := u.light.armed }, fields := u.fields, shadow := u.shadow } ∧
    FieldsKept s u [] ∧
    ∀ (g : GroupId) (l : Nat), l < 8 → (u.light.armed[g]).getLsbD l = ((s.light.armed[g]).getLsbD l ||
      (v.getLsbD g.val && decide (s.getN (Fld.lightGrpMode g.val) = 2) && s.groupOnLine g.val l)) := by
  refine ⟨_, exec_grpFireWrite_stopped hr h v, rfl, State.applyStopped_fieldsKept rfl fun _ _ => rfl, fun g l hl => ?_⟩
  rw [← getLsbD_and_255 v g]
  exact s.applyFire_armed (v &&& 255) g hl

/-- A go in a unit that does not run starts the transitions at once (R171). -/
theorem crvGoWrite_starts (h : Takes s t Fld.lightCrvGo) (v : Word) : Does (.crvGoWrite t v) s fun u =>
    u = { s with light := { s.light with curves := u.light.curves }, fields := u.fields, shadow := u.shadow } ∧
    FieldsKept s u [] ∧
    ∀ g : GroupId, u.light.curves[g] = if v.getLsbD g.val then
      some ⟨s.getN (Fld.lightCrvLvl g.val), s.getN (Fld.lightCrvTgt g.val),
        max 1 (min 4096 (s.getN (Fld.lightCrvSteps g.val))), 0⟩ else s.light.curves[g] := by
  refine ⟨_, exec_crvGoWrite_stopped hr h v, rfl, State.applyStopped_fieldsKept rfl fun _ _ => rfl, fun g => ?_⟩
  rw [← getLsbD_and_255 v g]
  exact s.applyGo_curves (v &&& 255) g

end
end

/-! ### The board temperature -/

/-- A stored signed field reads as the value written. -/
theorem State.getI_setF_16 (s : State) (a : Nat) (v : Word) :
    (s.setF a (v &&& 0xFFFF)).getI a 16 = (v.setWidth 16).toInt := by
  have low : (v &&& 0xFFFF).toNat = (v.setWidth 16).toNat := by
    rw [BitVec.toNat_and, BitVec.toNat_setWidth]
    exact Nat.and_two_pow_sub_one_eq_mod v.toNat 16
  have sign : (v &&& 0xFFFF).getLsbD 15 = (v.setWidth 16).msb := by
    rw [BitVec.getLsbD_and, BitVec.msb_eq_getLsbD_last, BitVec.getLsbD_setWidth]
    exact Bool.and_comm ..
  rw [State.getI, State.getF_setF_self, BitVec.toInt_eq_msb_cond, ← sign, ← low]
  rfl

/-- The board temperature is stored, the timeout restarts, and the first value, or the first after a loss, sets the filter
(R167, R170). -/
theorem State.boardTemp_does (s : State) (v : Word) :
    let u := s.boardTemp v
    u = { s with light := { s.light with tempFrom := s.time.ns, tempValid := true, tempLost := false, tf := u.light.tf }
                 fields := u.fields } ∧
    u.getF Fld.lightBoardTemp = v &&& 0xFFFF ∧
    (∀ b, b ∉ [Fld.lightBoardTemp, Fld.lightTempFilt] → u.getF b = s.getF b) ∧
    u.light.tf = (if s.light.tempValid = false ∨ s.light.tempLost = true
      then (((v.setWidth 16).toInt : Int) : Rat) else s.light.tf) := by
  have temp := congrArg (Int.cast : Int → Rat) (s.getI_setF_16 Fld.lightBoardTemp v)
  have first : (!s.light.tempValid || s.light.tempLost) = true ↔ s.light.tempValid = false ∨ s.light.tempLost = true := by
    rw [Bool.or_eq_true, Bool.not_eq_true']
  simp only [State.boardTemp, List.mem_cons, List.not_mem_nil, or_false, not_or]
  split
  next h =>
    refine ⟨rfl, ?_, fun b hb => ?_, temp.trans (if_pos (first.mp h)).symm⟩
    · exact (State.getF_setF_of_ne _ (by decide) _).trans (s.getF_setF_self ..)
    · exact (State.getF_setF_of_ne _ hb.2 _).trans (s.getF_setF_of_ne hb.1 _)
  next h =>
    exact ⟨rfl, s.getF_setF_self .., fun b hb => s.getF_setF_of_ne hb.1 _, (if_neg (mt first.mpr h)).symm⟩

/-- A write of the board temperature (R167, R170). -/
theorem boardTempWrite_does {s : State} {t : TrowelId} (h : Takes s t Fld.lightBoardTemp)
    (hp : ∀ p ∈ s.shadow, p.addr ≠ Fld.lightBoardTemp) (v : Word) : Does (.boardTempWrite t v) s fun u =>
      u = { s with light := { s.light with tempFrom := s.time.ns, tempValid := true, tempLost := false, tf := u.light.tf }
                   fields := u.fields, shadow := u.shadow } ∧
      FieldsKept s u [Fld.lightBoardTemp, Fld.lightTempFilt] ∧ u.getF Fld.lightBoardTemp = v &&& 0xFFFF ∧
      u.light.tf = (if s.light.tempValid = false ∨ s.light.tempLost = true
        then (((v.setWidth 16).toInt : Int) : Rat) else s.light.tf) := by
  have write : exec (.boardTempWrite t v) s = .next (s.boardTemp v).applyStopped := by
    rw [exec_boardTempWrite_taken h]
    have once : v &&& 65535 &&& 0xFFFF#32 = v &&& 0xFFFF#32 := by rw [BitVec.and_assoc]; rfl
    change Host.Outcome.next (s.boardTemp (v &&& 65535)).applyStopped = _
    simp only [State.boardTemp, once]
  obtain ⟨frame, temp, fields, filter⟩ := s.boardTemp_does v
  have shadow : (s.boardTemp v).shadow = s.shadow := by simp
  generalize s.boardTemp v = u at *
  refine ⟨_, write, ?_, State.applyStopped_fieldsKept shadow fields, ?_, filter⟩
  · rw [State.applyStopped, State.applyPending, frame]
  · exact (State.getF_applyPending fun p hm _ => hp p (shadow ▸ hm)).trans temp

/-! ### The enable -/

/-- Whether a unit is turned off depends on the straps, the enabled word and the identity. -/
theorem State.turnedOff_congr {s u : State} {a : Nat} (hi : u.identity = s.identity) (hs : u.sys = s.sys) :
    u.turnedOff a = s.turnedOff a := by
  have e : u.turnedOff a = State.turnedOff { s with identity := u.identity, sys := u.sys } a := rfl
  rw [e, hi, hs]

theorem State.enabledAt_congr {s u : State} {a : Nat} (hi : u.identity = s.identity) (hs : u.sys = s.sys)
    (hf : u.getF a = s.getF a) : u.enabledAt a = s.enabledAt a := by
  rw [State.enabledAt, State.getB, hf, State.turnedOff_congr hi hs, hi]
  rfl

theorem getLsbD_and_one (v : Word) : (v &&& 1).getLsbD 0 = v.getLsbD 0 :=
  (BitVec.getLsbD_and ..).trans (Bool.and_true _)

/-- The commands of a unit that is written leave the core and the links alone. -/
theorem State.lightNow_frames (s : State) (a : Nat) (v : Word) :
    CoreFrame s (s.lightNow a v).applyStopped ∧ LinkFrame s (s.lightNow a v).applyStopped := by
  constructor <;> constructor <;> simp

section
variable {s : State} {v : Word}

theorem State.lightNow_disable (hv : v.getLsbD 0 = false) (he : s.enabledAt Fld.lightEnable = true) :
    s.lightNow Fld.lightEnable v = (s.setF Fld.lightEnable (v &&& 1)).lightStop := by
  simp only [State.lightNow, if_true, hv, he]
  rfl

theorem State.lightNow_enable (hv : v.getLsbD 0 = true) (he : s.enabledAt Fld.lightEnable = false)
    (hp : s.phase = .running) : s.lightNow Fld.lightEnable v = (s.setF Fld.lightEnable (v &&& 1)).lightStart := by
  simp only [State.lightNow, if_true, hv, he, hp, true_or]
  rfl

/-- The unit that stops takes every pending write of its own and rests dark (R115, R150). -/
theorem State.lightStop_does (s : State) :
    s.lightStop = { s with light := s.lightStop.light, fields := s.lightStop.fields, shadow := s.lightStop.shadow } ∧
    s.lightStop.shadow = (s.shadow.filter fun p => !p.isCourse) ∧ s.lightStop.light.stage = .rest ∧
    s.lightStop.light.course = none ∧ s.lightStop.light.codes = List.replicate 16 0 ∧
    ∀ b, (∀ p ∈ s.shadow, p.addr ≠ b) → s.lightStop.getF b = s.getF b := by
  have all : (fun p : Pend => !p.isCourse) = fun p => !(p.isCourse && true) := by simp only [Bool.and_true]
  refine ⟨?_, ?_, rfl, rfl, rfl, fun b hb => ?_⟩
  · rw [State.lightStop, State.applyLight_eq]
    rfl
  · rw [State.lightStop, State.applyLight_eq, all]
    rfl
  · exact State.getF_applyLight (sel := fun _ => true) hb

/-- The unit that starts begins its scan, or waits for the next instant under period lock (R150). -/
theorem State.lightStart_does (s : State) :
    (∀ p ∈ s.lightStart.shadow, p ∈ s.shadow) ∧
    (∀ b < 0x1080, (∀ p ∈ s.shadow, p.addr ≠ b) → s.lightStart.getF b = s.getF b) ∧
    (s.lightStart.light.stage = .active ∨
      (s.lightStart.light.stage = .wait ∧ s.lightStart.getN Fld.lightScanPeriodNs ≠ 0)) := by
  simp only [State.lightStart]
  generalize hz : ({ s with light := { s.light with stage := .wait, nextEntry := 0, tempFrom := s.nowNs } } : State) = z
  have shadow : z.shadow = s.shadow := by rw [← hz]
  have fields (b : Nat) : z.getF b = s.getF b := by rw [← hz]; rfl
  split
  next free =>
    refine ⟨fun p hp => ?_, fun b hb hn => ?_, .inl (z.startCourse_course 0).1⟩
    · rw [(z.startCourse_keeps 0).frame, State.applyCourseSets_shadow, shadow] at hp
      exact (List.mem_filter.mp hp).1
    · rw [(z.startCourse_keeps 0).fields b (not_courseField hb), ← fields]
      exact State.getF_applyLight fun p hp => hn p (shadow ▸ hp)
  next locked =>
    obtain ⟨o, q, i, c, n, dark⟩ := z.darkBegin_keeps 0
    rw [dark]
    exact ⟨fun p hp => shadow ▸ hp, fun b _ _ => fields b, .inr ⟨by rw [← hz], locked⟩⟩

section
variable {t : TrowelId} (h : Takes s t Fld.lightEnable) (hp : ∀ p ∈ s.shadow, p.addr ≠ Fld.lightEnable)
include h hp

/-- A write of 0 ends the scan. -/
theorem lightEnableWrite_stops (hv : v.getLsbD 0 = false) (he : s.enabledAt Fld.lightEnable = true) :
    Does (.lightEnableWrite t v) s fun u =>
      u = { s with light := u.light, fields := u.fields, shadow := u.shadow } ∧
      u.enabledAt Fld.lightEnable = false ∧ u.light.stage = .rest ∧ u.light.course = none ∧
      u.light.codes = List.replicate 16 0 ∧ ∀ p ∈ u.shadow, p.isCourse = false := by
  have write := exec_lightEnableWrite_taken (v := v) h
  rw [State.lightNow_disable ((getLsbD_and_one v).trans hv) he] at write
  obtain ⟨frame, shadow, stage, course, codes, fields⟩ := (s.setF Fld.lightEnable (v &&& 1 &&& 1)).lightStop_does
  have stored := (fields _ hp).trans (s.getF_setF_self ..)
  generalize (s.setF Fld.lightEnable (v &&& 1 &&& 1)).lightStop = y at *
  have waiting (p : Pend) (hy : p ∈ y.shadow) : p ∈ s.shadow ∧ p.isCourse = false := by
    have := List.mem_filter.mp (shadow ▸ hy)
    exact ⟨this.1, Bool.not_eq_true' _ ▸ this.2⟩
  refine ⟨_, write, ?_, ?_, stage, course, codes, fun p hm => (waiting p (List.mem_filter.mp hm).1).2⟩
  · rw [State.applyStopped, State.applyPending, frame]
    rfl
  · have off : y.applyStopped.getF Fld.lightEnable = v &&& 1 &&& 1 :=
      (State.getF_applyPending fun p hm _ => hp p (waiting p hm).1).trans stored
    rw [State.enabledAt, State.getB, off, getLsbD_and_one, getLsbD_and_one, hv]
    rfl

/-- A write of 1 starts it. -/
theorem lightEnableWrite_starts (hv : v.getLsbD 0 = true) (he : s.enabledAt Fld.lightEnable = false)
    (hr : s.phase = .running) : Does (.lightEnableWrite t v) s fun u =>
      u.enabledAt Fld.lightEnable = true ∧ CoreFrame s u ∧ LinkFrame s u ∧
      (u.light.stage = .active ∨ (u.light.stage = .wait ∧ u.getN Fld.lightScanPeriodNs ≠ 0)) := by
  have write := exec_lightEnableWrite_taken (v := v) h
  obtain ⟨core, link⟩ := s.lightNow_frames Fld.lightEnable (v &&& 1)
  rw [State.lightNow_enable ((getLsbD_and_one v).trans hv) he hr] at write core link
  obtain ⟨shadow, fields, stage⟩ := (s.setF Fld.lightEnable (v &&& 1 &&& 1)).lightStart_does
  have stored := (fields Fld.lightEnable (by decide) hp).trans (s.getF_setF_self ..)
  have core' : ((s.setF Fld.lightEnable (v &&& 1 &&& 1)).lightStart).identity = s.identity ∧
    ((s.setF Fld.lightEnable (v &&& 1 &&& 1)).lightStart).sys = s.sys := by simp
  generalize (s.setF Fld.lightEnable (v &&& 1 &&& 1)).lightStart = y at *
  have on : y.enabledAt Fld.lightEnable = true := by
    rw [State.enabledAt, State.getB, stored, getLsbD_and_one, getLsbD_and_one, hv,
      State.turnedOff_congr core'.1 core'.2, h.on, core'.1, h.present]
    rfl
  have kept {b : Nat} (hb : ∀ p ∈ y.shadow, y.runsAt p.addr = false → p.addr ≠ b) : y.applyStopped.getF b = y.getF b :=
    State.getF_applyPending fun p hm hs => hb p hm (Bool.not_eq_true' _ ▸ hs)
  have enabled := kept (b := Fld.lightEnable) fun p hm _ => hp p (shadow p hm)
  have period := kept (b := Fld.lightScanPeriodNs) fun p _ hs ha => by
    rw [ha] at hs
    exact absurd (on.symm.trans hs) nofun
  refine ⟨_, write, (State.enabledAt_congr (s := y) (u := y.applyStopped) rfl rfl enabled).trans on, core, link,
    stage.imp_right fun ⟨hw, hl⟩ => ⟨hw, ?_⟩⟩
  rw [State.getN, period]
  exact hl

end
end

/-- Settles O22: each write by what its unit makes of it, and the pending writes that a stopped unit releases. -/
theorem lightWrites : Obligations.LightWrites := by
  unfold Obligations.LightWrites
  intro s t v
  exact ⟨fun h hp => ⟨lightEnableWrite_stops h hp, lightEnableWrite_starts h hp⟩,
    fun h => ⟨fun hr => grpFireWrite_waits hr h v, fun hr => grpFireWrite_arms hr h v⟩,
    fun h => ⟨fun hr => crvGoWrite_waits hr h v, fun hr => crvGoWrite_starts hr h v⟩,
    fun h hp => boardTempWrite_does h hp v⟩

end Sys2Proof.Machine
end

section
/-! SUPPORT. Pulses, blanking and discharge (R152, R157, R187). -/

namespace Sys2Proof.Machine

section
variable {s : State}

/-! ### Pulses -/

/-- Driving the columns, raising events and keeping the dark intervals leave the codes as R158 gives them. -/
theorem State.columnCodes_driveColumns (s : State) (pos : Nat) :
    (s.driveColumns pos).light.codes = (s.driveColumns pos).columnCodes := rfl

theorem State.columnCodes_raise (s : State) (t : TrowelId) (n : Nat) : (s.raise t n).columnCodes = s.columnCodes := by
  rw [State.raise_eq]; rfl

theorem State.columnCodes_darkBegin (s : State) (pos : Nat) : (s.darkBegin pos).columnCodes = s.columnCodes := by
  obtain ⟨o, q, i, c, n, e⟩ := s.darkBegin_keeps pos
  rw [e]; rfl

section
variable {g : GroupId} (hs : s.light.stage = .active)
include hs

theorem pulseStart_does (hp : s.light.pulses[g] = .scheduled) : Does (.pulseStart g) s fun u =>
    u = { s with light := u.light } ∧ u.light.pulses = s.light.pulses.set g.val .running ∧
    u.light.codes = u.columnCodes ∧ u.light.course = s.light.course ∧ u.light.stage = .active := by
  have starts : ∃ c, exec (.pulseStart g) s = .next
      (let x := ({ s with light := { s.light with pulses := s.light.pulses.set g.val .running } } : State).driveColumns
        (s.pulseOfs g.val)
      { x with light := { x.light with courseQual := c } }) := by
    change ∃ c, execPulseStart g s = _
    simp only [execPulseStart, hs, hp, decide_true, Bool.and_true, if_true]
    split
    · exact ⟨_, rfl⟩
    · exact ⟨_, rfl⟩
  obtain ⟨c, starts⟩ := starts
  exact ⟨_, starts, rfl, rfl, rfl, rfl, hs⟩

theorem pulseEnd_does (hp : s.light.pulses[g] = .running) : Does (.pulseEnd g) s fun u =>
    u = { s with light := u.light, trowels := u.trowels } ∧ Raised s u 0 18 ∧
    u.light.pulses = s.light.pulses.set g.val .ended ∧ u.light.codes = u.columnCodes ∧
    u.light.course = s.light.course := by
  have ends : exec (.pulseEnd g) s = .next (((({ s with light := { s.light with
      pulses := s.light.pulses.set g.val .ended } } : State).driveColumns (s.pulseOfs g.val + s.pulseNs g.val)).raise 0
        18).darkBegin (s.pulseOfs g.val + s.pulseNs g.val)) := by
    change execPulseEnd g s = _
    simp only [execPulseEnd, hs, hp, decide_true, Bool.and_true, if_true]
  have driven : LightKeeps (fun _ => False) s (({ s with light := { s.light with
      pulses := s.light.pulses.set g.val .ended } } : State).driveColumns (s.pulseOfs g.val + s.pulseNs g.val)) :=
    .parts (.refl _ s)
  have raised := driven.raised (n := 18) (t := 0) (by decide) (.darkBegin (.refl ..))
    (v := State.darkBegin _ (s.pulseOfs g.val + s.pulseNs g.val))
  refine ⟨_, ends, ?_, raised, ?_, ?_, ?_⟩
  · obtain ⟨o, q, i, c, n, e⟩ := State.darkBegin_keeps _ (s.pulseOfs g.val + s.pulseNs g.val)
    rw [e, State.raise_eq]
    rfl
  · simp [State.driveColumns]
  · rw [State.columnCodes_darkBegin, State.columnCodes_raise, ← State.columnCodes_driveColumns]
    simp
  · simp [State.driveColumns]

end
/-! ### Blanking -/

/-- The pulses that the start of blanking clips: those that run, and those that never started. -/
def State.clipped (s : State) : List GroupId := (List.finRange 8).filter fun (g : GroupId) =>
  decide (s.light.pulses[g] = .running) || decide (s.light.pulses[g] = .scheduled)

/-- The start of blanking before its events: the clipped pulses are counted, and the columns take the discharge code. -/
def State.blanked (s : State) (k : CourseRun) : State := { s.countSat 16 Fld.lightClipCount s.clipped.length with
  light := { s.light with
    stage := if k.disch = 0 then .blank else .discharge
    codes := List.replicate 16 (if k.disch = 0 then 0 else if k.dark then 0 else s.getN Fld.lightDischCode)
    pulses := s.light.pulses.map fun p => match p with | .running | .scheduled => .ended | q => q } }

/-- Its events, and the dark interval that begins. -/
def State.blankingEvents (s : State) (k : CourseRun) (ended : Bool) : State :=
  let a := if ended then s.raise 0 18 else s
  let b := if k.slot then (a.count16 Fld.lightFdCount).raise 0 29 else a
  let c := b.darkBegin (k.len - k.blank)
  if k.slot then c.darkSlot else c

theorem exec_blankingStart {k : CourseRun} (hc : s.light.course = some k) (hs : s.light.stage = .active) :
    exec .blankingStart s = .next ((s.blanked k).blankingEvents k
      ((List.finRange 8).any fun (g : GroupId) => decide (s.light.pulses[g] = .running))) := by
  change execBlankingStart s = _
  rw [execBlankingStart, hc]
  exact congrArg Host.Outcome.next (if_neg fun h => h hs)

section
variable {k : CourseRun} {ended : Bool}

theorem LightKeeps.darkSlot {w : Nat → Prop} {s u : State} (h : LightKeeps w s u) : LightKeeps w s u.darkSlot := by
  obtain ⟨q, c, n, e⟩ := u.darkSlot_keeps
  rw [e]
  exact .parts h

/-- STROBE_END is raised where a pulse has ended, FORCED_DARK where the course carries a forced slot (R152, R165). -/
theorem State.blankingEvents_raises (s : State) : LightKeeps (· = Fld.lightFdCount) s (s.blankingEvents k ended) ∧
    (ended = true → Raised s (s.blankingEvents k ended) 0 18) ∧
    (k.slot = true → Raised s (s.blankingEvents k ended) 0 29) := by
  have dark (x : State) : LightKeeps (· = Fld.lightFdCount) x (if k.slot then (x.darkBegin (k.len - k.blank)).darkSlot
      else x.darkBegin (k.len - k.blank)) := .maybe (.darkBegin (.refl _ x)) (.darkSlot ·)
  have slot (x : State) : LightKeeps (· = Fld.lightFdCount) x
      (if k.slot then (x.count16 Fld.lightFdCount).raise 0 29 else x) :=
    .maybe (.refl _ x) fun h => .raise (.count16 h rfl)
  have strobe : LightKeeps (· = Fld.lightFdCount) s (if ended then s.raise 0 18 else s) := .maybe (.refl _ s) (.raise ·)
  refine ⟨(strobe.trans (slot _)).trans (dark _), fun h => ?_, fun h => ?_⟩
  · refine (LightKeeps.refl _ s).raised (by decide) (LightKeeps.trans ?_ (dark _))
    have after := slot (if ended then s.raise 0 18 else s)
    rwa [if_pos h] at after ⊢
  · refine (strobe.count16 rfl).raised (by decide) (LightKeeps.trans ?_ (dark _))
    rw [if_pos h]
    exact .refl ..

/-- The events leave the columns and the course alone. -/
theorem State.blankingEvents_light (s : State) : (s.blankingEvents k ended).light.stage = s.light.stage ∧
    (s.blankingEvents k ended).light.course = s.light.course ∧ (s.blankingEvents k ended).light.codes = s.light.codes ∧
    (s.blankingEvents k ended).light.pulses = s.light.pulses := by
  cases hk : k.slot <;> cases ended <;> simp [State.blankingEvents, hk]

theorem State.blankingEvents_eq (s : State) : s.blankingEvents k ended = { s with
    light := (s.blankingEvents k ended).light, fields := (s.blankingEvents k ended).fields
    trowels := (s.blankingEvents k ended).trowels } := by
  have kept : (s.blankingEvents k ended).balls = s.balls ∧ (s.blankingEvents k ended).bb = s.bb := by
    simp [State.blankingEvents]
  have frame := (s.blankingEvents_raises (k := k) (ended := ended)).1.frame
  generalize s.blankingEvents k ended = u at *
  rw [frame, kept.1, kept.2]

end

/-- The start of blanking (R152, R157). -/
theorem blankingStart_does {k : CourseRun} (hc : s.light.course = some k) (hs : s.light.stage = .active) :
    Does .blankingStart s fun u =>
      u = { s with light := u.light, fields := u.fields, trowels := u.trowels } ∧ EventsOnly s u ∧
      u.light.stage = (if k.disch = 0 then .blank else .discharge) ∧ u.light.course = some k ∧
      u.light.codes = List.replicate 16 (if k.disch = 0 ∨ k.dark = true then 0 else s.getN Fld.lightDischCode) ∧
      (∀ h : GroupId, u.light.pulses[h] = if s.light.pulses[h] = .none then .none else .ended) ∧
      ((∃ h : GroupId, s.light.pulses[h] = .running) → Raised s u 0 18) ∧ (k.slot = true → Raised s u 0 29) ∧
      u.getN Fld.lightClipCount = min 65535 (s.getN Fld.lightClipCount + ((List.finRange 8).filter fun (h : GroupId) =>
        decide (s.light.pulses[h] = .running ∨ s.light.pulses[h] = .scheduled)).length) := by
  have blanking := exec_blankingStart hc hs
  obtain ⟨keeps, strobe, forced⟩ := (s.blanked k).blankingEvents_raises (k := k)
    (ended := (List.finRange 8).any fun (g : GroupId) => decide (s.light.pulses[g] = .running))
  obtain ⟨stage, course, codes, pulses⟩ := (s.blanked k).blankingEvents_light (k := k)
    (ended := (List.finRange 8).any fun (g : GroupId) => decide (s.light.pulses[g] = .running))
  have frame := (s.blanked k).blankingEvents_eq (k := k)
    (ended := (List.finRange 8).any fun (g : GroupId) => decide (s.light.pulses[g] = .running))
  generalize (s.blanked k).blankingEvents k _ = u at *
  refine ⟨u, blanking, frame, keeps.events, stage, course.trans hc, ?_, fun h => ?_, fun ⟨h, hr⟩ => ?_, forced, ?_⟩
  · rw [codes, State.blanked]
    by_cases hd : k.disch = 0 <;> simp [hd]
  · have mapped := congrArg (fun v : Vector PulseState 8 => v[h]) pulses
    refine mapped.trans ((Vector.getElem_map ..).trans ?_)
    change _ = if s.light.pulses[h.val] = .none then _ else _
    cases s.light.pulses[h.val] <;> rfl
  · exact strobe (List.any_eq_true.mpr ⟨h, List.mem_finRange h, decide_eq_true hr⟩)
  · have counted : (s.blanked k).getN Fld.lightClipCount = min 65535 (s.getN Fld.lightClipCount + s.clipped.length) :=
      s.getN_setN _ (by omega)
    rw [State.getN, keeps.fields _ (by decide)]
    simp only [Bool.decide_or]
    exact counted

/-- At the end of the discharge the columns go to code 0 (R152). -/
theorem dischargeEnd_does {k : CourseRun} (hc : s.light.course = some k) (hs : s.light.stage = .discharge) :
    Does .dischargeEnd s fun u =>
      u = { s with light := u.light } ∧ u.light.stage = .blank ∧ u.light.codes = List.replicate 16 0 ∧
      u.light.course = some k ∧ u.light.pulses = s.light.pulses :=
  ⟨_, congrArg Host.Outcome.next (if_pos hs), rfl, rfl, rfl, hc, rfl⟩

end

end Sys2Proof.Machine
end

section
/-! SUPPORT. Conversion starts for ADC-A, the board temperature and LT_EN (R159, R164, R167 to R170, R173, R174). -/

namespace Sys2Proof.Machine

section
variable {s : State}

/-! ### Conversion starts -/

/-- A dark start that falls due now and was the last to be issued. -/
def State.ties (s : State) (x : IssuedStart) : Bool :=
  x.slot.isNone && decide (x.due = s.nowNs) && decide (x.at_ = s.light.lastIssue)

theorem State.ties_none {l : List IssuedStart} (h : ∀ x ∈ l, x.slot = none → x.due ≠ s.time.ns) :
    ∀ x ∈ l, ¬ s.ties x = true := fun x hx e => by
  simp only [State.ties, Bool.and_eq_true, Option.isNone_iff_eq_none, decide_eq_true_eq] at e
  exact h x hx e.1.1 e.1.2

theorem State.ties_dark (s : State) : s.ties ⟨none, s.time.ns, s.light.lastIssue⟩ = true := by
  simp [State.ties, State.nowNs]

/-- A start that ties with no dark start is issued last. -/
theorem State.issueStart_last {slot : Option (Fin 4)} (h : ∀ x ∈ s.light.issued, x.slot = none → x.due ≠ s.time.ns) :
    s.issueStart slot = { s with light := { s.light with
      lastIssue := max s.time.ns (s.light.lastIssue + 30)
      issued := s.light.issued ++ [⟨slot, s.time.ns, max s.time.ns (s.light.lastIssue + 30)⟩] } } := by
  have no_tie : s.light.issued.find? s.ties = none := List.find?_eq_none.mpr (State.ties_none h)
  delta State.ties at no_tie
  unfold State.issueStart
  dsimp only
  rw [no_tie]
  cases slot <;> rfl

/-- A strobe-locked start goes before a dark start that fell due together with it (Table LM.5). -/
theorem State.issueStart_first {m : Fin 4} {l : List IssuedStart}
    (hi : s.light.issued = l ++ [⟨none, s.time.ns, s.light.lastIssue⟩])
    (h : ∀ x ∈ l, x.slot = none → x.due ≠ s.time.ns) :
    s.issueStart (some m) = { s with light := { s.light with
      lastIssue := max s.time.ns (s.light.lastIssue + 30)
      issued := l ++ [⟨some m, s.time.ns, s.light.lastIssue⟩,
        ⟨none, s.time.ns, max s.time.ns (s.light.lastIssue + 30)⟩] } } := by
  have tie : s.light.issued.find? s.ties = some ⟨none, s.time.ns, s.light.lastIssue⟩ := by
    rw [hi, List.find?_append, List.find?_eq_none.mpr (State.ties_none h), List.find?_singleton, if_pos s.ties_dark]
    rfl
  have rest : s.light.issued.eraseP s.ties = l := by
    rw [hi, List.eraseP_append_right _ (State.ties_none h), List.eraseP_cons_of_pos s.ties_dark, List.append_nil]
  delta State.ties at tie rest
  unfold State.issueStart
  dsimp only
  rw [tie]
  dsimp only [Option.isSome]
  rw [rest]
  rfl

theorem exec_strobeLockedIssue {m : Fin 4} {k : CourseRun} (hc : s.light.course = some k)
    (he : s.getN (Fld.lightSls m.val) / 8 % 2 = 1) (hg : s.groupPulses k (s.getN (Fld.lightSls m.val) % 8) = true)
    (hw : s.getN (Fld.lightSls m.val) / 16 * 5 < s.pulseSpan k (s.getN (Fld.lightSls m.val) % 8)) :
    exec (.strobeLockedIssue m) s = .next (s.issueStart (some m)) := by
  change execStrobeLockedIssue m s = _
  simp only [execStrobeLockedIssue, hc, he, hg, hw, decide_true, Bool.and_true]
  rfl

theorem exec_darkStartIssue (ho : s.light.darkOpen = true) (hq : s.light.darkQual = true)
    (hi : s.light.darkIssued = false) : exec .darkStartIssue s = .next { s with light := { s.light with
      darkIssued := true, lastIssue := max s.time.ns (s.light.lastIssue + 30)
      issued := s.light.issued ++ [⟨none, s.time.ns, max s.time.ns (s.light.lastIssue + 30)⟩] } } := by
  change execDarkStartIssue s = _
  simp only [execDarkStartIssue, ho, hq, hi]
  rfl

/-! ### The board temperature -/

/-- What a change of the derate-active flag may change. -/
theorem LightKeeps.setDerateFlag {w : Nat → Prop} {u : State} (h : LightKeeps w s u) {on : Bool} :
    LightKeeps w s (u.setDerateFlag on) := .bbEvent (.raise (.parts h))

theorem State.setDerateFlag_light (s : State) (on : Bool) :
    (s.setDerateFlag on).light = { s.light with derateFlag := on, flagFrom := s.nowNs } := by
  simp [State.setDerateFlag]

/-- The millisecond update before the flag is judged: filter and derate code (R167, R168). -/
def State.derated (s : State) (tf : Rat) : State :=
  (({ s with light := { s.light with tf := tf } } : State).setF Fld.lightTempFilt (tfBits tf)).setN Fld.lightDerate
    (s.derateOf tf)

theorem State.derated_keeps (s : State) (tf : Rat) :
    LightKeeps (fun b => b = Fld.lightTempFilt ∨ b = Fld.lightDerate) s (s.derated tf) :=
  .setF (.setF (.parts (.refl _ s)) (.inl rfl)) (.inr rfl)

/-- The update judges the flag, and changes it after its dwell at the soonest (R169). -/
theorem exec_derateUpdate (hb : s.boot.started = true) (hk : s.clocked = true) (hv : s.light.tempValid = true)
    (hl : s.light.tempLost = false) :
    let tf := s.light.tf + ((s.getI Fld.lightBoardTemp 16 : Rat) - s.light.tf) / 1000
    exec .derateUpdate s = .next (s.derated tf) ∨
      ∃ on, exec .derateUpdate s = .next ((s.derated tf).setDerateFlag on) ∧ 250000000 ≤ s.time.ns - s.light.flagFrom := by
  change execDerateUpdate s = _ ∨ ∃ on, execDerateUpdate s = _ ∧ _
  have live : ¬ (!s.trowelsLive || !s.clocked) = true := by rw [State.trowelsLive, hb, hk]; nofun
  rw [execDerateUpdate, if_neg live]
  dsimp only
  rw [if_pos hv, if_neg (Bool.eq_false_iff.mp hl)]
  split
  next h => exact .inr ⟨true, rfl, of_decide_eq_true ((Bool.and_eq_true ..).mp h).2⟩
  next =>
    split
    next h => exact .inr ⟨false, rfl, of_decide_eq_true ((Bool.and_eq_true ..).mp h).2⟩
    next => exact .inl rfl

/-- The derate code is full up to the knee and 0 from the maximum on (R168). -/
theorem State.derated_code {u : State} {tf : Rat} (hu : u.getF Fld.lightDerate = (s.derated tf).getF Fld.lightDerate) :
    (tf ≤ (s.kneeC : Rat) → u.getN Fld.lightDerate = 256) ∧
    ((s.getI Fld.lightTmaxC 16 : Rat) ≤ tf → (s.kneeC : Rat) < tf → u.getN Fld.lightDerate = 0) := by
  have code (n : Nat) (hn : n < 2 ^ 32) (h : s.derateOf tf = n) : u.getN Fld.lightDerate = n := by
    rw [State.getN, hu, State.derated, h]
    exact State.getN_setN _ _ hn
  exact ⟨fun h => code 256 (by decide) (if_pos h),
    fun h1 h2 => code 0 (by decide) ((if_neg (not_le.mpr h2)).trans (if_pos h1))⟩

/-- The millisecond update of a unit with a valid temperature (R167 to R169). -/
theorem derateUpdate_does (hb : s.boot.started = true) (hk : s.clocked = true) (hv : s.light.tempValid = true)
    (hl : s.light.tempLost = false) : Does .derateUpdate s fun u =>
      u = { s with light := u.light, fields := u.fields, trowels := u.trowels, bb := u.bb } ∧ EventsOnly s u ∧
      (let tf := s.light.tf + ((s.getI Fld.lightBoardTemp 16 : Rat) - s.light.tf) / 1000;
        u.light.tf = tf ∧
        (tf ≤ (s.kneeC : Rat) → u.getN Fld.lightDerate = 256) ∧
        ((s.getI Fld.lightTmaxC 16 : Rat) ≤ tf → (s.kneeC : Rat) < tf → u.getN Fld.lightDerate = 0) ∧
        (u.light.derateFlag ≠ s.light.derateFlag → 250000000 ≤ s.time.ns - s.light.flagFrom)) ∧
      ∀ b, b ≠ Fld.lightTempFilt → b ≠ Fld.lightDerate → u.getF b = s.getF b := by
  have update := exec_derateUpdate hb hk hv hl
  generalize s.light.tf + ((s.getI Fld.lightBoardTemp 16 : Rat) - s.light.tf) / 1000 = tf at *
  have keeps := s.derated_keeps tf
  obtain update | ⟨on, update, dwell⟩ := update
  · obtain ⟨full, none_⟩ := State.derated_code (s := s) (tf := tf) rfl
    exact ⟨_, update, keeps.frame_of_balls rfl, keeps.events, ⟨rfl, full, none_, fun h => absurd rfl h⟩,
      fun b h1 h2 => keeps.fields b fun h => h.elim h1 h2⟩
  · have flagged : LightKeeps _ s ((s.derated tf).setDerateFlag on) := keeps.setDerateFlag
    have fields : ((s.derated tf).setDerateFlag on).fields = (s.derated tf).fields := by simp
    obtain ⟨full, none_⟩ := State.derated_code (s := s) (tf := tf) (u := (s.derated tf).setDerateFlag on)
      (by rw [State.getF, fields]; rfl)
    refine ⟨_, update, flagged.frame_of_balls ?_, flagged.events, ⟨?_, full, none_, fun _ => dwell⟩,
      fun b h1 h2 => flagged.fields b fun h => h.elim h1 h2⟩
    · simp [State.derated]
    · rw [State.setDerateFlag_light]
      rfl

/-- The derate code set for a loss of the board temperature, with the flag (R170). -/
def State.lossCode (s : State) : State :=
  let x := s.setF Fld.lightDerate (s.getF Fld.lightTempLostDer)
  if s.light.derateFlag then x else x.setDerateFlag true

theorem State.lossCode_does (s : State) : LightKeeps (· = Fld.lightDerate) s s.lossCode ∧ s.lossCode.balls = s.balls ∧
    s.lossCode.light.derateFlag = true ∧ s.lossCode.getF Fld.lightDerate = s.getF Fld.lightTempLostDer := by
  have stored : LightKeeps (· = Fld.lightDerate) s (s.setF Fld.lightDerate (s.getF Fld.lightTempLostDer)) :=
    .setF (.refl _ s) rfl
  have code := s.getF_setF_self Fld.lightDerate (s.getF Fld.lightTempLostDer)
  simp only [State.lossCode]
  split
  next h => exact ⟨stored, rfl, h, code⟩
  next =>
    refine ⟨stored.setDerateFlag, by simp, by rw [State.setDerateFlag_light], ?_⟩
    have fields (x : State) : (x.setDerateFlag true).fields = x.fields := by simp
    rw [State.getF, fields]
    exact code

/-- The loss of the board temperature (R170). -/
theorem tempLost_does (he : s.enabledAt Fld.lightEnable = true) (hk : s.clocked = true) (hl : s.light.tempLost = false) :
    Does .tempLost s fun u =>
      u = { s with light := u.light, fields := u.fields, trowels := u.trowels, bb := u.bb } ∧ EventsOnly s u ∧
      u.light.tempLost = true ∧ u.light.derateFlag = true ∧
      u.getF Fld.lightDerate = s.getF Fld.lightTempLostDer ∧ ∀ b, b ≠ Fld.lightDerate → u.getF b = s.getF b := by
  have runs : ¬ (!s.enabledAt Fld.lightEnable || s.light.tempLost || !s.clocked) = true := by rw [he, hl, hk]; nofun
  have lost : exec .tempLost s = .next (State.bbEvent { s.lossCode with light := { s.lossCode.light with tempLost := true } }
    0x03#7 0xFF#8 0x0005#16 (s.getF Fld.lightTempLostDer)) := congrArg Host.Outcome.next (if_neg runs)
  obtain ⟨keeps, balls, flag, code⟩ := s.lossCode_does
  have after := (keeps.parts (a := { s.lossCode.light with tempLost := true }) (b := s.lossCode.balls)
    (c := s.lossCode.bb)).bbEvent (n := 0x03#7) (i := 0xFF#8) (c := 0x0005#16) (x := s.getF Fld.lightTempLostDer)
  exact ⟨_, lost, after.frame_of_balls balls, after.events, rfl, flag, code, after.fields⟩

/-! ### LT_EN -/

theorem State.lampsOpen_of_ltEn (h : s.pins.ltEn = false) : s.lampsOpen = false := by
  rw [State.lampsOpen, h]; rfl

/-- LT_EN has fallen, and no boundary has followed. -/
def State.ltEnLow (s : State) : State :=
  { s with pins := { s.pins with ltEn := false }, light := { s.light with relight := true } }

section
variable (h : s.pins.ltEn = true)
include h

theorem exec_ltEnFall_still (hk : s.clocked = false) : exec .ltEnFall s = .next { s.ltEnLow with
    light := { s.ltEnLow.light with codes := List.replicate 16 0 } } := by
  change execLtEnFall s = _
  simp only [execLtEnFall, h, hk]
  rfl

theorem exec_ltEnFall_clocked (hk : s.clocked = true) : exec .ltEnFall s = .next ((((s.ltEnLow.driveColumns
    (s.nowNs - s.light.courseFrom)).darkBegin (s.nowNs - s.light.courseFrom)).raise 0 28).bbEvent 0x03#7 0xFF#8 0x0006#16 0)
    := by
  change execLtEnFall s = _
  simp only [execLtEnFall, h, hk]
  rfl

/-- A falling LT_EN darkens every lamp at once (R173). -/
theorem ltEnFall_does : Does .ltEnFall s fun u =>
    u = { s with pins := { s.pins with ltEn := false }, light := u.light, trowels := u.trowels, bb := u.bb } ∧
    (∀ c ∈ u.light.codes, c = 0) ∧ u.lampsOpen = false ∧
    (s.boot.started = true → s.clocked = true → Raised s u 0 28) := by
  have zero : ∀ c ∈ List.replicate 16 0, c = 0 := fun c hc => List.eq_of_mem_replicate hc
  cases hk : s.clocked
  · exact ⟨_, exec_ltEnFall_still h hk, rfl, zero, rfl, fun _ h => absurd h nofun⟩
  have falls := exec_ltEnFall_clocked h hk
  generalize s.nowNs - s.light.courseFrom = pos at falls
  have driven : LightKeeps (fun _ => False) s.ltEnLow ((s.ltEnLow.driveColumns pos).darkBegin pos) :=
    .darkBegin (.driveColumns (.refl ..))
  have dark : s.ltEnLow.columnCodes = List.replicate 16 0 := if_neg (Bool.eq_false_iff.mp (State.lampsOpen_of_ltEn rfl))
  generalize hu : State.bbEvent _ 0x03#7 0xFF#8 0x0006#16 0 = u at falls
  have after : LightKeeps (fun _ => False) s.ltEnLow u := hu ▸ .bbEvent (.raise driven)
  have raised : Raised s.ltEnLow u 0 28 := driven.raised (by decide) (hu ▸ .bbEvent (.refl ..))
  have codes : u.light.codes = List.replicate 16 0 := by rw [← dark, ← hu]; simp [State.driveColumns]
  have kept : u.balls = s.ltEnLow.balls ∧ u.fields = s.ltEnLow.fields := by rw [← hu]; simp
  have frame := after.frame_of_balls kept.1
  rw [kept.2] at frame
  refine ⟨u, falls, frame, codes ▸ zero, State.lampsOpen_of_ltEn (by rw [frame]; rfl), fun _ _ => raised⟩

end

/-- A rising LT_EN lights no lamp before the next boundary (R174). -/
theorem ltEnRise_does (h : s.pins.ltEn = false) : Does .ltEnRise s fun u =>
    u = { s with pins := { s.pins with ltEn := true }, light := { s.light with relight := true } } ∧
    u.lampsOpen = false :=
  ⟨_, congrArg Host.Outcome.next (if_neg (Bool.eq_false_iff.mp h)), rfl, rfl⟩

end

/-- Settles O24: each command by the equation of its effect, its events and fields by `LightKeeps`. -/
theorem lightPulsesAndStarts : Obligations.LightPulsesAndStarts := by
  unfold Obligations.LightPulsesAndStarts
  refine ⟨fun s g k => ⟨pulseStart_does, pulseEnd_does, blankingStart_does, dischargeEnd_does⟩, fun s m =>
    ⟨fun k hc he hg hw => ⟨fun hi => ?_, fun l hi hl => ?_⟩, fun ho hq hi => ⟨_, exec_darkStartIssue ho hq hi, rfl⟩,
      derateUpdate_does, tempLost_does, ltEnFall_does, ltEnRise_does⟩⟩
  · exact ⟨_, exec_strobeLockedIssue hc he hg hw, State.issueStart_last hi⟩
  · exact ⟨_, exec_strobeLockedIssue hc he hg hw, State.issueStart_first hi hl⟩

end Sys2Proof.Machine
end

section
/-! SUPPORT. Lamp failures: the failed bits, the comparators' counts over a pulse, and the columns that follow (R146, R175 to
R177, R182, R183). -/

namespace Sys2Proof.Machine

section
variable {s u v : State}

/-! ### The bits of a fault word -/

/-- Setting one bit of a word. -/
theorem getLsbD_or_bit {w : Nat} (x : BitVec w) {i j : Nat} (hj : j < w) :
    (x ||| BitVec.ofNat w (2 ^ i)).getLsbD j = (decide (j = i) || x.getLsbD j) := by
  rw [BitVec.getLsbD_or, BitVec.getLsbD_ofNat, Nat.testBit_two_pow, decide_eq_true hj, Bool.true_and, Bool.or_comm,
    decide_eq_decide.mpr eq_comm]

theorem State.getB_of_fields (h : u.fields = s.fields) (a i : Nat) : u.getB a i = s.getB a i := by
  rw [State.getB, State.getF, h]; rfl

theorem State.getB_setF_of_ne {a b : Nat} (h : b ≠ a) (x : Word) (i : Nat) : (s.setF a x).getB b i = s.getB b i := by
  rw [State.getB, State.getF_setF_of_ne s h]; rfl

/-- A failure marks its lamp and no other. -/
theorem State.lampFailed_markFailed (s : State) (m n : Nat) :
    (s.markFailed m).lampFailed n = (decide (n = m) || s.lampFailed n) := by
  unfold State.lampFailed State.markFailed
  by_cases h : n / 32 = m / 32
  · rw [h, State.getB, State.getF_setF_self, getLsbD_or_bit _ (Nat.mod_lt _ (by decide))]
    have same : n % 32 = m % 32 ↔ n = m := by omega
    rw [decide_eq_decide.mpr same]
    rfl
  · have other : n ≠ m := fun e => h (e ▸ rfl)
    rw [State.getB_setF_of_ne (by unfold Fld.lightFailed; omega), decide_eq_false other, Bool.false_or]

/-- The killing of a group fails no lamp and touches no pin. -/
theorem State.getB_killFor (s : State) {b : Nat} (m i : Nat) (h : b ≠ Fld.lightKilled) :
    (s.killFor m).getB b i = s.getB b i := by
  simp only [State.killFor]
  split
  · refine (State.getB_of_fields ?_ b i).trans
      (s.getB_setF_of_ne h (s.getF Fld.lightKilled ||| BitVec.ofNat 32 (2 ^ s.lampGroup m)) i)
    simp
  · rfl

theorem State.lampFailed_failLamp (s : State) (m kind : Nat) {n : Nat} (hn : n < 128) :
    (s.failLamp m kind).lampFailed n = (decide (n = m) || s.lampFailed n) := by
  have killed : Fld.lightFailed (n / 32) ≠ Fld.lightKilled := by unfold Fld.lightFailed Fld.lightKilled; omega
  have last : Fld.lightFailed (n / 32) ≠ Fld.lightLastFault := by unfold Fld.lightFailed Fld.lightLastFault; omega
  rw [← State.lampFailed_markFailed]
  refine (State.getB_killFor _ m _ killed).trans ((State.getB_of_fields ?_ _ _).trans
    (State.getB_setF_of_ne (s := s.markFailed m) last (BitVec.ofNat 32 (m + 256 * kind)) _))
  simp [State.setN]

/-! ### What a failure changes -/

theorem LightKeeps.killFor (h : LightKeeps (fun _ => True) s u) {n : Nat} : LightKeeps (fun _ => True) s (u.killFor n) := by
  simp only [State.killFor]
  exact .maybe h fun h => .freezeIf (.bbEvent (.raise (.setF h trivial)))

/-- A failed lamp pulls LT_FAULT_N low and raises its event (R177, R183). -/
theorem State.failLamp_does (s : State) (n kind : Nat) : LightKeeps (fun _ => True) s (s.failLamp n kind) ∧
    Raised s (s.failLamp n kind) 0 (if kind = 1 then 19 else 20) ∧ (s.failLamp n kind).balls.ltFaultLow = true := by
  have marked : LightKeeps (fun _ => True) s ((s.markFailed n).setN Fld.lightLastFault (n + 256 * kind)) :=
    .setF (.setF (.refl _ s) trivial) trivial
  have after (x : State) : LightKeeps (fun _ => True) x ((((x.bbEvent 0x03#7 0xFF#8 0x0007#16
      (BitVec.ofNat 32 (n + 256 * kind))).ltFault).freezeIf 0x11#8 [1, 5] 0).killFor n) :=
    .killFor (.freezeIf (.parts (.bbEvent (.refl _ x))))
  refine ⟨marked.raise.trans (after _), marked.raised (by split <;> decide) (after _), ?_⟩
  simp [State.failLamp, State.ltFault]

/-- An event that was raised on the way. -/
theorem Raised.within {w w' : Nat → Prop} {a b : State} {t : TrowelId} {n : Nat} (h : LightKeeps w s a) (r : Raised a b t n)
    (g : LightKeeps w' b u) : Raised s u t n :=
  ⟨fun hs => g.stays t n (r.1 (h.started.trans hs)), (h.events.trans r.2).trans g.events⟩

/-- The column of a failed lamp is dark (R158). -/
theorem State.columnCodes_failed {k : CourseRun} {c : Nat} (hk : s.light.course = some k) (hc : c < 16)
    (hf : s.lampFailed (16 * k.line + c) = true) : s.columnCodes[c]? = some 0 := by
  have dark : (List.replicate 16 0)[c]? = some 0 := List.getElem?_replicate.trans (if_pos hc)
  have code : s.lampCode (16 * k.line + c) = 0 := by simp [State.lampCode, hf]
  simp only [State.columnCodes, State.scheduledCodes, hk]
  split
  · split
    · exact dark
    · simp [hc, code]
  · exact dark

/-! ### The samples of a pulse -/

/-- `u` comes of `s` by samples of the comparators. -/
structure Sampled (s u : State) : Prop where
  keeps : LightKeeps (fun _ => True) s u
  course : u.light.course = s.light.course
  low : s.balls.ltFaultLow = true → u.balls.ltFaultLow = true
  failed : ∀ n < 128, s.lampFailed n = true → u.lampFailed n = true

/-- Lamp `n` and its counts are in `u` as in `s`. -/
structure LampKept (n : Nat) (s u : State) : Prop where
  failed : u.lampFailed n = s.lampFailed n
  opens : sparseGet (fun _ => 0) u.light.opens n = sparseGet (fun _ => 0) s.light.opens n
  overs : sparseGet (fun _ => 0) u.light.overs n = sparseGet (fun _ => 0) s.light.overs n

theorem Sampled.refl (s : State) : Sampled s s := ⟨.refl _ s, rfl, id, fun _ _ h => h⟩

theorem Sampled.trans (h : Sampled s u) (g : Sampled u v) : Sampled s v :=
  ⟨h.keeps.trans g.keeps, g.course.trans h.course, g.low ∘ h.low, fun n hn hf => g.failed n hn (h.failed n hn hf)⟩

theorem LampKept.refl (n : Nat) (s : State) : LampKept n s s := ⟨rfl, rfl, rfl⟩

theorem LampKept.trans {n : Nat} (h : LampKept n s u) (g : LampKept n u v) : LampKept n s v :=
  ⟨g.failed.trans h.failed, g.opens.trans h.opens, g.overs.trans h.overs⟩

theorem Sampled.failLamp (s : State) (n kind : Nat) : Sampled s (s.failLamp n kind) := by
  obtain ⟨keeps, -, low⟩ := s.failLamp_does n kind
  refine ⟨keeps, by simp, fun _ => low, fun m hm hf => ?_⟩
  rw [State.lampFailed_failLamp s n kind hm, hf, Bool.or_true]

/-- The state in which a sample of lamp `n` has counted `o` and `v` readings in a row. -/
def State.sampleCounts (s : State) (n o v : Nat) : State := { s with light := { s.light with
  opens := sparseSet (fun _ => 0) s.light.opens n o, overs := sparseSet (fun _ => 0) s.light.overs n v } }

theorem Sampled.sampleCounts (s : State) (n o v : Nat) : Sampled s (s.sampleCounts n o v) :=
  ⟨.parts (.refl _ s), rfl, id, fun _ _ h => h⟩

/-- The readings in a row below the thresholds, with one more reading. -/
def State.openRun (s : State) (n : Nat) (r : LampReading) : Nat :=
  if r = .below then sparseGet (fun _ => 0) s.light.opens n + 1 else 0

/-- The readings in a row above the thresholds, with one more reading. -/
def State.overRun (s : State) (n : Nat) (r : LampReading) : Nat :=
  if r = .above then sparseGet (fun _ => 0) s.light.overs n + 1 else 0

/-- A sample counts the reading, and at the third in a row fails the lamp (R175). -/
theorem State.sampleLamp_eq (s : State) (n : Nat) (r : LampReading) : s.sampleLamp n r =
    if 3 ≤ s.openRun n r then (s.sampleCounts n (s.openRun n r) (s.overRun n r)).failLamp n 1
    else if 3 ≤ s.overRun n r then (s.sampleCounts n (s.openRun n r) (s.overRun n r)).failLamp n 2
    else s.sampleCounts n (s.openRun n r) (s.overRun n r) := by
  cases r <;> rfl

theorem State.sampleLamp_cases (s : State) (n : Nat) (r : LampReading) : ∃ o v,
    s.sampleLamp n r = s.sampleCounts n o v ∨ ∃ kind, s.sampleLamp n r = (s.sampleCounts n o v).failLamp n kind := by
  refine ⟨s.openRun n r, s.overRun n r, ?_⟩
  rw [State.sampleLamp_eq]
  split
  · exact .inr ⟨1, rfl⟩
  · split
    · exact .inr ⟨2, rfl⟩
    · exact .inl rfl

theorem Sampled.sampleLamp (s : State) (n : Nat) (r : LampReading) : Sampled s (s.sampleLamp n r) := by
  obtain ⟨o, v, e | ⟨kind, e⟩⟩ := s.sampleLamp_cases n r
  · exact e ▸ .sampleCounts s n o v
  · exact e ▸ (Sampled.sampleCounts s n o v).trans (.failLamp _ n kind)

/-- A sample leaves every other lamp alone. -/
theorem LampKept.sampleLamp {m n : Nat} (hn : n < 128) (h : n ≠ m) (s : State) (r : LampReading) :
    LampKept n s (s.sampleLamp m r) := by
  have counts (o v : Nat) : LampKept n s (s.sampleCounts m o v) :=
    ⟨rfl, sparseGet_sparseSet_of_ne _ _ h o, sparseGet_sparseSet_of_ne _ _ h v⟩
  obtain ⟨o, v, e | ⟨kind, e⟩⟩ := s.sampleLamp_cases m r
  · exact e ▸ counts o v
  · refine e ▸ (counts o v).trans ⟨?_, by simp, by simp⟩
    rw [State.lampFailed_failLamp _ m kind hn, decide_eq_false h, Bool.false_or]

section
variable {g : GroupId} {k : CourseRun} {readings : List Nat}

/-- Column by column: a sample of its lamp, or nothing. -/
theorem State.sampleColumn_cases (s0 : State) (g : GroupId) (k : CourseRun) (readings : List Nat) (s : State) (c : Nat) :
    s0.sampleColumn g k readings s c = s ∨ ∃ r, s0.sampleColumn g k readings s c = s.sampleLamp (16 * k.line + c) r := by
  unfold State.sampleColumn
  dsimp only
  split
  · split
    · exact .inr ⟨_, rfl⟩
    · exact .inl rfl
  · exact .inl rfl

theorem Sampled.sampleColumns (s0 : State) (l : List Nat) (s : State) :
    Sampled s (l.foldl (s0.sampleColumn g k readings) s) := by
  induction l generalizing s with
  | nil => exact .refl s
  | cons c l ih =>
    refine Sampled.trans ?_ (ih _)
    obtain e | ⟨r, e⟩ := s0.sampleColumn_cases g k readings s c
    · rw [e]; exact .refl s
    · exact e ▸ .sampleLamp s _ r

/-- The samples of other columns leave a lamp alone. -/
theorem LampKept.sampleColumns {c : Nat} (hn : 16 * k.line + c < 128) (s0 : State) {l : List Nat} (h : c ∉ l) (s : State) :
    LampKept (16 * k.line + c) s (l.foldl (s0.sampleColumn g k readings) s) := by
  induction l generalizing s with
  | nil => exact .refl _ s
  | cons d l ih =>
    rw [List.mem_cons, not_or] at h
    refine LampKept.trans ?_ (ih h.2 _)
    obtain e | ⟨r, e⟩ := s0.sampleColumn_cases g k readings s d
    · rw [e]; exact .refl _ s
    · exact e ▸ .sampleLamp hn (fun x => h.1 (Nat.add_left_cancel x)) s r

/-- A pulse samples each column once: before and after it, the others leave its lamp alone. -/
theorem State.sampleColumns_split {c : Nat} (hn : 16 * k.line + c < 128) (hc : c < 16) (s0 s : State) : ∃ a,
    (Sampled s a ∧ LampKept (16 * k.line + c) s a) ∧
    Sampled (s0.sampleColumn g k readings a c) ((List.range 16).foldl (s0.sampleColumn g k readings) s) ∧
    LampKept (16 * k.line + c) (s0.sampleColumn g k readings a c)
      ((List.range 16).foldl (s0.sampleColumn g k readings) s) := by
  obtain ⟨l, l', e⟩ := List.append_of_mem (List.mem_range.mpr hc)
  have once : c ∉ l ++ l' := (List.nodup_cons.mp (List.nodup_middle.mp (e ▸ List.nodup_range))).1
  rw [List.mem_append, not_or] at once
  rw [e, List.foldl_append, List.foldl_cons]
  exact ⟨_, ⟨.sampleColumns s0 l s, .sampleColumns hn s0 once.1 s⟩, .sampleColumns s0 l' _, .sampleColumns hn s0 once.2 _⟩

/-- The columns follow the failures of a pulse (R177). -/
theorem State.afterFailure_does (s : State) (pos : Nat) : LightKeeps (fun _ => True) s (s.afterFailure pos) ∧
    (∀ a i, (s.afterFailure pos).getB a i = s.getB a i) ∧ (s.afterFailure pos).balls = s.balls ∧
    (s.afterFailure pos).light.codes = s.columnCodes := by
  refine ⟨.darkBegin (.driveColumns (.refl _ s)), State.getB_of_fields (by simp), by simp, ?_⟩
  simp [State.afterFailure, State.driveColumns]

/-! ### FAULT_SAMPLE -/

/-- From `s` to `u` lamp `c` of the line of course `k` has failed with event `e` (R177, R183). -/
def FailsLamp (s u : State) (k : CourseRun) (c e : Nat) : Prop :=
  u.lampFailed (16 * k.line + c) = true ∧ u.balls.ltFaultLow = true ∧ (s.boot.started = true → Raised s u 0 e) ∧
    u.light.codes[c]? = some 0

/-- A lamp that a sample fails is dark once the pulse has been judged. -/
theorem FailsLamp.of_failLamp {a y : State} {c kind : Nat} (pos : Nat) (hk : s.light.course = some k) (hc : c < 16)
    (hn : 16 * k.line + c < 128) (before : Sampled s a) (after : Sampled (a.failLamp (16 * k.line + c) kind) y) :
    FailsLamp s (y.afterFailure pos) k c (if kind = 1 then 19 else 20) := by
  obtain ⟨-, raised, low⟩ := a.failLamp_does (16 * k.line + c) kind
  obtain ⟨follows, bits, balls, codes⟩ := y.afterFailure_does pos
  have failed : y.lampFailed (16 * k.line + c) = true := after.failed _ hn (by
    rw [State.lampFailed_failLamp a _ kind hn, decide_eq_true rfl, Bool.true_or])
  have course : y.light.course = some k :=
    ((before.trans (.failLamp a _ kind)).trans after).course.trans hk
  refine ⟨(bits _ _).trans failed, ?_, fun _ => raised.within before.keeps (after.keeps.trans follows), ?_⟩
  · rw [balls]; exact after.low low
  · rw [codes]; exact State.columnCodes_failed course hc failed

/-- What the readings of a pulse make of a lamp (R146, R175). -/
theorem State.samplePulse_does {c v : Nat} (pos : Nat) (hk : s.light.course = some k) (hc : c < 16)
    (hn : 16 * k.line + c < 128) (hg : s.lampGroup (16 * k.line + c) = g.val)
    (hm : s.lampMember (16 * k.line + c) = true) (hl : 64 ≤ (s.light.codes[c]?).getD 0) (hv : readings[c]? = some v) :
    let r := compareLamp ((s.light.codes[c]?).getD 0) v
    let u := ((List.range 16).foldl (s.sampleColumn g k readings) s).afterFailure pos
    (r = .good → u.lampFailed (16 * k.line + c) = true → s.lampFailed (16 * k.line + c) = true) ∧
    (r = .below → 2 ≤ sparseGet (fun _ => 0) s.light.opens (16 * k.line + c) → FailsLamp s u k c 19) ∧
    (r = .above → 2 ≤ sparseGet (fun _ => 0) s.light.overs (16 * k.line + c) → FailsLamp s u k c 20) := by
  intro r u
  obtain ⟨a, ⟨before, kept⟩, after, kept'⟩ := State.sampleColumns_split (g := g) (readings := readings) hn hc s s
  have sample : s.sampleColumn g k readings a c = a.sampleLamp (16 * k.line + c) r := by
    simp only [State.sampleColumn, hg, hm, hl, hv, beq_self_eq_true, decide_true, Bool.and_true, if_true]
    rfl
  have counted := Sampled.sampleCounts a (16 * k.line + c)
  rw [sample, State.sampleLamp_eq] at after kept'
  refine ⟨fun hr hf => ?_, fun hr ho => ?_, fun hr ho => ?_⟩
  · have none_open : a.openRun (16 * k.line + c) r = 0 := if_neg (by rw [hr]; nofun)
    have none_over : a.overRun (16 * k.line + c) r = 0 := if_neg (by rw [hr]; nofun)
    rw [none_open, none_over, if_neg (by decide), if_neg (by decide)] at kept'
    have bits := (State.afterFailure_does ((List.range 16).foldl (s.sampleColumn g k readings) s) pos).2.1
    exact kept.failed.symm.trans (kept'.failed.symm.trans ((bits _ _).symm.trans hf))
  · have three : 3 ≤ a.openRun (16 * k.line + c) r := by
      rw [State.openRun, if_pos hr, kept.opens]
      omega
    rw [if_pos three] at after
    exact .of_failLamp pos hk hc hn (before.trans (counted _ _)) after
  · have none_open : a.openRun (16 * k.line + c) r = 0 := if_neg (by rw [hr]; nofun)
    have three : 3 ≤ a.overRun (16 * k.line + c) r := by
      rw [State.overRun, if_pos hr, kept.overs]
      omega
    rw [none_open, if_neg (by decide), if_pos three] at after
    exact .of_failLamp pos hk hc hn (before.trans (counted _ _)) after

end
end

end Sys2Proof.Machine
end

section
/-! SUPPORT. FAULT_SAMPLE and ZERO_CURRENT_CHECK (R146, R175, R176). -/

namespace Sys2Proof.Machine

section
variable {s : State} {k : CourseRun}

/-! ### FAULT_SAMPLE -/

theorem compareLamp_below {code v : Nat} (h : 10 * (4096 * v) < 8 * (code * 1200000)) : compareLamp code v = .below :=
  if_pos h

theorem compareLamp_above {code v : Nat} (h : 5 * (code * 1200000) < 4 * (4096 * v)) : compareLamp code v = .above :=
  (if_neg (by unfold codeVolts; omega)).trans (if_pos h)

theorem compareLamp_good {code v : Nat} (hb : ¬ 10 * (4096 * v) < 8 * (code * 1200000))
    (ha : ¬ 5 * (code * 1200000) < 4 * (4096 * v)) : compareLamp code v = .good :=
  (if_neg hb).trans (if_neg ha)

/-- Without a course there is no pulse to judge. -/
theorem exec_faultSample_idle (g : GroupId) (readings : List Nat) (hk : s.light.course = none) :
    exec (.faultSample g readings) s = .next s := by
  change execFaultSample g readings s = _
  rw [execFaultSample, hk]

theorem exec_faultSample_course (g : GroupId) (readings : List Nat) (hk : s.light.course = some k) :
    exec (.faultSample g readings) s = .next (s.evaluatePulse g k readings) := by
  change execFaultSample g readings s = _
  rw [execFaultSample, hk]

theorem State.evaluatePulse_off (g : GroupId) (readings : List Nat) (he : s.faultsEvaluated = false) :
    s.evaluatePulse g k readings = s := by
  simp [State.evaluatePulse, he]

/-- A lit pulse that is wide enough is sampled column by column (R175). -/
theorem State.evaluatePulse_lit {g : GroupId} (readings : List Nat) (he : s.faultsEvaluated = true)
    (hl : s.groupLit g.val = true) (hd : k.dark = false)
    (hw : max 40 (min 1000 (s.getN Fld.lightSenseDlyNs)) + 20 ≤ if s.getN (Fld.lightGrpMode g.val) = 3 then k.len - k.blank
      else min (s.pulseNs g.val) (k.len - k.blank - s.pulseOfs g.val)) : ∃ pos,
    s.evaluatePulse g k readings = ((List.range 16).foldl (s.sampleColumn g k readings) s).afterFailure pos := by
  refine ⟨_, if_pos ?_⟩
  simp only [he, hl, hd, Bool.true_and, Bool.not_false, Bool.and_true, decide_eq_true_eq, beq_iff_eq]
  exact hw

theorem faultSample_does (g : GroupId) (readings : List Nat) (hk : s.light.course = some k)
    (he : s.faultsEvaluated = true) (hlit : s.groupLit g.val = true) (hd : k.dark = false) (hline : k.line < 8)
    (hw : max 40 (min 1000 (s.getN Fld.lightSenseDlyNs)) + 20 ≤ if s.getN (Fld.lightGrpMode g.val) = 3 then k.len - k.blank
      else min (s.pulseNs g.val) (k.len - k.blank - s.pulseOfs g.val)) :
    Does (.faultSample g readings) s fun u =>
      u = { s with balls := u.balls, fields := u.fields, trowels := u.trowels, bb := u.bb, light := u.light } ∧
      EventsOnly s u ∧
      ∀ (c v : Nat), c < 16 → s.lampGroup (16 * k.line + c) = g.val → s.lampMember (16 * k.line + c) = true →
        64 ≤ (s.light.codes[c]?).getD 0 → readings[c]? = some v →
        let code := (s.light.codes[c]?).getD 0
        (¬ 10 * (4096 * v) < 8 * (code * 1200000) → ¬ 5 * (code * 1200000) < 4 * (4096 * v) →
          u.lampFailed (16 * k.line + c) = true → s.lampFailed (16 * k.line + c) = true) ∧
        (10 * (4096 * v) < 8 * (code * 1200000) → 2 ≤ sparseGet (fun _ => 0) s.light.opens (16 * k.line + c) →
          FailsLamp s u k c 19) ∧
        (5 * (code * 1200000) < 4 * (4096 * v) → 2 ≤ sparseGet (fun _ => 0) s.light.overs (16 * k.line + c) →
          FailsLamp s u k c 20) := by
  obtain ⟨pos, judged⟩ := s.evaluatePulse_lit readings he hlit hd hw
  have keeps := (Sampled.sampleColumns (g := g) (k := k) (readings := readings) s (List.range 16) s).keeps.trans
    (State.afterFailure_does _ pos).1
  refine ⟨_, (exec_faultSample_course g readings hk).trans (congrArg Host.Outcome.next judged), keeps.frame, keeps.events,
    fun c v hc hg hm hl hv => ?_⟩
  obtain ⟨good, below, above⟩ := s.samplePulse_does pos hk hc (by omega) hg hm hl hv
  exact ⟨fun hb ha => good (compareLamp_good hb ha),
    fun h => below (compareLamp_below h), fun h => above (compareLamp_above h)⟩

/-! ### ZERO_CURRENT_CHECK -/

/-- The light matrix leaves the core alone. -/
theorem LightKeeps.coreFrame {w : Nat → Prop} {u : State} (h : LightKeeps w s u) : CoreFrame s u := by
  rw [h.frame]
  constructor <;> rfl

theorem aboveZero_eq (level : Nat) : aboveZero level = decide (37500 < level) := by
  rw [aboveZero, decide_eq_decide, codeVolts]
  omega

/-- A high reading counts once in its course. -/
theorem State.zeroCount_high {level : Nat} (hl : 37500 < level) (n col : Nat) : s.zeroCount n col (aboveZero level) =
    if s.light.zeroSeen.getLsbD col then sparseGet (fun _ => 0) s.light.zeros n
    else sparseGet (fun _ => 0) s.light.zeros n + 1 := by
  rw [State.zeroCount, aboveZero_eq, decide_eq_true hl]
  rfl

/-- A reading at code 0 comes too early (R176). -/
theorem State.zeroSettled_false {col pos : Nat} (h : (pos : Int) < (s.light.zeroFrom[col]?).getD 0 + 50) :
    s.zeroSettled col pos = false := decide_eq_false (Int.not_le.mpr h)

theorem exec_zeroCurrentCheck_early {col : Fin 16} {level pos : Nat}
    (h : (pos : Int) < (s.light.zeroFrom[col.val]?).getD 0 + 50) : exec (.zeroCurrentCheck col level pos) s = .next s := by
  change execZeroCurrentCheck col level pos s = _
  rw [execZeroCurrentCheck, State.zeroSettled_false h]
  simp only [Bool.and_false, Bool.false_eq_true, if_false]
  split <;> rfl

/-- The state in which a reading of column `col` at code 0 has counted. -/
def State.zeroCounted (s : State) (n : Nat) (col : Fin 16) (level : Nat) : State := { s with light := { s.light with
  zeros := sparseSet (fun _ => 0) s.light.zeros n (s.zeroCount n col.val (aboveZero level))
  zeroSeen := if aboveZero level then s.light.zeroSeen ||| BitVec.ofNat 16 (2 ^ col.val) else s.light.zeroSeen } }

section
variable {col : Fin 16} {level pos : Nat} (hk : s.light.course = some k) (he : s.faultsEvaluated = true)
  (ha : s.light.stage = .active) (hd : k.dark = false) (hf : s.lampFailed (16 * k.line + col.val) = false)
  (hc : s.light.codes[col.val]? = some 0) (hp : (s.light.zeroFrom[col.val]?).getD 0 + 50 ≤ (pos : Int))
include hk he ha hd hf hc hp

/-- A settled reading of a lit line's column at code 0 counts, and may fail its lamp. -/
theorem exec_zeroCurrentCheck : exec (.zeroCurrentCheck col level pos) s = .next
    (if 3 ≤ s.zeroCount (16 * k.line + col.val) col.val (aboveZero level) then
      ((s.zeroCounted (16 * k.line + col.val) col level).failLamp (16 * k.line + col.val) 3).afterFailure pos
    else s.zeroCounted (16 * k.line + col.val) col level) := by
  change execZeroCurrentCheck col level pos s = _
  rw [execZeroCurrentCheck]
  split
  next none_ => exact absurd (hk.symm.trans none_) nofun
  next k' same =>
    obtain rfl : k = k' := Option.some.inj (hk.symm.trans same)
    refine congrArg Host.Outcome.next (if_pos ?_)
    rw [he, ha, hd, hf, hc, State.zeroSettled, decide_eq_true hp]
    rfl

/-- A low reading ends the run. -/
theorem zeroCurrentCheck_low (hl : level ≤ 37500) : Does (.zeroCurrentCheck col level pos) s fun u =>
    u = { s with light := { s.light with zeros := u.light.zeros } } ∧
    sparseGet (fun _ => 0) u.light.zeros (16 * k.line + col.val) = 0 := by
  have low : aboveZero level = false := (aboveZero_eq level).trans (decide_eq_false (Nat.not_lt.mpr hl))
  have ends : s.zeroCount (16 * k.line + col.val) col.val (aboveZero level) = 0 := by rw [low]; rfl
  have counted := exec_zeroCurrentCheck (level := level) hk he ha hd hf hc hp
  rw [ends, if_neg (by decide)] at counted
  refine ⟨_, counted, ?_, ?_⟩
  · rw [State.zeroCounted, low]; rfl
  · exact (sparseGet_sparseSet_self ..).trans ends

/-- A high reading counts, and marks its course as read. -/
theorem zeroCurrentCheck_few (hl : 37500 < level)
    (hn : s.zeroCount (16 * k.line + col.val) col.val (aboveZero level) < 3) : Does (.zeroCurrentCheck col level pos) s fun u =>
    u = { s with light := { s.light with zeros := u.light.zeros, zeroSeen := u.light.zeroSeen } } ∧
    sparseGet (fun _ => 0) u.light.zeros (16 * k.line + col.val)
      = s.zeroCount (16 * k.line + col.val) col.val (aboveZero level) ∧ u.light.zeroSeen.getLsbD col.val = true := by
  have counted := exec_zeroCurrentCheck (level := level) hk he ha hd hf hc hp
  rw [if_neg (Nat.not_le.mpr hn)] at counted
  refine ⟨_, counted, rfl, sparseGet_sparseSet_self .., ?_⟩
  simp only [State.zeroCounted, aboveZero_eq, decide_eq_true hl, if_true]
  rw [getLsbD_or_bit _ col.isLt, decide_eq_true rfl, Bool.true_or]

/-- The third course in a row fails the lamp. -/
theorem zeroCurrentCheck_third (hline : k.line < 8)
    (hn : 3 ≤ s.zeroCount (16 * k.line + col.val) col.val (aboveZero level)) : Does (.zeroCurrentCheck col level pos) s fun u =>
    u.lampFailed (16 * k.line + col.val) = true ∧ u.balls.ltFaultLow = true ∧ (s.boot.started = true → Raised s u 0 20) ∧
    CoreFrame s u := by
  have counted := exec_zeroCurrentCheck (level := level) hk he ha hd hf hc hp
  rw [if_pos hn] at counted
  have before : Sampled s (s.zeroCounted (16 * k.line + col.val) col level) :=
    ⟨.parts (.refl _ s), rfl, id, fun _ _ h => h⟩
  generalize s.zeroCounted (16 * k.line + col.val) col level = a at *
  obtain ⟨failed, low, raised, -⟩ := FailsLamp.of_failLamp pos hk col.isLt (by omega) before (.refl _ : Sampled
    (a.failLamp (16 * k.line + col.val) 3) _)
  have keeps := (before.keeps.trans (Sampled.failLamp a (16 * k.line + col.val) 3).keeps).trans
    (State.afterFailure_does _ pos).1
  exact ⟨_, counted, failed, low, raised, keeps.coreFrame⟩

end

end

end Sys2Proof.Machine
end

section
/-! SUPPORT. The neighbour-pin test (R178 to R183). -/

namespace Sys2Proof.Machine

section
variable {s u v : State}

/-! ### Failed pins -/

/-- The failure bit of a matrix pin (R181). -/
def State.pinFailed (s : State) (p : Nat) : Bool :=
  if p < 32 then s.getB Fld.lightPinFail p else s.getB Fld.lightPinFailLn (p - 32)

/-- Marking a pin marks it, and no other. -/
theorem State.pinFailed_markPin (s : State) {p q : Nat} (hp : p < 40) :
    (s.markPin q).pinFailed p = (decide (p = q) || s.pinFailed p) := by
  have apart : Fld.lightPinFail ≠ Fld.lightPinFailLn := by decide
  simp only [State.pinFailed, State.markPin]
  by_cases h : p < 32 <;> by_cases g : q < 32
  · rw [if_pos h, if_pos g, if_pos h, State.getB, State.getF_setF_self, getLsbD_or_bit _ h]
    rfl
  · rw [if_pos h, if_neg g, if_pos h, State.getB_setF_of_ne apart, decide_eq_false (by omega), Bool.false_or]
  · rw [if_neg h, if_pos g, if_neg h, State.getB_setF_of_ne apart.symm, decide_eq_false (by omega), Bool.false_or]
  · rw [if_neg h, if_neg g, if_neg h, State.getB, State.getF_setF_self, getLsbD_or_bit _ (by omega),
      decide_eq_decide.mpr (show p - 32 = q - 32 ↔ p = q by omega)]
    rfl

/-- The pins' bits stand in two words. -/
theorem State.pinFailed_congr (h : ∀ b i, b = Fld.lightPinFail ∨ b = Fld.lightPinFailLn → u.getB b i = s.getB b i)
    (p : Nat) : u.pinFailed p = s.pinFailed p := by
  rw [State.pinFailed, State.pinFailed, h _ _ (.inl rfl), h _ _ (.inr rfl)]

/-- The failed lamps stand in words apart from the pins'. -/
theorem State.pinFailed_markFailed (s : State) {n : Nat} (hn : n < 128) (p : Nat) :
    (s.markFailed n).pinFailed p = s.pinFailed p :=
  State.pinFailed_congr (fun b i hb => State.getB_setF_of_ne (s := s) (by
    rcases hb with rfl | rfl <;> simp only [Fld.lightPinFail, Fld.lightPinFailLn, Fld.lightFailed] <;> omega) _ i) p

theorem State.pinFailed_killFor (s : State) (n p : Nat) : (s.killFor n).pinFailed p = s.pinFailed p :=
  State.pinFailed_congr (fun b i hb => s.getB_killFor n i (by rcases hb with rfl | rfl <;> decide)) p

/-! ### A bridge -/

/-- What every step of a fold keeps, the fold keeps. -/
theorem foldl_keeps {α β γ : Type} (g : β → γ) {f : β → α → β} {l : List α}
    (h : ∀ b, ∀ a ∈ l, g (f b a) = g b) (b : β) :
    g (l.foldl f b) = g b :=
  List.foldlRecOn (motive := fun x => g x = g b) l f rfl fun x hx a ha => (h x a ha).trans hx

/-- What the lamps `l` of two bridged pins do changes no pin's bit. -/
theorem State.pinFailed_hit {l : List Nat} (hl : ∀ n ∈ l, n < 128) (s : State) (p : Nat) :
    (l.foldl State.killFor (l.foldl State.markFailed s)).pinFailed p = s.pinFailed p :=
  (foldl_keeps (State.pinFailed · p) (fun x n _ => x.pinFailed_killFor n p) _).trans
    (foldl_keeps (State.pinFailed · p) (fun x n hn => x.pinFailed_markFailed (hl n hn) p) s)

theorem LightKeeps.markPin (h : LightKeeps (fun _ => True) s u) {p : Nat} : LightKeeps (fun _ => True) s (u.markPin p) :=
  .ite (.setF h trivial) (.setF h trivial)

/-- The lamps on two pins fail, and their groups with them. -/
theorem LightKeeps.hit (h : LightKeeps (fun _ => True) s u) (l : List Nat) :
    LightKeeps (fun _ => True) s (l.foldl State.killFor (l.foldl State.markFailed u)) :=
  .foldl (f := State.killFor) (fun _ _ h => .killFor h) l
    (.foldl (f := State.markFailed) (fun _ _ h => .setF h trivial) l h)

theorem State.hit_balls (l : List Nat) (s : State) :
    (l.foldl State.killFor (l.foldl State.markFailed s)).balls = s.balls :=
  (foldl_keeps State.balls (fun x n _ => by simp) _).trans (foldl_keeps State.balls (f := State.markFailed) (fun _ _ _ => rfl) s)

/-- A bridge marks both its pins, pulls LT_FAULT_N low and raises NEIGH_SHORT (R181, R183). -/
theorem State.bridge_does (s : State) (p q : Nat) : LightKeeps (fun _ => True) s (s.bridge p q) ∧
    Raised s (s.bridge p q) 0 21 ∧ (s.bridge p q).balls.ltFaultLow = true ∧
    ∀ x < 40, x = p ∨ x = q → (s.bridge p q).pinFailed x = true := by
  have marked : LightKeeps (fun _ => True) s ((s.markPin p).markPin q) := .markPin (.markPin (.refl _ s))
  simp only [State.bridge]
  generalize hl : (pinLamps p ++ pinLamps q).filter (fun n => decide (n < 128)) = l
  have lamps : ∀ n ∈ l, n < 128 := fun n hn => by
    rw [← hl, List.mem_filter] at hn
    exact of_decide_eq_true hn.2
  generalize hy : State.freezeIf _ 0x11#8 [1, 5] 0 = y
  have after : LightKeeps (fun _ => True) (((s.markPin p).markPin q).raise 0 21) y := hy ▸ .freezeIf (.parts (.refl ..))
  have low : y.balls.ltFaultLow = true := by rw [← hy]; simp [State.ltFault]
  have fields : y.fields = ((s.markPin p).markPin q).fields := by rw [← hy]; simp [State.ltFault]
  refine ⟨.hit (marked.raise.trans after) l, marked.raised (by decide) (.hit after l), ?_, fun x hx hpq => ?_⟩
  · rw [State.hit_balls]; exact low
  · rw [State.pinFailed_hit lamps, State.pinFailed_congr fun b i _ => State.getB_of_fields fields b i,
      State.pinFailed_markPin _ hx, State.pinFailed_markPin _ hx]
    rcases hpq with rfl | rfl <;> simp

/-- The pins whose level is no bridge. -/
theorem bridgedPins_low (pin : Nat) (q : Fin 40) {v : Nat} (h : v ≤ 300000) : bridgedPins pin [(q, v)] = [] := by
  simp [bridgedPins, h]

theorem bridgedPins_high {pin : Nat} {q : Fin 40} {v : Nat} (hq : (pinNeighbours pin).contains q.val = true)
    (hv : 300000 < v) : bridgedPins pin [(q, v)] = [q.val] := by
  rw [bridgedPins, List.filter_cons_of_pos (by rw [hq, decide_eq_true hv]; rfl)]
  rfl

/-! ### The steps of a sweep -/

/-- The pin of a sweep is due, in a slot long enough (R180). -/
def State.sweepsOn (s : State) (pin : Nat) : Prop :=
  s.light.sweepPin = some pin ∧ s.sweepSlot = true ∧ s.activeRole = true

section
variable {pin : Fin 40} (levels : List (Fin 40 × Nat))

theorem exec_neighTestStep_sweep (h : s.sweepsOn pin.val) : exec (.neighTestStep pin levels) s =
    .next (s.bridges pin.val (bridgedPins pin.val levels)).sweepOn := by
  obtain ⟨hpin, hslot, hrole⟩ := h
  refine congrArg Host.Outcome.next (if_pos ?_)
  rw [decide_eq_true hpin, hslot, hrole]
  rfl

theorem exec_neighTestStep_idle (h : ¬ s.sweepsOn pin.val) : exec (.neighTestStep pin levels) s = .next
    (if s.bootPin = some pin.val then
      { (s.bridges pin.val (bridgedPins pin.val levels)) with boot := { s.boot with neighLeft := s.boot.neighLeft.tail } }
    else s) := by
  refine congrArg Host.Outcome.next (if_neg fun e => h ?_)
  simpa only [State.sweepsOn, Bool.and_eq_true, decide_eq_true_eq, and_assoc] using e

theorem exec_neighTestStep_boot (h : ¬ s.sweepsOn pin.val) (hb : s.bootPin = some pin.val) :
    exec (.neighTestStep pin levels) s = .next { (s.bridges pin.val (bridgedPins pin.val levels)) with
      boot := { s.boot with neighLeft := s.boot.neighLeft.tail } } :=
  (exec_neighTestStep_idle levels h).trans (congrArg Host.Outcome.next (if_pos hb))

theorem exec_neighTestStep_other (h : ¬ s.sweepsOn pin.val) (hb : s.bootPin ≠ some pin.val) :
    exec (.neighTestStep pin levels) s = .next s :=
  (exec_neighTestStep_idle levels h).trans (congrArg Host.Outcome.next (if_neg hb))

/-- What counts in a step is the pins that it finds bridged. -/
theorem exec_neighTestStep_congr {levels' : List (Fin 40 × Nat)}
    (h : bridgedPins pin.val levels = bridgedPins pin.val levels') :
    exec (.neighTestStep pin levels) s = exec (.neighTestStep pin levels') s := by
  change execNeighTestStep pin levels s = execNeighTestStep pin levels' s
  rw [execNeighTestStep, execNeighTestStep, h]

end

/-- The LC pin of a column is followed by its LS pin. -/
theorem State.sweepOn_lc {c : Nat} (h : s.light.sweep = some (c, false)) :
    s.sweepOn = { s with light := { s.light with sweep := some (c, true) } } := by
  rw [State.sweepOn, h]

/-- A column of a sweep is followed by the next. -/
theorem State.sweepOn_ls {c : Nat} (h : s.light.sweep = some (c, true)) (hc : c ≠ 15) :
    s.sweepOn = { s with light := { s.light with sweep := some (c + 1, false), slotUsed := true } } := by
  rw [State.sweepOn, h]
  exact if_neg hc

/-- The end of a sweep, or the start of the next one that waits. -/
theorem State.sweepOn_last (h : s.light.sweep = some (15, true)) : s.sweepOn = State.raise { s with light := { s.light with
    sweep := if s.light.sweepDue then some (0, false) else none, sweepDue := false, slotUsed := true } } 0 23 := by
  rw [State.sweepOn, h]
  exact if_pos rfl

theorem LightKeeps.sweepOn {w : Nat → Prop} (h : LightKeeps w s u) : LightKeeps w s u.sweepOn := by
  unfold State.sweepOn
  split
  · exact .parts h
  · exact .ite (.raise (.parts h)) (.parts h)
  · exact h

section
variable {pin : Fin 40} {c : Fin 16} (hs : s.sweepSlot = true ∧ s.activeRole = true)
include hs

theorem neighTestStep_lc (h : s.light.sweep = some (c.val, false)) (hp : pin.val = c.val) :
    Does (.neighTestStep pin []) s fun u => u = { s with light := { s.light with sweep := some (c.val, true) } } := by
  have due : s.sweepsOn pin.val := ⟨by rw [Light.sweepPin, h, hp]; rfl, hs⟩
  exact ⟨_, exec_neighTestStep_sweep [] due, State.sweepOn_lc h⟩

theorem State.sweepsOn_ls (h : s.light.sweep = some (c.val, true)) (hp : pin.val = 16 + c.val) : s.sweepsOn pin.val :=
  ⟨by rw [Light.sweepPin, h, hp]; rfl, hs⟩

theorem neighTestStep_ls (h : s.light.sweep = some (c.val, true)) (hp : pin.val = 16 + c.val) (hc : c.val < 15) :
    Does (.neighTestStep pin []) s fun u =>
      u = { s with light := { s.light with sweep := some (c.val + 1, false), slotUsed := true } } :=
  ⟨_, exec_neighTestStep_sweep [] (State.sweepsOn_ls hs h hp), State.sweepOn_ls h (Nat.ne_of_lt hc)⟩

theorem neighTestStep_last (h : s.light.sweep = some (c.val, true)) (hp : pin.val = 16 + c.val) (hc : c.val = 15) :
    Does (.neighTestStep pin []) s fun u =>
      u = { s with light := { s.light with sweep := if s.light.sweepDue then some (0, false) else none
                                           sweepDue := false, slotUsed := true }, trowels := u.trowels } ∧
      Raised s u 0 23 := by
  have last := State.sweepOn_last (hc ▸ h)
  refine ⟨_, (exec_neighTestStep_sweep [] (State.sweepsOn_ls hs h hp)).trans (congrArg Host.Outcome.next last), ?_, ?_⟩
  · rw [State.raise_eq]
  · exact (LightKeeps.parts (.refl (fun _ => True) s)).raised (by decide) (.refl ..)

end

/-- A step that finds a bridge (R181, R183). -/
theorem neighTestStep_bridge {pin q : Fin 40} {v : Nat} (hd : s.sweepsOn pin.val ∨ s.bootPin = some pin.val)
    (hq : (pinNeighbours pin.val).contains q.val = true) (hv : 300000 < v) : Does (.neighTestStep pin [(q, v)]) s fun u =>
      u = { s with balls := u.balls, fields := u.fields, trowels := u.trowels, bb := u.bb, light := u.light
                   boot := u.boot } ∧
      EventsOnly s u ∧ u.balls.ltFaultLow = true ∧ (s.boot.started = true → Raised s u 0 21) ∧
      ∀ p : Fin 40, p = pin ∨ p = q → u.pinFailed p.val = true := by
  obtain ⟨keeps, raised, low, pins⟩ := s.bridge_does pin.val q.val
  have found : s.bridges pin.val (bridgedPins pin.val [(q, v)]) = s.bridge pin.val q.val := by
    rw [bridgedPins_high hq hv]; rfl
  have both (p : Fin 40) (h : p = pin ∨ p = q) : (s.bridge pin.val q.val).pinFailed p.val = true :=
    pins p.val p.isLt (h.imp (congrArg Fin.val) (congrArg Fin.val))
  by_cases due : s.sweepsOn pin.val
  · have step := exec_neighTestStep_sweep [(q, v)] due
    rw [found] at step
    generalize s.bridge pin.val q.val = b at *
    refine ⟨_, step, ?_, keeps.sweepOn.events, ?_, fun _ => ?_, fun p h => ?_⟩
    · rw [keeps.sweepOn.frame]
    · simpa using low
    · exact raised.within (.refl (fun _ => True) s) (LightKeeps.sweepOn (.refl (fun _ => True) b))
    · exact (State.pinFailed_congr (fun a i _ => State.getB_of_fields (by simp) a i) _).trans (both p h)
  · have step := exec_neighTestStep_boot [(q, v)] due (hd.resolve_left due)
    rw [found] at step
    generalize s.bridge pin.val q.val = b at *
    refine ⟨_, step, ?_, keeps.events, low, fun _ => raised, both⟩
    rw [keeps.frame]

/-! ### The marks of the test period -/

section
variable (he : s.enabledAt Fld.lightEnable = true) (hr : s.light.stage ≠ .rest)
include he hr

theorem neighSweepStart_first (h : s.light.sweep = none) : Does .neighSweepStart s fun u =>
    u = { s with light := { s.light with sweep := some (0, false) } } := by
  refine ⟨_, ?_, rfl⟩
  change execNeighSweepStart s = _
  rw [execNeighSweepStart, he, decide_eq_false hr, h]
  rfl

theorem neighSweepStart_starved (h : s.light.sweep ≠ none) : Does .neighSweepStart s fun u =>
    u = { s with light := { s.light with sweepDue := true, starved := true }, bb := u.bb } := by
  obtain ⟨⟨c, ls⟩, running⟩ := Option.ne_none_iff_exists'.mp h
  refine ⟨State.bbEvent { s with light := { s.light with starved := true, sweepDue := true } } 0x03#7 0xFF#8 0x000A#16
    (BitVec.ofNat 32 c), ?_, rfl⟩
  change execNeighSweepStart s = _
  rw [execNeighSweepStart, he, decide_eq_false hr, running]
  rfl

end
end

/-- Settles O25: the third reading by the run of a lamp through the samples, a bridge by the bits of its pins. -/
theorem lightFaultsAndTests : Obligations.LightFaultsAndTests := by
  unfold Obligations.LightFaultsAndTests
  refine ⟨fun s g k readings col level pos => ⟨exec_faultSample_idle g readings, fun hk he => ?_,
    faultSample_does g readings, fun hk he ha hd hline hf hc => ⟨exec_zeroCurrentCheck_early, fun hp => ⟨fun hl hn => ?_,
      fun hl hn => ?_, zeroCurrentCheck_low hk he ha hd hf hc hp⟩⟩⟩,
    fun s pin q v => ⟨fun c hs => ⟨neighTestStep_lc hs, neighTestStep_ls hs, neighTestStep_last hs⟩,
      fun hb hd => ⟨_, exec_neighTestStep_boot [] hd hb, rfl⟩, fun hb hd => exec_neighTestStep_other [] hd hb,
      fun hv => exec_neighTestStep_congr _ (bridgedPins_low _ q hv), neighTestStep_bridge,
      fun he hr => ⟨neighSweepStart_first he hr, neighSweepStart_starved he hr⟩⟩⟩
  · rw [exec_faultSample_course g readings hk, State.evaluatePulse_off g readings he]
  · rw [← State.zeroCount_high hl] at hn ⊢
    exact zeroCurrentCheck_few hk he ha hd hf hc hp hl hn
  · rw [← State.zeroCount_high hl] at hn
    exact zeroCurrentCheck_third hk he ha hd hf hc hp hline hn

end Sys2Proof.Machine
end

section
/-! SUPPORT. What the operations of the converters change, and what they leave alone. -/

namespace Sys2Proof.Machine

/-! ### A converter beside other changes -/

section
variable {s u : State}

theorem State.adc_congr (ha : u.adcA = s.adcA) (hb : u.adcB = s.adcB) (c : Conv) : u.adc c = s.adc c := by
  cases c
  · exact ha
  · exact hb

@[simp] theorem State.adc_raise (s : State) (t : TrowelId) (n : Nat) (c : Conv) : (s.raise t n).adc c = s.adc c :=
  State.adc_congr (by simp) (by simp) c

@[simp] theorem State.adc_setF (s : State) (a : Nat) (v : Word) (c : Conv) : (s.setF a v).adc c = s.adc c :=
  State.adc_congr rfl rfl c

@[simp] theorem State.adc_count16 (s : State) (a : Nat) (c : Conv) : (s.count16 a).adc c = s.adc c := State.adc_setF ..

@[simp] theorem State.adc_applyPending (s : State) (sel : Pend → Bool) (c : Conv) : (s.applyPending sel).adc c = s.adc c :=
  State.adc_congr rfl rfl c

@[simp] theorem State.adc_sequenceStart (s : State) (d c : Conv) : (s.sequenceStart d).adc c = s.adc c :=
  State.adc_applyPending ..

@[simp] theorem State.adc_estimatorSync (s : State) (c : Conv) : s.estimatorSync.adc c = s.adc c :=
  State.adc_congr (by simp) (by simp) c

@[simp] theorem State.getF_raise (s : State) (t : TrowelId) (n a : Nat) : (s.raise t n).getF a = s.getF a := by
  rw [State.raise_eq]
  rfl

@[simp] theorem State.getF_updAdc (s : State) (c : Conv) (f : Adc → Adc) (a : Nat) : (s.updAdc c f).getF a = s.getF a := by
  cases c <;> rfl

end

/-! ### The relation -/

/-- `u` differs from `s` in converter `c`, the estimator, the black box, event bits newly set, pending writes that have taken
effect, and stored fields of the list alone. -/
structure SenseKeeps (c : Conv) (l : List Nat) (s u : State) : Prop where
  frame : u = { s with adcA := u.adcA, adcB := u.adcB, amb := u.amb, fields := u.fields, shadow := u.shadow
                       trowels := u.trowels, bb := u.bb }
  other : OtherAdcKept s u c
  fields : FieldsKept s u l
  waiting : ∀ p ∈ u.shadow, p ∈ s.shadow
  events : EventsOnly s u
  stays : ∀ (t : TrowelId) (n : Nat), (s.trowels[t]).pending.getLsbD n = true → (u.trowels[t]).pending.getLsbD n = true

theorem SenseKeeps.refl (c : Conv) (l : List Nat) (s : State) : SenseKeeps c l s s :=
  ⟨rfl, fun _ _ => rfl, fun _ _ _ => rfl, fun _ h => h, fun _ => rfl, fun _ _ h => h⟩

section
variable {c : Conv} {l : List Nat} {s u v : State}

theorem SenseKeeps.trans (h : SenseKeeps c l s u) (g : SenseKeeps c l u v) : SenseKeeps c l s v where
  frame := g.frame.trans (congrArg (fun x : State => { x with
    adcA := v.adcA, adcB := v.adcB, amb := v.amb, fields := v.fields, shadow := v.shadow, trowels := v.trowels
    bb := v.bb }) h.frame)
  other d hd := (g.other d hd).trans (h.other d hd)
  fields b hb hp := (g.fields b hb fun p hm => hp p (h.waiting p hm)).trans (h.fields b hb hp)
  waiting p hp := h.waiting p (g.waiting p hp)
  events := h.events.trans g.events
  stays t n hn := g.stays t n (h.stays t n hn)

/-- A longer list of fields. -/
theorem SenseKeeps.mono {l' : List Nat} (h : SenseKeeps c l s u) (hl : ∀ a ∈ l, a ∈ l') : SenseKeeps c l' s u :=
  { h with fields := fun b hb => h.fields b (mt (hl b) hb) }

/-- The trowels had started before exactly if they have now. -/
theorem SenseKeeps.started (h : SenseKeeps c l s u) : u.boot.started = s.boot.started := congrArg (·.boot.started) h.frame

/-- What changes where the estimator and the black box are not among it. -/
theorem SenseKeeps.frame_of_amb (h : SenseKeeps c l s u) (ha : u.amb = s.amb) (hb : u.bb = s.bb) :
    u = { s with adcA := u.adcA, adcB := u.adcB, fields := u.fields, shadow := u.shadow, trowels := u.trowels } :=
  h.frame.trans (congrArg₂ (fun (a : Estimator) (b : BlackBox) => ({ s with
    adcA := u.adcA, adcB := u.adcB, amb := a, fields := u.fields, shadow := u.shadow, trowels := u.trowels
    bb := b } : State)) ha hb)

/-- What changes where the converter is not among it either. -/
theorem SenseKeeps.frame_of_adc (h : SenseKeeps c l s u) (hc : u.adc c = s.adc c) (ha : u.amb = s.amb) (hb : u.bb = s.bb) :
    u = { s with fields := u.fields, shadow := u.shadow, trowels := u.trowels } := by
  have all (d : Conv) : u.adc d = s.adc d := by
    by_cases e : d = c
    · rw [e, hc]
    · exact h.other d e
  have a : u.adcA = s.adcA := all .a
  have b : u.adcB = s.adcB := all .b
  refine (h.frame_of_amb ha hb).trans ?_
  rw [a, b]

/-- What changes where the fields and the pending writes are not among it. -/
theorem SenseKeeps.frame_of_fields (h : SenseKeeps c l s u) (hf : u.fields = s.fields) (hs : u.shadow = s.shadow) :
    u = { s with adcA := u.adcA, adcB := u.adcB, amb := u.amb, trowels := u.trowels, bb := u.bb } :=
  h.frame.trans (congrArg₂ (fun (f : Sparse Word) (p : List Pend) => ({ s with
    adcA := u.adcA, adcB := u.adcB, amb := u.amb, fields := f, shadow := p, trowels := u.trowels
    bb := u.bb } : State)) hf hs)

/-- A change of the estimator and of the black box. -/
theorem SenseKeeps.parts (h : SenseKeeps c l s u) {a : Estimator} {b : BlackBox} :
    SenseKeeps c l s { u with amb := a, bb := b } :=
  h.trans ⟨rfl, fun d _ => State.adc_congr rfl rfl d, fun _ _ _ => rfl, fun _ e => e, fun _ => rfl, fun _ _ e => e⟩

theorem SenseKeeps.bbEvent (h : SenseKeeps c l s u) {n : BitVec 7} {i : Byte} {k : BitVec 16} {x : Word} :
    SenseKeeps c l s (u.bbEvent n i k x) := .parts h

/-- A change of the converter. -/
theorem SenseKeeps.updAdc (h : SenseKeeps c l s u) {f : Adc → Adc} : SenseKeeps c l s (u.updAdc c f) := by
  have changed : SenseKeeps c l u (u.updAdc c f) := by
    cases c
    · exact ⟨rfl, fun d hd => u.updAdc_of_ne hd f, fun _ _ _ => rfl, fun _ e => e, fun _ => rfl, fun _ _ e => e⟩
    · exact ⟨rfl, fun d hd => u.updAdc_of_ne hd f, fun _ _ _ => rfl, fun _ e => e, fun _ => rfl, fun _ _ e => e⟩
  exact h.trans changed

theorem SenseKeeps.setF (h : SenseKeeps c l s u) {a : Nat} {x : Word} (ha : a ∈ l) : SenseKeeps c l s (u.setF a x) :=
  h.trans ⟨rfl, fun d _ => u.adc_setF a x d,
    fun b hb _ => State.getF_setF_of_ne u (by rintro rfl; exact hb ha) x, fun _ e => e, fun _ => rfl, fun _ _ e => e⟩

theorem SenseKeeps.count16 (h : SenseKeeps c l s u) {a : Nat} (ha : a ∈ l) : SenseKeeps c l s (u.count16 a) := h.setF ha

/-- Pending writes take effect. -/
theorem SenseKeeps.applyPending (h : SenseKeeps c l s u) {sel : Pend → Bool} : SenseKeeps c l s (u.applyPending sel) :=
  h.trans ⟨rfl, fun d _ => u.adc_applyPending sel d, fun _ _ hp => State.getF_applyPending fun p hm _ => hp p hm,
    fun _ hp => (List.mem_filter.mp hp).1, fun _ => rfl, fun _ _ e => e⟩

theorem SenseKeeps.sequenceStart (h : SenseKeeps c l s u) {d : Conv} : SenseKeeps c l s (u.sequenceStart d) :=
  h.applyPending

theorem SenseKeeps.applyStopped (h : SenseKeeps c l s u) : SenseKeeps c l s u.applyStopped := h.applyPending

/-- An event is raised in a trowel. -/
theorem SenseKeeps.raise (h : SenseKeeps c l s u) {t : TrowelId} {n : Nat} : SenseKeeps c l s (u.raise t n) := by
  have raised := (LightKeeps.refl (fun _ => False) u).raise (t := t) (n := n)
  have shadow : (u.raise t n).shadow = u.shadow := by simp
  exact h.trans ⟨by rw [State.raise_eq], fun d _ => u.adc_raise t n d, fun b _ _ => raised.fields b id,
    fun p hp => shadow ▸ hp, raised.events, raised.stays⟩

/-- Either branch of a conditional. -/
theorem SenseKeeps.ite {p : Prop} [Decidable p] (hu : SenseKeeps c l s u) (hv : SenseKeeps c l s v) :
    SenseKeeps c l s (if p then u else v) := by
  split
  · exact hu
  · exact hv

/-- A further change that happens or not. -/
theorem SenseKeeps.maybe {p : Prop} [Decidable p] (h : SenseKeeps c l s u) (hv : SenseKeeps c l s u → SenseKeeps c l s v) :
    SenseKeeps c l s (if p then v else u) := .ite (hv h) h

/-- The estimator follows its enables. -/
theorem SenseKeeps.estimatorSync (h : SenseKeeps c l s u) : SenseKeeps c l s u.estimatorSync := by
  unfold State.estimatorSync
  exact .ite (.raise (.raise (.parts h))) (.parts h)

/-- A raised event stays pending whatever the converter does next. -/
theorem SenseKeeps.raised {t : TrowelId} {n : Nat} (hn : n < 64) (h : SenseKeeps c l s u)
    (g : SenseKeeps c l (u.raise t n) v) : Raised s v t n := by
  refine ⟨fun hs => g.stays t n ?_, (h.raise.trans g).events⟩
  rw [State.raise_started (h.started.trans hs)]
  exact (congrArg (fun x : Trowel => x.pending.getLsbD n) (u.updT_self t _)).trans (Trowel.raise_pending_self _ hn)

end

end Sys2Proof.Machine
end

section
/-! SUPPORT. The writes of the converters: enables, references and accumulators (R191, R192, R211, R219, R220). -/

namespace Sys2Proof.Machine

theorem Adc.abandon_eq_stopped (x : Adc) : x.abandon = x.stopped := rfl

/-! ### Enables -/

section
variable {s u : State} {c : Conv} {v : Word}

/-- Once ENABLE is stored, its write changes no field but pending ones. -/
theorem State.adcEnableNow_keeps (s : State) (c : Conv) (v : Word) :
    SenseKeeps c [] (s.setF (Fld.adcEnable c) (v &&& 1)) (s.adcEnableNow c v) := by
  have stored := SenseKeeps.refl c [] (s.setF (Fld.adcEnable c) (v &&& 1))
  unfold State.adcEnableNow
  exact .maybe (.ite (.updAdc stored) (.maybe stored fun h => .applyPending (.updAdc h))) .estimatorSync

theorem State.adcEnableNow_adc_on (hv : v.getLsbD 0 = true) (ho : s.adcOn c = false) :
    (s.adcEnableNow c v).adc c = { s.adc c with
      settling := (s.adc c).settling || (s.getB (Fld.adcRefEn c) 0 && !(s.adc c).refReady) } := by
  simp only [State.adcEnableNow, hv, ho, Bool.not_false, Bool.and_self, if_true]
  split <;> simp

theorem State.adcEnableNow_adc_off (hv : v.getLsbD 0 = false) (ho : s.adcOn c = true) :
    (s.adcEnableNow c v).adc c = { (s.adc c).stopped with
      settling := false, refReady := false, calWaits := false
      calibrating := (s.adc c).calibrating || (s.adc c).calWaits } := by
  simp only [State.adcEnableNow, hv, ho, Bool.not_true, Bool.not_false, Bool.and_self, Bool.false_eq_true, if_true,
    if_false]
  split <;> simp [Adc.abandon_eq_stopped]

/-- The unit's enable, as a write of its trowel leaves it. -/
theorem State.adcOn_of_write {t : TrowelId} (h : Takes s t (Fld.adcEnable c)) (hi : u.identity = s.identity)
    (hs : u.sys = s.sys) (hf : u.getF (Fld.adcEnable c) = v &&& 1 &&& 1) : u.adcOn c = v.getLsbD 0 := by
  rw [State.adcOn, State.enabledAt, State.getB, hf, getLsbD_and_one, getLsbD_and_one, State.turnedOff_congr hi hs, h.on, hi,
    h.present]
  exact (Bool.and_true _).trans (Bool.and_true _)

/-- What a write of ENABLE does beside its converter (R191). -/
theorem adcEnableWrite_does {t : TrowelId} (h : Takes s t (Fld.adcEnable c)) (hp : ∀ p ∈ s.shadow, p.addr ≠ Fld.adcEnable c)
    {x : Adc} {on : Bool} (hv : v.getLsbD 0 = on) (hx : (s.adcEnableNow c (v &&& 1)).adc c = x) :
    Does (.adcEnableWrite t c v) s fun u =>
      u = { s with adcA := u.adcA, adcB := u.adcB, amb := u.amb, fields := u.fields, shadow := u.shadow
                   trowels := u.trowels } ∧ EventsOnly s u ∧ OtherAdcKept s u c ∧ u.adcOn c = on ∧
      FieldsKept s u [Fld.adcEnable c] ∧ u.adc c = x := by
  have now := (s.adcEnableNow_keeps c (v &&& 1)).applyStopped
  have keeps := (SenseKeeps.refl c [Fld.adcEnable c] s |>.setF (List.mem_singleton.mpr rfl)).trans
    (now.mono fun _ hm => absurd hm List.not_mem_nil)
  have bb : (s.adcEnableNow c (v &&& 1)).applyStopped.bb = s.bb := by simp
  have core : (s.adcEnableNow c (v &&& 1)).applyStopped.identity = s.identity ∧
    (s.adcEnableNow c (v &&& 1)).applyStopped.sys = s.sys := by simp
  have stored := (now.fields _ List.not_mem_nil hp).trans (s.getF_setF_self ..)
  refine ⟨_, exec_adcEnableWrite_taken h, ?_, keeps.events, keeps.other, ?_, keeps.fields,
    (State.adc_applyPending ..).trans hx⟩
  · have frame := keeps.frame
    rwa [bb] at frame
  · exact (State.adcOn_of_write h core.1 core.2 stored).trans hv

end

/-! ### References -/

section
variable {s : State} {c : Conv} {v : Word}

theorem State.unreference_keeps (s : State) (c : Conv) : SenseKeeps c [Fld.adcUnrefCount c] s (s.unreference c) := by
  have same := SenseKeeps.refl c [Fld.adcUnrefCount c] s
  unfold State.unreference
  split
  · exact .ite same (.raise (.count16 (.updAdc same) (List.mem_singleton.mpr rfl)))
  · exact same

/-- The running conversion, if there is one, leaves no result (R220). -/
theorem State.unreference_adc (s : State) (c : Conv) :
    (s.unreference c).adc c = { s.adc c with conv := (s.adc c).conv.map fun k => { k with unref := true } } := by
  unfold State.unreference
  split
  next k hk =>
    split
    next already => rw [hk, Option.map_some, ← already, ← hk]
    next => simp [hk]
  next hk => rw [hk, Option.map_none, ← hk]

theorem State.refEnNow_on (hv : v.getLsbD 0 = true) : s.refEnNow c v =
    (s.setF (Fld.adcRefEn c) (v &&& 1)).updAdc c fun x => { x with settling := !x.refReady } := by
  rw [State.refEnNow, if_pos hv]

theorem State.refEnNow_off (hv : v.getLsbD 0 = false) (hr : s.getB (Fld.adcRefEn c) 0 = true) : s.refEnNow c v =
    ((s.setF (Fld.adcRefEn c) (v &&& 1)).updAdc c fun x => { x with settling := false, refReady := false }).unreference c := by
  simp only [State.refEnNow, hv, hr]
  rfl

theorem refEnWrite_on {t : TrowelId} (h : Takes s t (Fld.adcRefEn c)) (hv : v.getLsbD 0 = true) :
    Does (.refEnWrite t c v) s fun u =>
      u = { s with adcA := u.adcA, adcB := u.adcB, fields := u.fields, shadow := u.shadow } ∧ OtherAdcKept s u c ∧
      FieldsKept s u [Fld.adcRefEn c] ∧ u.adc c = { s.adc c with settling := !(s.adc c).refReady } := by
  have write := exec_refEnWrite_taken (v := v) h
  change _ = Host.Outcome.next (s.refEnNow c (v &&& 1)).applyStopped at write
  rw [State.refEnNow_on ((getLsbD_and_one v).trans hv)] at write
  have keeps : SenseKeeps c [Fld.adcRefEn c] s _ := .applyStopped (.updAdc
    (f := fun x => { x with settling := !x.refReady })
    (.setF (.refl ..) (x := v &&& 1 &&& 1) (List.mem_singleton.mpr rfl)))
  refine ⟨_, write, ?_, keeps.other, keeps.fields, (State.adc_applyPending ..).trans ?_⟩
  · cases c <;> rfl
  · simp

theorem refEnWrite_off {t : TrowelId} (h : Takes s t (Fld.adcRefEn c)) (hv : v.getLsbD 0 = false)
    (hr : s.getB (Fld.adcRefEn c) 0 = true) : Does (.refEnWrite t c v) s fun u =>
      u = { s with adcA := u.adcA, adcB := u.adcB, fields := u.fields, shadow := u.shadow, trowels := u.trowels } ∧
      EventsOnly s u ∧ OtherAdcKept s u c ∧ FieldsKept s u [Fld.adcRefEn c, Fld.adcUnrefCount c] ∧
      u.adc c = { s.adc c with
        settling := false, refReady := false, conv := (s.adc c).conv.map fun k => { k with unref := true } } := by
  have write := exec_refEnWrite_taken (v := v) h
  change _ = Host.Outcome.next (s.refEnNow c (v &&& 1)).applyStopped at write
  rw [State.refEnNow_off ((getLsbD_and_one v).trans hv) hr] at write
  generalize hx : (s.setF (Fld.adcRefEn c) (v &&& 1 &&& 1)).updAdc c (fun x =>
    { x with settling := false, refReady := false }) = x at write
  have before : SenseKeeps c [Fld.adcRefEn c, Fld.adcUnrefCount c] s x := by
    rw [← hx]
    exact .updAdc (.setF (.refl ..) List.mem_cons_self)
  have keeps := (before.trans ((x.unreference_keeps c).mono fun _ => List.mem_cons_of_mem _)).applyStopped
  refine ⟨_, write, keeps.frame_of_amb ?_ ?_, keeps.events, keeps.other, keeps.fields,
    (State.adc_applyPending ..).trans ((x.unreference_adc c).trans ?_)⟩
  all_goals rw [← hx]; simp

/-- The settle time has passed (R192). -/
theorem refReady_does (hs : (s.adc c).settling = true) (hr : s.getB (Fld.adcRefEn c) 0 = true) :
    Does (.refReady c) s fun u => u = { s with adcA := u.adcA, adcB := u.adcB } ∧ OtherAdcKept s u c ∧
      u.adc c = { s.adc c with settling := false, refReady := true } := by
  have ready : exec (.refReady c) s = .next (s.updAdc c fun x => { x with settling := false, refReady := true }) :=
    congrArg Host.Outcome.next (if_pos (by rw [hs, hr]; rfl))
  refine ⟨_, ready, ?_, fun d hd => s.updAdc_of_ne hd _, s.updAdc_self c _⟩
  cases c <;> rfl

end

/-! ### Accumulators -/

section
variable {s : State} {c : Conv} {v : Word}

/-- The stored fields after a snapshot (R211). -/
theorem State.accSnapNow_getF (s : State) (c : Conv) (v : Word) :
    let a := (s.adc c).acc[(Fin.ofNat 16 v.toNat : Fin 16)]
    let u := s.accSnapNow c v
    u.getF (Fld.adcSnapSumLo c) = BitVec.ofInt 32 a.sum ∧
    u.getF (Fld.adcSnapSumHi c) = BitVec.ofNat 32 (a.sum / 2 ^ 32 % 256).toNat ∧
    u.getF (Fld.adcSnapCount c) = BitVec.ofNat 32 a.count ∧
    u.getF (Fld.adcSnapMin c) = signedBits 18 a.min ∧ u.getF (Fld.adcSnapMax c) = signedBits 18 a.max ∧
    u.getF (Fld.adcSnapFlags c) =
      BitVec.ofNat 32 ((if a.sat then 1 else 0) + (if a.out then 2 else 0) + (if a.count = 0 then 4 else 0)) := by
  simp only [State.accSnapNow, State.setN, apply_ite (State.getF ·), ite_apply, State.getF_updAdc, ite_self]
  simp [State.getF_setF, Fld.adcSnapSumLo, Fld.adcSnapSumHi, Fld.adcSnapCount, Fld.adcSnapMin, Fld.adcSnapMax,
    Fld.adcSnapFlags]

/-- The fields that a snapshot writes. -/
def snapFields (c : Conv) : List Nat :=
  [Fld.adcSnapSumLo c, Fld.adcSnapSumHi c, Fld.adcSnapCount c, Fld.adcSnapMin c, Fld.adcSnapMax c, Fld.adcSnapFlags c]

theorem State.accSnapNow_keeps (s : State) (c : Conv) (v : Word) : SenseKeeps c (snapFields c) s (s.accSnapNow c v) := by
  have copied {a b d e f g : Word} : SenseKeeps c (snapFields c) s ((((((s.setF (Fld.adcSnapSumLo c) a).setF
      (Fld.adcSnapSumHi c) b).setF (Fld.adcSnapCount c) d).setF (Fld.adcSnapMin c) e).setF (Fld.adcSnapMax c) f).setF
      (Fld.adcSnapFlags c) g) := by
    refine .setF (.setF (.setF (.setF (.setF (.setF (.refl ..) ?_) ?_) ?_) ?_) ?_) ?_ <;> simp [snapFields]
  exact .maybe copied fun h => .updAdc h

theorem State.accSnapNow_adc (s : State) (c : Conv) (v : Word) : (s.accSnapNow c v).adc c = { s.adc c with
    acc := if v.getLsbD 4 then (s.adc c).acc.set (Fin.ofNat 16 v.toNat : Fin 16).val emptyAccum else (s.adc c).acc } := by
  simp only [State.accSnapNow]
  split <;> simp [State.setN]

/-- A snapshot reads the bits of its own width. -/
theorem State.accSnapNow_cut (s : State) (c : Conv) (v : Word) : s.accSnapNow c (v &&& 31) = s.accSnapNow c v := by
  have index : (Fin.ofNat 16 (v &&& 31).toNat : Fin 16) = Fin.ofNat 16 v.toNat := by
    have low : v.toNat &&& 31 = v.toNat % 32 := Nat.and_two_pow_sub_one_eq_mod v.toNat 5
    have cut : (v.toNat &&& 31) % 16 = v.toNat % 16 := by omega
    exact Fin.ext ((congrArg (· % 16) (BitVec.toNat_and v 31)).trans cut)
  have clear : (v &&& 31).getLsbD 4 = v.getLsbD 4 := (BitVec.getLsbD_and ..).trans (Bool.and_true _)
  simp only [State.accSnapNow, index, clear]

/-- The flags of a snapshot, bit by bit. -/
theorem getLsbD_snapFlags (sat out zero : Bool) :
    let f : Word := BitVec.ofNat 32 ((if sat then 1 else 0) + (if out then 2 else 0) + (if zero then 4 else 0))
    f.getLsbD 0 = sat ∧ f.getLsbD 1 = out ∧ f.getLsbD 2 = zero := by
  cases sat <;> cases out <;> cases zero <;> decide

theorem accSnap_does {t : TrowelId} (h : Takes s t (Fld.adcAccSnap c)) (hs : s.shadow = []) :
    let j : Fin 16 := Fin.ofNat 16 v.toNat
    let a := (s.adc c).acc[j]
    Does (.accSnap t c v) s fun u =>
      u = { s with adcA := u.adcA, adcB := u.adcB, fields := u.fields } ∧ OtherAdcKept s u c ∧
      u.getF (Fld.adcSnapSumLo c) = BitVec.ofInt 32 a.sum ∧ u.getN (Fld.adcSnapSumHi c) = (a.sum / 2 ^ 32 % 256).toNat ∧
      u.getF (Fld.adcSnapCount c) = BitVec.ofNat 32 a.count ∧
      u.getF (Fld.adcSnapMin c) = BitVec.ofNat 32 (a.min % 2 ^ 18).toNat ∧
      u.getF (Fld.adcSnapMax c) = BitVec.ofNat 32 (a.max % 2 ^ 18).toNat ∧
      u.getB (Fld.adcSnapFlags c) 0 = a.sat ∧ u.getB (Fld.adcSnapFlags c) 1 = a.out ∧
      u.getB (Fld.adcSnapFlags c) 2 = decide (a.count = 0) ∧
      FieldsKept s u [Fld.adcSnapSumLo c, Fld.adcSnapSumHi c, Fld.adcSnapCount c, Fld.adcSnapMin c, Fld.adcSnapMax c,
        Fld.adcSnapFlags c] ∧
      u.adc c = { s.adc c with
        acc := if v.getLsbD 4 then (s.adc c).acc.set j.val emptyAccum else (s.adc c).acc } := by
  intro j a
  have write : exec (.accSnap t c v) s = .next (s.accSnapNow c (v &&& 31)).applyStopped := exec_accSnap_taken h
  rw [State.applyStopped_nil (by simp [hs]), State.accSnapNow_cut] at write
  have keeps := s.accSnapNow_keeps c v
  obtain ⟨lo, hi, count, least, most, flags⟩ := s.accSnapNow_getF c v
  have adc := s.accSnapNow_adc c v
  obtain ⟨amb, bb, shadow, trowels⟩ : (s.accSnapNow c v).amb = s.amb ∧ (s.accSnapNow c v).bb = s.bb ∧
    (s.accSnapNow c v).shadow = s.shadow ∧ (s.accSnapNow c v).trowels = s.trowels := by simp
  obtain ⟨sat, out, zero⟩ := getLsbD_snapFlags a.sat a.out (decide (a.count = 0))
  simp only [decide_eq_true_eq] at sat out zero
  have frame := keeps.frame
  rw [amb, bb, shadow, trowels] at frame
  refine ⟨_, write, frame, keeps.other, lo, ?_, count, least, most, ?_, ?_, ?_, keeps.fields, adc⟩
  · have small : (a.sum / 2 ^ 32 % 256).toNat < 2 ^ 32 := by omega
    rw [State.getN, hi, BitVec.toNat_ofNat, Nat.mod_eq_of_lt small]
  · rw [State.getB, flags]; exact sat
  · rw [State.getB, flags]; exact out
  · rw [State.getB, flags]; exact zero

theorem accClear_does {t : TrowelId} (h : Takes s t (Fld.adcAccClear c)) : Does (.accClear t c v) s fun u =>
    u = { s with adcA := u.adcA, adcB := u.adcB, fields := u.fields, shadow := u.shadow } ∧ OtherAdcKept s u c ∧
    FieldsKept s u [] ∧ u.adc c = { s.adc c with acc := (u.adc c).acc } ∧
    ∀ i : Fin 16, (u.adc c).acc[i] = if v.getLsbD i.val then emptyAccum else (s.adc c).acc[i] := by
  have write : exec (.accClear t c v) s = .next (s.accClearNow c (v &&& 65535)).applyStopped := exec_accClear_taken h
  have keeps : SenseKeeps c [] s (s.accClearNow c (v &&& 65535)).applyStopped := .applyStopped (.updAdc (.refl ..))
  have adc : (s.accClearNow c (v &&& 65535)).applyStopped.adc c = { s.adc c with
      acc := Vector.ofFn fun (j : Fin 16) => if (v &&& 65535).getLsbD j.val then emptyAccum else (s.adc c).acc[j] } :=
    (State.adc_applyPending ..).trans (s.updAdc_self ..)
  refine ⟨_, write, ?_, keeps.other, keeps.fields, ?_, fun i => ?_⟩
  · cases c <;> rfl
  · rw [adc]
  · have mask : (65535 : Word).getLsbD i.val = true := (by decide : ∀ i : Fin 16, (65535 : Word).getLsbD i.val = true) i
    have bit : (v &&& 65535).getLsbD i.val = v.getLsbD i.val := by rw [BitVec.getLsbD_and, mask, Bool.and_true]
    rw [adc, ← bit]
    exact Vector.getElem_ofFn ..

end

/-- Settles O26: each write by the equation of its unit, the fields and events beside it by `SenseKeeps`. -/
theorem converterWrites : Obligations.ConverterWrites := by
  unfold Obligations.ConverterWrites
  refine ⟨fun s t c v => ⟨fun h hp => ⟨fun hv ho => ?_, fun hv ho => ?_⟩,
    fun h => ⟨refEnWrite_on h, refEnWrite_off h⟩, refReady_does⟩, fun s t c v => ⟨accSnap_does, accClear_does⟩⟩
  · exact adcEnableWrite_does h hp hv (State.adcEnableNow_adc_on ((getLsbD_and_one v).trans hv) ho)
  · exact adcEnableWrite_does h hp hv (State.adcEnableNow_adc_off ((getLsbD_and_one v).trans hv) ho)

end Sys2Proof.Machine
end

section
/-! SUPPORT. The start of a conversion and of a work, and what a request does (R193, R199 to R204). -/

namespace Sys2Proof.Machine

/-! ### The sets of a sequence start -/

section
variable {s u : State} {c : Conv}

/-- Where no pending write is picked, none is applied. -/
theorem State.applyPending_none {sel : Pend → Bool} (h : ∀ p ∈ s.shadow, sel p = false) : s.applyPending sel = s := by
  have picked : s.shadow.filter sel = [] := List.filter_eq_nil_iff.mpr fun p hp => by simp [h p hp]
  have rest : s.shadow.filter (fun p => !sel p) = s.shadow := List.filter_eq_self.mpr fun p hp => by rw [h p hp]; rfl
  rw [State.applyPending, picked, rest]
  rfl

/-- The sets of a sequence start have nothing left to apply at the same instant. -/
theorem State.sequenceStart_again (hs : u.shadow = (s.sequenceStart c).shadow) (ht : u.time = s.time) :
    u.sequenceStart c = u := by
  refine State.applyPending_none fun p hp => ?_
  have due : u.due p = s.due p := by rw [State.due, State.unitCycle, ht]; rfl
  rw [hs] at hp
  have waits := (List.mem_filter.mp hp).2
  rw [due]
  exact Bool.not_eq_true' _ ▸ waits

/-! ### The start of a conversion -/

theorem SenseKeeps.beginConversion {l : List Nat} (h : SenseKeeps c l s u) (hl : Fld.adcUnrefCount c ∈ l) {src : Source}
    {e : Nat} : SenseKeeps c l s (u.beginConversion c src e) := by
  have started : SenseKeeps c l s (if (u.adc c).seqRuns then u else u.sequenceStart c) := .ite h h.sequenceStart
  unfold State.beginConversion
  exact .ite (.raise (.count16 started.updAdc hl)) started.updAdc

/-- A conversion without its reference is not performed (R193). -/
theorem State.beginConversion_adc (s : State) (c : Conv) (src : Source) (e : Nat) :
    (s.beginConversion c src e).adc c = { s.adc c with conv := some ⟨e, src, !(s.adc c).refReady⟩ } := by
  have started : (if (s.adc c).seqRuns then s else s.sequenceStart c).adc c = s.adc c := by
    split
    · rfl
    · exact s.adc_sequenceStart c c
  unfold State.beginConversion
  dsimp only
  rw [started]
  split <;> simp [started]

/-- Where the sets have applied, the start of a conversion changes the count of unreferenced ones alone. -/
theorem State.beginConversion_getF (hs : s.sequenceStart c = s) {src : Source} {e b : Nat} (hb : b ≠ Fld.adcUnrefCount c) :
    (s.beginConversion c src e).getF b = s.getF b := by
  unfold State.beginConversion
  rw [hs, ite_self]
  dsimp only
  split
  · rw [State.getF_raise, State.getF_count16_of_ne _ hb, State.getF_updAdc]
  · exact State.getF_updAdc ..

/-! ### The start of a work -/

/-- The entries of a source are read from the entry fields and the urgent entry. -/
theorem State.sourceEntries_congr (hu : u.getF (Fld.adcUrgEntry c) = s.getF (Fld.adcUrgEntry c))
    (he : ∀ e < 16, u.getF (Fld.adcEntry c e) = s.getF (Fld.adcEntry c e)) (src : Source) :
    u.sourceEntries c src = s.sourceEntries c src := by
  have entry {e : Nat} (h : e ∈ List.range 16) :
      u.entryMode c e = s.entryMode c e ∧ u.entryStart c e = s.entryStart c e := by
    have same : u.getN (Fld.adcEntry c e) = s.getN (Fld.adcEntry c e) := congrArg _ (he e (List.mem_range.mp h))
    unfold State.entryMode State.entryStart State.entryInput
    rw [same]
    exact ⟨rfl, rfl⟩
  unfold State.sourceEntries
  cases src with
  | urgent => exact congrArg (fun v : Word => [v.toNat % 16]) hu
  | strobe m => exact List.filter_congr fun e h => by rw [(entry h).1, (entry h).2]
  | dark => exact List.filter_congr fun e h => by rw [(entry h).1]
  | seq => exact List.filter_congr fun e h => by rw [(entry h).1]

theorem SenseKeeps.beginWork {l : List Nat} (h : SenseKeeps c l s u) (hl : Fld.adcUnrefCount c ∈ l) {src : Source} :
    SenseKeeps c l s (u.beginWork c src) := by
  have started : SenseKeeps c l s (if src = .seq ∨ (u.adc c).seqRuns = false then u.sequenceStart c else u) :=
    .ite h.sequenceStart h
  simp only [State.beginWork]
  split
  · exact .maybe started fun h => .raise h
  · exact .beginConversion (.maybe started.updAdc fun h => .parts h) hl

/-- Only a dark burst starts the estimator's burst anew (R213). -/
theorem State.beginWork_amb (s : State) (c : Conv) {src : Source} (h : src ≠ .dark) :
    (s.beginWork c src).amb = s.amb := by
  simp only [State.beginWork, if_neg h]
  split <;> simp

/-- A work that begins on a converter without one: the sets apply, then its first entry converts (R199, R200, R202). -/
theorem State.beginWork_first (hw : (s.adc c).work = []) {src : Source} {e : Nat} {r : List Nat}
    (h : (s.sequenceStart c).sourceEntries c src = e :: r) :
    (s.beginWork c src).adc c =
      { s.adc c with conv := some ⟨e, src, !(s.adc c).refReady⟩, work := [⟨src, r⟩] } ∧
    (∀ b ≠ Fld.adcUnrefCount c, (s.beginWork c src).getF b = (s.sequenceStart c).getF b) ∧
    (src = .dark → (s.beginWork c src).amb.burst = [] ∧ (s.beginWork c src).amb.burstUnref = false) := by
  have none_runs : src = .seq ∨ (s.adc c).seqRuns = false := .inr (by rw [Adc.seqRuns, hw]; rfl)
  simp only [State.beginWork, if_pos none_runs, h]
  generalize hx : (s.sequenceStart c).updAdc c (fun x => { x with work := ⟨src, r⟩ :: x.work }) = x
  generalize hy : (if src = .dark then ({ x with amb := { x.amb with burst := [], burstUnref := false } } : State) else x) = y
  have adc : y.adc c = { s.adc c with work := [⟨src, r⟩] } := by
    have kept : y.adc c = x.adc c := State.adc_congr (by rw [← hy]; simp) (by rw [← hy]; simp) c
    rw [kept, ← hx, State.updAdc_self, State.adc_sequenceStart, hw]
  have fields : y.fields = (s.sequenceStart c).fields := by rw [← hy, ← hx]; simp
  have shadow : y.shadow = (s.sequenceStart c).shadow := by rw [← hy, ← hx]; simp
  have time : y.time = s.time := by rw [← hy, ← hx]; simp
  refine ⟨?_, fun b hb => ?_, fun dark => ?_⟩
  · rw [State.beginConversion_adc, adc]
  · rw [State.beginConversion_getF (State.sequenceStart_again shadow time) hb, State.getF, fields]
    rfl
  · have amb : (y.beginConversion c src e).amb = y.amb := by simp
    rw [amb, ← hy, if_pos dark]
    exact ⟨rfl, rfl⟩

theorem State.beginWork_none (hw : (s.adc c).work = []) {src : Source} (h : (s.sequenceStart c).sourceEntries c src = []) :
    s.beginWork c src = if src = .seq then (s.sequenceStart c).seqDone c else s.sequenceStart c := by
  have none_runs : src = .seq ∨ (s.adc c).seqRuns = false := .inr (by rw [Adc.seqRuns, hw]; rfl)
  simp only [State.beginWork, if_pos none_runs, h]

/-- The entries that a work has run through are those of its source when it began (R200). -/
theorem State.beginWork_sourceEntries (hw : (s.adc c).work = []) (src : Source) :
    (s.beginWork c src).sourceEntries c src = (s.sequenceStart c).sourceEntries c src := by
  cases h : (s.sequenceStart c).sourceEntries c src with
  | nil =>
    have fields : (s.beginWork c src).fields = (s.sequenceStart c).fields := by
      rw [State.beginWork_none hw h]; simp
    rw [← h]
    refine State.sourceEntries_congr ?_ (fun _ _ => ?_) src
    all_goals rw [State.getF, fields]; rfl
  | cons e r =>
    obtain ⟨-, fields, -⟩ := State.beginWork_first hw h
    rw [← h]
    refine State.sourceEntries_congr (fields _ ?_) (fun i hi => fields _ ?_) src
    all_goals simp only [Fld.adcUrgEntry, Fld.adcEntry, Fld.adcUnrefCount, ne_eq]; omega

/-- What a work that has begun has in hand, by the entries that its source has now. -/
theorem State.beginWork_runs (hw : (s.adc c).work = []) {src : Source} {e : Nat} {r : List Nat}
    (h : (s.beginWork c src).sourceEntries c src = e :: r) :
    (s.beginWork c src).adc c =
      { s.adc c with conv := some ⟨e, src, !(s.adc c).refReady⟩, work := [⟨src, r⟩] } ∧
    (src = .dark → (s.beginWork c src).amb.burst = [] ∧ (s.beginWork c src).amb.burstUnref = false) := by
  obtain ⟨adc, -, amb⟩ := State.beginWork_first hw ((State.beginWork_sourceEntries hw src).symm.trans h)
  exact ⟨adc, amb⟩

/-! ### Requests -/

section
variable {src : Source} {lost : State → State}

/-- A second request of a source that waits is lost (R202). -/
theorem State.request_lost (h : (s.adc c).isPend src = true) : s.request c src lost = lost s := if_pos h

section
variable (hp : (s.adc c).isPend src = false)
include hp

/-- An idle converter starts at once (R202). -/
theorem State.request_idle (hc : (s.adc c).conv = none) (hw : (s.adc c).work = []) :
    s.request c src lost = s.beginWork c src := by
  rw [State.request, if_neg (Bool.eq_false_iff.mp hp), if_pos ⟨by rw [hc]; rfl, hw⟩]

/-- A request that preempts nothing waits on a busy converter (R202, R204). -/
theorem State.request_waits (hb : (s.adc c).conv.isSome = true ∨ (s.adc c).work ≠ [])
    (hn : src = .seq ∨ s.preemptible c = none) : s.request c src lost = s.updAdc c (·.setPend src) := by
  have busy : ¬ ((s.adc c).conv.isNone = true ∧ (s.adc c).work = []) := fun ⟨conv, work⟩ =>
    hb.elim (fun h => by rw [Option.isNone_iff_eq_none.mp conv] at h; exact absurd h nofun) (· work)
  rw [State.request, if_neg (Bool.eq_false_iff.mp hp), if_neg busy]
  split
  next e he => rw [if_pos (hn.resolve_right (by rw [he]; nofun))]
  next => rfl

end

theorem SenseKeeps.request {l : List Nat} (h : SenseKeeps c l s u) (hu : Fld.adcUnrefCount c ∈ l)
    (hp : Fld.adcPreemptCount c ∈ l) (hl : SenseKeeps c l s u → SenseKeeps c l s (lost u)) :
    SenseKeeps c l s (u.request c src lost) := by
  unfold State.request
  refine .ite (hl h) (.ite (.beginWork h hu) ?_)
  split
  · exact .ite h.updAdc (.beginWork (.updAdc (.count16 h hp)) hu)
  · exact h.updAdc

/-- A conversion of no sequence is not preempted (R204). -/
theorem State.preemptible_none {k : Conversion} (hk : (s.adc c).conv = some k) (hs : k.src ≠ .seq) :
    s.preemptible c = none := by
  rw [State.preemptible, hk]
  exact if_neg fun h => hs h.1

end

end

end Sys2Proof.Machine
end

section
/-! SUPPORT. SEQ_GO, START and CAL_GO (R195, R196, R199, R202, R203). -/

namespace Sys2Proof.Machine

section
variable {s u : State} {c : Conv}

/-! ### When a converter is served -/

/-- Outside the test state a converter takes requests only with its clock running and before it is stopped for sleep (R83,
R221). -/
theorem State.adcTakes_clocked (h : s.adcTakes c = true) (hp : s.phase ≠ .test) :
    s.clocked = true ∧ s.adcStops = false ∧ s.adcOn c = true := by
  rw [State.adcTakes, Bool.and_eq_true] at h
  obtain ⟨on, phase⟩ := h
  refine ⟨?_, ?_, on⟩
  all_goals cases hph : s.phase <;> simp_all [State.clocked, State.adcStops]

theorem State.phase_ne_test_of_awake (h : s.trowelsAwake = true) : s.phase ≠ .test := fun e => by
  rw [State.trowelsAwake, e] at h
  exact absurd h nofun

theorem State.phase_ne_test_of_pinsAct (h : s.pinsAct = true) : s.phase ≠ .test := fun e => by
  rw [State.pinsAct, e] at h
  exact absurd ((Bool.and_eq_true ..).mp h).2 nofun

/-- Outside the test state a calibrating converter that would take requests calibrates on (R195, R196). -/
theorem State.calibratesNow_of_takes (h : s.adcTakes c = true) (hp : s.phase ≠ .test) :
    s.calibratesNow c = (s.adc c).calibrating := by
  obtain ⟨clocked, stops, -⟩ := State.adcTakes_clocked h hp
  rw [State.calibratesNow, clocked, stops]
  simp

/-! ### Sequence requests -/

/-- A start that meets a calibration or a sequence under way is counted as ignored (R196, R202). -/
theorem State.sequenceRequest_ignored (ht : s.adcTakes c = true ∨ s.calibratesNow c = true) (hp : s.phase ≠ .test)
    (h : (s.adc c).calibrating = true ∨ (s.adc c).seqRuns = true ∨ (s.adc c).seqPend = true) :
    s.sequenceRequest c = (s.count16 (Fld.adcStartIgnCount c)).raise 1 25 := by
  rw [State.sequenceRequest]
  by_cases calibrates : s.calibratesNow c = true
  · rw [if_pos calibrates]
  · have takes := ht.resolve_right calibrates
    have still := State.calibratesNow_of_takes takes hp
    have under_way : ((s.adc c).seqRuns || (s.adc c).seqPend) = true :=
      (Bool.or_eq_true ..).mpr (h.resolve_left fun e => calibrates (still.trans e))
    rw [if_neg calibrates, takes, if_pos under_way]
    rfl

section
variable (ht : s.adcTakes c = true ∨ s.calibratesNow c = true) (hc : (s.adc c).calibrating = false)
  (hr : (s.adc c).seqRuns = false) (hs : (s.adc c).seqPend = false)
include hc

theorem State.calibratesNow_still : s.calibratesNow c = false := by rw [State.calibratesNow, hc]; rfl

include ht

theorem State.adcTakes_still : s.adcTakes c = true :=
  ht.resolve_right (by rw [State.calibratesNow_still hc]; nofun)

include hr hs

theorem State.sequenceRequest_eq : s.sequenceRequest c = s.request c .seq id := by
  have free : ((s.adc c).seqRuns || (s.adc c).seqPend) = false := by rw [hr, hs]; rfl
  rw [State.sequenceRequest, State.calibratesNow_still hc, State.adcTakes_still ht hc, free]
  rfl

/-- A start on a busy converter waits (R202, R203). -/
theorem State.sequenceRequest_waits (hb : (s.adc c).conv.isSome = true ∨ (s.adc c).work ≠ []) :
    s.sequenceRequest c = s.updAdc c (·.setPend .seq) := by
  rw [State.sequenceRequest_eq ht hc hr hs]
  exact State.request_waits hs hb (.inl rfl)

/-- A start on an idle converter begins the sequence (R199, R202). -/
theorem State.sequenceRequest_begins (hv : (s.adc c).conv = none) (hw : (s.adc c).work = []) :
    s.sequenceRequest c = s.beginWork c .seq := by
  rw [State.sequenceRequest_eq ht hc hr hs]
  exact State.request_idle hs hv hw

end

theorem State.sequenceRequest_keeps (s : State) (c : Conv) :
    SenseKeeps c [Fld.adcStartIgnCount c, Fld.adcUnrefCount c, Fld.adcPreemptCount c] s (s.sequenceRequest c) := by
  have same := SenseKeeps.refl c [Fld.adcStartIgnCount c, Fld.adcUnrefCount c, Fld.adcPreemptCount c] s
  have ignored := (same.count16 List.mem_cons_self).raise (t := 1) (n := 25)
  unfold State.sequenceRequest
  exact .ite ignored (.ite same (.ite ignored (.request same (by simp) (by simp) fun h => h)))

/-! ### The pending writes that a stopped unit releases -/

/-- No pending write is of a field without an apply set (R122). -/
theorem State.shadowWf_ne (h : s.shadowWf = true) {a : Nat} (ha : setOf a = none) : ∀ p ∈ s.shadow, p.addr ≠ a :=
  fun p hp e => by
    have set := of_decide_eq_true (List.all_eq_true.mp h p hp)
    rw [e, ha] at set
    exact absurd set nofun

/-- The entries of a converter belong to its unit. -/
theorem State.runsAt_entry (s : State) (c : Conv) :
    (∀ e < 16, s.runsAt (Fld.adcEntry c e) = s.adcOn c) ∧ s.runsAt (Fld.adcUrgEntry c) = s.adcOn c := by
  cases c
  · refine ⟨fun e he => ?_, rfl⟩
    have unit : unitOf (Fld.adcEntry .a e) = .adcA := (by decide : ∀ e < 16, unitOf (Fld.adcEntry .a e) = .adcA) e he
    simp only [State.runsAt, enableAddr, unit]
    rfl
  · refine ⟨fun e he => ?_, rfl⟩
    have unit : unitOf (Fld.adcEntry .b e) = .adcB := (by decide : ∀ e < 16, unitOf (Fld.adcEntry .b e) = .adcB) e he
    simp only [State.runsAt, enableAddr, unit]
    rfl

/-- A running converter keeps its entries while stopped units take their pending writes. -/
theorem State.applyStopped_sourceEntries (h : s.adcOn c = true) (src : Source) :
    s.applyStopped.sourceEntries c src = s.sourceEntries c src := by
  obtain ⟨entry, urgent⟩ := s.runsAt_entry c
  have kept {b : Nat} (hb : s.runsAt b = s.adcOn c) : s.applyStopped.getF b = s.getF b :=
    State.getF_applyPending fun p _ stopped e => by
      rw [e, hb, h] at stopped
      exact absurd stopped nofun
  exact State.sourceEntries_congr (kept urgent) (fun e he => kept (entry e he)) src

/-- A converter stays enabled where its enable field has no pending write. -/
theorem SenseKeeps.adcOn {l : List Nat} (h : SenseKeeps c l s u) (hl : Fld.adcEnable c ∉ l) (hw : s.shadowWf = true) :
    u.adcOn c = s.adcOn c := by
  have noset : setOf (Fld.adcEnable c) = none := by cases c <;> decide
  have stored := h.fields _ hl (State.shadowWf_ne hw noset)
  rw [h.frame] at stored ⊢
  exact State.enabledAt_congr rfl rfl stored

/-! ### What a start does -/

/-- The number of SEQ_DONE_x (Table TW.8). -/
def seqDoneEvent : Conv → Nat
  | .a => 16
  | .b => 17

theorem seqDoneEvent_lt (c : Conv) : seqDoneEvent c < 64 := by cases c <;> decide

/-- What a start on converter `c` in `s` has done in `u` (R196, R199, R202, R203). -/
def SequenceStarts (s : State) (c : Conv) (u : State) : Prop :=
  let x := s.adc c
  (x.calibrating = true ∨ x.seqRuns = true ∨ x.seqPend = true →
    u = { s with fields := u.fields, shadow := u.shadow, trowels := u.trowels } ∧ Raised s u 1 25 ∧
    FieldsKept s u [Fld.adcStartIgnCount c] ∧
    ((∀ p ∈ s.shadow, p.addr ≠ Fld.adcStartIgnCount c) →
      u.getN (Fld.adcStartIgnCount c) = min 65535 (s.getN (Fld.adcStartIgnCount c) + 1))) ∧
  (x.calibrating = false → x.seqRuns = false → x.seqPend = false →
    u = { s with adcA := u.adcA, adcB := u.adcB, fields := u.fields, shadow := u.shadow, trowels := u.trowels } ∧
    EventsOnly s u ∧ OtherAdcKept s u c ∧
    (x.conv.isSome = true ∨ x.work ≠ [] → u.adc c = { x with seqPend := true }) ∧
    (x.conv = none → x.work = [] →
      (∀ (e : Nat) (r : List Nat), u.sourceEntries c .seq = e :: r →
        u.adc c = { x with conv := some ⟨e, .seq, !x.refReady⟩, work := [⟨.seq, r⟩] }) ∧
      (u.sourceEntries c .seq = [] → u.adc c = x ∧ Raised s u 1 (seqDoneEvent c))))

/-- A state that differs from the one after the start by pending writes that took effect. -/
structure AfterRelease (c : Conv) (v u : State) : Prop where
  keeps : SenseKeeps c [] v u
  adc : u.adc c = v.adc c
  amb : u.amb = v.amb
  bb : u.bb = v.bb

theorem AfterRelease.refl (c : Conv) (v : State) : AfterRelease c v v := ⟨.refl .., rfl, rfl, rfl⟩

theorem AfterRelease.applyStopped (c : Conv) (v : State) : AfterRelease c v v.applyStopped :=
  ⟨.applyStopped (.refl ..), State.adc_applyPending .., rfl, rfl⟩

section
variable (ht : s.adcTakes c = true ∨ s.calibratesNow c = true) (ha : AfterRelease c (s.sequenceRequest c) u)
include ht ha

theorem sequenceRequest_counts (hp : s.phase ≠ .test)
    (h : (s.adc c).calibrating = true ∨ (s.adc c).seqRuns = true ∨ (s.adc c).seqPend = true) :
    u = { s with fields := u.fields, shadow := u.shadow, trowels := u.trowels } ∧ Raised s u 1 25 ∧
    FieldsKept s u [Fld.adcStartIgnCount c] ∧
    ((∀ p ∈ s.shadow, p.addr ≠ Fld.adcStartIgnCount c) →
      u.getN (Fld.adcStartIgnCount c) = min 65535 (s.getN (Fld.adcStartIgnCount c) + 1)) := by
  rw [State.sequenceRequest_ignored ht hp h] at ha
  obtain ⟨keeps, adc, amb, bb⟩ := ha
  have counted : SenseKeeps c [Fld.adcStartIgnCount c] s (s.count16 (Fld.adcStartIgnCount c)) :=
    .count16 (.refl ..) (List.mem_singleton.mpr rfl)
  have released := keeps.mono (l' := [Fld.adcStartIgnCount c]) nofun
  have all := counted.raise.trans released
  refine ⟨all.frame_of_adc ?_ ?_ ?_, counted.raised (by decide) released, all.fields, fun hn => ?_⟩
  · rw [adc]; simp
  · rw [amb]; simp
  · rw [bb]; simp
  · have count := keeps.fields (Fld.adcStartIgnCount c) List.not_mem_nil (by simpa using hn)
    rw [State.getN, count, State.getF_raise]
    exact s.getN_count16_self _

section
variable (hc : (s.adc c).calibrating = false) (hr : (s.adc c).seqRuns = false) (hs : (s.adc c).seqPend = false)
include hc hr hs

theorem sequenceRequest_waits (hb : (s.adc c).conv.isSome = true ∨ (s.adc c).work ≠ []) :
    SenseKeeps c [Fld.adcUnrefCount c] s u ∧ u.amb = s.amb ∧ u.bb = s.bb ∧
    u.adc c = { s.adc c with seqPend := true } := by
  rw [State.sequenceRequest_waits ht hc hr hs hb] at ha
  obtain ⟨keeps, adc, amb, bb⟩ := ha
  refine ⟨(SenseKeeps.refl .. |>.updAdc).trans (keeps.mono nofun), amb.trans ?_, bb.trans ?_, adc.trans (s.updAdc_self ..)⟩
  all_goals simp

theorem sequenceRequest_begins (hv : (s.adc c).conv = none) (hw : (s.adc c).work = [])
    (he : u.sourceEntries c .seq = (s.sequenceRequest c).sourceEntries c .seq) :
    SenseKeeps c [Fld.adcUnrefCount c] s u ∧ u.amb = s.amb ∧ u.bb = s.bb ∧
    (∀ (e : Nat) (r : List Nat), u.sourceEntries c .seq = e :: r →
      u.adc c = { s.adc c with conv := some ⟨e, .seq, !(s.adc c).refReady⟩, work := [⟨.seq, r⟩] }) ∧
    (u.sourceEntries c .seq = [] → u.adc c = s.adc c ∧ Raised s u 1 (seqDoneEvent c)) := by
  rw [State.sequenceRequest_begins ht hc hr hs hv hw] at ha he
  obtain ⟨keeps, adc, amb, bb⟩ := ha
  have begun : SenseKeeps c [Fld.adcUnrefCount c] s (s.beginWork c .seq) :=
    .beginWork (.refl ..) (List.mem_singleton.mpr rfl)
  refine ⟨begun.trans (keeps.mono nofun), amb.trans ?_, bb.trans ?_, fun e r h => ?_, fun h => ?_⟩
  · exact s.beginWork_amb c nofun
  · simp
  · exact adc.trans (State.beginWork_runs hw (he.symm.trans h)).1
  · rw [he, State.beginWork_sourceEntries hw] at h
    have done := State.beginWork_none hw h
    rw [if_pos rfl] at done
    rw [done] at adc keeps
    have applied : SenseKeeps c [Fld.adcUnrefCount c] s (s.sequenceStart c) := .sequenceStart (.refl ..)
    refine ⟨adc.trans ?_, applied.raised (seqDoneEvent_lt c) (keeps.mono nofun)⟩
    exact (State.adc_raise ..).trans (s.adc_sequenceStart ..)

end
end

/-- All that a start does, once the pending writes of stopped units have taken effect. -/
theorem sequenceRequest_starts (ht : s.adcTakes c = true ∨ s.calibratesNow c = true) (hp : s.phase ≠ .test)
    (ha : AfterRelease c (s.sequenceRequest c) u)
    (he : s.adcOn c = true → u.sourceEntries c .seq = (s.sequenceRequest c).sourceEntries c .seq) :
    SequenceStarts s c u := by
  refine ⟨sequenceRequest_counts ht ha hp, fun hc hr hs => ?_⟩
  have on : s.adcOn c = true := (State.adcTakes_clocked (State.adcTakes_still ht hc) hp).2.2
  by_cases hb : (s.adc c).conv.isSome = true ∨ (s.adc c).work ≠ []
  · obtain ⟨keeps, amb, bb, adc⟩ := sequenceRequest_waits ht ha hc hr hs hb
    refine ⟨keeps.frame_of_amb amb bb, keeps.events, keeps.other, fun _ => adc, fun hv hw => ?_⟩
    exact absurd hb (by rw [hv, hw]; nofun)
  · have hv : (s.adc c).conv = none := by simpa using fun h => hb (.inl h)
    have hw : (s.adc c).work = [] := by simpa using fun h => hb (.inr h)
    obtain ⟨keeps, amb, bb, first, none_⟩ := sequenceRequest_begins ht ha hc hr hs hv hw (he on)
    exact ⟨keeps.frame_of_amb amb bb, keeps.events, keeps.other, fun h => absurd h hb, fun _ _ => ⟨first, none_⟩⟩

/-! ### The commands -/

theorem startEdge_starts (ht : s.adcTakes c = true ∨ s.calibratesNow c = true) (ha : s.pinsAct = true) :
    Does (.startEdge c) s (SequenceStarts s c) :=
  ⟨s.sequenceRequest c, congrArg Host.Outcome.next (if_pos ha),
    sequenceRequest_starts ht (State.phase_ne_test_of_pinsAct ha) (.refl ..) fun _ => rfl⟩

theorem seqGo_starts {t : TrowelId} (ht : s.adcTakes c = true ∨ s.calibratesNow c = true) (h : Takes s t (Fld.adcSeqGo c))
    (hw : s.shadowWf = true) : Does (.seqGo t c 1) s (SequenceStarts s c) := by
  have write : exec (.seqGo t c 1) s = .next (s.sequenceRequest c).applyStopped := exec_seqGo_taken h
  refine ⟨_, write, sequenceRequest_starts ht (State.phase_ne_test_of_awake h.awake) (.applyStopped ..) fun on => ?_⟩
  have kept := (s.sequenceRequest_keeps c).adcOn (by cases c <;> decide) hw
  exact State.applyStopped_sourceEntries (kept.trans on) _

theorem State.beginCalibration_keeps (s : State) (c : Conv) :
    SenseKeeps c [Fld.adcSeqAbortCount c] s (s.beginCalibration c) := by
  unfold State.beginCalibration
  exact .updAdc (.maybe (.refl ..) (.count16 · (List.mem_singleton.mpr rfl)))

section
variable {t : TrowelId} (h : Takes s t (Fld.adcCalGo c)) (hc : (s.adc c).calibrating = false)
  (ht : s.adcTakes c = true ∨ s.calibratesNow c = true)
include h hc ht

theorem exec_calGo : exec (.calGo t c 1) s = .next (if (s.adc c).conv.isSome then
    s.updAdc c fun x => { x with calWaits := true } else s.beginCalibration c).applyStopped := by
  have on := (State.adcTakes_clocked (State.adcTakes_still ht hc) (State.phase_ne_test_of_awake h.awake)).2.2
  have there : s.turnedOff (Fld.adcEnable c) = false := by
    rw [State.adcOn, State.enabledAt, Bool.and_eq_true, Bool.and_eq_true] at on
    obtain ⟨⟨-, there⟩, -⟩ := on
    exact Bool.not_eq_true' _ ▸ there
  have goes : ¬ (!(1 &&& 1 : Word).getLsbD 0 || (s.adc c).calibrating || s.turnedOff (Fld.adcEnable c)) = true := by
    rw [hc, there]; decide
  have write : exec (.calGo t c 1) s = .next (s.calGoNow c (1 &&& 1)).applyStopped := exec_calGo_taken h
  rw [write, State.calGoNow, if_neg goes]

/-- A calibration that meets a running conversion waits for its end (R196). -/
theorem calGo_waits (hv : (s.adc c).conv.isSome = true) : Does (.calGo t c 1) s fun u =>
    u = { s with adcA := u.adcA, adcB := u.adcB, fields := u.fields, shadow := u.shadow } ∧ OtherAdcKept s u c ∧
    FieldsKept s u [] ∧ u.adc c = { s.adc c with calWaits := true } := by
  have write := exec_calGo h hc ht
  rw [if_pos hv] at write
  have keeps : SenseKeeps c [] s (s.updAdc c fun x => { x with calWaits := true }).applyStopped :=
    .applyStopped (.updAdc (.refl ..))
  refine ⟨_, write, ?_, keeps.other, keeps.fields, (State.adc_applyPending ..).trans (s.updAdc_self ..)⟩
  cases c <;> rfl

/-- On a converter without one it begins, and abandons the work in progress (R196). -/
theorem calGo_begins (hv : (s.adc c).conv = none) : Does (.calGo t c 1) s fun u =>
    u = { s with adcA := u.adcA, adcB := u.adcB, fields := u.fields, shadow := u.shadow } ∧ OtherAdcKept s u c ∧
    FieldsKept s u [Fld.adcSeqAbortCount c] ∧
    u.adc c = { (s.adc c).stopped with calibrating := true, calWaits := false } := by
  have write := exec_calGo h hc ht
  rw [if_neg (by rw [hv]; nofun)] at write
  have keeps := (s.beginCalibration_keeps c).applyStopped
  have frame := keeps.frame_of_amb (by simp) (by simp)
  have trowels : (s.beginCalibration c).applyStopped.trowels = s.trowels := by simp
  rw [trowels] at frame
  refine ⟨_, write, frame, keeps.other, keeps.fields, (State.adc_applyPending ..).trans ?_⟩
  rw [State.beginCalibration, State.updAdc_self]
  split <;> simp [Adc.abandon_eq_stopped]

end

end

/-- Settles O27: a start by what `State.sequenceRequest` comes to in each case, a calibration by its equation. -/
theorem sequencesAndCalibration : Obligations.SequencesAndCalibration := by
  unfold Obligations.SequencesAndCalibration
  exact fun s t c ht => ⟨seqGo_starts ht, fun ha _ => startEdge_starts ht ha,
    fun h hc => ⟨calGo_waits h hc ht, calGo_begins h hc ht⟩⟩

end Sys2Proof.Machine
end

section
/-! SUPPORT. Requests of the pins and of the light matrix (R159, R164, R196, R201 to R206). -/

namespace Sys2Proof.Machine

/-- A converter with nothing in hand and no request above a sequence's. -/
def Adc.AtRest (x : Adc) : Prop :=
  x.calibrating = false ∧ x.conv = none ∧ x.work = [] ∧ x.urgPend = false ∧ x.strobePend = 0 ∧ x.darkPend = false

theorem Adc.AtRest.isPend {x : Adc} (h : x.AtRest) {src : Source} (hs : src ≠ .seq) : x.isPend src = false := by
  obtain ⟨-, -, -, urgent, strobe, dark⟩ := h
  cases src with
  | urgent => exact urgent
  | strobe m => rw [Adc.isPend, strobe]; exact BitVec.getLsbD_zero
  | dark => exact dark
  | seq => exact absurd rfl hs

section
variable {s u : State} {c : Conv}

/-! ### URG -/

theorem exec_urgEdge (ht : s.adcTakes c = true) (hp : s.pinsAct = true) : exec (.urgEdge c) s = .next (
    if (s.adc c).calibrating then s.count16 (Fld.adcUrgIgnCount c)
    else if !s.getB (Fld.adcUrgEntry c) 4 then s.count16 (Fld.adcUrgIgnCount c)
    else s.request c .urgent fun s => s.count16 (Fld.adcReqLostCount c)) := by
  change execUrgEdge c s = _
  rw [execUrgEdge, hp, ht, State.calibratesNow_of_takes ht (State.phase_ne_test_of_pinsAct hp)]
  rfl

section
variable (ht : s.adcTakes c = true) (hp : s.pinsAct = true)
include ht hp

/-- An urgent edge without an entry, or that meets a calibration, is counted as ignored (R196, R202). -/
theorem urgEdge_ignored (h : s.getB (Fld.adcUrgEntry c) 4 = false ∨ (s.adc c).calibrating = true) :
    Does (.urgEdge c) s fun u => u = { s with fields := u.fields } ∧
      u.getN (Fld.adcUrgIgnCount c) = min 65535 (s.getN (Fld.adcUrgIgnCount c) + 1) := by
  have edge := exec_urgEdge ht hp
  have counted : (if (s.adc c).calibrating then s.count16 (Fld.adcUrgIgnCount c)
      else if !s.getB (Fld.adcUrgEntry c) 4 then s.count16 (Fld.adcUrgIgnCount c)
      else s.request c .urgent fun s => s.count16 (Fld.adcReqLostCount c)) = s.count16 (Fld.adcUrgIgnCount c) := by
    rcases h with h | h
    · rw [h]; exact ite_self _
    · rw [if_pos h]
  rw [counted] at edge
  exact ⟨_, edge, rfl, s.getN_count16_self _⟩

section
variable (hb : s.getB (Fld.adcUrgEntry c) 4 = true)
include hb

theorem exec_urgEdge_requests (hc : (s.adc c).calibrating = false) :
    exec (.urgEdge c) s = .next (s.request c .urgent fun s => s.count16 (Fld.adcReqLostCount c)) := by
  rw [exec_urgEdge ht hp, hc, hb]
  rfl

/-- On a converter at rest the urgent entry converts at once (R202). -/
theorem urgEdge_begins (hi : (s.adc c).AtRest) : Does (.urgEdge c) s fun u => (EventsOnly s u ∧
    u = { s with adcA := u.adcA, adcB := u.adcB, amb := u.amb, fields := u.fields, shadow := u.shadow
                 trowels := u.trowels, bb := u.bb }) ∧ OtherAdcKept s u c ∧
    u.adc c = { s.adc c with
      conv := some ⟨u.getN (Fld.adcUrgEntry c) % 16, .urgent, !(s.adc c).refReady⟩, work := [⟨.urgent, []⟩] } := by
  have free := hi.isPend (src := .urgent) nofun
  obtain ⟨calm, conv, work, -⟩ := hi
  have edge := exec_urgEdge_requests ht hp hb calm
  rw [State.request_idle free conv work] at edge
  have keeps : SenseKeeps c [Fld.adcUnrefCount c] s (s.beginWork c .urgent) :=
    .beginWork (.refl ..) (List.mem_singleton.mpr rfl)
  exact ⟨_, edge, ⟨keeps.events, keeps.frame⟩, keeps.other, (State.beginWork_runs work rfl).1⟩

/-- A second urgent edge is lost (R202). -/
theorem urgEdge_lost (hc : (s.adc c).calibrating = false) (hu : (s.adc c).urgPend = true) :
    Does (.urgEdge c) s fun u => u = { s with fields := u.fields } ∧
      u.getN (Fld.adcReqLostCount c) = min 65535 (s.getN (Fld.adcReqLostCount c) + 1) := by
  have edge := exec_urgEdge_requests ht hp hb hc
  rw [State.request_lost (src := .urgent) hu] at edge
  exact ⟨_, edge, rfl, s.getN_count16_self _⟩

/-- An urgent edge waits for a conversion that it does not preempt (R202, R204). -/
theorem urgEdge_waits (hc : (s.adc c).calibrating = false) (hu : (s.adc c).urgPend = false) (k : Conversion)
    (hk : (s.adc c).conv = some k) (hs : k.src ≠ .seq) : Does (.urgEdge c) s fun u => (EventsOnly s u ∧
    u = { s with adcA := u.adcA, adcB := u.adcB, amb := u.amb, fields := u.fields, shadow := u.shadow
                 trowels := u.trowels, bb := u.bb }) ∧ OtherAdcKept s u c ∧ u.adc c = { s.adc c with urgPend := true } := by
  have edge := exec_urgEdge_requests ht hp hb hc
  rw [State.request_waits (src := .urgent) hu (.inl (by rw [hk]; rfl)) (.inr (State.preemptible_none hk hs))] at edge
  have keeps : SenseKeeps c [] s (s.updAdc c (·.setPend .urgent)) := .updAdc (.refl ..)
  exact ⟨_, edge, ⟨keeps.events, keeps.frame⟩, keeps.other, s.updAdc_self ..⟩

end
end

/-! ### The starts of the light matrix -/

theorem State.calibratesNow_congr (ha : u.adc c = s.adc c) (hp : u.phase = s.phase) (ht : u.time = s.time)
    (hs : u.sys = s.sys) : u.calibratesNow c = s.calibratesNow c := by
  rw [State.calibratesNow, State.calibratesNow, State.clocked, State.clocked, State.adcStops, State.adcStops, ha, hp, ht, hs]

/-- The start of `slot` has arrived at ADC-A, and beside it only ADC-A, the estimator, stored fields, pending writes,
event bits and the black box have changed. -/
def StartTaken (s : State) (slot : Option (Fin 4)) (u : State) : Prop :=
  EventsOnly s u ∧
  u = { s with adcA := u.adcA, amb := u.amb, fields := u.fields, shadow := u.shadow, trowels := u.trowels, bb := u.bb
               light := { s.light with issued := s.light.issued.eraseP (s.startDue slot) } }

theorem SenseKeeps.took {l : List Nat} {slot : Option (Fin 4)} (h : SenseKeeps .a l (s.takeStart slot) u) :
    StartTaken s slot u := by
  have other : u.adcB = s.adcB := h.other .b nofun
  have frame := h.frame
  rw [other] at frame
  exact ⟨h.events, frame⟩

theorem SenseKeeps.countAge {l : List Nat} (h : SenseKeeps c l s u) (hl : Fld.ambStaleCount ∈ l) {m : Fin 4} :
    SenseKeeps c l s (u.countAge m) := by
  simp only [State.countAge, State.goStale, State.raiseEst]
  exact .maybe h fun h => .ite (.ite h.parts (.bbEvent (.count16 (.raise (.raise h.parts)) hl))) h.parts

theorem State.countAge_getF (s : State) (m : Fin 4) {b : Nat} (hb : b ≠ Fld.ambStaleCount) :
    (s.countAge m).getF b = s.getF b := by
  have stale (x : State) : x.goStale.getF b = x.getF b := by
    refine (State.getF_count16_of_ne _ hb).trans ?_
    rw [State.raiseEst, State.getF_raise, State.getF_raise]
    rfl
  simp only [State.countAge]
  split
  · split
    · split
      · rfl
      · exact stale _
    · rfl
  · rfl

theorem State.countAge_stopped (h : s.amb.running = false) (m : Fin 4) : s.countAge m = s := by
  rw [State.countAge, h]
  rfl

section
variable {src : Source}

/-- A start that meets a calibration is lost (R196). -/
theorem State.lightRequest_lost (h : s.calibratesNow .a = true) :
    s.lightRequest src = s.count16 (Fld.adcReqLostCount .a) := if_pos h

/-- A start to which no entry is bound does nothing (R202). -/
theorem State.lightRequest_none (hc : s.calibratesNow .a = false) (h : s.sourceEntries .a src = []) :
    s.lightRequest src = s := by
  rw [State.lightRequest, hc, h]
  simp

/-- A start on a converter at rest begins its burst (R202). -/
theorem State.lightRequest_begins (ht : s.adcTakes .a = true) (hi : (s.adc .a).AtRest) (hs : src ≠ .seq)
    (h : s.sourceEntries .a src ≠ []) : s.lightRequest src = s.beginWork .a src := by
  have free := hi.isPend hs
  obtain ⟨calm, conv, work, -⟩ := hi
  have bound : (!s.adcTakes .a || (s.sourceEntries .a src).isEmpty) = false := by
    rw [ht, List.isEmpty_eq_false_iff.mpr h]; rfl
  have visible : s.lightRequest src = s.request .a src fun s => s.count16 (Fld.adcReqLostCount .a) := by
    rw [State.lightRequest, State.calibratesNow_still calm, bound]
    rfl
  rw [visible, State.request_idle free conv work]

end

/-! ### STROBE_START and DARK_REQUEST -/

section
variable {m : Fin 4}

/-- A strobe-locked start that has arrived raises its event (R206). -/
def State.strobeTaken (s : State) (m : Fin 4) : State := (s.takeStart (some m)).raise 1 32

theorem State.strobeTaken_adc (s : State) (m : Fin 4) (c : Conv) : (s.strobeTaken m).adc c = s.adc c :=
  (State.adc_raise ..).trans (State.adc_congr rfl rfl c)

theorem exec_strobeStart (hd : s.light.issued.any (s.startDue (some m)) = true)
    (ht : s.adcTakes .a = true ∨ s.calibratesNow .a = true) :
    exec (.strobeStart m) s = .next (((s.strobeTaken m).countAge m).lightRequest (.strobe m)) := by
  have served : (s.adcTakes .a || s.calibratesNow .a) = true := (Bool.or_eq_true ..).mpr ht
  change execStrobeStart m s = _
  rw [execStrobeStart, hd, served]
  rfl

theorem exec_strobeStart_unsent (hd : ¬ s.light.issued.any (s.startDue (some m)) = true) :
    exec (.strobeStart m) s = .next s :=
  congrArg Host.Outcome.next (if_pos (by rw [Bool.eq_false_iff.mpr hd]; rfl))

/-- The event stays raised whatever the start brings about (R206). -/
theorem SenseKeeps.strobeRaised {l : List Nat} (h : SenseKeeps .a l (s.strobeTaken m) u) : Raised s u 1 32 :=
  Raised.of_eq (a := s.takeStart (some m)) rfl rfl (SenseKeeps.raised (by decide) (.refl ..) h)

/-- A start that meets a calibration is lost (R196). -/
theorem strobeStart_lost (hd : s.light.issued.any (s.startDue (some m)) = true) (hc : s.calibratesNow .a = true) :
    Does (.strobeStart m) s fun u => StartTaken s (some m) u ∧
      u.adcA = s.adcA ∧ (s.boot.started = true → Raised s u 1 32) ∧
      u.getN (Fld.adcReqLostCount .a) = min 65535 (s.getN (Fld.adcReqLostCount .a) + 1) := by
  have start := exec_strobeStart hd (.inr hc)
  generalize hx : (s.strobeTaken m).countAge m = x at start
  have adc (c : Conv) : x.adc c = s.adc c := by
    rw [← hx, ← s.strobeTaken_adc m c]
    exact State.adc_congr (by simp) (by simp) c
  obtain ⟨phase, time, sys⟩ : x.phase = s.phase ∧ x.time = s.time ∧ x.sys = s.sys := by
    rw [← hx]
    simp [State.strobeTaken]
  have calibrates : x.calibratesNow .a = true := by
    rw [State.calibratesNow_congr (adc .a) phase time sys, hc]
  have count : x.getN (Fld.adcReqLostCount .a) = s.getN (Fld.adcReqLostCount .a) := by
    rw [State.getN, ← hx, State.countAge_getF _ _ (by decide), State.strobeTaken, State.getF_raise]
    rfl
  rw [State.lightRequest_lost calibrates] at start
  have counted : SenseKeeps .a [Fld.ambStaleCount, Fld.adcReqLostCount .a] (s.strobeTaken m)
      (x.count16 (Fld.adcReqLostCount .a)) := by
    rw [← hx]
    exact .count16 (.countAge (.refl ..) List.mem_cons_self) (by decide)
  have all : SenseKeeps .a [Fld.ambStaleCount, Fld.adcReqLostCount .a] (s.takeStart (some m)) _ :=
    (SenseKeeps.refl .. |>.raise).trans counted
  refine ⟨_, start, all.took, (State.adc_count16 ..).trans (adc .a), fun _ => counted.strobeRaised, ?_⟩
  rw [State.getN_count16_self, count]

/-- A start on a converter at rest begins its burst (R202, R206). -/
theorem strobeStart_begins (hd : s.light.issued.any (s.startDue (some m)) = true) (ht : s.adcTakes .a = true)
    (hi : (s.adc .a).AtRest) (hr : s.amb.running = false) (hn : s.sourceEntries .a (.strobe m) ≠ []) :
    Does (.strobeStart m) s fun u => StartTaken s (some m) u ∧
      (s.boot.started = true → Raised s u 1 32) ∧
      ∀ (e : Nat) (r : List Nat), u.sourceEntries .a (.strobe m) = e :: r →
        u.adcA = { s.adcA with conv := some ⟨e, .strobe m, !s.adcA.refReady⟩, work := [⟨.strobe m, r⟩] } := by
  have start := exec_strobeStart hd (.inl ht)
  have parts : s.strobeTaken m = { s.takeStart (some m) with trowels := (s.strobeTaken m).trowels } := State.raise_eq ..
  have adc := s.strobeTaken_adc m .a
  have served : (s.strobeTaken m).adcTakes .a = true ∧ (s.strobeTaken m).amb.running = false ∧
      (s.strobeTaken m).sourceEntries .a (.strobe m) ≠ [] := by
    rw [parts]
    exact ⟨ht, hr, hn⟩
  obtain ⟨takes, stopped, bound⟩ := served
  rw [← adc] at hi
  rw [State.countAge_stopped stopped, State.lightRequest_begins (src := .strobe m) takes hi nofun bound] at start
  obtain ⟨-, -, work, -⟩ := hi
  have begun : SenseKeeps .a [Fld.adcUnrefCount .a] (s.strobeTaken m) ((s.strobeTaken m).beginWork .a (.strobe m)) :=
    .beginWork (.refl ..) (List.mem_singleton.mpr rfl)
  have all : SenseKeeps .a [Fld.adcUnrefCount .a] (s.takeStart (some m)) _ := (SenseKeeps.refl .. |>.raise).trans begun
  refine ⟨_, start, all.took, fun _ => begun.strobeRaised, fun e r h => ?_⟩
  have runs := (State.beginWork_runs work h).1
  rw [adc] at runs
  exact runs

/-! #### Dark starts -/

theorem exec_darkRequest (hd : s.light.issued.any (s.startDue none) = true) :
    exec .darkRequest s = .next ((s.takeStart none).lightRequest .dark) :=
  congrArg Host.Outcome.next (if_pos hd)

theorem exec_darkRequest_unsent (hd : ¬ s.light.issued.any (s.startDue none) = true) : exec .darkRequest s = .next s :=
  congrArg Host.Outcome.next (if_neg hd)

/-- A dark start that meets a calibration is lost (R196). -/
theorem darkRequest_lost (hd : s.light.issued.any (s.startDue none) = true) (hc : s.calibratesNow .a = true) :
    Does .darkRequest s fun u => StartTaken s none u ∧
      u.adcA = s.adcA ∧ u.getN (Fld.adcReqLostCount .a) = min 65535 (s.getN (Fld.adcReqLostCount .a) + 1) := by
  have start := exec_darkRequest hd
  rw [State.lightRequest_lost (s := s.takeStart none) hc] at start
  exact ⟨_, start, ⟨fun _ => rfl, rfl⟩, rfl, (s.takeStart none).getN_count16_self _⟩

/-- Without a dark entry only the start is gone (R202). -/
theorem darkRequest_none (hd : s.light.issued.any (s.startDue none) = true) (hc : s.calibratesNow .a = false)
    (hn : s.sourceEntries .a .dark = []) : Does .darkRequest s fun u =>
      u = { s with light := { s.light with issued := s.light.issued.eraseP (s.startDue none) } } := by
  have start := exec_darkRequest hd
  rw [State.lightRequest_none (s := s.takeStart none) (src := .dark) hc hn] at start
  exact ⟨_, start, rfl⟩

/-- On a converter at rest the dark burst begins (R202, R213). -/
theorem darkRequest_begins (hd : s.light.issued.any (s.startDue none) = true) (ht : s.adcTakes .a = true)
    (hi : (s.adc .a).AtRest) (hn : s.sourceEntries .a .dark ≠ []) : Does .darkRequest s fun u => StartTaken s none u ∧
      ∀ (e : Nat) (r : List Nat), u.sourceEntries .a .dark = e :: r → u.amb.burst = [] ∧ u.amb.burstUnref = false ∧
        u.adcA = { s.adcA with conv := some ⟨e, .dark, !s.adcA.refReady⟩, work := [⟨.dark, r⟩] } := by
  have start := exec_darkRequest hd
  rw [State.lightRequest_begins (s := s.takeStart none) (src := .dark) ht hi nofun hn] at start
  obtain ⟨-, -, work, -⟩ := hi
  have begun : SenseKeeps .a [Fld.adcUnrefCount .a] (s.takeStart none) ((s.takeStart none).beginWork .a .dark) :=
    .beginWork (.refl ..) (List.mem_singleton.mpr rfl)
  refine ⟨_, start, begun.took, fun e r h => ?_⟩
  obtain ⟨adc, amb⟩ := State.beginWork_runs (s := s.takeStart none) (c := .a) work h
  obtain ⟨burst, unref⟩ := amb rfl
  exact ⟨burst, unref, adc⟩

end

end

end Sys2Proof.Machine
end

section
/-! SUPPORT. The end of a conversion: its result, and what the converter does next (R193, R203, R206 to R210, R222). -/

namespace Sys2Proof.Machine

section
variable {s u : State} {c : Conv}

/-! ### Accumulators -/

/-- Accumulator `a` with the value `v` added, and with its tracker at `out` (R209, R210). -/
def Accum.add (a : Accum) (v : Int) (out : Bool) : Accum :=
  { a with
    sum := a.sum + v, count := a.count + 1
    min := if a.count = 0 then v else Min.min a.min v
    max := if a.count = 0 then v else Max.max a.max v
    out := out }

/-- The value `v` takes accumulator `a` beyond its bounds (R209). -/
def Accum.exceeds (a : Accum) (v : Int) : Prop := 2 ^ 24 - 1 ≤ a.count ∨ a.sum + v < -(2 ^ 39) ∨ 2 ^ 39 - 1 < a.sum + v

theorem State.accumulate_stopped {j : Fin 16} (h : (s.adc c).acc[j].sat = true) (v : Int) : s.accumulate c j v = s :=
  if_pos h

/-- A value beyond the bounds stops the accumulator (R209). -/
theorem State.accumulate_exceeds {j : Fin 16} {v : Int} (h : (s.adc c).acc[j].sat = false)
    (he : (s.adc c).acc[j].exceeds v) : s.accumulate c j v =
      (s.updAdc c fun x => { x with acc := x.acc.set j.val { (s.adc c).acc[j] with sat := true } }).raise 1 26 := by
  unfold Accum.exceeds at he
  unfold State.accumulate
  dsimp only
  rw [if_neg (Bool.eq_false_iff.mp h), if_pos he]

/-- A value within the bounds is added (R209, R210). -/
theorem State.accumulate_adds {j : Fin 16} {v : Int} (h : (s.adc c).acc[j].sat = false)
    (he : ¬ (s.adc c).acc[j].exceeds v) : ∃ out, (s.accumulate c j v).adc c =
      { s.adc c with acc := (s.adc c).acc.set j.val ((s.adc c).acc[j].add v out) } := by
  unfold Accum.exceeds at he
  unfold State.accumulate
  dsimp only
  rw [if_neg (Bool.eq_false_iff.mp h), if_neg he, apply_ite (State.adc · c), State.adc_raise, ite_self]
  exact ⟨_, s.updAdc_self ..⟩

theorem SenseKeeps.accumulate {l : List Nat} (h : SenseKeeps c l s u) {j : Fin 16} {v : Int} :
    SenseKeeps c l s (u.accumulate c j v) := by
  simp only [State.accumulate]
  exact .ite h (.ite (.raise h.updAdc) (.ite (.raise h.updAdc) h.updAdc))

/-- A value changes its accumulator alone. -/
theorem State.accumulate_sets (s : State) (c : Conv) (j : Fin 16) (v : Int) : ∃ a,
    (s.accumulate c j v).adc c = { s.adc c with acc := (s.adc c).acc.set j.val a } := by
  by_cases h : (s.adc c).acc[j].sat = true
  · refine ⟨(s.adc c).acc[j.val], ?_⟩
    rw [State.accumulate_stopped h, Vector.set_getElem_self]
  · have open_ := Bool.eq_false_iff.mpr h
    by_cases he : (s.adc c).acc[j].exceeds v
    · rw [State.accumulate_exceeds open_ he, State.adc_raise, State.updAdc_self]
      exact ⟨_, rfl⟩
    · obtain ⟨out, adc⟩ := State.accumulate_adds open_ he
      exact ⟨_, adc⟩

/-! ### The result of a conversion -/

/-- The accumulator of an entry (Table AS.3). -/
def State.accOf (s : State) (c : Conv) (k : Conversion) : Fin 16 := Fin.ofNat 16 (s.entryAcc c k.entry)

/-- The corrected value of a conversion (R208). -/
def State.valueOf (s : State) (c : Conv) (k : Conversion) (raw : Nat) : Int :=
  s.correct c k.entry raw (s.entrySub c k.entry)

/-- What the accumulators make of a result: a standby's hold the mirrored state (R222). -/
def State.accumulated (s : State) (c : Conv) (k : Conversion) (raw : Nat) : State :=
  if !s.asStandby then s.accumulate c (s.accOf c k) (s.valueOf c k raw) else s

theorem SenseKeeps.accumulated (s : State) (c : Conv) (k : Conversion) (raw : Nat) :
    SenseKeeps c [] s (s.accumulated c k raw) := .maybe (.refl ..) fun h => h.accumulate

/-- The estimator notes the results of a dark burst (R213). -/
def State.burstNoted (s : State) (c : Conv) (k : Conversion) (raw : Nat) : State :=
  let x := s.accumulated c k raw
  if k.src = .dark then
    { x with amb := { x.amb with burst := x.amb.burst ++ [(s.entrySlot c k.entry, s.correct c k.entry raw false)] } }
  else x

/-- A result goes to the accumulators, then to the estimator, and raises the temperature events (R207 to R213). -/
theorem State.takeResult_eq (s : State) (c : Conv) (k : Conversion) (raw : Nat) :
    let x := if c = .b ∧ s.entryInput c k.entry = 16 then (s.burstNoted c k raw).raise 1 34 else s.burstNoted c k raw
    s.takeResult c k raw = if c = .b ∧ s.getB (Fld.adcBoardEntry .b) 4 = true ∧
      s.getN (Fld.adcBoardEntry .b) % 16 = k.entry then x.raise 1 35 else x := rfl

theorem State.burstNoted_keeps (s : State) (c : Conv) (k : Conversion) (raw : Nat) :
    SenseKeeps c [] (s.accumulated c k raw) (s.burstNoted c k raw) := .maybe (.refl ..) fun h => .parts h

theorem State.takeResult_keeps (s : State) (c : Conv) (k : Conversion) (raw : Nat) :
    SenseKeeps c [] (s.burstNoted c k raw) (s.takeResult c k raw) := by
  rw [State.takeResult_eq]
  exact .maybe (.maybe (.refl ..) fun h => .raise h) fun h => .raise h

theorem State.takeResult_adc (s : State) (c : Conv) (k : Conversion) (raw : Nat) :
    (s.takeResult c k raw).adc c = (s.accumulated c k raw).adc c := by
  have noted : (s.burstNoted c k raw).adc c = (s.accumulated c k raw).adc c :=
    State.adc_congr (by simp [State.burstNoted]) (by simp [State.burstNoted]) c
  rw [State.takeResult_eq, ← noted]
  exact State.adc_congr (by simp) (by simp) c

/-- The temperature sensor of ADC-B raises its event (R212). -/
theorem State.takeResult_sensor (s : State) {c : Conv} (k : Conversion) (raw : Nat)
    (h : c = .b ∧ s.entryInput c k.entry = 16) : SenseKeeps c [] ((s.burstNoted c k raw).raise 1 34) (s.takeResult c k raw) := by
  rw [State.takeResult_eq, if_pos h]
  exact .maybe (.refl ..) fun h => .raise h

/-! ### The end of a conversion -/

/-- The number of URG_DONE_x (Table TW.8). -/
def urgDoneEvent : Conv → Nat
  | .a => 18
  | .b => 19

theorem urgDoneEvent_lt (c : Conv) : urgDoneEvent c < 64 := by cases c <;> decide

/-- The state once the running conversion has left its result, or none where it is unreferenced (R193). -/
def State.resulted (s : State) (c : Conv) (k : Conversion) (raw : Nat) : State :=
  if k.unref then
    (if k.src = .dark then { s with amb := { s.amb with burstUnref := true } } else s)
  else s.takeResult c k raw

/-- The state once the conversion has ended, before the converter goes on (R206). -/
def State.converted (s : State) (c : Conv) (k : Conversion) (raw : Nat) : State :=
  let x := (s.resulted c k raw).updAdc c fun a => { a with conv := none }
  if k.src = .urgent then x.raise 1 (urgDoneEvent c) else x

theorem State.resulted_keeps (s : State) (c : Conv) (k : Conversion) (raw : Nat) :
    SenseKeeps c [] s (s.resulted c k raw) :=
  .ite (.maybe (.refl ..) fun h => .parts h)
    ((SenseKeeps.accumulated s c k raw).trans ((s.burstNoted_keeps c k raw).trans (s.takeResult_keeps c k raw)))

theorem State.converted_keeps (s : State) (c : Conv) (k : Conversion) (raw : Nat) :
    SenseKeeps c [] (s.resulted c k raw) (s.converted c k raw) :=
  .maybe (.updAdc (.refl ..)) fun h => .raise h

theorem State.converted_raises (s : State) (c : Conv) {k : Conversion} (raw : Nat) (h : k.src = .urgent) :
    Raised s (s.converted c k raw) 1 (urgDoneEvent c) := by
  rw [State.converted, if_pos h]
  exact SenseKeeps.raised (urgDoneEvent_lt c) (s.resulted_keeps c k raw).updAdc (.refl ..)

theorem State.converted_fields (s : State) (c : Conv) (k : Conversion) (raw : Nat) :
    (s.converted c k raw).fields = s.fields ∧ (s.converted c k raw).shadow = s.shadow := by
  simp [State.converted, State.resulted]

/-- Of its converter a result changes the accumulators alone. -/
theorem State.resulted_adc (s : State) (c : Conv) (k : Conversion) (raw : Nat) :
    (s.resulted c k raw).adc c = { s.adc c with acc := ((s.resulted c k raw).adc c).acc } := by
  have accumulated : (s.accumulated c k raw).adc c = { s.adc c with acc := ((s.accumulated c k raw).adc c).acc } := by
    unfold State.accumulated
    split
    · obtain ⟨a, adc⟩ := s.accumulate_sets c (s.accOf c k) (s.valueOf c k raw)
      rw [adc]
    · rfl
  unfold State.resulted
  split
  · split
    · exact State.adc_congr rfl rfl c
    · rfl
  · rw [State.takeResult_adc]
    exact accumulated

theorem State.converted_adc (s : State) (c : Conv) (k : Conversion) (raw : Nat) : (s.converted c k raw).adc c =
    { s.adc c with conv := none, acc := ((s.resulted c k raw).adc c).acc } := by
  have ended : (s.converted c k raw).adc c = { (s.resulted c k raw).adc c with conv := none } := by
    rw [State.converted]
    dsimp only
    rw [apply_ite (State.adc · c), State.adc_raise, ite_self, State.updAdc_self]
  rw [ended, State.resulted_adc]

/-! ### What the converter does next -/

/-- At rest between conversions, with no work and no request, it stays so (R203). -/
theorem State.nextConversion_rests (hw : (s.adc c).work = []) (hp : (s.adc c).pendingAbove 5 = none) (n : Nat) :
    State.nextConversion c n s = s := by
  cases n with
  | zero => rfl
  | succ n => rw [State.nextConversion, hw, hp]

/-- The work in progress goes on where no request lies above it (R203). -/
theorem State.nextConversion_goes {w : Work} {r : List Work} {e : Nat} {left : List Nat} (hw : (s.adc c).work = w :: r)
    (hl : w.left = e :: left) (hp : (s.adc c).pendingAbove w.src.prio = none) (n : Nat) :
    State.nextConversion c (n + 1) s =
      (s.updAdc c fun x => { x with work := ⟨w.src, left⟩ :: r }).beginConversion c w.src e := by
  rw [State.nextConversion, hw]
  dsimp only
  rw [hl]
  dsimp only
  rw [hp]

section
variable {k : Conversion} {raw : Nat} (hp : s.phase = .running) (hk : (s.adc c).conv = some k)
  (hc : (s.adc c).calWaits = false)
include hp hk hc

/-- In a running engine the converter goes on after a conversion that ends no work. -/
theorem exec_conversionEnd (hw : ∀ w r, (s.adc c).work = w :: r → w.left ≠ []) :
    exec (.conversionEnd c raw) s = .next (State.nextConversion c 24 (s.converted c k raw)) := by
  have adc := s.converted_adc c k raw
  have works : (s.converted c k raw).workEnd c = s.converted c k raw := by
    unfold State.workEnd
    split
    next src r h =>
      rw [adc] at h
      exact absurd rfl (hw _ _ h)
    next => rfl
  have waits : ((s.converted c k raw).adc c).calWaits = false := by rw [adc, hc]
  have stops : ((s.resulted c k raw).updAdc c fun x => { x with conv := none }).adcStops = false := by
    have phase : ((s.resulted c k raw).updAdc c fun x => { x with conv := none }).phase = .running := by
      rw [← hp]
      simp [State.resulted]
    rw [State.adcStops, phase]
    rfl
  have ends : s.conversionEnd c raw = State.nextConversion c 24 (s.converted c k raw) := by
    unfold State.conversionEnd
    rw [hk]
    change (if ((s.resulted c k raw).updAdc c fun x => { x with conv := none }).adcStops then _ else
      if (((s.converted c k raw).workEnd c).adc c).calWaits then _ else
        State.nextConversion c 24 ((s.converted c k raw).workEnd c)) = _
    rw [stops, works, waits]
    rfl
  have phase : (s.conversionEnd c raw).phase = .running := by simp [hp]
  change Host.Outcome.next (s.conversionEnd c raw).sleepProceed = _
  rw [State.sleepProceed_running phase, ends]

/-- The next entry of the work in progress converts (R203). -/
theorem conversionEnd_goes {e : Nat} {left : List Nat} {r : List Work} (hw : (s.adc c).work = ⟨k.src, e :: left⟩ :: r)
    (hn : (s.adc c).pendingAbove k.src.prio = none) : Does (.conversionEnd c raw) s fun u =>
      OtherAdcKept s u c ∧ EventsOnly s u ∧ (u.adc c).conv = some ⟨e, k.src, !(s.adc c).refReady⟩ ∧
      (u.adc c).work = ⟨k.src, left⟩ :: r := by
  have ends := exec_conversionEnd (raw := raw) hp hk hc fun w x h => by
    rw [hw] at h
    obtain ⟨rfl, rfl⟩ := List.cons.inj h
    nofun
  have adc := s.converted_adc c k raw
  have before := ((s.resulted_keeps c k raw).trans (s.converted_keeps c k raw)).mono (l' := [Fld.adcUnrefCount c]) nofun
  have work : ((s.converted c k raw).adc c).work = ⟨k.src, e :: left⟩ :: r := by rw [adc, hw]
  have above : ((s.converted c k raw).adc c).pendingAbove k.src.prio = none := by rw [adc]; exact hn
  rw [State.nextConversion_goes work rfl above] at ends
  have keeps := before.updAdc (f := fun x => { x with work := ⟨k.src, left⟩ :: r }) |>.beginConversion
    (List.mem_singleton.mpr rfl) (src := k.src) (e := e)
  refine ⟨_, ends, keeps.other, keeps.events, ?_, ?_⟩
  · rw [State.beginConversion_adc, State.updAdc_self, adc]
  · rw [State.beginConversion_adc, State.updAdc_self]

section
variable (hw : (s.adc c).work = []) (hn : (s.adc c).pendingAbove 5 = none)
include hw hn

theorem exec_conversionEnd_rests : exec (.conversionEnd c raw) s = .next (s.converted c k raw) := by
  have adc := s.converted_adc c k raw
  have ends := exec_conversionEnd (raw := raw) hp hk hc fun w r h => by
    rw [hw] at h
    exact absurd h nofun
  rwa [State.nextConversion_rests (by rw [adc, hw]) (by rw [adc]; exact hn)] at ends

/-- An unreferenced conversion leaves no result (R193). -/
theorem conversionEnd_unreferenced (hu : k.unref = true) (hd : k.src ≠ .dark) : Does (.conversionEnd c raw) s fun u =>
    u = { s with adcA := u.adcA, adcB := u.adcB, trowels := u.trowels } ∧ OtherAdcKept s u c ∧ EventsOnly s u ∧
    u.adc c = { s.adc c with conv := none } ∧ (k.src = .urgent → Raised s u 1 (urgDoneEvent c)) := by
  have ends := exec_conversionEnd_rests (raw := raw) hp hk hc hw hn
  have none_ : s.resulted c k raw = s := by rw [State.resulted, if_pos hu, if_neg hd]
  have keeps := s.converted_keeps c k raw
  have adc := s.converted_adc c k raw
  have raises := s.converted_raises c (k := k) raw
  obtain ⟨fields, shadow⟩ := s.converted_fields c k raw
  obtain ⟨amb, bb⟩ : (s.converted c k raw).amb = s.amb ∧ (s.converted c k raw).bb = s.bb := by
    simp [State.converted, none_]
  have frame := keeps.frame
  rw [none_, fields, shadow, amb, bb] at frame
  rw [none_] at keeps adc
  exact ⟨_, ends, frame, keeps.other, keeps.events, adc, raises⟩

/-- It makes the dark burst it belongs to give no estimate (R213). -/
theorem conversionEnd_dark (hu : k.unref = true) (hd : k.src = .dark) : Does (.conversionEnd c raw) s fun u =>
    u = { s with adcA := u.adcA, adcB := u.adcB, amb := { s.amb with burstUnref := true } } ∧ OtherAdcKept s u c ∧
    u.adc c = { s.adc c with conv := none } := by
  have ends := exec_conversionEnd_rests (raw := raw) hp hk hc hw hn
  have keeps := (s.resulted_keeps c k raw).trans (s.converted_keeps c k raw)
  have ended : s.converted c k raw =
      State.updAdc { s with amb := { s.amb with burstUnref := true } } c fun a => { a with conv := none } := by
    rw [State.converted, State.resulted, if_pos hu, if_pos hd, hd]
    rfl
  rw [ended] at ends keeps
  refine ⟨_, ends, ?_, keeps.other, ?_⟩
  · cases c <;> rfl
  · cases c <;> rfl

/-- A standby and a stopped accumulator take no result (R209, R222). -/
theorem conversionEnd_kept (hu : k.unref = false) (h : s.asStandby = true ∨ (s.adc c).acc[s.accOf c k].sat = true) :
    Does (.conversionEnd c raw) s fun u =>
      OtherAdcKept s u c ∧ EventsOnly s u ∧ (u.adc c).conv = none ∧ (u.adc c).acc = (s.adc c).acc := by
  have ends := exec_conversionEnd_rests (raw := raw) hp hk hc hw hn
  have keeps := (s.resulted_keeps c k raw).trans (s.converted_keeps c k raw)
  have adc := s.converted_adc c k raw
  have kept : s.accumulated c k raw = s := by
    unfold State.accumulated
    rcases h with h | h
    · rw [h]; rfl
    · rw [State.accumulate_stopped h, ite_self]
  have acc : ((s.resulted c k raw).adc c).acc = (s.adc c).acc := by
    rw [State.resulted, if_neg (Bool.eq_false_iff.mp hu), State.takeResult_adc, kept]
  refine ⟨_, ends, keeps.other, keeps.events, ?_, ?_⟩
  · rw [adc]
  · rw [adc, acc]

/-- A referenced result goes to its entry's accumulator (R207 to R212). -/
theorem conversionEnd_adds (hu : k.unref = false) (ha : s.asStandby = false)
    (hs : (s.adc c).acc[s.accOf c k].sat = false) :
    let a := (s.adc c).acc[s.accOf c k]
    let val := s.valueOf c k raw
    Does (.conversionEnd c raw) s fun u =>
      u = { s with adcA := u.adcA, adcB := u.adcB, amb := u.amb, trowels := u.trowels, bb := u.bb } ∧
      OtherAdcKept s u c ∧ EventsOnly s u ∧ (u.adc c).conv = none ∧ (u.adc c).work = [] ∧
      (∀ i : Fin 16, i ≠ s.accOf c k → (u.adc c).acc[i] = (s.adc c).acc[i]) ∧
      (a.count + 1 < 2 ^ 24 → -(2 ^ 39) ≤ a.sum + val → a.sum + val ≤ 2 ^ 39 - 1 →
        ((u.adc c).acc[s.accOf c k]).sum = a.sum + val ∧ ((u.adc c).acc[s.accOf c k]).count = a.count + 1 ∧
        ((u.adc c).acc[s.accOf c k]).sat = false ∧
        ((u.adc c).acc[s.accOf c k]).min = (if a.count = 0 then val else min a.min val) ∧
        ((u.adc c).acc[s.accOf c k]).max = (if a.count = 0 then val else max a.max val)) ∧
      (2 ^ 24 ≤ a.count + 1 ∨ a.sum + val < -(2 ^ 39) ∨ 2 ^ 39 - 1 < a.sum + val →
        (u.adc c).acc[s.accOf c k] = { a with sat := true } ∧ Raised s u 1 26) ∧
      (c = .b → s.entryInput .b k.entry = 16 → Raised s u 1 34) := by
  intro a val
  have ends := exec_conversionEnd_rests (raw := raw) hp hk hc hw hn
  have after := s.converted_keeps c k raw
  have keeps := (s.resulted_keeps c k raw).trans after
  have adc := s.converted_adc c k raw
  obtain ⟨fields, shadow⟩ := s.converted_fields c k raw
  have result : s.resulted c k raw = s.takeResult c k raw := if_neg (Bool.eq_false_iff.mp hu)
  have accumulated : s.accumulated c k raw = s.accumulate c (s.accOf c k) val := by rw [State.accumulated, ha]; rfl
  rw [result] at after adc
  rw [State.takeResult_adc, accumulated] at adc
  have noted := (s.burstNoted_keeps c k raw).trans ((s.takeResult_keeps c k raw).trans after)
  rw [accumulated] at noted
  refine ⟨_, ends, keeps.frame_of_fields fields shadow, keeps.other, keeps.events, ?_, ?_, fun i hi => ?_,
    fun hcount hlo hhi => ?_, fun he => ?_, fun hb hi => ?_⟩
  · rw [adc]
  · rw [adc, hw]
  · obtain ⟨x, set⟩ := s.accumulate_sets c (s.accOf c k) val
    have other : (s.accOf c k).val ≠ i.val := fun e => hi (Fin.ext e.symm)
    rw [adc, set]
    exact Vector.getElem_set_ne (s.accOf c k).isLt i.isLt other
  · have within : ¬ a.exceeds val := by unfold Accum.exceeds; omega
    obtain ⟨out, set⟩ := State.accumulate_adds hs within
    have entry : ((s.converted c k raw).adc c).acc[s.accOf c k] = a.add val out := by
      rw [adc, set]
      exact Vector.getElem_set_self ..
    rw [entry]
    exact ⟨rfl, rfl, hs, rfl, rfl⟩
  · have exceeds : a.exceeds val := by unfold Accum.exceeds; omega
    have stops := State.accumulate_exceeds hs exceeds
    refine ⟨?_, ?_⟩
    · rw [adc, stops, State.adc_raise, State.updAdc_self]
      exact Vector.getElem_set_self ..
    · rw [stops] at noted
      exact SenseKeeps.raised (by decide) (.updAdc (.refl ..)) noted
  · have sensed := (s.takeResult_sensor k raw ⟨hb, hb ▸ hi⟩).trans after
    exact SenseKeeps.raised (by decide) ((SenseKeeps.accumulated s c k raw).trans (s.burstNoted_keeps c k raw)) sensed

end

end

end

/-- A corrected value keeps to 18 bits (R208). -/
theorem State.correct_bounds (s : State) (c : Conv) (e raw : Nat) (sub : Bool) :
    -131072 ≤ s.correct c e raw sub ∧ s.correct c e raw sub ≤ 131071 := by
  simp only [State.correct]
  omega

/-- Settles O28: a request by the case of `State.request` that it meets, the end of a conversion by the result it leaves and
what `State.nextConversion` goes on with. -/
theorem conversions : Obligations.Conversions := by
  unfold Obligations.Conversions
  refine ⟨fun s m => ⟨fun c ht hp => ⟨urgEdge_ignored ht hp, urgEdge_begins ht hp, urgEdge_lost ht hp, urgEdge_waits ht hp⟩,
      exec_strobeStart_unsent, strobeStart_lost, strobeStart_begins, exec_darkRequest_unsent, darkRequest_lost, darkRequest_none,
      darkRequest_begins⟩,
    fun s c k raw e left r hp hk hc hw hn => conversionEnd_goes hp hk hc hw hn,
    fun s c k raw hp hk hc hw hn => ⟨conversionEnd_unreferenced hp hk hc hw hn, conversionEnd_dark hp hk hc hw hn,
      conversionEnd_kept hp hk hc hw hn, conversionEnd_adds hp hk hc hw hn, s.correct_bounds ..⟩⟩

end Sys2Proof.Machine
end

section
/-! SUPPORT. The camera ports: a change of one port, the elastic buffer, frames marked, and the counts. -/

namespace Sys2Proof.Machine

/-! ### One port -/

section
variable {s u v : State} {p : PortId}

theorem OtherPortsKept.refl (s : State) (p : PortId) : OtherPortsKept s s p := fun _ _ => rfl

theorem OtherPortsKept.of_ports (h : OtherPortsKept s u p) (e : v.ports = u.ports) : OtherPortsKept s v p := fun q hq => by
  rw [e]
  exact h q hq

theorem OtherPortsKept.updPort (h : OtherPortsKept s u p) {f : Port → Port} : OtherPortsKept s (u.updPort p f) p :=
  fun q hq => (u.updPort_of_ne hq f).trans (h q hq)

theorem OtherPortsKept.bufPush (h : OtherPortsKept s u p) {l : List BufItem} : OtherPortsKept s (u.bufPush p l) p :=
  .of_ports (h.updPort (f := fun x => { x with buf := x.buf ++ l })) rfl

end

/-- Items enter a buffer behind what is there. -/
@[simp] theorem State.bufPush_self (s : State) (p : PortId) (l : List BufItem) :
    (s.bufPush p l).ports[p.val] = { s.ports[p.val] with buf := s.ports[p.val].buf ++ l } :=
  s.updPort_self p fun x => { x with buf := x.buf ++ l }

/-- A buffer that fills changes no stored field but its high-water mark. -/
theorem State.getF_bufPush (s : State) {p : PortId} {b : Nat} (h : b ≠ Fld.csiBufHwm p) (l : List BufItem) :
    (s.bufPush p l).getF b = s.getF b := State.getF_setF_of_ne _ h _

@[simp] theorem State.getF_updPort (s : State) (p : PortId) (f : Port → Port) (a : Nat) :
    (s.updPort p f).getF a = s.getF a := rfl

@[simp] theorem State.getF_updFrame (s : State) (id : Nat) (f : Frame → Frame) (a : Nat) :
    (s.updFrame id f).getF a = s.getF a := rfl

@[simp] theorem State.getN_updPort (s : State) (p : PortId) (f : Port → Port) (a : Nat) :
    (s.updPort p f).getN a = s.getN a := rfl

@[simp] theorem State.getN_markTruncated (s : State) (ids : List Nat) (a : Nat) : (s.markTruncated ids).getN a = s.getN a :=
  rfl

theorem State.getN_of_getF {s u : State} {a : Nat} (h : u.getF a = s.getF a) : u.getN a = s.getN a :=
  congrArg BitVec.toNat h

@[simp] theorem State.getF_markTruncated (s : State) (ids : List Nat) (a : Nat) : (s.markTruncated ids).getF a = s.getF a :=
  rfl

/-! ### What the cameras change -/

/-- `u` differs from `s` in port `p`, the frames, the stored fields and the pending writes alone. -/
structure IngressKeeps (p : PortId) (s u : State) : Prop where
  frame : u = { s with ports := u.ports, frames := u.frames, nextFrame := u.nextFrame, fields := u.fields
                       shadow := u.shadow }
  other : OtherPortsKept s u p

section
variable {p : PortId} {s u v : State}

theorem IngressKeeps.refl (p : PortId) (s : State) : IngressKeeps p s s := ⟨rfl, .refl s p⟩

theorem IngressKeeps.trans (h : IngressKeeps p s u) (g : IngressKeeps p u v) : IngressKeeps p s v where
  frame := g.frame.trans (congrArg (fun x : State => { x with
    ports := v.ports, frames := v.frames, nextFrame := v.nextFrame, fields := v.fields, shadow := v.shadow }) h.frame)
  other q hq := (g.other q hq).trans (h.other q hq)

theorem IngressKeeps.fields (h : IngressKeeps p s u) {f : Sparse Word} : IngressKeeps p s { u with fields := f } :=
  h.trans ⟨rfl, .refl u p⟩

theorem IngressKeeps.setF (h : IngressKeeps p s u) {a : Nat} {x : Word} : IngressKeeps p s (u.setF a x) := h.fields

theorem IngressKeeps.setN (h : IngressKeeps p s u) {a n : Nat} : IngressKeeps p s (u.setN a n) := h.fields

theorem IngressKeeps.count16 (h : IngressKeeps p s u) {a : Nat} : IngressKeeps p s (u.count16 a) := h.fields

theorem IngressKeeps.countWrap (h : IngressKeeps p s u) {a n : Nat} : IngressKeeps p s (u.countWrap a n) := h.fields

theorem IngressKeeps.applyPending (h : IngressKeeps p s u) {sel : Pend → Bool} : IngressKeeps p s (u.applyPending sel) :=
  h.trans ⟨rfl, .refl u p⟩

theorem IngressKeeps.applyStopped (h : IngressKeeps p s u) : IngressKeeps p s u.applyStopped := h.applyPending

theorem IngressKeeps.updPort (h : IngressKeeps p s u) {f : Port → Port} : IngressKeeps p s (u.updPort p f) :=
  h.trans ⟨rfl, .updPort (.refl u p)⟩

theorem IngressKeeps.bufPush (h : IngressKeeps p s u) {l : List BufItem} : IngressKeeps p s (u.bufPush p l) :=
  .setN (.updPort h)

/-- A change of the frames. -/
theorem IngressKeeps.frames (h : IngressKeeps p s u) {l : List Frame} {n : Nat} :
    IngressKeeps p s { u with frames := l, nextFrame := n } := h.trans ⟨rfl, .refl u p⟩

theorem IngressKeeps.updFrame (h : IngressKeeps p s u) {id : Nat} {f : Frame → Frame} :
    IngressKeeps p s (u.updFrame id f) := h.frames

theorem IngressKeeps.markDamaged (h : IngressKeeps p s u) {ids : List Nat} : IngressKeeps p s (u.markDamaged ids) :=
  h.frames

theorem IngressKeeps.markTruncated (h : IngressKeeps p s u) {ids : List Nat} : IngressKeeps p s (u.markTruncated ids) :=
  h.frames

end

/-! ### Counts -/

/-- A count goes up, and no other stored field changes. -/
theorem State.count16_counted (s : State) (a : Nat) : Counted s (s.count16 a) a [] :=
  ⟨s.getN_count16_self a, fun _ hb _ => s.getF_count16_of_ne hb⟩

/-- What is counted lies in the stored fields alone. -/
theorem Counted.of_fields {s u v : State} {a : Nat} {l : List Nat} (h : Counted s u a l) (e : v.fields = u.fields) :
    Counted s v a l := by
  have same (b : Nat) : v.getF b = u.getF b := congrArg (sparseGet resetValue · b) e
  exact ⟨(congrArg BitVec.toNat (same a)).trans h.1, fun b hb hl => (same b).trans (h.2 b hb hl)⟩

/-! ### A field write that takes effect -/

section
variable {s u : State} {t : TrowelId} {a : Nat} {v : Word}

/-- Pending writes of other fields leave a field alone. -/
theorem State.getF_applyStopped (hs : u.shadow = s.shadow) (hp : ∀ q ∈ s.shadow, q.addr ≠ a) :
    u.applyStopped.getF a = u.getF a := State.getF_applyPending fun q hq _ => hp q (hs ▸ hq)

/-- A unit's enable, as a write of its trowel leaves it. -/
theorem State.enabledAt_of_write (h : Takes s t a) (hi : u.identity = s.identity) (hs : u.sys = s.sys)
    (hf : u.getF a = v &&& 1) : u.enabledAt a = v.getLsbD 0 := by
  rw [State.enabledAt, State.getB, hf, getLsbD_and_one, State.turnedOff_congr hi hs, h.on, hi, h.present]
  exact (Bool.and_true _).trans (Bool.and_true _)

end

end Sys2Proof.Machine
end

section
/-! SUPPORT. The receivers of a port: enables, readiness, lane states, bursts and bad headers (R226, R229 to R231). -/

namespace Sys2Proof.Machine

/-! ### The enables -/

section
variable {s : State} {p : PortId} {v : Word}

/-- The port of a field's block. -/
theorem portOf_csiFields (p : PortId) : Fin.ofNat 4 ((Fld.csiEnable p - 0x4000) / 0x100) = p ∧
    Fin.ofNat 4 ((Fld.csiVcEn p - 0x4000) / 0x100) = p := by revert p; decide

theorem csiFields_ne (p : PortId) : Fld.csiVcEn p ≠ Fld.csiEnable p ∧ Fld.csiEnable p ≠ Fld.csiBufHwm p ∧
    Fld.csiVcEn p ≠ Fld.csiBufHwm p := by revert p; decide

theorem State.csiNow_on (hv : v.getLsbD 0 = true) (he : s.enabledAt (Fld.csiEnable p) = false)
    (ho : s.turnedOff (Fld.csiEnable p) = false) :
    s.csiNow (Fld.csiEnable p) v = (s.setF (Fld.csiEnable p) v).portEnable p := by
  simp only [State.csiNow, (portOf_csiFields p).1, if_true, hv, he, State.portSelected, ho]
  rfl

theorem State.csiNow_off (hv : v.getLsbD 0 = false) (he : s.enabledAt (Fld.csiEnable p) = true) :
    s.csiNow (Fld.csiEnable p) v = (s.setF (Fld.csiEnable p) v).portDown p := by
  simp only [State.csiNow, (portOf_csiFields p).1, if_true, hv, he]
  rfl

theorem State.portEnable_does (s : State) (p : PortId) : IngressKeeps p s (s.portEnable p) ∧
    (∀ b, b ≠ Fld.csiBufHwm p → (s.portEnable p).getF b = s.getF b) ∧
    (s.portEnable p).ports[p] =
      { s.ports[p] with powered := true, usable := false, deskewSeen := false, ovfSeen := false } := by
  refine ⟨.setN (.updPort (.updPort (.refl p s))), fun b hb => State.getF_setF_of_ne _ hb _, ?_⟩
  simp [State.portEnable, State.portPower]

theorem State.portDown_does (s : State) (p : PortId) : IngressKeeps p s (s.portDown p) ∧
    (∀ b, b ≠ Fld.csiBufHwm p → (s.portDown p).getF b = s.getF b) ∧
    (s.portDown p).frames = (s.markTruncated s.ports[p].allOpen).frames ∧
    (s.portDown p).ports[p] =
      { s.ports[p] with powered := false, usable := false, clkHs := false, ulps := 0, openVc := [], late := []
                        buf := s.ports[p].buf ++ s.ports[p].allOpen.map BufItem.close } := by
  refine ⟨.updPort (.bufPush (.updPort (.markTruncated (.refl p s)))), fun b hb => ?_, ?_, ?_⟩
  · simp [State.portDown, State.closePort, State.getF_bufPush _ hb]
  · simp [State.portDown, State.closePort]
  · simp [State.portDown, State.closePort]

/-- The state after a mask has disabled channels: their frames close as truncated (R231). -/
def State.channelsClosed (s : State) (p : PortId) (v : Word) : State :=
  let gone := (s.ports[p].openVc.filter fun e => !v.getLsbD e.1.val).flatMap (·.2)
  ((s.markTruncated gone).updPort p fun x =>
    { x with openVc := x.openVc.filter fun e => v.getLsbD e.1.val }).bufPush p (gone.map BufItem.close)

theorem State.channelsClosed_does (s : State) (p : PortId) (v : Word) :
    let gone := (s.ports[p].openVc.filter fun e => !v.getLsbD e.1.val).flatMap (·.2)
    IngressKeeps p s (s.channelsClosed p v) ∧ (∀ b, b ≠ Fld.csiBufHwm p → (s.channelsClosed p v).getF b = s.getF b) ∧
    (s.channelsClosed p v).nextFrame = s.nextFrame ∧ (s.channelsClosed p v).shadow = s.shadow ∧
    (s.channelsClosed p v).frames = (s.markTruncated gone).frames ∧
    (s.channelsClosed p v).ports[p] = { s.ports[p] with
      openVc := s.ports[p].openVc.filter fun e => v.getLsbD e.1.val
      buf := s.ports[p].buf ++ gone.map BufItem.close } := by
  refine ⟨.bufPush (.updPort (.markTruncated (.refl p s))), fun b hb => State.getF_bufPush _ hb _, ?_, ?_, ?_, ?_⟩
  · simp [State.channelsClosed]
  · simp [State.channelsClosed]
  · simp [State.channelsClosed]
  · simp [State.channelsClosed]

theorem State.csiNow_channels (s : State) (p : PortId) (v : Word) :
    s.csiNow (Fld.csiVcEn p) v = (s.setF (Fld.csiVcEn p) v).channelsClosed p v := by
  simp only [State.csiNow, (portOf_csiFields p).2, if_neg (csiFields_ne p).1, if_true]
  rfl

end

section
variable {s : State} {t : TrowelId} {p : PortId} {v : Word}

section
variable (h : Takes s t (Fld.csiEnable p)) (hp : ∀ q ∈ s.shadow, q.addr ≠ Fld.csiEnable p)
include h hp

/-- A write of CSI.ENABLE as its unit takes it: what the write makes of the state stays, but for pending writes of units that
do not run. -/
theorem csiEnableWrite_does {y : State} (hy : s.csiNow (Fld.csiEnable p) (v &&& 1) = y)
    (now : IngressKeeps p (s.setF (Fld.csiEnable p) (v &&& 1)) y)
    (fields : ∀ b, b ≠ Fld.csiBufHwm p → y.getF b = (s.setF (Fld.csiEnable p) (v &&& 1)).getF b) :
    Does (.csiEnableWrite t p v) s fun u =>
      u = { s with ports := u.ports, frames := u.frames, fields := u.fields, shadow := u.shadow } ∧ OtherPortsKept s u p ∧
      u.enabledAt (Fld.csiEnable p) = v.getLsbD 0 ∧ FieldsKept s u [Fld.csiEnable p, Fld.csiBufHwm p] ∧
      u.frames = y.frames ∧ u.ports = y.ports := by
  have write := exec_csiEnableWrite_taken (v := v) h
  have same : y.nextFrame = s.nextFrame ∧ y.shadow = s.shadow ∧ y.identity = s.identity ∧ y.sys = s.sys := by simp [← hy]
  rw [hy] at write
  obtain ⟨next, shadow, identity, sys⟩ := same
  have keeps := ((IngressKeeps.setF (.refl p s)).trans now).applyStopped
  have stored := (fields _ (csiFields_ne p).2.1).trans (s.getF_setF_self ..)
  refine ⟨_, write, keeps.frame.trans (by simp [next]), keeps.other, ?_, State.applyStopped_fieldsKept shadow fun b hb => ?_,
    rfl, rfl⟩
  · exact State.enabledAt_of_write h identity sys ((State.getF_applyStopped shadow hp).trans stored)
  · obtain ⟨enable, mark⟩ : b ≠ Fld.csiEnable p ∧ b ≠ Fld.csiBufHwm p := by simpa using hb
    exact (fields b mark).trans (s.getF_setF_of_ne enable _)

/-- CSI.ENABLE = 1 powers the receivers (R229). -/
theorem csiEnableWrite_on (hv : v.getLsbD 0 = true) (he : s.enabledAt (Fld.csiEnable p) = false) :
    Does (.csiEnableWrite t p v) s fun u =>
      u = { s with ports := u.ports, fields := u.fields, shadow := u.shadow } ∧ OtherPortsKept s u p ∧
      u.enabledAt (Fld.csiEnable p) = true ∧ FieldsKept s u [Fld.csiEnable p, Fld.csiBufHwm p] ∧
      u.ports[p] = { s.ports[p] with powered := true, usable := false, deskewSeen := false, ovfSeen := false } := by
  obtain ⟨keeps, fields, port⟩ := (s.setF (Fld.csiEnable p) (v &&& 1)).portEnable_does p
  obtain ⟨u, write, frame, other, enabled, kept, frames, ports⟩ :=
    csiEnableWrite_does h hp (State.csiNow_on ((getLsbD_and_one v).trans hv) he h.on) keeps fields
  refine ⟨u, write, frame.trans ?_, other, enabled.trans hv, kept, ports ▸ port⟩
  simp [frames]

/-- CSI.ENABLE = 0 closes every open frame as truncated and powers the receivers down (R229, R230). -/
theorem csiEnableWrite_off (hv : v.getLsbD 0 = false) (he : s.enabledAt (Fld.csiEnable p) = true) :
    Does (.csiEnableWrite t p v) s fun u =>
      u = { s with ports := u.ports, frames := u.frames, fields := u.fields, shadow := u.shadow } ∧
      OtherPortsKept s u p ∧ u.enabledAt (Fld.csiEnable p) = false ∧ u.frames = (s.markTruncated s.ports[p].allOpen).frames ∧
      u.ports[p] = { s.ports[p] with powered := false, usable := false, clkHs := false, ulps := 0, openVc := [], late := []
                                     buf := s.ports[p].buf ++ s.ports[p].allOpen.map BufItem.close } := by
  obtain ⟨keeps, fields, closed, port⟩ := (s.setF (Fld.csiEnable p) (v &&& 1)).portDown_does p
  have now := State.csiNow_off (s := s) (p := p) ((getLsbD_and_one v).trans hv) he
  generalize (s.setF (Fld.csiEnable p) (v &&& 1)).portDown p = y at *
  obtain ⟨u, write, frame, other, enabled, -, frames, ports⟩ := csiEnableWrite_does h hp now keeps fields
  exact ⟨u, write, frame, other, enabled.trans hv, frames.trans closed, ports ▸ port⟩

end

theorem getLsbD_and_65535 (v : Word) (c : Fin 16) : (v &&& 65535).getLsbD c.val = v.getLsbD c.val := by
  have ones : ∀ c : Fin 16, (65535 : Word).getLsbD c.val = true := by decide
  exact (BitVec.getLsbD_and ..).trans (by rw [ones, Bool.and_true])

/-- CSI.VC_EN closes the frames of the channels that it disables (R231). -/
theorem vcEnWrite_does (h : Takes s t (Fld.csiVcEn p)) (hp : ∀ q ∈ s.shadow, q.addr ≠ Fld.csiVcEn p) :
    Does (.vcEnWrite t p v) s fun u =>
      let gone := (s.ports[p].openVc.filter fun e => !v.getLsbD e.1.val).flatMap (·.2)
      u = { s with ports := u.ports, frames := u.frames, fields := u.fields, shadow := u.shadow } ∧ OtherPortsKept s u p ∧
      u.getF (Fld.csiVcEn p) = v &&& 0xFFFF ∧ FieldsKept s u [Fld.csiVcEn p, Fld.csiBufHwm p] ∧
      u.frames = (s.markTruncated gone).frames ∧
      u.ports[p] = { s.ports[p] with openVc := s.ports[p].openVc.filter fun e => v.getLsbD e.1.val
                                     buf := s.ports[p].buf ++ gone.map BufItem.close } := by
  have write := exec_vcEnWrite_taken (v := v) h
  rw [State.csiNow_channels] at write
  have same : ((s.setF (Fld.csiVcEn p) (v &&& 65535)).channelsClosed p (v &&& 65535)) =
      (s.setF (Fld.csiVcEn p) (v &&& 65535)).channelsClosed p v := by
    simp only [State.channelsClosed, getLsbD_and_65535]
  rw [same] at write
  obtain ⟨keeps, fields, next, shadow, frames, port⟩ := (s.setF (Fld.csiVcEn p) (v &&& 65535)).channelsClosed_does p v
  generalize (s.setF (Fld.csiVcEn p) (v &&& 65535)).channelsClosed p v = y at *
  replace keeps := ((IngressKeeps.setF (.refl p s)).trans keeps).applyStopped
  refine ⟨_, write, keeps.frame.trans ?_, keeps.other, ?_, State.applyStopped_fieldsKept shadow fun b hb => ?_, frames, port⟩
  · exact (by simp [next])
  · exact (State.getF_applyStopped shadow hp).trans ((fields _ (csiFields_ne p).2.2).trans (s.getF_setF_self ..))
  · obtain ⟨mask, mark⟩ : b ≠ Fld.csiVcEn p ∧ b ≠ Fld.csiBufHwm p := by simpa using hb
    exact (fields b mark).trans (s.getF_setF_of_ne mask _)

end

/-! ### Readiness, lanes, bursts and headers -/

section
variable {s : State} {p : PortId}

/-- A change of one port that a command makes. -/
theorem does_of_updPort {c : Instr} {f : Port → Port} (e : exec c s = .next (s.updPort p f)) : Does c s fun u =>
    u = { s with ports := u.ports } ∧ OtherPortsKept s u p ∧ u.ports[p] = f s.ports[p] :=
  ⟨_, e, rfl, .updPort (.refl s p), s.updPort_self p f⟩

/-- A lane in use: the clock lane, or one that R225 gives the port. -/
def State.LaneInUse (s : State) (p : PortId) (lane : Fin 5) : Prop :=
  lane = 4 ∨ lane.val < min (s.strapLanes p) (s.getN (Fld.csiLanes p))

theorem State.laneReceives_iff {lane : Fin 5} :
    s.laneReceives p lane = true ↔ s.ports[p].powered = true ∧ s.LaneInUse p lane := by
  simp [State.laneReceives, State.laneUsed, State.LaneInUse, State.lanesUsed]

theorem entersUlps_iff (lane : Fin 5) (x : LaneLines) :
    entersUlps lane x = true ↔ x = .lp10 true ∨ (lane = 4 ∧ x = .lp10 false) := by
  cases x with
  | stop => simp [entersUlps]
  | lp01 => simp [entersUlps]
  | lp10 u => cases u <;> simp [entersUlps]

/-- A lane in use shows its state (R228, Table CI.1). -/
theorem clockLaneStateChange_does (hp : s.ports[p].powered = true) {lane : Fin 5} (hu : s.LaneInUse p lane)
    (lines : LaneLines) : Does (.clockLaneStateChange p lane lines) s fun u =>
      u = { s with ports := u.ports } ∧ OtherPortsKept s u p ∧ u.ports[p] = { s.ports[p] with
        clkHs := if lane = 4 then decide (s.laneLines p lane lines = .lp01) else s.ports[p].clkHs
        ulps := if s.laneLines p lane lines = .lp10 true ∨ (lane = 4 ∧ s.laneLines p lane lines = .lp10 false) then
            s.ports[p].ulps ||| BitVec.ofNat 5 (2 ^ lane.val)
          else s.ports[p].ulps &&& ~~~ BitVec.ofNat 5 (2 ^ lane.val) } := by
  simp only [← entersUlps_iff]
  refine does_of_updPort (f := fun x => { x with
    clkHs := if lane = 4 then decide (s.laneLines p lane lines = .lp01) else x.clkHs
    ulps := if entersUlps lane (s.laneLines p lane lines) then x.ulps ||| BitVec.ofNat 5 (2 ^ lane.val)
      else x.ulps &&& ~~~ BitVec.ofNat 5 (2 ^ lane.val) }) (congrArg Host.Outcome.next (if_neg ?_))
  rw [Bool.not_eq_true', Bool.not_eq_false]
  exact State.laneReceives_iff.mpr ⟨hp, hu⟩

/-- No other lane changes anything (R225, R229). -/
theorem exec_clockLaneStateChange_unused {lane : Fin 5} (h : s.ports[p].powered = false ∨ ¬ s.LaneInUse p lane)
    (lines : LaneLines) : exec (.clockLaneStateChange p lane lines) s = .next s := by
  refine congrArg Host.Outcome.next (if_pos ?_)
  rw [Bool.not_eq_true', Bool.eq_false_iff, Ne, State.laneReceives_iff]
  rintro ⟨powered, used⟩
  exact h.elim (fun off => nomatch powered.symm.trans off) (· used)

/-- A deskew burst is counted and shown (R226). -/
theorem deskewBurst_does (hp : s.ports[p].powered = true) : Does (.deskewBurst p) s fun u =>
    u = { s with ports := u.ports, fields := u.fields } ∧ OtherPortsKept s u p ∧
    u.ports[p] = { s.ports[p] with deskewSeen := true } ∧ Counted s u (Fld.csiDeskewCount p) [] := by
  have keeps : IngressKeeps p s ((s.count16 (Fld.csiDeskewCount p)).updPort p fun x => { x with deskewSeen := true }) :=
    .updPort (.count16 (.refl p s))
  refine ⟨_, congrArg Host.Outcome.next (if_neg (by rw [hp]; decide)), keeps.frame, keeps.other, ?_, ?_⟩
  · exact State.updPort_self ..
  · exact (s.count16_counted _).of_fields rfl

/-- A bad header damages every frame open on the port (Table CI.6). -/
theorem headerUncorrectable_does (hp : s.ports[p].powered = true) (sync : Bool) : Does (.headerUncorrectable p sync) s fun u =>
    u = { s with frames := u.frames, fields := u.fields } ∧ u.frames = (s.markDamaged s.ports[p].allOpen).frames ∧
    Counted s u (if sync then Fld.csiSotErrCount p else Fld.csiHdrUncorrCount p) [] := by
  refine ⟨(s.count16 (if sync then Fld.csiSotErrCount p else Fld.csiHdrUncorrCount p)).markDamaged s.ports[p].allOpen,
    congrArg Host.Outcome.next (if_neg (by rw [hp]; decide)), rfl, rfl, (s.count16_counted _).of_fields rfl⟩

end

/-- Settles O29: each command by what it does to its port, and the two enables by the write that their unit takes. -/
theorem cameraReceivers : Obligations.CameraReceivers := by
  unfold Obligations.CameraReceivers
  intro s t p v lane lines sync
  exact ⟨fun h hp => ⟨csiEnableWrite_on h hp, csiEnableWrite_off h hp⟩, vcEnWrite_does,
    does_of_updPort (f := fun x => { x with usable := x.powered }) rfl,
    ⟨fun hp hu => clockLaneStateChange_does hp hu lines, fun h => exec_clockLaneStateChange_unused h lines⟩,
    deskewBurst_does, fun hp => headerUncorrectable_does hp sync⟩

end Sys2Proof.Machine
end

section
/-! SUPPORT. Frame Start and Frame End packets: the checks that come before a packet's own, the binding of contexts, and the
frames of a channel (R229, R231, R234, R235). -/

namespace Sys2Proof.Machine

/-! ### The checks of a packet -/

section
variable {s : State} {p : PortId} {vc : Fin 16} {f : State → State}

section
variable (hp : s.ports[p].powered = true)
include hp

/-- A header corrected by its ECC is counted first. -/
theorem State.packet_corrected : s.packet p vc true f = (s.count16 (Fld.csiHdrCorrCount p)).packet p vc false f := by
  have powered : (s.count16 (Fld.csiHdrCorrCount p)).ports[p].powered = true := hp
  simp only [State.packet, hp, powered]
  rfl

/-- A packet on a disabled channel is counted and ignored (R231). -/
theorem State.packet_ignored (hv : (s.getF (Fld.csiVcEn p)).getLsbD vc.val = false) :
    s.packet p vc false f = s.count16 (Fld.csiVcIgnCount p) := by
  simp [State.packet, show s.ports[p.val].powered = true from hp, hv]

theorem State.packet_accepted (hv : (s.getF (Fld.csiVcEn p)).getLsbD vc.val = true) : s.packet p vc false f = f s := by
  simp [State.packet, show s.ports[p.val].powered = true from hp, hv]

end

/-- What a command that only counts does. -/
theorem does_of_count16 {c : Instr} {a : Nat} (e : exec c s = .next (s.count16 a)) : Does c s fun u =>
    u = { s with fields := u.fields } ∧ Counted s u a [] := ⟨_, e, rfl, s.count16_counted a⟩

end

/-! ### The binding of contexts -/

/-- `u` binds its contexts as `s` does. -/
structure SameBinding (s u : State) : Prop where
  identity : u.identity = s.identity
  sys : u.sys = s.sys
  enable : ∀ k : CtxId, u.getF (Fld.ctxEnable k) = s.getF (Fld.ctxEnable k)
  source : ∀ k : CtxId, u.getF (Fld.ctxSrc k) = s.getF (Fld.ctxSrc k)

section
variable {p : PortId} {s u : State}

theorem ctxFields_ge (k : CtxId) : 0x4800 ≤ Fld.ctxEnable k ∧ 0x4800 ≤ Fld.ctxSrc k := by revert k; decide

/-- What a port changes in its own block binds no context otherwise. -/
theorem IngressKeeps.binding (h : IngressKeeps p s u) (hf : ∀ b, 0x4800 ≤ b → u.getF b = s.getF b) : SameBinding s u :=
  ⟨congrArg (·.identity) h.frame, congrArg (·.sys) h.frame, fun k => hf _ (ctxFields_ge k).1, fun k => hf _ (ctxFields_ge k).2⟩

/-- The source of a context in its parts. -/
theorem SameBinding.srcParts (h : SameBinding s u) (k : CtxId) : u.srcPort k = s.srcPort k ∧ u.srcVc k = s.srcVc k ∧
    u.srcType k = s.srcType k ∧ u.srcEmb k = s.srcEmb k := by
  simp only [State.srcPort, State.srcVc, State.srcType, State.srcEmb, State.getN, State.getB, h.source, and_self]

theorem SameBinding.takers (h : SameBinding s u) (q : PortId) (vc : Fin 16) : u.takers q vc = s.takers q vc := by
  have on (k : CtxId) : u.enabledAt (Fld.ctxEnable k) = s.enabledAt (Fld.ctxEnable k) :=
    State.enabledAt_congr h.identity h.sys (h.enable k)
  have port (k : CtxId) := (h.srcParts k).1
  have channel (k : CtxId) := (h.srcParts k).2.1
  have type (k : CtxId) := (h.srcParts k).2.2.1
  have winner (k : CtxId) : u.bindingWinner k = s.bindingWinner k := by
    simp only [State.bindingWinner, State.bindAlike, on, State.getN, h.source]
  have bad (k : CtxId) : u.badBinding k = s.badBinding k := by
    simp only [State.badBinding, State.unitOn, h.sys, port, type]
  simp only [State.takers, on, port, channel, winner, bad]

theorem SameBinding.newFrames (h : SameBinding s u) (q : PortId) (vc : Fin 16) (num : BitVec 16) (ks : List CtxId) (id : Nat) :
    u.newFrames q vc num ks id = s.newFrames q vc num ks id := by
  have frame (k : CtxId) (id : Nat) : u.newFrame q vc k num id = s.newFrame q vc k num id := by
    obtain ⟨-, -, type, emb⟩ := h.srcParts k
    simp only [State.newFrame, type, emb]
  induction ks generalizing id with
  | nil => rfl
  | cons k ks ih => simp only [State.newFrames, frame, ih]

end

/-! ### The frames that a Frame Start opens -/

section
variable {s : State} {p : PortId} {vc : Fin 16} {num : BitVec 16}

@[simp] theorem State.newFrames_length (s : State) (p : PortId) (vc : Fin 16) (num : BitVec 16) (ks : List CtxId) (id : Nat) :
    (s.newFrames p vc num ks id).length = ks.length := by
  induction ks generalizing id with
  | nil => rfl
  | cons k ks ih => exact congrArg (· + 1) (ih (id + 1))

/-- A new frame is one of its contexts', has no index yet and no mark. -/
theorem State.mem_newFrames {ks : List CtxId} {id : Nat} {f : Frame} (h : f ∈ s.newFrames p vc num ks id) :
    f.ctx ∈ ks ∧ f.port = p ∧ f.vc = vc ∧ f.num = num ∧ f.fidx = none ∧
    f.damaged = false ∧ f.truncated = false ∧ f.overloaded = false ∧ f.closed = false := by
  induction ks generalizing id with
  | nil => exact absurd h List.not_mem_nil
  | cons k ks ih =>
    obtain rfl | h := List.mem_cons.mp h
    · exact ⟨List.mem_cons_self, rfl, rfl, rfl, rfl, rfl, rfl, rfl, rfl⟩
    · obtain ⟨ctx, rest⟩ := ih h
      exact ⟨List.mem_cons_of_mem k ctx, rest⟩

/-- One frame opens in each context bound to the channel (R234). -/
theorem State.openFrames_does (s : State) (p : PortId) (vc : Fin 16) (num : BitVec 16) :
    let opened := s.newFrames p vc num (s.takers p vc) s.nextFrame
    IngressKeeps p s (s.openFrames p vc num) ∧ (∀ b, b ≠ Fld.csiBufHwm p → (s.openFrames p vc num).getF b = s.getF b) ∧
    (s.openFrames p vc num).frames = s.frames ++ opened ∧ (s.openFrames p vc num).nextFrame = s.nextFrame + opened.length ∧
    (s.openFrames p vc num).shadow = s.shadow ∧
    ((s.openFrames p vc num).ports[p]).openVc = s.ports[p].openVc ++ [(vc, opened.map (·.id))] := by
  intro opened
  have keeps := (IngressKeeps.refl p s).frames (l := s.frames ++ opened) (n := s.nextFrame + opened.length)
  unfold State.openFrames
  dsimp only
  split
  · refine ⟨.updPort keeps, fun _ _ => rfl, rfl, rfl, rfl, ?_⟩
    simp [opened]
  · refine ⟨.bufPush (.updPort keeps), fun b hb => State.getF_bufPush _ hb _, by simp [opened], by simp [opened], by simp, ?_⟩
    simp [opened]

end

/-! ### Frame Start -/

section
variable {s : State} {p : PortId} {vc : Fin 16} {num : BitVec 16}

theorem csiFrameFields_ne (p : PortId) : Fld.csiFrameCount p ≠ Fld.csiBufHwm p ∧ Fld.csiMissingFeCount p ≠ Fld.csiBufHwm p ∧
    Fld.csiMissingFeCount p ≠ Fld.csiFrameCount p := by revert p; decide

theorem csiFrameFields_lt (p : PortId) : Fld.csiFrameCount p < 0x4800 ∧ Fld.csiMissingFeCount p < 0x4800 ∧
    Fld.csiBufHwm p < 0x4800 := by revert p; decide

/-- The frames that a further Frame Start finds open close as truncated (Table CI.6). -/
theorem State.missingEnd_does {ids : List Nat} (ho : s.ports[p].openOn vc = some ids) :
    IngressKeeps p s (s.missingEnd p vc) ∧
    (∀ b, b ≠ Fld.csiMissingFeCount p → b ≠ Fld.csiBufHwm p → (s.missingEnd p vc).getF b = s.getF b) ∧
    (s.missingEnd p vc).getN (Fld.csiMissingFeCount p) = min 65535 (s.getN (Fld.csiMissingFeCount p) + 1) ∧
    (s.missingEnd p vc).shadow = s.shadow ∧ (s.missingEnd p vc).frames = (s.markTruncated ids).frames := by
  rw [State.missingEnd, ho]
  refine ⟨.bufPush (.updPort (.count16 (.markTruncated (.refl p s)))), fun b hc hm => ?_, ?_, by simp, by simp⟩
  · rw [State.getF_bufPush _ hm, State.getF_updPort, State.getF_count16_of_ne _ hc, State.getF_markTruncated]
  · rw [State.getN_of_getF (State.getF_bufPush _ (csiFrameFields_ne p).2.1 _), State.getN_updPort, State.getN_count16_self,
      State.getN_markTruncated]

section
variable (hp : s.ports[p].powered = true) (hv : (s.getF (Fld.csiVcEn p)).getLsbD vc.val = true)
include hp hv

theorem exec_frameStartPacket_early (hu : s.ports[p].usable = false) :
    exec (.frameStartPacket p vc num false) s = .next (s.count16 (Fld.csiOrphanCount p)) :=
  congrArg Host.Outcome.next ((State.packet_accepted hp hv).trans (if_pos (by rw [hu]; rfl)))

theorem exec_frameStartPacket (hu : s.ports[p].usable = true) : exec (.frameStartPacket p vc num false) s =
    .next (((s.missingEnd p vc).countWrap (Fld.csiFrameCount p) 1).openFrames p vc num) :=
  congrArg Host.Outcome.next ((State.packet_accepted hp hv).trans (if_neg (by rw [hu]; decide)))

/-- A Frame Start on a channel without an open frame (R234). -/
theorem frameStartPacket_opens (hu : s.ports[p].usable = true) (ho : s.ports[p].openOn vc = none) :
    Does (.frameStartPacket p vc num false) s fun u =>
      let opened := s.newFrames p vc num (s.takers p vc) s.nextFrame
      u = { s with ports := u.ports, frames := u.frames, nextFrame := u.nextFrame, fields := u.fields } ∧
      OtherPortsKept s u p ∧ u.frames = s.frames ++ opened ∧ u.nextFrame = s.nextFrame + opened.length ∧
      opened.length = (s.takers p vc).length ∧
      (∀ f ∈ opened, f.ctx ∈ s.takers p vc ∧ f.port = p ∧ f.vc = vc ∧ f.num = num ∧ f.fidx = none ∧
        f.damaged = false ∧ f.truncated = false ∧ f.overloaded = false ∧ f.closed = false) ∧
      (u.ports[p]).openVc = s.ports[p].openVc ++ [(vc, opened.map (·.id))] ∧
      u.getF (Fld.csiFrameCount p) = s.getF (Fld.csiFrameCount p) + 1 ∧
      ∀ b, b ≠ Fld.csiFrameCount p → b ≠ Fld.csiBufHwm p → u.getF b = s.getF b := by
  have write := exec_frameStartPacket (num := num) hp hv hu
  rw [show s.missingEnd p vc = s by rw [State.missingEnd, ho]] at write
  have counted := (IngressKeeps.refl p s).countWrap (a := Fld.csiFrameCount p) (n := 1)
  have binding := counted.binding fun b hb => State.getF_setF_of_ne s (by have := csiFrameFields_lt p; omega) _
  obtain ⟨keeps, fields, frames, next, shadow, opens⟩ := (s.countWrap (Fld.csiFrameCount p) 1).openFrames_does p vc num
  rw [binding.takers, binding.newFrames] at frames next opens
  replace keeps := counted.trans keeps
  refine ⟨_, write, keeps.frame.trans ?_, keeps.other, frames, next, s.newFrames_length .., fun _ => State.mem_newFrames, opens,
    ?_, fun b hc hm => (fields b hm).trans (s.getF_setF_of_ne hc _)⟩
  · rw [shadow]
    rfl
  · exact (fields _ (csiFrameFields_ne p).1).trans (s.getF_setF_self ..)

/-- A Frame Start on a channel with an open frame. -/
theorem frameStartPacket_reopens (hu : s.ports[p].usable = true) {ids : List Nat} (ho : s.ports[p].openOn vc = some ids) :
    Does (.frameStartPacket p vc num false) s fun u =>
      u = { s with ports := u.ports, frames := u.frames, nextFrame := u.nextFrame, fields := u.fields } ∧
      OtherPortsKept s u p ∧ u.getN (Fld.csiMissingFeCount p) = min 65535 (s.getN (Fld.csiMissingFeCount p) + 1) ∧
      ∃ opened : List Frame, opened.length = (s.takers p vc).length ∧
        u.frames = (s.markTruncated ids).frames ++ opened := by
  have write := exec_frameStartPacket (num := num) hp hv hu
  obtain ⟨ended, endFields, missing, endShadow, truncated⟩ := State.missingEnd_does ho
  generalize s.missingEnd p vc = y at *
  have counted := ended.countWrap (a := Fld.csiFrameCount p) (n := 1)
  have binding := counted.binding fun b hb => by
    have := csiFrameFields_lt p
    exact (State.getF_setF_of_ne y (by omega) _).trans (endFields b (by omega) (by omega))
  obtain ⟨keeps, fields, frames, -, shadow, -⟩ := (y.countWrap (Fld.csiFrameCount p) 1).openFrames_does p vc num
  replace keeps := counted.trans keeps
  refine ⟨_, write, keeps.frame.trans ?_, keeps.other, ?_, _, ?_, frames.trans (congrArg (· ++ _) truncated)⟩
  · rw [shadow.trans endShadow]
  · have same := (fields _ (csiFrameFields_ne p).2.1).trans (y.getF_setF_of_ne (csiFrameFields_ne p).2.2 _)
    exact (State.getN_of_getF same).trans missing
  · rw [State.newFrames_length, binding.takers]

end
end

/-! ### Frame End -/

section
variable {s : State} {p : PortId} {vc : Fin 16}
  (hp : s.ports[p].powered = true) (hv : (s.getF (Fld.csiVcEn p)).getLsbD vc.val = true)
include hp hv

theorem exec_frameEndPacket : exec (.frameEndPacket p vc false) s = .next (s.frameEnd p vc) :=
  congrArg Host.Outcome.next (State.packet_accepted hp hv)

/-- A Frame End closes every frame open on its channel. -/
theorem frameEndPacket_closes {ids : List Nat} (ho : s.ports[p].openOn vc = some ids) (hn : ids ≠ []) :
    Does (.frameEndPacket p vc false) s fun u =>
      u = { s with ports := u.ports, fields := u.fields } ∧ OtherPortsKept s u p ∧
      u.ports[p] = { s.ports[p] with
        openVc := s.ports[p].openVc.filter fun e => e.1 != vc, buf := s.ports[p].buf ++ [.fe ids] } ∧
      ∀ b, b ≠ Fld.csiBufHwm p → u.getF b = s.getF b := by
  have ended : s.frameEnd p vc = (s.updPort p fun x => { x with openVc := x.openVc.filter fun e => e.1 != vc }).bufPush p
      [.fe ids] := by simp only [State.frameEnd, ho, List.isEmpty_iff, if_neg hn]
  have keeps : IngressKeeps p s (s.frameEnd p vc) := ended ▸ .bufPush (.updPort (.refl p s))
  refine ⟨_, exec_frameEndPacket hp hv, keeps.frame.trans ?_, keeps.other, ?_, fun b hb => ?_⟩
  · simp [ended]
  · simp [ended]
  · rw [ended, State.getF_bufPush _ hb, State.getF_updPort]

/-- A Frame End after the timeouts of all frames of its channel is late. -/
theorem frameEndPacket_late (ho : s.ports[p].openOn vc = none) (hl : s.ports[p].late.contains vc = true) :
    Does (.frameEndPacket p vc false) s fun u => u = { s with ports := u.ports, fields := u.fields } ∧ OtherPortsKept s u p ∧
      u.ports[p] = { s.ports[p] with late := s.ports[p].late.filter (· != vc) } ∧ Counted s u (Fld.csiLateFeCount p) [] := by
  have ended : s.frameEnd p vc =
      (s.count16 (Fld.csiLateFeCount p)).updPort p fun x => { x with late := x.late.filter (· != vc) } := by
    simp only [State.frameEnd, ho, hl, if_true]
  have keeps : IngressKeeps p s (s.frameEnd p vc) := ended ▸ .updPort (.count16 (.refl p s))
  refine ⟨_, exec_frameEndPacket hp hv, keeps.frame.trans ?_, keeps.other, ?_, ?_⟩
  · simp [ended]
  · rw [ended]
    exact State.updPort_self ..
  · exact (s.count16_counted _).of_fields (by simp [ended])

/-- Any other Frame End is an orphan. -/
theorem exec_frameEndPacket_orphan (ho : s.ports[p].openOn vc = none) (hl : s.ports[p].late.contains vc = false) :
    exec (.frameEndPacket p vc false) s = .next (s.count16 (Fld.csiOrphanCount p)) := by
  rw [exec_frameEndPacket hp hv, State.frameEnd, ho]
  simp only [hl]
  rfl

end

/-- Settles O30: the checks of a packet first, then what a Frame Start and a Frame End do by what is open on their channel. -/
theorem frameStartsAndEnds : Obligations.FrameStartsAndEnds := by
  unfold Obligations.FrameStartsAndEnds
  intro s p vc num
  refine ⟨fun hp => ⟨congrArg _ (State.packet_corrected hp), congrArg _ (State.packet_corrected hp)⟩,
    fun hp hv => ⟨does_of_count16 (congrArg _ (State.packet_ignored hp hv)),
      does_of_count16 (congrArg _ (State.packet_ignored hp hv))⟩, ?_, ?_, ?_, ?_, ?_, ?_⟩
  · exact fun ⟨hp, hv⟩ hu => does_of_count16 (exec_frameStartPacket_early hp hv hu)
  · exact fun ⟨hp, hv⟩ => frameStartPacket_opens hp hv
  · exact fun _ ⟨hp, hv⟩ hu => frameStartPacket_reopens hp hv hu
  · exact fun _ ⟨hp, hv⟩ => frameEndPacket_closes hp hv
  · exact fun ⟨hp, hv⟩ => frameEndPacket_late hp hv
  · exact fun ⟨hp, hv⟩ ho hl => does_of_count16 (exec_frameEndPacket_orphan hp hv ho hl)

end Sys2Proof.Machine
end

section
/-! SUPPORT. Frames by their number, and the changes of one frame. -/

namespace Sys2Proof.Machine

section
variable {s u : State} {id : Nat} {f : Frame}

theorem State.id_of_frame? (h : s.frame? id = some f) : f.id = id := by simpa using List.find?_some h

/-- A change of the frames that keeps their numbers finds each frame changed. -/
theorem State.frame?_of_map {g : Frame → Frame} (hu : u.frames = s.frames.map g) (hg : ∀ f, (g f).id = f.id) (i : Nat) :
    u.frame? i = (s.frame? i).map g := by
  have same : (fun f : Frame => f.id == i) ∘ g = fun f => f.id == i := funext fun f => by simp [hg]
  rw [State.frame?, hu, List.find?_map, same, State.frame?]

/-- A frame marked by its number. -/
theorem State.markDamaged_singleton (s : State) (id : Nat) :
    s.markDamaged [id] = s.updFrame id fun f => { f with damaged := true } := by
  simp [State.markDamaged, State.updFrame]

theorem State.markTruncated_singleton (s : State) (id : Nat) :
    s.markTruncated [id] = s.updFrame id fun f => { f with truncated := true } := by
  simp [State.markTruncated, State.updFrame]

/-- Two changes of one frame are one. -/
theorem State.updFrame_updFrame (s : State) (id : Nat) {f g : Frame → Frame} (hf : ∀ x, (f x).id = x.id) :
    (s.updFrame id f).updFrame id g = s.updFrame id fun x => g (f x) := by
  have step (x : Frame) : (if (if x.id = id then f x else x).id = id then g (if x.id = id then f x else x)
      else if x.id = id then f x else x) = if x.id = id then g (f x) else x := by
    by_cases h : x.id = id <;> simp [h, hf]
  simp only [State.updFrame, List.map_map]
  exact congrArg (fun l => ({ s with frames := l } : State)) (List.map_congr_left fun x _ => step x)

end

end Sys2Proof.Machine
end

section
/-! SUPPORT. Long packets of pixels: where they go, and what a line does to its frame (R232, R233, R238, R239, Table CI.6). -/

namespace Sys2Proof.Machine

/-! ### Where a packet goes -/

section
variable {s : State} {p : PortId} {x : LongPacket} {w : Nat × Nat × Nat} {f : Frame}

/-- The open frame of a channel that takes lines of a type. -/
def State.lineFrame (s : State) (p : PortId) (vc : Fin 16) (dt : BitVec 6) : Option Frame :=
  (((s.ports[p].openOn vc).getD []).filterMap s.frame?).find? fun f => f.dt == dt

section
variable (hc : x.corrected = false) (hp : s.ports[p].powered = true)
  (hv : (s.getF (Fld.csiVcEn p)).getLsbD x.vc.val = true)
include hc hp hv

theorem exec_pixelPacket : exec (.pixelPacket p x) s = .next (s.pixels p x) :=
  congrArg Host.Outcome.next ((congrArg (s.packet p x.vc · _) hc).trans (State.packet_accepted hp hv))

theorem exec_embeddedPacket : exec (.embeddedPacket p x) s = .next (s.embedded p x) :=
  congrArg Host.Outcome.next ((congrArg (s.packet p x.vc · _) hc).trans (State.packet_accepted hp hv))

end

section
variable (hu : s.ports[p].usable = true)
include hu

/-- A type that nothing binds is ignored (R232). -/
theorem State.pixels_unbound (h : pixelType x.dt = none ∨ s.typeBound p x.vc x.dt = false) :
    s.pixels p x = s.count16 (Fld.csiDtIgnCount p) := by
  rw [State.pixels, if_neg (by rw [hu]; decide)]
  split
  next => rfl
  next w hw => exact if_pos (by rw [h.resolve_left (by rw [hw]; nofun)]; rfl)

section
variable (hw : pixelType x.dt = some w) (hb : s.typeBound p x.vc x.dt = true)
include hw hb

/-- A line of no open frame is an orphan. -/
theorem State.pixels_orphan (hf : s.lineFrame p x.vc x.dt = none) : s.pixels p x = s.count16 (Fld.csiOrphanCount p) := by
  simp only [State.lineFrame] at hf
  rw [State.pixels, if_neg (by rw [hu]; decide)]
  simp only [hw, hb, hf]
  rfl

/-- A line of an open frame. -/
theorem State.pixels_lineFrame (hf : s.lineFrame p x.vc x.dt = some f) : s.pixels p x =
    if x.short then (s.count16 (Fld.csiShortPktCount p)).markDamaged [f.id] else s.takeLine p f w.1 w.2.1 w.2.2 x := by
  simp only [State.lineFrame] at hf
  rw [State.pixels, if_neg (by rw [hu]; decide)]
  simp only [hw, hb, hf]
  rfl

end
end

/-! ### A line of a frame -/

/-- A line that breaks the format of its frame: no whole pixel groups, too long, or of another length (R233). -/
def Frame.malformed (f : Frame) (w : Nat × Nat × Nat) (n : Nat) : Bool :=
  decide (n % w.1 ≠ 0) || decide (w.2.2 < n) || f.width.any fun k => decide (pixelCount w.1 w.2.1 n ≠ k)

theorem Frame.malformed_iff (f : Frame) (w : Nat × Nat × Nat) (n : Nat) : f.malformed w n = true ↔
    n % w.1 ≠ 0 ∨ w.2.2 < n ∨ ∃ k : Nat, f.width = some k ∧ pixelCount w.1 w.2.1 n ≠ k := by
  simp [Frame.malformed, Option.any_eq_true, or_assoc]

/-- The frame with one more line of `n` bytes. -/
def Frame.addLine (f : Frame) (w : Nat × Nat × Nat) (n : Nat) : Frame :=
  { f with lines := f.lines + 1, width := some (f.width.getD (pixelCount w.1 w.2.1 n)) }

/-- A failed CRC is counted and damages the frame; the line goes on all the same (R233). -/
theorem State.takeLine_crc (hx : x.crcBad = true) : s.takeLine p f w.1 w.2.1 w.2.2 x =
    ((s.count16 (Fld.csiCrcErrCount p x.vc.val)).markDamaged [f.id]).takeLine p { f with damaged := true } w.1 w.2.1 w.2.2
      { x with crcBad := false } := by
  simp only [State.takeLine, hx]
  rfl

section
variable (hx : x.crcBad = false)
include hx

theorem State.takeLine_dropping (hd : f.dropping = true) : s.takeLine p f w.1 w.2.1 w.2.2 x = s := by
  simp [State.takeLine, hx, hd]

section
variable (hd : f.dropping = false)
include hd

theorem State.takeLine_overload (hf : s.ports[p].fits x.payload.length = false) :
    s.takeLine p f w.1 w.2.1 w.2.2 x = s.overload p f.id := by
  simp [State.takeLine, hx, hd, show s.ports[p.val].fits x.payload.length = false from hf]

/-- A line that fits goes behind what the buffer holds, and counts in its frame, which a malformed one damages. -/
theorem State.takeLine_fits (hf : s.ports[p].fits x.payload.length = true) (hl : f.lines < 8192) :
    s.takeLine p f w.1 w.2.1 w.2.2 x =
      ((if f.malformed w x.payload.length then (s.count16 (Fld.csiFormatErrCount p)).markDamaged [f.id] else s).updFrame f.id
        fun g => g.addLine w x.payload.length).bufPush p [.line f.id x.payload 0] := by
  have fits : s.ports[p.val].fits x.payload.length = true := hf
  cases hw : f.width <;> simp [State.takeLine, Frame.malformed, hx, hd, fits, Nat.not_le.mpr hl, hw] <;> rfl

end
end

/-! ### Pixel packets -/

theorem csiPacketFields_ne (p : PortId) : Fld.csiFormatErrCount p ≠ Fld.csiBufHwm p ∧
    ∀ vc : Fin 16, Fld.csiVcEn p ≠ Fld.csiCrcErrCount p vc.val ∧ Fld.csiCrcErrCount p vc.val < 0x4800 := by
  revert p; decide

/-- The line frame of a channel after one frame has been marked damaged. -/
theorem State.lineFrame_markDamaged {vc : Fin 16} {dt : BitVec 6} {u : State} (hp : u.ports = s.ports)
    (hu : u.frames = (s.markDamaged [f.id]).frames) (hf : s.lineFrame p vc dt = some f) :
    u.lineFrame p vc dt = some { f with damaged := true } := by
  have damaged := State.frame?_of_map (u := u) (g := fun x => if x.id = f.id then { x with damaged := true } else x)
    (hu.trans (by rw [State.markDamaged_singleton]; rfl)) fun x => by split <;> rfl
  have type : ((fun x : Frame => x.dt == dt) ∘ fun x => if x.id = f.id then { x with damaged := true } else x) =
      fun x => x.dt == dt := funext fun x => by simp only [Function.comp]; split <;> rfl
  rw [State.lineFrame, funext damaged, ← List.map_filterMap, List.find?_map, type, hp]
  exact (congrArg (Option.map _) hf).trans (by simp)

section
variable (hc : x.corrected = false) (hp : s.ports[p].powered = true) (hu : s.ports[p].usable = true)
  (hv : (s.getF (Fld.csiVcEn p)).getLsbD x.vc.val = true)
  (hw : pixelType x.dt = some w) (hb : s.typeBound p x.vc x.dt = true) (hf : s.lineFrame p x.vc x.dt = some f)
include hc hp hu hv hw hb hf

theorem exec_pixelPacket_line (hs : x.short = false) :
    exec (.pixelPacket p x) s = .next (s.takeLine p f w.1 w.2.1 w.2.2 x) := by
  rw [exec_pixelPacket hc hp hv, State.pixels_lineFrame hu hw hb hf, hs]
  rfl

/-- A short packet damages its frame. -/
theorem pixelPacket_short (hs : x.short = true) : Does (.pixelPacket p x) s fun u =>
    u = { s with frames := u.frames, fields := u.fields } ∧ Counted s u (Fld.csiShortPktCount p) [] ∧
    u.frames = (s.updFrame f.id fun f => { f with damaged := true }).frames := by
  have write := exec_pixelPacket hc hp hv
  rw [State.pixels_lineFrame hu hw hb hf, if_pos hs, State.markDamaged_singleton] at write
  exact ⟨_, write, rfl, (s.count16_counted _).of_fields rfl, rfl⟩

/-- A line that does not fit overloads its frame (R239). -/
theorem pixelPacket_overloads (hd : f.dropping = false) (hs : x.short = false) (hx : x.crcBad = false)
    (hn : s.ports[p].fits x.payload.length = false) : Does (.pixelPacket p x) s fun u =>
      u = { s with frames := u.frames, fields := u.fields, ports := u.ports } ∧ OtherPortsKept s u p ∧
      u.ports[p] = { s.ports[p] with ovfSeen := true } ∧ Counted s u (Fld.csiOvfCount p) [] ∧
      u.frames = (s.updFrame f.id fun f => { f with overloaded := true, truncated := true, dropping := true }).frames := by
  have write := exec_pixelPacket_line hc hp hu hv hw hb hf hs
  rw [State.takeLine_overload hx hd hn] at write
  have keeps : IngressKeeps p s (s.overload p f.id) := .updPort (.count16 (.updFrame (.refl p s)))
  refine ⟨_, write, keeps.frame.trans ?_, keeps.other, ?_, ?_, ?_⟩
  · simp
  · simp [State.overload]
  · exact (s.count16_counted _).of_fields (by simp only [State.overload]; rfl)
  · simp [State.overload]

/-- A line that fits (R233, R238). -/
theorem pixelPacket_fits (hd : f.dropping = false) (hs : x.short = false) (hx : x.crcBad = false)
    (hn : s.ports[p].fits x.payload.length = true) (hl : f.lines < 8192) {v : State}
    (hm : (if f.malformed w x.payload.length then (s.count16 (Fld.csiFormatErrCount p)).markDamaged [f.id] else s) = v)
    (keeps : IngressKeeps p s v) (hports : v.ports = s.ports) : Does (.pixelPacket p x) s fun u =>
      u = { s with frames := u.frames, fields := u.fields, ports := u.ports } ∧ OtherPortsKept s u p ∧
      u.ports[p] = { s.ports[p] with buf := s.ports[p].buf ++ [.line f.id x.payload 0] } ∧
      (∀ b, b ≠ Fld.csiBufHwm p → u.getF b = v.getF b) ∧
      u.frames = (v.updFrame f.id fun g => g.addLine w x.payload.length).frames := by
  have write := exec_pixelPacket_line hc hp hu hv hw hb hf hs
  rw [State.takeLine_fits hx hd hn hl, hm] at write
  have parts : v.nextFrame = s.nextFrame ∧ v.shadow = s.shadow := by
    rw [← hm]
    split <;> exact ⟨rfl, rfl⟩
  replace keeps := keeps.updFrame (id := f.id) (f := fun g => g.addLine w x.payload.length) |>.bufPush
    (l := [.line f.id x.payload 0])
  refine ⟨_, write, keeps.frame.trans ?_, keeps.other, ?_, fun b hm => State.getF_bufPush _ hm _, by simp⟩
  · simp [parts]
  · simp [hports]

theorem pixelPacket_sound (hd : f.dropping = false) (hs : x.short = false) (hx : x.crcBad = false)
    (hn : s.ports[p].fits x.payload.length = true) (hl : f.lines < 8192) (hm : f.malformed w x.payload.length = false) :
    Does (.pixelPacket p x) s fun u =>
      u = { s with frames := u.frames, fields := u.fields, ports := u.ports } ∧ OtherPortsKept s u p ∧
      u.ports[p] = { s.ports[p] with buf := s.ports[p].buf ++ [.line f.id x.payload 0] } ∧
      (∀ b, b ≠ Fld.csiBufHwm p → u.getF b = s.getF b) ∧
      u.frames = (s.updFrame f.id fun g => g.addLine w x.payload.length).frames :=
  pixelPacket_fits hc hp hu hv hw hb hf hd hs hx hn hl (if_neg (by rw [hm]; decide)) (.refl p s) rfl

theorem pixelPacket_malformed (hd : f.dropping = false) (hs : x.short = false) (hx : x.crcBad = false)
    (hn : s.ports[p].fits x.payload.length = true) (hl : f.lines < 8192) (hm : f.malformed w x.payload.length = true) :
    Does (.pixelPacket p x) s fun u =>
      u = { s with frames := u.frames, fields := u.fields, ports := u.ports } ∧ OtherPortsKept s u p ∧
      u.ports[p] = { s.ports[p] with buf := s.ports[p].buf ++ [.line f.id x.payload 0] } ∧
      u.getN (Fld.csiFormatErrCount p) = min 65535 (s.getN (Fld.csiFormatErrCount p) + 1) ∧
      u.frames = (s.updFrame f.id fun g => { g.addLine w x.payload.length with damaged := true }).frames := by
  obtain ⟨u, write, frame, other, port, fields, frames⟩ := pixelPacket_fits hc hp hu hv hw hb hf hd hs hx hn hl (if_pos hm)
    (.markDamaged (.count16 (.refl p s))) rfl
  rw [State.markDamaged_singleton,
    State.updFrame_updFrame (f := fun g => { g with damaged := true }) _ _ fun _ => rfl] at frames
  refine ⟨u, write, frame, other, port, ?_, frames⟩
  exact (State.getN_of_getF (fields _ (csiPacketFields_ne p).1)).trans (s.getN_count16_self _)

/-- A line whose payload fails its CRC damages its frame, and then counts as any other (R233). -/
theorem exec_pixelPacket_crc (hs : x.short = false) (hx : x.crcBad = true) :
    exec (.pixelPacket p x) s = exec (.pixelPacket p { x with crcBad := false })
      ((s.count16 (Fld.csiCrcErrCount p x.vc.val)).markDamaged [f.id]) := by
  have keeps : IngressKeeps p s ((s.count16 (Fld.csiCrcErrCount p x.vc.val)).markDamaged [f.id]) :=
    .markDamaged (.count16 (.refl p s))
  have fields (b : Nat) (hb : b ≠ Fld.csiCrcErrCount p x.vc.val) :
      ((s.count16 (Fld.csiCrcErrCount p x.vc.val)).markDamaged [f.id]).getF b = s.getF b := s.getF_count16_of_ne hb
  have lines := State.lineFrame_markDamaged (s := s)
    (u := (s.count16 (Fld.csiCrcErrCount p x.vc.val)).markDamaged [f.id]) rfl rfl hf
  obtain ⟨mask, low⟩ := (csiPacketFields_ne p).2 x.vc
  have binding := keeps.binding fun b hb => fields b (by omega)
  have bound : ((s.count16 (Fld.csiCrcErrCount p x.vc.val)).markDamaged [f.id]).typeBound p x.vc x.dt = true := by
    rw [← hb, State.typeBound, State.typeBound, binding.takers]
    exact congrArg (List.any _) (funext fun k => by rw [(binding.srcParts k).2.2.1])
  rw [exec_pixelPacket_line hc hp hu hv hw hb hf hs, State.takeLine_crc hx]
  exact (exec_pixelPacket_line (s := (s.count16 (Fld.csiCrcErrCount p x.vc.val)).markDamaged [f.id])
    (x := { x with crcBad := false }) hc hp hu ((congrArg (BitVec.getLsbD · _) (fields _ mask)).trans hv) hw bound lines hs).symm

end
end

/-! ### Embedded data -/

section
variable {s : State} {p : PortId} {x : LongPacket} {id : Nat} {f : Frame}

section
variable (hu : s.ports[p].usable = true)
include hu

theorem State.embedded_orphan (ho : s.ports[p].openOn x.vc = none) : s.embedded p x = s.count16 (Fld.csiOrphanCount p) := by
  rw [State.embedded, if_neg (by rw [hu]; decide), ho]

/-- Embedded data that no open frame captures is ignored (R240). -/
theorem State.embedded_ignored {all : List Nat} (ho : s.ports[p].openOn x.vc = some all)
    (hn : ∀ i ∈ all, ∀ f : Frame, s.frame? i = some f → f.embOn = false) :
    s.embedded p x = s.count16 (Fld.csiDtIgnCount p) := by
  have none : all.filter (fun i => ((s.frame? i).map Frame.embOn).getD false) = [] := by
    refine List.filter_eq_nil_iff.mpr fun i hi => ?_
    cases hf : s.frame? i with
    | none => simp
    | some f => simp [hn i hi f hf]
  rw [State.embedded, if_neg (by rw [hu]; decide), ho]
  simp only [none]
  rfl

/-- Embedded data of the one frame of a channel, which captures it (R237). -/
theorem State.embedded_captured (ho : s.ports[p].openOn x.vc = some [id]) (hf : s.frame? id = some f)
    (he : f.embOn = true) (hd : f.dropping = false) (hs : x.short = false) (hx : x.crcBad = false)
    (hn : s.ports[p].fits x.payload.length = true) :
    s.embedded p x = (s.updFrame id fun f => f.capture x.payload).bufPush p [.emb x.payload.length] := by
  rw [State.embedded, if_neg (by rw [hu]; decide), ho]
  simp [hf, he, hs, State.takeEmbedded, hx, hd, show s.ports[p.val].fits x.payload.length = true from hn, State.updFrame]

end

/-- The first 256 bytes of a frame's embedded data are captured (R237). -/
theorem embeddedPacket_captures (hc : x.corrected = false) (hp : s.ports[p].powered = true) (hu : s.ports[p].usable = true)
    (hv : (s.getF (Fld.csiVcEn p)).getLsbD x.vc.val = true) (ho : s.ports[p].openOn x.vc = some [id])
    (hf : s.frame? id = some f) (he : f.embOn = true) (hd : f.dropping = false) (hs : x.short = false)
    (hx : x.crcBad = false) (hn : s.ports[p].fits x.payload.length = true) : Does (.embeddedPacket p x) s fun u =>
      u = { s with frames := u.frames, fields := u.fields, ports := u.ports } ∧ OtherPortsKept s u p ∧
      u.ports[p] = { s.ports[p] with buf := s.ports[p].buf ++ [.emb x.payload.length] } ∧
      (∀ b, b ≠ Fld.csiBufHwm p → u.getF b = s.getF b) ∧
      u.frames = (s.updFrame id fun f => f.capture x.payload).frames := by
  have write := exec_embeddedPacket hc hp hv
  rw [State.embedded_captured hu ho hf he hd hs hx hn] at write
  have keeps := (IngressKeeps.updFrame (.refl p s) (id := id) (f := fun f => f.capture x.payload)).bufPush
    (l := [.emb x.payload.length])
  exact ⟨_, write, keeps.frame.trans (by simp), keeps.other, by simp, fun b hb => State.getF_bufPush _ hb _, by simp⟩

/-- A header corrected by its ECC is counted first. -/
theorem exec_longPacket_corrected (hp : s.ports[p].powered = true) (hc : x.corrected = true) :
    exec (.pixelPacket p x) s =
      exec (.pixelPacket p { x with corrected := false }) (s.count16 (Fld.csiHdrCorrCount p)) ∧
    exec (.embeddedPacket p x) s =
      exec (.embeddedPacket p { x with corrected := false }) (s.count16 (Fld.csiHdrCorrCount p)) :=
  ⟨congrArg Host.Outcome.next ((congrArg (s.packet p x.vc · _) hc).trans (State.packet_corrected hp)),
    congrArg Host.Outcome.next ((congrArg (s.packet p x.vc · _) hc).trans (State.packet_corrected hp))⟩

end

end Sys2Proof.Machine
end

section
/-! SUPPORT. The frame index and the Frame End timeout (R35, R236, R241, R244, R315, R333). -/

namespace Sys2Proof.Machine

/-! ### A write of the verdict store -/

section
variable {s u v : State}

/-- `u` differs from `s` in ports, frames, contexts, stored fields, the verdict store and the black box alone. -/
def IndexKeeps (s u : State) : Prop :=
  u = { s with ports := u.ports, frames := u.frames, ctxs := u.ctxs, fields := u.fields, vs := u.vs, bb := u.bb }

theorem IndexKeeps.trans (h : IndexKeeps s u) (g : IndexKeeps u v) : IndexKeeps s v :=
  Eq.trans g (congrArg (fun x : State => { x with
    ports := v.ports, frames := v.frames, ctxs := v.ctxs, fields := v.fields, vs := v.vs, bb := v.bb }) h)

/-- A rise of VQ_BACKLOG may be counted. -/
theorem State.backlogEdge_does (s : State) : IndexKeeps s s.backlogEdge ∧ s.backlogEdge.vs.store = s.vs.store ∧
    ∀ b, b ≠ Fld.vsBacklogCount → s.backlogEdge.getF b = s.getF b := by
  unfold State.backlogEdge
  dsimp only
  split
  · exact ⟨rfl, rfl, fun b hb => State.getF_count16_of_ne _ hb⟩
  · exact ⟨rfl, rfl, fun _ _ => rfl⟩

/-- A write of the store is read at its address, and nowhere else. -/
theorem State.storeWrite_does (s : State) (a : BitVec 14) (f : Word) (w : BitVec 16) :
    IndexKeeps s (s.storeWrite a f w) ∧ (s.storeWrite a f w).storeAt a = w ∧
    (∀ b, b ≠ a → (s.storeWrite a f w).storeAt b = s.storeAt b) ∧
    ∀ b, b ≠ Fld.vsBacklogCount → (s.storeWrite a f w).getF b = s.getF b := by
  unfold State.storeWrite
  dsimp only
  generalize hv : (if s.vs.backlogged then _ else _ : Verdict) = v
  have store : v.store = sparseSet (fun _ => 0) s.vs.store a.toNat w := by
    rw [← hv]
    split <;> rfl
  obtain ⟨keeps, same, fields⟩ := State.backlogEdge_does { s with vs := v }
  refine ⟨IndexKeeps.trans (u := { s with vs := v }) rfl keeps, ?_, fun b hb => ?_, fields⟩
  · rw [State.storeAt, same, store, sparseGet_sparseSet_self]
  · have other : b.toNat ≠ a.toNat := fun e => hb (BitVec.eq_of_toNat_eq e)
    rw [State.storeAt, same, store, sparseGet_sparseSet_of_ne _ _ other]
    rfl

end

/-! ### The index of a frame -/

section
variable {s : State} {k : CtxId} {id : Nat} {f : Frame}

/-- The next index of a context in mode 0 (R236). -/
def State.nextIndex (s : State) (k : CtxId) : Word := if (s.ctxs[k]).indexed then (s.ctxs[k]).fidx + 1 else 0

/-- A decision of this very cycle stands at the entry of the context's next index (R333). -/
def State.lapsNext (s : State) (k : CtxId) : Bool :=
  s.vs.lastDecision.any fun d => d.1 == queryAddr k (s.nextIndex k) && d.2.2 == s.time.core

theorem State.index_mode0 (s : State) (k : CtxId) (num : BitVec 16) : (s.ctxs[k]).index false num =
    (s.nextIndex k, { s.ctxs[k] with fidx := s.nextIndex k, indexed := true }) := by
  simp [Ctx.index, State.nextIndex]

theorem State.lapAtIndex_none (h : s.lapsNext k = false) : s.lapAtIndex k (queryAddr k (s.nextIndex k)) = s := by
  unfold State.lapAtIndex
  split
  next a f n hd =>
    refine if_neg fun ⟨ha, hn⟩ => ?_
    simp [State.lapsNext, hd, ha, hn] at h
  next => rfl

/-- A lapped decision does not go out; it is counted, with its event (R322, R333). -/
theorem State.lapAtIndex_laps (h : s.lapsNext k = true) : ∃ (q : List (BitVec 14 × BitVec 16)) (f : Word),
    s.lapAtIndex k (queryAddr k (s.nextIndex k)) = (({ s with vs := { s.vs with queue := q, lastDecision := none } } :
      State).count16 Fld.vsLappedCount).bbEvent 0x0A#7 (BitVec.ofNat 8 k.val) 0x0003#16 f := by
  unfold State.lapAtIndex
  split
  next a f n hd => exact ⟨_, _, if_pos (by simpa [State.lapsNext, hd] using h)⟩
  next hd => simp [State.lapsNext, hd] at h

theorem State.lapAtIndex_does (s : State) (k : CtxId) {t : State} (ht : s.lapAtIndex k (queryAddr k (s.nextIndex k)) = t) :
    IndexKeeps s t ∧ t.ports = s.ports ∧ t.frames = s.frames ∧ t.ctxs = s.ctxs ∧ t.vs.store = s.vs.store ∧
    (∀ b, b ≠ Fld.vsLappedCount → t.getF b = s.getF b) ∧
    t.getN Fld.vsLappedCount =
      (if s.lapsNext k then min 65535 (s.getN Fld.vsLappedCount + 1) else s.getN Fld.vsLappedCount) ∧
    (s.lapsNext k = false → t.bb = s.bb) := by
  cases h : s.lapsNext k with
  | false =>
    rw [State.lapAtIndex_none h] at ht
    rw [← ht]
    exact ⟨rfl, rfl, rfl, rfl, rfl, fun _ _ => rfl, rfl, fun _ => rfl⟩
  | true =>
    obtain ⟨q, f, e⟩ := State.lapAtIndex_laps h
    rw [← ht, e]
    exact ⟨rfl, rfl, rfl, rfl, rfl, fun b hb => State.getF_count16_of_ne _ hb, State.getN_count16_self .., nofun⟩

/-- Context `k` and frame `id` with the index `i`, as CTX.FIDX shows it (R236). -/
def State.giveIndex (s : State) (k : CtxId) (id : Nat) (i : Word) : State :=
  let c : Ctx := { s.ctxs[k] with fidx := i, indexed := true }
  (({ s with ctxs := s.ctxs.set k.val c k.isLt } : State).updFrame id fun f => { f with fidx := some i }).setF (Fld.ctxFidx k) i

theorem State.giveIndex_does (s : State) (k : CtxId) (id : Nat) (i : Word) {u : State} (hu : s.giveIndex k id i = u) :
    IndexKeeps s u ∧ u.ports = s.ports ∧ u.frames = (s.updFrame id fun g => { g with fidx := some i }).frames ∧
    (u.ctxs[k]).fidx = i ∧ (u.ctxs[k]).indexed = true ∧ (∀ j : CtxId, j ≠ k → u.ctxs[j] = s.ctxs[j]) ∧
    u.vs = s.vs ∧ u.bb = s.bb ∧ u.getF (Fld.ctxFidx k) = i ∧ ∀ b, b ≠ Fld.ctxFidx k → u.getF b = s.getF b := by
  have other (j : CtxId) (hj : j ≠ k) : k.val ≠ j.val := fun e => hj (Fin.ext e.symm)
  rw [← hu]
  refine ⟨rfl, rfl, rfl, ?_, ?_, fun j hj => ?_, rfl, rfl, State.getF_setF_self .., fun b hb => State.getF_setF_of_ne _ hb _⟩
  · simp [State.giveIndex]
  · simp [State.giveIndex]
  · simp [State.giveIndex, other j hj]

/-- The frame takes its context's next index (R236), and its entry of the store becomes PENDING (R315). -/
theorem State.indexFrame_eq (hf : s.frame? id = some f) (hm : s.getB (Fld.ctxFidxMode f.ctx) 0 = false) :
    let i := s.nextIndex f.ctx
    s.indexFrame id = ((s.lapAtIndex f.ctx (queryAddr f.ctx i)).giveIndex f.ctx id i).storeWrite (queryAddr f.ctx i) i
      (pendingWord i) := by
  obtain ⟨-, -, -, ctxs, -⟩ := s.lapAtIndex_does f.ctx rfl
  rw [State.indexFrame, hf]
  simp only [hm, State.index_mode0, State.giveIndex, ctxs]

theorem indexFields_ne (k : CtxId) : Fld.ctxFidx k ≠ Fld.vsBacklogCount ∧ Fld.vsLappedCount ≠ Fld.ctxFidx k ∧
    Fld.vsLappedCount ≠ Fld.vsBacklogCount := by revert k; decide

theorem State.indexFrame_does (hf : s.frame? id = some f) (hm : s.getB (Fld.ctxFidxMode f.ctx) 0 = false) {u : State}
    (hu : s.indexFrame id = u) : let i := s.nextIndex f.ctx
    IndexKeeps s u ∧ u.ports = s.ports ∧ u.frames = (s.updFrame id fun g => { g with fidx := some i }).frames ∧
    (u.ctxs[f.ctx]).fidx = i ∧ (u.ctxs[f.ctx]).indexed = true ∧ (∀ j : CtxId, j ≠ f.ctx → u.ctxs[j] = s.ctxs[j]) ∧
    u.getF (Fld.ctxFidx f.ctx) = i ∧ u.storeAt (queryAddr f.ctx i) = pendingWord i ∧
    (∀ a : BitVec 14, a ≠ queryAddr f.ctx i → u.storeAt a = s.storeAt a) ∧
    u.getN Fld.vsLappedCount =
      (if s.lapsNext f.ctx then min 65535 (s.getN Fld.vsLappedCount + 1) else s.getN Fld.vsLappedCount) ∧
    (s.lapsNext f.ctx = false → u.bb = s.bb) := by
  intro i
  rw [State.indexFrame_eq hf hm] at hu
  generalize ht : s.lapAtIndex f.ctx (queryAddr f.ctx (s.nextIndex f.ctx)) = t at hu
  obtain ⟨lapKeeps, lapPorts, lapFrames, lapCtxs, lapStore, -, lapped, lapBox⟩ := s.lapAtIndex_does f.ctx ht
  generalize hv : t.giveIndex f.ctx id (s.nextIndex f.ctx) = v at hu
  obtain ⟨keeps, ports, frames, index, indexed, ctxs, vs, box, shows, fields⟩ := t.giveIndex_does _ _ _ hv
  obtain ⟨written, entry, others, stored⟩ := v.storeWrite_does (queryAddr f.ctx i) i (pendingWord i)
  have same : u.ports = v.ports ∧ u.frames = v.frames ∧ u.ctxs = v.ctxs ∧ u.bb = v.bb := by simp [← hu]
  obtain ⟨uports, uframes, uctxs, ubox⟩ := same
  obtain ⟨shown, uncounted, other⟩ := indexFields_ne f.ctx
  rw [hu] at written entry others stored
  refine ⟨lapKeeps.trans (keeps.trans written), uports.trans (ports.trans lapPorts), ?_, uctxs ▸ index, uctxs ▸ indexed,
    fun j hj => ?_, (stored _ shown).trans shows, entry, fun a ha => (others a ha).trans ?_, ?_,
    fun h => ubox.trans (box.trans (lapBox h))⟩
  · rw [uframes, frames, State.updFrame_frames, State.updFrame_frames, lapFrames]
  · rw [uctxs, ctxs j hj, lapCtxs]
  · rw [State.storeAt, State.storeAt, vs, lapStore]
  · rw [State.getN_of_getF (stored _ other), State.getN_of_getF (fields _ uncounted), lapped]

end

/-! ### The descriptor -/

section
variable {s : State} {p : PortId} {mbps id : Nat} {r : List (List Nat)} {f : Frame}

theorem exec_frameDescriptorInCore_none (hd : s.ports[p].descs = []) : exec (.frameDescriptorInCore p mbps) s = .next s := by
  change execFrameDescriptorInCore p s mbps = _
  rw [execFrameDescriptorInCore, hd]

/-- The oldest descriptor gives its frame its timestamp, and then its index (R35, R236). -/
theorem exec_frameDescriptorInCore_first (hd : s.ports[p].descs = [id] :: r) : exec (.frameDescriptorInCore p mbps) s =
    .next (((s.updPort p fun x => { x with descs := r }).stampFrame (s.frameStamp mbps) id).indexFrame id) := by
  change execFrameDescriptorInCore p s mbps = _
  rw [execFrameDescriptorInCore, hd]
  rfl

/-- What the oldest descriptor does (R241, R315, R333). -/
theorem frameDescriptorInCore_indexes (hd : s.ports[p].descs = [id] :: r) (hf : s.frame? id = some f)
    (hm : s.getB (Fld.ctxFidxMode f.ctx) 0 = false) : Does (.frameDescriptorInCore p mbps) s fun u =>
      let i := s.nextIndex f.ctx
      u = { s with ports := u.ports, frames := u.frames, ctxs := u.ctxs, fields := u.fields, vs := u.vs, bb := u.bb } ∧
      OtherPortsKept s u p ∧ u.ports[p] = { s.ports[p] with descs := r } ∧
      u.frames = (s.updFrame id fun g => { g with ts := s.frameStamp mbps, fidx := some i }).frames ∧
      (u.ctxs[f.ctx]).fidx = i ∧ (u.ctxs[f.ctx]).indexed = true ∧ (∀ j : CtxId, j ≠ f.ctx → u.ctxs[j] = s.ctxs[j]) ∧
      u.getF (Fld.ctxFidx f.ctx) = i ∧ u.storeAt (queryAddr f.ctx i) = pendingWord i ∧
      (∀ a : BitVec 14, a ≠ queryAddr f.ctx i → u.storeAt a = s.storeAt a) ∧
      u.getN Fld.vsLappedCount =
        (if s.lapsNext f.ctx then min 65535 (s.getN Fld.vsLappedCount + 1) else s.getN Fld.vsLappedCount) ∧
      (s.lapsNext f.ctx = false → u.bb = s.bb) := by
  have write := exec_frameDescriptorInCore_first (mbps := mbps) hd
  generalize hy : (s.updPort p fun x => { x with descs := r }).stampFrame (s.frameStamp mbps) id = y at write
  have stamped : y.frame? id = some { f with ts := s.frameStamp mbps } := by
    rw [← hy, State.frame?_of_map (s := s) (g := fun x => if x.id = id then { x with ts := s.frameStamp mbps } else x) rfl
      fun x => by split <;> rfl]
    simp [hf, State.id_of_frame? hf]
  have start : IndexKeeps s y ∧ y.ports = (s.updPort p fun x => { x with descs := r }).ports ∧
      y.frames = (s.updFrame id fun g => { g with ts := s.frameStamp mbps }).frames ∧ y.ctxs = s.ctxs ∧ y.vs = s.vs ∧
      y.fields = s.fields ∧ y.bb = s.bb ∧ y.time = s.time := by
    rw [← hy]
    exact ⟨rfl, rfl, rfl, rfl, rfl, rfl, rfl, rfl⟩
  obtain ⟨keeps, ports, frames, ctxs, vs, fields, box, time⟩ := start
  have mode : y.getB (Fld.ctxFidxMode f.ctx) 0 = false := (State.getB_of_fields fields ..).trans hm
  have next : y.nextIndex f.ctx = s.nextIndex f.ctx := by rw [State.nextIndex, ctxs, State.nextIndex]
  have laps : y.lapsNext f.ctx = s.lapsNext f.ctx := by rw [State.lapsNext, next, vs, time, State.lapsNext]
  generalize hu : y.indexFrame id = u at write
  obtain ⟨keeps', ports', frames', index, indexed, others, shows, entry, store, lapped, box'⟩ :=
    State.indexFrame_does stamped mode hu
  rw [next] at frames' index shows entry store
  rw [laps] at lapped box'
  refine ⟨u, write, keeps.trans keeps', ?_, ?_, ?_, index, indexed, fun j hj => ctxs ▸ others j hj, shows, entry,
    fun a ha => (store a ha).trans (by rw [State.storeAt, vs, State.storeAt]), ?_, fun h => (box' h).trans box⟩
  · exact .of_ports (.updPort (.refl s p)) (ports'.trans ports)
  · rw [ports', ports]
    exact State.updPort_self ..
  · rw [frames', State.updFrame_frames, frames, ← State.updFrame_frames,
      State.updFrame_updFrame (f := fun g => { g with ts := s.frameStamp mbps }) _ _ fun _ => rfl]
  · have count : y.getN Fld.vsLappedCount = s.getN Fld.vsLappedCount :=
      State.getN_of_getF (congrArg (sparseGet resetValue · _) fields)
    rw [lapped, count]

end

/-! ### The timeout -/

section
variable {s : State} {k : CtxId} {f : Frame}

theorem State.ctx_of_openFrameOf (h : s.openFrameOf k = some f) : f.ctx = k := by
  have := List.find?_some h
  simp only [Bool.and_eq_true, beq_iff_eq] at this
  exact this.1

theorem State.timedOut_iff (h : s.openFrameOf k = some f) : s.timedOut f = true ↔
    f.fidx.isSome = true ∧ f.ts + 1000 * max 10 (s.getN (Fld.ctxFeTmoUs k)) ≤ s.time.ns := by
  rw [State.timedOut, State.endTimeoutNs, State.ctx_of_openFrameOf h, Bool.and_eq_true, decide_eq_true_eq, State.nowNs,
    Nat.mul_comm 1000]

theorem exec_frameEndTimeout_none (h : s.openFrameOf k = none) : exec (.frameEndTimeout k) s = .next s := by
  change execFrameEndTimeout k s = _
  rw [execFrameEndTimeout, h]
  rfl

/-- A frame within its timeout stays open. -/
theorem exec_frameEndTimeout_early (h : s.openFrameOf k = some f)
    (hn : f.fidx = none ∨ s.time.ns < f.ts + 1000 * max 10 (s.getN (Fld.ctxFeTmoUs k))) :
    exec (.frameEndTimeout k) s = .next s := by
  have early : ¬ s.timedOut f = true := by
    rw [State.timedOut_iff h]
    rintro ⟨index, late⟩
    refine hn.elim (fun e => ?_) (Nat.not_lt.mpr late)
    rw [e] at index
    cases index
  change execFrameEndTimeout k s = _
  rw [execFrameEndTimeout, h, Option.filter_some, if_neg early]

/-- The port after the timeout of a frame: its channel is free once no other frame is open on it. -/
def Port.timeOut (x : Port) (vc : Fin 16) (id : Nat) : Port :=
  let left := ((x.openOn vc).getD []).filter (· != id)
  if left.isEmpty then { x with openVc := x.openVc.filter fun e => e.1 != vc, late := x.late ++ [vc] }
  else { x with openVc := x.openVc.map fun e => if e.1 = vc then (e.1, left) else e }

theorem Port.timeOut_buf (x : Port) (vc : Fin 16) (id : Nat) : (x.timeOut vc id).buf = x.buf := by
  simp only [Port.timeOut]
  split <;> rfl

theorem Port.timeOut_last {x : Port} {vc : Fin 16} {id : Nat} (h : x.openOn vc = some [id]) :
    (x.timeOut vc id).openOn vc = none ∧ vc ∈ (x.timeOut vc id).late := by
  have free : (x.openVc.filter fun e => e.1 != vc).find? (fun e => e.1 == vc) = none := by
    rw [List.find?_eq_none]
    intro e he
    simpa using (List.mem_filter.mp he).2
  simp [Port.timeOut, h]
  simp [Port.openOn, free]

/-- A frame past its timeout closes as truncated and leaves its channel (R244). -/
theorem frameEndTimeout_closes (h : s.openFrameOf k = some f) (hi : f.fidx.isSome = true)
    (ht : f.ts + 1000 * max 10 (s.getN (Fld.ctxFeTmoUs k)) ≤ s.time.ns) : Does (.frameEndTimeout k) s fun u =>
      u = { s with ports := u.ports, frames := u.frames, fields := u.fields } ∧ OtherPortsKept s u f.port ∧
      u.frames = (s.updFrame f.id fun g => { g with truncated := true }).frames ∧
      (u.ports[f.port]).buf = (s.ports[f.port]).buf ++ [.close f.id] ∧
      ((s.ports[f.port]).openOn f.vc = some [f.id] → (u.ports[f.port]).openOn f.vc = none ∧
        f.vc ∈ (u.ports[f.port]).late) := by
  have write : exec (.frameEndTimeout k) s =
      .next (((s.markTruncated [f.id]).updPort f.port fun x => x.timeOut f.vc f.id).bufPush f.port [.close f.id]) := by
    change execFrameEndTimeout k s = _
    rw [execFrameEndTimeout, h, Option.filter_some, if_pos ((State.timedOut_iff h).mpr ⟨hi, ht⟩)]
    rfl
  have keeps := ((IngressKeeps.refl f.port s).markTruncated (ids := [f.id])).updPort (f := fun x => x.timeOut f.vc f.id)
    |>.bufPush (l := [.close f.id])
  refine ⟨_, write, keeps.frame.trans ?_, keeps.other, ?_, ?_, fun ho => ?_⟩
  · simp
  · simp [State.markTruncated_singleton]
  · simp [Port.timeOut_buf]
  · simpa [Port.openOn] using Port.timeOut_last ho

end

end Sys2Proof.Machine
end

section
/-! The long packets, the indices and the timeouts are settled (O31). -/

namespace Sys2Proof.Machine

/-- No line frame stands where no open frame has the type. -/
theorem State.lineFrame_none {s : State} {p : PortId} {vc : Fin 16} {dt : BitVec 6}
    (h : ∀ f ∈ ((s.ports[p].openOn vc).getD []).filterMap s.frame?, f.dt ≠ dt) : s.lineFrame p vc dt = none :=
  List.find?_eq_none.mpr fun f hf => by simpa using h f hf

/-- A line of whole pixel groups, not too long, gives a frame its width. -/
theorem Frame.not_malformed {f : Frame} {w : Nat × Nat × Nat} {n : Nat} (hf : f.width = none) (hg : n % w.1 = 0)
    (hn : n ≤ w.2.2) : f.malformed w n = false := by
  simp [Frame.malformed, hf, hg, Nat.not_lt.mpr hn]

/-- Settles O31: a packet is ignored, an orphan or a line of an open frame by its channel and type; a line, an index and a
timeout each change one frame and one port. -/
theorem packetsAndIndices : Obligations.PacketsAndIndices := by
  unfold Obligations.PacketsAndIndices
  refine ⟨fun s p x hc hp hu hv => ?_, fun s p x hp hc => exec_longPacket_corrected hp hc,
    fun s p mbps id r f k => ⟨frameDescriptorInCore_indexes, exec_frameDescriptorInCore_none, frameEndTimeout_closes,
      exec_frameEndTimeout_early, exec_frameEndTimeout_none⟩⟩
  have write := exec_pixelPacket hc hp hv
  have embedded := exec_embeddedPacket hc hp hv
  refine ⟨fun h => ?_, fun w hw hb => ⟨fun hn => ?_, fun f hf => ⟨fun hd hs hx => ?_, fun hd => ⟨?_, ?_, ?_, ?_, ?_⟩⟩⟩,
    fun ho => ?_, fun all ho hn => ?_, ?_⟩
  · exact does_of_count16 (write.trans (congrArg _ (State.pixels_unbound hu h)))
  · exact does_of_count16 (write.trans (congrArg _ (State.pixels_orphan hu hw hb (State.lineFrame_none hn))))
  · exact (exec_pixelPacket_line hc hp hu hv hw hb hf hs).trans (congrArg _ (State.takeLine_dropping hx hd))
  · exact fun hs => pixelPacket_short hc hp hu hv hw hb hf hs
  · exact fun hs hx hn => pixelPacket_overloads hc hp hu hv hw hb hf hd hs hx hn
  · exact fun hs hx => exec_pixelPacket_crc hc hp hu hv hw hb hf hs hx
  · exact fun hs hx hn hl hm => pixelPacket_malformed hc hp hu hv hw hb hf hd hs hx hn hl ((f.malformed_iff w _).mpr hm)
  · exact fun hs hx hn hl hf' hg hm => pixelPacket_sound hc hp hu hv hw hb hf hd hs hx hn hl (Frame.not_malformed hf' hg hm)
  · exact does_of_count16 (embedded.trans (congrArg _ (State.embedded_orphan hu ho)))
  · exact does_of_count16 (embedded.trans (congrArg _ (State.embedded_ignored hu ho hn)))
  · exact fun id ho f hf he hd hs hx hn => embeddedPacket_captures hc hp hu hv ho hf he hd hs hx hn

end Sys2Proof.Machine
end

section
/-! SUPPORT. What the pixel pipeline may change between its markers: counts of its own, event bits newly set, and the frames,
whose numbers, lines and ends stay. -/

namespace Sys2Proof.Machine

/-! ### The relation -/

/-- What no line of a frame changes: its number, its lines counted and whether it is closed; nor does a truncated frame
become whole. -/
def Frame.Goes (f g : Frame) : Prop :=
  g.id = f.id ∧ g.closed = f.closed ∧ g.y = f.y ∧ (f.truncated = true → g.truncated = true)

/-- `u` has the frames of `s`, gone on, the stored fields of `s` outside `w`, and no event fewer. -/
structure PipeKeeps (w : List Nat) (s u : State) : Prop where
  frames : ∃ g : Frame → Frame, (∀ f : Frame, f.Goes (g f)) ∧ u.frames = s.frames.map g
  fields : ∀ b, b ∉ w → u.getF b = s.getF b
  events : EventsOnly s u
  stays : ∀ (t : TrowelId) (n : Nat), (s.trowels[t]).pending.getLsbD n = true → (u.trowels[t]).pending.getLsbD n = true
  boot : u.boot = s.boot

section
variable {w w' : List Nat} {s u v : State}

theorem Frame.Goes.refl (f : Frame) : f.Goes f := ⟨rfl, rfl, rfl, fun e => e⟩

theorem Frame.Goes.trans {f g h : Frame} (a : f.Goes g) (b : g.Goes h) : f.Goes h := by
  obtain ⟨number, closed, lines, truncated⟩ := a
  obtain ⟨number', closed', lines', truncated'⟩ := b
  exact ⟨number'.trans number, closed'.trans closed, lines'.trans lines, truncated' ∘ truncated⟩

theorem PipeKeeps.refl (w : List Nat) (s : State) : PipeKeeps w s s :=
  ⟨⟨fun f => f, Frame.Goes.refl, (List.map_id _).symm⟩, fun _ _ => rfl, fun _ => rfl, fun _ _ h => h, rfl⟩

theorem PipeKeeps.trans (h : PipeKeeps w s u) (k : PipeKeeps w u v) : PipeKeeps w s v where
  frames := by
    obtain ⟨g, goes, frames⟩ := h.frames
    obtain ⟨g', goes', frames'⟩ := k.frames
    exact ⟨g' ∘ g, fun f => (goes f).trans (goes' _), by rw [frames', frames, List.map_map]⟩
  fields b hb := (k.fields b hb).trans (h.fields b hb)
  events := h.events.trans k.events
  stays t n hn := k.stays t n (h.stays t n hn)
  boot := k.boot.trans h.boot

theorem PipeKeeps.mono (h : PipeKeeps w s u) (hw : w ⊆ w') : PipeKeeps w' s u :=
  { h with fields := fun b hb => h.fields b fun hm => hb (hw hm) }

/-- A frame by its number, gone on. -/
theorem PipeKeeps.frame? (h : PipeKeeps w s u) (id : Nat) :
    ∃ g : Frame → Frame, (∀ f : Frame, f.Goes (g f)) ∧ u.frame? id = (s.frame? id).map g := by
  obtain ⟨g, goes, frames⟩ := h.frames
  exact ⟨g, goes, State.frame?_of_map frames (fun f => (goes f).1) id⟩

/-- A change beside frames, fields and trowels. -/
theorem PipeKeeps.beside (h : PipeKeeps w s u)
    (e : v.frames = u.frames ∧ v.fields = u.fields ∧ v.trowels = u.trowels ∧ v.boot = u.boot) : PipeKeeps w s v := by
  obtain ⟨frames, fields, trowels, boot⟩ := e
  refine h.trans ⟨⟨fun f => f, Frame.Goes.refl, frames.trans (List.map_id _).symm⟩, fun b _ => ?_, fun t => ?_,
    fun t n hn => ?_, boot⟩
  · rw [State.getF, fields, State.getF]
  · rw [trowels]
  · rw [trowels]; exact hn

/-- A change of fields that `w` holds, of event bits and of the black box. -/
theorem PipeKeeps.light (h : PipeKeeps w s u) (k : LightKeeps (· ∈ w) u v) : PipeKeeps w s v :=
  h.trans ⟨⟨fun f => f, Frame.Goes.refl, (congrArg State.frames k.frame).trans (List.map_id _).symm⟩, k.fields, k.events,
    k.stays, (congrArg State.boot k.frame).trans rfl⟩

theorem PipeKeeps.setF (h : PipeKeeps w s u) {a : Nat} {x : Word} (ha : a ∈ w) : PipeKeeps w s (u.setF a x) :=
  h.light (.setF (.refl _ u) ha)

theorem PipeKeeps.setN (h : PipeKeeps w s u) {a n : Nat} (ha : a ∈ w) : PipeKeeps w s (u.setN a n) := h.setF ha

theorem PipeKeeps.countSat (h : PipeKeeps w s u) {b a n : Nat} (ha : a ∈ w) : PipeKeeps w s (u.countSat b a n) := h.setF ha

theorem PipeKeeps.count16 (h : PipeKeeps w s u) {a : Nat} (ha : a ∈ w) : PipeKeeps w s (u.count16 a) := h.setF ha

theorem PipeKeeps.raise (h : PipeKeeps w s u) {t : TrowelId} {n : Nat} : PipeKeeps w s (u.raise t n) :=
  h.light (.raise (.refl _ u))

theorem PipeKeeps.bbEvent (h : PipeKeeps w s u) {n : BitVec 7} {i : Byte} {c : BitVec 16} {x : Word} :
    PipeKeeps w s (u.bbEvent n i c x) := h.beside ⟨rfl, rfl, rfl, rfl⟩

/-- A change of the links and the free values. -/
theorem PipeKeeps.links (h : PipeKeeps w s u) {a : Usb} {b : Fabric} {n : Nat} :
    PipeKeeps w s { u with usb := a, fab := b, fresh := n } := h.beside ⟨rfl, rfl, rfl, rfl⟩

theorem PipeKeeps.firstMark (h : PipeKeeps w s u) : PipeKeeps w s u.firstMark := h.beside (by simp)

theorem PipeKeeps.updFrame (h : PipeKeeps w s u) {id : Nat} {f : Frame → Frame}
    (hf : ∀ x : Frame, x.Goes (f x) := by exact fun _ => ⟨rfl, rfl, rfl, fun e => e⟩) : PipeKeeps w s (u.updFrame id f) :=
  h.trans { PipeKeeps.refl w u with frames := ⟨fun x => if x.id = id then f x else x, fun x => by
    by_cases e : x.id = id
    · simpa [e] using hf x
    · simpa [e] using Frame.Goes.refl x, rfl⟩ }

/-- Either branch of a conditional. -/
theorem PipeKeeps.ite {p : Prop} [Decidable p] (hu : PipeKeeps w s u) (hv : PipeKeeps w s v) :
    PipeKeeps w s (if p then u else v) := by
  split
  · exact hu
  · exact hv

/-- A further change that happens or not. -/
theorem PipeKeeps.maybe {p : Prop} [Decidable p] (h : PipeKeeps w s u) (hv : PipeKeeps w s u → PipeKeeps w s v) :
    PipeKeeps w s (if p then v else u) := .ite (hv h) h

/-- Every step of a fold. -/
theorem PipeKeeps.foldl {β : Type} {f : State → β → State} (hf : ∀ v x, PipeKeeps w s v → PipeKeeps w s (f v x))
    (l : List β) (h : PipeKeeps w s u) : PipeKeeps w s (l.foldl f u) := by
  induction l generalizing u with
  | nil => exact h
  | cons x l ih => exact ih (hf u x h)

/-- A raised event stays pending whatever the pipeline does next. -/
theorem PipeKeeps.raised {t : TrowelId} {n : Nat} (hn : n < 64) (h : PipeKeeps w s u) (k : PipeKeeps w (u.raise t n) v) :
    Raised s v t n := by
  refine ⟨fun hs => k.stays t n ?_, (h.raise.trans k).events⟩
  rw [State.raise_started ((congrArg Boot.started h.boot).trans hs)]
  exact (congrArg (fun x : Trowel => x.pending.getLsbD n) (u.updT_self t _)).trans (Trowel.raise_pending_self _ hn)

end

/-! ### Messages of the raw taps -/

/-- The counts of taps, tile store and fabric that the pipeline may move. -/
def pipeCounts : List Nat := [Fld.decStoreFullCount, Fld.morKindDropCount, Fld.morDupCount, Fld.morReorderDropCount] ++
  (List.finRange 8).map Fld.ctxTapDropCount

theorem ctxTapDropCount_mem : ∀ k : CtxId, Fld.ctxTapDropCount k ∈ pipeCounts := by decide

section
variable {s u : State}

theorem PipeKeeps.receive (h : PipeKeeps pipeCounts s u) {m : MorMsg} : PipeKeeps pipeCounts s (u.receive m).1 := by
  unfold State.receive
  split
  · exact .count16 h (by decide)
  · exact .countSat (.countSat (.links h) (by decide)) (by decide)

theorem PipeKeeps.originate (h : PipeKeeps pipeCounts s u) {d : BitVec 6} {c kind : Byte} {more : Bool} {b : List Byte} :
    PipeKeeps pipeCounts s (u.originate d c kind more b) := by
  unfold State.originate
  split
  · exact h
  · have composed : PipeKeeps pipeCounts s (u.compose d c kind more b).2 := .links h
    exact .ite (.receive composed) (.beside composed (by simp))

theorem PipeKeeps.tapPump (h : PipeKeeps pipeCounts s u) : PipeKeeps pipeCounts s u.tapPump := by
  unfold State.tapPump
  exact .foldl (fun _ _ hv => .foldl (fun _ _ hx => .originate hx) _ hv) _ (.links h)

theorem PipeKeeps.tapPush (h : PipeKeeps pipeCounts s u) {f : Frame} {b : List Byte} :
    PipeKeeps pipeCounts s (u.tapPush f b) := by
  unfold State.tapPush
  exact .tapPump (.links h)

theorem PipeKeeps.tapCut (h : PipeKeeps pipeCounts s u) {id : Nat} : PipeKeeps pipeCounts s (u.tapCut id) := by
  unfold State.tapCut
  split
  · exact h
  next f _ => exact .ite h (.maybe (.count16 (.updFrame h) (ctxTapDropCount_mem f.ctx)) (.tapPush ·))

theorem PipeKeeps.tapLine (h : PipeKeeps pipeCounts s u) {id point l : Nat} {px : List Pixel} :
    PipeKeeps pipeCounts s (u.tapLine id point l px) := by
  unfold State.tapLine
  split
  · exact h
  · refine .ite h (.ite (.updFrame h) (.ite (.tapCut h) (.ite (.tapCut h) (.updFrame (.tapPush (.ite h ?_))))))
    exact .links (.tapPush h)

theorem PipeKeeps.tapEnd (h : PipeKeeps pipeCounts s u) {id : Nat} : PipeKeeps pipeCounts s (u.tapEnd id) := by
  unfold State.tapEnd
  split
  · exact h
  · exact .ite (.tapCut h) (.maybe (.updFrame h) (.tapPush ·))

/-! ### Lines and tile rows -/

theorem PipeKeeps.tileRow (h : PipeKeeps pipeCounts s u) {id : Nat} : PipeKeeps pipeCounts s (u.tileRow id) := by
  unfold State.tileRow
  split
  · exact h
  · have full : PipeKeeps pipeCounts s (u.updFrame id fun f => { f with full := true, truncated := true }) :=
      .updFrame h fun _ => ⟨rfl, rfl, rfl, fun _ => rfl⟩
    exact .ite h (.ite (.maybe (.bbEvent (.count16 full (by decide))) fun g => .firstMark (.raise g)) (.updFrame h))

theorem PipeKeeps.produceLuma (h : PipeKeeps pipeCounts s u) {id r : Nat} : PipeKeeps pipeCounts s (u.produceLuma id r) := by
  unfold State.produceLuma
  split
  · exact h
  · exact .tapLine (.tapLine (.updFrame h))

theorem PipeKeeps.produceBin (h : PipeKeeps pipeCounts s u) {id r : Nat} : PipeKeeps pipeCounts s (u.produceBin id r) := by
  unfold State.produceBin
  split
  · exact h
  · exact .tapLine (.updFrame (.maybe h (.tileRow ·)))

theorem PipeKeeps.produce (h : PipeKeeps pipeCounts s u) {id : Nat} {closing : Bool} :
    PipeKeeps pipeCounts s (u.produce id closing) := by
  unfold State.produce
  split
  · exact h
  · exact .updFrame (.foldl (fun _ _ hv => .produceBin hv) _ (.foldl (fun _ _ hv => .produceLuma hv) _ h))

theorem PipeKeeps.flushFrame (h : PipeKeeps pipeCounts s u) {id : Nat} : PipeKeeps pipeCounts s (u.flushFrame id) :=
  .tapEnd (.produce h)

/-- A whole line counts in its frame; beyond that the pipeline only goes on. -/
theorem State.lineIn_keeps {id : Nat} {f : Frame} (hf : s.frame? id = some f) (px : List Pixel) : ∃ x : Nat,
    PipeKeeps pipeCounts (s.updFrame id fun g => { g with y := f.y + 1, rx1 := x }) (s.lineIn id px) := by
  unfold State.lineIn
  rw [hf]
  exact ⟨_, .ite (.produce (.tapLine (.updFrame (.tapLine (.refl ..))))) (.tapLine (.refl ..))⟩

end

end Sys2Proof.Machine
end

section
/-! SUPPORT. The close of a frame at the pipeline input: its marks, counts and sizes (R242, R245, R266). -/

namespace Sys2Proof.Machine

section
variable {w : List Nat} {s u v : State} {id : Nat} {f : Frame}

/-- The stored fields that a close may move. -/
def closeFields (k : CtxId) : List Nat :=
  [Fld.ctxFrameW k, Fld.ctxFrameH k, Fld.ctxDamagedCount k, Fld.ctxTruncCount k] ++ pipeCounts

theorem closeFields_ne (k : CtxId) : Fld.ctxFrameW k ≠ Fld.ctxFrameH k ∧ Fld.ctxDamagedCount k ≠ Fld.ctxFrameW k ∧
    Fld.ctxDamagedCount k ≠ Fld.ctxFrameH k ∧ Fld.ctxFrameW k ∉ (closeFields k).drop 2 ∧
    Fld.ctxFrameH k ∉ (closeFields k).drop 2 ∧ Fld.ctxDamagedCount k ∉ (closeFields k).drop 3 ∧
    Fld.ctxEnable k ∉ closeFields k := by revert k; decide

theorem pipeCounts_subset (k : CtxId) : pipeCounts ⊆ (closeFields k).drop 3 := List.subset_append_right [Fld.ctxTruncCount k] _

/-- The size of a frame and its FE event. -/
def State.sizeEnd (s : State) (f : Frame) : State :=
  ((s.setN (Fld.ctxFrameW f.ctx) (f.width.getD 0)).setN (Fld.ctxFrameH f.ctx) f.y).feEvent f.ctx

/-- A damaged frame counts, with its event. -/
def State.damageEnd (s : State) (f : Frame) : State :=
  if f.damaged then (s.count16 (Fld.ctxDamagedCount f.ctx)).raise 2 34 else s

/-- A truncated frame counts, with its event and the overload's; the first mark since boot may freeze the black box. -/
def State.truncateEnd (s : State) (f : Frame) : State :=
  let s4 := if f.truncated then (s.count16 (Fld.ctxTruncCount f.ctx)).raise 2 35 else s
  let s5 := if f.overloaded then s4.raise 2 36 else s4
  if f.damaged || f.truncated then s5.firstMark else s5

theorem State.closeFrame_open (hf : s.frame? id = some f) (hc : f.closed = false) : s.closeFrame id =
    ((((s.updFrame id fun g => { g with closed := true }).sizeEnd f).damageEnd f).truncateEnd f).flushFrame id := by
  rw [State.closeFrame, hf]
  exact if_neg (by rw [hc]; decide)

theorem PipeKeeps.damageEnd (h : PipeKeeps w s u) (hd : Fld.ctxDamagedCount f.ctx ∈ w) : PipeKeeps w s (u.damageEnd f) :=
  .maybe h fun h => .raise (.count16 h hd)

/-- A truncated frame, and an overloaded one, raises its event. -/
theorem PipeKeeps.truncateEnd (h : PipeKeeps w s u) (ht : Fld.ctxTruncCount f.ctx ∈ w) : PipeKeeps w s (u.truncateEnd f) ∧
    ∀ v, PipeKeeps w (u.truncateEnd f) v →
      (f.truncated = true → Raised s v 2 35) ∧ (f.overloaded = true → Raised s v 2 36) := by
  have truncated : PipeKeeps w s (if f.truncated then (u.count16 (Fld.ctxTruncCount f.ctx)).raise 2 35 else u) :=
    .maybe h fun h => .raise (.count16 h ht)
  refine ⟨.maybe (.maybe truncated (.raise ·)) (.firstMark ·), fun v k => ⟨fun e => ?_, fun e => ?_⟩⟩
  · have rest : PipeKeeps w ((u.count16 (Fld.ctxTruncCount f.ctx)).raise 2 35) (u.truncateEnd f) := by
      rw [State.truncateEnd, if_pos e]
      exact .maybe (.maybe (.refl ..) (.raise ·)) (.firstMark ·)
    exact PipeKeeps.raised (by decide) (.count16 h ht) (rest.trans k)
  · have rest : PipeKeeps w ((if f.truncated then (u.count16 (Fld.ctxTruncCount f.ctx)).raise 2 35 else u).raise 2 36)
        (u.truncateEnd f) := by
      rw [State.truncateEnd, if_pos e]
      exact .maybe (.refl ..) (.firstMark ·)
    exact truncated.raised (by decide) (rest.trans k)

/-- What the marks, the size and the delayed lines of a closed frame leave. -/
theorem State.closeEnd_does (s : State) (f : Frame) (id : Nat) {u : State}
    (hu : (((s.sizeEnd f).damageEnd f).truncateEnd f).flushFrame id = u) : PipeKeeps (closeFields f.ctx) s u ∧
    Raised s u 2 (24 + f.ctx.val) ∧ u.getF (Fld.ctxFrameW f.ctx) = BitVec.ofNat 32 (f.width.getD 0) ∧
    u.getF (Fld.ctxFrameH f.ctx) = BitVec.ofNat 32 f.y ∧
    (f.damaged = true → Raised s u 2 34 ∧
      u.getN (Fld.ctxDamagedCount f.ctx) = min 65535 (s.getN (Fld.ctxDamagedCount f.ctx) + 1)) ∧
    (f.truncated = true → Raised s u 2 35) ∧ (f.overloaded = true → Raised s u 2 36) := by
  obtain ⟨sizes, notWidth, notHeight, widthKept, heightKept, damagedKept, -⟩ := closeFields_ne f.ctx
  have sub2 := List.drop_subset 2 (closeFields f.ctx)
  have sub3 := List.drop_subset 3 (closeFields f.ctx)
  have damagedIn : Fld.ctxDamagedCount f.ctx ∈ (closeFields f.ctx).drop 2 := List.mem_cons_self
  have truncIn : Fld.ctxTruncCount f.ctx ∈ (closeFields f.ctx).drop 3 := List.mem_cons_self
  have flush (v : State) : PipeKeeps ((closeFields f.ctx).drop 3) v (v.flushFrame id) :=
    (PipeKeeps.flushFrame (.refl _ v)).mono (pipeCounts_subset f.ctx)
  have late (v : State) : PipeKeeps ((closeFields f.ctx).drop 3) v ((v.truncateEnd f).flushFrame id) :=
    (PipeKeeps.truncateEnd (.refl _ v) truncIn).1.trans (flush _)
  have size : PipeKeeps (closeFields f.ctx) s
      ((s.setN (Fld.ctxFrameW f.ctx) (f.width.getD 0)).setN (Fld.ctxFrameH f.ctx) f.y) :=
    .setN (.setN (.refl ..) List.mem_cons_self) (List.mem_cons_of_mem _ List.mem_cons_self)
  have ended : PipeKeeps (closeFields f.ctx) s (s.sizeEnd f) := size.raise
  have marked : PipeKeeps ((closeFields f.ctx).drop 2) (s.sizeEnd f) ((s.sizeEnd f).damageEnd f) :=
    .damageEnd (.refl ..) damagedIn
  have tail : PipeKeeps ((closeFields f.ctx).drop 2) (s.sizeEnd f) u :=
    hu ▸ marked.trans ((late _).mono (List.drop_subset_drop_left _ (by decide)))
  obtain ⟨truncated, overloaded⟩ :=
    (PipeKeeps.truncateEnd (f := f) (ended.trans (marked.mono sub2)) (sub3 truncIn)).2 u (hu ▸ (flush _).mono sub3)
  have damaged (hd : f.damaged = true) : PipeKeeps ((closeFields f.ctx).drop 3)
      (((s.sizeEnd f).count16 (Fld.ctxDamagedCount f.ctx)).raise 2 34) u := by
    have counted := late (((s.sizeEnd f).count16 (Fld.ctxDamagedCount f.ctx)).raise 2 34)
    rw [State.damageEnd, if_pos hd] at hu
    exact hu ▸ counted
  refine ⟨ended.trans (tail.mono sub2), size.raised (by omega) (tail.mono sub2), ?_, ?_, fun hd => ⟨?_, ?_⟩, truncated,
    overloaded⟩
  · rw [tail.fields _ widthKept, State.sizeEnd, State.feEvent, State.getF_raise, State.setN, State.getF_setF_of_ne _ sizes,
      State.setN, State.getF_setF_self]
  · rw [tail.fields _ heightKept, State.sizeEnd, State.feEvent, State.getF_raise, State.setN, State.getF_setF_self]
  · exact PipeKeeps.raised (by decide) (ended.count16 (sub2 damagedIn)) ((damaged hd).mono sub3)
  · rw [State.getN_of_getF (((damaged hd).fields _ damagedKept).trans (State.getF_raise ..)), State.getN_count16_self,
      State.sizeEnd, State.feEvent, State.getN, State.getF_raise, State.setN, State.getF_setF_of_ne _ notHeight, State.setN,
      State.getF_setF_of_ne _ notWidth, State.getN]

/-- What a close leaves of an open frame. -/
theorem State.closeFrame_does (hf : s.frame? id = some f) (hc : f.closed = false) (hu : s.closeFrame id = u) :
    PipeKeeps (closeFields f.ctx) (s.updFrame id fun g => { g with closed := true }) u ∧
    Raised s u 2 (24 + f.ctx.val) ∧ u.getF (Fld.ctxFrameW f.ctx) = BitVec.ofNat 32 (f.width.getD 0) ∧
    u.getF (Fld.ctxFrameH f.ctx) = BitVec.ofNat 32 f.y ∧
    (f.damaged = true → Raised s u 2 34 ∧
      u.getN (Fld.ctxDamagedCount f.ctx) = min 65535 (s.getN (Fld.ctxDamagedCount f.ctx) + 1)) ∧
    (f.truncated = true → Raised s u 2 35) ∧ (f.overloaded = true → Raised s u 2 36) :=
  State.closeEnd_does (s.updFrame id fun g => { g with closed := true }) f id ((State.closeFrame_open hf hc).symm.trans hu)

end

end Sys2Proof.Machine
end

section
/-! SUPPORT. The enables of the contexts, the locator and the decode cluster (R115, R268, R309). -/

namespace Sys2Proof.Machine

/-! ### Contexts -/

section
variable {s u : State} {k : CtxId} {v : Word} {f : Frame}

/-- The context of its enable field, which is no high-water mark. -/
theorem ctxOf_enable (k : CtxId) : Fin.ofNat 8 ((Fld.ctxEnable k - 0x4800) / 0x100) = k ∧
    ∀ p : PortId, Fld.ctxEnable k ≠ Fld.csiBufHwm p := by revert k; decide

/-- `u` is `s` with another black box. -/
def BoxKeeps (s u : State) : Prop := ∃ b : BlackBox, u = { s with bb := b }

theorem BoxKeeps.refl (s : State) : BoxKeeps s s := ⟨s.bb, rfl⟩

theorem BoxKeeps.bbEvent (h : BoxKeeps s u) {n : BitVec 7} {i : Byte} {c : BitVec 16} {x : Word} :
    BoxKeeps s (u.bbEvent n i c x) := by
  obtain ⟨b, rfl⟩ := h
  exact ⟨_, rfl⟩

theorem BoxKeeps.ite {p : Prop} [Decidable p] {v : State} (hu : BoxKeeps s u) (hv : BoxKeeps s v) :
    BoxKeeps s (if p then u else v) := by
  split
  · exact hu
  · exact hv

/-- The event of a context bound as others are (R235). -/
def State.alikeEvent (s : State) (k : CtxId) : State :=
  match (s.bindAlike k).head? with
  | some j =>
    if 2 ≤ (s.bindAlike k).length ∧ s.badBinding k = false then
      s.bbEvent 0x08#7 (BitVec.ofNat 8 k.val) 0x0001#16 (BitVec.ofNat 32 j.val)
    else s
  | none => s

/-- CTX.ENABLE = 1 sets its field, with black-box events at most. -/
theorem State.ctxNow_on (hv : v.getLsbD 0 = true) :
    BoxKeeps (s.setF (Fld.ctxEnable k) v) (s.ctxNow (Fld.ctxEnable k) v) := by
  simp only [State.ctxNow, (ctxOf_enable k).1, ne_eq, not_true, if_false, hv, if_true]
  have alike : BoxKeeps (s.setF (Fld.ctxEnable k) v) ((s.setF (Fld.ctxEnable k) v).alikeEvent k) := by
    unfold State.alikeEvent
    split
    · exact .ite (.bbEvent (.refl _)) (.refl _)
    · exact .refl _
  exact .ite (.refl _) (.ite (.bbEvent (.ite (.bbEvent alike) alike)) (.ite (.bbEvent alike) alike))

/-- CTX.ENABLE = 0 lets the writes of its set take effect and ends its open frames (R115, R268). -/
theorem State.ctxNow_off (hv : v.getLsbD 0 = false) : s.ctxNow (Fld.ctxEnable k) v =
    (s.frames.filter fun f => f.ctx == k && !f.closed).foldl State.endFrame
      ((s.setF (Fld.ctxEnable k) v).applyPending (·.set == .ctx k)) := by
  simp only [State.ctxNow, (ctxOf_enable k).1, ne_eq, not_true, if_false, hv]
  rfl

/-- Pending writes of other fields, of those that are left, leave a field alone. -/
theorem State.getF_applyStopped_of_subset {a : Nat} (hs : u.shadow ⊆ s.shadow) (hp : ∀ q ∈ s.shadow, q.addr ≠ a) :
    u.applyStopped.getF a = u.getF a := State.getF_applyPending fun q hq _ => hp q (hs hq)

/-- A frame whose start has not reached the pipeline is marked, and closes behind its start (R268). -/
theorem State.endFrame_waiting (hw : f.started = false) (hu : s.endFrame f = u) : IngressKeeps f.port s u ∧
    u.nextFrame = s.nextFrame ∧ u.shadow = s.shadow ∧ (∀ b, b ≠ Fld.csiBufHwm f.port → u.getF b = s.getF b) ∧
    u.frames = (s.updFrame f.id fun g => { g with truncated := true, dropping := true }).frames := by
  rw [State.endFrame, hw] at hu
  rw [← hu]
  refine ⟨.bufPush (.updFrame (.updPort (.markTruncated (.refl ..)))), by simp, by simp, fun b hb => ?_, ?_⟩
  · exact State.getF_bufPush _ hb _
  · have twice := s.updFrame_updFrame f.id (f := fun g => { g with truncated := true })
      (g := fun g => { g with dropping := true }) fun _ => rfl
    simpa [State.markTruncated_singleton] using congrArg State.frames twice

/-- A frame in the pipeline closes at once, as truncated, and leaves its channel (R268). -/
theorem State.endFrame_started (hw : f.started = true) (hf : s.frame? f.id = some f) (hc : f.closed = false)
    (hu : s.endFrame f = u) : Raised s u 2 (24 + f.ctx.val) ∧ (∀ b, b ∉ closeFields f.ctx → u.getF b = s.getF b) ∧
    (u.ports[f.port]).openVc = (s.ports[f.port]).openVc.map (fun e => (e.1, e.2.filter (· != f.id))) ∧
    ∃ g : Frame → Frame, (∀ f : Frame, f.Goes (g f)) ∧
      u.frames = (s.updFrame f.id fun g => { g with truncated := true, closed := true }).frames.map g := by
  rw [State.endFrame, if_pos hw] at hu
  have marked : ((s.markTruncated [f.id]).updPort f.port fun x =>
      { x with openVc := x.openVc.map fun e => (e.1, e.2.filter (· != f.id)) }).frame? f.id =
        some { f with truncated := true } := by
    rw [State.frame?_of_map (s := s) (g := fun x => if x.id = f.id then { x with truncated := true } else x)
      (by simp [State.markTruncated_singleton]) fun x => by split <;> rfl, hf]
    simp
  obtain ⟨⟨⟨g, goes, frames⟩, fields, -, -, -⟩, raised, -⟩ := State.closeFrame_does marked hc hu
  refine ⟨raised, fields, by simp [← hu], g, goes, frames.trans (congrArg (List.map g) ?_)⟩
  have twice := s.updFrame_updFrame f.id (f := fun g => { g with truncated := true })
    (g := fun g => { g with closed := true }) fun _ => rfl
  simpa [State.markTruncated_singleton] using congrArg State.frames twice

section
variable {t : TrowelId} (h : Takes s t (Fld.ctxEnable k)) (hp : ∀ q ∈ s.shadow, q.addr ≠ Fld.ctxEnable k)
include h

include hp in
/-- CTX.ENABLE = 1 starts the context. -/
theorem ctxEnableWrite_on (hv : v.getLsbD 0 = true) : Does (.ctxEnableWrite t k v) s fun u =>
    u = { s with fields := u.fields, shadow := u.shadow, bb := u.bb } ∧ FieldsKept s u [Fld.ctxEnable k] ∧
    u.enabledAt (Fld.ctxEnable k) = true := by
  have write := exec_ctxEnableWrite_taken (v := v) h
  obtain ⟨b, now⟩ := State.ctxNow_on (s := s) (k := k) ((getLsbD_and_one v).trans hv)
  rw [now] at write
  refine ⟨_, write, rfl, State.applyStopped_fieldsKept rfl fun b hb => ?_, ?_⟩
  · exact s.getF_setF_of_ne (by simpa using hb) _
  · refine (State.enabledAt_of_write h (by simp) (by simp) ?_).trans hv
    exact (State.getF_applyStopped (s := s) (u := { s.setF (Fld.ctxEnable k) (v &&& 1) with bb := b }) rfl hp).trans
      (s.getF_setF_self ..)

include hp in
/-- CTX.ENABLE = 0 of a context with no open frame (R115). -/
theorem ctxEnableWrite_off (hv : v.getLsbD 0 = false) (hn : ∀ g ∈ s.frames, g.ctx = k → g.closed = true) :
    Does (.ctxEnableWrite t k v) s fun u =>
      u = { s with fields := u.fields, shadow := u.shadow } ∧ FieldsKept s u [Fld.ctxEnable k] ∧
      u.enabledAt (Fld.ctxEnable k) = false := by
  have write := exec_ctxEnableWrite_taken (v := v) h
  have none : s.frames.filter (fun f => f.ctx == k && !f.closed) = [] :=
    List.filter_eq_nil_iff.mpr fun g hg => by
      simpa using hn g hg
  rw [State.ctxNow_off ((getLsbD_and_one v).trans hv), none] at write
  have kept (b : Nat) (hb : ∀ q ∈ s.shadow, q.addr ≠ b) :
      (((s.setF (Fld.ctxEnable k) (v &&& 1)).applyPending (·.set == .ctx k)).applyStopped).getF b =
        (s.setF (Fld.ctxEnable k) (v &&& 1)).getF b :=
    (State.getF_applyStopped_of_subset (List.filter_subset_self _) hb).trans (State.getF_applyPending fun q hq _ => hb q hq)
  refine ⟨_, write, rfl, fun b hb hq => ?_, ?_⟩
  · exact (kept b hq).trans (s.getF_setF_of_ne (by simpa using hb) _)
  · exact (State.enabledAt_of_write h (by simp) (by simp) ((kept _ hp).trans (s.getF_setF_self ..))).trans hv

section
variable (hv : v.getLsbD 0 = false) (hs : s.frames = [f]) (hk : f.ctx = k) (hc : f.closed = false)
include hv hs hk hc

/-- The one frame of a context that stops ends with it. -/
theorem exec_ctxEnableWrite_frame : exec (.ctxEnableWrite t k v) s =
    .next (((s.setF (Fld.ctxEnable k) (v &&& 1)).applyPending (·.set == .ctx k)).endFrame f).applyStopped := by
  have one : s.frames.filter (fun f => f.ctx == k && !f.closed) = [f] := by simp [hs, hk, hc]
  rw [exec_ctxEnableWrite_taken h, State.ctxNow_off ((getLsbD_and_one v).trans hv), one]
  rfl

include hp

omit hs hk hc in
/-- The enable of a context whose one frame has ended with it. -/
theorem State.enabledAt_ended {y : State} (hi : y.identity = s.identity) (hy : y.sys = s.sys)
    (hd : y.shadow = (s.applyPending (·.set == .ctx k)).shadow)
    (hg : y.getF (Fld.ctxEnable k) = ((s.setF (Fld.ctxEnable k) (v &&& 1)).applyPending (·.set == .ctx k)).getF
      (Fld.ctxEnable k)) : y.applyStopped.enabledAt (Fld.ctxEnable k) = false := by
  refine (State.enabledAt_of_write (u := y.applyStopped) h hi hy ?_).trans hv
  have applied := State.getF_applyPending (s := s.setF (Fld.ctxEnable k) (v &&& 1)) (sel := (·.set == .ctx k))
    fun q hq _ => hp q hq
  rw [State.getF_applyStopped_of_subset (s := s) (hd ▸ List.filter_subset_self _) hp, hg, applied, State.getF_setF_self]

/-- CTX.ENABLE = 0 marks a frame whose start has not reached the pipeline (R268). -/
theorem ctxEnableWrite_marks (hw : f.started = false) : Does (.ctxEnableWrite t k v) s fun u =>
    u = { s with fields := u.fields, shadow := u.shadow, frames := u.frames, ports := u.ports } ∧
    u.enabledAt (Fld.ctxEnable k) = false ∧ u.frames = [{ f with truncated := true, dropping := true }] := by
  have write := exec_ctxEnableWrite_frame h hv hs hk hc
  generalize hy : ((s.setF (Fld.ctxEnable k) (v &&& 1)).applyPending (·.set == .ctx k)).endFrame f = y at write
  obtain ⟨keeps, next, shadow, fields, frames⟩ := State.endFrame_waiting hw hy
  have same : y.identity = s.identity ∧ y.sys = s.sys := by simp [← hy]
  obtain ⟨identity, sys⟩ := same
  replace keeps := ((IngressKeeps.applyPending (.setF (.refl f.port s))).trans keeps).applyStopped
  refine ⟨_, write, keeps.frame.trans (by simp [next]), ?_, ?_⟩
  · exact State.enabledAt_ended h hp hv identity sys shadow (fields _ ((ctxOf_enable k).2 f.port))
  · exact frames.trans (by simp [hs])

/-- CTX.ENABLE = 0 closes the open frame of the context as truncated (R268). -/
theorem ctxEnableWrite_closes (hw : f.started = true) : Does (.ctxEnableWrite t k v) s fun u =>
    Raised s u 2 (24 + k.val) ∧ u.enabledAt (Fld.ctxEnable k) = false ∧ CoreFrame s u ∧ LightFrame s u ∧
    (∀ g ∈ u.frames, g.closed = true ∧ g.truncated = true ∧ g.id = f.id) ∧
    (u.ports[f.port]).openVc = (s.ports[f.port]).openVc.map fun e => (e.1, e.2.filter (· != f.id)) := by
  have write := exec_ctxEnableWrite_frame h hv hs hk hc
  generalize hy : ((s.setF (Fld.ctxEnable k) (v &&& 1)).applyPending (·.set == .ctx k)).endFrame f = y at write
  have open_ : ((s.setF (Fld.ctxEnable k) (v &&& 1)).applyPending (·.set == .ctx k)).frame? f.id = some f := by
    simp [State.frame?, hs]
  obtain ⟨raised, fields, ports, g, goes, frames⟩ := State.endFrame_started hw open_ hc hy
  have same : y.identity = s.identity ∧ y.sys = s.sys ∧ y.shadow = (s.applyPending (·.set == .ctx k)).shadow := by
    simp [← hy]
    rfl
  obtain ⟨identity, sys, shadow⟩ := same
  have enable : Fld.ctxEnable k ∉ closeFields f.ctx := by
    obtain ⟨-, -, -, -, -, -, kept⟩ := closeFields_ne f.ctx
    exact hk ▸ kept
  refine ⟨_, write, hk ▸ raised, State.enabledAt_ended h hp hv identity sys shadow (fields _ enable), ?_, ?_, ?_, ports⟩
  · constructor <;> simp [← hy]
  · constructor <;> simp [← hy]
  · have one : y.frames = [g { f with truncated := true, closed := true }] := frames.trans (by simp [hs])
    obtain ⟨number, closed, -, truncated⟩ := goes { f with truncated := true, closed := true }
    rw [show y.applyStopped.frames = _ from one]
    simp [number, closed, truncated]

end
end

end

end Sys2Proof.Machine
end

section
/-! SUPPORT. The enables of the locator and the decode cluster (R309). -/

namespace Sys2Proof.Machine

section
variable {s u v : State} {t : TrowelId} {x : Word}

theorem locEnableWrite_does (h : Takes s t Fld.locEnable) (hp : ∀ q ∈ s.shadow, q.addr ≠ Fld.locEnable) :
    Does (.locEnableWrite t x) s fun u =>
      u = { s with fields := u.fields, shadow := u.shadow } ∧ FieldsKept s u [Fld.locEnable] ∧
      u.getF Fld.locEnable = x &&& 1 := by
  refine ⟨_, exec_locEnableWrite_taken h, rfl, State.applyStopped_fieldsKept rfl fun b hb => ?_, ?_⟩
  · exact s.getF_setF_of_ne (by simpa using hb) _
  · exact (State.getF_applyStopped (s := s) (u := s.setF Fld.locEnable (x &&& 1)) rfl hp).trans (s.getF_setF_self ..)

/-! ### Candidates that fail -/

/-- `u` differs from `s` in frames and stored fields alone, and not in DEC.ENABLE. -/
structure FailKeeps (s u : State) : Prop where
  frame : u = { s with fields := u.fields, frames := u.frames }
  enable : u.getF Fld.decEnable = s.getF Fld.decEnable

theorem FailKeeps.trans (h : FailKeeps s u) (g : FailKeeps u v) : FailKeeps s v :=
  ⟨g.frame.trans (congrArg (fun y : State => { y with fields := v.fields, frames := v.frames }) h.frame),
    g.enable.trans h.enable⟩

theorem State.failCandidate_keeps (s : State) (c : Candidate) : FailKeeps s (s.failCandidate c) := by
  unfold State.failCandidate
  split
  · exact ⟨rfl, s.getF_count16_of_ne (by decide)⟩
  · exact ⟨rfl, s.getF_setF_of_ne (by decide) _⟩

theorem FailKeeps.fold (s : State) (l : List Candidate) : FailKeeps s (l.foldl State.failCandidate s) := by
  induction l generalizing s with
  | nil => exact ⟨rfl, rfl⟩
  | cons c l ih => exact (s.failCandidate_keeps c).trans (ih _)

/-- A core whose candidate fails is free. -/
def Core.stop : Core → Core
  | .busy _ => .free
  | c => c

theorem Core.stop_ne_busy (x : Core) (c : Candidate) : x.stop ≠ .busy c := by cases x <;> nofun

/-- The candidates that wait for a core or have one. -/
def State.decHeld (s : State) : List Candidate :=
  s.dec.ready ++ s.dec.cores.toList.filterMap fun c => match c with
    | .busy c => some c
    | _ => none

theorem State.decStop_eq (s : State) : s.decStop =
    let y := s.decHeld.foldl State.failCandidate s
    { y with dec := { y.dec with
      ready := [], jxFrame := [], jxWait := [], jxIn := [], cores := y.dec.cores.map Core.stop } } := rfl

/-- A decode cluster that stops fails what it holds (R309). -/
theorem State.decStop_does (s : State) {u : State} (hu : s.decStop = u) :
    u = { s with fields := u.fields, frames := u.frames, dec := u.dec } ∧
    u.getF Fld.decEnable = s.getF Fld.decEnable ∧ u.dec.ready = [] ∧ u.dec.jxIn = [] ∧ u.dec.jxWait = [] ∧
    u.dec.jxFrame = [] ∧ (∀ (i : Fin 16) (c : Candidate), u.dec.cores[i] ≠ .busy c) ∧
    u.dec.notices = s.dec.notices ∧ u.dec.retired = s.dec.retired := by
  have kept := FailKeeps.fold s s.decHeld
  rw [State.decStop_eq] at hu
  generalize s.decHeld.foldl State.failCandidate s = y at hu kept
  have cluster : y.dec = s.dec := (congrArg State.dec kept.frame).trans rfl
  rw [← hu]
  refine ⟨?_, kept.enable, rfl, rfl, rfl, rfl, fun i c => ?_, ?_, ?_⟩
  · exact congrArg (fun z : State => { z with dec := { y.dec with
      ready := [], jxFrame := [], jxWait := [], jxIn := [], cores := y.dec.cores.map Core.stop } }) kept.frame
  · simpa using Core.stop_ne_busy _ c
  · exact congrArg (·.notices) cluster
  · exact congrArg (·.retired) cluster

/-- DEC.ENABLE = 1 only sets its field. -/
theorem State.decNow_on (hv : x.getLsbD 0 = true) : s.decNow Fld.decEnable x = s.setF Fld.decEnable x := by
  simp [State.decNow, hv]

/-- DEC.ENABLE = 0 stops a cluster that runs (R309). -/
theorem State.decNow_off (hv : x.getLsbD 0 = false) (he : s.enabledAt Fld.decEnable = true) :
    s.decNow Fld.decEnable x = (s.setF Fld.decEnable x).decStop := by
  simp [State.decNow, -BitVec.getLsbD_eq_getElem, hv, he]

section
variable (h : Takes s t Fld.decEnable) (hp : ∀ q ∈ s.shadow, q.addr ≠ Fld.decEnable)
include h hp

theorem decEnableWrite_on (hv : x.getLsbD 0 = true) : Does (.decEnableWrite t x) s fun u =>
    u = { s with fields := u.fields, shadow := u.shadow } ∧ FieldsKept s u [Fld.decEnable] ∧
    u.enabledAt Fld.decEnable = true := by
  have write := exec_decEnableWrite_taken (v := x) h
  rw [State.decNow_on ((getLsbD_and_one x).trans hv)] at write
  refine ⟨_, write, rfl, State.applyStopped_fieldsKept rfl fun b hb => ?_, ?_⟩
  · exact s.getF_setF_of_ne (by simpa using hb) _
  · refine (State.enabledAt_of_write h (by simp) (by simp) ?_).trans hv
    exact (State.getF_applyStopped (s := s) (u := s.setF Fld.decEnable (x &&& 1)) rfl hp).trans (s.getF_setF_self ..)

/-- DEC.ENABLE = 0 fails what the cluster holds (R309). -/
theorem decEnableWrite_off (hv : x.getLsbD 0 = false) (he : s.enabledAt Fld.decEnable = true) :
    Does (.decEnableWrite t x) s fun u =>
      u = { s with fields := u.fields, shadow := u.shadow, frames := u.frames, dec := u.dec } ∧
      u.enabledAt Fld.decEnable = false ∧ u.dec.ready = [] ∧ u.dec.jxIn = [] ∧ u.dec.jxWait = [] ∧ u.dec.jxFrame = [] ∧
      (∀ (i : Fin 16) (c : Candidate), u.dec.cores[i] ≠ .busy c) ∧ u.dec.notices = s.dec.notices ∧
      u.dec.retired = s.dec.retired := by
  have write := exec_decEnableWrite_taken (v := x) h
  rw [State.decNow_off ((getLsbD_and_one x).trans hv) he] at write
  generalize hy : (s.setF Fld.decEnable (x &&& 1)).decStop = y at write
  obtain ⟨frame, enable, cluster⟩ := State.decStop_does _ hy
  have same : y.identity = s.identity ∧ y.sys = s.sys ∧ y.shadow = s.shadow := by simp [← hy]
  obtain ⟨identity, sys, shadow⟩ := same
  refine ⟨_, write, ?_, ?_, cluster⟩
  · exact Eq.trans (b := { y with fields := y.applyStopped.fields, shadow := y.applyStopped.shadow }) rfl
      (congrArg (fun z : State => { z with fields := y.applyStopped.fields, shadow := y.applyStopped.shadow }) frame)
  · refine (State.enabledAt_of_write (u := y.applyStopped) h identity sys ?_).trans hv
    exact (State.getF_applyStopped shadow hp).trans (enable.trans (s.getF_setF_self ..))

end

end

end Sys2Proof.Machine
end

section
/-! SUPPORT. The slices that the pipeline takes from the ports (R245, R262, R264, R267). -/

namespace Sys2Proof.Machine

section
variable {s u : State} {p : PortId} {id n taken : Nat} {f : Frame} {r : List BufItem} {b : List Byte}

/-- A changed frame by its number. -/
theorem State.frame?_updFrame (hf : s.frame? id = some f) {g : Frame → Frame} (hg : ∀ x : Frame, (g x).id = x.id) :
    (s.updFrame id g).frame? id = some (g f) := by
  rw [State.frame?_of_map (s := s) (g := fun x => if x.id = id then g x else x) rfl fun x => by split <;> simp [hg], hf]
  simp [State.id_of_frame? hf]

/-- `u` is `x` with frame `id` started, and with other contexts and another black box. -/
def Begins (id : Nat) (x u : State) : Prop := ∃ (g : Frame → Frame) (c : Vector Ctx 8) (b : BlackBox),
  u = { x.updFrame id g with ctxs := c, bb := b } ∧ ∀ f : Frame, (g f).id = f.id ∧ (g f).started = true

theorem Begins.ite {p : Prop} [Decidable p] {x v : State} (hu : Begins id x u) (hv : Begins id x v) :
    Begins id x (if p then u else v) := by
  split
  · exact hu
  · exact hv

/-- A start of an open frame: the boundary of its context's set, the FS events, and the frame marked as started (R262, R267). -/
theorem State.startFrame_begins (hf : s.frame? id = some f) (hc : f.closed = false) (hs : f.started = false) :
    Begins id ((s.applyBoundary (·.set == .ctx f.ctx)).fsEvent f.ctx) (s.startFrame id) := by
  have open_ : ¬ (f.closed || f.started) = true := by simp [hc, hs]
  rw [State.startFrame, hf]
  refine Eq.mpr (congrArg (Begins id _) (if_neg open_)) ?_
  exact .ite ⟨_, _, _, rfl, fun _ => ⟨rfl, rfl⟩⟩ ⟨_, _, _, rfl, fun _ => ⟨rfl, rfl⟩⟩

/-! ### The turn -/

/-- A port has its turn only with a slice to give (R264). -/
theorem State.servable_of_nextPort (h : s.nextPort = some p) : s.servable p = true := List.find?_some h

theorem exec_pipelineSlice_idle (h : s.nextPort ≠ some p) : exec (.pipelineSlice p) s = .next s :=
  congrArg Host.Outcome.next (if_pos h)

theorem exec_pipelineSlice_unservable (h : s.servable p = false) : exec (.pipelineSlice p) s = .next s :=
  exec_pipelineSlice_idle fun e => nomatch h.symm.trans (State.servable_of_nextPort e)

theorem ctxPixCount_notMem : ∀ k : CtxId, Fld.ctxPixCount k ∉ pipeCounts := by decide

/-- The next turn, with the slice taken out of the buffer of port `p`. -/
def State.takeSlice (s : State) (p : PortId) (r : List BufItem) : State :=
  ({ s with pipe := ⟨p + 1⟩ } : State).updPort p fun x => { x with buf := r }

theorem State.takeSlice_ports (s : State) (p : PortId) (r : List BufItem) :
    (s.takeSlice p r).ports = s.ports.set p.val { s.ports[p] with buf := r } p.isLt := rfl

theorem State.takeSlice_self (s : State) (p : PortId) (r : List BufItem) :
    (s.takeSlice p r).ports[p] = { s.ports[p] with buf := r } := State.updPort_self ..

theorem State.takeSlice_other (s : State) (p : PortId) (r : List BufItem) : OtherPortsKept s (s.takeSlice p r) p :=
  .updPort (s := s) (u := { s with pipe := ⟨p + 1⟩ }) (.refl s p)

theorem State.serve_emb (hb : s.ports[p].buf = .emb n :: r) : s.serve p = s.updPort p fun x => { x with buf := r } := by
  rw [State.serve, hb]

theorem State.serve_fs (hb : s.ports[p].buf = .fs [id] :: r) :
    s.serve p = (s.updPort p fun x => { x with buf := r }).frameIn id := by
  rw [State.serve, hb]
  rfl

theorem State.serve_fe (hb : s.ports[p].buf = .fe [id] :: r) :
    s.serve p = (s.updPort p fun x => { x with buf := r }).closeFrame id := by
  rw [State.serve, hb]
  rfl

theorem State.serve_line (hb : s.ports[p].buf = .line id b taken :: r) (hf : s.frame? id = some f) (hc : f.closed = false)
    (hi : f.fidx.isSome = true) {m : Nat} (hm : min 64 ((unpackLine f.dt (f.width.getD 0) b).length - taken) = m) :
    s.serve p = if taken + m < (unpackLine f.dt (f.width.getD 0) b).length then
      ((s.updPort p fun x => { x with buf := r }).countWrap (Fld.ctxPixCount f.ctx) m).updPort p fun x =>
        { x with buf := .line id b (taken + m) :: r }
      else ((s.updPort p fun x => { x with buf := r }).countWrap (Fld.ctxPixCount f.ctx) m).lineIn id
        (unpackLine f.dt (f.width.getD 0) b) := by
  have index : f.fidx.isNone = false := by simpa using hi
  rw [State.serve, hb]
  simp only [hf, hc, index, hm]
  rfl

section
variable (hn : s.nextPort = some p)
include hn

theorem exec_pipelineSlice_turn : exec (.pipelineSlice p) s = .next (({ s with pipe := ⟨p + 1⟩ } : State).serve p) :=
  congrArg Host.Outcome.next (if_neg (not_not.mpr hn))

theorem exec_pipelineSlice_emb (hb : s.ports[p].buf = .emb n :: r) :
    exec (.pipelineSlice p) s = .next (s.takeSlice p r) :=
  (exec_pipelineSlice_turn hn).trans (congrArg _ (State.serve_emb hb))

theorem exec_pipelineSlice_fs (hb : s.ports[p].buf = .fs [id] :: r) :
    exec (.pipelineSlice p) s = .next ((s.takeSlice p r).frameIn id) :=
  (exec_pipelineSlice_turn hn).trans (congrArg _ (State.serve_fs hb))

theorem exec_pipelineSlice_fe (hb : s.ports[p].buf = .fe [id] :: r) :
    exec (.pipelineSlice p) s = .next ((s.takeSlice p r).closeFrame id) :=
  (exec_pipelineSlice_turn hn).trans (congrArg _ (State.serve_fe hb))

/-- Up to 64 pixels of a line go on; the rest of the line waits (R264). -/
theorem exec_pipelineSlice_line (hb : s.ports[p].buf = .line id b taken :: r) (hf : s.frame? id = some f)
    (hc : f.closed = false) (hi : f.fidx.isSome = true) {m : Nat}
    (hm : min 64 ((unpackLine f.dt (f.width.getD 0) b).length - taken) = m) : exec (.pipelineSlice p) s =
      .next (if taken + m < (unpackLine f.dt (f.width.getD 0) b).length then
        ((s.takeSlice p r).countWrap (Fld.ctxPixCount f.ctx) m).updPort p fun x =>
          { x with buf := .line id b (taken + m) :: r }
        else ((s.takeSlice p r).countWrap (Fld.ctxPixCount f.ctx) m).lineIn id (unpackLine f.dt (f.width.getD 0) b)) :=
  (exec_pipelineSlice_turn hn).trans (congrArg _ (State.serve_line (s := { s with pipe := ⟨p + 1⟩ }) hb hf hc hi hm))

/-! ### What the slices do -/

theorem pipelineSlice_emb (hb : s.ports[p].buf = .emb n :: r) : Does (.pipelineSlice p) s fun u =>
    u = { s with ports := u.ports, pipe := u.pipe } ∧ OtherPortsKept s u p ∧
    u.ports[p] = { s.ports[p] with buf := r } ∧ u.pipe.turn = p + 1 :=
  ⟨_, exec_pipelineSlice_emb hn hb, rfl, s.takeSlice_other p r, s.takeSlice_self p r, rfl⟩

omit hn in
/-- A slice of `n` pixels taken and counted. -/
theorem State.countTaken_does {k : CtxId} {v : State} (hv : (s.takeSlice p r).countWrap (Fld.ctxPixCount k) n = v) :
    v = { s with ports := v.ports, fields := v.fields, pipe := v.pipe } ∧ v.pipe.turn = p + 1 ∧ OtherPortsKept s v p ∧
    v.ports[p] = { s.ports[p] with buf := r } ∧
    v.getF (Fld.ctxPixCount k) = s.getF (Fld.ctxPixCount k) + BitVec.ofNat 32 n ∧
    ∀ a, a ≠ Fld.ctxPixCount k → v.getF a = s.getF a := by
  rw [← hv]
  exact ⟨rfl, rfl, .of_ports (s.takeSlice_other p r) rfl, s.takeSlice_self p r, State.getF_setF_self ..,
    fun a ha => State.getF_setF_of_ne _ ha _⟩

/-- A part of a line (R264). -/
theorem pipelineSlice_part (hb : s.ports[p].buf = .line id b taken :: r) (hf : s.frame? id = some f) (hc : f.closed = false)
    (hi : f.fidx.isSome = true) (ht : taken + 64 < (unpackLine f.dt (f.width.getD 0) b).length) :
    Does (.pipelineSlice p) s fun u =>
      u = { s with ports := u.ports, fields := u.fields, pipe := u.pipe } ∧ u.pipe.turn = p + 1 ∧ OtherPortsKept s u p ∧
      u.ports[p] = { s.ports[p] with buf := .line id b (taken + 64) :: r } ∧
      u.getF (Fld.ctxPixCount f.ctx) = s.getF (Fld.ctxPixCount f.ctx) + 64 ∧
      ∀ a, a ≠ Fld.ctxPixCount f.ctx → u.getF a = s.getF a := by
  have write := exec_pipelineSlice_line hn hb hf hc hi (m := 64) (by omega)
  rw [if_pos ht] at write
  generalize hv : (s.takeSlice p r).countWrap (Fld.ctxPixCount f.ctx) 64 = v at write
  obtain ⟨frame, turn, other, own, count, kept⟩ := State.countTaken_does hv
  refine ⟨_, write, ?_, turn, .updPort other, ?_, count, kept⟩
  · exact congrArg (fun x : State => { x with
      ports := (v.updPort p fun x => { x with buf := .line id b (taken + 64) :: r }).ports }) frame
  · exact (State.updPort_self ..).trans
      (congrArg (fun x : Port => { x with buf := .line id b (taken + 64) :: r }) own)

/-- The last slice of a line counts it. -/
theorem pipelineSlice_last (hb : s.ports[p].buf = .line id b taken :: r) (hf : s.frame? id = some f) (hc : f.closed = false)
    (hi : f.fidx.isSome = true) (ht : (unpackLine f.dt (f.width.getD 0) b).length ≤ taken + 64)
    (hl : taken ≤ (unpackLine f.dt (f.width.getD 0) b).length) :
    Does (.pipelineSlice p) s fun u =>
      CoreFrame s u ∧ LightFrame s u ∧ u.ports = s.ports.set p.val { s.ports[p] with buf := r } p.isLt ∧
      (u.frame? id).map (·.y) = some (f.y + 1) ∧ u.getF (Fld.ctxPixCount f.ctx) =
        s.getF (Fld.ctxPixCount f.ctx) + BitVec.ofNat 32 ((unpackLine f.dt (f.width.getD 0) b).length - taken) := by
  have write := exec_pipelineSlice_line hn hb hf hc hi (Nat.min_eq_right (by omega))
  generalize unpackLine f.dt (f.width.getD 0) b = px at *
  rw [if_neg (by omega)] at write
  generalize hv : (s.takeSlice p r).countWrap (Fld.ctxPixCount f.ctx) (px.length - taken) = v at write
  obtain ⟨-, -, -, -, count, -⟩ := State.countTaken_does hv
  have found : v.frame? id = some f := by rw [← hv]; exact hf
  have ports : v.ports = s.ports.set p.val { s.ports[p] with buf := r } p.isLt := by rw [← hv]; rfl
  obtain ⟨x, keeps⟩ := State.lineIn_keeps found px
  obtain ⟨g, goes, frame⟩ := keeps.frame? id
  obtain ⟨-, -, lines, -⟩ := goes { f with y := f.y + 1, rx1 := x }
  refine ⟨_, write, ?_, ?_, ?_, ?_, (keeps.fields _ (ctxPixCount_notMem f.ctx)).trans count⟩
  · constructor <;> simp [← hv, State.takeSlice]
  · constructor <;> simp [← hv, State.takeSlice]
  · exact (by simp : _ = v.ports).trans ports
  · rw [frame, State.frame?_updFrame (g := fun g => { g with y := f.y + 1, rx1 := x }) found fun _ => rfl]
    exact congrArg some lines

/-- A Frame End closes its frame (R242, R245). -/
theorem pipelineSlice_fe (hb : s.ports[p].buf = .fe [id] :: r) (hf : s.frame? id = some f) (hc : f.closed = false) :
    Does (.pipelineSlice p) s fun u =>
      CoreFrame s u ∧ LightFrame s u ∧ u.ports = s.ports.set p.val { s.ports[p] with buf := r } p.isLt ∧
      (u.frame? id).map (·.closed) = some true ∧ Raised s u 2 (24 + f.ctx.val) ∧
      u.getF (Fld.ctxFrameW f.ctx) = BitVec.ofNat 32 (f.width.getD 0) ∧
      u.getF (Fld.ctxFrameH f.ctx) = BitVec.ofNat 32 f.y ∧
      (f.damaged = true → Raised s u 2 34 ∧
        u.getN (Fld.ctxDamagedCount f.ctx) = min 65535 (s.getN (Fld.ctxDamagedCount f.ctx) + 1)) ∧
      (f.truncated = true → Raised s u 2 35) ∧ (f.overloaded = true → Raised s u 2 36) := by
  have write := exec_pipelineSlice_fe hn hb
  have found : (s.takeSlice p r).frame? id = some f := hf
  obtain ⟨keeps, events⟩ := State.closeFrame_does found hc rfl
  obtain ⟨g, goes, frame⟩ := keeps.frame? id
  obtain ⟨-, closed, -⟩ := goes { f with closed := true }
  refine ⟨_, write, ?_, ?_, ?_, ?_, events⟩
  · constructor <;> simp [State.takeSlice]
  · constructor <;> simp [State.takeSlice]
  · simp [State.takeSlice_ports]
  · rw [frame, State.frame?_updFrame (g := fun g => { g with closed := true }) found fun _ => rfl]
    exact congrArg some closed

/-! ### Frame Start markers -/

/-! ### Frame Start markers -/

omit hn in
/-- The boundary of a context's set and its FS events, as a Frame Start raises them (R262). -/
theorem State.boundaryStart_does (s : State) (k : CtxId) {x : State}
    (hx : (s.applyBoundary (·.set == .ctx k)).fsEvent k = x) :
    x = { s with fields := x.fields, shadow := x.shadow, trowels := x.trowels } ∧ FieldsKept s x [] ∧
    Raised s x 2 (16 + k.val) ∧ Raised s x 0 (32 + k.val) ∧
    x.shadow = s.shadow.filter fun q => !(q.set == .ctx k && s.due q) := by
  have first : PipeKeeps [] (s.applyBoundary (·.set == .ctx k))
      ((s.applyBoundary (·.set == .ctx k)).raise 2 (16 + k.val)) := .raise (.refl ..)
  refine ⟨?_, fun b _ hp => ?_, ?_, ?_, ?_⟩
  · rw [← hx, State.fsEvent, State.raise_eq _ 0, State.raise_eq _ 2]
    rfl
  · rw [← hx, State.fsEvent, State.getF_raise, State.getF_raise]
    exact State.getF_applyPending fun q hq _ => hp q hq
  · rw [← hx]
    exact PipeKeeps.raised (s := s.applyBoundary (·.set == .ctx k)) (w := []) (by omega) (.refl ..) (.raise (.refl ..))
  · rw [← hx]
    exact PipeKeeps.raised (s := s.applyBoundary (·.set == .ctx k)) (by omega) first (.refl ..)
  · have kept : x.shadow = (s.applyBoundary (·.set == .ctx k)).shadow := by simp [← hx, State.fsEvent]
    exact kept.trans rfl

/-- A Frame Start marker applies its context's set and raises FS (R262, R267). -/
theorem pipelineSlice_fs (hb : s.ports[p].buf = .fs [id] :: r) (hf : s.frame? id = some f) (hc : f.closed = false)
    (hs : f.started = false) (hd : f.dropping = false ∨ f.overloaded = true) : Does (.pipelineSlice p) s fun u =>
      u = { s with ports := u.ports, frames := u.frames, ctxs := u.ctxs, fields := u.fields, shadow := u.shadow
                   trowels := u.trowels, bb := u.bb, pipe := u.pipe } ∧ u.pipe.turn = p + 1 ∧
      OtherPortsKept s u p ∧ u.ports[p] = { s.ports[p] with buf := r } ∧ FieldsKept s u [] ∧
      Raised s u 2 (16 + f.ctx.val) ∧ Raised s u 0 (32 + f.ctx.val) ∧
      u.shadow = s.shadow.filter (fun q => !(q.set == .ctx f.ctx && s.due q)) ∧
      (u.frame? id).map (·.started) = some true := by
  have write := exec_pipelineSlice_fs hn hb
  have found : (s.takeSlice p r).frame? id = some f := hf
  have goesOn : ¬ (f.dropping && !f.overloaded) = true := by
    rcases hd with h | h <;> simp [h]
  rw [State.frameIn, found] at write
  replace write := write.trans (congrArg Host.Outcome.next (if_neg goesOn))
  generalize hx : ((s.takeSlice p r).applyBoundary (·.set == .ctx f.ctx)).fsEvent f.ctx = x
  obtain ⟨g, c, b, start, goes⟩ := State.startFrame_begins found hc hs
  rw [start, hx] at write
  obtain ⟨frame, fields, fsEvent, lightEvent, shadow⟩ := (s.takeSlice p r).boundaryStart_does f.ctx hx
  have same : x.ports = (s.takeSlice p r).ports ∧ x.pipe = (s.takeSlice p r).pipe := by simp [← hx, State.fsEvent]
  obtain ⟨ports, pipe⟩ := same
  replace frame : x = { s with ports := x.ports, fields := x.fields, shadow := x.shadow, trowels := x.trowels
                               pipe := x.pipe } := by
    rw [ports, pipe]
    exact frame
  have here : x.frame? id = some f := by simpa [← hx, State.fsEvent, State.frame?] using found
  refine ⟨_, write, ?_, ?_, ?_, ?_, fields, fsEvent, lightEvent, shadow, ?_⟩
  · exact congrArg (fun y : State => { y with frames := (x.updFrame id g).frames, ctxs := c, bb := b }) frame
  · exact congrArg PipeInput.turn pipe
  · exact .of_ports (s.takeSlice_other p r) ports
  · exact (congrArg (·[p]) ports).trans (s.takeSlice_self p r)
  · refine (congrArg (Option.map _) (State.frame?_updFrame here fun y => (goes y).1)).trans ?_
    exact congrArg some (goes f).2

end
end

/-- Settles O32: an enable by the write that its unit takes, a slice by the head of the buffer whose port has the turn. -/
theorem pipelineEnablesAndSlices : Obligations.PipelineEnablesAndSlices := by
  unfold Obligations.PipelineEnablesAndSlices
  refine ⟨fun s t k v f => ⟨fun h hp => ?_, locEnableWrite_does, fun h hp => ?_⟩, fun s p id f r b taken n => ?_⟩
  · exact ⟨ctxEnableWrite_on h hp, ctxEnableWrite_off h hp, ctxEnableWrite_marks h hp, ctxEnableWrite_closes h hp⟩
  · exact ⟨decEnableWrite_on h hp, decEnableWrite_off h hp⟩
  · refine ⟨fun hb => ?_, exec_pipelineSlice_idle, fun hn => ⟨pipelineSlice_emb hn, pipelineSlice_fs hn, pipelineSlice_fe hn,
      fun hb hf hc hi => ⟨pipelineSlice_part hn hb hf hc hi, pipelineSlice_last hn hb hf hc hi⟩⟩, fun hb hf hc hi => ?_⟩
    · exact exec_pipelineSlice_unservable (by rw [State.servable, hb])
    · exact exec_pipelineSlice_unservable (by rw [State.servable, hb]; simp [hf, hc, hi])

end Sys2Proof.Machine
end

section
/-! SUPPORT. The scheduling of the decode cores: a core that is not free takes nothing, and no core takes from an empty queue
(R284). -/

namespace Sys2Proof.Machine

section
variable {s : State} {d : Dec} {i : Fin 16} {c : Candidate}

theorem Dec.assign_of_not_free (h : d.cores[i] ≠ .free) : d.assign i = d := by
  unfold Dec.assign
  split
  · exact absurd (by assumption) h
  · rfl

theorem Dec.assign_of_empty (h : d.ready = []) : d.assign i = d := by
  have none : nextCandidate d.ready = none := congrArg nextCandidate h
  unfold Dec.assign
  split
  · rw [none]
  · rfl

/-- A free core takes the only candidate, where that waits for no message. -/
theorem Dec.assign_single (hi : d.cores[i] = .free) (hr : d.ready = [c]) (hw : c.waits = false) :
    d.assign i = { d with ready := [], cores := d.cores.set i.val (.busy c) i.isLt } := by
  have next : nextCandidate d.ready = some c := by rw [hr]; simp [nextCandidate, Candidate.eligible, hw]
  simp only [Dec.assign, hi, next]
  simp [hr]

/-- Nothing is scheduled where no core takes a candidate. -/
theorem State.schedule_of_fixed (h : ∀ i, s.dec.assign i = s.dec) : s.schedule = s := by
  rw [State.schedule, List.foldl_fixed' h]

theorem State.schedule_of_busy (h : ∀ i : Fin 16, s.dec.cores[i] ≠ .free) : s.schedule = s :=
  State.schedule_of_fixed fun i => Dec.assign_of_not_free (h i)

theorem State.schedule_of_empty (h : s.dec.ready = []) : s.schedule = s :=
  State.schedule_of_fixed fun _ => Dec.assign_of_empty h

/-- The only candidate goes to core 0 where that is free. -/
theorem State.schedule_single (hi : s.dec.cores[(0 : Fin 16)] = .free) (hr : s.dec.ready = [c]) (hw : c.waits = false) :
    s.schedule = { s with dec := { s.dec with ready := [], cores := s.dec.cores.set 0 (.busy c) } } := by
  have first := Dec.assign_single hi hr hw
  rw [State.schedule, List.finRange_succ, List.foldl_cons, first, List.foldl_fixed' fun _ => Dec.assign_of_empty rfl]
  rfl

end

end Sys2Proof.Machine
end

section
/-! SUPPORT. Candidates: a Frame Start notice, and what becomes of a candidate that arrives (R278, R279, R284, R309). -/

namespace Sys2Proof.Machine

/-- A count that wraps goes up by what is added. -/
theorem State.getF_countWrap_self (s : State) (a n : Nat) : (s.countWrap a n).getF a = s.getF a + BitVec.ofNat 32 n :=
  s.getF_setF_self ..

theorem State.getF_countWrap_of_ne (s : State) {a b : Nat} (h : b ≠ a) (n : Nat) : (s.countWrap a n).getF b = s.getF b :=
  s.getF_setF_of_ne h _

@[simp] theorem State.getN_updFrame (s : State) (id : Nat) (f : Frame → Frame) (a : Nat) :
    (s.updFrame id f).getN a = s.getN a := rfl

/-- `u` differs from `s` in stored fields and frames alone. -/
structure FrameKeeps (s u : State) : Prop where
  frame : u = { s with fields := u.fields, frames := u.frames }

section
variable {s u v : State}

theorem FrameKeeps.refl (s : State) : FrameKeeps s s := ⟨rfl⟩

theorem FrameKeeps.trans (h : FrameKeeps s u) (g : FrameKeeps u v) : FrameKeeps s v :=
  ⟨g.frame.trans (congrArg (fun y : State => { y with fields := v.fields, frames := v.frames }) h.frame)⟩

theorem FrameKeeps.setF (h : FrameKeeps s u) {a : Nat} {x : Word} : FrameKeeps s (u.setF a x) :=
  h.trans ⟨u.setF_eq a x⟩

theorem FrameKeeps.count16 (h : FrameKeeps s u) {a : Nat} : FrameKeeps s (u.count16 a) := .setF h

theorem FrameKeeps.countWrap (h : FrameKeeps s u) {a n : Nat} : FrameKeeps s (u.countWrap a n) := .setF h

theorem FrameKeeps.updFrame (h : FrameKeeps s u) {id : Nat} {f : Frame → Frame} : FrameKeeps s (u.updFrame id f) :=
  h.trans ⟨rfl⟩

/-- Either branch of a conditional. -/
theorem FrameKeeps.ite {p : Prop} [Decidable p] (hu : FrameKeeps s u) (hv : FrameKeeps s v) :
    FrameKeeps s (if p then u else v) := by
  split
  · exact hu
  · exact hv

end

/-- What a field reads as depends on the stored fields alone. -/
theorem State.getF_of_fields {s u : State} (h : u.fields = s.fields) (a : Nat) : u.getF a = s.getF a :=
  congrArg (sparseGet resetValue · a) h

/-- Where no message waits, none is matched again. -/
theorem State.rematch_of_empty {s : State} (h : s.dec.jxWait = []) : s.rematch = s := by
  have same : ({ s with dec := { s.dec with jxWait := [] } } : State) = s := by rw [← h]
  rw [State.rematch, h, same]
  rfl

/-- Joint exchange depends on the enables of the mortar ports and of the decode cluster alone among the stored fields. -/
theorem State.jointOn_setF (s : State) {a : Nat} (v : Word)
    (ha : a ∉ [0x8400, 0x8500, 0x8600, 0x8700, Fld.decEnable]) : (s.setF a v).jointOn = s.jointOn := by
  have same {b : Nat} (hb : b ∈ [0x8400, 0x8500, 0x8600, 0x8700, Fld.decEnable]) :
      (s.setF a v).enabledAt b = s.enabledAt b :=
    State.enabledAt_congr rfl rfl (s.getF_setF_of_ne (by rintro rfl; exact ha hb) v)
  rw [State.jointOn, State.anyMor, same (b := 0x8400) (by decide), same (b := 0x8500) (by decide),
    same (b := 0x8600) (by decide), same (b := 0x8700) (by decide), same (b := Fld.decEnable) (by decide)]
  rfl

theorem locCandCount_notMem : ∀ k : CtxId,
    Fld.locCandCount k.val ∉ [0x8400, 0x8500, 0x8600, 0x8700, Fld.decEnable] := by decide

theorem locCandCount_ne (k : CtxId) : Fld.locCandCount k.val ≠ Fld.locCandDropCount k.val := by
  simp only [Fld.locCandCount, Fld.locCandDropCount]
  omega

section
variable {s : State} {k : CtxId} {fidx : Word} {x : CandInfo} {f : Frame}

/-- The frame takes the decode set in effect, and its candidates are admitted. -/
def State.admitted (s : State) (k : CtxId) (f : Frame) : State :=
  s.updFrame f.id fun g => { g with
    noticed := true, symOpt := (s.getF (Fld.decSymOpt k.val)).setWidth 3, eraseConf := s.getN (Fld.decEraseConf k.val) }

/-- A Frame Start notice applies the decode set and admits the frame's candidates (R309). -/
theorem frameStartNoticeInDecode_admits (hf : s.frames.find? (fun f => f.ctx == k && f.started && !f.noticed) = some f)
    (hw : s.dec.jxWait = []) : Does (.frameStartNoticeInDecode k) s fun u =>
      u = { s with fields := u.fields, shadow := u.shadow, frames := u.frames } ∧ FieldsKept s u [] ∧
      u.shadow = s.shadow.filter (fun q => !(q.set == .dec k && s.due q)) ∧
      u.frames = s.frames.map fun g => if g.id = f.id then
        { g with noticed := true, symOpt := (u.getF (Fld.decSymOpt k.val)).setWidth 3
                 eraseConf := u.getN (Fld.decEraseConf k.val) } else g := by
  have write : exec (.frameStartNoticeInDecode k) s =
      .next ((s.applyBoundary (·.set == .dec k)).admitted k f).rematch := by
    refine Eq.trans (b := execFrameStartNoticeInDecode k s) rfl ?_
    rw [execFrameStartNoticeInDecode, hf]
    rfl
  rw [State.rematch_of_empty (s := (s.applyBoundary (·.set == .dec k)).admitted k f) hw] at write
  exact ⟨_, write, rfl, fun b _ hp => State.getF_applyPending fun q hq _ => hp q hq, rfl, rfl⟩

/-- What the locator searches for has its symbology and polarity, its signature and its tile rows (R277, R278). -/
def State.Searches (s : State) (f : Frame) (x : CandInfo) : Prop :=
  s.enabledAt Fld.locEnable = true ∧ s.enabledAt Fld.decEnable = true ∧ x.sym ≠ 0 ∧
    f.symEn.getLsbD (x.sym.toNat - 1) = true ∧ f.polarityOn x = true ∧ f.signed x = true ∧ f.ready x = true

/-- A candidate of its symbology found earlier overlaps it by more than half (R279). -/
def Frame.Merges (f : Frame) (x : CandInfo) : Prop := ∃ e ∈ f.found, e.1 = x.sym ∧ sameSymbol e.2 x.corners = true

/-- Within the limits of Table LD.2, what is searched for is formed. -/
theorem State.forms_iff (hl : f.inLimits x = true) : s.forms f x = true ↔ s.Searches f x := by
  simp only [State.forms, State.Searches, hl, Bool.true_or, Bool.and_true, Bool.and_eq_true, decide_eq_true_eq, and_assoc]

theorem Frame.merges_iff : f.found.any (fun e => e.1 == x.sym && sameSymbol e.2 x.corners) = true ↔ f.Merges x := by
  simp [Frame.Merges]

/-- The candidate counts as it arrives. -/
def State.formed (s : State) (k : CtxId) (f : Frame) (x : CandInfo) : State :=
  (s.updFrame f.id fun g => { g with found := g.found ++ [(x.sym, x.corners)] }).countWrap (Fld.locCandCount k.val) 1

theorem State.formed_keeps (s : State) (k : CtxId) (f : Frame) (x : CandInfo) : FrameKeeps s (s.formed k f x) :=
  .countWrap (.updFrame (.refl s))

theorem State.formed_counted (s : State) (k : CtxId) (f : Frame) (x : CandInfo) :
    (s.formed k f x).getF (Fld.locCandCount k.val) = s.getF (Fld.locCandCount k.val) + 1 :=
  State.getF_countWrap_self ..

theorem State.formed_kept (s : State) (f : Frame) (x : CandInfo) {b : Nat} (h : b ≠ Fld.locCandCount k.val) :
    (s.formed k f x).getF b = s.getF b := State.getF_countWrap_of_ne _ h 1

/-- A further change of the frame of a candidate that has arrived. -/
theorem State.formed_updFrame (s : State) (k : CtxId) (f : Frame) (x : CandInfo) {g : Frame → Frame} :
    ((s.formed k f x).updFrame f.id g).frames = s.frames.map fun y =>
      if y.id = f.id then g { y with found := y.found ++ [(x.sym, x.corners)] } else y :=
  congrArg State.frames (s.updFrame_updFrame f.id (f := fun g => { g with found := g.found ++ [(x.sym, x.corners)] })
    (g := g) fun _ => rfl)

/-- A candidate that has arrived is dropped, counted at `a`. -/
theorem State.formed_drop {a : Nat} (ha : Fld.locCandCount k.val ≠ a) :
    let u := ((s.formed k f x).count16 a).updFrame f.id fun g => { g with dropCand := g.dropCand + 1 }
    u = { s with fields := u.fields, frames := u.frames } ∧
    u.getF (Fld.locCandCount k.val) = s.getF (Fld.locCandCount k.val) + 1 ∧ u.getN a = min 65535 (s.getN a + 1) ∧
    u.frames = s.frames.map fun g => if g.id = f.id then
      { g with found := g.found ++ [(x.sym, x.corners)], dropCand := g.dropCand + 1 } else g := by
  intro u
  have keeps : FrameKeeps s u := .updFrame (.count16 (s.formed_keeps k f x))
  refine ⟨keeps.frame, ?_, ?_, s.formed_updFrame k f x (g := fun g => { g with dropCand := g.dropCand + 1 })⟩
  · rw [State.getF_updFrame, State.getF_count16_of_ne _ ha, State.formed_counted]
  · rw [State.getN_updFrame, State.getN_count16_self, State.getN_of_getF (State.formed_kept s f x ha.symm)]

theorem State.formed_jointOn (s : State) (k : CtxId) (f : Frame) (x : CandInfo) : (s.formed k f x).jointOn = s.jointOn :=
  State.jointOn_setF _ _ (locCandCount_notMem k)

/-- A candidate that joint exchange does not touch. -/
def State.aloneCandidate (s : State) (f : Frame) (x : CandInfo) : Candidate :=
  ⟨s.dec.nextCand, f.id, f.ts, x, none, false, false, []⟩

/-- The candidate stands last in the queue of DECODE. -/
def State.queued (s : State) (f : Frame) (x : CandInfo) : State :=
  ({ s with dec := { s.dec with
    ready := s.dec.ready ++ [s.aloneCandidate f x], nextCand := s.dec.nextCand + 1 } } : State).updFrame f.id
      fun g => { g with cands := g.cands + 1 }

/-- Without joint exchange a candidate only queues for a core (R284). -/
theorem State.queueCandidate_alone (hj : s.jointOn = false) : s.queueCandidate k f x = (s.queued f x).schedule := by
  simp [State.queueCandidate, State.queued, State.aloneCandidate, hj]

/-- What the cores take is counted all the same. -/
theorem State.queued_counted (s : State) (k : CtxId) (f : Frame) (x : CandInfo) :
    ((s.formed k f x).queued f x).schedule.getF (Fld.locCandCount k.val) = s.getF (Fld.locCandCount k.val) + 1 := by
  rw [State.getF_of_fields (s := s.formed k f x) (by simp [State.queued]), State.formed_counted]

theorem State.queued_frames : ((s.formed k f x).queued f x).frames = s.frames.map fun g => if g.id = f.id then
    { g with found := g.found ++ [(x.sym, x.corners)], cands := g.cands + 1 } else g :=
  s.formed_updFrame k f x (g := fun g => { g with cands := g.cands + 1 })

theorem exec_candidateArrival_unadmitted
    (hf : s.frames.find? (fun f => f.ctx == k && f.fidx == some fidx && f.noticed && !f.passed) = none) :
    exec (.candidateArrival k fidx x) s = .next s := by
  refine Eq.trans (b := execCandidateArrival k fidx x s) rfl ?_
  rw [execCandidateArrival, hf]

section
variable (hf : s.frames.find? (fun f => f.ctx == k && f.fidx == some fidx && f.noticed && !f.passed) = some f)
include hf

theorem exec_candidateArrival_eq : exec (.candidateArrival k fidx x) s =
    .next (let s0 : State := if f.inLimits x then s else { s with fresh := s.fresh + 1 }
      if !s.forms f x || f.found.any (fun e => e.1 == x.sym && sameSymbol e.2 x.corners) then s0
      else if f.candMax ≤ f.cands then
        ((s0.formed k f x).count16 (Fld.locCandDropCount k.val)).updFrame f.id fun g => { g with dropCand := g.dropCand + 1 }
      else (s0.formed k f x).queueCandidate k f x) := by
  refine Eq.trans (b := execCandidateArrival k fidx x s) rfl ?_
  rw [execCandidateArrival, hf]
  rfl

/-- Outside the limits of Table LD.2 a candidate may be formed or not (R287). -/
theorem candidateArrival_beyond (hl : f.inLimits x = false) : Does (.candidateArrival k fidx x) s fun u =>
    Config.beyondLimits s.fresh = false → u = { s with fresh := s.fresh + 1 } := by
  refine ⟨_, exec_candidateArrival_eq hf, fun hb => ?_⟩
  have unformed : s.forms f x = false := by simp [State.forms, hl, hb]
  simp [hl, unformed]

section
variable (hl : f.inLimits x = true)
include hl

theorem exec_candidateArrival_unformed (h : ¬ s.Searches f x ∨ f.Merges x) :
    exec (.candidateArrival k fidx x) s = .next s := by
  rw [exec_candidateArrival_eq hf]
  have ends : (!s.forms f x || f.found.any (fun e => e.1 == x.sym && sameSymbol e.2 x.corners)) = true := by
    rw [Bool.or_eq_true, Bool.not_eq_true', Frame.merges_iff, ← Bool.not_eq_true, State.forms_iff hl]
    exact h
  simp only [if_pos ends, if_pos hl]

section
variable (hs : s.Searches f x) (hm : ¬ f.Merges x)
include hs hm

theorem exec_candidateArrival_formed : exec (.candidateArrival k fidx x) s =
    .next (if f.candMax ≤ f.cands then
        ((s.formed k f x).count16 (Fld.locCandDropCount k.val)).updFrame f.id fun g => { g with dropCand := g.dropCand + 1 }
      else (s.formed k f x).queueCandidate k f x) := by
  rw [exec_candidateArrival_eq hf]
  have goesOn : (!s.forms f x || f.found.any (fun e => e.1 == x.sym && sameSymbol e.2 x.corners)) = false := by
    rw [Bool.or_eq_false_iff, Bool.not_eq_false', State.forms_iff hl, ← Bool.not_eq_true, Frame.merges_iff]
    exact ⟨hs, hm⟩
  simp only [goesOn, if_pos hl, Bool.false_eq_true, if_false]

/-- Beyond LOC.CAND_MAX a candidate is dropped (R284). -/
theorem candidateArrival_drops (hc : f.candMax ≤ f.cands) : Does (.candidateArrival k fidx x) s fun u =>
    u = { s with fields := u.fields, frames := u.frames } ∧
    u.getF (Fld.locCandCount k.val) = s.getF (Fld.locCandCount k.val) + 1 ∧
    u.getN (Fld.locCandDropCount k.val) = min 65535 (s.getN (Fld.locCandDropCount k.val) + 1) ∧
    u.frames = s.frames.map fun g => if g.id = f.id then
      { g with found := g.found ++ [(x.sym, x.corners)], dropCand := g.dropCand + 1 } else g :=
  ⟨_, (exec_candidateArrival_formed hf hl hs hm).trans (congrArg Host.Outcome.next (if_pos hc)),
    State.formed_drop (locCandCount_ne k)⟩

section
variable (hj : s.jointOn = false) (hc : f.cands < f.candMax)
include hj hc

theorem exec_candidateArrival_queued : exec (.candidateArrival k fidx x) s =
    .next ((s.formed k f x).queued f x).schedule := by
  rw [exec_candidateArrival_formed hf hl hs hm, if_neg (Nat.not_le.mpr hc),
    State.queueCandidate_alone ((s.formed_jointOn k f x).trans hj)]

/-- A candidate queues behind busy cores (R284). -/
theorem candidateArrival_queues (hb : ∀ i : Fin 16, s.dec.cores[i] ≠ .free) : Does (.candidateArrival k fidx x) s fun u =>
    u = { s with fields := u.fields, frames := u.frames
                 dec := { s.dec with ready := s.dec.ready ++ [s.aloneCandidate f x], nextCand := s.dec.nextCand + 1 } } ∧
    u.getF (Fld.locCandCount k.val) = s.getF (Fld.locCandCount k.val) + 1 ∧
    u.frames = s.frames.map fun g => if g.id = f.id then
      { g with found := g.found ++ [(x.sym, x.corners)], cands := g.cands + 1 } else g := by
  have write := exec_candidateArrival_queued hf hl hs hm hj hc
  have counted := s.queued_counted k f x
  rw [State.schedule_of_busy (s := (s.formed k f x).queued f x) hb] at write counted
  exact ⟨_, write, rfl, counted, State.queued_frames⟩

/-- A candidate takes a free core (R284). -/
theorem candidateArrival_taken (hr : s.dec.ready = []) (h0 : s.dec.cores[(0 : Fin 16)] = .free) :
    Does (.candidateArrival k fidx x) s fun u =>
      u.getF (Fld.locCandCount k.val) = s.getF (Fld.locCandCount k.val) + 1 ∧ u.dec.ready = [] ∧
      u.dec.cores = s.dec.cores.set 0 (.busy (s.aloneCandidate f x)) := by
  have write := exec_candidateArrival_queued hf hl hs hm hj hc
  have queue : ((s.formed k f x).queued f x).dec.ready = [s.aloneCandidate f x] :=
    congrArg (· ++ [s.aloneCandidate f x]) hr
  have counted := s.queued_counted k f x
  rw [State.schedule_single (s := (s.formed k f x).queued f x) h0 queue rfl] at write counted
  exact ⟨_, write, counted, rfl, rfl⟩

end
end
end
end
end

end Sys2Proof.Machine
end

section
/-! SUPPORT. The decode cores: what a core's reads of the store find, how its candidate ends, and how its result reaches CORE
(R282 to R285, R289, R291, R299). -/

namespace Sys2Proof.Machine

/-! ### Reads of the store -/

section
variable {s : State} {w : Nat} {find : StoreFinding}

/-- Marking a word bad adds to the bad words alone. -/
theorem State.markBad_eq (s : State) (w n : Nat) :
    s.markBad w n = { s with dec := { s.dec with bad := (s.markBad w n).dec.bad } } := by
  unfold State.markBad
  split <;> rfl

/-- An uncorrectable error in a slot (R283). -/
theorem State.storeRead_slot (hw : w < 21760 * 144) (h : RecordHolder) : s.storeRead w (.uncorrectable h) =
    ((s.tileEcc (w / 144)).markDamaged ((s.frames.filter fun g => g.slots.contains (w / 144)).map (·.id))).markBad w
      (w / 144) := by
  simp only [State.storeRead, slotOf, if_pos hw]

/-- A correctable error, or one in a slot, leaves every core at what it does. -/
theorem State.storeRead_cores (h : find = .corrected ∨ w < 21760 * 144) : (s.storeRead w find).dec.cores = s.dec.cores := by
  cases find with
  | clean => rfl
  | corrected => rfl
  | uncorrectable holder =>
    have hw : w < 21760 * 144 := h.resolve_left nofun
    rw [State.storeRead_slot hw, State.markBad_eq]
    simp [State.tileEcc]

/-- Reads that find nothing change nothing. -/
theorem State.storeReads_clean {reads : List (Nat × StoreFinding)} (h : ∀ x ∈ reads, x.2 = .clean) :
    reads.foldl (fun (s : State) (r : Nat × StoreFinding) => s.storeRead r.1 r.2) s = s := by
  induction reads with
  | nil => rfl
  | cons r l ih =>
    have clean : s.storeRead r.1 r.2 = s := by rw [h r List.mem_cons_self]; rfl
    rw [List.foldl_cons, clean]
    exact ih fun x hx => h x (List.mem_cons_of_mem _ hx)

end

/-! ### The end of a candidate -/

section
variable {s : State} {i : Fin 16} {c : Candidate} {f : Frame} {r : Result} {out : DecodeOutcome}

/-- A core that is free again in a cluster with an empty queue stays free. -/
theorem State.schedule_freed {u : State} (h : FrameKeeps (s.freeCore i) u) (hr : s.dec.ready = []) : u.schedule = u :=
  State.schedule_of_empty ((congrArg (fun y : State => y.dec.ready) h.frame).trans hr)

section
variable (hb : s.dec.cores[i] = .busy c)
include hb

theorem exec_decodeResolved_busy (reads : List (Nat × StoreFinding)) : exec (.decodeResolved i out reads) s =
    .next ((reads.foldl (fun (s : State) (r : Nat × StoreFinding) => s.storeRead r.1 r.2) s).resolve i out) := by
  refine Eq.trans (b := execDecodeResolved i out s reads) rfl ?_
  rw [execDecodeResolved, hb]

/-- What one read finds takes effect before the core ends with its candidate (R282, R283). -/
theorem exec_decodeResolved_read {w : Nat} {find : StoreFinding} (h : find = .corrected ∨ w < 21760 * 144) :
    exec (.decodeResolved i out [(w, find)]) s = exec (.decodeResolved i out []) (s.storeRead w find) := by
  have busy : (s.storeRead w find).dec.cores[i] = .busy c := by rw [State.storeRead_cores h]; exact hb
  rw [exec_decodeResolved_busy hb, exec_decodeResolved_busy busy]
  rfl

theorem exec_decodeResolved_clean {reads : List (Nat × StoreFinding)} (h : ∀ x ∈ reads, x.2 = .clean) :
    exec (.decodeResolved i out reads) s = .next (s.resolve i out) := by
  rw [exec_decodeResolved_busy hb, State.storeReads_clean h]

section
variable (hf : s.frame? c.fid = some f)
include hf

theorem State.resolve_sender {e : Nat} (hs : c.sender = some e) :
    s.resolve i .failed = ((s.freeCore i).count16 Fld.decJxNosendCount).schedule := by
  simp only [State.resolve, hb, hf, hs]
  rfl

/-- A sender's candidate whose core time runs out is counted as not sent (R284, R302). -/
theorem coreTimeExpiry_sender {e : Nat} (hs : c.sender = some e) (hr : s.dec.ready = []) : Does (.coreTimeExpiry i) s fun u =>
    u = { s with fields := u.fields, dec := { s.dec with cores := s.dec.cores.set i.val .free i.isLt } } ∧
    Counted s u Fld.decJxNosendCount [] := by
  have write : exec (.coreTimeExpiry i) s = .next ((s.freeCore i).count16 Fld.decJxNosendCount).schedule :=
    congrArg Host.Outcome.next (State.resolve_sender hb hf hs)
  rw [State.schedule_freed (.count16 (.refl _)) hr] at write
  exact ⟨_, write, (s.freeCore i).count16_eq _, (s.freeCore i).count16_counted _⟩

section
variable (hs : c.sender = none)
include hs

theorem State.resolve_fails (hn : f.resultOf s.dec.bad c out = none) :
    s.resolve i out = ((s.freeCore i).failCandidate c).schedule := by
  simp only [State.resolve, hb, hf, hs, hn]

theorem State.resolve_result (hn : f.resultOf s.dec.bad c out = some r) : s.resolve i out = s.giveResult i f c r := by
  simp only [State.resolve, hb, hf, hs, hn]

end
end
end

theorem State.failCandidate_own (s : State) (hs : c.sender = none) : s.failCandidate c =
    (s.countWrap Fld.decFailCount 1).updFrame c.fid fun f => { f with failed := f.failed + 1 } := by
  simp only [State.failCandidate, hs]

/-- The candidate of core `i` has failed: it is counted, in its frame too, and the core is free (R285). -/
theorem State.failed_does (hs : c.sender = none) (hr : s.dec.ready = []) {u : State}
    (hu : ((s.freeCore i).failCandidate c).schedule = u) :
    u = { s with fields := u.fields, frames := u.frames
                 dec := { s.dec with cores := s.dec.cores.set i.val .free i.isLt } } ∧
    u.getF Fld.decFailCount = s.getF Fld.decFailCount + 1 ∧
    u.frames = s.frames.map fun g => if g.id = c.fid then { g with failed := g.failed + 1 } else g := by
  have keeps : FrameKeeps (s.freeCore i) ((s.freeCore i).failCandidate c) := ⟨(State.failCandidate_keeps _ c).frame⟩
  rw [State.schedule_freed keeps hr] at hu
  rw [hu] at keeps
  refine ⟨keeps.frame, ?_, ?_⟩
  · rw [← hu, State.failCandidate_own _ hs, State.getF_updFrame, State.getF_countWrap_self]
    rfl
  · rw [← hu, State.failCandidate_own _ hs]
    rfl

/-! ### Results -/

/-- The result counts in its frame (R291). -/
def Frame.counts (f : Frame) (r : Result) : Frame :=
  { f with syms := if r.isGraga then f.syms else f.syms + 1, gragas := if r.isGraga then f.gragas + 1 else f.gragas }

/-- A result of one frame alone is held in its core (R289). -/
theorem State.giveResult_holds (hc : f.syms + f.gragas < 256) (hs : r.stitched = false) : s.giveResult i f c r =
    let y := (s.countWrap Fld.decDecodedCount 1).updFrame f.id fun g => g.counts r
    { y with dec := { s.dec with cores := s.dec.cores.set i.val (.holding f.id r) i.isLt
                                 outlines := s.dec.outlines ++ [(f.id, r.sym, c.info.corners)] } } := by
  simp only [State.giveResult, if_neg (Nat.not_le.mpr hc), hs, Bool.false_eq_true, if_false]
  rfl

theorem State.giveResult_does (hc : f.syms + f.gragas < 256) (hs : r.stitched = false) {u : State}
    (hu : s.giveResult i f c r = u) :
    u = { s with fields := u.fields, frames := u.frames
                 dec := { s.dec with cores := s.dec.cores.set i.val (.holding f.id r) i.isLt
                                     outlines := s.dec.outlines ++ [(f.id, r.sym, c.info.corners)] } } ∧
    u.getF Fld.decDecodedCount = s.getF Fld.decDecodedCount + 1 ∧
    (∀ a, a ≠ Fld.decDecodedCount → u.getF a = s.getF a) ∧
    u.frames = s.frames.map fun g => if g.id = f.id then g.counts r else g := by
  rw [State.giveResult_holds hc hs] at hu
  have fields : ∀ a, u.getF a = (s.countWrap Fld.decDecodedCount 1).getF a := State.getF_of_fields (by rw [← hu]; rfl)
  refine ⟨?_, (fields _).trans (State.getF_countWrap_self ..),
    fun a ha => (fields a).trans (State.getF_countWrap_of_ne _ ha 1), ?_⟩
  · rw [← hu]
    rfl
  · rw [← hu]
    rfl

/-- A result beyond 256 of its frame is dropped and counted (R291). -/
theorem State.giveResult_drops (hc : 256 ≤ f.syms + f.gragas) (hr : s.dec.ready = []) {u : State}
    (hu : s.giveResult i f c r = u) :
    u = { s with fields := u.fields, frames := u.frames
                 dec := { s.dec with cores := s.dec.cores.set i.val .free i.isLt } } ∧
    Counted s u Fld.decSymDropCount [] ∧
    u.frames = s.frames.map fun g => if g.id = f.id then { g with dropRes := g.dropRes + 1 } else g := by
  have keeps : FrameKeeps (s.freeCore i) (((s.freeCore i).count16 Fld.decSymDropCount).updFrame f.id
      fun g => { g with dropRes := g.dropRes + 1 }) := .updFrame (.count16 (.refl _))
  rw [State.giveResult, if_pos hc, State.schedule_freed keeps hr] at hu
  rw [hu] at keeps
  refine ⟨keeps.frame, ?_, ?_⟩
  · exact ((s.freeCore i).count16_counted Fld.decSymDropCount).of_fields (by rw [← hu]; rfl)
  · rw [← hu]
    rfl

/-! ### Results in CORE -/

/-- The result queue with `r` at its end, under the next tag (R291). -/
def Former.enter (x : Former) (r : Result) (hit : Bool) : Former :=
  { x with results := x.results ++ [{ r with tag := x.nextTag, match_ := hit }], nextTag := x.nextTag + 1 }

/-- The lookup of a result of frame `fid` (R299). -/
def State.lookUp (s : State) (fid : Nat) (r : Result) : State :=
  let y := if s.lookedUp r then s.countWrap Fld.wlLookupCount 1 else s
  if s.listed r then (y.countWrap Fld.wlMatchCount 1).updFrame fid fun f => { f with matches_ := f.matches_ + 1 } else y

/-- A count that moves only where `p` holds. -/
theorem State.getF_maybe_countWrap (s : State) (p : Bool) (a : Nat) :
    (if p then s.countWrap a 1 else s).getF a = s.getF a + (if p then 1 else 0) := by
  cases p with
  | true => exact State.getF_countWrap_self ..
  | false => exact (BitVec.add_zero _).symm

theorem State.lookUp_does (s : State) (fid : Nat) (r : Result) {u : State} (hu : s.lookUp fid r = u) : FrameKeeps s u ∧
    u.getF Fld.wlLookupCount = s.getF Fld.wlLookupCount + (if s.lookedUp r then 1 else 0) ∧
    u.getF Fld.wlMatchCount = s.getF Fld.wlMatchCount + (if s.listed r then 1 else 0) ∧
    u.frames = s.frames.map fun g =>
      if s.listed r = true ∧ g.id = fid then { g with matches_ := g.matches_ + 1 } else g := by
  rw [State.lookUp] at hu
  have lookups := s.getF_maybe_countWrap (s.lookedUp r) Fld.wlLookupCount
  generalize hy : (if s.lookedUp r then s.countWrap Fld.wlLookupCount 1 else s) = y at hu lookups
  have keeps : FrameKeeps s y := by
    rw [← hy]
    exact .ite (.countWrap (.refl s)) (.refl s)
  have frames : y.frames = s.frames := by
    rw [← hy]
    split <;> rfl
  have hits : y.getF Fld.wlMatchCount = s.getF Fld.wlMatchCount := by
    rw [← hy]
    split
    · exact State.getF_countWrap_of_ne _ (by decide) 1
    · rfl
  rw [← lookups, ← hits, ← frames, ← hu]
  cases s.listed r with
  | true =>
    refine ⟨.updFrame (.countWrap keeps), ?_, ?_, ?_⟩
    · exact (State.getF_updFrame ..).trans (State.getF_countWrap_of_ne _ (by decide) 1)
    · exact (State.getF_updFrame ..).trans (State.getF_countWrap_self ..)
    · simp
  | false =>
    refine ⟨keeps, rfl, (BitVec.add_zero _).symm, ?_⟩
    simp

section
variable {fid : Nat} (hh : s.dec.cores[i] = .holding fid r)
include hh

/-- A full result queue keeps a result in its core (R342). -/
theorem exec_resultArrival_full (hq : 1024 ≤ s.former.results.length) : exec (.resultArrival i) s = .next s := by
  refine Eq.trans (b := execResultArrival i s) rfl ?_
  simp only [execResultArrival, hh, if_pos hq]

theorem exec_resultArrival_room (hq : s.former.results.length < 1024) : exec (.resultArrival i) s =
    .next (({ s.lookUp fid r with former := (s.lookUp fid r).former.enter r (s.listed r) } : State).freeCore i).schedule := by
  refine Eq.trans (b := execResultArrival i s) rfl ?_
  simp only [execResultArrival, hh, if_neg (Nat.not_le.mpr hq)]
  rfl

/-- A result that reaches CORE is looked up and enters the result queue with the next tag (R299, R342). -/
theorem resultArrival_enters (hq : s.former.results.length < 1024) (hr : s.dec.ready = []) :
    Does (.resultArrival i) s fun u =>
      u = { s with fields := u.fields, frames := u.frames
                   dec := { s.dec with cores := s.dec.cores.set i.val .free i.isLt }
                   former := { s.former with
                     results := s.former.results ++ [{ r with tag := s.former.nextTag, match_ := s.listed r }]
                     nextTag := s.former.nextTag + 1 } } ∧
      u.getF Fld.wlLookupCount = s.getF Fld.wlLookupCount + (if s.lookedUp r then 1 else 0) ∧
      u.getF Fld.wlMatchCount = s.getF Fld.wlMatchCount + (if s.listed r then 1 else 0) ∧
      u.frames = s.frames.map fun g =>
        if s.listed r = true ∧ g.id = fid then { g with matches_ := g.matches_ + 1 } else g := by
  have write := exec_resultArrival_room hh hq
  generalize hy : s.lookUp fid r = y at write
  obtain ⟨keeps, lookups, hits, frames⟩ := s.lookUp_does fid r hy
  have same : y.dec = s.dec ∧ y.former = s.former := by
    rw [keeps.frame]
    exact ⟨rfl, rfl⟩
  obtain ⟨dec, former⟩ := same
  have empty : (({ y with former := y.former.enter r (s.listed r) } : State).freeCore i).dec.ready = [] :=
    (congrArg Dec.ready dec).trans hr
  rw [State.schedule_of_empty empty, State.freeCore, dec, former] at write
  refine ⟨_, write, ?_, lookups, hits, frames⟩
  exact congrArg (fun z : State => { z with
    dec := { s.dec with cores := s.dec.cores.set i.val .free i.isLt }, former := s.former.enter r (s.listed r) }) keeps.frame

end
end

/-- Settles O33: a candidate by what the locator makes of it and by the cores that are free, a core by how its candidate
ends, a result by the room in the result queue. -/
theorem candidatesAndResults : Obligations.CandidatesAndResults := by
  unfold Obligations.CandidatesAndResults
  refine ⟨fun s k fidx x f => ⟨frameStartNoticeInDecode_admits, exec_candidateArrival_unadmitted, fun hf => ?_⟩,
    fun s i c f out fid r reads w find =>
      ⟨fun hb => exec_decodeResolved_read hb, fun e hb hf hs hr => ?_, fun hb hf hs hx => ?_, fun hh => ?_⟩⟩
  · exact ⟨exec_candidateArrival_unformed hf, candidateArrival_beyond hf, fun hl hs hm hj =>
      ⟨candidateArrival_drops hf hl hs hm, candidateArrival_queues hf hl hs hm hj, candidateArrival_taken hf hl hs hm hj⟩⟩
  · exact coreTimeExpiry_sender hb hf hs hr
  · have resolved {y : State} (h : s.resolve i out = y) : exec (.decodeResolved i out reads) s = .next y :=
      (exec_decodeResolved_clean hb hx).trans (congrArg Host.Outcome.next h)
    refine ⟨fun hr => ?_, fun hr hn => ?_, fun hn hc ht => ?_, fun hr hn hc => ?_⟩
    · exact ⟨_, congrArg Host.Outcome.next (State.resolve_fails hb hf hs rfl), State.failed_does hs hr rfl⟩
    · exact ⟨_, resolved (State.resolve_fails hb hf hs hn), State.failed_does hs hr rfl⟩
    · exact ⟨_, resolved (State.resolve_result hb hf hs hn), State.giveResult_does hc ht rfl⟩
    · exact ⟨_, resolved (State.resolve_result hb hf hs hn), State.giveResult_drops hc hr rfl⟩
  · exact ⟨exec_resultArrival_full hh, resultArrival_enters hh⟩

end Sys2Proof.Machine
end

section
/-! SUPPORT. The end of a frame: its closing pass, its decision and its notice (R281, R283, R307, R308, R317). -/

namespace Sys2Proof.Machine

section
variable {s : State} {k : CtxId} {fidx : Word} {f : Frame}

/-- The frame's closing pass has ended. -/
def State.passed (s : State) (f : Frame) : State := s.updFrame f.id fun g => { g with passed := true }

/-- A frame for which no message waits forms no candidate as its closing pass ends. -/
theorem State.passFrame_alone (h : ∀ e ∈ s.dec.jxFrame, e.1 ≠ f.id) : s.passFrame f = s.passed f := by
  have mine : (s.passed f).dec.jxFrame.filter (fun e => e.1 == f.id) = [] :=
    List.filter_eq_nil_iff.mpr fun e he => by simpa using h e he
  have rest : (s.passed f).dec.jxFrame.filter (fun e => e.1 != f.id) = (s.passed f).dec.jxFrame :=
    List.filter_eq_self.mpr fun e he => by simpa using h e he
  have eq : s.passFrame f = ((s.passed f).dec.jxFrame.filter fun e => e.1 == f.id).foldl
      (fun s e => s.joinFrame { f with passed := true } e.2) { s.passed f with dec := { (s.passed f).dec with
        jxFrame := (s.passed f).dec.jxFrame.filter fun e => e.1 != f.id } } := rfl
  rw [eq, mine, rest]
  rfl

/-- The closing pass ends (R307). -/
theorem closingPassEnd_passes
    (hf : s.frames.find? (fun f => f.ctx == k && f.fidx == some fidx && f.closed && f.noticed && !f.passed) = some f)
    (hj : ∀ e ∈ s.dec.jxFrame, e.1 ≠ f.id) : Does (.closingPassEnd k fidx) s fun u => u = { s with frames := u.frames } ∧
      u.frames = s.frames.map fun g => if g.id = f.id then { g with passed := true } else g := by
  have write : exec (.closingPassEnd k fidx) s = .next (s.passFrame f) := by
    refine Eq.trans (b := execClosingPassEnd k fidx s) rfl ?_
    rw [execClosingPassEnd, hf]
  rw [State.passFrame_alone hj] at write
  exact ⟨_, write, rfl, rfl⟩

/-! ### The earliest frame of a context -/

section
variable (hf : s.frames.find? (fun f => f.ctx == k) = some f)
include hf

/-- A frame passes on its own only where the locator is off, and once it is closed and has its index (R309). -/
theorem State.passIdle_eq : s.passIdle k =
    if f.closed && f.fidx.isSome && !f.passed && !s.enabledAt Fld.locEnable then s.passFrame f else s := by
  rw [State.passIdle, hf]

theorem State.giveNotice_undecided (hd : s.decidable f = false) : s.giveNotice k = s := by
  simp [State.giveNotice, hf, hd]

/-- An earliest frame that is not decided gives no notice. -/
theorem exec_frameDecideNotice_undecided (hd : s.decidable f = false)
    (h : s.enabledAt Fld.locEnable = true ∨ f.passed = true ∨ f.closed = false ∨ f.fidx = none) :
    exec (.frameDecideNotice k) s = .next s := by
  have stays : s.passIdle k = s := by
    rw [State.passIdle_eq hf]
    rcases h with h | h | h | h <;> simp [h]
  refine Eq.trans (b := .next ((s.passIdle k).giveNotice k)) rfl ?_
  rw [stays, State.giveNotice_undecided hf hd]

/-- Once it has passed, the frame is still the earliest of its context. -/
theorem State.passed_first : (s.passed f).frames.find? (fun f => f.ctx == k) = some { f with passed := true } := by
  have same : (fun f : Frame => f.ctx == k) ∘ (fun g => if g.id = f.id then { g with passed := true } else g) =
      fun f => f.ctx == k := funext fun g => by
    by_cases e : g.id = f.id <;> simp [e]
  rw [State.passed, State.updFrame_frames, List.find?_map, same, hf]
  simp

/-- Without the locator a closed frame needs no closing pass (R309). -/
theorem exec_frameDecideNotice_idle (hl : s.enabledAt Fld.locEnable = false) (hp : f.passed = false) (hc : f.closed = true)
    (hi : f.fidx.isSome = true) (hj : ∀ e ∈ s.dec.jxFrame, e.1 ≠ f.id) :
    exec (.frameDecideNotice k) s = exec (.frameDecideNotice k) (s.passed f) := by
  have passes : s.passIdle k = s.passed f := by
    rw [State.passIdle_eq hf, State.passFrame_alone hj]
    simp [hl, hp, hc, hi]
  have stays : (s.passed f).passIdle k = s.passed f := by
    rw [State.passIdle_eq (State.passed_first hf)]
    simp
  refine Eq.trans (b := .next ((s.passIdle k).giveNotice k)) rfl ?_
  refine Eq.trans ?_ (Eq.symm (b := .next (((s.passed f).passIdle k).giveNotice k)) rfl)
  rw [passes, stays]

/-- The cluster once frame `f` is decided. -/
def State.decidedDec (s : State) (f : Frame) : Dec :=
  { s.dec.freeSlots f.slots with
    notices := s.dec.notices ++ [s.noticeOf f]
    jxFrame := s.dec.jxFrame.filter fun e => e.1 != f.id
    outlines := s.dec.outlines.filter fun o => o.1 != f.id
    decided := ((f.ctx, f.ts) :: s.dec.decided).take 1024 }

theorem exec_frameDecideNotice_decided (hd : s.decidable f = true) : exec (.frameDecideNotice k) s =
    .next { s with frames := s.frames.filter fun g => g.id != f.id, dec := s.decidedDec f } := by
  have passed : f.passed = true := by
    simp only [State.decidable, Bool.and_eq_true] at hd
    exact hd.1.2
  have stays : s.passIdle k = s := by
    rw [State.passIdle_eq hf]
    simp [passed]
  refine Eq.trans (b := .next ((s.passIdle k).giveNotice k)) rfl ?_
  rw [stays, State.giveNotice, hf]
  simp only [hd, Bool.not_true, Bool.false_eq_true, if_false]
  rfl

omit hf in
/-- Of the slots that are freed, those with a bad word are retired (R283). -/
theorem Dec.mem_freeSlots_retired (d : Dec) (l : List Nat) (i : Nat) :
    i ∈ (d.freeSlots l).retired ↔ i ∈ d.retired ∨ (i ∈ l ∧ ∃ w ∈ d.bad, w / 144 = i) := by
  simp [Dec.freeSlots]

/-- The earliest frame of a context, once decided, gives its notice and its slots back (R281, R308). -/
theorem frameDecideNotice_gives (hd : s.decidable f = true) : Does (.frameDecideNotice k) s fun u =>
    u = { s with frames := u.frames, dec := u.dec } ∧ u.frames = s.frames.filter (fun g => g.id != f.id) ∧
    u.dec.cores = s.dec.cores ∧ u.dec.ready = s.dec.ready ∧
    (∀ i : Nat, i ∈ u.dec.retired ↔ i ∈ s.dec.retired ∨ (i ∈ f.slots ∧ ∃ w ∈ s.dec.bad, w / 144 = i)) ∧
    ∃ m : Notice, u.dec.notices = s.dec.notices ++ [m] ∧ m.ctx = f.ctx ∧ m.ts = f.ts ∧ m.fidx = f.fidx.getD 0 ∧
      m.damaged = f.damaged ∧ m.truncated = f.truncated ∧ m.overloaded = f.overloaded ∧ m.syms = f.syms ∧
      m.gragas = f.gragas ∧ m.matches_ = f.matches_ ∧ m.failed = f.failed ∧ m.dropCand = f.dropCand ∧
      m.dropRes = f.dropRes :=
  ⟨_, exec_frameDecideNotice_decided hf hd, rfl, rfl, rfl, rfl, s.dec.mem_freeSlots_retired f.slots, s.noticeOf f,
    rfl, rfl, rfl, rfl, rfl, rfl, rfl, rfl, rfl, rfl, rfl, rfl, rfl⟩

end

/-! ### The decide queue -/

section
variable {n : Notice} {r : List Notice} (hn : s.dec.notices = n :: r)
include hn

/-- The oldest notice enters the decide queue with the next tag (R308, R317). -/
theorem noticeArrival_enters (hl : s.vs.decide_.length < 64) : Does .noticeArrival s fun u =>
    u = { s with dec := { s.dec with notices := r }
                 vs := { s.vs with headFrom := if s.vs.decide_ = [] then s.time.ns else s.vs.headFrom
                                   decide_ := s.vs.decide_ ++ [{ n with tag := s.vs.nextTag }]
                                   nextTag := s.vs.nextTag + 1 } } := by
  refine ⟨_, rfl, ?_⟩
  rw [hn]
  simp only [if_neg (Nat.not_le.mpr hl), List.isEmpty_iff]
  rfl

/-- A full decide queue keeps the notices waiting (R317). -/
theorem exec_noticeArrival_full (hl : 64 ≤ s.vs.decide_.length) : exec .noticeArrival s = .next s := by
  refine Eq.trans (b := execNoticeArrival s) rfl ?_
  rw [execNoticeArrival, hn]
  simp only [if_pos hl]

end
end

end Sys2Proof.Machine
end

section
/-! SUPPORT. Joint exchange: a message that is not accepted, one that waits, and the ends of the waits (R303, R305). -/

namespace Sys2Proof.Machine

section
variable {s : State} {src : BitVec 6} {b : List Byte} {r : List (BitVec 6 × List Byte)}

section
variable (hj : s.dec.jxIn = (src, b) :: r)
include hj

theorem exec_jointArrival_head : exec .jointArrival s =
    .next (if s.acceptsJoint (parseJoint src b) then
      ({ s with dec := { s.dec with jxIn := r } } : State).matchJoint (parseJoint src b)
      else { s with dec := { s.dec with jxIn := r } }) := by
  refine Eq.trans (b := execJointArrival s) rfl ?_
  rw [execJointArrival, hj]
  rfl

/-- A message that is not accepted is dropped (R303). -/
theorem jointArrival_drops (ha : s.acceptsJoint (parseJoint src b) = false) : Does .jointArrival s fun u =>
    u = { s with dec := { s.dec with jxIn := r } } :=
  ⟨_, exec_jointArrival_head hj, if_neg (by simp [ha])⟩

/-- A message that matches no frame waits (R303). -/
theorem jointArrival_waits (ha : s.acceptsJoint (parseJoint src b) = true) (hf : s.frames = []) (hd : s.dec.decided = []) :
    Does .jointArrival s fun u =>
      u = { s with dec := { s.dec with jxIn := r, jxWait := s.dec.jxWait ++ [parseJoint src b] } } := by
  refine ⟨_, exec_jointArrival_head hj, (if_pos ha).trans ?_⟩
  simp [State.matchJoint, hf, hd]

end

/-- The oldest message that waits is discarded and counted (R303). -/
theorem jointWaitExpiry_discards {m : JointMsg} {q : List JointMsg} (hw : s.dec.jxWait = m :: q) :
    Does .jointWaitExpiry s fun u =>
      u = { s with fields := u.fields, dec := { s.dec with jxWait := q } } ∧ Counted s u Fld.decJxDropCount [] := by
  have write : exec .jointWaitExpiry s =
      .next (({ s with dec := { s.dec with jxWait := q } } : State).count16 Fld.decJxDropCount) := by
    refine Eq.trans (b := execJointWaitExpiry s) rfl ?_
    rw [execJointWaitExpiry, hw]
  exact ⟨_, write, State.count16_eq .., State.count16_counted ..⟩

/-- A candidate that waits no longer is free to decode (R305). -/
theorem candidateJxWaitExpiry_frees {n : Nat} (hb : ∀ i : Fin 16, s.dec.cores[i] ≠ .free) :
    Does (.candidateJxWaitExpiry n) s fun u =>
      u = { s with dec := { s.dec with
        ready := s.dec.ready.map fun c => if c.n = n then { c with waits := false } else c } } :=
  ⟨_, rfl, State.schedule_of_busy hb⟩

end

end Sys2Proof.Machine
end

section
/-! SUPPORT. The scrubber: which word it reads, and what an uncorrectable error there does (R282, R283). -/

namespace Sys2Proof.Machine

section
variable {s : State}

/-! ### The word that it reads -/

/-- The scrubber has read word `w` of a period that began at `from_`. -/
def State.scrubbed (s : State) (w from_ : Nat) : State :=
  { s with dec := { s.dec with scrub := w + 1, scrubFrom := from_ } }

/-- The scrub period in ns, as Table LD.11 bounds it. -/
theorem State.scrubNs_eq (s : State) : s.scrubNs = 1000000 * max 10 (min 1000 (s.getN Fld.decScrubMs)) :=
  Nat.mul_comm ..

theorem exec_tileScrub_off (he : s.enabledAt Fld.decEnable = false) (x : StoreFinding) :
    exec (.tileScrub x) s = .next s := by
  refine Eq.trans (b := execTileScrub x s) rfl ?_
  simp [execTileScrub, he]

section
variable (he : s.enabledAt Fld.decEnable = true)
include he

theorem exec_tileScrub_on (x : StoreFinding) : exec (.tileScrub x) s =
    .next (if s.dec.scrub < storeWords then (s.scrubbed s.dec.scrub s.dec.scrubFrom).storeRead s.dec.scrub x
      else if s.time.ns < s.dec.scrubFrom + 1000000 * max 10 (min 1000 (s.getN Fld.decScrubMs)) then s
      else (s.scrubbed 0 s.time.ns).storeRead 0 x) := by
  refine Eq.trans (b := execTileScrub x s) rfl ?_
  simp only [execTileScrub, he, Bool.not_true, Bool.false_eq_true, if_false, State.scrubNs_eq]
  rfl

/-- Between two periods the scrubber reads nothing (R282). -/
theorem exec_tileScrub_rests (hs : storeWords ≤ s.dec.scrub)
    (ht : s.time.ns < s.dec.scrubFrom + 1000000 * max 10 (min 1000 (s.getN Fld.decScrubMs))) (x : StoreFinding) :
    exec (.tileScrub x) s = .next s := by
  rw [exec_tileScrub_on he, if_neg (Nat.not_lt.mpr hs), if_pos ht]

/-- The scrubber reads the next word of its period, or, once that is due, the first of the next (R282). -/
theorem exec_tileScrub_reads {w from_ : Nat}
    (h : (s.dec.scrub < storeWords ∧ w = s.dec.scrub ∧ from_ = s.dec.scrubFrom) ∨
      (storeWords ≤ s.dec.scrub ∧ s.dec.scrubFrom + 1000000 * max 10 (min 1000 (s.getN Fld.decScrubMs)) ≤ s.time.ns ∧
        w = 0 ∧ from_ = s.time.ns)) (x : StoreFinding) :
    exec (.tileScrub x) s = .next ((s.scrubbed w from_).storeRead w x) := by
  rw [exec_tileScrub_on he]
  rcases h with ⟨hs, rfl, rfl⟩ | ⟨hs, ht, rfl, rfl⟩
  · rw [if_pos hs]
  · rw [if_neg (Nat.not_lt.mpr hs), if_neg (Nat.not_lt.mpr ht)]

end

/-! ### Uncorrectable errors -/

/-- An uncorrectable error is counted and raises TILE_ECC (R283). -/
theorem State.tileEcc_does (s : State) (arg : Nat) {u : State} (hu : s.tileEcc arg = u) :
    u = { s with fields := u.fields, trowels := u.trowels, bb := u.bb } ∧ Counted s u Fld.decEccUncorrCount [] ∧
    Raised s u 2 40 := by
  have before : LightKeeps (· = Fld.decEccUncorrCount) s (s.count16 Fld.decEccUncorrCount) := .count16 (.refl ..) rfl
  rw [← hu]
  refine ⟨?_, (s.count16_counted Fld.decEccUncorrCount).of_fields (by simp [State.tileEcc]),
    LightKeeps.raised (by omega) before (.freezeIf (.bbEvent (.refl ..)))⟩
  rw [State.tileEcc, State.raise_eq]
  rfl

/-- Frames marked damaged are damaged. -/
theorem State.damaged_of_markDamaged {ids : List Nat} {p : Frame → Prop}
    (hi : ∀ f ∈ s.frames, p f → f.id ∈ ids) :
    ∀ g ∈ (s.markDamaged ids).frames, p g → g.damaged = true := by
  intro g hg hpg
  obtain ⟨f, hf, rfl⟩ := List.mem_map.mp hg
  by_cases h : ids.contains f.id
  · rw [if_pos h]
  · rw [if_neg h] at hpg
    exact absurd (List.contains_iff_mem.mpr (hi f hf hpg)) h

/-- A word with an uncorrectable error is bad, unless its slot is retired already (R283). -/
theorem State.bad_or_retired_of_markBad (s : State) (w n : Nat) : w ∈ (s.markBad w n).dec.bad ∨ n ∈ s.dec.retired := by
  unfold State.markBad
  split
  next h =>
    rw [Bool.or_eq_true, List.contains_iff_mem, List.contains_iff_mem] at h
    exact h
  next => exact .inl (List.mem_append_right _ (List.mem_singleton.mpr rfl))

/-! ### Records -/

section
variable {w : Nat} (hw : 21760 * 144 ≤ w)
include hw

theorem State.storeRead_nobody : s.storeRead w (.uncorrectable .nobody) = s.tileEcc 0xFFFF := by
  simp only [State.storeRead, slotOf, if_neg (Nat.not_lt.mpr hw)]

theorem State.storeRead_evidence (k : CtxId) (i : Word) : s.storeRead w (.uncorrectable (.evidence k i)) =
    (s.tileEcc 0xFFFF).markDamaged
      (((s.tileEcc 0xFFFF).frames.filter fun g => g.ctx == k && g.fidx == some i).map (·.id)) := by
  simp only [State.storeRead, slotOf, if_neg (Nat.not_lt.mpr hw)]

theorem State.storeRead_candidate (n : Nat) :
    s.storeRead w (.uncorrectable (.candidate n)) = (s.tileEcc 0xFFFF).recordBroken n := by
  simp only [State.storeRead, slotOf, if_neg (Nat.not_lt.mpr hw)]

end

theorem State.failBusy_other {n : Nat} {i : Fin 16} (h : ∀ d, s.dec.cores[i] = .busy d → d.n ≠ n) :
    State.failBusy n s i = s := by
  unfold State.failBusy
  split
  next d hd => exact if_neg (h d hd)
  next => rfl

/-- The broken record of the only candidate that waits fails that candidate alone. -/
theorem State.recordBroken_waiting {c : Candidate} (hr : s.dec.ready = [c])
    (hb : ∀ (i : Fin 16) (d : Candidate), s.dec.cores[i] = .busy d → d.n ≠ c.n) :
    s.recordBroken c.n = ({ s with dec := { s.dec with ready := [] } } : State).failWaiting c := by
  have hit : s.dec.ready.filter (fun d => d.n == c.n) = [c] := by simp [hr]
  have rest : s.dec.ready.filter (fun d => d.n != c.n) = [] := by simp [hr]
  have cores : (({ s with dec := { s.dec with ready := [] } } : State).failWaiting c).dec.cores = s.dec.cores := by
    rw [State.failWaiting, (State.failCandidate_keeps _ c).frame]
    rfl
  rw [State.recordBroken, hit, rest]
  refine List.foldl_fixed' (fun i => State.failBusy_other fun d hd => hb i d ?_) _
  exact (congrArg (fun v : Vector Core 16 => v[i]) cores).symm.trans hd

/-! ### What the reads of the scrubber do -/

section
variable {w from_ : Nat}

/-- An uncorrectable error in a slot damages the frame that holds it and leaves the word bad (R283). -/
theorem State.scrubbed_slot (hw : w < 21760 * 144) (h : RecordHolder) {u : State}
    (hu : (s.scrubbed w from_).storeRead w (.uncorrectable h) = u) :
    u = { s with fields := u.fields, trowels := u.trowels, bb := u.bb, frames := u.frames, dec := u.dec } ∧
    Counted s u Fld.decEccUncorrCount [] ∧ (s.boot.started = true → Raised s u 2 40) ∧
    (w ∈ u.dec.bad ∨ w / 144 ∈ s.dec.retired) ∧
    (∀ g ∈ u.frames, g.slots.contains (w / 144) = true → g.damaged = true) ∧ u.dec.cores = s.dec.cores ∧
    u.dec.scrub = w + 1 := by
  rw [State.storeRead_slot hw] at hu
  generalize hn : w / 144 = n at *
  generalize hy : (s.scrubbed w from_).tileEcc n = y at hu
  obtain ⟨frame, counted, raised⟩ := (s.scrubbed w from_).tileEcc_does n hy
  have cluster : y.dec = (s.scrubbed w from_).dec := by rw [frame]
  have frames : y.frames = s.frames := by rw [frame]; rfl
  generalize hi : ((s.scrubbed w from_).frames.filter fun g => g.slots.contains n).map (·.id) = ids at hu
  have damaged : ∀ g ∈ (y.markDamaged ids).frames, g.slots.contains n = true → g.damaged = true :=
    State.damaged_of_markDamaged fun f hf hs => hi ▸ List.mem_map_of_mem (List.mem_filter.mpr ⟨frames ▸ hf, hs⟩)
  have bad := (y.markDamaged ids).bad_or_retired_of_markBad w n
  have marked := (y.markDamaged ids).markBad_eq w n
  rw [hu] at bad marked
  generalize u.dec.bad = l at bad marked
  subst marked
  refine ⟨?_, counted, fun _ => raised, bad.imp_right fun hm => ?_, damaged, ?_, ?_⟩
  · exact congrArg (fun z : State => { z with
      frames := (y.markDamaged ids).frames, dec := { y.dec with bad := l } }) frame
  · exact (congrArg (fun d : Dec => n ∈ d.retired) cluster).mp hm
  · exact (congrArg Dec.cores cluster).trans rfl
  · exact (congrArg Dec.scrub cluster).trans rfl

section
variable (hw : 21760 * 144 ≤ w)
include hw

/-- An uncorrectable error in a record that nobody holds (R283). -/
theorem State.scrubbed_nobody {u : State} (hu : (s.scrubbed w from_).storeRead w (.uncorrectable .nobody) = u) :
    u = { s with fields := u.fields, trowels := u.trowels, bb := u.bb
                 dec := { s.dec with scrub := w + 1, scrubFrom := from_ } } ∧
    Counted s u Fld.decEccUncorrCount [] ∧ (s.boot.started = true → Raised s u 2 40) := by
  rw [State.storeRead_nobody hw] at hu
  obtain ⟨frame, counted, raised⟩ := (s.scrubbed w from_).tileEcc_does _ hu
  exact ⟨frame, counted, fun _ => raised⟩

/-- An uncorrectable error in a frame's evidence damages that frame (R283). -/
theorem State.scrubbed_evidence (k : CtxId) (i : Word) {u : State}
    (hu : (s.scrubbed w from_).storeRead w (.uncorrectable (.evidence k i)) = u) :
    u = { s with fields := u.fields, trowels := u.trowels, bb := u.bb, frames := u.frames
                 dec := { s.dec with scrub := w + 1, scrubFrom := from_ } } ∧
    Counted s u Fld.decEccUncorrCount [] ∧ ∀ g ∈ u.frames, g.ctx = k → g.fidx = some i → g.damaged = true := by
  rw [State.storeRead_evidence hw] at hu
  generalize hy : (s.scrubbed w from_).tileEcc 0xFFFF = y at hu
  obtain ⟨frame, counted, -⟩ := (s.scrubbed w from_).tileEcc_does _ hy
  generalize hi : (y.frames.filter fun g => g.ctx == k && g.fidx == some i).map (·.id) = ids at hu
  have damaged : ∀ g ∈ (y.markDamaged ids).frames, (g.ctx = k ∧ g.fidx = some i) → g.damaged = true :=
    State.damaged_of_markDamaged fun f hf hk => hi ▸ List.mem_map_of_mem (List.mem_filter.mpr ⟨hf, by simp [hk]⟩)
  subst hu
  refine ⟨?_, counted, fun g hg hk hx => damaged g hg ⟨hk, hx⟩⟩
  exact congrArg (fun z : State => { z with frames := (y.markDamaged ids).frames }) frame

/-- An uncorrectable error in the record of a candidate that waits fails it and damages its frame (R283). -/
theorem State.scrubbed_candidate {c : Candidate} (hr : s.dec.ready = [c]) (hs : c.sender = none)
    (hb : ∀ (i : Fin 16) (d : Candidate), s.dec.cores[i] = .busy d → d.n ≠ c.n) {u : State}
    (hu : (s.scrubbed w from_).storeRead w (.uncorrectable (.candidate c.n)) = u) :
    u.dec.ready = [] ∧ u.getF Fld.decFailCount = s.getF Fld.decFailCount + 1 ∧
    u.getN Fld.decEccUncorrCount = min 65535 (s.getN Fld.decEccUncorrCount + 1) ∧
    ∀ g ∈ u.frames, g.id = c.fid → g.damaged = true := by
  rw [State.storeRead_candidate hw] at hu
  generalize hy : (s.scrubbed w from_).tileEcc 0xFFFF = y at hu
  obtain ⟨frame, ⟨counted, kept⟩, -⟩ := (s.scrubbed w from_).tileEcc_does _ hy
  have cluster : y.dec = (s.scrubbed w from_).dec := by rw [frame]
  have ready : y.dec.ready = [c] := (congrArg Dec.ready cluster).trans hr
  have cores : y.dec.cores = s.dec.cores := (congrArg Dec.cores cluster).trans rfl
  rw [State.recordBroken_waiting ready (cores ▸ hb), State.failWaiting, State.failCandidate_own _ hs] at hu
  have fields : ∀ a, u.getF a = (y.countWrap Fld.decFailCount 1).getF a := State.getF_of_fields (by rw [← hu]; rfl)
  refine ⟨?_, ?_, ?_, ?_⟩
  · rw [← hu]
    rfl
  · exact (fields _).trans ((State.getF_countWrap_self ..).trans (congrArg (· + 1) (kept _ (by decide) nofun)))
  · exact (State.getN_of_getF ((fields _).trans (State.getF_countWrap_of_ne _ (by decide) 1))).trans counted
  · rw [← hu]
    exact State.damaged_of_markDamaged fun f _ h => List.mem_singleton.mpr h

end
end
end

/-- Settles O34: the earliest frame of a context by whether it is decided, a message by what it matches, and the scrubber by
the word that it reads and what it finds there. -/
theorem decisionsAndJointExchange : Obligations.DecisionsAndJointExchange := by
  unfold Obligations.DecisionsAndJointExchange
  refine ⟨fun s k fidx f n r => ⟨closingPassEnd_passes, fun hf => ?_, fun hn => ?_⟩, fun s src b r m q n =>
    ⟨fun hj => ?_, jointWaitExpiry_discards, candidateJxWaitExpiry_frees, exec_tileScrub_off, fun he =>
      ⟨exec_tileScrub_rests he, fun w from_ hw => ?_⟩⟩⟩
  · exact ⟨exec_frameDecideNotice_undecided hf, exec_frameDecideNotice_idle hf, frameDecideNotice_gives hf⟩
  · exact ⟨noticeArrival_enters hn, exec_noticeArrival_full hn⟩
  · exact ⟨jointArrival_drops hj, jointArrival_waits hj⟩
  · have reads := exec_tileScrub_reads he hw
    refine ⟨⟨_, reads _, rfl⟩, ⟨_, reads _, rfl, ?_⟩, fun hl h => ⟨_, reads _, State.scrubbed_slot hl h rfl⟩, fun hl =>
      ⟨⟨_, reads _, State.scrubbed_nobody hl rfl⟩, fun k i => ⟨_, reads _, State.scrubbed_evidence hl k i rfl⟩,
        fun c hr hs hb => ⟨_, reads _, State.scrubbed_candidate hl hr hs hb rfl⟩⟩⟩
    exact State.getN_setN _ _ (by omega)

end Sys2Proof.Machine
end

section
/-! SUPPORT. The query address of an entry (R313). -/

namespace Sys2Proof.Machine

theorem queryAddr_toNat (k : CtxId) (f : Word) : (queryAddr k f).toNat = k.val * 2048 + f.toNat % 2048 := by
  rw [queryAddr, BitVec.toNat_ofNat]
  omega

/-- The context and the index bits are read off a query address (R313). -/
theorem queryAddr_inj {j k : CtxId} {f g : Word} :
    queryAddr j f = queryAddr k g ↔ j = k ∧ f.toNat % 2048 = g.toNat % 2048 := by
  rw [← BitVec.toNat_inj, queryAddr_toNat, queryAddr_toNat, Fin.ext_iff]
  omega

/-- Every address is one of a context and a frame index. -/
theorem queryAddr_surjective (a : BitVec 14) : ∃ (k : CtxId) (f : Word), queryAddr k f = a := by
  have high : a.toNat / 2048 < 8 := by omega
  refine ⟨⟨a.toNat / 2048, high⟩, a.setWidth 32, BitVec.eq_of_toNat_eq ?_⟩
  rw [queryAddr_toNat, BitVec.toNat_setWidth]
  simp only
  omega

/-- Settles O60: an address and its two parts determine each other. -/
theorem queryAddresses : Obligations.QueryAddresses := by
  unfold Obligations.QueryAddresses
  refine ⟨queryAddr_toNat, queryAddr_surjective, fun j k f g => ?_⟩
  rw [queryAddr_inj, ← BitVec.toNat_inj, BitVec.toNat_setWidth, BitVec.toNat_setWidth]

end Sys2Proof.Machine
end

section
/-! SUPPORT. The verdict port: the mirror, VQ_ACT and the answers (R33, R34, R326 to R328, Table VP.3). -/

namespace Sys2Proof.Machine

section
variable {s : State}

/-! ### The mirror -/

/-- A look at VQ_BACKLOG changes its level and the stored fields alone. -/
theorem State.backlogEdge_eq (s : State) : s.backlogEdge =
    { s with vs := { s.vs with backlog := s.vs.backlogged }, fields := s.backlogEdge.fields } := by
  unfold State.backlogEdge
  dsimp only
  split <;> rfl

/-- A word has gone to the mirror; `q` and `d` are the updates and the dirty entries that remain. -/
def State.mirrored (s : State) (a : BitVec 14) (w : BitVec 16) (q : List (BitVec 14 × BitVec 16))
    (d : List (BitVec 14 × Word)) : State :=
  { s with vs := { s.vs with queue := q, dirty := d, mirror := sparseSet (fun _ => 0) s.vs.mirror a.toNat w } }

/-- The oldest update goes to the mirror (R33). -/
theorem exec_mirrorWrite_queued {a : BitVec 14} {w : BitVec 16} {q : List (BitVec 14 × BitVec 16)}
    (hq : s.vs.queue = (a, w) :: q) :
    exec .mirrorWrite s = .next (s.mirrored a w q s.vs.dirty).backlogEdge.vqEdge := by
  refine Eq.trans (b := execMirrorWrite s) rfl ?_
  rw [execMirrorWrite, hq]
  rfl

/-- With no update queued, the lowest dirty entry goes to the mirror with the word of the store (R34). -/
theorem exec_mirrorWrite_dirty {a : BitVec 14} {f : Word} {d : List (BitVec 14 × Word)} (hq : s.vs.queue = [])
    (hd : s.vs.dirty = (a, f) :: d) :
    exec .mirrorWrite s = .next (s.mirrored a (s.storeAt a) [] d).backlogEdge.vqEdge := by
  refine Eq.trans (b := execMirrorWrite s) rfl ?_
  rw [execMirrorWrite, hq, hd]
  rfl

/-- The word is read at its address of the mirror, and nowhere else. -/
theorem State.mirrored_does (a : BitVec 14) (w : BitVec 16) (q : List (BitVec 14 × BitVec 16))
    (d : List (BitVec 14 × Word)) {u : State} (hu : (s.mirrored a w q d).backlogEdge.vqEdge = u) :
    (u = { s with vs := u.vs, fields := u.fields } ∧ u.vs.store = s.vs.store ∧ u.vs.decide_ = s.vs.decide_ ∧
      u.mirrorAt a = w ∧ ∀ b : BitVec 14, b ≠ a → u.mirrorAt b = s.mirrorAt b) ∧
    u.vs.queue = q ∧ u.vs.dirty = d := by
  rw [State.backlogEdge_eq] at hu
  subst hu
  refine ⟨⟨rfl, rfl, rfl, sparseGet_sparseSet_self .., fun b hb => ?_⟩, rfl, rfl⟩
  exact sparseGet_sparseSet_of_ne _ _ (fun e => hb (BitVec.eq_of_toNat_eq e)) _

/-! ### VQ_ACT -/

/-- The level of VQ_ACT after an edge (R328). -/
theorem State.vqActNext_iff : s.vqActNext = true ↔
    s.holdsPort = true ∧ s.vs.dirty = [] ∧ (s.vs.act = true ∨ (2 ≤ s.vs.enSync ∧ s.vs.queue = [])) := by
  simp [State.vqActNext, and_assoc]

/-- The cycle of the last change of VQ_ACT after an edge. -/
theorem State.vqEdge_actCycle :
    s.vqEdge.vs.actCycle = if s.vqEdge.vs.act = s.vs.act then s.vs.actCycle else s.time.core := by
  change (if (s.vqActNext != s.vs.act) = true then _ else _) = if s.vqActNext = s.vs.act then _ else _
  by_cases same : s.vqActNext = s.vs.act <;> simp [same]

theorem vqClkRise_moves : Does .vqClkRise s fun u =>
    u = { s with vs := { s.vs with
      act := u.vs.act, enSync := if s.holdsPort then min 3 (s.vs.enSync + 1) else 0
      actCycle := if u.vs.act = s.vs.act then s.vs.actCycle else s.time.core, actBefore := u.vs.actBefore } } ∧
    (u.vs.act = true ↔ s.holdsPort = true ∧ s.vs.dirty = [] ∧
      (s.vs.act = true ∨ (2 ≤ s.vs.enSync ∧ s.vs.queue = []))) :=
  ⟨s.vqEdge, rfl, State.vqEdge_actCycle ▸ rfl, State.vqActNext_iff⟩

/-! ### Answers -/

/-- Without the port, or with VQ_SEL_N high, the balls are released (R327). -/
theorem State.vqBalls_released (h : s.holdsPort = false ∨ s.pins.vqSelN = true) : s.vqBalls = (none, none, none) :=
  if_pos (by simpa using h)

section
variable (hp : s.holdsPort = true) (hn : s.pins.vqSelN = false)
include hp hn

/-- The 16-bit modes show the whole word (Table VP.3). -/
theorem State.vqBalls_word (hm : s.vqMode = 1 ∨ s.vqMode = 3) : s.vqBalls =
    (some ((s.mirrorAt s.vs.addr >>> 8).setWidth 8), some ((s.mirrorAt s.vs.addr).setWidth 8),
      some (if s.vqMode = 1 then false else evenOnes (s.mirrorAt s.vs.addr))) := by
  rw [State.vqBalls, if_neg (by simp [hp, hn])]
  obtain h | h := hm <;> simp [h]

/-- The 8-bit mode shows the compact byte (Table VP.3). -/
theorem State.vqBalls_byte (hm : s.vqMode = 2) :
    s.vqBalls = (none, some (compactByte (s.mirrorAt s.vs.addr)), some false) := by
  rw [State.vqBalls, if_neg (by simp [hp, hn])]
  simp [hm]

end

/-- The state in which the host presents an address, or releases the port. -/
def State.queried (s : State) (o : Option (BitVec 14)) : State :=
  { s with pins := { s.pins with vqSelN := o.isNone }, vs := { s.vs with addr := o.getD s.vs.addr } }

theorem exec_vqQuery (s : State) (o : Option (BitVec 14)) : exec (.vqQuery o) s = .next (s.queried o) := by
  cases o <;> rfl

/-- Released balls after a query (R327). -/
theorem State.queried_released {o : Option (BitVec 14)} (h : o = none ∨ s.holdsPort = false) :
    (s.queried o).vqBalls = (none, none, none) :=
  State.vqBalls_released (h.symm.imp_right fun e => by rw [e]; rfl)

end

/-- Settles O36: an update or a dirty entry by the word that goes to the mirror, an edge by the next level of VQ_ACT, an
answer by the mode of the port. -/
theorem verdictPort : Obligations.VerdictPort := by
  unfold Obligations.VerdictPort
  refine fun s a w f q d o => ⟨fun hq => ?_, fun hq hd => ?_, vqClkRise_moves, ?_⟩
  · obtain ⟨mirrored, queue, dirty⟩ := s.mirrored_does a w q s.vs.dirty rfl
    exact ⟨_, exec_mirrorWrite_queued hq, mirrored, queue, dirty⟩
  · obtain ⟨mirrored, queue, dirty⟩ := s.mirrored_does a (s.storeAt a) [] d rfl
    exact ⟨_, exec_mirrorWrite_dirty hq hd, mirrored, queue, dirty⟩
  · refine ⟨_, exec_vqQuery s o, rfl, State.queried_released, ?_⟩
    rintro b rfl hp
    refine ⟨fun hm => ?_, State.vqBalls_byte (s := s.queried (some b)) hp rfl⟩
    rw [State.vqBalls_word (s := s.queried (some b)) hp rfl hm]
    exact ⟨rfl, rfl⟩

end Sys2Proof.Machine
end

section
/-! SUPPORT. Verdict words bit by bit (R314, R315, R319, Table VP.1). -/

namespace Sys2Proof.Machine

/-- A bit of a word, in numbers. -/
theorem getLsbD_eq_div {w : Nat} (x : BitVec w) (i : Nat) : x.getLsbD i = decide (x.toNat / 2 ^ i % 2 = 1) := by
  rw [BitVec.getLsbD, Nat.testBit_eq_decide_div_mod_eq]

theorem verdictWord_toNat (n : Notice) (cls : Nat) : (verdictWord n cls).toNat =
    0x8000 + (n.damaged || n.truncated || n.overloaded).toNat * 0x2000 + (decide (0 < n.matches_)).toNat * 0x1000 +
      min 15 n.syms * 0x100 + min 15 n.gragas * 0x10 + cls % 4 * 4 + n.fidx.toNat / 2048 % 4 := by
  have bit (b : Bool) (k : Nat) : (if b then k else 0) = b.toNat * k := by cases b <;> simp
  have hit := bit (decide (0 < n.matches_)) 0x1000
  simp only [decide_eq_true_eq] at hit
  have mark := Bool.toNat_le (n.damaged || n.truncated || n.overloaded)
  have hitOnce := Bool.toNat_le (decide (0 < n.matches_))
  rw [verdictWord, BitVec.toNat_ofNat, epochOf, bit, hit, Nat.mod_eq_of_lt (by omega)]

/-- The fields of a verdict word (Table VP.1). -/
theorem verdictWord_fields (n : Notice) (cls : Nat) : let w := verdictWord n cls
    w.getLsbD 15 = true ∧ w.getLsbD 14 = false ∧ w.getLsbD 13 = (n.damaged || n.truncated || n.overloaded) ∧
    w.getLsbD 12 = decide (0 < n.matches_) ∧ w.toNat / 256 % 16 = min 15 n.syms ∧ w.toNat / 16 % 16 = min 15 n.gragas ∧
    w.toNat / 4 % 4 = cls % 4 ∧ w.toNat % 4 = n.fidx.toNat / 2048 % 4 := by
  intro w
  have value : w.toNat = _ := verdictWord_toNat n cls
  have marks := Bool.toNat_le (n.damaged || n.truncated || n.overloaded)
  have hits := Bool.toNat_le (decide (0 < n.matches_))
  rw [getLsbD_eq_div, getLsbD_eq_div, getLsbD_eq_div, getLsbD_eq_div]
  generalize (n.damaged || n.truncated || n.overloaded) = b at value marks ⊢
  generalize decide (0 < n.matches_) = m at value hits ⊢
  have bit (x : Bool) (q : Nat) (h : q = x.toNat) : decide (q = 1) = x := by
    subst h
    cases x <;> rfl
  refine ⟨decide_eq_true ?_, decide_eq_false ?_, bit b _ ?_, bit m _ ?_, ?_, ?_, ?_, ?_⟩ <;> omega

/-- A PENDING word is not VALID (R315). -/
theorem pendingWord_marks (f : Word) : (pendingWord f).getLsbD 15 = false ∧ (pendingWord f).getLsbD 14 = true := by
  have value : (pendingWord f).toNat = 0x4000 + f.toNat / 2048 % 4 := by
    rw [pendingWord, BitVec.toNat_ofNat, epochOf]
    omega
  rw [getLsbD_eq_div, getLsbD_eq_div, value]
  exact ⟨decide_eq_false (by omega), decide_eq_true (by omega)⟩

end Sys2Proof.Machine
end

section
/-! SUPPORT. What the formation of a record may count; it leaves the result queue and the verdict port's fields alone (R339
to R341). -/

namespace Sys2Proof.Machine

/-- The counts that the formation of a record may move: those of the fabric, which the pipeline moves too, and those of the
links and the record former. -/
def recordCounts : List Nat := pipeCounts ++
  [Fld.usbDropCount, Fld.serDropCount, Fld.morGwDropCount, Fld.recFormedCount, Fld.pairUnreservedCount]

section
variable {w : List Nat} {s u : State}

theorem PipeKeeps.countWrap (h : PipeKeeps w s u) {a n : Nat} (ha : a ∈ w) : PipeKeeps w s (u.countWrap a n) := h.setF ha

theorem PipeKeeps.mirror (h : PipeKeeps w s u) {m : PairMsg} : PipeKeeps w s (u.mirror m) := h.beside (by simp)

theorem PipeKeeps.askBlock (h : PipeKeeps w s u) : PipeKeeps w s u.askBlock := h.beside (by simp)

theorem PipeKeeps.usbStart (h : PipeKeeps w s u) : PipeKeeps w s u.usbStart := h.beside (by simp)

/-- A change of the record former. -/
theorem PipeKeeps.former (h : PipeKeeps w s u) {x : Former} : PipeKeeps w s { u with former := x } :=
  h.beside ⟨rfl, rfl, rfl, rfl⟩

theorem PipeKeeps.usbDrop (h : PipeKeeps recordCounts s u) : PipeKeeps recordCounts s u.usbDrop := by
  simp only [State.usbDrop]
  split
  · exact h
  · exact .mirror (.countSat (.links h) (by decide))

theorem PipeKeeps.usbRoom (h : PipeKeeps recordCounts s u) {k n : Nat} :
    PipeKeeps recordCounts s (State.usbRoom k u n) := by
  induction k generalizing u with
  | zero => exact h
  | succ k ih => exact .ite (ih h.usbDrop) h

theorem PipeKeeps.usbPush (h : PipeKeeps recordCounts s u) {r : List Byte} : PipeKeeps recordCounts s (u.usbPush r) := by
  unfold State.usbPush
  exact .usbStart (.links h.usbRoom)

theorem PipeKeeps.serPush (h : PipeKeeps recordCounts s u) {r : List Byte} : PipeKeeps recordCounts s (u.serPush r) := by
  unfold State.serPush
  refine .beside (.ite h ?_) ⟨rfl, rfl, rfl, rfl⟩
  split
  · exact h
  · refine .mirror (.countSat ?_ (by decide))
    exact .beside h ⟨rfl, rfl, rfl, rfl⟩

theorem PipeKeeps.gwPump (h : PipeKeeps recordCounts s u) {k : Nat} : PipeKeeps recordCounts s (State.gwPump k u) := by
  induction k generalizing u with
  | zero => exact h
  | succ k ih =>
    unfold State.gwPump
    split
    · exact .ite h (ih (h.trans ((PipeKeeps.originate (.links (.refl _ u))).mono (List.subset_append_left ..))))
    · exact h

theorem PipeKeeps.gwRoom (h : PipeKeeps recordCounts s u) {k n : Nat} :
    PipeKeeps recordCounts s (State.gwRoom k u n) := by
  induction k generalizing u with
  | zero => exact h
  | succ k ih =>
    unfold State.gwRoom
    split
    · exact h
    · exact .ite (ih (.mirror (.countSat (.links h) (by decide)))) h

theorem PipeKeeps.gwPush (h : PipeKeeps recordCounts s u) {r : List Byte} : PipeKeeps recordCounts s (u.gwPush r) := by
  unfold State.gwPush
  exact .gwPump (.links h.gwRoom)

/-- A record goes to every link that takes it (R341). -/
theorem PipeKeeps.toLinks (h : PipeKeeps recordCounts s u) {takes : State → LinkId → Bool} {r : List Byte} :
    PipeKeeps recordCounts s (u.toLinks takes r) := by
  unfold State.toLinks
  exact .maybe (.ite (.serPush (.maybe h (.usbPush ·))) (.maybe h (.usbPush ·))) (.gwPush ·)

theorem PipeKeeps.nextSeq (h : PipeKeeps recordCounts s u) : PipeKeeps recordCounts s u.nextSeq := by
  unfold State.nextSeq
  exact .askBlock (.countWrap (.former (.maybe h (.countSat · (by decide)))) (by decide))

theorem PipeKeeps.formRecord (h : PipeKeeps recordCounts s u) {make : Word → List Byte} {msg : List Byte → PairMsg} :
    PipeKeeps recordCounts s (u.formRecord make msg) := by
  unfold State.formRecord
  exact .ite h (.ite (.former h) (.mirror (.toLinks (.nextSeq h))))

/-- Results wait in the queue whatever record is formed. -/
theorem State.formRecord_results (s : State) (make : Word → List Byte) (msg : List Byte → PairMsg) :
    (s.formRecord make msg).former.results = s.former.results := by
  unfold State.formRecord
  dsimp only
  split
  · rfl
  · split
    · rfl
    · simp [State.nextSeq, apply_ite State.former]

end

end Sys2Proof.Machine
end

section
/-! SUPPORT. Decisions: the head notice, its verdict word and its record (R318 to R320, R322). -/

namespace Sys2Proof.Machine

section
variable {s : State} {n : Notice} {r : List Notice}

/-! ### The three steps of a decision -/

/-- The head has left the queue and is counted (R318). -/
def State.headGone (s : State) (r : List Notice) : State :=
  { s with vs := { s.vs with decide_ := r, headFrom := s.nowNs } }.countWrap Fld.vsDecidedCount 1

/-- An automatic decision is counted besides, with its event (R320). -/
def State.headTaken (s : State) (n : Notice) (r : List Notice) (auto : Bool) : State :=
  let y := s.headGone r
  if auto then (y.count16 Fld.vsAutoCount).bbEvent 0x0A#7 (BitVec.ofNat 8 n.ctx.val) 0x0002#16 n.fidx else y

/-- In `y`, the verdict word goes to its entry, unless that is lapped or VALID for the frame in `s` (R319, R322, R335). -/
def State.verdictWritten (s : State) (n : Notice) (w : BitVec 16) (y : State) : State :=
  if s.lapped n then (y.count16 Fld.vsLappedCount).bbEvent 0x0A#7 (BitVec.ofNat 8 n.ctx.val) 0x0003#16 n.fidx
  else if s.validHeld n then y
  else
    let z := y.storeWrite (queryAddr n.ctx n.fidx) n.fidx w
    { z with vs := { z.vs with lastDecision := some (queryAddr n.ctx n.fidx, n.fidx, s.time.core) } }

/-- In `y`, the frame's results go into its record, which a standby does not form again (R319, R342). -/
def State.decisionRecorded (s : State) (n : Notice) (w : BitVec 16) (y : State) : State :=
  let ts := y.former.forFrame n.ctx n.fidx
  let z := { y with former := y.former.dropFrame n.ctx n.fidx }
  if s.validHeld n && s.holdsRecords then z
  else z.formRecord (fun k => if s.validHeld n then withReplay (z.frameRecord n w ts k) else z.frameRecord n w ts k)
    (.decision (queryAddr n.ctx n.fidx) w)

theorem State.decideHead_of_head (hd : s.vs.decide_ = n :: r) (cls : Nat) (auto : Bool) : s.decideHead cls auto =
    s.decisionRecorded n (verdictWord n cls) (s.verdictWritten n (verdictWord n cls) (s.headTaken n r auto)) := by
  rw [State.decideHead, hd]
  rfl

theorem State.decideHead_nil (hd : s.vs.decide_ = []) (cls : Nat) (auto : Bool) : s.decideHead cls auto = s := by
  rw [State.decideHead, hd]

theorem State.headGone_does (s : State) (r : List Notice) {y : State} (hy : s.headGone r = y) :
    y.vs = { s.vs with decide_ := r, headFrom := s.nowNs } ∧ y.former = s.former ∧
    y.getF Fld.vsDecidedCount = s.getF Fld.vsDecidedCount + 1 ∧ ∀ b, b ≠ Fld.vsDecidedCount → y.getF b = s.getF b := by
  subst hy
  exact ⟨rfl, rfl, State.getF_countWrap_self .., fun b hb => State.getF_countWrap_of_ne _ hb 1⟩

theorem State.headTaken_does (s : State) (n : Notice) (r : List Notice) (auto : Bool) {z : State}
    (hz : s.headTaken n r auto = z) : z.vs = { s.vs with decide_ := r, headFrom := s.nowNs } ∧ z.former = s.former ∧
    z.getF Fld.vsDecidedCount = s.getF Fld.vsDecidedCount + 1 ∧
    (auto = true → z.getN Fld.vsAutoCount = min 65535 (s.getN Fld.vsAutoCount + 1)) := by
  unfold State.headTaken at hz
  generalize hy : s.headGone r = y at hz
  obtain ⟨vs, former, decided, others⟩ := s.headGone_does r hy
  subst hz
  cases auto with
  | false => exact ⟨vs, former, decided, nofun⟩
  | true =>
    refine ⟨vs, former, (State.getF_count16_of_ne y (by decide)).trans decided, fun _ => ?_⟩
    rw [← State.getN_of_getF (others Fld.vsAutoCount (by decide))]
    exact y.getN_count16_self Fld.vsAutoCount

/-- A write of the store beside the words: its queues and its owner. -/
theorem State.storeWrite_vs (s : State) (a : BitVec 14) (f : Word) (w : BitVec 16) :
    (s.storeWrite a f w).vs.decide_ = s.vs.decide_ ∧ (s.storeWrite a f w).vs.mirror = s.vs.mirror ∧
    (s.storeWrite a f w).storeOwner a = f := by
  unfold State.storeWrite
  rw [State.backlogEdge_eq, State.storeOwner]
  dsimp only
  split <;> exact ⟨rfl, rfl, sparseGet_sparseSet_self ..⟩

/-- What becomes of the entry of a decided frame (R319, R322). -/
theorem State.verdictWritten_does (s : State) (n : Notice) (w : BitVec 16) (y : State) {z : State}
    (hz : s.verdictWritten n w y = z) : let a := queryAddr n.ctx n.fidx
    z.vs.decide_ = y.vs.decide_ ∧ z.vs.mirror = y.vs.mirror ∧ z.former = y.former ∧
    (s.lapped n = false → s.validHeld n = false → z.storeAt a = w ∧ z.storeOwner a = n.fidx) ∧
    (s.lapped n = true ∨ s.validHeld n = true → z.storeAt a = y.storeAt a) ∧
    (∀ b, b ≠ a → z.storeAt b = y.storeAt b) ∧
    ∀ b, b ≠ Fld.vsLappedCount → b ≠ Fld.vsBacklogCount → z.getF b = y.getF b := by
  subst hz
  unfold State.verdictWritten
  cases lapped : s.lapped n with
  | true => exact ⟨rfl, rfl, rfl, nofun, fun _ => rfl, fun _ _ => rfl, fun _ hb _ => State.getF_count16_of_ne _ hb⟩
  | false =>
    cases held : s.validHeld n with
    | true => exact ⟨rfl, rfl, rfl, nofun, fun _ => rfl, fun _ _ => rfl, fun _ _ _ => rfl⟩
    | false =>
      obtain ⟨-, entry, others, fields⟩ := y.storeWrite_does (queryAddr n.ctx n.fidx) n.fidx w
      obtain ⟨queue, mirror, owner⟩ := y.storeWrite_vs (queryAddr n.ctx n.fidx) n.fidx w
      exact ⟨queue, mirror, by simp, fun _ _ => ⟨entry, owner⟩, by simp, others,
        fun b _ hb => fields b hb⟩

/-- The record takes the frame's results out of the queue (R342). -/
theorem State.decisionRecorded_does (s : State) (n : Notice) (w : BitVec 16) (y : State) {u : State}
    (hu : s.decisionRecorded n w y = u) : u.vs = y.vs ∧
    u.former.results = y.former.results.filter (fun x => !(x.ctx == n.ctx && x.fidx == n.fidx)) ∧
    ∀ b, b ∉ recordCounts → u.getF b = y.getF b := by
  subst hu
  unfold State.decisionRecorded
  dsimp only
  split
  · exact ⟨rfl, rfl, fun _ _ => rfl⟩
  · refine ⟨by simp, State.formRecord_results .., fun b hb => ?_⟩
    exact (PipeKeeps.formRecord (.refl recordCounts _)).fields b hb

/-! ### A decision -/

/-- `u` follows `s` by the decision of notice `n` with a class, `r` being the notices behind it. -/
def Decided (s : State) (n : Notice) (r : List Notice) (cls : Nat) (u : State) : Prop :=
  let a := queryAddr n.ctx n.fidx
  CoreFrame s u ∧ LightFrame s u ∧ FrameFrame s u ∧ u.vs.decide_ = r ∧ u.vs.mirror = s.vs.mirror ∧
  (s.lapped n = false → s.validHeld n = false → u.storeAt a = verdictWord n cls ∧ u.storeOwner a = n.fidx) ∧
  (s.lapped n = true ∨ s.validHeld n = true → u.storeAt a = s.storeAt a) ∧
  (∀ b : BitVec 14, b ≠ a → u.storeAt b = s.storeAt b) ∧
  u.former.results = s.former.results.filter (fun x => !(x.ctx == n.ctx && x.fidx == n.fidx))

theorem State.decideHead_does (hd : s.vs.decide_ = n :: r) (cls : Nat) (auto : Bool) {u : State}
    (hu : s.decideHead cls auto = u) : Decided s n r cls u ∧
    u.getF Fld.vsDecidedCount = s.getF Fld.vsDecidedCount + 1 ∧
    (auto = true → u.getN Fld.vsAutoCount = min 65535 (s.getN Fld.vsAutoCount + 1)) := by
  have core : CoreFrame s u := by rw [← hu]; constructor <;> simp
  have light : LightFrame s u := by rw [← hu]; constructor <;> simp
  have frames : FrameFrame s u := by rw [← hu]; constructor <;> simp
  rw [State.decideHead_of_head hd] at hu
  generalize hy : s.headTaken n r auto = y at hu
  generalize hz : s.verdictWritten n (verdictWord n cls) y = z at hu
  obtain ⟨vs, former, decided, automatic⟩ := s.headTaken_does n r auto hy
  obtain ⟨queue, mirror, former', written, kept, others, fields⟩ := s.verdictWritten_does n _ y hz
  obtain ⟨vs', results, fields'⟩ := s.decisionRecorded_does n _ z hu
  have store (b : BitVec 14) : y.storeAt b = s.storeAt b := by rw [State.storeAt, vs, State.storeAt]
  have store' (b : BitVec 14) : u.storeAt b = z.storeAt b := by rw [State.storeAt, vs', State.storeAt]
  have owner (b : BitVec 14) : u.storeOwner b = z.storeOwner b := by rw [State.storeOwner, vs', State.storeOwner]
  refine ⟨⟨core, light, frames, ?_, ?_, fun hl hv => ?_, fun h => ?_, fun b hb => ?_, ?_⟩, ?_, fun ha => ?_⟩
  · rw [vs', queue, vs]
  · rw [vs', mirror, vs]
  · rw [store', owner]
    exact written hl hv
  · rw [store', kept h, store]
  · rw [store', others b hb, store]
  · rw [results, former', former]
  · rw [fields' _ (by decide), fields _ (by decide) (by decide), decided]
  · rw [State.getN_of_getF (fields' _ (by decide)), State.getN_of_getF (fields _ (by decide) (by decide)), automatic ha]

end

/-! ### VS.DECIDE -/

section
variable {s : State} {t : TrowelId} {v : Word}

/-- The class and the tag lie in the bits that a write of VS.DECIDE keeps. -/
theorem decide_cut (v : Word) : (v &&& 65535).toNat % 4 = v.toNat % 4 ∧
    (v &&& 65535).toNat / 16 % 4096 = v.toNat / 16 % 4096 := by
  have cut : (v &&& 65535).toNat = v.toNat % 65536 :=
    (BitVec.toNat_and v 65535).trans (Nat.and_two_pow_sub_one_eq_mod v.toNat 16)
  omega

/-- A tag that is not the head's is stale (R318). -/
theorem State.vsNow_stale {x : Word} (h : ∀ m, s.vs.decide_.head? = some m → x.toNat / 16 % 4096 ≠ m.tag.toNat) :
    s.vsNow Fld.vsDecide x = (s.count16 Fld.vsDecideStaleCount).bbEvent 0x0A#7 0xFF#8 0x0001#16 x := by
  rw [State.vsNow, if_pos rfl]
  cases hd : s.vs.decide_ with
  | nil => rfl
  | cons m q => exact if_neg (h m (by simp [hd]))

/-- The head's tag decides it (R318). -/
theorem State.vsNow_decides {x : Word} {n : Notice} {r : List Notice} (hd : s.vs.decide_ = n :: r)
    (h : x.toNat / 16 % 4096 = n.tag.toNat) : s.vsNow Fld.vsDecide x = s.decideHead (x.toNat % 4) false := by
  rw [State.vsNow, if_pos rfl, hd]
  exact if_pos h

section
variable (ht : Takes s t Fld.vsDecide) (hs : s.shadow = [])
include ht hs

theorem vsDecide_decides {n : Notice} {r : List Notice} (hd : s.vs.decide_ = n :: r)
    (h : v.toNat / 16 % 4096 = n.tag.toNat) : Does (.vsDecide t v) s fun u =>
      Decided s n r (v.toNat % 4) u ∧ u.getF Fld.vsDecidedCount = s.getF Fld.vsDecidedCount + 1 := by
  obtain ⟨cls, tag⟩ := decide_cut v
  have write := exec_vsDecide_taken (v := v) ht
  rw [State.vsNow_decides hd (tag.trans h), cls, State.applyStopped_nil (by simp [hs])] at write
  obtain ⟨decided, counted, -⟩ := State.decideHead_does hd (v.toNat % 4) false rfl
  exact ⟨_, write, decided, counted⟩

theorem vsDecide_stale (h : ∀ m, s.vs.decide_.head? = some m → v.toNat / 16 % 4096 ≠ m.tag.toNat) :
    Does (.vsDecide t v) s fun u =>
      u = { s with fields := u.fields, bb := u.bb } ∧ Counted s u Fld.vsDecideStaleCount [] := by
  have write := exec_vsDecide_taken (v := v) ht
  rw [State.vsNow_stale ((decide_cut v).2 ▸ h), State.applyStopped_nil (by simp [hs])] at write
  exact ⟨_, write, rfl, s.count16_counted Fld.vsDecideStaleCount⟩

end

/-! ### The automatic decision -/

theorem autoDecision_decides {n : Notice} {r : List Notice} (h0 : s.getN Fld.vsAutoUs ≠ 0)
    (hn : s.vs.headFrom + 1000 * s.getN Fld.vsAutoUs ≤ s.time.ns) (hd : s.vs.decide_ = n :: r) :
    Does .autoDecision s fun u => Decided s n r (s.getN Fld.vsAutoClass) u ∧
      u.getN Fld.vsAutoCount = min 65535 (s.getN Fld.vsAutoCount + 1) ∧
      u.getF Fld.vsDecidedCount = s.getF Fld.vsDecidedCount + 1 := by
  obtain ⟨decided, counted, automatic⟩ := State.decideHead_does hd (s.getN Fld.vsAutoClass) true rfl
  have due : ¬(s.getN Fld.vsAutoUs = 0 ∨ s.nowNs < s.vs.headFrom + 1000 * s.getN Fld.vsAutoUs) :=
    not_or.mpr ⟨h0, Nat.not_lt.mpr hn⟩
  exact ⟨_, congrArg Host.Outcome.next (if_neg due), decided, automatic rfl, counted⟩

/-- Before the time, without a notice, or turned off, nothing is decided (R320). -/
theorem exec_autoDecision_rests (h : s.getN Fld.vsAutoUs = 0 ∨ s.vs.decide_ = [] ∨
    s.time.ns < s.vs.headFrom + 1000 * s.getN Fld.vsAutoUs) : exec .autoDecision s = .next s := by
  refine congrArg Host.Outcome.next ?_
  obtain off | none_ | early := h
  · exact if_pos (.inl off)
  · rw [State.decideHead_nil none_, ite_self]
  · exact if_pos (.inr early)

/-! ### VS.PEEK_ADDR -/

/-- VS.PEEK_DATA reads the word at VS.PEEK_ADDR while the store stands (R514). -/
theorem State.readField_peekData (hz : s.tap.destroyed = 0) (t : TrowelId) : s.readField t Fld.vsPeekData =
    (s.storeAt ((s.getF Fld.vsPeekAddr).setWidth 14)).setWidth 32 := by
  have row : fieldRow Fld.vsPeekData = some ⟨5, 1, 16, false, 0, .ro, false⟩ := by decide
  have present : ∀ v, absentField v Fld.vsPeekData = false := by
    intro v
    cases v <;> decide
  have unit : s.readUnit t Fld.vsPeekData = s.readVs Fld.vsPeekData := by
    rw [State.readUnit, show unitOf Fld.vsPeekData = .vs by decide]
    exact if_neg (by simp [hz])
  have on : s.turnedOff Fld.vsPeekData = false := rfl
  rw [State.readField, row]
  simp only [present, on, unit]
  rfl

theorem vsPeekAddrWrite_selects (ht : Takes s t Fld.vsPeekAddr) (hs : s.shadow = []) :
    Does (.vsPeekAddrWrite t v) s fun u => u = { s with fields := u.fields } ∧
      u.getF Fld.vsPeekAddr = v &&& 0x3FFF ∧ FieldsKept s u [Fld.vsPeekAddr] ∧
      (s.tap.destroyed = 0 → u.readField t Fld.vsPeekData = (s.storeAt (v.setWidth 14)).setWidth 32) := by
  have write : exec (.vsPeekAddrWrite t v) s = .next (s.setF Fld.vsPeekAddr (v &&& 0x3FFF)) :=
    (exec_vsPeekAddrWrite_taken ht).trans (congrArg Host.Outcome.next (State.applyStopped_nil hs))
  refine ⟨_, write, rfl, s.getF_setF_self .., fun b hb _ => ?_, fun hz => ?_⟩
  · exact s.getF_setF_of_ne (by simpa using hb) _
  · have cut : (v &&& 0x3FFF).setWidth 14 = v.setWidth 14 := by
      rw [BitVec.setWidth_and]
      exact BitVec.and_allOnes
    rw [State.readField_peekData (by exact hz), State.getF_setF_self, cut]
    rfl

end

/-- Settles O35: a word by its fields, a decision by its three steps, VS.PEEK_ADDR by what PEEK_DATA then reads. -/
theorem verdictWordsAndDecisions : Obligations.VerdictWordsAndDecisions := by
  unfold Obligations.VerdictWordsAndDecisions
  refine ⟨fun n cls => ?_, fun s t v n r => ⟨fun ht hs => ⟨vsDecide_decides ht hs, vsDecide_stale ht hs⟩,
    autoDecision_decides, exec_autoDecision_rests, vsPeekAddrWrite_selects⟩⟩
  obtain ⟨valid, pending, mark, hit, syms, gragas, class_, epoch⟩ := verdictWord_fields n cls
  exact ⟨valid, pending, mark, hit, syms, gragas, class_, epoch, pendingWord_marks n.fidx⟩

end Sys2Proof.Machine
end

section
/-! SUPPORT. The lengths of records, and what the links count and queue for one (R339 to R341, R353, R379, R465). -/

namespace Sys2Proof.Machine

/-! ### Lengths -/

@[simp] theorem leBytes_length (n x : Nat) : (leBytes n x).length = n := by
  induction n generalizing x with
  | zero => rfl
  | succ n ih => exact congrArg Nat.succ (ih (x / 256))

theorem State.recHeader_length (s : State) (kind len : Nat) (seq : Word) (ts ctx : Nat) (flags : Byte)
    (word : BitVec 16) (fidx : Word) (items : Nat) : (s.recHeader kind len seq ts ctx flags word fidx items).length = 32 := by
  simp [State.recHeader]

/-- A value of whole words needs no padding (R346). -/
theorem recItem_length {v : List Byte} (h : v.length % 4 = 0) (kind : Nat) :
    (recItem kind v).length = 4 + v.length := by
  simp +arith [recItem, pad4, h]

theorem State.hkRecord_length (s : State) (n : Nat) (seq : Word) : (s.hkRecord n seq).length = 36 + 4 * n := by
  have words : ((List.range n).flatMap fun j => leBytes 4 (s.getN (Fld.recHkWord j))).length = 4 * n := by
    simp [Nat.mul_comm]
  have item := recItem_length (by rw [words]; omega) (kind := 5)
  rw [State.hkRecord, List.length_append, State.recHeader_length, item, words]
  omega

/-! ### The counts of the links -/

/-- The counts that a record may move on its way into the links' queues. -/
def linkCounts : List Nat := pipeCounts ++ [Fld.usbDropCount, Fld.serDropCount, Fld.morGwDropCount]

section
variable {b : Nat}

@[simp] theorem State.getF_mirror (s : State) (m : PairMsg) (a : Nat) : (s.mirror m).getF a = s.getF a :=
  State.getF_of_fields (by simp) a

theorem State.getF_countSat_of_ne (s : State) {a : Nat} (h : b ≠ a) (w n : Nat) :
    (s.countSat w a n).getF b = s.getF b :=
  s.getF_setF_of_ne h _

/-- A further change that happens or not. -/
theorem State.getF_maybe {p : Prop} [Decidable p] {x y : State} (h : y.getF b = x.getF b) :
    (if p then y else x).getF b = x.getF b := by
  split
  · exact h
  · rfl

theorem State.getF_usbDrop (s : State) (h : b ≠ Fld.usbDropCount) : s.usbDrop.getF b = s.getF b := by
  simp only [State.usbDrop]
  split
  · rfl
  · exact (State.getF_mirror ..).trans (State.getF_countSat_of_ne _ h 32 1)

theorem State.getF_usbRoom (s : State) (h : b ≠ Fld.usbDropCount) (k n : Nat) :
    (State.usbRoom k s n).getF b = s.getF b := by
  induction k generalizing s with
  | zero => rfl
  | succ k ih =>
    unfold State.usbRoom
    split
    · exact (ih s.usbDrop).trans (s.getF_usbDrop h)
    · rfl

theorem State.getF_usbPush (s : State) (h : b ≠ Fld.usbDropCount) (r : List Byte) : (s.usbPush r).getF b = s.getF b :=
  (State.getF_of_fields (by simp [State.usbPush]) b).trans (s.getF_usbRoom h 1025 r.length)

theorem State.getF_serPush (s : State) (h : b ≠ Fld.serDropCount) (r : List Byte) :
    (s.serPush r).getF b = s.getF b := by
  unfold State.serPush
  dsimp only
  split
  · rfl
  · split
    · rfl
    · exact (State.getF_mirror ..).trans (State.getF_countSat_of_ne _ h 32 1)

theorem State.getF_gwPump (s : State) (h : b ∉ pipeCounts) (k : Nat) : (State.gwPump k s).getF b = s.getF b := by
  induction k generalizing s with
  | zero => rfl
  | succ k ih =>
    unfold State.gwPump
    split
    · split
      · rfl
      · exact (ih _).trans ((PipeKeeps.originate (.refl pipeCounts _)).fields b h)
    · rfl

theorem State.getF_gwRoom (s : State) (h : b ≠ Fld.morGwDropCount) (k n : Nat) :
    (State.gwRoom k s n).getF b = s.getF b := by
  induction k generalizing s with
  | zero => rfl
  | succ k ih =>
    unfold State.gwRoom
    split
    · rfl
    · split
      · exact (ih _).trans ((State.getF_mirror ..).trans (State.getF_countSat_of_ne _ h 32 1))
      · rfl

theorem State.getF_gwPush (s : State) (h : b ≠ Fld.morGwDropCount) (hp : b ∉ pipeCounts) (r : List Byte) :
    (s.gwPush r).getF b = s.getF b :=
  (State.getF_gwPump _ hp 8).trans (s.getF_gwRoom h 1025 r.length)

/-- The links count what they drop, and nothing else. -/
theorem State.getF_toLinks (s : State) (h : b ∉ linkCounts) (takes : State → LinkId → Bool) (r : List Byte) :
    (s.toLinks takes r).getF b = s.getF b := by
  simp only [linkCounts, List.mem_append, List.mem_cons, List.not_mem_nil, or_false, not_or] at h
  obtain ⟨pipe, usb, ser, gw⟩ := h
  unfold State.toLinks
  exact (State.getF_maybe (State.getF_gwPush _ gw pipe r)).trans
    ((State.getF_maybe (State.getF_serPush _ ser r)).trans (State.getF_maybe (s.getF_usbPush usb r)))

end

/-! ### The USB queue -/

/-- A transfer that starts is marked as in progress, and changes nothing else of USB. -/
theorem State.usbStart_eq (s : State) :
    s.usbStart = { s with usb := { s.usb with busy := s.usbStart.usb.busy }, fab := s.usbStart.fab } := by
  unfold State.usbStart
  dsimp only
  (repeat' split) <;> rfl

theorem State.usbRoom_of_room {s : State} {n : Nat} (h : queueFull s.usb.queue n = false) (k : Nat) :
    State.usbRoom k s n = s := by
  cases k with
  | zero => rfl
  | succ k => exact if_neg (by simp [h])

/-- Where it has room, the queue of USB takes a record at its end (R353). -/
theorem State.usbPush_queue {s : State} {r : List Byte} (h : queueFull s.usb.queue r.length = false) :
    (s.usbPush r).usb.queue = s.usb.queue ++ [⟨r, false⟩] := by
  rw [State.usbPush, State.usbRoom_of_room h, State.usbStart_eq]

/-- The serial line and the gateway leave USB alone. -/
theorem State.toLinks_usb (s : State) (takes : State → LinkId → Bool) (r : List Byte) :
    (s.toLinks takes r).usb = (if takes s .usb then s.usbPush r else s).usb := by
  unfold State.toLinks
  generalize (if takes s .usb then s.usbPush r else s) = x
  simp

/-- Whether USB takes records depends on REC.LINKS and USB.ENABLE. -/
theorem State.linkTakes_usb_congr {s u : State} (hi : u.identity = s.identity) (hs : u.sys = s.sys)
    (hf : ∀ b, b = Fld.recLinks ∨ b = Fld.usbEnable → u.getF b = s.getF b) : u.linkTakes .usb = s.linkTakes .usb := by
  simp only [State.linkTakes]
  rw [State.enabledAt_congr hi hs (hf _ (.inr rfl)), State.getB, hf _ (.inl rfl), State.getB]

end Sys2Proof.Machine
end

section
/-! SUPPORT. Housekeeping records and REC.RES_TAKE (R339 to R342, R428). -/

namespace Sys2Proof.Machine

section
variable {s : State}

/-! ### Numbering and formation -/

/-- The counts that numbering moves. -/
theorem State.getF_nextSeq (s : State) {b : Nat} (hb : b ≠ Fld.pairUnreservedCount) :
    s.nextSeq.getF b = if b = Fld.recFormedCount then s.getF b + 1 else s.getF b := by
  have reserved (x : State) : x.askBlock.getF b = x.getF b := State.getF_of_fields (by simp) b
  have unreserved (p : Bool) : (if p then s.countSat 32 Fld.pairUnreservedCount 1 else s).getF b = s.getF b :=
    State.getF_maybe (s.getF_countSat_of_ne hb 32 1)
  rw [State.nextSeq, reserved]
  by_cases h : b = Fld.recFormedCount
  · subst h
    rw [if_pos rfl, State.getF_countWrap_self]
    exact congrArg (· + 1) (unreserved _)
  · rw [if_neg h, State.getF_countWrap_of_ne _ h]
    exact unreserved _

theorem State.nextSeq_former (s : State) : s.nextSeq.former = { s.former with seqNext := s.former.seqNext + 1 } := by
  simp [State.nextSeq, apply_ite State.former]

/-- A standby holds the record without a number (R428). -/
theorem State.formRecord_holds (he : s.enabledAt Fld.recEnable = true) (hh : s.holdsRecords = true)
    (make : Word → List Byte) (msg : List Byte → PairMsg) :
    s.formRecord make msg = { s with former := { s.former with held := s.former.held ++ [make 0] } } := by
  simp [State.formRecord, he, hh]

/-- Any other engine numbers it, gives it to its links and mirrors it (R340, R341). -/
theorem State.formRecord_numbers (he : s.enabledAt Fld.recEnable = true) (hh : s.holdsRecords = false)
    (make : Word → List Byte) (msg : List Byte → PairMsg) : s.formRecord make msg =
      (s.nextSeq.toLinks State.linkTakes (make s.former.seqNext)).mirror (msg (make s.former.seqNext)) := by
  simp [State.formRecord, he, hh]

theorem State.formRecord_off (he : s.enabledAt Fld.recEnable = false) (make : Word → List Byte)
    (msg : List Byte → PairMsg) : s.formRecord make msg = s := by
  simp [State.formRecord, he]

/-- A numbered record: the next number, the count, and the queue of USB. -/
theorem State.formRecord_does (he : s.enabledAt Fld.recEnable = true) (hh : s.holdsRecords = false)
    (make : Word → List Byte) (msg : List Byte → PairMsg) {u : State} (hu : s.formRecord make msg = u) :
    u.former = { s.former with seqNext := s.former.seqNext + 1 } ∧
    u.getF Fld.recFormedCount = s.getF Fld.recFormedCount + 1 ∧
    (s.linkTakes .usb = false → u.usb.queue = s.usb.queue) ∧
    (s.linkTakes .usb = true → queueFull s.usb.queue (make s.former.seqNext).length = false →
      u.usb.queue = s.usb.queue ++ [⟨make s.former.seqNext, false⟩]) := by
  rw [State.formRecord_numbers he hh] at hu
  generalize make s.former.seqNext = r at hu ⊢
  subst hu
  have usb : ((s.nextSeq.toLinks State.linkTakes r).mirror (msg r)).usb =
      (if s.linkTakes .usb then s.nextSeq.usbPush r else s.nextSeq).usb := by
    have takes : s.nextSeq.linkTakes .usb = s.linkTakes .usb := by
      refine State.linkTakes_usb_congr (by simp) (by simp) fun b hb => ?_
      rw [State.getF_nextSeq s (by obtain rfl | rfl := hb <;> decide), if_neg (by obtain rfl | rfl := hb <;> decide)]
    rw [State.mirror_eq, ← takes]
    exact State.toLinks_usb ..
  have before : s.nextSeq.usb = s.usb := by simp
  refine ⟨by simp [State.nextSeq_former], ?_, fun off => ?_, fun on room => ?_⟩
  · rw [State.getF_mirror, State.getF_toLinks _ (by decide), State.getF_nextSeq s (by decide), if_pos rfl]
  · rw [usb, if_neg (by simp [off]), before]
  · rw [usb, if_pos on, State.usbPush_queue (before ▸ room), before]

/-! ### REC.HK_SEND -/

section
variable {t : TrowelId} {v : Word} (ht : Takes s t Fld.recHkSend) (hs : s.shadow = [])
include ht hs

theorem exec_hkSend : exec (.hkSend t v) s = .next
    (if 1 ≤ v.toNat % 64 ∧ v.toNat % 64 ≤ 32 then s.formRecord (s.hkRecord (v.toNat % 64)) .record else s) := by
  have cut : (v &&& 63).toNat % 64 = v.toNat % 64 := by
    rw [show (v &&& 63).toNat = v.toNat % 64 from
      (BitVec.toNat_and v 63).trans (Nat.and_two_pow_sub_one_eq_mod v.toNat 6), Nat.mod_mod]
  rw [exec_hkSend_taken ht, State.applyStopped_nil (by simp [hs]), State.recNow, if_pos rfl]
  dsimp only
  rw [cut]

theorem exec_hkSend_rests (h : v.toNat % 64 = 0 ∨ 32 < v.toNat % 64 ∨ s.enabledAt Fld.recEnable = false) :
    exec (.hkSend t v) s = .next s := by
  rw [exec_hkSend ht hs]
  split
  · rw [State.formRecord_off (h.resolve_left (by omega) |>.resolve_left (by omega))]
  · rfl

theorem hkSend_holds (hn : 1 ≤ v.toNat % 64) (hm : v.toNat % 64 ≤ 32) (he : s.enabledAt Fld.recEnable = true)
    (hh : s.holdsRecords = true) : Does (.hkSend t v) s fun u =>
      u = { s with former := { s.former with held := s.former.held ++ [s.hkRecord (v.toNat % 64) 0] } } := by
  refine ⟨_, exec_hkSend ht hs, ?_⟩
  rw [if_pos ⟨hn, hm⟩, State.formRecord_holds he hh]

theorem hkSend_numbers (hn : 1 ≤ v.toNat % 64) (hm : v.toNat % 64 ≤ 32) (he : s.enabledAt Fld.recEnable = true)
    (hh : s.holdsRecords = false) : Does (.hkSend t v) s fun u => CoreFrame s u ∧ LightFrame s u ∧ FrameFrame s u ∧
      u.vs = s.vs ∧ u.former = { s.former with seqNext := s.former.seqNext + 1 } ∧
      u.getF Fld.recFormedCount = s.getF Fld.recFormedCount + 1 ∧
      (s.linkTakes .usb = false → u.usb.queue = s.usb.queue) ∧
      (s.linkTakes .usb = true → queueFull s.usb.queue (s.hkRecord (v.toNat % 64) s.former.seqNext).length = false →
        u.usb.queue = s.usb.queue ++ [⟨s.hkRecord (v.toNat % 64) s.former.seqNext, false⟩]) := by
  refine ⟨_, exec_hkSend ht hs, ?_⟩
  rw [if_pos ⟨hn, hm⟩]
  refine ⟨?_, ?_, ?_, by simp, State.formRecord_does he hh _ _ rfl⟩ <;> constructor <;> simp

end

/-! ### REC.RES_TAKE -/

section
variable {t : TrowelId} {v : Word} {c : Instr}

theorem State.arrive_resTake (ht : Takes s t Fld.recResTake) (hs : s.shadow = []) :
    s.arrive t (BitVec.ofNat 16 Fld.recResTake) v = s.resTake (v &&& 65535) := by
  rw [State.arrive_now (n := 16) ht (by decide) (by decide) (by decide) (State.widens_none (by decide) (by decide)),
    State.applyNow, show unitOf Fld.recResTake = .recf by decide]
  exact State.applyStopped_nil (by simp [hs])

section
variable (hc : exec c s = .next (s.resTake (v &&& 65535)))
include hc

/-- The head's tag takes its result, with the action's payload or not at all (R342). -/
theorem resTake_takes {r : Result} {q : List Result} (hr : s.former.results = r :: q)
    (h : v.toNat / 16 % 4096 = r.tag.toNat) : Does c s fun u => u = { s with former := { s.former with
      results := q
      taken := if v.toNat % 4 = 2 then s.former.taken else s.former.taken ++ [⟨r, decide (v.toNat % 4 = 1)⟩] } } := by
  obtain ⟨action, tag⟩ := decide_cut v
  refine ⟨_, hc, ?_⟩
  rw [State.resTake, hr]
  dsimp only
  rw [if_pos (tag.trans h), action]

/-- Any other tag is stale, and counted (R342). -/
theorem resTake_stale (h : ∀ x, s.former.results.head? = some x → v.toNat / 16 % 4096 ≠ x.tag.toNat) :
    Does c s fun u => u = { s with fields := u.fields, bb := u.bb } ∧ Counted s u Fld.recTakeStaleCount [] := by
  refine ⟨_, hc, ?_⟩
  have stale : s.resTake (v &&& 65535) =
      (s.count16 Fld.recTakeStaleCount).bbEvent 0x0A#7 0xFF#8 0x0004#16 (v &&& 65535) := by
    rw [State.resTake]
    cases hr : s.former.results with
    | nil => rfl
    | cons x q => exact if_neg ((decide_cut v).2 ▸ h x (by simp [hr]))
  rw [stale]
  exact ⟨rfl, s.count16_counted Fld.recTakeStaleCount⟩

end

end

end

/-- Settles O37: a record by its number, its count and its place on USB; a result by the head's tag and the action. -/
theorem recordsAndResults : Obligations.RecordsAndResults := by
  unfold Obligations.RecordsAndResults
  refine fun s t v r q => ⟨fun ht hs => ⟨exec_hkSend_rests ht hs, fun hn hm he =>
    ⟨hkSend_holds ht hs hn hm he, hkSend_numbers ht hs hn hm he⟩⟩, fun ht hs => ?_,
    fun k m => ⟨by rw [State.hkRecord_length]; omega, s.hkRecord_length m _⟩⟩
  have arrives := State.arrive_resTake (v := v) ht hs
  have whole (h : v.toNat % 4 = 0 ∨ v.toNat % 4 = 3) : exec (.resTakeInclude t v) s = .next (s.resTake (v &&& 65535)) :=
    congrArg Host.Outcome.next ((if_pos h).trans arrives)
  have bare (h : v.toNat % 4 = 1) : exec (.resTakeNoPayload t v) s = .next (s.resTake (v &&& 65535)) :=
    congrArg Host.Outcome.next ((if_pos h).trans arrives)
  have omitted (h : v.toNat % 4 = 2) : exec (.resTakeOmit t v) s = .next (s.resTake (v &&& 65535)) :=
    congrArg Host.Outcome.next ((if_pos h).trans arrives)
  refine ⟨fun hr tag => ⟨fun h => ?_, fun h => ?_, fun h => ?_⟩, fun tag =>
    ⟨fun h => resTake_stale (whole h) tag, fun h => resTake_stale (bare h) tag, fun h => resTake_stale (omitted h) tag⟩⟩
  · have act : ¬ v.toNat % 4 = 2 ∧ ¬ v.toNat % 4 = 1 := by omega
    simpa [act] using resTake_takes (whole h) hr tag
  · simpa [h] using resTake_takes (bare h) hr tag
  · simpa [h] using resTake_takes (omitted h) hr tag

end Sys2Proof.Machine
end

section
/-! SUPPORT. USB beside its tap packets, and transfers abandoned (R271, R357, R365). -/

namespace Sys2Proof.Machine

/-! ### Tap packets -/

/-- The USB unit without its tap packets. -/
def Usb.noTaps (x : Usb) : Usb := { x with taps := [] }

theorem Usb.eq_of_noTaps {x y : Usb} (h : x.noTaps = y.noTaps) : x = { y with taps := x.taps } := by
  cases x
  cases y
  simp_all [Usb.noTaps]

theorem foldl_noTaps {β : Type} {f : State → β → State} (h : ∀ s x, (f s x).usb.noTaps = s.usb.noTaps) (l : List β)
    (s : State) : (l.foldl f s).usb.noTaps = s.usb.noTaps := by
  induction l generalizing s with
  | nil => rfl
  | cons x l ih => exact (ih (f s x)).trans (h s x)

theorem State.tapPush_noTaps (s : State) (f : Frame) (b : List Byte) :
    (s.tapPush f b).usb.noTaps = s.usb.noTaps := by
  simp [State.tapPush, State.tapPump, Usb.noTaps]

theorem State.tapCut_noTaps (s : State) (id : Nat) : (s.tapCut id).usb.noTaps = s.usb.noTaps := by
  unfold State.tapCut
  split
  · rfl
  · split
    · rfl
    · dsimp only
      split
      · exact State.tapPush_noTaps ..
      · rfl

theorem State.tapsGone_noTaps (s : State) (sel : Option (BitVec 6) → Bool) :
    (s.tapsGone sel).usb.noTaps = s.usb.noTaps :=
  foldl_noTaps (f := fun v (x : Frame) => v.tapCut x.id) (fun v x => v.tapCut_noTaps x.id) _ s

/-- Destinations that go away take nothing of USB but tap packets with them. -/
theorem State.tapsLost_noTaps (s : State) (sel : Option (BitVec 6) → Bool) :
    (s.tapsLost sel).usb.noTaps = s.usb.noTaps := by
  refine (foldl_noTaps (fun v x => ?_) _ _).trans (s.tapsGone_noTaps sel)
  split <;> rfl

theorem PipeKeeps.tapsLost {u : State} (h : PipeKeeps pipeCounts s u) {sel : Option (BitVec 6) → Bool} :
    PipeKeeps pipeCounts s (u.tapsLost sel) := by
  unfold State.tapsLost
  refine .foldl (fun v x hv => .ite hv (.count16 hv (ctxTapDropCount_mem x.ctx))) _ (.links ?_)
  exact .foldl (fun _ _ hv => .tapCut hv) _ h

/-! ### Transfers abandoned -/

/-- The queue once the transfer in progress has ended: an acknowledged record leaves (R357). -/
def State.queueLeft (s : State) : List QRec :=
  if s.usb.busy && s.usb.busyAcked then s.usb.queue.eraseIdx s.usb.next else s.usb.queue

theorem State.usbDropTransfer_usb (s : State) :
    s.usbDropTransfer.usb = { s.usb with queue := s.queueLeft, busy := false, busyAcked := false } := by
  unfold State.usbDropTransfer State.queueLeft
  dsimp only
  split <;> rfl

/-- The records stay queued but for an acknowledged one in transfer (R365). -/
theorem State.usbAbandon_usb (s : State) : s.usbAbandon.usb =
    { s.usb with queue := s.queueLeft, busy := false, busyAcked := false, taps := s.usbAbandon.usb.taps } := by
  have beside := Usb.eq_of_noTaps (s.usbDropTransfer.tapsLost_noTaps (·.isNone))
  rw [State.usbDropTransfer_usb] at beside
  exact beside

theorem PipeKeeps.usbAbandon (s : State) : PipeKeeps pipeCounts s s.usbAbandon := by
  unfold State.usbAbandon
  exact .tapsLost (.links (.refl ..))

/-- The control endpoint's own state returns to Default with the records kept (R350, R365). -/
theorem State.usbDefault_usb (s : State) : s.usbAbandon.usbDefault.usb = { s.usb with
    queue := s.queueLeft, busy := false, busyAcked := false, taps := s.usbAbandon.usb.taps
    configured := false, suspended := false, address := 0, halted1 := false, halted2 := false } := by
  rw [State.usbDefault, s.usbAbandon_usb]

theorem State.usbRestart_starts (s : State) : s.usbRestart = State.usbStart
    { s with usb := { s.usb with queue := s.queueLeft, next := 0, busy := false, busyAcked := false } } := by
  unfold State.usbRestart State.queueLeft
  dsimp only
  split <;> rfl

/-- Whatever transfer starts next, the stream is at its oldest record (R355). -/
theorem State.usbRestart_eq (s : State) : s.usbRestart = { s with
    usb := { s.usb with queue := s.queueLeft, next := 0, busy := s.usbRestart.usb.busy, busyAcked := false }
    fab := s.usbRestart.fab } := by
  rw [State.usbRestart_starts]
  exact State.usbStart_eq _

end Sys2Proof.Machine
end

section
/-! SUPPORT. Attachment to USB, and the returns to Default (R349 to R351, R365). -/

namespace Sys2Proof.Machine

section
variable {s : State}

/-! ### Attachment -/

theorem State.usbAttach_attaches (ha : s.usb.attached = false) (hv : s.usb.vbus = true) (hr : s.usbRuns = true)
    (hp : s.usbPhase = true) :
    s.usbAttach = { s with usb := { s.usb with attached := true, speed := if s.ssOffered then 3 else 2 } } := by
  simp [State.usbAttach, ha, hv, hr, hp]

theorem State.usbAttach_rests (hr : s.usbRuns = false) : s.usbAttach = s := by
  simp [State.usbAttach, hr]

theorem vbusPresent_attaches (ha : s.usb.attached = false) (hr : s.usbRuns = true) (hp : s.usbPhase = true) :
    Does .vbusPresent s fun u => u = { s with pins := { s.pins with vbus := true }, usb := u.usb } ∧
      u.usb = { s.usb with vbus := true, attached := true, speed := if s.ssOffered then 3 else 2 } :=
  ⟨_, congrArg Host.Outcome.next (State.usbAttach_attaches ha rfl hr hp), rfl, rfl⟩

theorem vbusPresent_rests (hr : s.usbRuns = false) : Does .vbusPresent s fun u =>
    u = { s with pins := { s.pins with vbus := true }, usb := { s.usb with vbus := true } } :=
  ⟨_, rfl, State.usbAttach_rests hr⟩

/-! ### Detachment -/

theorem State.usbDetach_usb (ha : s.usb.attached = true) : s.usbDetach.usb = { s.usb with
    queue := s.queueLeft, busy := false, busyAcked := false, taps := s.usbAbandon.usb.taps
    configured := false, suspended := false, address := 0, halted1 := false, halted2 := false
    attached := false, speed := 0, testMode := 0 } := by
  rw [State.usbDetach, if_neg (by simp [ha])]
  dsimp only
  rw [s.usbDefault_usb]

theorem State.getF_usbDetach {b : Nat} (hb : b ∉ pipeCounts) : s.usbDetach.getF b = s.getF b := by
  unfold State.usbDetach
  split
  · rfl
  · exact (PipeKeeps.usbAbandon s).fields b hb

theorem vbusAbsent_detaches (ha : s.usb.attached = true) : Does .vbusAbsent s fun u =>
    CoreFrame s u ∧ LightFrame s u ∧ u.vs = s.vs ∧ u.usb.attached = false ∧ u.usb.speed = 0 ∧
    u.usb.configured = false ∧ u.usb.address = 0 ∧ u.usb.testMode = 0 ∧ u.usb.busy = false ∧
    u.usb.queue = s.queueLeft ∧ u.usb.vbus = false := by
  refine ⟨_, rfl, by constructor <;> simp, by constructor <;> simp, by simp, ?_⟩
  rw [State.usbDetach_usb (by exact ha)]
  exact ⟨rfl, rfl, rfl, rfl, rfl, rfl, rfl, rfl⟩

/-! ### USB.ENABLE -/

section
variable {t : TrowelId} {v : Word} (ht : Takes s t Fld.usbEnable) (hs : s.shadow = [])
include ht hs

theorem exec_usbEnableWrite : exec (.usbEnableWrite t v) s = .next
    (if v.getLsbD 0 then (s.setF Fld.usbEnable (v &&& 1)).usbAttach
      else (s.setF Fld.usbEnable (v &&& 1)).usbDetach) := by
  rw [exec_usbEnableWrite_taken ht, State.applyStopped_nil (by simp [hs]), State.usbNow, if_pos rfl, getLsbD_and_one]

theorem usbEnableWrite_attaches (hv : v.getLsbD 0 = true) (ha : s.usb.attached = false) (hb : s.usb.vbus = true)
    (hp : s.phase = .running) : Does (.usbEnableWrite t v) s fun u =>
      u = { s with fields := u.fields, usb := u.usb } ∧
      u.usb = { s.usb with vbus := true, attached := true, speed := if s.ssOffered then 3 else 2 } ∧
      u.enabledAt Fld.usbEnable = true := by
  have enabled {u : State} (hi : u.identity = s.identity) (hy : u.sys = s.sys) (hf : u.getF Fld.usbEnable = v &&& 1) :
      u.enabledAt Fld.usbEnable = true := (State.enabledAt_of_write ht hi hy hf).trans hv
  have runs : (s.setF Fld.usbEnable (v &&& 1)).usbRuns = true := by
    rw [State.usbRuns, if_neg (by simp [hp])]
    exact enabled rfl rfl (s.getF_setF_self ..)
  have phase : (s.setF Fld.usbEnable (v &&& 1)).usbPhase = true := by simp [State.usbPhase, hp]
  refine ⟨_, exec_usbEnableWrite ht hs, ?_⟩
  rw [if_pos hv, State.usbAttach_attaches (s := s.setF Fld.usbEnable (v &&& 1)) ha hb runs phase]
  refine ⟨rfl, ?_, enabled rfl rfl (s.getF_setF_self ..)⟩
  rw [← hb]
  rfl

theorem usbEnableWrite_detaches (hv : v.getLsbD 0 = false) (ha : s.usb.attached = true) :
    Does (.usbEnableWrite t v) s fun u => CoreFrame s u ∧ LightFrame s u ∧ u.usb.attached = false ∧
      u.usb.queue = s.queueLeft ∧ u.enabledAt Fld.usbEnable = false := by
  refine ⟨_, exec_usbEnableWrite ht hs, ?_⟩
  rw [if_neg (by rw [hv]; exact Bool.false_ne_true)]
  refine ⟨by constructor <;> simp, by constructor <;> simp, ?_, ?_, ?_⟩
  · rw [State.usbDetach_usb (by exact ha)]
  · rw [State.usbDetach_usb (by exact ha)]
    rfl
  · refine (State.enabledAt_of_write ht (by simp) (by simp) ?_).trans hv
    exact (State.getF_usbDetach (by decide)).trans (s.getF_setF_self ..)

end

/-! ### Bus reset, training and suspend -/

/-- The function after a bus reset, before it is counted (R349, R365). -/
def State.busReset (s : State) (highSpeed : Bool) : State :=
  let x := s.usbAbandon.usbDefault
  { x with usb := { x.usb with speed := if x.usb.speed = 3 then 3 else if highSpeed then 2 else 1 } }

theorem exec_usbBusReset (ha : s.usb.attached = true) (b : Bool) :
    exec (.usbBusReset b) s = .next (((s.busReset b).count16 Fld.usbBusResetCount).raise 3 32) :=
  congrArg Host.Outcome.next (if_neg (by simp [ha]))

theorem PipeKeeps.busReset (s : State) (b : Bool) : PipeKeeps pipeCounts s (s.busReset b) :=
  .links (.links (.usbAbandon s))

theorem State.busReset_usb (s : State) (b : Bool) : (s.busReset b).usb = { s.usb with
    queue := s.queueLeft, busy := false, busyAcked := false, taps := s.usbAbandon.usb.taps
    configured := false, suspended := false, address := 0, halted1 := false, halted2 := false
    speed := if s.usb.speed = 3 then 3 else if b then 2 else 1 } := by
  unfold State.busReset
  dsimp only
  rw [s.usbDefault_usb]

theorem usbBusReset_resets (ha : s.usb.attached = true) (b : Bool) : Does (.usbBusReset b) s fun u =>
    CoreFrame s u ∧ LightFrame s u ∧ Raised s u 3 32 ∧ u.usb.attached = true ∧ u.usb.configured = false ∧
    u.usb.address = 0 ∧ u.usb.queue = s.queueLeft ∧ u.usb.speed = (if s.usb.speed = 3 then 3 else if b then 2 else 1) ∧
    u.getN Fld.usbBusResetCount = min 65535 (s.getN Fld.usbBusResetCount + 1) := by
  have raised : Raised s (((s.busReset b).count16 Fld.usbBusResetCount).raise 3 32) 3 32 :=
    PipeKeeps.raised (w := Fld.usbBusResetCount :: pipeCounts) (by decide)
      (.count16 ((PipeKeeps.busReset s b).mono (List.subset_cons_self ..)) List.mem_cons_self) (.refl ..)
  have counted : (((s.busReset b).count16 Fld.usbBusResetCount).raise 3 32).getN Fld.usbBusResetCount =
      min 65535 (s.getN Fld.usbBusResetCount + 1) := by
    rw [State.getN_of_getF (State.getF_raise ..), State.getN_count16_self,
      State.getN_of_getF ((PipeKeeps.busReset s b).fields _ (by decide))]
  have usb : (((s.busReset b).count16 Fld.usbBusResetCount).raise 3 32).usb = (s.busReset b).usb := by simp
  refine ⟨_, exec_usbBusReset ha b, ?_, ?_, raised, ?_⟩
  · constructor <;> simp [State.busReset]
  · constructor <;> simp [State.busReset]
  · rw [usb, State.busReset_usb]
    exact ⟨ha, rfl, rfl, rfl, rfl, counted⟩

theorem superspeedTrainingTimeout_slows (ha : s.usb.attached = true) (h3 : s.usb.speed = 3)
    (hc : s.usb.configured = false) : Does .superspeedTrainingTimeout s fun u =>
      u = { s with usb := { s.usb with speed := 2 } } :=
  ⟨_, rfl, if_pos (by simp [ha, h3, hc])⟩

/-- No transfer starts while the bus is suspended (R351). -/
theorem State.usbStart_idle (h : s.usbStreams = false) : s.usbStart = s := by
  simp [State.usbStart, h]

theorem usbSuspend_suspends (ha : s.usb.attached = true) : Does (.usbSuspend true) s fun u =>
    u = { s with usb := { s.usb with suspended := true } } := by
  refine ⟨_, rfl, (if_neg (by simp [ha])).trans (State.usbStart_idle ?_)⟩
  simp [State.usbStreams]

theorem usbSuspend_resumes (ha : s.usb.attached = true) : Does (.usbSuspend false) s fun u =>
    u = { s with usb := u.usb, fab := u.fab } ∧ u.usb.suspended = false ∧ u.usb.queue = s.usb.queue ∧
    u.usb.next = s.usb.next := by
  refine ⟨_, congrArg Host.Outcome.next (if_neg (by simp [ha])), ?_⟩
  rw [State.usbStart_eq]
  exact ⟨rfl, rfl, rfl, rfl⟩

end

end Sys2Proof.Machine
end

section
/-! SUPPORT. The record and tap streams of USB and their restarts (R354 to R358). -/

namespace Sys2Proof.Machine

section
variable {s : State}

/-! ### Transfers that end -/

theorem exec_usbRecordTransferDone {r : QRec} (hs : s.usbStreams = true) (hb : s.usb.busy = true)
    (hr : s.usb.queue[s.usb.next]? = some r) : exec .usbRecordTransferDone s = .next
      (State.usbStart { s with usb := { s.usb with
        queue := if s.usb.busyAcked then s.usb.queue.eraseIdx s.usb.next
          else s.usb.queue.set s.usb.next { r with sent := true }
        next := if s.usb.busyAcked then s.usb.next else s.usb.next + 1, busy := false, busyAcked := false
        sentSeq := if s.usb.sentAny && precedes (recSeq r.bytes) s.usb.sentSeq then s.usb.sentSeq else recSeq r.bytes
        sentAny := true } }) := by
  refine congrArg Host.Outcome.next ((if_neg (by simp [hs])).trans ((if_pos hb).trans ?_))
  rw [hr]

theorem usbRecordTransferDone_sends {r : QRec} (hs : s.usbStreams = true) (hb : s.usb.busy = true)
    (hr : s.usb.queue[s.usb.next]? = some r) (hk : s.usb.busyAcked = false) : Does .usbRecordTransferDone s fun u =>
      u = { s with usb := u.usb, fab := u.fab } ∧ u.usb.next = s.usb.next + 1 ∧
      u.usb.queue = s.usb.queue.set s.usb.next { r with sent := true } ∧ u.usb.sentSeq =
        (if s.usb.sentAny = true ∧ precedes (recSeq r.bytes) s.usb.sentSeq = true then s.usb.sentSeq
          else recSeq r.bytes) := by
  refine ⟨_, exec_usbRecordTransferDone hs hb hr, ?_⟩
  rw [State.usbStart_eq, hk]
  exact ⟨rfl, rfl, rfl, by simp⟩

theorem usbRecordTransferDone_acked {r : QRec} (hs : s.usbStreams = true) (hb : s.usb.busy = true)
    (hr : s.usb.queue[s.usb.next]? = some r) (hk : s.usb.busyAcked = true) : Does .usbRecordTransferDone s fun u =>
      u = { s with usb := u.usb, fab := u.fab } ∧ u.usb.next = s.usb.next ∧
      u.usb.queue = s.usb.queue.eraseIdx s.usb.next := by
  refine ⟨_, exec_usbRecordTransferDone hs hb hr, ?_⟩
  rw [State.usbStart_eq, hk]
  exact ⟨rfl, rfl, rfl⟩

theorem exec_usbRecordTransferDone_rests (h : s.usbStreams = false ∨ (s.usb.busy = false ∧ s.fab.fwdBusy = false)) :
    exec .usbRecordTransferDone s = .next s := by
  refine congrArg Host.Outcome.next ?_
  obtain closed | ⟨own, forwarded⟩ := h
  · exact if_pos (by simp [closed])
  · dsimp only
    rw [if_neg (c := s.usb.busy = true) (by simp [own]), if_neg (c := s.fab.fwdBusy = true) (by simp [forwarded]),
      ite_self]

/-- A transfer of the tap endpoint ends with the first frame end, or takes every packet (R358). -/
theorem exec_usbTapTransferDone (hl : s.tapDestLive none = true) (hn : ∀ p ∈ s.usb.taps, p.dest = none) {i : Option Nat}
    (hi : s.usb.taps.findIdx? (fun p => byteAt p.bytes 0 == 3) = i) : exec .usbTapTransferDone s = .next
      { s with usb := { s.usb with taps := s.usb.taps.drop (i.elim s.usb.taps.length (· + 1)) } } := by
  have here : s.usb.taps.filter (·.dest.isNone) = s.usb.taps := List.filter_eq_self.mpr fun p hp => by simp [hn p hp]
  have away : s.usb.taps.filter (·.dest.isSome) = [] := List.filter_eq_nil_iff.mpr fun p hp => by simp [hn p hp]
  refine congrArg Host.Outcome.next ((if_pos hl).trans ?_)
  rw [here, away, hi, List.nil_append]
  cases i <;> rfl

theorem usbTapTransferDone_all (hl : s.tapDestLive none = true)
    (hn : ∀ p ∈ s.usb.taps, p.dest = none ∧ byteAt p.bytes 0 ≠ 3) : Does .usbTapTransferDone s fun u =>
      u = { s with usb := { s.usb with taps := [] } } := by
  have unended : s.usb.taps.findIdx? (fun p => byteAt p.bytes 0 == 3) = none :=
    List.findIdx?_eq_none_iff.mpr fun p hp => by simp [(hn p hp).2]
  refine ⟨_, exec_usbTapTransferDone hl (fun p hp => (hn p hp).1) unended, ?_⟩
  simp

theorem usbTapTransferDone_frame {a b : List TapPkt} {y : TapPkt} (hl : s.tapDestLive none = true)
    (ht : s.usb.taps = a ++ y :: b) (hn : ∀ p ∈ s.usb.taps, p.dest = none) (ha : ∀ p ∈ a, byteAt p.bytes 0 ≠ 3)
    (hy : byteAt y.bytes 0 = 3) : Does .usbTapTransferDone s fun u =>
      u = { s with usb := { s.usb with taps := b } } := by
  have before : a.findIdx? (fun p => byteAt p.bytes 0 == 3) = none :=
    List.findIdx?_eq_none_iff.mpr fun p hp => by simp [ha p hp]
  have ended : s.usb.taps.findIdx? (fun p => byteAt p.bytes 0 == 3) = some a.length := by
    rw [ht, List.findIdx?_append, before]
    simp [List.findIdx?_cons, hy]
  refine ⟨_, exec_usbTapTransferDone hl hn ended, ?_⟩
  simp [ht]

/-! ### Requests that restart the stream -/

/-- `u` follows `s` with the request done and the stream at its oldest record (R355). -/
def StreamRestarts (s u : State) : Prop :=
  u = { s with usb := u.usb, fab := u.fab } ∧ u.usb.next = 0 ∧ u.usb.answer = .done ∧ u.usb.queue = s.queueLeft ∧
  u.usb.halted1 = false

theorem State.usbHears_of (ha : s.usb.attached = true) (ht : s.usb.testMode = 0) : s.usbHears = true := by
  simp [State.usbHears, ha, ht]

theorem State.reply_heard (h : s.usbHears = true) (a : Answer) :
    s.reply a = { s with usb := { s.usb with answer := a } } := if_pos h

section
variable (h : s.usbHears = true)
include h

theorem setConfiguration_one : Does (.setConfiguration 1) s fun u => StreamRestarts s u ∧ u.usb.configured = true := by
  refine ⟨_, congrArg Host.Outcome.next ((if_neg (by simp [h])).trans (if_pos rfl)), ?_⟩
  rw [State.usbRestart_eq]
  exact ⟨⟨rfl, rfl, rfl, rfl, rfl⟩, rfl⟩

theorem setConfiguration_zero : Does (.setConfiguration 0) s fun u => CoreFrame s u ∧ u.usb.configured = false ∧
    u.usb.answer = .done ∧ u.usb.queue = s.queueLeft ∧ u.usb.busy = false := by
  refine ⟨_, congrArg Host.Outcome.next ((if_neg (by simp [h])).trans ((if_neg (by decide)).trans (if_pos rfl))), ?_⟩
  have usb := s.usbAbandon_usb
  exact ⟨by constructor <;> simp, rfl, rfl, congrArg Usb.queue usb, congrArg Usb.busy usb⟩

theorem setConfiguration_unknown : Does (.setConfiguration 2) s fun u =>
    u = { s with usb := { s.usb with answer := .stall } } := by
  exact ⟨_, congrArg Host.Outcome.next
    ((if_neg (by simp [h])).trans ((if_neg (by decide)).trans (if_neg (by decide)))), State.reply_heard h _⟩

theorem setInterface_one : Does (.setInterface 1) s fun u => u = { s with usb := { s.usb with answer := .stall } } :=
  ⟨_, congrArg Host.Outcome.next (if_pos (by simp)), State.reply_heard h _⟩

theorem endpoint_heard {ep : Byte} (he : s.endpointThere ep = true) :
    ¬(!s.usbHears || !s.endpointThere ep) = true := by simp [h, he]

theorem clearFeatureHalt_absent {ep : Byte} (he : s.endpointThere ep = false) : Does (.clearFeatureHalt ep) s fun u =>
    u = { s with usb := { s.usb with answer := .stall } } :=
  ⟨_, congrArg Host.Outcome.next (if_pos (by simp [he])), State.reply_heard h _⟩

section
variable (hc : s.usb.configured = true)
include hc

theorem setInterface_zero : Does (.setInterface 0) s (StreamRestarts s) := by
  refine ⟨_, congrArg Host.Outcome.next (if_neg (by simp [h, hc])), ?_⟩
  rw [State.usbRestart_eq]
  exact ⟨rfl, rfl, rfl, rfl, rfl⟩

theorem clearFeatureHalt_results : Does (.clearFeatureHalt 0x81) s (StreamRestarts s) := by
  have there : s.endpointThere 0x81 = true := by simp [State.endpointThere, hc]
  refine ⟨_, congrArg Host.Outcome.next ((if_neg (endpoint_heard h there)).trans (if_pos rfl)), ?_⟩
  rw [State.usbRestart_eq]
  exact ⟨rfl, rfl, rfl, rfl, rfl⟩

theorem clearFeatureHalt_taps (ht : s.tapDescribed = true) : Does (.clearFeatureHalt 0x82) s fun u =>
    u = { s with usb := { s.usb with halted2 := false, answer := .done } } := by
  have there : s.endpointThere 0x82 = true := by simp [State.endpointThere, hc, ht]
  exact ⟨_, congrArg Host.Outcome.next
    ((if_neg (endpoint_heard h there)).trans ((if_neg (by decide)).trans (if_pos rfl))), rfl⟩

end

end

end

/-- Settles O38: attachment by what it leaves of the function, the streams by what a completed transfer leaves. -/
theorem usbAttachmentAndStream : Obligations.UsbAttachmentAndStream := by
  unfold Obligations.UsbAttachmentAndStream
  refine ⟨fun s t v b => ⟨vbusPresent_attaches, fun h => vbusPresent_rests h.2, vbusAbsent_detaches,
      fun ht hs => ⟨usbEnableWrite_attaches ht hs, usbEnableWrite_detaches ht hs⟩, fun ha => usbBusReset_resets ha b,
      superspeedTrainingTimeout_slows, usbSuspend_suspends, usbSuspend_resumes, rfl⟩,
    fun s r => ⟨usbRecordTransferDone_sends, usbRecordTransferDone_acked, exec_usbRecordTransferDone_rests,
      usbTapTransferDone_all, fun a b y => usbTapTransferDone_frame, fun ha ht => ?_, fun ha ht hc => ?_⟩⟩
  · have hears := State.usbHears_of ha ht
    exact ⟨setConfiguration_one hears, setConfiguration_zero hears, setConfiguration_unknown hears⟩
  · have hears := State.usbHears_of ha ht
    exact ⟨setInterface_zero hears hc, clearFeatureHalt_results hears hc, clearFeatureHalt_taps hears hc,
      clearFeatureHalt_absent hears (by simp [State.endpointThere]), setInterface_one hears⟩

end Sys2Proof.Machine
end

section
/-! SUPPORT. The standard requests of USB and the stalls of its vendor requests (R351, R352, R359). -/

namespace Sys2Proof.Machine

section
variable {s : State}

/-! ### Lengths -/

theorem State.deviceDescriptor_length (s : State) : s.deviceDescriptor.length = 18 := by
  simp [State.deviceDescriptor]

theorem State.inventory_length (s : State) : s.inventory.length = 32 := by simp [State.inventory]

theorem State.linkStatus_length (s : State) : s.linkStatus.length = 32 := by simp [State.linkStatus]

/-! ### Standard requests -/

/-- Command `c` does nothing but answer `x` on the control endpoint. -/
def Answers (s : State) (c : Instr) (x : Answer) : Prop :=
  Does c s fun u => u = { s with usb := { s.usb with answer := x } }

/-- The result endpoint is there once the function is configured (Table UR.7). -/
theorem State.endpointThere_results (s : State) : s.endpointThere 0x81 = s.usb.configured := by
  simp [State.endpointThere]

section
variable (h : s.usbHears = true)
include h

theorem answers_of_reply {c : Instr} {x : Answer} (e : exec c s = .next (s.reply x)) : Answers s c x :=
  ⟨_, e, State.reply_heard h x⟩

/-- What a function that hears the host makes of a standard request. -/
theorem exec_standardRequest {r : StdRequest} {u : State}
    (e : exec (.standardRequest r) s = .next (if !s.usbHears then s else u)) : exec (.standardRequest r) s = .next u :=
  e.trans (congrArg Host.Outcome.next (if_neg (by simp [h])))

theorem standard_answers {r : StdRequest} {x : Answer}
    (e : exec (.standardRequest r) s = .next (if !s.usbHears then s else s.reply x)) :
    Answers s (.standardRequest r) x :=
  answers_of_reply h (exec_standardRequest h e)

theorem getDescriptor_answers {k i : Byte} {d : Option (List Byte)} (hd : s.descriptor k i = d) (len : Nat) :
    Answers s (.standardRequest (.getDescriptor k i len)) (d.elim .stall fun b => .data (b.take len)) := by
  refine answers_of_reply h ((exec_standardRequest h rfl).trans (congrArg Host.Outcome.next ?_))
  dsimp only
  rw [hd]
  cases d <;> rfl

theorem getInterface_answers (hc : s.usb.configured = true) :
    Answers s (.standardRequest .getInterface) (.data [0]) :=
  answers_of_reply h ((exec_standardRequest h rfl).trans (congrArg Host.Outcome.next (if_pos hc)))

theorem getStatusInterface_answers (hc : s.usb.configured = true) :
    Answers s (.standardRequest .getStatusInterface) (.data [0, 0]) :=
  answers_of_reply h ((exec_standardRequest h rfl).trans (congrArg Host.Outcome.next (if_pos hc)))

theorem getStatusEndpoint_answers (hc : s.usb.configured = true) : Answers s
    (.standardRequest (.getStatusEndpoint 0x81)) (.data [if s.usb.halted1 then 1 else 0, 0]) := by
  refine answers_of_reply h ((exec_standardRequest h rfl).trans (congrArg Host.Outcome.next ?_))
  refine (if_neg (by rw [s.endpointThere_results, hc]; decide)).trans ?_
  simp

theorem getStatusEndpoint_stalls (hc : s.usb.configured = false) :
    Answers s (.standardRequest (.getStatusEndpoint 0x81)) .stall :=
  answers_of_reply h ((exec_standardRequest h rfl).trans (congrArg Host.Outcome.next
    (if_pos (by rw [s.endpointThere_results, hc]; rfl))))

theorem haltEndpoint_halts (hc : s.usb.configured = true) : Does (.standardRequest (.haltEndpoint 0x81)) s fun u =>
    u.usb.halted1 = true ∧ u.usb.answer = .done ∧ u.usb.busy = false := by
  refine ⟨_, (exec_standardRequest h rfl).trans (congrArg Host.Outcome.next
    ((if_neg (by rw [hc]; decide)).trans (if_pos rfl))), rfl, rfl, ?_⟩
  exact congrArg Usb.busy s.usbDropTransfer_usb

theorem haltEndpoint_stalls (hc : s.usb.configured = false) :
    Answers s (.standardRequest (.haltEndpoint 0x81)) .stall :=
  answers_of_reply h ((exec_standardRequest h rfl).trans (congrArg Host.Outcome.next (if_pos (by rw [hc]; rfl))))

theorem testMode_enters {k : Byte} (h2 : s.usb.speed = 2) (hk : 1 ≤ k.toNat) (hm : k.toNat ≤ 5) :
    Does (.standardRequest (.testMode k)) s fun u =>
      u.usb.testMode = k ∧ u.usb.answer = .done ∧ u.usb.configured = s.usb.configured := by
  have configured := congrArg Usb.configured s.usbAbandon_usb
  exact ⟨_, (exec_standardRequest h rfl).trans (congrArg Host.Outcome.next (if_pos ⟨h2, hk, hm⟩)), rfl, rfl,
    configured⟩

theorem testMode_stalls (k : Byte) (h2 : s.usb.speed ≠ 2) : Answers s (.standardRequest (.testMode k)) .stall :=
  answers_of_reply h ((exec_standardRequest h rfl).trans (congrArg Host.Outcome.next (if_neg fun hk => h2 hk.1)))

/-! ### Vendor requests refused and taken -/

section
variable {r : VendorSetup} {data resp : List Byte} {eff : State → State} {dirIn lenOk halted done : Bool}

/-- A wrong direction or length ends in a protocol STALL (R359). -/
theorem vendor_stalls {c : Instr} (e : exec c s = .next (s.usbRequest r dirIn lenOk halted data resp eff done))
    (bad : r.dirIn ≠ dirIn ∨ lenOk = false) : Answers s c .stall := by
  refine answers_of_reply h (e.trans (congrArg Host.Outcome.next ((if_neg (by simp [h])).trans (if_pos ?_))))
  obtain dir | len := bad
  · simp [dir]
  · simp [len]

theorem usbVendorRequestStall_stalls (bad : requestSound s r = false) : Answers s (.usbVendorRequestStall r) .stall :=
  answers_of_reply h (congrArg Host.Outcome.next (if_neg (by simp [bad])))

theorem State.usbRequest_takes (hd : r.dirIn = dirIn) (hl : lenOk = true) (hp : s.phase ≠ .halted) :
    s.usbRequest r dirIn lenOk halted data resp eff done = s.vendor r data resp eff done :=
  (if_neg (by simp [h])).trans (if_neg (by simp [hd, hl, hp]))

end

end

end

end Sys2Proof.Machine
end

section
/-! SUPPORT. Vendor requests: the replay cache, notes, and the acknowledgement of records (R357, R360, R361, R363). -/

namespace Sys2Proof.Machine

/-! ### Notes -/

section
variable {s : State}

theorem State.usbNote_eq (s : State) (r : VendorSetup) : s.usbNote r = { s with
    fields := (s.usbNote r).fields
    usb := { s.usb with
      note := BitVec.ofNat 32 (r.request.toNat + r.session.toNat * 256 + r.tag.toNat * 65536)
      noteHigh := true } } := by
  unfold State.usbNote
  dsimp only
  split <;> rfl

/-- A note that replaces an unread one is counted as lost (R363). -/
theorem State.usbNote_counts (s : State) (r : VendorSetup) :
    (s.usb.noteHigh = true → (s.usbNote r).getN Fld.usbNoteLostCount = min 65535 (s.getN Fld.usbNoteLostCount + 1)) ∧
    ∀ b, b ≠ Fld.usbNoteLostCount → (s.usbNote r).getF b = s.getF b := by
  have fields : (s.usbNote r).fields = (if s.usb.noteHigh then s.count16 Fld.usbNoteLostCount else s).fields := rfl
  refine ⟨fun high => ?_, fun b hb =>
    (State.getF_of_fields fields b).trans (State.getF_maybe (s.getF_count16_of_ne hb))⟩
  rw [State.getN_of_getF (State.getF_of_fields fields _), if_pos high, State.getN_count16_self]

/-- `u` follows `s` with the note of the completed request `q` of setup `r`, and its loss counted. -/
def Noted (s : State) (r : VendorSetup) (q : Nat) (u : State) : Prop :=
  u.usb.note = BitVec.ofNat 32 (q + r.session.toNat * 256 + r.tag.toNat * 65536) ∧ u.usb.noteHigh = true ∧
  (s.usb.noteHigh = true → u.getN Fld.usbNoteLostCount = min 65535 (s.getN Fld.usbNoteLostCount + 1)) ∧
  ∀ b, b ≠ Fld.usbNoteLostCount → u.getF b = s.getF b

/-- The note of a request that has changed neither fields nor the note before it. -/
theorem State.usbNote_noted {y : State} (hf : y.fields = s.fields) (hh : y.usb.noteHigh = s.usb.noteHigh)
    (r : VendorSetup) : Noted s r r.request.toNat (y.usbNote r) := by
  obtain ⟨lost, others⟩ := y.usbNote_counts r
  rw [State.getN_of_getF (State.getF_of_fields hf _), hh] at lost
  exact ⟨congrArg (·.usb.note) (y.usbNote_eq r), rfl, lost,
    fun b hb => (others b hb).trans (State.getF_of_fields hf b)⟩

/-! ### New requests -/

/-- The replay cache has no answer to the request (R360, R361). -/
def Usb.IsNew (x : Usb) (r : VendorSetup) : Prop :=
  r.session = 0 ∨ r.session ≠ x.session ∨ ∀ e ∈ x.cache, e.session = r.session → e.tag ≠ r.tag

/-- Session and cache of `y` follow those of `x` by the request `r`. -/
def Usb.Keeps (x : Usb) (r : VendorSetup) (y : Usb) : Prop :=
  (r.session = 0 → y.session = x.session ∧ y.cache = x.cache) ∧
  (r.session ≠ 0 → y.session = r.session ∧ ∃ e ∈ y.cache, e.session = r.session ∧ e.tag = r.tag)

/-- The state in which a new request has been answered and is in the cache. -/
def State.answered (s : State) (r : VendorSetup) (data resp : List Byte) (done : Bool) : State :=
  let kept := sessionCache s.usb.session r.session s.usb.cache
  { s with usb := { s.usb with
      session := kept.1
      cache := if r.session = 0 then kept.2
        else cachePut kept.2 ⟨r.session, r.tag, setupBytes r ++ data, resp, done⟩
      answer := if r.dirIn then .data resp else .done } }

theorem sessionCache_zero {sn : Byte} (h : sn = 0) (cur : Byte) (c : List CacheEntry) :
    sessionCache cur sn c = (cur, c) := if_pos (.inl h)

theorem sessionCache_same {cur sn : Byte} (h : sn = cur) (c : List CacheEntry) :
    sessionCache cur sn c = (cur, c) := if_pos (.inr h)

theorem sessionCache_changed {cur sn : Byte} (h : sn ≠ 0) (hc : sn ≠ cur) (c : List CacheEntry) :
    sessionCache cur sn c = (sn, []) := if_neg (not_or.mpr ⟨h, hc⟩)

theorem sessionCache_session {cur sn : Byte} (h : sn ≠ 0) (c : List CacheEntry) : (sessionCache cur sn c).1 = sn := by
  by_cases same : sn = cur
  · rw [sessionCache_same same, same]
  · rw [sessionCache_changed h same]

theorem sessionCache_subset (cur sn : Byte) (c : List CacheEntry) : (sessionCache cur sn c).2 ⊆ c := by
  unfold sessionCache
  split
  · exact List.Subset.refl c
  · exact List.nil_subset c

theorem cachePut_mem (c : List CacheEntry) (e : CacheEntry) : e ∈ cachePut c e := by
  simp [cachePut]

section
variable {r : VendorSetup} {data resp : List Byte} {eff : State → State} {done : Bool}

theorem State.answered_keeps (s : State) (r : VendorSetup) (data resp : List Byte) (done : Bool) :
    s.usb.Keeps r (s.answered r data resp done).usb := by
  refine ⟨fun zero => ?_, fun other => ⟨sessionCache_session other _,
    ⟨r.session, r.tag, setupBytes r ++ data, resp, done⟩, ?_, rfl, rfl⟩⟩
  · simp only [State.answered, if_pos zero, sessionCache_zero zero, and_self]
  · rw [State.answered]
    dsimp only
    rw [if_neg other]
    exact cachePut_mem ..

/-- No entry of the cache answers a new request. -/
theorem Usb.IsNew.misses {x : Usb} (new : x.IsNew r) :
    (if r.session = 0 then none else (sessionCache x.session r.session x.cache).2.find? fun e =>
      e.session == r.session && e.tag == r.tag) = none := by
  split
  · rfl
  next other =>
    rw [List.find?_eq_none]
    obtain zero | changed | absent := new
    · exact absurd zero other
    · rw [sessionCache_changed other changed]
      exact fun e he => absurd he List.not_mem_nil
    · intro e he
      simpa using absent e (sessionCache_subset _ _ _ he)

theorem State.vendor_new (new : s.usb.IsNew r) : s.vendor r data resp eff done =
    if done then (eff (s.answered r data resp done)).usbNote r else s.answered r data resp done := by
  have miss := new.misses
  unfold State.vendor State.answered
  generalize sessionCache s.usb.session r.session s.usb.cache = kept at miss ⊢
  obtain ⟨sn, c⟩ := kept
  dsimp only at miss ⊢
  rw [miss]
  cases r.dirIn <;> rfl

/-! ### Replays -/

/-- The state in which a repeated request has been answered from entry `e`, and counted. -/
def State.replayed (s : State) (r : VendorSetup) (e : CacheEntry) : State :=
  State.count16 { s with usb := { s.usb with
    cache := cachePut s.usb.cache e, answer := (if r.dirIn then Answer.data else fun _ => .done) e.response } }
    Fld.usbReplayHitCount

/-- A completed request repeated with its tag is answered from the cache, without its effect (R361). -/
theorem State.vendor_replay {e : CacheEntry} (h0 : r.session ≠ 0) (hs : r.session = s.usb.session)
    (hf : s.usb.cache.find? (fun e => e.session == r.session && e.tag == r.tag) = some e) (hc : e.complete = true)
    (he : e.setup = setupBytes r ++ data) :
    s.vendor r data resp eff true = (s.replayed r e).usbNote r := by
  unfold State.vendor
  rw [sessionCache_same hs]
  dsimp only
  rw [if_neg h0, hf]
  dsimp only
  rw [if_pos (by simp [hc, he]), if_pos rfl]
  rfl

/-- Command `c` answers a repetition of request `r` with what the cache keeps under `key`, and counts the hit. -/
def Replays (s : State) (r : VendorSetup) (c : Instr) (key : List Byte) (ans : List Byte → Answer) : Prop :=
  ∀ e : CacheEntry, r.session ≠ 0 → r.session = s.usb.session →
    s.usb.cache.find? (fun e => e.session == r.session && e.tag == r.tag) = some e → e.complete = true →
    e.setup = key → Does c s fun u => u = { s with
        fields := u.fields, usb := { s.usb with
          answer := ans e.response, note := u.usb.note, noteHigh := true, cache := u.usb.cache } } ∧
      u.getN Fld.usbReplayHitCount = min 65535 (s.getN Fld.usbReplayHitCount + 1)

theorem vendor_replays {c : Instr} {ans : List Byte → Answer}
    (hv : exec c s = .next (s.vendor r data resp eff true))
    (ha : (if r.dirIn then Answer.data else fun _ => .done) = ans) : Replays s r c (setupBytes r ++ data) ans := by
  intro e h0 hs hf hc he
  refine ⟨_, hv.trans (congrArg Host.Outcome.next (State.vendor_replay h0 hs hf hc he)), ?_, ?_⟩
  · rw [State.usbNote_eq, ← ha]
    rfl
  · rw [State.getN_of_getF (((s.replayed r e).usbNote_counts r).2 _ (by decide))]
    exact State.getN_count16_self _ Fld.usbReplayHitCount

/-! ### Requests that read -/

/-- What a request that reads does, its Status stage completed or not. -/
def Gives (s : State) (r : VendorSetup) (c : Bool → Instr) (q : Nat) (x : Answer) : Prop :=
  (Does (c true) s fun u => s.usb.Keeps r u.usb ∧ Noted s r q u ∧
    u = { s with fields := u.fields, usb := { s.usb with
      answer := x, note := u.usb.note, noteHigh := true, session := u.usb.session, cache := u.usb.cache } }) ∧
  Does (c false) s fun u => s.usb.Keeps r u.usb ∧ u = { s with usb := { s.usb with
      answer := x, session := u.usb.session, cache := u.usb.cache } }

theorem vendor_gives {c : Bool → Instr} (hd : r.dirIn = true) (new : s.usb.IsNew r)
    (hc : ∀ done, exec (c done) s = .next (s.vendor r data resp id done)) :
    Gives s r c r.request.toNat (.data resp) := by
  have answer (done : Bool) : s.answered r data resp done = { s with usb := { s.usb with
      answer := .data resp, session := (s.answered r data resp done).usb.session
      cache := (s.answered r data resp done).usb.cache } } := by
    simp [State.answered, hd]
  refine ⟨⟨_, (hc true).trans (congrArg Host.Outcome.next (State.vendor_new new)), ?_, ?_, ?_⟩,
    ⟨_, (hc false).trans (congrArg Host.Outcome.next (State.vendor_new new)), s.answered_keeps .., answer false⟩⟩
  · rw [if_pos rfl, State.usbNote_eq]
    exact s.answered_keeps ..
  · exact State.usbNote_noted rfl rfl r
  · rw [if_pos rfl, State.usbNote_eq, id, answer true]

end

/-! ### ACK_RECORDS -/

theorem Usb.ack_eq (x : Usb) (n : Word) : x.ack n = { x with
    queue := (x.ack n).queue, next := (x.ack n).next, busyAcked := (x.ack n).busyAcked } := by
  unfold Usb.ack
  split
  · rfl
  · dsimp only
    split <;> rfl

/-- Records not yet sent are not acknowledged (R357). -/
theorem Usb.ack_unsent {x : Usb} (h : ∀ e ∈ x.queue, e.sent = false) (n : Word) :
    (x.ack n).queue = x.queue ∧ (x.ack n).next = x.next := by
  unfold Usb.ack
  split
  · exact ⟨rfl, rfl⟩
  · dsimp only
    split
    · exact ⟨rfl, rfl⟩
    · refine ⟨List.filter_eq_self.mpr fun e he => by simp [h e he], ?_⟩
      dsimp only
      rw [List.filter_eq_nil_iff.mpr fun e he => by simp [h e (List.mem_of_mem_take he)]]
      rfl

/-- With no record in transfer, every sent record at or before `n` leaves (R357). -/
theorem Usb.ack_queue {x : Usb} (hb : x.busy = false) {n : Word}
    (h : ∀ e, x.queue.head? = some e → precedes n (recSeq e.bytes) = false) :
    (x.ack n).queue = x.queue.filter fun e => !(e.sent && atOrBefore (recSeq e.bytes) n) := by
  unfold Usb.ack
  cases hq : x.queue with
  | nil => simp [hq]
  | cons e q => simp [h e (by simp [hq]), hb]

/-- The effect of an acknowledgement, which a standby does not have (R367). -/
def State.acked (s : State) (n : Word) : State := if s.activeRole then s.ackUsb n else s

/-- An acknowledgement reaches as far as the newest record sent. -/
def State.ackMark (s : State) (n : Word) : Word := if precedes s.usb.sentSeq n then s.usb.sentSeq else n

theorem State.acked_active (h : s.activeRole = true) (n : Word) : (s.acked n).usb = s.usb.ack (s.ackMark n) := by
  rw [State.acked, if_pos h, State.ackUsb, State.mirror_eq]
  rfl

theorem State.acked_eq (s : State) (n : Word) : s.acked n = { s with
    usb := { s.usb with queue := (s.acked n).usb.queue, next := (s.acked n).usb.next
                        busyAcked := (s.acked n).usb.busyAcked }
    pair := (s.acked n).pair } := by
  cases h : s.activeRole with
  | false => simp [State.acked, h]
  | true =>
    rw [State.acked_active h, ← Usb.ack_eq, State.acked, if_pos h]
    exact State.mirror_eq _ _

theorem State.acked_unsent (h : s.activeRole = false ∨ ∀ e ∈ s.usb.queue, e.sent = false) (n : Word) :
    (s.acked n).usb.queue = s.usb.queue ∧ (s.acked n).usb.next = s.usb.next := by
  cases ha : s.activeRole with
  | false => simp [State.acked, ha]
  | true =>
    rw [State.acked_active ha]
    exact Usb.ack_unsent (h.resolve_left (by simp [ha])) _

/-- What an acknowledgement of records up to `n` does, its Status stage completed. -/
def AcksRecords (s : State) (r : VendorSetup) (n : Word) (u : State) : Prop :=
  s.usb.Keeps r u.usb ∧ Noted s r 3 u ∧ u = { s with usb := u.usb, fields := u.fields, pair := u.pair } ∧
  u.usb.answer = .done ∧
  (s.activeRole = false ∨ (∀ e ∈ s.usb.queue, e.sent = false) →
    u.usb.queue = s.usb.queue ∧ u.usb.next = s.usb.next) ∧
  (s.activeRole = true → s.usb.busy = false →
    (∀ e, s.usb.queue.head? = some e → precedes (s.ackMark n) (recSeq e.bytes) = false) →
    u.usb.queue = s.usb.queue.filter fun e => !(e.sent && atOrBefore (recSeq e.bytes) (s.ackMark n)))

theorem acked_acksRecords {r : VendorSetup} (hd : r.dirIn = false) (hq : r.request = 3) (n : Word)
    (data resp : List Byte) (done : Bool) :
    AcksRecords s r n (((s.answered r data resp done).acked n).usbNote r) := by
  have effect := (s.answered r data resp done).acked_eq n
  have unsent := State.acked_unsent (s := s.answered r data resp done) (n := n)
  have active := State.acked_active (s := s.answered r data resp done) (n := n)
  have fields := congrArg State.fields effect
  have noteHigh := congrArg (·.usb.noteHigh) effect
  have noted := State.usbNote_noted (s := s) fields noteHigh r
  rw [hq] at noted
  have usb := congrArg State.usb (((s.answered r data resp done).acked n).usbNote_eq r)
  refine ⟨?_, noted, ?_, ?_, fun h => ?_, fun ha hb hh => ?_⟩
  · rw [usb, effect]
    exact s.answered_keeps ..
  · rw [State.usbNote_eq, effect]
    rfl
  · rw [usb, effect]
    simp [State.answered, hd]
  · rw [usb]
    exact unsent h
  · rw [usb]
    dsimp only
    rw [active ha]
    exact Usb.ack_queue (x := (s.answered r data resp done).usb) hb hh

/-! ### USB.REQ_NOTE_ACK -/

theorem reqNoteAck_clears {t : TrowelId} (ht : Takes s t Fld.usbReqNoteAck) (hs : s.shadow = []) :
    Does (.reqNoteAck t 1) s fun u => u = { s with usb := { s.usb with noteHigh := false } } :=
  ⟨_, exec_reqNoteAck_taken ht, State.applyStopped_nil hs⟩

end

/-! ### Each vendor request -/

section
variable {s : State} (h : s.usbHears = true) (hp : s.phase ≠ .halted) {r : VendorSetup}
include h hp

theorem exec_getInventory (hd : r.dirIn = true) (hl : r.len = 32) (done : Bool) : exec (.getInventory r done) s =
    .next (s.vendor { r with request := 1 } [] s.inventory id done) :=
  congrArg Host.Outcome.next (State.usbRequest_takes h hd (decide_eq_true hl) hp)

theorem exec_getLinkStatus (hd : r.dirIn = true) (hl : r.len = 32) (done : Bool) : exec (.getLinkStatus r done) s =
    .next (s.vendor { r with request := 2 } [] s.linkStatus id done) :=
  congrArg Host.Outcome.next (State.usbRequest_takes h hd (decide_eq_true hl) hp)

theorem exec_ackRecords (hd : r.dirIn = false) (hl : r.len = 4) (n : Word) (done : Bool) :
    exec (.ackRecords r n done) s =
      .next (s.vendor { r with request := 3 } (leBytes 4 n.toNat) [] (State.acked · n) done) :=
  congrArg Host.Outcome.next (State.usbRequest_takes h hd (decide_eq_true hl) hp)

theorem exec_retrieve (hd : r.dirIn = true) (hl : 16 ≤ r.len.toNat) (hm : r.len.toNat ≤ 4096) (done : Bool) :
    exec (.retrieve r done) s = .next (s.vendor { r with request := 4 } []
      (if s.activeRole then (((s.usb.queue[r.param.toNat]?).map fun e => e.bytes).getD []).take r.len.toNat else [])
      id done) := by
  refine congrArg Host.Outcome.next
    ((State.usbRequest_takes (r := { r with request := 4 }) h hd (by simp [hl, hm]) hp).trans ?_)
  congr 1
  split <;> simp

theorem exec_getBlackbox (hd : r.dirIn = true) (hl : 16 ≤ r.len.toNat) (hm : r.len.toNat ≤ 4096)
    (hz : r.len.toNat % 16 = 0) (done : Bool) : exec (.getBlackbox r done) s = .next
      (s.vendor { r with request := 5 } [] ((s.bbFrom (256 * r.param.toNat)).take r.len.toNat) id done) :=
  congrArg Host.Outcome.next (State.usbRequest_takes h hd (by simp [hl, hm, hz]) hp)

end

/-- Settles O39: the standard requests by their answers, the vendor requests by whether the cache knows them. -/
theorem usbRequests : Obligations.UsbRequests := by
  unfold Obligations.UsbRequests
  refine ⟨fun s r ad k i len lat dly ha hm => ?_, fun s t r n ha hm hp => ?_⟩
  · have h := State.usbHears_of ha hm
    exact ⟨answers_of_reply h rfl, fun d hd => getDescriptor_answers h hd len,
      fun hd => getDescriptor_answers h hd len, ⟨_, exec_standardRequest h rfl, rfl⟩,
      standard_answers h rfl, standard_answers h rfl,
      fun hc => ⟨getInterface_answers h hc, getStatusInterface_answers h hc⟩,
      fun hc => ⟨getStatusEndpoint_answers h hc, haltEndpoint_halts h hc⟩,
      fun hc => ⟨getStatusEndpoint_stalls h hc, haltEndpoint_stalls h hc,
        clearFeatureHalt_absent h (s.endpointThere_results.trans hc)⟩,
      standard_answers h rfl, standard_answers h rfl, standard_answers h rfl, standard_answers h rfl,
      testMode_enters h, testMode_stalls h k, usbVendorRequestStall_stalls h,
      fun bad => ⟨vendor_stalls h rfl (by simpa using bad), vendor_stalls h rfl (by simpa using bad)⟩,
      fun bad => vendor_stalls h rfl (by simpa using bad), fun bad => vendor_stalls h rfl (.inr (by simp [bad])),
      fun bad => vendor_stalls h rfl (.inr (by simp [bad])),
      ⟨_, rfl, s.deviceDescriptor_length⟩, s.inventory_length, s.linkStatus_length⟩
  · have h := State.usbHears_of ha hm
    refine ⟨fun hd hl => ?_, fun hd hl hb => ?_, fun hd hl => ?_, reqNoteAck_clears⟩
    · have inventory := exec_getInventory h hp hd hl
      have linkStatus := exec_getLinkStatus h hp hd hl
      exact ⟨fun new => vendor_gives (r := { r with request := 1 }) hd new inventory,
        fun new => vendor_gives (r := { r with request := 2 }) hd new linkStatus,
        vendor_replays (inventory true) (if_pos hd), vendor_replays (linkStatus true) (if_pos hd)⟩
    · have retrieve := exec_retrieve h hp hd hl hb
      have blackbox := exec_getBlackbox h hp hd hl hb
      exact ⟨fun new => vendor_gives (r := { r with request := 4 }) hd new retrieve,
        vendor_replays (retrieve true) (if_pos hd),
        fun hz => ⟨vendor_replays (blackbox hz true) (if_pos hd),
          fun new => vendor_gives (r := { r with request := 5 }) hd new (blackbox hz)⟩⟩
    · have ack := exec_ackRecords h hp hd hl n true
      exact ⟨vendor_replays ack (if_neg (by simp [hd])), fun new =>
        ⟨_, ack.trans (congrArg Host.Outcome.next (State.vendor_new new)),
          acked_acksRecords (r := { r with request := 3 }) hd rfl n _ _ true⟩⟩

end Sys2Proof.Machine
end

section
/-! SUPPORT. Frames on the serial line: how they start, and how they end (R380, R382 to R384, R386 to R388). -/

namespace Sys2Proof.Machine

section
variable {s : State} {e : SerRec}

/-! ### What starts (R382, R383, R391) -/

/-- Responses go before records (R391). -/
theorem Ser.start_response {x : Ser} (h : x.responses ≠ []) :
    x.start = { x with phase := .response, arbDone := false } := if_pos (by simp [h])

/-- The first transmission of a record fixes its bytes (R383). -/
theorem Ser.start_first {x : Ser} (hr : x.responses = []) (hq : x.queue[x.next]? = some e) (hw : e.wire = none) :
    x.start = { x with
      phase := .record, arbDone := false, withdrawn := false, superseded := false, dropped := false
      queue := x.queue.set x.next { e with wire := some (form1 e.rec2 e.noListener x.superseded x.dropped) } } := by
  simp [Ser.start, hr, hq, hw]

/-- A record sent before goes out with the bytes it then had (R383). -/
theorem Ser.start_again {x : Ser} (hr : x.responses = []) (hq : x.queue[x.next]? = some e) (hw : e.wire.isSome = true) :
    x.start = { x with phase := .record, arbDone := false, withdrawn := false } := by
  obtain ⟨b, hb⟩ := Option.isSome_iff_exists.mp hw
  simp [Ser.start, hr, hq, hb]

/-- With nothing to send, no frame starts. -/
theorem exec_serFrameStart_rests (hr : s.ser.responses = []) (hq : s.ser.queue[s.ser.next]? = none) :
    exec .serFrameStart s = .next s :=
  congrArg Host.Outcome.next (if_neg (by simp [hr, hq]))

/-! ### What a mismatch is (R384) -/

/-- Where a mismatch is counted. -/
def SerMismatch.count : SerMismatch → Nat
  | .lost => Fld.serLostArbCount
  | .collision => Fld.serCollisionCount
  | .fault => Fld.serLineFaultCount

section
variable {levels : List Bool} {i : Nat}

theorem mismatchOf_lost (h : levels[i]? = some true) (hi : i < 12) : mismatchOf levels i false = some .lost := by
  simp [mismatchOf, h, hi]

theorem mismatchOf_collision (h : levels[i]? = some true) (hi : 12 ≤ i) :
    mismatchOf levels i false = some .collision := by
  simp [mismatchOf, h, Nat.not_lt.mpr hi]

theorem mismatchOf_fault (h : levels[i]? = some false) : mismatchOf levels i true = some .fault := by
  simp [mismatchOf, h]

theorem mismatchOf_none {read : Bool} (h : levels[i]? = none ∨ levels[i]? = some read) :
    mismatchOf levels i read = none := by
  obtain h | h := h <;> simp [mismatchOf, h]

end

/-! ### What a record frame changes when it ends (R382) -/

/-- The line with record `e` at the send pointer sent in full. -/
def Ser.sentOne (x : Ser) (e : SerRec) : Ser := { x with
  arbDone := false, sentSeq := if x.sentAny && precedes (recSeq e.rec2) x.sentSeq then x.sentSeq else recSeq e.rec2
  sentAny := true, queue := x.queue.set x.next { e with sent := true } }

/-- What the end of a record frame changes beside the line: a retry is counted, and a record cancelled late is told of. -/
def State.serFrameCounted (s : State) : State :=
  let y := if s.serParty && decide (0 < s.ser.retries) && !s.ser.noListener then s.count16 Fld.serRetryCount else s
  if s.ser.lateCancel && decide (s.ser.next = 0) then y.raise 3 36 else y

theorem State.serFrameCounted_eq (s : State) : s.serFrameCounted =
    { s with fields := s.serFrameCounted.fields, trowels := s.serFrameCounted.trowels } := by
  unfold State.serFrameCounted
  dsimp only
  split
  · rw [State.raise_eq]
    split <;> rfl
  · split <;> rfl

theorem State.serFrameCounted_events (s : State) : EventsOnly s s.serFrameCounted :=
  ((LinkKeeps.refl s).maybe fun h => h.count16 (a := Fld.serRetryCount)).maybe (fun h => h.raise) |>.events

/-- Point to point no retry is counted. -/
theorem State.serFrameCounted_fields (hs : s.serParty = false) : s.serFrameCounted.fields = s.fields := by
  simp [State.serFrameCounted, hs]

theorem State.serFrameCounted_prompt (hs : s.serParty = false) (hc : s.ser.lateCancel = false) :
    s.serFrameCounted = s := by
  simp [State.serFrameCounted, hs, hc]

/-- An engine without a partner mirrors nothing. -/
theorem State.mirror_solo (h : s.pair.mode = .solo) (m : PairMsg) : s.mirror m = s :=
  if_neg (by simp [State.pairActive, h])

/-- What a record frame sent in full comes to. -/
theorem State.serRecordSent_eq (hq : s.ser.queue[s.ser.next]? = some e) : s.serRecordSent =
    if s.serParty then { s.serFrameCounted with ser := { s.ser.sentOne e with phase := .window } }
    else if !s.getB Fld.serP2pAck 0 || (s.ser.lateCancel && decide (s.ser.next = 0)) then
      State.mirror { s.serFrameCounted with ser := { ((s.ser.sentOne e).remove s.ser.next).settled with
        next := if s.ser.restartDue then 0 else ((s.ser.sentOne e).remove s.ser.next).settled.next
        restartDue := false } } (.ackMark .ser (recSeq e.rec2) none)
    else { s.serFrameCounted with ser := { s.ser.sentOne e with
      phase := .idle, next := if s.ser.restartDue then 0 else s.ser.next + 1, restartDue := false } } := by
  unfold State.serRecordSent
  simp only [hq]
  rfl

section
variable (hl : s.serLive = true)
include hl

/-! ### A frame starts -/

section
variable (hp : s.ser.phase = .idle ∨ s.ser.phase = .retry)
include hp

theorem exec_serFrameStart (h : s.ser.responses ≠ [] ∨ (s.ser.queue[s.ser.next]?).isSome = true) :
    exec .serFrameStart s = .next { s with ser := { s.ser.start with frameFrom := s.time.ns } } :=
  congrArg Host.Outcome.next (if_pos (by simpa [hl, hp] using h))

theorem serFrameStart_response (hr : s.ser.responses ≠ []) : Does .serFrameStart s fun u =>
    u = { s with ser := { s.ser with phase := .response, arbDone := false, frameFrom := s.time.ns } } :=
  ⟨_, exec_serFrameStart hl hp (.inl hr), by rw [Ser.start_response hr]⟩

section
variable (hr : s.ser.responses = [])
include hr

theorem serFrameStart_first (hq : s.ser.queue[s.ser.next]? = some e) (hw : e.wire = none) :
    Does .serFrameStart s fun u => u = { s with ser := { s.ser with
      phase := .record, arbDone := false, withdrawn := false, superseded := false, dropped := false
      frameFrom := s.time.ns
      queue := s.ser.queue.set s.ser.next
        { e with wire := some (form1 e.rec2 e.noListener s.ser.superseded s.ser.dropped) } } } :=
  ⟨_, exec_serFrameStart hl hp (.inr (by simp [hq])), by rw [Ser.start_first hr hq hw]⟩

theorem serFrameStart_again (hq : s.ser.queue[s.ser.next]? = some e) (hw : e.wire.isSome = true) :
    Does .serFrameStart s fun u => u = { s with ser := { s.ser with
      phase := .record, arbDone := false, withdrawn := false, frameFrom := s.time.ns } } :=
  ⟨_, exec_serFrameStart hl hp (.inr (by simp [hq])), by rw [Ser.start_again hr hq hw]⟩

end

end

/-! ### A bit reads back otherwise (R384) -/

section
variable (hs : s.serParty = true) (hp : s.ser.phase = .record) (hw : s.ser.withdrawn = false) {i : Nat} {read : Bool}
include hs hp hw

/-- The record stays pending, and its mismatch is counted. -/
theorem serCollision_counts {m : SerMismatch} (hm : mismatchOf (frameLevels s.serInverse s.serFrameOut) i read = some m) :
    Does (.serCollision i read) s fun u =>
      u = { s with fields := u.fields, bb := u.bb
                   ser := { s.ser with phase := s.ser.pendPhase, withdrawn := false, arbDone := false } } ∧
      Counted s u m.count [] := by
  have release : s.ser.release = { s.ser with phase := s.ser.pendPhase, withdrawn := false, arbDone := false } := by
    simp [Ser.release, hp, hw]
  have found : s.serMismatch i read = some m := (if_neg (by simp [hw])).trans hm
  refine ⟨_, congrArg Host.Outcome.next (if_pos (by simp [hl, hs, hp])), ?_⟩
  dsimp only
  rw [found]
  cases m <;> exact ⟨by rw [← release]; rfl, State.count16_counted s _⟩

theorem exec_serCollision_none (hm : mismatchOf (frameLevels s.serInverse s.serFrameOut) i read = none) :
    exec (.serCollision i read) s = .next s := by
  have found : s.serMismatch i read = none := (if_neg (by simp [hw])).trans hm
  refine congrArg Host.Outcome.next ((if_pos (by simp [hl, hs, hp])).trans ?_)
  dsimp only
  rw [found]

end

/-! ### A record frame is sent in full (R380, R382, R386) -/

section
variable (hp : s.ser.phase = .record) (hw : s.ser.withdrawn = false)
include hp hw

theorem exec_serFrameSent {y : State} (hy : s.serRecordSent = y) : exec .serFrameSent s = .next y :=
  congrArg Host.Outcome.next ((if_neg (by simp [hl, hp])).trans ((if_neg (by simp [hw])).trans hy))

variable (hq : s.ser.queue[s.ser.next]? = some e)
include hq

theorem serFrameSent_party (hs : s.serParty = true) : Does .serFrameSent s fun u =>
    u = { s with fields := u.fields, trowels := u.trowels, ser := { s.ser.sentOne e with phase := .window } } ∧
    EventsOnly s u := by
  have sent := (State.serRecordSent_eq hq).trans (if_pos hs)
  refine ⟨_, exec_serFrameSent hl hp hw sent, ?_, s.serFrameCounted_events⟩
  rw [s.serFrameCounted_eq]

/-- Where no acknowledgement is asked for, the record leaves as soon as it has been sent. -/
theorem serFrameSent_leaves (hs : s.serParty = false) (ha : s.getB Fld.serP2pAck 0 = false)
    (hm : s.pair.mode = .solo) : Does .serFrameSent s fun u =>
      u = { s with trowels := u.trowels, ser := { s.ser.sentOne e with
        phase := .idle, retries := 0, lateCancel := false
        next := if s.ser.restartDue then 0 else s.ser.next, restartDue := false
        queue := (s.ser.queue.set s.ser.next { e with sent := true }).eraseIdx s.ser.next } } ∧ EventsOnly s u := by
  have sent : s.serRecordSent = { s.serFrameCounted with ser := { s.ser.sentOne e with
      phase := .idle, retries := 0, lateCancel := false
      next := if s.ser.restartDue then 0 else s.ser.next, restartDue := false
      queue := (s.ser.queue.set s.ser.next { e with sent := true }).eraseIdx s.ser.next } } := by
    rw [State.serRecordSent_eq hq, if_neg (by simp [hs]), if_pos (by simp [ha]), State.mirror_solo]
    · simp [Ser.remove, Ser.settled, Ser.sentOne]
    · exact (congrArg (·.pair.mode) s.serFrameCounted_eq).trans hm
  refine ⟨_, exec_serFrameSent hl hp hw sent, ?_, s.serFrameCounted_events⟩
  rw [s.serFrameCounted_eq, State.serFrameCounted_fields hs]

theorem serFrameSent_stays (hs : s.serParty = false) (ha : s.getB Fld.serP2pAck 0 = true)
    (hc : s.ser.lateCancel = false) : Does .serFrameSent s fun u => u = { s with ser := { s.ser.sentOne e with
      phase := .idle, next := if s.ser.restartDue then 0 else s.ser.next + 1, restartDue := false } } := by
  have sent := (State.serRecordSent_eq hq).trans ((if_neg (by simp [hs])).trans (if_neg (by simp [ha, hc])))
  exact ⟨_, exec_serFrameSent hl hp hw sent, by rw [State.serFrameCounted_prompt hs hc]⟩

end

/-! ### No acknowledgement comes (R387, R388) -/

section
variable (hp : s.ser.phase = .window) (hc : s.ser.lateCancel = false)
include hp hc

theorem exec_serAckWindowExpiry : exec .serAckWindowExpiry s = .next
    (if s.ser.noListener then
      { s with ser := { s.ser with phase := .backoff, backoffMs := min 1000 (2 * s.ser.backoffMs) } }
    else if s.ser.retries < 3 then { s with ser := { s.ser with phase := .retry, retries := s.ser.retries + 1 } }
    else State.bbEvent { s with ser := { s.ser with phase := .backoff, noListener := true, backoffMs := 4 } }
      0x0C#7 0xFF#8 0x0001#16 (((s.ser.queue.head?).map fun (e : SerRec) => recSeq e.rec2).getD 0)) :=
  congrArg Host.Outcome.next ((if_neg (by simp [hl, hp])).trans (if_neg (by simp [hc])))

theorem serAckWindowExpiry_doubles (hn : s.ser.noListener = true) : Does .serAckWindowExpiry s fun u =>
    u = { s with ser := { s.ser with phase := .backoff, backoffMs := min 1000 (2 * s.ser.backoffMs) } } :=
  ⟨_, exec_serAckWindowExpiry hl hp hc, if_pos hn⟩

theorem serAckWindowExpiry_retries (hn : s.ser.noListener = false) (hr : s.ser.retries < 3) :
    Does .serAckWindowExpiry s fun u =>
      u = { s with ser := { s.ser with phase := .retry, retries := s.ser.retries + 1 } } :=
  ⟨_, exec_serAckWindowExpiry hl hp hc, (if_neg (by simp [hn])).trans (if_pos hr)⟩

theorem serAckWindowExpiry_waits (hn : s.ser.noListener = false) (hr : 3 ≤ s.ser.retries) :
    Does .serAckWindowExpiry s fun u =>
      u = { s with bb := u.bb, ser := { s.ser with phase := .backoff, noListener := true, backoffMs := 4 } } := by
  refine ⟨_, exec_serAckWindowExpiry hl hp hc, ?_⟩
  rw [if_neg (by simp [hn]), if_neg (Nat.not_lt.mpr hr)]
  rfl

end

theorem serBackoffExpiry_retries (hp : s.ser.phase = .backoff) : Does .serBackoffExpiry s fun u =>
    u = { s with ser := { s.ser with phase := .retry } } := ⟨_, rfl, if_pos (by simp [hl, hp])⟩

end

end

end Sys2Proof.Machine
end

section
/-! SUPPORT. What the serial receiver counts (R373, R377, R378, R389). -/

namespace Sys2Proof.Machine

section
variable {s : State} {l : List Byte} {ticks : List Bool}

/-! ### Frames that are not those of Table SL.4 -/

theorem frameRejected_of_unsound (hl : frameLack l = 0) (h : parseFrame l = none) : frameRejected l = true := by
  simp [frameRejected, hl, h]

theorem frameRejected_of_sound {a k : Byte} {b : List Byte} (hl : frameLack l = 0) (h : parseFrame l = some (a, k, b)) :
    frameRejected l = !(decide (1 ≤ k.toNat) && decide (k.toNat ≤ 5)) := by
  simp [frameRejected, hl, h]

section
variable (ha : s.serAwake = true)
include ha

/-! ### A frame is cut short (R377) -/

section
variable {chars : List (Nat × Byte)} {gap : Nat} (hf : framesOf chars = [l])
include hf

theorem exec_serFrameBroken : exec (.serFrameBroken chars gap) s =
    .next (if 12 ≤ gap ∧ 0 < frameLack l then s.count16 Fld.serCrcErrCount else s) := by
  refine congrArg Host.Outcome.next ((if_pos ha).trans ?_)
  rw [hf]
  by_cases hg : 12 ≤ gap <;> by_cases hk : 0 < frameLack l <;> simp [hg, hk]

theorem serFrameBroken_counts (hk : 0 < frameLack l) (hg : 12 ≤ gap) : Does (.serFrameBroken chars gap) s fun u =>
    u = { s with fields := u.fields } ∧ Counted s u Fld.serCrcErrCount [] :=
  does_of_count16 ((exec_serFrameBroken ha hf).trans (congrArg Host.Outcome.next (if_pos ⟨hg, hk⟩)))

theorem exec_serFrameBroken_rests (h : frameLack l = 0 ∨ gap < 12) : exec (.serFrameBroken chars gap) s = .next s :=
  (exec_serFrameBroken ha hf).trans (congrArg Host.Outcome.next (if_neg (by omega)))

end

/-! ### A character or a frame is discarded (R373, R377) -/

theorem serFrameRejected_framing (h : readChar s.serInverse ticks = .framing) :
    Does (.serFrameRejected (.character ticks)) s fun u =>
      u = { s with fields := u.fields } ∧ Counted s u Fld.serFramingErrCount [] := by
  refine does_of_count16 (congrArg Host.Outcome.next ((if_neg (by simp [ha])).trans ?_))
  dsimp only
  rw [h]

theorem serFrameRejected_parity (h : readChar s.serInverse ticks = .parity) :
    Does (.serFrameRejected (.character ticks)) s fun u =>
      u = { s with fields := u.fields } ∧ Counted s u Fld.serParityErrCount [] := by
  refine does_of_count16 (congrArg Host.Outcome.next ((if_neg (by simp [ha])).trans ?_))
  dsimp only
  rw [h]

theorem exec_serFrameRejected_byte {c : Byte} (h : readChar s.serInverse ticks = .byte c) :
    exec (.serFrameRejected (.character ticks)) s = .next s := by
  refine congrArg Host.Outcome.next ((if_neg (by simp [ha])).trans ?_)
  dsimp only
  rw [h]

theorem exec_serFrameRejected_frame : exec (.serFrameRejected (.frame l)) s =
    .next (if frameRejected l then s.count16 Fld.serCrcErrCount else s) :=
  congrArg Host.Outcome.next (if_neg (by simp [ha]))

theorem serFrameRejected_counts (h : frameRejected l = true) : Does (.serFrameRejected (.frame l)) s fun u =>
    u = { s with fields := u.fields } ∧ Counted s u Fld.serCrcErrCount [] :=
  does_of_count16 ((exec_serFrameRejected_frame ha).trans (congrArg Host.Outcome.next (if_pos h)))

theorem exec_serFrameRejected_rests (h : frameRejected l = false) :
    exec (.serFrameRejected (.frame l)) s = .next s :=
  (exec_serFrameRejected_frame ha).trans (congrArg Host.Outcome.next (if_neg (by simp [h])))

/-! ### The line is held low (R389) -/

theorem serLineHeldLow_counts (hb : s.bbWrites = true) (hr : s.bb.queue.length < 32) : Does .serLineHeldLow s fun u =>
    u = { s with fields := u.fields, bb := u.bb } ∧ Counted s u Fld.serLineFaultCount [] ∧
    u.bb.queue = s.bb.queue ++ [⟨0, 0x0C, s.bb.lostPending, 0xFF, 2, 0⟩] := by
  refine ⟨_, congrArg Host.Outcome.next (if_pos ha), rfl, s.count16_counted _, ?_⟩
  rw [State.bbEvent_on (s := s.count16 _) hb]
  exact congrArg BlackBox.queue (BlackBox.push_room hr ..)

end

end

/-- Settles O40: a frame starts with what waits first and ends by what reads back, by whether it is acknowledged, and by the
window; the receiver counts what it discards. -/
theorem serialSendingAndCounts : Obligations.SerialSendingAndCounts := by
  unfold Obligations.SerialSendingAndCounts
  refine ⟨fun s e i hl => ?_, fun s chars gap l ticks ha => ?_⟩
  · exact ⟨fun hp => ⟨serFrameStart_response hl hp, serFrameStart_first hl hp, serFrameStart_again hl hp,
        exec_serFrameStart_rests⟩,
      fun hs hp hw => ⟨fun hb hi => serCollision_counts hl hs hp hw (mismatchOf_lost hb hi),
        fun hb hi => serCollision_counts hl hs hp hw (mismatchOf_collision hb hi),
        fun hb => serCollision_counts hl hs hp hw (mismatchOf_fault hb),
        fun read hb => exec_serCollision_none hl hs hp hw (mismatchOf_none hb)⟩,
      fun hp hw hq => ⟨serFrameSent_party hl hp hw hq, serFrameSent_leaves hl hp hw hq, serFrameSent_stays hl hp hw hq⟩,
      fun hp hc => ⟨serAckWindowExpiry_doubles hl hp hc, serAckWindowExpiry_retries hl hp hc,
        serAckWindowExpiry_waits hl hp hc⟩,
      serBackoffExpiry_retries hl⟩
  · refine ⟨serFrameBroken_counts ha, exec_serFrameBroken_rests ha, serFrameRejected_framing ha,
      serFrameRejected_parity ha, fun c => exec_serFrameRejected_byte ha,
      fun hk hn => serFrameRejected_counts ha (frameRejected_of_unsound hk hn),
      fun a k b hk hp => ⟨fun other => ?_, fun h1 h5 => ?_⟩, serLineHeldLow_counts ha⟩
    · refine serFrameRejected_counts ha ((frameRejected_of_sound hk hp).trans ?_)
      obtain rfl | large := other
      · rfl
      · simp [Nat.not_le.mpr large]
    · exact exec_serFrameRejected_rests ha ((frameRejected_of_sound hk hp).trans (by simp [h1, h5]))

end Sys2Proof.Machine
end

section
/-! SUPPORT. Acknowledgements and restarts on the serial line (R381, R382, R389). -/

namespace Sys2Proof.Machine

/-! ### A frame addressed to the engine ends NO_LISTENER (R389) -/

theorem Ser.addressed_listening {x : Ser} (h : x.noListener = false) : x.addressed = x := if_pos (by simp [h])

theorem Ser.addressed_hears {x : Ser} (h : x.noListener = true) : x.addressed = { x with
    noListener := false, backoffMs := 0, retries := 0
    phase := if x.phase = .backoff ∨ x.phase = .retry then .idle else x.phase } := if_neg (by simp [h])

theorem Ser.addressed_addressed (x : Ser) : x.addressed.addressed = x.addressed := by
  refine Ser.addressed_listening ?_
  unfold Ser.addressed
  split <;> simp_all

/-! ### What an acknowledgement leaves (R381) -/

theorem precedes_self (n : Word) : precedes n n = false := by
  rw [precedes, BitVec.sub_self]
  rfl

section
variable {x : Ser} {m : Word}

/-- Every sent record at or before `m` leaves, and the send pointer stays at its record. -/
theorem Ser.ack_covers (h : ∀ r, x.queue.head? = some r → precedes m (recSeq r.rec2) = false) : x.ack m = { x with
    queue := x.queue.filter fun r => !(r.sent && atOrBefore (recSeq r.rec2) m)
    next := x.next - ((x.queue.take x.next).filter fun r => r.sent && atOrBefore (recSeq r.rec2) m).length } := by
  unfold Ser.ack
  cases hq : x.queue with
  | nil =>
    cases x
    simp_all
  | cons r q => simp [h r (by simp [hq])]

/-- Records not yet sent are not acknowledged. -/
theorem Ser.ack_unsent (h : ∀ r ∈ x.queue, r.sent = false) : x.ack m = x := by
  unfold Ser.ack
  split
  · rfl
  · refine ite_eq_left_iff.mpr fun _ => ?_
    have stay : x.queue.filter (fun r => !(r.sent && atOrBefore (recSeq r.rec2) m)) = x.queue :=
      List.filter_eq_self.mpr fun r hr => by simp [h r hr]
    have before : (x.queue.take x.next).filter (fun r => r.sent && atOrBefore (recSeq r.rec2) m) = [] :=
      List.filter_eq_nil_iff.mpr fun r hr => by simp [h r (List.mem_of_mem_take hr)]
    dsimp only
    rw [stay, before]
    rfl

/-- The head record alone is covered, and leaves. -/
theorem Ser.ack_head {e : SerRec} {q : List SerRec} (hn : x.next = 0) (hq : x.queue = e :: q) (hs : e.sent = true)
    (hm : m = recSeq e.rec2) (hr : ∀ r ∈ q, r.sent = false) : x.ack m = { x with queue := q } := by
  have stay : q.filter (fun r => !(r.sent && atOrBefore (recSeq r.rec2) m)) = q :=
    List.filter_eq_self.mpr fun r h => by simp [hr r h]
  rw [Ser.ack_covers (by simp [hq, hm, precedes_self]), hq, List.filter_cons_of_neg (by simp [hs, hm, atOrBefore]), stay,
    hn]
  simp

/-- The sequence number of the record at the send pointer. -/
def Ser.pointed (x : Ser) : Option Word := (x.queue[x.next]?).map fun e => recSeq e.rec2

/-- The line after an acknowledgement up to `m`: a record in hand that leaves is settled, or withdrawn from the line. -/
def Ser.acked (x : Ser) (m : Word) : Ser :=
  if (x.phase == .record || x.phase == .window || x.phase == .retry || x.phase == .backoff) && !x.withdrawn
      && decide (x.pointed ≠ (x.ack m).pointed) then
    if x.phase = .record then { x.ack m with withdrawn := true } else (x.ack m).settled
  else x.ack m

/-- An acknowledgement reaches as far as the newest record sent. -/
def Ser.ackMark (x : Ser) (n : Word) : Word := if precedes x.sentSeq n then x.sentSeq else n

theorem Ser.acked_idle (h : x.phase = .idle ∨ x.phase = .response) : x.acked m = x.ack m := by
  obtain h | h := h <;> exact if_neg (by simp [h])

theorem Ser.acked_unsent (h : ∀ r ∈ x.queue, r.sent = false) : x.acked m = x := by
  rw [Ser.acked, Ser.ack_unsent h]
  exact if_neg (by simp)

/-- The record whose window is open leaves, and nothing of it is pending. -/
theorem Ser.acked_window {e : SerRec} {q : List SerRec} (hp : x.phase = .window) (hw : x.withdrawn = false)
    (hn : x.next = 0) (hq : x.queue = e :: q) (hs : e.sent = true) (hm : m = recSeq e.rec2)
    (hr : ∀ r ∈ q, r.sent = false ∧ recSeq r.rec2 ≠ m) :
    x.acked m = { x with queue := q, phase := .idle, retries := 0, lateCancel := false } := by
  have acks := Ser.ack_head hn hq hs hm fun r h => (hr r h).1
  have leaves : x.pointed ≠ (x.ack m).pointed := by
    rw [acks, Ser.pointed, Ser.pointed, hn, hq]
    cases q with
    | nil => simp
    | cons r q => simpa [← hm] using (hr r (by simp)).2.symm
  rw [Ser.acked, if_pos (by simp [hp, hw, leaves]), if_neg (by simp [hp]), acks, Ser.settled]

end

/-! ### The two frames -/

section
variable {s : State} {addr : Byte} {n : Word}

theorem State.ackSer_mirrors (s : State) (n : Word) : s.ackSer n =
    State.mirror { s with ser := s.ser.acked (s.ser.ackMark n) } (.ackMark .ser (s.ser.ackMark n) none) := rfl

theorem exec_serAckFrame_other (h : s.serMine addr = false) : exec (.serAckFrame addr n) s = .next s :=
  congrArg Host.Outcome.next (if_neg (by simp [h]))

theorem exec_serRestartFrame_other (h : s.serMine addr = false) : exec (.serRestartFrame addr) s = .next s :=
  congrArg Host.Outcome.next (if_neg (by simp [h]))

section
variable (hm : s.serMine addr = true)
include hm

/-- A frame addressed to the engine acts on the line that has heard it (R389). -/
theorem exec_serAckFrame : exec (.serAckFrame addr n) s =
    .next (State.ackSer { s with ser := s.ser.addressed } n) := congrArg Host.Outcome.next (if_pos hm)

theorem exec_serRestartFrame : exec (.serRestartFrame addr) s = .next
    (if s.serParty then { s with ser := s.ser.addressed }
      else { s with ser := if s.ser.addressed.phase = .record then { s.ser.addressed with restartDue := true }
        else { s.ser.addressed with next := 0 } }) := congrArg Host.Outcome.next (if_pos hm)

theorem exec_serAckFrame_hears :
    exec (.serAckFrame addr n) s = exec (.serAckFrame addr n) { s with ser := s.ser.addressed } := by
  rw [exec_serAckFrame hm, exec_serAckFrame (s := { s with ser := s.ser.addressed }) hm, Ser.addressed_addressed]

theorem exec_serRestartFrame_hears :
    exec (.serRestartFrame addr) s = exec (.serRestartFrame addr) { s with ser := s.ser.addressed } := by
  rw [exec_serRestartFrame hm, exec_serRestartFrame (s := { s with ser := s.ser.addressed }) hm, Ser.addressed_addressed]
  rfl

variable (hn : s.ser.noListener = false)
include hn

theorem serAckFrame_acks {y : Ser} (hy : s.ser.acked (s.ser.ackMark n) = y) : Does (.serAckFrame addr n) s fun u =>
    u = { s with pair := u.pair, ser := y } ∧ (s.pair.mode = .solo → u.pair = s.pair) := by
  refine ⟨_, exec_serAckFrame hm, ?_⟩
  rw [Ser.addressed_listening hn, State.ackSer_mirrors, hy]
  exact ⟨State.mirror_eq _ _, fun solo => by rw [State.mirror_solo (by exact solo)]⟩

/-- With no record in hand, the records covered leave. -/
theorem serAckFrame_idle (hp : s.ser.phase = .idle ∨ s.ser.phase = .response)
    (hh : ∀ r, s.ser.queue.head? = some r → precedes (s.ser.ackMark n) (recSeq r.rec2) = false) :
    Does (.serAckFrame addr n) s fun u => u = { s with pair := u.pair, ser := { s.ser with
      queue := s.ser.queue.filter fun r => !(r.sent && atOrBefore (recSeq r.rec2) (s.ser.ackMark n))
      next := s.ser.next - ((s.ser.queue.take s.ser.next).filter fun r =>
        r.sent && atOrBefore (recSeq r.rec2) (s.ser.ackMark n)).length } } ∧
      (s.pair.mode = .solo → u.pair = s.pair) :=
  serAckFrame_acks hm hn ((Ser.acked_idle hp).trans (Ser.ack_covers hh))

/-- The acknowledgement that the window waits for (R387). -/
theorem serAckFrame_window {e : SerRec} {q : List SerRec} (hp : s.ser.phase = .window) (hw : s.ser.withdrawn = false)
    (h0 : s.ser.next = 0) (hq : s.ser.queue = e :: q) (hs : e.sent = true) (he : n = recSeq e.rec2)
    (hl : s.ser.sentSeq = n) (hr : ∀ r ∈ q, r.sent = false ∧ recSeq r.rec2 ≠ n) :
    Does (.serAckFrame addr n) s fun u => u = { s with pair := u.pair, ser := { s.ser with
      queue := q, phase := .idle, retries := 0, lateCancel := false } } := by
  have mark : s.ser.ackMark n = n := by rw [Ser.ackMark, hl, ite_self]
  obtain ⟨u, does, frame, -⟩ :=
    serAckFrame_acks hm hn (Ser.acked_window hp hw h0 hq hs (mark.trans he) (by rwa [mark]))
  exact ⟨u, does, frame⟩

theorem serAckFrame_unsent (h : ∀ r ∈ s.ser.queue, r.sent = false) : Does (.serAckFrame addr n) s fun u =>
    u = { s with pair := u.pair } := by
  obtain ⟨u, does, frame, -⟩ := serAckFrame_acks hm hn (Ser.acked_unsent h)
  exact ⟨u, does, frame⟩

/-- A party line takes no restart (R382). -/
theorem exec_serRestartFrame_party (hs : s.serParty = true) : exec (.serRestartFrame addr) s = .next s := by
  rw [exec_serRestartFrame hm, if_pos hs, Ser.addressed_listening hn]

theorem serRestartFrame_restarts (hs : s.serParty = false) (hp : s.ser.phase ≠ .record) :
    Does (.serRestartFrame addr) s fun u => u = { s with ser := { s.ser with next := 0 } } := by
  refine ⟨_, exec_serRestartFrame hm, ?_⟩
  rw [if_neg (by simp [hs]), Ser.addressed_listening hn, if_neg hp]

/-- A restart waits for the end of the frame on the line. -/
theorem serRestartFrame_waits (hs : s.serParty = false) (hp : s.ser.phase = .record) :
    Does (.serRestartFrame addr) s fun u => u = { s with ser := { s.ser with restartDue := true } } := by
  refine ⟨_, exec_serRestartFrame hm, ?_⟩
  rw [if_neg (by simp [hs]), Ser.addressed_listening hn, if_pos hp]

end

end

end Sys2Proof.Machine
end

section
/-! SUPPORT. The writes of SER.ENABLE, SER.REQ_NOTE_ACK and SER.CANCEL (R370, R390, R393, R397). -/

namespace Sys2Proof.Machine

section
variable {s : State} {t : TrowelId} {v : Word}

/-! ### SER.ENABLE (R370, R397) -/

/-- The serial line cannot be enabled where ST10 leaves it out (log entry 20). -/
theorem State.widens_serEnable (s : State) (v : Word) :
    s.widens Fld.serEnable v = if v.getLsbD 0 = true ∧ s.strap 10 = 0 then some 0 else none := by
  have lanes : (List.finRange 4).find? (fun (p : PortId) =>
      decide (Fld.serEnable = Fld.csiLanes p) || decide (Fld.serEnable = Fld.csiRateMbps p)) = none := by decide
  unfold State.widens
  rw [lanes]
  simp

/-- A write that would widen a strap choice only writes an event (R16). -/
theorem State.accept_widening {a : Nat} {r : FieldRow} {bits : Word} (hr : fieldRow a = some r)
    (hw : s.widens a (cutToWidth r v) = some bits) : s.accept t a v = s.bbEvent 0x00#7 0xFF#8 0x0003#16 bits := by
  simp [State.accept, hr, hw]

section
variable (ht : Takes s t Fld.serEnable)
include ht

theorem serEnableWrite_widens (hv : v.getLsbD 0 = true) (h0 : s.strap 10 = 0) : Does (.serEnableWrite t v) s fun u =>
    u = { s with bb := u.bb } := by
  obtain ⟨r, row, width⟩ : ∃ r, fieldRow Fld.serEnable = some r ∧ r.width = 1 := Option.map_eq_some_iff.mp (by decide)
  have cut : (cutToWidth r v).getLsbD 0 = true := by
    rw [cutToWidth, width]
    exact (getLsbD_and_one v).trans hv
  have widens := (s.widens_serEnable (cutToWidth r v)).trans (if_pos ⟨cut, h0⟩)
  exact ⟨_, congrArg Host.Outcome.next ((State.arrive_of_takes ht (by decide) v).trans
    (State.accept_widening row widens)), rfl⟩

/-- The enable as stored, and the other fields beside it. -/
theorem serEnable_stored {u : State} (hi : u.identity = s.identity) (hy : u.sys = s.sys)
    (hf : u.fields = (s.setF Fld.serEnable (v &&& 1)).fields) :
    u.enabledAt Fld.serEnable = v.getLsbD 0 ∧ FieldsKept s u [Fld.serEnable] :=
  ⟨State.enabledAt_of_write ht hi hy ((State.getF_of_fields hf _).trans (s.getF_setF_self ..)),
    fun b hb _ => (State.getF_of_fields hf b).trans (s.getF_setF_of_ne (by simpa using hb) _)⟩

variable (hs : s.shadow = [])
include hs

theorem exec_serEnableWrite_taken (hw : v.getLsbD 0 = true → s.strap 10 ≠ 0) : exec (.serEnableWrite t v) s = .next
    (if v.getLsbD 0 then s.setF Fld.serEnable (v &&& 1) else (s.setF Fld.serEnable (v &&& 1)).serRelease) := by
  have keeps : s.widens Fld.serEnable (v &&& 1) = none := by
    rw [s.widens_serEnable, getLsbD_and_one]
    exact if_neg fun ⟨hv, h0⟩ => hw hv h0
  refine congrArg Host.Outcome.next ?_
  rw [State.arrive_now (n := 1) ht (by decide) (by decide) (by decide) keeps, State.applyNow,
    show unitOf Fld.serEnable = .serQ by decide]
  refine (State.applyStopped_nil (by simp [hs])).trans ?_
  rw [← getLsbD_and_one v]
  rfl

theorem serEnableWrite_enables (hv : v.getLsbD 0 = true) (h0 : s.strap 10 ≠ 0) : Does (.serEnableWrite t v) s fun u =>
    u = { s with fields := u.fields } ∧ u.enabledAt Fld.serEnable = true ∧ FieldsKept s u [Fld.serEnable] := by
  refine ⟨_, exec_serEnableWrite_taken ht hs fun _ => h0, ?_⟩
  rw [if_pos hv]
  obtain ⟨enabled, kept⟩ := serEnable_stored (u := s.setF Fld.serEnable (v &&& 1)) ht rfl rfl rfl
  exact ⟨rfl, enabled.trans hv, kept⟩

/-- The line is released, and its record stays queued (R397). -/
theorem serEnableWrite_releases (hv : v.getLsbD 0 = false) : Does (.serEnableWrite t v) s fun u => u = { s with
      fields := u.fields
      ser := { s.ser with phase := .idle, withdrawn := false, arbDone := false, restartDue := false, responses := [] } } ∧
    u.enabledAt Fld.serEnable = false ∧ FieldsKept s u [Fld.serEnable] := by
  refine ⟨_, exec_serEnableWrite_taken ht hs fun on => absurd on (Bool.eq_false_iff.mp hv), ?_⟩
  rw [if_neg (Bool.eq_false_iff.mp hv)]
  obtain ⟨enabled, kept⟩ := serEnable_stored (u := (s.setF Fld.serEnable (v &&& 1)).serRelease) ht rfl rfl rfl
  exact ⟨rfl, enabled.trans hv, kept⟩

end

/-! ### SER.REQ_NOTE_ACK (R393) -/

theorem serReqNoteAck_clears (ht : Takes s t Fld.serReqNoteAck) (hs : s.shadow = []) :
    Does (.serReqNoteAck t 1) s fun u => u = { s with ser := { s.ser with noteHigh := false } } :=
  ⟨_, exec_serReqNoteAck_taken ht, State.applyStopped_nil hs⟩

/-! ### What a cancellation does (R390) -/

/-- The line without its head record: withdrawn from the line, or settled where its acknowledgement or its retry is
awaited. -/
def Ser.cancelled (x : Ser) : Ser :=
  if decide (x.phase = .record) && decide (x.next = 0) && !x.withdrawn then { x.remove 0 with withdrawn := true }
  else if x.next = 0 ∧ (x.phase = .window ∨ x.phase = .retry) then
    { x.remove 0 with phase := .idle, retries := 0, lateCancel := false }
  else if x.next = 0 ∧ x.phase = .response then { x.remove 0 with retries := 0, lateCancel := false }
  else x.remove 0

/-- No record, or no bit 16, cancels nothing. -/
theorem State.serCancel_rests (h : v.getLsbD 16 = false ∨ s.ser.queue = []) : s.serCancel v = s := by
  unfold State.serCancel
  dsimp only
  split
  · rfl
  next hq =>
    refine if_pos ?_
    obtain bit | empty := h
    · rw [bit]
      rfl
    · simp [empty] at hq

section
variable {e : SerRec} {q : List SerRec} (hq : s.ser.queue = e :: q) (hb : v.getLsbD 16 = true)
  (hv : v.setWidth 16 = (recSeq e.rec2).setWidth 16)
include hq hb hv

/-- The head record past its arbitration completes, marked (R390). -/
theorem State.serCancel_late (hp : s.ser.phase = .record) (hn : s.ser.next = 0) (hw : s.ser.withdrawn = false)
    (ha : s.ser.arbDone = true) : s.serCancel v =
      State.count16 { s with ser := { s.ser with lateCancel := true, superseded := true } } Fld.serLateCancelCount := by
  simp [State.serCancel, hq, hb, hv, hp, hn, hw, ha]

theorem State.serCancel_timely (h : s.ser.phase = .record → s.ser.arbDone = false) : s.serCancel v =
    (State.count16 { s with ser := s.ser.cancelled } Fld.serCancelCount).mirror
      (.ackMark .ser 0 (some (recSeq e.rec2))) := by
  have late : (decide (s.ser.phase = .record) && decide (s.ser.next = 0) && !s.ser.withdrawn && s.ser.arbDone) = false := by
    by_cases hp : s.ser.phase = .record
    · simp [h hp]
    · simp [hp]
  unfold State.serCancel
  dsimp only
  rw [hq]
  refine (if_neg (by simp [hb, hv])).trans ((if_neg (by rw [late]; exact Bool.false_ne_true)).trans ?_)
  rfl

/-- A timely cancellation takes the head record, is counted, and is mirrored. -/
theorem State.serCancel_counted (h : s.ser.phase = .record → s.ser.arbDone = false) :
    s.serCancel v = { s with
      pair := (s.serCancel v).pair, fields := (s.serCancel v).fields, ser := s.ser.cancelled } ∧
    Counted s (s.serCancel v) Fld.serCancelCount [] := by
  have mirrored := State.mirror_eq (State.count16 { s with ser := s.ser.cancelled } Fld.serCancelCount)
    (.ackMark .ser 0 (some (recSeq e.rec2)))
  rw [← State.serCancel_timely hq hb hv h] at mirrored
  have fields : (s.serCancel v).fields = (s.count16 Fld.serCancelCount).fields :=
    (congrArg State.fields mirrored).trans rfl
  exact ⟨by rw [fields]; exact mirrored, (s.count16_counted Fld.serCancelCount).of_fields fields⟩

end

section
variable {x : Ser} {e : SerRec} {q : List SerRec} (hq : x.queue = e :: q)
include hq

theorem Ser.cancelled_idle (hp : x.phase = .idle) : x.cancelled = { x with queue := q, next := x.next - 1 } := by
  have pointer : (if 0 < x.next then x.next - 1 else x.next) = x.next - 1 := by split <;> omega
  simp [Ser.cancelled, Ser.remove, hp, hq, pointer]

theorem Ser.cancelled_awaited (hp : x.phase = .window ∨ x.phase = .retry) (hn : x.next = 0) :
    x.cancelled = { x with queue := q, phase := .idle, retries := 0, lateCancel := false } := by
  obtain hp | hp := hp <;> simp [Ser.cancelled, Ser.remove, hp, hq, hn]

theorem Ser.cancelled_onLine (hp : x.phase = .record) (hn : x.next = 0) (hw : x.withdrawn = false) :
    x.cancelled = { x with queue := q, withdrawn := true } := by
  simp [Ser.cancelled, Ser.remove, hp, hq, hn, hw]

end

/-! ### SER.CANCEL -/

/-- What a unit takes does not depend on the serial line. -/
theorem Takes.updSer {a : Nat} (h : Takes s t a) (f : Ser → Ser) : Takes (s.updSer f) t a :=
  ⟨h.awake, h.started, h.present, h.accepted, h.on, h.alone⟩

/-- The bits of SER.CANCEL beyond its width play no part. -/
theorem State.serCancel_cut (s : State) (v : Word) : s.serCancel (v &&& 131071) = s.serCancel v := by
  have bit : (v &&& 131071).getLsbD 16 = v.getLsbD 16 := by
    rw [BitVec.getLsbD_and]
    exact Bool.and_true _
  have number : (v &&& 131071).setWidth 16 = v.setWidth 16 := by
    rw [BitVec.setWidth_and]
    exact BitVec.and_allOnes
  simp only [State.serCancel, bit, number]

section
variable (ht : Takes s t Fld.serCancel) (hs : s.shadow = [])
include ht hs

theorem State.arrive_serCancel : s.arrive t (BitVec.ofNat 16 Fld.serCancel) v = s.serCancel v := by
  rw [State.arrive_now (n := 17) ht (by decide) (by decide) (by decide) (State.widens_none (by decide) (by decide)),
    State.applyNow, show unitOf Fld.serCancel = .serC by decide]
  exact (State.applyStopped_nil (by simp [hs])).trans (s.serCancel_cut v)

theorem exec_serCancel (hp : s.ser.phase ≠ .record) (late : Bool) :
    exec (.serCancel t v late) s = .next (s.serCancel v) := by
  refine congrArg Host.Outcome.next ?_
  rw [if_neg hp]
  exact State.arrive_serCancel ht hs

theorem exec_serCancel_onLine (hp : s.ser.phase = .record) (late : Bool) : exec (.serCancel t v late) s =
    .next ((s.updSer fun x => { x with arbDone := late }).serCancel v) := by
  refine congrArg Host.Outcome.next ?_
  rw [if_pos hp]
  exact State.arrive_serCancel (ht.updSer _) hs

theorem exec_serCancel_rests (hp : s.ser.phase ≠ .record) (h : v.getLsbD 16 = false ∨ s.ser.queue = []) :
    exec (.serCancel t v false) s = .next s :=
  (exec_serCancel ht hs hp false).trans (congrArg Host.Outcome.next (State.serCancel_rests h))

section
variable {e : SerRec} {q : List SerRec} (hq : s.ser.queue = e :: q) (hb : v.getLsbD 16 = true)
  (hv : v.setWidth 16 = (recSeq e.rec2).setWidth 16)
include hq hb hv

theorem serCancel_takes (hp : s.ser.phase ≠ .record) : Does (.serCancel t v false) s fun u =>
    u = { s with pair := u.pair, fields := u.fields, ser := s.ser.cancelled } ∧ Counted s u Fld.serCancelCount [] :=
  ⟨_, exec_serCancel ht hs hp false, State.serCancel_counted hq hb hv fun h => absurd h hp⟩

theorem serCancel_idle (hp : s.ser.phase = .idle) : Does (.serCancel t v false) s fun u =>
    u = { s with pair := u.pair, fields := u.fields, ser := { s.ser with queue := q, next := s.ser.next - 1 } } ∧
    Counted s u Fld.serCancelCount [] :=
  Ser.cancelled_idle hq hp ▸ serCancel_takes ht hs hq hb hv (by simp [hp])

theorem serCancel_awaited (hp : s.ser.phase = .window ∨ s.ser.phase = .retry) (hn : s.ser.next = 0) :
    Does (.serCancel t v false) s fun u =>
      u = { s with pair := u.pair, fields := u.fields, ser := { s.ser with
        queue := q, phase := .idle, retries := 0, lateCancel := false } } ∧ Counted s u Fld.serCancelCount [] :=
  Ser.cancelled_awaited hq hp hn ▸ serCancel_takes ht hs hq hb hv (by obtain hp | hp := hp <;> simp [hp])

variable (hp : s.ser.phase = .record) (hn : s.ser.next = 0) (hw : s.ser.withdrawn = false)
include hp hn hw

/-- In time, the frame on the line is withdrawn. -/
theorem serCancel_withdraws : Does (.serCancel t v false) s fun u =>
    u = { s with pair := u.pair, fields := u.fields, ser := { s.ser with
      queue := q, withdrawn := true, arbDone := false } } ∧ Counted s u Fld.serCancelCount [] := by
  obtain ⟨frame, counted⟩ := State.serCancel_counted (s := s.updSer fun x => { x with arbDone := false }) hq hb hv
    fun _ => rfl
  rw [Ser.cancelled_onLine (x := (s.updSer fun x => { x with arbDone := false }).ser) hq hp hn hw] at frame
  exact ⟨_, exec_serCancel_onLine ht hs hp false, frame, counted⟩

/-- Too late, it completes, and its record is marked. -/
theorem serCancel_marks : Does (.serCancel t v true) s fun u =>
    u = { s with fields := u.fields, ser := { s.ser with arbDone := true, lateCancel := true, superseded := true } } ∧
    Counted s u Fld.serLateCancelCount [] := by
  have late := State.serCancel_late (s := s.updSer fun x => { x with arbDone := true }) hq hb hv hp hn hw rfl
  exact ⟨_, (exec_serCancel_onLine ht hs hp true).trans (congrArg Host.Outcome.next late), rfl,
    s.count16_counted Fld.serLateCancelCount⟩

end

end

end

/-- Settles O41: a frame by what the line that has heard it makes of it, SER.CANCEL by where the head record is. -/
theorem serialAcknowledgementAndCancel : Obligations.SerialAcknowledgementAndCancel := by
  unfold Obligations.SerialAcknowledgementAndCancel
  refine fun s t addr n v e q => ⟨fun hm => ⟨exec_serAckFrame_other hm, exec_serRestartFrame_other hm⟩, fun hm hn => ?_,
    fun hm hn => ⟨serAckFrame_idle hm hn, serAckFrame_window hm hn, serAckFrame_unsent hm hn⟩,
    fun hm hn => ⟨exec_serRestartFrame_party hm hn, serRestartFrame_restarts hm hn, serRestartFrame_waits hm hn⟩,
    fun ht hs => ⟨serEnableWrite_enables ht hs, serEnableWrite_widens ht, serEnableWrite_releases ht hs⟩,
    serReqNoteAck_clears, exec_serCancel_rests, fun ht hs hq hb hv => ⟨serCancel_idle ht hs hq hb hv,
      serCancel_awaited ht hs hq hb hv, serCancel_withdraws ht hs hq hb hv, serCancel_marks ht hs hq hb hv⟩⟩
  rw [exec_serAckFrame_hears hm, exec_serRestartFrame_hears hm, Ser.addressed_hears hn]
  exact ⟨rfl, rfl⟩

end Sys2Proof.Machine
end

section
/-! SUPPORT. Requests on the serial line, and their responses (R391 to R393, Table SL.5). -/

namespace Sys2Proof.Machine

section
variable {s : State} {addr code : Byte} {r : SerReq}

/-! ### What a request is answered -/

/-- The serial replay cache has no answer to the request (R360, R361). -/
def Ser.IsNew (x : Ser) (r : SerReq) : Prop :=
  r.session = 0 ∨ r.session ≠ x.session ∨ ∀ e ∈ x.cache, e.session = r.session → e.tag ≠ r.tag

/-- A cache of the serial line is searched as one of USB is. -/
theorem Ser.IsNew.misses (h : s.ser.IsNew r) :
    (if r.session = 0 then none else (sessionCache s.ser.session r.session s.ser.cache).2.find? fun e =>
      e.session == r.session && e.tag == r.tag) = none :=
  Usb.IsNew.misses (x := { s.usb with session := s.ser.session, cache := s.ser.cache })
    (r := ⟨true, 0, r.tag, r.session, r.param, 0⟩) h

/-- The status of a response: 2 for a bad parameter of a request that is otherwise answered (Table SL.5). -/
def serStatus (code : Byte) (r : SerReq) (status : Byte) : Byte := if status = 0 ∧ serBadParam code r then 2 else status

/-- An error carries no data (R392). -/
theorem serRespBytes_error {st : Byte} (h : st ≠ 0) (d : List Byte) :
    serRespBytes code r st d = serRespBytes code r st [] := by
  rw [serRespBytes, serRespBytes, if_neg h, if_neg h]

/-- The state in which a new request has its response, kept in the cache where it is no error. -/
def State.serAnswered (s : State) (code : Byte) (r : SerReq) (st : Byte) (resp : List Byte) : State :=
  let kept := sessionCache s.ser.session r.session s.ser.cache
  { s with ser := { s.ser with
      session := kept.1
      cache := if r.session = 0 ∨ st ≠ 0 then kept.2
        else cachePut kept.2 ⟨r.session, r.tag, serReqBytes code r, resp, false⟩
      responses := [⟨r.requester, serReqBytes code r, resp⟩] } }

/-- Session and cache of `y` follow those of `x` by the request `r`, answered with status `st`. -/
def Ser.Keeps (x : Ser) (r : SerReq) (st : Byte) (y : Ser) : Prop :=
  (r.session = 0 → y.session = x.session ∧ y.cache = x.cache) ∧
  (r.session ≠ 0 → y.session = r.session ∧
    (st = 0 → ∃ e ∈ y.cache, e.session = r.session ∧ e.tag = r.tag ∧ e.complete = false))

theorem State.serAnswered_keeps (s : State) (code : Byte) (r : SerReq) (st : Byte) (resp : List Byte) :
    s.ser.Keeps r st (s.serAnswered code r st resp).ser := by
  refine ⟨fun zero => ?_, fun other => ⟨sessionCache_session other _, fun ok =>
    ⟨⟨r.session, r.tag, serReqBytes code r, resp, false⟩, ?_, rfl, rfl, rfl⟩⟩⟩
  · simp only [State.serAnswered, zero, true_or, if_true, sessionCache_zero, and_self]
  · rw [State.serAnswered]
    dsimp only
    rw [if_neg (not_or.mpr ⟨other, not_not.mpr ok⟩)]
    exact cachePut_mem ..

/-- A request of another address is not answered (R378). -/
theorem State.serRequest_other (h : s.serMine addr = false) (status : Byte) (d : List Byte) :
    s.serRequest addr code r status d = s := if_pos (by simp [h])

section
variable (hm : s.serMine addr = true) (hn : s.ser.noListener = false) (hr : s.ser.responses = []) (new : s.ser.IsNew r)
include hm hn hr new

theorem State.serRequest_new (status : Byte) (d : List Byte) : s.serRequest addr code r status d =
    s.serAnswered code r (serStatus code r status) (serRespBytes code r (serStatus code r status) d) := by
  have miss := new.misses
  have unasked : (s.ser.responses.any fun p => p.key == serReqBytes code r) = false := by simp [hr]
  unfold State.serRequest State.serAnswered
  rw [if_neg (by simp [hm])]
  simp only [State.updSer, Ser.addressed_listening hn]
  generalize sessionCache s.ser.session r.session s.ser.cache = kept at miss ⊢
  obtain ⟨sn, c⟩ := kept
  dsimp only at miss ⊢
  rw [miss, unasked, hr, if_neg Bool.false_ne_true, ← serStatus]
  dsimp only
  split <;> rfl

/-! ### Each request -/

/-- Command `c` answers request `r` of the given code with status `st` and response `resp`. -/
def SerAnswers (s : State) (r : SerReq) (c : Instr) (code st : Byte) (resp : List Byte) : Prop := Does c s fun u =>
  u = { s with ser := { s.ser with session := u.ser.session, cache := u.ser.cache
                                   responses := [⟨r.requester, serReqBytes code r, resp⟩] } } ∧
  s.ser.Keeps r st u.ser

theorem serRequest_answers {c : Instr} {status st : Byte} {d : List Byte}
    (hc : exec c s = .next (s.serRequest addr code r status d)) (hst : serStatus code r status = st) :
    SerAnswers s r c code st (serRespBytes code r st d) := by
  have answered := State.serRequest_new (code := code) hm hn hr new status d
  rw [hst] at answered
  exact ⟨_, hc.trans (congrArg Host.Outcome.next answered), rfl, s.serAnswered_keeps ..⟩

end

theorem serStatus_ok (hl : r.maxLen.toNat ≤ 240) (hz : code ≠ 5 ∨ r.maxLen.toNat % 16 = 0) :
    serStatus code r 0 = 0 := by
  refine if_neg fun ⟨_, bad⟩ => ?_
  simp only [serBadParam, Bool.or_eq_true, Bool.and_eq_true, decide_eq_true_eq] at bad
  obtain long | ⟨five, rest⟩ := bad
  · omega
  · exact hz.elim (· five) rest

theorem serStatus_long (hl : 240 < r.maxLen.toNat) : serStatus code r 0 = 2 :=
  if_pos (by simp [serBadParam, hl])

/-- A status other than 0 stays (R392). -/
theorem serStatus_error {status : Byte} (h : status ≠ 0) : serStatus code r status = status := if_neg fun e => h e.1

theorem exec_serUnknownRequest (h : code = 0 ∨ 5 < code.toNat) :
    exec (.serUnknownRequest addr code r) s = .next (s.serRequest addr code r 1 []) := by
  refine congrArg Host.Outcome.next (if_neg ?_)
  obtain rfl | large := h
  · decide
  · omega

/-! ### A response is sent (R393) -/

theorem serResponseSent_completes {p : SerResponse} {q : List SerResponse} (hl : s.serLive = true)
    (hp : s.ser.phase = .response) (hr : s.ser.responses = p :: q) : Does .serResponseSent s fun u =>
      u = { s with ser := s.ser.complete p q } := by
  refine ⟨_, congrArg Host.Outcome.next (if_neg (by simp [hl, hp])), ?_⟩
  rw [hr]
  rfl

end

/-- Settles O42: a new request by its status and its data, a response by what it completes. -/
theorem serialRequests : Obligations.SerialRequests := by
  unfold Obligations.SerialRequests
  refine fun s addr code r p q => ⟨fun hm hn hr new => ?_, fun hm => ?_, serResponseSent_completes⟩
  · have answers {c : Instr} {code status st : Byte} {d : List Byte} :=
      serRequest_answers (c := c) (code := code) (status := status) (st := st) (d := d) hm hn hr new
    refine ⟨fun hl => ⟨answers rfl (serStatus_ok hl (.inl (by decide))),
      answers rfl (serStatus_ok hl (.inl (by decide))), answers rfl (serStatus_ok hl (.inl (by decide))),
      fun hz => answers rfl (serStatus_ok hl (.inr hz))⟩, fun hl => ?_, answers rfl (serStatus_error (by decide)),
      fun hc => answers (exec_serUnknownRequest hc) (serStatus_error (by decide))⟩
    have long := answers (c := .serGetInventory addr r) rfl (serStatus_long hl)
    rw [serRespBytes_error (by decide)] at long
    exact long
  · exact ⟨congrArg Host.Outcome.next (State.serRequest_other hm ..),
      congrArg Host.Outcome.next (State.serRequest_other hm ..)⟩

end Sys2Proof.Machine
end

section
/-! SUPPORT. The count of the time base: that an operation leaves it, or moves it forward (R399, R400). -/

namespace Sys2Proof.Machine
section
variable (s : State)

/-! ### The time unit -/

@[simp] theorem TimeUnit.ite_fine (p : Prop) [Decidable p] (x y : TimeUnit) :
    (if p then x else y).fine = if p then x.fine else y.fine := apply_ite ..

/-- The count is that of `x` where both its parts are. -/
@[simp] theorem TimeUnit.fine_of_parts (x : TimeUnit) (core hold : Nat) (rate base : Int) (sel : Ref) (mode : TimeMode)
    (set : Bool) (target : Option Ref) (slewLeft holdFrom : Nat) (a b c : Cand) (off : Bool) (slow : Nat) :
    TimeUnit.fine ⟨x.ns, x.frac, core, hold, rate, base, sel, mode, set, target, slewLeft, holdFrom, a, b, c, off,
      slow⟩ = x.fine := rfl

@[simp] theorem TimeUnit.setCand_fine (x : TimeUnit) (r : Ref) (c : Cand) : (x.setCand r c).fine = x.fine := by
  cases r <;> rfl

@[simp] theorem State.track_fine (base : Int) : (s.track base).time.fine = s.time.fine := rfl

@[simp] theorem State.steer_fine (base o : Int) : (s.steer base o).time.fine = s.time.fine := by
  unfold State.steer
  split
  · rfl
  · simp only [ite_time, State.raise_frame, ite_self, State.track_fine]

/-- The ended counts, candidate by candidate. -/
theorem State.endCounts_eq (p : Ref → Bool) : s.endCounts p = { s with time := { s.time with
    fabric := if p .fabric then .idle else s.time.fabric, syncIn := if p .syncIn then .idle else s.time.syncIn
    partner := if p .partner then .idle else s.time.partner } } := by
  unfold State.endCounts
  cases h : p .fabric <;> cases h' : p .syncIn <;> cases h'' : p .partner <;> simp only [List.foldl, h, h', h''] <;> rfl

@[simp] theorem State.endCounts_fine (p : Ref → Bool) : (s.endCounts p).time.fine = s.time.fine := by
  rw [State.endCounts_eq]
  exact TimeUnit.fine_of_parts ..

/-- The forward step in the two parts of the count. -/
theorem TimeUnit.fine_split (x : TimeUnit) {f : Int} (h : 0 ≤ f) :
    ({ x with ns := (f / nsUnit).toNat, frac := (f % nsUnit).toNat } : TimeUnit).fine = f := by
  simp only [TimeUnit.fine, nsUnit]
  omega

theorem TimeUnit.fine_nonneg (x : TimeUnit) : 0 ≤ x.fine := by
  simp only [TimeUnit.fine, nsUnit]
  omega

/-- The first set (R413): a positive offset is added in one step, any other one leaves the count to a hold. -/
@[simp] theorem State.firstSet_fine (o : Int) : (s.firstSet o).time.fine = s.time.fine + max o 0 := by
  simp only [State.firstSet, ite_time, State.raiseAll_frame, ite_self]
  split
  next h =>
    rw [max_eq_left h.le, State.updTime_time]
    exact s.time.fine_split (Int.add_nonneg s.time.fine_nonneg h.le)
  next h =>
    rw [max_eq_right (not_lt.mp h), add_zero, State.updTime_time, TimeUnit.fine_of_parts]

/-- A commit moves the count forward where it is the first after a boot, and not at all otherwise (R410, R413). -/
theorem State.commit_fine_le (c : Ref) : s.time.fine ≤ (s.commit c).time.fine := by
  have sets (u : State) (o : Int) (e : u.time.fine = s.time.fine) : s.time.fine ≤ (u.firstSet o).time.fine := by
    rw [State.firstSet_fine, e]; omega
  have later {u : State} (h : s.time.fine ≤ u.time.fine) (p : Prop) [Decidable p] (q : Ref → Bool) :
      s.time.fine ≤ (if p then u.endCounts q else u).time.fine := by
    split
    · rwa [State.endCounts_fine]
    · exact h
  unfold State.commit
  refine later ?_ _ _
  split
  · simp only [State.raise_frame, State.bbEvent_frame, State.track_fine, State.setF_frame]
    exact sets _ _ rfl
  · simp only [State.steer_fine, State.bbEvent_frame, State.count16_frame]
    exact le_rfl

theorem State.retarget_fine_le : s.time.fine ≤ s.retarget.time.fine := by
  have commits {u : State} (e : u.time.fine = s.time.fine) (r : Ref) :
      s.time.fine ≤ (if (s.time.cand r).qualified then u.commit r else u).time.fine := by
    split
    · exact e.ge.trans (u.commit_fine_le r)
    · exact e.ge
  have counted (p : Prop) [Decidable p] (a : Nat) (r : Option Ref) :
      ((if p then s.count16 a else s).updTime fun x => { x with target := r }).time.fine = s.time.fine := by
    simp only [State.updTime_time, ite_time, State.count16_frame, ite_self, TimeUnit.fine_of_parts]
  unfold State.retarget
  dsimp only
  split
  · exact le_rfl
  · split
    · exact commits (counted _ _ _) _
    · exact (counted _ _ _).ge

@[simp] theorem State.loseRef_fine (c : Ref) : (s.loseRef c).time.fine = s.time.fine := by
  unfold State.loseRef
  dsimp only
  split
  · rw [State.endCounts_fine, State.updTime_time]
    simp only [State.freezeIf_frame, State.bbEvent_frame, State.count16_frame, State.raise_frame]
    exact s.time.setCand_fine c .idle
  · exact s.time.setCand_fine c .idle

/-- A sample moves the count through the commit that it brings about, if at all. -/
theorem State.timeSample_fine_le (c : Ref) (x r o : Int) : s.time.fine ≤ (s.timeSample c x r o).time.fine := by
  unfold State.timeSample
  dsimp only
  split
  next => exact le_rfl
  next =>
    split
    next lost =>
      refine le_trans (le_of_eq ?_) (State.retarget_fine_le _)
      split <;> simp
    next =>
      split
      next => exact le_trans (le_of_eq (by simp)) (State.commit_fine_le _ c)
      next =>
        split
        next => exact le_of_eq (by simp)
        next => exact le_trans (le_of_eq (by simp)) (State.retarget_fine_le _)

@[simp] theorem State.timeSleep_fine : s.timeSleep.time.fine = s.time.fine := by
  unfold State.timeSleep
  rw [State.updTime_time]
  split <;> exact s.endCounts_fine _

@[simp] theorem State.timeWake_fine : s.timeWake.time.fine = s.time.fine := by
  unfold State.timeWake
  rw [State.updTime_time]
  split <;> rfl

/-! ### The writes and the boot -/

@[simp] theorem State.sleepBegin_fine : s.sleepBegin.time.fine = s.time.fine := by
  unfold State.sleepBegin
  simp

@[simp] theorem State.requestSleep_fine : s.requestSleep.time.fine = s.time.fine := by
  unfold State.requestSleep
  split
  · rfl
  · rfl
  · split
    · exact s.sleepBegin_fine
    · split <;> rfl
  · rfl

@[simp] theorem State.sysNow_fine (t : TrowelId) (a : Nat) (v : Word) :
    (s.sysNow t a v).time.fine = s.time.fine := by
  unfold State.sysNow
  dsimp only
  split
  · simp
  split
  · simp
  split
  · split
    · exact s.requestSleep_fine
    · rfl
  · rfl

@[simp] theorem State.applyNow_fine (t : TrowelId) (a : Nat) (v : Word) :
    (s.applyNow t a v).time.fine = s.time.fine := by
  unfold State.applyNow
  split <;> simp

@[simp] theorem State.accept_fine (t : TrowelId) (a : Nat) (v : Word) :
    (s.accept t a v).time.fine = s.time.fine := by
  unfold State.accept
  split
  · rfl
  · dsimp only
    split
    · rfl
    · split
      · simp
      · split
        · rfl
        · simp [State.applyStopped]

@[simp] theorem State.receiveWrite_fine (t : TrowelId) (w : Posted) :
    (s.receiveWrite t w).1.time.fine = s.time.fine := by
  unfold State.receiveWrite
  split
  · rfl
  · split
    · rfl
    · exact s.accept_fine ..

@[simp] theorem State.receiveAll_fine (t : TrowelId) (l : List Posted) :
    (s.receiveAll t l).1.time.fine = s.time.fine := by
  induction l generalizing s with
  | nil => rfl
  | cons w l ih => exact (ih _).trans (s.receiveWrite_fine t w)

@[simp] theorem State.arrive_fine (t : TrowelId) (a : BitVec 16) (v : Word) :
    (s.arrive t a v).time.fine = s.time.fine := by
  unfold State.arrive
  dsimp only
  split
  · rfl
  · split
    · split
      · simp
      · rfl
    · simp

@[simp] theorem State.startUnits_fine : s.startUnits.time.fine = s.time.fine := by
  have started (l : List Nat) (u : State) :
      (l.foldl (fun (s : State) a => s.applyNow 3 a 1) u).time.fine = u.time.fine := by
    induction l generalizing u with
    | nil => rfl
    | cons a l ih => exact (ih _).trans (u.applyNow_fine 3 a 1)
  exact (started _ _).trans (by simp)

@[simp] theorem State.enterTest_fine : s.enterTest.time.fine = s.time.fine := by
  unfold State.enterTest
  split
  · rfl
  · simp

@[simp] theorem State.loadIr_fine (i : TapIr) : (s.loadIr i).time.fine = s.time.fine := by
  unfold State.loadIr
  dsimp only
  split
  · simp
  · rfl

theorem State.bootIfReady_time :
    s.bootIfReady.time = s.time ∨ s.bootIfReady.time = .boot s.time.slowCycles := by
  unfold State.bootIfReady
  split
  · right
    unfold State.beginBoot
    dsimp only
    split <;> rfl
  · exact .inl rfl

@[simp] theorem State.wakeLinks_fine : s.wakeLinks.time.fine = s.time.fine := by
  unfold State.wakeLinks
  simp

/-- A thermal shutdown keeps the count (R546). -/
@[simp] theorem State.shutDown_fine : s.shutDown.time.fine = s.time.fine := rfl

end
end Sys2Proof.Machine
end

section
/-! SUPPORT. Every command leaves the count of the time base, moves it forward, or starts it afresh with a boot (R399,
R400). -/

namespace Sys2Proof.Machine

/-- From `s` to `u` the count has not gone back, or starts afresh with a boot. -/
def TimeGoesOn (s u : State) : Prop := s.time.fine ≤ u.time.fine ∨ u.time = TimeUnit.boot u.time.slowCycles

section
variable {s u : State}

theorem TimeGoesOn.refl (s : State) : TimeGoesOn s s := .inl le_rfl

theorem TimeGoesOn.kept (h : u.time.fine = s.time.fine) : TimeGoesOn s u := .inl h.ge

theorem TimeGoesOn.booted {n : Nat} (h : u.time = .boot n) : TimeGoesOn s u := by
  right
  rw [h]
  rfl

theorem TimeGoesOn.ite {p : Prop} [Decidable p] {v : State} (hu : TimeGoesOn s u) (hv : TimeGoesOn s v) :
    TimeGoesOn s (if p then u else v) := by
  split
  · exact hu
  · exact hv

/-- A boot may begin in a state whose count is that of before, or has just been reset. -/
theorem TimeGoesOn.bootIfReady (h : u.time.fine = s.time.fine ∨ u.time = .boot u.time.slowCycles) :
    TimeGoesOn s u.bootIfReady := by
  obtain same | boots := u.bootIfReady_time
  · exact h.imp (fun e => (same ▸ e).ge) fun e => same ▸ e
  · exact .booted boots

/-- What a command does holds of the one next state that it has. -/
theorem Does.of_next {c : Instr} {P : State → Prop} (h : Does c s P) (hu : exec c s = .next u) : P u := by
  obtain ⟨v, hv, hp⟩ := h
  obtain rfl := Host.Outcome.next.inj (hu.symm.trans hv)
  exact hp

/-- A command that leaves the time unit as it was, by its frame. -/
theorem Does.timeGoesOn {c : Instr} {P : State → Prop} (frame : Does c s P)
    (time : ∀ u, P u → u.time = s.time := by intro u h; simp only [h]) : Does c s (TimeGoesOn s) := by
  obtain ⟨u, hu, hp⟩ := frame
  exact ⟨u, hu, .kept (congrArg TimeUnit.fine (time u hp))⟩

end

/-- Resets and boots start the count afresh, samples may set it forward, and every other command leaves it. -/
theorem exec_timeGoesOn (c : Instr) (s : State) : Does c s (TimeGoesOn s) := by
  cases c
  -- Resets and boots.
  case pwrOkRise => exact ⟨_, rfl, .ite (.refl s) (.bootIfReady (.inr rfl))⟩
  case pwrOkLow => exact ⟨_, rfl, .booted (n := s.time.slowCycles) rfl⟩
  case resetNLow => exact ⟨_, rfl, .ite (.kept rfl) (.booted (n := s.time.slowCycles) rfl)⟩
  case resetNRise => exact ⟨_, rfl, .bootIfReady (.inl rfl)⟩
  case xrefStable => exact ⟨_, rfl, .ite (.bootIfReady (.inl rfl)) (.refl s)⟩
  case thermalSample r =>
    refine ⟨_, rfl, .ite (.refl s) (.ite (.kept ?_) (.ite (.bootIfReady (.inl ?_)) (.kept ?_)))⟩ <;> simp
  -- Samples of a reference and their deadlines.
  case pairTimeMark => exact ⟨_, rfl, .ite (.inl (State.timeSample_fine_le ..)) (.refl s)⟩
  case fabricTimeFrame => exact ⟨_, rfl, .ite (.inl (State.timeSample_fine_le ..)) (.refl s)⟩
  case syncInEdge =>
    have raised : s.time.fine = (s.raise 3 30).time.fine := by simp
    exact ⟨_, rfl, .ite (.refl s) (.inl (raised.le.trans (State.timeSample_fine_le ..)))⟩
  case sampleDeadlineExpiry r =>
    have ended : s.time.fine = (s.updTime (·.setCand r .idle)).time.fine := (s.time.setCand_fine r .idle).symm
    exact ⟨_, rfl, .ite (.refl s) (.ite (.inl ((s.loseRef_fine r).ge.trans (State.retarget_fine_le _)))
      (.inl (ended.le.trans (State.retarget_fine_le _))))⟩
  -- The recipe's initial values start units, none of which keeps time.
  case trowelStart scn =>
    refine ⟨_, rfl, .kept ?_⟩
    simp only [ite_time, TimeUnit.ite_fine, ite_eq_left_iff]
    intro _
    split
    · rfl
    · split <;> simp
  -- Commands whose effect hangs on what they find in the state.
  case otpLoad => exact .timeGoesOn (execOtpLoad_frame ..)
  case selfCalibrationDone => exact .timeGoesOn (execSelfCalibrationDone_frame ..)
  case recipeLoadDone => exact .timeGoesOn (execRecipeLoadDone_frame ..)
  case signatureCheckDone => exact .timeGoesOn (execSignatureCheckDone_frame ..)
  case sleepAddressMatch => exact .timeGoesOn (execSleepAddressMatch_frame ..)
  case bbEventWrite => exact .timeGoesOn (execBbEventWrite_frame ..)
  case ret => exact .timeGoesOn (execRet_frame ..)
  case fieldReadReply => exact .timeGoesOn (execFieldReadReply_frame ..)
  case fieldWriteAccepted => exact .timeGoesOn (execFieldWriteAccepted_frame ..)
  case wait => exact .timeGoesOn (execWait_frame ..)
  case waitEventPresent => exact .timeGoesOn (execWaitEventPresent_frame ..)
  case scanInstant => exact .timeGoesOn (execScanInstant_frame ..)
  case blankingStart => exact .timeGoesOn (execBlankingStart_frame ..)
  case strobeLockedIssue => exact .timeGoesOn (execStrobeLockedIssue_frame ..)
  case faultSample => exact .timeGoesOn (execFaultSample_frame ..)
  case zeroCurrentCheck => exact .timeGoesOn (execZeroCurrentCheck_frame ..)
  case neighSweepStart => exact .timeGoesOn (execNeighSweepStart_frame ..)
  case frameDescriptorInCore => exact .timeGoesOn (execFrameDescriptorInCore_frame ..)
  case frameEndTimeout => exact .timeGoesOn (execFrameEndTimeout_frame ..)
  case candidateArrival => exact .timeGoesOn (execCandidateArrival_frame ..)
  case decodeResolved => exact .timeGoesOn (execDecodeResolved_frame ..)
  case resultArrival => exact .timeGoesOn (execResultArrival_frame ..)
  case closingPassEnd => exact .timeGoesOn (execClosingPassEnd_frame ..)
  case noticeArrival => exact .timeGoesOn (execNoticeArrival_frame ..)
  case jointArrival => exact .timeGoesOn (execJointArrival_frame ..)
  case jointWaitExpiry => exact .timeGoesOn (execJointWaitExpiry_frame ..)
  case mirrorWrite => exact .timeGoesOn (execMirrorWrite_frame ..)
  case vqQuery => exact .timeGoesOn (execVqQuery_frame ..)
  case standardRequest => exact .timeGoesOn (execStandardRequest_frame ..)
  case usbRecordTransferDone => exact .timeGoesOn (execUsbRecordTransferDone_frame ..)
  case serCollision => exact .timeGoesOn (execSerCollision_frame ..)
  case plHbEdge => exact .timeGoesOn (execPlHbEdge_frame ..)
  case pairHello => exact .timeGoesOn (execPairHello_frame ..)
  case pairAckMark => exact .timeGoesOn (execPairAckMark_frame ..)
  case linkFrame => exact .timeGoesOn (execLinkFrame_frame ..)
  case announce => exact .timeGoesOn (execAnnounce_frame ..)
  case morRecord => exact .timeGoesOn (execMorRecord_frame ..)
  case morDelivered => exact .timeGoesOn (execMorDelivered_frame ..)
  case morJoint => exact .timeGoesOn (execMorJoint_frame ..)
  case morTap => exact .timeGoesOn (execMorTap_frame ..)
  case morTrowel => exact .timeGoesOn (execMorTrowel_frame ..)
  case morBroken => exact .timeGoesOn (execMorBroken_frame ..)
  case flowBroken => exact .timeGoesOn (execFlowBroken_frame ..)
  case unreachableExpiry => exact .timeGoesOn (execUnreachableExpiry_frame ..)
  case mbistDone => exact .timeGoesOn (execMbistDone_frame ..)
  case frameStartNoticeInDecode => exact .timeGoesOn (execFrameStartNoticeInDecode_frame ..)
  case serResponseSent => exact .timeGoesOn (execSerResponseSent_frame ..)
  case serFrameRejected => exact .timeGoesOn (execSerFrameRejected_frame ..)
  case instructionScrub => exact .timeGoesOn (execInstructionScrub_frame ..)
  -- All others are made of operations that leave the count, with the field writes by `State.arrive_fine`.
  all_goals exact ⟨_, rfl, .kept (by simp)⟩

/-- Settles O44: `exec_timeGoesOn`, of the one next state that a command has. -/
theorem timeNeverGoesBack : Obligations.TimeNeverGoesBack := by
  unfold Obligations.TimeNeverGoesBack
  exact fun c s u hu => (exec_timeGoesOn c s).of_next hu

end Sys2Proof.Machine
end

section
/-! SUPPORT. A step with no command waiting: one cycle of the clock in force, and what it leaves (R38, R399, R454). -/

namespace Sys2Proof.Machine
section
variable {s : State}

/-! ### The mortar egresses -/

/-- An egress with nothing queued has nothing to put on a lane. -/
theorem MorPort.pump_of_empty {p : MorPort} (h : p.queue = []) (k now : Nat) : MorPort.pump k now p = p := by
  cases k with
  | zero => rfl
  | succ k => simp [MorPort.pump, h]

theorem State.egressTick_of_empty (h : ∀ m : MorId, (s.fab.ports[m]).queue = []) : s.egressTick = s := by
  have same : (s.fab.ports.map fun p => MorPort.pump 2 s.time.core p) = s.fab.ports := by
    ext i hi
    rw [Vector.getElem_map]
    exact MorPort.pump_of_empty (h ⟨i, hi⟩) ..
  rw [State.egressTick, State.updFab, same]

/-! ### The cycles -/

/-- The CORE count goes on by one, held or not, slewing or not. -/
@[simp] theorem State.coreCycle_core (s : State) : s.coreCycle.time.core = s.time.core + 1 := by
  unfold State.coreCycle
  dsimp only
  split
  · split
    · simp only [State.raise_frame, State.track, State.updTime_time]
      split <;> rfl
    · rw [State.updTime_time]
      split <;> rfl
  · split <;> rfl

/-- Of an awake cycle, the CORE cycle alone moves the time unit. -/
@[simp] theorem State.awakeCycle_time (s : State) : s.awakeCycle.time = s.coreCycle.time := by
  unfold State.awakeCycle
  simp

theorem State.awakeCycle_fab (h : ∀ m : MorId, (s.fab.ports[m]).queue = []) : s.awakeCycle.fab = s.fab := by
  have same : s.coreCycle.hbCycle.fab = s.fab := by simp
  have idle := State.egressTick_of_empty (s := s.coreCycle.hbCycle) (by rwa [same])
  unfold State.awakeCycle
  dsimp only
  rw [idle]
  simp

/-! ### The clock in force -/

/-- XREF runs, and CORE counts its cycles. -/
theorem State.tick_awake (h : s.phase = .running ∨ s.phase = .booting ∨ s.phase = .sleepEntry ∨ s.phase = .halted ∨
    s.phase = .thermal ∨ (s.phase = .test ∧ s.time.xrefOff = false)) : s.tick = s.awakeCycle := by
  obtain h | h | h | h | h | ⟨h, off⟩ := h
  case inr.inr.inr.inr.inr => simp only [State.tick, h, off, Bool.false_eq_true, if_false]
  all_goals simp only [State.tick, h]

/-- Held in reset, in the fatal fault, or in the test state without XREF, nothing moves. -/
theorem State.tick_still (h : s.phase = .held ∨ s.phase = .xrefWait ∨ s.phase = .xrefFatal ∨
    (s.phase = .test ∧ s.time.xrefOff = true)) : s.tick = s := by
  obtain h | h | h | ⟨h, off⟩ := h
  case inr.inr.inr => simp only [State.tick, h, off, if_true]
  all_goals simp only [State.tick, h]

theorem State.tick_fab (h : ∀ m : MorId, (s.fab.ports[m]).queue = []) : s.tick.fab = s.fab := by
  have awake := State.awakeCycle_fab h
  unfold State.tick
  split <;> simp only [ite_fab, awake, State.slowCycle_frame, ite_self]

end

/-- Settles O2: `State.tick` by the clock in force, what it leaves by its frame. -/
theorem idleStepIsOneCycle : Obligations.IdleStepIsOneCycle := by
  unfold Obligations.IdleStepIsOneCycle
  intro s hp
  refine ⟨s.tick, by rw [step, hp], fun h => ?_, State.tick_still, ?_⟩
  · rw [State.tick_awake h, State.awakeCycle_time, State.coreCycle_core]
  · have frame := s.tick_frame
    refine ⟨?_, ?_, ⟨?_, ?_, ?_, ?_, ?_, ?_, ?_, ?_⟩, ⟨?_, ?_, ?_, ?_⟩, ⟨?_, ?_, ?_, ?_, ?_⟩, ?_, ?_, ?_, ?_, ?_,
      State.tick_fab⟩ <;> simp only [frame]

end Sys2Proof.Machine
end

section
/-! SUPPORT. The count of the time base, TICK, the limit of holdover and SYNC_OUT (R399, R401, R411, R413, R414). -/

namespace Sys2Proof.Machine

/-! ### The count -/

/-- The count moves on by `k` units, and nothing else of the time unit moves. Its parts are named, so that no later
proof computes with 2³². -/
theorem TimeUnit.advance_moves (x : TimeUnit) (k : Nat) :
    ∃ n f : Nat, x.advance k = { x with ns := n, frac := f } ∧ n * nsUnit + f = x.fine + k := by
  refine ⟨_, _, rfl, ?_⟩
  simp only [TimeUnit.fine, nsUnit]
  omega

/-- The time unit after a CORE cycle in which no slew is in progress: the hold of the first set goes down, or the count
goes up (R399, R413). -/
def TimeUnit.cycle (x : TimeUnit) : TimeUnit :=
  if 0 < x.hold then { x with hold := x.hold - 1, core := x.core + 1 }
  else { x.advance (coreStep x.rate) with core := x.core + 1 }

theorem State.coreCycle_time {s : State} (h : s.time.mode ≠ .slewing) : s.coreCycle.time = s.time.cycle := by
  unfold State.coreCycle
  dsimp only
  rw [if_neg fun slews => h slews.1]
  rfl

section
variable {x : TimeUnit}

theorem TimeUnit.cycle_held (h : 0 < x.hold) : x.cycle = { x with hold := x.hold - 1, core := x.core + 1 } := if_pos h

theorem TimeUnit.cycle_counts (h : x.hold = 0) : ∃ n f : Nat,
    x.cycle = { x with ns := n, frac := f, core := x.core + 1 } ∧ n * nsUnit + f = x.fine + coreStep x.rate := by
  obtain ⟨n, f, moved, count⟩ := x.advance_moves (coreStep x.rate)
  refine ⟨n, f, ?_, count⟩
  rw [TimeUnit.cycle, if_neg (by omega), moved]

end

section
variable {s : State}

/-- A cycle of the running engine: the CORE count goes on, the rate stays, and the count moves unless it is held. -/
theorem step_counts (hp : s.pending = []) (hr : s.phase = .running) (hm : s.time.mode ≠ .slewing) :
    ∃ u, step s = .next u ∧ u.time = s.time.cycle := by
  refine ⟨s.tick, by rw [step, hp], ?_⟩
  rw [State.tick_awake (.inl hr), State.awakeCycle_time, State.coreCycle_time hm]

/-! ### The commands -/

theorem State.timeTakes_running (hr : s.phase = .running) (hs : s.boot.started = true) : s.timeTakes = true := by
  simp [State.timeTakes, hr, hs]

/-- TICK in an engine that has started its trowels (R401). -/
theorem tick_raises (ha : s.phase ≠ .asleep) (hs : s.boot.started = true) : Does .tick s fun u =>
    u = { s with trowels := u.trowels } ∧ EventsOnly s u ∧
      ∀ t : TrowelId, (u.trowels[t]).pending.getLsbD 9 = true := by
  refine ⟨s.raiseAll 9, congrArg Host.Outcome.next (if_neg ha), s.raiseAll_eq 9, (LinkKeeps.refl s).raiseAll.events,
    fun t => ?_⟩
  have raised := congrArg (fun x : Trowel => x.pending.getLsbD 9) (State.raiseAll_get hs 9 t)
  exact raised.trans (Trowel.raise_pending_self _ (by decide))

/-- The crystal's rate steps towards 0 (R411). -/
theorem crystalRateStep_steps (hr : s.phase = .running) (hs : s.boot.started = true) (hm : s.time.mode = .crystal) :
    exec .crystalRateStep s =
      .next { s with time := { s.time with rate := rateStep s.time.rate, baseRate := rateStep s.time.rate } } :=
  congrArg Host.Outcome.next (if_pos (by simp [State.timeTakes_running hr hs, hm]))

/-- In holdover with a limit, the limit selects the crystal (R411). -/
theorem holdoverLimit_selects (hr : s.phase = .running) (hs : s.boot.started = true) (hm : s.time.mode = .holdover)
    (hn : s.getN Fld.timeHoldMaxS ≠ 0) : exec .holdoverLimit s =
      .next { s with time := { s.time with mode := .crystal, sel := .crystal, target := none } } :=
  congrArg Host.Outcome.next (if_pos (by simp [State.timeTakes_running hr hs, hm, hn]))

/-- SYNC_OUT pulses always in mode 1, and in mode 2 while a reference is tracked or approached (R414). -/
theorem State.soutOn_modes (hr : s.phase = .running) (hs : s.boot.started = true) :
    (s.getN Fld.timeSoutMode = 1 ∨ (s.getN Fld.timeSoutMode = 2 ∧ s.time.sel ≠ .crystal ∧ s.time.mode ≠ .holdover) →
      s.soutOn = true) ∧ (s.getN Fld.timeSoutMode = 0 → s.soutOn = false) := by
  have takes := State.timeTakes_running hr hs
  refine ⟨?_, fun h => ?_⟩
  · rintro (h | ⟨h, hc, hh⟩)
    · simp [State.soutOn, takes, hs, h]
    · simp [State.soutOn, takes, hs, h, hc, hh]
  · simp [State.soutOn, h]

end

/-- Settles O43: the count by `TimeUnit.cycle`, TICK by the event in all trowels, SYNC_OUT by the mode of its pulses. -/
theorem timeBaseCounts : Obligations.TimeBaseCounts := by
  unfold Obligations.TimeBaseCounts
  refine fun s => ⟨fun hp hr hm => ?_, tick_raises, fun ha => congrArg Host.Outcome.next (if_pos ha),
    fun hr hs => ⟨fun hm hn => ⟨_, holdoverLimit_selects hr hs hm hn, rfl⟩, fun h => ?_,
      fun hm => ⟨_, crystalRateStep_steps hr hs hm, rfl⟩, fun hm => ?_, fun h => ?_, fun h => ?_⟩, _, rfl, rfl⟩
  · obtain ⟨u, hu, time⟩ := step_counts hp hr hm
    obtain held | free : 0 < s.time.hold ∨ s.time.hold = 0 := by omega
    · rw [TimeUnit.cycle_held held] at time
      refine ⟨u, hu, ?_, ?_, fun h => absurd h held.ne', fun _ => ⟨?_, ?_⟩⟩ <;> rw [time]
      exact TimeUnit.fine_of_parts ..
    · obtain ⟨n, f, moved, count⟩ := TimeUnit.cycle_counts free
      rw [moved] at time
      refine ⟨u, hu, ?_, ?_, fun _ => ⟨?_, ?_⟩, fun h => absurd free h.ne'⟩ <;> rw [time]
      · exact count
      · exact free
  · have none : ¬ (s.timeTakes && decide (s.time.mode = .holdover) && decide (s.getN Fld.timeHoldMaxS ≠ 0)) = true := by
      obtain h | h := h <;> simp [h]
    exact congrArg Host.Outcome.next (if_neg none)
  · exact congrArg Host.Outcome.next (if_neg (by simp [hm]))
  · refine ⟨_, rfl, ?_⟩
    rw [(State.soutOn_modes hr hs).1 h]
    rfl
  · refine congrArg Host.Outcome.next ?_
    rw [(State.soutOn_modes hr hs).2 h]
    rfl

end Sys2Proof.Machine
end

section
/-! SUPPORT. Samples of a reference: seeding, counting, the commit, and the loss (R402 to R407, R410, R413). -/

namespace Sys2Proof.Machine

/-! ### What the time unit may change -/

/-- All that a sample leaves as it was, in the order of the frames. -/
def TimeFrame (s u : State) : Prop :=
  u.pending = s.pending ∧ u.identity = s.identity ∧ u.aon = s.aon ∧ u.pins = s.pins ∧ u.phase = s.phase ∧
  u.boot = s.boot ∧ u.sys = s.sys ∧ u.balls = s.balls ∧ u.shadow = s.shadow ∧ u.faulted = s.faulted ∧ u.tap = s.tap ∧
  u.thermal = s.thermal ∧ u.light = s.light ∧ u.adcA = s.adcA ∧ u.adcB = s.adcB ∧ u.amb = s.amb ∧ u.ports = s.ports ∧
  u.frames = s.frames ∧ u.nextFrame = s.nextFrame ∧ u.pipe = s.pipe ∧ u.ctxs = s.ctxs ∧ u.dec = s.dec ∧ u.vs = s.vs ∧
  u.former = s.former ∧ u.usb = s.usb ∧ u.ser = s.ser ∧ u.pair = s.pair ∧ u.fab = s.fab

section
variable {s u v : State}

theorem TimeFrame.eq (h : TimeFrame s u) : u = { s with
    time := u.time, fields := u.fields, trowels := u.trowels, bb := u.bb, fresh := u.fresh } := by
  obtain ⟨⟩ := u
  simp only [TimeFrame] at h
  simp only [h]

/-- What changes where no free value has been taken. -/
theorem TimeFrame.eq_of_fresh (h : TimeFrame s u) (hf : u.fresh = s.fresh) :
    u = { s with time := u.time, fields := u.fields, trowels := u.trowels, bb := u.bb } := by
  obtain ⟨⟩ := u
  simp only [TimeFrame] at h
  simp only at hf
  simp only [h, hf]

theorem Raised.of_trowels {t : TrowelId} {n : Nat} (h : Raised s u t n) (e : v.trowels = u.trowels) :
    Raised s v t n := by
  rwa [Raised, EventsOnly, e]

/-- An event that is raised last. -/
theorem LinkKeeps.raised (h : LinkKeeps s u) {t : TrowelId} {n : Nat} (hn : n < 64) : Raised s (u.raise t n) t n := by
  refine ⟨fun hs => ?_, h.raise.events⟩
  have started : u.boot.started = true := by
    have same : u.boot = s.boot := congrArg (fun x => x.2.1) h.settings
    rw [same, hs]
  rw [State.raise_started started]
  exact (congrArg (fun x : Trowel => x.pending.getLsbD n) (u.updT_self t _)).trans (Trowel.raise_pending_self _ hn)

/-! ### Candidates -/

@[simp] theorem TimeUnit.setCand_mode (x : TimeUnit) (r : Ref) (c : Cand) : (x.setCand r c).mode = x.mode := by
  cases r <;> rfl

/-- The candidates after a change of one; the crystal has none to change. -/
theorem TimeUnit.cand_setCand (x : TimeUnit) (r q : Ref) (c : Cand) :
    (x.setCand r c).cand q = if q = r ∧ r ≠ .crystal then c else x.cand q := by
  cases q <;> cases r <;> rfl

/-- The crystal has no count, so the others decide whether any candidate has a seed. -/
theorem TimeUnit.unseeded {x : TimeUnit} (hf : x.fabric.seed = none) (hs : x.syncIn.seed = none)
    (hp : x.partner.seed = none) (q : Ref) : (x.cand q).seed = none := by
  cases q with
  | fabric => exact hf
  | syncIn => exact hs
  | partner => exact hp
  | crystal => rfl

/-- A sample in time, in the band and at the rate is counted (R404). -/
theorem Cand.sample_counts {c : Cand} {limit : Int} {p : Int × Int} (hq : c.qualified = false)
    (hl : p.1 - c.lastX ≤ limit) (hb : c.inBand p = true) (hr : c.inRate p = true) (o : Int) :
    c.sample limit p o = (({ c with lastX := p.1, lastO := o } : Cand).add p, false, false) := by
  have seeded : c.seed.isNone = false := by
    cases h : c.seed
    · simp [Cand.inRate, h] at hr
    · rfl
  simp [Cand.sample, seeded, hq, not_lt.mpr hl, hb, hr]

/-- Where no holdover is in force, there is no target to choose. -/
theorem State.retarget_steady (h : s.time.mode ≠ .holdover) : s.retarget = s := if_pos h

/-- In holdover with every count ended, there is no target. -/
theorem State.retarget_empty (hm : s.time.mode = .holdover) (h : ∀ q, (s.time.cand q).seed = none) :
    s.retarget = s.updTime fun x => { x with target := none } := by
  have none_found : (s.ranking.find? fun r => (s.time.cand r).seed.isSome) = none := by
    rw [List.find?_eq_none]
    intro q _
    simp [h q]
  unfold State.retarget
  rw [if_neg (not_not.mpr hm)]
  simp only [none_found]
  cases s.time.target <;> rfl

/-! ### What a sample does -/

section
variable {c : Ref} {x r o : Int}

theorem State.timeSample_unranked (h : c ∉ s.ranking) : s.timeSample c x r o = s := by
  unfold State.timeSample
  rw [if_pos (by simp [h])]

/-- The first sample of a candidate other than the selected one seeds it. -/
theorem State.timeSample_seeds (ht : s.timeTakes = true) (hc : c ≠ .crystal) (hr : c ∈ s.ranking)
    (hn : (s.time.cand c).seed = none) (hs : s.time.sel ≠ c) (hm : s.time.mode ≠ .holdover) :
    s.timeSample c x r o = s.updTime (·.setCand c (.seeded (x, r) o)) := by
  have seeds (limit : Int) : (s.time.cand c).sample limit (x, r) o = (.seeded (x, r) o, false, false) := by
    simp [Cand.sample, hn]
  unfold State.timeSample
  rw [if_neg (by simp [ht, hc, hr])]
  simp only [seeds]
  simp [hs.symm, Cand.seeded, State.retarget_steady, hm]

/-- The sample with which a candidate better than the selected one qualifies is committed at once (R404, R406). -/
theorem State.timeSample_commits {d : Cand} (ht : s.timeTakes = true) (hc : c ≠ .crystal)
    (hr : c ∈ s.ranking) (hb : s.rankOf c < s.rankOf s.time.sel) (hq : (s.time.cand c).qualified = false)
    (hd : (s.time.cand c).sample (4 * (2 * s.refPeriod c + 50)) (x, r) o = (d, false, false))
    (hdq : d.qualified = true) :
    s.timeSample c x r o = ((s.updTime (·.setCand c d)).raise 3 27).commit c := by
  have other : c ≠ s.time.sel := by
    rintro rfl
    exact lt_irrefl _ hb
  unfold State.timeSample
  rw [if_neg (by simp [ht, hc, hr])]
  simp only [hd]
  simp [other, hdq, hq, hb]

/-! ### The commit -/

/-- CORE cycles for which the first set holds the count at an offset that is not positive (R413). -/
def holdCycles (o : Int) : Nat := (((o.natAbs : Int) * 2 + 5 * nsUnit - 1) / (5 * nsUnit)).toNat

/-- The hold lasts |o| / 2.5 ns, rounded up. -/
theorem holdCycles_bounds (o : Int) : o.natAbs * 2 ≤ holdCycles o * 21474836480 ∧
    holdCycles o * 21474836480 < o.natAbs * 2 + 21474836480 := by
  simp only [holdCycles, nsUnit]
  omega

theorem State.firstSet_moves (s : State) (o : Int) : ∃ n f h : Nat,
    (s.firstSet o).time = { s.time with ns := n, frac := f, hold := h } ∧
    n * nsUnit + f = s.time.fine + max o 0 ∧ h = if 0 < o then s.time.hold else holdCycles o := by
  have count := s.firstSet_fine o
  have moves : ∃ n f h : Nat, (s.firstSet o).time = { s.time with ns := n, frac := f, hold := h } ∧
      h = if 0 < o then s.time.hold else holdCycles o := by
    simp only [State.firstSet, ite_time, State.raiseAll_frame, ite_self]
    split
    · exact ⟨_, _, _, State.updTime_time .., rfl⟩
    · exact ⟨_, _, _, State.updTime_time .., rfl⟩
  obtain ⟨n, f, h, time, held⟩ := moves
  rw [time] at count
  exact ⟨n, f, h, time, count, held⟩

/-- Tracking takes its slew term from a free value (R410). -/
theorem State.track_time (s : State) (base : Int) : ∃ r, (s.track base).time =
    { s.time with mode := .tracking, baseRate := base, rate := r, slewLeft := 0 } := ⟨_, rfl⟩

/-- A slew goes at its full rate while the offset is more than 10 ns (R410). -/
theorem State.steer_slews {base : Int} (hm : s.time.mode = .slewing) (ho : 10 * nsUnit < o.natAbs) : s.steer base o =
    s.updTime fun t => { t with
      baseRate := base, rate := clampRate (base + if 0 < o then 100000 else -100000)
      slewLeft := ((o.natAbs - 10 * nsUnit) * 4000 / nsUnit).toNat } := if_pos ⟨hm, ho⟩

/-- The state in which a commit to `c` begins. -/
def State.selected (s : State) (c : Ref) : State :=
  (s.updTime fun t => { t with sel := c, target := none }).setF Fld.timeOffsetNs (offsetWord (s.time.cand c).lastO)

/-- The first set, up to its event. -/
def State.firstCommit (s : State) (c : Ref) : State :=
  let o := (s.time.cand c).lastO
  (((((s.selected c).updTime fun t => { t with set := true }).firstSet o).setF Fld.timeSetStepNs (offsetWord o)).track
    (s.time.cand c).meanRate).bbEvent 0x0F#7 (BitVec.ofNat 8 (refCode c)) 0x0002#16 (offsetWord o)

/-- The commit to a better candidate in a time base not yet set (R413). -/
theorem State.commit_first (hb : s.rankOf c < s.rankOf s.time.sel) (hs : s.time.set = false) :
    s.commit c = (s.firstCommit c).raise 3 29 := by
  simp only [State.commit, hs, not_lt.mpr hb.le]
  rfl

theorem State.firstCommit_keeps (h : LinkKeeps u s) : LinkKeeps u (s.firstCommit c) :=
  .bbEvent (.track (.setF (.firstSet (.updTime (.setF (.updTime h))))))

/-- The first set steps the count forward, or holds it, and starts tracking. -/
theorem State.firstCommit_time (s : State) (c : Ref) : ∃ (n f h : Nat) (r : Int),
    (s.firstCommit c).time = { s.time with
      ns := n, frac := f, hold := h, sel := c, target := none, set := true, mode := .tracking
      baseRate := (s.time.cand c).meanRate, rate := r, slewLeft := 0 } ∧
    n * nsUnit + f = s.time.fine + max (s.time.cand c).lastO 0 ∧
    h = if 0 < (s.time.cand c).lastO then s.time.hold else holdCycles (s.time.cand c).lastO := by
  obtain ⟨n, f, h, time, moved⟩ := ((s.selected c).updTime fun t => { t with set := true }).firstSet_moves
    (s.time.cand c).lastO
  obtain ⟨r, tracked⟩ := State.track_time (((((s.selected c).updTime fun t => { t with set := true }).firstSet
    (s.time.cand c).lastO).setF Fld.timeSetStepNs (offsetWord (s.time.cand c).lastO))) (s.time.cand c).meanRate
  refine ⟨n, f, h, r, ?_, moved⟩
  simp only [State.firstCommit, State.bbEvent_frame, tracked, State.setF_frame, time]
  rfl

theorem State.firstCommit_fields (s : State) (c : Ref) : (s.firstCommit c).fields =
    ((s.setF Fld.timeOffsetNs (offsetWord (s.time.cand c).lastO)).setF Fld.timeSetStepNs
      (offsetWord (s.time.cand c).lastO)).fields := by
  simp only [State.firstCommit, State.bbEvent_frame, State.track_frame, State.setF, State.firstSet_frame]
  rfl

/-- The commit to a better candidate of a set time base, more than 10 ns away: the time base slews (R410). -/
theorem State.commit_slews (hb : s.rankOf c < s.rankOf s.time.sel) (hs : s.time.set = true)
    (ho : 10 * nsUnit < (s.time.cand c).lastO.natAbs) : s.commit c =
      ((((s.selected c).updTime fun t => { t with mode := .slewing }).count16 Fld.timeSwitchCount).bbEvent 0x0F#7
        (BitVec.ofNat 8 (refCode c)) 0x0001#16 (offsetWord (s.time.cand c).lastO)).updTime fun t => { t with
          baseRate := (s.time.cand c).meanRate
          rate := clampRate ((s.time.cand c).meanRate + if 0 < (s.time.cand c).lastO then 100000 else -100000)
          slewLeft := (((s.time.cand c).lastO.natAbs - 10 * nsUnit) * 4000 / nsUnit).toNat } := by
  simp only [State.commit, hs, not_lt.mpr hb.le]
  exact State.steer_slews rfl ho

end

/-! ### The loss -/

section
variable {r : Ref}

theorem TimeUnit.setCand_parts (x : TimeUnit) (r : Ref) (c : Cand) : x.setCand r c = { x with
    fabric := (x.setCand r c).fabric, syncIn := (x.setCand r c).syncIn, partner := (x.setCand r c).partner } := by
  cases r <;> rfl

/-- A candidate whose count has ended leaves the others as they were. -/
theorem TimeUnit.setCand_unseeded {x : TimeUnit} (h : ∀ q, q ≠ r → (x.cand q).seed = none) (q : Ref) :
    ((x.setCand r .idle).cand q).seed = none := by
  rw [TimeUnit.cand_setCand]
  split
  next => rfl
  next other =>
    by_cases same : q = r
    · obtain rfl : r = .crystal := not_not.mp fun real => other ⟨same, real⟩
      rw [same]
      rfl
    · exact h q same

/-- The time unit after the loss of the selected reference: its mean rate is held (R407). -/
theorem State.loseRef_time (hr : r = s.time.sel) (hm : s.time.mode = .slewing ∨ s.time.mode = .tracking) :
    ∃ a b c : Cand, (s.loseRef r).time = { s.time with
      fabric := a, syncIn := b, partner := c, mode := .holdover, rate := clampRate (s.time.cand r).meanRate
      baseRate := clampRate (s.time.cand r).meanRate, target := none, holdFrom := s.time.core, slewLeft := 0 } ∧
    ((∀ q, q ≠ r → (s.time.cand q).seed = none) → a.seed = none ∧ b.seed = none ∧ c.seed = none) := by
  have ended {p : Bool} {x : Cand} (h : x.seed = none) : (if p then Cand.idle else x).seed = none := by
    split
    · rfl
    · exact h
  unfold State.loseRef
  rw [if_pos ⟨hr, hm⟩, State.endCounts_eq]
  dsimp only
  simp only [State.updTime_time, State.freezeIf_frame, State.bbEvent_frame, State.count16_frame, State.raise_frame]
  rw [TimeUnit.setCand_parts]
  refine ⟨_, _, _, rfl, fun h => ?_⟩
  have unseeded := TimeUnit.setCand_unseeded h
  exact ⟨ended (unseeded .fabric), ended (unseeded .syncIn), ended (unseeded .partner)⟩

/-- The loss of the selected reference is counted, and REF_LOST is raised (R407). -/
theorem State.loseRef_does (hr : r = s.time.sel) (hm : s.time.mode = .slewing ∨ s.time.mode = .tracking) :
    Counted s (s.loseRef r) Fld.timeLossCount [] ∧ Raised s (s.loseRef r) 3 28 := by
  have ended : LinkKeeps s (s.updTime (·.setCand r .idle)) := .updTime (.refl s)
  unfold State.loseRef
  rw [if_pos ⟨hr, hm⟩, State.endCounts_eq]
  refine ⟨(s.count16_counted _).of_fields ?_, (ended.raised (t := 3) (n := 28) (by decide)).of_trowels ?_⟩
  · simp only [State.updTime_frame, State.freezeIf_frame, State.bbEvent_frame]
    rw [State.raise_eq]
    rfl
  · simp only [State.updTime_frame, State.freezeIf_frame, State.bbEvent_frame, State.count16_frame]

end

/-! ### SYNC_IN -/

/-- The time of an edge on SYNC_IN, the arrival path taken off. -/
def State.syncArrival (s : State) : Int := s.time.fine - 25 * nsUnit / 4

/-- Which instant of SYNC_IN is nearest to the edge (Table TR.2). -/
def State.syncIndex (s : State) : Int :=
  (s.syncArrival - s.getN Fld.timeSyncPhaseNs * nsUnit + s.refPeriod .syncIn * nsUnit / 2) /
    (s.refPeriod .syncIn * nsUnit)

/-- The reference time of the edge in ns. -/
def State.syncInstant (s : State) : Int := s.getN Fld.timeSyncPhaseNs + s.syncIndex * s.refPeriod .syncIn

theorem State.syncInstant_nearest (s : State) :
    2 * (s.syncInstant * nsUnit - s.syncArrival).natAbs ≤ s.refPeriod .syncIn * nsUnit := by
  have positive : 0 < (s.refPeriod .syncIn : Int) := by
    simp only [State.refPeriod, clampPeriod]
    omega
  simp only [State.syncInstant, State.syncIndex]
  generalize (s.refPeriod .syncIn : Int) = p at positive ⊢
  generalize s.syncArrival = a
  generalize (s.getN Fld.timeSyncPhaseNs : Int) = ph
  have division := Int.mul_ediv_add_emod (a - ph * nsUnit + p * nsUnit / 2) (p * nsUnit)
  have bounds : 0 < p * nsUnit := Int.mul_pos positive (by decide)
  have rest := Int.emod_nonneg (a - ph * nsUnit + p * nsUnit / 2) bounds.ne'
  have below := Int.emod_lt_of_pos (a - ph * nsUnit + p * nsUnit / 2) bounds
  generalize (a - ph * nsUnit + p * nsUnit / 2) % (p * nsUnit) = m at division rest below
  generalize (a - ph * nsUnit + p * nsUnit / 2) / (p * nsUnit) = k at division ⊢
  have product : p * nsUnit * k = k * p * nsUnit := by ring
  rw [product] at division
  generalize k * p = w at division ⊢
  simp only [nsUnit] at *
  omega

theorem exec_syncInEdge (ht : s.timeTakes = true) : exec .syncInEdge s = .next ((s.raise 3 30).timeSample .syncIn
    (s.time.xref - 25) (4 * s.syncInstant) (s.syncInstant * nsUnit - s.syncArrival)) :=
  congrArg Host.Outcome.next (if_neg (by simp [ht]))

/-- Raising an event changes neither the ranking nor what the time unit takes. -/
theorem State.raise_takes (s : State) (t : TrowelId) (n : Nat) : (s.raise t n).ranking = s.ranking ∧
    (s.raise t n).timeTakes = s.timeTakes := by
  rw [State.raise_eq]
  exact ⟨rfl, rfl⟩

end

end Sys2Proof.Machine
end

section
/-! SUPPORT. The edge on SYNC_IN, the deadline of a sample, and the time mark of the partner, as commands (R402 to R407,
R410, R413). -/

namespace Sys2Proof.Machine

section
variable {s : State}

/-! ### SYNC_IN_EDGE -/

/-- Unranked, the edge is an event alone (R403). -/
theorem syncInEdge_unranked (ht : s.timeTakes = true) (hr : Ref.syncIn ∉ s.ranking) : Does .syncInEdge s fun u =>
    u = { s with trowels := u.trowels } ∧ Raised s u 3 30 := by
  have unranked : Ref.syncIn ∉ (s.raise 3 30).ranking := by rwa [(s.raise_takes 3 30).1]
  refine ⟨s.raise 3 30, ?_, s.raise_eq 3 30, (LinkKeeps.refl s).raised (by decide)⟩
  rw [exec_syncInEdge ht, State.timeSample_unranked unranked]

/-- The period of SYNC_IN within its limits (Table TR.5). -/
theorem State.refPeriod_syncIn (s : State) :
    (s.refPeriod .syncIn : Int) = min 1000000000 (max 1000 (s.getN Fld.timeSyncPeriodNs : Int)) := by
  simp only [State.refPeriod, clampPeriod]
  omega

/-- Ranked, the first edge seeds the candidate with the nearest instant (R402, R404). -/
theorem syncInEdge_seeds (ht : s.timeTakes = true) (hr : Ref.syncIn ∈ s.ranking) (hn : s.time.syncIn.seed = none)
    (hs : s.time.sel ≠ .syncIn) (hm : s.time.mode ≠ .holdover) : exec .syncInEdge s =
      .next ((s.raise 3 30).updTime (·.setCand .syncIn (.seeded (s.time.xref - 25, 4 * s.syncInstant)
        (s.syncInstant * nsUnit - s.syncArrival)))) := by
  obtain ⟨ranking, takes⟩ := s.raise_takes 3 30
  have time : (s.raise 3 30).time = s.time := by simp
  rw [exec_syncInEdge ht, State.timeSample_seeds (takes.trans ht) (by decide) (by rwa [ranking]) (by rwa [time])
    (by rwa [time]) (by rwa [time])]

/-! ### SAMPLE_DEADLINE_EXPIRY -/

section
variable {r : Ref}

/-- The end of a count (R404). -/
theorem sampleDeadlineExpiry_ends (ht : s.timeTakes = true) (hn : (s.time.cand r).seed ≠ none)
    (hq : (s.time.cand r).qualified = false) (hm : s.time.mode ≠ .holdover) :
    exec (.sampleDeadlineExpiry r) s = .next (s.updTime (·.setCand r .idle)) := by
  have steady : (s.updTime (·.setCand r .idle)).time.mode ≠ .holdover := by
    rwa [State.updTime_time, TimeUnit.setCand_mode]
  change Host.Outcome.next _ = _
  rw [if_neg (by simp [ht, hn]), if_neg (by simp [hq]), State.retarget_steady steady]

/-- The loss of the selected reference with no other counting (R405, R407). -/
theorem sampleDeadlineExpiry_loses (ht : s.timeTakes = true) (hn : (s.time.cand r).seed ≠ none)
    (hq : (s.time.cand r).qualified = true) (hr : r = s.time.sel)
    (hm : s.time.mode = .slewing ∨ s.time.mode = .tracking) (ho : ∀ q, q ≠ r → (s.time.cand q).seed = none) :
    ∃ a b c : Cand,
    exec (.sampleDeadlineExpiry r) s = .next ((s.loseRef r).updTime fun x => { x with target := none }) ∧
    (s.loseRef r).time = { s.time with
      fabric := a, syncIn := b, partner := c, mode := .holdover, rate := clampRate (s.time.cand r).meanRate
      baseRate := clampRate (s.time.cand r).meanRate, target := none, holdFrom := s.time.core, slewLeft := 0 } ∧
    a.seed = none ∧ b.seed = none ∧ c.seed = none := by
  obtain ⟨a, b, c, time, ended⟩ := State.loseRef_time hr hm
  obtain ⟨ha, hb, hc⟩ := ended ho
  have none_left (q : Ref) : ((s.loseRef r).time.cand q).seed = none := by
    rw [time]
    exact TimeUnit.unseeded ha hb hc q
  refine ⟨a, b, c, ?_, time, ha, hb, hc⟩
  change Host.Outcome.next _ = _
  rw [if_neg (by simp [ht, hn]), if_pos hq, State.retarget_empty (by rw [time]) none_left]

end

/-! ### PAIR_TIME_MARK -/

section
variable {ns : Nat}

/-- The partner after the time mark `ns`, which has been counted. -/
def State.partnerMarked (s : State) (ns : Nat) : Cand :=
  ({ s.time.partner with lastX := s.time.xref, lastO := ns * nsUnit - s.time.fine } : Cand).add (s.time.xref, 4 * ns)

/-- The state in which the partner has qualified with the mark, and the commit is due. -/
def State.partnerQualified (s : State) (ns : Nat) : State :=
  (s.updTime (·.setCand .partner (s.partnerMarked ns))).raise 3 27

theorem State.partnerQualified_time (s : State) (ns : Nat) :
    (s.partnerQualified ns).time = { s.time with partner := s.partnerMarked ns } := by
  simp only [State.partnerQualified, State.raise_frame]
  rfl

theorem State.partnerQualified_ranks (s : State) (ns : Nat) (q : Ref) :
    (s.partnerQualified ns).rankOf q = s.rankOf q := by
  rw [State.partnerQualified, State.raise_eq]
  rfl

theorem State.partnerQualified_fields (s : State) (ns : Nat) : (s.partnerQualified ns).fields = s.fields := by
  simp only [State.partnerQualified, State.raise_frame]
  rfl

theorem State.partnerQualified_keeps (s : State) (ns : Nat) : LinkKeeps s (s.partnerQualified ns) :=
  .raise (.updTime (.refl s))

theorem State.refPeriod_partner (s : State) : s.refPeriod .partner = 100000 := rfl

/-- The sixteenth counted mark of a partner better than the selected reference qualifies and commits it (R404, R406). -/
theorem pairTimeMark_commits (ht : s.timeTakes = true) (hs : s.standby = true) (hr : Ref.partner ∈ s.ranking)
    (hb : s.rankOf .partner < s.rankOf s.time.sel) (hq : s.time.partner.qualified = false)
    (hc : s.time.partner.count = 15) (hband : s.time.partner.inBand (s.time.xref, 4 * ns) = true)
    (hrate : s.time.partner.inRate (s.time.xref, 4 * ns) = true) (hl : s.time.xref - s.time.partner.lastX ≤ 800200) :
    exec (.pairTimeMark ns) s = .next ((s.partnerQualified ns).commit .partner) := by
  have limit : 4 * (2 * (s.refPeriod .partner : Int) + 50) = 800200 := by
    rw [s.refPeriod_partner]
    norm_num
  have counted : s.time.partner.sample (4 * (2 * s.refPeriod .partner + 50)) (s.time.xref, 4 * ns)
      (ns * nsUnit - s.time.fine) = (s.partnerMarked ns, false, false) :=
    Cand.sample_counts hq (hl.trans limit.ge) hband hrate _
  have qualified : (s.partnerMarked ns).qualified = true := by
    simp [State.partnerMarked, Cand.add, hc]
  have commits := State.timeSample_commits ht (by decide) hr hb hq counted qualified
  exact congrArg Host.Outcome.next ((if_pos hs).trans commits)

/-- The commit of the partner in a time base not yet set: the first set (R413). -/
theorem State.partnerQualified_sets (hb : s.rankOf .partner < s.rankOf s.time.sel) (hs : s.time.set = false) {o : Int}
    (ho : ns * nsUnit - s.time.fine = o) {u : State} (hu : u = (s.partnerQualified ns).commit .partner) :
    u.time.set = true ∧ u.time.sel = .partner ∧ u.time.mode = .tracking ∧ Raised s u 3 29 ∧
    u.getF Fld.timeSetStepNs = offsetWord o ∧ u.getF Fld.timeSwitchCount = s.getF Fld.timeSwitchCount ∧
    (0 < o → u.time.fine = s.time.fine + o ∧ u.time.hold = s.time.hold) ∧
    (o ≤ 0 → u.time.fine = s.time.fine ∧ u.time.hold = holdCycles o) := by
  have marked := s.partnerQualified_time ns
  have sets : u = ((s.partnerQualified ns).firstCommit .partner).raise 3 29 := by
    rw [hu, State.commit_first]
    · rwa [s.partnerQualified_ranks, s.partnerQualified_ranks, marked]
    · rwa [marked]
  obtain ⟨n, f, h, r, time, count, held⟩ := (s.partnerQualified ns).firstCommit_time .partner
  have offset : ((s.partnerQualified ns).time.cand .partner).lastO = o := by rw [marked, ← ho]; rfl
  have fields := (s.partnerQualified ns).firstCommit_fields .partner
  rw [offset] at count held fields
  rw [marked] at count held time
  have utime : u.time = ((s.partnerQualified ns).firstCommit .partner).time := by
    rw [sets]
    simp only [State.raise_frame]
  rw [time] at utime
  have stored : u.getF Fld.timeSetStepNs = offsetWord o ∧
      u.getF Fld.timeSwitchCount = s.getF Fld.timeSwitchCount := by
    have base := State.getF_of_fields (s.partnerQualified_fields ns)
    have read (a : Nat) : u.getF a = (((s.partnerQualified ns).setF Fld.timeOffsetNs (offsetWord o)).setF
        Fld.timeSetStepNs (offsetWord o)).getF a := by
      rw [sets, State.getF_raise]
      exact State.getF_of_fields fields a
    refine ⟨by rw [read, State.getF_setF_self], ?_⟩
    rw [read, State.getF_setF_of_ne _ (by decide), State.getF_setF_of_ne _ (by decide), base]
  refine ⟨by rw [utime], by rw [utime], by rw [utime],
    sets ▸ ((State.firstCommit_keeps (s.partnerQualified_keeps ns)).raised (by decide)), stored.1, stored.2,
    fun hp => ⟨?_, ?_⟩, fun hn => ⟨?_, ?_⟩⟩ <;> rw [utime]
  · rw [max_eq_left hp.le] at count
    exact count
  · exact held.trans (if_pos hp)
  · rw [max_eq_right hn, add_zero] at count
    exact count
  · exact held.trans (if_neg hn.not_gt)

/-- The commit of the partner in a set time base, more than 10 ns away: a slew (R410). -/
theorem State.partnerQualified_slews (hb : s.rankOf .partner < s.rankOf s.time.sel) (hs : s.time.set = true) {o : Int}
    (ho : ns * nsUnit - s.time.fine = o) (hfar : 10 * nsUnit < o.natAbs) {u : State}
    (hu : u = (s.partnerQualified ns).commit .partner) :
    u.fresh = s.fresh ∧ u.time.sel = .partner ∧ u.time.mode = .slewing ∧ u.time.fine = s.time.fine ∧
    u.time.hold = s.time.hold ∧
    u.time.rate = clampRate (u.time.partner.meanRate + if 0 < o then 100000 else -100000) ∧
    u.getN Fld.timeSwitchCount = min 65535 (s.getN Fld.timeSwitchCount + 1) ∧ Raised s u 3 27 := by
  have marked := s.partnerQualified_time ns
  have offset : ((s.partnerQualified ns).time.cand .partner).lastO = o := by rw [marked, ← ho]; rfl
  have slews := State.commit_slews (s := s.partnerQualified ns) (c := .partner)
    (by rwa [s.partnerQualified_ranks, s.partnerQualified_ranks, marked]) (by rwa [marked]) (by rwa [offset])
  rw [offset, ← hu] at slews
  generalize ((o.natAbs - 10 * nsUnit) * 4000 / nsUnit).toNat = left at slews
  have time : u.time = { s.time with
      partner := s.partnerMarked ns, sel := .partner, target := none, mode := .slewing
      baseRate := (s.partnerMarked ns).meanRate
      rate := clampRate ((s.partnerMarked ns).meanRate + if 0 < o then 100000 else -100000), slewLeft := left } := by
    rw [slews]
    simp only [State.updTime_time, State.bbEvent_frame, State.count16_frame, State.selected, State.setF_frame, marked]
    rfl
  have rest : u.fresh = s.fresh ∧ u.trowels = (s.partnerQualified ns).trowels := by
    rw [slews]
    simp [State.selected, State.partnerQualified]
  have counts : u.getN Fld.timeSwitchCount = min 65535 (s.getN Fld.timeSwitchCount + 1) := by
    have fields : u.fields = ((((s.partnerQualified ns).selected .partner).updTime fun t => { t with
        mode := .slewing }).count16 Fld.timeSwitchCount).fields := by
      rw [slews]
      simp only [State.updTime_frame, State.bbEvent_frame]
    rw [State.getN_of_getF (State.getF_of_fields fields _), State.getN_count16_self]
    refine congrArg (min 65535 <| · + 1) (State.getN_of_getF ?_)
    exact (State.getF_setF_of_ne _ (by decide) _).trans (State.getF_of_fields (s.partnerQualified_fields ns) _)
  refine ⟨rest.1, by rw [time], by rw [time], ?_, by rw [time], by rw [time], counts,
    ((LinkKeeps.refl s).updTime.raised (by decide)).of_trowels rest.2⟩
  rw [time]
  exact TimeUnit.fine_of_parts ..

end

end

/-- Settles O45: an edge and a deadline by what becomes of the candidate, the partner's mark by its commit. -/
theorem referenceSelection : Obligations.ReferenceSelection := by
  unfold Obligations.ReferenceSelection
  intro s r ns x c hp hs
  have takes := State.timeTakes_running hp hs
  refine ⟨fun hr => syncInEdge_unranked takes (by simpa using hr), fun hr hn hsel hm => ?_, fun hn => ?_,
    fun hn hq hm => ⟨_, sampleDeadlineExpiry_ends takes hn hq hm, rfl⟩, fun hn hq hr hm ho => ?_,
    fun hsb hr hb => ?_⟩
  · refine ⟨_, syncInEdge_seeds takes (by simpa using hr) hn hsel hm, ?_, ?_, rfl, rfl, s.syncIndex, ?_⟩
    · rw [State.raise_eq]
      rfl
    · exact ((LinkKeeps.refl s).raised (by decide)).of_trowels rfl
    · dsimp only
      rw [← s.refPeriod_syncIn]
      exact ⟨rfl, rfl, s.syncInstant_nearest⟩
  · exact congrArg Host.Outcome.next (if_pos (by rw [show (s.time.cand r).seed = none from hn]; simp))
  · obtain ⟨a, b, c', next, time, ha, hb, hc⟩ := sampleDeadlineExpiry_loses takes hn hq hr hm ho
    obtain ⟨counted, raised⟩ := State.loseRef_does hr hm
    have fresh : ((s.loseRef r).updTime fun x => { x with target := none }).fresh = s.fresh := by simp
    have frame : TimeFrame s _ :=
      Does.of_next (c := .sampleDeadlineExpiry r) (P := TimeFrame s) (execSampleDeadlineExpiry_frame r s) next
    refine ⟨_, next, frame.eq_of_fresh fresh, raised.of_trowels rfl,
      counted.of_fields rfl, ?_⟩
    rw [State.updTime_time, time]
    exact ⟨rfl, rfl, rfl, rfl, TimeUnit.fine_of_parts .., rfl, TimeUnit.unseeded ha hb hc⟩
  · intro p o hq hc hband hrate hl
    have next := pairTimeMark_commits takes hsb (by simpa using hr) hb hq hc hband hrate hl
    have frame : TimeFrame s _ :=
      Does.of_next (c := .pairTimeMark ns) (P := TimeFrame s) (execPairTimeMark_frame ns s) next
    refine ⟨fun hset => ⟨_, next, frame.eq, ?_⟩, fun hset hfar => ⟨_, next, ?_⟩⟩
    · obtain ⟨set, sel, mode, raised, step, count, forward, held⟩ :=
        State.partnerQualified_sets hb hset (o := o) rfl rfl
      refine ⟨set, sel, mode, raised, step, count, forward, fun hn => ?_⟩
      obtain ⟨fine, hold⟩ := held hn
      rw [hold]
      exact ⟨fine, holdCycles_bounds o⟩
    · have far : 10 * nsUnit < o.natAbs := by
        simp only [nsUnit]
        omega
      obtain ⟨fresh, sel, mode, fine, hold, rate, count, raised⟩ :=
        State.partnerQualified_slews hb hset (o := o) rfl far rfl
      exact ⟨frame.eq_of_fresh fresh, sel, mode, fine, hold, rate, count, raised⟩

end Sys2Proof.Machine
end

section
/-! SUPPORT. The step of a waiting command, and the state after reset (Tables SR.5 and FM.4 to FM.19). -/

namespace Sys2Proof.Machine

/-- Settles O1: the front of the queue by the definition of `step`. -/
theorem stepRunsFrontCommand : Obligations.StepRunsFrontCommand := by
  unfold Obligations.StepRunsFrontCommand
  intro s c rest h
  rw [step, h]

/-- Settles O3: the stored fields are none, so that each reads its Reset entry; the trowels one by one. -/
theorem resetState : Obligations.ResetState := by
  unfold Obligations.ResetState
  have stopped (t : TrowelId) : (State.reset.trowels[t]).status = .stopped := by fin_cases t <;> rfl
  exact ⟨rfl, stopped, fun _ => rfl, rfl, rfl, rfl, rfl, rfl⟩

end Sys2Proof.Machine
end

section
/-! SUPPORT. Every command completes, and leaves the queue, the variant and the stepping (log entry 1). -/

namespace Sys2Proof.Machine

/-- From `s` to `u` the queue, the variant and the stepping are the same. -/
def SameQueueAndPart (s u : State) : Prop :=
  u.pending = s.pending ∧ u.identity.variant = s.identity.variant ∧ u.identity.stepping = s.identity.stepping

theorem SameQueueAndPart.of_identity {s u : State} (h : u.pending = s.pending ∧ u.identity = s.identity) :
    SameQueueAndPart s u := by
  obtain ⟨hq, hi⟩ := h
  exact ⟨hq, by rw [hi], by rw [hi]⟩

/-- A command whose frame has the queue and the identity. -/
theorem Does.sameQueueAndPart {c : Instr} {s : State} {P : State → Prop} (frame : Does c s P)
    (same : ∀ u, P u → u.pending = s.pending ∧ u.identity = s.identity := by intro u h; simp only [h, and_self]) :
    Does c s (SameQueueAndPart s) := by
  obtain ⟨u, hu, hp⟩ := frame
  exact ⟨u, hu, .of_identity (same u hp)⟩

/-- OTP_LOAD alone writes the identity: the serial number and the key digest (R82). -/
theorem execOtpLoad_sameQueueAndPart (content : Option OtpContent) (s : State) :
    Does (.otpLoad content) s (SameQueueAndPart s) := by
  refine ⟨_, rfl, ?_⟩
  split
  · exact ⟨rfl, rfl, rfl⟩
  · cases content with
    | none => exact .of_identity (by simp)
    | some x => dsimp only; split <;> exact ⟨rfl, rfl, rfl⟩

/-- Every other command has a frame that holds the queue and the identity. -/
theorem exec_sameQueueAndPart (c : Instr) (s : State) : Does c s (SameQueueAndPart s) := by
  cases c
  case otpLoad content => exact execOtpLoad_sameQueueAndPart content s
  case trowelStart scn => exact .sameQueueAndPart (execTrowelStart_frame scn s)
  case selfCalibrationDone => exact .sameQueueAndPart (execSelfCalibrationDone_frame ..)
  case recipeLoadDone => exact .sameQueueAndPart (execRecipeLoadDone_frame ..)
  case signatureCheckDone => exact .sameQueueAndPart (execSignatureCheckDone_frame ..)
  case sleepAddressMatch => exact .sameQueueAndPart (execSleepAddressMatch_frame ..)
  case bbEventWrite => exact .sameQueueAndPart (execBbEventWrite_frame ..)
  case ret => exact .sameQueueAndPart (execRet_frame ..)
  case fieldReadReply => exact .sameQueueAndPart (execFieldReadReply_frame ..)
  case fieldWriteAccepted => exact .sameQueueAndPart (execFieldWriteAccepted_frame ..)
  case wait => exact .sameQueueAndPart (execWait_frame ..)
  case waitEventPresent => exact .sameQueueAndPart (execWaitEventPresent_frame ..)
  case scanInstant => exact .sameQueueAndPart (execScanInstant_frame ..)
  case blankingStart => exact .sameQueueAndPart (execBlankingStart_frame ..)
  case strobeLockedIssue => exact .sameQueueAndPart (execStrobeLockedIssue_frame ..)
  case faultSample => exact .sameQueueAndPart (execFaultSample_frame ..)
  case zeroCurrentCheck => exact .sameQueueAndPart (execZeroCurrentCheck_frame ..)
  case neighSweepStart => exact .sameQueueAndPart (execNeighSweepStart_frame ..)
  case frameDescriptorInCore => exact .sameQueueAndPart (execFrameDescriptorInCore_frame ..)
  case frameEndTimeout => exact .sameQueueAndPart (execFrameEndTimeout_frame ..)
  case candidateArrival => exact .sameQueueAndPart (execCandidateArrival_frame ..)
  case decodeResolved => exact .sameQueueAndPart (execDecodeResolved_frame ..)
  case resultArrival => exact .sameQueueAndPart (execResultArrival_frame ..)
  case closingPassEnd => exact .sameQueueAndPart (execClosingPassEnd_frame ..)
  case noticeArrival => exact .sameQueueAndPart (execNoticeArrival_frame ..)
  case jointArrival => exact .sameQueueAndPart (execJointArrival_frame ..)
  case jointWaitExpiry => exact .sameQueueAndPart (execJointWaitExpiry_frame ..)
  case mirrorWrite => exact .sameQueueAndPart (execMirrorWrite_frame ..)
  case vqQuery => exact .sameQueueAndPart (execVqQuery_frame ..)
  case standardRequest => exact .sameQueueAndPart (execStandardRequest_frame ..)
  case usbRecordTransferDone => exact .sameQueueAndPart (execUsbRecordTransferDone_frame ..)
  case serCollision => exact .sameQueueAndPart (execSerCollision_frame ..)
  case plHbEdge => exact .sameQueueAndPart (execPlHbEdge_frame ..)
  case pairHello => exact .sameQueueAndPart (execPairHello_frame ..)
  case pairAckMark => exact .sameQueueAndPart (execPairAckMark_frame ..)
  case linkFrame => exact .sameQueueAndPart (execLinkFrame_frame ..)
  case announce => exact .sameQueueAndPart (execAnnounce_frame ..)
  case morRecord => exact .sameQueueAndPart (execMorRecord_frame ..)
  case morDelivered => exact .sameQueueAndPart (execMorDelivered_frame ..)
  case morJoint => exact .sameQueueAndPart (execMorJoint_frame ..)
  case morTap => exact .sameQueueAndPart (execMorTap_frame ..)
  case morTrowel => exact .sameQueueAndPart (execMorTrowel_frame ..)
  case morBroken => exact .sameQueueAndPart (execMorBroken_frame ..)
  case flowBroken => exact .sameQueueAndPart (execFlowBroken_frame ..)
  case unreachableExpiry => exact .sameQueueAndPart (execUnreachableExpiry_frame ..)
  case mbistDone => exact .sameQueueAndPart (execMbistDone_frame ..)
  case frameStartNoticeInDecode => exact .sameQueueAndPart (execFrameStartNoticeInDecode_frame ..)
  case serResponseSent => exact .sameQueueAndPart (execSerResponseSent_frame ..)
  case serFrameRejected => exact .sameQueueAndPart (execSerFrameRejected_frame ..)
  case instructionScrub => exact .sameQueueAndPart (execInstructionScrub_frame ..)
  -- All others are made of operations whose own frames hold them.
  all_goals exact ⟨_, rfl, .of_identity (by simp)⟩

/-- Settles O6: OTP_LOAD by what it writes of the identity, every other command by its frame. -/
theorem commandsKeepQueueAndPart : Obligations.CommandsKeepQueueAndPart := by
  unfold Obligations.CommandsKeepQueueAndPart
  exact exec_sameQueueAndPart

end Sys2Proof.Machine
end

section
/-! SUPPORT. The states that `State.wf` admits, and the operations of Machine/Ops, which keep to them (R122, R494, R496). -/

namespace Sys2Proof.Machine

-- In turn, not each proof in a thread of its own.
set_option Elab.async false

/-- A state as `State.wf` lets it be, part by part. -/
structure WellFormed (s : State) : Prop where
  fields : s.fieldsWf = true
  bb : s.bb.wf = true
  trowels : ∀ t : TrowelId, (s.trowels[t]).memWf = true
  vs : s.vs.memWf = true
  shadow : s.shadowWf = true
  faulted : s.faultedWf = true

theorem State.wf_iff (s : State) : s.wf = true ↔ WellFormed s := by
  simp only [State.wf, State.memWf, Bool.and_eq_true, List.all_eq_true, List.mem_finRange, forall_const]
  exact ⟨fun ⟨⟨⟨⟨hf, hb⟩, ht, hv⟩, hs⟩, hc⟩ => ⟨hf, hb, ht, hv, hs, hc⟩,
    fun ⟨hf, hb, ht, hv, hs, hc⟩ => ⟨⟨⟨⟨hf, hb⟩, ht, hv⟩, hs⟩, hc⟩⟩

/-- The parts that `WellFormed` speaks of. -/
def State.stores (s : State) : Sparse Word × BlackBox × Vector Trowel 4 × Verdict × List Pend × Option FaultCycle :=
  (s.fields, s.bb, s.trowels, s.vs, s.shadow, s.faulted)

section
variable {s u v : State}

/-! ### Changes beside the stores, conditionals and folds -/

/-- A change beside the stores. -/
theorem WellFormed.of_stores (h : WellFormed u) (e : v.stores = u.stores) : WellFormed v := by
  simp only [State.stores, Prod.mk.injEq] at e
  obtain ⟨ef, eb, et, ev, es, ec⟩ := e
  obtain ⟨hf, hb, ht, hv, hs, hc⟩ := h
  refine ⟨?_, by rwa [eb], by rwa [et], by rwa [ev], ?_, ?_⟩
  · rwa [State.fieldsWf, ef]
  · rwa [State.shadowWf, es]
  · rwa [State.faultedWf, ec]

/-- An operation whose frame has the stores. -/
theorem WellFormed.framed (h : WellFormed u) (e : v.stores = u.stores := by simp [State.stores]) : WellFormed v :=
  h.of_stores e

section
variable {l : List Instr} {id : Identity} {ao : Aon} {pi : Pins} {ph : Phase} {bo : Boot} {sy : Sys} {ba : Balls}
  {ta : Tap} {ti : TimeUnit} {th : Thermal} {li : Light} {aa ab : Adc} {am : Estimator} {po : Vector Port 4}
  {fr : List Frame} {nf n : Nat} {pp : PipeInput} {ct : Vector Ctx 8} {de : Dec} {fo : Former} {us : Usb} {se : Ser}
  {pa : Pair} {fa : Fabric}

/-- An update of parts beside the stores. -/
theorem WellFormed.beside (h : WellFormed u) : WellFormed { u with
    pending := l, identity := id, aon := ao, pins := pi, phase := ph, boot := bo, sys := sy, balls := ba, tap := ta
    time := ti, thermal := th, light := li, adcA := aa, adcB := ab, amb := am, ports := po, frames := fr
    nextFrame := nf, pipe := pp, ctxs := ct, dec := de, former := fo, usb := us, ser := se, pair := pa, fab := fa
    fresh := n } := h.of_stores rfl

end

/-- Either branch of a conditional. -/
theorem WellFormed.ite {p : Prop} [Decidable p] (hu : WellFormed u) (hv : WellFormed v) :
    WellFormed (if p then u else v) := by
  split
  · exact hu
  · exact hv

/-- A further change that happens or not. -/
theorem WellFormed.maybe {p : Prop} [Decidable p] (h : WellFormed u) (hv : WellFormed u → WellFormed v) :
    WellFormed (if p then v else u) := .ite (hv h) h

/-- Every step of a fold. -/
theorem WellFormed.foldl {β : Type} {f : State → β → State} {l : List β} (h : WellFormed u)
    (hf : ∀ {v}, WellFormed v → ∀ x, WellFormed (f v x)) : WellFormed (l.foldl f u) := by
  induction l generalizing u with
  | nil => exact h
  | cons x l ih => exact ih (hf h x)

/-! ### Stored fields -/

theorem WellFormed.setF (h : WellFormed s) {a : Nat} {x : Word} : WellFormed (s.setF a x) :=
  ⟨sparseSet_wf _ _ _ _ h.fields, h.bb, h.trowels, h.vs, h.shadow, h.faulted⟩

theorem WellFormed.setN (h : WellFormed s) {a n : Nat} : WellFormed (s.setN a n) := .setF h

theorem WellFormed.countSat (h : WellFormed s) {w a n : Nat} : WellFormed (s.countSat w a n) := .setF h

theorem WellFormed.count16 (h : WellFormed s) {a : Nat} : WellFormed (s.count16 a) := .setF h

theorem WellFormed.countWrap (h : WellFormed s) {a n : Nat} : WellFormed (s.countWrap a n) := .setF h

/-- Writes of a list keep a store canonical. -/
theorem sparseWf_foldl {α β : Type} [DecidableEq α] (d : Nat → α) (a : β → Nat) (x : β → α) (l : List β) (m : Sparse α)
    (h : sparseWf d m = true) : sparseWf d (l.foldl (fun f e => sparseSet d f (a e) (x e)) m) = true := by
  induction l generalizing m with
  | nil => exact h
  | cons e l ih => exact ih _ (sparseSet_wf d m _ _ h)

/-- The writes that remain pending are some of those that were. -/
theorem WellFormed.applyPending (h : WellFormed s) {sel : Pend → Bool} : WellFormed (s.applyPending sel) := by
  refine ⟨sparseWf_foldl _ _ _ _ _ h.fields, h.bb, h.trowels, h.vs, ?_, h.faulted⟩
  have hs := h.shadow
  simp only [State.shadowWf, List.all_eq_true] at hs ⊢
  exact fun p hp => hs p (List.mem_of_mem_filter hp)

theorem WellFormed.applyBoundary (h : WellFormed s) {sel : Pend → Bool} : WellFormed (s.applyBoundary sel) :=
  .applyPending h

/-! ### Trowels -/

/-- A change of a trowel whose memories remain canonical. -/
theorem WellFormed.updT (h : WellFormed s) {t : TrowelId} {f : Trowel → Trowel}
    (hf : ∀ x : Trowel, x.memWf = true → (f x).memWf = true := by intro x hx; exact hx) :
    WellFormed (s.updT t f) := by
  refine ⟨h.fields, h.bb, fun o => ?_, h.vs, h.shadow, h.faulted⟩
  rw [Fin.getElem_fin, State.updT_get]
  split
  · exact hf _ (h.trowels o)
  · exact h.trowels o

/-- A change of every trowel that leaves the memories canonical. -/
theorem WellFormed.mapT (h : WellFormed s) {f : Trowel → Trowel}
    (hf : ∀ x : Trowel, x.memWf = true → (f x).memWf = true := by intro x hx; exact hx) :
    WellFormed { s with trowels := s.trowels.map f } := by
  refine ⟨h.fields, h.bb, fun o => ?_, h.vs, h.shadow, h.faulted⟩
  rw [Fin.getElem_fin, Vector.getElem_map]
  exact hf _ (h.trowels o)

theorem Trowel.raise_memWf (x : Trowel) (n : Nat) : (x.raise n).memWf = x.memWf := by rw [x.raise_eq]; rfl

theorem WellFormed.raise (h : WellFormed s) {t : TrowelId} {n : Nat} : WellFormed (s.raise t n) :=
  .ite (.updT h fun x hx => (x.raise_memWf n).trans hx) h

theorem WellFormed.raiseAll (h : WellFormed s) {n : Nat} : WellFormed (s.raiseAll n) := h.raise.raise.raise.raise

/-! ### The black box -/

theorem BlackBox.wf_iff (b : BlackBox) : b.wf = true ↔ b.ring.length ≤ 1024 ∧ b.queue.length ≤ 32 := by
  simp only [BlackBox.wf, Bool.and_eq_true, decide_eq_true_eq]

/-- A black box of legal sizes in place of the present one. -/
theorem WellFormed.setBb (h : WellFormed s) {b : BlackBox}
    (hb : s.bb.wf = true → b.wf = true := by intro hb; exact hb) : WellFormed { s with bb := b } :=
  ⟨h.fields, hb h.bb, h.trowels, h.vs, h.shadow, h.faulted⟩

theorem BlackBox.push_wf {b : BlackBox} (h : b.wf = true) (unit : BitVec 7) (inst : Byte) (code : BitVec 16)
    (arg : Word) : (b.push unit inst code arg).wf = true := by
  obtain ⟨ring, queue⟩ := b.wf_iff.mp h
  rw [BlackBox.wf_iff, (b.push_keeps unit inst code arg).2.1]
  refine ⟨ring, ?_⟩
  by_cases room : b.queue.length < 32
  · rw [BlackBox.push_room room]
    simpa using room
  · rw [BlackBox.push_full (Nat.le_of_not_lt room)]
    exact queue

theorem State.bbEvent_bb_wf (h : s.bb.wf = true) {n : BitVec 7} {i : Byte} {c : BitVec 16} {x : Word} :
    (s.bbEvent n i c x).bb.wf = true := by
  unfold State.bbEvent
  dsimp only
  split
  · exact BlackBox.push_wf h ..
  · exact h

theorem WellFormed.bbEvent (h : WellFormed s) {n : BitVec 7} {i : Byte} {c : BitVec 16} {x : Word} :
    WellFormed (s.bbEvent n i c x) := h.setBb fun hb => State.bbEvent_bb_wf hb

/-- The ring holds its 1024 slots at most, whatever it held before (R494). -/
theorem ringPush_length_le (r : List BbEvent) (e : BbEvent) : (ringPush r e).length ≤ 1024 := by
  simp only [ringPush, List.length_drop]
  omega

theorem flushQueue_length_le (ns : Nat → Nat) (q : List BbEvent) (k : Nat) {r : List BbEvent} (h : r.length ≤ 1024) :
    (flushQueue ns q k r).length ≤ 1024 := by
  induction q generalizing k r with
  | nil => exact h
  | cons e q ih => exact ih _ (ringPush_length_le r _)

theorem State.freeze_bb_wf (h : s.bb.wf = true) {c : Byte} : (s.freeze c).bb.wf = true := by
  unfold State.freeze
  dsimp only
  split
  · simp only [BlackBox.wf_iff, ringPush_length_le, List.length_nil, Nat.zero_le, and_self]
  · exact h

theorem WellFormed.freeze (h : WellFormed s) {c : Byte} : WellFormed (s.freeze c) :=
  h.setBb fun hb => State.freeze_bb_wf hb

theorem WellFormed.freezeIf (h : WellFormed s) {c : Byte} {l : List Nat} {i : Nat} : WellFormed (s.freezeIf c l i) := by
  refine h.setBb fun _ => ?_
  split
  · exact h.freeze.bb
  · exact h.bb

end
end Sys2Proof.Machine
end

section
/-! SUPPORT. The operations of the light matrix and of the converters keep the stores well-formed. -/

namespace Sys2Proof.Machine

-- In turn, not each proof in a thread of its own.
set_option Elab.async false

section
variable {s : State}

/-! ### The light matrix -/

theorem WellFormed.ltFault (h : WellFormed s) : WellFormed s.ltFault := .framed h

theorem WellFormed.darkBegin (h : WellFormed s) {pos : Nat} : WellFormed (s.darkBegin pos) := .framed h

theorem WellFormed.driveColumns (h : WellFormed s) {pos : Nat} : WellFormed (s.driveColumns pos) := .framed h

theorem WellFormed.afterFailure (h : WellFormed s) {pos : Nat} : WellFormed (s.afterFailure pos) := .framed h

theorem WellFormed.applyFire (h : WellFormed s) {v : Word} : WellFormed (s.applyFire v) := .framed h

theorem WellFormed.applyGo (h : WellFormed s) {v : Word} : WellFormed (s.applyGo v) := .framed h

theorem WellFormed.scanApplied (h : WellFormed s) : WellFormed s.scanApplied := .framed h

theorem WellFormed.endCourse (h : WellFormed s) : WellFormed s.endCourse := .framed h

theorem WellFormed.wrapEntry (h : WellFormed s) : WellFormed s.wrapEntry := .framed h

theorem WellFormed.lightRest (h : WellFormed s) : WellFormed s.lightRest := .framed h

theorem WellFormed.markFailed (h : WellFormed s) {n : Nat} : WellFormed (s.markFailed n) := .setF h

theorem WellFormed.killFor (h : WellFormed s) {n : Nat} : WellFormed (s.killFor n) :=
  .ite (.freezeIf (.bbEvent (.raise (.setF h)))) h

theorem WellFormed.failLamp (h : WellFormed s) {n kind : Nat} : WellFormed (s.failLamp n kind) :=
  .killFor (.freezeIf (.ltFault (.bbEvent (.raise (.setN (.markFailed h))))))

theorem WellFormed.sampleLamp (h : WellFormed s) {n : Nat} {r : LampReading} : WellFormed (s.sampleLamp n r) :=
  .ite (.failLamp (.beside h)) (.ite (.failLamp (.beside h)) (.beside h))

theorem WellFormed.sampleColumn (h : WellFormed s) {s0 : State} {g : GroupId} {k : CourseRun} {l : List Nat} {c : Nat} :
    WellFormed (s0.sampleColumn g k l s c) := by
  unfold State.sampleColumn
  refine .ite ?_ h
  split
  · exact .sampleLamp h
  · exact h

theorem WellFormed.evaluatePulse (h : WellFormed s) {g : GroupId} {k : CourseRun} {l : List Nat} :
    WellFormed (s.evaluatePulse g k l) :=
  .ite (.afterFailure (.foldl h fun hv _ => .sampleColumn hv)) h

theorem WellFormed.stepCurve (h : WellFormed s) {g : GroupId} : WellFormed (s.stepCurve g) := by
  unfold State.stepCurve
  split
  · exact h
  · exact .ite (.raise (.beside (.setN h))) (.beside (.setN h))

theorem WellFormed.applyLight (h : WellFormed s) {sel : Pend → Bool} : WellFormed (s.applyLight sel) := by
  exact .applyGo (.applyFire (.maybe (.applyPending h) (.scanApplied ·)))

theorem WellFormed.applyCourseSets (h : WellFormed s) : WellFormed s.applyCourseSets := .applyLight h

theorem WellFormed.startCourse (h : WellFormed s) {e : Nat} : WellFormed (s.startCourse e) := by
  have stepped : WellFormed ((List.finRange 8).foldl State.stepCurve s.applyCourseSets) :=
    .foldl (.applyCourseSets h) fun hv _ => .stepCurve hv
  unfold State.startCourse
  exact .darkBegin (.beside (.driveColumns (.maybe (.raise (.maybe (.beside (.maybe stepped (.count16 ·))) (.bbEvent ·)))
    (.raise ·))))

theorem WellFormed.courseBoundary (h : WellFormed s) : WellFormed s.courseBoundary := by
  have between : WellFormed s.endCourse.applyCourseSets.wrapEntry := .wrapEntry (.applyCourseSets (.endCourse h))
  exact .ite h (.ite (.lightRest (.endCourse h)) (.ite (.darkBegin between) (.ite (.startCourse between) h)))

theorem WellFormed.markPin (h : WellFormed s) {p : Nat} : WellFormed (s.markPin p) := .ite (.setF h) (.setF h)

theorem WellFormed.bridge (h : WellFormed s) {p q : Nat} : WellFormed (s.bridge p q) :=
  .foldl (.foldl (.freezeIf (.ltFault (.bbEvent (.raise (.markPin (.markPin h))))))
    fun hv _ => .markFailed hv) fun hv _ => .killFor hv

theorem WellFormed.bridges (h : WellFormed s) {p : Nat} {l : List Nat} : WellFormed (s.bridges p l) :=
  .foldl h fun hv _ => .bridge hv

theorem WellFormed.sweepOn (h : WellFormed s) : WellFormed s.sweepOn := by
  unfold State.sweepOn
  split
  · exact .beside h
  · exact .ite (.raise (.beside h)) (.beside h)
  · exact h

theorem WellFormed.setDerateFlag (h : WellFormed s) {on : Bool} : WellFormed (s.setDerateFlag on) :=
  .bbEvent (.raise (.beside h))

theorem WellFormed.lightStart (h : WellFormed s) : WellFormed s.lightStart :=
  .ite (.startCourse (.beside h)) (.darkBegin (.beside h))

theorem WellFormed.lightStop (h : WellFormed s) : WellFormed s.lightStop := .lightRest (.applyLight h)

theorem WellFormed.boardTemp (h : WellFormed s) {v : Word} : WellFormed (s.boardTemp v) :=
  .ite (.setF (.beside (.setF h))) (.beside (.setF h))

theorem WellFormed.lightNow (h : WellFormed s) {a : Nat} {v : Word} : WellFormed (s.lightNow a v) :=
  .ite (.ite (.maybe (.setF h) (.lightStart ·)) (.maybe (.setF h) (.lightStop ·)))
    (.ite (.applyFire h) (.ite (.applyGo h) (.ite (.boardTemp h) (.ite (.scanApplied (.setF h)) (.setF h)))))

/-! ### The converters and the ambient estimator -/

theorem WellFormed.updAdc (h : WellFormed s) {c : Conv} {f : Adc → Adc} : WellFormed (s.updAdc c f) := .framed h

theorem WellFormed.raiseEst (h : WellFormed s) {n : Nat} : WellFormed (s.raiseEst n) := h.raise.raise

theorem WellFormed.goStale (h : WellFormed s) : WellFormed s.goStale := .bbEvent (.count16 (.raiseEst (.beside h)))

theorem WellFormed.countAge (h : WellFormed s) {m : Fin 4} : WellFormed (s.countAge m) :=
  .ite (.ite (.ite (.beside (.beside h)) (.goStale (.beside h))) (.beside h)) h

theorem WellFormed.newEstimate (h : WellFormed s) : WellFormed s.newEstimate :=
  .ite (.bbEvent (.raiseEst (.beside (.count16 (.raise (.beside h)))))) (.count16 (.raise (.beside h)))

theorem WellFormed.estimatorSync (h : WellFormed s) : WellFormed s.estimatorSync :=
  .ite (.raiseEst (.beside h)) (.beside h)

theorem WellFormed.sequenceStart (h : WellFormed s) {c : Conv} : WellFormed (s.sequenceStart c) := .applyBoundary h

theorem WellFormed.beginConversion (h : WellFormed s) {c : Conv} {src : Source} {e : Nat} :
    WellFormed (s.beginConversion c src e) := by
  have begun : WellFormed (if (s.adc c).seqRuns then s else s.sequenceStart c) := .ite h (.sequenceStart h)
  exact .ite (.raise (.count16 (.updAdc begun))) (.updAdc begun)

theorem WellFormed.seqDone (h : WellFormed s) {c : Conv} : WellFormed (s.seqDone c) := .raise h

theorem WellFormed.beginWork (h : WellFormed s) {c : Conv} {src : Source} : WellFormed (s.beginWork c src) := by
  have started : WellFormed (if src = .seq ∨ (s.adc c).seqRuns = false then s.sequenceStart c else s) :=
    .ite (.sequenceStart h) h
  unfold State.beginWork
  dsimp only
  split
  · exact .ite (.seqDone started) started
  · exact .beginConversion (.maybe (.updAdc started) (.beside ·))

theorem WellFormed.workDone (h : WellFormed s) {c : Conv} {src : Source} : WellFormed (s.workDone c src) := by
  cases src with
  | urgent => exact h
  | strobe => exact .raise h
  | seq => exact .seqDone h
  | dark => exact .ite (.newEstimate h) h

theorem WellFormed.nextConversion (h : WellFormed s) {c : Conv} {n : Nat} : WellFormed (State.nextConversion c n s) := by
  induction n generalizing s with
  | zero => exact h
  | succ n ih =>
    have begun {u : State} (hu : WellFormed u) : WellFormed (if (u.adc c).conv.isNone then .nextConversion c n u else u) :=
      .maybe hu ih
    unfold State.nextConversion
    split
    · split
      · exact begun (.beginWork (.updAdc h))
      · exact h
    · split
      · exact ih (.workDone (.updAdc h))
      · split
        · exact begun (.beginWork (.updAdc h))
        · exact .beginConversion (.updAdc h)

/-- A request that is lost does what `lost` does. -/
theorem WellFormed.request (h : WellFormed s) {c : Conv} {src : Source} {lost : State → State}
    (hl : WellFormed (lost s)) : WellFormed (s.request c src lost) := by
  unfold State.request
  refine .ite hl (.ite (.beginWork h) ?_)
  split
  · exact .ite (.updAdc h) (.beginWork (.updAdc (.count16 h)))
  · exact .updAdc h

theorem WellFormed.accumulate (h : WellFormed s) {c : Conv} {j : Fin 16} {v : Int} : WellFormed (s.accumulate c j v) :=
  .ite h (.ite (.raise (.updAdc h)) (.maybe (.updAdc h) (.raise ·)))

theorem WellFormed.takeResult (h : WellFormed s) {c : Conv} {k : Conversion} {raw : Nat} :
    WellFormed (s.takeResult c k raw) :=
  .maybe (.maybe (.maybe (.maybe h (.accumulate ·)) (.beside ·)) (.raise ·)) (.raise ·)

theorem WellFormed.beginCalibration (h : WellFormed s) {c : Conv} : WellFormed (s.beginCalibration c) := by
  unfold State.beginCalibration
  exact .updAdc (.maybe h (.count16 ·))

theorem WellFormed.workEnd (h : WellFormed s) {c : Conv} : WellFormed (s.workEnd c) := by
  unfold State.workEnd
  split
  · exact .workDone (.updAdc h)
  · exact h

theorem WellFormed.conversionEnd (h : WellFormed s) {c : Conv} {raw : Nat} : WellFormed (s.conversionEnd c raw) := by
  unfold State.conversionEnd
  split
  · exact h
  next k _ =>
    have taken : WellFormed (if k.unref then
        (if k.src = .dark then { s with amb := { s.amb with burstUnref := true } } else s) else s.takeResult c k raw) :=
      .ite (.maybe h (.beside ·)) (.takeResult h)
    have goesOn {u : State} (hu : WellFormed u) : WellFormed (if (u.adc c).calWaits then u.beginCalibration c
        else .nextConversion c 24 u) := .ite (.beginCalibration hu) (.nextConversion hu)
    exact .ite (.updAdc (.updAdc taken)) (goesOn (.workEnd (.maybe (.updAdc taken) (.raise ·))))

theorem WellFormed.sequenceRequest (h : WellFormed s) {c : Conv} : WellFormed (s.sequenceRequest c) :=
  .ite (.raise (.count16 h)) (.ite h (.ite (.raise (.count16 h)) (.request h h)))

theorem WellFormed.lightRequest (h : WellFormed s) {src : Source} : WellFormed (s.lightRequest src) :=
  .ite (.count16 h) (.ite h (.request h (.count16 h)))

theorem WellFormed.unreference (h : WellFormed s) {c : Conv} : WellFormed (s.unreference c) := by
  unfold State.unreference
  split
  · exact .ite h (.raise (.count16 (.updAdc h)))
  · exact h

theorem WellFormed.refEnNow (h : WellFormed s) {c : Conv} {v : Word} : WellFormed (s.refEnNow c v) :=
  .ite (.updAdc (.setF h)) (.ite (.unreference (.updAdc (.setF h))) (.setF h))

theorem WellFormed.accSnapNow (h : WellFormed s) {c : Conv} {v : Word} : WellFormed (s.accSnapNow c v) :=
  .maybe (.setN (.setF (.setF (.setN (.setN (.setF h)))))) (.updAdc ·)

theorem WellFormed.calGoNow (h : WellFormed s) {c : Conv} {v : Word} : WellFormed (s.calGoNow c v) :=
  .ite h (.ite (.updAdc h) (.beginCalibration h))

theorem WellFormed.adcEnableNow (h : WellFormed s) {c : Conv} {v : Word} : WellFormed (s.adcEnableNow c v) :=
  .maybe (.ite (.updAdc (.setF h)) (.maybe (.setF h) fun hv => .applyPending (.updAdc hv))) (.estimatorSync ·)

theorem WellFormed.accClearNow (h : WellFormed s) {c : Conv} {v : Word} : WellFormed (s.accClearNow c v) := .framed h

theorem WellFormed.adcNow (h : WellFormed s) {c : Conv} {o : Nat} {v : Word} : WellFormed (s.adcNow c o v) :=
  .ite (.adcEnableNow h) (.ite (.refEnNow h) (.ite (.ite (.sequenceRequest h) h) (.ite (.calGoNow h)
    (.ite (.accSnapNow h) (.ite (.accClearNow h) (.setF h))))))

theorem WellFormed.ambNow (h : WellFormed s) {a : Nat} {v : Word} : WellFormed (s.ambNow a v) :=
  .ite (.estimatorSync (.setF h)) (.setF h)

end
end Sys2Proof.Machine
end

section
/-! SUPPORT. The operations of the mortar fabric, of the verdict store and of the camera ports keep the stores well-formed. -/

namespace Sys2Proof.Machine

-- In turn, not each proof in a thread of its own.
set_option Elab.async false

section
variable {s : State}

/-! ### The mortar fabric -/

theorem WellFormed.updFab (h : WellFormed s) {f : Fabric → Fabric} : WellFormed (s.updFab f) := .framed h

theorem WellFormed.updMor (h : WellFormed s) {m : MorId} {f : MorPort → MorPort} : WellFormed (s.updMor m f) := .framed h

theorem WellFormed.linkSend (h : WellFormed s) {m : MorId} {x : LinkItem} : WellFormed (s.linkSend m x) := .framed h

theorem WellFormed.forward (h : WellFormed s) {m : MorMsg} : WellFormed (s.forward m) := .framed h

theorem WellFormed.announceNow (h : WellFormed s) : WellFormed s.announceNow := .framed h

theorem WellFormed.receive (h : WellFormed s) {m : MorMsg} : WellFormed (s.receive m).1 := by
  unfold State.receive
  split
  · exact .count16 h
  · exact .countSat (.countSat (.updFab h))

theorem WellFormed.originate (h : WellFormed s) {d : BitVec 6} {c kind : Byte} {more : Bool} {b : List Byte} :
    WellFormed (s.originate d c kind more b) := by
  unfold State.originate
  split
  · exact h
  · have composed : WellFormed (s.compose d c kind more b).2 := .beside h
    exact .ite (.receive composed) (.forward composed)

theorem WellFormed.sendUnit (h : WellFormed s) {d : BitVec 6} {c kind : Byte} {b : List Byte} :
    WellFormed (s.sendUnit d c kind b) := .foldl h fun hv _ => .originate hv

theorem WellFormed.deliver (h : WellFormed s) {m : MorMsg} : WellFormed (s.deliver m) := by
  unfold State.deliver
  exact .ite (.originate (.receive h)) (.receive h)

theorem WellFormed.tapPump (h : WellFormed s) : WellFormed s.tapPump := by
  unfold State.tapPump
  exact .foldl (.beside h) fun hv _ => .sendUnit hv

theorem WellFormed.rerouted (h : WellFormed s) : WellFormed s.rerouted := by
  unfold State.rerouted
  exact .tapPump (.foldl (.updFab h) fun hv _ => .forward hv)

theorem WellFormed.takeId (h : WellFormed s) {i : Option (BitVec 6)} : WellFormed (s.takeId i) := by
  unfold State.takeId
  split
  · exact .updFab h
  · exact .bbEvent (.updFab h)

theorem WellFormed.routeChange (h : WellFormed s) : WellFormed s.routeChange := .raise h

theorem WellFormed.settleId (h : WellFormed s) {a : Announce} : WellFormed (s.settleId a) := by
  unfold State.settleId
  refine .ite h (.announceNow ?_)
  split
  · exact .bbEvent (.updFab (.takeId h))
  · exact .updFab (.takeId h)

theorem WellFormed.takeAnnounce (h : WellFormed s) {m : MorId} {a : Announce} : WellFormed (s.takeAnnounce m a) := by
  unfold State.takeAnnounce
  exact .ite h (.maybe (.settleId (.ite (.updFab h) (.routeChange (.updFab h)))) fun hv =>
    .foldl hv fun hw _ => .ite hw (.linkSend hw))

theorem WellFormed.morUp (h : WellFormed s) {m : MorId} {degraded : Bool} : WellFormed (s.morUp m degraded) :=
  .rerouted (.routeChange (.announceNow (.updMor h)))

theorem WellFormed.morDown (h : WellFormed s) {m : MorId} : WellFormed (s.morDown m) :=
  .rerouted (.routeChange (.announceNow (.updFab (.updMor h))))

/-! ### The verdict store -/

/-- Another verdict unit, whose store, mirror and owners are canonical. -/
theorem WellFormed.setVs (h : WellFormed s) {x : Verdict}
    (hx : s.vs.memWf = true → x.memWf = true := by intro hv; exact hv) :
    WellFormed { s with vs := x } := ⟨h.fields, h.bb, h.trowels, hx h.vs, h.shadow, h.faulted⟩

theorem WellFormed.backlogEdge (h : WellFormed s) : WellFormed s.backlogEdge :=
  .maybe (.setVs h) (.count16 ·)

/-- A word and the frame index of its entry are written as the canonical form asks. -/
theorem Verdict.memWf_write {v : Verdict} (h : v.memWf = true) (a : Nat) (f : Word) (w : BitVec 16) :
    ({ v with store := sparseSet (fun _ => 0) v.store a w
              owner := sparseSet (fun _ => 0) v.owner a f } : Verdict).memWf = true := by
  simp only [Verdict.memWf, Bool.and_eq_true] at h ⊢
  obtain ⟨⟨store, mirror⟩, owner⟩ := h
  exact ⟨⟨sparseSet_wf _ _ _ _ store, mirror⟩, sparseSet_wf _ _ _ _ owner⟩

theorem WellFormed.storeWrite (h : WellFormed s) {a : BitVec 14} {f : Word} {w : BitVec 16} :
    WellFormed (s.storeWrite a f w) := by
  refine .backlogEdge (.setVs h fun hv => ?_)
  have written := Verdict.memWf_write hv a.toNat f w
  split <;> exact written

/-! ### The camera ports -/

theorem WellFormed.updPort (h : WellFormed s) {p : PortId} {f : Port → Port} : WellFormed (s.updPort p f) := .framed h

theorem WellFormed.updFrame (h : WellFormed s) {id : Nat} {f : Frame → Frame} : WellFormed (s.updFrame id f) := .framed h

theorem WellFormed.markDamaged (h : WellFormed s) {l : List Nat} : WellFormed (s.markDamaged l) := .framed h

theorem WellFormed.markTruncated (h : WellFormed s) {l : List Nat} : WellFormed (s.markTruncated l) := .framed h

theorem WellFormed.bufPush (h : WellFormed s) {p : PortId} {l : List BufItem} : WellFormed (s.bufPush p l) := by
  unfold State.bufPush
  exact .setN (.updPort h)

theorem WellFormed.closePort (h : WellFormed s) {p : PortId} : WellFormed (s.closePort p) :=
  .bufPush (.updPort (.markTruncated h))

theorem WellFormed.portPower (h : WellFormed s) {p : PortId} : WellFormed (s.portPower p) := .updPort h

theorem WellFormed.portEnable (h : WellFormed s) {p : PortId} : WellFormed (s.portEnable p) :=
  .setN (.updPort (.portPower h))

theorem WellFormed.portDown (h : WellFormed s) {p : PortId} : WellFormed (s.portDown p) := .updPort (.closePort h)

theorem WellFormed.csiNow (h : WellFormed s) {a : Nat} {v : Word} : WellFormed (s.csiNow a v) :=
  .ite (.ite (.ite (.setF h) (.portEnable (.setF h))) (.ite (.portDown (.setF h)) (.setF h)))
    (.ite (.bufPush (.updPort (.markTruncated (.setF h)))) (.setF h))

/-- A packet that its port's receiver takes has the effect `f`. -/
theorem WellFormed.packet (h : WellFormed s) {p : PortId} {vc : Fin 16} {corrected : Bool} {f : State → State}
    (hf : ∀ {u}, WellFormed u → WellFormed (f u)) : WellFormed (s.packet p vc corrected f) := by
  have counted : WellFormed (if corrected then s.count16 (Fld.csiHdrCorrCount p) else s) := .maybe h (.count16 ·)
  exact .ite h (.ite (.count16 counted) (hf counted))

theorem WellFormed.missingEnd (h : WellFormed s) {p : PortId} {vc : Fin 16} : WellFormed (s.missingEnd p vc) := by
  unfold State.missingEnd
  split
  · exact h
  · exact .bufPush (.updPort (.count16 (.markTruncated h)))

theorem WellFormed.openFrames (h : WellFormed s) {p : PortId} {vc : Fin 16} {num : BitVec 16} :
    WellFormed (s.openFrames p vc num) := by
  unfold State.openFrames
  exact .ite (.updPort (.beside h)) (.bufPush (.updPort (.beside h)))

theorem WellFormed.frameEnd (h : WellFormed s) {p : PortId} {vc : Fin 16} : WellFormed (s.frameEnd p vc) := by
  unfold State.frameEnd
  split
  · exact .bufPush (.updPort h)
  · exact .ite (.updPort (.count16 h)) (.count16 h)

theorem WellFormed.overload (h : WellFormed s) {p : PortId} {id : Nat} : WellFormed (s.overload p id) :=
  .updPort (.count16 (.updFrame h))

theorem WellFormed.takeLine (h : WellFormed s) {p : PortId} {f : Frame} {b g m : Nat} {x : LongPacket} :
    WellFormed (s.takeLine p f b g m x) := by
  have checked : WellFormed (if x.crcBad then (s.count16 (Fld.csiCrcErrCount p x.vc.val)).markDamaged [f.id] else s) :=
    .maybe h fun hv => .markDamaged (.count16 hv)
  unfold State.takeLine
  exact .ite checked (.ite (.overload checked) (.ite (.markDamaged (.count16 checked))
    (.bufPush (.updFrame (.maybe checked fun hv => .markDamaged (.count16 hv))))))

theorem WellFormed.pixels (h : WellFormed s) {p : PortId} {x : LongPacket} : WellFormed (s.pixels p x) := by
  unfold State.pixels
  refine .ite (.count16 h) ?_
  split
  · exact .count16 h
  · refine .ite (.count16 h) ?_
    split
    · exact .count16 h
    · exact .ite (.markDamaged (.count16 h)) (.takeLine h)

theorem WellFormed.takeEmbedded (h : WellFormed s) {p : PortId} {ids : List Nat} {x : LongPacket} :
    WellFormed (s.takeEmbedded p ids x) := by
  have checked : WellFormed (if x.crcBad then (s.count16 (Fld.csiCrcErrCount p x.vc.val)).markDamaged ids else s) :=
    .maybe h fun hv => .markDamaged (.count16 hv)
  exact .ite checked (.ite (.foldl checked fun hv _ => .overload hv) (.bufPush (.beside checked)))

theorem WellFormed.embedded (h : WellFormed s) {p : PortId} {x : LongPacket} : WellFormed (s.embedded p x) := by
  unfold State.embedded
  refine .ite (.count16 h) ?_
  split
  · exact .count16 h
  · exact .ite (.count16 h) (.ite (.markDamaged (.count16 h)) (.takeEmbedded h))

theorem WellFormed.lapAtIndex (h : WellFormed s) {k : CtxId} {a : BitVec 14} : WellFormed (s.lapAtIndex k a) := by
  unfold State.lapAtIndex
  split
  · exact .ite (.bbEvent (.count16 (.setVs h))) h
  · exact h

theorem WellFormed.indexFrame (h : WellFormed s) {id : Nat} : WellFormed (s.indexFrame id) := by
  unfold State.indexFrame
  split
  · exact h
  · exact .storeWrite (.setF (.updFrame (.beside (.lapAtIndex h))))

end
end Sys2Proof.Machine
end

section
/-! SUPPORT. The operations of the pixel pipeline, its taps and the decode cluster keep the stores well-formed. -/

namespace Sys2Proof.Machine

-- In turn, not each proof in a thread of its own.
set_option Elab.async false

section
variable {s : State}

/-! ### Tap packets -/

theorem WellFormed.tapPush (h : WellFormed s) {f : Frame} {b : List Byte} : WellFormed (s.tapPush f b) :=
  .tapPump (.beside h)

theorem WellFormed.tapCut (h : WellFormed s) {id : Nat} : WellFormed (s.tapCut id) := by
  unfold State.tapCut
  split
  · exact h
  · exact .ite h (.maybe (.count16 (.updFrame h)) (.tapPush ·))

theorem WellFormed.tapsGone (h : WellFormed s) {sel : Option (BitVec 6) → Bool} : WellFormed (s.tapsGone sel) :=
  .foldl h fun hv _ => .tapCut hv

theorem WellFormed.tapsLost (h : WellFormed s) {sel : Option (BitVec 6) → Bool} : WellFormed (s.tapsLost sel) := by
  unfold State.tapsLost
  exact .foldl (.beside (.tapsGone h)) fun hv _ => .ite hv (.count16 hv)

theorem WellFormed.tapLine (h : WellFormed s) {id point l : Nat} {px : List Pixel} :
    WellFormed (s.tapLine id point l px) := by
  unfold State.tapLine
  split
  · exact h
  · exact .ite h (.ite (.updFrame h) (.ite (.tapCut h) (.ite (.tapCut h)
      (.updFrame (.tapPush (.ite h (.beside (.tapPush h))))))))

theorem WellFormed.tapEnd (h : WellFormed s) {id : Nat} : WellFormed (s.tapEnd id) := by
  unfold State.tapEnd
  split
  · exact h
  · exact .ite (.tapCut h) (.maybe (.updFrame h) (.tapPush ·))

/-! ### Lines through the stages -/

theorem WellFormed.truncatedEvent (h : WellFormed s) : WellFormed s.truncatedEvent := .raise h

theorem WellFormed.firstMark (h : WellFormed s) : WellFormed s.firstMark := .ite h (.freezeIf (.setBb h))

theorem WellFormed.tileRow (h : WellFormed s) {id : Nat} : WellFormed (s.tileRow id) := by
  unfold State.tileRow
  split
  · exact h
  · exact .ite h (.ite (.maybe (.bbEvent (.count16 (.updFrame h))) fun hv => .firstMark (.truncatedEvent hv))
      (.updFrame h))

theorem WellFormed.produceLuma (h : WellFormed s) {id r : Nat} : WellFormed (s.produceLuma id r) := by
  unfold State.produceLuma
  split
  · exact h
  · exact .tapLine (.tapLine (.updFrame h))

theorem WellFormed.produceBin (h : WellFormed s) {id r : Nat} : WellFormed (s.produceBin id r) := by
  unfold State.produceBin
  split
  · exact h
  · exact .tapLine (.updFrame (.maybe h (.tileRow ·)))

theorem WellFormed.gatherEvidence (h : WellFormed s) {id : Nat} {closing : Bool} :
    WellFormed (s.gatherEvidence id closing) := .framed h

theorem WellFormed.produce (h : WellFormed s) {id : Nat} {closing : Bool} : WellFormed (s.produce id closing) := by
  unfold State.produce
  split
  · exact h
  · exact .gatherEvidence (.foldl (.foldl h fun hv _ => .produceLuma hv) fun hv _ => .produceBin hv)

theorem WellFormed.lineIn (h : WellFormed s) {id : Nat} {px : List Pixel} : WellFormed (s.lineIn id px) := by
  unfold State.lineIn
  split
  · exact h
  · exact .ite (.produce (.tapLine (.updFrame (.tapLine (.updFrame h))))) (.tapLine (.updFrame h))

/-! ### Frames -/

theorem WellFormed.fsEvent (h : WellFormed s) {k : CtxId} : WellFormed (s.fsEvent k) := h.raise.raise

theorem WellFormed.feEvent (h : WellFormed s) {k : CtxId} : WellFormed (s.feEvent k) := .raise h

theorem WellFormed.startFrame (h : WellFormed s) {id : Nat} : WellFormed (s.startFrame id) := by
  unfold State.startFrame
  split
  · exact h
  · exact .ite h (.maybe (.beside (.updFrame (.fsEvent (.applyBoundary h)))) (.bbEvent ·))

theorem WellFormed.flushFrame (h : WellFormed s) {id : Nat} : WellFormed (s.flushFrame id) := .tapEnd (.produce h)

theorem WellFormed.closeFrame (h : WellFormed s) {id : Nat} : WellFormed (s.closeFrame id) := by
  unfold State.closeFrame
  split
  · exact h
  · exact .ite h (.flushFrame (.maybe (.maybe (.maybe (.maybe (.feEvent (.setN (.setN (.updFrame h))))
      fun hv => .raise (.count16 hv)) fun hv => .truncatedEvent (.count16 hv)) (.raise ·)) (.firstMark ·)))

theorem WellFormed.frameIn (h : WellFormed s) {id : Nat} : WellFormed (s.frameIn id) := by
  unfold State.frameIn
  dsimp only
  split
  · exact .startFrame h
  · exact .maybe (.startFrame h) (.closeFrame ·)

theorem WellFormed.endFrame (h : WellFormed s) {f : Frame} : WellFormed (s.endFrame f) := by
  unfold State.endFrame
  exact .ite (.closeFrame (.updPort (.markTruncated h))) (.bufPush (.updFrame (.updPort (.markTruncated h))))

theorem WellFormed.serve (h : WellFormed s) {p : PortId} : WellFormed (s.serve p) := by
  unfold State.serve
  split
  · exact h
  next item r _ =>
    have taken : WellFormed (s.updPort p fun x => { x with buf := r }) := .updPort h
    cases item with
    | fs ids => exact .foldl taken fun hv _ => .frameIn hv
    | fe ids => exact .foldl taken fun hv _ => .closeFrame hv
    | close id => exact .closeFrame taken
    | emb => exact taken
    | line id b n =>
      dsimp only
      split
      · exact taken
      · exact .ite taken (.ite h (.ite (.updPort (.countWrap taken)) (.lineIn (.countWrap taken))))

theorem WellFormed.ctxNow (h : WellFormed s) {a : Nat} {v : Word} : WellFormed (s.ctxNow a v) := by
  unfold State.ctxNow
  refine .ite (.setF h) (.ite (.ite (.setF h) (.maybe (.maybe ?_ (.bbEvent ·)) (.bbEvent ·)))
    (.foldl (.applyPending (.setF h)) fun hv _ => .endFrame hv))
  split
  · exact .maybe (.setF h) (.bbEvent ·)
  · exact .setF h

/-! ### Joint exchange -/

theorem WellFormed.schedule (h : WellFormed s) : WellFormed s.schedule := .framed h

theorem WellFormed.freeCore (h : WellFormed s) {i : Fin 16} : WellFormed (s.freeCore i) := .framed h

theorem WellFormed.sendJoint (h : WellFormed s) {c : Candidate} {f : Frame} {i : Nat} {g : Option GridRead} :
    WellFormed (s.sendJoint c f i g) := by
  unfold State.sendJoint
  dsimp only
  split
  · exact .sendUnit (.countWrap (.updFrame h))
  · exact .count16 h

theorem WellFormed.joinFrame (h : WellFormed s) {f : Frame} {m : JointMsg} : WellFormed (s.joinFrame f m) :=
  .ite (.count16 h) (.ite (.schedule (.beside h)) (.ite (.schedule (.beside h)) (.beside h)))

theorem WellFormed.matchJoint (h : WellFormed s) {m : JointMsg} : WellFormed (s.matchJoint m) := by
  unfold State.matchJoint
  split
  · exact .joinFrame h
  · exact .ite (.count16 h) (.beside h)

theorem WellFormed.rematch (h : WellFormed s) : WellFormed s.rematch := .foldl (.beside h) fun hv _ => .matchJoint hv

/-! ### The decode cores and the scrubber -/

theorem WellFormed.failCandidate (h : WellFormed s) {c : Candidate} : WellFormed (s.failCandidate c) := by
  unfold State.failCandidate
  split
  · exact .count16 h
  · exact .updFrame (.countWrap h)

theorem WellFormed.giveResult (h : WellFormed s) {i : Fin 16} {f : Frame} {c : Candidate} {r : Result} :
    WellFormed (s.giveResult i f c r) :=
  .ite (.schedule (.updFrame (.count16 (.freeCore h)))) (.beside (.updFrame (.maybe (.countWrap h) (.countWrap ·))))

theorem WellFormed.resolve (h : WellFormed s) {i : Fin 16} {out : DecodeOutcome} : WellFormed (s.resolve i out) := by
  unfold State.resolve
  split
  · split
    · exact .schedule (.freeCore h)
    · split
      · exact .schedule (.sendJoint (.freeCore h))
      · split
        · exact .giveResult h
        · exact .schedule (.failCandidate (.freeCore h))
  · exact h

theorem WellFormed.tileEcc (h : WellFormed s) {arg : Nat} : WellFormed (s.tileEcc arg) :=
  .freezeIf (.bbEvent (.raise (.count16 h)))

theorem WellFormed.failBusy (h : WellFormed s) {n : Nat} {i : Fin 16} : WellFormed (State.failBusy n s i) := by
  unfold State.failBusy
  split
  · exact .ite (.resolve (.markDamaged h)) h
  · exact h

theorem WellFormed.failWaiting (h : WellFormed s) {c : Candidate} : WellFormed (s.failWaiting c) :=
  .markDamaged (.failCandidate h)

theorem WellFormed.recordBroken (h : WellFormed s) {n : Nat} : WellFormed (s.recordBroken n) :=
  .foldl (.foldl (.beside h) fun hv _ => .failWaiting hv) fun hv _ => .failBusy hv

theorem WellFormed.markBad (h : WellFormed s) {w n : Nat} : WellFormed (s.markBad w n) := .framed h

theorem WellFormed.storeRead (h : WellFormed s) {w : Nat} {f : StoreFinding} : WellFormed (s.storeRead w f) := by
  cases f with
  | clean => exact h
  | corrected => exact .countSat h
  | uncorrectable holder =>
    unfold State.storeRead
    dsimp only
    split
    · exact .markBad (.markDamaged (.tileEcc h))
    · cases holder with
      | nobody => exact .tileEcc h
      | evidence k fidx => exact .markDamaged (.tileEcc h)
      | candidate n => exact .recordBroken (.tileEcc h)

theorem WellFormed.passFrame (h : WellFormed s) {f : Frame} : WellFormed (s.passFrame f) :=
  .foldl (.beside (.updFrame h)) fun hv _ => .joinFrame hv

theorem WellFormed.passIdle (h : WellFormed s) {k : CtxId} : WellFormed (s.passIdle k) := by
  unfold State.passIdle
  split
  · exact .ite (.passFrame h) h
  · exact h

theorem WellFormed.decStop (h : WellFormed s) : WellFormed s.decStop := by
  unfold State.decStop
  exact .beside (.foldl h fun hv _ => .failCandidate hv)

theorem WellFormed.decNow (h : WellFormed s) {a : Nat} {v : Word} : WellFormed (s.decNow a v) :=
  .maybe (.setF h) (.decStop ·)

end
end Sys2Proof.Machine
end

section
/-! SUPPORT. The operations of the record former, the verdict port and the links keep the stores well-formed. -/

namespace Sys2Proof.Machine

-- In turn, not each proof in a thread of its own.
set_option Elab.async false

section
variable {s : State}

/-! ### The record queues of the links -/

theorem WellFormed.pairSend (h : WellFormed s) {m : PairMsg} : WellFormed (s.pairSend m) := .framed h

theorem WellFormed.mirror (h : WellFormed s) {m : PairMsg} : WellFormed (s.mirror m) := .framed h

theorem WellFormed.askBlock (h : WellFormed s) : WellFormed s.askBlock := .framed h

theorem WellFormed.usbStart (h : WellFormed s) : WellFormed s.usbStart := .framed h

theorem WellFormed.usbDrop (h : WellFormed s) : WellFormed s.usbDrop := by
  unfold State.usbDrop
  dsimp only
  split
  · exact h
  · exact .mirror (.countSat (.beside h))

theorem WellFormed.usbRoom (h : WellFormed s) {k n : Nat} : WellFormed (State.usbRoom k s n) := by
  induction k generalizing s with
  | zero => exact h
  | succ k ih => exact .ite (ih (.usbDrop h)) h

theorem WellFormed.usbPush (h : WellFormed s) {r : List Byte} : WellFormed (s.usbPush r) := by
  unfold State.usbPush
  exact .usbStart (.beside (.usbRoom h))

theorem WellFormed.serPush (h : WellFormed s) {r : List Byte} : WellFormed (s.serPush r) := by
  unfold State.serPush
  refine .beside (.ite h ?_)
  split
  · exact h
  · exact .mirror (.countSat (.beside h))

theorem WellFormed.gwPump (h : WellFormed s) {k : Nat} : WellFormed (State.gwPump k s) := by
  induction k generalizing s with
  | zero => exact h
  | succ k ih =>
    unfold State.gwPump
    split
    · exact .ite h (ih (.originate (.updFab h)))
    · exact h

theorem WellFormed.gwRoom (h : WellFormed s) {k n : Nat} : WellFormed (State.gwRoom k s n) := by
  induction k generalizing s with
  | zero => exact h
  | succ k ih =>
    unfold State.gwRoom
    split
    · exact h
    · exact .ite (ih (.mirror (.countSat (.updFab h)))) h

theorem WellFormed.gwPush (h : WellFormed s) {r : List Byte} : WellFormed (s.gwPush r) := by
  unfold State.gwPush
  exact .gwPump (.updFab (.gwRoom h))

theorem WellFormed.gwRestart (h : WellFormed s) : WellFormed s.gwRestart := by
  unfold State.gwRestart
  split
  · exact .updFab h
  · exact .gwPump (.updFab h)

theorem WellFormed.toLinks (h : WellFormed s) {takes : State → LinkId → Bool} {r : List Byte} :
    WellFormed (s.toLinks takes r) := by
  unfold State.toLinks
  exact .maybe (.ite (.serPush (.maybe h (.usbPush ·))) (.maybe h (.usbPush ·))) (.gwPush ·)

/-! ### Records, results and verdicts -/

theorem WellFormed.nextSeq (h : WellFormed s) : WellFormed s.nextSeq := by
  unfold State.nextSeq
  exact .askBlock (.countWrap (.beside (.maybe h (.countSat ·))))

theorem WellFormed.formRecord (h : WellFormed s) {make : Word → List Byte} {msg : List Byte → PairMsg} :
    WellFormed (s.formRecord make msg) := .ite h (.ite (.beside h) (.mirror (.toLinks (.nextSeq h))))

theorem WellFormed.resTake (h : WellFormed s) {v : Word} : WellFormed (s.resTake v) := by
  unfold State.resTake
  split
  · exact .ite (.beside h) (.bbEvent (.count16 h))
  · exact .bbEvent (.count16 h)

theorem WellFormed.recNow (h : WellFormed s) {a : Nat} {v : Word} : WellFormed (s.recNow a v) :=
  .ite (.ite (.formRecord h) h) (.ite (.resTake h) (.setF h))

theorem WellFormed.decideHead (h : WellFormed s) {cls : Nat} {auto : Bool} : WellFormed (s.decideHead cls auto) := by
  unfold State.decideHead
  split
  · exact h
  next n r _ =>
    have taken : WellFormed ({ s with vs := { s.vs with decide_ := r, headFrom := s.nowNs } }.countWrap Fld.vsDecidedCount
        1) := .countWrap (.setVs h)
    have counted : WellFormed (if auto then ((State.countWrap { s with vs := { s.vs with decide_ := r, headFrom := s.nowNs } }
        Fld.vsDecidedCount 1).count16 Fld.vsAutoCount).bbEvent 0x0A#7 (BitVec.ofNat 8 n.ctx.val) 0x0002#16 n.fidx
        else _) := .maybe taken fun hv => .bbEvent (.count16 hv)
    exact .ite (.beside (.ite (.bbEvent (.count16 counted)) (.ite counted (.setVs (.storeWrite counted)))))
      (.formRecord (.beside (.ite (.bbEvent (.count16 counted)) (.ite counted (.setVs (.storeWrite counted))))))

theorem WellFormed.vsNow (h : WellFormed s) {a : Nat} {v : Word} : WellFormed (s.vsNow a v) := by
  unfold State.vsNow
  refine .ite ?_ (.setF h)
  split
  · exact .ite (.decideHead h) (.bbEvent (.count16 h))
  · exact .bbEvent (.count16 h)

theorem WellFormed.vqEdge (h : WellFormed s) : WellFormed s.vqEdge := .setVs h

/-! ### USB -/

theorem WellFormed.usbDropTransfer (h : WellFormed s) : WellFormed s.usbDropTransfer := .framed h

theorem WellFormed.usbDefault (h : WellFormed s) : WellFormed s.usbDefault := .framed h

theorem WellFormed.usbAttach (h : WellFormed s) : WellFormed s.usbAttach := .framed h

theorem WellFormed.reply (h : WellFormed s) {a : Answer} : WellFormed (s.reply a) := .framed h

theorem WellFormed.usbAbandon (h : WellFormed s) : WellFormed s.usbAbandon := .tapsLost (.usbDropTransfer h)

theorem WellFormed.usbDetach (h : WellFormed s) : WellFormed s.usbDetach :=
  .ite h (.beside (.usbDefault (.usbAbandon h)))

theorem WellFormed.usbNow (h : WellFormed s) {a : Nat} {v : Word} : WellFormed (s.usbNow a v) :=
  .ite (.ite (.usbAttach (.setF h)) (.usbDetach (.setF h))) (.ite (.maybe h (.beside ·)) (.setF h))

theorem WellFormed.usbNote (h : WellFormed s) {r : VendorSetup} : WellFormed (s.usbNote r) := by
  unfold State.usbNote
  exact .beside (.maybe h (.count16 ·))

/-- A vendor request whose effect keeps the stores well-formed. -/
theorem WellFormed.vendor (h : WellFormed s) {eff : State → State} (he : ∀ {u}, WellFormed u → WellFormed (eff u))
    {r : VendorSetup} {data resp : List Byte} {done : Bool} : WellFormed (s.vendor r data resp eff done) := by
  unfold State.vendor
  dsimp only
  split
  · exact .ite (.maybe (.count16 (.beside h)) (.usbNote ·))
      (.maybe (.beside (.maybe (.beside h) (.count16 ·))) fun hv => .usbNote (he hv))
  · exact .maybe (.beside (.beside h)) fun hv => .usbNote (he hv)

theorem WellFormed.usbRequest (h : WellFormed s) {eff : State → State} (he : ∀ {u}, WellFormed u → WellFormed (eff u))
    {r : VendorSetup} {dirIn lenOk halted : Bool} {data resp : List Byte} {done : Bool} :
    WellFormed (s.usbRequest r dirIn lenOk halted data resp eff done) := .ite h (.ite (.reply h) (.vendor h he))

end
end Sys2Proof.Machine
end

section
/-! SUPPORT. The operations of the serial line, the time base, the bonded pair and the mortar writes keep the stores
well-formed. -/

namespace Sys2Proof.Machine

-- In turn, not each proof in a thread of its own.
set_option Elab.async false

section
variable {s : State}

/-! ### The serial line -/

theorem WellFormed.updSer (h : WellFormed s) {f : Ser → Ser} : WellFormed (s.updSer f) := .framed h

theorem WellFormed.serRelease (h : WellFormed s) : WellFormed s.serRelease := .framed h

theorem WellFormed.serRecordSent (h : WellFormed s) : WellFormed s.serRecordSent := by
  unfold State.serRecordSent
  dsimp only
  split
  · exact .updSer h
  next e _ =>
    have counted : WellFormed (if s.serParty && decide (0 < s.ser.retries) && !s.ser.noListener
        then s.count16 Fld.serRetryCount else s) := .maybe h (.count16 ·)
    have noted := counted.maybe (p := (s.ser.lateCancel && decide (s.ser.next = 0)) = true) (.raise (t := 3) (n := 36) ·)
    exact .ite (.beside noted) (.ite (.mirror (.beside noted)) (.beside noted))

theorem WellFormed.serCancel (h : WellFormed s) {v : Word} : WellFormed (s.serCancel v) := by
  unfold State.serCancel
  dsimp only
  split
  · exact h
  · exact .ite h (.ite (.count16 (.beside h)) (.mirror (.count16 (.beside h))))

theorem WellFormed.serRequest (h : WellFormed s) {addr code : Byte} {r : SerReq} {status : Byte} {d : List Byte} :
    WellFormed (s.serRequest addr code r status d) := by
  have kept {u : State} (hu : WellFormed u) {p : Prop} [Decidable p] {f : Ser → Ser} :
      WellFormed (if p then u else u.updSer f) := .ite hu (.updSer hu)
  unfold State.serRequest
  split
  · exact h
  · dsimp only
    split
    · exact .updSer (.updSer h)
    · split
      · exact .updSer (kept (.updSer (.updSer h)))
      · split
        · exact .updSer (kept (.count16 (.updSer (.updSer h))))
        · split
          · exact .updSer (.count16 (.updSer (.updSer (.updSer h))))
          · exact .updSer (kept (.updSer (.updSer h)))

theorem WellFormed.serNow (h : WellFormed s) {a : Nat} {v : Word} : WellFormed (s.serNow a v) :=
  .ite (.ite (.setF h) (.serRelease (.setF h))) (.ite (.maybe h (.updSer ·)) (.ite (.serCancel h) (.setF h)))

/-! ### The time base -/

theorem WellFormed.updTime (h : WellFormed s) {f : TimeUnit → TimeUnit} : WellFormed (s.updTime f) := .framed h

theorem WellFormed.track (h : WellFormed s) {r : Int} : WellFormed (s.track r) := .framed h

theorem WellFormed.endCounts (h : WellFormed s) {p : Ref → Bool} : WellFormed (s.endCounts p) := .framed h

theorem WellFormed.steer (h : WellFormed s) {r o : Int} : WellFormed (s.steer r o) :=
  .ite (.updTime h) (.maybe (.track h) (.raise ·))

theorem WellFormed.firstSet (h : WellFormed s) {o : Int} : WellFormed (s.firstSet o) := by
  unfold State.firstSet
  exact .maybe (.maybe (.ite (.updTime h) (.updTime h)) (.raiseAll ·)) (.raiseAll ·)

theorem WellFormed.commit (h : WellFormed s) {c : Ref} : WellFormed (s.commit c) := by
  unfold State.commit
  exact .maybe (.ite (.raise (.bbEvent (.track (.setF (.firstSet (.updTime (.setF (.updTime h))))))))
    (.steer (.bbEvent (.count16 (.updTime (.setF (.updTime h))))))) (.endCounts ·)

theorem WellFormed.retarget (h : WellFormed s) : WellFormed s.retarget := by
  unfold State.retarget
  dsimp only
  refine .ite h ?_
  split
  · exact .ite (.commit (.updTime (.maybe h (.count16 ·)))) (.updTime (.maybe h (.count16 ·)))
  · exact .updTime (.maybe h (.count16 ·))

theorem WellFormed.loseRef (h : WellFormed s) {c : Ref} : WellFormed (s.loseRef c) :=
  .ite (.endCounts (.updTime (.freezeIf (.bbEvent (.count16 (.raise (.updTime h))))))) (.updTime h)

theorem WellFormed.timeSample (h : WellFormed s) {c : Ref} {x r o : Int} : WellFormed (s.timeSample c x r o) := by
  unfold State.timeSample
  dsimp only
  refine .ite h (.ite (.retarget (.ite ?_ (.updTime ?_))) (.ite (.commit ?_) (.ite (.steer ?_) (.retarget ?_))))
  · exact .loseRef (.maybe (.maybe h (.setF ·)) (.count16 ·))
  · exact .loseRef (.maybe (.maybe h (.setF ·)) (.count16 ·))
  all_goals exact .maybe (.updTime (.maybe (.maybe h (.setF ·)) (.count16 ·))) (.raise ·)

theorem WellFormed.carriedSample (h : WellFormed s) {c : Ref} {ns : Int} : WellFormed (s.carriedSample c ns) :=
  .timeSample h

theorem WellFormed.coreCycle (h : WellFormed s) : WellFormed s.coreCycle := by
  unfold State.coreCycle
  exact .ite (.ite (.raise (.track (.beside h))) (.updTime (.beside h))) (.beside h)

/-! ### The bonded pair -/

theorem WellFormed.updPair (h : WellFormed s) {f : Pair → Pair} : WellFormed (s.updPair f) := .framed h

theorem WellFormed.becomeActive (h : WellFormed s) : WellFormed s.becomeActive := .framed h

theorem WellFormed.becomeStandby (h : WellFormed s) : WellFormed s.becomeStandby := .framed h

theorem WellFormed.dropQueues (h : WellFormed s) : WellFormed s.dropQueues := .framed h

theorem WellFormed.replayQueues (h : WellFormed s) : WellFormed s.replayQueues := .framed h

theorem WellFormed.resyncIfDue (h : WellFormed s) : WellFormed s.resyncIfDue := by
  unfold State.resyncIfDue
  exact .ite (.askBlock (.pairSend (.pairSend (.count16 (.beside h))))) h

theorem WellFormed.numberHeld (h : WellFormed s) {l : List (List Byte)} : WellFormed (s.numberHeld l) :=
  .foldl h fun hv _ => .formRecord hv

theorem WellFormed.waitActive (h : WellFormed s) : WellFormed s.waitActive := by
  unfold State.waitActive
  exact .usbStart (.numberHeld (.beside (.becomeActive h)))

theorem WellFormed.leaveActive (h : WellFormed s) {c : Word} : WellFormed (s.leaveActive c) := by
  unfold State.leaveActive
  exact .bbEvent (.beside (.dropQueues (.becomeStandby (.tapsLost h))))

theorem WellFormed.takeover (h : WellFormed s) {c : Nat} : WellFormed (s.takeover c) := by
  have entered : WellFormed (s.becomeActive.raiseAll 11) := .raiseAll (.becomeActive h)
  unfold State.takeover
  exact .ite h (.resyncIfDue (.freeze (.bbEvent (.count16 (.usbStart (.gwRestart (.numberHeld (.formRecord
    (.driveColumns (.replayQueues (.beside (.pairSend entered))))))))))))

theorem WellFormed.waitDecide (h : WellFormed s) {first : Bool} : WellFormed (s.waitDecide first) :=
  .ite h (.ite (.becomeStandby h) (.ite (.resyncIfDue (.waitActive h)) h))

theorem WellFormed.settleRole (h : WellFormed s) {m : HelloMsg} {lvl : Nat} : WellFormed (s.settleRole m lvl) := by
  unfold State.settleRole
  split
  · exact .maybe (.ite (.bbEvent (.updPair h)) (.updPair h)) (.bbEvent ·)
  · exact h

theorem WellFormed.markFault (h : WellFormed s) {m : LightMark} : WellFormed (s.markFault m) := .framed h

theorem WellFormed.takeLight (h : WellFormed s) {m : LightMark} : WellFormed (s.takeLight m) := by
  unfold State.takeLight
  exact .beside (.markFault (.setF (.setF (.setF (.setF (.setN (.foldl (.foldl h fun hv _ => .setN hv)
    fun hv _ => .setF hv)))))))

theorem WellFormed.takeStore (h : WellFormed s) {l : List (Nat × BitVec 16 × Word)} : WellFormed (s.takeStore l) :=
  .foldl (.foldl h fun hv _ => .storeWrite hv) fun hv _ => .storeWrite hv

theorem WellFormed.pairNow (h : WellFormed s) {a : Nat} {v : Word} : WellFormed (s.pairNow a v) := by
  unfold State.pairNow
  exact .ite (.ite (.waitDecide (.updPair (.tapsLost (.setF h)))) (.ite (.usbStart (.beside (.setF h))) (.setF h)))
    (.ite (.maybe h (.pairSend ·)) (.ite (.maybe h (.updPair ·)) (.setF h)))

theorem WellFormed.pairSleep (h : WellFormed s) : WellFormed s.pairSleep := by
  unfold State.pairSleep
  exact .ite h (.maybe (.beside (.updPair h)) (.bbEvent ·))

theorem WellFormed.pairWake (h : WellFormed s) : WellFormed s.pairWake := by
  unfold State.pairWake
  exact .maybe (.waitDecide h) (.dropQueues ·)

/-! ### The mortar ports -/

theorem WellFormed.morTryUp (h : WellFormed s) {m : MorId} : WellFormed (s.morTryUp m) := .ite (.morUp h) h

theorem WellFormed.transit (h : WellFormed s) {m : MorMsg} : WellFormed (s.transit m) :=
  .ite (.deliver h) (.ite (.count16 h) (.forward (.countWrap h)))

theorem WellFormed.morNow (h : WellFormed s) {a : Nat} {v : Word} : WellFormed (s.morNow a v) := by
  unfold State.morNow
  refine .ite (.originate h) (.ite (.maybe h (.updFab ·)) (.ite (.rerouted (.setF h)) ?_))
  split
  · exact .ite (.setF h) (.ite (.morDown (.setF h)) (.updMor (.setF h)))
  · exact .setF h

theorem WellFormed.fabricSleep (h : WellFormed s) : WellFormed s.fabricSleep := .updFab (.tapsLost h)

end
end Sys2Proof.Machine
end

section
/-! SUPPORT. Halting, sleep entry and the trowels' writes keep the stores well-formed (R83, R103, R114 to R124, R141). -/

namespace Sys2Proof.Machine

-- In turn, not each proof in a thread of its own.
set_option Elab.async false

section
variable {s : State}

/-! ### Halting and trowel faults -/

theorem WellFormed.stopTrowels (h : WellFormed s) : WellFormed s.stopTrowels := .mapT h

theorem WellFormed.discardWrites (h : WellFormed s) : WellFormed s.discardWrites := .mapT h

theorem WellFormed.stopConverters (h : WellFormed s) : WellFormed s.stopConverters := .framed h

theorem WellFormed.enterHalt (h : WellFormed s) : WellFormed s.enterHalt := by
  unfold State.enterHalt
  exact .usbAttach (.beside (.usbAbandon (.serRelease (.stopConverters (.lightRest (.tapsLost h))))))

/-- The events of a cycle's faults and their freeze keep the black box within its sizes, whatever the rest of the state. -/
theorem State.faultEvents_bb_wf (h : s.bb.wf = true) (l : List (TrowelId × Word)) : (s.faultEvents l).bb.wf = true := by
  have written : (l.foldl (fun (s : State) (e : TrowelId × Word) =>
      s.bbEvent 0x02#7 (BitVec.ofNat 8 e.1.val) 0x0001#16 e.2) s).bb.wf = true := by
    induction l generalizing s with
    | nil => exact h
    | cons e l ih => exact ih (State.bbEvent_bb_wf h)
  exact State.freeze_bb_wf written

theorem WellFormed.faultEvents (h : WellFormed s) {l : List (TrowelId × Word)} : WellFormed (s.faultEvents l) :=
  .freeze (.foldl h fun hv _ => .bbEvent hv)

/-- Another fault cycle, whose black box has the sizes of one. -/
theorem WellFormed.setFaulted (h : WellFormed s) {c : FaultCycle} (hc : c.bb.wf = true) :
    WellFormed { s with faulted := some c } := ⟨h.fields, h.bb, h.trowels, h.vs, h.shadow, hc⟩

/-- The black box that the fault found is the present one. -/
theorem WellFormed.trowelFault (h : WellFormed s) {t : TrowelId} {cause : Nat} {code : BitVec 16} :
    WellFormed (s.trowelFault t cause code) := by
  unfold State.trowelFault
  exact .enterHalt (.faultEvents (.mirror (.discardWrites (.stopTrowels (.setFaulted h h.bb)))))

/-- The events join those of the cycle, in the black box that the cycle's first fault found. -/
theorem WellFormed.secondFault (h : WellFormed s) {t : TrowelId} {can : State → Bool} {f : State → State} :
    WellFormed (s.secondFault t can f) := by
  unfold State.secondFault
  split
  · exact h
  next c hc =>
    have found : c.bb.wf = true := by simpa [State.faultedWf, hc] using h.faulted
    dsimp only
    split
    · split
      · exact h
      · exact .setFaulted (.setBb h fun _ => State.faultEvents_bb_wf found _) found
    · exact h

/-- An instruction that may fault, in the halted cycle too. -/
theorem WellFormed.mayFault (h : WellFormed s) {t : TrowelId} {f : State → State} (hf : WellFormed (f s)) :
    WellFormed (s.mayFault t f) := .ite hf (.secondFault h)

theorem WellFormed.haltBoot (h : WellFormed s) {code : Nat} : WellFormed (s.haltBoot code) :=
  .enterHalt (.freeze (.bbEvent h))

theorem WellFormed.refuse (h : WellFormed s) {t : TrowelId} {a : BitVec 16} {r : BitVec 3} :
    WellFormed (s.refuse t a r) := .bbEvent (.raise (.updT h))

/-! ### Sleep entry -/

theorem WellFormed.jointEnd (h : WellFormed s) : WellFormed s.jointEnd := .framed h

theorem WellFormed.timeSleep (h : WellFormed s) : WellFormed s.timeSleep := .framed h

theorem WellFormed.sleepDark (h : WellFormed s) : WellFormed s.sleepDark := by
  unfold State.sleepDark
  exact .beside (.jointEnd (.foldl (.updAdc (.updAdc (.beside (.lightRest h)))) fun hv _ => .maybe hv (.portDown ·)))

theorem WellFormed.sleepProceed (h : WellFormed s) : WellFormed s.sleepProceed := by
  unfold State.sleepProceed
  exact .ite (.maybe (.maybe h (.beside ·)) (.sleepDark ·)) h

theorem WellFormed.sleepBegin (h : WellFormed s) : WellFormed s.sleepBegin := by
  unfold State.sleepBegin
  exact .sleepProceed (.beside (.timeSleep (.raiseAll (.mirror h))))

theorem WellFormed.requestSleep (h : WellFormed s) : WellFormed s.requestSleep := by
  unfold State.requestSleep
  split
  · exact .beside h
  · exact .beside h
  · exact .ite (.sleepBegin h) (.ite h (.bbEvent (.beside h)))
  · exact h

/-! ### The trowels' writes -/

theorem WellFormed.runT (h : WellFormed s) {t : TrowelId} {f : Trowel → Trowel}
    (hf : ∀ x : Trowel, x.memWf = true → (f x).memWf = true := by intro x hx; exact hx) : WellFormed (s.runT t f) :=
  .maybe h (.updT · hf)

theorem WellFormed.whenRun (h : WellFormed s) {t : TrowelId} {f : State → State} (hf : WellFormed (f s)) :
    WellFormed (s.whenRun t f) := .ite hf h

theorem WellFormed.access (h : WellFormed s) {t : TrowelId} {op : Stall} {f : State → State} (hf : WellFormed (f s)) :
    WellFormed (s.access t op f) := .ite (.ite (.updT h) hf) h

theorem WellFormed.takeEvent (h : WellFormed s) {t : TrowelId} {rd : RegId} {n : Nat} :
    WellFormed (s.takeEvent t rd n) := by
  unfold State.takeEvent
  refine .updT h fun x hx => ?_
  split <;> exact hx

theorem WellFormed.ignoreEnable (h : WellFormed s) {a : Nat} : WellFormed (s.ignoreEnable a) := .maybe h (.bbEvent ·)

theorem WellFormed.sysNow (h : WellFormed s) {t : TrowelId} {a : Nat} {v : Word} : WellFormed (s.sysNow t a v) :=
  .ite (.ite (.beside h) (.beside h)) (.ite (.sleepProceed (.beside h)) (.ite (.maybe h (.requestSleep ·)) (.setF h)))

theorem WellFormed.applyNow (h : WellFormed s) {t : TrowelId} {a : Nat} {v : Word} : WellFormed (s.applyNow t a v) := by
  unfold State.applyNow
  cases unitOf a with
  | sys => exact .sysNow h
  | light => exact .lightNow h
  | adcA | adcB => exact .adcNow h
  | amb => exact .ambNow h
  | csi => exact .csiNow h
  | ctx => exact .ctxNow h
  | loc | wl | time => exact .setF h
  | dec => exact .decNow h
  | vs => exact .vsNow h
  | recf => exact .recNow h
  | usb => exact .usbNow h
  | serQ | serC => exact .serNow h
  | mor => exact .morNow h
  | pair => exact .pairNow h
  | trw | bb | outside => exact h

theorem WellFormed.applyStopped (h : WellFormed s) : WellFormed s.applyStopped := .applyPending h

/-- A pending write in its field's apply set joins the others (Table FM.3). -/
theorem WellFormed.shadowed (h : WellFormed s) {p : Pend} (hp : setOf p.addr = some p.set) :
    WellFormed { s with shadow := s.shadow ++ [p] } := by
  refine ⟨h.fields, h.bb, h.trowels, h.vs, ?_, h.faulted⟩
  have hs := h.shadow
  simp only [State.shadowWf, List.all_append, Bool.and_eq_true] at hs ⊢
  exact ⟨hs, by simp only [List.all_cons, hp, decide_true, List.all_nil, Bool.and_self]⟩

/-- An accepted write waits in its field's own apply set, or takes effect at once. -/
theorem WellFormed.accept (h : WellFormed s) {t : TrowelId} {a : Nat} {v : Word} : WellFormed (s.accept t a v) := by
  unfold State.accept
  split
  · exact h
  · dsimp only
    split
    · exact .bbEvent h
    · refine .ite (.ignoreEnable h) ?_
      split
      next set hset =>
        have own : setOf a = some set := by
          split at hset
          · exact hset
          · cases hset
        exact .shadowed h own
      · exact .applyStopped (.applyNow h)

theorem WellFormed.receiveWrite (h : WellFormed s) {t : TrowelId} {w : Posted} :
    WellFormed (s.receiveWrite t w).1 := by
  unfold State.receiveWrite
  split
  · exact h
  · split
    · exact h
    · exact .accept h

theorem WellFormed.receiveAll (h : WellFormed s) {t : TrowelId} {l : List Posted} :
    WellFormed (s.receiveAll t l).1 := by
  induction l generalizing s with
  | nil => exact h
  | cons w l ih => exact ih (.receiveWrite h)

theorem WellFormed.refuseAll (h : WellFormed s) {t : TrowelId} {l : List (BitVec 16 × BitVec 3)} :
    WellFormed (s.refuseAll t l) := .foldl h fun hv _ => .refuse hv

theorem WellFormed.arrive (h : WellFormed s) {t : TrowelId} {a : BitVec 16} {v : Word} : WellFormed (s.arrive t a v) := by
  unfold State.arrive
  refine .ite h ?_
  dsimp only
  split
  · exact .ite (.updT (.receiveAll h)) h
  · exact .refuseAll (.receiveWrite h)

theorem WellFormed.post (h : WellFormed s) {t : TrowelId} {w : Posted} : WellFormed (s.post t w) := by
  unfold State.post
  dsimp only
  split
  · exact .ite (.trowelFault h) (.updT h)
  · exact .ite (.updT h) (.updT h)

theorem WellFormed.closeGroup (h : WellFormed s) {t : TrowelId} : WellFormed (s.closeGroup t) := by
  unfold State.closeGroup
  split
  · exact .updT h
  · exact .updT h
  · exact .ite (.updT h) (.updT h)

theorem WellFormed.syncWrites (h : WellFormed s) {t : TrowelId} : WellFormed (s.syncWrites t) :=
  .ite (.updT h) (.updT h)

theorem WellFormed.resume (h : WellFormed s) {t : TrowelId} : WellFormed (s.resume t) := by
  unfold State.resume
  refine .ite h ?_
  split
  · exact .post h
  · exact .closeGroup h
  · exact .syncWrites h
  · exact .updT h
  · exact h

end
end Sys2Proof.Machine
end

section
/-! SUPPORT. Resets, the boot, the test access port, the wake and the clock keep the stores well-formed (R59 to R70, R98,
R511, R514). -/

namespace Sys2Proof.Machine

-- In turn, not each proof in a thread of its own.
set_option Elab.async false

/-- Settles O4: empty stores, by computation. -/
theorem resetIsWf : Obligations.ResetIsWf := by
  unfold Obligations.ResetIsWf
  rfl

section
variable {s : State}

/-! ### Resets and the boot -/

/-- A reset empties the stores and keeps the ring (R494). -/
theorem WellFormed.toReset (h : WellFormed s) {ph : Phase} {c : BitVec 2} : WellFormed (s.toReset ph c) := by
  obtain ⟨ring, -⟩ := s.bb.wf_iff.mp h.bb
  have reset := State.reset.wf_iff.mp resetIsWf
  exact ⟨reset.fields, (BlackBox.wf_iff _).mpr ⟨ring, Nat.zero_le _⟩, reset.trowels, reset.vs, reset.shadow, reset.faulted⟩

theorem WellFormed.beginBoot (h : WellFormed s) : WellFormed s.beginBoot := by
  obtain ⟨ring, -⟩ := s.bb.wf_iff.mp h.bb
  unfold State.beginBoot
  refine .bbEvent (.maybe ?_ (.bbEvent ·))
  refine ⟨h.fields, (BlackBox.wf_iff _).mpr ⟨?_, Nat.zero_le _⟩, h.trowels, h.vs, h.shadow, h.faulted⟩
  dsimp only
  split
  · exact Nat.zero_le _
  · exact ring

theorem WellFormed.bootIfReady (h : WellFormed s) : WellFormed s.bootIfReady := .maybe h (.beginBoot ·)

theorem WellFormed.stepEnd (h : WellFormed s) {n from_ : Nat} : WellFormed (s.stepEnd n from_) := by
  unfold State.stepEnd
  exact .beside (.bbEvent h)

theorem WellFormed.strapEvents (h : WellFormed s) {n : Nat} : WellFormed (s.strapEvents n) := by
  unfold State.strapEvents
  exact .maybe (.maybe (.maybe h (.bbEvent ·)) (.bbEvent ·)) (.bbEvent ·)

theorem WellFormed.storeFactors (h : WellFormed s) {c : Conv} {l : List CalFactor} : WellFormed (s.storeFactors c l) :=
  .foldl h fun hv _ => .setN (.setF hv)

theorem WellFormed.takeRecipe (h : WellFormed s) {r : Recipe} {src : BitVec 2} {isSealed : Bool} :
    WellFormed (s.takeRecipe r src isSealed) := .beside h

theorem WellFormed.failImage (h : WellFormed s) {code : Nat} : WellFormed (s.failImage code) :=
  .ite (.takeRecipe (.bbEvent (.beside h))) (.haltBoot (.bbEvent (.beside h)))

theorem WellFormed.judgeContent (h : WellFormed s) {r : Recipe} {isSealed : Bool} :
    WellFormed (s.judgeContent r isSealed) := .ite (.failImage h) (.takeRecipe h)

theorem WellFormed.initialValue (h : WellFormed s) {e : Nat × Word} : WellFormed (s.initialValue e) := by
  unfold State.initialValue
  split
  · exact h
  · refine .ite h (.ite (.ignoreEnable h) ?_)
    split
    · exact .bbEvent h
    · exact .setF h

theorem WellFormed.startUnits (h : WellFormed s) : WellFormed s.startUnits :=
  .foldl (.foldl h fun hv _ => .setF hv) fun hv _ => .applyNow hv

theorem WellFormed.loadFields (h : WellFormed s) {r : Recipe} : WellFormed (s.loadFields r) :=
  .foldl (.foldl (.beside h) fun hv _ => .ite hv (.setF hv)) fun hv _ => .initialValue hv

theorem WellFormed.optionalMissing (h : WellFormed s) {r : Recipe} : WellFormed (s.optionalMissing r) :=
  .foldl h fun hv _ => .maybe hv (.bbEvent ·)

/-- An image is stored word by word. -/
theorem loadImage_wf (l : List Word) : sparseWf (fun _ => (0 : Word)) (loadImage l) = true :=
  sparseWf_foldl _ _ _ _ _ rfl

theorem Trowel.start_memWf (code data : List Word) (e : BitVec 16) : (Trowel.start code data e).memWf = true := by
  simp only [Trowel.memWf, Trowel.start, loadImage_wf, Bool.and_self]

/-- Other trowels, each with canonical memories. -/
theorem WellFormed.setTrowels (h : WellFormed s) {f : TrowelId → Trowel} (hf : ∀ t, (f t).memWf = true) :
    WellFormed { s with trowels := Vector.ofFn f } := by
  refine ⟨h.fields, h.bb, fun t => ?_, h.vs, h.shadow, h.faulted⟩
  rw [Fin.getElem_fin, Vector.getElem_ofFn]
  exact hf t

theorem WellFormed.startTrowels (h : WellFormed s) {r : Recipe} {n : BitVec 3} : WellFormed (s.startTrowels r n) :=
  .setTrowels h fun _ => Trowel.start_memWf ..

/-! ### The test access port -/

theorem WellFormed.enterTest (h : WellFormed s) : WellFormed s.enterTest := by
  unfold State.enterTest
  exact .ite h (.beside (.usbDetach (.serRelease (.lightRest (.discardWrites (.stopTrowels h))))))

theorem WellFormed.loadIr (h : WellFormed s) {i : TapIr} : WellFormed (s.loadIr i) :=
  .maybe (.beside h) (.enterTest ·)

/-- Destroyed memories are empty (R514). -/
theorem WellFormed.destroyMemories (h : WellFormed s) {sel : BitVec 8} : WellFormed (s.destroyMemories sel) := by
  unfold State.destroyMemories
  exact .beside (.maybe (.maybe (.maybe (.maybe (.maybe (.maybe h (.beside ·)) (.mapT · fun _ _ => rfl)) (.beside ·))
    (.setVs · fun _ => rfl)) (.beside ·)) (.beside ·))

/-! ### The clock -/

theorem WellFormed.trowelCycle (h : WellFormed s) : WellFormed s.trowelCycle := by
  refine .ite (.setTrowels h fun t => ?_) h
  have kept := h.trowels t
  unfold Trowel.cycle
  dsimp only
  split <;> exact kept

theorem WellFormed.egressTick (h : WellFormed s) : WellFormed s.egressTick := .framed h

theorem WellFormed.awakeCycle (h : WellFormed s) : WellFormed s.awakeCycle := by
  unfold State.awakeCycle
  exact .maybe (.egressTick (.beside (.coreCycle h))) (.trowelCycle ·)

theorem WellFormed.slowCycle (h : WellFormed s) : WellFormed s.slowCycle := .framed h

/-- A cycle of the clock in force, if there is one. -/
theorem WellFormed.tick (h : WellFormed s) : WellFormed s.tick := by
  unfold State.tick
  cases s.phase with
  | booting | running | sleepEntry | halted | thermal => exact .awakeCycle h
  | test => exact .ite h (.awakeCycle h)
  | asleep => exact .slowCycle h
  | waking => exact .ite (.awakeCycle h) (.slowCycle h)
  | held | xrefWait | xrefFatal => exact h

/-! ### The black box before sleep, and the wake -/

theorem WellFormed.bbDrain (h : WellFormed s) : WellFormed s.bbDrain := by
  refine h.setBb fun hb => ?_
  obtain ⟨ring, -⟩ := s.bb.wf_iff.mp hb
  split
  · exact (BlackBox.wf_iff _).mpr ⟨flushQueue_length_le _ _ _ ring, Nat.zero_le _⟩
  · exact hb

theorem WellFormed.wakeEstimator (h : WellFormed s) : WellFormed s.wakeEstimator := .maybe h (.goStale ·)

theorem WellFormed.wakeConverters (h : WellFormed s) {cal : Bool} : WellFormed (s.wakeConverters cal) := by
  unfold State.wakeConverters
  exact .maybe (.maybe (.wakeEstimator (.updAdc (.updAdc h))) (.beginCalibration ·)) (.beginCalibration ·)

theorem WellFormed.wakePort (h : WellFormed s) {p : PortId} : WellFormed (s.wakePort p) := .maybe h (.portPower ·)

theorem WellFormed.wakePorts (h : WellFormed s) : WellFormed s.wakePorts := .foldl h fun hv _ => .wakePort hv

theorem WellFormed.timeWake (h : WellFormed s) : WellFormed s.timeWake := .framed h

theorem WellFormed.serRestart (h : WellFormed s) : WellFormed s.serRestart := .framed h

theorem WellFormed.usbRestart (h : WellFormed s) : WellFormed s.usbRestart := .framed h

theorem WellFormed.wakeLinks (h : WellFormed s) : WellFormed s.wakeLinks :=
  .gwRestart (.usbRestart (.usbAttach (.serRestart (.timeWake h))))

theorem WellFormed.wakeLight (h : WellFormed s) : WellFormed s.wakeLight := .maybe h (.lightStart ·)

theorem WellFormed.shutDown (h : WellFormed s) : WellFormed s.shutDown := by
  unfold State.shutDown
  exact .beside (.toReset h)

end
end Sys2Proof.Machine
end

section
/-! SUPPORT. Every command, and every step, keeps the stores well-formed. -/

namespace Sys2Proof.Machine

-- In turn, not each proof in a thread of its own.
set_option Elab.async false

section
variable {s : State}

/-- A command whose frame has the stores. -/
theorem Does.wellFormed {c : Instr} {P : State → Prop} (frame : Does c s P) (h : WellFormed s)
    (same : ∀ u, P u → u.stores = s.stores := by intro u hu; simp only [State.stores, hu]) : Does c s WellFormed := by
  obtain ⟨u, hu, hp⟩ := frame
  exact ⟨u, hu, h.of_stores (same u hp)⟩

/-! ### The light matrix and the converters -/

theorem exec_faultSample_wellFormed (h : WellFormed s) (g : GroupId) (l : List Nat) :
    Does (.faultSample g l) s WellFormed := ⟨_, rfl, by
  split
  · exact h
  · exact .evaluatePulse h⟩

theorem exec_zeroCurrentCheck_wellFormed (h : WellFormed s) (col : Fin 16) (level pos : Nat) :
    Does (.zeroCurrentCheck col level pos) s WellFormed := ⟨_, rfl, by
  split
  · exact h
  · exact .ite (.ite (.afterFailure (.failLamp (.beside h))) (.beside h)) h⟩

theorem exec_scanInstant_wellFormed (h : WellFormed s) : Does .scanInstant s WellFormed := ⟨_, rfl, .ite h <| by
  split
  · exact h
  · exact .startCourse h
  · exact .bbEvent (.beside (.count16 h))⟩

theorem WellFormed.darkSlot (h : WellFormed s) : WellFormed s.darkSlot := .framed h

theorem exec_blankingStart_wellFormed (h : WellFormed s) : Does .blankingStart s WellFormed := ⟨_, rfl, by
  split
  · exact h
  · exact .ite h (.maybe (.darkBegin (.maybe (.maybe (.beside (.countSat h)) (.raise ·)) fun hv => .raise (.count16 hv)))
      (.darkSlot ·))⟩

theorem exec_neighSweepStart_wellFormed (h : WellFormed s) : Does .neighSweepStart s WellFormed := ⟨_, rfl, .ite h <| by
  split
  · exact .bbEvent (.beside h)
  · exact .beside h⟩

theorem exec_tempLost_wellFormed (h : WellFormed s) : Does .tempLost s WellFormed :=
  ⟨_, rfl, .ite h (.bbEvent (.beside (.ite (.setF h) (.setDerateFlag (.setF h)))))⟩

theorem exec_ltEnFall_wellFormed (h : WellFormed s) : Does .ltEnFall s WellFormed :=
  ⟨_, rfl, .ite h (.ite (.bbEvent (.raise (.darkBegin (.driveColumns (.beside h))))) (.beside (.beside h)))⟩

theorem exec_derateUpdate_wellFormed (h : WellFormed s) : Does .derateUpdate s WellFormed := by
  have derated (x : Light) (a b : Nat) (v : Word) (n : Nat) : WellFormed ((State.setF { s with light := x } a v).setN b n) :=
    .setN (.setF (.beside h))
  exact ⟨_, rfl, .ite h (.ite (.setDerateFlag (derated ..)) (.ite (.setDerateFlag (derated ..)) (derated ..)))⟩

theorem WellFormed.takeStart (h : WellFormed s) {x : Option (Fin 4)} : WellFormed (s.takeStart x) := .beside h

theorem exec_urgEdge_wellFormed (h : WellFormed s) (c : Conv) : Does (.urgEdge c) s WellFormed :=
  ⟨_, rfl, .ite h (.ite (.count16 h) (.ite h (.ite (.count16 h) (.request h (.count16 h)))))⟩

theorem exec_strobeStart_wellFormed (h : WellFormed s) (m : Fin 4) : Does (.strobeStart m) s WellFormed :=
  ⟨_, rfl, .ite h (.ite (.lightRequest (.countAge (.raise (.takeStart h)))) (.takeStart h))⟩

/-! ### The cameras and the decode cluster -/

theorem exec_frameDescriptorInCore_wellFormed (h : WellFormed s) (p : PortId) (mbps : Nat) :
    Does (.frameDescriptorInCore p mbps) s WellFormed := ⟨_, rfl, by
  split
  · exact h
  · exact .foldl (.foldl (.updPort h) fun hv _ => .updFrame hv) fun hv _ => .indexFrame hv⟩

theorem exec_frameEndTimeout_wellFormed (h : WellFormed s) (k : CtxId) : Does (.frameEndTimeout k) s WellFormed :=
  ⟨_, rfl, by
  split
  · exact h
  · exact .bufPush (.updPort (.markTruncated h))⟩

theorem exec_jointArrival_wellFormed (h : WellFormed s) : Does .jointArrival s WellFormed := ⟨_, rfl, by
  split
  · exact h
  · exact .maybe (.beside h) (.matchJoint ·)⟩

theorem exec_jointWaitExpiry_wellFormed (h : WellFormed s) : Does .jointWaitExpiry s WellFormed := ⟨_, rfl, by
  split
  · exact h
  · exact .count16 (.beside h)⟩

theorem exec_frameStartNoticeInDecode_wellFormed (h : WellFormed s) (k : CtxId) :
    Does (.frameStartNoticeInDecode k) s WellFormed := ⟨_, rfl, by
  split
  · exact h
  · exact .rematch (.updFrame (.applyBoundary h))⟩

theorem WellFormed.queueCandidate (h : WellFormed s) {k : CtxId} {f : Frame} {x : CandInfo} :
    WellFormed (s.queueCandidate k f x) := .framed h

theorem exec_candidateArrival_wellFormed (h : WellFormed s) (k : CtxId) (fidx : Word) (x : CandInfo) :
    Does (.candidateArrival k fidx x) s WellFormed := ⟨_, rfl, by
  split
  · exact h
  next f _ =>
    have drawn : WellFormed (if f.inLimits x then s else { s with fresh := s.fresh + 1 }) := .ite h (.beside h)
    exact .ite drawn (.ite (.updFrame (.count16 (.countWrap (.updFrame drawn))))
      (.queueCandidate (.countWrap (.updFrame drawn))))⟩

theorem exec_decodeResolved_wellFormed (h : WellFormed s) (core : Fin 16) (out : DecodeOutcome)
    (reads : List (Nat × StoreFinding)) : Does (.decodeResolved core out reads) s WellFormed := ⟨_, rfl, by
  split
  · exact .resolve (.foldl h fun hv _ => .storeRead hv)
  · exact h⟩

theorem exec_resultArrival_wellFormed (h : WellFormed s) (core : Fin 16) : Does (.resultArrival core) s WellFormed :=
  ⟨_, rfl, by
  split
  · exact .ite h (.schedule (.freeCore (.beside (.maybe (.maybe h (.countWrap ·)) fun hv => .updFrame (.countWrap hv)))))
  · exact h⟩

theorem exec_closingPassEnd_wellFormed (h : WellFormed s) (k : CtxId) (fidx : Word) :
    Does (.closingPassEnd k fidx) s WellFormed := ⟨_, rfl, by
  split
  · exact h
  · exact .passFrame h⟩

theorem WellFormed.giveNotice (h : WellFormed s) {k : CtxId} : WellFormed (s.giveNotice k) := .framed h

/-! ### The verdict port -/

theorem exec_noticeArrival_wellFormed (h : WellFormed s) : Does .noticeArrival s WellFormed := ⟨_, rfl, by
  split
  · exact h
  · exact .ite h ⟨h.fields, h.bb, h.trowels, h.vs, h.shadow, h.faulted⟩⟩

/-- A word written into the mirror. -/
theorem Verdict.memWf_mirror {v : Verdict} (h : v.memWf = true) (a : Nat) (w : BitVec 16) :
    ({ v with mirror := sparseSet (fun _ => 0) v.mirror a w } : Verdict).memWf = true := by
  simp only [Verdict.memWf, Bool.and_eq_true] at h ⊢
  obtain ⟨⟨store, mirror⟩, owner⟩ := h
  exact ⟨⟨store, sparseSet_wf _ _ _ _ mirror⟩, owner⟩

theorem exec_mirrorWrite_wellFormed (h : WellFormed s) : Does .mirrorWrite s WellFormed := ⟨_, rfl, by
  split
  · exact .vqEdge (.backlogEdge (.setVs h fun hv => Verdict.memWf_mirror hv _ _))
  · exact .vqEdge (.backlogEdge (.setVs h fun hv => Verdict.memWf_mirror hv _ _))
  · exact .vqEdge h⟩

theorem exec_vqQuery_wellFormed (h : WellFormed s) (a : Option (BitVec 14)) : Does (.vqQuery a) s WellFormed :=
  ⟨_, rfl, by
  split
  · exact ⟨h.fields, h.bb, h.trowels, h.vs, h.shadow, h.faulted⟩
  · exact .beside h⟩

/-! ### USB and the serial line -/

theorem exec_usbRecordTransferDone_wellFormed (h : WellFormed s) : Does .usbRecordTransferDone s WellFormed :=
  ⟨_, rfl, .ite h (.ite (by
    split
    · exact .beside h
    · exact .usbStart (.beside h)) (.ite (by
    split
    · exact .updFab h
    · exact .usbStart (.originate (.updFab h))) h))⟩

theorem exec_standardRequest_wellFormed (h : WellFormed s) (r : StdRequest) : Does (.standardRequest r) s WellFormed :=
  ⟨_, rfl, .ite h <| by
    cases r with
    | getDescriptor k i len =>
      dsimp only
      split
      · exact .reply h
      · exact .reply h
    | setAddress a => exact .beside h
    | getConfiguration | getStatusDevice | clearLinkPower | setSel _ | setIsochDelay _ | unsupported => exact .reply h
    | getInterface | getStatusInterface | getStatusEndpoint ep => exact .ite (.reply h) (.reply h)
    | haltEndpoint ep => exact .ite (.reply h) (.ite (.beside (.usbDropTransfer h)) (.ite (.beside h) (.reply h)))
    | testMode sel => exact .ite (.beside (.usbAbandon h)) (.reply h)⟩

theorem WellFormed.ackUsb (h : WellFormed s) {n : Word} : WellFormed (s.ackUsb n) := .framed h

theorem exec_serCollision_wellFormed (h : WellFormed s) (bit : Nat) (read : Bool) :
    Does (.serCollision bit read) s WellFormed := ⟨_, rfl, .ite (by
    split
    · exact h
    · exact .count16 (.updSer h)
    · exact .count16 (.updSer h)
    · exact .bbEvent (.count16 (.updSer h))) h⟩

theorem exec_serAckWindowExpiry_wellFormed (h : WellFormed s) : Does .serAckWindowExpiry s WellFormed :=
  ⟨_, rfl, .ite h (.ite (.mirror (.beside h)) (.ite (.beside h) (.ite (.beside h) (.bbEvent (.beside h)))))⟩

theorem exec_serFrameRejected_wellFormed (h : WellFormed s) (heard : SerHeard) :
    Does (.serFrameRejected heard) s WellFormed := ⟨_, rfl, .ite h <| by
    cases heard with
    | character ticks =>
      dsimp only
      split
      · exact .count16 h
      · exact .count16 h
      all_goals exact h
    | frame l => exact .maybe h (.count16 ·)⟩

/-! ### The bonded pair and the mortar fabric -/

theorem exec_plHbEdge_wellFormed (h : WellFormed s) : Does .plHbEdge s WellFormed := ⟨_, rfl, .ite h <| by
  split
  · exact .maybe (.updPair h) (.becomeStandby ·)
  · exact .ite h (.maybe (.count16 (.updPair h)) (.leaveActive ·))
  · exact .updPair h⟩

theorem exec_pairHello_wellFormed (h : WellFormed s) (m : HelloMsg) : Does (.pairHello m) s WellFormed :=
  ⟨_, rfl, .ite h (.resyncIfDue (.settleRole (by
    split
    · exact .bbEvent (.updPair h)
    · exact .updPair h)))⟩

theorem exec_pairDecision_wellFormed (h : WellFormed s) (a : BitVec 14) (w : BitVec 16) (r : List Byte) :
    Does (.pairDecision a w r) s WellFormed := ⟨_, rfl, .ite h (.toLinks (.beside (.storeWrite h)))⟩

theorem WellFormed.takeSense (h : WellFormed s) {m : SenseMark} : WellFormed (s.takeSense m) := .beside h

theorem exec_pairResyncEnd_wellFormed (h : WellFormed s) (c : Resync) : Does (.pairResyncEnd c) s WellFormed :=
  ⟨_, rfl, .ite h (.beside (.takeSense (.takeLight (.takeStore h))))⟩

theorem exec_linkFrame_wellFormed (h : WellFormed s) (m : MorId) (seq : BitVec 16) (x : LinkItem) (ok : Bool) :
    Does (.linkFrame m seq x ok) s WellFormed := ⟨_, rfl, .ite h <| .ite (.count16 h) <| .ite h <| by
  cases x with
  | msg y => exact .transit (.updMor h)
  | announce a => exact .updFab (.updMor h)⟩

theorem exec_announce_wellFormed (h : WellFormed s) : Does .announce s WellFormed := ⟨_, rfl, by
  split
  · exact h
  · exact .takeAnnounce (.updFab h)⟩

theorem exec_delayResp_wellFormed (h : WellFormed s) (m : MorId) (t1 t2 t3 t4 : Nat) :
    Does (.delayResp m t1 t2 t3 t4) s WellFormed := ⟨_, rfl, .ite h (.setN (.updMor h))⟩

theorem WellFormed.dropUnit (h : WellFormed s) {i : Nat} : WellFormed (s.dropUnit i) := .updFab h

theorem exec_morDelivered_wellFormed (h : WellFormed s) : Does .morDelivered s WellFormed := ⟨_, rfl, by
  split
  · exact h
  · exact .gwPump (.mirror (.updFab (.dropUnit h)))⟩

theorem exec_morTap_wellFormed (h : WellFormed s) : Does .morTap s WellFormed := ⟨_, rfl, by
  split
  · exact h
  · exact .ite (.beside (.dropUnit h)) (.count16 (.dropUnit h))⟩

theorem exec_morTrowel_wellFormed (h : WellFormed s) : Does .morTrowel s WellFormed := ⟨_, rfl, by
  split
  · exact h
  · exact .ite (.updFab (.dropUnit h)) (.count16 (.dropUnit h))⟩

theorem exec_morBroken_wellFormed (h : WellFormed s) : Does .morBroken s WellFormed := ⟨_, rfl, by
  split
  · exact h
  · exact .maybe (.updFab (.dropUnit h)) (.gwRestart ·)⟩

theorem exec_flowBroken_wellFormed (h : WellFormed s) (src : BitVec 6) (cls : Byte) :
    Does (.flowBroken src cls) s WellFormed := ⟨_, rfl, by
  split
  · exact h
  · exact .ite h (.originate (.freezeIf (.bbEvent (.count16 (.raise (.updFab h))))))⟩

theorem exec_unreachableExpiry_wellFormed (h : WellFormed s) (dst : BitVec 6) :
    Does (.unreachableExpiry dst) s WellFormed := ⟨_, rfl, by
  split
  · exact h
  · split
    · exact h
    · exact .ite (.maybe (.updFab (.count16 (.updFab h))) (.gwRestart ·)) (.count16 (.updFab h))⟩

/-! ### The trowels' instructions -/

theorem Trowel.memWf_storeWord {x : Trowel} (h : x.memWf = true) (a : BitVec 11) (v : Word) :
    (x.storeWord a v).memWf = true := by
  simp only [Trowel.memWf, Bool.and_eq_true] at h ⊢
  obtain ⟨imem, dmem⟩ := h
  exact ⟨imem, sparseSet_wf _ _ _ _ dmem⟩

theorem exec_st_wellFormed (h : WellFormed s) (t : TrowelId) (rd ra : RegId) (imm : BitVec 18) :
    Does (.st t rd ra imm) s WellFormed := ⟨_, rfl, .runT h fun _ hx => Trowel.memWf_storeWord hx _ _⟩

theorem exec_ret_wellFormed (h : WellFormed s) (t : TrowelId) : Does (.ret t) s WellFormed := ⟨_, rfl, .mayFault h <| by
  split
  · exact .trowelFault h
  · exact .updT h⟩

theorem exec_callCond_wellFormed (h : WellFormed s) (t : TrowelId) (c : Cond) (a : BitVec 12) :
    Does (.callCond t c a) s WellFormed :=
  ⟨_, rfl, .mayFault h (.ite (.trowelFault h) (.updT h fun x hx => by split <;> exact hx))⟩

theorem exec_bCond_wellFormed (h : WellFormed s) (t : TrowelId) (c : Cond) (a : BitVec 12) :
    Does (.bCond t c a) s WellFormed := ⟨_, rfl, .runT h fun x hx => by split <;> exact hx⟩

theorem exec_wait_wellFormed (h : WellFormed s) (t : TrowelId) (rd ra rb : RegId) :
    Does (.wait t rd ra rb) s WellFormed := ⟨_, rfl, .whenRun h <| by
  dsimp only
  split
  · exact .takeEvent h
  · exact .updT h⟩

theorem exec_waitEventPresent_wellFormed (h : WellFormed s) (t : TrowelId) :
    Does (.waitEventPresent t) s WellFormed := ⟨_, rfl, by
  split
  · split
    · exact .takeEvent h
    · exact h
  · exact h⟩

theorem exec_eclr_wellFormed (h : WellFormed s) (t : TrowelId) (n : BitVec 6) : Does (.eclr t n) s WellFormed :=
  ⟨_, rfl, .whenRun h (.updT h fun x hx => by split <;> exact hx)⟩

theorem exec_mts_wellFormed (h : WellFormed s) (t : TrowelId) (ra : RegId) (r : BitVec 4) :
    Does (.mts t ra r) s WellFormed := ⟨_, rfl, .runT h fun x hx => by dsimp only; split <;> exact hx⟩

theorem exec_send_wellFormed (h : WellFormed s) (t d : TrowelId) (ra : RegId) : Does (.send t d ra) s WellFormed :=
  ⟨_, rfl, .whenRun h (.updT (.updT h fun x hx => by split <;> exact hx))⟩

theorem exec_fieldReadReply_wellFormed (h : WellFormed s) (t : TrowelId) : Does (.fieldReadReply t) s WellFormed :=
  ⟨_, rfl, .ite h <| by
  split
  · exact .ite h (.updT h)
  · exact h⟩

/-- A posted write waits while accesses stall. -/
theorem WellFormed.stallOrPost (h : WellFormed s) {t : TrowelId} {w : Posted} :
    WellFormed (s.orStall t (.post w) fun s => s.post t w) := .ite (.updT h) (.post h)

theorem exec_fieldWriteAccepted_wellFormed (h : WellFormed s) (t : TrowelId) (u : UnitId) :
    Does (.fieldWriteAccepted t u) s WellFormed := ⟨_, rfl, .ite h <| by
  dsimp only
  split
  · exact h
  · split
    · exact h
    · exact .resume (.refuseAll (.updT h))⟩

theorem exec_instructionScrub_wellFormed (h : WellFormed s) : Does .instructionScrub s WellFormed := by
  have scrubbed : WellFormed { s with trowels := s.trowels.map fun x => { x with codeSoft := [] } } := .mapT h
  refine ⟨_, rfl, ?_⟩
  split
  next => exact scrubbed
  next => exact scrubbed
  next => exact scrubbed
  next => exact scrubbed
  next => exact scrubbed
  next => exact h

/-! ### Resets and the boot -/

theorem exec_resetNLow_wellFormed (h : WellFormed s) : Does .resetNLow s WellFormed :=
  ⟨_, rfl, .ite (.beside h) (.beside (.toReset h))⟩

theorem exec_xrefLoss_wellFormed (h : WellFormed s) : Does .xrefLoss s WellFormed :=
  ⟨_, rfl, .ite (.ite (.beside (.freeze (.bbEvent h)))
    (.beside (.usbDetach (.serRelease (.stopConverters (.lightRest (.stopTrowels (.freeze (.bbEvent h)))))))) ) h⟩

theorem exec_strapSample_wellFormed (h : WellFormed s) (r : List (List Nat)) : Does (.strapSample r) s WellFormed :=
  ⟨_, rfl, .ite h (.stepEnd (.foldl (.foldl (.beside h) fun hv _ => .strapEvents hv) fun hv _ => .maybe hv (.bbEvent ·)))⟩

theorem exec_otpLoad_wellFormed (h : WellFormed s) (x : Option OtpContent) : Does (.otpLoad x) s WellFormed :=
  ⟨_, rfl, .ite h <| by
  cases x with
  | none => exact .haltBoot (.stepEnd h)
  | some c => exact .ite (.beside (.stepEnd h)) (.stepEnd (.beside (.beside (.stepEnd h))))⟩

theorem exec_selfCalibrationDone_wellFormed (h : WellFormed s) (c : Conv) (r : Rat) (l : List CalFactor)
    (failed : Option Nat) : Does (.selfCalibrationDone c r l failed) s WellFormed := by
  have stored : WellFormed (match failed with
      | some g => (s.updAdc c fun x => { x with calFailed := true }).bbEvent
          (match c with | .a => 0x04#7 | .b => 0x05#7) 0xFF#8 0x0001#16 (BitVec.ofNat 32 g)
      | none => s.storeFactors c l) := by
    cases failed with
    | none => exact .storeFactors h
    | some g => exact .bbEvent (.updAdc h)
  have noted {u : State} (hu : WellFormed u) {p : Prop} [Decidable p] : WellFormed (if p then u else u.raise 1 20) :=
    .ite hu (.raise hu)
  exact ⟨_, rfl, .ite h (.ite (.stepEnd (.beside (noted (.updAdc (.beside stored))))) (noted (.updAdc (.beside stored))))⟩

theorem exec_sfdpRead_wellFormed (h : WellFormed s) (x : SfdpReading) : Does (.sfdpRead x) s WellFormed :=
  ⟨_, rfl, .ite h (.ite (.failImage (.stepEnd h)) (.beside (.maybe (.maybe h (.bbEvent ·)) (.bbEvent ·))))⟩

theorem exec_recipeLoadDone_wellFormed (h : WellFormed s) (l : List (List Byte)) : Does (.recipeLoadDone l) s WellFormed :=
  ⟨_, rfl, .ite h (.ite (.takeRecipe (.stepEnd (.stepEnd h))) (.ite h (by
    dsimp only
    split
    · exact .failImage (.stepEnd h)
    · exact .beside (.stepEnd h))))⟩

theorem exec_signatureCheckDone_wellFormed (h : WellFormed s) : Does .signatureCheckDone s WellFormed :=
  ⟨_, rfl, .ite h <| by
  split
  · exact h
  · refine .ite (.judgeContent (.stepEnd h)) (.ite (.ite (.failImage (.stepEnd h))
      (.judgeContent (.bbEvent (.stepEnd h)))) ?_)
    dsimp only
    split
    · exact .failImage (.stepEnd h)
    · exact .judgeContent (.stepEnd h)⟩

theorem WellFormed.pairStart (h : WellFormed s) : WellFormed s.pairStart := .framed h

theorem WellFormed.startLight (h : WellFormed s) : WellFormed s.startLight := .beside h

/-- Other stored fields in canonical form, and another record former. -/
theorem WellFormed.setFields (h : WellFormed s) {l : Sparse Word} (hl : sparseWf resetValue l = true) {f : Former} :
    WellFormed { s with fields := l, former := f } := ⟨hl, h.bb, h.trowels, h.vs, h.shadow, h.faulted⟩

/-- Where a mandatory unit is missing, the fields are those of before (code 9). -/
theorem exec_trowelStart_wellFormed (h : WellFormed s) (scn : BitVec 3) : Does (.trowelStart scn) s WellFormed :=
  ⟨_, rfl, .ite h <| by
  split
  · exact h
  next r _ =>
    have loaded : WellFormed (State.loadFields { s with sys := { s.sys with
        enabled := s.enabledWord r, scenes := r.scenes } } r) := .loadFields (.beside h)
    refine .ite (.failImage (.setFields loaded h.fields)) ?_
    have unmarked {u : State} (hu : WellFormed u) (x : Sys) (b : Boot) : WellFormed { u with
        sys := x, boot := b, bb := { u.bb with firstMarked := false } } :=
      ⟨hu.fields, hu.bb, hu.trowels, hu.vs, hu.shadow, hu.faulted⟩
    exact .stepEnd (.startLight (.pairStart (.startUnits (.startTrowels
      (unmarked (.ite (.optionalMissing loaded) (.bbEvent (.optionalMissing loaded))) _ _)))))⟩

theorem exec_bootNeighbourTestDone_wellFormed (h : WellFormed s) : Does .bootNeighbourTestDone s WellFormed := by
  have ended {u : State} (hu : WellFormed u) {p : Prop} [Decidable p] {n k : Nat} :
      WellFormed ((if p then u.raise 0 23 else u).stepEnd n k) := .stepEnd (.maybe hu (.raise ·))
  exact ⟨_, rfl, .ite h (.maybe (ended (.beside (.maybe h (.bbEvent ·)))) (.lightStart ·))⟩

theorem exec_fabricDiscoveryDone_wellFormed (h : WellFormed s) : Does .fabricDiscoveryDone s WellFormed :=
  ⟨_, rfl, .ite h (.waitDecide (.stepEnd (.beside (.maybe h fun hv => .announceNow (.raise (.updFab (.takeId hv)))))))⟩

theorem exec_readyRise_wellFormed (h : WellFormed s) : Does .readyRise s WellFormed :=
  ⟨_, rfl, .ite h (.maybe (.usbStart (.stepEnd (.beside h))) (.requestSleep ·))⟩

end
end Sys2Proof.Machine
end

section
/-! SUPPORT. Every command, and every step, keeps the stores well-formed. -/

namespace Sys2Proof.Machine

-- In turn, not each proof in a thread of its own.
set_option Elab.async false

section
variable {s : State}

theorem WellFormed.wake (h : WellFormed s) {c : BitVec 2} : WellFormed (s.wake c) := .beside h

theorem WellFormed.scrubStart (h : WellFormed s) : WellFormed s.scrubStart := .beside h

theorem exec_thermalSample_wellFormed (h : WellFormed s) (r : Rat) : Does (.thermalSample r) s WellFormed := by
  have warned (x : Thermal) {p : Prop} [Decidable p] :
      WellFormed (if p then State.freezeIf { s with thermal := x } 0x12#8 [2, 5] 1 else { s with thermal := x }) :=
    .maybe (.beside h) (.freezeIf ·)
  exact ⟨_, rfl, .ite h (.ite (.shutDown (warned _)) (.ite (.bootIfReady (.beside (warned _))) (warned _)))⟩

theorem exec_recv_wellFormed (h : WellFormed s) (t : TrowelId) (rd : RegId) : Does (.recv t rd) s WellFormed :=
  ⟨_, rfl, .runT h fun x hx => by split <;> exact hx⟩

theorem exec_bbEventWrite_wellFormed (h : WellFormed s) : Does .bbEventWrite s WellFormed := ⟨_, rfl, by
  split
  · exact h
  next e q hq =>
    refine .maybe h fun hv => hv.setBb fun hb => ?_
    obtain ⟨-, queue⟩ := s.bb.wf_iff.mp hb
    simp only [BlackBox.wf_iff]
    rw [hq, List.length_cons] at queue
    exact ⟨ringPush_length_le .., Nat.le_of_succ_le queue⟩⟩

/-- Only the choice 7 of the memories empties the black box (R509). -/
theorem exec_mbistDone_wellFormed (h : WellFormed s) (f : BitVec 7) (n : BitVec 15) (a : Word) :
    Does (.mbistDone f n a) s WellFormed := by
  have emptied (x : Tap) (c : Byte) (ns : Nat) (l m : Bool) : WellFormed { s with tap := x, bb := { s.bb with
      ring := [], queue := [], lostPending := l, freezeCause := c, freezeNs := ns, mbistEmptied := m } } :=
    ⟨h.fields, (BlackBox.wf_iff _).mpr ⟨Nat.zero_le _, Nat.zero_le _⟩, h.trowels, h.vs, h.shadow, h.faulted⟩
  refine ⟨_, rfl, ?_⟩
  split
  · exact h
  · exact .ite (emptied ..) (.beside h)

end

theorem exec_wellFormed (c : Instr) {s : State} (h : WellFormed s) : Does c s WellFormed := by
  cases c with
  | sceneDoneWrite | sleepGoWrite | sleepAckWrite | fieldWrite | lightEnableWrite | grpFireWrite | crvGoWrite
    | boardTempWrite | adcEnableWrite | refEnWrite | seqGo | calGo | accSnap | accClear | csiEnableWrite
    | vcEnWrite | ctxEnableWrite | locEnableWrite | decEnableWrite | vsDecide | vsPeekAddrWrite | hkSend
    | usbEnableWrite | reqNoteAck | serEnableWrite | serReqNoteAck | pairEnableWrite | pairTxMsgWrite
    | pairRxAckWrite | morEnableWrite | routeWrite | morTxMsgWrite | morRxAckWrite => exact ⟨_, rfl, .arrive h⟩
  | add | sub | and | or | xor | shl | shr | sar | mul | mulhu | mulhs | minu | maxu | cmp | tst | mov | clz
    | addi | andi | ori | xori | shli | shri | sari | cmpi | tsti | ext | ins | movi | movh | jr | tset | kick
    | nop => exact ⟨_, rfl, .runT h⟩
  | vddAonLoss | slowClockEdgeTimeout | wakeRise | ltEnRise | pulseStart | dischargeEnd | darkStartIssue
    | refReady | csiReceiverReady | candidateJxWaitExpiry | vbusPresent | clearFeatureHalt | setInterface
    | setFeatureLinkPower | u1U2EntryRequest | usbSuspend | usbTapTransferDone | serAckFrame | serRestartFrame
    | serFrameStart | serBackoffExpiry | holdoverLimit | crystalRateStep | syncOutInstant | syncOutPulseEnd
    | heartbeatPulse | pairLinkRetransmit | pairReserve | pairReserveAck | pairSenseMark | senseMarkPeriod
    | timeMarkPeriod | pairStepDown | pairTrowelMsg | linkAck | announcePeriod | delayExchangePeriod | delayReq
    | trstNLow | usbVendorRequestStall | pairLinkAck | superspeedTrainingTimeout | clockLaneStateChange =>
    exact ⟨_, rfl, .framed h⟩
  | sleepAddressMatch => exact .wellFormed (execSleepAddressMatch_frame ..) h
  | strobeLockedIssue => exact .wellFormed (execStrobeLockedIssue_frame ..) h
  | pairAckMark => exact .wellFormed (execPairAckMark_frame ..) h
  | morRecord => exact .wellFormed (execMorRecord_frame ..) h
  | morJoint => exact .wellFormed (execMorJoint_frame ..) h
  | serResponseSent => exact .wellFormed (execSerResponseSent_frame ..) h
  | resTakeInclude | resTakeNoPayload | resTakeOmit => exact ⟨_, rfl, .maybe h (.arrive ·)⟩
  | pwrOkRise => exact ⟨_, rfl, .ite h (.bootIfReady (.beside (.toReset h)))⟩
  | pwrOkLow => exact ⟨_, rfl, .beside (.toReset h)⟩
  | resetNRise => exact ⟨_, rfl, .bootIfReady (.beside h)⟩
  | pairHandshakeEnd => exact ⟨_, rfl, .ite h (.stepEnd (.beside (.waitDecide h)))⟩
  | slowClockWindowEnd => exact ⟨_, rfl, .ite h (.maybe (.beside h) (.sleepBegin ·))⟩
  | scnLatchRise => exact ⟨_, rfl, .ite h (.ite (.bbEvent h) (.ite h (.raiseAll (.beside h))))⟩
  | sceneChangeTimeout => exact ⟨_, rfl, .maybe h (.bbEvent ·)⟩
  | sleepReqRise => exact ⟨_, rfl, .requestSleep h⟩
  | sleepGraceExpiry => exact ⟨_, rfl, .maybe h fun hv => .sleepProceed (.beside (.bbEvent hv))⟩
  | sleepDecodeDrained =>
    exact ⟨_, rfl, .ite h (.maybe (.beside (.bbDrain (.pairSleep (.fabricSleep (.serRelease (.usbDetach (.bbEvent h)))))))
      (.wake ·))⟩
  | wakeXrefStable =>
    exact ⟨_, rfl, .ite h (.scrubStart (.wakeLight (.wakeLinks (.wakePorts (.wakeConverters (.beside h))))))⟩
  | wakeResume =>
    exact ⟨_, rfl, .ite h (.maybe (.foldl (.pairWake (.bbEvent (.raiseAll (.beside h)))) fun hv _ => .resume hv)
      (.requestSleep ·))⟩
  | freezeNFall => exact ⟨_, rfl, .freeze h⟩
  | satu | ld | grpb => exact ⟨_, rfl, .mayFault h (.ite (.trowelFault h) (.updT h))⟩
  | fld | fldx => exact ⟨_, rfl, .access h (.updT h)⟩
  | fst | fstx => exact ⟨_, rfl, .mayFault h (.stallOrPost h)⟩
  | fsync => exact ⟨_, rfl, .access h (.syncWrites h)⟩
  | grpe => exact ⟨_, rfl, .access h (.closeGroup h)⟩
  | evt | mfs => exact ⟨_, rfl, .whenRun h (.updT h)⟩
  | log => exact ⟨_, rfl, .whenRun h (.updT (.bbEvent h))⟩
  | fault => exact ⟨_, rfl, .mayFault h (.trowelFault h)⟩
  | illegalInstruction => exact ⟨_, rfl, .mayFault h (.maybe h (.trowelFault ·))⟩
  | timer => exact ⟨_, rfl, .maybe h fun hv => .raise (.updT hv)⟩
  | wdHalf => exact ⟨_, rfl, .maybe h (.raise ·)⟩
  | watchdogExpiry => exact ⟨_, rfl, .ite (.trowelFault h) (.secondFault h)⟩
  | course => exact ⟨_, rfl, .sleepProceed (.maybe (.courseBoundary h) (.mirror ·))⟩
  | pulseEnd => exact ⟨_, rfl, .maybe h fun hv => .darkBegin (.raise (.driveColumns (.beside hv)))⟩
  | neighTestStep => exact ⟨_, rfl, .ite (.sweepOn (.bridges h)) (.ite (.beside (.bridges h)) h)⟩
  | startEdge => exact ⟨_, rfl, .maybe h (.sequenceRequest ·)⟩
  | darkRequest => exact ⟨_, rfl, .maybe h fun hv => .lightRequest (.takeStart hv)⟩
  | conversionEnd => exact ⟨_, rfl, .sleepProceed (.conversionEnd h)⟩
  | frameStartPacket =>
    exact ⟨_, rfl, .packet h fun hv => .ite (.count16 hv) (.openFrames (.countWrap (.missingEnd hv)))⟩
  | frameEndPacket => exact ⟨_, rfl, .packet h fun hv => .frameEnd hv⟩
  | pixelPacket => exact ⟨_, rfl, .packet h fun hv => .pixels hv⟩
  | embeddedPacket => exact ⟨_, rfl, .packet h fun hv => .embedded hv⟩
  | headerUncorrectable => exact ⟨_, rfl, .ite h (.markDamaged (.count16 h))⟩
  | deskewBurst => exact ⟨_, rfl, .ite h (.updPort (.count16 h))⟩
  | pipelineSlice => exact ⟨_, rfl, .ite h (.serve (.beside h))⟩
  | coreTimeExpiry => exact ⟨_, rfl, .resolve h⟩
  | frameDecideNotice => exact ⟨_, rfl, .giveNotice (.passIdle h)⟩
  | tileScrub => exact ⟨_, rfl, .ite h (.ite (.storeRead (.beside h)) (.ite h (.storeRead (.beside h))))⟩
  | autoDecision => exact ⟨_, rfl, .ite h (.decideHead h)⟩
  | vbusAbsent => exact ⟨_, rfl, .usbDetach (.beside h)⟩
  | usbBusReset => exact ⟨_, rfl, .ite h (.raise (.count16 (.beside (.usbDefault (.usbAbandon h)))))⟩
  | setConfiguration =>
    exact ⟨_, rfl, .ite h (.ite (.usbRestart (.beside h)) (.ite (.beside (.usbAbandon h)) (.reply h)))⟩
  | getInventory | getLinkStatus | retrieve | getBlackbox => exact ⟨_, rfl, .usbRequest h id⟩
  | ackRecords => exact ⟨_, rfl, .usbRequest h fun hv => .maybe hv (.ackUsb ·)⟩
  | serFrameBroken => exact ⟨_, rfl, .maybe h fun hv => .foldl hv fun hu _ => .count16 hu⟩
  | serGetInventory | serGetLinkStatus | serAckRequest | serRetrieve | serGetBlackbox =>
    exact ⟨_, rfl, .serRequest h⟩
  | serFrameSent => exact ⟨_, rfl, .ite h (.ite (.updSer h) (.serRecordSent h))⟩
  | serLineHeldLow => exact ⟨_, rfl, .maybe h fun hv => .bbEvent (.count16 hv)⟩
  | serCancel => exact ⟨_, rfl, .arrive (.maybe h (.updSer ·))⟩
  | tick => exact ⟨_, rfl, .ite h (.raiseAll h)⟩
  | syncInEdge => exact ⟨_, rfl, .ite h (.timeSample (.raise h))⟩
  | sampleDeadlineExpiry => exact ⟨_, rfl, .ite h (.ite (.retarget (.loseRef h)) (.retarget (.updTime h)))⟩
  | hbLost => exact ⟨_, rfl, .ite h (.takeover (.raise (.updPair h)))⟩
  | conflictSettle => exact ⟨_, rfl, .ite (.leaveActive h) (.updPair h)⟩
  | pairWaitTimeout => exact ⟨_, rfl, .maybe h fun hv => .resyncIfDue (.waitActive hv)⟩
  | pairLinkDown => exact ⟨_, rfl, .ite h (.bbEvent (.count16 (.updPair h)))⟩
  | pairLinkUp => exact ⟨_, rfl, .ite h (.resyncIfDue (.pairSend (.updPair h)))⟩
  | pairRecord => exact ⟨_, rfl, .ite h (.toLinks (.updPair h))⟩
  | pairLightMark => exact ⟨_, rfl, .maybe h (.takeLight ·)⟩
  | pairTimeMark | fabricTimeFrame => exact ⟨_, rfl, .maybe h (.carriedSample ·)⟩
  | pairFault => exact ⟨_, rfl, .maybe h (.takeover ·)⟩
  | pairTakeoverMsg => exact ⟨_, rfl, .maybe h (.leaveActive ·)⟩
  | pairResyncStart => exact ⟨_, rfl, .maybe h fun hv => .count16 (.updPair hv)⟩
  | linkHello | linkHelloPeriod => exact ⟨_, rfl, .ite h (.morTryUp (.updMor h))⟩
  | portDegraded => exact ⟨_, rfl, .ite h (.morUp (.bbEvent (.updMor h)))⟩
  | linkRetransmit => exact ⟨_, rfl, .maybe h (.count16 ·)⟩
  | portDown => exact ⟨_, rfl, .ite h (.morDown (.bbEvent (.count16 h)))⟩
  | announceAgeOut => exact ⟨_, rfl, .maybe h fun hv => .routeChange (.updFab hv)⟩
  | gatewayProgressTimeout => exact ⟨_, rfl, .ite h (.gwRestart h)⟩
  | extest | samplePreload | idcode | highz | clamp | extestPulse | extestTrain | bbRead | bypass =>
    exact ⟨_, rfl, .beside (.loadIr h)⟩
  | mbist => exact ⟨_, rfl, .maybe (.beside (.loadIr h)) fun hv => .beside (.destroyMemories hv)⟩
  | fieldScan => exact ⟨_, rfl, .beside (.beside (.loadIr h))⟩
  | vqClkRise => exact ⟨_, rfl, .vqEdge h⟩
  | serUnknownRequest => exact ⟨_, rfl, .ite h (.serRequest h)⟩
  | xrefStable => exact ⟨_, rfl, .maybe h fun hv => .bootIfReady (.beside hv)⟩
  | resetNLow => exact exec_resetNLow_wellFormed h ..
  | strapSample => exact exec_strapSample_wellFormed h ..
  | otpLoad => exact exec_otpLoad_wellFormed h ..
  | selfCalibrationDone => exact exec_selfCalibrationDone_wellFormed h ..
  | sfdpRead => exact exec_sfdpRead_wellFormed h ..
  | recipeLoadDone => exact exec_recipeLoadDone_wellFormed h ..
  | signatureCheckDone => exact exec_signatureCheckDone_wellFormed h ..
  | trowelStart => exact exec_trowelStart_wellFormed h ..
  | bootNeighbourTestDone => exact exec_bootNeighbourTestDone_wellFormed h ..
  | fabricDiscoveryDone => exact exec_fabricDiscoveryDone_wellFormed h ..
  | readyRise => exact exec_readyRise_wellFormed h ..
  | xrefLoss => exact exec_xrefLoss_wellFormed h ..
  | ltEnFall => exact exec_ltEnFall_wellFormed h ..
  | st => exact exec_st_wellFormed h ..
  | bCond => exact exec_bCond_wellFormed h ..
  | callCond => exact exec_callCond_wellFormed h ..
  | ret => exact exec_ret_wellFormed h ..
  | fieldReadReply => exact exec_fieldReadReply_wellFormed h ..
  | fieldWriteAccepted => exact exec_fieldWriteAccepted_wellFormed h ..
  | wait => exact exec_wait_wellFormed h ..
  | waitEventPresent => exact exec_waitEventPresent_wellFormed h ..
  | eclr => exact exec_eclr_wellFormed h ..
  | mts => exact exec_mts_wellFormed h ..
  | send => exact exec_send_wellFormed h ..
  | scanInstant => exact exec_scanInstant_wellFormed h ..
  | blankingStart => exact exec_blankingStart_wellFormed h ..
  | faultSample => exact exec_faultSample_wellFormed h ..
  | zeroCurrentCheck => exact exec_zeroCurrentCheck_wellFormed h ..
  | neighSweepStart => exact exec_neighSweepStart_wellFormed h ..
  | derateUpdate => exact exec_derateUpdate_wellFormed h ..
  | tempLost => exact exec_tempLost_wellFormed h ..
  | urgEdge => exact exec_urgEdge_wellFormed h ..
  | strobeStart => exact exec_strobeStart_wellFormed h ..
  | frameDescriptorInCore => exact exec_frameDescriptorInCore_wellFormed h ..
  | frameEndTimeout => exact exec_frameEndTimeout_wellFormed h ..
  | candidateArrival => exact exec_candidateArrival_wellFormed h ..
  | decodeResolved => exact exec_decodeResolved_wellFormed h ..
  | resultArrival => exact exec_resultArrival_wellFormed h ..
  | closingPassEnd => exact exec_closingPassEnd_wellFormed h ..
  | noticeArrival => exact exec_noticeArrival_wellFormed h ..
  | jointArrival => exact exec_jointArrival_wellFormed h ..
  | jointWaitExpiry => exact exec_jointWaitExpiry_wellFormed h ..
  | mirrorWrite => exact exec_mirrorWrite_wellFormed h ..
  | vqQuery => exact exec_vqQuery_wellFormed h ..
  | standardRequest => exact exec_standardRequest_wellFormed h ..
  | usbRecordTransferDone => exact exec_usbRecordTransferDone_wellFormed h ..
  | serCollision => exact exec_serCollision_wellFormed h ..
  | serAckWindowExpiry => exact exec_serAckWindowExpiry_wellFormed h ..
  | plHbEdge => exact exec_plHbEdge_wellFormed h ..
  | pairHello => exact exec_pairHello_wellFormed h ..
  | pairDecision => exact exec_pairDecision_wellFormed h ..
  | pairResyncEnd => exact exec_pairResyncEnd_wellFormed h ..
  | linkFrame => exact exec_linkFrame_wellFormed h ..
  | announce => exact exec_announce_wellFormed h ..
  | delayResp => exact exec_delayResp_wellFormed h ..
  | morDelivered => exact exec_morDelivered_wellFormed h ..
  | morTap => exact exec_morTap_wellFormed h ..
  | morTrowel => exact exec_morTrowel_wellFormed h ..
  | morBroken => exact exec_morBroken_wellFormed h ..
  | flowBroken => exact exec_flowBroken_wellFormed h ..
  | unreachableExpiry => exact exec_unreachableExpiry_wellFormed h ..
  | frameStartNoticeInDecode => exact exec_frameStartNoticeInDecode_wellFormed h ..
  | serFrameRejected => exact exec_serFrameRejected_wellFormed h ..
  | instructionScrub => exact exec_instructionScrub_wellFormed h ..
  | thermalSample => exact exec_thermalSample_wellFormed h ..
  | bbEventWrite => exact exec_bbEventWrite_wellFormed h ..
  | mbistDone => exact exec_mbistDone_wellFormed h ..
  | recv => exact exec_recv_wellFormed h ..

/-- Settles O5: the stores are well-formed after every command and after an idle cycle. -/
theorem stepKeepsWf : Obligations.StepKeepsWf := by
  unfold Obligations.StepKeepsWf
  intro s u hw hu
  rw [State.wf_iff] at hw ⊢
  cases hp : s.pending with
  | nil =>
    have idle : step s = .next s.tick := by rw [step, hp]
    rw [idle] at hu
    cases hu
    exact .tick hw
  | cons c rest =>
    rw [stepRunsFrontCommand s c rest hp] at hu
    exact (exec_wellFormed c (.beside hw)).of_next hu

end Sys2Proof.Machine
end

section
/-! SUPPORT. The test access port: the test state, what a scan shifts out, and the self-test's result word (R6, R506 to
R514). -/

namespace Sys2Proof.Machine

section
variable {s u : State}

/-! ### The test state -/

/-- The test state entered from `s`: all but the black box and the identity may differ. -/
structure InTest (s u : State) : Prop where
  phase : u.phase = .test
  ready : u.balls.ready = false
  light : u.light.stage = .rest
  stopped : ∀ t : TrowelId, (u.trowels[t]).status = .stopped
  bb : u.bb = s.bb
  identity : u.identity = s.identity

theorem InTest.holdsPort (h : InTest s u) : u.holdsPort = false := by
  simp [State.holdsPort, h.ready, h.phase]

theorem State.enterTest_inTest (h : s.phase ≠ .test) : InTest s s.enterTest := by
  have rest : s.enterTest.light = s.lightRest.light ∧ ∀ t : TrowelId, (s.enterTest.trowels[t]).status = .stopped := by
    simp [State.enterTest, h, State.lightRest]
  constructor
  case phase => simp [State.enterTest, h]
  case ready => simp [State.enterTest, h]
  case light => simp [rest.1, State.lightRest]
  case stopped => exact rest.2
  all_goals simp

/-- An instruction of the test state enters it, with the instruction loaded. -/
theorem State.loadIr_inTest {i : TapIr} (hi : i.testState = true) (h : s.phase ≠ .test) : InTest s (s.loadIr i) := by
  have entered := State.enterTest_inTest (s := { s with tap := { s.tap with ir := i } }) h
  rw [State.loadIr, if_pos hi]
  exact ⟨entered.phase, entered.ready, entered.light, entered.stopped, entered.bb, entered.identity⟩

@[simp] theorem State.loadIr_tap (i : TapIr) : (s.loadIr i).tap = { s.tap with ir := i } := by
  unfold State.loadIr
  dsimp only
  split
  · simp
  · rfl

/-- A test instruction whose scan changes the access port only. -/
theorem InTest.scan {i : TapIr} (hi : i.testState = true) (h : s.phase ≠ .test) {x : Tap} {n : Nat} :
    InTest s { s.loadIr i with tap := x, fresh := n } := by
  obtain ⟨phase, ready, light, stopped, bb, identity⟩ := State.loadIr_inTest hi h
  exact ⟨phase, ready, light, stopped, bb, identity⟩

theorem InTest.destroyMemories (h : InTest s u) (sel : BitVec 8) : InTest s (u.destroyMemories sel) := by
  obtain ⟨phase, ready, light, stopped, bb, identity⟩ := h
  refine ⟨by simpa, by simpa, by simpa, fun t => ?_, by simpa, by simpa⟩
  have kept : ((u.destroyMemories sel).trowels[t]).status = (u.trowels[t]).status := by
    simp only [State.destroyMemories, apply_ite State.trowels, ite_self]
    split <;> simp
  rw [kept, stopped]

@[simp] theorem State.destroyMemories_captured (sel : BitVec 8) :
    (s.destroyMemories sel).tap.captured = s.tap.captured := by
  simp only [State.destroyMemories, apply_ite State.tap, ite_self]

/-! ### What a scan shifts out -/

@[simp] theorem bitList_length (n v : Nat) : (bitList n v).length = n := by
  simp [bitList]

@[simp] theorem BbEvent.bytes_length (e : BbEvent) : e.bytes.length = 16 := by
  simp [BbEvent.bytes]

/-- A list of events, and each of its bytes, bit by bit. -/
theorem ringBits_length (l : List BbEvent) :
    ((l.flatMap BbEvent.bytes).flatMap fun b => bitList 8 b.toNat).length = 128 * l.length := by
  simp only [List.length_flatMap, bitList_length, List.map_const', List.sum_replicate, BbEvent.bytes_length,
    smul_eq_mul]
  omega

theorem exec_bbRead_awake (hp : s.phase = .halted ∨ s.phase = .running) (ok : s.pins.pwrOk = true) :
    Does .bbRead s fun u => u = { s with tap := { s.tap with ir := .bbRead, captured := u.tap.captured } } ∧
      u.tap.captured.length = 32 + 128 * s.bb.ring.length := by
  have available : (s.loadIr .bbRead).bbAvailable = true := by
    obtain hp | hp := hp <;> simp [State.bbAvailable, State.loadIr, TapIr.testState, hp, ok]
  refine ⟨_, rfl, rfl, ?_⟩
  simp only [State.shiftOut, available, if_true, List.length_append, bitList_length, ringBits_length,
    State.loadIr_frame]

/-! ### The result of the self-test -/

/-- The bits of the memories that failed stand above bit 0, and what follows them is a multiple of 2^8. -/
theorem mbistResult_bits (f : BitVec 7) (rest : Nat) :
    (BitVec.ofNat 64 (1 + 2 * f.toNat + 2 ^ 8 * rest)).getLsbD 0 = true ∧
    ∀ i < 7, (BitVec.ofNat 64 (1 + 2 * f.toNat + 2 ^ 8 * rest)).getLsbD (i + 1) = f.getLsbD i := by
  constructor
  · simp only [BitVec.getLsbD_ofNat, Nat.testBit_zero]
    simp
    omega
  · intro i hi
    have half : (1 + 2 * f.toNat + 2 ^ 8 * rest) / 2 = 2 ^ 7 * rest + f.toNat := by omega
    have inside : i + 1 < 64 := by omega
    rw [BitVec.getLsbD_ofNat, Nat.testBit_succ, half, Nat.testBit_two_pow_mul_add _ f.isLt, if_pos hi]
    simp [inside, BitVec.getLsbD]

theorem exec_mbistDone_keepsBox {sel : BitVec 8} (hs : s.tap.mbistSel = some sel) (box : sel.getLsbD 7 = false)
    (fail : BitVec 7) (slots : BitVec 15) (adr : Word) : Does (.mbistDone fail slots adr) s fun u =>
      u = { s with tap := { s.tap with mbistSel := none, mbistResult := u.tap.mbistResult } } ∧
      u.tap.mbistResult.getLsbD 0 = true ∧
      ∀ i < 7, u.tap.mbistResult.getLsbD (i + 1) = (fail.getLsbD i && sel.getLsbD (i + 1)) := by
  have chosen (i : Nat) (hi : i < 7) :
      (fail &&& (sel >>> 1).setWidth 7).getLsbD i = (fail.getLsbD i && sel.getLsbD (i + 1)) := by
    simp [hi, Nat.add_comm 1 i]
  have summed (f : BitVec 7) (n a : Nat) : 1 + 2 * f.toNat + 2 ^ 8 * n + 2 ^ 32 * a =
      1 + 2 * f.toNat + 2 ^ 8 * (n + 2 ^ 24 * a) := by omega
  refine ⟨_, rfl, ?_⟩
  simp only [hs, box, Bool.false_eq_true, if_false, summed]
  obtain ⟨low, above⟩ := mbistResult_bits (fail &&& (sel >>> 1).setWidth 7) _
  exact ⟨trivial, low, fun i hi => (above i hi).trans (chosen i hi)⟩

theorem exec_mbist_starts (h : s.phase ≠ .test) {control : BitVec 64} (start : control.getLsbD 0 = true)
    (idle : s.tap.mbistSel = none) : Does (.mbist control) s fun u =>
      InTest s u ∧ u.tap.mbistSel = some (control.setWidth 8 &&& 0xFE) ∧ u.tap.captured.length = 64 := by
  have loaded : InTest s ((s.loadIr .mbist).shiftOut (bitList 64 s.tap.mbistResult.toNat)) := .scan rfl h
  obtain ⟨phase, ready, light, stopped, bb, identity⟩ := loaded.destroyMemories (control.setWidth 8 &&& 0xFE#8)
  have phaseBefore : (s.loadIr .mbist).phase = .test := loaded.phase
  refine ⟨_, rfl, ?_⟩
  dsimp only
  rw [if_pos (by simp [start, State.shiftOut, idle, phaseBefore])]
  refine ⟨⟨phase, ready, light, stopped, bb, identity⟩, rfl, ?_⟩
  simp [State.shiftOut]

/-! ### The access port -/

/-- Settles O18: the instructions of the test state through `InTest`, the others by their own scan. -/
theorem testAccessPort : Obligations.TestAccessPort := by
  unfold Obligations.TestAccessPort
  intro s cells dr a control fail slots adr quiet inTest
  have tested {c : Instr} {P : State → Prop} (h : Does c s fun u => InTest s u ∧ P u) :
      Does c s fun u => inTest u ∧ P u := by
    obtain ⟨u, hu, ht, hp⟩ := h
    exact ⟨u, hu, ⟨ht.phase, ht.ready, ht.light, ht.holdsPort, ht.stopped, ht.bb, ht.identity⟩, hp⟩
  refine ⟨⟨_, rfl, rfl⟩, ⟨_, rfl, rfl⟩, ⟨_, rfl, rfl⟩, ⟨_, rfl, rfl⟩, exec_bbRead_awake, fun h => ?_,
    fun sel hs box => exec_mbistDone_keepsBox hs box fail slots adr⟩
  refine ⟨tested ⟨_, rfl, .scan rfl h, rfl, rfl⟩, tested ⟨_, rfl, .scan rfl h, rfl, rfl⟩,
    tested ⟨_, rfl, .scan rfl h, rfl, rfl⟩, tested ⟨_, rfl, .scan rfl h, rfl⟩, tested ⟨_, rfl, .scan rfl h, rfl⟩,
    tested ⟨_, rfl, .scan rfl h, ?_, ?_⟩, fun start idle => tested (exec_mbist_starts h start idle)⟩
  · simp [State.shiftOut]
  · simp [State.shiftOut]

end
end Sys2Proof.Machine
end

section
/-! SUPPORT. Routes, egresses and the messages that a mortar port holds (R443, R451, R453, R454). -/

namespace Sys2Proof.Machine

/-! ### The messages of a port -/

/-- The message that a link item is, if it is one. -/
def itemMessage : LinkItem → Option MorMsg
  | .msg x => some x
  | .announce _ => none

/-- The messages that a port holds: those that wait for a lane, and those sent and not acknowledged. -/
def MorPort.messages (p : MorPort) : List MorMsg := p.queue ++ p.out.filterMap fun i => itemMessage i.2

/-- A slot takes a message from those that wait and puts it with those sent. -/
theorem MorPort.slot_messages (p : MorPort) (now : Nat) : (p.slot now).messages.Perm p.messages := by
  unfold MorPort.slot
  dsimp only
  split
  · rfl
  next i hi =>
    split
    · rfl
    next m hm =>
      obtain ⟨inside, rfl⟩ := List.getElem?_eq_some_iff.mp hm
      have moved : (p.queue.eraseIdx i ++ [p.queue[i]]).Perm p.queue :=
        (List.perm_append_singleton _ _).trans (List.getElem_cons_eraseIdx_perm inside)
      simp only [MorPort.messages, List.filterMap_append, List.filterMap_cons, List.filterMap_nil, itemMessage]
      exact ((List.perm_append_comm.append_left _).trans (List.append_assoc .. ▸ .refl _)).trans (moved.append_right _)

theorem MorPort.pump_messages (k now : Nat) (p : MorPort) : (MorPort.pump k now p).messages.Perm p.messages := by
  induction k generalizing p with
  | zero => rfl
  | succ k ih =>
    unfold MorPort.pump
    split
    · exact (ih _).trans (p.slot_messages now)
    · rfl

/-! ### Routes -/

section
variable {s u : State}

/-- A route leads to a port that is up. -/
theorem State.egress_up {d : BitVec 6} {e : MorId} (h : s.egress d = some e) : (s.fab.ports[e]).up = true := by
  unfold State.egress at h
  dsimp only at h
  split at h
  next hp =>
    obtain rfl := Option.some.inj h
    exact (Bool.and_eq_true_iff.mp hp).2
  · split at h
    next hq =>
      obtain rfl := Option.some.inj h
      exact (Bool.and_eq_true_iff.mp hq).2
    · cases h

/-- A route depends on its field and on the ports that are up. -/
theorem State.egress_congr {d : BitVec 6} (hr : u.route d = s.route d)
    (hp : ∀ m : MorId, (u.fab.ports[m]).up = (s.fab.ports[m]).up) : u.egress d = s.egress d := by
  simp only [State.egress, hr, hp]

/-- A message joins those of an egress that is up. -/
theorem State.egressPush_messages {e : MorId} (up : (s.fab.ports[e]).up = true) (x : MorMsg) :
    ((s.egressPush e x).fab.ports[e]).messages.Perm (x :: (s.fab.ports[e]).messages) := by
  have self : ((s.egressPush e x).fab.ports[e]) = MorPort.pump 2 s.time.core
      { s.fab.ports[e] with queue := (s.fab.ports[e]).queue ++ [x] } := by
    refine (s.updMor_self e _).trans (if_pos up)
  rw [self]
  refine (MorPort.pump_messages ..).trans ?_
  simp only [MorPort.messages, List.append_assoc]
  exact List.perm_middle

theorem State.forward_messages {e : MorId} {x : MorMsg} (h : s.egress x.dst = some e) :
    ((s.forward x).fab.ports[e]).messages.Perm (x :: (s.fab.ports[e]).messages) := by
  rw [State.forward, h]
  exact State.egressPush_messages (State.egress_up h) x

/-! ### A message that goes on -/

/-- The state once a frame has been accepted on a port, in the order of the link (R444). -/
def State.linkSeen (s : State) (m : MorId) : State := s.updMor m fun p => { p with rxSeq := p.rxSeq + 1 }

theorem State.linkSeen_of_ne (s : State) {m n : MorId} (h : n ≠ m) :
    (s.linkSeen m).fab.ports[n] = s.fab.ports[n] := s.updMor_of_ne h fun p => { p with rxSeq := p.rxSeq + 1 }

theorem State.linkSeen_up (s : State) (m n : MorId) : ((s.linkSeen m).fab.ports[n]).up = (s.fab.ports[n]).up := by
  by_cases hn : n = m
  · subst hn
    simp [State.linkSeen]
  · rw [s.linkSeen_of_ne hn]

theorem exec_linkFrame_msg {m : MorId} (h : s.morLive m = true) (x : MorMsg) :
    exec (.linkFrame m (s.fab.ports[m]).rxSeq (.msg x) true) s = .next ((s.linkSeen m).transit x) := by
  refine congrArg Host.Outcome.next ?_
  simp [h, State.linkSeen]

theorem State.transit_drops {x : MorMsg} (hd : s.fab.id ≠ some x.dst) (hh : 8 ≤ x.hop.toNat) :
    s.transit x = s.count16 Fld.morHopDropCount := by
  rw [State.transit, if_neg hd, if_pos hh]

theorem State.transit_forwards {x : MorMsg} (hd : s.fab.id ≠ some x.dst) (hh : x.hop.toNat < 8) :
    s.transit x = (s.countWrap Fld.morFwdCount 1).forward { x with hop := x.hop + 1 } := by
  rw [State.transit, if_neg hd, if_neg (by omega)]

theorem morRoute_ne_fwdCount (d : BitVec 6) : Fld.morRoute d.toNat ≠ Fld.morFwdCount := by
  unfold Fld.morRoute Fld.morFwdCount
  omega

/-- Acceptance of a frame and the count of those forwarded change no route. -/
theorem State.linkSeen_egress (m : MorId) (d : BitVec 6) :
    ((s.linkSeen m).countWrap Fld.morFwdCount 1).egress d = s.egress d := by
  exact State.egress_congr (State.getF_countWrap_of_ne _ (morRoute_ne_fwdCount d) 1) (s.linkSeen_up m)

/-- Settles O59: the raised message joins those of the port that its route leads to. -/
theorem hopCounts : Obligations.HopCounts := by
  unfold Obligations.HopCounts
  intro s m e x d c k more l p ports msgs
  refine ⟨rfl, fun live other => ⟨fun low route away => ?_, fun last => ?_⟩⟩
  · refine ⟨_, (exec_linkFrame_msg live x).trans (congrArg _ (State.transit_forwards other low)), ?_⟩
    have here : (((s.linkSeen m).countWrap Fld.morFwdCount 1).fab.ports[e]) = s.fab.ports[e] := s.linkSeen_of_ne away
    have joined := State.forward_messages (x := { x with hop := x.hop + 1 }) ((State.linkSeen_egress m x.dst).trans route)
    rw [here] at joined
    exact joined
  · refine ⟨_, (exec_linkFrame_msg live x).trans (congrArg _ (State.transit_drops other (by simp [last]))), rfl, ?_⟩
    exact State.count16_counted (s.linkSeen m) Fld.morHopDropCount

end
end Sys2Proof.Machine
end

section
/-! SUPPORT. Link delays and fabric time (R473 to R475). -/

namespace Sys2Proof.Machine

section
variable {s : State} {m : MorId}

/-! ### The delay of a link -/

/-- The delays of a port with one more measured: the last 16 count (R474). -/
def MorPort.delaysWith (p : MorPort) (t1 t2 t3 t4 : Nat) : List Int :=
  ((((t4 : Int) - t1) - ((t3 : Int) - t2)) / 2 :: p.delays).take 16

theorem exec_delayExchangePeriod (h : s.morLive m = true) : exec (.delayExchangePeriod m) s = .next
    (s.updMor m fun p => { p with sentReq := some s.nowNs, sentTime := some s.timeFrame }) :=
  congrArg Host.Outcome.next (if_neg (by simp [h]))

theorem exec_delayReq (h : s.morLive m = true) : exec (.delayReq m) s = .next
    (s.updMor m fun p => { p with sentResp := some s.nowNs }) := congrArg Host.Outcome.next (if_neg (by simp [h]))

theorem exec_delayResp (h : s.morLive m = true) (t1 t2 t3 t4 : Nat) : exec (.delayResp m t1 t2 t3 t4) s =
    let l := (s.fab.ports[m]).delaysWith t1 t2 t3 t4
    .next ((s.updMor m fun p => { p with delays := l }).setN (Fld.morDelayNs m) (min 0xFFFF (l.sum / l.length).toNat)) :=
  congrArg Host.Outcome.next (if_neg (by simp [h]))

/-! ### Fabric time -/

theorem exec_fabricTimeFrame_none {gm : Option (BitVec 6)} {valid : Bool} {ns : Nat} {ofs : Int}
    (h : valid = false ∨ s.timePort ≠ some m ∨ (s.fab.ports[m]).delays.length < 16 ∨ s.isGm = true) :
    exec (.fabricTimeFrame m gm valid ns ofs) s = .next s := by
  refine congrArg Host.Outcome.next (if_neg fun takes => ?_)
  simp only [Bool.and_eq_true, decide_eq_true_eq, Bool.not_eq_true'] at takes
  obtain ⟨⟨⟨⟨-, sound⟩, port⟩, measured⟩, slave⟩ := takes
  obtain hv | hp | hd | hg := h
  · exact Bool.false_ne_true (hv.symm.trans sound)
  · exact hp port
  · exact Nat.not_le.mpr hd measured
  · exact Bool.false_ne_true (slave.symm.trans hg)

theorem exec_fabricTimeFrame_sample (live : s.morLive m = true) {gm : Option (BitVec 6)} {ns : Nat} {ofs : Int}
    (port : s.timePort = some m) (measured : 16 ≤ (s.fab.ports[m]).delays.length) (slave : s.isGm = false) :
    exec (.fabricTimeFrame m gm true ns ofs) s =
      .next (s.carriedSample .fabric ((ns : Int) + ofs + s.getN (Fld.morDelayNs m))) :=
  congrArg Host.Outcome.next (if_pos (by simp [live, port, slave]; exact measured))

/-- The first sample of the fabric, where another reference is selected, seeds it (R402). -/
theorem State.carriedSample_seeds {r : Int} (takes : s.timeTakes = true) (ranked : s.ranking.contains .fabric = true)
    (unseeded : s.time.fabric.seed = none) (other : s.time.sel ≠ .fabric) (steady : s.time.mode ≠ .holdover) :
    s.carriedSample .fabric r = s.updTime (·.setCand .fabric
      (.seeded (s.time.xref, 4 * r) (r * nsUnit - s.time.fine))) :=
  State.timeSample_seeds takes (by decide) (List.contains_iff_mem.mp ranked) unseeded other steady

/-- Settles O51: the exchange of delays writes its port and MOR.DELAY_NS; a TIME frame is a sample or nothing. -/
theorem mortarTime : Obligations.MortarTime := by
  unfold Obligations.MortarTime
  intro s m t1 t2 t3 t4 ns gm valid ofs p port live
  refine ⟨⟨_, exec_delayExchangePeriod live, rfl⟩, fun gm => if_pos gm, fun slave => ?_, ⟨_, exec_delayReq live, rfl⟩,
    ⟨_, exec_delayResp live t1 t2 t3 t4, rfl, ?_, fun b hb => State.getF_setF_of_ne _ hb _⟩, exec_fabricTimeFrame_none, ?_⟩
  · rw [State.timeFrame, if_neg (by simp [slave])]
  · exact State.getN_setN _ _ (by omega)
  · rintro rfl onPort measured slave takes ranked unseeded other steady
    exact ⟨_, (exec_fabricTimeFrame_sample live onPort measured slave).trans
      (congrArg _ (State.carriedSample_seeds takes ranked unseeded other steady)), rfl, rfl, rfl, rfl⟩

end
end Sys2Proof.Machine
end

section
/-! SUPPORT. What the fabric has delivered: records, samples, tap packets, words and BROKEN, and the gateway link (R462, R465
to R472). -/

namespace Sys2Proof.Machine

/-! ### Flows that this node sends -/

theorem Fabric.outFlow_names (x : Fabric) (d : BitVec 6) (c : Byte) :
    (x.outFlow d c).dst = d ∧ (x.outFlow d c).cls = c := by
  unfold Fabric.outFlow
  cases hf : x.outFlows.find? fun f => f.dst == d && f.cls == c with
  | none => exact ⟨rfl, rfl⟩
  | some f => simpa using List.find?_some hf

/-- A stored flow is the one to its destination in its class. -/
theorem Fabric.outFlow_setOut (x : Fabric) {f : OutFlow} {d : BitVec 6} {c : Byte} (hd : f.dst = d) (hc : f.cls = c) :
    (x.setOut f).outFlow d c = f := by
  subst hd hc
  have others : (x.outFlows.filter fun g => !(g.dst == f.dst && g.cls == f.cls)).find?
      (fun g => g.dst == f.dst && g.cls == f.cls) = none := by
    simp only [List.find?_eq_none, List.mem_filter]
    rintro g ⟨-, hg⟩
    simpa only [Bool.not_eq_true', Bool.not_eq_true] using hg
  simp only [Fabric.outFlow, Fabric.setOut, List.find?_append, others, Option.none_or]
  simp

/-- The flow to a destination in a class, to be restarted (R462). -/
def Fabric.restarts (x : Fabric) (d : BitVec 6) (c : Byte) : Fabric := x.setOut { x.outFlow d c with restart := true }

theorem Fabric.outFlow_restarts (x : Fabric) (d : BitVec 6) (c : Byte) :
    (x.restarts d c).outFlow d c = { x.outFlow d c with restart := true } :=
  x.outFlow_setOut (x.outFlow_names d c).1 (x.outFlow_names d c).2

section
variable {s : State} {src : BitVec 6} {k : Byte} {b : List Byte} {rest : List (BitVec 6 × Byte × List Byte)}

/-! ### The inbox -/

theorem State.nextUnit_head (h : s.fab.inbox = (src, k, b) :: rest) : s.nextUnit k = some (0, src, b) := by
  simp [State.nextUnit, h, List.findIdx?_cons]

theorem State.nextUnit_nil (h : s.fab.inbox = []) (k : Byte) : s.nextUnit k = none := by
  simp [State.nextUnit, h]

/-- The oldest unit has left the inbox. -/
theorem State.dropUnit_head (h : s.fab.inbox = (src, k, b) :: rest) :
    s.dropUnit 0 = { s with fab := { s.fab with inbox := rest } } := by
  simp [State.dropUnit, State.updFab, h]

/-! ### Each unit -/

theorem morRecord_takes (h : s.fab.inbox = (src, 1, b) :: rest) :
    (s.fab.fwdBytes src + b.length ≤ 32768 → s.usbStreams = false → Does .morRecord s fun u =>
      u = { s with fab := { s.fab with inbox := rest, fwd := s.fab.fwd ++ [(src, b)] } }) ∧
    (32768 < s.fab.fwdBytes src + b.length → Does .morRecord s fun u =>
      u = { s with fab := { s.fab with inbox := rest } }) := by
  have taken : exec .morRecord s = .next
      (if s.fab.fwdBytes src + b.length ≤ 32768 then
        State.usbStart { s with fab := { s.fab with inbox := rest, fwd := s.fab.fwd ++ [(src, b)] } }
      else { s with fab := { s.fab with inbox := rest } }) := by
    refine congrArg Host.Outcome.next ?_
    simp only [State.nextUnit_head h, State.dropUnit_head h]
    rfl
  exact ⟨fun room idle => ⟨_, taken, (if_pos room).trans (State.usbStart_idle idle)⟩,
    fun full => ⟨_, taken, if_neg (by omega)⟩⟩

theorem State.mirror_inactive (h : s.pair.mode ≠ .active) (m : PairMsg) : s.mirror m = s :=
  if_neg (by simp [State.pairActive, h])

theorem State.gwPump_none (h : s.gateway = none) (k : Nat) : State.gwPump k s = s := by
  cases k with
  | zero => rfl
  | succ k => simp [State.gwPump, h]

theorem morDelivered_frees (h : s.fab.inbox = (src, 2, b) :: rest) (inactive : s.pair.mode ≠ .active)
    (none : s.gateway = none) :
    let n := BitVec.ofNat 32 (leAt b 0 4)
    exec .morDelivered s = .next { s with fab := { s.fab.gwAck n with
      inbox := rest, delivered := if s.fab.deliveredAny && precedes n s.fab.delivered then s.fab.delivered else n
      deliveredAny := true } } := by
  refine congrArg Host.Outcome.next ?_
  simp only [State.nextUnit_head h, State.dropUnit_head h]
  rw [State.mirror_inactive (by exact inactive), State.gwPump_none (by exact none)]
  rfl

theorem morJoint_takes (h : s.fab.inbox = (src, 3, b) :: rest) :
    (s.jointOn = true → Does .morJoint s fun u =>
      u = { s with fab := { s.fab with inbox := rest }, dec := { s.dec with jxIn := s.dec.jxIn ++ [(src, b)] } }) ∧
    (s.jointOn = false → Does .morJoint s fun u => u = { s with fab := { s.fab with inbox := rest } }) := by
  have taken : exec .morJoint s = .next (if s.jointOn then
      { s with fab := { s.fab with inbox := rest }, dec := { s.dec with jxIn := s.dec.jxIn ++ [(src, b)] } }
      else { s with fab := { s.fab with inbox := rest } }) := by
    refine congrArg Host.Outcome.next ?_
    simp only [State.nextUnit_head h, State.dropUnit_head h]
    rfl
  exact ⟨fun on => ⟨_, taken, if_pos on⟩, fun off => ⟨_, taken, if_neg (by simp [off])⟩⟩

theorem morTap_takes (h : s.fab.inbox = (src, 4, b) :: rest) :
    (s.tapDestLive none = true → Does .morTap s fun u =>
      u = { s with fab := { s.fab with inbox := rest }, usb := { s.usb with taps := u.usb.taps } } ∧
      ∃ y : TapPkt, u.usb.taps = s.usb.taps ++ [y] ∧ y.dest = none ∧ y.forwarded = true ∧
        y.bytes = b.set 3 ((b.getD 3 0 &&& 1) ||| 0x80 ||| (src.setWidth 8 <<< 1))) ∧
    (s.tapDestLive none = false → Does .morTap s fun u =>
      u = { s with fields := u.fields, fab := { s.fab with inbox := rest } } ∧ Counted s u Fld.morTapDiscardCount []) := by
  have taken : exec .morTap s = .next (if s.tapDestLive none then
      { s with
        fab := { s.fab with inbox := rest }
        usb := { s.usb with taps := s.usb.taps ++ [TapPkt.mk none (Fin.ofNat 8 (byteAt b 1)) true
          (b.set 3 ((b.getD 3 0 &&& 1) ||| 0x80#8 ||| (src.setWidth 8 <<< 1)))] } }
      else State.count16 { s with fab := { s.fab with inbox := rest } } Fld.morTapDiscardCount) := by
    refine congrArg Host.Outcome.next ?_
    simp only [State.nextUnit_head h, State.dropUnit_head h]
    rfl
  refine ⟨fun live => ?_, fun lost => ?_⟩
  · rw [if_pos live] at taken
    exact ⟨_, taken, rfl, _, rfl, rfl, rfl, rfl⟩
  · rw [if_neg (by simp [lost])] at taken
    exact ⟨_, taken, rfl, State.count16_counted ..⟩

theorem morTrowel_takes (h : s.fab.inbox = (src, 5, b) :: rest) :
    (s.fab.words.length < 8 → Does .morTrowel s fun u => u = { s with fab := { s.fab with
      inbox := rest, words := s.fab.words ++ [(src, BitVec.ofNat 32 (leAt b 0 4))] } }) ∧
    (8 ≤ s.fab.words.length → Does .morTrowel s fun u =>
      u = { s with fields := u.fields, fab := { s.fab with inbox := rest } } ∧ Counted s u Fld.morMsgDropCount []) := by
  have taken : exec .morTrowel s = .next (if s.fab.words.length < 8 then
      { s with fab := { s.fab with inbox := rest, words := s.fab.words ++ [(src, BitVec.ofNat 32 (leAt b 0 4))] } }
      else State.count16 { s with fab := { s.fab with inbox := rest } } Fld.morMsgDropCount) := by
    refine congrArg Host.Outcome.next ?_
    simp only [State.nextUnit_head h, State.dropUnit_head h]
    rfl
  refine ⟨fun room => ⟨_, taken, if_pos room⟩, fun full => ?_⟩
  rw [if_neg (by omega)] at taken
  exact ⟨_, taken, rfl, State.count16_counted ..⟩

theorem morBroken_restarts (h : s.fab.inbox = (src, 6, b) :: rest) (none : s.gateway = none) : exec .morBroken s = .next
    { s with fab := { s.fab.restarts src (b.getD 0 0) with inbox := rest } } := by
  refine congrArg Host.Outcome.next ?_
  simp only [State.nextUnit_head h, State.dropUnit_head h]
  refine if_neg fun hg => ?_
  exact absurd (hg.2.symm.trans none) (Option.some_ne_none _)

/-! ### The gateway link (R467) -/

theorem exec_gatewayProgressTimeout (h : s.fab.gwNext ≠ 0) : exec .gatewayProgressTimeout s = .next s.gwRestart :=
  congrArg Host.Outcome.next (if_neg h)

theorem State.gwRestart_none (h : s.gateway = none) : s.gwRestart = { s with fab := { s.fab with gwNext := 0 } } := by
  simp only [State.gwRestart, h]
  rfl

/-- What a gateway makes certain of the fabric. -/
theorem State.gateway_of_some {d : BitVec 6} (h : s.gateway = some d) :
    s.fab.id.isSome = true ∧ s.fab.id ≠ some d ∧ s.anyMor = true := by
  unfold State.gateway at h
  dsimp only at h
  split at h
  next hg =>
    simp only [Bool.and_eq_true, decide_eq_true_eq] at hg
    obtain ⟨⟨⟨⟨-, named⟩, other⟩, ports⟩, -⟩ := hg
    exact ⟨named, Option.some.inj h ▸ other, ports⟩
  · cases h

/-- A message to another node without a route waits for one (R451). -/
theorem State.originate_waits {d : BitVec 6} {c kind : Byte} {more : Bool} {l : List Byte} (named : s.fab.id.isSome = true)
    (other : s.fab.id ≠ some d) (ports : s.anyMor = true) (noRoute : s.egress d = none) :
    s.originate d c kind more l = (s.compose d c kind more l).2.updFab fun x =>
      { x with wait := x.wait ++ [(s.compose d c kind more l).1] } := by
  have route : (s.compose d c kind more l).2.egress (s.compose d c kind more l).1.dst = none := noRoute
  unfold State.originate
  rw [if_neg (by simp [ports, Option.isNone_iff_eq_none, Option.isSome_iff_ne_none.mp named])]
  dsimp only
  rw [if_neg other, State.forward, route]

/-- What waits at the send pointer is sent (R465). -/
theorem State.gwPump_sends {d : BitVec 6} {r : QRec} (gate : s.gateway = some d)
    (next : s.fab.gw[s.fab.gwNext]? = some r) (room : s.fab.gwNext < 8) (k : Nat) :
    State.gwPump (k + 1) s = State.gwPump k ((s.updFab fun x => { x with
      gwNext := x.gwNext + 1, gw := x.gw.set x.gwNext { r with sent := true } }).originate d 2 1 false r.bytes) := by
  rw [State.gwPump, gate, next]
  exact if_neg (by omega)

theorem State.gwPump_end (h : s.fab.gw[s.fab.gwNext]? = none) (k : Nat) : State.gwPump k s = s := by
  cases k with
  | zero => rfl
  | succ k =>
    rw [State.gwPump, h]
    split
    next h' => cases h'
    next => rfl

/-- With one record in the queue, a restart sends it again, as the first message of its flow. -/
theorem State.gwRestart_one {d : BitVec 6} {r : QRec} (gate : s.gateway = some d) (one : s.fab.gw = [r])
    (noRoute : s.egress d = none) : s.gwRestart.fab.gwNext = 1 ∧ ∃ y : MorMsg, s.gwRestart.fab.wait = s.fab.wait ++ [y] ∧
      y.restart = true ∧ y.kind = 1 ∧ y.cls = 2 ∧ y.dst = d ∧ y.payload = r.bytes := by
  obtain ⟨named, other, ports⟩ := State.gateway_of_some gate
  have fresh : s.gwRestart = State.gwPump 8 { s with fab := { s.fab.restarts d 2 with gwNext := 0 } } := by
    rw [State.gwRestart, gate]
    rfl
  rw [fresh, State.gwPump_sends (r := r) (by exact gate) (by simp [Fabric.restarts, Fabric.setOut, one]) (Nat.zero_lt_succ 7),
    State.originate_waits (by exact named) (by exact other) (by exact ports) (by exact noRoute),
    State.gwPump_end (by simp [State.compose, Fabric.setOut, Fabric.restarts, one])]
  refine ⟨rfl, _, rfl, ?_, rfl, rfl, rfl, rfl⟩
  exact congrArg OutFlow.restart (s.fab.outFlow_restarts d 2)

/-- Settles O53: each kind of unit from the head of the inbox, and the restart of the gateway link. -/
theorem mortarDelivered : Obligations.MortarDelivered := by
  unfold Obligations.MortarDelivered
  intro s src b rest x
  refine ⟨morRecord_takes, fun h inactive none => ⟨_, morDelivered_frees h inactive none, rfl, rfl⟩, morJoint_takes,
    morTap_takes, morTrowel_takes, fun h none => ⟨_, morBroken_restarts h none, rfl, x.outFlow_restarts ..⟩, fun h => ?_,
    fun h => congrArg Host.Outcome.next (if_pos h),
    fun h none => ⟨_, (exec_gatewayProgressTimeout h).trans (congrArg _ (State.gwRestart_none none)), rfl⟩,
    fun d r h gate one noRoute => ⟨_, exec_gatewayProgressTimeout (by simp [x, h]), State.gwRestart_one gate one noRoute⟩⟩
  have stays (k : Byte) : s.nextUnit k = none := State.nextUnit_nil h k
  refine ⟨?_, ?_, ?_, ?_, ?_, ?_⟩ <;> exact congrArg Host.Outcome.next (by simp only [stays])

end
end Sys2Proof.Machine
end

section
/-! SUPPORT. An announcement sent before the node has its ID (R446, R448). -/

namespace Sys2Proof.Machine

/-! ### Announcements that a node originates -/

section
variable {s : State}

theorem exec_announcePeriod (ports : s.anyMor = true) (started : s.boot.started = true) :
    exec .announcePeriod s = .next s.announceNow := congrArg Host.Outcome.next (if_pos (by simp [ports, started]))

end

/-- A node after trowel start and before the end of fabric discovery, its port 0 up, whose straps ST3 and ST4 fix its ID
to 0. -/
def undiscoveredNode : State := { State.reset with
  boot := { State.reset.boot with started := true }
  fields := [(Fld.morEnable 0, 1)]
  sys := { State.reset.sys with straps := ((List.replicate 20 15).set 3 2).set 4 0, enabled := 64 }
  fab := { State.reset.fab with ports := State.reset.fab.ports.set 0 { MorPort.down with up := true } } }

/-- It has no ID, and announces the one that its straps fix. -/
theorem undiscoveredNode_announces : undiscoveredNode.fab.id = none ∧
    (undiscoveredNode.announceNow.fab.ports[0]).out =
      [(0, .announce { undiscoveredNode.ownAnnounce with num := 1, id := some 0 })] := ⟨rfl, rfl⟩

/-- Refutes O50: the clause of ANNOUNCE_PERIOD names the node's ID, where a node that has none yet, and whose straps fix
one, announces that (log entry 80). -/
theorem not_mortarLinks : ¬ Obligations.MortarLinks := by
  unfold Obligations.MortarLinks
  intro h
  obtain ⟨-, -, -, -, -, -, -, announces, -⟩ := h undiscoveredNode 0 0 0 false false false false 0
    undiscoveredNode.ownAnnounce (.announce undiscoveredNode.ownAnnounce) 0
  obtain ⟨u, hu, -, b, hout, -, hid, -⟩ := announces (by decide) rfl rfl
  obtain rfl := Host.Outcome.next.inj ((exec_announcePeriod (by decide) rfl).symm.trans hu)
  obtain ⟨unnamed, announced⟩ := undiscoveredNode_announces
  have same : [((0 : BitVec 16), LinkItem.announce { undiscoveredNode.ownAnnounce with num := 1, id := some 0 })] =
      [(0, .announce b)] := announced.symm.trans hout
  simp only [List.cons.injEq, Prod.mk.injEq, LinkItem.announce.injEq, true_and, and_true] at same
  rw [← same, unnamed] at hid
  exact Option.some_ne_none _ hid

end Sys2Proof.Machine
end

section
/-! SUPPORT. An active engine that leaves its role with a whole frame in its tap queue (R271, R424, R426). -/

namespace Sys2Proof.Machine

/-- An engine of a bonded pair, active for 20 µs, whose tap queue holds the frame end of a frame that ended whole. -/
def tappedActiveEngine : State := { State.reset with
  phase := .running
  boot := { State.reset.boot with started := true }
  fields := [(Fld.pairEnable, 1)]
  sys := { State.reset.sys with straps := (List.replicate 20 15).set 2 1, enabled := 1024 }
  time := { State.reset.time with ns := 20000 }
  pair := { State.reset.pair with mode := .active, activeFrom := some 0 }
  usb := { State.reset.usb with taps := [⟨none, 0, false, [3, 0, 0, 0]⟩] } }

/-- An edge of PL_HB makes it leave the role, and the frame in its tap queue is counted as dropped. -/
theorem tappedActiveEngine_leaves : Does .plHbEdge tappedActiveEngine fun u => u.getF (Fld.ctxTapDropCount 0) = 1 :=
  ⟨_, rfl, by decide⟩

/-- Refutes O46: leaving the role after 10 µs of conflict changes PAIR.CONFLICT_COUNT, and no other stored field, by the
statement; a whole frame in the tap queue changes its context's count of dropped frames too (R271, R426). -/
theorem not_pairRoles : ¬ Obligations.PairRoles := by
  unfold Obligations.PairRoles
  intro h
  obtain ⟨-, roles⟩ := h tappedActiveEngine 0 0 0 0
  obtain ⟨-, -, -, -, -, -, conflict, -⟩ := roles (by decide) (by decide)
  obtain ⟨-, late⟩ := conflict rfl rfl rfl 0 rfl
  obtain ⟨u, hu, -, -, others⟩ := late (by decide)
  have kept : u.getF (Fld.ctxTapDropCount 0) = tappedActiveEngine.getF (Fld.ctxTapDropCount 0) :=
    others _ (by decide) (by decide)
  rw [tappedActiveEngine_leaves.of_next hu] at kept
  exact absurd kept (by decide)

end Sys2Proof.Machine
end

section
/-! SUPPORT. The pair link: its messages, the handshake, reservations and marks (R422, R427 to R431, R439). -/

namespace Sys2Proof.Machine

/-! ### Sending -/

/-- A message joins those that wait for their acknowledgement. -/
def Pair.sends (x : Pair) (m : PairMsg) : Pair := { x with out := x.out ++ [(x.txSeq, m)], txSeq := x.txSeq + 1 }

/-- The bytes that wait for their acknowledgement. -/
def Pair.outSize (x : Pair) : Nat := (x.out.map fun e => msgSize e.2).sum

section
variable {s : State}

/-- A short message, where the link is up and 2 MiB are far, changes the output alone. -/
theorem State.pairSend_short {m : PairMsg} (up : s.pair.linkUp = true) (room : s.pair.outSize < 2000000)
    (short : msgSize m = 16) : s.pairSend m = { s with pair := s.pair.sends m } := by
  have size : ((s.pair.out ++ [(s.pair.txSeq, m)]).map fun e => msgSize e.2).sum = s.pair.outSize + 16 := by
    simp [Pair.outSize, short]
  have fits : decide (2 * 1024 * 1024 < s.pair.outSize + 16) = false := decide_eq_false (by omega)
  rw [State.pairSend, if_neg (by simp [up])]
  simp only [size, fits, Bool.not_false, Bool.and_true]
  rfl

theorem State.resyncIfDue_inactive (h : s.pair.mode ≠ .active) : s.resyncIfDue = s :=
  if_neg (by simp [State.pairActive, h])

theorem State.mirror_active (h : s.pair.mode = .active) (m : PairMsg) : s.mirror m = s.pairSend m :=
  if_pos (by simp [State.pairActive, h])

theorem State.standby_of (awake : s.pairAwake = true) (up : s.pair.linkUp = true) (mode : s.pair.mode = .standby) :
    s.standby = true := by simp [State.standby, awake, up, mode]

/-! ### The link comes up and goes down -/

section
variable (awake : s.pairAwake = true)
include awake

theorem exec_pairLinkUp_greets (down : s.pair.linkUp = false) (inactive : s.pair.mode ≠ .active) :
    exec .pairLinkUp s = .next { s with pair := { s.pair with
      linkUp := true, out := [(0, .hello s.ownHello)], txSeq := 1 } } := by
  have greeted := State.pairSend_short
    (s := s.updPair fun x => { x with linkUp := true, out := [], txSeq := 0 }) (m := .hello s.ownHello) rfl
    (Nat.zero_lt_succ _) rfl
  refine congrArg Host.Outcome.next ((if_neg (by simp [awake, down])).trans ?_)
  exact (congrArg State.resyncIfDue greeted).trans (State.resyncIfDue_inactive inactive)

omit awake in
theorem exec_pairLinkUp_again (up : s.pair.linkUp = true) : exec .pairLinkUp s = .next s :=
  congrArg Host.Outcome.next (if_pos (by simp [up]))

theorem pairLinkDown_counts (up : s.pair.linkUp = true) : Does .pairLinkDown s fun u => u = { s with
    fields := u.fields, bb := u.bb
    pair := { s.pair with linkUp := false, synced := false, resync := false, asked := false, out := [], txSeq := 0 } } ∧
    Counted s u Fld.pairLinkDownCount [] :=
  ⟨_, congrArg Host.Outcome.next (if_neg (by simp [awake, up])), rfl, s.count16_counted _⟩

/-! ### Acknowledgements -/

theorem exec_pairLinkAck (up : s.pair.linkUp = true) (n : Nat) : exec (.pairLinkAck n) s = .next
    { s with pair := { s.pair with
      out := s.pair.out.filter fun e => e.1 != n
      synced := s.pair.synced ||
        (s.pairActive && s.pair.resync && s.pair.out.any fun e => e.1 == n && endsResync e.2)
      resync := s.pair.resync &&
        !(s.pairActive && s.pair.resync && s.pair.out.any fun e => e.1 == n && endsResync e.2) } } :=
  congrArg Host.Outcome.next (if_neg (by simp [awake, up]))

theorem pairLinkAck_frees (up : s.pair.linkUp = true) (still : s.pair.resync = false) (n : Nat) :
    Does (.pairLinkAck n) s fun u =>
      u = { s with pair := { s.pair with out := s.pair.out.filter fun e => e.1 != n } } := by
  refine ⟨_, exec_pairLinkAck awake up n, ?_⟩
  simp [still]

theorem pairLinkAck_syncs (up : s.pair.linkUp = true) (resync : s.pair.resync = true) (active : s.pair.mode = .active)
    {n : Nat} {c : Resync} (sent : (n, PairMsg.resyncEnd c) ∈ s.pair.out) : Does (.pairLinkAck n) s fun u =>
      u = { s with pair := { s.pair with
        out := s.pair.out.filter fun e => e.1 != n, synced := true, resync := false } } := by
  have done : (s.pairActive && s.pair.resync && s.pair.out.any fun e => e.1 == n && endsResync e.2) = true := by
    simp only [State.pairActive, active, resync, decide_true, Bool.true_and, List.any_eq_true]
    exact ⟨_, sent, by simp [endsResync]⟩
  refine ⟨_, exec_pairLinkAck awake up n, ?_⟩
  simp [done]

/-! ### The handshake (R427) -/

/-- The level that straps a role: first or second, with the ingress shared or not. -/
def roleLevel (second shared : Bool) : BitVec 4 := (if second then 2 else 1) + (if shared then 2 else 0)

omit awake in
theorem roleOf_roleLevel (a b : Bool) : roleOf (roleLevel a b).toNat = some (a, b) := by revert a b; decide

omit awake in
/-- The partner has the other role. -/
theorem State.settleRole_other {h : HelloMsg} {lvl : Nat} {a b : Bool} (own : s.pairRole = some (a, b))
    (partner : roleOf lvl = some (!a, b)) :
    s.settleRole h lvl = s.updPair fun p => { p with roleConflict := false, second := a } := by
  simp [State.settleRole, own, partner]

omit awake in
/-- The partner has the same role: the die serials decide. -/
theorem State.settleRole_same {h : HelloMsg} {lvl : Nat} {a b : Bool} (own : s.pairRole = some (a, b))
    (partner : roleOf lvl = some (a, b)) : s.settleRole h lvl = (s.updPair fun p => { p with
      roleConflict := true, second := decide (h.serial.toNat < s.identity.serial.toNat) }).bbEvent
        0x0E#7 0xFF#8 0x0003#16 (BitVec.ofNat 32 lvl) := by
  simp [State.settleRole, own, partner]

/-- The HELLO has been compared (Table BP.2). -/
def State.compared (s : State) (h : HelloMsg) : State :=
  let s1 := s.updPair fun x => { x with hello := some h, disarmed := (helloMismatch s.ownHello h).isSome }
  match helloMismatch s.ownHello h with
  | some i => s1.bbEvent 0x0E#7 0xFF#8 0x0002#16 (BitVec.ofNat 32 i)
  | none => s1

section
variable (up : s.pair.linkUp = true) (inactive : s.pair.mode ≠ .active) {h : HelloMsg} {a b : Bool}
  (own : s.pairRole = some (a, b))
include up inactive own

omit own in
theorem exec_pairHello (quiet : ((s.compared h).settleRole h (h.straps.getD 2 15).toNat).pair.mode = s.pair.mode) :
    exec (.pairHello h) s = .next ((s.compared h).settleRole h (h.straps.getD 2 15).toNat) := by
  refine congrArg Host.Outcome.next ((if_neg (by simp [awake, up])).trans ?_)
  exact State.resyncIfDue_inactive (s := (s.compared h).settleRole h (h.straps.getD 2 15).toNat)
    (fun e => inactive (quiet.symm.trans e))

theorem pairHello_agrees (level : h.straps.getD 2 15 = roleLevel (!a) b) (match_ : helloMismatch s.ownHello h = none) :
    Does (.pairHello h) s fun u => u = { s with pair := { s.pair with
      hello := some h, disarmed := false, roleConflict := false, second := a } } := by
  have compared : s.compared h = s.updPair fun x => { x with hello := some h, disarmed := false } := by
    simp [State.compared, match_]
  have settled := State.settleRole_other (s := s.compared h) (h := h) (lvl := (h.straps.getD 2 15).toNat)
    (by rw [compared]; exact own) (by rw [level]; exact roleOf_roleLevel (!a) b)
  rw [compared] at settled
  refine ⟨_, exec_pairHello awake up inactive ?_, ?_⟩ <;> rw [compared, settled] <;> rfl

theorem pairHello_conflicts (level : h.straps.getD 2 15 = roleLevel a b) (match_ : helloMismatch s.ownHello h = none) :
    Does (.pairHello h) s fun u => u = { s with
      bb := u.bb
      pair := { s.pair with hello := some h, disarmed := false, roleConflict := true
                            second := decide (h.serial.toNat < s.identity.serial.toNat) } } := by
  have compared : s.compared h = s.updPair fun x => { x with hello := some h, disarmed := false } := by
    simp [State.compared, match_]
  have settled := State.settleRole_same (s := s.compared h) (h := h) (lvl := (h.straps.getD 2 15).toNat)
    (by rw [compared]; exact own) (by rw [level]; exact roleOf_roleLevel a b)
  rw [compared] at settled
  refine ⟨_, exec_pairHello awake up inactive ?_, ?_⟩ <;> rw [compared, settled] <;> rfl

/-- A partner with another recipe disarms the engine (R427, Table BB.2). -/
theorem pairHello_disarms (recipe : h.recipeId ≠ s.sys.recipeId) (writes : s.bbWrites = true)
    (room : s.bb.queue.length < 32) (level : h.straps.getD 2 15 = roleLevel (!a) b) : Does (.pairHello h) s fun u =>
      u = { s with bb := u.bb, pair := { s.pair with
        hello := some h, disarmed := true, roleConflict := false, second := a } } ∧
      u.bb.queue = s.bb.queue ++ [⟨0, 0x0E, s.bb.lostPending, 0xFF, 2, 1⟩] := by
  have differs : helloMismatch s.ownHello h = some 1 := if_pos (.inl recipe.symm)
  have compared : s.compared h = (s.updPair fun x => { x with hello := some h, disarmed := true }).bbEvent
      0x0E#7 0xFF#8 0x0002#16 1 := by
    simp [State.compared, differs]
  have settled := State.settleRole_other (s := s.compared h) (h := h) (lvl := (h.straps.getD 2 15).toNat)
    (by rw [compared]; exact own) (by rw [level]; exact roleOf_roleLevel (!a) b)
  rw [compared] at settled
  refine ⟨_, exec_pairHello awake up inactive ?_, ?_⟩
  · rw [compared, settled]
    rfl
  · have event := State.bbEvent_on (s := s.updPair fun x => { x with hello := some h, disarmed := true }) writes
      0x0E#7 0xFF#8 0x0002#16 1
    rw [compared, settled]
    exact ⟨rfl, (congrArg BlackBox.queue event).trans (congrArg BlackBox.queue (BlackBox.push_room room ..))⟩

end

/-! ### Reservations and marks (R429, R430) -/

theorem exec_pairReserve (up : s.pair.linkUp = true) (mode : s.pair.mode = .standby) (room : s.pair.outSize < 2000000)
    (last : Word) : exec (.pairReserve last) s = .next
      { s with pair := { s.pair.sends (.reserveAck last) with resEnd := last } } := by
  have sent := State.pairSend_short (s := s.updPair fun x => { x with resEnd := last }) (m := .reserveAck last)
    up room rfl
  exact congrArg Host.Outcome.next ((if_pos (State.standby_of awake up mode)).trans sent)

omit awake in
theorem exec_pairReserveAck_unasked (unasked : s.pair.asked = false) (last : Word) :
    exec (.pairReserveAck last) s = .next s := congrArg Host.Outcome.next (if_neg (by simp [unasked]))

theorem exec_pairReserveAck_takes (up : s.pair.linkUp = true) (active : s.pair.mode = .active)
    (asked : s.pair.asked = true) {last : Word} (long : 128 ≤ (last - s.former.seqNext + 1).toInt) :
    exec (.pairReserveAck last) s = .next { s with pair := { s.pair with blockEnd := last, asked := false } } := by
  have enough : ¬ (last - s.former.seqNext + 1).toInt < 128 := by omega
  refine congrArg Host.Outcome.next ((if_pos (by simp [awake, State.pairActive, active, up, asked])).trans ?_)
  refine if_neg fun asks => ?_
  simp only [Bool.and_eq_true, decide_eq_true_eq] at asks
  obtain ⟨⟨-, short⟩, -⟩ := asks
  exact enough short

/-- A mark of the active engine goes out; another engine sends none. -/
theorem exec_markPeriod {c : Instr} {m : PairMsg} (e : exec c s = .next (if s.pairAwake then s.mirror m else s))
    (short : msgSize m = 16) :
    (s.pair.mode ≠ .active → exec c s = .next s) ∧
    (s.pair.mode = .active → s.pair.linkUp = true → s.pair.outSize < 2000000 →
      exec c s = .next { s with pair := s.pair.sends m }) := by
  rw [e, if_pos awake]
  refine ⟨fun inactive => congrArg _ (State.mirror_inactive inactive m), fun active up room => ?_⟩
  rw [State.mirror_active active, State.pairSend_short up room short]

/-! ### Trowel words (R439) -/

theorem exec_pairTrowelMsg_held (up : s.pair.linkUp = true) (room : s.pair.words.length < 8) (v : Word) :
    exec (.pairTrowelMsg v) s = .next { s with pair := { s.pair with words := s.pair.words ++ [v] } } :=
  congrArg Host.Outcome.next (if_pos (by simp [awake, up, room]))

omit awake in
theorem exec_pairTrowelMsg_full (full : 8 ≤ s.pair.words.length) (v : Word) : exec (.pairTrowelMsg v) s = .next s :=
  congrArg Host.Outcome.next (if_neg (by simp [full]))

theorem exec_pairTxMsgWrite_sends {t : TrowelId} (ht : Takes s t Fld.pairTxMsg) (hs : s.shadow = [])
    (up : s.pair.linkUp = true) (room : s.pair.outSize < 2000000) (v : Word) :
    exec (.pairTxMsgWrite t v) s = .next { s with pair := s.pair.sends (.trowelMsg v) } := by
  have sent : s.pairNow Fld.pairTxMsg v = { s with pair := s.pair.sends (.trowelMsg v) } :=
    (if_pos awake).trans (State.pairSend_short up room rfl)
  rw [exec_pairTxMsgWrite_taken ht, sent, State.applyStopped_nil (by exact hs)]

omit awake in
theorem exec_pairRxAckWrite_drops {t : TrowelId} (ht : Takes s t Fld.pairRxAck) (hs : s.shadow = []) {v : Word}
    (hv : v.getLsbD 0 = true) :
    exec (.pairRxAckWrite t v) s = .next { s with pair := { s.pair with words := s.pair.words.tail } } := by
  have dropped : s.pairNow Fld.pairRxAck (v &&& 1) = { s with pair := { s.pair with words := s.pair.words.tail } } :=
    if_pos ((getLsbD_and_one v).trans hv)
  rw [exec_pairRxAckWrite_taken ht, dropped, State.applyStopped_nil (by exact hs)]

end

/-- Settles O47: the link, the handshake, the reservations, the marks and the trowels' words, each by its own lemma. -/
theorem pairLink : Obligations.PairLink := by
  unfold Obligations.PairLink
  intro s t h v last n x sent awake room
  obtain ⟨senseQuiet, senseSent⟩ := exec_markPeriod awake (c := .senseMarkPeriod) rfl rfl
  obtain ⟨timeQuiet, timeSent⟩ := exec_markPeriod awake (c := .timeMarkPeriod) rfl rfl
  refine ⟨rfl, fun down inactive => ⟨_, exec_pairLinkUp_greets awake down inactive, rfl⟩, fun up => ?_,
    fun ht hs hv => ⟨_, exec_pairRxAckWrite_drops ht hs hv, rfl⟩⟩
  refine ⟨exec_pairLinkUp_again up, pairLinkDown_counts awake up, fun still => pairLinkAck_frees awake up still n,
    fun resync active ⟨c, sent⟩ => pairLinkAck_syncs awake up resync active sent, fun inactive a b own => ?_,
    fun standby => ?_, fun active => ?_, fun held => ⟨_, exec_pairTrowelMsg_held awake up held v, rfl⟩,
    fun full => exec_pairTrowelMsg_full full v, fun ht hs => ⟨_, exec_pairTxMsgWrite_sends awake ht hs up room v, rfl⟩⟩
  · have other : (if a then 1 else 2) + (if b then 2 else 0) = roleLevel (!a) b := by cases a <;> rfl
    rw [other]
    exact ⟨pairHello_agrees awake up inactive own, pairHello_conflicts awake up inactive own,
      pairHello_disarms awake up inactive own⟩
  · have inactive : x.mode ≠ .active := by rw [standby]; decide
    exact ⟨⟨_, exec_pairReserve awake up standby room last, rfl⟩, senseQuiet inactive, timeQuiet inactive⟩
  · exact ⟨fun asked long => ⟨_, exec_pairReserveAck_takes awake up active asked long, rfl⟩,
      fun unasked => exec_pairReserveAck_unasked unasked last, ⟨_, senseSent active up room, rfl⟩,
      ⟨_, timeSent active up room, rfl⟩⟩

end
end Sys2Proof.Machine
end

section
/-! SUPPORT. What a standby takes from its partner: decisions, records, acknowledgements, marks, and a resync (R428, R431). -/

namespace Sys2Proof.Machine

/-! ### Runs of writes -/

section
variable {α : Type} {s : State}

/-- After a run of field writes, a field holds what each of its writes gives, or, with none, what it held. -/
theorem State.getF_foldl_setF {a : α → Nat} {x : α → Word} {l : List α} {b : Nat} {v : Word}
    (gives : ∀ e ∈ l, a e = b → x e = v) (h : (∃ e ∈ l, a e = b) ∨ s.getF b = v) :
    (l.foldl (fun s e => s.setF (a e) (x e)) s).getF b = v := by
  induction l generalizing s with
  | nil => exact h.resolve_left (by simp)
  | cons e l ih =>
    refine ih (fun f hf => gives f (List.mem_cons_of_mem _ hf)) ?_
    dsimp only
    by_cases hb : a e = b
    · right
      rw [hb, State.getF_setF_self]
      exact gives e List.mem_cons_self hb
    · rw [State.getF_setF_of_ne _ (Ne.symm hb)]
      simpa [hb] using h

/-- The same of a run of writes of the verdict store. -/
theorem State.storeAt_foldl_storeWrite {a : α → BitVec 14} {f : α → Word} {w : α → BitVec 16} {l : List α} {b : BitVec 14}
    {v : BitVec 16} (gives : ∀ e ∈ l, a e = b → w e = v) (h : (∃ e ∈ l, a e = b) ∨ s.storeAt b = v) :
    (l.foldl (fun s e => s.storeWrite (a e) (f e) (w e)) s).storeAt b = v := by
  induction l generalizing s with
  | nil => exact h.resolve_left (by simp)
  | cons e l ih =>
    obtain ⟨-, here, others, -⟩ := s.storeWrite_does (a e) (f e) (w e)
    refine ih (fun g hg => gives g (List.mem_cons_of_mem _ hg)) ?_
    by_cases hb : a e = b
    · right
      rw [← hb, here]
      exact gives e List.mem_cons_self hb
    · rw [others b (Ne.symm hb)]
      simpa [hb] using h

end

section
variable {s : State}

/-! ### Decisions and records -/

theorem State.linkMirrors_none (h : s.getF Fld.recLinks = 0) (l : LinkId) : s.linkMirrors l = false := by
  cases l <;> simp [State.linkMirrors, State.linkTakes, State.getB, h]

theorem State.toLinks_none {takes : State → LinkId → Bool} (h : ∀ l, takes s l = false) (r : List Byte) :
    s.toLinks takes r = s := by
  simp [State.toLinks, h]

theorem State.toLinks_usbOnly {takes : State → LinkId → Bool} (usb : takes s .usb = true) (ser : takes s .ser = false)
    (gw : takes s .gw = false) (r : List Byte) : s.toLinks takes r = s.usbPush r := by
  simp [State.toLinks, usb, ser, gw]

theorem State.storeWrite_eq (s : State) (a : BitVec 14) (f : Word) (w : BitVec 16) : s.storeWrite a f w =
    { s with vs := (s.storeWrite a f w).vs, fields := (s.storeWrite a f w).fields } := by
  unfold State.storeWrite
  dsimp only
  generalize (if s.vs.backlogged then _ else _ : Verdict) = v
  rw [State.backlogEdge_eq]

/-- The state of a standby that has taken a decision's word and record, before its links (R428). -/
def State.decisionTaken (s : State) (addr : BitVec 14) (word : BitVec 16) (r : List Byte) : State :=
  let s1 := s.storeWrite addr (recFidx r) word
  { s1 with
    former := { s1.former with held := s1.former.held.filter fun q =>
      !(recType q == 1 && recCtx q == recCtx r && recFidx q == recFidx r) }
    pair := { s1.pair with lastMirrored := recSeq r } }

theorem State.standby_mode (h : s.standby = true) : s.pair.mode = .standby := by
  simp only [State.standby, Bool.and_eq_true, decide_eq_true_eq] at h
  exact h.2

theorem pairDecision_takes (standby : s.standby = true) (none : s.getF Fld.recLinks = 0) (addr : BitVec 14)
    (word : BitVec 16) (r : List Byte) : Does (.pairDecision addr word r) s fun u =>
      u = { s with
        vs := u.vs, fields := u.fields, pair := { s.pair with lastMirrored := recSeq r }
        former := { s.former with held := s.former.held.filter fun q =>
          !(recType q == 1 && recCtx q == recCtx r && recFidx q == recFidx r) } } ∧
      u.storeAt addr = word ∧ u.storeOwner addr = recFidx r ∧ ∀ b, b ≠ addr → u.storeAt b = s.storeAt b := by
  obtain ⟨-, here, others, fields⟩ := s.storeWrite_does addr (recFidx r) word
  have unlinked : (s.decisionTaken addr word r).getF Fld.recLinks = 0 := (fields _ (by decide)).trans none
  have taken : exec (.pairDecision addr word r) s = .next (s.decisionTaken addr word r) :=
    congrArg Host.Outcome.next ((if_neg (by simp [standby])).trans (State.toLinks_none (State.linkMirrors_none unlinked) r))
  refine ⟨_, taken, ?_, here, (s.storeWrite_vs addr (recFidx r) word).2.2, others⟩
  have written := s.storeWrite_eq addr (recFidx r) word
  unfold State.decisionTaken
  dsimp only
  rw [written]

theorem pairRecord_queues (standby : s.standby = true) (usb : s.getF Fld.recLinks = 1)
    (on : s.enabledAt Fld.usbEnable = true) {r : List Byte} (room : queueFull s.usb.queue r.length = false) :
    Does (.pairRecord r) s fun u => u = { s with
      pair := { s.pair with lastMirrored := recSeq r }, usb := { s.usb with queue := s.usb.queue ++ [⟨r, false⟩] } } := by
  have bit (i : Nat) : s.getB Fld.recLinks i = (1 : Word).getLsbD i := by rw [State.getB, usb]
  have pushes : ∀ u : State, u = (s.updPair fun x => { x with lastMirrored := recSeq r }) →
      u.toLinks State.linkMirrors r = u.usbPush r := by
    rintro u rfl
    refine State.toLinks_usbOnly ?_ ?_ ?_ r
    · exact (congrArg₂ and (bit 0) on).trans rfl
    · exact (congrArg (· && s.serOn) (bit 1)).trans rfl
    · exact (congrArg (· && s.getB Fld.morGwNode 6 && s.anyMor) (bit 2)).trans rfl
  have quiet : s.usbStreams = false := by
    simp [State.usbStreams, State.activeLevel, State.standby_mode standby]
  refine ⟨_, congrArg Host.Outcome.next (if_neg (by simp [standby])), ?_⟩
  rw [pushes _ rfl, State.usbPush, State.usbRoom_of_room (by exact room), State.usbStart_idle (by exact quiet)]
  rfl

end
end Sys2Proof.Machine
end

section
/-! SUPPORT. The marks of the partner in a standby, and the resync (R186, R222, R428, R431). -/

namespace Sys2Proof.Machine

/-! ### Runs of field writes -/

/-- Nothing but stored fields has changed. -/
def FieldsOnly (s u : State) : Prop := u = { s with fields := u.fields }

section
variable {s u : State}

theorem FieldsOnly.refl (s : State) : FieldsOnly s s := rfl

theorem FieldsOnly.setF (h : FieldsOnly s u) {a : Nat} {x : Word} : FieldsOnly s (u.setF a x) := by
  unfold FieldsOnly at h
  generalize u.fields = f at h
  subst h
  rfl

theorem FieldsOnly.foldl {α : Type} {a : α → Nat} {x : α → Word} {l : List α} (h : FieldsOnly s u) :
    FieldsOnly s (l.foldl (fun s e => s.setF (a e) (x e)) u) := by
  induction l generalizing u with
  | nil => exact h
  | cons e l ih => exact ih h.setF

end

section
variable {s : State}

/-! ### Marks of the light -/

/-- The fields of the light that a mark writes. -/
def State.markFields (s : State) (m : LightMark) : State :=
  let s1 := (List.range 8).foldl (fun s g => s.setN (Fld.lightCrvLvl g) (m.levels.getD g 0)) s
  let s2 := (List.range 4).foldl (fun s i => s.setF (Fld.lightFailed i) (m.failed.getD i 0)) s1
  ((((s2.setN Fld.lightDerate m.derate).setF Fld.lightTempFilt (tfBits m.tf)).setF Fld.lightKilled m.killed).setF
    Fld.lightPinFail m.pinFail).setF Fld.lightPinFailLn m.pinFailLn

theorem State.markFields_only (s : State) (m : LightMark) : FieldsOnly s (s.markFields m) :=
  .setF (.setF (.setF (.setF (.setF (.foldl (.foldl (.refl s)))))))

theorem State.markFields_killed (s : State) (m : LightMark) : (s.markFields m).getF Fld.lightKilled = m.killed := by
  unfold State.markFields
  rw [State.getF_setF_of_ne _ (by decide), State.getF_setF_of_ne _ (by decide), State.getF_setF_self]

theorem State.markFields_pinFail (s : State) (m : LightMark) : (s.markFields m).getF Fld.lightPinFail = m.pinFail := by
  unfold State.markFields
  rw [State.getF_setF_of_ne _ (by decide), State.getF_setF_self]

theorem State.markFields_levels (s : State) (m : LightMark) (g : GroupId) :
    (s.markFields m).getF (Fld.lightCrvLvl g.val) = BitVec.ofNat 32 (m.levels.getD g.val 0) := by
  have apart : Fld.lightCrvLvl g.val ≠ Fld.lightPinFailLn ∧ Fld.lightCrvLvl g.val ≠ Fld.lightPinFail ∧
      Fld.lightCrvLvl g.val ≠ Fld.lightKilled ∧ Fld.lightCrvLvl g.val ≠ Fld.lightTempFilt ∧
      Fld.lightCrvLvl g.val ≠ Fld.lightDerate ∧ ∀ i ∈ List.range 4, Fld.lightFailed i ≠ Fld.lightCrvLvl g.val := by
    revert g
    decide
  obtain ⟨pinLn, pin, killed, temp, derate, failed⟩ := apart
  unfold State.markFields
  rw [State.getF_setF_of_ne _ pinLn, State.getF_setF_of_ne _ pin, State.getF_setF_of_ne _ killed,
    State.getF_setF_of_ne _ temp, State.setN, State.getF_setF_of_ne _ derate]
  refine State.getF_foldl_setF (fun i hi e => absurd e (failed i hi)) (.inr ?_)
  refine State.getF_foldl_setF (a := Fld.lightCrvLvl) (x := fun i => BitVec.ofNat 32 (m.levels.getD i 0))
    (fun i _ e => ?_) (.inl ⟨g.val, List.mem_range.mpr g.isLt, rfl⟩)
  rw [show i = g.val from Nat.add_left_cancel e]

theorem State.markFault_low (s : State) (m : LightMark) :
    ((∃ w ∈ m.failed, w ≠ 0) ∨ m.pinFail ≠ 0 ∨ m.pinFailLn ≠ 0 → (s.markFault m).balls.ltFaultLow = true) ∧
    (s.balls.ltFaultLow = true → (s.markFault m).balls.ltFaultLow = true) := by
  unfold State.markFault
  constructor
  · intro h
    rw [if_pos (by simpa [List.any_eq_true, or_assoc] using h)]
    rfl
  · intro low
    split
    · rfl
    · exact low

theorem State.markFault_eq (s : State) (m : LightMark) : s.markFault m =
    { s with balls := { s.balls with ltFaultLow := (s.markFault m).balls.ltFaultLow } } := by
  unfold State.markFault
  split <;> rfl

/-- The light `x` after a mark (R186), with a scan of `n` entries; where LIGHT is off, stage and course are those of `y`. -/
def Light.marked (x y : Light) (on : Bool) (n : Nat) (m : LightMark) : Light :=
  { x with
    stage := if !on then y.stage else if m.wait then .wait else .active
    course := if !on then y.course else if m.wait then none
      else some ⟨m.entry, m.line, m.len, m.blank, m.disch, m.dark, m.slot⟩
    courseFrom := m.at_
    nextEntry := if !m.wait && decide (m.entry + 1 < n) then m.entry + 1 else 0
    pulses := Vector.replicate 8 .none
    armed := Vector.ofFn fun g : GroupId => m.armed.getD g.val 0
    tf := m.tf, derateFlag := m.flag, derateUsed := m.derate, darkCount := m.darkCount }

/-- The state `u` with LT_FAULT_N and the light of a mark. -/
def State.withMark (u : State) (on : Bool) (m : LightMark) : State :=
  { u.markFault m with light := (u.markFault m).light.marked u.light on u.scanLen m }

theorem State.takeLight_eq (s : State) (m : LightMark) : s.takeLight m = { s with
    fields := (s.markFields m).fields
    light := s.light.marked s.light (s.enabledAt Fld.lightEnable) (s.markFields m).scanLen m
    balls := { s.balls with ltFaultLow := (s.markFault m).balls.ltFaultLow } } := by
  have marked : s.takeLight m = (s.markFields m).withMark (s.enabledAt Fld.lightEnable) m := rfl
  have only := s.markFields_only m
  rw [marked]
  generalize s.markFields m = u at only ⊢
  unfold FieldsOnly at only
  generalize u.fields = f at only ⊢
  subst only
  unfold State.withMark State.markFault
  split <;> rfl

/-! ### Marks of the converters -/

theorem Adc.takeMarks_eq (x : Adc) (l : List AccumMark) : x.takeMarks l = { x with acc := (x.takeMarks l).acc } := rfl

theorem Adc.takeMarks_acc (x : Adc) {l : List AccumMark} {i : Fin 16} {k : AccumMark} (h : l[i.val]? = some k) :
    (x.takeMarks l).acc[i] = ⟨k.sum, k.count, k.min, k.max, k.sat, k.out⟩ := by
  simp [Adc.takeMarks, h]

end
end Sys2Proof.Machine
end

section
/-! SUPPORT. The messages of the partner as commands in a standby, and in an engine that is none (R428, R431). -/

namespace Sys2Proof.Machine

section
variable {s : State}

/-! ### An engine that is no standby -/

theorem State.notStandby_takesNone (h : s.standby = false) (addr : BitVec 14) (word : BitVec 16) (r : List Byte)
    (l : LinkId) (n : Word) (drop : Option Word) (m : LightMark) (a : SenseMark) (c : Resync) :
    exec (.pairDecision addr word r) s = .next s ∧ exec (.pairRecord r) s = .next s ∧
    exec (.pairAckMark l n drop) s = .next s ∧ exec (.pairLightMark m) s = .next s ∧
    exec (.pairSenseMark a) s = .next s ∧ exec .pairResyncStart s = .next s ∧ exec (.pairResyncEnd c) s = .next s := by
  have off : (!s.standby) = true := by rw [h]; rfl
  have on : ¬ s.standby = true := by rw [h]; decide
  have none : (!(s.standby && s.pair.resync)) = true := by rw [h]; rfl
  exact ⟨congrArg _ (if_pos off), congrArg _ (if_pos off), congrArg _ (if_pos off), congrArg _ (if_neg on),
    congrArg _ (if_neg on), congrArg _ (if_neg on), congrArg _ (if_pos none)⟩

/-! ### Acknowledgements and marks -/

section
variable (standby : s.standby = true)
include standby

theorem exec_pairAckMark (n : Word) (drop : Option Word) :
    exec (.pairAckMark .usb n drop) s = .next
      { s with usb := { s.usb with queue := s.usb.queue.filter fun e => !ackTakes n drop (recSeq e.bytes) } } ∧
    exec (.pairAckMark .ser n drop) s = .next
      { s with ser := { s.ser with queue := s.ser.queue.filter fun e => !ackTakes n drop (recSeq e.rec2) } } ∧
    exec (.pairAckMark .gw n drop) s = .next
      { s with fab := { s.fab with gw := s.fab.gw.filter fun e => !ackTakes n drop (recSeq e.bytes) } } := by
  have on : ¬ (!s.standby) = true := by rw [standby]; decide
  exact ⟨congrArg _ (if_neg on), congrArg _ (if_neg on), congrArg _ (if_neg on)⟩

theorem pairLightMark_takes (m : LightMark) : Does (.pairLightMark m) s fun u =>
    u = { s with fields := u.fields, light := u.light, balls := { s.balls with ltFaultLow := u.balls.ltFaultLow } } ∧
    ((∃ w ∈ m.failed, w ≠ 0) ∨ m.pinFail ≠ 0 ∨ m.pinFailLn ≠ 0 → u.balls.ltFaultLow = true) ∧
    (s.balls.ltFaultLow = true → u.balls.ltFaultLow = true) ∧ u.light.courseFrom = m.at_ ∧
    (s.enabledAt Fld.lightEnable = true → m.wait = true → u.light.stage = .wait ∧ u.light.course = none) ∧
    (s.enabledAt Fld.lightEnable = true → m.wait = false → u.light.stage = .active ∧
      u.light.course = some ⟨m.entry, m.line, m.len, m.blank, m.disch, m.dark, m.slot⟩) ∧
    u.light.tf = m.tf ∧ u.light.darkCount = m.darkCount ∧ u.light.derateFlag = m.flag ∧
    u.getF Fld.lightKilled = m.killed ∧ u.getF Fld.lightPinFail = m.pinFail ∧
    (∀ g : GroupId, u.light.armed[g] = m.armed.getD g.val 0 ∧
      u.getN (Fld.lightCrvLvl g.val) = m.levels.getD g.val 0 % 2 ^ 32) := by
  have eq := s.takeLight_eq m
  have fields (b : Nat) : (s.takeLight m).getF b = (s.markFields m).getF b := State.getF_of_fields (by rw [eq]) b
  have light : (s.takeLight m).light =
      s.light.marked s.light (s.enabledAt Fld.lightEnable) (s.markFields m).scanLen m := by rw [eq]
  have balls : (s.takeLight m).balls.ltFaultLow = (s.markFault m).balls.ltFaultLow := by rw [eq]
  obtain ⟨lowers, low⟩ := s.markFault_low m
  refine ⟨s.takeLight m, congrArg Host.Outcome.next (if_pos standby), by dsimp only; rw [eq], ?_⟩
  rw [balls, light, fields, fields, s.markFields_killed, s.markFields_pinFail]
  refine ⟨lowers, low, rfl, fun on waits => ?_, fun on runs => ?_, rfl, rfl, rfl, rfl, rfl, fun g => ?_⟩
  · simp [Light.marked, on, waits]
  · simp [Light.marked, on, runs]
  · rw [State.getN, fields, s.markFields_levels, BitVec.toNat_ofNat]
    simp [Light.marked]

theorem pairSenseMark_takes (a : SenseMark) : Does (.pairSenseMark a) s fun u =>
    u = { s with adcA := u.adcA, adcB := u.adcB, amb := u.amb } ∧
    u.adcA = { s.adcA with acc := u.adcA.acc } ∧ u.adcB = { s.adcB with acc := u.adcB.acc } ∧
    u.amb.age = a.age ∧ u.amb.stale = a.stale ∧ u.amb.freshCount = a.freshCount ∧
    ∀ (i : Fin 16) (k : AccumMark),
      (a.accA[i.val]? = some k → u.adcA.acc[i] = ⟨k.sum, k.count, k.min, k.max, k.sat, k.out⟩) ∧
      (a.accB[i.val]? = some k → u.adcB.acc[i] = ⟨k.sum, k.count, k.min, k.max, k.sat, k.out⟩) :=
  ⟨_, congrArg Host.Outcome.next (if_pos standby), rfl, rfl, rfl, rfl, rfl, rfl, fun _ _ =>
    ⟨s.adcA.takeMarks_acc, s.adcB.takeMarks_acc⟩⟩

/-! ### The resync -/

theorem pairResyncStart_unsyncs : Does .pairResyncStart s fun u =>
    u = { s with fields := u.fields, pair := { s.pair with resync := true, synced := false } } ∧
    Counted s u Fld.pairResyncCount [] :=
  ⟨_, congrArg Host.Outcome.next (if_pos standby), rfl, State.count16_counted (s.updPair _) _⟩

end

theorem exec_pairResyncEnd_none (h : s.pair.resync = false) (c : Resync) : exec (.pairResyncEnd c) s = .next s :=
  congrArg Host.Outcome.next (if_pos (by simp [h]))

/-- An address that no entry of the store names reads 0 and has no stale entry (R431). -/
theorem State.storeAt_of_unlisted {b : BitVec 14} (h : b.toNat ∉ s.resyncContent.store.map (·.1)) : s.storeAt b = 0 := by
  refine sparseGet_of_notMem _ _ _ fun e he hb => h ?_
  simp only [State.resyncContent, List.map_append, List.mem_append, List.map_map, List.mem_map]
  exact .inl ⟨e, he, hb⟩

/-- The store after a resync: the entries of the content, and 0 elsewhere. -/
theorem State.takeStore_reads {l : List (Nat × BitVec 16 × Word)} (once : (l.map (·.1)).Nodup)
    (inside : ∀ e ∈ l, e.1 < 16384) :
    (∀ e ∈ l, (s.takeStore l).storeAt (BitVec.ofNat 14 e.1) = e.2.1) ∧
    (∀ b : BitVec 14, (∀ e ∈ l, e.1 ≠ b.toNat) → (s.takeStore l).storeAt b = 0) := by
  have value {e : Nat × BitVec 16 × Word} (he : e ∈ l) : (BitVec.ofNat 14 e.1).toNat = e.1 := by
    rw [BitVec.toNat_ofNat, Nat.mod_eq_of_lt (inside e he)]
  constructor
  · intro e he
    refine State.storeAt_foldl_storeWrite (fun g hg same => ?_) (.inl ⟨e, he, rfl⟩)
    have key : g.1 = e.1 := by rw [← value hg, same, value he]
    rw [List.inj_on_of_nodup_map once hg he key]
  · intro b unlisted
    have away : ∀ e ∈ l, BitVec.ofNat 14 e.1 ≠ b := fun e he hb => unlisted e he (by rw [← value he, hb])
    refine State.storeAt_foldl_storeWrite (fun g hg same => absurd same (away g hg)) (.inr ?_)
    refine State.storeAt_foldl_storeWrite (fun _ _ _ => rfl) ?_
    by_cases listed : b.toNat ∈ s.resyncContent.store.map (·.1)
    · refine .inl ⟨b.toNat, List.mem_filter.mpr ⟨listed, ?_⟩, by simp⟩
      simp only [Bool.not_eq_true', List.any_eq_false, beq_iff_eq]
      exact unlisted
    · exact .inr (State.storeAt_of_unlisted listed)

theorem pairResyncEnd_syncs (standby : s.standby = true) (resync : s.pair.resync = true) {c : Resync}
    (once : (c.store.map (·.1)).Nodup) (inside : ∀ e ∈ c.store, e.1 < 16384) (none : s.getF Fld.recLinks = 0) :
    Does (.pairResyncEnd c) s fun u =>
      u.pair = { s.pair with resEnd := c.resEnd, lastMirrored := c.last, resync := false, synced := true } ∧
      u.usb.queue = [] ∧ u.ser.queue = [] ∧ u.fab.gw = [] ∧ CoreFrame s u ∧ u.trowels = s.trowels ∧
      (∀ e ∈ c.store, u.storeAt (BitVec.ofNat 14 e.1) = e.2.1) ∧
      (∀ b : BitVec 14, (∀ e ∈ c.store, e.1 ≠ b.toNat) → u.storeAt b = 0) := by
  have unlinked := State.linkMirrors_none none
  have store : (((s.takeStore c.store).takeLight c.light).takeSense c.sense).vs = (s.takeStore c.store).vs := by
    simp
  obtain ⟨listed, rest⟩ := s.takeStore_reads once inside
  refine ⟨_, congrArg Host.Outcome.next (if_neg (by simp [standby, resync])), ?_⟩
  refine ⟨by simp, by simp [unlinked], by simp [unlinked], by simp [unlinked], by constructor <;> simp, by simp, ?_, ?_⟩
  · simpa only [State.storeAt, store] using listed
  · simpa only [State.storeAt, store] using rest

/-- Settles O48: what each message does in a standby, and that it does nothing elsewhere. -/
theorem pairMirroring : Obligations.PairMirroring := by
  unfold Obligations.PairMirroring
  intro s addr word r l n drop m a c x stays
  have kept (e : Word) : (!ackTakes n drop e) = stays e := by cases drop <;> rfl
  refine ⟨fun off => State.notStandby_takesNone off addr word r l n drop m a c, fun standby => ?_⟩
  obtain ⟨usb, ser, gw⟩ := exec_pairAckMark standby n drop
  simp only [kept] at usb ser gw
  exact ⟨fun none => pairDecision_takes standby none addr word r,
    fun links on room => pairRecord_queues standby links on room, ⟨_, usb, rfl⟩, ⟨_, ser, rfl⟩, ⟨_, gw, rfl⟩,
    pairLightMark_takes standby m, pairSenseMark_takes standby a, pairResyncStart_unsyncs standby,
    fun off => exec_pairResyncEnd_none off c,
    fun resync once inside none => pairResyncEnd_syncs standby resync once inside none⟩

end
end Sys2Proof.Machine
end
